-- ==== Sys2Proof/Word.lean ====
section
/-!
DEFINITION. The words of the machine: bytes, 32-bit register words and the byte strings that dictionary values, frames
and lines are written in (R90: every value is encoded little-endian).
-/
namespace Sys2Proof

/-- One byte. -/
abbrev Byte := BitVec 8

/-- One 32-bit register word (R60). -/
abbrev Word := BitVec 32

/-- A string of bytes, first byte first. -/
abbrev Bytes := List Byte

/-- The bytes of a 64-byte line of which some may be missing: entry k is byte k, `none` where it is not valid. A full
line has every entry `some` (R162, R165, R328). -/
abbrev PLine := List (Option Byte)

end Sys2Proof
end

