-- ==== Sys2Proof/Syntax.lean ====
section
/-!
DEFINITION. The commands of the block: one constructor for each row of the opcode table (spec/opcode_table.json), with the
operands that the spec gives it, and the types those operands are written in.
-/
namespace Sys2Proof

/-- What the DRAM decoder finds in a line read (R273 to R276): good, corrected in a device of a rank, or uncorrectable. -/
inductive EccResult where
  | good | corrected (dev rank : Nat) | uncorrectable
deriving DecidableEq, Repr

/-- What a read finds in the SRAM arrays on its way (R163, R222, R223): nothing; an error in byte k of a pending line; an error in the
Tree cache's tag or data, `stateLost` where the tag's state cannot be read. -/
inductive SramErr where
  | good | weltCorrected (k : Fin 64) | weltUncorrectable (k : Fin 64) | treeCorrected | treeUncorrectable (stateLost : Bool)
deriving DecidableEq, Repr

/-- How an SMBus read ends (R498): a value, a PEC mismatch, a NACK of the address, or clock stretching beyond 25 ms. -/
inductive SmbAnswer where
  | value (v : Nat) | pec | nack | stretch
deriving DecidableEq, Repr

/-- The STATE word of a stripe journal entry (R365). -/
inductive JrnSt where
  | free | opened | committed | checkpointed
deriving DecidableEq, Repr

/-- An entry of the stripe journal (R365): state, KIND (0 DATA, 1 RELOCATE, 2 POOL_DUMP), set, stripe, ownership epoch,
journal sequence of its first change (its name) and of its last, missing columns, writer, and chunks as home chunk number
and granule-valid mask. `twinHas` says that the twin has acknowledged its last change. -/
structure JournalEntry where
  state : JrnSt
  kind : Nat
  set : Nat
  stripe : Nat
  epoch : Nat
  seq : Nat
  upd : Nat
  missing : Nat
  writer : Bool
  chunks : List (Nat × Nat)
  twinHas : Bool
deriving DecidableEq, Repr

/-- A HELLO frame (R326, R344, R349, R618): the role code, serial number, protocol version, CINCH_CAP, ownership epoch, the LD
table (LD, size, group, first home segment), the timestamp count, the next mirror sequence, and the zones whose grant the twin
has accepted (R346). -/
structure HelloFrame where
  role : Nat
  serial : Nat
  major : Nat
  minor : Nat
  cap : Nat
  epoch : Nat
  table : List (Nat × (Nat × (Nat × Nat)))
  count : Nat
  nextSeq : Nat
  accepted : List Nat
deriving DecidableEq, Repr

/-- A HEARTBEAT frame (R54, R55, R334): the timestamp and the phase marker, which says whether the sender's clock is SYNTHETIC, the role, the WARN and COMMIT flags with the trigger and the early
flag, the epoch, and an acknowledgement of mirror frames. -/
structure HeartbeatFrame where
  count : Nat
  phase : Nat
  synth : Bool
  role : Nat
  warn : Bool
  commit : Bool
  trigger : Nat
  early : Bool
  epoch : Nat
  ack : Option Nat
deriving DecidableEq, Repr

/-- The partners whose conduct is counted (R497). -/
inductive Partner where
  | ld (n : Nat) | port (p : Nat) | twin | peer (addr : Nat) | drive (slot : Nat) | tackNode (n : Nat)
  | smb0 | smb1 (node : Nat)
deriving DecidableEq, Repr

/-- How a drive command ends (R375, R383): done; an unrecovered read error at a sector of the unit; a write that failed; a
bad completion entry (violation cause 2); data shorter than requested or beyond the PRP list (3), with the sector;
Identify data that changed (4); a malformed TLP (5); or the own reservation key gone (R376). -/
inductive DriveResult where
  | done | readError (sector : Nat) | writeError | badEntry | shortData (sector : Nat) | identifyChanged | malformedTlp
  | keyGone
deriving DecidableEq, Repr

/-- A drive as it is inserted: what R353 asks of it, its size in 4 KiB LBAs, its serial number and its label (R355): `none` for
a blank label or one of another appliance, else the set and column that this appliance's label names, column 31 for a
spare; and whether the label has the LX-310 format (R594). -/
structure DriveInfo where
  dualPorted : Bool
  lba4096 : Bool
  reservations : Bool
  lbas : Nat
  serial : Nat
  label : Option (Nat × Nat)
  lx : Bool
deriving DecidableEq, Repr

/-- What a received request packet asks for (R421). -/
inductive RxKind where
  | write | read | send | cas | faa
deriving DecidableEq, Repr

/-- A received request packet (R421, R434 to R449): the port and the queue pair it names, the peer's address, its packet sequence
number, its seal (`none` unsealed, else whether the tag is good), its congestion mark, whether its header is malformed,
whether it is the first and the last of its message, the virtual address, rkey and total length, the operands of an
atomic, and its payload. -/
structure RxPkt where
  port : Nat
  qpn : Nat
  src : Nat
  kind : RxKind
  psn : Nat
  tag : Option Bool
  ce : Bool
  malformed : Bool
  first : Bool
  last : Bool
  va : Nat
  rkey : Nat
  total : Nat
  operand : Nat
  swap : Nat
  data : Bytes
deriving DecidableEq, Repr

/-- Why a peer refuses a request (R433): Remote Access Error, Remote Operational Error, Invalid Request, RNR, or a sequence
error. -/
inductive NakKind where
  | access | operational | invalid | rnr | sequence
deriving DecidableEq, Repr

/-- The parameters of CONN_CREATE (R425). -/
structure ConnParams where
  owner : Nat
  pd : Nat
  port : Nat
  src : Nat
  peer : Nat
  peerQpn : Nat
  mtu : Nat
  sqDpa : Nat
  sqEntries : Nat
  rqDpa : Nat
  rqEntries : Nat
  sqCq : Nat
  rqCq : Nat
  slot : Nat
  txPsn : Nat
  rxPsn : Nat
  retry : Nat
  rnrRetry : Nat
  ackTimeout : Nat
  creditMode : Nat
  sealed : Nat
  txKey : Nat
  txSalt : Nat
  txCtr : Nat
  rxKey0 : Nat
  rxKey1 : Nat
deriving DecidableEq, Repr

/-- Who issues a Latigo or key command (R424): the LD on the CXL route, or a Tack or MBX client. -/
inductive Issuer where
  | cxl (ld : Fin 64) | mgmt
deriving DecidableEq, Repr

/-- The routes to the dictionary (R105). -/
inductive Route where
  | tack (chan : Nat) | mbx | cxl (ld : Nat)
deriving DecidableEq, Repr

/-- The units that report faults. -/
inductive FUnit where
  | rail (slot : Nat) | lineClock | port (p : Nat) | hostNode (q : Nat) | ld (n : Nat) | welt | treeWay (s w : Nat)
  | ring | agent (a : Nat) | channel (c : Nat) | scrub | drain | mirror | stirrup | awl | stripeSet (n : Nat)
  | drive (slot : Nat) | tier | segCache | latigo | buckle | core (c : Nat) | recorder | flash | keeper (k : Nat)
  | pommel | config | domain (d : Nat) | tack
deriving DecidableEq, Repr

/-- The fault groups (R480). -/
inductive FGroup where
  | hostQuad (q : Nat) | latigo | tier | clusterB | recorder | flash | stripeSet (n : Nat) | rail (g : Nat)
deriving DecidableEq, Repr

/-- The scope of a recovery window (R476). -/
inductive Scope where
  | unit (u : FUnit) | group (g : FGroup) | controller
deriving DecidableEq, Repr

/-- The functions that can be disabled (R495): host ports, LDs and the units of GLB_UNIT_RESET. -/
inductive Fn where
  | port (p : Nat) | ld (n : Nat) | lat | bkl | tir | stm | fls | kcb
deriving DecidableEq, Repr

/-- The engines that the engine watchdog watches (R489). -/
inductive Engine where
  | drain | awl | mirror | tier | latigo | buckle | scrub | recorder | flash
deriving DecidableEq, Repr

/-- A request that the host request guard watches (R487, R488): a host's read by port, LD and tag, a held write or a barrier by
its number, or a message served for a peer. -/
inductive HostReq where
  | read (port ld tag : Nat) | write (id : Nat) | barrier (id : Nat) | served (conn msg : Nat)
deriving DecidableEq, Repr

/-- A DIMM as its SPD describes it (R259, R260): channel, slot, two physical ranks, 2H stack, device density (0 for 16 Gb, 1 for 24 Gb, 2
for 32 Gb), speed rating in MT/s, and whether it is of a supported type. -/
structure Dimm where
  channel : Nat
  slot : Nat
  ranks2 : Bool
  stack2h : Bool
  density : Nat
  speed : Nat
  supported : Bool
deriving DecidableEq, Repr

/-- What a bring-up step finds outside the block (R524): the DIMMs and the channels that fail training at step 6 (R260, R283), the
Buckle cores that pass their tests at step 8 as a mask (R474), the drives that step 10 discovers by slot (R355), whether the CRC of
the retained journal header is good at step 3 (R526), the number of journal copies that step 11 finds bad and the twin's copy of
this controller's entries where the handshake has brought one (R369), and at step 12 the twin's pool copy of this half (home line,
byte mask, bytes) and whether it is complete (R371), and the sets whose metadata chunks fail their CRC at step 11 (R471). -/
structure StepIn where
  spd : List Dimm
  trainFail : List Nat
  cores : Nat
  drives : List (Nat × DriveInfo)
  jrnGood : Bool
  jrnBad : Nat
  twinJrn : Option (List JournalEntry)
  pool : List (Nat × (Nat × Bytes))
  poolWhole : Bool
  metaBad : List Nat
deriving DecidableEq, Repr

/-- The header of a received Tack frame (R111) as far as every command has it: the channel, CLIENT, TAG, LEN, whether LEN fits the
frame, and whether CMD is one of the table (R116). -/
structure TackHdr where
  chan : Fin 2
  client : Nat
  tag : Nat
  len : Nat
  fits : Bool
  known : Bool
deriving DecidableEq, Repr

/-- The commands, in the order of the opcode table. -/
inductive Instr where
  /-- PORST_N_RELEASE (R1). Release of PORST_N samples the straps, selects the mode and starts bring-up at step 1. -/
  | porstNRelease (mode : Fin 4) (serviceN twinPresentN : Bool)
  /-- PORST_N_ASSERT (R506). Assertion of PORST_N drops every non-retained RAIL_EN, keeps retained rails and ends any warm reset, or is deferred during COMMIT. -/
  | porstNAssert (torn : Bool)
  /-- VDD_AON_LOSS (R500). Loss of VDD_AON clears the rail table, latches, retention latch and S5 record, so that the next release is a cold start. -/
  | vddAonLoss (torn : Bool)
  /-- COMMON_START (R504). Once PORST_N has been released for 2 ms, the rail table is read and the supply inputs are good, the sequencer begins power-up at t0. -/
  | commonStart
  /-- RAIL_ON_DELAY (R505). A slot's ON_DELAY expires and its RAIL_EN goes high. -/
  | railOnDelay (n : Fin 32)
  /-- RAIL_PG_RISE (R505). RAIL_PG rises within PG_TIMEOUT, the slot becomes ON, and internal groups are switched on when their rails are ready. -/
  | railPgRise (n : Fin 32) (ramp : Nat)
  /-- RAIL_PG_TIMEOUT (R511). RAIL_PG is not high within PG_TIMEOUT after RAIL_EN rose, and the slot faults and starts its reaction. -/
  | railPgTimeout (n : Fin 32)
  /-- RAIL_PG_FAULT (R511). RAIL_PG stays low for 20 µs or more on an ON slot, which writes record 0x1002 and starts the slot's reaction at its rung. -/
  | railPgFault (n : Fin 32)
  /-- RAIL_RETRY_ATTEMPT (R513). The 50 ms RETRY wait ends, and RAIL_EN of the retried slot is driven high for another attempt. -/
  | railRetryAttempt (n : Fin 32)
  /-- RAIL_OFF_DELAY (R518). In COMMIT step 6, a slot's OFF_DELAY expires and its RAIL_EN goes low. -/
  | railOffDelay (n : Fin 32)
  /-- RAIL_STUCK_ON (R518). A slot whose RAIL_PG stays high PG_TIMEOUT after RAIL_EN fell writes record 0x100A, and step 6 no longer waits for it. -/
  | railStuckOn (n : Fin 32)
  /-- DOMAIN_SWITCH_TIMEOUT (R508). An internal domain switch reports no good state within 100 µs, which is an S2 fault of its unit. -/
  | domainSwitchTimeout (d : Fin 92)
  /-- PSU_OK_LOW (R521). PSU_OK is low for 1 µs or more, which is COMMIT trigger 1 or a power-up back-out. -/
  | psuOkLow
  /-- HOLDUP_LOW (R521). HOLDUP_LOW_N is low for 1 µs or more, which is COMMIT trigger 2 or a back-out. -/
  | holdupLow
  /-- FAULT_N_EXTERNAL (R522). FAULT_N is driven low by another node for 1 µs or more, which is COMMIT trigger 4 or a back-out. -/
  | faultNExternal
  /-- FAULT_N_GLITCH (R522). A FAULT_N low shorter than 1 µs is counted in HAM_GLITCH and recorded. -/
  | faultNGlitch
  /-- SYSCLK_LOSS (R609). SYSCLK_IN is absent or out of range for 10 µs, so the PLLs enter holdover and COMMIT is entered with trigger 5. -/
  | sysclkLoss
  /-- REFCLK_LOSS (R610). Loss of a host or drive reference clock takes the affected links down. -/
  | refclkLoss (which : Fin 5)
  /-- WDI_TOGGLE (R492). An edge on WDI arms the WDI timer after READY or restarts its window. -/
  | wdiToggle
  /-- WDI_MISSED (R487). An armed WDI window passes without a toggle, which is an S5 fault. -/
  | wdiMissed
  /-- BRINGUP_STEP_END (R524). A bring-up step ends and the next starts, up to READY at step 14. -/
  | bringupStepEnd (r : StepIn)
  /-- BRINGUP_STEP_LATE (R524). A bring-up step passes its maximum time, and record 0xE021 is written once. -/
  | bringupStepLate
  /-- WRST_N_ASSERT (R532). WRST_N low for 1 µs or more starts a warm reset. -/
  | wrstNAssert
  /-- SW_WARM_RESET (R532). A write of the key to GLB_SW_RESET starts a software warm reset. -/
  | swWarmReset (m : Fin 11) (value : Word)
  /-- WARM_RESET_HOLD (R533). After the drain and self-refresh of a warm reset, the reset takes hold and bring-up runs from step 2 on the warm path. -/
  | warmResetHold (torn : Bool)
  /-- WARM_RESET_DEFERRAL_END (R193). The 50 µs deferral of a warm reset ends, and unreleased Welt entries are retained for replay. -/
  | warmResetDeferralEnd
  /-- UNIT_RESET_LAT (R535). A write of GLB_UNIT_RESET.LAT quiesces and resets the Latigo engine. -/
  | unitResetLat
  /-- UNIT_RESET_BKL (R535). A write of GLB_UNIT_RESET.BKL quiesces and resets the Buckle engine. -/
  | unitResetBkl
  /-- UNIT_RESET_TIR (R535). A write of GLB_UNIT_RESET.TIR quiesces and resets the Rein streamer and tier map. -/
  | unitResetTir
  /-- UNIT_RESET_STM (R535). A write of GLB_UNIT_RESET.STM quiesces and resets the Stamp recorder. -/
  | unitResetStm
  /-- UNIT_RESET_FLS (R535). A write of GLB_UNIT_RESET.FLS quiesces and resets the flash controller. -/
  | unitResetFls
  /-- UNIT_RESET_KCB (R535). A write of GLB_UNIT_RESET.KCB quiesces keeper cluster B and reloads its cores. -/
  | unitResetKcb
  /-- FUNCTION_QUIESCED (R495). A QUIESCING function has no work left and enters DISABLED, or after a unit reset returns to ENABLED. -/
  | functionQuiesced (f : Fn)
  /-- DISABLE_ABORT_TIME_EXPIRED (R495). The abort time of a QUIESCING function ends, and its remaining work ends with FUNCTION_DISABLED. -/
  | disableAbortTimeExpired (f : Fn)
  /-- LINE_SYNC_PULSE (R40). A qualified LINE_SYNC pulse is judged a good crossing that steers the clock, or a glitch. -/
  | lineSyncPulse (highNs dt : Nat)
  /-- LINE_MISSED (R43). The crossing window closes without a good crossing, so the half-cycle is missed and WARN or COMMIT follows. -/
  | lineMissed
  /-- LINE_LISTEN_END (R46). The 200 ms listen after PORST_N release, or the wait for the next pulse, ends and the clock enters LOCKED or SYNTHETIC. -/
  | lineListenEnd
  /-- TICK (R56). A tick boundary applies buffered writes and sends a heartbeat, a patrol scrub slot and the pacing refill. -/
  | tick
  /-- HALF_CYCLE_BOUNDARY (R33). At phase 0 the count advances, the cinch limit and pace are recomputed, tokens refill and retraining or handover may start. -/
  | halfCycleBoundary
  /-- COMPAT_TICK (R586). The 1 µs compatibility tick applies staged LX register writes, including the bank select. -/
  | compatTick
  /-- CSR_WRITE (R65). A write to a CSR register without a row of its own acts by access code, with refusal causes, locks and _LO/_HI staging. -/
  | csrWrite (m : Fin 11) (off size : Nat) (value : Word)
  /-- CSR_ALIAS_WRITE (R76). A write to an alias word changes one bit atomically without using the staging word. -/
  | csrAliasWrite (m : Fin 11) (off : Nat) (value : Word)
  /-- CSR_READ_CLEAR (R65). A plain read of an RC field returns it and clears it. -/
  | csrReadClear (m : Fin 11) (off : Nat)
  /-- CSR_READ_LATCH (R67). A plain read of an RLT _LO register returns the low half and latches the high half into the reader's shadow. -/
  | csrReadLatch (m : Fin 11) (off : Nat)
  /-- CFG_HOLD_LONG (R81). HOLD has been set for 1,024 ticks, and record 0xE006 is written once. -/
  | cfgHoldLong
  /-- MBX_CLAIM (R70). A read of MBX_CLAIM makes the reader owner when the mailbox is free. -/
  | mbxClaim (m : Fin 11)
  /-- MBX_RELEASE (R70). The owner writes RELEASE and the mailbox becomes free. -/
  | mbxRelease (m : Fin 11)
  /-- MBX_CLAIM_EXPIRED (R70). The owner makes no MBX access for 1 s, so the mailbox is released, any operation aborted and record 0xE007 written. -/
  | mbxClaimExpired
  /-- MBX_READ (R72). START with OP read begins a dictionary read of one chunk into MBX_DATA. -/
  | mbxRead (m : Fin 11) (op : Fin 4)
  /-- MBX_WRITE (R74). START with OP write stages a chunk and applies the value when its last chunk is written. -/
  | mbxWrite (m : Fin 11)
  /-- MBX_ABORT (R75). ABORT of the running mailbox operation is settled against completion at the commit point. -/
  | mbxAbort (m : Fin 11)
  /-- MBX_OP_DONE (R73). A mailbox operation ends, BUSY clears and STATUS holds its status. -/
  | mbxOpDone
  /-- OD_STORE (R100). A write of 0x5356 to STORE stores every changed RW and RW-TICK value into its layer. -/
  | odStore (r : Route) (client : Nat)
  /-- OD_STORE_DONE (R102). A configuration store finishes writing the new generation into the older copy. -/
  | odStoreDone
  /-- OVERLAY_ADD (R101). OVERLAY_EDIT COMMAND 1 adds or replaces an entry in a stored overlay after checking it. -/
  | overlayAdd (r : Route) (client : Nat)
  /-- OVERLAY_REMOVE (R101). OVERLAY_EDIT COMMAND 2 removes an entry from a stored overlay. -/
  | overlayRemove (r : Route) (client : Nat)
  /-- RGN_ENTRY_APPLY (R210). A write to RGN_LD checks the whole region entry and applies it at the next tick, or removes it. -/
  | rgnEntryApply (r : Route) (client : Nat) (e : Fin 1024) (ld : Byte)
  /-- READ (R112). A Tack READ request is answered with the value expedited or with the total length for a segmented transfer. -/
  | read (h : TackHdr) (key : Nat)
  /-- WRITE (R112). A Tack WRITE writes a value of up to 56 bytes and is answered at the commit point. -/
  | write (h : TackHdr) (key : Nat) (data : Bytes)
  /-- WRITE_INIT (R113). A Tack WRITE_INIT opens a segmented write of the stated total length. -/
  | writeInit (h : TackHdr) (key total : Nat)
  /-- SEGMENT (R113). A Tack SEGMENT carries up to 56 value bytes, and the last commits a write. -/
  | segment (h : TackHdr) (n : Nat) (last : Bool) (data : Bytes)
  /-- ACK (R113). A Tack ACK acknowledges segments received in order and lets the sender continue. -/
  | ack (h : TackHdr) (n : Nat)
  /-- ABORT (R114). A Tack ABORT ends a transaction, with the race against completion settled under R108. -/
  | abort (h : TackHdr)
  /-- TACK_BOOTUP_FRAME (R117). A received boot-up frame carrying this node's ID makes the lower-serial device move to the next ID. -/
  | tackBootupFrame (chan : Fin 2) (node serial : Nat)
  /-- TACK_BOOTUP_LISTEN_END (R117). The 100 ms listen after the boot-up frame ends. -/
  | tackBootupListenEnd
  /-- TACK_CLASSICAL_FRAME (R109). A classical CAN frame is ignored and counted as a violation. -/
  | tackClassicalFrame (chan : Fin 2)
  /-- TACK_TRANSFER_TIMEOUT (R114). No frame of a transaction arrives for 500 ms, and it ends with TIMEOUT. -/
  | tackTransferTimeout (chan : Fin 2) (client tag : Nat)
  /-- PRESENCE_OPEN (R118). PRESENCE_N held low for 2 s opens a presence window when its conditions hold. -/
  | presenceOpen
  /-- PRESENCE_CLOSE (R119). The presence window reaches 60 s and closes, with record 0xF002. -/
  | presenceClose
  /-- PRESENCE_STUCK (R120). PRESENCE_N low for more than 30 s closes any window and writes record 0xF003. -/
  | presenceStuck
  /-- PRESENCE_REARM (R120). After a stuck press, PRESENCE_N has been high for 1 s and windows may open again. -/
  | presenceRearm
  /-- RECORDER_CLEAR (R580). The sealed recorder clear writes CLEAR_INTENT, then erases FIRST and LAST and writes RECORDER_CLEARED. -/
  | recorderClear (r : Route) (client : Nat) (value : Bytes)
  /-- RECORDER_CLEAR_STEP_END (R580). An erase stage of a running clear ends and the clear moves to its next stage. -/
  | recorderClearStepEnd
  /-- LOCK_POLICY_CHANGE (R123). A sealed write of the lock policy or a route write mask is stored for the next PORST_N. -/
  | lockPolicyChange (r : Route) (client : Nat) (which : Fin 4) (value : Bytes)
  /-- FACTORY_DEFAULT (R123). The sealed factory default replaces base configuration and overlays with defaults at the next PORST_N. -/
  | factoryDefault (r : Route) (client : Nat) (value : Bytes)
  /-- CRYPTO_ERASE (R473). The sealed crypto-erase destroys every key slot and both flash key copies. -/
  | cryptoErase (r : Route) (client : Nat) (value : Bytes)
  /-- FORCED_SLOT_SELECTION (R123). The sealed forced slot selection names the slot to boot at the next reset. -/
  | forcedSlotSelection (r : Route) (client : Nat) (value : Bytes)
  /-- PRESENCE_POLICY_CHANGE (R123). A sealed write of PRESENCE_POLICY takes effect when the window closes. -/
  | presencePolicyChange (r : Route) (client : Nat) (value : Bytes)
  /-- HOST_WRITE (R133). A CXL.mem write is decoded, accepted into the Welt, mirrored and completed at its region's COMPLETE_AT level. -/
  | hostWrite (port : Fin 16) (ldid : Fin 16) (tag hpa mask meta_ : Nat) (data : Bytes)
  /-- HOST_READ (R20). A CXL.mem read is served from the Welt and Skive buffer, the home Tree slice or DRAM, or is held for a load. -/
  | hostRead (port : Fin 16) (ldid : Fin 16) (tag hpa meta_ : Nat) (err : SramErr)
  /-- STREAM_WRITE (R164). A write to a STREAM region is accepted into the Skive buffer and completed at LOCAL. -/
  | streamWrite (port : Fin 16) (ldid : Fin 16) (tag hpa mask : Nat) (data : Bytes)
  /-- SKIVE_CLOSE (R166). A partial Skive line has stayed open for SKIVE_CLOSE ticks and is closed into the Welt. -/
  | skiveClose (line : Nat)
  /-- WELT_RELEASE (R15). A Welt entry whose completion is sent and mirror copy acknowledged is released to the Tree cache. -/
  | weltRelease (line : Nat) (err : SramErr)
  /-- HDM_DECODER_COMMIT (R132). A host commits an HDM decoder, which is accepted within the decoder parameters or refused with record 0x3008. -/
  | hdmDecoderCommit (n : Fin 64) (idx : Fin 4) (base size skip ways gran : Nat) (bi lock : Bool)
  /-- DOORBELL_RING (R142). A 64-bit RING write to a FREE doorbell slot makes it BUSY and starts a persist barrier. -/
  | doorbellRing (n : Fin 64) (slot : Fin 64) (word bits : Nat)
  /-- BARRIER_END (R172). Every covered byte of a barrier reaches its level, and the record is written to ADDR with an optional MSI-X. -/
  | barrierEnd (id : Nat)
  /-- BARRIER_TIMEOUT (R175). A barrier runs past its guard, ends with TIMEOUT and writes record 0x4003. -/
  | barrierTimeout (id : Nat)
  /-- COMMIT_BARRIER_CUTOFF (R176). 100 µs after COMMIT entry, LOCAL and PAIR barriers not at their level end with NOT_READY. -/
  | commitBarrierCutoff
  /-- GPF_PHASE1 (R179). A Global Persistent Flush Phase 1 is served as an APPLIANCE barrier of level LOCAL. -/
  | gpfPhase1 (port : Fin 16)
  /-- GPF_PHASE2 (R179). A Global Persistent Flush Phase 2 is served as an APPLIANCE barrier of level PAIR, or LOCAL while PAIR is unavailable. -/
  | gpfPhase2 (port : Fin 16)
  /-- HOST_LINK_UP (R127). A host port link reaches L0, frees its BUSY slots and lifts any sharer fence. -/
  | hostLinkUp (port : Fin 16) (width : Nat) (rate64 flit68 : Bool)
  /-- HOST_LINK_DOWN (R148). A host link goes down, or its HOST_PERST_N is asserted, which drops unsent data and records not written. -/
  | hostLinkDown (port : Fin 16)
  /-- HPT_PORT_ENABLE_CHANGE (R149). A change of HPT_PORT_CTRL.ENABLE moves the port into QUIESCING or back to ENABLED at the next tick. -/
  | hptPortEnableChange (port : Fin 16) (on : Bool)
  /-- HPT_LD_ENABLE_CHANGE (R149). A change of HPT_LD_CFG.ENABLE moves the LD into QUIESCING or back to ENABLED at the next tick. -/
  | hptLdEnableChange (n : Fin 64) (on : Bool)
  /-- BIRSPI (R249). A BIRspI answers a BISnpInv, and the proxy answers ACK_I to the home after the last one. -/
  | birspi (n : Fin 64) (key : Nat)
  /-- BICONFLICT (R250). A host answers BISnpInv with BIConflict, and its request is sequenced after the snooping write. -/
  | biconflict (n : Fin 64) (key : Nat)
  /-- BISNP_GUARD_EXPIRED (R137). A sharer has not answered BISnpInv within BISNP_GUARD, so it is fenced and the write completes. -/
  | bisnpGuardExpired (n : Fin 64) (key : Nat)
  /-- IDENTIFY_MEMORY_DEVICE (R138). The mailbox command Identify Memory Device returns the device identity. -/
  | identifyMemoryDevice (n : Fin 64)
  /-- GET_PARTITION_INFO (R138). The mailbox command Get Partition Info returns the partition information. -/
  | getPartitionInfo (n : Fin 64)
  /-- GET_SUPPORTED_LOGS (R138). The mailbox command Get Supported Logs lists the logs. -/
  | getSupportedLogs (n : Fin 64)
  /-- GET_LOG (R138). The mailbox command Get Log returns the CEL. -/
  | getLog (n : Fin 64) (uuid : Bytes) (off len : Nat)
  /-- GET_HEALTH_INFO (R138). The mailbox command Get Health Info returns health, including the dirty shutdown count. -/
  | getHealthInfo (n : Fin 64)
  /-- GET_EVENT_RECORDS (R138). The mailbox command Get Event Records returns CXL event records. -/
  | getEventRecords (n : Fin 64) (log : Nat)
  /-- CLEAR_EVENT_RECORDS (R138). The mailbox command Clear Event Records clears CXL event records. -/
  | clearEventRecords (n : Fin 64) (log : Nat) (all : Bool) (handles : List Nat)
  /-- GET_EVENT_INTERRUPT_POLICY (R138). The mailbox command Get Event Interrupt Policy returns the policy. -/
  | getEventInterruptPolicy (n : Fin 64)
  /-- SET_EVENT_INTERRUPT_POLICY (R138). The mailbox command Set Event Interrupt Policy sets the policy. -/
  | setEventInterruptPolicy (n : Fin 64) (settings : List Byte)
  /-- GET_LSA (R138). The mailbox command Get LSA reads the LD's label storage area from flash bank 3. -/
  | getLsa (n : Fin 64) (off len : Nat)
  /-- SET_LSA (R138). The mailbox command Set LSA writes the LD's label storage area in flash bank 3. -/
  | setLsa (n : Fin 64) (off : Nat) (data : Bytes)
  /-- GET_POISON_LIST (R138). The mailbox command Get Poison List returns the poisoned addresses. -/
  | getPoisonList (n : Fin 64) (start len : Nat)
  /-- CLEAR_POISON (R138). The mailbox command Clear Poison clears poison on a line. -/
  | clearPoison (n : Fin 64) (dpa : Nat) (data : Bytes)
  /-- GET_TIMESTAMP (R138). The mailbox command Get Timestamp returns the LD's timestamp. -/
  | getTimestamp (n : Fin 64)
  /-- SET_TIMESTAMP (R138). The mailbox command Set Timestamp sets the LD's timestamp offset without touching the line clock. -/
  | setTimestamp (n : Fin 64) (value : Nat)
  /-- GET_FW_INFO (R138). The mailbox command Get FW Info reports the two slots, the active slot and the staged slot. -/
  | getFwInfo (n : Fin 64)
  /-- UNSUPPORTED_MAILBOX_COMMAND (R138). An unsupported mailbox command such as Transfer FW is answered with Unsupported. -/
  | unsupportedMailboxCommand (n : Fin 64)
  /-- GET_LD_INFO (R124). The FM API command Get LD Info returns LD information. -/
  | getLdInfo (p : Fin 16)
  /-- GET_LD_ALLOCATIONS (R124). The FM API command Get LD Allocations returns allocations. -/
  | getLdAllocations (p : Fin 16) (start limit : Nat)
  /-- SET_LD_ALLOCATIONS (R124). The FM API command Set LD Allocations returns Unsupported. -/
  | setLdAllocations (p : Fin 16)
  /-- OD_READ (R139). The vendor command OD_READ reads one chunk of a dictionary entry for an LD with MGMT. -/
  | odRead (n : Fin 64) (key off : Nat)
  /-- OD_WRITE (R139). The vendor command OD_WRITE writes one chunk of a dictionary entry, staging until the last chunk. -/
  | odWrite (n : Fin 64) (key off total : Nat) (data : Bytes)
  /-- OD_ABORT (R139). The vendor command OD_ABORT aborts the dictionary operation on a key. -/
  | odAbort (n : Fin 64) (key : Nat)
  /-- OBJECT_CREATE (R395). OBJECT_CREATE carves an object out of a base object with a class and policy. -/
  | objectCreate (n : Fin 64) (offset size cls policy flags : Nat)
  /-- OBJECT_DESTROY (R396). OBJECT_DESTROY returns an object's segments to its base object as ZERO and releases their resources. -/
  | objectDestroy (n : Fin 64) (id : Nat)
  /-- OBJECT_QUERY (R397). OBJECT_QUERY returns an object's attributes and segment counts. -/
  | objectQuery (n : Fin 64) (id : Nat)
  /-- OBJECT_SET_POLICY (R398). OBJECT_SET_POLICY changes an object's policy and REPLICA flag. -/
  | objectSetPolicy (n : Fin 64) (id policy flags : Nat)
  /-- STREAM_OPEN (R412). STREAM_OPEN copies a stream descriptor and starts fetching its layer window. -/
  | streamOpen (n : Fin 64) (object desc start window mode flags deadline : Nat) (far : List (Nat × Bytes))
  /-- STREAM_CLOSE (R412). STREAM_CLOSE ends a stream, and its held reads continue as demand loads. -/
  | streamClose (n : Fin 64) (id : Nat)
  /-- LAYER_DONE (R414). A LAYER_DONE write completes window layers and fetches the layers that follow. -/
  | layerDone (n : Fin 64) (slot : Fin 64) (word : Nat)
  /-- STREAM_DEADLINE (R415). A read held for a stream layer reaches its deadline and returns poison. -/
  | streamDeadline (line : Nat)
  /-- MIRROR (R328). A received MIRROR frame merges its bytes into the twin's pool frame and is stored in sequence order. -/
  | mirror (seq line mask : Nat) (data : Bytes)
  /-- MIRROR_FULL (R328). A received MIRROR_FULL frame stores a whole line in the pool. -/
  | mirrorFull (seq line : Nat) (data : Bytes)
  /-- MIRROR_ACK (R327). A received MIRROR_ACK covers frames up to its sequence and satisfies the mirror condition of their Welt entries and Skive lines. -/
  | mirrorAck (upto : Nat)
  /-- RELEASE (R331). A received RELEASE frees the pool frames of taken granules whose newest sequence is below the cut. -/
  | release (chunk mask cut : Nat)
  /-- REPAIR_REQ (R332). A received REPAIR_REQ is answered with the line, its partial bytes or NO_COPY. -/
  | repairReq (line tag : Nat)
  /-- REPAIR_RSP (R332). A received REPAIR_RSP repairs the waiting line, or counts as NO_COPY. -/
  | repairRsp (tag mask : Nat) (data : Bytes)
  /-- REMIRROR (R333). A received REMIRROR makes the owner send MIRROR_FULL of the current line. -/
  | remirror (line : Nat)
  /-- JOURNAL (R366). A received JOURNAL frame updates the copy of the twin's journal entries and is acknowledged. -/
  | journal (seq : Nat) (e : JournalEntry)
  /-- JOURNAL_ACK (R362). A received JOURNAL_ACK lets the owner send the RELEASE frames of the stripe. -/
  | journalAck (seq : Nat)
  /-- ZONE_REQ (R307). A received ZONE_REQ asks for free zones to be handed over at the next aligned phase 0. -/
  | zoneReq (wanted : Nat)
  /-- ZONE_GRANT (R346). A received ZONE_GRANT gives zones and a new epoch, and is answered with ZONE_ACK. -/
  | zoneGrant (zones : List Nat) (epoch : Nat)
  /-- ZONE_ACK (R346). A received ZONE_ACK makes the giver adopt the new ownership epoch. -/
  | zoneAck (zones : List Nat)
  /-- BARRIER_REQ (R171). A received BARRIER_REQ fixes this controller's start point for its part of an APPLIANCE barrier. -/
  | barrierReq (tag level : Nat)
  /-- BARRIER_DONE (R171). A received BARRIER_DONE ends the twin's part of an APPLIANCE barrier. -/
  | barrierDone (tag st : Nat)
  /-- HELLO (R344). A received HELLO starts a handshake by the two roles, aligning timestamps and epochs. -/
  | hello (h : HelloFrame)
  /-- HEARTBEAT (R55). A received HEARTBEAT resets the miss count, carries the phase markers and acknowledgement, and checks alignment. -/
  | heartbeat (h : HeartbeatFrame)
  /-- HANDOVER_BEGIN (R343). A received HANDOVER BEGIN holds back any claim while the twin's lease advances. -/
  | handoverBegin
  /-- HANDOVER_DONE (R343). A received HANDOVER DONE makes this controller take over without preemption. -/
  | handoverDone
  /-- FAILBACK_REQ (R347). A received FAILBACK REQ makes the survivor quiesce the standby LDs, drain the twin's half and return its zones. -/
  | failbackReq
  /-- FAILBACK_READY (R347). A received FAILBACK READY makes the returning controller register its key, write its lease as ACTIVE and answer DONE. -/
  | failbackReady (epoch : Nat)
  /-- FAILBACK_DONE (R347). A received FAILBACK DONE ends failback, and the standby LDs stay DISABLED. -/
  | failbackDone
  /-- VIOLATION (R350). A received VIOLATION frame reports a twin violation found by the other side. -/
  | violation (cause code : Nat)
  /-- STIRRUP_UP (R326). The Stirrup link comes up, exchanges HELLO and aligns timestamps. -/
  | stirrupUp (lanes : Nat)
  /-- STIRRUP_DOWN (R335). The Stirrup link leaves its operational state, PAIR becomes unavailable and retraining begins. -/
  | stirrupDown
  /-- STP_RETRAIN (R335). A write of STP_CTRL.RETRAIN takes the link down and retrains it. -/
  | stpRetrain
  /-- HEARTBEAT_LOSS_RETRAIN (R335). Sixteen consecutive heartbeats missed while the link is up make the controller take the link down and retrain. -/
  | heartbeatLossRetrain
  /-- TWIN_FAILED (R335). The link has been down for RETRAIN_GUARD with three missed heartbeats, so the twin is declared failed and a claim starts. -/
  | twinFailed
  /-- CLAIM_DELAY_EXPIRED (R338). The higher-serial controller's CLAIM_DELAY ends and its claim proceeds. -/
  | claimDelayExpired
  /-- RESERVATION_PREEMPT_DONE (R338). A Reservation Acquire with preemption completes on a member, and a majority wins the claim. -/
  | reservationPreemptDone (slot : Fin 24) (ok : Bool)
  /-- CLAIM_RETRY (R339). The one-second claim retry timer expires and the claim is repeated. -/
  | claimRetry
  /-- LEASE_SLOT_WRITE (R338). Once per second the controller rewrites its lease slot on every member. -/
  | leaseSlotWrite
  /-- HANDOVER_LEASE_STALE (R343). The lease of a twin in handover has not advanced for 3 s, so this controller claims. -/
  | handoverLeaseStale
  /-- TWIN_WAIT_EXPIRED (R348). No HELLO arrives within TWIN_WAIT of step 12, and the twin's lease slots are read. -/
  | twinWaitExpired (lease : Option (Nat × Nat))
  /-- TWIN_LEASE_RECHECK (R348). The second lease read 2 s later leads to STALLED or to a claim. -/
  | twinLeaseRecheck (lease : Option (Nat × Nat))
  /-- PARTNER_CONTAINMENT_END (R497). A partner's 60 s containment ends, and resynchronisation follows for the twin. -/
  | partnerContainmentEnd (p : Partner)
  /-- RD_S (R236). A home receives RD_S, snoops as needed and grants DATA_S or DATA_E. -/
  | rdS (a : Fin 5) (line : Nat) (prio : Bool)
  /-- RD_X (R236). A home receives RD_X, invalidates the holders and grants DATA_E, or refuses it for a host-visible line. -/
  | rdX (a : Fin 5) (line : Nat) (prio : Bool)
  /-- WB (R240). A home receives a writeback of an M line, writes it through and answers WB_ACK. -/
  | wb (a : Fin 5) (line : Nat) (data : Bytes)
  /-- SNP_S (R234). An agent receives SNP_S and answers it by its state. -/
  | snpS (a : Fin 5) (line : Nat)
  /-- SNP_INV (R234). An agent receives SNP_INV and answers it by its state. -/
  | snpInv (a : Fin 5) (line : Nat)
  /-- ACK_I (R252). A home receives ACK_I as an answer of its round. -/
  | ackI (a : Fin 5) (line : Nat)
  /-- ACK_S (R252). A home receives ACK_S as an answer of its round. -/
  | ackS (a : Fin 5) (line : Nat)
  /-- ACK_DATA (R237). A home receives ACK_DATA and writes the data into the Tree line and through to DRAM. -/
  | ackData (a : Fin 5) (line : Nat) (data : Bytes)
  /-- WB_PENDING (R243). A home receives WB_PENDING and holds the round open until the writeback lands. -/
  | wbPending (a : Fin 5) (line : Nat)
  /-- DATA_S (R234). An agent receives DATA_S, enters S, serves the load and sends DONE. -/
  | dataS (a : Fin 5) (line : Nat) (data : Bytes)
  /-- DATA_E (R234). An agent receives DATA_E, enters E or M and sends DONE. -/
  | dataE (a : Fin 5) (line : Nat) (data : Bytes)
  /-- WB_ACK (R234). An agent in MI_A receives WB_ACK and enters I. -/
  | wbAck (a : Fin 5) (line : Nat)
  /-- NACK (R234). An agent receives NACK and retries, or faults the store on REFUSED. -/
  | nack (a : Fin 5) (line : Nat) (refused : Bool)
  /-- DONE (R235). A home receives DONE, ends the transaction and takes the next queued request for the line. -/
  | done (a : Fin 5) (line : Nat)
  /-- NACK_RETRY_TIMER (R239). An agent's backoff after a NACK expires and the request is reissued, with priority after NACK_PRIORITY. -/
  | nackRetryTimer (a : Fin 5) (line : Nat)
  /-- SNOOP_GUARD_EXPIRED (R256). A target has not answered within SNOOP_GUARD, so the round ends as ACK_I and the agent is isolated. -/
  | snoopGuardExpired (a : Fin 5) (line : Nat)
  /-- AGENT_LOAD (R233). A keeper core load hits or misses in its cluster cache. -/
  | agentLoad (c : Fin 8) (line : Nat)
  /-- AGENT_STORE (R233). A keeper core store hits or sends RD_X. -/
  | agentStore (c : Fin 8) (addr : Nat) (bytes : Bytes)
  /-- AGENT_EVICTION (R233). A cluster cache evicts a line silently or sends WB. -/
  | agentEviction (a : Fin 5) (line : Nat)
  /-- NON_TEMPORAL_STORE (R189). A non-temporal store enters the core's combining buffer. -/
  | nonTemporalStore (c : Fin 8) (line off : Nat) (bytes : Bytes)
  /-- UNCACHED_ACCESS (R11). An uncached keeper access takes the uncached I/O path and its reorder buffer. -/
  | uncachedAccess (c : Fin 8) (addr : Nat) (write done : Bool)
  /-- FENCE_F_CORE (R190). FENCE.F.CORE orders all earlier accesses before later ones as the core sees them. -/
  | fenceFCore (c : Fin 8)
  /-- FENCE_F_CLU (R190). FENCE.F.CLU orders accesses as every core of the cluster sees them. -/
  | fenceFClu (c : Fin 8)
  /-- FENCE_F_SYS (R190). FENCE.F.SYS orders accesses as every agent sees them. -/
  | fenceFSys (c : Fin 8)
  /-- FENCE_S_CORE (R190). FENCE.S.CORE orders earlier stores before later stores at core scope. -/
  | fenceSCore (c : Fin 8)
  /-- FENCE_S_CLU (R190). FENCE.S.CLU orders earlier stores before later stores at cluster scope. -/
  | fenceSClu (c : Fin 8)
  /-- FENCE_S_SYS (R190). FENCE.S.SYS orders earlier stores before later stores at system scope. -/
  | fenceSSys (c : Fin 8)
  /-- TREE_FILL_DONE (R201). Fill data arrives from DRAM and the way leaves FILL as CLEAN or DIRTY. -/
  | treeFillDone (line : Nat)
  /-- TREE_WALK_DONE (R213). A policy-change walk over a region ends. -/
  | treeWalkDone (e : Nat)
  /-- CLEAN (R220). TRE_MAINT START with OP CLEAN cleans every DIRTY line of the range. -/
  | clean
  /-- CLEAN_INV (R220). TRE_MAINT START with OP CLEAN_INV cleans and invalidates the range. -/
  | cleanInv
  /-- INV (R220). TRE_MAINT START with OP INV invalidates the range after cleaning dirty lines. -/
  | inv
  /-- TRE_MAINT_ABORT (R221). ABORT of a maintenance operation is settled at its commit point. -/
  | treMaintAbort (reached : Nat)
  /-- TRE_MAINT_DONE (R221). A maintenance operation ends and its status is posted. -/
  | treMaintDone
  /-- DRAM_ARBITRATE (R272). A subchannel chooses and issues its next command by the arbitration order. -/
  | dramArbitrate (ch : Fin 16) (subB : Bool)
  /-- DRAM_WRITE_ENQUEUE (R265). A line write enters a channel write queue, which counts as DRAM accepting it. -/
  | dramWriteEnqueue (line : Nat)
  /-- DRAM_READ_RETURN (R275). A DRAM read returns and is corrected, poisoned, repaired or refetched by the kind of line. -/
  | dramReadReturn (ch : Fin 16) (subB : Bool) (res : EccResult) (pool map : Option Nat)
  /-- DRAM_REFRESH_DUE (R281). A refresh interval expires and a REFsb is scheduled, taking rank 1 once postponed four times. -/
  | dramRefreshDue (ch : Fin 16) (subB : Bool)
  /-- DIMM_TEMP_POLL (R282). The 100 ms temperature read changes the refresh rate or raises an S2 fault. -/
  | dimmTempPoll (ch : Fin 16) (dimm : Fin 2) (first retry : SmbAnswer)
  /-- DRAM_RETRAIN_DONE (R286). A periodic retraining ends, passed or failed. -/
  | dramRetrainDone (ch : Fin 16) (pass : Bool)
  /-- HOLDUP_SMBUS_POLL (R297). The 100 ms SMBus read of the hold-up module updates the reported hold-up time. -/
  | holdupSmbusPoll (first retry : SmbAnswer)
  /-- HOLDUP_SENSE_SAMPLE (R297). The 1 ms HOLDUP_SENSE sample updates the sensed hold-up time and H. -/
  | holdupSenseSample (uv : Nat)
  /-- DRAIN_TAKE_CHUNK (R303). The Drain takes a chunk: cleans its Tree lines, marks granules TAKEN and reads it from DRAM. -/
  | drainTakeChunk
  /-- STRIPE_WRITE (R362). The Awl engine writes an OPEN journal entry, computes parity and writes every unit with FUA. -/
  | stripeWrite (relocate : Bool)
  /-- STRIPE_COMMIT (R362). Every unit of a stripe is acknowledged, the entry becomes COMMITTED and the map and granules are updated. -/
  | stripeCommit (n : Fin 8) (stripe : Nat)
  /-- STRIPE_WRITE_FAILED (R363). A unit write fails its retry, so the stripe commits without the unit or is abandoned. -/
  | stripeWriteFailed (n : Fin 8) (stripe col : Nat)
  /-- ZONE_RECLAIM (R364). A zone below RECLAIM_PCT live is reclaimed by relocating its live chunks. -/
  | zoneReclaim (zone : Nat)
  /-- TIER_CHECKPOINT (R418). A map checkpoint writes changed metadata and a root record, making entries CHECKPOINTED. -/
  | tierCheckpoint
  /-- COMMIT_STEP_END (R315). A COMMIT step meets its end condition and the next step starts. -/
  | commitStepEnd
  /-- SW_COMMIT (R313). A write of the key to CIN_SW_COMMIT enters COMMIT with trigger 6. -/
  | swCommit (m : Fin 11) (value : Word)
  /-- REQUAL_POWER_UP (R318). After step 6 the inputs have held good for 2 s, and power-up starts again from the common start. -/
  | requalPowerUp
  /-- SEGMENT_LOAD_DONE (R404). A segment load into T1 commits, releasing held reads and waiting Welt entries. -/
  | segmentLoadDone (hs : Nat) (lines : List (Nat × Bytes))
  /-- SEGMENT_EVICT (R402). Below FREE_TARGET the tier map starts demoting a victim segment. -/
  | segmentEvict
  /-- SEGMENT_EVICT_DONE (R404). An eviction commits when no write arrived, or is cancelled by a write. -/
  | segmentEvictDone (hs : Nat)
  /-- FRAME_MOVE_DONE (R404). A T1 frame move completes and the segment takes its new frame. -/
  | frameMoveDone (hs : Nat)
  /-- LOAD_LATE (R405). A read held for a demand load past the host request guard returns poison. -/
  | loadLate (line : Nat)
  /-- LEASE_REQ (R407). A lender receives LEASE_REQ and may grant frames. -/
  | leaseReq (addr wanted : Nat)
  /-- LEASE_GRANT (R407). A borrower receives LEASE_GRANT with frames, region key and epoch. -/
  | leaseGrant (i : Fin 16) (frames : List Nat) (rkey epoch : Nat)
  /-- LEASE_RETURN (R407). A lender receives LEASE_RETURN and frees the frames. -/
  | leaseReturn (addr : Nat) (frames : List Nat)
  /-- LEASE_RECALL (R408). A borrower receives LEASE_RECALL and moves the recalled segments back before the deadline. -/
  | leaseRecall (i : Fin 16) (frames : List Nat)
  /-- LEASE_PING (R409). A received LEASE_PING refreshes the lease, or a new epoch loses the T2 segments. -/
  | leasePing (fromLender : Bool) (who epoch : Nat)
  /-- LEASE_PING_TIMER (R407). The 100 ms timer sends a LEASE_PING. -/
  | leasePingTimer
  /-- LEASE_RECALL_DEADLINE (R409). A recall deadline passes, the lender takes the frames back and the borrower's segments are lost. -/
  | leaseRecallDeadline (asLender : Bool) (who : Nat)
  /-- LEASE_GRACE_EXPIRED (R409). LEASE_PING has been absent for LEASE_GRACE, and the lender's T2 segments are lost. -/
  | leaseGraceExpired (i : Fin 16)
  /-- LEASE_OPEN (R450). A lender receives LEASE_OPEN, creates its side and answers LEASE_ACCEPT. -/
  | leaseOpen (addr qpn psn salt ctr : Nat)
  /-- LEASE_ACCEPT (R450). A borrower receives LEASE_ACCEPT and the lease connection is set up. -/
  | leaseAccept (i : Fin 16) (qpn psn salt ctr : Nat)
  /-- LEASE_OPEN_RESEND (R450). No answer within 10 ms resends the lease open, up to 8 times, then writes record 0xB009. -/
  | leaseOpenResend (i : Fin 16)
  /-- PD_ALLOC (R425). The Latigo command PD_ALLOC allocates a protection domain for a tenant. -/
  | pdAlloc (who : Issuer) (slot : Fin 128) (tag tenant : Nat)
  /-- PD_FREE (R425). The Latigo command PD_FREE frees a protection domain. -/
  | pdFree (who : Issuer) (slot : Fin 128) (tag pd : Nat)
  /-- CQ_CREATE (R424). The Latigo command CQ_CREATE creates a completion queue. -/
  | cqCreate (who : Issuer) (slot : Fin 128) (tag owner dpa entries qslot : Nat)
  /-- CQ_DESTROY (R432). The Latigo command CQ_DESTROY destroys an unused completion queue. -/
  | cqDestroy (who : Issuer) (slot : Fin 128) (tag cq : Nat)
  /-- CONN_CREATE (R426). The Latigo command CONN_CREATE creates a resident connection in RTS. -/
  | connCreate (who : Issuer) (slot : Fin 128) (tag : Nat) (p : ConnParams)
  /-- CONN_MODIFY_ERROR (R427). CONN_MODIFY action 0 puts a connection into ERROR. -/
  | connModifyError (who : Issuer) (slot : Fin 128) (tag id : Nat)
  /-- CONN_MODIFY_TX_KEY (R449). CONN_MODIFY action 1 sets the transmit key and salt. -/
  | connModifyTxKey (who : Issuer) (slot : Fin 128) (tag id key salt : Nat)
  /-- CONN_MODIFY_RX_KEY (R449). CONN_MODIFY action 2 sets the receive key for one key phase. -/
  | connModifyRxKey (who : Issuer) (slot : Fin 128) (tag id phase key : Nat)
  /-- CONN_DESTROY (R427). The Latigo command CONN_DESTROY destroys a connection in ERROR. -/
  | connDestroy (who : Issuer) (slot : Fin 128) (tag id : Nat)
  /-- REGION_REGISTER (R441). The Latigo command REGION_REGISTER registers a region and returns its rkey. -/
  | regionRegister (who : Issuer) (slot : Fin 128) (tag owner pd base len acc : Nat)
  /-- REGION_REVOKE (R445). The Latigo command REGION_REVOKE marks a region DRAINING until its messages end. -/
  | regionRevoke (who : Issuer) (slot : Fin 128) (tag rkey : Nat)
  /-- REVOKE_FORCED (R446). REVOKE_GUARD expires with messages still counting, so they are NAKed and the region freed. -/
  | revokeForced (k : Nat)
  /-- SQ_TAIL (R430). A write to SQ_TAIL publishes send queue entries. -/
  | sqTail (n : Fin 64) (qslot : Nat) (value : Word)
  /-- RQ_TAIL (R430). A write to RQ_TAIL publishes receive queue entries. -/
  | rqTail (n : Fin 64) (qslot : Nat) (value : Word)
  /-- CQ_HEAD (R431). A write to CQ_HEAD frees completion queue room and restarts stalled queues. -/
  | cqHead (n : Fin 64) (qslot : Nat) (value : Word)
  /-- WQE_NOP (R431). A NOP work queue entry completes in order. -/
  | wqeNop (id : Nat) (far : Bytes)
  /-- WQE_WRITE (R431). A WRITE work queue entry sends an RDMA WRITE to the peer. -/
  | wqeWrite (id : Nat) (far : Bytes)
  /-- WQE_READ (R431). A READ work queue entry issues an RDMA READ and places the data through the Welt path. -/
  | wqeRead (id : Nat) (far : Bytes)
  /-- WQE_SEND (R431). A SEND work queue entry sends a SEND message. -/
  | wqeSend (id : Nat) (far : Bytes)
  /-- WQE_CAS (R431). A CAS work queue entry issues a compare-and-swap atomic. -/
  | wqeCas (id : Nat) (far : Bytes)
  /-- WQE_FAA (R431). An FAA work queue entry issues a fetch-and-add atomic. -/
  | wqeFaa (id : Nat) (far : Bytes)
  /-- WQE_WAIT (R432). A WAIT entry holds its send queue until the named CQ count reaches the target. -/
  | wqeWait (id : Nat) (far : Bytes)
  /-- CQE_WRITE (R431). A CQE is written after every data write of its entry completed, releasing any WAIT it satisfies. -/
  | cqeWrite (id : Nat) (rq : Bool) (far : Bytes)
  /-- RDMA_WRITE_REQUEST (R442). A received RDMA WRITE enters the Welt path and is acknowledged when complete. -/
  | rdmaWriteRequest (p : RxPkt)
  /-- RDMA_READ_REQUEST (R443). A received RDMA READ is served as a host read. -/
  | rdmaReadRequest (p : RxPkt)
  /-- SEND_REQUEST (R442). A received SEND is placed into a receive entry through the Welt path. -/
  | sendRequest (p : RxPkt) (far : Bytes)
  /-- COMPARE_AND_SWAP (R444). A received CAS is performed at the home slice as one read-modify-write. -/
  | compareAndSwap (p : RxPkt)
  /-- FETCH_AND_ADD (R444). A received FAA is performed at the home slice as one read-modify-write. -/
  | fetchAndAdd (p : RxPkt)
  /-- ROCE_ACK_RECEIVED (R428). An ACK or response arrives and completes its WQE at the WQE's commit point. -/
  | roceAckReceived (id psn : Nat) (data : Bytes)
  /-- ROCE_NAK_RECEIVED (R433). A peer NAK ends the WQE with its status and the connection enters ERROR, or RNR is retried. -/
  | roceNakReceived (id : Nat) (kind : NakKind)
  /-- ROCE_ACK_TIMEOUT (R427). The local ACK timeout expires and the packet is retried, or the connection enters ERROR. -/
  | roceAckTimeout (id : Nat)
  /-- CNP_RECEIVED (R423). A received CNP halves the connection's transmit rate. -/
  | cnpReceived (id : Nat)
  /-- CNP_RATE_RECOVERY (R423). Each 100 µs without a CNP raises the transmit rate by 5 Gb/s. -/
  | cnpRateRecovery (id : Nat)
  /-- CONTEXT_FETCH_DONE (R439). A fetched context arrives, the connection becomes RESIDENT and parked packets are processed. -/
  | contextFetchDone (id took : Nat)
  /-- CONTEXT_EVICT (R438). The engine evicts an idle candidate to keep EVICT_SLACK slots free, or refuses it. -/
  | contextEvict
  /-- ETH_LINK_CHANGE (R422). An Ethernet port link comes up or goes down. -/
  | ethLinkChange (port : Fin 4) (up : Bool)
  /-- CIPHER_JOB_SUBMIT (R456). A cipher job enters its class queue, or ends with LENGTH when outside the limits. -/
  | cipherJobSubmit (cls : Fin 4) (tag owner slot iv du aad : Nat) (data : Bytes) (tagOk : Bool)
  /-- CIPHER_JOB_DONE (R457). A core finishes a job and the scheduler hands the next job to it. -/
  | cipherJobDone (core : Fin 16)
  /-- CORE_ISOLATED (R474). A core failing its tests or pipeline parity is isolated and its job reissued. -/
  | coreIsolated (core : Fin 16)
  /-- KEY_SLOT_BROKEN (R472). A key slot with an uncorrectable error becomes BROKEN. -/
  | keySlotBroken (slot : Fin 8192)
  /-- KEY_LOAD (R466). Key command LOAD unwraps an import blob into a key slot. -/
  | keyLoad (who : Issuer) (cslot : Fin 128) (tag slot tenant : Nat) (persist : Bool) (format usage : Nat) (blob : Bytes)
  /-- KEY_FREE (R467). Key command FREE zeroes a slot and makes it FREE. -/
  | keyFree (who : Issuer) (cslot : Fin 128) (tag slot : Nat)
  /-- DRIVE_INSERTED (R355). A drive is inserted, its label read and its slot state set. -/
  | driveInserted (slot : Fin 24) (info : DriveInfo)
  /-- DRIVE_REMOVED (R376). Surprise removal of a drive makes its member FAILED. -/
  | driveRemoved (slot : Fin 24)
  /-- DRIVE_COMMAND_COMPLETE (R352). An NVMe command completes, including an unrecovered read error. -/
  | driveCommandComplete (slot : Fin 24) (id : Nat) (res : DriveResult)
  /-- DRIVE_COMMAND_TIMEOUT (R376). A command is not completed within DRIVE_TIMEOUT, so Abort or a controller reset is tried. -/
  | driveCommandTimeout (slot : Fin 24) (id : Nat)
  /-- READ_SHORTCUT_EXPIRED (R374). A read not done within READ_SHORTCUT is reconstructed from the rest of its stripe. -/
  | readShortcutExpired (slot : Fin 24) (id : Nat)
  /-- DRIVE_ASYNC_EVENT (R376). A SMART critical warning makes a member FAILED or PREDICTED. -/
  | driveAsyncEvent (slot : Fin 24) (spareLow readOnly backupFailed : Bool)
  /-- DRIVE_LINK_DOWN_EXPIRED (R376). A drive link down for 5 s makes its member FAILED. -/
  | driveLinkDownExpired (slot : Fin 24)
  /-- FORCE_FAIL (R376). A write of AWL_MBR_CTRL.FORCE_FAIL makes the member FAILED with cause 6. -/
  | forceFail (slot : Fin 24)
  /-- REBUILD_START (R378). A write of AWL_SET_CTRL.START starts a pending rebuild. -/
  | rebuildStart (n : Fin 8)
  /-- REBUILD_STRIPE (R379). The rebuild writes the target unit of one stripe from DRAM, reconstruction or relocation. -/
  | rebuildStripe (n : Fin 8) (stripe unit : Nat) (readable : Bool) (bad : List (Nat × Nat)) (last : Bool)
  /-- HOST_GUARD_EXPIRED (R488). The host request guard expires, and the request ends as its kind requires. -/
  | hostGuardExpired (q : HostReq)
  /-- ENGINE_WATCHDOG_EXPIRED (R489). An engine shows no progress for its watchdog period, which is an S2 fault. -/
  | engineWatchdogExpired (e : Engine)
  /-- KEEPER_HEARTBEAT_MISSED (R490). A keeper core misses its heartbeat period, so its engines pause and it is reloaded. -/
  | keeperHeartbeatMissed (k : Fin 8)
  /-- KEEPER_RELOAD_DONE (R490). A reloaded keeper core returns and its engines resume. -/
  | keeperReloadDone (k : Fin 8)
  /-- POMMEL_WATCHDOG (R487). The pommel watchdog expires, which is an S4 fault. -/
  | pommelWatchdog
  /-- FAULT_REPORTED (R484). A unit reports a fault, which is graded against the open rung and starts or raises its reaction. -/
  | faultReported (u : FUnit) (code : Fin 65536) (inst : Byte) (sev : Fin 6) (repeatOk : Bool)
  /-- GROUP_RETRY_EXPIRED (R480). GROUP_RETRY ends, and the disabled group is reset and enabled once. -/
  | groupRetryExpired (g : FGroup)
  /-- RECOVERY_WINDOW_CLOSE (R476). A reaction has ended and its settle time has passed, closing the recovery window. -/
  | recoveryWindowClose (sc : Scope)
  /-- FLS_BANK_CLAIM (R540). A read of FLS_B_CLAIM claims a flash bank when it is free. -/
  | flsBankClaim (m : Fin 11) (b : Fin 4)
  /-- FLS_BANK_RELEASE (R540). The owner writes RELEASE and frees the bank. -/
  | flsBankRelease (m : Fin 11) (b : Fin 4)
  /-- FLS_CLAIM_EXPIRED (R540). The bank owner makes no access for 1 s and the bank is released. -/
  | flsClaimExpired (b : Fin 4)
  /-- FLASH_READ (R540). Flash command READ returns up to 256 bytes, or the status word from a busy bank. -/
  | flashRead (m : Fin 11) (b : Fin 4) (corrected : Bool)
  /-- FLASH_PROGRAM (R541). Flash command PROGRAM programs up to 256 bytes within a page. -/
  | flashProgram (m : Fin 11) (b : Fin 4)
  /-- FLASH_ERASE (R548). Flash command ERASE sets the sector flag and erases the sector. -/
  | flashErase (m : Fin 11) (b : Fin 4)
  /-- FLASH_SUSPEND (R545). Flash command SUSPEND suspends the running erase or program, deferred inside the minimum run time. -/
  | flashSuspend (m : Fin 11) (b : Fin 4)
  /-- FLASH_RESUME (R546). Flash command RESUME resumes the suspended operation for at least 1,000 µs. -/
  | flashResume (m : Fin 11) (b : Fin 4)
  /-- READ_WEAR (R553). Flash command READ_WEAR returns a sector's erase count. -/
  | readWear (m : Fin 11) (b : Fin 4)
  /-- FLASH_ABORT (R542). ABORT of a flash command wins before its commit point or returns ABORT_TOO_LATE. -/
  | flashAbort (m : Fin 11) (b : Fin 4)
  /-- FLASH_SUSPEND_EFFECT (R545). The suspend takes effect within 30 µs and SUSPEND ends with OK. -/
  | flashSuspendEffect (b : Fin 4)
  /-- FLASH_RUN_WINDOW_END (R546). The minimum run time after RESUME ends and a deferred SUSPEND proceeds. -/
  | flashRunWindowEnd (b : Fin 4)
  /-- FLASH_PROGRAM_DONE (R553). A PROGRAM ends, verified or failed. -/
  | flashProgramDone (b : Fin 4) (ok : Bool)
  /-- FLASH_ERASE_DONE (R548). An ERASE verifies and clears its flag, or fails with record 0xD004. -/
  | flashEraseDone (b : Fin 4) (ok : Bool)
  /-- FW_DATA (R560). A write of FW_DATA erases and programs one 64 KiB sector of the non-running slot. -/
  | fwData (r : Route) (client : Nat) (data : Bytes)
  /-- FW_ACTIVATE (R561). FW_ACTIVATE 0x4143_5456 verifies the slot with the protocol check and makes it PENDING. -/
  | fwActivate (r : Route) (client : Nat)
  /-- FW_ACTIVATE_FORCE (R561). FW_ACTIVATE 0x4143_5446 verifies the slot without the protocol check and makes it PENDING. -/
  | fwActivateForce (r : Route) (client : Nat)
  /-- FW_ACTIVATE_CANCEL (R561). FW_ACTIVATE 0x4341_4E43 returns a PENDING slot to VALID. -/
  | fwActivateCancel (r : Route) (client : Nat)
  /-- FW_CONFIRMED (R563). CONFIRM_TIME passes with the conditions held, and the trial slot becomes CONFIRMED. -/
  | fwConfirmed
  /-- RECORD_SUBMIT (R569). A unit reports a record, which is admitted with SEQ and timestamp or suppressed. -/
  | recordSubmit (code : Fin 65536) (sev : Fin 6) (inst : Byte) (items : Bytes)
  /-- RECORD_PROGRAMMED (R572). A staged record is programmed into LAST and FIRST, freeing staging room. -/
  | recordProgrammed
  /-- READ_BLOCK (R578). A read of READ_BLOCK returns whole records from READ_FROM onward. -/
  | readBlock (r : Route) (client : Nat)
  /-- LX_RING_TAIL_WRITE (R589). A write of RING_TAIL publishes LX command entries, which are fetched and started. -/
  | lxRingTailWrite (e : Fin 2) (r : Fin 8) (value : Word)
  /-- LX_BANK_WRITE (R586). A write of LXF_BANK stages a new bank for the next compatibility tick. -/
  | lxBankWrite (e : Fin 2) (value : Word)
  /-- LX_RING_RESET (R593). RING_RESET quiesces the endpoint's LD and clears its rings. -/
  | lxRingReset (e : Fin 2)
  /-- FUNCTION_LEVEL_RESET (R593). A PCIe Function Level Reset resets the endpoint's rings like RING_RESET. -/
  | functionLevelReset (e : Fin 2)
  /-- NOP (R589). The LX opcode NOP completes at once. -/
  | nop (e : Fin 2) (r : Fin 8) (flags : Nat)
  /-- FLUSH (R590). The LX opcode FLUSH runs a HOST-scope barrier of level PAIR. -/
  | flush (e : Fin 2) (r : Fin 8) (flags : Nat)
  /-- FLUSH_MEDIA (R590). The LX opcode FLUSH_MEDIA runs a HOST-scope barrier of level MEDIA. -/
  | flushMedia (e : Fin 2) (r : Fin 8) (flags : Nat)
  /-- ZERO (R589). The LX opcode ZERO writes full lines of zero over a range through the Welt path. -/
  | zero (e : Fin 2) (r : Fin 8) (flags dpa len : Nat)
  /-- IDENTIFY (R589). The LX opcode IDENTIFY writes a 4 KiB identity page to HOST_ADDR. -/
  | identify (e : Fin 2) (r : Fin 8) (flags hostAddr : Nat)
  /-- FW_DOWNLOAD (R589). The LX opcode FW_DOWNLOAD ends with INVALID. -/
  | fwDownload (e : Fin 2) (r : Fin 8) (flags : Nat)
  /-- FW_COMMIT (R589). The LX opcode FW_COMMIT ends with INVALID. -/
  | fwCommit (e : Fin 2) (r : Fin 8) (flags : Nat)
  /-- LX_UNKNOWN_OPCODE (R589). Any other LX opcode ends with INVALID. -/
  | lxUnknownOpcode (e : Fin 2) (r : Fin 8) (op : Byte) (flags : Nat)
  /-- LX_COMMAND_STATUS (R591). A finished LX command's status is written in ring order and RING_HEAD advances. -/
  | lxCommandStatus (e : Fin 2) (r : Fin 8)
  /-- PSU_OK_HIGH (R318). PSU_OK returns high, which lets the common start or the 2 s requalification count begin. -/
  | psuOkHigh
  /-- HOLDUP_LOW_N_HIGH (R318). HOLDUP_LOW_N returns high, which lets the common start or the requalification count begin. -/
  | holdupLowNHigh
  /-- FAULT_N_RELEASED (R504). FAULT_N, held low by another node, is released high, which lets the common start or requalification proceed. -/
  | faultNReleased
  /-- PSU_OK_GLITCH (R521). A PSU_OK low shorter than 1 µs is counted in HAM_GLITCH and changes nothing else. -/
  | psuOkGlitch
  /-- HOLDUP_LOW_N_GLITCH (R521). A HOLDUP_LOW_N low shorter than 1 µs is counted in HAM_GLITCH and changes nothing else. -/
  | holdupLowNGlitch
  /-- SYSCLK_RETURN (R609). SYSCLK_IN returns within its limits after a loss, which allows requalification again. -/
  | sysclkReturn
  /-- VDD_AON_RETURN (R603). VDD_AON and VDDIO_AON come within tolerance, the always-on group and sequencer start with RAIL_EN low and await PORST_N release. -/
  | vddAonReturn
  /-- WRST_N_RELEASE (R533). WRST_N rises after a pin warm reset, so the reset may take hold once the drain has ended. -/
  | wrstNRelease
  /-- PRESENCE_N_PRESS (R118). PRESENCE_N goes low, starting the 2 s and 30 s press timings. -/
  | presenceNPress
  /-- PRESENCE_N_RELEASE (R120). PRESENCE_N goes high, ending the press before a window opens or starting the 1 s re-arm after a stuck press. -/
  | presenceNRelease
  /-- RAIL_PG_FALL (R518). RAIL_PG of a slot whose RAIL_EN fell goes low within PG_TIMEOUT, letting COMMIT step 6 or a retry proceed. -/
  | railPgFall (n : Fin 32)
  /-- DRIVE_LINK_CHANGE (R376). A drive root-port link goes down, starting the 5 s count, or comes back up, for example after a DRIVE rail retry. -/
  | driveLinkChange (slot : Fin 24) (up : Bool) (width : Nat) (gen5 : Bool)
  /-- DRIVE_RESET_TIMEOUT (R376). After a DRIVE_TIMEOUT, neither Abort nor a controller reset succeeds within 10 s, and the member becomes FAILED with cause 2. -/
  | driveResetTimeout (slot : Fin 24)
  /-- DOORBELL_ADDR_WRITE (R141). A host write to a doorbell slot's ADDR stores the record address, or is a violation on a BUSY slot or a non-writable offset. -/
  | doorbellAddrWrite (n : Fin 64) (slot : Fin 64) (off value : Nat)
  /-- LX_REGISTER_WRITE (R592). A write to an LX register file register such as RING_BASE, RING_CFG, LXF_CTRL or LXF_INT_STATUS stages or refuses it and may set RING_ERR. -/
  | lxRegisterWrite (e : Fin 2) (off : Nat) (value : Word)
deriving DecidableEq, Repr

end Sys2Proof
end

