-- ==== Sys2Proof/Decode.lean ====
section
/-!
DEFINITION. The decoder over the command table's words. No row of the table gives bits: the commands come from hosts, masters,
partners, pins and timers, and no word spells one of them, so the decoder answers none on every word.
-/
namespace Sys2Proof

/-- The command that a word spells by the table's bits: no row gives any. -/
def decodeTableWord (_nbits _w : Nat) : Option Instr := none

end Sys2Proof
end

