-- ==== Sys2Proof/Machine/State.lean ====
section
/-!
DEFINITION. State: everything the spec gives the machine, as plain data; Fault and Refusal; State.reset. Register fields
stand in `State.csr` unless the structure of a unit holds what they show.
-/
namespace Sys2Proof.Machine

/-! ### Register fields, event codes and access codes -/

/-- A register field: its bit address (8 × the window offset + its first bit), its width and its reset value. LX-310
register file fields stand above the CSR window, at 8 × (0x400_0000 + 0x1000 × endpoint + offset) + first bit. -/
structure Fld where
  addr : Nat
  width : Nat
  reset : Nat
deriving DecidableEq, Repr

/-- An event code and the severity its table gives (R582). -/
structure Ev where
  code : Nat
  sev : Nat
deriving DecidableEq, Repr

/-- Access codes (R65); `rsvd` is a reserved bit (R87, R88); `w1cb` is W1C through the LX staging (LXF_INT_STATUS). -/
inductive Access where
  | ro | rw | rwb | rwl | w1c | w1s | wo | rc | rlt | rsvd | w1cb
deriving DecidableEq, Repr

/-- One field of a register row. -/
structure FieldRow where
  lo : Nat
  width : Nat
  code : Access
  reset : Nat
  lock : Nat
deriving DecidableEq, Repr

/-- One register row: `count` copies at `base + stride × k`. -/
structure RegRow where
  base : Nat
  stride : Nat
  count : Nat
  fields : List FieldRow
deriving DecidableEq, Repr

/-- Completion status codes (R499). -/
inductive Status where
  | ok | okCorrected | busyRetry | aborted | abortTooLate | functionDisabled | timeout | length | alignment
  | badDescriptor | access | keyRevoked | quota | sealedRefused | mediaPoison | streamDeadline | partnerViolation
  | notReady | internal
deriving DecidableEq, Repr

/-! ### The Stamp recorder (R567 to R581) -/

/-- A record (R567): SEQ, CODE, timestamp, severity, suppressed count and payload. -/
structure Rec where
  seq : Nat
  code : Nat
  count : Nat
  phase : Nat
  sev : Nat
  supp : Nat
  payload : Bytes
deriving DecidableEq, Repr

/-- A record programmed into a sector of a flash area; `torn` when its CRC fails (R576). -/
structure AreaRec where
  sector : Nat
  rcd : Rec
  torn : Bool
deriving DecidableEq, Repr

/-- The stages of a clear (R580): writing CLEAR_INTENT, erasing FIRST, writing RECORDER_CLEARED, erasing LAST. -/
inductive ClearStage where
  | intent | eraseFirst (sector : Nat) | cleared | eraseLast (sector : Nat)
deriving DecidableEq, Repr

/-- A clear that runs, with what its RECORDER_CLEARED record will carry. -/
structure Clearing where
  stage : ClearStage
  intentSeq : Nat
  route : Nat
  client : Nat
deriving DecidableEq, Repr

/-- The Stamp recorder. `regs` holds the fields of the STM register block. `buckets` holds, per code, units of 1/h token
(R59) where the bucket is not full; `supp` the suppressed count per code. -/
structure Stm where
  regs : List (Nat × Nat) := []
  staging : List Rec := []
  buckets : List (Nat × Nat) := []
  supp : List (Nat × Nat) := []
  overflow : Bool := false
  headSeq : Nat := 0
  flashedSeq : Nat := 0
  last : List AreaRec := []
  lastSector : Nat := 0
  lastUsed : Nat := 0
  first : List AreaRec := []
  firstSector : Nat := 0
  firstUsed : Nat := 0
  firstFull : Bool := false
  indeterminate : List Nat := []
  clearing : Option Clearing := none
  eraseStopped : Bool := false
deriving DecidableEq, Repr

/-! ### The line clock (R33 to R59) -/

/-- LCK_STATUS.STATE. -/
inductive LckState where
  | acquire | locked | holdover | synthetic
deriving DecidableEq, Repr

/-- The line clock. Times are in units of 1/1,024 SYSCLK_IN cycle; `period` is the measured half-cycle in SYSCLK_IN
cycles. `xings` holds the crossings that R39 takes the mean over: time and boundary index. -/
structure LineClock where
  count : Nat := 0
  phase : Nat := 0
  state : LckState := .acquire
  freq60 : Bool := false
  forceSynth : Bool := false
  synth60 : Bool := false
  listening : Bool := false
  awaitNext : Option Nat := none
  aligned : Bool := false
  realign : Option Nat := none
  lineSeen : Bool := false
  missRun : Nat := 0
  goodRun : Nat := 0
  period : Nat := 0
  acc : Nat := 0
  xings : List (Nat × Nat) := []
  goodSince : Nat := 0
  outOfRange : Bool := false
  phaseErr : Int := 0
  lastBoundary : Nat := 0
  boundaries : Nat := 0
  prevExp : Nat := 0
  prevDone : Bool := true
  nextGood : Bool := false
  reservation : Nat := 0
  mismatchRun : Nat := 0
  countLost : Bool := true
deriving DecidableEq, Repr

/-! ### The register interface (R60 to R88) -/

/-- A running mailbox operation: whether it writes, whether its commit point has passed, and what it will report. -/
structure MbxOp where
  isWrite : Bool
  committed : Bool
  key : Nat
  status : Status
  data : Bytes
  total : Nat
deriving DecidableEq, Repr

/-- The state of the CSR window that is no register field: staged RWB copies (by field bit address), 64-bit shadows with
the _LO registers read since PORST_N, and 32-bit staging words (by 32 × master + block), whether a REAPPLY waits for its next snapshot (R85), and the dictionary mailbox. -/
structure Iface where
  staged : List (Nat × Nat) := []
  shadow : List (Nat × (List Nat × Nat)) := []
  stageWord : List (Nat × (Nat × Nat)) := []
  rewrote : Bool := false
  mbxOp : Option MbxOp := none
  mbxData : Bytes := []
deriving DecidableEq, Repr

/-! ### The object dictionary, Tack and physical presence (R89 to R123) -/

/-- One of the two copies of a layer of the configuration store (R102). -/
structure StoreCopy where
  gen : Nat := 0
  good : Bool := true
  vals : List (Nat × Bytes) := []
deriving DecidableEq, Repr

/-- A layer of the configuration store: two copies (R102). -/
structure Layer where
  a : StoreCopy := {}
  b : StoreCopy := {}
deriving DecidableEq, Repr

/-- The layers: the base configuration and the overlays (R5, R101). -/
inductive LayerId where
  | base | native | compat | single | service
deriving DecidableEq, Repr

/-- A write staged on an entry (R107). -/
structure OdStaged where
  key : Nat
  route : Route
  client : Nat
  total : Nat
  data : Bytes
deriving DecidableEq, Repr

/-- The object dictionary: active values that differ from the defaults, values of RW-TICK entries that wait for the next tick boundary,
region subentries staged for a write of RGN_LD (R209), the configuration store with the rail record, staged writes, a store
that runs, the write that each client completed last (64 × channel + node and its TAG, or 256 + LD and its key), and what is pending for the next PORST_N. -/
structure Dict where
  active : List (Nat × Bytes) := []
  tickNext : List (Nat × Bytes) := []
  rgnStaged : List (Nat × Nat) := []
  base : Layer := {}
  native : Layer := {}
  compat : Layer := {}
  single : Layer := {}
  service : Layer := {}
  rail : Layer := {}
  inForce : List LayerId := []
  opened : Bool := false
  staged : List OdStaged := []
  storing : Option (List (LayerId × Nat × Bytes)) := none
  done : List (Nat × Nat) := []
  factoryPending : Bool := false
deriving DecidableEq, Repr

/-- A Tack transaction (R112 to R115). -/
structure TackTxn where
  chan : Nat
  client : Nat
  tag : Nat
  key : Nat
  isWrite : Bool
  total : Nat
  data : Bytes
  nextSeg : Nat
  acked : Nat
deriving DecidableEq, Repr

/-- The Tack protocol. -/
structure Tack where
  node : Nat := 0x20
  txns : List TackTxn := []
  listening : Bool := false
  chanViol : List (Nat × Nat) := []
deriving DecidableEq, Repr

/-- Physical presence (R118 to R121). -/
structure Presence where
  low : Bool := false
  stuck : Bool := false
  openedByPress : Bool := false
  window : Bool := false
  openedAt : Nat := 0
  policyNext : Option Nat := none
  fellAt : Nat := 0
  roseAt : Nat := 0
deriving DecidableEq, Repr

/-! ### Partners (R497) -/

/-- The times of a partner's counted violations (newest first) and the end of its containment. -/
structure Conduct where
  times : List Nat := []
  contained : Option Nat := none
deriving DecidableEq, Repr

/-! ### The fault manager (R476 to R496) -/

/-- A recovery window (R476): its rung, the fault that opened it, and the moment its reaction ended. -/
structure Window where
  scope : Scope
  rung : Nat
  code : Nat
  inst : Nat
  endedAt : Option Nat
deriving DecidableEq, Repr

/-- Function states (R495). -/
inductive FnPhase where
  | enabled | quiescing | disabled
deriving DecidableEq, Repr

/-- What a function has been asked for: a disable, an enable or a unit reset waiting for its moment (R495, R496). -/
inductive FnWant where
  | none | disable | enable | reset
deriving DecidableEq, Repr

/-- A function: its state, what is asked of it, the end of its abort time (its length until QUIESCING is entered at the next tick),
and the operations aborted. -/
structure FnState where
  phase : FnPhase := .enabled
  want : FnWant := .none
  abortTime : Nat := 0
  aborted : Nat := 0
deriving DecidableEq, Repr

/-- Why a fault group is DISABLED (R480): waiting for GROUP_RETRY, or held until the next warm reset. -/
inductive GroupOff where
  | retry | held
deriving DecidableEq, Repr

/-- The fault manager. -/
structure FaultMgr where
  windows : List Window := []
  fns : List (Fn × FnState) := []
  groups : List (FGroup × GroupOff) := []
  isolated : List FUnit := []
  s4times : List Nat := []
  s5at : Option Nat := none
  s5restartPending : Bool := false
  alerts : List Nat := []
deriving DecidableEq, Repr

/-! ### Power sequencing (R500 to R523) -/

/-- HAM_RAIL_STATUS.STATE. -/
inductive RailState where
  | off | waitOn | ramp | on | retryWait | faultOff | faultOn | waitOff
deriving DecidableEq, Repr

/-- The class of a rail (R501). -/
inductive RailClass where
  | aux | host | net | drive | stirrup | dram | sram | core
deriving DecidableEq, Repr

/-- The reaction of a rail (R501). -/
inductive RailReaction where
  | ignore | retry | groupOff | sysReset
deriving DecidableEq, Repr

/-- A rail slot: its configuration in use (HAM_RAIL_CFG, HAM_RAIL_TIME, HAM_RAIL_PG) and its state. -/
structure Rail where
  enable : Bool := false
  group : Nat := 0
  cls : RailClass := .aux
  reaction : RailReaction := .ignore
  retain : Bool := false
  svc : Bool := false
  feeds : Nat := 0
  onDelay : Nat := 0
  offDelay : Nat := 0
  pgTimeout : Nat := 0
  state : RailState := .off
  en : Bool := false
  pg : Bool := false
  attempts : Nat := 0
  retrying : Bool := false
  stuck : Bool := false
deriving DecidableEq, Repr

/-- HAM_STATUS.SEQ. -/
inductive SeqState where
  | off | powerUp | running | powerDown | requal | backout | halted
deriving DecidableEq, Repr

/-- HAM_GROUPS.G. -/
inductive RailGroupState where
  | on | retrying | offRetry | offHeld
deriving DecidableEq, Repr

/-- The Hame sequencer and the supply inputs. -/
structure Ham where
  vddAon : Bool := true
  rails : List (Nat × Rail) := []
  seq : SeqState := .off
  backouts : Nat := 0
  tableSrc : Nat := 0
  groups : List (Nat × RailGroupState) := []
  doms : BitVec 96 := 0xF00000000000000000000000#96
  domFault : List Nat := []
  psuOk : Bool := false
  holdupLowN : Bool := false
  faultNExt : Bool := false
  faultNDriven : Bool := false
  wdi : Bool := false
  sysclkOk : Bool := true
  goodSince : Option Nat := none
deriving DecidableEq, Repr

/-! ### Bring-up and reset (R1 to R5, R524 to R536) -/

/-- The selected mode (R2). -/
inductive Mode where
  | native | compat | service | refused
deriving DecidableEq, Repr

/-- Why bring-up stands still (R524). -/
inductive BringupStop where
  | none | refused | halted | noSlot | dram | setKey | stalled
deriving DecidableEq, Repr

/-- A warm reset under way (R533). -/
inductive WarmPhase where
  | none | draining | running
deriving DecidableEq, Repr

/-- The result of the retention check (GLB_BOOT.RETENTION, R526, R531). -/
inductive Retention where
  | unchecked | passed | failedNothingLost | failedWithLoss | failed
deriving DecidableEq, Repr

/-- Straps, mode, bring-up step, readiness and resets. -/
structure Boot where
  porst : Bool := true
  porstDeferred : Bool := false
  modeStrap : Nat := 0
  serviceN : Bool := true
  twinPresentN : Bool := true
  mode : Mode := .native
  stage : Nat := 0
  stop : BringupStop := .none
  late : Bool := false
  startAt : Nat := 0
  stepAt : Nat := 0
  ready : Bool := false
  memInfoValid : Bool := false
  memActive : Bool := false
  warm : WarmPhase := .none
  wrstLow : Bool := false
  drained : Bool := false
  warmPath : Bool := false
  retention : Retention := .unchecked
  retLatch : Bool := false
  marker : Nat := 0
  weltMarker : Nat := 0
  jrnMarker : Nat := 0
  sandbox : Bool := false
deriving DecidableEq, Repr

/-! ### Host ports (R124 to R151) -/

/-- An HDM decoder of an LD (R132). -/
structure Decoder where
  committed : Bool := false
  refused : Bool := false
  base : Nat := 0
  size : Nat := 0
  skip : Nat := 0
  ways : Nat := 1
  gran : Nat := 256
  bi : Bool := false
  lock : Bool := false
deriving DecidableEq, Repr

/-- A doorbell slot (R141). -/
structure DbSlot where
  addr : Nat := 0
  busy : Bool := false
deriving DecidableEq, Repr

/-- A CXL event record in an LD's log: 0 informational, 1 warning, 2 failure, 3 fatal; a handle and the code it reports. -/
structure CxlEvent where
  log : Nat
  handle : Nat
  code : Nat
deriving DecidableEq, Repr

/-- What an LD holds beside its registers: decoders, doorbell slots, readiness, the fence, the mailbox's state. -/
structure LDev where
  decoders : List (Nat × Decoder) := []
  slots : List (Nat × DbSlot) := []
  memActive : Bool := false
  fenced : Bool := false
  standby : Bool := false
  standbyOpen : Bool := false
  tsOffset : Nat := 0
  events : List CxlEvent := []
  nextHandle : Nat := 1
  eventPolicy : Nat := 0
  dirtyShutdowns : Nat := 0
deriving DecidableEq, Repr

/-- Who writes a line: a host with its tag, the Latigo engine for a message, a keeper core's non-temporal store, an LX ring
command, or Clear Poison on an LD's mailbox. -/
inductive Writer where
  | host (port ld tag : Nat) | latigo (conn msg : Nat) | keeper (core : Nat) | lx (ep ring idx : Nat) | mailbox (ld : Nat)
deriving DecidableEq, Repr

/-- A write accepted and not yet completed (R154, R157, R241): who wrote it, its line, and what its completion waits for:
the twin's acknowledgement of its bytes, the end of its snoop round, admission. -/
structure HeldWrite where
  id : Nat
  who : Writer
  line : Nat
  seq : Nat
  pair : Bool
  mir : Option Nat
  round : Bool
  admission : Bool
  since : Nat
deriving DecidableEq, Repr

/-- Who reads a line: a host with its tag, a caching agent, the Latigo engine for a message, or nobody (a refetch). -/
inductive Reader where
  | host (port ld tag : Nat) | agent (a : Nat) | latigo (conn msg idx : Nat) | refetch
deriving DecidableEq, Repr

/-- Why a read is held (R21, R22, R277, R415, R587): a demand load, a stream layer, a fill, a read served without allocation, a
way to fill, a repair, or in compatibility mode the writes received before it, up to an accept sequence. -/
inductive ReadWait where
  | load | stream (id : Nat) | fill | direct | way | repair | posted (upto : Nat)
deriving DecidableEq, Repr

/-- A held read: its home line and its arrival. -/
structure HeldRead where
  who : Reader
  line : Nat
  wait : ReadWait
  since : Nat
deriving DecidableEq, Repr

/-- Host ports: the LDs and which of them are bound (R128), writes not yet completed, held reads, the lines of other writers that
are not yet completed, records lost while a
port's link is down (R148), COMMIT's closing of credits, and the label storage areas in flash bank 3 (R138). -/
structure HostSide where
  lds : List (Nat × LDev) := []
  bound : List Nat := []
  writes : List HeldWrite := []
  nextWrite : Nat := 0
  reads : List HeldRead := []
  left : List (Writer × Nat) := []
  dropped : List (Nat × Nat) := []
  lsa : List (Nat × Bytes) := []
deriving DecidableEq, Repr

/-! ### Persistence (R152 to R196) -/

/-- A Welt entry (R160, R161): its line, valid bytes, the LD that wrote it, whether it came from the Skive buffer, the
accept sequences of the writes it holds, the mirror sequence of the newest frame that carried its bytes, whether its line
is poisoned (R163), and whether its segment was resident at acceptance (R293). -/
structure WeltEntry where
  line : Nat
  data : PLine
  ld : Nat
  fromSkive : Bool := false
  seqs : List Nat
  mirrorSeq : Option Nat := none
  poisoned : Bool := false
  resident : Bool := true
deriving DecidableEq, Repr

/-- A Skive line (R164, R165). -/
structure SkiveLine where
  line : Nat
  data : PLine
  ld : Nat
  seqs : List Nat
  openedTick : Nat
  mirrorSeq : Option Nat := none
  poisoned : Bool := false
deriving DecidableEq, Repr

/-- What rang a barrier: a doorbell slot, a GPF phase, an LX ring command, or the twin's request. -/
inductive BarrierBy where
  | doorbell (ld slot token : Nat) (intr : Bool) (vector : Nat)
  | gpf (phase port : Nat)
  | ring (ep ring idx : Nat)
  | twinReq (tag : Nat)
deriving DecidableEq, Repr

/-- A running barrier (R169 to R177): who rang it, its scope and level as rung, the level it is served at, its start point
(the accept sequence and the time), the
accept sequences of writes not yet completed then, the tag of a request to the twin that is still open and the status of the
twin's part. -/
structure Barrier where
  id : Nat
  by_ : BarrierBy
  ld : Nat
  scope : Nat
  level : Nat
  served : Nat
  start : Nat
  startTime : Nat
  except : List Nat
  twinTag : Option Nat := none
  twinStatus : Option Status := none
deriving DecidableEq, Repr

/-- A pending byte that waits for its repair from the twin (R163): the request's tag, the home line, the byte, whether it stands in
the Skive buffer, and whether it has not been written since. -/
structure WeltRepair where
  tag : Nat
  line : Nat
  byte : Nat
  skive : Bool
  live : Bool
deriving DecidableEq, Repr

/-- The Welt, the Skive buffer, barriers, PAIR, and repairs of pending bytes. -/
structure Persist where
  welt : List WeltEntry := []
  skive : List SkiveLine := []
  acceptSeq : Nat := 0
  barriers : List Barrier := []
  nextBarrier : Nat := 0
  pairAvail : Bool := false
  repairs : List WeltRepair := []
  poison : List Nat := []
deriving DecidableEq, Repr

/-! ### Cinch, Drain, COMMIT and warm-up (R292 to R322) -/

/-- The states of a granule that is not CLEAN (R292). -/
inductive GranSt where
  | dirty | taken | takenDirty
deriving DecidableEq, Repr

/-- A granule that is not CLEAN: its state, the half-cycle of its newest dirty byte, the least accept sequence of its
dirty bytes and of its taken bytes. -/
structure Granule where
  st : GranSt
  newest : Nat
  lo : Nat
  takenLo : Nat := 0
deriving DecidableEq, Repr

/-- A chunk the Drain has taken (R303): its DRAM chunk number, its location in the host address space, the granules taken,
the half-cycle, whether a MEDIA barrier covers it, the mirror sequence that cuts its RELEASE, and the bytes read from DRAM
(none for a chunk that is relocated: its bytes come from the drives). -/
structure Chunk where
  dram : Nat
  home : Nat
  granules : List Nat
  takenAt : Nat
  barrier : Bool
  cut : Nat := 0
  data : Bytes := []
deriving DecidableEq, Repr

/-- CIN_STATUS.PHASE. -/
inductive CinPhase where
  | normal | warn | commit
deriving DecidableEq, Repr

/-- CIN_STATUS.ADMIT. -/
inductive Admit where
  | opened | paced | stopped
deriving DecidableEq, Repr

/-- CIN_STATUS.PACE. -/
inductive Pace where
  | background | normal | urgent | commit
deriving DecidableEq, Repr

/-- The cinch limit, the Drain, WARN and COMMIT. Hold-up readings are in units of 10 ms; `wdogs` counts the watchdog expiries of
the Drain and the Awl engine in COMMIT step 4 (R486). -/
structure Cin where
  granules : List (Nat × Granule) := []
  chunks : List Chunk := []
  limit : Nat := 0
  stopMark : Nat := 0
  softMark : Nat := 0
  admitSt : Admit := .opened
  pace : Pace := .background
  tokens : Nat := 0
  phase : CinPhase := .normal
  step : Nat := 0
  trigger : Nat := 0
  commitAt : Nat := 0
  commitBytes : Nat := 0
  early : Bool := false
  step4Stop : Bool := false
  endedBar : Nat := 0
  journalCopies : Nat := 0
  reported : Nat := 0
  sensed : Nat := 0
  smbOk : Bool := false
  smbFailed : Option Nat := none
  senseOk : Bool := false
  mismatch : Bool := false
  unavailable : Bool := false
  samples : List (Nat × Nat) := []
  curBytes : Nat := 0
  curBusy : Nat := 0
  freeZones : List Nat := []
  ownedZones : List Nat := []
  twinZones : List Nat := []
  farZones : List Nat := []
  zonePending : Bool := false
  zonesOut : Bool := false
  twinWants : Nat := 0
  incoming : List Nat := []
  outgoing : List Nat := []
  inEpoch : Nat := 0
  epoch : Nat := 0
  poolFrames : Nat := 0
  capInForce : Nat := 0x8000000000
  warmup : Bool := false
  warmLeft : List Nat := []
  warmTotal : Nat := 0
  lastTrigger : Nat := 0
  lastEarly : Bool := false
  lastDuration : Nat := 0
  lastBytes : Nat := 0
  lastPartial : Bool := false
  restarted : Bool := false
  wdogs : Nat := 0
deriving DecidableEq, Repr

/-! ### The Tree cache (R197 to R226) -/

/-- The states of a way that holds a line (R201); a way with no entry is INVALID. -/
inductive TreeSt where
  | clean | dirty | fill
deriving DecidableEq, Repr

/-- A way of the Tree cache (R201): its DRAM line number, its way, state, age, PEER, POISON and data; its HH is what `Ring.hhClear`
says of the line. A way in FILL
holds the bytes that merge when its data arrives, and the data once DRAM has returned it. `lo` is the least accept
sequence among its dirty bytes. `leaving` marks a way that leaves once its snoop round ends (R241). -/
structure TreeLine where
  line : Nat
  way : Nat
  st : TreeSt
  age : Nat
  peer : Bool := false
  poison : Bool := false
  data : Bytes := []
  merge : PLine := []
  arrived : Option (Bytes × Bool) := none
  lo : Nat := 0
  leaving : Bool := false
deriving DecidableEq, Repr

/-- An entry of a write-back buffer (R214, R215): a line on its way to DRAM; `fetch` while a partial line waits for the
bytes of DRAM that it is merged over. -/
structure WbbEntry where
  line : Nat
  data : PLine
  poison : Bool
  lo : Nat
  fetch : Bool := false
deriving DecidableEq, Repr

/-- A policy-change walk (R213): region entry, its range in host segments, and the new policy. -/
structure Walk where
  entry : Nat
  ld : Nat
  base : Nat
  size : Nat
  policy : Nat
deriving DecidableEq, Repr

/-- The Tree cache: its ways that hold lines, write-back buffers, LFSRs, walks, the COMMIT or warm-reset walk, and the
corrected errors of each way in the current window (key 16 × slice + way; times in half-cycles). -/
structure Tree where
  lines : List TreeLine := []
  wbb : List WbbEntry := []
  lfsr : List (Nat × Nat) := []
  walks : List Walk := []
  flushing : Bool := false
  maintOp : Option (Nat × Nat × Nat) := none
  corr : List (Nat × List Nat) := []
deriving DecidableEq, Repr

/-! ### Coherence on the Girth ring (R227 to R257) -/

/-- The states of a caching agent's line (R233, R234); a line with no entry is in I. -/
inductive AgentSt where
  | s | e | m | isD | imD | smD | miA
deriving DecidableEq, Repr

/-- A line that a caching agent holds or waits for: its data, the store or load that waits for it (core, byte offset and
bytes; no bytes for a load), and its retry after a NACK: count of consecutive NACKs and the moment of the retry. -/
structure AgentLine where
  agent : Nat
  line : Nat
  st : AgentSt
  data : Bytes := []
  core : Nat := 0
  off : Nat := 0
  store : Bytes := []
  nacks : Nat := 0
  retry : Option Nat := none
  landed : Bool := false
deriving DecidableEq, Repr

/-- What a home works on for a busy line (R235, R236, R241): a request of an agent, or an invalidation and what follows
it. -/
inductive HomeKind where
  | rdS | rdX | hostWrite (wid : Nat) | skive | segMove | evict | maint
deriving DecidableEq, Repr

/-- A request at a home: line, kind, requester (16 for none), and whether it has priority (R239). -/
structure HomeReq where
  line : Nat
  kind : HomeKind
  requester : Nat
  prio : Bool := false
deriving DecidableEq, Repr

/-- A busy line (R235): its request, the targets yet to answer, whether any answered ACK_S, the agents whose writeback is
awaited (R243), whether the grant is sent, the start of the round, and the sharers whose BIRspI is awaited (R249). -/
structure HomeTxn where
  req : HomeReq
  waiting : List Nat
  anyS : Bool := false
  wbp : List Nat := []
  granted : Bool := false
  begun : Nat
  bi : List Nat := []
  writer : Option Nat := none
  setBit : Bool := false
deriving DecidableEq, Repr

/-- The Girth ring: agents' lines, busy lines and queued requests of the homes, isolated agents, the lines of shared
windows whose host-held bit is clear (all others read as set, R251), and the bitmap fill. -/
structure Ring where
  agents : List AgentLine := []
  busy : List HomeTxn := []
  queue : List HomeReq := []
  isolated : List Nat := []
  hhClear : List Nat := []
deriving DecidableEq, Repr

/-! ### DRAM (R258 to R291) -/

/-- DRC_CH_STATUS.STATE. -/
inductive ChanState where
  | off | training | filling | running | retraining | selfRefresh | failed
deriving DecidableEq, Repr

/-- What a DRAM read is for: a fill of a Tree way, a merge in a write-back buffer, a read served without allocation, a
patrol scrub read, and the read after a repair (R279). -/
inductive ReadFor where
  | fill | wbb | direct | scrub | verify
deriving DecidableEq, Repr

/-- An entry of a read queue: its line, its purpose, the host port it counts for (R271), its arrival, and once issued the
data and poison it returns. -/
structure DRead where
  line : Nat
  purpose : ReadFor
  port : Option Nat
  arrived : Nat
  issued : Option (Bytes × Bool) := none
deriving DecidableEq, Repr

/-- An entry of a write queue or of a real-time intake queue (R265, R270): a line, its data, poison, and arrival. -/
structure DWrite where
  line : Nat
  data : Bytes
  poison : Bool
  arrived : Nat
deriving DecidableEq, Repr

/-- A subchannel: its queues, write-drain, refreshes due, and the open row of each bank. -/
structure SubChan where
  reads : List DRead := []
  writes : List DWrite := []
  wdrain : Bool := false
  refDue : Nat := 0
  open_ : List (Nat × Nat) := []
deriving DecidableEq, Repr

/-- A line that waits for its repair (R277): a request to the twin with its tag, or a refetch from the drive tier. -/
structure Repair where
  line : Nat
  tag : Nat
  fromTwin : Bool
  tree : Bool := false
deriving DecidableEq, Repr

/-- A channel. `corr` counts corrected lines by rank and device (key 32 × rank + device) in the current window, `erasure`
lists the ranks and devices in erasure mode, `hot` the DIMMs that last read above 85 °C. -/
structure Chan where
  st : ChanState := .off
  hot : List Nat := []
  panicMirror : Bool := false
  panicDrain : Bool := false
  subA : SubChan := {}
  subB : SubChan := {}
  mirrorQ : List DWrite := []
  drainQ : List DWrite := []
  corr : List (Nat × Nat) := []
  corrSince : Nat := 0
  erasure : List (Nat × Nat) := []
  repairs : List Repair := []
  scrubIdx : Nat := 0
  scrubDebt : Nat := 0
  scrubSkipped : Nat := 0
  scrubStart : Nat := 0
deriving DecidableEq, Repr

/-- DRAM: contents as bytes (an unlisted byte reads 0, the value of the fill of R290), poisoned lines, the channels, the
geometry that all DIMMs share (R259, R260), and retired frames. -/
structure Dram where
  mem : List Host.Cell := []
  poison : List Nat := []
  chans : List (Nat × Chan) := []
  dimms : Nat := 0
  pranks2 : Bool := false
  stack2h : Bool := false
  density : Nat := 0
  retired : List Nat := []
  nextTag : Nat := 0
deriving DecidableEq, Repr

/-! ### Keeper cores (R186 to R191, R225, R226) -/

/-- A store in a keeper core's store buffer (R188): an address and its bytes. -/
structure KStore where
  addr : Nat
  bytes : Bytes
deriving DecidableEq, Repr

/-- A fence that waits (R190): its class (full or store) and scope 0 core, 1 cluster, 2 system. -/
structure KFence where
  full : Bool
  scope : Nat
deriving DecidableEq, Repr

/-- A keeper core: whether it runs, its store buffer, its combining buffer of partial host lines, its outstanding uncached
accesses, its miss, invalidations received and not yet taken (R190), and the fence it waits at. -/
structure KCore where
  running : Bool := true
  storeBuf : List KStore := []
  combine : List (Nat × PLine) := []
  uncached : List (Nat × Bool) := []
  miss : Option Nat := none
  pendInv : List Nat := []
  fence : Option KFence := none
deriving DecidableEq, Repr

/-- The keeper clusters: eight cores, A 0 to 3 and B 4 to 7. -/
structure Keeper where
  cores : List (Nat × KCore) := []
deriving DecidableEq, Repr

/-! ### Tiers, objects, streams and leases (R385 to R420) -/

/-- The states of a segment (R388). -/
inductive SegSt where
  | zero | t1 | t2 | t3 | loading | evicting | moving
deriving DecidableEq, Repr

/-- Where a chunk stands on the drives (R388): set, stripe and data unit. -/
structure ChunkLoc where
  set : Nat
  stripe : Nat
  unit : Nat
deriving DecidableEq, Repr

/-- A segment record (R388): the object, the state, the poisoned lines, the T1 frame or T2 lease slot, the last access, the
chunk locations and those of a replica, and during a move the frame it goes to, the rank it is loaded at, the start of the
load, whether a write has arrived since the eviction began (during a load: that the segment was ZERO), the lease slot that an
eviction goes to or a load comes from, and whether it waits for its granules to be drained before an eviction. A home segment without an entry is ZERO in its base
object. -/
structure Segment where
  obj : Nat
  st : SegSt := .zero
  poison : List Nat := []
  frame : Nat := 0
  lender : Nat := 0
  access : Nat := 0
  chunks : List (Nat × ChunkLoc) := []
  replica : List (Nat × ChunkLoc) := []
  toFrame : Nat := 0
  rank : Nat := 5
  since : Nat := 0
  wrote : Bool := false
  toT2 : Option (Nat × Nat) := none
  leaving : Bool := false
deriving DecidableEq, Repr

/-- A created object (R391, R392): its first home segment and size in segments, its base object, class, policy (0
PINNED_T1, 1 AUTO, 2 STREAMED, 3 BORROWABLE) and REPLICA flag. -/
structure TObj where
  id : Nat
  first : Nat
  size : Nat
  base : Nat
  volatileClass : Bool
  policy : Nat
  replica : Bool
deriving DecidableEq, Repr

/-- An open stream (R411 to R415): its IDs, LD, object, layers (offset and length in the object), window, mode, deadline,
oldest incomplete layer and the number of layers fetched. -/
structure Stream where
  id : Nat
  ld : Nat
  page : Nat
  dev : Nat
  obj : Nat
  layers : List (Nat × Nat)
  window : Nat
  lastTouch : Bool
  loop : Bool
  deadline : Nat
  oldest : Nat
  fetched : Nat
  closing : Bool := false
deriving DecidableEq, Repr

/-- A lender that this controller borrows from (R407 to R409): connection, epoch, frames held and those in use, the last
ping, a recall with its deadline, and the open handshake (R450): tries and the moment of the next. -/
structure Lender where
  up : Bool := false
  epoch : Nat := 0
  frames : List Nat := []
  used : List Nat := []
  rkey : Nat := 0
  recalling : Option (List Nat × Nat) := none
  tries : Nat := 0
  opening : Option Nat := none
  qpn : Nat := 0
  psn : Nat := 0
  salt : Nat := 0
  ctr : Nat := 0
deriving DecidableEq, Repr

/-- A borrower this controller lends to: its connection, frames lent, and a recall with its deadline. -/
structure Borrower where
  addr : Nat
  qpn : Nat := 0
  psn : Nat := 0
  salt : Nat := 0
  ctr : Nat := 0
  frames : List Nat := []
  recalling : Option (List Nat × Nat) := none
deriving DecidableEq, Repr

/-- A root record in a member's root area (R418). -/
structure RootRec where
  seq : Nat
  journalSeq : Nat
  good : Bool := true
deriving DecidableEq, Repr

/-- The tier map: home runs (base object, first home segment, size in segments), segment records, created objects, the policy and REPLICA flag of base objects where they were changed, T1
frames, streams, lenders, borrowers, epochs, and the checkpoint. -/
structure Tier where
  runs : List (Nat × (Nat × Nat)) := []
  segs : List (Nat × Segment) := []
  objs : List TObj := []
  basePol : List (Nat × (Nat × Bool)) := []
  t1Frames : Nat := 0
  streams : List Stream := []
  nextStream : Nat := 0
  lenders : List (Nat × Lender) := []
  borrowers : List Borrower := []
  lendEpoch : Nat := 0
  roots : List (Nat × RootRec) := []
  ckptSeq : Nat := 0
  ckptAt : Nat := 0
deriving DecidableEq, Repr

/-! ### The twin and the Stirrup link (R323 to R350, R618) -/

/-- STP_STATUS.LINK. -/
inductive LinkSt where
  | down | training | hello | resync | paired | incompatible
deriving DecidableEq, Repr

/-- STP_STATUS.ROLE, also carried in HELLO and HEARTBEAT. -/
inductive TwinRole where
  | single | starting | active | claiming | survivor | fenced | returning | stalled | handedOver | resetting
deriving DecidableEq, Repr

/-- A mirror frame: its sequence, home line, the bytes it carries, and whether it is MIRROR_FULL. -/
structure MirFrame where
  seq : Nat
  line : Nat
  data : PLine
  full : Bool
deriving DecidableEq, Repr

/-- A frame of the mirror pool (R328): the twin's home granule, the newest sequence stored in it, and its lines by their
number in the granule. -/
structure PoolFrame where
  gran : Nat
  newest : Nat
  lines : List (Nat × PLine)
deriving DecidableEq, Repr

/-- A claim of the drives (R338): whether it still waits for CLAIM_DELAY, members preempted, members tried, whether a
majority was out of reach, and the moment of the next attempt. -/
structure Claim where
  delay : Option Nat := none
  preempted : List Nat := []
  tried : List Nat := []
  retryAt : Option Nat := none
deriving DecidableEq, Repr

/-- A member's tie-break slot as last read or written: serial, role, epoch and lease count. -/
structure Lease where
  serial : Nat
  role : TwinRole
  epoch : Nat
  count : Nat
deriving DecidableEq, Repr

/-- The twin and the Stirrup link. `txSeq` is the next mirror sequence to send, `txAcked` the number of sequences the twin
has acknowledged, `rxNext` the next one expected. `resync` holds the sequence that ends this controller's walk once it has
been sent; `twinTable` the LD table of the twin's HELLO (LD, size, group, first home segment). -/
structure Twin where
  link : LinkSt := .down
  everUp : Bool := false
  role : TwinRole := .starting
  lanes : Nat := 0
  downSince : Nat := 0
  helloDone : Bool := false
  twinRole : Option TwinRole := none
  twinSerial : Nat := 0
  peerMinor : Nat := 0
  peerMajor : Nat := 0
  twinCap : Nat := 0
  twinTable : List (Nat × (Nat × (Nat × Nat))) := []
  txSeq : Nat := 0
  txAcked : Nat := 0
  sentAt : List (Nat × Nat) := []
  unacked : List MirFrame := []
  rxNext : Nat := 0
  waiting : List MirFrame := []
  poolFullEp : Bool := false
  pool : List PoolFrame := []
  hbSeen : Bool := false
  hbMissed : Nat := 0
  twinCommit : Option Nat := none
  twinWarn : Bool := false
  twinEarly : Bool := false
  twinEpoch : Nat := 0
  handover : Bool := false
  leaseAt : Nat := 0
  leaseCount : Nat := 0
  twinRead : Option Lease := none
  waitUntil : Option Nat := none
  claim : Option Claim := none
  tookOver : Bool := false
  replay : List PoolFrame := []
  failback : Bool := false
  failbackReq : Bool := false
  readySent : Bool := false
  resync : Option Nat := none
  resyncIn : Bool := false
  rxViolation : List (Nat × Nat) := []
deriving DecidableEq, Repr

/-! ### Stripe sets and drives (R351 to R384) -/

/-- AWL_MBR_STATUS.STATE. -/
inductive MemberSt where
  | absent | unassigned | online | rebuilding | spare | failed
deriving DecidableEq, Repr

/-- What an outstanding drive command is for: a unit of a stripe written (set, stripe, column, and whether it is the one
retry of R363), a data unit read for a chunk, the write-back of a reconstructed unit (R375), a unit written by a rebuild,
a journal copy (R368), or another command. -/
inductive DriveFor where
  | unitWrite (set stripe col : Nat) (retry : Bool)
  | unitRead (set stripe unit : Nat)
  | rewrite (set stripe unit : Nat)
  | rebuild (set stripe : Nat)
  | journal
  | other
deriving DecidableEq, Repr

/-- An outstanding drive command. -/
structure DriveCmd where
  id : Nat
  use : DriveFor
deriving DecidableEq, Repr

/-- A drive slot: its link, its member state, its place in a set, its label's serial number, its capacity in 4 KiB LBAs,
its outstanding commands, and what R376 and R383 count. -/
structure Drive where
  st : MemberSt := .absent
  set : Nat := 0xF
  col : Nat := 0x1F
  linkUp : Bool := false
  width : Nat := 0
  gen5 : Bool := false
  cause : Nat := 0
  predicted : Bool := false
  serial : Nat := 0
  cap : Nat := 0
  timeouts : List Nat := []
  mediaErrs : List Nat := []
  downSince : Option Nat := none
  aborting : Option Nat := none
  cmds : List DriveCmd := []
  queued : List DriveFor := []
  nextCmd : Nat := 0
deriving DecidableEq, Repr

/-- A rebuild (R378, R381): its column, its target slot, the column queued, its next stripe and the stripes done. -/
structure Rebuild where
  column : Nat
  target : Nat
  queued : Option Nat := none
  done : Nat := 0
  pending : Bool := false
deriving DecidableEq, Repr

/-- The state of a set (R377). -/
inductive SetSt where
  | unused | optimal | degraded | doubleDegraded | failed | assembling
deriving DecidableEq, Repr

/-- A stripe set: layout 1 MIRROR2, 2 MIRROR3, 3 PARITY1, 4 PARITY2, data units n, width w, its state and rebuild, the zones it
has, and the stripes that a rebuild found stale (RELOCATED, R379). -/
structure StripeSet where
  layout : Nat := 0
  n : Nat := 0
  w : Nat := 0
  st : SetSt := .unused
  rebuild : Option Rebuild := none
  zones : Nat := 0
  stale : List Nat := []
deriving DecidableEq, Repr

/-- A stripe being written (R362): its place, its chunks with the masks of the granules taken, the columns still to be
acknowledged, the columns left out, the journal sequence of its OPEN entry, and whether a barrier covers it. -/
structure Stripe where
  set : Nat
  stripe : Nat
  chunks : List Chunk
  waiting : List Nat
  missing : Nat
  entry : Nat
  relocate : Bool := false
deriving DecidableEq, Repr

/-- RELEASE frames that wait for JOURNAL_ACK of an update (R331, R362). -/
structure ReleaseWait where
  upd : Nat
  chunk : Nat
  cut : Nat
  mask : Nat
deriving DecidableEq, Repr

/-- A copy of the stripe journal in the journal slots of the members (R365, R368): its journal sequence, the COMMIT trigger, early
flag and time of its header, whether it marks a pool dump complete, its entries, and the segments of its dirty summary. -/
structure JrnCopy where
  seq : Nat
  trigger : Nat
  early : Bool
  time : Nat
  dumpDone : Bool
  entries : List JournalEntry
  dirty : List Nat
deriving DecidableEq, Repr

/-- The Awl engine: member slots that the configuration names, drives, sets, stripes in flight, the stripe journal (own
entries, the copy of the twin's, the journal sequence), RELEASE frames waiting, the zone in use of each set with the
stripes taken from it, chunks to be relocated (R364, R379, R399), the source of the replayed journal, pool merge and
reclaim, the home segments that the dirty summary flags for the next start (R196), the COMMIT trigger, early flag and time in the header
of the retained array (R365), the newest journal copy on the drives (R368, R369), the pool frames that a dump has written to
the drives (R337), the set entries as last applied (R384), the COMMITTED entries that went with a lost array, and whether this start
recovers its half from the twin (R371). -/
structure Awl where
  configured : List Nat := []
  drives : List (Nat × Drive) := []
  sets : List (Nat × StripeSet) := []
  stripes : List Stripe := []
  journal : List JournalEntry := []
  twinJrn : List JournalEntry := []
  jseq : Nat := 0
  full : Bool := false
  releases : List ReleaseWait := []
  zoneNow : List (Nat × (Nat × Nat)) := []
  relocQ : List Chunk := []
  source : Nat := 0
  reclaiming : Option Nat := none
  drainPoint : Nat := 0
  dumpDone : Bool := false
  dirtySum : List Nat := []
  hdrTrigger : Nat := 0
  hdrEarly : Bool := false
  hdrTime : Nat := 0
  diskJrn : Option JrnCopy := none
  dump : List PoolFrame := []
  applied : List (Nat × Bytes) := []
  lost : List JournalEntry := []
  recover : Bool := false
deriving DecidableEq, Repr

/-! ### The Latigo engine (R421 to R454) -/

/-- A queue ring of a connection: its DPA in the owner's range, entries (0 for no queue), producer index as published, the
index of the next entry to start, and that of the next to complete. -/
structure LQueue where
  dpa : Nat := 0
  entries : Nat := 0
  tail : Nat := 0
  next : Nat := 0
  head : Nat := 0
deriving DecidableEq, Repr

/-- A send queue entry that has started: its index and fields, the packet sequence number of its last packet, the status it
ends with once it has one, and when its packets were last sent. -/
structure Wqe where
  idx : Nat
  op : Nat
  flags : Nat
  len : Nat
  loc : Nat
  remote : Nat
  rkey : Nat
  operand : Nat
  swap : Nat
  wrId : Nat
  psn : Nat := 0
  status : Option Status := none
deriving DecidableEq, Repr

/-- A message being received or served: its number in the connection, its kind, the region it counts in, its start address and
the bytes so far, its lines still to be read (READ), the value an atomic returns, its receive entry (index, LOCAL, LENGTH,
WR_ID), its last packet's number once that has come, and whether it has ended. -/
structure RxMsg where
  msg : Nat
  kind : RxKind
  region : Option Nat := none
  va : Nat := 0
  got : Nat := 0
  lines : Nat := 0
  result : Nat := 0
  rqe : Option (Nat × (Nat × (Nat × Nat))) := none
  lastPsn : Option Nat := none
deriving DecidableEq, Repr

/-- A receive entry that has ended: index, WR_ID, length received and status. -/
structure RqDone where
  idx : Nat
  wrId : Nat
  len : Nat
  status : Status
deriving DecidableEq, Repr

/-- The state of a connection (R427). -/
inductive ConnSt where
  | rts | error
deriving DecidableEq, Repr

/-- Where a connection's context is (R437). -/
inductive Residency where
  | resident | evicted | fetching
deriving DecidableEq, Repr

/-- A connection (R425, R426): its parameters, queues, sequence numbers, keys, retries, transmit rate in Gb/s, its grant
(greatest granted sequence number and the moments it lapses for the peer and for reservations), last packet, and the packets
parked for it. -/
structure Conn where
  qpn : Nat
  owner : Nat
  pd : Nat
  port : Nat
  src : Nat
  peer : Nat
  peerQpn : Nat
  mtu : Nat
  sq : LQueue := {}
  rq : LQueue := {}
  sqCq : Nat := 0
  rqCq : Nat := 0
  slot : Nat := 0
  txPsn : Nat
  rxPsn : Nat
  retry : Nat
  rnrRetry : Nat
  ackTimeout : Nat
  standard : Bool
  sealed : Bool
  txKey : Nat
  txSalt : Nat
  txCtr : Nat
  rxKey0 : Nat
  rxKey1 : Nat
  keyPhase : Nat := 0
  st : ConnSt := .rts
  res : Residency := .resident
  retries : Nat := 0
  rnrs : Nat := 0
  rate : Nat := 400
  cnpSent : Option Nat := none
  grant : Nat := 0
  grantPsn : Nat := 0
  grantEnd : Nat := 0
  grantHeld : Nat := 0
  probed : Bool := false
  lastPacket : Nat := 0
  wqes : List Wqe := []
  msgs : List RxMsg := []
  nextMsg : Nat := 0
  rqDone : List RqDone := []
  atomics : List (Nat × Nat) := []
  parked : List RxPkt := []
  reserved : Nat := 0
deriving DecidableEq, Repr

/-- A completion queue (R424, R431, R432). -/
structure LCq where
  ld : Nat
  dpa : Nat
  entries : Nat
  slot : Nat
  count : Nat := 0
  tail : Nat := 0
  head : Nat := 0
deriving DecidableEq, Repr

/-- The state of a region (R441). -/
inductive RegionSt where
  | valid | draining | free
deriving DecidableEq, Repr

/-- A region: its generation, state, PD, owner, range, access bits, messages in flight, and the revoke that waits (command slot
and TAG). -/
structure Region where
  gen : Nat
  st : RegionSt
  pd : Nat
  owner : Nat
  base : Nat
  len : Nat
  acc : Nat
  inflight : Nat := 0
  revoker : Option (Nat × Nat) := none
deriving DecidableEq, Repr

/-- An Ethernet port. -/
structure LatPort where
  up : Bool := false
  pfc : Bool := false
deriving DecidableEq, Repr

/-- The Latigo engine: ports, protection domains (with their tenant), completion queues, connections, regions. -/
structure Latigo where
  ports : List (Nat × LatPort) := []
  pds : List (Nat × Nat) := []
  cqs : List (Nat × LCq) := []
  conns : List (Nat × Conn) := []
  regions : List (Nat × Region) := []
deriving DecidableEq, Repr

/-! ### The Buckle engine (R455 to R475) -/

/-- The state of a key slot (R464); a slot with no entry is FREE and holds zeros (R28, R467). -/
inductive KeySt where
  | free | loaded | broken
deriving DecidableEq, Repr

/-- A key slot (R464): state, usage (0 XTS-AES-128, 1 XTS-AES-256, 2 AES-256-GCM), tenant, PERSIST and the key. Its references
are counted from the sets, connections and jobs that use it. -/
structure KeySlot where
  st : KeySt := .free
  usage : Nat := 0
  tenant : Nat := 0
  persist : Bool := false
  key : Bytes := []
deriving DecidableEq, Repr

/-- A cipher job (R455, R456, R468): its tag, class (0 DRIVE_WRITE, 1 DRIVE_READ, 2 NET_RX, 3 NET_TX), key slot, the usage and key
it was admitted with, tweak or IV, cost in blocks, data, and for NET_RX whether the packet's tag is good. -/
structure CJob where
  tag : Nat
  cls : Nat
  slot : Nat
  usage : Nat
  key : Bytes
  iv : Nat
  cost : Nat
  data : Bytes
  tagOk : Bool
deriving DecidableEq, Repr

/-- A copy of the key store in flash bank 3 (R470). -/
structure KeyCopy where
  gen : Nat := 0
  good : Bool := true
  keys : List (Nat × KeySlot) := []
deriving DecidableEq, Repr

/-- The Buckle engine: cores that passed their tests, running jobs by core, the class queues, jobs of requesters that wait for
room in a queue (R456), the deficits and the next class of the round robin (R457), the key slots, the two copies of the
key store, and the wait for a set key (R471). -/
structure Buckle where
  coresOk : Nat := 0
  running : List (Nat × CJob) := []
  queued : List CJob := []
  waiting : List CJob := []
  deficit : List (Nat × Nat) := []
  turn : Nat := 0
  slots : List (Nat × KeySlot) := []
  storeA : KeyCopy := {}
  storeB : KeyCopy := {}
  setWait : Bool := false
deriving DecidableEq, Repr

/-! ### In-package flash (R537 to R553) -/

/-- FLS_B_STATE.STATE. -/
inductive FlsSt where
  | idle | reading | programming | erasing | eraseSuspended | programSuspended
deriving DecidableEq, Repr

/-- A PROGRAM or ERASE: its address in the bank, and the bytes of a PROGRAM. -/
structure FlsOp where
  erase : Bool
  addr : Nat
  data : Bytes := []
deriving DecidableEq, Repr

/-- A flash bank: the page window, the cells (a byte that is not listed reads 0xFF, erased), the sectors of partitions with a
store of their own that flash commands have erased, the running or suspended operation, the PROGRAM that runs during a
suspended erase, operations issued and not started, a SUSPEND that waits, the moment of a RESUME whose minimum run time still runs (R546), and by
sector the flag cells that are set, the INDETERMINATE sectors and the erase counts. -/
structure FlsBank where
  data : Bytes := []
  cells : List Host.Cell := []
  raw : List Nat := []
  st : FlsSt := .idle
  op : Option FlsOp := none
  prog : Option FlsOp := none
  queue : List FlsOp := []
  suspend : Bool := false
  window : Option Nat := none
  flags : List Nat := []
  indet : List Nat := []
  wear : List (Nat × Nat) := []
deriving DecidableEq, Repr

/-- The flash: its banks, whether step 4 has read the flag cells, and whether erases have been stopped (R552). -/
structure Flash where
  banks : List (Nat × FlsBank) := []
  flagsRead : Bool := false
  frozen : Bool := false
deriving DecidableEq, Repr

/-! ### Firmware slots (R554 to R566) -/

/-- The states of a slot (R557). -/
inductive FwSt where
  | empty | valid | pending | trial | confirmed | rejected
deriving DecidableEq, Repr

/-- What the boot record holds for a slot (R557). -/
structure FwSlot where
  st : FwSt := .empty
  trials : Nat := 0
  version : Nat := 0
deriving DecidableEq, Repr

/-- The boot record (R557) with its copies' condition, the image that runs (slot, trial, its Stirrup protocol and version), the
start of the confirmation count (R562), whether the extension section runs, and the configuration layers of the area that a
trial leaves untouched (R564). -/
structure Fw where
  copyA : Bool := true
  copyB : Bool := true
  slotA : FwSlot := {}
  slotB : FwSlot := {}
  confirmed : Nat := 0
  trialRunning : Bool := false
  notCounted : Bool := false
  forced : Option Nat := none
  curArea : Nat := 0
  running : Nat := 0
  onTrial : Bool := false
  protoMajor : Nat := 1
  protoMinor : Nat := 0
  version : Nat := 0
  cfgFormat : Nat := 0
  since : Option Nat := none
  extLoaded : Bool := false
  spare : Option (List Layer) := none
deriving DecidableEq, Repr

/-! ### LX-310 compatibility mode (R583 to R597) -/

/-- An LX command (R589): its index, FLAGS, opcode, the barrier level that a FLUSH still waits to start at, and its status and the
line timestamp of its end once it has ended; `todo` the part of a ZERO still to be accepted (next DPA, end). -/
structure LxCmd where
  idx : Nat
  op : Nat
  intr : Bool
  waits : Option Nat := none
  todo : Option (Nat × Nat) := none
  done : Option (Status × Nat) := none
deriving DecidableEq, Repr

/-- A command ring (R589): the producer index, the next entry to fetch, the oldest whose status is not written, and its
commands in flight. -/
structure LxRing where
  tail : Nat := 0
  next : Nat := 0
  head : Nat := 0
  cmds : List LxCmd := []
deriving DecidableEq, Repr

/-- An endpoint: rings, staged register fields (R586), RING_ERR, and a ring reset under way (R593). -/
structure LxEp where
  rings : List (Nat × LxRing) := []
  staged : List (Nat × Nat) := []
  ringErr : Bool := false
  resetting : Bool := false
deriving DecidableEq, Repr

/-- The two endpoints. -/
structure Lx where
  eps : List (Nat × LxEp) := []
  ticks : Nat := 0
deriving DecidableEq, Repr

/-! ### What the machine sends -/

/-- Messages on the Girth ring (R234). -/
inductive RingMsg where
  | rdS | rdX | wb | snpS | snpInv | ackI | ackS | ackData | wbPending | dataS | dataE | wbAck | nack | nackRefused | done
deriving DecidableEq, Repr

/-- CXL mailbox return codes (R138, R140). -/
inductive CciCode where
  | success | busy | unsupported | invalidInput | invalidPayloadLength
deriving DecidableEq, Repr

/-- Lease messages (R407, R450). -/
inductive LeaseMsg where
  | req | grant | ret | recalled | ping | open_ | accept
deriving DecidableEq, Repr

/-- A RoCE packet or message sent on a connection (R421, R434, R435, R442 to R444). -/
inductive RocePkt where
  | write (remote rkey len psn : Nat)
  | read (remote rkey len psn : Nat)
  | send (len psn : Nat)
  | cas (remote rkey compare swap psn : Nat)
  | faa (remote rkey addend psn : Nat)
  | ack (psn credit : Nat)
  | nak (psn : Nat) (kind : NakKind)
  | readResp (psn len credit : Nat)
  | atomicResp (psn value credit : Nat)
  | cnp
deriving DecidableEq, Repr

/-- What the machine sends, in the order it sends it: answers to hosts, agents, cores and CSR masters, frames to the twin and
to peers, commands to drives, and signals. The outbox only grows; it is the model's own (log entry 3). -/
inductive Output where
  | readData (port ld tag : Nat) (data : Bytes) (poison : Bool)
  | writeDone (port ld tag : Nat)
  | writerDone (who : Writer)
  | creditWithheld (port : Nat)
  | ring (m : RingMsg) (agent line : Nat) (data : Bytes)
  | agentPoison (agent status : Nat)
  | lineFor (conn msg idx : Nat) (data : Bytes) (poison : Bool)
  | biSnp (ld line : Nat)
  | biConflictAck (ld key : Nat)
  | hostMem (ld addr : Nat) (data : Bytes)
  | msix (ld vector : Nat)
  | eventInt (ld log : Nat)
  | gpfAck (port phase : Nat)
  | cci (ld : Nat) (code : CciCode) (data : Bytes)
  | viral
  | coreData (core line : Nat) (data : Bytes)
  | coreWait (core line : Nat)
  | uncached (core addr : Nat) (write : Bool)
  | fenceDone (core : Nat)
  | twinFrame (code a b : Nat) (data : Bytes)
  | twinMirror (full : Bool) (seq line : Nat) (data : PLine)
  | repairRsp (tag : Nat) (line : PLine)
  | hello (role : TwinRole) (epoch stamp seq : Nat) (accepted : List Nat)
  | heartbeat (count phase : Nat) (synth : Bool) (role : TwinRole) (warn commit : Bool) (trigger epoch : Nat) (ack : Option Nat)
  | zoneAck (zones : List Nat)
  | zoneGrant (zones : List Nat) (epoch : Nat)
  | journal (seq : Nat) (e : JournalEntry)
  | reserve (slot serial : Nat)
  | leaseWrite (slot : Nat) (role : TwinRole) (epoch count : Nat)
  | driveCmd (slot id : Nat) (use : DriveFor)
  | unitBytes (set stripe col : Nat) (data : Bytes)
  | driveAbort (slot : Nat)
  | driveJournal (slot seq : Nat)
  | driveRecreate (slot : Nat)
  | deallocate (zone : Nat)
  | checkpoint (slot seq : Nat)
  | lease (toLender : Bool) (who : Nat) (m : LeaseMsg) (frames : List Nat) (a b : Nat)
  | t2Write (lender frame hs : Nat)
  | t2Read (lender frame hs : Nat)
  | roce (conn : Nat) (p : RocePkt)
  | latDone (slot : Nat) (status : Status) (result : Bytes)
  | keyDone (slot : Nat) (status : Status) (result : Bytes)
  | cipherDone (tag : Nat) (status : Status) (data : Bytes)
  | busError (master status : Nat)
  | csrData (master off : Nat) (value : Word)
  | csrError (master off : Nat)
  | odDone (route : Route) (client key : Nat) (status : Status) (data : Bytes)
  | tack (chan cmd client tag key status : Nat) (data : Bytes)
  | bootUp (chan : Nat)
deriving DecidableEq, Repr

/-! ### The machine -/

/-- The state of the machine: the register fields (`csr`, by bit address; a field that is not listed holds its reset
value), the units, the time in units of 1/1,024 SYSCLK_IN cycle, the counter of free values, what has been sent, and the
commands that wait, first in, first out. -/
structure State where
  csr : List (Nat × Nat) := []
  iface : Iface := {}
  dict : Dict := {}
  tack : Tack := {}
  pres : Presence := {}
  partners : List (Partner × Conduct) := []
  lck : LineClock := {}
  stm : Stm := {}
  fm : FaultMgr := {}
  ham : Ham := {}
  boot : Boot := {}
  host : HostSide := {}
  per : Persist := {}
  cin : Cin := {}
  tree : Tree := {}
  ring : Ring := {}
  dram : Dram := {}
  keep : Keeper := {}
  tier : Tier := {}
  twin : Twin := {}
  awl : Awl := {}
  fls : Flash := {}
  fw : Fw := {}
  lat : Latigo := {}
  bkl : Buckle := {}
  lx : Lx := {}
  time : Nat := 0
  freeCtr : Nat := 0
  out : List Output := []
  pending : List Instr := []
deriving DecidableEq, Repr

/-- Faults: why the machine would stop. No command of this block stops the machine: an error of a partner, a refused access
or a loss of supply is an effect on State. -/
inductive Fault where
  /-- Never raised: no rule of the spec stops the block with a fault. Safe. -/
  | none
deriving DecidableEq, Repr

/-- Refusals: why a command has no meaning. -/
inductive Refusal where
  /-- The command of this mnemonic has no meaning in the model yet. Safe. Raised by the arms of exec only. -/
  | notModelled (mnemonic : String)
deriving DecidableEq, Repr

/-- The machine right after reset: the power-on state, with PORST_N asserted and the always-on supplies present (R1, R500). -/
def State.reset : State := {}

end Sys2Proof.Machine
end

