-- ==== Sys2Proof/Machine/EvCodes.lean ====
section
/-!
DEFINITION. The event codes of the Stamp recorder by the manual's names, written out from the event code tables of the
chapters of spec/ (R582): the code and the severity the table gives (0 where the table gives a rule instead of a rung).
-/
namespace Sys2Proof.Machine

def Ev.LINE_MISSED : Ev := ⟨0x2001, 0⟩
def Ev.LINE_RELOCK : Ev := ⟨0x2002, 0⟩
def Ev.LINE_ABSENT : Ev := ⟨0x2003, 0⟩
def Ev.LINE_FREQ_RANGE : Ev := ⟨0x2004, 0⟩
def Ev.LINE_GLITCH : Ev := ⟨0x2005, 0⟩
def Ev.TWIN_ALIGN_STEP : Ev := ⟨0x2006, 0⟩
def Ev.TWIN_ALIGN_LOST : Ev := ⟨0x2007, 1⟩
def Ev.LINE_SEEN_SYNTH : Ev := ⟨0x2008, 0⟩
def Ev.CFG_CRC_MISMATCH : Ev := ⟨0xE002, 0⟩
def Ev.CFG_CRC_FAULT : Ev := ⟨0xE003, 0⟩
def Ev.CSR_LOCKED_WRITE : Ev := ⟨0xE004, 0⟩
def Ev.CSR_RSVD_WRITE : Ev := ⟨0xE005, 0⟩
def Ev.CFG_HOLD_LONG : Ev := ⟨0xE006, 0⟩
def Ev.MBX_CLAIM_EXPIRED : Ev := ⟨0xE007, 1⟩
def Ev.CSR_ACCESS_REFUSED : Ev := ⟨0xE008, 1⟩
def Ev.CFG_STORE_CORRUPT : Ev := ⟨0xE011, 2⟩
def Ev.CFG_STORE_ABANDONED : Ev := ⟨0xE012, 0⟩
def Ev.TACK_NODE_MOVED : Ev := ⟨0xE013, 0⟩
def Ev.TACK_NODE_CONTAINED : Ev := ⟨0xE014, 1⟩
def Ev.PRESENCE_OPEN : Ev := ⟨0xF001, 0⟩
def Ev.PRESENCE_CLOSE : Ev := ⟨0xF002, 0⟩
def Ev.PRESENCE_STUCK : Ev := ⟨0xF003, 1⟩
def Ev.SEALED_REFUSED_NO_WINDOW : Ev := ⟨0xF004, 1⟩
def Ev.SEALED_OP_DONE : Ev := ⟨0xF010, 0⟩
def Ev.PORT_LINK_UP : Ev := ⟨0x3001, 0⟩
def Ev.PORT_LINK_DOWN : Ev := ⟨0x3002, 0⟩
def Ev.PORT_DEGRADED : Ev := ⟨0x3003, 0⟩
def Ev.HOST_VIOLATION : Ev := ⟨0x3004, 0⟩
def Ev.RECORDS_DROPPED : Ev := ⟨0x3005, 0⟩
def Ev.LD_CONTAINED : Ev := ⟨0x3006, 1⟩
def Ev.SHARER_FENCED : Ev := ⟨0x3007, 2⟩
def Ev.DECODER_REFUSED : Ev := ⟨0x3008, 0⟩
def Ev.PAIR_UNAVAILABLE : Ev := ⟨0x4001, 1⟩
def Ev.PAIR_RESTORED : Ev := ⟨0x4002, 0⟩
def Ev.BARRIER_TIMEOUT : Ev := ⟨0x4003, 1⟩
def Ev.WELT_CORRECTED : Ev := ⟨0x4004, 0⟩
def Ev.WELT_UNCORRECTED : Ev := ⟨0x4005, 1⟩
def Ev.WELT_REPLAYED : Ev := ⟨0x4006, 0⟩
def Ev.WELT_RETAINED_AT_RESET : Ev := ⟨0x4007, 0⟩
def Ev.SKIVE_UNCORRECTED : Ev := ⟨0x4008, 1⟩
def Ev.GPF_SERVED : Ev := ⟨0x4009, 0⟩
def Ev.BARRIERS_ENDED_BY_COMMIT : Ev := ⟨0x400A, 0⟩
def Ev.RESET_LINES_UNRECOVERED : Ev := ⟨0x400B, 2⟩
def Ev.TREE_CORRECTED : Ev := ⟨0x5001, 0⟩
def Ev.TREE_REPAIRED : Ev := ⟨0x5002, 1⟩
def Ev.REGION_CONFLICT : Ev := ⟨0x5003, 1⟩
def Ev.TREE_LINE_POISONED : Ev := ⟨0x5004, 1⟩
def Ev.TREE_WAY_ISOLATED : Ev := ⟨0x5005, 2⟩
def Ev.SNOOP_GUARD_EXPIRED : Ev := ⟨0x5010, 2⟩
def Ev.COHERENCE_PROTOCOL_ERROR : Ev := ⟨0x5011, 2⟩
def Ev.AGENT_ISOLATED : Ev := ⟨0x5012, 2⟩
def Ev.NACK_STARVATION : Ev := ⟨0x5013, 0⟩
def Ev.HHB_FILLED : Ev := ⟨0x5014, 0⟩
def Ev.RDX_REFUSED : Ev := ⟨0x5015, 1⟩
def Ev.DRAM_CORRECTED : Ev := ⟨0x6001, 0⟩
def Ev.DRAM_REPAIRED : Ev := ⟨0x6002, 0⟩
def Ev.DRAM_CLEAN_REFETCH : Ev := ⟨0x6003, 1⟩
def Ev.DRAM_DIRTY_LOST : Ev := ⟨0x6004, 2⟩
def Ev.MIRROR_LINE_LOST : Ev := ⟨0x6005, 1⟩
def Ev.BITMAP_LINE_RESET : Ev := ⟨0x6006, 0⟩
def Ev.INTERNAL_LINE_LOST : Ev := ⟨0x6007, 1⟩
def Ev.DRAM_FRAME_RETIRED : Ev := ⟨0x6008, 1⟩
def Ev.DIMM_DEVICE_DEGRADED : Ev := ⟨0x6009, 1⟩
def Ev.DIMM_TEMP_HIGH : Ev := ⟨0x600A, 0⟩
def Ev.DRAM_TRAIN_FAIL : Ev := ⟨0x600B, 2⟩
def Ev.DRAM_RETRAIN_FAIL : Ev := ⟨0x600C, 1⟩
def Ev.DIMM_POPULATION : Ev := ⟨0x600D, 2⟩
def Ev.SCRUB_LATE : Ev := ⟨0x600E, 0⟩
def Ev.ADMIT_PACED : Ev := ⟨0x7001, 0⟩
def Ev.ADMIT_STOPPED : Ev := ⟨0x7002, 1⟩
def Ev.HOLDUP_MISMATCH : Ev := ⟨0x7003, 1⟩
def Ev.HOLDUP_UNAVAILABLE : Ev := ⟨0x7004, 2⟩
def Ev.WARN_ENTERED : Ev := ⟨0x7005, 0⟩
def Ev.WARN_STOOD_DOWN : Ev := ⟨0x7006, 0⟩
def Ev.COMMIT_ENTERED : Ev := ⟨0x7007, 0⟩
def Ev.COMMIT_DONE : Ev := ⟨0x7008, 0⟩
def Ev.COMMIT_ENDED_EARLY : Ev := ⟨0x7009, 2⟩
def Ev.REQUAL_POWER_UP : Ev := ⟨0x700A, 0⟩
def Ev.DIRTY_MAP_LINE_LOST : Ev := ⟨0x700B, 1⟩
def Ev.ZONES_EXHAUSTED : Ev := ⟨0x700C, 1⟩
def Ev.ZONE_HANDOVER : Ev := ⟨0x700D, 0⟩
def Ev.POOL_GROW_REFUSED : Ev := ⟨0x700E, 1⟩
def Ev.WARMUP_DONE : Ev := ⟨0x700F, 0⟩
def Ev.STIRRUP_UP : Ev := ⟨0x8001, 0⟩
def Ev.STIRRUP_DOWN : Ev := ⟨0x8002, 1⟩
def Ev.STIRRUP_DEGRADED : Ev := ⟨0x8003, 1⟩
def Ev.TWIN_FAILED : Ev := ⟨0x8004, 2⟩
def Ev.CLAIM_WON : Ev := ⟨0x8005, 1⟩
def Ev.FENCED : Ev := ⟨0x8006, 3⟩
def Ev.RESYNC_DONE : Ev := ⟨0x8007, 0⟩
def Ev.POOL_FULL : Ev := ⟨0x8008, 1⟩
def Ev.PROTOCOL_INCOMPATIBLE : Ev := ⟨0x8009, 2⟩
def Ev.TWIN_VIOLATION : Ev := ⟨0x800A, 0⟩
def Ev.TWIN_CONTAINED : Ev := ⟨0x800B, 1⟩
def Ev.STANDBY_MISMATCH : Ev := ⟨0x800C, 1⟩
def Ev.TWIN_STALLED : Ev := ⟨0x800D, 2⟩
def Ev.FAILBACK_DONE : Ev := ⟨0x800E, 0⟩
def Ev.HANDOVER_TAKEN : Ev := ⟨0x800F, 1⟩
def Ev.CLAIM_NO_MAJORITY : Ev := ⟨0x8010, 2⟩
def Ev.POOL_DUMPED : Ev := ⟨0x8011, 1⟩
def Ev.DRIVE_ADDED : Ev := ⟨0x9001, 0⟩
def Ev.DRIVE_REMOVED : Ev := ⟨0x9002, 1⟩
def Ev.DRIVE_UNSUITABLE : Ev := ⟨0x9003, 1⟩
def Ev.MEMBER_FAILED : Ev := ⟨0x9004, 2⟩
def Ev.SET_DEGRADED : Ev := ⟨0x9005, 2⟩
def Ev.SET_FAILED : Ev := ⟨0x9006, 3⟩
def Ev.REBUILD_STARTED : Ev := ⟨0x9007, 0⟩
def Ev.REBUILD_DONE : Ev := ⟨0x9008, 0⟩
def Ev.READ_RECONSTRUCTED : Ev := ⟨0x9009, 0⟩
def Ev.STRIPE_RELOCATED : Ev := ⟨0x900A, 1⟩
def Ev.LINES_POISONED : Ev := ⟨0x900B, 2⟩
def Ev.JOURNAL_FULL : Ev := ⟨0x900C, 1⟩
def Ev.JOURNAL_COPY_BAD : Ev := ⟨0x900D, 1⟩
def Ev.JOURNAL_LOST : Ev := ⟨0x900E, 3⟩
def Ev.DRIVE_VIOLATION : Ev := ⟨0x900F, 0⟩
def Ev.DRIVE_CONTAINED : Ev := ⟨0x9010, 1⟩
def Ev.DRIVE_PREDICTED : Ev := ⟨0x9011, 1⟩
def Ev.LAYOUT_DEFERRED : Ev := ⟨0x9012, 1⟩
def Ev.POOL_MERGED : Ev := ⟨0x9013, 0⟩
def Ev.STRIPE_WRITE_FAILED : Ev := ⟨0x9014, 1⟩
def Ev.LOAD_LATE : Ev := ⟨0xA001, 1⟩
def Ev.STREAM_UNDERRUN : Ev := ⟨0xA002, 0⟩
def Ev.STREAM_DEADLINE : Ev := ⟨0xA003, 1⟩
def Ev.OBJECT_POISON : Ev := ⟨0xA004, 2⟩
def Ev.REPLICA_USED : Ev := ⟨0xA005, 1⟩
def Ev.T2_SEGMENTS_LOST : Ev := ⟨0xA006, 2⟩
def Ev.LEASE_RECALLED : Ev := ⟨0xA007, 0⟩
def Ev.VOLATILE_RESET : Ev := ⟨0xA008, 0⟩
def Ev.ROOT_RECORD_BAD : Ev := ⟨0xA009, 1⟩
def Ev.PORT_LINK_UP_B001 : Ev := ⟨0xB001, 0⟩
def Ev.PORT_LINK_DOWN_B002 : Ev := ⟨0xB002, 1⟩
def Ev.CONN_ERROR : Ev := ⟨0xB003, 0⟩
def Ev.RETRY_EXHAUSTED : Ev := ⟨0xB004, 0⟩
def Ev.PROBE_POOL_FULL : Ev := ⟨0xB005, 1⟩
def Ev.EVICT_REFUSED : Ev := ⟨0xB006, 0⟩
def Ev.TAG_FAILED : Ev := ⟨0xB007, 1⟩
def Ev.REVOKE_FORCED : Ev := ⟨0xB008, 1⟩
def Ev.LEASE_OPEN_FAILED : Ev := ⟨0xB009, 1⟩
def Ev.PEER_CONTAINED : Ev := ⟨0xB00A, 1⟩
def Ev.KEY_LOADED : Ev := ⟨0xC001, 0⟩
def Ev.CORE_ISOLATED : Ev := ⟨0xC002, 2⟩
def Ev.KEY_UNWRAP_FAILED : Ev := ⟨0xC003, 1⟩
def Ev.CIPHER_LENGTH : Ev := ⟨0xC004, 2⟩
def Ev.KEY_SLOT_BROKEN : Ev := ⟨0xC005, 1⟩
def Ev.SET_KEY_MISSING : Ev := ⟨0xC006, 2⟩
def Ev.SET_KEY_MISMATCH : Ev := ⟨0xC007, 3⟩
def Ev.KEY_STORE_CORRUPT : Ev := ⟨0xC008, 2⟩
def Ev.KEEPER_HEARTBEAT_MISSED : Ev := ⟨0xDF03, 3⟩
def Ev.POMMEL_WATCHDOG : Ev := ⟨0xDF04, 4⟩
def Ev.WDI_MISSED : Ev := ⟨0x1F05, 5⟩
def Ev.RAIL_TABLE_DEFAULT : Ev := ⟨0x1001, 1⟩
def Ev.RAIL_PG_FAULT : Ev := ⟨0x1002, 0⟩
def Ev.RAIL_RETRY_OK : Ev := ⟨0x1003, 0⟩
def Ev.RAIL_RETRY_FAILED : Ev := ⟨0x1004, 0⟩
def Ev.RAIL_GROUP_OFF : Ev := ⟨0x1005, 3⟩
def Ev.RAIL_SYS_RESET : Ev := ⟨0x1006, 5⟩
def Ev.POWERUP_BACKOUT : Ev := ⟨0x1007, 1⟩
def Ev.POWERUP_HALTED : Ev := ⟨0x1008, 3⟩
def Ev.RAIL_FAULT_IN_COMMIT : Ev := ⟨0x1009, 0⟩
def Ev.RAIL_STUCK_ON : Ev := ⟨0x100A, 1⟩
def Ev.FAULT_N_EXTERNAL : Ev := ⟨0x100B, 0⟩
def Ev.FAULT_N_GLITCH : Ev := ⟨0x100C, 0⟩
def Ev.PSU_OK_LOW : Ev := ⟨0x100D, 0⟩
def Ev.HOLDUP_LOW : Ev := ⟨0x100E, 0⟩
def Ev.RETENTION_LOST : Ev := ⟨0x400C, 2⟩
def Ev.MODE_STRAP_INVALID : Ev := ⟨0xE001, 3⟩
def Ev.BRINGUP_READY : Ev := ⟨0xE020, 0⟩
def Ev.BRINGUP_STEP_LATE : Ev := ⟨0xE021, 1⟩
def Ev.WARM_RESET : Ev := ⟨0xE022, 0⟩
def Ev.WARM_RESET_PROMOTED : Ev := ⟨0xE023, 1⟩
def Ev.PORST_DEFERRED : Ev := ⟨0xE024, 0⟩
def Ev.FLASH_ERASE_UNFINISHED : Ev := ⟨0xD001, 0⟩
def Ev.FLASH_SECTOR_RECOVERED : Ev := ⟨0xD002, 0⟩
def Ev.FLASH_WEAR_HIGH : Ev := ⟨0xD003, 1⟩
def Ev.FLASH_ERASE_FAILED : Ev := ⟨0xD004, 1⟩
def Ev.FLASH_PROGRAM_FAILED : Ev := ⟨0xD005, 1⟩
def Ev.FW_SLOT_BAD : Ev := ⟨0xD010, 1⟩
def Ev.FW_TRIAL_START : Ev := ⟨0xD011, 0⟩
def Ev.FW_CONFIRMED : Ev := ⟨0xD012, 0⟩
def Ev.FW_FALLBACK : Ev := ⟨0xD013, 1⟩
def Ev.FW_REJECTED : Ev := ⟨0xD014, 1⟩
def Ev.BOOT_RECORD_CORRUPT : Ev := ⟨0xD015, 2⟩
def Ev.FW_FORCED_SLOT : Ev := ⟨0xD016, 0⟩
def Ev.CFG_CONVERTED : Ev := ⟨0xD017, 0⟩
def Ev.RECORDER_CLEARED : Ev := ⟨0x0001, 0⟩
def Ev.STAGING_OVERFLOW : Ev := ⟨0x0002, 1⟩
def Ev.CLEAR_INTENT : Ev := ⟨0x0003, 0⟩
def Ev.TORN_RECORD_SKIPPED : Ev := ⟨0x0004, 0⟩
def Ev.AREA_SECTOR_LOST : Ev := ⟨0x0005, 1⟩
def Ev.FIRST_AREA_FULL : Ev := ⟨0x0006, 0⟩
def Ev.LINE_RESERVE : Ev := ⟨0x0007, 0⟩
def Ev.LX_RING_ERROR : Ev := ⟨0x3009, 0⟩

end Sys2Proof.Machine
end

