-- ==== Sys2Proof/Config.lean ====
section
/-!
DEFINITION. What one chip fixes and the manual does not: fused numbers and the values the manual leaves open. Every
constant here is opaque: nothing can evaluate it, so a statement that holds of the model holds whatever its value is.
-/
namespace Sys2Proof

/-- The fused device serial number (GLB_SERIAL, OD 0x1000:03, compared under R54 and R338). -/
opaque Config.serial : BitVec 64

/-- GLB_REV bits [15:0]: stepping and boot ROM version, fixed in silicon. -/
opaque Config.siliconRev : BitVec 16

/-- The stream of free values: the value the manual leaves open at the n-th place where the model needs one
(State.freeCtr counts them). Nothing constrains it. -/
opaque Config.freeValue : Nat → BitVec 64

/-- The Welt bank a line address is held in, 0 to 7 (R160: a hash of the line address that the manual does not give). -/
opaque Config.weltBank : Nat → Fin 8

/-- What a cipher core makes of the data of a job: the standard AES modes that R459 to R462 name and do not restate. Its
arguments are the class of the job, the usage, the key, the tweak or IV and the data. -/
opaque Config.cipherBytes : Nat → Nat → Bytes → Nat → Bytes → Bytes

/-- The padding that fills the units of a partial stripe, by media address (R305 does not give its bytes). -/
opaque Config.padByte : Nat → BitVec 8

/-- What the pommel core unwraps from an import blob with the fused import key (R465): the key, or nothing where the unwrap
fails. Its arguments are the usage that the blob names and its bytes. -/
opaque Config.unwrap : Nat → Bytes → Option Bytes

/-- The key check value (R466): the first 8 bytes of AES encryption of a zero block under a key of a usage. -/
opaque Config.keyCheck : Nat → Bytes → BitVec 64

/-- The ROM fuse that revokes a signing key (R555). -/
opaque Config.keyRevoked : Nat → Bool

/-- ECDSA P-384 verification of an image's signature over the SHA-384 of the signed bytes, by the signing key of an index (R554, R555): the
manual names the algorithm and does not restate it. -/
opaque Config.signatureGood : Nat → Bytes → Bytes → Bool

/-- SHA-384 (R554). -/
opaque Config.sha384 : Bytes → Bytes

/-- The fused public import key (OD 0x1050:01, R465). -/
opaque Config.importPubkey : Bytes

/-- The MAC addresses of the Ethernet ports, from fuses (OD 0x7010+p:01). -/
opaque Config.mac : Nat → BitVec 48

/-- The effect word of a mailbox opcode in the Command Effects Log (R138 names the log and not its entries). -/
opaque Config.celEffect : Nat → BitVec 16

end Sys2Proof
end

