-- ==== Sys2Proof/Machine/RegMap.lean ====
section
/-!
DEFINITION. The register map: every register and field of the register tables of spec/ (chapters 02 to 22), by the
manual's names, written out from those tables: its place, its access code (R65), its reset value and the lock that
governs it (R79).
-/
namespace Sys2Proof.Machine

def Reg.LCK_CFG_FORCE_SYNTH : Fld := ⟨0x10000 * 8 + 0, 1, 0⟩
def Reg.LCK_CFG_SYNTH_60 : Fld := ⟨0x10000 * 8 + 1, 1, 0⟩
def Reg.LCK_CFG_LCK_CFG_LOCK : Fld := ⟨0x10000 * 8 + 31, 1, 0⟩
def Reg.LCK_STATUS_STATE : Fld := ⟨0x10004 * 8 + 0, 2, 0⟩
def Reg.LCK_STATUS_FREQ_60 : Fld := ⟨0x10004 * 8 + 2, 1, 0⟩
def Reg.LCK_STATUS_TWIN_ALIGNED : Fld := ⟨0x10004 * 8 + 3, 1, 0⟩
def Reg.LCK_STATUS_LINE_SEEN : Fld := ⟨0x10004 * 8 + 4, 1, 0⟩
def Reg.LCK_STATUS_MISS_RUN : Fld := ⟨0x10004 * 8 + 5, 3, 0⟩
def Reg.LCK_STATUS_GOOD_RUN : Fld := ⟨0x10004 * 8 + 8, 3, 0⟩
def Reg.LCK_TIME_LO_PHASE : Fld := ⟨0x10008 * 8 + 0, 10, 0⟩
def Reg.LCK_TIME_LO_COUNT_LO : Fld := ⟨0x10008 * 8 + 10, 22, 0⟩
def Reg.LCK_TIME_HI_COUNT_HI : Fld := ⟨0x1000C * 8 + 0, 18, 0⟩
def Reg.LCK_PERIOD_PERIOD : Fld := ⟨0x10010 * 8 + 0, 20, 0⟩
def Reg.LCK_TWIN_PHASE_DIFF : Fld := ⟨0x10014 * 8 + 0, 8, 0⟩
def Reg.LCK_TWIN_COUNT_MATCH : Fld := ⟨0x10014 * 8 + 8, 1, 0⟩
def Reg.LCK_EVENTS_MISSED : Fld := ⟨0x10018 * 8 + 0, 1, 0⟩
def Reg.LCK_EVENTS_RELOCK : Fld := ⟨0x10018 * 8 + 1, 1, 0⟩
def Reg.LCK_EVENTS_GLITCH : Fld := ⟨0x10018 * 8 + 2, 1, 0⟩
def Reg.LCK_EVENTS_ALIGN_STEP : Fld := ⟨0x10018 * 8 + 3, 1, 0⟩
def Reg.LCK_EVENTS_ALIGN_LOST : Fld := ⟨0x10018 * 8 + 4, 1, 0⟩
def Reg.LCK_EVENTS_FREQ_RANGE : Fld := ⟨0x10018 * 8 + 5, 1, 0⟩
def Reg.LCK_COUNTS_MISSED_TOTAL : Fld := ⟨0x1001C * 8 + 0, 16, 0⟩
def Reg.LCK_COUNTS_GLITCH_TOTAL : Fld := ⟨0x1001C * 8 + 16, 16, 0⟩
def Reg.MBX_CLAIM_CLAIM : Fld := ⟨0x30000 * 8 + 0, 1, 1⟩
def Reg.MBX_CLAIM_OWNER : Fld := ⟨0x30000 * 8 + 1, 4, 0xF⟩
def Reg.MBX_CLAIM_RELEASE : Fld := ⟨0x30000 * 8 + 5, 1, 0⟩
def Reg.MBX_CTRL_OP : Fld := ⟨0x30004 * 8 + 0, 2, 0⟩
def Reg.MBX_CTRL_START : Fld := ⟨0x30004 * 8 + 2, 1, 0⟩
def Reg.MBX_CTRL_ABORT : Fld := ⟨0x30004 * 8 + 3, 1, 0⟩
def Reg.MBX_CTRL_BUSY : Fld := ⟨0x30004 * 8 + 4, 1, 0⟩
def Reg.MBX_CTRL_VALID : Fld := ⟨0x30004 * 8 + 5, 1, 0⟩
def Reg.MBX_CTRL_STATUS : Fld := ⟨0x30004 * 8 + 8, 8, 0x00⟩
def Reg.MBX_CTRL_ABORT_RESULT : Fld := ⟨0x30004 * 8 + 16, 8, 0x00⟩
def Reg.MBX_KEY_SUBINDEX : Fld := ⟨0x30008 * 8 + 0, 8, 0⟩
def Reg.MBX_KEY_INDEX : Fld := ⟨0x30008 * 8 + 8, 16, 0⟩
def Reg.MBX_OFFSET_CHUNK : Fld := ⟨0x3000C * 8 + 8, 16, 0⟩
def Reg.MBX_LENGTH_WIN_LEN : Fld := ⟨0x30010 * 8 + 0, 9, 0⟩
def Reg.MBX_LENGTH_TOTAL_ENC : Fld := ⟨0x30010 * 8 + 9, 23, 0⟩
def Reg.GLB_ID_PART : Fld := ⟨0x0 * 8 + 0, 16, 0x7180⟩
def Reg.GLB_ID_FAMILY : Fld := ⟨0x0 * 8 + 16, 8, 0x01⟩
def Reg.GLB_ID_VENDOR : Fld := ⟨0x0 * 8 + 24, 8, 0x56⟩
def Reg.GLB_REV_STEP_MINOR : Fld := ⟨0x4 * 8 + 0, 4, (Config.siliconRev.toNat % 0x10)⟩
def Reg.GLB_REV_STEP_MAJOR : Fld := ⟨0x4 * 8 + 4, 4, (Config.siliconRev.toNat / 0x10 % 0x10)⟩
def Reg.GLB_REV_ROM_VER : Fld := ⟨0x4 * 8 + 8, 8, (Config.siliconRev.toNat / 0x100)⟩
def Reg.GLB_SERIAL_LO_SERIAL_LO : Fld := ⟨0x8 * 8 + 0, 32, (Config.serial.toNat % 0x100000000)⟩
def Reg.GLB_SERIAL_HI_SERIAL_HI : Fld := ⟨0xC * 8 + 0, 32, (Config.serial.toNat / 0x100000000)⟩
def Reg.GLB_MODE_MODE_STRAP : Fld := ⟨0x10 * 8 + 0, 2, 0⟩
def Reg.GLB_MODE_SERVICE_STRAP : Fld := ⟨0x10 * 8 + 2, 1, 0⟩
def Reg.GLB_MODE_TWIN_STRAP : Fld := ⟨0x10 * 8 + 3, 1, 0⟩
def Reg.GLB_MODE_MODE_SEL : Fld := ⟨0x10 * 8 + 4, 2, 0⟩
def Reg.GLB_MODE_OVL_NATIVE : Fld := ⟨0x10 * 8 + 8, 1, 0⟩
def Reg.GLB_MODE_OVL_COMPAT : Fld := ⟨0x10 * 8 + 9, 1, 0⟩
def Reg.GLB_MODE_OVL_SERVICE : Fld := ⟨0x10 * 8 + 10, 1, 0⟩
def Reg.GLB_MODE_OVL_SINGLE : Fld := ⟨0x10 * 8 + 11, 1, 0⟩
def Reg.GLB_MODE_SANDBOX : Fld := ⟨0x10 * 8 + 12, 1, 0⟩
def Reg.GLB_STATUS_READY : Fld := ⟨0x14 * 8 + 0, 1, 0⟩
def Reg.GLB_STATUS_WARN : Fld := ⟨0x14 * 8 + 1, 1, 0⟩
def Reg.GLB_STATUS_COMMIT : Fld := ⟨0x14 * 8 + 2, 1, 0⟩
def Reg.GLB_STATUS_STAGE : Fld := ⟨0x14 * 8 + 4, 4, 0⟩
def Reg.GLB_STATUS_ACTIVE_SLOT : Fld := ⟨0x14 * 8 + 8, 1, 0⟩
def Reg.GLB_STATUS_TRIAL : Fld := ⟨0x14 * 8 + 9, 1, 0⟩
def Reg.GLB_RESET_CAUSE_PORST : Fld := ⟨0x18 * 8 + 0, 1, 1⟩
def Reg.GLB_RESET_CAUSE_WRST_PIN : Fld := ⟨0x18 * 8 + 1, 1, 0⟩
def Reg.GLB_RESET_CAUSE_SW_WARM : Fld := ⟨0x18 * 8 + 2, 1, 0⟩
def Reg.GLB_RESET_CAUSE_POMMEL_WDOG : Fld := ⟨0x18 * 8 + 3, 1, 0⟩
def Reg.GLB_RESET_CAUSE_WDI : Fld := ⟨0x18 * 8 + 4, 1, 0⟩
def Reg.GLB_RESET_CAUSE_FAULT_S4 : Fld := ⟨0x18 * 8 + 5, 1, 0⟩
def Reg.GLB_SW_RESET_KEY : Fld := ⟨0x1C * 8 + 0, 32, 0⟩
def Reg.GLB_UNIT_RESET_LAT : Fld := ⟨0x20 * 8 + 0, 1, 0⟩
def Reg.GLB_UNIT_RESET_BKL : Fld := ⟨0x20 * 8 + 1, 1, 0⟩
def Reg.GLB_UNIT_RESET_TIR : Fld := ⟨0x20 * 8 + 2, 1, 0⟩
def Reg.GLB_UNIT_RESET_STM : Fld := ⟨0x20 * 8 + 3, 1, 0⟩
def Reg.GLB_UNIT_RESET_FLS : Fld := ⟨0x20 * 8 + 4, 1, 0⟩
def Reg.GLB_UNIT_RESET_KCB : Fld := ⟨0x20 * 8 + 5, 1, 0⟩
def Reg.GLB_ACCESS_ERR_MASTER : Fld := ⟨0x24 * 8 + 0, 4, 0⟩
def Reg.GLB_ACCESS_ERR_CAUSE : Fld := ⟨0x24 * 8 + 4, 4, 0⟩
def Reg.GLB_ACCESS_ADDR_OFFSET : Fld := ⟨0x28 * 8 + 0, 26, 0⟩
def Reg.GLB_ACCESS_COUNT_COUNT : Fld := ⟨0x2C * 8 + 0, 32, 0⟩
def Reg.CFG_CTRL_HOLD : Fld := ⟨0x20000 * 8 + 0, 1, 0⟩
def Reg.CFG_CTRL_CRC_EN : Fld := ⟨0x20000 * 8 + 1, 1, 0⟩
def Reg.CFG_CTRL_CRC_REACT : Fld := ⟨0x20000 * 8 + 2, 2, 1⟩
def Reg.CFG_CTRL_CFG_CTRL_LOCK : Fld := ⟨0x20000 * 8 + 31, 1, 0⟩
def Reg.CFG_PENDING_BLOCK : Fld := ⟨0x20004 * 8 + 0, 19, 0⟩
def Reg.CFG_PENDING_LXF : Fld := ⟨0x20004 * 8 + 19, 1, 0⟩
def Reg.CFG_CRC_REF_REF : Fld := ⟨0x20008 * 8 + 0, 32, 0⟩
def Reg.CFG_CRC_NOW_NOW : Fld := ⟨0x2000C * 8 + 0, 32, 0⟩
def Reg.CFG_CRC_STATUS_MATCH : Fld := ⟨0x20010 * 8 + 0, 1, 0⟩
def Reg.CFG_CRC_STATUS_MISMATCH_RUN : Fld := ⟨0x20010 * 8 + 1, 2, 0⟩
def Reg.CFG_CRC_STATUS_HOLD_LONG : Fld := ⟨0x20010 * 8 + 3, 1, 0⟩
def Reg.CFG_CRC_STATUS_FAULT : Fld := ⟨0x20010 * 8 + 4, 1, 0⟩
def Reg.CFG_CRC_STATUS_FROZEN : Fld := ⟨0x20010 * 8 + 5, 1, 0⟩
def Reg.HPT_PORT_CTRL_ENABLE (p : Nat) : Fld := ⟨(0x40000 + 0x1000 * p) * 8 + 0, 1, 0⟩
def Reg.HPT_PORT_CTRL_RATE_32 (p : Nat) : Fld := ⟨(0x40000 + 0x1000 * p) * 8 + 1, 1, 0⟩
def Reg.HPT_PORT_CTRL_FLIT68_EN (p : Nat) : Fld := ⟨(0x40000 + 0x1000 * p) * 8 + 2, 1, 0⟩
def Reg.HPT_PORT_CTRL_HPT_PORT_CTRL_LOCK (p : Nat) : Fld := ⟨(0x40000 + 0x1000 * p) * 8 + 31, 1, 0⟩
def Reg.HPT_PORT_STATUS_LINK_UP (p : Nat) : Fld := ⟨(0x40004 + 0x1000 * p) * 8 + 0, 1, 0⟩
def Reg.HPT_PORT_STATUS_RATE_64 (p : Nat) : Fld := ⟨(0x40004 + 0x1000 * p) * 8 + 1, 1, 0⟩
def Reg.HPT_PORT_STATUS_WIDTH (p : Nat) : Fld := ⟨(0x40004 + 0x1000 * p) * 8 + 2, 3, 0⟩
def Reg.HPT_PORT_STATUS_ROLE (p : Nat) : Fld := ⟨(0x40004 + 0x1000 * p) * 8 + 5, 2, 0⟩
def Reg.HPT_PORT_STATUS_STATE (p : Nat) : Fld := ⟨(0x40004 + 0x1000 * p) * 8 + 7, 2, 2⟩
def Reg.HPT_PORT_STATUS_CONTAINED (p : Nat) : Fld := ⟨(0x40004 + 0x1000 * p) * 8 + 9, 1, 0⟩
def Reg.HPT_PORT_STATUS_FLIT68 (p : Nat) : Fld := ⟨(0x40004 + 0x1000 * p) * 8 + 10, 1, 0⟩
def Reg.HPT_PORT_STATUS_CREDITS_OPEN (p : Nat) : Fld := ⟨(0x40004 + 0x1000 * p) * 8 + 11, 1, 0⟩
def Reg.HPT_PORT_STATUS_LD_COUNT (p : Nat) : Fld := ⟨(0x40004 + 0x1000 * p) * 8 + 12, 5, 0⟩
def Reg.HPT_PORT_LAT_TARGET_TARGET (p : Nat) : Fld := ⟨(0x40008 + 0x1000 * p) * 8 + 0, 16, 1000⟩
def Reg.HPT_PORT_TRACK_FREE (p : Nat) : Fld := ⟨(0x4000C + 0x1000 * p) * 8 + 0, 15, 0⟩
def Reg.HPT_PORT_TRACK_LOW_WATER (p : Nat) : Fld := ⟨(0x4000C + 0x1000 * p) * 8 + 16, 15, 0x7FFF⟩
def Reg.HPT_PORT_VIOL_COUNT (p : Nat) : Fld := ⟨(0x40010 + 0x1000 * p) * 8 + 0, 16, 0⟩
def Reg.HPT_PORT_VIOL_LAST_CAUSE (p : Nat) : Fld := ⟨(0x40010 + 0x1000 * p) * 8 + 16, 4, 0⟩
def Reg.HPT_PORT_VIOL_LAST_LD (p : Nat) : Fld := ⟨(0x40010 + 0x1000 * p) * 8 + 20, 6, 0⟩
def Reg.HPT_PORT_EVENTS_LINK_UP (p : Nat) : Fld := ⟨(0x40014 + 0x1000 * p) * 8 + 0, 1, 0⟩
def Reg.HPT_PORT_EVENTS_LINK_DOWN (p : Nat) : Fld := ⟨(0x40014 + 0x1000 * p) * 8 + 1, 1, 0⟩
def Reg.HPT_PORT_EVENTS_DEGRADED (p : Nat) : Fld := ⟨(0x40014 + 0x1000 * p) * 8 + 2, 1, 0⟩
def Reg.HPT_PORT_EVENTS_VIOLATION (p : Nat) : Fld := ⟨(0x40014 + 0x1000 * p) * 8 + 3, 1, 0⟩
def Reg.HPT_PORT_EVENTS_CONTAINED (p : Nat) : Fld := ⟨(0x40014 + 0x1000 * p) * 8 + 4, 1, 0⟩
def Reg.HPT_PORT_EVENTS_RECORDS_DROPPED (p : Nat) : Fld := ⟨(0x40014 + 0x1000 * p) * 8 + 5, 1, 0⟩
def Reg.HPT_LD_CFG_ENABLE (n : Nat) : Fld := ⟨(0x50000 + 0x40 * n) * 8 + 0, 1, 0⟩
def Reg.HPT_LD_CFG_MGMT (n : Nat) : Fld := ⟨(0x50000 + 0x40 * n) * 8 + 1, 1, 0⟩
def Reg.HPT_LD_CFG_PORT (n : Nat) : Fld := ⟨(0x50000 + 0x40 * n) * 8 + 4, 4, 0⟩
def Reg.HPT_LD_CFG_TENANT (n : Nat) : Fld := ⟨(0x50000 + 0x40 * n) * 8 + 8, 6, 0⟩
def Reg.HPT_LD_CFG_GROUP (n : Nat) : Fld := ⟨(0x50000 + 0x40 * n) * 8 + 14, 6, 0x3F⟩
def Reg.HPT_LD_CFG_LD_ID (n : Nat) : Fld := ⟨(0x50000 + 0x40 * n) * 8 + 20, 4, 0⟩
def Reg.HPT_LD_CFG_CONTAINED (n : Nat) : Fld := ⟨(0x50000 + 0x40 * n) * 8 + 24, 1, 0⟩
def Reg.HPT_LD_CFG_FENCED (n : Nat) : Fld := ⟨(0x50000 + 0x40 * n) * 8 + 25, 1, 0⟩
def Reg.HPT_LD_CFG_HPT_LD_CFG_LOCK (n : Nat) : Fld := ⟨(0x50000 + 0x40 * n) * 8 + 31, 1, 0⟩
def Reg.HPT_LD_SIZE_SIZE (n : Nat) : Fld := ⟨(0x50004 + 0x40 * n) * 8 + 0, 19, 0⟩
def Reg.HPT_LD_DB_BUSY_LO_BUSY_LO (n : Nat) : Fld := ⟨(0x50008 + 0x40 * n) * 8 + 0, 32, 0⟩
def Reg.HPT_LD_DB_BUSY_HI_BUSY_HI (n : Nat) : Fld := ⟨(0x5000C + 0x40 * n) * 8 + 0, 32, 0⟩
def Reg.HPT_LD_VIOL_COUNT (n : Nat) : Fld := ⟨(0x50010 + 0x40 * n) * 8 + 0, 16, 0⟩
def Reg.HPT_LD_VIOL_LAST_CAUSE (n : Nat) : Fld := ⟨(0x50010 + 0x40 * n) * 8 + 16, 4, 0⟩
def Reg.HPT_SW_CFG_ENABLE (w : Nat) : Fld := ⟨(0x51000 + 0x10 * w) * 8 + 0, 1, 0⟩
def Reg.HPT_SW_CFG_GROUP (w : Nat) : Fld := ⟨(0x51000 + 0x10 * w) * 8 + 1, 5, 0⟩
def Reg.HPT_SW_CFG_HPT_SW_CFG_LOCK (w : Nat) : Fld := ⟨(0x51000 + 0x10 * w) * 8 + 31, 1, 0⟩
def Reg.HPT_SW_OFFSET_OFFSET (w : Nat) : Fld := ⟨(0x51004 + 0x10 * w) * 8 + 0, 19, 0⟩
def Reg.HPT_SW_SIZE_SIZE (w : Nat) : Fld := ⟨(0x51008 + 0x10 * w) * 8 + 0, 19, 0⟩
def Reg.HPT_GLB_STATUS_MEM_INFO_VALID : Fld := ⟨0x53000 * 8 + 0, 1, 0⟩
def Reg.HPT_GLB_STATUS_MEM_ACTIVE : Fld := ⟨0x53000 * 8 + 1, 1, 0⟩
def Reg.HPT_GLB_STATUS_COMMIT_CLOSED : Fld := ⟨0x53000 * 8 + 2, 1, 0⟩
def Reg.HPT_GLB_CFG_VIOL_LIMIT : Fld := ⟨0x53004 * 8 + 0, 16, 256⟩
def Reg.HPT_GLB_CFG_BISNP_GUARD : Fld := ⟨0x53004 * 8 + 16, 8, 20⟩
def Reg.WLT_CTRL_SKIVE_CLOSE : Fld := ⟨0x80000 * 8 + 0, 8, 64⟩
def Reg.WLT_GUARD_MEDIA_GUARD : Fld := ⟨0x80004 * 8 + 0, 16, 1000⟩
def Reg.WLT_STATUS_PAIR_AVAIL : Fld := ⟨0x80008 * 8 + 0, 1, 0⟩
def Reg.WLT_STATUS_SINGLE : Fld := ⟨0x80008 * 8 + 1, 1, 0⟩
def Reg.WLT_STATUS_FROZEN : Fld := ⟨0x80008 * 8 + 2, 1, 0⟩
def Reg.WLT_STATUS_REPLAYING : Fld := ⟨0x80008 * 8 + 3, 1, 0⟩
def Reg.WLT_STATUS_WELT_FULL : Fld := ⟨0x80008 * 8 + 4, 1, 0⟩
def Reg.WLT_STATUS_SKIVE_FULL : Fld := ⟨0x80008 * 8 + 5, 1, 0⟩
def Reg.WLT_WELT_OCC_USED : Fld := ⟨0x8000C * 8 + 0, 18, 0⟩
def Reg.WLT_SKIVE_OCC_USED : Fld := ⟨0x80010 * 8 + 0, 15, 0⟩
def Reg.WLT_SKIVE_OCC_PARTIAL : Fld := ⟨0x80010 * 8 + 16, 15, 0⟩
def Reg.WLT_ACCEPT_SEQ_LO_SEQ_LO : Fld := ⟨0x80018 * 8 + 0, 32, 0⟩
def Reg.WLT_ACCEPT_SEQ_HI_SEQ_HI : Fld := ⟨0x8001C * 8 + 0, 32, 0⟩
def Reg.WLT_BAR_RUN_RUN_TOTAL : Fld := ⟨0x80020 * 8 + 0, 13, 0⟩
def Reg.WLT_BAR_RUN_RUN_MEDIA : Fld := ⟨0x80020 * 8 + 13, 13, 0⟩
def Reg.WLT_BLAT_LOCAL_LAST : Fld := ⟨0x80024 * 8 + 0, 16, 0⟩
def Reg.WLT_BLAT_LOCAL_MAX : Fld := ⟨0x80024 * 8 + 16, 16, 0⟩
def Reg.WLT_BLAT_PAIR_LAST : Fld := ⟨0x80028 * 8 + 0, 16, 0⟩
def Reg.WLT_BLAT_PAIR_MAX : Fld := ⟨0x80028 * 8 + 16, 16, 0⟩
def Reg.WLT_BLAT_MEDIA_LAST : Fld := ⟨0x8002C * 8 + 0, 16, 0⟩
def Reg.WLT_BLAT_MEDIA_MAX : Fld := ⟨0x8002C * 8 + 16, 16, 0⟩
def Reg.WLT_BAR_ERR_TIMEOUTS : Fld := ⟨0x80030 * 8 + 0, 16, 0⟩
def Reg.WLT_BAR_ERR_NOT_READY : Fld := ⟨0x80030 * 8 + 16, 16, 0⟩
def Reg.WLT_ECC_CORRECTED : Fld := ⟨0x80034 * 8 + 0, 16, 0⟩
def Reg.WLT_ECC_REPAIRED : Fld := ⟨0x80034 * 8 + 16, 8, 0⟩
def Reg.WLT_ECC_POISONED : Fld := ⟨0x80034 * 8 + 24, 8, 0⟩
def Reg.WLT_GPF_PHASE : Fld := ⟨0x80038 * 8 + 0, 2, 0⟩
def Reg.WLT_GPF_COUNT : Fld := ⟨0x80038 * 8 + 16, 16, 0⟩
def Reg.WLT_EVENTS_PAIR_LOST : Fld := ⟨0x8003C * 8 + 0, 1, 0⟩
def Reg.WLT_EVENTS_PAIR_BACK : Fld := ⟨0x8003C * 8 + 1, 1, 0⟩
def Reg.WLT_EVENTS_BAR_TIMEOUT : Fld := ⟨0x8003C * 8 + 2, 1, 0⟩
def Reg.WLT_EVENTS_ECC_UNCORR : Fld := ⟨0x8003C * 8 + 3, 1, 0⟩
def Reg.WLT_EVENTS_REPLAY_DONE : Fld := ⟨0x8003C * 8 + 4, 1, 0⟩
def Reg.WLT_EVENTS_COMMIT_ENDED : Fld := ⟨0x8003C * 8 + 5, 1, 0⟩
def Reg.WLT_REPLAY_ENTRIES : Fld := ⟨0x80040 * 8 + 0, 18, 0⟩
def Reg.TRE_CTRL_DEF_POLICY : Fld := ⟨0xC0000 * 8 + 0, 3, 0⟩
def Reg.TRE_CTRL_DEF_COMPLETE : Fld := ⟨0xC0000 * 8 + 3, 1, 1⟩
def Reg.TRE_CTRL_FILL_AGE : Fld := ⟨0xC0000 * 8 + 4, 2, 1⟩
def Reg.TRE_STATUS_WALKING : Fld := ⟨0xC0004 * 8 + 0, 1, 0⟩
def Reg.TRE_STATUS_FLUSHING : Fld := ⟨0xC0004 * 8 + 1, 1, 0⟩
def Reg.TRE_STATUS_MAINT_BUSY : Fld := ⟨0xC0004 * 8 + 2, 1, 0⟩
def Reg.TRE_STATUS_WBB_FULL : Fld := ⟨0xC0004 * 8 + 16, 16, 0⟩
def Reg.TRE_MAINT_CTRL_OP : Fld := ⟨0xC0010 * 8 + 0, 2, 0⟩
def Reg.TRE_MAINT_CTRL_START : Fld := ⟨0xC0010 * 8 + 2, 1, 0⟩
def Reg.TRE_MAINT_CTRL_ABORT : Fld := ⟨0xC0010 * 8 + 3, 1, 0⟩
def Reg.TRE_MAINT_CTRL_BUSY : Fld := ⟨0xC0010 * 8 + 4, 1, 0⟩
def Reg.TRE_MAINT_CTRL_STATUS : Fld := ⟨0xC0010 * 8 + 8, 8, 0x00⟩
def Reg.TRE_MAINT_CTRL_ABORT_RESULT : Fld := ⟨0xC0010 * 8 + 16, 8, 0x00⟩
def Reg.TRE_MAINT_START_LO_START_LO : Fld := ⟨0xC0018 * 8 + 6, 26, 0⟩
def Reg.TRE_MAINT_START_HI_START_HI : Fld := ⟨0xC001C * 8 + 0, 11, 0⟩
def Reg.TRE_MAINT_END_LO_END_LO : Fld := ⟨0xC0020 * 8 + 6, 26, 0⟩
def Reg.TRE_MAINT_END_HI_END_HI : Fld := ⟨0xC0024 * 8 + 0, 11, 0⟩
def Reg.TRE_ECC_CORRECTED : Fld := ⟨0xC0030 * 8 + 0, 16, 0⟩
def Reg.TRE_ECC_REPAIRED : Fld := ⟨0xC0030 * 8 + 16, 8, 0⟩
def Reg.TRE_ECC_POISONED : Fld := ⟨0xC0030 * 8 + 24, 8, 0⟩
def Reg.TRE_EVENTS_REGION_CONFLICT : Fld := ⟨0xC0034 * 8 + 0, 1, 0⟩
def Reg.TRE_EVENTS_WAY_ISOLATED : Fld := ⟨0xC0034 * 8 + 1, 1, 0⟩
def Reg.TRE_EVENTS_UNCORRECTED : Fld := ⟨0xC0034 * 8 + 2, 1, 0⟩
def Reg.TRE_EVENTS_WALK_DONE : Fld := ⟨0xC0034 * 8 + 3, 1, 0⟩
def Reg.TRE_WAY_DISABLE_WAYS (s : Nat) : Fld := ⟨(0xC0800 + 0x4 * s) * 8 + 0, 16, 0⟩
def Reg.TRE_WAY_DISABLE_TRE_WAY_DISABLE_LOCK (s : Nat) : Fld := ⟨(0xC0800 + 0x4 * s) * 8 + 31, 1, 0⟩
def Reg.TRE_LFSR_SEED_SEED (s : Nat) : Fld := ⟨(0xC0900 + 0x4 * s) * 8 + 0, 16, (0xACE1 + s)⟩
def Reg.TRE_LFSR_SEED_TRE_LFSR_SEED_LOCK (s : Nat) : Fld := ⟨(0xC0900 + 0x4 * s) * 8 + 31, 1, 0⟩
def Reg.TRE_STAT_HIT_LO_HIT_LO (s : Nat) : Fld := ⟨(0xC1000 + 0x100 * s) * 8 + 0, 32, 0⟩
def Reg.TRE_STAT_HIT_HI_HIT_HI (s : Nat) : Fld := ⟨(0xC1004 + 0x100 * s) * 8 + 0, 32, 0⟩
def Reg.TRE_STAT_MISS_LO_COUNT (s : Nat) : Fld := ⟨(0xC1008 + 0x100 * s) * 8 + 0, 32, 0⟩
def Reg.TRE_STAT_MISS_HI_COUNT (s : Nat) : Fld := ⟨(0xC100C + 0x100 * s) * 8 + 0, 32, 0⟩
def Reg.TRE_STAT_EVD_LO_COUNT (s : Nat) : Fld := ⟨(0xC1010 + 0x100 * s) * 8 + 0, 32, 0⟩
def Reg.TRE_STAT_EVD_HI_COUNT (s : Nat) : Fld := ⟨(0xC1014 + 0x100 * s) * 8 + 0, 32, 0⟩
def Reg.TRE_STAT_EVC_LO_COUNT (s : Nat) : Fld := ⟨(0xC1018 + 0x100 * s) * 8 + 0, 32, 0⟩
def Reg.TRE_STAT_EVC_HI_COUNT (s : Nat) : Fld := ⟨(0xC101C + 0x100 * s) * 8 + 0, 32, 0⟩
def Reg.TRE_STAT_WBB_STALL_STALLS (s : Nat) : Fld := ⟨(0xC1020 + 0x100 * s) * 8 + 0, 32, 0⟩
def Reg.TRE_STAT_OCC_VALID (s : Nat) : Fld := ⟨(0xC1024 + 0x100 * s) * 8 + 0, 16, 0⟩
def Reg.TRE_STAT_OCC_DIRTY (s : Nat) : Fld := ⟨(0xC1024 + 0x100 * s) * 8 + 16, 16, 0⟩
def Reg.TRE_RGN_CFG_VALID (e : Nat) : Fld := ⟨(0xC4000 + 0x10 * e) * 8 + 0, 1, 0⟩
def Reg.TRE_RGN_CFG_LD (e : Nat) : Fld := ⟨(0xC4000 + 0x10 * e) * 8 + 1, 6, 0⟩
def Reg.TRE_RGN_CFG_POLICY (e : Nat) : Fld := ⟨(0xC4000 + 0x10 * e) * 8 + 7, 3, 0⟩
def Reg.TRE_RGN_CFG_COMPLETE (e : Nat) : Fld := ⟨(0xC4000 + 0x10 * e) * 8 + 10, 1, 1⟩
def Reg.TRE_RGN_BASE_BASE (e : Nat) : Fld := ⟨(0xC4004 + 0x10 * e) * 8 + 0, 25, 0⟩
def Reg.TRE_RGN_SIZE_SIZE (e : Nat) : Fld := ⟨(0xC4008 + 0x10 * e) * 8 + 0, 26, 0⟩
def Reg.GRT_CFG_SNOOP_GUARD : Fld := ⟨0x100000 * 8 + 0, 8, 20⟩
def Reg.GRT_CFG_NACK_PRIORITY : Fld := ⟨0x100000 * 8 + 8, 6, 8⟩
def Reg.GRT_HHB_BASE_LO_BASE_LO : Fld := ⟨0x100004 * 8 + 6, 26, 0⟩
def Reg.GRT_HHB_BASE_HI_BASE_HI : Fld := ⟨0x100008 * 8 + 0, 11, 0⟩
def Reg.GRT_HHB_SIZE_LINES : Fld := ⟨0x10000C * 8 + 0, 28, 0⟩
def Reg.GRT_HHB_SIZE_GRT_HHB_LOCK : Fld := ⟨0x10000C * 8 + 31, 1, 0⟩
def Reg.GRT_STATUS_ISOLATED : Fld := ⟨0x100010 * 8 + 0, 5, 0⟩
def Reg.GRT_STATUS_HHB_FILLING : Fld := ⟨0x100010 * 8 + 8, 1, 0⟩
def Reg.GRT_STATUS_BUSY_LINES : Fld := ⟨0x100010 * 8 + 16, 11, 0⟩
def Reg.GRT_STAT_ROUNDS_LO_ROUNDS_LO : Fld := ⟨0x100018 * 8 + 0, 32, 0⟩
def Reg.GRT_STAT_ROUNDS_HI_ROUNDS_HI : Fld := ⟨0x10001C * 8 + 0, 32, 0⟩
def Reg.GRT_STAT_BISNP_LO_BISNP_LO : Fld := ⟨0x100020 * 8 + 0, 32, 0⟩
def Reg.GRT_STAT_BISNP_HI_BISNP_HI : Fld := ⟨0x100024 * 8 + 0, 32, 0⟩
def Reg.GRT_STAT_NACK_RETRY : Fld := ⟨0x100028 * 8 + 0, 24, 0⟩
def Reg.GRT_STAT_NACK_REFUSED : Fld := ⟨0x100028 * 8 + 24, 8, 0⟩
def Reg.GRT_STAT_WBP_WB_PENDING : Fld := ⟨0x10002C * 8 + 0, 32, 0⟩
def Reg.GRT_ROUND_LAT_LAST : Fld := ⟨0x100030 * 8 + 0, 16, 0⟩
def Reg.GRT_ROUND_LAT_MAX : Fld := ⟨0x100030 * 8 + 16, 16, 0⟩
def Reg.GRT_BISNP_LAT_LAST : Fld := ⟨0x100034 * 8 + 0, 16, 0⟩
def Reg.GRT_BISNP_LAT_MAX : Fld := ⟨0x100034 * 8 + 16, 16, 0⟩
def Reg.GRT_EVENTS_GUARD_EXPIRED : Fld := ⟨0x100038 * 8 + 0, 1, 0⟩
def Reg.GRT_EVENTS_PROTOCOL_ERROR : Fld := ⟨0x100038 * 8 + 1, 1, 0⟩
def Reg.GRT_EVENTS_ISOLATED : Fld := ⟨0x100038 * 8 + 2, 1, 0⟩
def Reg.GRT_EVENTS_STARVATION : Fld := ⟨0x100038 * 8 + 3, 1, 0⟩
def Reg.GRT_EVENTS_HHB_FILLED : Fld := ⟨0x100038 * 8 + 4, 1, 0⟩
def Reg.GRT_EVENTS_RDX_REFUSED : Fld := ⟨0x100038 * 8 + 5, 1, 0⟩
def Reg.GRT_ERR_AGENT : Fld := ⟨0x10003C * 8 + 0, 4, 0⟩
def Reg.GRT_ERR_STATE : Fld := ⟨0x10003C * 8 + 4, 4, 0⟩
def Reg.GRT_ERR_MESSAGE : Fld := ⟨0x10003C * 8 + 8, 4, 0⟩
def Reg.GRT_ERR_SLICE : Fld := ⟨0x10003C * 8 + 12, 4, 0⟩
def Reg.DRC_CH_STATUS_STATE (c : Nat) : Fld := ⟨(0x140000 + 0x2000 * c) * 8 + 0, 4, 0⟩
def Reg.DRC_CH_STATUS_DIMMS (c : Nat) : Fld := ⟨(0x140000 + 0x2000 * c) * 8 + 4, 2, 0⟩
def Reg.DRC_CH_STATUS_PRANKS_2 (c : Nat) : Fld := ⟨(0x140000 + 0x2000 * c) * 8 + 6, 1, 0⟩
def Reg.DRC_CH_STATUS_STACK_2H (c : Nat) : Fld := ⟨(0x140000 + 0x2000 * c) * 8 + 7, 1, 0⟩
def Reg.DRC_CH_STATUS_DENSITY (c : Nat) : Fld := ⟨(0x140000 + 0x2000 * c) * 8 + 8, 2, 0⟩
def Reg.DRC_CH_STATUS_TEMP_HIGH (c : Nat) : Fld := ⟨(0x140000 + 0x2000 * c) * 8 + 10, 1, 0⟩
def Reg.DRC_CH_STATUS_PANIC_MIRROR (c : Nat) : Fld := ⟨(0x140000 + 0x2000 * c) * 8 + 11, 1, 0⟩
def Reg.DRC_CH_STATUS_PANIC_DRAIN (c : Nat) : Fld := ⟨(0x140000 + 0x2000 * c) * 8 + 12, 1, 0⟩
def Reg.DRC_CH_STATUS_WDRAIN_A (c : Nat) : Fld := ⟨(0x140000 + 0x2000 * c) * 8 + 13, 1, 0⟩
def Reg.DRC_CH_STATUS_WDRAIN_B (c : Nat) : Fld := ⟨(0x140000 + 0x2000 * c) * 8 + 14, 1, 0⟩
def Reg.DRC_CH_QUEUE_RDQ_A (c : Nat) : Fld := ⟨(0x140004 + 0x2000 * c) * 8 + 0, 8, 0⟩
def Reg.DRC_CH_QUEUE_RDQ_B (c : Nat) : Fld := ⟨(0x140004 + 0x2000 * c) * 8 + 8, 8, 0⟩
def Reg.DRC_CH_QUEUE_WRQ_A (c : Nat) : Fld := ⟨(0x140004 + 0x2000 * c) * 8 + 16, 7, 0⟩
def Reg.DRC_CH_QUEUE_WRQ_B (c : Nat) : Fld := ⟨(0x140004 + 0x2000 * c) * 8 + 24, 7, 0⟩
def Reg.DRC_CH_ECC_CORRECTED (c : Nat) : Fld := ⟨(0x140008 + 0x2000 * c) * 8 + 0, 16, 0⟩
def Reg.DRC_CH_ECC_REPAIRED (c : Nat) : Fld := ⟨(0x140008 + 0x2000 * c) * 8 + 16, 8, 0⟩
def Reg.DRC_CH_ECC_POISONED (c : Nat) : Fld := ⟨(0x140008 + 0x2000 * c) * 8 + 24, 8, 0⟩
def Reg.DRC_CH_UE_UNCORR (c : Nat) : Fld := ⟨(0x14000C + 0x2000 * c) * 8 + 0, 16, 0⟩
def Reg.DRC_CH_UE_REFETCHED (c : Nat) : Fld := ⟨(0x14000C + 0x2000 * c) * 8 + 16, 8, 0⟩
def Reg.DRC_CH_UE_RETIRED (c : Nat) : Fld := ⟨(0x14000C + 0x2000 * c) * 8 + 24, 8, 0⟩
def Reg.DRC_CH_ERR_ADDR_LO_ADDR_LO (c : Nat) : Fld := ⟨(0x140010 + 0x2000 * c) * 8 + 6, 26, 0⟩
def Reg.DRC_CH_ERR_ADDR_HI_ADDR_HI (c : Nat) : Fld := ⟨(0x140014 + 0x2000 * c) * 8 + 0, 11, 0⟩
def Reg.DRC_CH_ERR_ADDR_HI_DEVICE (c : Nat) : Fld := ⟨(0x140014 + 0x2000 * c) * 8 + 11, 5, 0⟩
def Reg.DRC_CH_ERR_ADDR_HI_RANK (c : Nat) : Fld := ⟨(0x140014 + 0x2000 * c) * 8 + 16, 3, 0⟩
def Reg.DRC_CH_ERR_ADDR_HI_UNCORR (c : Nat) : Fld := ⟨(0x140014 + 0x2000 * c) * 8 + 19, 1, 0⟩
def Reg.DRC_CH_DEVICE_WORST_DEV (c : Nat) : Fld := ⟨(0x140018 + 0x2000 * c) * 8 + 0, 5, 0⟩
def Reg.DRC_CH_DEVICE_WORST_RANK (c : Nat) : Fld := ⟨(0x140018 + 0x2000 * c) * 8 + 5, 3, 0⟩
def Reg.DRC_CH_DEVICE_WORST_COUNT (c : Nat) : Fld := ⟨(0x140018 + 0x2000 * c) * 8 + 8, 16, 0⟩
def Reg.DRC_CH_DEVICE_ERASURE (c : Nat) : Fld := ⟨(0x140018 + 0x2000 * c) * 8 + 24, 8, 0⟩
def Reg.DRC_CH_LAT_URG3 (c : Nat) : Fld := ⟨(0x14001C + 0x2000 * c) * 8 + 0, 16, 0⟩
def Reg.DRC_CH_LAT_PANIC_TICKS (c : Nat) : Fld := ⟨(0x14001C + 0x2000 * c) * 8 + 16, 16, 0⟩
def Reg.DRC_CH_RETRAIN_LAST (c : Nat) : Fld := ⟨(0x140020 + 0x2000 * c) * 8 + 0, 2, 0⟩
def Reg.DRC_CH_RETRAIN_FAIL_RUN (c : Nat) : Fld := ⟨(0x140020 + 0x2000 * c) * 8 + 2, 3, 0⟩
def Reg.DRC_CH_RETRAIN_SKIPPED (c : Nat) : Fld := ⟨(0x140020 + 0x2000 * c) * 8 + 16, 8, 0⟩
def Reg.DRC_CH_RETRAIN_DONE (c : Nat) : Fld := ⟨(0x140020 + 0x2000 * c) * 8 + 24, 8, 0⟩
def Reg.DRC_CH_STAT_RD_LO_RD_LO (c : Nat) : Fld := ⟨(0x140028 + 0x2000 * c) * 8 + 0, 32, 0⟩
def Reg.DRC_CH_STAT_RD_HI_RD_HI (c : Nat) : Fld := ⟨(0x14002C + 0x2000 * c) * 8 + 0, 32, 0⟩
def Reg.DRC_CH_STAT_WR_LO_WR_LO (c : Nat) : Fld := ⟨(0x140030 + 0x2000 * c) * 8 + 0, 32, 0⟩
def Reg.DRC_CH_STAT_WR_HI_WR_HI (c : Nat) : Fld := ⟨(0x140034 + 0x2000 * c) * 8 + 0, 32, 0⟩
def Reg.DRC_CH_EVENTS_CORRECTED (c : Nat) : Fld := ⟨(0x140040 + 0x2000 * c) * 8 + 0, 1, 0⟩
def Reg.DRC_CH_EVENTS_UNCORRECTED (c : Nat) : Fld := ⟨(0x140040 + 0x2000 * c) * 8 + 1, 1, 0⟩
def Reg.DRC_CH_EVENTS_REPAIRED (c : Nat) : Fld := ⟨(0x140040 + 0x2000 * c) * 8 + 2, 1, 0⟩
def Reg.DRC_CH_EVENTS_POISONED (c : Nat) : Fld := ⟨(0x140040 + 0x2000 * c) * 8 + 3, 1, 0⟩
def Reg.DRC_CH_EVENTS_PANIC (c : Nat) : Fld := ⟨(0x140040 + 0x2000 * c) * 8 + 4, 1, 0⟩
def Reg.DRC_CH_EVENTS_RETRAIN_FAIL (c : Nat) : Fld := ⟨(0x140040 + 0x2000 * c) * 8 + 5, 1, 0⟩
def Reg.DRC_CH_EVENTS_DEGRADED (c : Nat) : Fld := ⟨(0x140040 + 0x2000 * c) * 8 + 6, 1, 0⟩
def Reg.DRC_CH_EVENTS_TEMP_HIGH (c : Nat) : Fld := ⟨(0x140040 + 0x2000 * c) * 8 + 7, 1, 0⟩
def Reg.DRC_CFG_MAP : Fld := ⟨0x160000 * 8 + 0, 2, 1⟩
def Reg.DRC_CFG_DRC_CFG_LOCK : Fld := ⟨0x160000 * 8 + 31, 1, 0⟩
def Reg.DRC_PANIC_HIGH_PCT : Fld := ⟨0x160004 * 8 + 0, 7, 75⟩
def Reg.DRC_PANIC_LOW_PCT : Fld := ⟨0x160004 * 8 + 8, 7, 50⟩
def Reg.DRC_SCRUB_ENABLE : Fld := ⟨0x160008 * 8 + 0, 1, 1⟩
def Reg.DRC_SCRUB_PASS_PERMILLE : Fld := ⟨0x160008 * 8 + 16, 10, 0⟩
def Reg.DRC_SCRUB_LAST_MINUTES : Fld := ⟨0x16000C * 8 + 0, 16, 0⟩
def Reg.DRC_SCRUB_LAST_PASSES : Fld := ⟨0x16000C * 8 + 16, 16, 0⟩
def Reg.DRC_FILL_PERMILLE : Fld := ⟨0x160010 * 8 + 0, 10, 0⟩
def Reg.DRC_FILL_DONE : Fld := ⟨0x160010 * 8 + 10, 1, 0⟩
def Reg.DRC_FILL_TIME : Fld := ⟨0x160010 * 8 + 16, 16, 0⟩
def Reg.DRC_STATUS_RUNNING : Fld := ⟨0x160014 * 8 + 0, 16, 0⟩
def Reg.DRC_STATUS_CAP_GIB : Fld := ⟨0x160014 * 8 + 16, 14, 0⟩
def Reg.CIN_CTRL_SOFT_PCT : Fld := ⟨0x180000 * 8 + 0, 7, 90⟩
def Reg.CIN_CTRL_WARN_PCT : Fld := ⟨0x180000 * 8 + 8, 7, 50⟩
def Reg.CIN_CTRL_LOW_PCT : Fld := ⟨0x180000 * 8 + 16, 6, 10⟩
def Reg.CIN_CAP_LO_CAP_LO : Fld := ⟨0x180004 * 8 + 0, 32, 0x00000000⟩
def Reg.CIN_CAP_HI_CAP_HI : Fld := ⟨0x180008 * 8 + 0, 32, 0x00000080⟩
def Reg.CIN_DERATE_PERMILLE : Fld := ⟨0x18000C * 8 + 0, 10, 700⟩
def Reg.CIN_HOLDUP_REPORTED : Fld := ⟨0x180010 * 8 + 0, 16, 0⟩
def Reg.CIN_HOLDUP_SENSED : Fld := ⟨0x180010 * 8 + 16, 16, 0⟩
def Reg.CIN_HOLDUP_USED_USED : Fld := ⟨0x180014 * 8 + 0, 16, 0⟩
def Reg.CIN_HOLDUP_USED_SMB_OK : Fld := ⟨0x180014 * 8 + 16, 1, 0⟩
def Reg.CIN_HOLDUP_USED_SENSE_OK : Fld := ⟨0x180014 * 8 + 17, 1, 0⟩
def Reg.CIN_HOLDUP_USED_MISMATCH : Fld := ⟨0x180014 * 8 + 18, 1, 0⟩
def Reg.CIN_RATE_RATE : Fld := ⟨0x180018 * 8 + 0, 24, 0⟩
def Reg.CIN_RATE_INIT : Fld := ⟨0x180018 * 8 + 24, 1, 1⟩
def Reg.CIN_LIMIT_LO_LIMIT_LO : Fld := ⟨0x180020 * 8 + 0, 32, 0⟩
def Reg.CIN_LIMIT_HI_LIMIT_HI : Fld := ⟨0x180024 * 8 + 0, 32, 0⟩
def Reg.CIN_DIRTY_LO_DIRTY_LO : Fld := ⟨0x180028 * 8 + 0, 32, 0⟩
def Reg.CIN_DIRTY_HI_DIRTY_HI : Fld := ⟨0x18002C * 8 + 0, 32, 0⟩
def Reg.CIN_DIRTY_GRAN_GRANULES : Fld := ⟨0x180030 * 8 + 0, 32, 0⟩
def Reg.CIN_DIRTY_LINES_LINES : Fld := ⟨0x180034 * 8 + 0, 22, 0⟩
def Reg.CIN_STATUS_PHASE : Fld := ⟨0x180038 * 8 + 0, 2, 0⟩
def Reg.CIN_STATUS_ADMIT : Fld := ⟨0x180038 * 8 + 2, 2, 0⟩
def Reg.CIN_STATUS_PACE : Fld := ⟨0x180038 * 8 + 4, 2, 0⟩
def Reg.CIN_STATUS_STEP : Fld := ⟨0x180038 * 8 + 6, 3, 0⟩
def Reg.CIN_STATUS_TRIGGER : Fld := ⟨0x180038 * 8 + 9, 3, 0⟩
def Reg.CIN_STATUS_FAULT_N_DRIVEN : Fld := ⟨0x180038 * 8 + 12, 1, 0⟩
def Reg.CIN_STATUS_WARMUP : Fld := ⟨0x180038 * 8 + 13, 1, 0⟩
def Reg.CIN_ADMIT_HELD : Fld := ⟨0x18003C * 8 + 0, 18, 0⟩
def Reg.CIN_ADMIT_TIME_TICKS : Fld := ⟨0x180040 * 8 + 0, 32, 0⟩
def Reg.CIN_PACE_RATE_RATE : Fld := ⟨0x180044 * 8 + 0, 24, 0⟩
def Reg.CIN_EPOCH_EPOCH : Fld := ⟨0x180048 * 8 + 0, 32, 0⟩
def Reg.CIN_ZONES_FREE_OWNED : Fld := ⟨0x18004C * 8 + 0, 22, 0⟩
def Reg.CIN_ZONES_OWNED_OWNED : Fld := ⟨0x18006C * 8 + 0, 22, 0⟩
def Reg.CIN_POOL_SIZE_GIB : Fld := ⟨0x180050 * 8 + 0, 16, 0⟩
def Reg.CIN_POOL_USED_GIB : Fld := ⟨0x180050 * 8 + 16, 16, 0⟩
def Reg.CIN_COMMIT_LOG_TRIGGER : Fld := ⟨0x180054 * 8 + 0, 3, 0⟩
def Reg.CIN_COMMIT_LOG_EARLY : Fld := ⟨0x180054 * 8 + 3, 1, 0⟩
def Reg.CIN_COMMIT_LOG_RESTARTED : Fld := ⟨0x180054 * 8 + 4, 1, 0⟩
def Reg.CIN_COMMIT_LOG_PARTIAL : Fld := ⟨0x180054 * 8 + 5, 1, 0⟩
def Reg.CIN_COMMIT_LOG_DURATION : Fld := ⟨0x180054 * 8 + 16, 16, 0⟩
def Reg.CIN_COMMIT_BYTES_LO_BYTES_LO : Fld := ⟨0x180058 * 8 + 0, 32, 0⟩
def Reg.CIN_COMMIT_BYTES_HI_BYTES_HI : Fld := ⟨0x18005C * 8 + 0, 32, 0⟩
def Reg.CIN_SW_COMMIT_KEY : Fld := ⟨0x180060 * 8 + 0, 32, 0⟩
def Reg.CIN_WARMUP_PERMILLE : Fld := ⟨0x180064 * 8 + 0, 10, 0⟩
def Reg.CIN_WARMUP_DONE : Fld := ⟨0x180064 * 8 + 10, 1, 0⟩
def Reg.CIN_WARMUP_DEMAND : Fld := ⟨0x180064 * 8 + 16, 16, 0⟩
def Reg.CIN_EVENTS_PACED : Fld := ⟨0x180068 * 8 + 0, 1, 0⟩
def Reg.CIN_EVENTS_STOPPED : Fld := ⟨0x180068 * 8 + 1, 1, 0⟩
def Reg.CIN_EVENTS_HOLDUP : Fld := ⟨0x180068 * 8 + 2, 1, 0⟩
def Reg.CIN_EVENTS_WARN : Fld := ⟨0x180068 * 8 + 3, 1, 0⟩
def Reg.CIN_EVENTS_ZONES : Fld := ⟨0x180068 * 8 + 4, 1, 0⟩
def Reg.CIN_EVENTS_POOL_REFUSED : Fld := ⟨0x180068 * 8 + 5, 1, 0⟩
def Reg.CIN_EVENTS_WARMUP_DONE : Fld := ⟨0x180068 * 8 + 6, 1, 0⟩
def Reg.STP_CFG_TWIN_WAIT : Fld := ⟨0x1C0000 * 8 + 0, 14, 3000⟩
def Reg.STP_CFG_CLAIM_DELAY : Fld := ⟨0x1C0000 * 8 + 14, 7, 5⟩
def Reg.STP_CFG_RETRAIN_GUARD : Fld := ⟨0x1C0000 * 8 + 21, 10, 25⟩
def Reg.STP_CFG_STP_CFG_LOCK : Fld := ⟨0x1C0000 * 8 + 31, 1, 0⟩
def Reg.STP_CTRL_FAILBACK_CAP : Fld := ⟨0x1C0004 * 8 + 0, 16, 4096⟩
def Reg.STP_CTRL_RETRAIN : Fld := ⟨0x1C0004 * 8 + 16, 1, 0⟩
def Reg.STP_STATUS_LINK : Fld := ⟨0x1C0008 * 8 + 0, 3, 0⟩
def Reg.STP_STATUS_ROLE : Fld := ⟨0x1C0008 * 8 + 3, 4, 1⟩
def Reg.STP_STATUS_CONTAINED : Fld := ⟨0x1C0008 * 8 + 7, 1, 0⟩
def Reg.STP_STATUS_TWIN_COMMIT : Fld := ⟨0x1C0008 * 8 + 8, 1, 0⟩
def Reg.STP_STATUS_LANES : Fld := ⟨0x1C0008 * 8 + 9, 5, 0⟩
def Reg.STP_STATUS_HB_MISSED : Fld := ⟨0x1C0008 * 8 + 14, 4, 0⟩
def Reg.STP_PROTO_OWN_MINOR : Fld := ⟨0x1C000C * 8 + 0, 8, 0⟩
def Reg.STP_PROTO_OWN_MAJOR : Fld := ⟨0x1C000C * 8 + 8, 8, 0⟩
def Reg.STP_PROTO_PEER_MINOR : Fld := ⟨0x1C000C * 8 + 16, 8, 0⟩
def Reg.STP_PROTO_PEER_MAJOR : Fld := ⟨0x1C000C * 8 + 24, 8, 0⟩
def Reg.STP_TX_SEQ_LO_SEQ_LO : Fld := ⟨0x1C0010 * 8 + 0, 32, 0⟩
def Reg.STP_TX_SEQ_HI_SEQ_HI : Fld := ⟨0x1C0014 * 8 + 0, 32, 0⟩
def Reg.STP_TX_ACK_LO_ACK_LO : Fld := ⟨0x1C0018 * 8 + 0, 32, 0⟩
def Reg.STP_TX_ACK_HI_ACK_HI : Fld := ⟨0x1C001C * 8 + 0, 32, 0⟩
def Reg.STP_POOL_USED_USED : Fld := ⟨0x1C0020 * 8 + 0, 32, 0⟩
def Reg.STP_POOL_FREE_FREE : Fld := ⟨0x1C0024 * 8 + 0, 32, 0⟩
def Reg.STP_RESYNC_OUT_PERMILLE : Fld := ⟨0x1C0028 * 8 + 0, 10, 0⟩
def Reg.STP_RESYNC_OUT_ACTIVE : Fld := ⟨0x1C0028 * 8 + 10, 1, 0⟩
def Reg.STP_RESYNC_IN_ACTIVE : Fld := ⟨0x1C0028 * 8 + 11, 1, 0⟩
def Reg.STP_LAT_LAST : Fld := ⟨0x1C002C * 8 + 0, 16, 0⟩
def Reg.STP_LAT_MAX : Fld := ⟨0x1C002C * 8 + 16, 16, 0⟩
def Reg.STP_VIOL_COUNT : Fld := ⟨0x1C0030 * 8 + 0, 16, 0⟩
def Reg.STP_VIOL_LAST_CAUSE : Fld := ⟨0x1C0030 * 8 + 16, 4, 0⟩
def Reg.STP_EVENTS_LINK_DOWN : Fld := ⟨0x1C0034 * 8 + 0, 1, 0⟩
def Reg.STP_EVENTS_DEGRADED : Fld := ⟨0x1C0034 * 8 + 1, 1, 0⟩
def Reg.STP_EVENTS_TWIN_FAILED : Fld := ⟨0x1C0034 * 8 + 2, 1, 0⟩
def Reg.STP_EVENTS_TAKEOVER : Fld := ⟨0x1C0034 * 8 + 3, 1, 0⟩
def Reg.STP_EVENTS_FENCED : Fld := ⟨0x1C0034 * 8 + 4, 1, 0⟩
def Reg.STP_EVENTS_POOL_FULL : Fld := ⟨0x1C0034 * 8 + 5, 1, 0⟩
def Reg.STP_EVENTS_RESYNC_DONE : Fld := ⟨0x1C0034 * 8 + 6, 1, 0⟩
def Reg.STP_EVENTS_FAILBACK_DONE : Fld := ⟨0x1C0034 * 8 + 7, 1, 0⟩
def Reg.AWL_CTRL_FLOOR : Fld := ⟨0x200000 * 8 + 0, 7, 5⟩
def Reg.AWL_CTRL_FLOOR_DD : Fld := ⟨0x200000 * 8 + 8, 7, 20⟩
def Reg.AWL_CTRL_AUTO_REBUILD : Fld := ⟨0x200000 * 8 + 15, 1, 1⟩
def Reg.AWL_CTRL_READ_SHORTCUT : Fld := ⟨0x200000 * 8 + 16, 7, 5⟩
def Reg.AWL_CTRL_RECLAIM_PCT : Fld := ⟨0x200000 * 8 + 24, 7, 25⟩
def Reg.AWL_MEMBER_RATE_RATE : Fld := ⟨0x200004 * 8 + 0, 16, 7500⟩
def Reg.AWL_DRIVE_CFG_TIMEOUT : Fld := ⟨0x200008 * 8 + 0, 16, 1000⟩
def Reg.AWL_DRIVE_CFG_VIOL_LIMIT : Fld := ⟨0x200008 * 8 + 16, 16, 64⟩
def Reg.AWL_JOURNAL_OWN_USED : Fld := ⟨0x20000C * 8 + 0, 13, 0⟩
def Reg.AWL_JOURNAL_TWIN_USED : Fld := ⟨0x20000C * 8 + 13, 13, 0⟩
def Reg.AWL_JOURNAL_FULL : Fld := ⟨0x20000C * 8 + 26, 1, 0⟩
def Reg.AWL_JOURNAL_TWIN_SYNC : Fld := ⟨0x20000C * 8 + 27, 1, 0⟩
def Reg.AWL_JOURNAL_REPLAYING : Fld := ⟨0x20000C * 8 + 28, 1, 0⟩
def Reg.AWL_JOURNAL_SOURCE : Fld := ⟨0x20000C * 8 + 29, 3, 0⟩
def Reg.AWL_JSEQ_LO_SEQ_LO : Fld := ⟨0x200010 * 8 + 0, 32, 0⟩
def Reg.AWL_JSEQ_HI_SEQ_HI : Fld := ⟨0x200014 * 8 + 0, 32, 0⟩
def Reg.AWL_STATUS_DEGRADED : Fld := ⟨0x200018 * 8 + 0, 8, 0⟩
def Reg.AWL_STATUS_FAILED : Fld := ⟨0x200018 * 8 + 8, 8, 0⟩
def Reg.AWL_STATUS_REBUILDING : Fld := ⟨0x200018 * 8 + 16, 1, 0⟩
def Reg.AWL_STATUS_RECLAIMING : Fld := ⟨0x200018 * 8 + 17, 1, 0⟩
def Reg.AWL_STATUS_MERGING : Fld := ⟨0x200018 * 8 + 18, 1, 0⟩
def Reg.AWL_EVENTS_MEMBER_FAILED : Fld := ⟨0x20001C * 8 + 0, 1, 0⟩
def Reg.AWL_EVENTS_SET_CHANGED : Fld := ⟨0x20001C * 8 + 1, 1, 0⟩
def Reg.AWL_EVENTS_REBUILD_DONE : Fld := ⟨0x20001C * 8 + 2, 1, 0⟩
def Reg.AWL_EVENTS_POISONED : Fld := ⟨0x20001C * 8 + 3, 1, 0⟩
def Reg.AWL_EVENTS_JOURNAL_FULL : Fld := ⟨0x20001C * 8 + 4, 1, 0⟩
def Reg.AWL_EVENTS_CONTAINED : Fld := ⟨0x20001C * 8 + 5, 1, 0⟩
def Reg.AWL_EVENTS_DRIVE_ADDED : Fld := ⟨0x20001C * 8 + 6, 1, 0⟩
def Reg.AWL_SET_STATUS_LAYOUT (n : Nat) : Fld := ⟨(0x201000 + 0x100 * n) * 8 + 0, 4, 0⟩
def Reg.AWL_SET_STATUS_DATA_N (n : Nat) : Fld := ⟨(0x201000 + 0x100 * n) * 8 + 4, 5, 0⟩
def Reg.AWL_SET_STATUS_WIDTH (n : Nat) : Fld := ⟨(0x201000 + 0x100 * n) * 8 + 9, 5, 0⟩
def Reg.AWL_SET_STATUS_STATE (n : Nat) : Fld := ⟨(0x201000 + 0x100 * n) * 8 + 14, 3, 0⟩
def Reg.AWL_SET_STATUS_UNAVAIL (n : Nat) : Fld := ⟨(0x201000 + 0x100 * n) * 8 + 17, 5, 0⟩
def Reg.AWL_SET_CTRL_START (n : Nat) : Fld := ⟨(0x201004 + 0x100 * n) * 8 + 0, 1, 0⟩
def Reg.AWL_SET_ZONES_FREE_FREE (n : Nat) : Fld := ⟨(0x201008 + 0x100 * n) * 8 + 0, 22, 0⟩
def Reg.AWL_SET_ZONES_TOTAL_TOTAL (n : Nat) : Fld := ⟨(0x20100C + 0x100 * n) * 8 + 0, 22, 0⟩
def Reg.AWL_SET_REBUILD_COLUMN (n : Nat) : Fld := ⟨(0x201010 + 0x100 * n) * 8 + 0, 5, 0x1F⟩
def Reg.AWL_SET_REBUILD_QUEUED_COLUMN (n : Nat) : Fld := ⟨(0x201010 + 0x100 * n) * 8 + 5, 5, 0x1F⟩
def Reg.AWL_SET_REBUILD_PERMILLE (n : Nat) : Fld := ⟨(0x201010 + 0x100 * n) * 8 + 10, 10, 0⟩
def Reg.AWL_SET_REBUILD_AT_FLOOR (n : Nat) : Fld := ⟨(0x201010 + 0x100 * n) * 8 + 20, 1, 0⟩
def Reg.AWL_SET_STRIPES_LO_STRIPES_LO (n : Nat) : Fld := ⟨(0x201018 + 0x100 * n) * 8 + 0, 32, 0⟩
def Reg.AWL_SET_STRIPES_HI_STRIPES_HI (n : Nat) : Fld := ⟨(0x20101C + 0x100 * n) * 8 + 0, 32, 0⟩
def Reg.AWL_SET_ERR_RECONSTRUCTED (n : Nat) : Fld := ⟨(0x201020 + 0x100 * n) * 8 + 0, 16, 0⟩
def Reg.AWL_SET_ERR_RELOCATED (n : Nat) : Fld := ⟨(0x201020 + 0x100 * n) * 8 + 16, 8, 0⟩
def Reg.AWL_SET_ERR_POISONED (n : Nat) : Fld := ⟨(0x201020 + 0x100 * n) * 8 + 24, 8, 0⟩
def Reg.AWL_MBR_STATUS_STATE (s : Nat) : Fld := ⟨(0x202000 + 0x40 * s) * 8 + 0, 3, 0⟩
def Reg.AWL_MBR_STATUS_SET (s : Nat) : Fld := ⟨(0x202000 + 0x40 * s) * 8 + 3, 3, 0⟩
def Reg.AWL_MBR_STATUS_COLUMN (s : Nat) : Fld := ⟨(0x202000 + 0x40 * s) * 8 + 6, 5, 0⟩
def Reg.AWL_MBR_STATUS_WIDTH (s : Nat) : Fld := ⟨(0x202000 + 0x40 * s) * 8 + 11, 2, 0⟩
def Reg.AWL_MBR_STATUS_GEN5 (s : Nat) : Fld := ⟨(0x202000 + 0x40 * s) * 8 + 13, 1, 0⟩
def Reg.AWL_MBR_STATUS_CONTAINED (s : Nat) : Fld := ⟨(0x202000 + 0x40 * s) * 8 + 14, 1, 0⟩
def Reg.AWL_MBR_STATUS_KEY_OK (s : Nat) : Fld := ⟨(0x202000 + 0x40 * s) * 8 + 15, 1, 0⟩
def Reg.AWL_MBR_STATUS_PREDICTED (s : Nat) : Fld := ⟨(0x202000 + 0x40 * s) * 8 + 16, 1, 0⟩
def Reg.AWL_MBR_STATUS_CAUSE (s : Nat) : Fld := ⟨(0x202000 + 0x40 * s) * 8 + 17, 3, 0⟩
def Reg.AWL_MBR_CTRL_FORCE_FAIL (s : Nat) : Fld := ⟨(0x202004 + 0x40 * s) * 8 + 0, 1, 0⟩
def Reg.AWL_MBR_ERR_MEDIA (s : Nat) : Fld := ⟨(0x202008 + 0x40 * s) * 8 + 0, 8, 0⟩
def Reg.AWL_MBR_ERR_TIMEOUTS (s : Nat) : Fld := ⟨(0x202008 + 0x40 * s) * 8 + 8, 8, 0⟩
def Reg.AWL_MBR_ERR_VIOL (s : Nat) : Fld := ⟨(0x202008 + 0x40 * s) * 8 + 16, 8, 0⟩
def Reg.AWL_MBR_ERR_LAST_CAUSE (s : Nat) : Fld := ⟨(0x202008 + 0x40 * s) * 8 + 24, 4, 0⟩
def Reg.AWL_MBR_CAP_LO_CAP_LO (s : Nat) : Fld := ⟨(0x202010 + 0x40 * s) * 8 + 0, 32, 0⟩
def Reg.AWL_MBR_CAP_HI_CAP_HI (s : Nat) : Fld := ⟨(0x202014 + 0x40 * s) * 8 + 0, 32, 0⟩
def Reg.TIR_CTRL_FREE_TARGET : Fld := ⟨0x240000 * 8 + 0, 7, 10⟩
def Reg.TIR_CTRL_MIGRATE_EN : Fld := ⟨0x240000 * 8 + 7, 1, 1⟩
def Reg.TIR_CTRL_DEADLINE : Fld := ⟨0x240000 * 8 + 8, 8, 8⟩
def Reg.TIR_CTRL_LEND_EN : Fld := ⟨0x240000 * 8 + 16, 1, 0⟩
def Reg.TIR_CTRL_TIR_CTRL_LOCK : Fld := ⟨0x240000 * 8 + 31, 1, 0⟩
def Reg.TIR_STATUS_FREE_LOW : Fld := ⟨0x240004 * 8 + 0, 1, 0⟩
def Reg.TIR_STATUS_PAUSED : Fld := ⟨0x240004 * 8 + 1, 1, 0⟩
def Reg.TIR_STATUS_CHECKPOINTING : Fld := ⟨0x240004 * 8 + 2, 1, 0⟩
def Reg.TIR_STATUS_LENDERS_UP : Fld := ⟨0x240004 * 8 + 3, 16, 0⟩
def Reg.TIR_STATUS_MOVES : Fld := ⟨0x240004 * 8 + 19, 13, 0⟩
def Reg.TIR_T1_FRAMES_FRAMES : Fld := ⟨0x240008 * 8 + 0, 23, 0⟩
def Reg.TIR_T1_FREE_FREE : Fld := ⟨0x24000C * 8 + 0, 23, 0⟩
def Reg.TIR_T2_BORROWED : Fld := ⟨0x240010 * 8 + 0, 16, 0⟩
def Reg.TIR_T2_LENT : Fld := ⟨0x240010 * 8 + 16, 16, 0⟩
def Reg.TIR_OBJECTS_COUNT : Fld := ⟨0x240014 * 8 + 0, 21, 0⟩
def Reg.TIR_OBJECTS_STREAMS : Fld := ⟨0x240014 * 8 + 21, 11, 0⟩
def Reg.TIR_LOAD_LAT_LAST : Fld := ⟨0x240018 * 8 + 0, 16, 0⟩
def Reg.TIR_LOAD_LAT_MAX : Fld := ⟨0x240018 * 8 + 16, 16, 0⟩
def Reg.TIR_STAT_LOAD_LO_LOAD_LO : Fld := ⟨0x240020 * 8 + 0, 32, 0⟩
def Reg.TIR_STAT_LOAD_HI_LOAD_HI : Fld := ⟨0x240024 * 8 + 0, 32, 0⟩
def Reg.TIR_STAT_EVICT_LO_EVICT_LO : Fld := ⟨0x240028 * 8 + 0, 32, 0⟩
def Reg.TIR_STAT_EVICT_HI_EVICT_HI : Fld := ⟨0x24002C * 8 + 0, 32, 0⟩
def Reg.TIR_ERR_LOAD_LATE : Fld := ⟨0x240030 * 8 + 0, 8, 0⟩
def Reg.TIR_ERR_UNDERRUN : Fld := ⟨0x240030 * 8 + 8, 8, 0⟩
def Reg.TIR_ERR_DEADLINE : Fld := ⟨0x240030 * 8 + 16, 8, 0⟩
def Reg.TIR_ERR_CANCELLED : Fld := ⟨0x240030 * 8 + 24, 8, 0⟩
def Reg.TIR_CKPT_SEQ_LO_SEQ_LO : Fld := ⟨0x240038 * 8 + 0, 32, 0⟩
def Reg.TIR_CKPT_SEQ_HI_SEQ_HI : Fld := ⟨0x24003C * 8 + 0, 32, 0⟩
def Reg.TIR_EVENTS_LOAD_LATE : Fld := ⟨0x240040 * 8 + 0, 1, 0⟩
def Reg.TIR_EVENTS_UNDERRUN : Fld := ⟨0x240040 * 8 + 1, 1, 0⟩
def Reg.TIR_EVENTS_DEADLINE : Fld := ⟨0x240040 * 8 + 2, 1, 0⟩
def Reg.TIR_EVENTS_POISON : Fld := ⟨0x240040 * 8 + 3, 1, 0⟩
def Reg.TIR_EVENTS_T2_LOST : Fld := ⟨0x240040 * 8 + 4, 1, 0⟩
def Reg.TIR_EVENTS_RECALL : Fld := ⟨0x240040 * 8 + 5, 1, 0⟩
def Reg.TIR_TEN_T1_SEGS (t : Nat) : Fld := ⟨(0x248000 + 0x10 * t) * 8 + 0, 23, 0⟩
def Reg.TIR_TEN_T1_OVER (t : Nat) : Fld := ⟨(0x248000 + 0x10 * t) * 8 + 31, 1, 0⟩
def Reg.TIR_STR_STATUS_STATE (s : Nat) : Fld := ⟨(0x250000 + 0x20 * s) * 8 + 0, 2, 0⟩
def Reg.TIR_STR_STATUS_LD (s : Nat) : Fld := ⟨(0x250000 + 0x20 * s) * 8 + 2, 6, 0⟩
def Reg.TIR_STR_STATUS_WINDOW (s : Nat) : Fld := ⟨(0x250000 + 0x20 * s) * 8 + 8, 7, 0⟩
def Reg.TIR_STR_STATUS_LOOP (s : Nat) : Fld := ⟨(0x250000 + 0x20 * s) * 8 + 15, 1, 0⟩
def Reg.TIR_STR_STATUS_STREAM_ID (s : Nat) : Fld := ⟨(0x250000 + 0x20 * s) * 8 + 16, 16, 0⟩
def Reg.TIR_STR_POS_OLDEST (s : Nat) : Fld := ⟨(0x250004 + 0x20 * s) * 8 + 0, 16, 0⟩
def Reg.TIR_STR_POS_FETCHED (s : Nat) : Fld := ⟨(0x250004 + 0x20 * s) * 8 + 16, 16, 0⟩
def Reg.LAT_CREDIT_GRANT : Fld := ⟨0x280000 * 8 + 0, 7, 16⟩
def Reg.LAT_CREDIT_LIFE : Fld := ⟨0x280000 * 8 + 8, 14, 500⟩
def Reg.LAT_CREDIT_PACKET_LIFE : Fld := ⟨0x280000 * 8 + 22, 10, 100⟩
def Reg.LAT_EVICT_IDLE : Fld := ⟨0x280004 * 8 + 0, 16, 1000⟩
def Reg.LAT_EVICT_SLACK : Fld := ⟨0x280004 * 8 + 16, 8, 64⟩
def Reg.LAT_PARK_CFG_RESERVE : Fld := ⟨0x280008 * 8 + 0, 14, 12288⟩
def Reg.LAT_CTX_RESIDENT : Fld := ⟨0x28000C * 8 + 0, 13, 0⟩
def Reg.LAT_CTX_EVICTED : Fld := ⟨0x28000C * 8 + 16, 16, 0⟩
def Reg.LAT_PARK_RESERVED : Fld := ⟨0x280010 * 8 + 0, 14, 0⟩
def Reg.LAT_PARK_PROBE_USED : Fld := ⟨0x280010 * 8 + 16, 14, 0⟩
def Reg.LAT_FETCH_LAST : Fld := ⟨0x280014 * 8 + 0, 16, 0⟩
def Reg.LAT_FETCH_MAX : Fld := ⟨0x280014 * 8 + 16, 16, 0⟩
def Reg.LAT_STAT_EVICT_REFUSED : Fld := ⟨0x280018 * 8 + 0, 16, 0⟩
def Reg.LAT_STAT_EVICT_RNR : Fld := ⟨0x280018 * 8 + 16, 16, 0⟩
def Reg.LAT_REGIONS_VALID : Fld := ⟨0x28001C * 8 + 0, 19, 0⟩
def Reg.LAT_REGIONS_DRAINING : Fld := ⟨0x28001C * 8 + 19, 10, 0⟩
def Reg.LAT_STAT_NAK_ACCESS : Fld := ⟨0x280020 * 8 + 0, 16, 0⟩
def Reg.LAT_STAT_NAK_OPERATIONAL : Fld := ⟨0x280020 * 8 + 16, 16, 0⟩
def Reg.LAT_VIOL_COUNT : Fld := ⟨0x280024 * 8 + 0, 16, 0⟩
def Reg.LAT_VIOL_LAST_CAUSE : Fld := ⟨0x280024 * 8 + 16, 3, 0⟩
def Reg.LAT_VIOL_CONTAINED : Fld := ⟨0x280024 * 8 + 20, 12, 0⟩
def Reg.LAT_EVENTS_CONN_ERROR : Fld := ⟨0x280028 * 8 + 0, 1, 0⟩
def Reg.LAT_EVENTS_EVICT_REFUSED : Fld := ⟨0x280028 * 8 + 1, 1, 0⟩
def Reg.LAT_EVENTS_PROBE_FULL : Fld := ⟨0x280028 * 8 + 2, 1, 0⟩
def Reg.LAT_EVENTS_REVOKE_FORCED : Fld := ⟨0x280028 * 8 + 3, 1, 0⟩
def Reg.LAT_EVENTS_TAG_FAIL : Fld := ⟨0x280028 * 8 + 4, 1, 0⟩
def Reg.LAT_EVENTS_CONTAINED : Fld := ⟨0x280028 * 8 + 5, 1, 0⟩
def Reg.LAT_PORT_STATUS_LINK_UP (p : Nat) : Fld := ⟨(0x281000 + 0x100 * p) * 8 + 0, 1, 0⟩
def Reg.LAT_PORT_STATUS_PFC_ON (p : Nat) : Fld := ⟨(0x281000 + 0x100 * p) * 8 + 1, 1, 0⟩
def Reg.LAT_PORT_STATUS_PAUSED (p : Nat) : Fld := ⟨(0x281000 + 0x100 * p) * 8 + 2, 1, 0⟩
def Reg.LAT_PORT_STATUS_CONNS (p : Nat) : Fld := ⟨(0x281000 + 0x100 * p) * 8 + 16, 16, 0⟩
def Reg.LAT_PORT_RX_LO_RX_LO (p : Nat) : Fld := ⟨(0x281004 + 0x100 * p) * 8 + 0, 32, 0⟩
def Reg.LAT_PORT_RX_HI_RX_HI (p : Nat) : Fld := ⟨(0x281008 + 0x100 * p) * 8 + 0, 32, 0⟩
def Reg.LAT_PORT_TX_LO_TX_LO (p : Nat) : Fld := ⟨(0x28100C + 0x100 * p) * 8 + 0, 32, 0⟩
def Reg.LAT_PORT_TX_HI_TX_HI (p : Nat) : Fld := ⟨(0x281010 + 0x100 * p) * 8 + 0, 32, 0⟩
def Reg.LAT_PORT_ERR_DROPPED (p : Nat) : Fld := ⟨(0x281014 + 0x100 * p) * 8 + 0, 16, 0⟩
def Reg.LAT_PORT_ERR_CNP_RX (p : Nat) : Fld := ⟨(0x281014 + 0x100 * p) * 8 + 16, 8, 0⟩
def Reg.LAT_PORT_ERR_CNP_TX (p : Nat) : Fld := ⟨(0x281014 + 0x100 * p) * 8 + 24, 8, 0⟩
def Reg.BKL_WEIGHT_DW : Fld := ⟨0x2C0000 * 8 + 0, 4, 4⟩
def Reg.BKL_WEIGHT_DR : Fld := ⟨0x2C0000 * 8 + 4, 4, 4⟩
def Reg.BKL_WEIGHT_RX : Fld := ⟨0x2C0000 * 8 + 8, 4, 4⟩
def Reg.BKL_WEIGHT_TX : Fld := ⟨0x2C0000 * 8 + 12, 4, 4⟩
def Reg.BKL_STATUS_CORES_OK : Fld := ⟨0x2C0004 * 8 + 0, 16, 0⟩
def Reg.BKL_STATUS_COMMIT_MODE : Fld := ⟨0x2C0004 * 8 + 16, 1, 0⟩
def Reg.BKL_STATUS_SET_WAIT : Fld := ⟨0x2C0004 * 8 + 17, 1, 0⟩
def Reg.BKL_CORE_DISABLE_CORES : Fld := ⟨0x2C0008 * 8 + 0, 16, 0⟩
def Reg.BKL_CORE_DISABLE_BKL_CORE_DISABLE_LOCK : Fld := ⟨0x2C0008 * 8 + 31, 1, 0⟩
def Reg.BKL_QUEUE_DW : Fld := ⟨0x2C000C * 8 + 0, 8, 0⟩
def Reg.BKL_QUEUE_DR : Fld := ⟨0x2C000C * 8 + 8, 8, 0⟩
def Reg.BKL_QUEUE_RX : Fld := ⟨0x2C000C * 8 + 16, 8, 0⟩
def Reg.BKL_QUEUE_TX : Fld := ⟨0x2C000C * 8 + 24, 8, 0⟩
def Reg.BKL_SLOTS_USED : Fld := ⟨0x2C0010 * 8 + 0, 14, 0⟩
def Reg.BKL_SLOTS_PERSIST : Fld := ⟨0x2C0010 * 8 + 16, 9, 0⟩
def Reg.BKL_SLOT_SEL_SLOT : Fld := ⟨0x2C0014 * 8 + 0, 13, 0⟩
def Reg.BKL_SLOT_INFO_STATE : Fld := ⟨0x2C0018 * 8 + 0, 2, 0⟩
def Reg.BKL_SLOT_INFO_USAGE : Fld := ⟨0x2C0018 * 8 + 2, 2, 0⟩
def Reg.BKL_SLOT_INFO_PERSIST : Fld := ⟨0x2C0018 * 8 + 4, 1, 0⟩
def Reg.BKL_SLOT_INFO_TENANT : Fld := ⟨0x2C0018 * 8 + 5, 8, 0⟩
def Reg.BKL_SLOT_INFO_REFS : Fld := ⟨0x2C0018 * 8 + 13, 19, 0⟩
def Reg.BKL_STAT_LO_BLOCKS_LO (c : Nat) : Fld := ⟨(0x2C0100 + 0x8 * c) * 8 + 0, 32, 0⟩
def Reg.BKL_STAT_HI_BLOCKS_HI (c : Nat) : Fld := ⟨(0x2C0104 + 0x8 * c) * 8 + 0, 32, 0⟩
def Reg.BKL_ERR_LENGTH : Fld := ⟨0x2C001C * 8 + 0, 8, 0⟩
def Reg.BKL_ERR_UNWRAP : Fld := ⟨0x2C001C * 8 + 8, 8, 0⟩
def Reg.BKL_ERR_SLOT_ECC : Fld := ⟨0x2C001C * 8 + 16, 8, 0⟩
def Reg.BKL_ERR_TAG : Fld := ⟨0x2C001C * 8 + 24, 8, 0⟩
def Reg.BKL_EVENTS_CORE_ISOLATED : Fld := ⟨0x2C0020 * 8 + 0, 1, 0⟩
def Reg.BKL_EVENTS_LENGTH : Fld := ⟨0x2C0020 * 8 + 1, 1, 0⟩
def Reg.BKL_EVENTS_UNWRAP_FAILED : Fld := ⟨0x2C0020 * 8 + 2, 1, 0⟩
def Reg.BKL_EVENTS_SLOT_BROKEN : Fld := ⟨0x2C0020 * 8 + 3, 1, 0⟩
def Reg.BKL_EVENTS_SET_KEY : Fld := ⟨0x2C0020 * 8 + 4, 1, 0⟩
def Reg.ERR_TIMER0_HOST_GUARD : Fld := ⟨0x3C0000 * 8 + 0, 10, 8⟩
def Reg.ERR_TIMER0_ENGINE_WDOG : Fld := ⟨0x3C0000 * 8 + 10, 10, 20⟩
def Reg.ERR_TIMER1_KEEPER_HB : Fld := ⟨0x3C0004 * 8 + 0, 14, 100⟩
def Reg.ERR_TIMER1_POMMEL_WDOG : Fld := ⟨0x3C0004 * 8 + 16, 16, 1000⟩
def Reg.ERR_WDI_WINDOW : Fld := ⟨0x3C0008 * 8 + 0, 16, 2000⟩
def Reg.ERR_WDI_EN : Fld := ⟨0x3C0008 * 8 + 16, 1, 1⟩
def Reg.ERR_WDI_ARMED : Fld := ⟨0x3C0008 * 8 + 17, 1, 0⟩
def Reg.ERR_WDI_LEVEL : Fld := ⟨0x3C0008 * 8 + 18, 1, 0⟩
def Reg.ERR_WDI_ERR_WDI_LOCK : Fld := ⟨0x3C0008 * 8 + 31, 1, 0⟩
def Reg.ERR_WINDOW_S4_WINDOW : Fld := ⟨0x3C000C * 8 + 0, 8, 10⟩
def Reg.ERR_WINDOW_S5_WINDOW : Fld := ⟨0x3C000C * 8 + 8, 8, 60⟩
def Reg.ERR_WINDOW_GROUP_RETRY : Fld := ⟨0x3C000C * 8 + 16, 8, 5⟩
def Reg.ERR_WINDOW_S5_RESTART : Fld := ⟨0x3C000C * 8 + 24, 1, 1⟩
def Reg.ERR_STATUS_TOP : Fld := ⟨0x3C0010 * 8 + 0, 3, 0⟩
def Reg.ERR_STATUS_OPEN : Fld := ⟨0x3C0010 * 8 + 3, 3, 0⟩
def Reg.ERR_STATUS_ALERT : Fld := ⟨0x3C0010 * 8 + 6, 1, 0⟩
def Reg.ERR_STATUS_S4_RECENT : Fld := ⟨0x3C0010 * 8 + 7, 3, 0⟩
def Reg.ERR_STATUS_S5_RECENT : Fld := ⟨0x3C0010 * 8 + 10, 1, 0⟩
def Reg.ERR_LAST_CODE : Fld := ⟨0x3C0014 * 8 + 0, 16, 0⟩
def Reg.ERR_LAST_RUNG : Fld := ⟨0x3C0014 * 8 + 16, 3, 0⟩
def Reg.ERR_LAST_RAISED : Fld := ⟨0x3C0014 * 8 + 19, 1, 0⟩
def Reg.ERR_LAST_INSTANCE : Fld := ⟨0x3C0014 * 8 + 20, 8, 0⟩
def Reg.ERR_SEV_COUNT_S1 : Fld := ⟨0x3C0018 * 8 + 0, 8, 0⟩
def Reg.ERR_SEV_COUNT_S2 : Fld := ⟨0x3C0018 * 8 + 8, 8, 0⟩
def Reg.ERR_SEV_COUNT_S3 : Fld := ⟨0x3C0018 * 8 + 16, 8, 0⟩
def Reg.ERR_SEV_COUNT_S4 : Fld := ⟨0x3C0018 * 8 + 24, 4, 0⟩
def Reg.ERR_SEV_COUNT_S5 : Fld := ⟨0x3C0018 * 8 + 28, 4, 0⟩
def Reg.ERR_CONTAINED_LDS : Fld := ⟨0x3C001C * 8 + 0, 7, 0⟩
def Reg.ERR_CONTAINED_DRIVES : Fld := ⟨0x3C001C * 8 + 7, 5, 0⟩
def Reg.ERR_CONTAINED_PEERS : Fld := ⟨0x3C001C * 8 + 12, 12, 0⟩
def Reg.ERR_CONTAINED_TACK_NODES : Fld := ⟨0x3C001C * 8 + 24, 6, 0⟩
def Reg.ERR_CONTAINED_TWIN : Fld := ⟨0x3C001C * 8 + 30, 1, 0⟩
def Reg.ERR_CONTAINED_SMBUS : Fld := ⟨0x3C001C * 8 + 31, 1, 0⟩
def Reg.ERR_SMB_SMB0_VIOL : Fld := ⟨0x3C0020 * 8 + 0, 8, 0⟩
def Reg.ERR_SMB_SMB1_VIOL : Fld := ⟨0x3C0020 * 8 + 8, 8, 0⟩
def Reg.ERR_SMB_HOLDUP_CONTAINED : Fld := ⟨0x3C0020 * 8 + 16, 1, 0⟩
def Reg.ERR_SMB_DIMM_CONTAINED : Fld := ⟨0x3C0020 * 8 + 17, 8, 0⟩
def Reg.ERR_KEEPER_RELOADING : Fld := ⟨0x3C0024 * 8 + 0, 8, 0⟩
def Reg.ERR_KEEPER_RELOADS : Fld := ⟨0x3C0024 * 8 + 8, 8, 0⟩
def Reg.ERR_KEEPER_SANDBOX_STOPPED : Fld := ⟨0x3C0024 * 8 + 16, 2, 0⟩
def Reg.ERR_EVENTS_GUARD : Fld := ⟨0x3C0028 * 8 + 0, 1, 0⟩
def Reg.ERR_EVENTS_WATCHDOG : Fld := ⟨0x3C0028 * 8 + 1, 1, 0⟩
def Reg.ERR_EVENTS_KEEPER_HB : Fld := ⟨0x3C0028 * 8 + 2, 1, 0⟩
def Reg.ERR_EVENTS_RAISED : Fld := ⟨0x3C0028 * 8 + 3, 1, 0⟩
def Reg.ERR_EVENTS_ISOLATED : Fld := ⟨0x3C0028 * 8 + 4, 1, 0⟩
def Reg.ERR_EVENTS_GROUP_OFF : Fld := ⟨0x3C0028 * 8 + 5, 1, 0⟩
def Reg.ERR_EVENTS_CONTAINED : Fld := ⟨0x3C0028 * 8 + 6, 1, 0⟩
def Reg.HAM_STATUS_SEQ : Fld := ⟨0x300000 * 8 + 0, 3, 0⟩
def Reg.HAM_STATUS_BACKOUTS : Fld := ⟨0x300000 * 8 + 3, 2, 0⟩
def Reg.HAM_STATUS_TABLE_SRC : Fld := ⟨0x300000 * 8 + 5, 2, 0⟩
def Reg.HAM_INPUTS_PSU_OK : Fld := ⟨0x300004 * 8 + 0, 1, 0⟩
def Reg.HAM_INPUTS_HOLDUP_LOW_N : Fld := ⟨0x300004 * 8 + 1, 1, 0⟩
def Reg.HAM_INPUTS_FAULT_N : Fld := ⟨0x300004 * 8 + 2, 1, 0⟩
def Reg.HAM_INPUTS_FAULT_N_DRIVEN : Fld := ⟨0x300004 * 8 + 3, 1, 0⟩
def Reg.HAM_INPUTS_WDI : Fld := ⟨0x300004 * 8 + 4, 1, 0⟩
def Reg.HAM_EN_EN : Fld := ⟨0x300008 * 8 + 0, 32, 0⟩
def Reg.HAM_PG_PG : Fld := ⟨0x30000C * 8 + 0, 32, 0⟩
def Reg.HAM_FAULT_SLOT : Fld := ⟨0x300010 * 8 + 0, 32, 0⟩
def Reg.HAM_GROUPS_G0 : Fld := ⟨0x300014 * 8 + 0, 2, 0⟩
def Reg.HAM_GROUPS_G1 : Fld := ⟨0x300014 * 8 + 2, 2, 0⟩
def Reg.HAM_GROUPS_G2 : Fld := ⟨0x300014 * 8 + 4, 2, 0⟩
def Reg.HAM_GROUPS_G3 : Fld := ⟨0x300014 * 8 + 6, 2, 0⟩
def Reg.HAM_GROUPS_G4 : Fld := ⟨0x300014 * 8 + 8, 2, 0⟩
def Reg.HAM_GROUPS_G5 : Fld := ⟨0x300014 * 8 + 10, 2, 0⟩
def Reg.HAM_GROUPS_G6 : Fld := ⟨0x300014 * 8 + 12, 2, 0⟩
def Reg.HAM_GROUPS_G7 : Fld := ⟨0x300014 * 8 + 14, 2, 0⟩
def Reg.HAM_REQUAL_ELAPSED : Fld := ⟨0x300018 * 8 + 0, 12, 0⟩
def Reg.HAM_REQUAL_LAPSES : Fld := ⟨0x300018 * 8 + 16, 8, 0⟩
def Reg.HAM_GLITCH_FAULT_N : Fld := ⟨0x30001C * 8 + 0, 16, 0⟩
def Reg.HAM_GLITCH_PSU_OK : Fld := ⟨0x30001C * 8 + 16, 8, 0⟩
def Reg.HAM_GLITCH_HOLDUP : Fld := ⟨0x30001C * 8 + 24, 8, 0⟩
def Reg.HAM_DOM0_ON : Fld := ⟨0x300020 * 8 + 0, 32, 0⟩
def Reg.HAM_DOM1_ON : Fld := ⟨0x300024 * 8 + 0, 32, 0⟩
def Reg.HAM_DOM2_ON : Fld := ⟨0x300028 * 8 + 0, 32, 0⟩
def Reg.HAM_EVENTS_RAIL_FAULT : Fld := ⟨0x30002C * 8 + 0, 1, 0⟩
def Reg.HAM_EVENTS_RETRY_OK : Fld := ⟨0x30002C * 8 + 1, 1, 0⟩
def Reg.HAM_EVENTS_GROUP_OFF : Fld := ⟨0x30002C * 8 + 2, 1, 0⟩
def Reg.HAM_EVENTS_SYS_RESET : Fld := ⟨0x30002C * 8 + 3, 1, 0⟩
def Reg.HAM_EVENTS_BACKOUT : Fld := ⟨0x30002C * 8 + 4, 1, 0⟩
def Reg.HAM_EVENTS_STUCK_ON : Fld := ⟨0x30002C * 8 + 5, 1, 0⟩
def Reg.HAM_EVENTS_FAULT_N_EXT : Fld := ⟨0x30002C * 8 + 6, 1, 0⟩
def Reg.HAM_EVENTS_TABLE_DEFAULT : Fld := ⟨0x30002C * 8 + 7, 1, 0⟩
def Reg.HAM_RAIL_CFG_ENABLE (n : Nat) : Fld := ⟨(0x301000 + 0x10 * n) * 8 + 0, 1, 0⟩
def Reg.HAM_RAIL_CFG_GROUP (n : Nat) : Fld := ⟨(0x301000 + 0x10 * n) * 8 + 1, 3, 0⟩
def Reg.HAM_RAIL_CFG_CLASS (n : Nat) : Fld := ⟨(0x301000 + 0x10 * n) * 8 + 4, 3, 0⟩
def Reg.HAM_RAIL_CFG_REACTION (n : Nat) : Fld := ⟨(0x301000 + 0x10 * n) * 8 + 7, 2, 0⟩
def Reg.HAM_RAIL_CFG_RETAIN (n : Nat) : Fld := ⟨(0x301000 + 0x10 * n) * 8 + 9, 1, 0⟩
def Reg.HAM_RAIL_CFG_SVC (n : Nat) : Fld := ⟨(0x301000 + 0x10 * n) * 8 + 10, 1, 0⟩
def Reg.HAM_RAIL_CFG_FLUSH_CRIT (n : Nat) : Fld := ⟨(0x301000 + 0x10 * n) * 8 + 11, 1, 0⟩
def Reg.HAM_RAIL_CFG_FEEDS (n : Nat) : Fld := ⟨(0x301000 + 0x10 * n) * 8 + 16, 6, 0⟩
def Reg.HAM_RAIL_TIME_ON_DELAY (n : Nat) : Fld := ⟨(0x301004 + 0x10 * n) * 8 + 0, 16, 0⟩
def Reg.HAM_RAIL_TIME_OFF_DELAY (n : Nat) : Fld := ⟨(0x301004 + 0x10 * n) * 8 + 16, 16, 0⟩
def Reg.HAM_RAIL_PG_PG_TIMEOUT (n : Nat) : Fld := ⟨(0x301008 + 0x10 * n) * 8 + 0, 8, 0⟩
def Reg.HAM_RAIL_STATUS_STATE (n : Nat) : Fld := ⟨(0x30100C + 0x10 * n) * 8 + 0, 3, 0⟩
def Reg.HAM_RAIL_STATUS_ATTEMPTS (n : Nat) : Fld := ⟨(0x30100C + 0x10 * n) * 8 + 3, 2, 0⟩
def Reg.HAM_RAIL_STATUS_RAMP (n : Nat) : Fld := ⟨(0x30100C + 0x10 * n) * 8 + 8, 8, 0⟩
def Reg.HAM_RAIL_STATUS_FAULTS (n : Nat) : Fld := ⟨(0x30100C + 0x10 * n) * 8 + 16, 8, 0⟩
def Reg.GLB_BOOT_READY_TIME : Fld := ⟨0x30 * 8 + 0, 16, 0⟩
def Reg.GLB_BOOT_LATE_STEP : Fld := ⟨0x30 * 8 + 16, 4, 0⟩
def Reg.GLB_BOOT_WARM : Fld := ⟨0x30 * 8 + 20, 1, 0⟩
def Reg.GLB_BOOT_RETENTION : Fld := ⟨0x30 * 8 + 21, 2, 0⟩
def Reg.GLB_BOOT_PROMOTED : Fld := ⟨0x30 * 8 + 23, 1, 0⟩
def Reg.FLS_PROTECT_WP_SLOT_A : Fld := ⟨0x340000 * 8 + 0, 1, 0⟩
def Reg.FLS_PROTECT_WP_SLOT_B : Fld := ⟨0x340000 * 8 + 1, 1, 0⟩
def Reg.FLS_PROTECT_WP_CFG : Fld := ⟨0x340000 * 8 + 2, 1, 0⟩
def Reg.FLS_PROTECT_WP_STAMP : Fld := ⟨0x340000 * 8 + 3, 1, 0⟩
def Reg.FLS_PROTECT_WP_META : Fld := ⟨0x340000 * 8 + 4, 1, 0⟩
def Reg.FLS_PROTECT_FLS_PROTECT_LOCK : Fld := ⟨0x340000 * 8 + 31, 1, 0⟩
def Reg.FLS_STATUS_BANK_STATE : Fld := ⟨0x340004 * 8 + 0, 12, 0⟩
def Reg.FLS_STATUS_FLAGS_READ : Fld := ⟨0x340004 * 8 + 12, 1, 0⟩
def Reg.FLS_STATUS_INDETERMINATE : Fld := ⟨0x340004 * 8 + 13, 13, 0⟩
def Reg.FLS_INDET_FIRST_SECTOR : Fld := ⟨0x340008 * 8 + 0, 12, 0⟩
def Reg.FLS_INDET_FIRST_VALID : Fld := ⟨0x340008 * 8 + 12, 1, 0⟩
def Reg.FLS_WEAR_MAX_CYCLES : Fld := ⟨0x34000C * 8 + 0, 17, 0⟩
def Reg.FLS_WEAR_MAX_SECTOR : Fld := ⟨0x34000C * 8 + 17, 12, 0⟩
def Reg.FLS_ERR_CORRECTED : Fld := ⟨0x340010 * 8 + 0, 16, 0⟩
def Reg.FLS_ERR_FAILED : Fld := ⟨0x340010 * 8 + 16, 8, 0⟩
def Reg.FLS_ERR_BUSY_READS : Fld := ⟨0x340010 * 8 + 24, 8, 0⟩
def Reg.FLS_EVENTS_UNFINISHED : Fld := ⟨0x340014 * 8 + 0, 1, 0⟩
def Reg.FLS_EVENTS_RECOVERED : Fld := ⟨0x340014 * 8 + 1, 1, 0⟩
def Reg.FLS_EVENTS_WEAR_HIGH : Fld := ⟨0x340014 * 8 + 2, 1, 0⟩
def Reg.FLS_EVENTS_FAILED : Fld := ⟨0x340014 * 8 + 3, 1, 0⟩
def Reg.FLS_B_CLAIM_CLAIM (b : Nat) : Fld := ⟨(0x341000 + 0x400 * b) * 8 + 0, 1, 1⟩
def Reg.FLS_B_CLAIM_OWNER (b : Nat) : Fld := ⟨(0x341000 + 0x400 * b) * 8 + 1, 4, 0xF⟩
def Reg.FLS_B_CLAIM_RELEASE (b : Nat) : Fld := ⟨(0x341000 + 0x400 * b) * 8 + 5, 1, 0⟩
def Reg.FLS_B_CMD_OP (b : Nat) : Fld := ⟨(0x341004 + 0x400 * b) * 8 + 0, 3, 0⟩
def Reg.FLS_B_CMD_START (b : Nat) : Fld := ⟨(0x341004 + 0x400 * b) * 8 + 3, 1, 0⟩
def Reg.FLS_B_CMD_ABORT (b : Nat) : Fld := ⟨(0x341004 + 0x400 * b) * 8 + 4, 1, 0⟩
def Reg.FLS_B_CMD_BUSY (b : Nat) : Fld := ⟨(0x341004 + 0x400 * b) * 8 + 5, 1, 0⟩
def Reg.FLS_B_CMD_STATUS (b : Nat) : Fld := ⟨(0x341004 + 0x400 * b) * 8 + 8, 8, 0x00⟩
def Reg.FLS_B_CMD_ABORT_RESULT (b : Nat) : Fld := ⟨(0x341004 + 0x400 * b) * 8 + 16, 8, 0x00⟩
def Reg.FLS_B_ADDR_ADDR (b : Nat) : Fld := ⟨(0x341008 + 0x400 * b) * 8 + 0, 26, 0⟩
def Reg.FLS_B_LEN_LEN (b : Nat) : Fld := ⟨(0x34100C + 0x400 * b) * 8 + 0, 9, 0⟩
def Reg.FLS_B_STATE_STATE (b : Nat) : Fld := ⟨(0x341010 + 0x400 * b) * 8 + 0, 3, 0⟩
def Reg.FLS_B_STATE_SECTOR (b : Nat) : Fld := ⟨(0x341010 + 0x400 * b) * 8 + 3, 10, 0⟩
def Reg.FLS_B_STATE_SUSP_DEFERRED (b : Nat) : Fld := ⟨(0x341010 + 0x400 * b) * 8 + 13, 1, 0⟩
def Reg.FLS_B_STATE_RUN_REMAIN (b : Nat) : Fld := ⟨(0x341010 + 0x400 * b) * 8 + 14, 10, 0⟩
def Reg.GLB_FW_CONFIRM_REMAIN : Fld := ⟨0x34 * 8 + 0, 16, 0⟩
def Reg.GLB_FW_FAILED_TRIALS : Fld := ⟨0x34 * 8 + 16, 2, 0⟩
def Reg.GLB_FW_CFG_AREA : Fld := ⟨0x34 * 8 + 18, 1, 0⟩
def Reg.GLB_FW_EXT_LOADED : Fld := ⟨0x34 * 8 + 19, 1, 0⟩
def Reg.STM_RATE_REFILL : Fld := ⟨0x380000 * 8 + 0, 16, 8⟩
def Reg.STM_RATE_BURST : Fld := ⟨0x380000 * 8 + 16, 16, 32⟩
def Reg.STM_HEAD_SEQ_LO_SEQ_LO : Fld := ⟨0x380004 * 8 + 0, 32, 0⟩
def Reg.STM_HEAD_SEQ_HI_SEQ_HI : Fld := ⟨0x380008 * 8 + 0, 16, 0⟩
def Reg.STM_OLDEST_SEQ_LO_SEQ_LO : Fld := ⟨0x38000C * 8 + 0, 32, 0⟩
def Reg.STM_OLDEST_SEQ_HI_SEQ_HI : Fld := ⟨0x380010 * 8 + 0, 16, 0⟩
def Reg.STM_FLASHED_SEQ_LO_SEQ_LO : Fld := ⟨0x380014 * 8 + 0, 32, 0⟩
def Reg.STM_FLASHED_SEQ_HI_SEQ_HI : Fld := ⟨0x380018 * 8 + 0, 16, 0⟩
def Reg.STM_STAGING_USED_KIB : Fld := ⟨0x38001C * 8 + 0, 11, 0⟩
def Reg.STM_STAGING_RECORDS : Fld := ⟨0x38001C * 8 + 11, 16, 0⟩
def Reg.STM_AREA_LAST_SECTOR : Fld := ⟨0x380020 * 8 + 0, 9, 0⟩
def Reg.STM_AREA_ERASED_AHEAD : Fld := ⟨0x380020 * 8 + 9, 5, 0⟩
def Reg.STM_AREA_FIRST_USED : Fld := ⟨0x380020 * 8 + 14, 6, 0⟩
def Reg.STM_AREA_FIRST_FULL : Fld := ⟨0x380020 * 8 + 20, 1, 0⟩
def Reg.STM_AREA_LOST_SECTORS : Fld := ⟨0x380020 * 8 + 21, 8, 0⟩
def Reg.STM_STATUS_CLEARING : Fld := ⟨0x380024 * 8 + 0, 1, 0⟩
def Reg.STM_STATUS_ERASE_STOPPED : Fld := ⟨0x380024 * 8 + 1, 1, 0⟩
def Reg.STM_STATUS_STAGING_FULL : Fld := ⟨0x380024 * 8 + 2, 1, 0⟩
def Reg.STM_STATUS_DISABLED : Fld := ⟨0x380024 * 8 + 3, 1, 0⟩
def Reg.STM_STATUS_CLEARS : Fld := ⟨0x380024 * 8 + 16, 16, 0⟩
def Reg.STM_SUPPRESSED_COUNT : Fld := ⟨0x380028 * 8 + 0, 32, 0⟩
def Reg.STM_EVENTS_OVERFLOW : Fld := ⟨0x38002C * 8 + 0, 1, 0⟩
def Reg.STM_EVENTS_TORN : Fld := ⟨0x38002C * 8 + 1, 1, 0⟩
def Reg.STM_EVENTS_SECTOR_LOST : Fld := ⟨0x38002C * 8 + 2, 1, 0⟩
def Reg.STM_EVENTS_FIRST_FULL : Fld := ⟨0x38002C * 8 + 3, 1, 0⟩
def Reg.STM_EVENTS_CLEARED : Fld := ⟨0x38002C * 8 + 4, 1, 0⟩
def Reg.LXF_ID_PART (e : Nat) : Fld := ⟨(0x4000000 + 0x1000 * e + 0x0) * 8 + 0, 16, 0x0310⟩
def Reg.LXF_ID_REV (e : Nat) : Fld := ⟨(0x4000000 + 0x1000 * e + 0x0) * 8 + 16, 8, 0x31⟩
def Reg.LXF_STATUS_READY (e : Nat) : Fld := ⟨(0x4000000 + 0x1000 * e + 0x4) * 8 + 0, 1, 0⟩
def Reg.LXF_STATUS_PAIR (e : Nat) : Fld := ⟨(0x4000000 + 0x1000 * e + 0x4) * 8 + 1, 2, 0⟩
def Reg.LXF_STATUS_BANK_PENDING (e : Nat) : Fld := ⟨(0x4000000 + 0x1000 * e + 0x4) * 8 + 3, 1, 0⟩
def Reg.LXF_STATUS_COMMIT (e : Nat) : Fld := ⟨(0x4000000 + 0x1000 * e + 0x4) * 8 + 4, 1, 0⟩
def Reg.LXF_STATUS_ADMIT_STOPPED (e : Nat) : Fld := ⟨(0x4000000 + 0x1000 * e + 0x4) * 8 + 5, 1, 0⟩
def Reg.LXF_STATUS_DEGRADED (e : Nat) : Fld := ⟨(0x4000000 + 0x1000 * e + 0x4) * 8 + 6, 1, 0⟩
def Reg.LXF_STATUS_RING_ERR (e : Nat) : Fld := ⟨(0x4000000 + 0x1000 * e + 0x4) * 8 + 7, 1, 0⟩
def Reg.LXF_CTRL_ENABLE (e : Nat) : Fld := ⟨(0x4000000 + 0x1000 * e + 0x8) * 8 + 0, 1, 1⟩
def Reg.LXF_CTRL_INT_EN (e : Nat) : Fld := ⟨(0x4000000 + 0x1000 * e + 0x8) * 8 + 1, 1, 0⟩
def Reg.LXF_CTRL_RING_RESET (e : Nat) : Fld := ⟨(0x4000000 + 0x1000 * e + 0x8) * 8 + 2, 1, 0⟩
def Reg.LXF_BANK_BANK (e : Nat) : Fld := ⟨(0x4000000 + 0x1000 * e + 0xC) * 8 + 0, 6, 0⟩
def Reg.LXF_CAPACITY_SIZE (e : Nat) : Fld := ⟨(0x4000000 + 0x1000 * e + 0x10) * 8 + 0, 19, 0⟩
def Reg.LXF_INT_STATUS_RING_DONE (e : Nat) : Fld := ⟨(0x4000000 + 0x1000 * e + 0x14) * 8 + 0, 8, 0⟩
def Reg.LXF_INT_STATUS_PAIR_CHANGE (e : Nat) : Fld := ⟨(0x4000000 + 0x1000 * e + 0x14) * 8 + 8, 1, 0⟩
def Reg.LXF_INT_STATUS_ERROR (e : Nat) : Fld := ⟨(0x4000000 + 0x1000 * e + 0x14) * 8 + 9, 1, 0⟩
def Reg.LXF_INT_STATUS_READY_CHANGE (e : Nat) : Fld := ⟨(0x4000000 + 0x1000 * e + 0x14) * 8 + 10, 1, 0⟩
def Reg.LXF_INT_MASK_RING_DONE (e : Nat) : Fld := ⟨(0x4000000 + 0x1000 * e + 0x18) * 8 + 0, 8, 0⟩
def Reg.LXF_INT_MASK_PAIR_CHANGE (e : Nat) : Fld := ⟨(0x4000000 + 0x1000 * e + 0x18) * 8 + 8, 1, 0⟩
def Reg.LXF_INT_MASK_ERROR (e : Nat) : Fld := ⟨(0x4000000 + 0x1000 * e + 0x18) * 8 + 9, 1, 0⟩
def Reg.LXF_INT_MASK_READY_CHANGE (e : Nat) : Fld := ⟨(0x4000000 + 0x1000 * e + 0x18) * 8 + 10, 1, 0⟩
def Reg.RING_BASE_L_BASE_L (e : Nat) (r : Nat) : Fld := ⟨(0x4000000 + 0x1000 * e + 0x20 * r + 0x100) * 8 + 0, 24, 0⟩
def Reg.RING_BASE_H_BASE_H (e : Nat) (r : Nat) : Fld := ⟨(0x4000000 + 0x1000 * e + 0x20 * r + 0x104) * 8 + 0, 24, 0⟩
def Reg.RING_CFG_SIZE (e : Nat) (r : Nat) : Fld := ⟨(0x4000000 + 0x1000 * e + 0x20 * r + 0x108) * 8 + 0, 4, 0⟩
def Reg.RING_CFG_ENABLE (e : Nat) (r : Nat) : Fld := ⟨(0x4000000 + 0x1000 * e + 0x20 * r + 0x108) * 8 + 4, 1, 0⟩
def Reg.RING_CFG_VECTOR (e : Nat) (r : Nat) : Fld := ⟨(0x4000000 + 0x1000 * e + 0x20 * r + 0x108) * 8 + 5, 5, 0⟩
def Reg.RING_TAIL_TAIL (e : Nat) (r : Nat) : Fld := ⟨(0x4000000 + 0x1000 * e + 0x20 * r + 0x10C) * 8 + 0, 16, 0⟩
def Reg.RING_HEAD_HEAD (e : Nat) (r : Nat) : Fld := ⟨(0x4000000 + 0x1000 * e + 0x20 * r + 0x110) * 8 + 0, 16, 0⟩

/-- Register rows of spec chapter 02. A row: first offset, stride and count of its copies, then its fields from bit 0: first bit, width, access code, reset value, bit address of the governing lock in the first copy (0: none). -/
def regTable02_0 : List RegRow := [
  ⟨0x10000, 0x4, 1, [⟨0, 1, .rwl, 0, 0x10000 * 8 + 31⟩, ⟨1, 1, .rwl, 0, 0x10000 * 8 + 31⟩, ⟨2, 29, .rsvd, 0, 0⟩, ⟨31, 1, .w1s, 0, 0⟩]⟩,
  ⟨0x10004, 0x4, 1, [⟨0, 2, .ro, 0, 0⟩, ⟨2, 1, .ro, 0, 0⟩, ⟨3, 1, .ro, 0, 0⟩, ⟨4, 1, .ro, 0, 0⟩, ⟨5, 3, .ro, 0, 0⟩, ⟨8, 3, .ro, 0, 0⟩, ⟨11, 21, .rsvd, 0, 0⟩]⟩,
  ⟨0x10008, 0x4, 1, [⟨0, 10, .rlt, 0, 0⟩, ⟨10, 22, .rlt, 0, 0⟩]⟩,
  ⟨0x1000C, 0x4, 1, [⟨0, 18, .ro, 0, 0⟩, ⟨18, 14, .rsvd, 0, 0⟩]⟩,
  ⟨0x10010, 0x4, 1, [⟨0, 20, .ro, 0, 0⟩, ⟨20, 12, .rsvd, 0, 0⟩]⟩,
  ⟨0x10014, 0x4, 1, [⟨0, 8, .ro, 0, 0⟩, ⟨8, 1, .ro, 0, 0⟩, ⟨9, 23, .rsvd, 0, 0⟩]⟩,
  ⟨0x10018, 0x4, 1, [⟨0, 1, .w1c, 0, 0⟩, ⟨1, 1, .w1c, 0, 0⟩, ⟨2, 1, .w1c, 0, 0⟩, ⟨3, 1, .w1c, 0, 0⟩, ⟨4, 1, .w1c, 0, 0⟩, ⟨5, 1, .w1c, 0, 0⟩, ⟨6, 26, .rsvd, 0, 0⟩]⟩,
  ⟨0x1001C, 0x4, 1, [⟨0, 16, .rc, 0, 0⟩, ⟨16, 16, .rc, 0, 0⟩]⟩
]
/-- Register rows of spec chapter 03. A row: first offset, stride and count of its copies, then its fields from bit 0: first bit, width, access code, reset value, bit address of the governing lock in the first copy (0: none). -/
def regTable03_0 : List RegRow := [
  ⟨0x30000, 0x4, 1, [⟨0, 1, .rc, 1, 0⟩, ⟨1, 4, .ro, 0xF, 0⟩, ⟨5, 1, .w1s, 0, 0⟩, ⟨6, 26, .rsvd, 0, 0⟩]⟩,
  ⟨0x30004, 0x4, 1, [⟨0, 2, .rw, 0, 0⟩, ⟨2, 1, .w1s, 0, 0⟩, ⟨3, 1, .w1s, 0, 0⟩, ⟨4, 1, .ro, 0, 0⟩, ⟨5, 1, .ro, 0, 0⟩, ⟨6, 2, .rsvd, 0, 0⟩, ⟨8, 8, .ro, 0x00, 0⟩, ⟨16, 8, .ro, 0x00, 0⟩, ⟨24, 8, .rsvd, 0, 0⟩]⟩,
  ⟨0x30008, 0x4, 1, [⟨0, 8, .rw, 0, 0⟩, ⟨8, 16, .rw, 0, 0⟩, ⟨24, 8, .rsvd, 0, 0⟩]⟩,
  ⟨0x3000C, 0x4, 1, [⟨0, 8, .rsvd, 0, 0⟩, ⟨8, 16, .rw, 0, 0⟩, ⟨24, 8, .rsvd, 0, 0⟩]⟩,
  ⟨0x30010, 0x4, 1, [⟨0, 9, .rw, 0, 0⟩, ⟨9, 23, .rw, 0, 0⟩]⟩,
  ⟨0x0, 0x4, 1, [⟨0, 16, .ro, 0x7180, 0⟩, ⟨16, 8, .ro, 0x01, 0⟩, ⟨24, 8, .ro, 0x56, 0⟩]⟩,
  ⟨0x4, 0x4, 1, [⟨0, 4, .ro, (Config.siliconRev.toNat % 0x10), 0⟩, ⟨4, 4, .ro, (Config.siliconRev.toNat / 0x10 % 0x10), 0⟩, ⟨8, 8, .ro, (Config.siliconRev.toNat / 0x100), 0⟩, ⟨16, 16, .rsvd, 0, 0⟩]⟩,
  ⟨0x8, 0x4, 1, [⟨0, 32, .rlt, (Config.serial.toNat % 0x100000000), 0⟩]⟩,
  ⟨0xC, 0x4, 1, [⟨0, 32, .ro, (Config.serial.toNat / 0x100000000), 0⟩]⟩,
  ⟨0x10, 0x4, 1, [⟨0, 2, .ro, 0, 0⟩, ⟨2, 1, .ro, 0, 0⟩, ⟨3, 1, .ro, 0, 0⟩, ⟨4, 2, .ro, 0, 0⟩, ⟨6, 2, .rsvd, 0, 0⟩, ⟨8, 1, .ro, 0, 0⟩, ⟨9, 1, .ro, 0, 0⟩, ⟨10, 1, .ro, 0, 0⟩, ⟨11, 1, .ro, 0, 0⟩, ⟨12, 1, .ro, 0, 0⟩, ⟨13, 19, .rsvd, 0, 0⟩]⟩,
  ⟨0x14, 0x4, 1, [⟨0, 1, .ro, 0, 0⟩, ⟨1, 1, .ro, 0, 0⟩, ⟨2, 1, .ro, 0, 0⟩, ⟨3, 1, .rsvd, 0, 0⟩, ⟨4, 4, .ro, 0, 0⟩, ⟨8, 1, .ro, 0, 0⟩, ⟨9, 1, .ro, 0, 0⟩, ⟨10, 22, .rsvd, 0, 0⟩]⟩,
  ⟨0x18, 0x4, 1, [⟨0, 1, .w1c, 1, 0⟩, ⟨1, 1, .w1c, 0, 0⟩, ⟨2, 1, .w1c, 0, 0⟩, ⟨3, 1, .w1c, 0, 0⟩, ⟨4, 1, .w1c, 0, 0⟩, ⟨5, 1, .w1c, 0, 0⟩, ⟨6, 26, .rsvd, 0, 0⟩]⟩
]
/-- Register rows of spec chapter 03. A row: first offset, stride and count of its copies, then its fields from bit 0: first bit, width, access code, reset value, bit address of the governing lock in the first copy (0: none). -/
def regTable03_1 : List RegRow := [
  ⟨0x1C, 0x4, 1, [⟨0, 32, .wo, 0, 0⟩]⟩,
  ⟨0x20, 0x4, 1, [⟨0, 1, .w1s, 0, 0⟩, ⟨1, 1, .w1s, 0, 0⟩, ⟨2, 1, .w1s, 0, 0⟩, ⟨3, 1, .w1s, 0, 0⟩, ⟨4, 1, .w1s, 0, 0⟩, ⟨5, 1, .w1s, 0, 0⟩, ⟨6, 26, .rsvd, 0, 0⟩]⟩,
  ⟨0x24, 0x4, 1, [⟨0, 4, .ro, 0, 0⟩, ⟨4, 4, .ro, 0, 0⟩, ⟨8, 24, .rsvd, 0, 0⟩]⟩,
  ⟨0x28, 0x4, 1, [⟨0, 26, .ro, 0, 0⟩, ⟨26, 6, .rsvd, 0, 0⟩]⟩,
  ⟨0x2C, 0x4, 1, [⟨0, 32, .rc, 0, 0⟩]⟩,
  ⟨0x20000, 0x4, 1, [⟨0, 1, .rw, 0, 0⟩, ⟨1, 1, .rwl, 0, 0x20000 * 8 + 31⟩, ⟨2, 2, .rwl, 1, 0x20000 * 8 + 31⟩, ⟨4, 27, .rsvd, 0, 0⟩, ⟨31, 1, .w1s, 0, 0⟩]⟩,
  ⟨0x20004, 0x4, 1, [⟨0, 19, .ro, 0, 0⟩, ⟨19, 1, .ro, 0, 0⟩, ⟨20, 12, .rsvd, 0, 0⟩]⟩,
  ⟨0x20008, 0x4, 1, [⟨0, 32, .rwb, 0, 0⟩]⟩,
  ⟨0x2000C, 0x4, 1, [⟨0, 32, .ro, 0, 0⟩]⟩,
  ⟨0x20010, 0x4, 1, [⟨0, 1, .ro, 0, 0⟩, ⟨1, 2, .ro, 0, 0⟩, ⟨3, 1, .w1c, 0, 0⟩, ⟨4, 1, .w1c, 0, 0⟩, ⟨5, 1, .ro, 0, 0⟩, ⟨6, 26, .rsvd, 0, 0⟩]⟩
]
/-- Register rows of spec chapter 05. A row: first offset, stride and count of its copies, then its fields from bit 0: first bit, width, access code, reset value, bit address of the governing lock in the first copy (0: none). -/
def regTable05_0 : List RegRow := [
  ⟨0x40000, 0x1000, 16, [⟨0, 1, .rwb, 0, 0⟩, ⟨1, 1, .rwl, 0, 0x40000 * 8 + 31⟩, ⟨2, 1, .rwl, 0, 0x40000 * 8 + 31⟩, ⟨3, 28, .rsvd, 0, 0⟩, ⟨31, 1, .w1s, 0, 0⟩]⟩,
  ⟨0x40004, 0x1000, 16, [⟨0, 1, .ro, 0, 0⟩, ⟨1, 1, .ro, 0, 0⟩, ⟨2, 3, .ro, 0, 0⟩, ⟨5, 2, .ro, 0, 0⟩, ⟨7, 2, .ro, 2, 0⟩, ⟨9, 1, .ro, 0, 0⟩, ⟨10, 1, .ro, 0, 0⟩, ⟨11, 1, .ro, 0, 0⟩, ⟨12, 5, .ro, 0, 0⟩, ⟨17, 15, .rsvd, 0, 0⟩]⟩,
  ⟨0x40008, 0x1000, 16, [⟨0, 16, .rwb, 1000, 0⟩, ⟨16, 16, .rsvd, 0, 0⟩]⟩,
  ⟨0x4000C, 0x1000, 16, [⟨0, 15, .ro, 0, 0⟩, ⟨15, 1, .rsvd, 0, 0⟩, ⟨16, 15, .rc, 0x7FFF, 0⟩, ⟨31, 1, .rsvd, 0, 0⟩]⟩,
  ⟨0x40010, 0x1000, 16, [⟨0, 16, .rc, 0, 0⟩, ⟨16, 4, .ro, 0, 0⟩, ⟨20, 6, .ro, 0, 0⟩, ⟨26, 6, .rsvd, 0, 0⟩]⟩,
  ⟨0x40014, 0x1000, 16, [⟨0, 1, .w1c, 0, 0⟩, ⟨1, 1, .w1c, 0, 0⟩, ⟨2, 1, .w1c, 0, 0⟩, ⟨3, 1, .w1c, 0, 0⟩, ⟨4, 1, .w1c, 0, 0⟩, ⟨5, 1, .w1c, 0, 0⟩, ⟨6, 26, .rsvd, 0, 0⟩]⟩,
  ⟨0x50000, 0x40, 64, [⟨0, 1, .rwb, 0, 0⟩, ⟨1, 1, .rwl, 0, 0x50000 * 8 + 31⟩, ⟨2, 2, .rsvd, 0, 0⟩, ⟨4, 4, .rwl, 0, 0x50000 * 8 + 31⟩, ⟨8, 6, .rwl, 0, 0x50000 * 8 + 31⟩, ⟨14, 6, .rwl, 0x3F, 0x50000 * 8 + 31⟩, ⟨20, 4, .ro, 0, 0⟩, ⟨24, 1, .ro, 0, 0⟩, ⟨25, 1, .ro, 0, 0⟩, ⟨26, 5, .rsvd, 0, 0⟩, ⟨31, 1, .w1s, 0, 0⟩]⟩,
  ⟨0x50004, 0x40, 64, [⟨0, 19, .rwl, 0, 0x50000 * 8 + 31⟩, ⟨19, 13, .rsvd, 0, 0⟩]⟩,
  ⟨0x50008, 0x40, 64, [⟨0, 32, .rlt, 0, 0⟩]⟩,
  ⟨0x5000C, 0x40, 64, [⟨0, 32, .ro, 0, 0⟩]⟩,
  ⟨0x50010, 0x40, 64, [⟨0, 16, .rc, 0, 0⟩, ⟨16, 4, .ro, 0, 0⟩, ⟨20, 12, .rsvd, 0, 0⟩]⟩,
  ⟨0x51000, 0x10, 64, [⟨0, 1, .rwl, 0, 0x51000 * 8 + 31⟩, ⟨1, 5, .rwl, 0, 0x51000 * 8 + 31⟩, ⟨6, 25, .rsvd, 0, 0⟩, ⟨31, 1, .w1s, 0, 0⟩]⟩
]
/-- Register rows of spec chapter 05. A row: first offset, stride and count of its copies, then its fields from bit 0: first bit, width, access code, reset value, bit address of the governing lock in the first copy (0: none). -/
def regTable05_1 : List RegRow := [
  ⟨0x51004, 0x10, 64, [⟨0, 19, .rwl, 0, 0x51000 * 8 + 31⟩, ⟨19, 13, .rsvd, 0, 0⟩]⟩,
  ⟨0x51008, 0x10, 64, [⟨0, 19, .rwl, 0, 0x51000 * 8 + 31⟩, ⟨19, 13, .rsvd, 0, 0⟩]⟩,
  ⟨0x53000, 0x4, 1, [⟨0, 1, .ro, 0, 0⟩, ⟨1, 1, .ro, 0, 0⟩, ⟨2, 1, .ro, 0, 0⟩, ⟨3, 29, .rsvd, 0, 0⟩]⟩,
  ⟨0x53004, 0x4, 1, [⟨0, 16, .rwb, 256, 0⟩, ⟨16, 8, .rwb, 20, 0⟩, ⟨24, 8, .rsvd, 0, 0⟩]⟩
]
/-- Register rows of spec chapter 06. A row: first offset, stride and count of its copies, then its fields from bit 0: first bit, width, access code, reset value, bit address of the governing lock in the first copy (0: none). -/
def regTable06_0 : List RegRow := [
  ⟨0x80000, 0x4, 1, [⟨0, 8, .rwb, 64, 0⟩, ⟨8, 24, .rsvd, 0, 0⟩]⟩,
  ⟨0x80004, 0x4, 1, [⟨0, 16, .rwb, 1000, 0⟩, ⟨16, 16, .rsvd, 0, 0⟩]⟩,
  ⟨0x80008, 0x4, 1, [⟨0, 1, .ro, 0, 0⟩, ⟨1, 1, .ro, 0, 0⟩, ⟨2, 1, .ro, 0, 0⟩, ⟨3, 1, .ro, 0, 0⟩, ⟨4, 1, .ro, 0, 0⟩, ⟨5, 1, .ro, 0, 0⟩, ⟨6, 26, .rsvd, 0, 0⟩]⟩,
  ⟨0x8000C, 0x4, 1, [⟨0, 18, .ro, 0, 0⟩, ⟨18, 14, .rsvd, 0, 0⟩]⟩,
  ⟨0x80010, 0x4, 1, [⟨0, 15, .ro, 0, 0⟩, ⟨15, 1, .rsvd, 0, 0⟩, ⟨16, 15, .ro, 0, 0⟩, ⟨31, 1, .rsvd, 0, 0⟩]⟩,
  ⟨0x80018, 0x4, 1, [⟨0, 32, .rlt, 0, 0⟩]⟩,
  ⟨0x8001C, 0x4, 1, [⟨0, 32, .ro, 0, 0⟩]⟩,
  ⟨0x80020, 0x4, 1, [⟨0, 13, .ro, 0, 0⟩, ⟨13, 13, .ro, 0, 0⟩, ⟨26, 6, .rsvd, 0, 0⟩]⟩,
  ⟨0x80024, 0x4, 1, [⟨0, 16, .ro, 0, 0⟩, ⟨16, 16, .rc, 0, 0⟩]⟩,
  ⟨0x80028, 0x4, 1, [⟨0, 16, .ro, 0, 0⟩, ⟨16, 16, .rc, 0, 0⟩]⟩,
  ⟨0x8002C, 0x4, 1, [⟨0, 16, .ro, 0, 0⟩, ⟨16, 16, .rc, 0, 0⟩]⟩,
  ⟨0x80030, 0x4, 1, [⟨0, 16, .rc, 0, 0⟩, ⟨16, 16, .rc, 0, 0⟩]⟩
]
/-- Register rows of spec chapter 06. A row: first offset, stride and count of its copies, then its fields from bit 0: first bit, width, access code, reset value, bit address of the governing lock in the first copy (0: none). -/
def regTable06_1 : List RegRow := [
  ⟨0x80034, 0x4, 1, [⟨0, 16, .rc, 0, 0⟩, ⟨16, 8, .rc, 0, 0⟩, ⟨24, 8, .rc, 0, 0⟩]⟩,
  ⟨0x80038, 0x4, 1, [⟨0, 2, .ro, 0, 0⟩, ⟨2, 14, .rsvd, 0, 0⟩, ⟨16, 16, .rc, 0, 0⟩]⟩,
  ⟨0x8003C, 0x4, 1, [⟨0, 1, .w1c, 0, 0⟩, ⟨1, 1, .w1c, 0, 0⟩, ⟨2, 1, .w1c, 0, 0⟩, ⟨3, 1, .w1c, 0, 0⟩, ⟨4, 1, .w1c, 0, 0⟩, ⟨5, 1, .w1c, 0, 0⟩, ⟨6, 26, .rsvd, 0, 0⟩]⟩,
  ⟨0x80040, 0x4, 1, [⟨0, 18, .ro, 0, 0⟩, ⟨18, 14, .rsvd, 0, 0⟩]⟩
]
/-- Register rows of spec chapter 07. A row: first offset, stride and count of its copies, then its fields from bit 0: first bit, width, access code, reset value, bit address of the governing lock in the first copy (0: none). -/
def regTable07_0 : List RegRow := [
  ⟨0xC0000, 0x4, 1, [⟨0, 3, .rwb, 0, 0⟩, ⟨3, 1, .rwb, 1, 0⟩, ⟨4, 2, .rwb, 1, 0⟩, ⟨6, 26, .rsvd, 0, 0⟩]⟩,
  ⟨0xC0004, 0x4, 1, [⟨0, 1, .ro, 0, 0⟩, ⟨1, 1, .ro, 0, 0⟩, ⟨2, 1, .ro, 0, 0⟩, ⟨3, 13, .rsvd, 0, 0⟩, ⟨16, 16, .ro, 0, 0⟩]⟩,
  ⟨0xC0010, 0x4, 1, [⟨0, 2, .rw, 0, 0⟩, ⟨2, 1, .w1s, 0, 0⟩, ⟨3, 1, .w1s, 0, 0⟩, ⟨4, 1, .ro, 0, 0⟩, ⟨5, 3, .rsvd, 0, 0⟩, ⟨8, 8, .ro, 0x00, 0⟩, ⟨16, 8, .ro, 0x00, 0⟩, ⟨24, 8, .rsvd, 0, 0⟩]⟩,
  ⟨0xC0018, 0x4, 1, [⟨0, 6, .rsvd, 0, 0⟩, ⟨6, 26, .rw, 0, 0⟩]⟩,
  ⟨0xC001C, 0x4, 1, [⟨0, 11, .rw, 0, 0⟩, ⟨11, 21, .rsvd, 0, 0⟩]⟩,
  ⟨0xC0020, 0x4, 1, [⟨0, 6, .rsvd, 0, 0⟩, ⟨6, 26, .rw, 0, 0⟩]⟩,
  ⟨0xC0024, 0x4, 1, [⟨0, 11, .rw, 0, 0⟩, ⟨11, 21, .rsvd, 0, 0⟩]⟩,
  ⟨0xC0030, 0x4, 1, [⟨0, 16, .rc, 0, 0⟩, ⟨16, 8, .rc, 0, 0⟩, ⟨24, 8, .rc, 0, 0⟩]⟩,
  ⟨0xC0034, 0x4, 1, [⟨0, 1, .w1c, 0, 0⟩, ⟨1, 1, .w1c, 0, 0⟩, ⟨2, 1, .w1c, 0, 0⟩, ⟨3, 1, .w1c, 0, 0⟩, ⟨4, 28, .rsvd, 0, 0⟩]⟩,
  ⟨0xC0800, 0x4, 16, [⟨0, 16, .rwl, 0, 0xC0800 * 8 + 31⟩, ⟨16, 15, .rsvd, 0, 0⟩, ⟨31, 1, .w1s, 0, 0⟩]⟩,
  ⟨0xC0900, 0x4, 16, [⟨0, 16, .rwl, 0xACE1, 0xC0900 * 8 + 31⟩, ⟨16, 15, .rsvd, 0, 0⟩, ⟨31, 1, .w1s, 0, 0⟩]⟩,
  ⟨0xC1000, 0x100, 16, [⟨0, 32, .rlt, 0, 0⟩]⟩
]
/-- Register rows of spec chapter 07. A row: first offset, stride and count of its copies, then its fields from bit 0: first bit, width, access code, reset value, bit address of the governing lock in the first copy (0: none). -/
def regTable07_1 : List RegRow := [
  ⟨0xC1004, 0x100, 16, [⟨0, 32, .ro, 0, 0⟩]⟩,
  ⟨0xC1008, 0x100, 16, [⟨0, 32, .rlt, 0, 0⟩]⟩,
  ⟨0xC100C, 0x100, 16, [⟨0, 32, .ro, 0, 0⟩]⟩,
  ⟨0xC1010, 0x100, 16, [⟨0, 32, .rlt, 0, 0⟩]⟩,
  ⟨0xC1014, 0x100, 16, [⟨0, 32, .ro, 0, 0⟩]⟩,
  ⟨0xC1018, 0x100, 16, [⟨0, 32, .rlt, 0, 0⟩]⟩,
  ⟨0xC101C, 0x100, 16, [⟨0, 32, .ro, 0, 0⟩]⟩,
  ⟨0xC1020, 0x100, 16, [⟨0, 32, .rc, 0, 0⟩]⟩,
  ⟨0xC1024, 0x100, 16, [⟨0, 16, .ro, 0, 0⟩, ⟨16, 16, .ro, 0, 0⟩]⟩,
  ⟨0xC4000, 0x10, 1024, [⟨0, 1, .rwb, 0, 0⟩, ⟨1, 6, .rwb, 0, 0⟩, ⟨7, 3, .rwb, 0, 0⟩, ⟨10, 1, .rwb, 1, 0⟩, ⟨11, 21, .rsvd, 0, 0⟩]⟩,
  ⟨0xC4004, 0x10, 1024, [⟨0, 25, .rwb, 0, 0⟩, ⟨25, 7, .rsvd, 0, 0⟩]⟩,
  ⟨0xC4008, 0x10, 1024, [⟨0, 26, .rwb, 0, 0⟩, ⟨26, 6, .rsvd, 0, 0⟩]⟩
]
/-- Register rows of spec chapter 08. A row: first offset, stride and count of its copies, then its fields from bit 0: first bit, width, access code, reset value, bit address of the governing lock in the first copy (0: none). -/
def regTable08_0 : List RegRow := [
  ⟨0x100000, 0x4, 1, [⟨0, 8, .rwb, 20, 0⟩, ⟨8, 6, .rwb, 8, 0⟩, ⟨14, 18, .rsvd, 0, 0⟩]⟩,
  ⟨0x100004, 0x4, 1, [⟨0, 6, .rsvd, 0, 0⟩, ⟨6, 26, .rwl, 0, 0x10000C * 8 + 31⟩]⟩,
  ⟨0x100008, 0x4, 1, [⟨0, 11, .rwl, 0, 0x10000C * 8 + 31⟩, ⟨11, 21, .rsvd, 0, 0⟩]⟩,
  ⟨0x10000C, 0x4, 1, [⟨0, 28, .rwl, 0, 0x10000C * 8 + 31⟩, ⟨28, 3, .rsvd, 0, 0⟩, ⟨31, 1, .w1s, 0, 0⟩]⟩,
  ⟨0x100010, 0x4, 1, [⟨0, 5, .ro, 0, 0⟩, ⟨5, 3, .rsvd, 0, 0⟩, ⟨8, 1, .ro, 0, 0⟩, ⟨9, 7, .rsvd, 0, 0⟩, ⟨16, 11, .ro, 0, 0⟩, ⟨27, 5, .rsvd, 0, 0⟩]⟩,
  ⟨0x100018, 0x4, 1, [⟨0, 32, .rlt, 0, 0⟩]⟩,
  ⟨0x10001C, 0x4, 1, [⟨0, 32, .ro, 0, 0⟩]⟩,
  ⟨0x100020, 0x4, 1, [⟨0, 32, .rlt, 0, 0⟩]⟩,
  ⟨0x100024, 0x4, 1, [⟨0, 32, .ro, 0, 0⟩]⟩,
  ⟨0x100028, 0x4, 1, [⟨0, 24, .rc, 0, 0⟩, ⟨24, 8, .rc, 0, 0⟩]⟩,
  ⟨0x10002C, 0x4, 1, [⟨0, 32, .rc, 0, 0⟩]⟩,
  ⟨0x100030, 0x4, 1, [⟨0, 16, .ro, 0, 0⟩, ⟨16, 16, .rc, 0, 0⟩]⟩
]
/-- Register rows of spec chapter 08. A row: first offset, stride and count of its copies, then its fields from bit 0: first bit, width, access code, reset value, bit address of the governing lock in the first copy (0: none). -/
def regTable08_1 : List RegRow := [
  ⟨0x100034, 0x4, 1, [⟨0, 16, .ro, 0, 0⟩, ⟨16, 16, .rc, 0, 0⟩]⟩,
  ⟨0x100038, 0x4, 1, [⟨0, 1, .w1c, 0, 0⟩, ⟨1, 1, .w1c, 0, 0⟩, ⟨2, 1, .w1c, 0, 0⟩, ⟨3, 1, .w1c, 0, 0⟩, ⟨4, 1, .w1c, 0, 0⟩, ⟨5, 1, .w1c, 0, 0⟩, ⟨6, 26, .rsvd, 0, 0⟩]⟩,
  ⟨0x10003C, 0x4, 1, [⟨0, 4, .ro, 0, 0⟩, ⟨4, 4, .ro, 0, 0⟩, ⟨8, 4, .ro, 0, 0⟩, ⟨12, 4, .ro, 0, 0⟩, ⟨16, 16, .rsvd, 0, 0⟩]⟩
]
/-- Register rows of spec chapter 09. A row: first offset, stride and count of its copies, then its fields from bit 0: first bit, width, access code, reset value, bit address of the governing lock in the first copy (0: none). -/
def regTable09_0 : List RegRow := [
  ⟨0x140000, 0x2000, 16, [⟨0, 4, .ro, 0, 0⟩, ⟨4, 2, .ro, 0, 0⟩, ⟨6, 1, .ro, 0, 0⟩, ⟨7, 1, .ro, 0, 0⟩, ⟨8, 2, .ro, 0, 0⟩, ⟨10, 1, .ro, 0, 0⟩, ⟨11, 1, .ro, 0, 0⟩, ⟨12, 1, .ro, 0, 0⟩, ⟨13, 1, .ro, 0, 0⟩, ⟨14, 1, .ro, 0, 0⟩, ⟨15, 17, .rsvd, 0, 0⟩]⟩,
  ⟨0x140004, 0x2000, 16, [⟨0, 8, .ro, 0, 0⟩, ⟨8, 8, .ro, 0, 0⟩, ⟨16, 7, .ro, 0, 0⟩, ⟨23, 1, .rsvd, 0, 0⟩, ⟨24, 7, .ro, 0, 0⟩, ⟨31, 1, .rsvd, 0, 0⟩]⟩,
  ⟨0x140008, 0x2000, 16, [⟨0, 16, .rc, 0, 0⟩, ⟨16, 8, .rc, 0, 0⟩, ⟨24, 8, .rc, 0, 0⟩]⟩,
  ⟨0x14000C, 0x2000, 16, [⟨0, 16, .rc, 0, 0⟩, ⟨16, 8, .rc, 0, 0⟩, ⟨24, 8, .rc, 0, 0⟩]⟩,
  ⟨0x140010, 0x2000, 16, [⟨0, 6, .rsvd, 0, 0⟩, ⟨6, 26, .rlt, 0, 0⟩]⟩,
  ⟨0x140014, 0x2000, 16, [⟨0, 11, .ro, 0, 0⟩, ⟨11, 5, .ro, 0, 0⟩, ⟨16, 3, .ro, 0, 0⟩, ⟨19, 1, .ro, 0, 0⟩, ⟨20, 12, .rsvd, 0, 0⟩]⟩,
  ⟨0x140018, 0x2000, 16, [⟨0, 5, .ro, 0, 0⟩, ⟨5, 3, .ro, 0, 0⟩, ⟨8, 16, .ro, 0, 0⟩, ⟨24, 8, .ro, 0, 0⟩]⟩,
  ⟨0x14001C, 0x2000, 16, [⟨0, 16, .rc, 0, 0⟩, ⟨16, 16, .rc, 0, 0⟩]⟩,
  ⟨0x140020, 0x2000, 16, [⟨0, 2, .ro, 0, 0⟩, ⟨2, 3, .ro, 0, 0⟩, ⟨5, 11, .rsvd, 0, 0⟩, ⟨16, 8, .rc, 0, 0⟩, ⟨24, 8, .rc, 0, 0⟩]⟩,
  ⟨0x140028, 0x2000, 16, [⟨0, 32, .rlt, 0, 0⟩]⟩,
  ⟨0x14002C, 0x2000, 16, [⟨0, 32, .ro, 0, 0⟩]⟩,
  ⟨0x140030, 0x2000, 16, [⟨0, 32, .rlt, 0, 0⟩]⟩
]
/-- Register rows of spec chapter 09. A row: first offset, stride and count of its copies, then its fields from bit 0: first bit, width, access code, reset value, bit address of the governing lock in the first copy (0: none). -/
def regTable09_1 : List RegRow := [
  ⟨0x140034, 0x2000, 16, [⟨0, 32, .ro, 0, 0⟩]⟩,
  ⟨0x140040, 0x2000, 16, [⟨0, 1, .w1c, 0, 0⟩, ⟨1, 1, .w1c, 0, 0⟩, ⟨2, 1, .w1c, 0, 0⟩, ⟨3, 1, .w1c, 0, 0⟩, ⟨4, 1, .w1c, 0, 0⟩, ⟨5, 1, .w1c, 0, 0⟩, ⟨6, 1, .w1c, 0, 0⟩, ⟨7, 1, .w1c, 0, 0⟩, ⟨8, 24, .rsvd, 0, 0⟩]⟩,
  ⟨0x160000, 0x4, 1, [⟨0, 2, .rwl, 1, 0x160000 * 8 + 31⟩, ⟨2, 29, .rsvd, 0, 0⟩, ⟨31, 1, .w1s, 0, 0⟩]⟩,
  ⟨0x160004, 0x4, 1, [⟨0, 7, .rwb, 75, 0⟩, ⟨7, 1, .rsvd, 0, 0⟩, ⟨8, 7, .rwb, 50, 0⟩, ⟨15, 17, .rsvd, 0, 0⟩]⟩,
  ⟨0x160008, 0x4, 1, [⟨0, 1, .rwb, 1, 0⟩, ⟨1, 15, .rsvd, 0, 0⟩, ⟨16, 10, .ro, 0, 0⟩, ⟨26, 6, .rsvd, 0, 0⟩]⟩,
  ⟨0x16000C, 0x4, 1, [⟨0, 16, .ro, 0, 0⟩, ⟨16, 16, .rc, 0, 0⟩]⟩,
  ⟨0x160010, 0x4, 1, [⟨0, 10, .ro, 0, 0⟩, ⟨10, 1, .ro, 0, 0⟩, ⟨11, 5, .rsvd, 0, 0⟩, ⟨16, 16, .ro, 0, 0⟩]⟩,
  ⟨0x160014, 0x4, 1, [⟨0, 16, .ro, 0, 0⟩, ⟨16, 14, .ro, 0, 0⟩, ⟨30, 2, .rsvd, 0, 0⟩]⟩
]
/-- Register rows of spec chapter 10. A row: first offset, stride and count of its copies, then its fields from bit 0: first bit, width, access code, reset value, bit address of the governing lock in the first copy (0: none). -/
def regTable10_0 : List RegRow := [
  ⟨0x180000, 0x4, 1, [⟨0, 7, .rwb, 90, 0⟩, ⟨7, 1, .rsvd, 0, 0⟩, ⟨8, 7, .rwb, 50, 0⟩, ⟨15, 1, .rsvd, 0, 0⟩, ⟨16, 6, .rwb, 10, 0⟩, ⟨22, 10, .rsvd, 0, 0⟩]⟩,
  ⟨0x180004, 0x4, 1, [⟨0, 32, .rwb, 0x00000000, 0⟩]⟩,
  ⟨0x180008, 0x4, 1, [⟨0, 32, .rwb, 0x00000080, 0⟩]⟩,
  ⟨0x18000C, 0x4, 1, [⟨0, 10, .rwb, 700, 0⟩, ⟨10, 22, .rsvd, 0, 0⟩]⟩,
  ⟨0x180010, 0x4, 1, [⟨0, 16, .ro, 0, 0⟩, ⟨16, 16, .ro, 0, 0⟩]⟩,
  ⟨0x180014, 0x4, 1, [⟨0, 16, .ro, 0, 0⟩, ⟨16, 1, .ro, 0, 0⟩, ⟨17, 1, .ro, 0, 0⟩, ⟨18, 1, .ro, 0, 0⟩, ⟨19, 13, .rsvd, 0, 0⟩]⟩,
  ⟨0x180018, 0x4, 1, [⟨0, 24, .ro, 0, 0⟩, ⟨24, 1, .ro, 1, 0⟩, ⟨25, 7, .rsvd, 0, 0⟩]⟩,
  ⟨0x180020, 0x4, 1, [⟨0, 32, .rlt, 0, 0⟩]⟩,
  ⟨0x180024, 0x4, 1, [⟨0, 32, .ro, 0, 0⟩]⟩,
  ⟨0x180028, 0x4, 1, [⟨0, 32, .rlt, 0, 0⟩]⟩,
  ⟨0x18002C, 0x4, 1, [⟨0, 32, .ro, 0, 0⟩]⟩,
  ⟨0x180030, 0x4, 1, [⟨0, 32, .ro, 0, 0⟩]⟩
]
/-- Register rows of spec chapter 10. A row: first offset, stride and count of its copies, then its fields from bit 0: first bit, width, access code, reset value, bit address of the governing lock in the first copy (0: none). -/
def regTable10_1 : List RegRow := [
  ⟨0x180034, 0x4, 1, [⟨0, 22, .ro, 0, 0⟩, ⟨22, 10, .rsvd, 0, 0⟩]⟩,
  ⟨0x180038, 0x4, 1, [⟨0, 2, .ro, 0, 0⟩, ⟨2, 2, .ro, 0, 0⟩, ⟨4, 2, .ro, 0, 0⟩, ⟨6, 3, .ro, 0, 0⟩, ⟨9, 3, .ro, 0, 0⟩, ⟨12, 1, .ro, 0, 0⟩, ⟨13, 1, .ro, 0, 0⟩, ⟨14, 18, .rsvd, 0, 0⟩]⟩,
  ⟨0x18003C, 0x4, 1, [⟨0, 18, .ro, 0, 0⟩, ⟨18, 14, .rsvd, 0, 0⟩]⟩,
  ⟨0x180040, 0x4, 1, [⟨0, 32, .rc, 0, 0⟩]⟩,
  ⟨0x180044, 0x4, 1, [⟨0, 24, .ro, 0, 0⟩, ⟨24, 8, .rsvd, 0, 0⟩]⟩,
  ⟨0x180048, 0x4, 1, [⟨0, 32, .ro, 0, 0⟩]⟩,
  ⟨0x18004C, 0x4, 1, [⟨0, 22, .ro, 0, 0⟩, ⟨22, 10, .rsvd, 0, 0⟩]⟩,
  ⟨0x18006C, 0x4, 1, [⟨0, 22, .ro, 0, 0⟩, ⟨22, 10, .rsvd, 0, 0⟩]⟩,
  ⟨0x180050, 0x4, 1, [⟨0, 16, .ro, 0, 0⟩, ⟨16, 16, .ro, 0, 0⟩]⟩,
  ⟨0x180054, 0x4, 1, [⟨0, 3, .ro, 0, 0⟩, ⟨3, 1, .ro, 0, 0⟩, ⟨4, 1, .ro, 0, 0⟩, ⟨5, 1, .ro, 0, 0⟩, ⟨6, 10, .rsvd, 0, 0⟩, ⟨16, 16, .ro, 0, 0⟩]⟩,
  ⟨0x180058, 0x4, 1, [⟨0, 32, .rlt, 0, 0⟩]⟩,
  ⟨0x18005C, 0x4, 1, [⟨0, 32, .ro, 0, 0⟩]⟩
]
/-- Register rows of spec chapter 10. A row: first offset, stride and count of its copies, then its fields from bit 0: first bit, width, access code, reset value, bit address of the governing lock in the first copy (0: none). -/
def regTable10_2 : List RegRow := [
  ⟨0x180060, 0x4, 1, [⟨0, 32, .wo, 0, 0⟩]⟩,
  ⟨0x180064, 0x4, 1, [⟨0, 10, .ro, 0, 0⟩, ⟨10, 1, .ro, 0, 0⟩, ⟨11, 5, .rsvd, 0, 0⟩, ⟨16, 16, .rc, 0, 0⟩]⟩,
  ⟨0x180068, 0x4, 1, [⟨0, 1, .w1c, 0, 0⟩, ⟨1, 1, .w1c, 0, 0⟩, ⟨2, 1, .w1c, 0, 0⟩, ⟨3, 1, .w1c, 0, 0⟩, ⟨4, 1, .w1c, 0, 0⟩, ⟨5, 1, .w1c, 0, 0⟩, ⟨6, 1, .w1c, 0, 0⟩, ⟨7, 25, .rsvd, 0, 0⟩]⟩
]
/-- Register rows of spec chapter 11. A row: first offset, stride and count of its copies, then its fields from bit 0: first bit, width, access code, reset value, bit address of the governing lock in the first copy (0: none). -/
def regTable11_0 : List RegRow := [
  ⟨0x1C0000, 0x4, 1, [⟨0, 14, .rwl, 3000, 0x1C0000 * 8 + 31⟩, ⟨14, 7, .rwb, 5, 0⟩, ⟨21, 10, .rwb, 25, 0⟩, ⟨31, 1, .w1s, 0, 0⟩]⟩,
  ⟨0x1C0004, 0x4, 1, [⟨0, 16, .rwb, 4096, 0⟩, ⟨16, 1, .w1s, 0, 0⟩, ⟨17, 15, .rsvd, 0, 0⟩]⟩,
  ⟨0x1C0008, 0x4, 1, [⟨0, 3, .ro, 0, 0⟩, ⟨3, 4, .ro, 1, 0⟩, ⟨7, 1, .ro, 0, 0⟩, ⟨8, 1, .ro, 0, 0⟩, ⟨9, 5, .ro, 0, 0⟩, ⟨14, 4, .ro, 0, 0⟩, ⟨18, 14, .rsvd, 0, 0⟩]⟩,
  ⟨0x1C000C, 0x4, 1, [⟨0, 8, .ro, 0, 0⟩, ⟨8, 8, .ro, 0, 0⟩, ⟨16, 8, .ro, 0, 0⟩, ⟨24, 8, .ro, 0, 0⟩]⟩,
  ⟨0x1C0010, 0x4, 1, [⟨0, 32, .rlt, 0, 0⟩]⟩,
  ⟨0x1C0014, 0x4, 1, [⟨0, 32, .ro, 0, 0⟩]⟩,
  ⟨0x1C0018, 0x4, 1, [⟨0, 32, .rlt, 0, 0⟩]⟩,
  ⟨0x1C001C, 0x4, 1, [⟨0, 32, .ro, 0, 0⟩]⟩,
  ⟨0x1C0020, 0x4, 1, [⟨0, 32, .ro, 0, 0⟩]⟩,
  ⟨0x1C0024, 0x4, 1, [⟨0, 32, .ro, 0, 0⟩]⟩,
  ⟨0x1C0028, 0x4, 1, [⟨0, 10, .ro, 0, 0⟩, ⟨10, 1, .ro, 0, 0⟩, ⟨11, 1, .ro, 0, 0⟩, ⟨12, 20, .rsvd, 0, 0⟩]⟩,
  ⟨0x1C002C, 0x4, 1, [⟨0, 16, .ro, 0, 0⟩, ⟨16, 16, .rc, 0, 0⟩]⟩
]
/-- Register rows of spec chapter 11. A row: first offset, stride and count of its copies, then its fields from bit 0: first bit, width, access code, reset value, bit address of the governing lock in the first copy (0: none). -/
def regTable11_1 : List RegRow := [
  ⟨0x1C0030, 0x4, 1, [⟨0, 16, .rc, 0, 0⟩, ⟨16, 4, .ro, 0, 0⟩, ⟨20, 12, .rsvd, 0, 0⟩]⟩,
  ⟨0x1C0034, 0x4, 1, [⟨0, 1, .w1c, 0, 0⟩, ⟨1, 1, .w1c, 0, 0⟩, ⟨2, 1, .w1c, 0, 0⟩, ⟨3, 1, .w1c, 0, 0⟩, ⟨4, 1, .w1c, 0, 0⟩, ⟨5, 1, .w1c, 0, 0⟩, ⟨6, 1, .w1c, 0, 0⟩, ⟨7, 1, .w1c, 0, 0⟩, ⟨8, 24, .rsvd, 0, 0⟩]⟩
]
/-- Register rows of spec chapter 12. A row: first offset, stride and count of its copies, then its fields from bit 0: first bit, width, access code, reset value, bit address of the governing lock in the first copy (0: none). -/
def regTable12_0 : List RegRow := [
  ⟨0x200000, 0x4, 1, [⟨0, 7, .rwb, 5, 0⟩, ⟨7, 1, .rsvd, 0, 0⟩, ⟨8, 7, .rwb, 20, 0⟩, ⟨15, 1, .rwb, 1, 0⟩, ⟨16, 7, .rwb, 5, 0⟩, ⟨23, 1, .rsvd, 0, 0⟩, ⟨24, 7, .rwb, 25, 0⟩, ⟨31, 1, .rsvd, 0, 0⟩]⟩,
  ⟨0x200004, 0x4, 1, [⟨0, 16, .rwb, 7500, 0⟩, ⟨16, 16, .rsvd, 0, 0⟩]⟩,
  ⟨0x200008, 0x4, 1, [⟨0, 16, .rwb, 1000, 0⟩, ⟨16, 16, .rwb, 64, 0⟩]⟩,
  ⟨0x20000C, 0x4, 1, [⟨0, 13, .ro, 0, 0⟩, ⟨13, 13, .ro, 0, 0⟩, ⟨26, 1, .ro, 0, 0⟩, ⟨27, 1, .ro, 0, 0⟩, ⟨28, 1, .ro, 0, 0⟩, ⟨29, 3, .ro, 0, 0⟩]⟩,
  ⟨0x200010, 0x4, 1, [⟨0, 32, .rlt, 0, 0⟩]⟩,
  ⟨0x200014, 0x4, 1, [⟨0, 32, .ro, 0, 0⟩]⟩,
  ⟨0x200018, 0x4, 1, [⟨0, 8, .ro, 0, 0⟩, ⟨8, 8, .ro, 0, 0⟩, ⟨16, 1, .ro, 0, 0⟩, ⟨17, 1, .ro, 0, 0⟩, ⟨18, 1, .ro, 0, 0⟩, ⟨19, 13, .rsvd, 0, 0⟩]⟩,
  ⟨0x20001C, 0x4, 1, [⟨0, 1, .w1c, 0, 0⟩, ⟨1, 1, .w1c, 0, 0⟩, ⟨2, 1, .w1c, 0, 0⟩, ⟨3, 1, .w1c, 0, 0⟩, ⟨4, 1, .w1c, 0, 0⟩, ⟨5, 1, .w1c, 0, 0⟩, ⟨6, 1, .w1c, 0, 0⟩, ⟨7, 25, .rsvd, 0, 0⟩]⟩,
  ⟨0x201000, 0x100, 8, [⟨0, 4, .ro, 0, 0⟩, ⟨4, 5, .ro, 0, 0⟩, ⟨9, 5, .ro, 0, 0⟩, ⟨14, 3, .ro, 0, 0⟩, ⟨17, 5, .ro, 0, 0⟩, ⟨22, 10, .rsvd, 0, 0⟩]⟩,
  ⟨0x201004, 0x100, 8, [⟨0, 1, .w1s, 0, 0⟩, ⟨1, 31, .rsvd, 0, 0⟩]⟩,
  ⟨0x201008, 0x100, 8, [⟨0, 22, .ro, 0, 0⟩, ⟨22, 10, .rsvd, 0, 0⟩]⟩,
  ⟨0x20100C, 0x100, 8, [⟨0, 22, .ro, 0, 0⟩, ⟨22, 10, .rsvd, 0, 0⟩]⟩
]
/-- Register rows of spec chapter 12. A row: first offset, stride and count of its copies, then its fields from bit 0: first bit, width, access code, reset value, bit address of the governing lock in the first copy (0: none). -/
def regTable12_1 : List RegRow := [
  ⟨0x201010, 0x100, 8, [⟨0, 5, .ro, 0x1F, 0⟩, ⟨5, 5, .ro, 0x1F, 0⟩, ⟨10, 10, .ro, 0, 0⟩, ⟨20, 1, .ro, 0, 0⟩, ⟨21, 11, .rsvd, 0, 0⟩]⟩,
  ⟨0x201018, 0x100, 8, [⟨0, 32, .rlt, 0, 0⟩]⟩,
  ⟨0x20101C, 0x100, 8, [⟨0, 32, .ro, 0, 0⟩]⟩,
  ⟨0x201020, 0x100, 8, [⟨0, 16, .rc, 0, 0⟩, ⟨16, 8, .rc, 0, 0⟩, ⟨24, 8, .rc, 0, 0⟩]⟩,
  ⟨0x202000, 0x40, 24, [⟨0, 3, .ro, 0, 0⟩, ⟨3, 3, .ro, 0, 0⟩, ⟨6, 5, .ro, 0, 0⟩, ⟨11, 2, .ro, 0, 0⟩, ⟨13, 1, .ro, 0, 0⟩, ⟨14, 1, .ro, 0, 0⟩, ⟨15, 1, .ro, 0, 0⟩, ⟨16, 1, .ro, 0, 0⟩, ⟨17, 3, .ro, 0, 0⟩, ⟨20, 12, .rsvd, 0, 0⟩]⟩,
  ⟨0x202004, 0x40, 24, [⟨0, 1, .w1s, 0, 0⟩, ⟨1, 31, .rsvd, 0, 0⟩]⟩,
  ⟨0x202008, 0x40, 24, [⟨0, 8, .rc, 0, 0⟩, ⟨8, 8, .rc, 0, 0⟩, ⟨16, 8, .rc, 0, 0⟩, ⟨24, 4, .ro, 0, 0⟩, ⟨28, 4, .rsvd, 0, 0⟩]⟩,
  ⟨0x202010, 0x40, 24, [⟨0, 32, .rlt, 0, 0⟩]⟩,
  ⟨0x202014, 0x40, 24, [⟨0, 32, .ro, 0, 0⟩]⟩
]
/-- Register rows of spec chapter 13. A row: first offset, stride and count of its copies, then its fields from bit 0: first bit, width, access code, reset value, bit address of the governing lock in the first copy (0: none). -/
def regTable13_0 : List RegRow := [
  ⟨0x240000, 0x4, 1, [⟨0, 7, .rwb, 10, 0⟩, ⟨7, 1, .rwb, 1, 0⟩, ⟨8, 8, .rwb, 8, 0⟩, ⟨16, 1, .rwl, 0, 0x240000 * 8 + 31⟩, ⟨17, 14, .rsvd, 0, 0⟩, ⟨31, 1, .w1s, 0, 0⟩]⟩,
  ⟨0x240004, 0x4, 1, [⟨0, 1, .ro, 0, 0⟩, ⟨1, 1, .ro, 0, 0⟩, ⟨2, 1, .ro, 0, 0⟩, ⟨3, 16, .ro, 0, 0⟩, ⟨19, 13, .ro, 0, 0⟩]⟩,
  ⟨0x240008, 0x4, 1, [⟨0, 23, .ro, 0, 0⟩, ⟨23, 9, .rsvd, 0, 0⟩]⟩,
  ⟨0x24000C, 0x4, 1, [⟨0, 23, .ro, 0, 0⟩, ⟨23, 9, .rsvd, 0, 0⟩]⟩,
  ⟨0x240010, 0x4, 1, [⟨0, 16, .ro, 0, 0⟩, ⟨16, 16, .ro, 0, 0⟩]⟩,
  ⟨0x240014, 0x4, 1, [⟨0, 21, .ro, 0, 0⟩, ⟨21, 11, .ro, 0, 0⟩]⟩,
  ⟨0x240018, 0x4, 1, [⟨0, 16, .ro, 0, 0⟩, ⟨16, 16, .rc, 0, 0⟩]⟩,
  ⟨0x240020, 0x4, 1, [⟨0, 32, .rlt, 0, 0⟩]⟩,
  ⟨0x240024, 0x4, 1, [⟨0, 32, .ro, 0, 0⟩]⟩,
  ⟨0x240028, 0x4, 1, [⟨0, 32, .rlt, 0, 0⟩]⟩,
  ⟨0x24002C, 0x4, 1, [⟨0, 32, .ro, 0, 0⟩]⟩,
  ⟨0x240030, 0x4, 1, [⟨0, 8, .rc, 0, 0⟩, ⟨8, 8, .rc, 0, 0⟩, ⟨16, 8, .rc, 0, 0⟩, ⟨24, 8, .rc, 0, 0⟩]⟩
]
/-- Register rows of spec chapter 13. A row: first offset, stride and count of its copies, then its fields from bit 0: first bit, width, access code, reset value, bit address of the governing lock in the first copy (0: none). -/
def regTable13_1 : List RegRow := [
  ⟨0x240038, 0x4, 1, [⟨0, 32, .rlt, 0, 0⟩]⟩,
  ⟨0x24003C, 0x4, 1, [⟨0, 32, .ro, 0, 0⟩]⟩,
  ⟨0x240040, 0x4, 1, [⟨0, 1, .w1c, 0, 0⟩, ⟨1, 1, .w1c, 0, 0⟩, ⟨2, 1, .w1c, 0, 0⟩, ⟨3, 1, .w1c, 0, 0⟩, ⟨4, 1, .w1c, 0, 0⟩, ⟨5, 1, .w1c, 0, 0⟩, ⟨6, 26, .rsvd, 0, 0⟩]⟩,
  ⟨0x248000, 0x10, 64, [⟨0, 23, .ro, 0, 0⟩, ⟨23, 8, .rsvd, 0, 0⟩, ⟨31, 1, .ro, 0, 0⟩]⟩,
  ⟨0x250000, 0x20, 1024, [⟨0, 2, .ro, 0, 0⟩, ⟨2, 6, .ro, 0, 0⟩, ⟨8, 7, .ro, 0, 0⟩, ⟨15, 1, .ro, 0, 0⟩, ⟨16, 16, .ro, 0, 0⟩]⟩,
  ⟨0x250004, 0x20, 1024, [⟨0, 16, .ro, 0, 0⟩, ⟨16, 16, .ro, 0, 0⟩]⟩
]
/-- Register rows of spec chapter 14. A row: first offset, stride and count of its copies, then its fields from bit 0: first bit, width, access code, reset value, bit address of the governing lock in the first copy (0: none). -/
def regTable14_0 : List RegRow := [
  ⟨0x280000, 0x4, 1, [⟨0, 7, .rwb, 16, 0⟩, ⟨7, 1, .rsvd, 0, 0⟩, ⟨8, 14, .rwb, 500, 0⟩, ⟨22, 10, .rwb, 100, 0⟩]⟩,
  ⟨0x280004, 0x4, 1, [⟨0, 16, .rwb, 1000, 0⟩, ⟨16, 8, .rwb, 64, 0⟩, ⟨24, 8, .rsvd, 0, 0⟩]⟩,
  ⟨0x280008, 0x4, 1, [⟨0, 14, .rwb, 12288, 0⟩, ⟨14, 18, .rsvd, 0, 0⟩]⟩,
  ⟨0x28000C, 0x4, 1, [⟨0, 13, .ro, 0, 0⟩, ⟨13, 3, .rsvd, 0, 0⟩, ⟨16, 16, .ro, 0, 0⟩]⟩,
  ⟨0x280010, 0x4, 1, [⟨0, 14, .ro, 0, 0⟩, ⟨14, 2, .rsvd, 0, 0⟩, ⟨16, 14, .ro, 0, 0⟩, ⟨30, 2, .rsvd, 0, 0⟩]⟩,
  ⟨0x280014, 0x4, 1, [⟨0, 16, .ro, 0, 0⟩, ⟨16, 16, .rc, 0, 0⟩]⟩,
  ⟨0x280018, 0x4, 1, [⟨0, 16, .rc, 0, 0⟩, ⟨16, 16, .rc, 0, 0⟩]⟩,
  ⟨0x28001C, 0x4, 1, [⟨0, 19, .ro, 0, 0⟩, ⟨19, 10, .ro, 0, 0⟩, ⟨29, 3, .rsvd, 0, 0⟩]⟩,
  ⟨0x280020, 0x4, 1, [⟨0, 16, .rc, 0, 0⟩, ⟨16, 16, .rc, 0, 0⟩]⟩,
  ⟨0x280024, 0x4, 1, [⟨0, 16, .rc, 0, 0⟩, ⟨16, 3, .ro, 0, 0⟩, ⟨19, 1, .rsvd, 0, 0⟩, ⟨20, 12, .ro, 0, 0⟩]⟩,
  ⟨0x280028, 0x4, 1, [⟨0, 1, .w1c, 0, 0⟩, ⟨1, 1, .w1c, 0, 0⟩, ⟨2, 1, .w1c, 0, 0⟩, ⟨3, 1, .w1c, 0, 0⟩, ⟨4, 1, .w1c, 0, 0⟩, ⟨5, 1, .w1c, 0, 0⟩, ⟨6, 26, .rsvd, 0, 0⟩]⟩,
  ⟨0x281000, 0x100, 4, [⟨0, 1, .ro, 0, 0⟩, ⟨1, 1, .ro, 0, 0⟩, ⟨2, 1, .ro, 0, 0⟩, ⟨3, 13, .rsvd, 0, 0⟩, ⟨16, 16, .ro, 0, 0⟩]⟩
]
/-- Register rows of spec chapter 14. A row: first offset, stride and count of its copies, then its fields from bit 0: first bit, width, access code, reset value, bit address of the governing lock in the first copy (0: none). -/
def regTable14_1 : List RegRow := [
  ⟨0x281004, 0x100, 4, [⟨0, 32, .rlt, 0, 0⟩]⟩,
  ⟨0x281008, 0x100, 4, [⟨0, 32, .ro, 0, 0⟩]⟩,
  ⟨0x28100C, 0x100, 4, [⟨0, 32, .rlt, 0, 0⟩]⟩,
  ⟨0x281010, 0x100, 4, [⟨0, 32, .ro, 0, 0⟩]⟩,
  ⟨0x281014, 0x100, 4, [⟨0, 16, .rc, 0, 0⟩, ⟨16, 8, .rc, 0, 0⟩, ⟨24, 8, .rc, 0, 0⟩]⟩
]
/-- Register rows of spec chapter 15. A row: first offset, stride and count of its copies, then its fields from bit 0: first bit, width, access code, reset value, bit address of the governing lock in the first copy (0: none). -/
def regTable15_0 : List RegRow := [
  ⟨0x2C0000, 0x4, 1, [⟨0, 4, .rwb, 4, 0⟩, ⟨4, 4, .rwb, 4, 0⟩, ⟨8, 4, .rwb, 4, 0⟩, ⟨12, 4, .rwb, 4, 0⟩, ⟨16, 16, .rsvd, 0, 0⟩]⟩,
  ⟨0x2C0004, 0x4, 1, [⟨0, 16, .ro, 0, 0⟩, ⟨16, 1, .ro, 0, 0⟩, ⟨17, 1, .ro, 0, 0⟩, ⟨18, 14, .rsvd, 0, 0⟩]⟩,
  ⟨0x2C0008, 0x4, 1, [⟨0, 16, .rwl, 0, 0x2C0008 * 8 + 31⟩, ⟨16, 15, .rsvd, 0, 0⟩, ⟨31, 1, .w1s, 0, 0⟩]⟩,
  ⟨0x2C000C, 0x4, 1, [⟨0, 8, .ro, 0, 0⟩, ⟨8, 8, .ro, 0, 0⟩, ⟨16, 8, .ro, 0, 0⟩, ⟨24, 8, .ro, 0, 0⟩]⟩,
  ⟨0x2C0010, 0x4, 1, [⟨0, 14, .ro, 0, 0⟩, ⟨14, 2, .rsvd, 0, 0⟩, ⟨16, 9, .ro, 0, 0⟩, ⟨25, 7, .rsvd, 0, 0⟩]⟩,
  ⟨0x2C0014, 0x4, 1, [⟨0, 13, .rw, 0, 0⟩, ⟨13, 19, .rsvd, 0, 0⟩]⟩,
  ⟨0x2C0018, 0x4, 1, [⟨0, 2, .ro, 0, 0⟩, ⟨2, 2, .ro, 0, 0⟩, ⟨4, 1, .ro, 0, 0⟩, ⟨5, 8, .ro, 0, 0⟩, ⟨13, 19, .ro, 0, 0⟩]⟩,
  ⟨0x2C0100, 0x8, 4, [⟨0, 32, .rlt, 0, 0⟩]⟩,
  ⟨0x2C0104, 0x8, 4, [⟨0, 32, .ro, 0, 0⟩]⟩,
  ⟨0x2C001C, 0x4, 1, [⟨0, 8, .rc, 0, 0⟩, ⟨8, 8, .rc, 0, 0⟩, ⟨16, 8, .rc, 0, 0⟩, ⟨24, 8, .rc, 0, 0⟩]⟩,
  ⟨0x2C0020, 0x4, 1, [⟨0, 1, .w1c, 0, 0⟩, ⟨1, 1, .w1c, 0, 0⟩, ⟨2, 1, .w1c, 0, 0⟩, ⟨3, 1, .w1c, 0, 0⟩, ⟨4, 1, .w1c, 0, 0⟩, ⟨5, 27, .rsvd, 0, 0⟩]⟩
]
/-- Register rows of spec chapter 16. A row: first offset, stride and count of its copies, then its fields from bit 0: first bit, width, access code, reset value, bit address of the governing lock in the first copy (0: none). -/
def regTable16_0 : List RegRow := [
  ⟨0x3C0000, 0x4, 1, [⟨0, 10, .rwb, 8, 0⟩, ⟨10, 10, .rwb, 20, 0⟩, ⟨20, 12, .rsvd, 0, 0⟩]⟩,
  ⟨0x3C0004, 0x4, 1, [⟨0, 14, .rwb, 100, 0⟩, ⟨14, 2, .rsvd, 0, 0⟩, ⟨16, 16, .rwl, 1000, 0x3C0008 * 8 + 31⟩]⟩,
  ⟨0x3C0008, 0x4, 1, [⟨0, 16, .rwl, 2000, 0x3C0008 * 8 + 31⟩, ⟨16, 1, .rwl, 1, 0x3C0008 * 8 + 31⟩, ⟨17, 1, .ro, 0, 0⟩, ⟨18, 1, .ro, 0, 0⟩, ⟨19, 12, .rsvd, 0, 0⟩, ⟨31, 1, .w1s, 0, 0⟩]⟩,
  ⟨0x3C000C, 0x4, 1, [⟨0, 8, .rwb, 10, 0⟩, ⟨8, 8, .rwb, 60, 0⟩, ⟨16, 8, .rwb, 5, 0⟩, ⟨24, 1, .rwb, 1, 0⟩, ⟨25, 7, .rsvd, 0, 0⟩]⟩,
  ⟨0x3C0010, 0x4, 1, [⟨0, 3, .ro, 0, 0⟩, ⟨3, 3, .ro, 0, 0⟩, ⟨6, 1, .ro, 0, 0⟩, ⟨7, 3, .ro, 0, 0⟩, ⟨10, 1, .ro, 0, 0⟩, ⟨11, 21, .rsvd, 0, 0⟩]⟩,
  ⟨0x3C0014, 0x4, 1, [⟨0, 16, .ro, 0, 0⟩, ⟨16, 3, .ro, 0, 0⟩, ⟨19, 1, .ro, 0, 0⟩, ⟨20, 8, .ro, 0, 0⟩, ⟨28, 4, .rsvd, 0, 0⟩]⟩,
  ⟨0x3C0018, 0x4, 1, [⟨0, 8, .rc, 0, 0⟩, ⟨8, 8, .rc, 0, 0⟩, ⟨16, 8, .rc, 0, 0⟩, ⟨24, 4, .rc, 0, 0⟩, ⟨28, 4, .rc, 0, 0⟩]⟩,
  ⟨0x3C001C, 0x4, 1, [⟨0, 7, .ro, 0, 0⟩, ⟨7, 5, .ro, 0, 0⟩, ⟨12, 12, .ro, 0, 0⟩, ⟨24, 6, .ro, 0, 0⟩, ⟨30, 1, .ro, 0, 0⟩, ⟨31, 1, .ro, 0, 0⟩]⟩,
  ⟨0x3C0020, 0x4, 1, [⟨0, 8, .rc, 0, 0⟩, ⟨8, 8, .rc, 0, 0⟩, ⟨16, 1, .ro, 0, 0⟩, ⟨17, 8, .ro, 0, 0⟩, ⟨25, 7, .rsvd, 0, 0⟩]⟩,
  ⟨0x3C0024, 0x4, 1, [⟨0, 8, .ro, 0, 0⟩, ⟨8, 8, .rc, 0, 0⟩, ⟨16, 2, .ro, 0, 0⟩, ⟨18, 14, .rsvd, 0, 0⟩]⟩,
  ⟨0x3C0028, 0x4, 1, [⟨0, 1, .w1c, 0, 0⟩, ⟨1, 1, .w1c, 0, 0⟩, ⟨2, 1, .w1c, 0, 0⟩, ⟨3, 1, .w1c, 0, 0⟩, ⟨4, 1, .w1c, 0, 0⟩, ⟨5, 1, .w1c, 0, 0⟩, ⟨6, 1, .w1c, 0, 0⟩, ⟨7, 25, .rsvd, 0, 0⟩]⟩
]
/-- Register rows of spec chapter 17. A row: first offset, stride and count of its copies, then its fields from bit 0: first bit, width, access code, reset value, bit address of the governing lock in the first copy (0: none). -/
def regTable17_0 : List RegRow := [
  ⟨0x300000, 0x4, 1, [⟨0, 3, .ro, 0, 0⟩, ⟨3, 2, .ro, 0, 0⟩, ⟨5, 2, .ro, 0, 0⟩, ⟨7, 25, .rsvd, 0, 0⟩]⟩,
  ⟨0x300004, 0x4, 1, [⟨0, 1, .ro, 0, 0⟩, ⟨1, 1, .ro, 0, 0⟩, ⟨2, 1, .ro, 0, 0⟩, ⟨3, 1, .ro, 0, 0⟩, ⟨4, 1, .ro, 0, 0⟩, ⟨5, 27, .rsvd, 0, 0⟩]⟩,
  ⟨0x300008, 0x4, 1, [⟨0, 32, .ro, 0, 0⟩]⟩,
  ⟨0x30000C, 0x4, 1, [⟨0, 32, .ro, 0, 0⟩]⟩,
  ⟨0x300010, 0x4, 1, [⟨0, 32, .w1c, 0, 0⟩]⟩,
  ⟨0x300014, 0x4, 1, [⟨0, 2, .ro, 0, 0⟩, ⟨2, 2, .ro, 0, 0⟩, ⟨4, 2, .ro, 0, 0⟩, ⟨6, 2, .ro, 0, 0⟩, ⟨8, 2, .ro, 0, 0⟩, ⟨10, 2, .ro, 0, 0⟩, ⟨12, 2, .ro, 0, 0⟩, ⟨14, 2, .ro, 0, 0⟩, ⟨16, 16, .rsvd, 0, 0⟩]⟩,
  ⟨0x300018, 0x4, 1, [⟨0, 12, .ro, 0, 0⟩, ⟨12, 4, .rsvd, 0, 0⟩, ⟨16, 8, .rc, 0, 0⟩, ⟨24, 8, .rsvd, 0, 0⟩]⟩,
  ⟨0x30001C, 0x4, 1, [⟨0, 16, .rc, 0, 0⟩, ⟨16, 8, .rc, 0, 0⟩, ⟨24, 8, .rc, 0, 0⟩]⟩,
  ⟨0x300020, 0x4, 1, [⟨0, 32, .ro, 0, 0⟩]⟩,
  ⟨0x300024, 0x4, 1, [⟨0, 32, .ro, 0, 0⟩]⟩,
  ⟨0x300028, 0x4, 1, [⟨0, 32, .ro, 0, 0⟩]⟩,
  ⟨0x30002C, 0x4, 1, [⟨0, 1, .w1c, 0, 0⟩, ⟨1, 1, .w1c, 0, 0⟩, ⟨2, 1, .w1c, 0, 0⟩, ⟨3, 1, .w1c, 0, 0⟩, ⟨4, 1, .w1c, 0, 0⟩, ⟨5, 1, .w1c, 0, 0⟩, ⟨6, 1, .w1c, 0, 0⟩, ⟨7, 1, .w1c, 0, 0⟩, ⟨8, 24, .rsvd, 0, 0⟩]⟩
]
/-- Register rows of spec chapter 17. A row: first offset, stride and count of its copies, then its fields from bit 0: first bit, width, access code, reset value, bit address of the governing lock in the first copy (0: none). -/
def regTable17_1 : List RegRow := [
  ⟨0x301000, 0x10, 32, [⟨0, 1, .ro, 0, 0⟩, ⟨1, 3, .ro, 0, 0⟩, ⟨4, 3, .ro, 0, 0⟩, ⟨7, 2, .ro, 0, 0⟩, ⟨9, 1, .ro, 0, 0⟩, ⟨10, 1, .ro, 0, 0⟩, ⟨11, 1, .ro, 0, 0⟩, ⟨12, 4, .rsvd, 0, 0⟩, ⟨16, 6, .ro, 0, 0⟩, ⟨22, 10, .rsvd, 0, 0⟩]⟩,
  ⟨0x301004, 0x10, 32, [⟨0, 16, .ro, 0, 0⟩, ⟨16, 16, .ro, 0, 0⟩]⟩,
  ⟨0x301008, 0x10, 32, [⟨0, 8, .ro, 0, 0⟩, ⟨8, 24, .rsvd, 0, 0⟩]⟩,
  ⟨0x30100C, 0x10, 32, [⟨0, 3, .ro, 0, 0⟩, ⟨3, 2, .ro, 0, 0⟩, ⟨5, 3, .rsvd, 0, 0⟩, ⟨8, 8, .ro, 0, 0⟩, ⟨16, 8, .rc, 0, 0⟩, ⟨24, 8, .rsvd, 0, 0⟩]⟩
]
/-- Register rows of spec chapter 18. A row: first offset, stride and count of its copies, then its fields from bit 0: first bit, width, access code, reset value, bit address of the governing lock in the first copy (0: none). -/
def regTable18_0 : List RegRow := [
  ⟨0x30, 0x4, 1, [⟨0, 16, .ro, 0, 0⟩, ⟨16, 4, .ro, 0, 0⟩, ⟨20, 1, .ro, 0, 0⟩, ⟨21, 2, .ro, 0, 0⟩, ⟨23, 1, .ro, 0, 0⟩, ⟨24, 8, .rsvd, 0, 0⟩]⟩
]
/-- Register rows of spec chapter 19. A row: first offset, stride and count of its copies, then its fields from bit 0: first bit, width, access code, reset value, bit address of the governing lock in the first copy (0: none). -/
def regTable19_0 : List RegRow := [
  ⟨0x340000, 0x4, 1, [⟨0, 1, .rwl, 0, 0x340000 * 8 + 31⟩, ⟨1, 1, .rwl, 0, 0x340000 * 8 + 31⟩, ⟨2, 1, .rwl, 0, 0x340000 * 8 + 31⟩, ⟨3, 1, .rwl, 0, 0x340000 * 8 + 31⟩, ⟨4, 1, .rwl, 0, 0x340000 * 8 + 31⟩, ⟨5, 26, .rsvd, 0, 0⟩, ⟨31, 1, .w1s, 0, 0⟩]⟩,
  ⟨0x340004, 0x4, 1, [⟨0, 12, .ro, 0, 0⟩, ⟨12, 1, .ro, 0, 0⟩, ⟨13, 13, .ro, 0, 0⟩, ⟨26, 6, .rsvd, 0, 0⟩]⟩,
  ⟨0x340008, 0x4, 1, [⟨0, 12, .ro, 0, 0⟩, ⟨12, 1, .ro, 0, 0⟩, ⟨13, 19, .rsvd, 0, 0⟩]⟩,
  ⟨0x34000C, 0x4, 1, [⟨0, 17, .ro, 0, 0⟩, ⟨17, 12, .ro, 0, 0⟩, ⟨29, 3, .rsvd, 0, 0⟩]⟩,
  ⟨0x340010, 0x4, 1, [⟨0, 16, .rc, 0, 0⟩, ⟨16, 8, .rc, 0, 0⟩, ⟨24, 8, .rc, 0, 0⟩]⟩,
  ⟨0x340014, 0x4, 1, [⟨0, 1, .w1c, 0, 0⟩, ⟨1, 1, .w1c, 0, 0⟩, ⟨2, 1, .w1c, 0, 0⟩, ⟨3, 1, .w1c, 0, 0⟩, ⟨4, 28, .rsvd, 0, 0⟩]⟩,
  ⟨0x341000, 0x400, 4, [⟨0, 1, .rc, 1, 0⟩, ⟨1, 4, .ro, 0xF, 0⟩, ⟨5, 1, .w1s, 0, 0⟩, ⟨6, 26, .rsvd, 0, 0⟩]⟩,
  ⟨0x341004, 0x400, 4, [⟨0, 3, .rw, 0, 0⟩, ⟨3, 1, .w1s, 0, 0⟩, ⟨4, 1, .w1s, 0, 0⟩, ⟨5, 1, .ro, 0, 0⟩, ⟨6, 2, .rsvd, 0, 0⟩, ⟨8, 8, .ro, 0x00, 0⟩, ⟨16, 8, .ro, 0x00, 0⟩, ⟨24, 8, .rsvd, 0, 0⟩]⟩,
  ⟨0x341008, 0x400, 4, [⟨0, 26, .rw, 0, 0⟩, ⟨26, 6, .rsvd, 0, 0⟩]⟩,
  ⟨0x34100C, 0x400, 4, [⟨0, 9, .rw, 0, 0⟩, ⟨9, 23, .rsvd, 0, 0⟩]⟩,
  ⟨0x341010, 0x400, 4, [⟨0, 3, .ro, 0, 0⟩, ⟨3, 10, .ro, 0, 0⟩, ⟨13, 1, .ro, 0, 0⟩, ⟨14, 10, .ro, 0, 0⟩, ⟨24, 8, .rsvd, 0, 0⟩]⟩
]
/-- Register rows of spec chapter 20. A row: first offset, stride and count of its copies, then its fields from bit 0: first bit, width, access code, reset value, bit address of the governing lock in the first copy (0: none). -/
def regTable20_0 : List RegRow := [
  ⟨0x34, 0x4, 1, [⟨0, 16, .ro, 0, 0⟩, ⟨16, 2, .ro, 0, 0⟩, ⟨18, 1, .ro, 0, 0⟩, ⟨19, 1, .ro, 0, 0⟩, ⟨20, 12, .rsvd, 0, 0⟩]⟩
]
/-- Register rows of spec chapter 21. A row: first offset, stride and count of its copies, then its fields from bit 0: first bit, width, access code, reset value, bit address of the governing lock in the first copy (0: none). -/
def regTable21_0 : List RegRow := [
  ⟨0x380000, 0x4, 1, [⟨0, 16, .rwb, 8, 0⟩, ⟨16, 16, .rwb, 32, 0⟩]⟩,
  ⟨0x380004, 0x4, 1, [⟨0, 32, .rlt, 0, 0⟩]⟩,
  ⟨0x380008, 0x4, 1, [⟨0, 16, .ro, 0, 0⟩, ⟨16, 16, .rsvd, 0, 0⟩]⟩,
  ⟨0x38000C, 0x4, 1, [⟨0, 32, .rlt, 0, 0⟩]⟩,
  ⟨0x380010, 0x4, 1, [⟨0, 16, .ro, 0, 0⟩, ⟨16, 16, .rsvd, 0, 0⟩]⟩,
  ⟨0x380014, 0x4, 1, [⟨0, 32, .rlt, 0, 0⟩]⟩,
  ⟨0x380018, 0x4, 1, [⟨0, 16, .ro, 0, 0⟩, ⟨16, 16, .rsvd, 0, 0⟩]⟩,
  ⟨0x38001C, 0x4, 1, [⟨0, 11, .ro, 0, 0⟩, ⟨11, 16, .ro, 0, 0⟩, ⟨27, 5, .rsvd, 0, 0⟩]⟩,
  ⟨0x380020, 0x4, 1, [⟨0, 9, .ro, 0, 0⟩, ⟨9, 5, .ro, 0, 0⟩, ⟨14, 6, .ro, 0, 0⟩, ⟨20, 1, .ro, 0, 0⟩, ⟨21, 8, .ro, 0, 0⟩, ⟨29, 3, .rsvd, 0, 0⟩]⟩,
  ⟨0x380024, 0x4, 1, [⟨0, 1, .ro, 0, 0⟩, ⟨1, 1, .ro, 0, 0⟩, ⟨2, 1, .ro, 0, 0⟩, ⟨3, 1, .ro, 0, 0⟩, ⟨4, 12, .rsvd, 0, 0⟩, ⟨16, 16, .ro, 0, 0⟩]⟩,
  ⟨0x380028, 0x4, 1, [⟨0, 32, .rc, 0, 0⟩]⟩,
  ⟨0x38002C, 0x4, 1, [⟨0, 1, .w1c, 0, 0⟩, ⟨1, 1, .w1c, 0, 0⟩, ⟨2, 1, .w1c, 0, 0⟩, ⟨3, 1, .w1c, 0, 0⟩, ⟨4, 1, .w1c, 0, 0⟩, ⟨5, 27, .rsvd, 0, 0⟩]⟩
]
/-- The whole register table of the CSR window (R61), in the order of the chapters. -/
def regTable : List RegRow :=
  regTable02_0 ++ regTable03_0 ++ regTable03_1 ++ regTable05_0 ++ regTable05_1 ++ regTable06_0 ++ regTable06_1 ++ regTable07_0 ++ regTable07_1 ++ regTable08_0 ++ regTable08_1 ++ regTable09_0 ++ regTable09_1 ++ regTable10_0 ++ regTable10_1 ++ regTable10_2 ++ regTable11_0 ++ regTable11_1 ++ regTable12_0 ++ regTable12_1 ++ regTable13_0 ++ regTable13_1 ++ regTable14_0 ++ regTable14_1 ++ regTable15_0 ++ regTable16_0 ++ regTable17_0 ++ regTable17_1 ++ regTable18_0 ++ regTable19_0 ++ regTable20_0 ++ regTable21_0

end Sys2Proof.Machine
end

