-- ==== Sys2Proof/Machine/Ops.lean ====
section
/-!
DEFINITION. The named operations that the meanings share: sparse maps, register fields, little-endian values, memory,
outputs, free values, records (R567 to R572) and the conduct of partners (R497).
-/
namespace Sys2Proof.Machine

/-! ### Sparse maps: sorted lists of key and value -/

/-- The value at a key, or `d` where the map has none. -/
def amGet {α : Type} (m : List (Nat × α)) (k : Nat) (d : α) : α :=
  match m with
  | [] => d
  | (a, v) :: r => if a = k then v else amGet r k d

/-- The value at a key, if the map has one. -/
def amFind {α : Type} (m : List (Nat × α)) (k : Nat) : Option α :=
  match m with
  | [] => none
  | (a, v) :: r => if a = k then some v else amFind r k

/-- The map with no entry at a key. -/
def amErase {α : Type} (m : List (Nat × α)) (k : Nat) : List (Nat × α) :=
  m.filter (fun e => e.1 ≠ k)

/-- Put an entry at its place in a list sorted by key that has no entry at the key. -/
def amInsert {α : Type} (m : List (Nat × α)) (k : Nat) (v : α) : List (Nat × α) :=
  match m with
  | [] => [(k, v)]
  | (a, w) :: r => if k < a then (k, v) :: (a, w) :: r else (a, w) :: amInsert r k v

/-- The map with a value at a key. -/
def amSet {α : Type} (m : List (Nat × α)) (k : Nat) (v : α) : List (Nat × α) :=
  amInsert (amErase m k) k v

/-- The map with a number at a key, the entry left out where the number is the default. -/
def nmSet (m : List (Nat × Nat)) (k v d : Nat) : List (Nat × Nat) :=
  if v = d then amErase m k else amInsert (amErase m k) k v

/-! ### Memory: bytes by address, in canonical form -/

/-- Addresses strictly rising. -/
def risingFrom (lo : Nat) (m : List Host.Cell) : Bool :=
  match m with
  | [] => true
  | (a, _) :: r => decide (lo ≤ a) && risingFrom (a + 1) r

/-- The canonical form of a memory whose unlisted bytes read as `d`: addresses strictly rising, and no entry equal to
`d`. -/
def Memory.wf (d : Byte) (m : List Host.Cell) : Bool :=
  risingFrom 0 m && m.all (fun c => c.2 ≠ d)

/-- The byte at an address. -/
def memRead (d : Byte) (m : List Host.Cell) (a : Nat) : Byte :=
  match m with
  | [] => d
  | (b, v) :: r => if b = a then v else memRead d r a

/-- Write one byte, keeping the canonical form. -/
def memWrite (d : Byte) (m : List Host.Cell) (a : Nat) (v : Byte) : List Host.Cell :=
  match m with
  | [] => if v = d then [] else [(a, v)]
  | (b, w) :: r =>
    if b < a then (b, w) :: memWrite d r a v
    else if b = a then (if v = d then r else (a, v) :: r)
    else if v = d then (b, w) :: r else (a, v) :: (b, w) :: r

/-- Write a string of bytes from an address upward. -/
def memWriteBytes (d : Byte) (m : List Host.Cell) (a : Nat) (bs : Bytes) : List Host.Cell :=
  match bs with
  | [] => m
  | b :: r => memWriteBytes d (memWrite d m a b) (a + 1) r

/-- Write the valid bytes of a partial line from an address upward. -/
def memMerge (d : Byte) (m : List Host.Cell) (a : Nat) (l : PLine) : List Host.Cell :=
  match l with
  | [] => m
  | some b :: r => memMerge d (memWrite d m a b) (a + 1) r
  | none :: r => memMerge d m (a + 1) r

/-- The `n` bytes from an address upward. -/
def memReadBytes (d : Byte) (m : List Host.Cell) (a : Nat) : Nat → Bytes
  | 0 => []
  | n + 1 => memRead d m a :: memReadBytes d m (a + 1) n

/-! ### Little-endian values (R90) -/

/-- The `n` low bytes of a number, least significant first. -/
def le (n v : Nat) : Bytes :=
  match n with
  | 0 => []
  | n + 1 => BitVec.ofNat 8 v :: le n (v / 256)

/-- The number a little-endian byte string spells. -/
def leNat (bs : Bytes) : Nat :=
  match bs with
  | [] => 0
  | b :: r => b.toNat + 256 * leNat r

/-- Bit `n` of a number. -/
def bit (v n : Nat) : Bool := v / 2 ^ n % 2 = 1

/-- A Bool as 0 or 1. -/
def b2n (b : Bool) : Nat := if b then 1 else 0

/-- The number with bit `n` set to `b`. -/
def setBit (v n : Nat) (b : Bool) : Nat :=
  if bit v n = b then v else if b then v + 2 ^ n else v - 2 ^ n

/-- The smaller of two numbers, written as saturation. -/
def satTo (m v : Nat) : Nat := if m < v then m else v

/-! ### Partial lines (R162, R328) -/

/-- A line with no valid byte. -/
def plineEmpty : PLine := List.replicate 64 none

/-- The bytes of the first line where valid, else those of the second. -/
def plineOver (new old : PLine) : PLine :=
  match new, old with
  | n :: ns, o :: os => (n <|> o) :: plineOver ns os
  | ns, [] => ns
  | [], os => os

/-- Every byte valid. -/
def plineFull (l : PLine) : Bool := l.all Option.isSome

/-- The number of valid bytes. -/
def plineCount (l : PLine) : Nat := (l.filter Option.isSome).length

/-- A full line of given bytes. -/
def plineOf (bs : Bytes) : PLine := bs.map some

/-- The bytes of a line, 0 where not valid. -/
def plineBytes (l : PLine) : Bytes := l.map (fun b => b.getD 0)

/-- A line of data with the byte mask of a write: byte k is valid where bit k of the mask is set. -/
def plineMasked (mask : Nat) (bs : Bytes) : PLine :=
  bs.mapIdx (fun k b => if bit mask k then some b else none)

/-! ### Time (R7, R37): units of 1/1,024 SYSCLK_IN cycle, 40 ns a cycle -/

/-- One SYSCLK_IN cycle. -/
def cycles (n : Nat) : Nat := n * 1024

/-- Microseconds. -/
def usec (n : Nat) : Nat := n * 25600

/-- Milliseconds. -/
def msec (n : Nat) : Nat := n * 25600000

/-- Seconds. -/
def secs (n : Nat) : Nat := n * 25600000000

/-! ### Register fields -/

/-- The value of a register field (its reset value where the store lists none). -/
def rd (s : State) (f : Fld) : Nat := amGet s.csr f.addr f.reset

/-- A field as a flag. -/
def rdb (s : State) (f : Fld) : Bool := rd s f ≠ 0

/-- The state with a register field at a value, cut to the field's width. -/
def wr (s : State) (f : Fld) (v : Nat) : State :=
  { s with csr := nmSet s.csr f.addr (v % 2 ^ f.width) f.reset }

/-- A field set to 1. -/
def setF (s : State) (f : Fld) : State := wr s f 1

/-- A field increased, saturating at the greatest value of its width. -/
def bump (s : State) (f : Fld) (n : Nat) : State :=
  wr s f (satTo (2 ^ f.width - 1) (rd s f + n))

/-- A field raised to a value where it is below it, saturating. -/
def raiseTo (s : State) (f : Fld) (v : Nat) : State :=
  wr s f (max (rd s f) (satTo (2 ^ f.width - 1) v))

/-- The 64-bit value of a _LO/_HI pair. -/
def rd64 (s : State) (lo hi : Fld) : Nat := rd s lo + 2 ^ 32 * rd s hi

/-- The state with a 64-bit value in a _LO/_HI pair. -/
def wr64 (s : State) (lo hi : Fld) (v : Nat) : State :=
  wr (wr s lo v) hi (v / 2 ^ 32)

/-- A 64-bit counter increased. -/
def bump64 (s : State) (lo hi : Fld) (n : Nat) : State := wr64 s lo hi (rd64 s lo hi + n)

/-- A field of the STM block. -/
def stmRd (m : Stm) (f : Fld) : Nat := amGet m.regs f.addr f.reset

/-- The recorder with a field of the STM block at a value. -/
def stmWr (m : Stm) (f : Fld) (v : Nat) : Stm :=
  { m with regs := nmSet m.regs f.addr (v % 2 ^ f.width) f.reset }

/-- A dictionary entry's active value as a number; `d` where it holds its default. -/
def odNum (s : State) (key len d : Nat) : Nat := leNat (amGet s.dict.active key (le len d))

/-! ### Outputs and free values -/

/-- The state with one more thing sent. -/
def emit (s : State) (o : Output) : State := { s with out := s.out ++ [o] }

/-- The free value that comes next (Config.freeValue; nothing constrains it). -/
def freeNow (s : State) : BitVec 64 := Config.freeValue s.freeCtr

/-- The state with the next free value taken. -/
def freeTaken (s : State) : State := { s with freeCtr := s.freeCtr + 1 }

/-! ### Records (R567 to R572) -/

/-- Half-cycles per second (R59): 100 at 50 Hz and 120 at 60 Hz. -/
def halfPerSec (c : LineClock) : Nat := if c.freq60 then 120 else 100

/-- LENGTH of a record (R567): header and payload, padded to a multiple of 16. -/
def recLength (payload : Bytes) : Nat := 16 + (payload.length + 15) / 16 * 16

/-- The bytes a record occupies (R567): LENGTH and the 4-byte trailer. -/
def recSize (r : Rec) : Nat := recLength r.payload + 4

/-- Staging in use, in bytes. -/
def stagingUsed (m : Stm) : Nat := (m.staging.map recSize).sum

/-- The encoding of a suppressed count in SUPP (R571): the largest value that does not exceed the count. -/
def suppEncode (n : Nat) : Nat :=
  if n < 8 then n
  else if n < 16 then 8 + (n - 8)
  else if n < 32 then 16 + (n - 16) / 2
  else if n < 64 then 24 + (n - 32) / 4
  else if n < 128 then 32 + (n - 64) / 8
  else if n < 256 then 40 + (n - 128) / 16
  else if n < 512 then 48 + (n - 256) / 32
  else if n < 1024 then 56 + (n - 512) / 64
  else 63

/-- The bucket size in tokens (STM_RATE.BURST; 0 is taken as 1). -/
def stmBurst (m : Stm) : Nat := max 1 (stmRd m Reg.STM_RATE_BURST)

/-- The record bypasses its bucket (R570): S3 or above, or top nibble 0x0 or 0xF. -/
def stmBypass (code sev : Nat) : Bool :=
  decide (3 ≤ sev) || code / 0x1000 == 0 || code / 0x1000 == 0xF

/-- The units of 1/h token in a code's bucket (R59, R570): full where none is listed, never above full. -/
def stmUnits (m : Stm) (h code : Nat) : Nat :=
  satTo (stmBurst m * h) (amGet m.buckets code (stmBurst m * h))

/-- A record counted as suppressed (R570, R572). -/
def stmSuppress (m : Stm) (code : Nat) : Stm :=
  let m1 := { m with supp := nmSet m.supp code (amGet m.supp code 0 + 1) 0 }
  stmWr m1 Reg.STM_SUPPRESSED_COUNT (satTo 0xFFFFFFFF (stmRd m1 Reg.STM_SUPPRESSED_COUNT + 1))

/-- Submission of a record to the recorder at a line time (R569 to R572): admitted with the next SEQ, the timestamp and
its code's suppressed count, or suppressed. -/
def stmSubmit (m : Stm) (count phase h code sev : Nat) (payload : Bytes) : Stm :=
  if !stmBypass code sev && decide (stmUnits m h code < h) then stmSuppress m code
  else if 0x100000 < stagingUsed m + (recLength payload + 4) then
    { stmWr (stmSuppress m code) Reg.STM_EVENTS_OVERFLOW 1 with overflow := true }
  else
    { m with
      staging := m.staging ++ [⟨m.headSeq + 1, code, count, phase, sev, suppEncode (amGet m.supp code 0), payload⟩]
      headSeq := m.headSeq + 1
      supp := nmSet m.supp code 0 0
      buckets := if stmBypass code sev then m.buckets
        else nmSet m.buckets code (stmUnits m h code - h) (stmBurst m * h) }

/-- A record written (R568): the code at a severity, INSTANCE, and the items after it. -/
def recordAt (s : State) (code sev inst : Nat) (items : Bytes) : State :=
  { s with stm := stmSubmit s.stm s.lck.count s.lck.phase (halfPerSec s.lck) code sev (le 1 inst ++ items) }

/-- A record written at the severity of its event code table. -/
def record (s : State) (ev : Ev) (inst : Nat) (items : Bytes) : State := recordAt s ev.code ev.sev inst items

/-! ### Status codes (R499) -/

/-- The completion status byte (R499). -/
def statusCode (x : Status) : Nat :=
  match x with
  | .ok => 0x00
  | .okCorrected => 0x01
  | .busyRetry => 0x10
  | .aborted => 0x20
  | .abortTooLate => 0x21
  | .functionDisabled => 0x22
  | .timeout => 0x23
  | .length => 0x30
  | .alignment => 0x31
  | .badDescriptor => 0x32
  | .access => 0x40
  | .keyRevoked => 0x41
  | .quota => 0x42
  | .sealedRefused => 0x43
  | .mediaPoison => 0x50
  | .streamDeadline => 0x51
  | .partnerViolation => 0x60
  | .notReady => 0x70
  | .internal => 0x7F

/-! ### Alerts (R606) -/

/-- The state with ALERT_N asserted for a condition (named by the event code that raised it). -/
def alert (s : State) (cond : Nat) : State :=
  { s with fm := { s.fm with alerts := if cond ∈ s.fm.alerts then s.fm.alerts else s.fm.alerts ++ [cond] } }

/-- The state with an alert condition cleared. -/
def alertClear (s : State) (cond : Nat) : State :=
  { s with fm := { s.fm with alerts := s.fm.alerts.filter (· ≠ cond) } }

/-! ### Refused accesses (R62) -/

/-- A refused or empty access (R62): counted, and its master, cause and offset captured. -/
def csrRefuse (s : State) (m cause off : Nat) : State :=
  wr (wr (wr (bump s Reg.GLB_ACCESS_COUNT_COUNT 1) Reg.GLB_ACCESS_ERR_MASTER m) Reg.GLB_ACCESS_ERR_CAUSE cause)
    Reg.GLB_ACCESS_ADDR_OFFSET off

/-! ### Conduct of partners (R497) -/

/-- The conduct of a partner. -/
def conductOf (s : State) (p : Partner) : Conduct :=
  match s.partners.find? (fun e => e.1 = p) with
  | some e => e.2
  | none => {}

/-- The state with a partner's conduct replaced. -/
def conductSet (s : State) (p : Partner) (c : Conduct) : State :=
  { s with partners := (s.partners.filter (fun e => e.1 ≠ p)) ++ [(p, c)] }

/-- The partner is contained. -/
def contained (s : State) (p : Partner) : Bool := (conductOf s p).contained.isSome

/-- The violations counted in the sliding window of 10 s that ends now, this one included (R497). -/
def conductTimes (c : Conduct) (now : Nat) : List Nat :=
  now :: c.times.filter (fun t => now < t + secs 10)

/-- The violation takes the partner's count above its limit (R497). -/
def overLimit (s : State) (p : Partner) (limit : Nat) : Bool :=
  decide (limit < (conductTimes (conductOf s p) s.time).length)

/-- A violation counted against a partner (R497): above the limit the partner is contained for 60 s, from now, and its
count starts again from zero. -/
def countViolation (s : State) (p : Partner) (limit : Nat) : State :=
  if overLimit s p limit then
    setF (conductSet s p { times := [], contained := some (s.time + secs 60) }) Reg.ERR_EVENTS_CONTAINED
  else conductSet s p { conductOf s p with times := conductTimes (conductOf s p) s.time }

/-! ### SMBus reads (R498) -/

/-- A violation on an SMBus (R498): 1 a PEC mismatch, 2 a NACK, 3 clock stretching, 4 a value out of range: counted, recorded, and
above SMB_VIOL_LIMIT the node is contained. -/
def smbViolation (s : State) (p : Partner) (cause : Nat) : State :=
  let (base, n, cnt) := match p with
    | .smb1 k => (0x6000, k, Reg.ERR_SMB_SMB1_VIOL)
    | _ => (0x1000, 0, Reg.ERR_SMB_SMB0_VIOL)
  let lim := odNum s 0x800301 2 32
  let s1 := recordAt (bump s cnt 1) (base + 0xF30) 0 n (le 1 cause)
  let s2 := countViolation s1 p lim
  if overLimit s1 p lim then recordAt s2 (base + 0xF31) 1 n [] else s2

/-- One SMBus read of a node with its one retry (R498): a value at or below the greatest in range, or none. A contained node is not
addressed. -/
def smbRead (s : State) (p : Partner) (top : Nat) (first retry : SmbAnswer) : Option Nat × State :=
  let cause (x : SmbAnswer) : Option Nat := match x with
    | .value v => if top < v then some 4 else none
    | .pec => some 1
    | .nack => some 2
    | .stretch => some 3
  let got (x : SmbAnswer) : Option Nat := match x with | .value v => some v | _ => none
  if contained s p then (none, s)
  else match cause first with
    | none => (got first, s)
    | some c =>
      let s1 := smbViolation s p c
      if contained s1 p then (none, s1)
      else match cause retry with
        | none => (got retry, s1)
        | some d => (none, smbViolation s1 p d)

end Sys2Proof.Machine
end

