-- ==== Sys2Proof/Machine/Crc.lean ====
section
/-!
DEFINITION. CRC-32C (R84): the Castagnoli polynomial, reflected, initial value and final XOR all ones; and the bytes of a
record as the recorder stores it (R567).
-/
namespace Sys2Proof.Machine

/-- One bit of the reflected division. -/
def crcBit (c : BitVec 32) : BitVec 32 := if c.getLsbD 0 then (c >>> 1) ^^^ 0x82F63B78#32 else c >>> 1

/-- One byte. -/
def crcByte (c : BitVec 32) (b : Byte) : BitVec 32 :=
  crcBit (crcBit (crcBit (crcBit (crcBit (crcBit (crcBit (crcBit (c ^^^ b.setWidth 32))))))))

/-- The CRC-32C of a byte string. -/
def crc32c (bs : Bytes) : BitVec 32 := bs.foldl crcByte 0xFFFFFFFF#32 ^^^ 0xFFFFFFFF#32

/-- The header of a record (R567): SEQ in bytes 5 to 0, CODE in 7 to 6, and the U64 of tick, count, severity, LEN and SUPP. -/
def recHeader (r : Rec) : Bytes :=
  le 6 r.seq ++ le 2 r.code ++
  le 8 (r.phase + 2 ^ 10 * r.count + 2 ^ 50 * r.sev + 2 ^ 53 * (recLength r.payload / 16 - 1) + 2 ^ 58 * r.supp)

/-- A record as stored (R567): header, zero-padded payload, CRC-32C. -/
def recBytes (r : Rec) : Bytes :=
  let b := recHeader r ++ r.payload ++ List.replicate (recLength r.payload - 16 - r.payload.length) 0
  b ++ le 4 (crc32c b).toNat

end Sys2Proof.Machine
end

