-- ==== Sys2Proof/Machine/Operands.lean ====
section
/-!
DEFINITION. The operands of register accesses: the block and domain of an offset, the register row and fields it names, where a field
is read and written, and the input of the configuration CRC (R61, R66, R68, R84, R616).
-/
namespace Sys2Proof.Machine

/-- The first offsets of the blocks of the window, GLB as 0 to ERR as 18 (R61). -/
def blockBases : List Nat :=
  [0x0, 0x10000, 0x20000, 0x30000, 0x40000, 0x80000, 0xC0000, 0x100000, 0x140000, 0x180000, 0x1C0000, 0x200000,
   0x240000, 0x280000, 0x2C0000, 0x300000, 0x340000, 0x380000, 0x3C0000]

/-- The block an offset lies in (R61). -/
def blockOf (off : Nat) : Nat := (blockBases.filter (· ≤ off)).length - 1

/-- The key of a master's shadow or staging word in the block of an offset (R66). -/
def masterBlock (m off : Nat) : Nat := 32 * m + blockOf off

/-- Domains from one number up to another. -/
def domRange (lo hi : Nat) : List Nat := (List.range (hi - lo)).map (fun k => lo + k)

/-- The power domains of which one must be on for the register at an offset (R616). -/
def domainsFor (off : Nat) : List Nat :=
  match blockOf off with
  | 4 => if decide (0x40000 ≤ off) && decide (off < 0x50000) then [13 + (off - 0x40000) / 0x1000] else domRange 13 33
  | 5 => domRange 42 50
  | 6 =>
    if decide (0xC1000 ≤ off) && decide (off < 0xC2000) then [33 + (off - 0xC1000) / 0x100 / 2]
    else if decide (0xC0800 ≤ off) && decide (off < 0xC0840) then [33 + (off - 0xC0800) / 8]
    else if decide (0xC0900 ≤ off) && decide (off < 0xC0940) then [33 + (off - 0xC0900) / 8]
    else domRange 33 41
  | 7 => [82]
  | 8 => if off < 0x160000 then [62 + (off - 0x140000) / 0x2000 / 2] else domRange 62 70
  | 9 => [52]
  | 10 => [74, 75]
  | 11 => [53, 54]
  | 12 => [10]
  | 13 => if decide (0x281000 ≤ off) && decide (off < 0x281400) then [(off - 0x281000) / 0x100] else [4]
  | 14 => domRange 70 74
  | 16 => [77]
  | _ => domRange 92 96

/-- The _LO registers of the writable 64-bit pairs (R68): TRE_MAINT_START, TRE_MAINT_END, GRT_HHB_BASE and CIN_CAP. -/
def writableLo : List Nat := [0xC0018, 0xC0020, 0x100004, 0x180004]

/-- The row of the register table at an offset and the number of its copy. -/
def findReg (off : Nat) : Option (RegRow × Nat) :=
  (regTable.find? (fun r => decide (r.base ≤ off) && (off - r.base) % r.stride == 0
    && decide ((off - r.base) / r.stride < r.count))).map (fun r => (r, (off - r.base) / r.stride))

/-- The field of a row, for the copy at an offset. -/
def fldAt (off : Nat) (f : FieldRow) : Fld := ⟨off * 8 + f.lo, f.width, f.reset⟩

/-- The field stands in the STM block, whose fields the recorder holds. -/
def inStm (f : Fld) : Bool := decide (0x380000 * 8 ≤ f.addr) && decide (f.addr < 0x3C0000 * 8)

/-- A field read in its home. -/
def fldHome (s : State) (f : Fld) : Nat := if inStm f then stmRd s.stm f else rd s f

/-- A field written in its home. -/
def fldWrite (s : State) (f : Fld) (v : Nat) : State :=
  if inStm f then { s with stm := stmWr s.stm f v } else wr s f v

/-- A value staged for an RWB field (R80). -/
def fldStage (s : State) (f : Fld) (v : Nat) : State :=
  { s with iface := { s.iface with staged := amSet s.iface.staged f.addr (v % 2 ^ f.width) } }

/-- A register of the MBX block. -/
def inMbx (off : Nat) : Bool := decide (0x30000 ≤ off) && decide (off < 0x40000)

/-- The offset is that of a register of the window (R61): a row of the table, or a word of MBX_DATA or FLS_B_DATA. -/
def assigned (off : Nat) : Bool :=
  (findReg off).isSome || (decide (0x30100 ≤ off) && decide (off < 0x30200)) ||
  (decide (0x341000 ≤ off) && decide (off < 0x342000) && decide (0x100 ≤ off % 0x400) && decide (off % 0x400 < 0x200))

/-- The block's power domain is on for the register at an offset (R616). -/
def regPowered (s : State) (off : Nat) : Bool := domainsFor off |>.any (fun d => s.ham.doms.getLsbD d)

/-- The master's reach takes in an access (R60): a sandboxed keeper core reads GLB and LCK and uses MBX only. -/
def sandboxed (s : State) (m : Nat) : Bool := s.boot.sandbox && (m == 7 || m == 8)

/-- The debug port reaches the window only in service mode (R60). -/
def debugShut (s : State) (m : Nat) : Bool := m == 9 && s.boot.mode ≠ .service

/-- The refusal of an access by who makes it (R60, R62): the state after it, where the master may not reach the offset. -/
def masterRefused (s : State) (m off : Nat) : Option State :=
  if debugShut s m then some (emit s (.csrError m off))
  else if sandboxed s m && !inMbx off then
    some (emit (record (csrRefuse s m 4 off) Ev.CSR_ACCESS_REFUSED m (le 4 off)) (.busError m (statusCode .access)))
  else none

/-! ### The configuration CRC (R84) -/

/-- The fields that count for the CRC: RWB, RWL and the *_LOCK fields (the W1S fields that govern RWL fields stand at bit 31), but
neither the ways nor the cores that the fault manager disables. -/
def crcField (off : Nat) (f : FieldRow) : Bool :=
  (f.code = .rwb || f.code = .rwl || (f.code = .w1s && f.lo == 31)) &&
  !(decide (0xC0800 ≤ off) && decide (off < 0xC0840) && f.lo == 0) && !(off == 0x2C0008 && f.lo == 0)

/-- The copies of a covered row with their masked words. -/
def crcRow (s : State) (r : RegRow) : List (Nat × Nat) :=
  if r.fields.any (fun f => f.code = .rwb || f.code = .rwl || (f.code = .w1s && f.lo == 31)) && decide (r.base < 0x400000) &&
      r.base ≠ 0x20008 then
    (List.range r.count).map (fun k =>
      let off := r.base + r.stride * k
      (off, (r.fields.map (fun f => if crcField off f then fldHome s (fldAt off f) * 2 ^ f.lo else 0)).sum))
  else []

/-- The covered words in ascending offset order. -/
def crcWords (s : State) : List (Nat × Nat) := (regTable.flatMap (crcRow s)).mergeSort (fun a b => decide (a.1 ≤ b.1))

/-- The configuration CRC of the live registers (R84). -/
def configCrc (s : State) : Nat := (crc32c ((crcWords s).flatMap (fun w => le 4 w.2))).toNat

end Sys2Proof.Machine
end

