-- ==== Sys2Proof/Machine/CipherJobs.lean ====
section
/-!
DEFINITION. How the jobs of the Buckle engine end (spec/15, R457, R458).
-/
namespace Sys2Proof.Machine

/-- The engine with its state replaced. -/
def bklSet (s : State) (b : Buckle) : State := { s with bkl := b }

/-- A job ended with a status, its output where it has one. -/
def jobEnd (s : State) (j : CJob) (st : Status) (out : Bytes) : State := emit s (.cipherDone j.tag st out)

/-- Every queued, waiting and running job that meets a condition ended with a status. -/
def jobsEnd (s : State) (p : CJob → Bool) (run : Bool) (st : Status) : State :=
  let js := s.bkl.queued ++ s.bkl.waiting ++ (if run then s.bkl.running.map Prod.snd else [])
  (js.filter p).foldl (fun t j => jobEnd t j st [])
    (bklSet s { s.bkl with
      queued := s.bkl.queued.filter (fun j => !p j), waiting := s.bkl.waiting.filter (fun j => !p j),
      running := if run then s.bkl.running.filter (fun e => !p e.2) else s.bkl.running })

/-- COMMIT step 1: jobs queued in the classes other than DRIVE_WRITE end with NOT_READY (R458). -/
def cipherCommit (s : State) : State := jobsEnd s (fun j => j.cls != 0) false .notReady

end Sys2Proof.Machine
end

