-- ==== Sys2Proof/Machine/FlashOps.lean ====
section
/-!
DEFINITION. Shared operations of the flash (spec/19): banks, the bytes that a command reads, and what stops erases.
-/
namespace Sys2Proof.Machine

/-- A flash bank. -/
def flsBank (s : State) (b : Nat) : FlsBank := amGet s.fls.banks b {}

/-- A flash bank replaced. -/
def flsSet (s : State) (b : Nat) (v : FlsBank) : State := { s with fls := { s.fls with banks := amSet s.fls.banks b v } }

/-- The bits of the bytes that a failed or cut program leaves: those that were to be cleared may be cleared or not (R551, R553): free
values. -/
def mixBytes (s : State) (old new : Bytes) : Bytes × State :=
  ((old.zip new).mapIdx (fun k e => e.1 &&& (e.2 ||| (Config.freeValue (s.freeCtr + k)).setWidth 8)),
   { s with freeCtr := s.freeCtr + new.length })

/-- The records of a recorder sector, packed at 4-byte alignment (R573). -/
def sectorRecords (area : List AreaRec) (sector : Nat) : Bytes :=
  (area.filter (fun r => r.sector == sector && !r.torn)).flatMap (fun r => recBytes r.rcd)

/-- The sector of a bank that an address lies in. -/
def flsSector (addr : Nat) : Nat := addr / 65536

/-- The partition of a bank whose byte layout the manual does not give: the configuration store and rail records, and the
metadata and wrapped keys (R538). -/
def flsOpaque (bank sector : Nat) : Bool := (bank == 2 && decide (sector < 512)) || bank == 3

/-- The byte that a cell holds: what a flash command has programmed there; the records of the recorder areas; a free value in a
partition with a store whose layout the manual does not give; 0xFF, erased, elsewhere. -/
def flsByte (s : State) (bank addr : Nat) : Byte :=
  let v := flsBank s bank
  let sec := flsSector addr
  let c := memRead 0xFF v.cells addr
  if c ≠ 0xFF then c
  else if v.raw.contains sec then c
  else if bank = 2 ∧ 512 ≤ sec then
    (if sec < 544 then (sectorRecords s.stm.first (sec - 512)).getD (addr % 65536) 0xFF
     else (sectorRecords s.stm.last (sec - 544)).getD (addr % 65536) 0xFF)
  else if flsOpaque bank sec then (Config.freeValue (s.freeCtr + addr)).setWidth 8
  else c

/-- The bytes from an address. -/
def flsBytes (s : State) (bank addr : Nat) : Nat → Bytes
  | 0 => []
  | n + 1 => flsByte s bank addr :: flsBytes s bank (addr + 1) n

/-- An operation runs in a bank. -/
def flsRunning (v : FlsBank) : Bool := v.st = .programming || v.st = .erasing

/-- The completion status of a bank's command (FLS_B_CMD). -/
def flsStatus (s : State) (b : Nat) (st : Status) : State := wr s (Reg.FLS_B_CMD_STATUS b) (statusCode st)

/-- BUSY of a bank's command. -/
def flsBusy (s : State) (b : Nat) (v : Bool) : State := wr s (Reg.FLS_B_CMD_BUSY b) (b2n v)

/-- Erases stopped (R552): every running ERASE is suspended at once and never resumed, and no other starts. -/
def flsFreeze (s : State) : State :=
  { s with
    fls := { s.fls with
      frozen := true
      banks := s.fls.banks.map (fun (e : Nat × FlsBank) =>
        if e.2.st = .erasing then (e.1, { e.2 with st := .eraseSuspended, suspend := false, window := none }) else e) } }

/-- The page of a cut program, partly programmed (R551). -/
def flsTear (u : State) (b : Nat) (o : FlsOp) : State :=
  let (bs, u1) := mixBytes u (flsBytes u b o.addr o.data.length) o.data
  flsSet u1 b { flsBank u1 b with cells := memWriteBytes 0xFF (flsBank u1 b).cells o.addr bs }

/-- The programs that a cut finds running or waiting in a bank. -/
def flsCutOps (v : FlsBank) : List FlsOp :=
  (match v.op with | some o => if o.erase then [] else [o] | none => []) ++ v.prog.toList

/-- The flash after a reset or a loss of supply (R551): operations are gone, the flag cell of a cut erase stays set, and the page of a cut
program is partly programmed. -/
def flsCut (s : State) : State :=
  let s1 := s.fls.banks.foldl (fun (t : State) (e : Nat × FlsBank) => (flsCutOps e.2).foldl (fun u o => flsTear u e.1 o) t) s
  { s1 with
    fls := { s1.fls with
      frozen := false
      flagsRead := false
      banks := s1.fls.banks.map (fun (e : Nat × FlsBank) =>
        (e.1, { e.2 with st := .idle, op := none, prog := none, queue := [], suspend := false, window := none, data := [] })) } }

/-- An erase cycle counted for a sector, with the wear mark (R553). -/
def flsWear (s : State) (b sector : Nat) : State :=
  let v := flsBank s b
  let n := amGet v.wear sector 0 + 1
  flsSet s b { v with wear := amSet v.wear sector n }

/-- The wear record is due at a count (R553): at 90,000 and at each further 1,000. -/
def wearDue (n : Nat) : Bool := decide (90000 ≤ n) && (n - 90000) % 1000 == 0

/-- A sector's cells erased. -/
def flsErased (s : State) (b sector : Nat) : State :=
  let v := flsBank s b
  let s1 := flsSet s b { v with
    cells := v.cells.filter (fun c => c.1 / 65536 ≠ sector)
    raw := if flsOpaque b sector && !v.raw.contains sector then v.raw ++ [sector] else v.raw }
  if b = 2 ∧ 544 ≤ sector then { s1 with stm := { s1.stm with last := s1.stm.last.filter (fun r => r.sector ≠ sector - 544) } }
  else if b = 2 ∧ 512 ≤ sector then { s1 with stm := { s1.stm with first := s1.stm.first.filter (fun r => r.sector ≠ sector - 512) } }
  else s1

end Sys2Proof.Machine
end

