-- ==== Sys2Proof/Machine/TreeOps.lean ====
section
/-!
DEFINITION. Shared operations of the Tree cache and of the DRAM queues (spec/07, spec/09): the slice, set and tag of a
line, replacement, the write-back buffers, the mapping orders, and what DRAM holds for a line.
-/
namespace Sys2Proof.Machine

/-! ### The home slice, set and tag of a DRAM line (R199) -/

/-- The exclusive or of the `k` lowest 4-bit groups of a number. -/
def xorNibbles (n : Nat) : Nat → Nat
  | 0 => 0
  | k + 1 => (n % 16) ^^^ xorNibbles (n / 16) k

/-- The home slice of DRAM line number `n` = A[42:6] (R199). -/
def treeSlice (n : Nat) : Nat := xorNibbles n 9 ^^^ (n / 2 ^ 36 % 2)

/-- The set of a line in its slice (R199). -/
def treeSet (n : Nat) : Nat := (n % 8192) ^^^ (n / 8192 % 8192)

/-- The tag of a line (R199). -/
def treeTag (n : Nat) : Nat := n / 8192 % 2 ^ 24

/-- One step of the Fibonacci LFSR with polynomial x¹⁶ + x¹⁴ + x¹³ + x¹¹ + 1 (R206). DEDUCED: it shifts toward bit 0 and
the sum of the taps enters at bit 15. -/
def lfsrStep (v : Nat) : Nat :=
  v / 2 + 32768 * ((b2n (bit v 0) + b2n (bit v 2) + b2n (bit v 3) + b2n (bit v 5)) % 2)

/-- The LFSR value loaded at reset from a slice's seed (R206): a seed of 0 is taken as 1. -/
def lfsrLoad (seed : Nat) : Nat := if seed = 0 then 1 else seed

/-- The LFSR of a slice. -/
def treeLfsr (s : State) (sl : Nat) : Nat := amGet s.tree.lfsr sl (lfsrLoad (rd s (Reg.TRE_LFSR_SEED_SEED sl)))

/-! ### Ways -/

/-- The entry of a line in the Tree cache. -/
def treeFind (s : State) (n : Nat) : Option TreeLine := s.tree.lines.find? (fun t => t.line = n)

/-- The state with the list of Tree lines replaced. -/
def treeLines (s : State) (ls : List TreeLine) : State := { s with tree := { s.tree with lines := ls } }

/-- The Tree cache with the entry of a line put in, or replaced. -/
def treePut (s : State) (t : TreeLine) : State :=
  treeLines s (t :: s.tree.lines.filter (fun u => u.line ≠ t.line))

/-- The Tree cache without a line. -/
def treeDrop (s : State) (n : Nat) : State := treeLines s (s.tree.lines.filter (fun u => u.line ≠ n))

/-- The lines held in the set that a line maps to. -/
def treeSetLines (s : State) (n : Nat) : List TreeLine :=
  s.tree.lines.filter (fun t => treeSlice t.line = treeSlice n ∧ treeSet t.line = treeSet n)

/-- A way is isolated (R222). -/
def wayDisabled (s : State) (sl w : Nat) : Bool := bit (rd s (Reg.TRE_WAY_DISABLE_WAYS sl)) w

/-- Every way of a slice is isolated, so that it serves every request as under UC (R224). -/
def sliceIsolated (s : State) (sl : Nat) : Bool := rd s (Reg.TRE_WAY_DISABLE_WAYS sl) = 0xFFFF

/-- The lowest-numbered INVALID way of the set of a line that is not isolated (R205). -/
def freeWay (s : State) (n : Nat) : Option Nat :=
  (List.range 16).find? (fun w => !wayDisabled s (treeSlice n) w && (treeSetLines s n).all (fun t => t.way ≠ w))

/-- The candidates for eviction (R205): ways neither in FILL nor isolated, nor already leaving. -/
def treeCandidates (s : State) (n : Nat) : List TreeLine :=
  (treeSetLines s n).filter (fun t => t.st ≠ .fill ∧ t.leaving = false ∧ wayDisabled s (treeSlice n) t.way = false)

/-- What the sweep adds to the age of every candidate (R205): 3 less the greatest age; 0 where a candidate has age 3. -/
def sweepAdd (cs : List TreeLine) : Nat := 3 - (cs.map TreeLine.age).foldl max 0

/-- The victim (R205): the first candidate of age 3 after the sweep, searching upward modulo 16 from way LFSR[3:0]. -/
def treeVictim (s : State) (n : Nat) : Option TreeLine :=
  let cs := treeCandidates s n
  let from_ := treeLfsr s (treeSlice n) % 16
  (List.range 16).findSome? (fun k => cs.find? (fun t => t.way = (from_ + k) % 16 ∧ 3 ≤ t.age + sweepAdd cs))

/-- The sweep and the step of the LFSR that go with choosing a victim (R205). -/
def treeSweep (s : State) (n : Nat) : State :=
  let cs := treeCandidates s n
  let add := sweepAdd cs
  let s1 := treeLines s (s.tree.lines.map (fun t => if t ∈ cs then { t with age := t.age + add } else t))
  { s1 with tree := { s1.tree with
      lfsr := amSet s1.tree.lfsr (treeSlice n) (lfsrStep (treeLfsr s (treeSlice n))) } }

/-! ### Write-back buffers (R214 to R217) -/

/-- Lines of a slice's write-back buffer. -/
def wbbOf (s : State) (sl : Nat) : List WbbEntry := s.tree.wbb.filter (fun e => treeSlice e.line = sl)

/-- The write-back buffer of a slice is full (R216). -/
def wbbFull (s : State) (sl : Nat) : Bool := decide (64 ≤ (wbbOf s sl).length)

/-- The entry of a line in the write-back buffers. -/
def wbbFind (s : State) (n : Nat) : Option WbbEntry := s.tree.wbb.find? (fun e => e.line = n)

/-- A line put into its slice's write-back buffer, over an entry of the same line (R215). -/
def wbbPut (s : State) (e : WbbEntry) : State :=
  let e1 := match wbbFind s e.line with
    | some o => { e with data := plineOver e.data o.data, poison := e.poison || (o.poison && !plineFull e.data),
                         lo := min e.lo o.lo, fetch := o.fetch && !plineFull (plineOver e.data o.data) }
    | none => e
  { s with tree := { s.tree with wbb := s.tree.wbb.filter (fun o => o.line ≠ e.line) ++ [e1] } }

/-- A DIRTY line cleaned (R217): copied into the write-back buffer, its tag CLEAN. -/
def treeClean (s : State) (t : TreeLine) : State :=
  if t.st = .dirty then
    wbbPut (treePut s { t with st := .clean }) ⟨t.line, plineOf t.data, t.poison, t.lo, false⟩
  else s

/-- Every DIRTY line that meets a condition cleaned. -/
def treeCleanWhere (s : State) (p : TreeLine → Bool) : State :=
  (s.tree.lines.filter (fun t => t.st = .dirty ∧ p t)).foldl treeClean s

/-- A line cleaned and invalidated; the caller has ended the snoop round it needs (R241). -/
def treeCleanInv (s : State) (t : TreeLine) : State := treeDrop (treeClean s t) t.line

/-- A line evicted as a victim (R205, R201): its data to the write-back buffer where it is DIRTY, and the eviction
counted. -/
def treeEvict (s : State) (t : TreeLine) : State :=
  let sl := treeSlice t.line
  if t.st = .dirty then
    bump64 (treeDrop (wbbPut s ⟨t.line, plineOf t.data, t.poison, t.lo, false⟩) t.line)
      (Reg.TRE_STAT_EVD_LO_COUNT sl) (Reg.TRE_STAT_EVD_HI_COUNT sl) 1
  else bump64 (treeDrop s t.line) (Reg.TRE_STAT_EVC_LO_COUNT sl) (Reg.TRE_STAT_EVC_HI_COUNT sl) 1

/-- A hit counted in a slice's statistics. -/
def treeHit (s : State) (n : Nat) : State :=
  bump64 s (Reg.TRE_STAT_HIT_LO_HIT_LO (treeSlice n)) (Reg.TRE_STAT_HIT_HI_HIT_HI (treeSlice n)) 1

/-- A miss counted in a slice's statistics. -/
def treeMiss (s : State) (n : Nat) : State :=
  bump64 s (Reg.TRE_STAT_MISS_LO_COUNT (treeSlice n)) (Reg.TRE_STAT_MISS_HI_COUNT (treeSlice n)) 1

/-! ### Channels and mapping orders (R262 to R264) -/

/-- A channel. -/
def chanOf (s : State) (c : Nat) : Chan := amGet s.dram.chans c {}

/-- The state with a channel replaced. -/
def chanSet (s : State) (c : Nat) (v : Chan) : State :=
  { s with dram := { s.dram with chans := amSet s.dram.chans c v } }

/-- Gibibytes of one DIMM (R259): 32 GiB for one physical rank of 16 Gb devices; ranks, a 2H stack and density multiply. -/
def dimmGib (s : State) : Nat :=
  (if s.dram.density = 0 then 32 else if s.dram.density = 1 then 48 else 64) *
    (if s.dram.pranks2 then 2 else 1) * (if s.dram.stack2h then 2 else 1)

/-- Lines of one channel. -/
def chanLines (s : State) : Nat := s.dram.dimms * dimmGib s * 2 ^ 24

/-- Lines of DRAM. -/
def dramLines (s : State) : Nat := 16 * chanLines s

/-- Binary logarithm of the logical ranks of a channel (R263). -/
def rankBits (s : State) : Nat :=
  (if s.dram.dimms = 2 then 1 else 0) + (if s.dram.pranks2 then 1 else 0) + (if s.dram.stack2h then 1 else 0)

/-- The channel of DRAM line number `n` = A[42:6] under a mapping order (R262). -/
def mapChannel (s : State) (n : Nat) : Nat :=
  match rd s Reg.DRC_CFG_MAP with
  | 2 => n / 128 % 16
  | 3 => if chanLines s = 0 then 0 else n / chanLines s
  | _ => n / 4 % 16

/-- The channel-local index of a line (R262). -/
def mapLocal (s : State) (n : Nat) : Nat :=
  match rd s Reg.DRC_CFG_MAP with
  | 2 => n / 2 ^ 11 * 128 + n % 128
  | 3 => if chanLines s = 0 then 0 else n % chanLines s
  | _ => n / 64 * 4 + n % 4

/-- The subchannel of a channel-local index (R263): `true` for B. -/
def mapSub (l : Nat) : Bool := bit l 7

/-- The row of a channel-local index (R263). -/
def mapRow (s : State) (l : Nat) : Nat := l / 2 ^ (13 + rankBits s)

/-- The bank of a channel-local index as one number (R263, R264): bank group, bank and logical rank. -/
def mapBank (s : State) (l : Nat) : Nat :=
  let row := mapRow s l
  let h := decide (rd s Reg.DRC_CFG_MAP = 1)
  let bg := (l / 256 % 8) ^^^ (if h then row % 8 else 0)
  let bk := (l / 2048 % 4) ^^^ (if h then row / 8 % 4 else 0)
  bg + 8 * bk + 32 * (l / 8192 % 2 ^ rankBits s)

/-- A subchannel of a channel. -/
def Chan.sub (c : Chan) (b : Bool) : SubChan := if b then c.subB else c.subA

/-- A channel with a subchannel replaced. -/
def Chan.subSet (c : Chan) (b : Bool) (v : SubChan) : Chan := if b then { c with subB := v } else { c with subA := v }

/-! ### What DRAM holds -/

/-- The bytes of a line in the DRAM array. -/
def dramArray (s : State) (n : Nat) : Bytes := memReadBytes 0 s.dram.mem (n * 64) 64

/-- A line written into the DRAM array (R274): a full line replaces a poison pattern. -/
def dramStore (s : State) (n : Nat) (data : Bytes) (poison : Bool) : State :=
  { s with dram := { s.dram with
      mem := memWriteBytes 0 s.dram.mem (n * 64) data
      poison := if poison then n :: s.dram.poison.filter (· ≠ n) else s.dram.poison.filter (· ≠ n) } }

/-- The writes queued for a line in its channel, oldest first. -/
def queuedWrites (s : State) (n : Nat) : List DWrite :=
  let c := chanOf s (mapChannel s n)
  (c.mirrorQ ++ c.drainQ ++ c.subA.writes ++ c.subB.writes).filter (fun w => w.line = n)

/-- What DRAM holds for a line once its queued writes are issued: bytes and poison. -/
def dramLine (s : State) (n : Nat) : Bytes × Bool :=
  match (queuedWrites s n).getLast? with
  | some w => (w.data, w.poison)
  | none => (dramArray s n, decide (n ∈ s.dram.poison))

/-- The newest bytes of a DRAM line wherever they stand: the write-back buffer, the Tree cache, or DRAM. -/
def lineNow (s : State) (n : Nat) : Bytes × Bool :=
  let d := dramLine s n
  let t := match treeFind s n with
    | some t => if t.st = .fill then
        match t.arrived with
        | some a => (plineBytes (plineOver t.merge (plineOf a.1)), a.2)
        | none => (plineBytes (plineOver t.merge (plineOf d.1)), d.2)
      else (t.data, t.poison)
    | none => d
  match wbbFind s n with
  | some e => (plineBytes (plineOver e.data (plineOf t.1)), (t.2 && !plineFull e.data) || e.poison)
  | none => t

/-! ### Queues (R265 to R272) -/

/-- The write queue of the subchannel of a line is full (R265). -/
def wrqFull (s : State) (n : Nat) : Bool :=
  decide (64 ≤ ((chanOf s (mapChannel s n)).sub (mapSub (mapLocal s n))).writes.length)

/-- The state of write-drain after a change of the write queue (R269). -/
def wdrainNext (c : SubChan) : SubChan :=
  { c with wdrain := if 48 ≤ c.writes.length then true else if c.writes.length ≤ 16 then false else c.wdrain }

/-- A line write entered into a write queue (R265, R267): over a queued write of the same line, in its place. -/
def wrqPut (s : State) (n : Nat) (data : Bytes) (poison : Bool) : State :=
  let ch := mapChannel s n
  let b := mapSub (mapLocal s n)
  let c := chanOf s ch
  let u := c.sub b
  let ws := if u.writes.any (fun w => w.line = n)
    then u.writes.map (fun w => if w.line = n then { w with data := data, poison := poison } else w)
    else u.writes ++ [⟨n, data, poison, s.time⟩]
  chanSet s ch (c.subSet b (wdrainNext { u with writes := ws }))

/-- The read queue of the subchannel of a line is full (R265). -/
def rdqFull (s : State) (n : Nat) : Bool :=
  decide (128 ≤ ((chanOf s (mapChannel s n)).sub (mapSub (mapLocal s n))).reads.length)

/-- A read entered into a read queue (R265). -/
def rdqPut (s : State) (n : Nat) (p : ReadFor) (port : Option Nat) : State :=
  let ch := mapChannel s n
  let b := mapSub (mapLocal s n)
  let c := chanOf s ch
  let u := c.sub b
  chanSet s ch (c.subSet b { u with reads := u.reads ++ [⟨n, p, port, s.time, none⟩] })

/-! ### Allocation and the merge of a release (R205, R208) -/

/-- What an attempt to allocate a way gives: a way, the victim whose snoop round or buffer it waits for, or nothing. -/
inductive Alloc where
  | got (way : Nat)
  | snoop (victim : TreeLine)
  | held
deriving DecidableEq, Repr

/-- A way for a line (R205, R216, R241), with the sweep, the LFSR step and the eviction that go with it. A victim with
PEER set is answered as `snoop`: its round must end first. -/
def treeAlloc (s : State) (n : Nat) : Alloc × State :=
  match freeWay s n with
  | some w => (.got w, s)
  | none =>
    match treeVictim s n with
    | none => (.held, s)
    | some v =>
      if v.st = .dirty ∧ wbbFull s (treeSlice n) then (.held, bump s (Reg.TRE_STAT_WBB_STALL_STALLS (treeSlice n)) 1)
      else if v.peer then (.snoop v, treePut (treeSweep s n) { v with age := 3, leaving := true })
      else (.got v.way, treeEvict (treeSweep s n) v)

/-- The age at which a line is inserted (R204): 3 for a fill of a STREAM read or a line closed from the Skive buffer,
else FILL_AGE. -/
def insertAge (s : State) (stream : Bool) : Nat := if stream then 3 else rd s Reg.TRE_CTRL_FILL_AGE

end Sys2Proof.Machine
end

