-- ==== Sys2Proof/Machine/CinchOps.lean ====
section
/-!
DEFINITION. Shared operations of the cinch limit and write admission (spec/10): the dirty byte count D, the marks, pacing,
and the dirty map.
-/
namespace Sys2Proof.Machine

/-- The line term of D (R294). -/
def dirtyLines (s : State) : Nat :=
  s.per.welt.length + s.per.skive.length + (s.tree.lines.filter (fun t => t.st = .dirty)).length + s.tree.wbb.length

/-- The dirty byte count D (R294); after a takeover every frame of the twin's pool that is not replayed counts 4 KiB (R340). -/
def dirtyBytes (s : State) : Nat := 64 * dirtyLines s + 4096 * (s.cin.granules.length + s.twin.replay.length)

/-- The drain rate R in bytes per second (R298): the mean over the last 64 busy half-cycles, or DRAIN_RATE_INIT until eight
have passed. -/
def drainRate (s : State) : Nat :=
  if s.cin.samples.length < 8 ∨ (s.cin.samples.map Prod.snd).sum = 0 then odNum s 0x800103 4 50000 * 1000000
  else (s.cin.samples.map Prod.fst).sum * 25600000000 / (s.cin.samples.map Prod.snd).sum

/-- The hold-up time in use H, in units of 10 ms (R297). -/
def holdup (s : State) : Nat :=
  if s.cin.smbOk && s.cin.senseOk then min s.cin.reported s.cin.sensed
  else if s.cin.smbOk then s.cin.reported
  else if s.cin.senseOk then s.cin.sensed
  else 0

/-- CINCH_CAP in bytes as in force (R296, R310). -/
def cinchCap (s : State) : Nat := s.cin.capInForce

/-- The cinch limit L (R296). -/
def cinchLimit (s : State) : Nat :=
  min (cinchCap s) (holdup s * drainRate s * rd s Reg.CIN_DERATE_PERMILLE / 100000)

/-- The marks T and S (R300): under WARN from the warn mark W in place of L. -/
def marksOf (s : State) (l : Nat) : Nat × Nat :=
  let b := if s.cin.phase = .warn then l * rd s Reg.CIN_CTRL_WARN_PCT / 100 else l
  (b - 603979776, b * rd s Reg.CIN_CTRL_SOFT_PCT / 100)

/-- The admission state that D and the marks give (R300). -/
def admitFor (s : State) : Admit :=
  if s.cin.phase = .commit then .opened
  else if s.cin.stopMark ≤ dirtyBytes s then .stopped
  else if s.cin.softMark ≤ dirtyBytes s then .paced
  else .opened

/-- The admission state taken anew, with the records of R302. -/
def admitUpdate (s : State) : State :=
  let a := admitFor s
  if a = s.cin.admitSt then s
  else
    let s1 := { s with cin := { s.cin with admitSt := a } }
    match a with
    | .opened => s1
    | .paced => record (setF s1 Reg.CIN_EVENTS_PACED) Ev.ADMIT_PACED 0xFF (le 8 (dirtyBytes s))
    | .stopped => record (setF s1 Reg.CIN_EVENTS_STOPPED) Ev.ADMIT_STOPPED 0xFF (le 8 (dirtyBytes s))

/-- The pacing rate A in bytes per second (R300). -/
def paceRate (s : State) : Nat :=
  let t := s.cin.stopMark
  let d := dirtyBytes s
  if s.cin.admitSt = .paced ∧ s.cin.softMark < t then 2 * drainRate s * (t - d) / (t - s.cin.softMark) else 0

/-- The drain pace (R306). -/
def paceFor (s : State) : Pace :=
  if s.cin.phase = .commit then .commit
  else if s.cin.phase = .warn ∨ s.cin.softMark ≤ dirtyBytes s then .urgent
  else if dirtyBytes s < s.cin.limit * rd s Reg.CIN_CTRL_LOW_PCT / 100 then .background
  else .normal

/-- The recomputation at phase 0, or at once on WARN (R296, R300, R306, R311). -/
def cinchRecompute (s : State) : State :=
  let l := cinchLimit s
  let m := marksOf s l
  let s1 := { s with cin := { s.cin with limit := l, stopMark := m.1, softMark := m.2 } }
  let s2 := admitUpdate s1
  { s2 with cin := { s2.cin with pace := paceFor s2 } }

/-- A completion asks admission for the tokens of one line (R300, R301): the answer and the tokens left. -/
def takeAdmission (s : State) : Bool × State :=
  match s.cin.admitSt with
  | .opened => (true, s)
  | .stopped => (false, s)
  | .paced => if 64 ≤ s.cin.tokens then (true, { s with cin := { s.cin with tokens := s.cin.tokens - 64 } })
    else (false, s)

/-- The granule of a DRAM line made dirty by bytes of an accept sequence (R293): CLEAN becomes DIRTY, TAKEN becomes
TAKEN_DIRTY. `old` marks a granule that counts as old from the start (R306). -/
def markDirtyAt (s : State) (dl lo : Nat) (old : Bool) : State :=
  let k := dl / 64
  let now := if old then s.lck.count - 1024 else s.lck.count
  let g : Granule := match amFind s.cin.granules k with
    | none => { st := .dirty, newest := now, lo := lo, takenLo := 0 }
    | some g => match g.st with
      | .dirty => { g with newest := now, lo := min g.lo lo }
      | .taken => { g with st := .takenDirty, newest := now, lo := lo }
      | .takenDirty => { g with newest := now, lo := min g.lo lo }
  { s with cin := { s.cin with granules := amSet s.cin.granules k g } }

/-- A granule made dirty now (R293). -/
def markDirty (s : State) (dl lo : Nat) : State := markDirtyAt s dl lo false

/-- Granules made CLEAN. -/
def markClean (s : State) (gs : List Nat) : State :=
  { s with cin := { s.cin with granules := s.cin.granules.filter (fun e => e.1 ∉ gs) } }

end Sys2Proof.Machine
end

