-- ==== Sys2Proof/Machine/DriveOps.lean ====
section
/-!
DEFINITION. Shared operations of the drives (spec/12): set layouts and member maps (R356, R357), the columns of units (R358),
commands to drives and the read of a data unit (R373, R374).
-/
namespace Sys2Proof.Machine

/-- A drive slot. -/
def driveOf (s : State) (n : Nat) : Drive := amGet s.awl.drives n {}

/-- The state with a drive slot replaced. -/
def driveSet (s : State) (n : Nat) (d : Drive) : State := { s with awl := { s.awl with drives := amSet s.awl.drives n d } }

/-- A stripe set. -/
def setOf (s : State) (n : Nat) : StripeSet := amGet s.awl.sets n {}

/-- The state with a stripe set replaced. -/
def setSet (s : State) (n : Nat) (v : StripeSet) : State := { s with awl := { s.awl with sets := amSet s.awl.sets n v } }

/-- SET_LAYOUT of a set (R356): sets 0 and 1 are PARITY2 10+2 by default. -/
def layoutWord (s : State) (n : Nat) : Nat := odNum s ((0x4100 + n) * 256 + 1) 4 (if n < 2 then 0x0A04 else 0)

/-- The width w of a layout with n data units (R356). -/
def layoutWidth (layout n : Nat) : Nat :=
  match layout with
  | 1 => 2 * n
  | 2 => 3 * n
  | 3 => n + 1
  | 4 => n + 2
  | _ => 0

/-- The losses that a layout always tolerates (R356). -/
def layoutLosses (layout : Nat) : Nat :=
  match layout with
  | 1 => 1
  | 2 => 2
  | 3 => 1
  | 4 => 2
  | _ => 0

/-- The member records in use of a set (R357): slot, ROLE and COLUMN. -/
def memberRecords (s : State) (n : Nat) : List (Nat × (Nat × Nat)) :=
  match amFind s.dict.active ((0x4100 + n) * 256 + 2) with
  | none => if n < 2 then (List.range 12).map (fun k => (12 * n + k, (0, k))) else []
  | some bs => (List.range 24).filterMap (fun k =>
      let r := bs.drop (40 + 40 * k)
      if r.headD 0xFF = 0xFF then none else some (leNat (r.take 1), (leNat ((r.drop 1).take 1), leNat ((r.drop 2).take 1))))

/-- The set and the member record that name a slot. -/
def slotRecord (s : State) (slot : Nat) : Option (Nat × (Nat × Nat)) :=
  (List.range 8).findSome? (fun n => ((memberRecords s n).find? (fun r => r.1 = slot)).map (fun r => (n, r.2)))

/-- The slot whose ONLINE member is in a column of a set. -/
def columnSlot (s : State) (n c : Nat) : Option Nat :=
  (s.awl.drives.find? (fun e => e.2.st = .online && e.2.set == n && e.2.col == c)).map Prod.fst

/-- The columns of a set that have no ONLINE member (R377). -/
def missingColumns (s : State) (n : Nat) : List Nat :=
  (List.range (setOf s n).w).filter (fun c => (columnSlot s n c).isNone)

/-- The column of logical unit p of stripe k (R358). -/
def unitColumn (w p k : Nat) : Nat := (p + k) % max 1 w

/-- The columns that hold data unit j of a stripe: one, or one for each copy (R358). -/
def unitColumns (v : StripeSet) (stripe j : Nat) : List Nat :=
  if v.layout = 1 ∨ v.layout = 2 then
    (List.range (v.layout + 1)).map (fun c => unitColumn v.w (c * v.n + j) stripe)
  else [unitColumn v.w j stripe]

/-- A command sent to a drive. A contained drive has at most 16 outstanding (R383); what exceeds them waits. -/
def issueCmd (s : State) (slot : Nat) (use : DriveFor) : State :=
  let d := driveOf s slot
  if contained s (.drive slot) ∧ 16 ≤ d.cmds.length then driveSet s slot { d with queued := d.queued ++ [use] }
  else emit (driveSet s slot { d with cmds := d.cmds ++ [⟨d.nextCmd, use⟩], nextCmd := d.nextCmd + 1 })
    (.driveCmd slot d.nextCmd use)

/-- Waiting commands sent while the drive may take them. -/
def issueNext (s : State) (slot : Nat) : State :=
  let d := driveOf s slot
  match d.queued with
  | [] => s
  | u :: r => issueCmd (driveSet s slot { d with queued := r }) slot u

/-- The rest of a stripe read to reconstruct one of its units (R374). -/
def reconstruct (s : State) (n stripe unit : Nat) : State :=
  let v := setOf s n
  let own := unitColumns v stripe unit
  ((List.range v.w).filter (fun c => !own.contains c)).foldl
    (fun t c => match columnSlot t n c with | some sl => issueCmd t sl (.unitRead n stripe unit) | none => t)
    (bump s (Reg.AWL_SET_ERR_RECONSTRUCTED n) 1)

/-- A data unit read (R373): from the copy whose member has the fewest outstanding commands, or reconstructed at once where no
such member is ONLINE or it is contained (R374, R383). -/
def readUnit (s : State) (n stripe unit : Nat) : State :=
  let cs := ((unitColumns (setOf s n) stripe unit).filterMap (columnSlot s n)).filter (fun sl => !contained s (.drive sl))
  match cs with
  | [] => reconstruct s n stripe unit
  | c :: r =>
    let best := r.foldl (fun b x => if (driveOf s x).cmds.length < (driveOf s b).cmds.length then x else b) c
    issueCmd s best (.unitRead n stripe unit)

end Sys2Proof.Machine
end

