-- ==== Sys2Proof/Machine/LatOps.lean ====
section
/-!
DEFINITION. Shared operations of the Latigo engine that the write and read paths call back (spec/14): connections and regions,
the end of a received message, and the entry of a connection into ERROR (R427, R435, R441 to R446).
-/
namespace Sys2Proof.Machine

/-- The state with the engine's part replaced. -/
def latSet (s : State) (l : Latigo) : State := { s with lat := l }

/-- A connection. -/
def connFind (s : State) (id : Nat) : Option Conn := amFind s.lat.conns id

/-- The state with a connection replaced. -/
def connPut (s : State) (id : Nat) (c : Conn) : State := latSet s { s.lat with conns := amSet s.lat.conns id c }

/-- A region. -/
def regionFind (s : State) (idx : Nat) : Option Region := amFind s.lat.regions idx

/-- The state with a region replaced. -/
def regionPut (s : State) (idx : Nat) (r : Region) : State := latSet s { s.lat with regions := amSet s.lat.regions idx r }

/-- The result of a Latigo command in its slot (R424): status, TAG and output, 32 bytes. -/
def latResult (s : State) (slot tag : Nat) (st : Status) (out : Bytes) : State :=
  let r := (le 1 (statusCode st) ++ le 1 0 ++ le 2 tag ++ out ++ List.replicate 32 0).take 32
  emit { s with dict := { s.dict with active := amSet s.dict.active ((0x7100 + slot) * 256 + 2) r } } (.latDone slot st r)

/-- An eviction candidate by its idle time (R438): VALONDIS, no packet for EVICT_IDLE, nothing unacknowledged, no WAIT, nothing
being served. -/
def evictable (s : State) (c : Conn) : Bool :=
  !c.standard && c.res = .resident && c.st = .rts && decide (c.lastPacket + usec (rd s Reg.LAT_EVICT_IDLE) ≤ s.time) &&
  c.wqes.all (fun w => w.status.isSome) && c.msgs = []

/-- The credits that an AETH of a connection carries (R434, R435, R454): 31 in STANDARD mode, 0 for an eviction candidate, at most
1 while its peer is contained. -/
def creditOf (s : State) (c : Conn) : Nat :=
  if c.standard then 31
  else if evictable s c then 0
  else if contained s (.peer c.peer) then 1
  else rd s Reg.LAT_CREDIT_GRANT

/-- An AETH sent with a fresh grant (R435). -/
def aeth (s : State) (id : Nat) (c : Conn) (psn : Nat) (p : Nat → RocePkt) : State :=
  let k := creditOf s c
  emit (connPut s id { c with
    grant := k, grantPsn := (psn + k) % 2 ^ 24, grantEnd := s.time + usec (rd s Reg.LAT_CREDIT_LIFE), probed := false,
    grantHeld := s.time + usec (rd s Reg.LAT_CREDIT_LIFE + 2 * rd s Reg.LAT_CREDIT_PACKET_LIFE), lastPacket := s.time })
    (.roce id (p k))

/-- A message that counted in a region has ended (R445): at zero a DRAINING region becomes FREE and its revoke ends with OK. -/
def regionLeave (s : State) (idx : Nat) : State :=
  match regionFind s idx with
  | none => s
  | some r =>
    let r1 := { r with inflight := r.inflight - 1 }
    if r.st = .draining ∧ r1.inflight = 0 then
      let s1 := regionPut s idx { r1 with st := .free, revoker := none }
      match r.revoker with
      | some (slot, tag) => latResult s1 slot tag .ok []
      | none => s1
    else regionPut s idx r1

/-- The WQEs of a connection that have not ended, ended with ABORTED (R427, R428). -/
def abortWqes (c : Conn) : List Wqe := c.wqes.map (fun w => if w.status.isSome then w else { w with status := some .aborted })

/-- A connection enters ERROR (R427): pending entries end with ABORTED, and the messages it serves end. -/
def connError (s : State) (id : Nat) : State :=
  match connFind s id with
  | none => s
  | some c =>
    if c.st = .error then s
    else
      let s1 := connPut s id { c with st := .error, wqes := abortWqes c, msgs := [], parked := [], reserved := 0 }
      let s2 := (c.msgs.filterMap RxMsg.region).foldl regionLeave s1
      record (setF s2 Reg.LAT_EVENTS_CONN_ERROR) Ev.CONN_ERROR 0xFF (le 2 id)

/-- A WQE ends with an error and its connection enters ERROR (R433). -/
def wqeError (s : State) (id idx : Nat) (st : Status) : State :=
  match connFind s id with
  | none => s
  | some c => connError (connPut s id { c with
    wqes := c.wqes.map (fun w =>
      if w.idx = idx ∧ w.status.isNone then { w with status := some st } else w) }) id

/-- Messages that a peer sends have numbers from 2³² up in their connection; those of send queue entries are their index. -/
def rxBase : Nat := 2 ^ 32

/-- A served message removed from its connection, its region left (R445). -/
def msgEnd (s : State) (id : Nat) (m : RxMsg) : State :=
  match connFind s id with
  | none => s
  | some c =>
    let s1 := connPut s id { c with msgs := c.msgs.filter (fun x => x.msg ≠ m.msg) }
    match m.region with | some r => regionLeave s1 r | none => s1

/-- Every line of a message has completed (R431, R442, R444): a received message is acknowledged and ends, a READ or atomic of
this side completes its entry. -/
def latFinished (s : State) (id msg : Nat) : State :=
  match connFind s id with
  | none => s
  | some c =>
    match c.msgs.find? (fun m => m.msg = msg) with
    | none => s
    | some m =>
      match m.lastPsn with
      | none => s
      | some psn =>
        let s1 := msgEnd s id m
        let c1 := (connFind s1 id).getD c
        match m.kind with
        | .cas | .faa => aeth s1 id { c1 with atomics := (c1.atomics ++ [(psn, m.result)]).drop (c1.atomics.length - 15) } psn
            (fun k => .atomicResp psn m.result k)
        | .send =>
          let c2 := match m.rqe with
            | some (i, _, _, w) => { c1 with rqDone := c1.rqDone ++ [⟨i, w, m.got, .ok⟩] }
            | none => c1
          aeth s1 id c2 psn (fun k => .ack psn k)
        | _ => aeth s1 id c1 psn (fun k => .ack psn k)

/-- A line that the engine read has come (R431, R433, R443): poison ends the entry with MEDIA_POISON, or a served READ with NAK
Remote Operational Error; the last line of a served READ ends it with its response. -/
def latLine (s : State) (id msg : Nat) (poison : Bool) : State :=
  match connFind s id with
  | none => s
  | some c =>
    if msg < rxBase then (if poison then wqeError s id msg .mediaPoison else s)
    else match c.msgs.find? (fun m => m.msg = msg) with
      | none => s
      | some m =>
        let psn := m.lastPsn.getD 0
        if poison then
          connError (emit (bump s Reg.LAT_STAT_NAK_OPERATIONAL 1) (.roce id (.nak psn .operational))) id
        else if m.lines ≤ 1 then
          let s1 := msgEnd s id m
          aeth s1 id ((connFind s1 id).getD c) psn (fun k => .readResp psn m.got k)
        else connPut s id { c with msgs := c.msgs.map (fun x => if x.msg = msg then { x with lines := x.lines - 1 } else x) }

end Sys2Proof.Machine
end

