-- ==== Sys2Proof/Machine/RingOps.lean ====
section
/-!
DEFINITION. Shared operations of the homes on the Girth ring (spec/08): busy lines, their queues, and the start of a snoop
round (R235, R236, R239, R241, R249).
-/
namespace Sys2Proof.Machine

/-- The busy entry of a line at its home. -/
def busyFind (s : State) (dl : Nat) : Option HomeTxn := s.ring.busy.find? (fun t => t.req.line = dl)

/-- The state with the busy entry of a line put in or replaced. -/
def busyPut (s : State) (t : HomeTxn) : State :=
  { s with
    ring := { s.ring with
    busy :=
      (if s.ring.busy.any (fun u => u.req.line = t.req.line)
      then s.ring.busy.map (fun u => if u.req.line = t.req.line then t else u)
      else s.ring.busy ++ [t]) } }

/-- The state with a line no longer busy. -/
def busyDrop (s : State) (dl : Nat) : State :=
  { s with ring := { s.ring with busy := s.ring.busy.filter (fun u => u.req.line ≠ dl) } }

/-- The internal targets of a round (R236): agents 0 to 4 when PEER is set, without the requester and without isolated
agents (R256). -/
def roundTargets (s : State) (dl requester : Nat) : List Nat :=
  if ((treeFind s dl).map TreeLine.peer).getD false then
    (List.range 5).filter (fun a => a ≠ requester ∧ a ∉ s.ring.isolated)
  else []

/-- A request joins the queue of its line. -/
def homeQueue (s : State) (r : HomeReq) : State := { s with ring := { s.ring with queue := s.ring.queue ++ [r] } }

/-- A snoop round sent (R236, R241): the line is busy until its last answer, or until DONE for a request; the round counts
in GRT_STAT_ROUNDS. -/
def startRound (s : State) (r : HomeReq) (inv : Bool) (targets bi : List Nat) (writer : Option Nat) (setB : Bool) :
    State :=
  let s1 := busyPut s { req := r, waiting := targets, begun := s.time, bi := bi, writer := writer,
                        setBit := setB }
  if targets = [] ∧ bi = [] then s1
  else
    let s2 := bump64 s1 Reg.GRT_STAT_ROUNDS_LO_ROUNDS_LO Reg.GRT_STAT_ROUNDS_HI_ROUNDS_HI 1
    let s3 := targets.foldl (fun t a => emit t (.ring (if inv then .snpInv else .snpS) a r.line [])) s2
    let s4 := bump64 s3 Reg.GRT_STAT_BISNP_LO_BISNP_LO Reg.GRT_STAT_BISNP_HI_BISNP_HI bi.length
    bi.foldl (fun t n => emit t (.biSnp n r.line)) s4

/-- The round that a victim with PEER set needs before its way is released (R241). -/
def evictRound (s : State) (v : TreeLine) : State :=
  let r : HomeReq := ⟨v.line, .evict, 16, false⟩
  if (busyFind s v.line).isSome then homeQueue s r
  else startRound s r true (roundTargets s v.line 16) [] none false

end Sys2Proof.Machine
end

