-- ==== Sys2Proof/Machine/Lines.lean ====
section
/-!
DEFINITION. Host lines (spec/01, spec/05, spec/07, spec/13): home runs and home line addresses (R387), shared windows,
regions, the segment map, the reads of a line (R20 to R22), and the release of a line into the Tree cache (R162, R208).
-/
namespace Sys2Proof.Machine

/-! ### Logical devices and shared windows (R128 to R135) -/

/-- An LD's own state. -/
def ldOf (s : State) (n : Nat) : LDev := amGet s.host.lds n {}

/-- The state with an LD's own state replaced. -/
def ldSet (s : State) (n : Nat) (v : LDev) : State :=
  { s with host := { s.host with lds := amSet s.host.lds n v } }

/-- An LD is bound to a port: its base configuration names one (R128). -/
def ldBound (s : State) (n : Nat) : Bool := decide (n ∈ s.host.bound)

/-- The port an LD is bound to. -/
def ldPort (s : State) (n : Nat) : Nat := rd s (Reg.HPT_LD_CFG_PORT n)

/-- The LDs bound to a port, in rising order (R130). -/
def portLds (s : State) (p : Nat) : List Nat :=
  (List.range 64).filter (fun n => ldBound s n && ldPort s n == p)

/-- Segments of an LD's DPA range: 128 to a unit of 256 MiB. -/
def ldSegs (s : State) (n : Nat) : Nat := 128 * rd s (Reg.HPT_LD_SIZE_SIZE n)

/-- A shared window is in use. -/
def windowUsed (s : State) (w : Nat) : Bool := rdb s (Reg.HPT_SW_CFG_ENABLE w)

/-- The LD is a sharer of a window (R134). -/
def isSharer (s : State) (w n : Nat) : Bool :=
  ldBound s n && windowUsed s w && rd s (Reg.HPT_LD_CFG_GROUP n) == rd s (Reg.HPT_SW_CFG_GROUP w)

/-- The sharers of a window, in rising order. -/
def sharers (s : State) (w : Nat) : List Nat := (List.range 64).filter (isSharer s w)

/-- First DPA segment and size in segments of a window. -/
def windowSegs (s : State) (w : Nat) : Nat × Nat :=
  (128 * rd s (Reg.HPT_SW_OFFSET_OFFSET w), 128 * rd s (Reg.HPT_SW_SIZE_SIZE w))

/-- The windows an LD shares. -/
def ldWindows (s : State) (n : Nat) : List Nat := (List.range 64).filter (fun w => isSharer s w n)

/-- The shared window that holds a DPA segment of an LD. -/
def windowAt (s : State) (n seg : Nat) : Option Nat :=
  (ldWindows s n).find? (fun w => decide ((windowSegs s w).1 ≤ seg) &&
    decide (seg < (windowSegs s w).1 + (windowSegs s w).2))

/-- Segments of an LD's windows that lie below a DPA segment. -/
def windowsBelow (s : State) (n seg : Nat) : Nat :=
  ((ldWindows s n).map (fun w => min (windowSegs s w).2 (seg - (windowSegs s w).1))).sum

/-! ### Home runs (R387) -/

/-- The run of a base object: first home segment and size. -/
def runOf (s : State) (base : Nat) : Nat × Nat := amGet s.tier.runs base (0, 0)

/-- The home segment of a DPA segment of an LD: in the window's run where a shared window holds it, else in the LD's run,
which leaves the windows out. -/
def homeSeg (s : State) (n seg : Nat) : Nat :=
  match windowAt s n seg with
  | some w => (runOf s (64 + w)).1 + (seg - (windowSegs s w).1)
  | none => (runOf s n).1 + (seg - windowsBelow s n seg)

/-- The home line address of a DPA byte address of an LD. -/
def homeLine (s : State) (n dpa : Nat) : Nat := homeSeg s n (dpa / 0x200000) * 32768 + dpa % 0x200000 / 64

/-- The base object whose run holds a home segment. -/
def baseOf (s : State) (hs : Nat) : Option Nat :=
  (s.tier.runs.find? (fun r => decide (r.2.1 ≤ hs) && decide (hs < r.2.1 + r.2.2))).map Prod.fst

/-- The LD and DPA segment by which a home segment's region entry is looked up (R211): in a shared window those of the
lowest-numbered sharer. -/
def regionKey (s : State) (hs : Nat) : Nat × Nat :=
  match baseOf s hs with
  | none => (0, hs)
  | some b =>
    let off := hs - (runOf s b).1
    if 64 ≤ b then (((sharers s (b - 64)).head?).getD 0, (windowSegs s (b - 64)).1 + off)
    else
      let ws := ldWindows s b
      (b, ws.foldl (fun seg w => if (windowSegs s w).1 ≤ seg then seg + (windowSegs s w).2 else seg) off)

/-! ### The region attribute table (R207 to R213) -/

/-- A region entry covers a DPA segment of an LD. -/
def regionCovers (s : State) (n seg e : Nat) : Bool :=
  rdb s (Reg.TRE_RGN_CFG_VALID e) && rd s (Reg.TRE_RGN_CFG_LD e) == n &&
  decide (rd s (Reg.TRE_RGN_BASE_BASE e) ≤ seg) &&
  decide (seg < rd s (Reg.TRE_RGN_BASE_BASE e) + rd s (Reg.TRE_RGN_SIZE_SIZE e))

/-- The region entry that applies to a DPA segment of an LD: the lowest-numbered one that covers it (R210). -/
def regionAt (s : State) (n seg : Nat) : Option Nat :=
  if s.csr.all (fun e => decide (e.1 < 0xC4000 * 8) || decide (0xC8000 * 8 ≤ e.1)) then none
  else (List.range 1024).find? (regionCovers s n seg)

/-- A policy code as it is taken: an invalid one as WB (R210). -/
def policyCode (c : Nat) : Nat := if 5 ≤ c then 0 else c

/-- The write policy of a DPA segment of an LD (R207, R208). Compatibility: every region is WB. -/
def policyAt (s : State) (n seg : Nat) : Nat :=
  match regionAt s n seg with
  | some e => policyCode (rd s (Reg.TRE_RGN_CFG_POLICY e))
  | none => policyCode (rd s Reg.TRE_CTRL_DEF_POLICY)

/-- COMPLETE_AT of a DPA segment of an LD: `true` for PAIR (R154); under STREAM it is LOCAL (R155). In compatibility mode
every region completes at PAIR. -/
def completePair (s : State) (n seg : Nat) : Bool :=
  if s.boot.mode = .compat then true
  else if policyAt s n seg = 4 then false
  else match regionAt s n seg with
    | some e => rdb s (Reg.TRE_RGN_CFG_COMPLETE e)
    | none => rdb s Reg.TRE_CTRL_DEF_COMPLETE

/-- A home segment lies in the range of a running policy-change walk (R213). -/
def walking (s : State) (hs : Nat) : Bool :=
  let k := regionKey s hs
  s.tree.walks.any (fun w => w.ld == k.1 && decide (w.base ≤ k.2) && decide (k.2 < w.base + w.size))

/-- The policy a line is served under: WT while a walk has not passed it, UC where every way of its slice is isolated. -/
def linePolicy (s : State) (hs dl : Nat) : Nat :=
  if sliceIsolated s (treeSlice dl) then 3
  else if walking s hs then 1
  else policyAt s (regionKey s hs).1 (regionKey s hs).2

/-! ### The segment map (R386 to R389) -/

/-- A segment record; a home segment with no entry is ZERO in its base object. A segment of the twin's half with no entry is on the
drives, where the twin has left it (R340). -/
def segOf (s : State) (hs : Nat) : Segment :=
  amGet s.tier.segs hs { obj := (baseOf s hs).getD 0, st := if 2 ^ 25 ≤ hs then .t3 else .zero }

/-- The state with a segment record replaced. -/
def segSet (s : State) (hs : Nat) (v : Segment) : State :=
  { s with tier := { s.tier with segs := amSet s.tier.segs hs v } }

/-- The segment's lines stand in a T1 frame (R385); during an eviction they still do (R404). -/
def segResident (g : Segment) : Bool := g.st = .t1 || g.st = .evicting

/-- The DRAM line number of a home line whose segment is resident. -/
def dramOf (s : State) (gl : Nat) : Option Nat :=
  let g := segOf s (gl / 32768)
  if segResident g then some (g.frame * 32768 + gl % 32768) else none

/-- The home line whose working copy stands at a DRAM line. -/
def homeOfDram (s : State) (dl : Nat) : Option Nat :=
  (s.tier.segs.find? (fun e => segResident e.2 && e.2.frame == dl / 32768)).map
    (fun e => e.1 * 32768 + dl % 32768)

/-- The line's poison bit in the segment map (R389). -/
def mapPoisoned (s : State) (gl : Nat) : Bool := decide (gl ∈ (segOf s (gl / 32768)).poison)

/-- The poison bit of a line set or cleared in the segment map. -/
def mapPoison (s : State) (gl : Nat) (p : Bool) : State :=
  let g := segOf s (gl / 32768)
  if p then (if gl ∈ g.poison then s else segSet s (gl / 32768) { g with poison := g.poison ++ [gl] })
  else if gl ∈ g.poison then segSet s (gl / 32768) { g with poison := g.poison.filter (· ≠ gl) } else s

/-! ### Pending bytes in the Welt and the Skive buffer (R20) -/

/-- The Welt entry of a line. -/
def weltFind (s : State) (gl : Nat) : Option WeltEntry := s.per.welt.find? (fun e => e.line = gl)

/-- The Skive line of a line. -/
def skiveFind (s : State) (gl : Nat) : Option SkiveLine := s.per.skive.find? (fun e => e.line = gl)

/-- A Welt entry put in, or replaced in its place. The write sets the retention latch (R526). -/
def weltPut (s : State) (e : WeltEntry) : State :=
  { s with
    boot := { s.boot with retLatch := true }
    per := { s.per with
    welt :=
      (if s.per.welt.any (fun o => o.line = e.line) then s.per.welt.map (fun o => if o.line = e.line then e else o)
      else s.per.welt ++ [e]) } }

/-- The Welt without the entry of a line. -/
def weltDrop (s : State) (gl : Nat) : State :=
  { s with per := { s.per with welt := s.per.welt.filter (fun e => e.line ≠ gl) } }

/-- The Skive buffer without a line. -/
def skiveDrop (s : State) (gl : Nat) : State :=
  { s with per := { s.per with skive := s.per.skive.filter (fun e => e.line ≠ gl) } }

/-- The pending bytes of a line: those of the Skive buffer over those of the Welt. -/
def pendingBytes (s : State) (gl : Nat) : PLine :=
  plineOver ((skiveFind s gl).map SkiveLine.data |>.getD plineEmpty)
    ((weltFind s gl).map WeltEntry.data |>.getD plineEmpty)

/-- The pending line is poisoned (R163). -/
def pendingPoison (s : State) (gl : Nat) : Bool :=
  ((weltFind s gl).map WeltEntry.poisoned |>.getD false) || ((skiveFind s gl).map SkiveLine.poisoned |>.getD false)

/-- The architectural value of a home line (R20): pending bytes over the newest copy, with its poison. A line whose
segment is not resident answers nothing unless all of it is pending; a ZERO segment reads as zero. -/
def lineValue (s : State) (gl : Nat) : Option (Bytes × Bool) :=
  let p := pendingBytes s gl
  let pp := pendingPoison s gl
  if plineFull p then some (plineBytes p, pp)
  else match dramOf s gl with
    | some dl =>
      let v := lineNow s dl
      some (plineBytes (plineOver p (plineOf v.1)), v.2 || pp || mapPoisoned s gl)
    | none =>
      if (segOf s (gl / 32768)).st = .zero then
        some (plineBytes (plineOver p (List.replicate 64 (some 0))), pp || mapPoisoned s gl)
      else none

/-! ### Answers to readers -/

/-- A read answered: the line goes to whoever asked for it. -/
def answerRead (s : State) (who : Reader) (gl : Nat) (data : Bytes) (poison : Bool) : State :=
  match who with
  | .host port ld tag => emit s (.readData port ld tag data poison)
  | .agent a =>
    let s1 := emit s (.ring .dataS a ((dramOf s gl).getD gl) data)
    if poison then emit s1 (.agentPoison a (statusCode .mediaPoison)) else s1
  | .latigo conn msg idx => latLine (emit s (.lineFor conn msg idx data poison)) conn msg poison
  | .refetch => s

/-- The held reads of a line that meet a condition answered with its present value. -/
def answerHeld (s : State) (p : HeldRead → Bool) : State :=
  let rs := s.host.reads.filter p
  let s1 := { s with host := { s.host with reads := s.host.reads.filter (fun r => !p r) } }
  rs.foldl (fun t r => match lineValue t r.line with
    | some v => answerRead t r.who r.line v.1 v.2
    | none => answerRead t r.who r.line (List.replicate 64 0) true) s1

/-- A read held. -/
def holdRead (s : State) (who : Reader) (gl : Nat) (w : ReadWait) : State :=
  { s with host := { s.host with reads := s.host.reads ++ [⟨who, gl, w, s.time⟩] } }

/-! ### Loads (R403, R404) -/

/-- T1 frames that no segment uses and that are not retired or lent. -/
def freeFrames (s : State) : List Nat :=
  (List.range s.tier.t1Frames).filter (fun f => s.tier.segs.all (fun e =>
      !((segResident e.2 || e.2.st = .loading || e.2.st = .moving) && e.2.frame == f) &&
      !(e.2.st = .moving && e.2.toFrame == f)) &&
    !s.dram.retired.contains f && s.tier.borrowers.all (fun b => !b.frames.contains f))

/-- The lowest free T1 frame. -/
def freeFrame (s : State) : Option Nat := (freeFrames s).head?

/-- A load of a segment into T1 begun at a rank, or its rank raised where it already runs (R403, R404 step 1). Its chunks are
read from the drives where it comes from T3. -/
def startLoad (s : State) (hs rank : Nat) : State :=
  let g := segOf s hs
  match g.st with
  | .zero | .t2 | .t3 =>
    match freeFrame s with
    | some f =>
      let s1 := segSet s hs { g with st := .loading, toT2 := if g.st = .t2 then some (g.lender, g.frame) else none,
                                     frame := f, rank := rank, since := s.time, wrote := g.st = .zero }
      if g.st = .t3 then g.chunks.foldl (fun t c => readUnit t c.2.set c.2.stripe c.2.unit) s1
      else if g.st = .t2 then emit s1 (.t2Read g.lender g.frame hs) else s1
    | none => s
  | .loading => segSet s hs { g with rank := min g.rank rank }
  | _ => s

/-- The open stream whose window holds a home segment (R414), with the layer. -/
def streamAt (s : State) (hs : Nat) : Option Stream :=
  let g := segOf s hs
  s.tier.streams.find? (fun t => !t.closing && t.obj == g.obj &&
    (List.range t.window).any (fun k =>
      match t.layers[(t.oldest + k) % max 1 t.layers.length]? with
      | some (o, l) =>
        let b := ((s.tier.objs.find? (fun x => x.id = t.obj)).map TObj.first).getD ((runOf s t.obj).1)
        decide (b + o / 0x200000 ≤ hs) && decide (hs ≤ b + (o + l - 1) / 0x200000)
      | none => false))

/-! ### The Tree cache's part of a read (R201, R204, R205, R208, R215) -/

/-- A read of a resident line that the pending bytes do not cover: served from the write-back buffer, a hit, or held for a
fill, with the allocation, the eviction and the DRAM read that go with it. -/
def treeRead (s : State) (who : Reader) (gl dl : Nat) (port : Option Nat) : State :=
  let pol := linePolicy s (gl / 32768) dl
  match wbbFind s dl, treeFind s dl with
  | some e, _ =>
    if e.fetch then holdRead s who gl .fill
    else match lineValue s gl with
      | some v => answerRead (treeHit s dl) who gl v.1 v.2
      | none => s
  | none, some t =>
    if t.st = .fill then holdRead (treeHit s dl) who gl .fill
    else match lineValue s gl with
      | some v => answerRead (treeHit (treePut s { t with age := 0 }) dl) who gl v.1 v.2
      | none => s
  | none, none =>
    let s0 := treeMiss s dl
    if rdqFull s dl then holdRead s who gl .way
    else if pol = 3 then holdRead (rdqPut s0 dl .direct port) who gl .direct
    else match treeAlloc s0 dl with
      | (.got w, s1) =>
        holdRead (rdqPut (treePut s1 {
          line := dl, way := w, st := .fill, age := insertAge s (pol == 4),
          merge := plineEmpty, peer := match who with | .agent _ => true | _ => false }) dl .fill port) who gl .fill
      | (.snoop v, s1) => holdRead (evictRound s1 v) who gl .way
      | (.held, s1) => holdRead s1 who gl .way

/-- The reads held for a way tried again. -/
def retryWay (s : State) : State :=
  match s.host.reads.find? (fun r => r.wait = .way) with
  | none => s
  | some r =>
    match dramOf s r.line with
    | none => s
    | some dl =>
      treeRead { s with host := { s.host with reads := s.host.reads.filter (fun x => x ≠ r) } } r.who r.line dl none

/-- A read of a home line (R20, R21, R277, R389, R415): from the pending bytes when they cover it, from the segment's
lines when it is resident, and else held for its load. -/
def readLine (s : State) (who : Reader) (gl : Nat) (port : Option Nat) : State :=
  let g := segOf s (gl / 32768)
  let p := pendingBytes s gl
  if s.per.repairs.any (fun r => r.line == gl && r.live) then holdRead s who gl .repair
  else if plineFull p then answerRead s who gl (plineBytes p) (pendingPoison s gl)
  else match dramOf s gl with
    | some dl =>
      let s1 := segSet s (gl / 32768) { g with access := s.lck.count / 64 }
      if (chanOf s (mapChannel s dl)).repairs.any (fun r => r.line == dl && r.fromTwin) then holdRead s1 who gl .repair
      else if (chanOf s (mapChannel s dl)).repairs.any (fun r => r.line == dl) then
        answerRead s1 who gl (List.replicate 64 0) true
      else treeRead s1 who gl dl port
    | none =>
      if s.cin.phase = .commit then answerRead s who gl (List.replicate 64 0) true
      else match streamAt s (gl / 32768) with
        | some t =>
          holdRead (record (setF (bump (startLoad s (gl / 32768) 1) Reg.TIR_ERR_UNDERRUN 1) Reg.TIR_EVENTS_UNDERRUN)
            Ev.STREAM_UNDERRUN 0xFF (le 4 t.id)) who gl (.stream t.id)
        | none => holdRead (startLoad s (gl / 32768) 2) who gl .load

/-! ### The release into the Tree cache (R162, R208) -/

/-- A release onto a way that holds the line, under its policy (R162, R208): a way in FILL keeps the bytes for its data; else they
are merged, and under WRITE_THROUGH sent on through the write-back buffer. -/
def releaseHit (s : State) (t : TreeLine) (pol dl : Nat) (data : PLine) (poison : Bool) (lo : Nat) : Bool × State :=
  if t.leaving then (false, s)
  else if t.st = .fill then
    (true, treePut s { t with
      merge := plineOver data t.merge, age := 0,
      lo := if plineCount t.merge = 0 then lo else min t.lo lo, poison := t.poison || poison })
  else if pol = 1 then
    if wbbFull s (treeSlice dl) then (false, s)
    else (true, wbbPut (treePut (treeHit s dl) { t with
        data := plineBytes (plineOver data (plineOf t.data)), poison := poison || (t.poison && !plineFull data), age := 0, st := .clean })
      ⟨dl, plineOf (plineBytes (plineOver data (plineOf t.data))), poison || (t.poison && !plineFull data),
        if t.st = .dirty then min t.lo lo else lo, false⟩)
  else (true, treePut (treeHit s dl) { t with
    data := plineBytes (plineOver data (plineOf t.data)), poison := poison || (t.poison && !plineFull data), age := 0, st := .dirty,
    lo := if t.st = .dirty then min t.lo lo else lo })

/-- A release of a line that no way holds, through the write-back buffer (R208, R215): a partial line is fetched first. -/
def releaseThru (s : State) (dl : Nat) (data : PLine) (poison : Bool) (lo : Nat) : Bool × State :=
  if wbbFull s (treeSlice dl) then (false, s)
  else if plineFull data then (true, wbbPut (treeMiss s dl) ⟨dl, data, poison, lo, false⟩)
  else (true, rdqPut (wbbPut (treeMiss s dl) ⟨dl, data, poison, lo, true⟩) dl .wbb none)

/-- A release that allocates a way (R203, R208): a whole line is DIRTY at once, a partial one in FILL until its data arrives. -/
def releaseAlloc (s : State) (pol dl : Nat) (data : PLine) (poison fromSkive : Bool) (lo : Nat) : Bool × State :=
  match treeAlloc (treeMiss s dl) dl with
  | (.got w, s1) =>
    if plineFull data then
      (true, treePut s1 {
        line := dl, way := w, st := .dirty, age := insertAge s (fromSkive || pol == 4),
        data := plineBytes data, poison := poison, lo := lo })
    else
      (true, rdqPut (treePut s1 {
        line := dl, way := w, st := .fill,
        age := insertAge s (fromSkive || pol == 4), merge := data, poison := poison, lo := lo }) dl .fill none)
  | (.snoop v, s1) => (false, evictRound s1 v)
  | (.held, s1) => (false, s1)

/-- A release of valid bytes of a line into the Tree cache under its policy (R162, R208, R215): merged on a hit, allocated
or sent through the write-back buffer on a miss; a partial miss fetches the line first. The Bool says that
the release took place; it does not where the slice holds it: its way, its victim's round or its write-back buffer is not
ready. -/
def treeRelease (s : State) (gl dl : Nat) (data : PLine) (poison fromSkive : Bool) (lo : Nat) : Bool × State :=
  let pol := linePolicy s (gl / 32768) dl
  match treeFind s dl with
  | some t => releaseHit s t pol dl data poison lo
  | none =>
    match wbbFind s dl with
    | some e => (true, wbbPut (treeHit s dl) ⟨dl, data, poison, min e.lo lo, false⟩)
    | none =>
      if plineFull data = false ∧ rdqFull s dl then (false, s)
      else if pol = 1 ∨ pol = 2 ∨ pol = 3 then releaseThru s dl data poison lo
      else releaseAlloc s pol dl data poison fromSkive lo

end Sys2Proof.Machine
end

