-- ==== Sys2Proof/Machine/LxOps.lean ====
section
/-!
DEFINITION. The endpoints and rings of LX-310 compatibility mode (spec/22): access, and the end of a command.
-/
namespace Sys2Proof.Machine

/-- An endpoint. -/
def lxEp (s : State) (e : Nat) : LxEp := amGet s.lx.eps e {}

/-- An endpoint replaced. -/
def lxEpSet (s : State) (e : Nat) (v : LxEp) : State := { s with lx := { s.lx with eps := amSet s.lx.eps e v } }

/-- A ring. -/
def lxRing (s : State) (e r : Nat) : LxRing := amGet (lxEp s e).rings r {}

/-- A ring replaced. -/
def lxRingSet (s : State) (e r : Nat) (v : LxRing) : State :=
  lxEpSet s e { lxEp s e with rings := amSet (lxEp s e).rings r v }

/-- A command of a ring ended with a status, at this line time (R589). -/
def lxDone (s : State) (e r idx : Nat) (st : Status) : State :=
  let v := lxRing s e r
  lxRingSet s e r { v with
  cmds := v.cmds.map (fun (c : LxCmd) =>
    if c.idx = idx ∧ c.done = none then { c with done := some (st, s.lck.count * 1024 + s.lck.phase), waits := none } else c) }

/-- The LX code of a status (R591). -/
def lxCode (st : Status) : Nat :=
  match st with
  | .ok | .okCorrected => 0x00
  | .length | .alignment | .badDescriptor => 0x01
  | .access | .keyRevoked | .quota | .sealedRefused => 0x02
  | .busyRetry | .timeout => 0x03
  | .mediaPoison | .streamDeadline => 0x04
  | .notReady => 0x05
  | .aborted | .abortTooLate | .functionDisabled => 0x06
  | .partnerViolation | .internal => 0x07

end Sys2Proof.Machine
end

