-- ==== Sys2Proof/Machine/TwinOps.lean ====
section
/-!
DEFINITION. Shared operations of the Stirrup link (spec/11): sending frames, mirroring lines, and the mirror pool.
-/
namespace Sys2Proof.Machine

/-- The state with the twin part replaced. -/
def twinSet (s : State) (t : Twin) : State := { s with twin := t }

/-- The link carries frames between the two: it is up, and the twin is neither contained nor INCOMPATIBLE (R171). -/
def linkCarries (s : State) : Bool :=
  (s.twin.link = .hello || s.twin.link = .resync || s.twin.link = .paired) && !contained s .twin

/-- Mirror frames are sent: the handshake has begun this controller's walk, or PAIR is available (R345). -/
def mirrorOn (s : State) : Bool := linkCarries s && (s.per.pairAvail || s.twin.resync.isSome)

/-- A line's bytes sent as MIRROR, or as MIRROR_FULL where all of them are there (R327, R328); the frame takes the next
sequence. -/
def mirrorSend (s : State) (gl : Nat) (data : PLine) : State :=
  let f : MirFrame := ⟨s.twin.txSeq, gl, data, plineFull data⟩
  emit (twinSet s { s.twin with txSeq := s.twin.txSeq + 1, unacked := s.twin.unacked ++ [f],
                                sentAt := s.twin.sentAt ++ [(f.seq, s.time)] })
    (.twinMirror f.full f.seq gl data)

/-- The sequence that the next mirror frame takes, if frames are sent. -/
def mirrorSeqNext (s : State) : Option Nat := if mirrorOn s then some s.twin.txSeq else none

/-- A line mirrored where frames are sent. -/
def mirrorLine (s : State) (gl : Nat) (data : PLine) : State := if mirrorOn s then mirrorSend s gl data else s

/-- A mirror sequence is covered by the twin's acknowledgement (R327). -/
def mirAcked (s : State) (q : Option Nat) : Bool :=
  match q with
  | some n => decide (n < s.twin.txAcked)
  | none => false

/-- The pool frame of a granule of the twin's home range. -/
def poolFind (s : State) (gran : Nat) : Option PoolFrame := s.twin.pool.find? (fun f => f.gran = gran)

/-- The line of a pool frame. -/
def PoolFrame.line (f : PoolFrame) (off : Nat) : PLine := amGet f.lines off plineEmpty

/-- Partial lines of a frame. -/
def PoolFrame.partials (f : PoolFrame) : Nat := (f.lines.filter (fun l => !plineFull l.2)).length

/-- A mirror frame can be stored (R330): its granule has a pool frame with room for a partial line, or a frame is free. -/
def poolRoom (s : State) (f : MirFrame) : Bool :=
  match poolFind s (f.line / 64) with
  | some p =>
    f.full || (amFind p.lines (f.line % 64)).isSome || decide (p.partials < 28)
  | none => decide (s.twin.pool.length < s.cin.poolFrames)

/-- A mirror frame stored in the pool (R328). -/
def poolStore (s : State) (f : MirFrame) : State :=
  let p := (poolFind s (f.line / 64)).getD ⟨f.line / 64, 0, []⟩
  let l := if f.full then f.data else plineOver f.data (p.line (f.line % 64))
  let p1 : PoolFrame := { p with newest := f.seq, lines := amSet p.lines (f.line % 64) l }
  twinSet s { s.twin with
    pool := if s.twin.pool.any (fun x => x.gran = p1.gran)
      then s.twin.pool.map (fun x => if x.gran = p1.gran then p1 else x) else s.twin.pool ++ [p1]
    rxNext := f.seq + 1 }

/-- A MIRROR_ACK sent for everything stored in order (R327). -/
def sendMirrorAck (s : State) : State := emit s (.twinFrame 0x12 (s.twin.rxNext - 1) 0 [])

/-- Waiting frames stored while they fit, in sequence order (R330). -/
def poolDrain (s : State) : Nat → State
  | 0 => s
  | k + 1 =>
    match s.twin.waiting with
    | [] => twinSet s { s.twin with poolFullEp := false }
    | f :: r =>
      if poolRoom s f then poolDrain (poolStore (twinSet s { s.twin with waiting := r }) f) k else s

end Sys2Proof.Machine
end

