-- ==== Sys2Proof/Machine/PersistOps.lean ====
section
/-!
DEFINITION. Shared operations of persistence (spec/06): acceptance of writes into the Welt, their completion, the Skive
buffer, release to the Tree cache, barriers, and the change of PAIR.
-/
namespace Sys2Proof.Machine

/-! ### Host-held bits (R245 to R249) -/

/-- The line lies in a shared window. -/
def inWindow (s : State) (gl : Nat) : Option Nat :=
  match baseOf s (gl / 32768) with
  | some b => if 64 ≤ b ∧ b < 128 then some (b - 64) else none
  | none => none

/-- The host-held bit of a line (R245, R251): set until a round clears it. -/
def hostHeld (s : State) (gl : Nat) : Bool := (inWindow s gl).isSome && !s.ring.hhClear.contains gl

/-- The host-held bit of a line set or cleared, with its copy in the Tree tag (R245). -/
def hhSet (s : State) (gl : Nat) (v : Bool) : State :=
  let c := s.ring.hhClear.filter (· ≠ gl)
  { s with ring := { s.ring with hhClear := if v then c else c ++ [gl] } }

/-- The sharers that a back-invalidate snoop goes to (R249): every sharer but the writing LD that is not fenced. -/
def biTargets (s : State) (gl : Nat) (writer : Option Nat) : List Nat :=
  match inWindow s gl with
  | some w => if hostHeld s gl then (sharers s w).filter (fun n => some n ≠ writer ∧ (ldOf s n).fenced = false) else []
  | none => []

/-- The key under which a home line is busy: its DRAM line where it is resident. -/
def ringKey (s : State) (gl : Nat) : Nat := (dramOf s gl).getD (2 ^ 40 + gl)

/-! ### Completion (R154, R157, R182, R301) -/

/-- What follows when every line of a writer that is no host has completed. -/
def writerFinished (s : State) (who : Writer) : State :=
  match who with
  | .latigo conn msg => latFinished s conn msg
  | .lx ep ring idx => lxDone s ep ring idx .ok
  | _ => s

/-- One line of a writer that is no host completed; the last one is announced. -/
def lineCompleted (s : State) (who : Writer) : State :=
  match s.host.left.find? (fun e => e.1 = who) with
  | some e =>
    let r := s.host.left.filter (fun x => x.1 ≠ who)
    if e.2 ≤ 1 then writerFinished (emit { s with host := { s.host with left := r } } (.writerDone who)) who
    else { s with host := { s.host with left := r ++ [(who, e.2 - 1)] } }
  | none => s

/-- The reads of a port that waited for writes received before them, once those have completed (R587). -/
def postedReads (s : State) (port : Nat) : State :=
  let due := s.host.reads.filter (fun r => match r.who, r.wait with
    | .host p _ _, .posted k => p == port && !s.host.writes.any (fun v =>
        decide (v.seq ≤ k) && (match v.who with | .host q _ _ => q == port | _ => false))
    | _, _ => false)
  due.foldl (fun t r => readLine { t with host := { t.host with reads := t.host.reads.filter (fun x => x ≠ r) } } r.who r.line
    (some port)) s

/-- The completion of a write sent: to its host, or counted for its writer. A posted write of compatibility mode carries none
(R587). -/
def sendCompletion (s : State) (w : HeldWrite) : State :=
  match w.who with
  | .host port ld tag => if s.boot.mode = .compat then postedReads s port else emit s (.writeDone port ld tag)
  | _ => lineCompleted s w.who

/-- A write has reached the level its completion stands for, and its round has ended (R154, R158, R241). -/
def writeReached (s : State) (w : HeldWrite) : Bool :=
  (!w.pair || !s.per.pairAvail || mirAcked s w.mir) && !w.round

/-- An earlier write to the same line waits (R182). -/
def earlierWaits (s : State) (w : HeldWrite) : Bool :=
  s.host.writes.any (fun v => v.line == w.line && decide (v.seq < w.seq))

/-- The bytes of a LOCAL line sent to the twin after its completion (step 5 of the host write path). -/
def mirrorAfter (s : State) (w : HeldWrite) : State :=
  match weltFind s w.line with
  | some e => if w.pair ∨ mirrorOn s = false then s
    else mirrorSend (weltPut s { e with mirrorSeq := some s.twin.txSeq }) w.line e.data
  | none => s

/-- During failback the dirty bytes of the twin's half are held to FAILBACK_CAP by admission (R347). -/
def failbackFull (s : State) (gl : Nat) : Bool :=
  s.twin.failback && decide (2 ^ 40 ≤ gl) &&
  decide (rd s Reg.STP_CTRL_FAILBACK_CAP * 2 ^ 20 ≤ 4096 * (s.cin.granules.filter (fun g =>
    s.tier.segs.any (fun e => decide (2 ^ 25 ≤ e.1) && segResident e.2 && e.2.frame == g.1 / 512))).length)

/-- A held write completed where it may be: level reached, round ended, its place in the line's order, and admission. -/
def tryComplete (s : State) (id : Nat) : State :=
  match s.host.writes.find? (fun w => w.id = id) with
  | none => s
  | some w =>
    if writeReached s w && !earlierWaits s w then
      match (if failbackFull s w.line then (false, s) else takeAdmission s) with
      | (true, s1) =>
        mirrorAfter (sendCompletion
          { s1 with host := { s1.host with writes := s1.host.writes.filter (fun v => v.id ≠ id) } } w) w
      | (false, s1) =>
        { s1 with
            host := { s1.host with
            writes := s1.host.writes.map (fun v => if v.id = id then { v with admission := true } else v) } }
    else s

/-- Every held write completed that may be, oldest first. -/
def completeAll (s : State) : State := (s.host.writes.map HeldWrite.id).foldl tryComplete s

/-! ### Acceptance (R14, R160, R293) -/

/-- The Welt has an entry for a line, or room for one in its bank (R14, R160). -/
def weltRoom (s : State) (gl : Nat) : Bool :=
  (weltFind s gl).isSome || decide (s.per.welt.length < 15360) ||
  decide ((s.per.welt.filter (fun e => Config.weltBank e.line = Config.weltBank gl)).length < 15360)

/-- A write that reaches a segment that is being evicted cancels the eviction (R404). -/
def cancelEvict (s : State) (hs : Nat) : State :=
  let g := segOf s hs
  if g.st = .evicting then bump (segSet s hs { g with st := .t1, wrote := true }) Reg.TIR_ERR_CANCELLED 1 else s

/-- A write's effect on its segment: an eviction cancelled, or a load begun for a segment that is not resident. -/
def touchSegment (s : State) (hs : Nat) : State :=
  if segResident (segOf s hs) then cancelEvict s hs else startLoad s hs 2

/-- Bytes merged into the line's Welt entry with an accept sequence (R160, R161): a full line ends poison. -/
def weltMerge (s : State) (ld gl : Nat) (data : PLine) (fromSkive : Bool) (seqs : List Nat) (mir : Option Nat) : State :=
  match weltFind s gl with
  | some e => weltPut s { e with
      data := plineOver data e.data, ld := ld, fromSkive := fromSkive,
      seqs := e.seqs ++ seqs, mirrorSeq := match mir with | some q => some q | none => none,
      poisoned := e.poisoned && !plineFull data }
  | none => weltPut s { line := gl, data := data, ld := ld, fromSkive := fromSkive, seqs := seqs, mirrorSeq := mir,
                        poisoned := false, resident := (dramOf s gl).isSome }

/-- Bytes written to a pending line: a repair of one of them is no longer needed (R163). -/
def repairWritten (s : State) (gl : Nat) (data : PLine) : State :=
  { s with
    per := { s.per with
    repairs := s.per.repairs.map (fun (r : WeltRepair) =>
      if r.line = gl ∧ (data.getD r.byte none).isSome then { r with live := false } else r) } }

/-- The round that a host-path write starts when its home sequences it (R241, R249): internal agents where PEER is set,
sharers where the host-held bit is set. The Bool says that the write's completion waits for it. -/
def writeRound (s : State) (wid gl : Nat) (writer : Option Nat) (setB : Bool) : Bool × State :=
  let k := ringKey s gl
  let r : HomeReq := ⟨k, .hostWrite wid, 16, false⟩
  let bi := biTargets s gl writer
  if (busyFind s k).isSome then (true, homeQueue s r)
  else if roundTargets s k 16 = [] ∧ bi = [] then (false, s)
  else (true, startRound s r true (roundTargets s k 16) bi writer setB)

/-- A write accepted into the Welt (R14, R133, R154, R160, R241, R293): merged, mirrored where its region is PAIR, sequenced
at its home, and completed when its level, its round and admission allow. `none` where the Welt has no room. -/
def acceptWrite (s : State) (who : Writer) (ld gl : Nat) (data : PLine) (pair setB : Bool) : Option State :=
  if weltRoom s gl then
    let q := s.per.acceptSeq + 1
    let wid := s.host.nextWrite
    let mir := if pair then mirrorSeqNext s else none
    let s1 := weltMerge (repairWritten (touchSegment { s with per := { s.per with acceptSeq := q } } (gl / 32768)) gl data)
      ld gl data false [q] mir
    let s2 := if plineFull data then mapPoison s1 gl false else s1
    let s3 := match dramOf s2 gl with | some dl => markDirty s2 dl q | none => s2
    let s4 := if pair then mirrorLine s3 gl data else s3
    let wr_ := match who with | .host _ l _ => some l | _ => none
    let (rnd, s5) := writeRound s4 wid gl wr_ setB
    let s6 := { s5 with
      host := { s5.host with
      nextWrite := wid + 1,
      writes := s5.host.writes ++ [⟨wid, who, gl, q, pair, mir, rnd, false, s.time⟩] } }
    some (tryComplete (admitUpdate s6) wid)
  else none

/-! ### The Skive buffer (R164 to R167) -/

/-- A Skive line closed into the Welt as a partial write of its region (R166): it keeps its accept sequences. `none` where
its Welt bank is full. -/
def skiveClose (s : State) (e : SkiveLine) : Option State :=
  if weltRoom s e.line then
    let mir := mirrorSeqNext s
    some (mirrorLine (weltMerge (skiveDrop s e.line) e.ld e.line e.data true e.seqs mir) e.line e.data)
  else none

/-- Every partial Skive line that meets a condition closed where its bank has room. -/
def skiveCloseWhere (s : State) (p : SkiveLine → Bool) : State :=
  (s.per.skive.filter (fun e => !plineFull e.data && p e)).foldl
    (fun t e => (skiveClose t e).getD t) s

/-- An assembled Skive line written to DRAM once its mirror copy is acknowledged, or at once while PAIR is unavailable
(R19, R165): the home slice first gives up any copy. The line stays where its segment is not resident, a round must end
first, or the write queue is full. -/
def skiveWrite (s : State) (e : SkiveLine) : State :=
  if plineFull e.data && (!s.per.pairAvail || mirAcked s e.mirrorSeq) && !s.per.repairs.any (fun r => r.line == e.line) then
    match dramOf s e.line with
    | none => startLoad s (e.line / 32768) 2
    | some dl =>
      if (busyFind s dl).isSome ∨ wrqFull s dl then s
      else if roundTargets s dl 16 ≠ [] then startRound s ⟨dl, .skive, 16, false⟩ true (roundTargets s dl 16) [] none false
      else
        let s1 := treeDrop s dl
        let s2 := { s1 with tree := { s1.tree with wbb := s1.tree.wbb.filter (fun w => w.line ≠ dl) } }
        markDirty (mapPoison (wrqPut (skiveDrop s2 e.line) dl (plineBytes e.data) e.poisoned) e.line false) dl
          (e.seqs.foldl min (e.seqs.headD 0))
  else s

/-- Every assembled Skive line that may be written to DRAM. -/
def skiveWriteAll (s : State) : State := (s.per.skive.filter (fun e => plineFull e.data)).foldl skiveWrite s

/-! ### Release to the Tree cache (R15, R16, R162) -/

/-- A repair of a line or of one of its pending bytes is open (R163, R277). -/
def repairing (s : State) (gl : Nat) : Bool :=
  s.per.repairs.any (fun r => r.line == gl) ||
  (match dramOf s gl with
   | some dl => (chanOf s (mapChannel s dl)).repairs.any (fun r => r.line == dl)
   | none => false)

/-- A Welt entry may be released (R15, R16): no write of it waits for its completion, the twin has acknowledged its mirror
copy or PAIR is unavailable, and its segment is resident. -/
def weltReady (s : State) (e : WeltEntry) : Bool :=
  s.host.writes.all (fun w => w.line ≠ e.line) && (!s.per.pairAvail || mirAcked s e.mirrorSeq) &&
  (dramOf s e.line).isSome && !(busyFind s (ringKey s e.line)).isSome && !repairing s e.line

/-- The Welt or the Skive buffer holds a line of a home segment. -/
def weltHolds (s : State) (hs : Nat) : Bool :=
  s.per.welt.any (fun e => e.line / 32768 == hs) || s.per.skive.any (fun e => e.line / 32768 == hs)

/-- A Welt entry released to the Tree cache (R15, R16, R162, R293, R329): a partial line's merged line goes to the twin as
MIRROR_FULL. The state is unchanged but for what the slice does where it holds the release. -/
def weltRelease (s : State) (e : WeltEntry) : State :=
  match dramOf s e.line with
  | none => s
  | some dl =>
    let lo := e.seqs.foldl min (e.seqs.headD 0)
    match treeRelease s e.line dl e.data (e.poisoned || (mapPoisoned s e.line && !plineFull e.data)) e.fromSkive lo with
    | (false, t) => t
    | (true, t) =>
      let t1 := weltDrop (if e.resident then t else markDirty t dl lo) e.line
      let v := lineNow t1 dl
      if plineFull e.data ∨ mirrorOn t1 = false then admitUpdate t1
      else match treeFind t1 dl with
        | some l => if l.st = .fill then admitUpdate t1 else admitUpdate (mirrorSend t1 e.line (plineOf v.1))
        | none => admitUpdate t1

/-! ### Events of CXL event logs (R138) -/

/-- A CXL event record placed in an LD's log, with the interrupt its policy asks for. -/
def cxlEvent (s : State) (n log code : Nat) : State :=
  let d := ldOf s n
  let s1 := ldSet s n { d with events := d.events ++ [⟨log, d.nextHandle, code⟩], nextHandle := d.nextHandle + 1 }
  if bit d.eventPolicy log then emit s1 (.eventInt n log) else s1

/-! ### Barriers (R169 to R177) -/

/-- The LDs a barrier's scope covers (R169, R171): the ringing LD, its group, or every LD served. -/
def scopeLds (s : State) (ld scope : Nat) : List Nat :=
  let grp := rd s (Reg.HPT_LD_CFG_GROUP ld)
  if scope = 0 ∨ (scope = 1 ∧ grp = 0x3F) then [ld]
  else if scope = 1 then (List.range 64).filter (fun n => ldBound s n && rd s (Reg.HPT_LD_CFG_GROUP n) == grp)
  else List.range 64

/-- A home line lies in a barrier's scope: in the run of a covered LD or in a window that one of them shares. -/
def lineInScope (s : State) (lds : List Nat) (gl : Nat) : Bool :=
  match baseOf s (gl / 32768) with
  | some b => if 64 ≤ b then lds.any (fun n => isSharer s (b - 64) n) else lds.contains b
  | none => true

/-- Some accept sequence is covered by a barrier: at or before its start point and completed by then. -/
def seqCovered (b : Barrier) (qs : List Nat) : Bool := qs.any (fun q => decide (q ≤ b.start) && !b.except.contains q)

/-- A least accept sequence lies at or before the start point. -/
def loCovered (b : Barrier) (lo : Nat) : Bool := decide (lo ≤ b.start)

/-- Every covered byte of a barrier is at its level (R172). -/
def barrierReached (s : State) (b : Barrier) : Bool :=
  let lds := scopeLds s b.ld b.scope
  let sk := s.per.skive.filter (fun e => lds.contains e.ld && seqCovered b e.seqs)
  let wl := s.per.welt.filter (fun e => lds.contains e.ld && seqCovered b e.seqs)
  match b.served with
  | 0 => sk.all (fun e => plineFull e.data)
  | 1 => sk.all (fun e => plineFull e.data && mirAcked s e.mirrorSeq) && wl.all (fun e => mirAcked s e.mirrorSeq)
  | _ => sk.isEmpty && wl.isEmpty &&
    s.tree.lines.all (fun t => !((t.st = .dirty || (t.st = .fill && decide (0 < plineCount t.merge))) && loCovered b t.lo &&
      ((homeOfDram s t.line).map (lineInScope s lds)).getD true)) &&
    s.tree.wbb.all (fun e => !(loCovered b e.lo && ((homeOfDram s e.line).map (lineInScope s lds)).getD true)) &&
    s.cin.granules.all (fun g => !(((g.2.st ≠ .taken && loCovered b g.2.lo) ||
      (g.2.st ≠ .dirty && loCovered b g.2.takenLo)) && ((homeOfDram s (g.1 * 64)).map (lineInScope s lds)).getD true))

/-- The latency registers of a level (WLT_BLAT_*) take a barrier's time, in the unit the register holds. -/
def barrierLat (s : State) (b : Barrier) : State :=
  let us := (s.time - b.startTime) / 25600
  match b.level with
  | 0 => raiseTo (wr s Reg.WLT_BLAT_LOCAL_LAST (satTo 0xFFFF us)) Reg.WLT_BLAT_LOCAL_MAX us
  | 1 => raiseTo (wr s Reg.WLT_BLAT_PAIR_LAST (satTo 0xFFFF us)) Reg.WLT_BLAT_PAIR_MAX us
  | _ => raiseTo (wr s Reg.WLT_BLAT_MEDIA_LAST (satTo 0xFFFF (us / 1000))) Reg.WLT_BLAT_MEDIA_MAX (us / 1000)

/-- The line timestamp as one 50-bit word (R143): count above phase. -/
def lineStamp (s : State) : Nat := s.lck.count * 1024 + s.lck.phase

/-- The 16 bytes of a doorbell record (R143). -/
def doorbellRecord (s : State) (token : Nat) (st : Status) (scope level : Nat) : Bytes :=
  le 2 token ++ le 1 (statusCode st) ++ le 1 (scope + 4 * level) ++ le 4 0 ++ le 8 (lineStamp s)

/-- A doorbell record written to the host, with its MSI-X (R143); while the port's link is down it is counted as dropped
(R148). -/
def writeRecord (s : State) (ld addr token : Nat) (st : Status) (scope level : Nat) (intr : Bool) (vec : Nat) : State :=
  let p := ldPort s ld
  if rdb s (Reg.HPT_PORT_STATUS_LINK_UP p) then
    let s1 := emit s (.hostMem ld addr (doorbellRecord s token st scope level))
    if intr then emit s1 (.msix ld vec) else s1
  else { s with host := { s.host with dropped := amSet s.host.dropped p (amGet s.host.dropped p 0 + 1) } }

/-- What ending a barrier does for whoever rang it (R143, R171, R179, R590). -/
def barrierAnswer (s : State) (b : Barrier) (st : Status) : State :=
  match b.by_ with
  | .doorbell ld slot token intr vec =>
    let d := ldOf s ld
    let sl := amGet d.slots slot {}
    let s1 := writeRecord s ld sl.addr token st b.scope b.level intr vec
    if rdb s (Reg.HPT_PORT_STATUS_LINK_UP (ldPort s ld)) then
      ldSet s1 ld { ldOf s1 ld with slots := amSet (ldOf s1 ld).slots slot { sl with busy := false } }
    else s1
  | .gpf phase port =>
    let s1 := emit (wr s Reg.WLT_GPF_PHASE 0) (.gpfAck port phase)
    if phase = 2 ∧ b.served = 0 then record s1 Ev.GPF_SERVED 0xFF (le 1 b.served) else s1
  | .ring ep r idx => lxDone s ep r idx st
  | .twinReq tag => emit s (.twinFrame 0x51 tag (statusCode st) [])

/-- A barrier ended with a status (R172, R175). -/
def endBarrier (s : State) (b : Barrier) (st : Status) : State :=
  let s1 := { s with per := { s.per with barriers := s.per.barriers.filter (fun x => x.id ≠ b.id) } }
  barrierAnswer (if st = .ok then barrierLat s1 b else if st = .notReady then bump s1 Reg.WLT_BAR_ERR_NOT_READY 1 else s1)
    b st

/-- The level a barrier is served at (R158, R179): PAIR as MEDIA while PAIR is unavailable, Phase 2 of a GPF as LOCAL. -/
def servedLevel (s : State) (by_ : BarrierBy) (level : Nat) : Nat :=
  if level = 1 ∧ s.per.pairAvail = false then (match by_ with | .gpf _ _ => 0 | _ => 2) else level

/-- A barrier begun (R142, R169, R171): its start point is fixed, covered partial Skive lines are closed (R166), and an
APPLIANCE barrier asks the twin for its part where a request can be sent. -/
def startBarrier (s : State) (by_ : BarrierBy) (ld scope level : Nat) : State :=
  let ask : Bool := decide (scope = 2) && linkCarries s && (match by_ with | .twinReq _ => false | _ => true)
  let b : Barrier := {
    id := s.per.nextBarrier, by_ := by_, ld := ld, scope := scope, level := level,
    served := servedLevel s by_ level, start := s.per.acceptSeq, startTime := s.time,
    except := s.host.writes.map HeldWrite.seq, twinTag := if ask then some s.per.nextBarrier else none }
  let s1 := { s with per := { s.per with barriers := s.per.barriers ++ [b], nextBarrier := s.per.nextBarrier + 1 } }
  let s2 := skiveCloseWhere s1 (fun e => (scopeLds s ld scope).contains e.ld && seqCovered b e.seqs)
  if ask then emit s2 (.twinFrame 0x50 b.id level []) else s2

/-! ### PAIR (R158, R159, R177) -/

/-- PAIR becomes unavailable (R158, R177): on a change, record 0x4001 and a warning event in every LD's log; PAIR barriers
go on as MEDIA barriers; writes to PAIR regions complete at LOCAL; assembled Skive lines go to DRAM. -/
def pairLost (s : State) : State :=
  if s.per.pairAvail then
    let s1 := { s with
      per := { s.per with
        pairAvail := false
        barriers := s.per.barriers.map (fun b =>
          if b.served = 1 then
            { b with served := (match b.by_ with | .gpf _ _ => 0 | _ => 2), startTime := s.time } else b) } }
    let s2 := record (setF s1 Reg.WLT_EVENTS_PAIR_LOST) Ev.PAIR_UNAVAILABLE 0xFF []
    skiveWriteAll (completeAll (s.host.bound.foldl (fun t n => cxlEvent t n 1 0x4001) s2))
  else s

/-- PAIR becomes available again (R159). -/
def pairBack (s : State) : State :=
  if s.per.pairAvail then s
  else record (setF { s with per := { s.per with pairAvail := true } } Reg.WLT_EVENTS_PAIR_BACK)
    Ev.PAIR_RESTORED 0xFF []

end Sys2Proof.Machine
end

