-- ==== Sys2Proof/Machine/Reaction.lean ====
section
/-!
DEFINITION. The shared operations of the fault manager (spec/16), of the entry to WARN and COMMIT (R311 to R315), of the
start of a warm reset (R532, R534), and of violations by hosts and the twin (R150, R151, R350).
-/
namespace Sys2Proof.Machine

/-! ### Units, groups and functions (R479, R480, R582) -/

/-- The top nibble n of the records 0xnFxx of a unit. -/
def unitNibble (u : FUnit) : Nat :=
  match u with
  | .rail _ | .domain _ | .pommel => 0x1
  | .lineClock => 0x2
  | .port _ | .hostNode _ | .ld _ => 0x3
  | .welt => 0x4
  | .treeWay _ _ | .ring | .agent _ => 0x5
  | .channel _ | .scrub => 0x6
  | .drain => 0x7
  | .mirror | .stirrup => 0x8
  | .awl | .stripeSet _ | .drive _ => 0x9
  | .tier | .segCache => 0xA
  | .latigo => 0xB
  | .buckle | .core _ => 0xC
  | .flash | .keeper _ | .recorder => 0xD
  | .config | .tack => 0xE

/-- The fault group of a unit (R480); `none` for a unit whose S3 is raised to S4. -/
def groupOf (u : FUnit) : Option FGroup :=
  match u with
  | .port p => some (.hostQuad (p / 4))
  | .hostNode q => some (.hostQuad q)
  | .latigo => some .latigo
  | .tier => some .tier
  | .keeper k => if 4 ≤ k then some .clusterB else none
  | .recorder => some .recorder
  | .flash => some .flash
  | .stripeSet n => some (.stripeSet n)
  | .agent a => if a = 1 then some .clusterB else if a = 2 then some .latigo else if a = 3 then some .tier else none
  | _ => none

/-- The function that an S2 reaction passes through QUIESCING and DISABLED and then resets (R479). -/
def unitFn (u : FUnit) : Option Fn :=
  match u with
  | .latigo => some .lat
  | .buckle => some .bkl
  | .tier => some .tir
  | .recorder => some .stm
  | .flash => some .fls
  | .keeper k => if 4 ≤ k then some .kcb else none
  | .agent a => if a = 1 then some .kcb else if a = 2 then some .lat else if a = 3 then some .tir else none
  | _ => none

/-- The functions of a fault group (R480). -/
def groupFns (g : FGroup) : List Fn :=
  match g with
  | .hostQuad q => [.port (4 * q), .port (4 * q + 1), .port (4 * q + 2), .port (4 * q + 3)]
  | .latigo => [.lat]
  | .tier => [.tir]
  | .clusterB => [.kcb]
  | .recorder => [.stm]
  | .flash => [.fls]
  | .stripeSet _ => []
  | .rail _ => []

/-- The state of a function (R495): ENABLED where nothing is listed; host ports and LDs start DISABLED. -/
def fnOf (s : State) (f : Fn) : FnState :=
  match s.fm.fns.find? (fun e => e.1 = f) with
  | some e => e.2
  | none => match f with
    | .port _ | .ld _ => { phase := .disabled }
    | _ => {}

/-- The state with a function's state replaced. -/
def fnSet (s : State) (f : Fn) (v : FnState) : State :=
  { s with fm := { s.fm with fns := s.fm.fns.filter (fun e => e.1 ≠ f) ++ [(f, v)] } }

/-- The function takes new work (R495). -/
def fnOpen (s : State) (f : Fn) : Bool := (fnOf s f).phase = .enabled

/-- DISABLE_ABORT_TIME (OD 0x2040:01). -/
def disableAbort (s : State) : Nat := msec (odNum s 0x204001 2 10)

/-- A function asked to pass through QUIESCING, with what is wanted after it and its abort time (R495): QUIESCING is entered at the
next tick boundary, and the abort time runs from there. -/
def fnQuiesce (s : State) (f : Fn) (want : FnWant) (abort : Nat) : State :=
  let v := fnOf s f
  if v.phase = .enabled then fnSet s f { phase := .enabled, want := want, abortTime := abort, aborted := 0 }
  else fnSet s f { v with want := want }

/-- A function that is asked to at a tick boundary enters QUIESCING. -/
def fnEnter (s : State) (f : Fn) : State :=
  let v := fnOf s f
  if v.phase = .enabled ∧ v.want ≠ .none then fnSet s f { v with phase := .quiescing, abortTime := s.time + v.abortTime } else s

/-! ### Host violations (R150, R151) -/

/-- The state with an LD contained, by its own violations or by those of its port (R151). -/
def containLd (s : State) (n : Nat) : State :=
  record (setF (conductSet s (.ld n) { times := [], contained := some (s.time + secs 60) })
    (Reg.HPT_PORT_EVENTS_CONTAINED (ldPort s n))) Ev.LD_CONTAINED n []

/-- A host violation counted against the LD and the port (R150), with containment above VIOL_LIMIT (R151). A violation that
no LD is bound for is counted toward the port alone. -/
def hostViolation (s : State) (port : Nat) (ld : Option Nat) (cause : Nat) : State :=
  let lim := rd s Reg.HPT_GLB_CFG_VIOL_LIMIT
  let s1 := wr (wr (bump s (Reg.HPT_PORT_VIOL_COUNT port) 1) (Reg.HPT_PORT_VIOL_LAST_CAUSE port) cause)
    (Reg.HPT_PORT_VIOL_LAST_LD port) (ld.getD 0x3F)
  let s0 := if s1.boot.mode = .compat then setF s1 (Reg.LXF_INT_STATUS_ERROR (port / 4)) else s1
  let s2 := record (setF s0 (Reg.HPT_PORT_EVENTS_VIOLATION port)) Ev.HOST_VIOLATION port (le 1 (ld.getD 0x3F) ++ le 1 cause)
  match ld with
  | some n =>
    let s3 := wr (bump s2 (Reg.HPT_LD_VIOL_COUNT n) 1) (Reg.HPT_LD_VIOL_LAST_CAUSE n) cause
    let o := overLimit s3 (.ld n) lim
    let s4 := countViolation s3 (.ld n) lim
    if o then containLd s4 n else s4
  | none =>
    let o := overLimit s2 (.port port) lim
    let s4 := countViolation s2 (.port port) lim
    if o then (portLds s4 port).foldl containLd s4 else s4

/-! ### Violations by the twin (R350) -/

/-- A violation by the twin: VIOLATION is sent and the violation counted; above STP_VIOL_LIMIT the twin is contained and
PAIR is unavailable. -/
def twinViolation (s : State) (cause code : Nat) : State :=
  let s1 := wr (bump s Reg.STP_VIOL_COUNT 1) Reg.STP_VIOL_LAST_CAUSE cause
  let s2 := emit (record s1 Ev.TWIN_VIOLATION 0xFF (le 1 cause ++ le 1 code)) (.twinFrame 0x7F cause code [])
  let lim := odNum s 0x500104 2 64
  let s3 := countViolation s2 .twin lim
  if overLimit s2 .twin lim then pairLost (record s3 Ev.TWIN_CONTAINED 0xFF []) else s3

/-! ### The presence window's end (R119) -/

/-- An open presence window closed, with record 0xF002 and its cause (R119): 0 time, 1 operation, 2 reset, 3 COMMIT, 4 a
stuck press. -/
def closeWindow (s : State) (cause : Nat) : State :=
  if s.pres.window then
    let s1 := record { s with pres := { s.pres with window := false } } Ev.PRESENCE_CLOSE 0xFF (le 1 cause)
    match s.pres.policyNext with
    | some v => { s1 with pres := { s1.pres with policyNext := none },
                          dict := { s1.dict with active := amSet s1.dict.active 0x104001 (le 1 v) } }
    | none => s1
  else s

/-! ### WARN (R311, R312) -/

/-- WARN entered (R311): the marks and the pace are taken anew at once. -/
def warnEnter (s : State) : State :=
  if s.cin.phase = .normal then
    cinchRecompute (record (setF { s with cin := { s.cin with phase := .warn } } Reg.CIN_EVENTS_WARN) Ev.WARN_ENTERED 0xFF [])
  else s

/-- WARN stood down (R312): the marks and the pace return at the next recomputation. -/
def warnStandDown (s : State) : State :=
  if s.cin.phase = .warn then record { s with cin := { s.cin with phase := .normal } } Ev.WARN_STOOD_DOWN 0xFF [] else s

/-! ### COMMIT (R313 to R315) -/

/-- The dirty lines of a keeper cluster cache written back to their homes (R194). -/
def keeperWriteBack (s : State) (agents : List Nat) : State :=
  let ms := s.ring.agents.filter (fun a => agents.contains a.agent && (a.st = .m || a.st = .miA))
  let s1 := ms.foldl (fun t a => wrqPut t a.line a.data false) s
  { s1 with
    ring := { s1.ring with
    agents := s1.ring.agents.map (fun a =>
      if agents.contains a.agent && a.st = .m then { a with st := .s } else a) } }

/-- A rail slot. -/
def railOf (s : State) (n : Nat) : Rail := amGet s.ham.rails n {}

/-- The state with a rail slot replaced. -/
def railSet (s : State) (n : Nat) (r : Rail) : State := { s with ham := { s.ham with rails := amSet s.ham.rails n r } }

/-- A slot sent toward OFF: it waits for its OFF_DELAY while its RAIL_EN is high. -/
def railTurnOff (r : Rail) : Rail := if r.en then { r with state := .waitOff } else { r with state := .off }

/-- The inputs that a common start waits for hold (R318, R504, R609). -/
def supplyGood (s : State) : Bool :=
  s.ham.psuOk && s.ham.holdupLowN && !s.ham.faultNExt && !s.ham.faultNDriven && s.ham.sysclkOk

/-- The 2 s count of R318 and R504 kept: it starts once the inputs hold, and a lapse is counted in HAM_REQUAL. -/
def supplyCheck (s : State) : State :=
  if s.ham.seq = .requal ∨ s.ham.seq = .backout then
    if supplyGood s then
      { s with ham := { s.ham with goodSince := if s.ham.goodSince.isSome then s.ham.goodSince else some s.time } }
    else if s.ham.goodSince.isSome then bump { s with ham := { s.ham with goodSince := none } } Reg.HAM_REQUAL_LAPSES 1
    else s
  else s

/-- The 2 s count restarted by a missed half-cycle (R318). -/
def requalRestart (s : State) : State :=
  if s.ham.goodSince.isSome then bump { s with ham := { s.ham with goodSince := some s.time } } Reg.HAM_REQUAL_LAPSES 1 else s

/-- Retries and held groups at COMMIT entry (R520): a slot whose RETRY runs stays off, and so does a group held off; record 0x1009
names the first slot concerned. -/
def railsAtCommit (s : State) : State :=
  let stays := fun (r : Rail) => r.retrying || amGet s.ham.groups r.group .on = .offHeld || amGet s.ham.groups r.group .on = .offRetry
  match s.ham.rails.find? (fun e => e.2.enable && stays e.2) with
  | none => s
  | some e =>
    record { s with
      ham := { s.ham with
        rails := s.ham.rails.map (fun (x : Nat × Rail) =>
          if x.2.retrying then (x.1, { x.2 with state := .faultOff, en := false, retrying := false }) else x) } }
      Ev.RAIL_FAULT_IN_COMMIT e.1 []

/-- Groups held off that a warm reset brings back (R480, R517): their alerts end, and the slots of rail groups wait for their
on-delays again. -/
def heldBack (s : State) : State :=
  let held := s.ham.groups.filter (fun (g : Nat × RailGroupState) => g.2 = .offHeld)
  let back : Nat → Bool := fun g => held.any (fun h => h.1 == g)
  { s with
    ham := { s.ham with
      groups := s.ham.groups.filter (fun (g : Nat × RailGroupState) => !back g.1)
      rails := s.ham.rails.map (fun (e : Nat × Rail) =>
        if e.2.enable && back e.2.group then (e.1, { e.2 with state := .waitOn, en := false, retrying := false }) else e) }
    fm := { s.fm with
      groups := s.fm.groups.filter (fun e => e.2 ≠ .held)
      alerts := s.fm.alerts.filter (fun a => decide (a % 0x1000 ≠ 0xF12)) } }

/-- COMMIT marked as entered (R313 to R315): phase, step, trigger, time and bytes; READY is deasserted, and FAULT_N driven for the
triggers 1 to 4. -/
def commitMark (s : State) (trig : Nat) : State :=
  { s with
    cin := { s.cin with phase := .commit, step := 1, trigger := trig, commitAt := s.time, early := false, warmup := false,
                        commitBytes := dirtyBytes s, admitSt := .opened, pace := .commit, warmLeft := [], step4Stop := false,
                        journalCopies := 0 }
    ham := { s.ham with faultNDriven := s.ham.faultNDriven || decide (trig ≤ 4) }
    boot := { s.boot with ready := false } }

/-- A store of the configuration that runs is abandoned (R103). -/
def commitStore (s : State) : State :=
  if s.dict.storing.isSome
  then record { s with dict := { s.dict with storing := none } } Ev.CFG_STORE_ABANDONED 0xFF [] else s

/-- MEDIA barriers end with NOT_READY (R176). -/
def commitMedia (s : State) : State :=
  let media := s.per.barriers.filter (fun b => b.served = 2)
  let s1 := media.foldl (fun t b => endBarrier t b .notReady) s
  { s1 with cin := { s1.cin with endedBar := media.length } }

/-- Held reads of segments that are not resident are answered (R147, R416), and loads end but for those that a Welt or Skive line
waits for (log entry 61). -/
def commitLoads (s : State) : State :=
  let s1 := answerHeld s (fun r => match r.wait with | .load => true | .stream _ => true | _ => false)
  { s1 with
    tier := { s1.tier with
    segs := s1.tier.segs.map (fun (e : Nat × Segment) =>
      if e.2.st = SegSt.loading && !weltHolds s1 e.1 then (e.1, { e.2 with st := if e.2.wrote then SegSt.zero else if e.2.toT2.isSome then SegSt.t2 else SegSt.t3 })
      else e) } }

/-- A maintenance operation ends (R221). -/
def commitMaint (s : State) : State :=
  if s.tree.maintOp.isSome
  then wr { s with tree := { s.tree with maintOp := none } } Reg.TRE_MAINT_CTRL_STATUS (statusCode .notReady) else s

/-- A clear of the recorder stops erasing (R581), and a trial boot's end is not counted where power is lost (R561). -/
def commitRest (s : State) (trig : Nat) : State :=
  { s with
    stm := { s.stm with eraseStopped := true }
    fw := { s.fw with notCounted := s.fw.notCounted || (s.fw.onTrial && decide (trig ≤ 4)) } }

/-- COMMIT step 1 (R315) for a trigger, with everything that COMMIT entry ends elsewhere: configuration store (R103),
MEDIA barriers (R176), a maintenance operation (R221), held reads of segments that are not resident (R147, R416), loads,
warm-up (R322), the presence window (R119). A load that a Welt or Skive line waits for goes on, since step 3 empties both (log
entry 61). -/
def enterCommit (s : State) (trig : Nat) : State :=
  if s.cin.phase = .commit then s
  else
    let s1 := commitStore (railsAtCommit (record (commitMark s trig) Ev.COMMIT_ENTERED 0xFF (le 1 trig)))
    let s2 := completeAll (skiveCloseWhere (keeperWriteBack s1 [0, 1]) (fun _ => true))
    let s3 := commitMaint (commitLoads (commitMedia s2))
    let s4 := commitRest (closeWindow (flsFreeze (cipherCommit s3)) 3) trig
    if 5 ≤ trig ∧ linkCarries s4 then emit s4 (.twinFrame 0x60 0 0 []) else s4

/-- The power-up backed out (R510): every slot without RETAIN goes off by its OFF_DELAY, and the retained slot that faulted
with them; a back-out of a SYS_RESET reaction counts, and the fourth leaves the sequencer HALTED. -/
def backOut (s : State) (sysReset : Bool) (faulted : Option Nat) : State :=
  let n := if sysReset then s.ham.backouts + 1 else s.ham.backouts
  let s1 := { s with
    ham := { s.ham with
    backouts := n, seq := if sysReset ∧ 4 ≤ n then .halted else .backout, goodSince := none,
    rails := s.ham.rails.map (fun e => if e.2.retain ∧ some e.1 ≠ faulted then e else (e.1, railTurnOff e.2)) } }
  let s2 := record (setF s1 Reg.HAM_EVENTS_BACKOUT) Ev.POWERUP_BACKOUT (faulted.getD 0xFF) []
  if sysReset ∧ 4 ≤ n then
    alert (record { s2 with boot := { s2.boot with stop := .halted } } Ev.POWERUP_HALTED 0xFF []) Ev.POWERUP_HALTED.code
  else supplyCheck s2

/-- A COMMIT trigger seen (R313): before power-up has ended it backs the power-up out (R510), and after that it enters
COMMIT. -/
def commitTrigger (s : State) (trig : Nat) : State :=
  match s.ham.seq with
  | .running => enterCommit s trig
  | .powerUp => backOut s false none
  | _ => s

/-! ### Warm resets (R532 to R534) -/

/-- GLB_RESET_CAUSE bits of the warm resets (R532). -/
inductive WarmCause where
  | pin | sw | pommel | fault
deriving DecidableEq, Repr

/-- The cause bit set. -/
def warmCauseSet (s : State) (c : WarmCause) : State :=
  match c with
  | .pin => setF s Reg.GLB_RESET_CAUSE_WRST_PIN
  | .sw => setF s Reg.GLB_RESET_CAUSE_SW_WARM
  | .pommel => setF s Reg.GLB_RESET_CAUSE_POMMEL_WDOG
  | .fault => setF s Reg.GLB_RESET_CAUSE_FAULT_S4

/-- The bit number of a cause in GLB_RESET_CAUSE, as record 0xE022 carries it. -/
def warmCauseCode (c : WarmCause) : Nat :=
  match c with
  | .pin => 1
  | .sw => 2
  | .pommel => 3
  | .fault => 5

/-- A warm reset started (R533 step 1, R534): ignored but recorded from COMMIT entry, merged into a running one; READY is
deasserted, credits close, and what must drain begins to drain. -/
def startWarmReset (s : State) (c : WarmCause) : State :=
  if s.cin.phase = .commit then record s Ev.WARM_RESET 0xFF (le 1 (warmCauseCode c))
  else if s.boot.porst ∨ s.boot.mode = .refused then s
  else if s.boot.warm ≠ .none then warmCauseSet s c
  else
    let s1 := record (warmCauseSet s c) Ev.WARM_RESET 0xFF (le 1 (warmCauseCode c))
    let s2 := closeWindow { heldBack s1 with
      boot := { s1.boot with
      warm := .draining, ready := false, drained := false, startAt := s.time } } 2
    if s.boot.stage < 9 then
      record { s2 with boot := { s2.boot with drained := true } } Ev.WARM_RESET_PROMOTED 0xFF []
    else
      let s3 := skiveWriteAll (skiveCloseWhere s2 (fun _ => true))
      treeCleanWhere (keeperWriteBack { s3 with tree := { s3.tree with flushing := true } } [0, 1]) (fun _ => true)

/-! ### The ladder (R476 to R486) -/

/-- A recovery window governs a unit (R484): its own, its group's or the controller's. -/
def windowOf (u : FUnit) (w : Window) : Bool :=
  match w.scope with
  | .unit v => v = u
  | .group g => groupOf u = some g
  | .controller => true

/-- The settle time of a rung (R476). -/
def settleTime (s : State) (rung : Nat) : Nat :=
  match rung with
  | 1 => msec 100
  | 2 => secs 1
  | 3 => secs 10
  | 4 => secs (60 * rd s Reg.ERR_WINDOW_S4_WINDOW)
  | _ => secs (60 * rd s Reg.ERR_WINDOW_S5_WINDOW)

/-- The open rung of a unit's scopes (R484); 0 where no window is open. -/
def openRung (s : State) (u : FUnit) : Nat := ((s.fm.windows.filter (windowOf u)).map Window.rung).foldl max 0

/-- The scope of a reaction at a rung. -/
def scopeAt (u : FUnit) (rung : Nat) : Scope :=
  if rung ≤ 2 then .unit u
  else if rung = 3 then (match groupOf u with | some g => .group g | none => .controller)
  else .controller

/-- A reaction at a rung runs in the scope. -/
def reactionRuns (s : State) (sc : Scope) (rung : Nat) : Bool :=
  s.fm.windows.any (fun w => w.scope = sc && w.rung == rung && w.endedAt.isNone)

/-- The window that the reaction of a rung opens; it takes the place of lower windows of the same scope. -/
def openWindow (s : State) (w : Window) : State :=
  { s with fm := { s.fm with windows := s.fm.windows.filter (fun x => x.scope ≠ w.scope) ++ [w] } }

/-- The reaction of a scope and rung ended (R476). -/
def endReaction (s : State) (sc : Scope) : State :=
  { s with
    fm := { s.fm with
    windows := s.fm.windows.map (fun w =>
      if w.scope = sc ∧ w.endedAt = none then { w with endedAt := some s.time } else w) } }

/-- The counter of reactions of a rung (ERR_SEV_COUNT). -/
def sevCount (s : State) (rung : Nat) : State :=
  match rung with
  | 1 => bump s Reg.ERR_SEV_COUNT_S1 1
  | 2 => bump s Reg.ERR_SEV_COUNT_S2 1
  | 3 => bump s Reg.ERR_SEV_COUNT_S3 1
  | 4 => bump s Reg.ERR_SEV_COUNT_S4 1
  | 5 => bump s Reg.ERR_SEV_COUNT_S5 1
  | _ => s

/-- The S2 reaction (R479): a function passes through QUIESCING with an abort time of 1 ms and is reset; a unit with a
replica, or without a unit reset, is taken out of service until PORST_N. -/
def reactS2 (s : State) (u : FUnit) (inst : Nat) : State :=
  let s1 := recordAt (setF s Reg.ERR_EVENTS_ISOLATED) (unitNibble u * 0x1000 + 0xF11) 2 inst []
  match unitFn u with
  | some f => fnQuiesce s1 f .reset (msec 1)
  | none => endReaction { s1 with
      fm := { s1.fm with
      isolated := if s1.fm.isolated.contains u then s1.fm.isolated else s1.fm.isolated ++ [u] } } (.unit u)

/-- The S3 reaction (R480): the group's units pass through QUIESCING, and the group stays DISABLED for GROUP_RETRY. -/
def reactS3 (s : State) (u : FUnit) (g : FGroup) (inst : Nat) (held : Bool) : State :=
  let s1 := recordAt (setF s Reg.ERR_EVENTS_GROUP_OFF) (unitNibble u * 0x1000 + 0xF12) 3 inst []
  let s2 := (groupFns g).foldl (fun t f => fnQuiesce t f .disable (msec 1)) s1
  let s3 := { s2 with
    fm := { s2.fm with
    groups := s2.fm.groups.filter (fun e => e.1 ≠ g) ++
      [(g, if held then GroupOff.held else GroupOff.retry)] } }
  if held then alert (endReaction s3 (.group g)) (unitNibble u * 0x1000 + 0xF12) else s3

/-- The moments of S4 reactions within S4_WINDOW (R481). -/
def recentS4 (s : State) : List Nat := s.fm.s4times.filter (fun t => decide (s.time < t + settleTime s 4))

/-- The S5 reaction (R483): COMMIT with trigger 5. -/
def reactS5 (s : State) (u : FUnit) (inst : Nat) : State :=
  commitTrigger (recordAt s (unitNibble u * 0x1000 + 0xF15) 5 inst []) 5

/-- The S4 reaction (R481): a warm reset with cause FAULT_S4; a second S4 within S4_WINDOW is raised to S5. -/
def reactS4 (s : State) (u : FUnit) (inst : Nat) : State :=
  let s1 := { s with fm := { s.fm with s4times := s.time :: recentS4 s } }
  startWarmReset (recordAt s1 (unitNibble u * 0x1000 + 0xF14) 4 inst []) .fault

/-- The rung a fault is handled at (R476, R480, R481, R484), and whether a group stays held: the higher of its own rung and
the open rung, one more for a repeat of the fault that opened the window, S3 outside a group as S4, and a second S4 within
S4_WINDOW as S5. -/
def ruleRung (s : State) (u : FUnit) (code inst sev : Nat) : Nat × Bool :=
  let o := openRung s u
  let base := max sev o
  let again := s.fm.windows.any (fun w => windowOf u w && w.rung == o && w.endedAt.isSome && w.code == code && w.inst == inst)
  let grp := (groupOf u).isSome
  let held := grp && base == 3 && s.fm.windows.any (fun w => windowOf u w && w.rung == 3 && w.endedAt.isSome)
  let r0 := if again && !held then min 5 (base + 1) else base
  let r1 := if r0 = 3 ∧ grp = false then 4 else r0
  let r2 := if r1 = 4 ∧ recentS4 s ≠ [] then 5 else r1
  (r2, held && r2 == 3)

/-- A fault that has been recorded, of a severity and at a rung of its own (R484 to R486): graded against the open rung, and its
reaction started unless one already runs at that rung in the scope. From COMMIT entry one at S2 to S5 is recorded only. A
reaction at S3 or above ends a confirmation count (R562). -/
def gradeFault (s0 : State) (u : FUnit) (code inst sev rung : Nat) : State :=
  if rung = 0 then s0
  else
    let (r, held) := ruleRung s0 u code inst rung
    let sc := scopeAt u r
    let raised := decide (sev < r)
    let s1 := wr (wr (wr (wr s0 Reg.ERR_LAST_CODE code) Reg.ERR_LAST_RUNG r) Reg.ERR_LAST_RAISED (b2n raised))
      Reg.ERR_LAST_INSTANCE inst
    if s0.cin.phase = .commit ∧ 2 ≤ r then s1
    else if reactionRuns s0 sc r then s1
    else
      let s2 := if raised
        then recordAt (setF s1 Reg.ERR_EVENTS_RAISED) (unitNibble u * 0x1000 + 0xF10) r inst (le 2 code) else s1
      let s4 := sevCount (openWindow s2 ⟨sc, r, code, inst, none⟩) r
      let s3 := if 3 ≤ r then { s4 with fw := { s4.fw with since := none } } else s4
      match r with
      | 1 => endReaction s3 sc
      | 2 => reactS2 s3 u inst
      | 3 => match groupOf u with
        | some g => reactS3 s3 u g inst held
        | none => s3
      | 4 => reactS4 s3 u inst
      | _ => reactS5 s3 u inst

/-- A fault reported by a unit (R477, R485): recorded at its severity and graded. -/
def reportFault (s : State) (u : FUnit) (code inst sev : Nat) (items : Bytes) : State :=
  gradeFault (recordAt s code sev inst items) u code inst sev sev

/-- A fault at the severity of its event code table. -/
def fault (s : State) (u : FUnit) (ev : Ev) (inst : Nat) (items : Bytes) : State := reportFault s u ev.code inst ev.sev items

end Sys2Proof.Machine
end

