-- ==== Sys2Proof/Machine/StreamOps.lean ====
section
/-!
DEFINITION. Shared operations of objects and streams (spec/13): objects of home segments, stream windows, the completion of
layers, and QUOTA_T1.
-/
namespace Sys2Proof.Machine

/-- A created object. -/
def objFind (s : State) (id : Nat) : Option TObj := s.tier.objs.find? (fun o => o.id = id)

/-- The first home segment and size of an object, base objects included (R390). -/
def objRange (s : State) (id : Nat) : Option (Nat × Nat) :=
  match objFind s id with
  | some o => some (o.first, o.size)
  | none => if id < 128 ∧ (amFind s.tier.runs id).isSome then some (runOf s id) else none

/-- The class and policy of an object (R390, R392): base objects are PERSISTENT and AUTO. -/
def objVolatile (s : State) (id : Nat) : Bool := ((objFind s id).map TObj.volatileClass).getD false

/-- The placement policy of an object: 0 PINNED_T1, 1 AUTO, 2 STREAMED, 3 BORROWABLE. -/
def objPolicy (s : State) (id : Nat) : Nat :=
  match objFind s id with
  | some o => o.policy
  | none => (amGet s.tier.basePol id (1, false)).1

/-- The REPLICA flag of an object (R398, R399). -/
def objReplica (s : State) (id : Nat) : Bool :=
  match objFind s id with
  | some o => o.replica
  | none => (amGet s.tier.basePol id (1, false)).2

/-- The base object that an object lies in. -/
def objBase (s : State) (id : Nat) : Nat := ((objFind s id).map TObj.base).getD id

/-- The tenant of an object: that of its LD, or of the lowest sharer of its window. -/
def objTenant (s : State) (id : Nat) : Nat :=
  let b := objBase s id
  rd s (Reg.HPT_LD_CFG_TENANT (if 64 ≤ b then ((sharers s (b - 64)).head?).getD 0 else b))

/-- The home segments of a layer of a stream. -/
def layerSegs (s : State) (t : Stream) (k : Nat) : List Nat :=
  match t.layers[k % max 1 t.layers.length]?, objRange s t.obj with
  | some (o, l), some r => (List.range ((o + l - 1) / 0x200000 - o / 0x200000 + 1)).map (fun i => r.1 + o / 0x200000 + i)
  | _, _ => []

/-- The last home line of a layer. -/
def layerLast (s : State) (t : Stream) (k : Nat) : Option Nat :=
  match t.layers[k % max 1 t.layers.length]?, objRange s t.obj with
  | some (o, l), some r => some (r.1 * 32768 + (o + l) / 64 - 1)
  | _, _ => none

/-- The layer indices in the window (R414): W layers from the oldest incomplete one; without LOOP none past the last. -/
def windowLayers (t : Stream) : List Nat :=
  (List.range t.window).filterMap (fun i =>
    if t.loop then some ((t.oldest + i) % max 1 t.layers.length)
    else if t.oldest + i < t.layers.length then some (t.oldest + i) else none)

/-- The layers of the window fetched (R414): at rank 3, the first of them at rank 1 when the stream opens. -/
def fetchLayer (s : State) (t : Stream) (k rank : Nat) : State :=
  if s.cin.phase = .commit then s else (layerSegs s t k).foldl (fun x g => startLoad x g rank) s

/-- The state with a stream replaced. -/
def streamPut (s : State) (t : Stream) : State :=
  { s with tier := { s.tier with streams := s.tier.streams.map (fun x => if x.id = t.id then t else x) } }

/-- Layers completed up to a window layer (R414): layers complete in order, and layer k + W is fetched when k completes. -/
def completeLayers (s : State) (t : Stream) (upto : Nat) : State :=
  match (windowLayers t).findIdx? (fun k => k = upto) with
  | none => s
  | some i =>
    let n := t.oldest + i + 1
    let old := if t.loop then n % max 1 t.layers.length else n
    let t1 := { t with oldest := old, fetched := t.fetched + i + 1 }
    ((windowLayers t1).filter (fun k => k ∉ (windowLayers t).drop (i + 1))).foldl (fun x k => fetchLayer x t1 k 3)
      (streamPut s t1)

/-- A read or write of a home line by an LD seen by LAST_TOUCH streams of its tenant (R414). -/
def streamTouch (s : State) (ld gl : Nat) : State :=
  (s.tier.streams.filter (fun t => t.lastTouch && !t.closing &&
    rd s (Reg.HPT_LD_CFG_TENANT ld) == rd s (Reg.HPT_LD_CFG_TENANT t.ld))).foldl
    (fun x t => match (windowLayers t).find? (fun k => layerLast s t k = some gl) with
      | some k => completeLayers x t k
      | none => x) s

/-- T1 segments that count against a tenant's QUOTA_T1 (R400): resident segments of its objects, PINNED_T1 sizes and window
reservations not yet resident. -/
def tenantT1 (s : State) (ten : Nat) : Nat :=
  let res := s.tier.segs.filter (fun e => segResident e.2 && objTenant s e.2.obj == ten)
  let pin := (s.tier.objs.filter (fun o => o.policy = 0 ∧ objTenant s o.id = ten)).map (fun o =>
    o.size - (res.filter (fun e => e.2.obj = o.id)).length)
  let win := (s.tier.streams.filter (fun t => objTenant s t.obj = ten)).map (fun t =>
    ((windowLayers t).flatMap (layerSegs s t)).dedup.countP (fun g => !segResident (segOf s g)))
  res.length + pin.sum + win.sum

/-- A quota of a tenant in GiB (OD 0x3100+t); 0xFFFF_FFFF is unlimited. -/
def quota (s : State) (ten sub : Nat) : Nat := odNum s ((0x3100 + ten) * 256 + sub) 4 0xFFFFFFFF

/-- A number of segments of 2 MiB fits a quota in GiB. -/
def fitsQuota (q segs : Nat) : Bool := q == 0xFFFFFFFF || decide (segs ≤ q * 512)

end Sys2Proof.Machine
end

