-- ==== Sys2Proof/Machine/Tree.lean ====
section
/-!
DEFINITION. The meanings of the Tree cache's commands (spec/07): fills, policy-change walks, maintenance operations.
-/
namespace Sys2Proof.Machine

/-- The fill of a way ended with the data DRAM returned (R201): CLEAN, or DIRTY where a write merges. Reads that waited are
served. -/
def fillDone (s : State) (t : TreeLine) (data : Bytes) (poison : Bool) : State :=
  let dirty := decide (0 < plineCount t.merge)
  let d := plineBytes (plineOver t.merge (plineOf data))
  let po := (poison || t.poison) && !plineFull t.merge
  let s1 := treePut s { t with st := if dirty then .dirty else .clean, data := d, poison := po, merge := [],
                               arrived := none }
  let gl := homeOfDram s1 t.line
  let s2 := match gl with
    | some g => if dirty ∧ mirrorOn s1 then mirrorSend s1 g (plineOf d) else s1
    | none => s1
  answerHeld s2 (fun r => r.wait = .fill ∧ some r.line = gl)

/-- A line invalidated after cleaning, through its snoop round where PEER is set (R241). -/
def invalidateLine (s : State) (kind : HomeKind) (t : TreeLine) : State :=
  if t.peer ∧ roundTargets s t.line 16 ≠ [] then
    let s1 := treePut (treeClean s t) { t with st := .clean, leaving := true }
    let r : HomeReq := ⟨t.line, kind, 16, false⟩
    if (busyFind s t.line).isSome then homeQueue s1 r else startRound s1 r true (roundTargets s t.line 16) [] none false
  else treeCleanInv s t

/-- TREE_FILL_DONE: the fill of a line ends (R201, R208); in a way isolated since, it is cleaned and invalidated (R222). -/
def execTreeFillDone (line : Nat) (s : State) : Host.Outcome State Fault Refusal :=
  .next <|
    match treeFind s line with
    | some t => match t.st, t.arrived with
      | .fill, some a =>
        let s1 := retryWay (fillDone s t a.1 a.2)
        match treeFind s1 line with
        | some u => if wayDisabled s1 (treeSlice line) u.way then invalidateLine s1 .maint u else s1
        | none => s1
      | _, _ => s
    | none => s

/-- The lines of the Tree cache that a walk covers (R213). -/
def walkCovers (s : State) (w : Walk) (t : TreeLine) : Bool :=
  match homeOfDram s t.line with
  | some gl =>
    let k := regionKey s (gl / 32768)
    k.1 == w.ld && decide (w.base ≤ k.2) && decide (k.2 < w.base + w.size)
  | none => false

/-- What a walk has done once it has passed every line of its range (R213): under UC and STREAM every line is cleaned and
invalidated, under WT every DIRTY line cleaned. -/
def walkRun (s : State) (w : Walk) : State :=
  if w.policy = 3 ∨ w.policy = 4 then
    (s.tree.lines.filter (fun t => t.st ≠ .fill && walkCovers s w t)).foldl (fun t l => invalidateLine t .segMove l) s
  else if w.policy = 1 then treeCleanWhere s (walkCovers s w)
  else s

/-- TREE_WALK_DONE: the walk over the ranges of a changed region entry ends (R213). -/
def execTreeWalkDone (e : Nat) (s : State) : Host.Outcome State Fault Refusal :=
  .next <|
    let ws := s.tree.walks.filter (fun w => w.entry = e)
    if ws = [] then s
    else
      let s1 := ws.foldl walkRun s
      let s2 := { s1 with tree := { s1.tree with walks := s1.tree.walks.filter (fun x => x.entry ≠ e) } }
      if s2.tree.walks = [] then setF s2 Reg.TRE_EVENTS_WALK_DONE else s2

/-- The range of a maintenance operation as first and last DRAM line number (R220). -/
def maintRange (s : State) : Nat × Nat :=
  (rd s Reg.TRE_MAINT_START_LO_START_LO + 2 ^ 26 * rd s Reg.TRE_MAINT_START_HI_START_HI,
   rd s Reg.TRE_MAINT_END_LO_END_LO + 2 ^ 26 * rd s Reg.TRE_MAINT_END_HI_END_HI)

/-- TRE_MAINT_CTRL written with START and an operation (R220): ignored while one runs; a bad range ends at once with
BAD_DESCRIPTOR; from COMMIT entry it ends with NOT_READY (R221). -/
def maintStart (op : Nat) (s : State) : State :=
  if s.tree.maintOp.isSome then s
  else
    let r := maintRange s
    let s1 := wr (wr s Reg.TRE_MAINT_CTRL_OP op) Reg.TRE_MAINT_CTRL_ABORT_RESULT 0
    if s.cin.phase = .commit then wr s1 Reg.TRE_MAINT_CTRL_STATUS (statusCode .notReady)
    else if r.2 < r.1 ∨ 2 ^ 37 ≤ r.2 then wr s1 Reg.TRE_MAINT_CTRL_STATUS (statusCode .badDescriptor)
    else { wr s1 Reg.TRE_MAINT_CTRL_STATUS 0 with tree := { s1.tree with maintOp := some (op, r.1, r.2) } }

/-- CLEAN: START with OP CLEAN. -/
def execClean (s : State) : Host.Outcome State Fault Refusal := .next (maintStart 0 s)

/-- CLEAN_INV: START with OP CLEAN_INV. -/
def execCleanInv (s : State) : Host.Outcome State Fault Refusal := .next (maintStart 1 s)

/-- INV: START with OP INV, which cleans dirty lines first (R220). -/
def execInv (s : State) : Host.Outcome State Fault Refusal := .next (maintStart 2 s)

/-- The lines of a range processed by a maintenance operation, up to a line address. -/
def maintProcess (s : State) (op lo hi : Nat) : State :=
  let p := fun t : TreeLine => decide (lo ≤ t.line) && decide (t.line ≤ hi)
  if op = 0 then treeCleanWhere s p
  else (s.tree.lines.filter (fun t => t.st ≠ .fill && p t)).foldl (fun t l => invalidateLine t .maint l) s

/-- TRE_MAINT_ABORT: ABORT of the running operation before its commit point (R221): the lines below `reached` have been
processed and stay so. With no operation running the completion has won (R493). -/
def execTreMaintAbort (reached : Nat) (s : State) : Host.Outcome State Fault Refusal :=
  .next <|
    match s.tree.maintOp with
    | some (op, lo, hi) =>
      let s1 := if lo < reached then maintProcess s op lo (min hi (reached - 1)) else s
      wr (wr { s1 with tree := { s1.tree with maintOp := none } } Reg.TRE_MAINT_CTRL_STATUS (statusCode .aborted))
        Reg.TRE_MAINT_CTRL_ABORT_RESULT (statusCode .aborted)
    | none => wr s Reg.TRE_MAINT_CTRL_ABORT_RESULT (statusCode .abortTooLate)

/-- TRE_MAINT_DONE: the running operation reaches its commit point: every line of the range is processed, and its status is
posted (R220, R221). -/
def execTreMaintDone (s : State) : Host.Outcome State Fault Refusal :=
  .next <|
    match s.tree.maintOp with
    | some (op, lo, hi) =>
      wr { maintProcess s op lo hi with tree := { (maintProcess s op lo hi).tree with maintOp := none } }
        Reg.TRE_MAINT_CTRL_STATUS (statusCode .ok)
    | none => s

end Sys2Proof.Machine
end

