-- ==== Sys2Proof/Machine/DramCtl.lean ====
section
/-!
DEFINITION. The meanings of the DRAM controller's commands (spec/09): arbitration, write acceptance, read returns with
error correction, refresh, temperature, retraining; patrol scrub and PANIC for the tick.
-/
namespace Sys2Proof.Machine

/-! ### PANIC (R270) -/

/-- The PANIC marks in entries of 64: raise above the first, release below the second. -/
def panicMarks (s : State) : Nat × Nat :=
  let h := rd s Reg.DRC_PANIC_HIGH_PCT
  let l := rd s Reg.DRC_PANIC_LOW_PCT
  (h, if h ≤ l then h / 2 else l)

/-- PANIC of a class after a change of its queue (R270). -/
def panicNext (s : State) (n : Nat) (p : Bool) : Bool :=
  if (panicMarks s).1 * 64 < n * 100 then true else if n * 100 < (panicMarks s).2 * 64 then false else p

/-- A channel with PANIC of both classes taken anew. -/
def panicUpdate (s : State) (ch : Nat) : State :=
  let c := chanOf s ch
  let m := panicNext s c.mirrorQ.length c.panicMirror
  let d := panicNext s c.drainQ.length c.panicDrain
  let s1 := chanSet s ch { c with panicMirror := m, panicDrain := d }
  if (m ∧ c.panicMirror = false) ∨ (d ∧ c.panicDrain = false) then setF s1 (Reg.DRC_CH_EVENTS_PANIC ch) else s1

/-! ### Arbitration (R266 to R272) -/

/-- The urgency of a host read (R271) against the target of its port in ns. -/
def urgency (s : State) (r : DRead) : Nat :=
  match r.port with
  | none => 0
  | some p =>
    let t := rd s (Reg.HPT_PORT_LAT_TARGET_TARGET p)
    let e := (s.time - r.arrived) * 1000 / 25600
    if 100 * e < 50 * t then 0 else if 100 * e < 75 * t then 1 else if 100 * e < 90 * t then 2 else 3

/-- A candidate of the arbitration: what it is, its line, its arrival. -/
inductive Cand where
  | read (r : DRead) | write (w : DWrite) | mirror (w : DWrite) | drain (w : DWrite) | refresh
deriving DecidableEq, Repr

/-- The line a candidate moves. -/
def Cand.line : Cand → Nat
  | .read r => r.line
  | .write w | .mirror w | .drain w => w.line
  | .refresh => 0

/-- The arrival of a candidate. -/
def Cand.at_ : Cand → Nat
  | .read r => r.arrived
  | .write w | .mirror w | .drain w => w.arrived
  | .refresh => 0

/-- The oldest of a list of candidates; row hits first where they are preferred (R272). -/
def pickCand (s : State) (u : SubChan) (hits : Bool) (cs : List Cand) : Option Cand :=
  let hit := cs.filter (fun c => amFind u.open_ (mapBank s (mapLocal s c.line)) = some (mapRow s (mapLocal s c.line)))
  let pool := if hits ∧ hit ≠ [] then hit else cs
  pool.foldl (fun b c => match b with | none => some c | some x => if c.at_ < x.at_ then some c else b) none

/-- A read waits for a queued write of its line (R266). -/
def readBlocked (u : SubChan) (c : Chan) (r : DRead) : Bool :=
  u.writes.any (fun w => w.line == r.line && decide (w.arrived ≤ r.arrived)) ||
  (c.mirrorQ ++ c.drainQ).any (fun w => w.line == r.line && decide (w.arrived ≤ r.arrived))

/-- A write must wait for an older queued read of its line (R268). -/
def writeBlocked (u : SubChan) (w : DWrite) : Bool :=
  u.reads.any (fun r => r.issued.isNone && r.line == w.line && decide (r.arrived < w.arrived))

/-- The next command of a subchannel by the first rank that has a candidate (R272). -/
def chooseCand (s : State) (c : Chan) (b : Bool) : Option Cand :=
  let u := c.sub b
  let mine := fun w : DWrite => mapSub (mapLocal s w.line) = b
  let rds := (u.reads.filter (fun r => r.issued.isNone && !readBlocked u c r)).map Cand.read
  let wrs := (u.writes.filter (fun w => !writeBlocked u w)).map Cand.write
  let raised := (u.writes.filter (fun w => !writeBlocked u w &&
    u.reads.any (fun r => r.issued.isNone && r.line == w.line))).map Cand.write
  let mir := (c.mirrorQ.filter (fun w => mine w)).map Cand.mirror
  let drn := (c.drainQ.filter (fun w => mine w)).map Cand.drain
  let rt := (if c.panicMirror then mir else []) ++ (if c.panicDrain then drn else [])
  let urg := fun k => rds.filter (fun x => match x with | .read r => urgency s r = k | _ => false)
  let rest := rds ++ wrs ++ mir ++ drn
  let aged := rest.filter (fun x => decide (x.at_ + usec 10 < s.time))
  if 5 ≤ u.refDue then some .refresh
  else (pickCand s u true raised).orElse fun _ =>
    (pickCand s u false rt).orElse fun _ =>
    (pickCand s u true (urg 3)).orElse fun _ =>
    (if u.wdrain then pickCand s u true wrs else none).orElse fun _ =>
    (pickCand s u true (urg 2)).orElse fun _ =>
    (pickCand s u true (urg 1)).orElse fun _ =>
    (pickCand s u false aged).orElse fun _ =>
    (pickCand s u true rest).orElse fun _ =>
    if 0 < u.refDue then some .refresh else none

/-- The bank of a line left open at its row. -/
def openRow (s : State) (u : SubChan) (n : Nat) : SubChan :=
  { u with open_ := amSet u.open_ (mapBank s (mapLocal s n)) (mapRow s (mapLocal s n)) }

/-- The chosen command issued (R266 to R272, R281): a read takes the data DRAM holds, a write enters the array, a refresh is
done. -/
def issueCand (s : State) (ch : Nat) (b : Bool) (x : Cand) : State :=
  let c := chanOf s ch
  let u := c.sub b
  match x with
  | .refresh => chanSet s ch (c.subSet b { u with refDue := u.refDue - 1, open_ := [] })
  | .read r =>
    let d := (dramArray s r.line, decide (r.line ∈ s.dram.poison))
    let u1 := openRow s { u with reads := u.reads.map (fun y => if y = r then { y with issued := some d } else y) } r.line
    let s1 := chanSet s ch (c.subSet b u1)
    if urgency s r = 3 then bump s1 (Reg.DRC_CH_LAT_URG3 ch) 1 else s1
  | .write w =>
    let u1 := openRow s { u with writes := u.writes.filter (· ≠ w) } w.line
    bump64 (dramStore (chanSet s ch (c.subSet b (wdrainNext u1))) w.line w.data w.poison)
      (Reg.DRC_CH_STAT_WR_LO_WR_LO ch) (Reg.DRC_CH_STAT_WR_HI_WR_HI ch) 1
  | .mirror w =>
    panicUpdate (bump64 (dramStore (chanSet s ch { c with mirrorQ := c.mirrorQ.filter (· ≠ w) }) w.line w.data w.poison)
      (Reg.DRC_CH_STAT_WR_LO_WR_LO ch) (Reg.DRC_CH_STAT_WR_HI_WR_HI ch) 1) ch
  | .drain w =>
    panicUpdate (bump64 (dramStore (chanSet s ch { c with drainQ := c.drainQ.filter (· ≠ w) }) w.line w.data w.poison)
      (Reg.DRC_CH_STAT_WR_LO_WR_LO ch) (Reg.DRC_CH_STAT_WR_HI_WR_HI ch) 1) ch

/-- DRAM_ARBITRATE: a subchannel (`subB` for B) of a running channel chooses and issues its next command (R272). -/
def execDramArbitrate (ch : Fin 16) (subB : Bool) (s : State) : Host.Outcome State Fault Refusal :=
  .next <|
    if (chanOf s ch).st = .running then
      match chooseCand s (chanOf s ch) subB with
      | some x => issueCand s ch subB x
      | none => s
    else s

/-- DRAM_WRITE_ENQUEUE: the write-back buffer entry of a line enters the write queue of its channel, which counts as DRAM
accepting it (R214, R265, R293); a full queue leaves the sender holding it, and a line that waits for its fetch stays. -/
def execDramWriteEnqueue (line : Nat) (s : State) : Host.Outcome State Fault Refusal :=
  .next <|
    match wbbFind s line with
    | some e =>
      if e.fetch ∨ wrqFull s line then s
      else
        let s1 := { s with tree := { s.tree with wbb := s.tree.wbb.filter (fun x => x.line ≠ line) } }
        let s2 := wrqPut s1 line (plineBytes e.data) e.poison
        admitUpdate (if (homeOfDram s line).isSome then markDirty s2 line e.lo else s2)
    | none => s

/-! ### Error correction (R273 to R280) -/

/-- The error registers of a channel take an address (DRC_CH_ERR_ADDR). -/
def errAddr (s : State) (ch line dev rank : Nat) (unc : Bool) : State :=
  wr (wr (wr (wr (wr s (Reg.DRC_CH_ERR_ADDR_LO_ADDR_LO ch) line) (Reg.DRC_CH_ERR_ADDR_HI_ADDR_HI ch) (line / 2 ^ 26))
    (Reg.DRC_CH_ERR_ADDR_HI_DEVICE ch) dev) (Reg.DRC_CH_ERR_ADDR_HI_RANK ch) rank) (Reg.DRC_CH_ERR_ADDR_HI_UNCORR ch)
    (b2n unc)

/-- A corrected error attributed to a device (R280): 256 in 4,096 half-cycles put the device into erasure mode, one device
of each rank. -/
def countDevice (s : State) (ch rank dev : Nat) : State :=
  let c := chanOf s ch
  let fresh := decide (4096 ≤ s.lck.count - c.corrSince)
  let m := if fresh then [] else c.corr
  let k := 32 * rank + dev
  let n := amGet m k 0 + 1
  let s1 := chanSet s ch { c with corr := amSet m k n, corrSince := if fresh then s.lck.count else c.corrSince }
  if n = 256 then
    let s2 := if (c.erasure.any (fun e => e.1 = rank)) then s1
      else chanSet s1 ch { chanOf s1 ch with erasure := c.erasure ++ [(rank, dev)] }
    alert (fault (setF s2 (Reg.DRC_CH_EVENTS_DEGRADED ch)) (.channel ch) Ev.DIMM_DEVICE_DEGRADED ch (le 1 dev ++ le 1 rank))
      Ev.DIMM_DEVICE_DEGRADED.code
  else s1

/-- A corrected line (R275): counted, recorded, and written back unless a write of the line has come since the read. -/
def correctLine (s : State) (ch line dev rank : Nat) (data : Bytes) : State :=
  let s1 := record (setF (errAddr (bump s (Reg.DRC_CH_ECC_CORRECTED ch) 1) ch line dev rank false)
    (Reg.DRC_CH_EVENTS_CORRECTED ch)) Ev.DRAM_CORRECTED ch (le 6 line)
  let s2 := if queuedWrites s1 line = [] then wrqPut s1 line data false else s1
  countDevice s2 ch rank dev

/-- The host-held bitmap holds a DRAM line (R245). -/
def inBitmap (s : State) (line : Nat) : Bool :=
  let b := rd s Reg.GRT_HHB_BASE_LO_BASE_LO + 2 ^ 26 * rd s Reg.GRT_HHB_BASE_HI_BASE_HI
  decide (b ≤ line) && decide (line < b + rd s Reg.GRT_HHB_SIZE_LINES)

/-- A line written with the poison pattern (R274). -/
def poisonLine (s : State) (ch line : Nat) : State :=
  setF (bump (wrqPut s line (List.replicate 64 0) true) (Reg.DRC_CH_ECC_POISONED ch) 1) (Reg.DRC_CH_EVENTS_POISONED ch)

/-- The granule of a DRAM line is dirty in the dirty map (R276). -/
def lineDirty (s : State) (line : Nat) : Bool := (amFind s.cin.granules (line / 64)).isSome

/-- Poison delivered for a DRAM line to what waits for it. -/
def poisonFill (s : State) (line : Nat) : State :=
  match treeFind s line with
  | some t => if t.st = .fill then treePut s { t with arrived := some (List.replicate 64 0, true) } else s
  | none => answerHeld s (fun r => r.wait = .direct ∧ dramOf s r.line = some line)

/-- A repaired or refetched line written, its waiters served, and the line read once more (R277, R279). -/
def repairDone (s : State) (line : Nat) (data : Bytes) : State :=
  let ch := mapChannel s line
  let c := chanOf s ch
  let s1 := chanSet s ch { c with repairs := c.repairs.filter (fun r => r.line ≠ line) }
  let s2 := rdqPut (wrqPut s1 line data false) line .verify none
  let s3 := match treeFind s2 line with
    | some t => if t.st = .fill then treePut s2 { t with arrived := some (data, false) }
      else treePut s2 { t with data := data, poison := false }
    | none => s2
  answerHeld s3 (fun h => (h.wait = .repair ∨ h.wait = .direct) ∧ dramOf s3 h.line = some line)

/-- A line of the dirty map that is uncorrectable (R295): the 256 granules whose bits it holds are DIRTY, as far as they hold working
copies, and the line is rewritten that way. -/
def mapLineLost (s : State) (k : Nat) : State :=
  let gs := ((List.range 256).map (fun i => 256 * k + i)).filter (fun g => (homeOfDram s (g * 64)).isSome)
  fault (gs.foldl (fun t g => markDirtyAt t (g * 64) t.per.acceptSeq true) s) .drain Ev.DIRTY_MAP_LINE_LOST 0xFF (le 4 k)

/-- The resolution of an uncorrectable line by its kind (R276): repair from the twin, loss of a dirty line, refetch of a
clean one, a mirror-pool line, the host-held bitmap, other internal lines. `pool` says that the line is a mirror-pool line
of a home line of the twin, `map` that it is the line of the dirty map with that number. -/
def resolveLine (s : State) (ch line : Nat) (pool map : Option Nat) : State :=
  let s1 := setF (bump s (Reg.DRC_CH_UE_UNCORR ch) 1) (Reg.DRC_CH_EVENTS_UNCORRECTED ch)
  match pool with
  | some gl => emit (fault s1 (.channel ch) Ev.MIRROR_LINE_LOST ch (le 6 gl)) (.twinFrame 0x22 gl 0 [])
  | none =>
    match homeOfDram s1 line with
    | some gl =>
      if lineDirty s1 line then
        if s1.per.pairAvail ∧ linkCarries s1 then
          let c := chanOf s1 ch
          let s2 := chanSet s1 ch { c with repairs := c.repairs ++ [⟨line, s1.dram.nextTag, true, false⟩] }
          emit { s2 with dram := { s2.dram with nextTag := s2.dram.nextTag + 1 } }
            (.twinFrame 0x20 gl s1.dram.nextTag [])
        else poisonFill (fault (poisonLine (mapPoison s1 gl true) ch line) (.channel ch) Ev.DRAM_DIRTY_LOST ch
          (le 4 (segOf s1 (gl / 32768)).obj ++ le 8 gl)) line
      else
        let c := chanOf s1 ch
        let s2 := chanSet s1 ch { c with repairs := c.repairs ++ [⟨line, 0, false, false⟩] }
        let s3 := poisonFill (fault (bump s2 (Reg.DRC_CH_UE_REFETCHED ch) 1) (.channel ch) Ev.DRAM_CLEAN_REFETCH ch (le 8 gl)) line
        match amFind (segOf s1 (gl / 32768)).chunks (gl % 32768 / 1024) with
        | some loc => readUnit s3 loc.set loc.stripe loc.unit
        | none => repairDone s3 line (dramArray s3 line)
    | none =>
      if inBitmap s1 line then record (wrqPut s1 line (List.replicate 64 0xFF) false) Ev.BITMAP_LINE_RESET ch (le 6 line)
      else match map with
        | some k => mapLineLost (fault s1 (.channel ch) Ev.INTERNAL_LINE_LOST ch (le 6 line)) k
        | none => fault (poisonLine s1 ch line) (.channel ch) Ev.INTERNAL_LINE_LOST ch (le 6 line)

/-- Delivery of a returned read to what it was for. -/
def deliver (s : State) (r : DRead) (data : Bytes) (poison : Bool) : State :=
  match r.purpose with
  | .fill => match treeFind s r.line with
    | some t => if t.st = .fill then treePut s { t with arrived := some (data, poison) } else s
    | none => s
  | .wbb => match wbbFind s r.line with
    | some e => { s with
      tree := { s.tree with
      wbb := s.tree.wbb.map (fun x => if x.line = r.line then
        { e with data := plineOver e.data (plineOf data), poison := e.poison || poison, fetch := false } else x) } }
    | none => s
  | .direct => answerHeld s (fun h => h.wait = .direct ∧ dramOf s h.line = some r.line)
  | .scrub | .verify => s

/-- The frame of a line retired (R279): out of use until PORST_N; its segment moves to another frame where one is free. -/
def retireFrame (s : State) (ch line : Nat) : State :=
  let f := line / 32768
  let full := freeFrame s = none
  let s1 := fault (bump { s with dram := { s.dram with retired := s.dram.retired ++ [f] } } (Reg.DRC_CH_UE_RETIRED ch) 1)
    (.channel ch) Ev.DRAM_FRAME_RETIRED ch (le 4 f ++ le 1 (b2n full))
  match homeOfDram s line, freeFrame s with
  | some gl, some g => segSet s1 (gl / 32768) { segOf s1 (gl / 32768) with st := .moving, toFrame := g }
  | _, _ => if full then poisonLine s1 ch line else s1

/-- DRAM_READ_RETURN: the oldest issued read of a subchannel returns, as the decoder finds it (R273 to R279): good,
corrected in a device of a rank, or uncorrectable. `pool` names the twin's home line where the line is one of the pool, `map` the line of the
dirty map where it is one of that. -/
def execDramReadReturn (ch : Fin 16) (subB : Bool) (res : EccResult) (pool map : Option Nat) (s : State) :
    Host.Outcome State Fault Refusal :=
  .next <|
    let c := chanOf s ch
    let u := c.sub subB
    match u.reads.find? (fun r => r.issued.isSome) with
    | none => s
    | some r =>
      let v := r.issued.getD ([], false)
      let s1 := bump64 (chanSet s ch (c.subSet subB { u with reads := u.reads.erase r }))
        (Reg.DRC_CH_STAT_RD_LO_RD_LO ch) (Reg.DRC_CH_STAT_RD_HI_RD_HI ch) 1
      match res with
      | .good => deliver s1 r v.1 v.2
      | .corrected dev rank => correctLine (deliver s1 r v.1 v.2) ch r.line dev rank v.1
      | .uncorrectable =>
        let s2 := errAddr s1 ch r.line 0x1F 0 true
        if r.purpose = .verify then retireFrame s2 ch r.line else resolveLine s2 ch r.line pool map

/-! ### Refresh, temperature, retraining (R281 to R286) -/

/-- DRAM_REFRESH_DUE: a refresh interval of a subchannel expires and a REFsb is scheduled (R281). -/
def execDramRefreshDue (ch : Fin 16) (subB : Bool) (s : State) : Host.Outcome State Fault Refusal :=
  let c := chanOf s ch
  let u := c.sub subB
  .next (if c.st = .running ∨ c.st = .retraining
    then chanSet s ch (c.subSet subB { u with refDue := min 5 (u.refDue + 1) }) else s)

/-- A DIMM marked as hot, with its channel's event bit (R282). -/
def dimmHot (s : State) (ch : Nat) (hot : List Nat) (dimm : Nat) : State :=
  setF (chanSet s ch { chanOf s ch with hot := if hot.contains dimm then hot else hot ++ [dimm] }) (Reg.DRC_CH_EVENTS_TEMP_HIGH ch)

/-- DIMM_TEMP_POLL: the 100 ms temperature read of one DIMM of a channel in °C, with its one retry (R282, R498): a contained sensor
counts as above 85 °C, a read that failed leaves the last reading. -/
def execDimmTempPoll (ch : Fin 16) (dimm : Fin 2) (first retry : SmbAnswer) (s : State) : Host.Outcome State Fault Refusal :=
  let p := Partner.smb1 (2 * ch.val + dimm.val)
  let (temp, s) := smbRead s p 255 first retry
  let c := chanOf s ch
  let hot := dimmHot s ch c.hot dimm
  .next <|
    match (if contained s p then some 86 else temp) with
    | none => s
    | some t =>
      if 95 < t then fault hot (.channel ch) ⟨Ev.DIMM_TEMP_HIGH.code, 2⟩ ch (le 1 t)
      else if 85 < t then (if c.hot.contains dimm.val then s else record hot Ev.DIMM_TEMP_HIGH ch (le 1 t))
      else if t < 80 then chanSet s ch { c with hot := c.hot.filter (fun d => d ≠ dimm.val) }
      else s

/-- DRAM_RETRAIN_DONE: the retraining of a channel ends, passed or failed (R284, R286). -/
def execDramRetrainDone (ch : Fin 16) (pass : Bool) (s : State) : Host.Outcome State Fault Refusal :=
  let c := chanOf s ch
  .next <|
    if c.st ≠ .retraining then s
    else
      let s1 := bump (chanSet s ch { c with st := .running }) (Reg.DRC_CH_RETRAIN_DONE ch) 1
      if pass then wr (wr s1 (Reg.DRC_CH_RETRAIN_LAST ch) 1) (Reg.DRC_CH_RETRAIN_FAIL_RUN ch) 0
      else
        let n := satTo 7 (rd s (Reg.DRC_CH_RETRAIN_FAIL_RUN ch) + 1)
        let s2 := setF (wr (wr s1 (Reg.DRC_CH_RETRAIN_LAST ch) 2) (Reg.DRC_CH_RETRAIN_FAIL_RUN ch) n)
          (Reg.DRC_CH_EVENTS_RETRAIN_FAIL ch)
        if n = 4 then alert (reportFault s2 (.channel ch) Ev.DRAM_RETRAIN_FAIL.code ch 2 []) Ev.DRAM_RETRAIN_FAIL.code
        else reportFault s2 (.channel ch) Ev.DRAM_RETRAIN_FAIL.code ch 1 []

/-- The retraining slot of a channel at its half-cycle (R56, R284, R285): started, or skipped and counted. -/
def retrainSlot (s : State) (ch : Nat) : State :=
  let c := chanOf s ch
  if c.st ≠ .running then s
  else if s.cin.phase ≠ .normal ∨ c.panicMirror ∨ c.panicDrain ∨ c.repairs ≠ [] then
    wr (bump s (Reg.DRC_CH_RETRAIN_SKIPPED ch) 1) (Reg.DRC_CH_RETRAIN_LAST ch) 3
  else chanSet s ch { c with st := .retraining }

/-! ### Patrol scrub (R288, R289) -/

/-- The DRAM line of a channel-local index under the mapping order (R262). -/
def unmapLocal (s : State) (ch l : Nat) : Nat :=
  match rd s Reg.DRC_CFG_MAP with
  | 2 => l / 128 * 2048 + ch * 128 + l % 128
  | 3 => ch * chanLines s + l
  | _ => l / 4 * 64 + ch * 4 + l % 4

/-- The scrub slot of one channel (R288): 1 + min(debt, 3) reads in ascending order, or a slot skipped. The end of a pass
starts the next, and a pass longer than 24 hours is recorded (R289). -/
def scrubChan (s : State) (ch : Nat) : State :=
  let c := chanOf s ch
  if rdb s Reg.DRC_SCRUB_ENABLE = false ∨ chanLines s = 0 ∨ (c.st ≠ .running ∧ c.st ≠ .retraining) then s
  else if c.panicMirror ∨ c.panicDrain ∨ c.st = .retraining ∨ s.cin.phase = .commit then
    chanSet s ch { c with scrubDebt := c.scrubDebt + 1, scrubSkipped := c.scrubSkipped + 1 }
  else
    let k := min (1 + min c.scrubDebt 3) (chanLines s - c.scrubIdx)
    let s1 := (List.range k).foldl (fun t i =>
      if rdqFull t (unmapLocal s ch (c.scrubIdx + i)) then t else rdqPut t (unmapLocal s ch (c.scrubIdx + i)) .scrub none) s
    let c1 := chanOf s1 ch
    if c.scrubIdx + k < chanLines s then
      chanSet s1 ch { c1 with scrubIdx := c.scrubIdx + k, scrubDebt := c.scrubDebt - (k - 1) }
    else
      let d := s.time - c.scrubStart
      let s2 := chanSet s1 ch { c1 with scrubIdx := 0, scrubDebt := 0, scrubSkipped := 0, scrubStart := s.time }
      let s3 := if ch = 0 then bump s2 Reg.DRC_SCRUB_LAST_PASSES 1 else s2
      let s4 := wr s3 Reg.DRC_SCRUB_LAST_MINUTES (satTo 0xFFFF (d / secs 60))
      if secs 86400 < d then record s4 Ev.SCRUB_LATE ch [] else s4

/-- The scrub slots of a tick, and the ticks spent with PANIC raised. -/
def scrubTick (s : State) : State :=
  s.dram.chans.foldl (fun t e => scrubChan
    (if e.2.panicMirror ∨ e.2.panicDrain then bump t (Reg.DRC_CH_LAT_PANIC_TICKS e.1) 1 else t) e.1) s

end Sys2Proof.Machine
end

