-- ==== Sys2Proof/Machine/SramOps.lean ====
section
/-!
DEFINITION. Errors of the Welt, of the Skive buffer and of the Tree cache's arrays (R163, R164, R222, R223, R332): what a command
that reads a line finds, and what follows.
-/
namespace Sys2Proof.Machine

/-! ### Welt and Skive bytes (R163, R164) -/

/-- A valid byte of a line stands in the Skive buffer. -/
def skiveHas (s : State) (gl k : Nat) : Bool := ((skiveFind s gl).map (fun e => (e.data.getD k none).isSome)).getD false

/-- A valid byte of a line stands in the Welt. -/
def weltHas (s : State) (gl k : Nat) : Bool := ((weltFind s gl).map (fun e => (e.data.getD k none).isSome)).getD false

/-- The pending line poisoned as a whole (R163). -/
def pendingPoisoned (s : State) (gl : Nat) : State :=
  { s with
    per := { s.per with
    welt := s.per.welt.map (fun (e : WeltEntry) => if e.line = gl then { e with poisoned := true } else e)
    skive := s.per.skive.map (fun (e : SkiveLine) => if e.line = gl then { e with poisoned := true } else e) } }

/-- A byte of the pending line put right (R163). -/
def pendingByte (s : State) (gl k : Nat) (skive : Bool) (b : Byte) : State :=
  if skive && skiveHas s gl k then
    { s with
      per := { s.per with
      skive := s.per.skive.map (fun (e : SkiveLine) => if e.line = gl then { e with data := e.data.set k (some b) } else e) } }
  else
    { s with
      per := { s.per with
      welt := s.per.welt.map (fun (e : WeltEntry) => if e.line = gl then { e with data := e.data.set k (some b) } else e) } }

/-- The outcome of an uncorrectable byte: counted and recorded with the address and the outcome, 0 repaired, 1 poisoned (R163). -/
def weltOutcome (s : State) (gl : Nat) (skive poisoned : Bool) : State :=
  fault (bump s (if poisoned then Reg.WLT_ECC_POISONED else Reg.WLT_ECC_REPAIRED) 1) .welt
    (if skive then Ev.SKIVE_UNCORRECTED else Ev.WELT_UNCORRECTED) 0xFF (le 8 gl ++ le 1 (b2n poisoned))

/-- A pending byte shows an error (R163, R164): a single-bit error is corrected and counted; an uncorrectable one is repaired from the
twin where it has acknowledged the mirror copy, and else poisons the line. -/
def weltError (s : State) (gl k : Nat) (unc : Bool) : State :=
  let sk := skiveHas s gl k
  if !sk && !weltHas s gl k then s
  else if !unc then record (bump s Reg.WLT_ECC_CORRECTED 1) Ev.WELT_CORRECTED 0xFF (le 8 gl)
  else
    let mir := if sk then (skiveFind s gl).bind SkiveLine.mirrorSeq else (weltFind s gl).bind WeltEntry.mirrorSeq
    let s1 := setF s Reg.WLT_EVENTS_ECC_UNCORR
    if mirAcked s mir && linkCarries s then
      emit { s1 with
        dram := { s1.dram with nextTag := s1.dram.nextTag + 1 }
        per := { s1.per with repairs := s1.per.repairs ++ [⟨s1.dram.nextTag, gl, k, sk, true⟩] } }
        (.twinFrame 0x20 gl s1.dram.nextTag [])
    else weltOutcome (pendingPoisoned s1 gl) gl sk true

/-- A repair of a pending byte ends: with the twin's byte, or without (R163, R332). A byte written meanwhile stands. -/
def weltRepaired (s : State) (r : WeltRepair) (b : Option Byte) : State :=
  let s1 := { s with per := { s.per with repairs := s.per.repairs.filter (fun x => x ≠ r) } }
  let s2 := if r.live = false then s1 else match b with
    | some v => weltOutcome (pendingByte s1 r.line r.byte r.skive v) r.line r.skive false
    | none => weltOutcome (pendingPoisoned s1 r.line) r.line r.skive true
  answerHeld s2 (fun h => h.wait = .repair ∧ h.line = r.line)

/-! ### Tags and data of the Tree cache (R222, R223) -/

/-- A way taken out of service (R222): cleaned and invalidated first, then its bit in TRE_WAY_DISABLE is set. -/
def wayIsolate (s : State) (sl w : Nat) : State :=
  let s1 := (s.tree.lines.filter (fun t => t.st ≠ .fill && treeSlice t.line == sl && t.way == w)).foldl
    (fun t l => invalidateLine t .maint l) s
  setF (wr s1 (Reg.TRE_WAY_DISABLE_WAYS sl) (setBit (rd s1 (Reg.TRE_WAY_DISABLE_WAYS sl)) w true)) Reg.TRE_EVENTS_WAY_ISOLATED

/-- A single-bit error in the way of a line (R222): corrected, counted and recorded; the sixteenth of a way within 4,096 half-cycles
isolates the way. -/
def treeCorrected (s : State) (t : TreeLine) : State :=
  let sl := treeSlice t.line
  let key := 16 * sl + t.way
  let ts := s.lck.count :: (amGet s.tree.corr key []).filter (fun c => decide (s.lck.count < c + 4096))
  let s1 := record (bump s Reg.TRE_ECC_CORRECTED 1) Ev.TREE_CORRECTED sl (le 1 t.way)
  if 16 ≤ ts.length ∧ wayDisabled s sl t.way = false then
    fault (wayIsolate { s1 with tree := { s1.tree with corr := amErase s1.tree.corr key } } sl t.way) (.treeWay sl t.way)
      Ev.TREE_WAY_ISOLATED sl (le 1 t.way)
  else { s1 with tree := { s1.tree with corr := amSet s1.tree.corr key ts } }

/-- A line of the Tree cache poisoned (R203, R223). -/
def treePoisoned (s : State) (dl : Nat) : State :=
  let s1 := match treeFind s dl with | some t => treePut s { t with poison := true } | none => s
  fault (bump s1 Reg.TRE_ECC_POISONED 1) (.treeWay (treeSlice dl) ((treeFind s dl).map TreeLine.way |>.getD 0)) Ev.TREE_LINE_POISONED
    (treeSlice dl) (le 8 ((homeOfDram s dl).getD 0))

/-- An uncorrectable error in a line's data or tag (R223): a line that is not DIRTY is invalidated and fetched again; a DIRTY line, or
one whose state cannot be read, is repaired from the twin, or poisoned where PAIR is unavailable. -/
def treeUncorrectable (s : State) (t : TreeLine) (stateLost : Bool) : State :=
  let s1 := setF s Reg.TRE_EVENTS_UNCORRECTED
  if t.st ≠ .dirty ∧ stateLost = false then
    rdqPut (treePut s1 { t with st := .fill, data := [], poison := false, merge := plineEmpty, arrived := none }) t.line .fill none
  else match homeOfDram s1 t.line with
    | some gl =>
      if s1.per.pairAvail ∧ linkCarries s1 then
        let ch := mapChannel s1 t.line
        let c := chanOf s1 ch
        let s2 := chanSet s1 ch { c with repairs := c.repairs ++ [⟨t.line, s1.dram.nextTag, true, true⟩] }
        emit { s2 with dram := { s2.dram with nextTag := s2.dram.nextTag + 1 } } (.twinFrame 0x20 gl s1.dram.nextTag [])
      else treePoisoned s1 t.line
    | none => treePoisoned s1 t.line

/-- A line of the Tree cache repaired by the twin's copy (R223): the waiting requests are served. -/
def treeRepaired (s : State) (ch dl : Nat) (data : Bytes) : State :=
  let c := chanOf s ch
  let s1 := chanSet s ch { c with repairs := c.repairs.filter (fun x => x.line ≠ dl) }
  let s2 := match treeFind s1 dl with
    | some t => if t.st = .fill then s1 else treePut s1 { t with data := data, poison := false }
    | none => s1
  let s3 := fault (bump s2 Reg.TRE_ECC_REPAIRED 1) (.treeWay (treeSlice dl) ((treeFind s dl).map TreeLine.way |>.getD 0))
    Ev.TREE_REPAIRED (treeSlice dl) (le 8 ((homeOfDram s dl).getD 0))
  answerHeld s3 (fun h => h.wait = .repair ∧ some h.line = homeOfDram s dl)

/-- A repair of a line of the Tree cache without a copy (R223, R332): the line is poisoned. -/
def treeRepairLost (s : State) (ch dl : Nat) : State :=
  let c := chanOf s ch
  let s1 := chanSet s ch { c with repairs := c.repairs.filter (fun x => x.line ≠ dl) }
  answerHeld (treePoisoned s1 dl) (fun h => h.wait = .repair ∧ some h.line = homeOfDram s dl)

/-- What a command that reads a home line finds in the arrays on its way (R163, R222, R223): a line in FILL holds no data yet. -/
def sramFound (s : State) (gl : Nat) (e : SramErr) : State :=
  match e with
  | .good => s
  | .weltCorrected k => weltError s gl k.val false
  | .weltUncorrectable k => weltError s gl k.val true
  | .treeCorrected => match (dramOf s gl).bind (treeFind s) with
    | some t => if t.st = .fill then s else treeCorrected s t
    | none => s
  | .treeUncorrectable stateLost => match (dramOf s gl).bind (treeFind s) with
    | some t => if t.st = .fill then s else treeUncorrectable s t stateLost
    | none => s

end Sys2Proof.Machine
end

