-- ==== Sys2Proof/Machine/TwinLink.lean ====
section
/-!
DEFINITION. The meanings of the Stirrup link's frames and events (spec/11): mirroring, repair, journal, zones, barriers,
handshake, heartbeats, claims, takeover and failback.
-/
namespace Sys2Proof.Machine

/-! ### Common -/

/-- A frame of the twin is taken (R350): the link is up and the twin is neither contained nor INCOMPATIBLE. -/
def frameTaken (s : State) : Bool := linkCarries s

/-- A frame sent to the twin. -/
def twinSend (s : State) (code a b : Nat) (d : Bytes) : State := emit s (.twinFrame code a b d)

/-- The members that the store configures (R338), and those among them that can be reached. -/
def configuredMembers (s : State) : List Nat := s.awl.configured

/-- The lowest-numbered reachable members, in rising order. -/
def reachableMembers (s : State) : List Nat :=
  s.awl.configured.filter (fun m => (amGet s.awl.drives m {}).linkUp)

/-- More than half of the configured members. -/
def majority (s : State) (n : Nat) : Bool := decide ((configuredMembers s).length < 2 * n)

/-! ### The mirror protocol (R327 to R333) -/

/-- A MIRROR or MIRROR_FULL frame received (R327, R328, R330, R350): stored in sequence order where the pool has room, else
waiting; a gap or a repeat is violation cause 1. -/
def mirrorIn (s : State) (f : MirFrame) (code : Nat) : State :=
  if !frameTaken s then s
  else if f.seq ≠ s.twin.rxNext + s.twin.waiting.length then twinViolation s 1 code
  else if s.twin.waiting = [] ∧ poolRoom s f then
    let s1 := poolStore s f
    let ch := mapChannel s1 (dramLines s1 - 1 - f.line % 64)
    let c := chanOf s1 ch
    sendMirrorAck (panicUpdate (chanSet s1 ch c) ch)
  else
    let s1 := twinSet s { s.twin with waiting := s.twin.waiting ++ [f] }
    let s2 := if f.full then poolDrain s1 (s1.twin.waiting.length) else s1
    if s2.twin.poolFullEp ∨ s2.twin.waiting = [] then s2
    else fault (setF (twinSet s2 { s2.twin with poolFullEp := true }) Reg.STP_EVENTS_POOL_FULL) .mirror Ev.POOL_FULL 0xFF []

/-- MIRROR: the bytes of a line that the mask selects (R328). -/
def execMirror (seq line mask : Nat) (data : Bytes) (s : State) : Host.Outcome State Fault Refusal :=
  .next (mirrorIn s ⟨seq, line, plineMasked mask (data ++ List.replicate (64 - data.length) 0 |>.take 64), false⟩ 0x10)

/-- MIRROR_FULL: a whole line (R328). -/
def execMirrorFull (seq line : Nat) (data : Bytes) (s : State) : Host.Outcome State Fault Refusal :=
  .next (mirrorIn s ⟨seq, line, plineOf (data ++ List.replicate (64 - data.length) 0 |>.take 64), true⟩ 0x11)

/-- The acknowledgement of this controller's frames up to a sequence taken (R327): mirror conditions, held writes, Skive
lines, and the end of a resynchronisation (R345). -/
def ackTaken (s : State) (upto : Nat) : State :=
  let t := s.twin
  if upto < t.txAcked ∨ t.txSeq ≤ upto then s
  else
    let sent := amGet t.sentAt upto s.time
    let lat := (s.time - sent) / 2560
    let s1 := twinSet s { t with txAcked := upto + 1, unacked := t.unacked.filter (fun f => upto < f.seq),
                                 sentAt := t.sentAt.filter (fun e => upto < e.1) }
    let s2 := raiseTo (wr s1 Reg.STP_LAT_LAST (satTo 0xFFFF lat)) Reg.STP_LAT_MAX lat
    let s3 := match s2.twin.resync with
      | some last =>
        if last ≤ upto + 1 ∧ t.link ≠ .incompatible then
          pairBack (record (setF (twinSet s2 { s2.twin with
            resync := none,
            link := if s2.twin.resyncIn then s2.twin.link else .paired }) Reg.STP_EVENTS_RESYNC_DONE) Ev.RESYNC_DONE 0xFF [])
        else s2
      | none => s2
    skiveWriteAll (completeAll s3)

/-- MIRROR_ACK: everything up to a sequence is stored by the twin (R327). -/
def execMirrorAck (upto : Nat) (s : State) : Host.Outcome State Fault Refusal :=
  .next (if frameTaken s then ackTaken s upto else s)

/-- RELEASE: the granules of a chunk that the mask names and whose newest sequence lies below the cut leave the pool (R331);
a cut above the sender's sequence is violation cause 3. -/
def execRelease (chunk mask cut : Nat) (s : State) : Host.Outcome State Fault Refusal :=
  .next <|
    if !frameTaken s then s
    else if s.twin.rxNext + s.twin.waiting.length < cut then twinViolation s 3 0x13
    else
      let s1 := twinSet s { s.twin with
      pool := s.twin.pool.filter (fun f =>
        !(f.gran / 16 == chunk && bit mask (f.gran % 16) && decide (f.newest < cut))) }
      let s2 := poolDrain s1 s1.twin.waiting.length
      if s2.twin.rxNext = s1.twin.rxNext then s2 else sendMirrorAck s2

/-- REPAIR_REQ: the twin asks for a line of its half (R332): whole, partial with its mask, or NO_COPY; a line outside its
range is violation cause 4. -/
def execRepairReq (line tag : Nat) (s : State) : Host.Outcome State Fault Refusal :=
  .next <|
    if !frameTaken s then s
    else if 2 ^ 40 ≤ line then twinViolation (twinSend s 0x21 tag 0 []) 4 0x20
    else match (poolFind s (line / 64)).bind (fun p => amFind p.lines (line % 64)) with
      | some l => emit s (.repairRsp tag l)
      | none => twinSend s 0x21 tag 0 []

/-- A repair that got no copy (R276, R332): the line is lost and poisoned. -/
def repairLost (s : State) (ch : Nat) (r : Repair) : State :=
  let c := chanOf s ch
  let s1 := chanSet s ch { c with repairs := c.repairs.filter (fun x => x.line ≠ r.line) }
  let gl := homeOfDram s1 r.line
  let s2 := match gl with | some g => mapPoison s1 g true | none => s1
  answerHeld (poisonFill (fault (poisonLine s2 ch r.line) (.channel ch) Ev.DRAM_DIRTY_LOST ch
    (le 4 ((gl.map (fun g => (segOf s2 (g / 32768)).obj)).getD 0) ++ le 8 (gl.getD 0))) r.line)
    (fun h => h.wait = .repair ∧ some h.line = gl)

/-- The repair of a tag, with its channel. -/
def repairOf (s : State) (tag : Nat) : Option (Nat × Repair) :=
  s.dram.chans.findSome? (fun e => (e.2.repairs.find? (fun r => r.fromTwin ∧ r.tag = tag)).map (fun r => (e.1, r)))

/-- REPAIR_RSP: the twin's answer to a repair request (R276, R332): a whole line repairs the waiting line; a partial answer
or NO_COPY counts as no copy, but a partial answer repairs a Welt entry (R163). -/
def execRepairRsp (tag mask : Nat) (data : Bytes) (s : State) : Host.Outcome State Fault Refusal :=
  .next <|
    if !frameTaken s then s
    else match repairOf s tag with
      | none => match s.per.repairs.find? (fun r => r.tag = tag) with
        | some r => weltRepaired s r (if bit mask r.byte then data[r.byte]? else none)
        | none => s
      | some (ch, r) =>
        let whole := data ++ List.replicate (64 - data.length) 0 |>.take 64
        if r.tree then (if mask = 2 ^ 64 - 1 then treeRepaired s ch r.line whole else treeRepairLost s ch r.line)
        else if mask = 2 ^ 64 - 1 then
          record (setF (bump (repairDone s r.line whole)
            (Reg.DRC_CH_ECC_REPAIRED ch) 1) (Reg.DRC_CH_EVENTS_REPAIRED ch)) Ev.DRAM_REPAIRED ch (le 6 r.line)
        else repairLost s ch r

/-- REMIRROR: the twin asks for a line again (R333): MIRROR_FULL of the current line with pending bytes merged; a line
outside this controller's range is violation cause 4. -/
def execRemirror (line : Nat) (s : State) : Host.Outcome State Fault Refusal :=
  .next <|
    if !frameTaken s then s
    else if (baseOf s (line / 32768)).isNone then twinViolation s 4 0x22
    else match lineValue s line with
      | some v => mirrorSend s line (plineOf v.1)
      | none => s

/-! ### Journal, zones, barriers (R171, R307, R346, R366) -/

/-- JOURNAL: an update of the twin's journal is stored in the copy and acknowledged (R366). -/
def execJournal (seq : Nat) (e : JournalEntry) (s : State) : Host.Outcome State Fault Refusal :=
  .next <|
    if !frameTaken s then s
    else twinSend { s with
      awl := { s.awl with
      twinJrn := s.awl.twinJrn.filter (fun x => x.seq ≠ e.seq) ++ (if e.state = .free then [] else [e]) } } 0x31 seq 0 []

/-- JOURNAL_ACK: the twin holds a journal update; the RELEASE frames of a committed stripe follow (R331, R362). -/
def execJournalAck (seq : Nat) (s : State) : Host.Outcome State Fault Refusal :=
  .next <|
    if !frameTaken s then s
    else
      let s1 := { s with
        awl := { s.awl with
        journal := s.awl.journal.map (fun e => if e.upd ≤ seq then { e with twinHas := true } else e)
        releases := s.awl.releases.filter (fun r => seq < r.upd) } }
      (s.awl.releases.filter (fun r => r.upd ≤ seq)).foldl
        (fun t r => emit t (.twinFrame 0x13 r.chunk r.cut (le 2 r.mask))) s1

/-- ZONE_REQ: the twin asks for zones, to be handed over at the next aligned phase 0 (R307). -/
def execZoneReq (wanted : Nat) (s : State) : Host.Outcome State Fault Refusal :=
  .next (if frameTaken s then { s with cin := { s.cin with twinWants := wanted } } else s)

/-- ZONE_GRANT: the twin gives zones with a new epoch (R346): acknowledged, and used from the next phase 0. Zones it does not
own, or an epoch below this controller's, are violation cause 5. -/
def execZoneGrant (zones : List Nat) (epoch : Nat) (s : State) : Host.Outcome State Fault Refusal :=
  .next <|
    if !frameTaken s then s
    else if epoch < s.cin.epoch ∨ zones.any (fun z => z ∉ s.cin.twinZones) then twinViolation s 5 0x41
    else emit { s with
        cin := { s.cin with
        inEpoch := epoch, incoming := s.cin.incoming ++ zones,
        zonePending := false, twinZones := s.cin.twinZones.filter (· ∉ zones) } } (.zoneAck zones)

/-- ZONE_ACK: the receiver has the zones; the giver adopts the new epoch (R346). -/
def execZoneAck (zones : List Nat) (s : State) : Host.Outcome State Fault Refusal :=
  .next <|
    if frameTaken s ∧ s.cin.outgoing ≠ [] ∧ zones = s.cin.outgoing then
      record { s with
        cin := { s.cin with
        epoch := (s.cin.epoch + 1) % 2 ^ 32, outgoing := [],
        twinZones := s.cin.twinZones ++ zones } } Ev.ZONE_HANDOVER 0xFF (le 4 zones.length)
    else s

/-- BARRIER_REQ: this controller's part of an APPLIANCE barrier begins (R171). -/
def execBarrierReq (tag level : Nat) (s : State) : Host.Outcome State Fault Refusal :=
  .next <|
    if !frameTaken s then s
    else if s.cin.phase = .commit then twinSend s 0x51 tag (statusCode .notReady) []
    else startBarrier s (.twinReq tag) 0x3F 2 level

/-- The status a code names, for the statuses a barrier can end with. -/
def barrierStatus (c : Nat) : Status :=
  if c = 0 then .ok else if c = 0x70 then .notReady else if c = 0x23 then .timeout
  else if c = 0x22 then .functionDisabled else .internal

/-- BARRIER_DONE: the twin's part of an APPLIANCE barrier has ended with a status (R171). -/
def execBarrierDone (tag st : Nat) (s : State) : Host.Outcome State Fault Refusal :=
  .next <|
    if !frameTaken s then s
    else { s with
    per := { s.per with
    barriers := s.per.barriers.map (fun b =>
      if b.twinTag = some tag then { b with twinStatus := some (barrierStatus st) } else b) } }

/-! ### Link up and down (R326, R335) -/

/-- This controller's own protocol version, of its image (R349). -/
def ownMajor (s : State) : Nat := s.fw.protoMajor
/-- See ownMajor. -/
def ownMinor (s : State) : Nat := s.fw.protoMinor

/-- A HELLO sent, with the role, the epoch, the timestamp and the next mirror sequence (R326, R327). -/
def sendHello (s : State) : State :=
  let r : TwinRole := match s.twin.role with | .returning => .starting | .claiming => .active | x => x
  emit s (.hello r s.cin.epoch (lineStamp s) s.twin.txSeq s.cin.incoming)

/-- STIRRUP_UP: the link is operational at a number of lanes (R325, R326): HELLO is sent at once. With TWIN_PRESENT_N sampled
high the link is never trained. -/
def execStirrupUp (lanes : Nat) (s : State) : Host.Outcome State Fault Refusal :=
  .next <|
    if s.boot.twinPresentN ∨ (s.twin.link ≠ .down ∧ s.twin.link ≠ .training) ∨ s.boot.stage < 6 then s
    else
      let s1 := record (twinSet s { s.twin with link := .hello, everUp := true, lanes := lanes, helloDone := false })
        Ev.STIRRUP_UP 0xFF (le 1 lanes)
      let s2 := if lanes < 16 then fault (setF s1 Reg.STP_EVENTS_DEGRADED) .stirrup Ev.STIRRUP_DEGRADED 0xFF (le 1 lanes) else s1
      sendHello s2

/-- The link leaves its operational state (R171, R332, R335, R345): PAIR is unavailable, barrier requests that are open
end with this controller's part, open repairs end as NO_COPY, the walk is abandoned, retraining begins. -/
def linkLost (s : State) : State :=
  if s.twin.link = .down ∨ s.twin.link = .training then s
  else
    let s1 := twinSet s { s.twin with link := .training, downSince := s.time, resync := none, resyncIn := false,
                                      waiting := [], unacked := [], sentAt := [], helloDone := false,
                                      failbackReq := false, readySent := false }
    let s2 := record (setF s1 Reg.STP_EVENTS_LINK_DOWN) Ev.STIRRUP_DOWN 0xFF []
    let s3 := pairLost { s2 with
    per := { s2.per with
    barriers := s2.per.barriers.map (fun b =>
      if b.twinTag.isSome ∧ b.twinStatus.isNone then { b with twinTag := none } else b) } }
    let reps := s3.dram.chans.flatMap (fun e => (e.2.repairs.filter (fun r => r.fromTwin)).map (fun r => (e.1, r)))
    let s4 := reps.foldl (fun t r => if r.2.tree then treeRepairLost t r.1 r.2.line else repairLost t r.1 r.2) s3
    completeAll (s4.per.repairs.foldl (fun t r => weltRepaired t r none) s4)

/-- STIRRUP_DOWN: the link leaves its operational state (R335). -/
def execStirrupDown (s : State) : Host.Outcome State Fault Refusal := .next (linkLost s)

/-- STP_RETRAIN: a write of STP_CTRL.RETRAIN takes the link down and retrains it (R335). -/
def execStpRetrain (s : State) : Host.Outcome State Fault Refusal := .next (linkLost s)

/-- HEARTBEAT_LOSS_RETRAIN: sixteen consecutive heartbeats missed while the link is up take it down (R335). -/
def execHeartbeatLossRetrain (s : State) : Host.Outcome State Fault Refusal :=
  .next (if 16 ≤ s.twin.hbMissed then linkLost s else s)

/-! ### Handshake and resynchronisation (R344, R345, R349, R618) -/

/-- The lines of the resynchronisation walk (R345): Welt entries first, then every line of every granule that is not CLEAN, in
rising home address. -/
def walkLines (s : State) : List Nat :=
  (s.per.welt.map WeltEntry.line) ++ (s.per.skive.filter (fun e => plineFull e.data)).map SkiveLine.line ++
  ((s.cin.granules.filterMap (fun g => homeOfDram s (g.1 * 64))).mergeSort (· ≤ ·)).flatMap
    (fun g => (List.range 64).map (fun i => g + i))

/-- The walk of this controller begun (R345): every line sent as MIRROR_FULL, and the sequence that ends the walk noted. -/
def startResync (s : State) : State :=
  let s0 := twinSet s { s.twin with resync := some s.twin.txSeq, link := .resync }
  let s1 := (walkLines s).foldl (fun t gl =>
    match lineValue t gl with
    | some v =>
      let u := match weltFind t gl with
        | some e => weltPut t { e with mirrorSeq := some t.twin.txSeq }
        | none => t
      mirrorSend u gl (plineOf v.1)
    | none => match weltFind t gl with
      | some e => mirrorSend (weltPut t { e with mirrorSeq := some t.twin.txSeq }) gl e.data
      | none => t) s0
  let s2 := twinSet s1 { s1.twin with resync := some s1.twin.txSeq }
  if s1.twin.txSeq = s.twin.txSeq then
    pairBack (record (setF (twinSet s2 { s2.twin with resync := none, link := .paired }) Reg.STP_EVENTS_RESYNC_DONE)
      Ev.RESYNC_DONE 0xFF [])
  else s2

/-- A standby LD whose partner differs in size or sharing group (R342). -/
def standbyMismatch (s : State) (table : List (Nat × (Nat × (Nat × Nat)))) (n : Nat) : Bool :=
  let p := odNum s ((0x5100 + n) * 256 + 1) 1 0xFF
  p ≠ 0xFF && (match amFind table p with
    | some e => e.1 ≠ rd s (Reg.HPT_LD_SIZE_SIZE n) || e.2.1 ≠ rd s (Reg.HPT_LD_CFG_GROUP n)
    | none => true)

/-- The versions of the two can pair (R349). -/
def protoFits (s : State) (major minor : Nat) : Bool :=
  major == ownMajor s && decide (minor ≤ ownMinor s + 1) && decide (ownMinor s ≤ minor + 1)

/-- This controller has the lower serial number of the two. -/
def serialLower (other : Nat) : Bool := decide (Config.serial.toNat < other)

/-- DRAM frames left for T1 (R246, R309, R388): those of the DIMMs less the segment records, the host-held bitmap, and the mirror
pool with its index. -/
def t1Count (s : State) : Nat :=
  let bitmap := ((List.range 64).map (fun w => if windowUsed s w then (windowSegs s w).2 * 4096 else 0)).sum
  let pool := s.cin.poolFrames * 4096 / 16 * 17
  dramLines s / 32768 - 256 - (bitmap + 2 ^ 21 - 1) / 2 ^ 21 - (pool + 2 ^ 21 - 1) / 2 ^ 21

/-- The mirror pool reserved for the twin's CINCH_CAP (R309), or grown to it (R310); where the DRAM is not there the pool stays as it
is and record 0x700E is written. -/
def poolReserve (s : State) : State :=
  let want := (s.twin.twinCap + 2 ^ 30) / 4096
  if s.boot.twinPresentN ∨ want ≤ s.cin.poolFrames then s
  else
    let s1 := { s with cin := { s.cin with poolFrames := want } }
    let s2 := { s1 with tier := { s1.tier with t1Frames := t1Count s1 } }
    if s.cin.poolFrames = 0 then s2
    else if s2.tier.segs.all (fun e => !(segResident e.2) || decide (e.2.frame < s2.tier.t1Frames)) then s2
    else record (setF s Reg.CIN_EVENTS_POOL_REFUSED) Ev.POOL_GROW_REFUSED 0xFF []

/-- Zones whose grant was never acknowledged (R346): the twin's list of accepted zones settles their owner. -/
def zonesSettle (s : State) (accepted : List Nat) : State :=
  { s with
    cin := { s.cin with
    twinZones := s.cin.twinZones ++ s.cin.outgoing.filter (fun z => accepted.contains z)
    ownedZones := s.cin.ownedZones ++ s.cin.outgoing.filter (fun z => !accepted.contains z)
    freeZones := (s.cin.freeZones ++ s.cin.outgoing.filter (fun z => !accepted.contains z)).mergeSort (· ≤ ·)
    outgoing := [], zonePending := false, twinWants := 0 } }

/-- The free zones divided evenly at a fresh pairing (R307): the lower serial number takes the first half. -/
def zonesDivide (s : State) : State :=
  let free := s.cin.freeZones
  let a := free.take ((free.length + 1) / 2)
  let b := free.drop ((free.length + 1) / 2)
  let low := serialLower s.twin.twinSerial
  let mine := if low then a else b
  let theirs := if low then b else a
  { s with
    cin := { s.cin with
    freeZones := mine, twinZones := theirs, ownedZones := s.cin.ownedZones.filter (fun z => !theirs.contains z) } }

/-- The case of the handshake table (R344) that the two roles give, once both have sent HELLO and step 12 has come. -/
def handshake (s : State) : State :=
  let starting := s.twin.role = .starting ∨ s.twin.role = .returning
  if s.twin.twinRole = some .fenced ∨ s.twin.role = .fenced then record s Ev.FENCED 0xFF []
  else if s.twin.role = .survivor ∧ s.twin.twinRole = some .starting then twinSet s { s.twin with failback := true }
  else if starting ∧ s.twin.twinRole = some .survivor then
    twinSend (twinSet s { s.twin with role := .returning }) 0x61 0 0 []
  else
    let s1 := poolReserve s
    let s2 := if starting ∧ s.twin.twinRole = some .starting then zonesDivide s1 else s1
    let s3 := s2.awl.journal.foldl (fun u e => emit u (.journal e.upd e)) s2
    startResync (twinSet s3 { s3.twin with role := if starting then .active else s3.twin.role })

/-- HELLO: a handshake by the two roles (R309, R344, R345, R347, R349, R618): versions, timestamp, epochs and zones first, then the
case of the table. -/
def execHello (h : HelloFrame) (s : State) : Host.Outcome State Fault Refusal :=
  .next <|
    if s.twin.link = .down ∨ s.twin.link = .training then s
    else if h.role ∉ [1, 2, 4, 5, 7] then twinViolation s 6 0x01
    else
      let t := s.twin
      let answer := t.helloDone = false ∨ h.role = 1
      let s1 := twinSet s { t with
        twinSerial := h.serial, peerMajor := h.major, peerMinor := h.minor, twinCap := h.cap,
        twinTable := h.table, twinEpoch := h.epoch, helloDone := true, rxNext := h.nextSeq, waiting := [], unacked := [],
        sentAt := [], txAcked := t.txSeq, twinRole := some (match h.role with
          | 1 => .starting | 2 => .active | 4 => .survivor | 5 => .fenced | _ => .stalled) }
      let s2 := zonesSettle { s1 with
        lck := { s1.lck with realign := some h.count }
        cin := { s1.cin with epoch := max s1.cin.epoch h.epoch } } h.accepted
      let s3 := if answer then sendHello s2 else s2
      let bad := (List.range 64).filter (fun n => ldBound s3 n && standbyMismatch s3 h.table n)
      let s4 := bad.foldl (fun u n => fault u (.ld n) Ev.STANDBY_MISMATCH n []) s3
      if !protoFits s h.major h.minor then
        alert (fault (pairLost (twinSet s4 { s4.twin with link := .incompatible })) .stirrup Ev.PROTOCOL_INCOMPATIBLE 0xFF
          (le 1 h.major ++ le 1 h.minor)) Ev.PROTOCOL_INCOMPATIBLE.code
      else if s.boot.stage < 12 then s4
      else handshake s4

/-! ### Heartbeats (R54, R55, R334, R346) -/

/-- A difference in two's complement of 8 bits, saturating at ±127. -/
def satByte (d : Int) : Nat := (((max (-127) (min 127 d)) + 256) % 256).toNat

/-- A SYNTHETIC clock steers its phase to the markers of a twin that is not, or of one with the higher serial number (R54): the
difference in phase becomes the error that the tick spacing removes (R41). -/
def steerPhase (s : State) (h : HeartbeatFrame) : State :=
  let c := s.lck
  if c.state = .synthetic ∧ s.boot.mode ≠ .compat ∧ (h.synth = false ∨ serialLower s.twin.twinSerial) then
    let d : Int := ((h.phase : Int) - (c.phase : Int) + 1536) % 1024 - 512
    { s with lck := { c with phaseErr := -d * 256000 } }
  else s

/-- HEARTBEAT: the miss count is reset, the phase marker checked against the own timestamp, flags, epoch and acknowledgement
taken (R55, R334, R336, R346). -/
def execHeartbeat (h : HeartbeatFrame) (s : State) : Host.Outcome State Fault Refusal :=
  .next <|
    if s.twin.link = .down ∨ s.twin.link = .training then s
    else
      let d : Int := (h.count * 1024 + h.phase : Nat) - (lineStamp s : Nat)
      let mis := h.count ≠ s.lck.count ∨ 2 < d.natAbs
      let run := if mis then s.lck.mismatchRun + 1 else 0
      let s1 := twinSet s { s.twin with
        hbSeen := true, hbMissed := 0,
        twinCommit := if h.commit then some h.trigger else none, twinWarn := h.warn, twinEarly := h.early, twinEpoch := h.epoch }
      let s2 := wr (wr { s1 with lck := { s1.lck with mismatchRun := run } } Reg.LCK_TWIN_COUNT_MATCH
        (b2n (h.count = s.lck.count))) Reg.LCK_TWIN_PHASE_DIFF (satByte ((h.phase : Int) - (s.lck.phase : Int)))
      let s3 := if run = 4 ∧ s.lck.aligned then
          record (setF { s2 with lck := { s2.lck with aligned := false, mismatchRun := 0, realign := some h.count } }
            Reg.LCK_EVENTS_ALIGN_LOST) Ev.TWIN_ALIGN_LOST 0xFF (le 5 h.count)
        else s2
      let s4 := if h.role = 9 then pairLost s3 else s3
      let s5 := steerPhase (if s4.twin.twinCommit.isNone ∧ s4.cin.epoch < h.epoch ∧ s4.lck.phase = 0
        then { s4 with cin := { s4.cin with epoch := h.epoch } } else s4) h
      if frameTaken s5 then (match h.ack with | some q => ackTaken s5 q | none => s5) else s5

/-! ### Handover (R343) -/

/-- HANDOVER BEGIN: claims are held back while the twin's lease advances (R336, R343); it is allowed only from a controller in
COMMIT on trigger 5 or 6 (R618). -/
def execHandoverBegin (s : State) : Host.Outcome State Fault Refusal :=
  .next <|
    if !frameTaken s then s
    else match s.twin.twinCommit with
      | some t => if 5 ≤ t then twinSet s { s.twin with handover := true, leaseAt := s.time } else twinViolation s 6 0x60
      | none => twinViolation s 6 0x60

/-- The standby LDs of the twin's LDs (R342). -/
def standbyLds (s : State) : List Nat :=
  (List.range 64).filter (fun n => ldBound s n && odNum s ((0x5100 + n) * 256 + 1) 1 0xFF ≠ 0xFF &&
    !standbyMismatch s s.twin.twinTable n)

/-- Takeover (R340): the twin's journal copy is replayed, every zone is taken (those of the twin are not allocated from, since what
they hold is in the twin's map), every pool frame counts in D as a dirty
granule of the twin's half and waits for its replay, and the standby LDs open at the next tick. The twin's half keeps its
home addresses, above this controller's own 2²⁵ home segments. -/
def takeover (s : State) : State :=
  let s1 := { s with
    awl := { s.awl with journal := s.awl.journal ++ s.awl.twinJrn, twinJrn := [] }
    cin := { s.cin with ownedZones := s.cin.ownedZones ++ s.cin.twinZones, farZones := s.cin.farZones ++ s.cin.twinZones,
                        twinZones := [] }
    twin := { s.twin with role := .survivor, claim := none, tookOver := true, replay := s.twin.replay ++ s.twin.pool,
                          pool := [], waiting := [], handover := false } }
  let s2 := (standbyLds s1).foldl (fun t n =>
    let e := amGet t.twin.twinTable (odNum t ((0x5100 + n) * 256 + 1) 1 0xFF) (0, (0, 0))
    let u := { t with tier := { t.tier with runs := amSet (amSet t.tier.runs (1024 + n) (runOf t n)) n (2 ^ 25 + e.2.2, 128 * e.1) } }
    ldSet u n { ldOf u n with standby := true }) s1
  admitUpdate (setF s2 Reg.STP_EVENTS_TAKEOVER)

/-- HANDOVER DONE: this controller takes over without preemption (R343). -/
def execHandoverDone (s : State) : Host.Outcome State Fault Refusal :=
  .next <|
    if !frameTaken s then s
    else if s.twin.handover then
      record (takeover s) Ev.HANDOVER_TAKEN 0xFF []
    else twinViolation s 6 0x60

/-! ### Claims (R336 to R341) -/

/-- A claim must be abandoned or may not start (R336). -/
def claimBarred (s : State) : Bool :=
  s.cin.phase = .commit || s.ham.faultNExt || s.ham.faultNDriven ||
  (match s.twin.twinCommit with | some t => decide (t ≤ 4) | none => false) ||
  (s.twin.handover && decide (s.time < s.twin.leaseAt + secs 3))

/-- The role of a controller whose claim has stopped: STARTING still before step 12 has ended, else ACTIVE (R336, R339, R348). -/
def idleRole (s : State) : TwinRole := if 13 ≤ s.boot.stage ∨ s.boot.warmPath then .active else .starting

/-- The claim's commands issued (R338 steps 2 to 4): abandoned under R336; the lowest reachable member first, then the
others. -/
def claimGo (s : State) : State :=
  if claimBarred s then twinSet s { s.twin with claim := none, role := if s.twin.role = .claiming then idleRole s else s.twin.role }
  else
    let ms := reachableMembers s
    let s1 := twinSet s { s.twin with role := .claiming, claim := some { tried := ms } }
    if majority s ms.length then
      match ms with
      | m :: _ => emit s1 (.reserve m s.twin.twinSerial)
      | [] => s1
    else
      alert (fault (twinSet s1 { s1.twin with
        role := idleRole s,
        claim := some { retryAt := some (s.time + secs 1) } }) .stirrup Ev.CLAIM_NO_MAJORITY 0xFF [])
        Ev.CLAIM_NO_MAJORITY.code

/-- A claim begun (R338 step 1): at once for the lower serial number, after CLAIM_DELAY for the other. -/
def claimStart (s : State) (twinKnown : Bool) : State :=
  if twinKnown = false ∨ Config.serial.toNat < s.twin.twinSerial then claimGo s
  else twinSet s { s.twin with claim := some { delay := some (s.time + msec (rd s Reg.STP_CFG_CLAIM_DELAY)) } }

/-- TWIN_FAILED: three heartbeats missed and the link down for RETRAIN_GUARD: the twin is declared failed and a claim starts
(R335, R336). -/
def execTwinFailed (s : State) : Host.Outcome State Fault Refusal :=
  .next <|
    if s.twin.hbMissed < 3 ∨ s.twin.link ≠ .training ∨ s.twin.everUp = false ∨ s.twin.claim.isSome ∨ s.twin.tookOver ∨
        s.time < s.twin.downSince + msec (rd s Reg.STP_CFG_RETRAIN_GUARD) ∨ claimBarred s then s
    else claimStart (fault (setF s Reg.STP_EVENTS_TWIN_FAILED) .stirrup Ev.TWIN_FAILED 0xFF []) true

/-- CLAIM_DELAY_EXPIRED: the higher-serial controller's CLAIM_DELAY ends and its claim proceeds (R338). -/
def execClaimDelayExpired (s : State) : Host.Outcome State Fault Refusal :=
  .next <|
    match s.twin.claim with
    | some c => if c.delay.isSome then claimGo s else s
    | none => s

/-- FENCED (R341): viral, no credits, barriers end with INTERNAL, no drive command, until PORST_N. -/
def fence (s : State) : State :=
  let s1 := twinSet s { s.twin with role := .fenced, claim := none }
  let s2 := s1.per.barriers.foldl (fun t b => endBarrier t b .internal) s1
  alert (record (setF (emit s2 .viral) Reg.STP_EVENTS_FENCED) Ev.FENCED 0xFF []) Ev.FENCED.code

/-- RESERVATION_PREEMPT_DONE: a preempting Reservation Acquire on a member succeeds, or fails because this controller's own
key is gone, which fences it; success on more than half of the members wins the claim (R338). -/
def execReservationPreemptDone (slot : Fin 24) (ok : Bool) (s : State) : Host.Outcome State Fault Refusal :=
  .next <|
    match s.twin.claim with
    | none => s
    | some c =>
      if !ok then fence s
      else if claimBarred s then claimGo s
      else
        let c1 := { c with preempted := c.preempted.filter (· ≠ slot.val) ++ [slot.val] }
        if majority s c1.preempted.length then
          takeover (record { s with cin := { s.cin with epoch := (s.cin.epoch + 1) % 2 ^ 32 } } Ev.CLAIM_WON 0xFF [])
        else
          let s1 := twinSet s { s.twin with claim := some c1 }
          if c.preempted = [] then (c.tried.filter (· ≠ slot.val)).foldl (fun t m => emit t (.reserve m t.twin.twinSerial)) s1
          else s1

/-- CLAIM_RETRY: the one-second retry of a claim without a majority (R339). -/
def execClaimRetry (s : State) : Host.Outcome State Fault Refusal :=
  .next <|
    match s.twin.claim with
    | some c => if c.retryAt.isSome then claimGo s else s
    | none => s

/-- LEASE_SLOT_WRITE: the controller rewrites its lease slot on every member, with the lease count one higher (R338). A FENCED
controller issues no drive command (R341). -/
def execLeaseSlotWrite (s : State) : Host.Outcome State Fault Refusal :=
  .next <|
    if s.twin.role = .fenced ∨ s.boot.stage < 10 then s
    else
      let s1 := twinSet s { s.twin with leaseCount := s.twin.leaseCount + 1 }
      (reachableMembers s1).foldl (fun t m => emit t (.leaseWrite m s1.twin.role s1.cin.epoch s1.twin.leaseCount)) s1

/-- HANDOVER_LEASE_STALE: the lease of a twin in handover has not advanced for 3 s while the link is down: this controller
claims (R343). -/
def execHandoverLeaseStale (s : State) : Host.Outcome State Fault Refusal :=
  .next <|
    if s.twin.handover ∧ s.twin.leaseAt + secs 3 ≤ s.time ∧ s.twin.link = .training then
      claimStart (twinSet s { s.twin with handover := false }) true
    else s

/-- TWIN_WAIT_EXPIRED: no HELLO has come within TWIN_WAIT of step 12: the twin's lease slots are read, to be read again 2 s
later (R348). The operand is the twin's lease as read on more than half of the members. -/
def execTwinWaitExpired (lease : Option (Nat × Nat)) (s : State) : Host.Outcome State Fault Refusal :=
  .next <|
    if s.boot.stage ≠ 12 ∨ s.boot.twinPresentN ∨ s.twin.helloDone then s
    else twinSet s { s.twin with
      twinRead := lease.map (fun l => ⟨l.1, .active, 0, l.2⟩), waitUntil := some (s.time + secs 2) }

/-- TWIN_LEASE_RECHECK: the second read, 2 s later (R348): an advanced lease count leaves this controller STALLED at step 12;
otherwise it claims. -/
def execTwinLeaseRecheck (lease : Option (Nat × Nat)) (s : State) : Host.Outcome State Fault Refusal :=
  .next <|
    if s.twin.waitUntil.isNone then s
    else
      let s1 := twinSet s { s.twin with waitUntil := none }
      match s.twin.twinRead, lease with
      | some a, some b =>
        if a.count < b.2 then
          alert (fault (sendHello { twinSet s1 { s1.twin with role := .stalled } with
            boot := { s1.boot with stop := .stalled } }) .stirrup Ev.TWIN_STALLED 0xFF []) Ev.TWIN_STALLED.code
        else claimStart (twinSet s1 { s1.twin with twinSerial := b.1 }) true
      | _, some b => claimStart (twinSet s1 { s1.twin with twinSerial := b.1 }) true
      | _, none => claimStart s1 false

/-! ### Failback (R347) -/

/-- FAILBACK REQ from a STARTING twin (R347 step 2): the survivor quiesces its standby LDs; READY follows once the twin's half
is drained. -/
def execFailbackReq (s : State) : Host.Outcome State Fault Refusal :=
  .next <|
    if !frameTaken s then s
    else if s.twin.role ≠ .survivor ∨ s.twin.twinRole ≠ some .starting then twinViolation s 6 0x61
    else
      let ab := msec (max 1 (odNum s 0x204001 2 10))
      (standbyLds s).foldl (fun t n => fnQuiesce t (.ld n) .disable ab) (twinSet s { s.twin with failback := true, failbackReq := true })

/-- FAILBACK READY from a SURVIVOR, with its epoch (R347 step 4): the returning controller registers its key, writes its lease
as ACTIVE and answers DONE; a fresh pairing follows. -/
def execFailbackReady (epoch : Nat) (s : State) : Host.Outcome State Fault Refusal :=
  .next <|
    if !frameTaken s then s
    else if s.twin.twinRole ≠ some .survivor then twinViolation s 6 0x61
    else
      let s1 := { twinSet s { s.twin with role := .active } with cin := { s.cin with epoch := epoch } }
      let s2 := (reachableMembers s1).foldl (fun t m => emit t (.leaseWrite m .active epoch t.twin.leaseCount)) s1
      startResync (poolReserve (twinSend s2 0x61 2 0 []))

/-- The twin's half given back (R347): its zones, its segment records, and the runs of the standby LDs. -/
def standbyReturn (s : State) : State :=
  let back := s.tier.runs.filter (fun r => decide (1024 ≤ r.1))
  { s with
    cin := { s.cin with
      twinZones := s.cin.twinZones ++ s.cin.farZones, farZones := []
      ownedZones := s.cin.ownedZones.filter (fun z => !s.cin.farZones.contains z) }
    tier := { s.tier with
      segs := s.tier.segs.filter (fun e => decide (e.1 < 2 ^ 25))
      runs := back.foldl (fun (m : List (Nat × (Nat × Nat))) r => amSet m (r.1 - 1024) r.2)
        (s.tier.runs.filter (fun r => decide (r.1 < 1024))) } }

/-- FAILBACK DONE from a STARTING or RETURNING controller: failback ends (R347). -/
def execFailbackDone (s : State) : Host.Outcome State Fault Refusal :=
  .next <|
    if !frameTaken s then s
    else if s.twin.role ≠ .survivor ∨ s.twin.twinRole ≠ some .starting then twinViolation s 6 0x61
    else
      let s1 := twinSet s { s.twin with role := .active, tookOver := false, failback := false, failbackReq := false, readySent := false }
      let s2 := standbyReturn ((standbyLds s1).foldl (fun t n => ldSet t n { ldOf t n with standby := false, standbyOpen := false, memActive := false }) s1)
      startResync (record (setF s2 Reg.STP_EVENTS_FAILBACK_DONE) Ev.FAILBACK_DONE 0xFF [])

/-- VIOLATION: the twin reports a violation it found on this side (R350); it is kept as the last one reported. For a sequence
gap the frames from the last acknowledged one on are sent again. -/
def execViolation (cause code : Nat) (s : State) : Host.Outcome State Fault Refusal :=
  .next <|
    if s.twin.link = .down ∨ s.twin.link = .training then s
    else
      let s1 := twinSet s { s.twin with rxViolation := s.twin.rxViolation ++ [(cause, code)] }
      if cause = 1 then s1.twin.unacked.foldl (fun t f => emit t (.twinMirror f.full f.seq f.line f.data)) s1 else s1

/-- PARTNER_CONTAINMENT_END: a partner's 60 s containment ends (R497); resynchronisation follows for the twin (R350). -/
def execPartnerContainmentEnd (p : Partner) (s : State) : Host.Outcome State Fault Refusal :=
  .next <|
    match (conductOf s p).contained with
    | none => s
    | some e =>
      if s.time < e then s
      else
        let s1 := conductSet s p { conductOf s p with contained := none }
        match p with
        | .twin => if linkCarries s1 then startResync s1 else s1
        | _ => s1

/-! ### Heartbeats (R334, R482, R595) -/

/-- The role that a heartbeat carries (R482). -/
def heartbeatRole (s : State) : TwinRole := if s.boot.warm = .none then s.twin.role else .resetting

/-- A heartbeat sent, and the count of heartbeats missed (R334). -/
def heartbeatSend (s : State) : State :=
  if s.boot.twinPresentN then s
  else
    let miss := s.twin.everUp && !s.twin.hbSeen
    let s1 := twinSet s { s.twin with hbSeen := false, hbMissed := if miss then s.twin.hbMissed + 1 else s.twin.hbMissed }
    if s1.twin.link = .down ∨ s1.twin.link = .training then s1
    else
      emit s1 (.heartbeat s1.lck.count s1.lck.phase (s1.lck.state = .synthetic) (heartbeatRole s1) (s1.cin.phase = .warn)
        (s1.cin.phase = .commit) s1.cin.trigger s1.cin.epoch (if s1.twin.rxNext = 0 then none else some (s1.twin.rxNext - 1)))

end Sys2Proof.Machine
end

