-- ==== Sys2Proof/Machine/AwlOps.lean ====
section
/-!
DEFINITION. Shared operations of the Awl engine (spec/12): set states (R377), member failure (R376), rebuilds (R378 to R381),
the stripe journal (R365, R366) and the allocation of stripes (R361, R364).
-/
namespace Sys2Proof.Machine

/-! ### Set states (R377) -/

/-- Under a MIRROR layout, every copy of one data unit is lost: the columns of its copies are n apart (R358, R377). -/
def mirrorLost (v : StripeSet) (miss : List Nat) : Bool :=
  (List.range v.w).any (fun c => (List.range (v.layout + 1)).all (fun k => miss.contains ((c + k * v.n) % max 1 v.w)))

/-- The state that a set's unavailable columns give it (R377). Under a MIRROR layout a set that has lost no data unit is
DEGRADED however many members are unavailable. -/
def setStateFor (s : State) (n : Nat) : SetSt :=
  let v := setOf s n
  let miss := missingColumns s n
  if v.layout = 0 then .unused
  else if miss = [] then .optimal
  else if v.layout ≤ 2 then
    if mirrorLost v miss then .failed
    else if v.layout = 2 ∧ miss.length = 2 then .doubleDegraded else .degraded
  else if layoutLosses v.layout < miss.length then .failed
  else if miss.length = 2 then .doubleDegraded else .degraded

/-- A set's state taken anew: a change is an event, DEGRADED and FAILED are faults (R377), and a FAILED set asserts ALERT_N
(R382). -/
def setUpdate (s : State) (n : Nat) : State :=
  let v := setOf s n
  let st := setStateFor s n
  if v.st = st ∨ v.st = .unused ∨ v.st = .assembling then s
  else
    let s1 := setF (setSet s n { v with st := st }) Reg.AWL_EVENTS_SET_CHANGED
    match st with
    | .failed => alert (fault s1 (.stripeSet n) Ev.SET_FAILED n []) Ev.SET_FAILED.code
    | .degraded | .doubleDegraded =>
      let s2 := if v.st = .failed then alertClear s1 Ev.SET_FAILED.code else s1
      fault s2 (.stripeSet n) Ev.SET_DEGRADED n []
    | _ => s1

/-! ### Rebuilds (R378, R381) -/

/-- The target for a rebuild of a column: a spare of the set, or a suitable drive in the slot that the member map gives the
column (R378). -/
def rebuildTarget (s : State) (n c : Nat) : Option Nat :=
  let spare := s.awl.drives.find? (fun e => e.2.st = .spare && e.2.set == n && e.2.linkUp)
  let own := s.awl.drives.find? (fun e => e.2.st = .unassigned && e.2.linkUp && decide (0 < e.2.cap) &&
    decide (slotRecord s e.1 = some (n, (0, c))))
  ((own <|> spare)).map Prod.fst

/-- A rebuild of a column onto a target begun (R378): the target is labelled with the column, and record 0x9007 written. -/
def beginRebuild (s : State) (n c target : Nat) (queued : Option Nat) : State :=
  let s1 := driveSet s target { driveOf s target with st := .rebuilding, set := n, col := c, cause := 0 }
  record (setSet s1 n { setOf s1 n with rebuild := some { column := c, target := target, queued := queued } })
    Ev.REBUILD_STARTED n (le 1 c)

/-- A rebuild of a column wanted (R378, R381): queued behind a running one, begun at once where AUTO_REBUILD is set and a
target exists, else pending until AWL_SET_CTRL.START. -/
def wantRebuild (s : State) (n c : Nat) : State :=
  let v := setOf s n
  match v.rebuild with
  | some r => if r.pending ∨ r.column = c ∨ r.queued.isSome then s else setSet s n { v with rebuild := some { r with queued := some c } }
  | none =>
    match rebuildTarget s n c with
    | some t =>
      if rdb s Reg.AWL_CTRL_AUTO_REBUILD ∧ s.cin.phase ≠ .commit then beginRebuild s n c t none
      else setSet s n { v with rebuild := some { column := c, target := t, pending := true } }
    | none => s

/-- A member becomes FAILED for a cause (R376): its outstanding commands end, stripes in flight count its column as missing,
its set's state is taken anew, a rebuild onto it restarts on the next target (R381), and its own rebuild is wanted. -/
def memberFailed (s : State) (slot cause : Nat) : State :=
  let d := driveOf s slot
  if d.st = .failed ∨ d.st = .absent ∨ d.st = .unassigned then s
  else
    let s1 := setF (driveSet s slot { d with st := .failed, cause := cause, cmds := [], queued := [], aborting := none })
      Reg.AWL_EVENTS_MEMBER_FAILED
    let s2 := fault s1 (.drive slot) Ev.MEMBER_FAILED slot (le 1 cause)
    let n := d.set
    match d.st with
    | .online =>
      let s3 := { s2 with awl := { s2.awl with stripes := s2.awl.stripes.map (fun (x : Stripe) =>
        if x.set = n ∧ x.waiting.contains d.col then
          { x with waiting := x.waiting.filter (· ≠ d.col), missing := Sys2Proof.Machine.setBit x.missing d.col true } else x) } }
      wantRebuild (setUpdate s3 n) n d.col
    | .rebuilding =>
      match (setOf s2 n).rebuild with
      | some r =>
        let s3 := setSet s2 n { setOf s2 n with rebuild := none }
        let s4 := wantRebuild s3 n r.column
        match r.queued with | some c => wantRebuild s4 n c | none => s4
      | none => s2
    | _ => s2

/-- A member becomes PREDICTED (R376): it is rebuilt onto a spare while it still serves reads. -/
def memberPredicted (s : State) (slot : Nat) : State :=
  let d := driveOf s slot
  if d.predicted then s
  else
    let s1 := record (driveSet s slot { d with predicted := true }) Ev.DRIVE_PREDICTED slot []
    if d.st = .online ∧ s1.awl.drives.any (fun e => e.2.st = .spare && e.2.set == d.set) then wantRebuild s1 d.set d.col
    else s1

/-- A violation of a drive counted (R383), with containment above DRIVE_VIOL_LIMIT. -/
def driveViolation (s : State) (slot cause : Nat) : State :=
  let lim := rd s Reg.AWL_DRIVE_CFG_VIOL_LIMIT
  let s1 := wr (bump s (Reg.AWL_MBR_ERR_VIOL slot) 1) (Reg.AWL_MBR_ERR_LAST_CAUSE slot) cause
  let s2 := record s1 Ev.DRIVE_VIOLATION slot (le 1 cause)
  let s3 := countViolation s2 (.drive slot) lim
  if overLimit s2 (.drive slot) lim then record (setF s3 Reg.AWL_EVENTS_CONTAINED) Ev.DRIVE_CONTAINED slot [] else s3

/-! ### The stripe journal (R365, R366) -/

/-- The twin's copy of the journal is kept current (R366). -/
def journalSync (s : State) : Bool := s.per.pairAvail && linkCarries s

/-- An own entry changed (R366): the journal sequence advances, the entry takes it, and the twin is sent the change. The write sets
the retention latch (R526). -/
def journalPut (s : State) (e : JournalEntry) : State :=
  let q := s.awl.jseq + 1
  let e1 := { e with upd := q, twinHas := false }
  let s1 := { s with
    boot := { s.boot with retLatch := true }
    awl := { s.awl with
      jseq := q
      journal := if e.state = .free then s.awl.journal.filter (fun x => x.seq ≠ e.seq)
        else if s.awl.journal.any (fun x => x.seq = e.seq) then s.awl.journal.map (fun x => if x.seq = e.seq then e1 else x)
        else s.awl.journal ++ [e1] } }
  if journalSync s then emit s1 (.journal q e1) else s1

/-- The own entry of a name. -/
def journalFind (s : State) (seq : Nat) : Option JournalEntry := s.awl.journal.find? (fun e => e.seq = seq)

/-- This controller has the lower serial number of the pair (R338, R365). -/
def lowerSerial (s : State) : Bool := s.boot.twinPresentN || decide (Config.serial.toNat < s.twin.twinSerial)

/-! ### Zones and stripes (R361, R364) -/

/-- Stripes of a zone (R361). -/
def zoneStripes (n : Nat) : Nat := (16384 + n - 1) / max 1 n

/-- The set of a zone: zone numbers count by 2²² from set to set. -/
def zoneSet (z : Nat) : Nat := z / 2 ^ 22

/-- The zone a stripe of a set lies in. -/
def zoneOf (s : State) (set stripe : Nat) : Nat := set * 2 ^ 22 + stripe / max 1 (zoneStripes (setOf s set).n)

/-- Live chunks of a zone: those to which the segment map points (R364). -/
def zoneLive (s : State) (z : Nat) : Nat :=
  (s.tier.segs.map (fun e => ((e.2.chunks ++ e.2.replica).filter (fun c => zoneOf s c.2.set c.2.stripe = z)).length)).sum

/-- A zone holds a stripe in flight, or one that the journal still names. -/
def zoneBusy (s : State) (z : Nat) : Bool :=
  s.awl.stripes.any (fun x => zoneOf s x.set x.stripe == z) ||
  s.awl.zoneNow.any (fun e => e.2.1 == z)

/-- Owned zones with no live chunk freed, their stripes deallocated on every member (R364). -/
def freeZonesNow (s : State) : State :=
  let dead := s.cin.ownedZones.filter (fun z => !s.cin.freeZones.contains z && !s.cin.farZones.contains z && zoneLive s z == 0 && !zoneBusy s z)
  if dead = [] then s
  else
    let s1 := { s with
      cin := { s.cin with freeZones := (s.cin.freeZones ++ dead).mergeSort (· ≤ ·), zonesOut := false }
      awl := { s.awl with reclaiming := match s.awl.reclaiming with | some z => if dead.contains z then none else some z | none => none } }
    dead.foldl (fun t z => emit t (.deallocate z)) s1

/-- The set that the next stripe goes to (R361): the lowest OPTIMAL one with room, else the lowest DEGRADED one, other than one
to be avoided. -/
def pickSet (s : State) (avoid : Option Nat) : Option Nat :=
  let room := fun n => (amFind s.awl.zoneNow n).any (fun z => decide (z.2 < zoneStripes (setOf s n).n)) ||
    s.cin.freeZones.any (fun z => zoneSet z == n)
  let ok := fun (p : SetSt → Bool) => (List.range 8).find? (fun n => p (setOf s n).st && room n && !decide (some n = avoid))
  ok (fun x => x = .optimal) <|> ok (fun x => x = .degraded || x = .doubleDegraded)

/-- The next stripe of a set taken: from its zone in use, or from the lowest owned free zone (R361). -/
def takeStripe (s : State) (n : Nat) : Option (Nat × State) :=
  let zs := zoneStripes (setOf s n).n
  let used := (amFind s.awl.zoneNow n).filter (fun z => decide (z.2 < zs))
  match used with
  | some (z, k) =>
    some (z % 2 ^ 22 * zs + k, { s with awl := { s.awl with zoneNow := amSet s.awl.zoneNow n (z, k + 1) } })
  | none =>
    match s.cin.freeZones.find? (fun z => zoneSet z = n) with
    | some z => some (z % 2 ^ 22 * zs, { s with
        awl := { s.awl with zoneNow := amSet s.awl.zoneNow n (z, 1) }
        cin := { s.cin with freeZones := s.cin.freeZones.filter (· ≠ z) } })
    | none => none

/-! ### Poisoned sectors (R379) -/

/-- The 64 lines of an unreadable 4 KiB sector of a chunk that is not resident poisoned in the segment map, with record
0x900B for the object (R379). -/
def poisonSector (s : State) (n chunk sector : Nat) : State :=
  let hs := chunk / 32
  let base := hs * 32768 + chunk % 32 * 1024 + sector * 64
  if segResident (segOf s hs) then s
  else
    let s1 := (List.range 64).foldl (fun t i => mapPoison t (base + i) true) s
    fault (setF (bump s1 (Reg.AWL_SET_ERR_POISONED n) 1) Reg.AWL_EVENTS_POISONED) (.stripeSet n) Ev.LINES_POISONED n
      (le 4 (segOf s hs).obj ++ le 8 (base * 64))

/-- The home chunk that the segment map places at a data unit of a stripe. -/
def chunkAt (s : State) (n stripe unit : Nat) : Option Nat :=
  s.tier.segs.findSome? (fun e => (e.2.chunks.find? (fun c => c.2 = ⟨n, stripe, unit⟩)).map (fun c => e.1 * 32 + c.1))

end Sys2Proof.Machine
end

