-- ==== Sys2Proof/Machine/Parity.lean ====
section
/-!
DEFINITION. The bytes of a stripe's units (spec/12, R304, R305, R358 to R360; spec/15, R459 to R461): data units under the key of their
set, padding, copies, and parity over the stored bytes.
-/
namespace Sys2Proof.Machine

/-- The media address of a byte of data unit j of stripe k of a set (R360). -/
def mediaAddr (set j k off : Nat) : Nat := set * 2 ^ 61 + j * 2 ^ 56 + k * 65536 + off

/-- The size of the encrypted data units of a set (R460). -/
def dataUnitSize (s : State) (n : Nat) : Nat := odNum s ((0x4100 + n) * 256 + 3) 4 4096

/-- The bytes of a data unit as they are stored (R459, R461): each data unit of the set's size under the key of the set's slot, with its
media address as the tweak. -/
def unitStored (s : State) (n k j : Nat) (d : Bytes) : Bytes :=
  let key := amGet s.bkl.slots n {}
  let size := dataUnitSize s n
  (List.range (65536 / size)).flatMap (fun i =>
    Config.cipherBytes 0 key.usage key.key (mediaAddr n j k (i * size)) ((d.drop (i * size)).take size))

/-- The plain bytes of data unit j of a stripe (R304, R305): its chunk, or padding, whose bytes the manual leaves open. -/
def unitPlain (n k j : Nat) (cs : List Chunk) : Bytes :=
  match cs[j]? with
  | some c => c.data
  | none => (List.range 65536).map (fun i => Config.padByte (mediaAddr n j k i))

/-- A byte times g = 0x02 in GF(2⁸) with the field polynomial x⁸ + x⁴ + x³ + x² + 1 (R359). -/
def gfDouble (b : Byte) : Byte := if b.getLsbD 7 then (b <<< 1) ^^^ 0x1D#8 else b <<< 1

/-- Two byte strings combined by XOR; the longer one's rest stands. -/
def xorBytes : Bytes → Bytes → Bytes
  | [], ys => ys
  | xs, [] => xs
  | x :: xs, y :: ys => (x ^^^ y) :: xorBytes xs ys

/-- P: the XOR of the data units (R359). -/
def parityP (us : List Bytes) : Bytes := us.foldr xorBytes []

/-- Q: the sum of gʲ·Dⱼ over the data units (R359). -/
def parityQ (us : List Bytes) : Bytes := us.foldr (fun d q => xorBytes d (q.map gfDouble)) []

/-- The stored data units of a stripe. -/
def stripeUnits (s : State) (n k : Nat) (cs : List Chunk) : List Bytes :=
  (List.range (setOf s n).n).map (fun j => unitStored s n k j (unitPlain n k j cs))

/-- The bytes that a column holds of stripe k (R358, R359): of a mirror layout the data unit that stands there, else a data unit, P
or Q. -/
def columnBytes (s : State) (n k : Nat) (cs : List Chunk) (col : Nat) : Bytes :=
  let v := setOf s n
  let w := max 1 v.w
  let p := (col + w - k % w) % w
  let us := stripeUnits s n k cs
  if v.layout ≤ 2 then us.getD (p % max 1 v.n) []
  else if p < v.n then us.getD p []
  else if p = v.n then parityP us
  else parityQ us

/-- A column of a stripe written (R362): the command to its drive, and the bytes it writes. Those of relocated chunks come from the
drives themselves. -/
def writeColumn (s : State) (slot n k : Nat) (cs : List Chunk) (col : Nat) (retry reloc : Bool) : State :=
  let s1 := issueCmd s slot (.unitWrite n k col retry)
  if reloc then s1 else emit s1 (.unitBytes n k col (columnBytes s n k cs col))

end Sys2Proof.Machine
end

