-- ==== Sys2Proof/Machine/Drives.lean ====
section
/-!
DEFINITION. The meanings of drive events (spec/12): insertion and removal, commands, links, and rebuilds (R353 to R384).
-/
namespace Sys2Proof.Machine

/-- The cause that makes a drive unsuitable (R353), numbered as the rule lists its conditions, 6 for a native label in compatibility mode
(R594); 0 for a suitable drive. -/
def unsuitable (s : State) (d : DriveInfo) : Nat :=
  if !d.dualPorted then 1
  else if !d.lba4096 then 2
  else if !d.reservations then 3
  else if d.lbas < 2 ^ 28 ∨ 2 ^ 34 < d.lbas then 4
  else if s.boot.mode = .compat ∧ d.label.isSome ∧ !d.lx then 6
  else 0

/-- The member state that a label and the member map of its slot give a suitable drive (R355): ONLINE in its column, SPARE,
or UNASSIGNED. The Bool says that the label is this appliance's in a slot not its own. -/
def labelled (s : State) (slot : Nat) (label : Option (Nat × Nat)) : Option (MemberSt × (Nat × Nat)) × Bool :=
  match label with
  | none => (none, false)
  | some (n, c) =>
    match slotRecord s slot with
    | some (m, role, col) =>
      if m = n ∧ role = 0 ∧ col = c then (some (.online, n, c), false)
      else if m = n ∧ role = 1 ∧ c = 0x1F then (some (.spare, n, c), false)
      else (none, true)
    | none => (none, true)

/-- DRIVE_INSERTED: a drive is inserted and its label read (R353, R355, R378). -/
def execDriveInserted (slot : Fin 24) (info : DriveInfo) (s : State) : Host.Outcome State Fault Refusal :=
  .next <|
    let d0 := driveOf s slot
    let d : Drive := { linkUp := true, width := 2, gen5 := true, serial := info.serial, cap := info.lbas, nextCmd := d0.nextCmd }
    let s1 := record (setF s Reg.AWL_EVENTS_DRIVE_ADDED) Ev.DRIVE_ADDED slot []
    let why := unsuitable s info
    if why ≠ 0 then
      fault (driveSet s1 slot { d with st := .unassigned, cap := 0 }) (.drive slot) Ev.DRIVE_UNSUITABLE slot (le 1 why)
    else match labelled s slot info.label with
      | (some (st, n, c), _) =>
        let s2 := driveSet s1 slot { d with st := st, set := n, col := c }
        setUpdate s2 n
      | (none, true) =>
        fault (driveSet s1 slot { d with st := .unassigned }) (.drive slot) Ev.DRIVE_UNSUITABLE slot
          (le 1 5 ++ le 1 ((info.label.bind (fun l => (memberRecords s l.1).find? (fun r => r.2.2 = l.2))).map Prod.fst |>.getD 0xFF))
      | (none, false) =>
        let s2 := driveSet s1 slot { d with st := .unassigned }
        match slotRecord s slot with
        | some (n, 0, c) => if (missingColumns s2 n).contains c ∧ (setOf s2 n).layout ≠ 0 then wantRebuild s2 n c else s2
        | _ => s2

/-- DRIVE_REMOVED: surprise removal of a drive (R376 cause 1). -/
def execDriveRemoved (slot : Fin 24) (s : State) : Host.Outcome State Fault Refusal :=
  .next <|
    let d := driveOf s slot
    if d.st = .absent then s
    else
      let s1 := fault s (.drive slot) Ev.DRIVE_REMOVED slot []
      let s2 := driveSet s1 slot { driveOf s1 slot with linkUp := false, width := 0, downSince := none }
      match d.st with
      | .unassigned | .spare | .failed => driveSet s2 slot { driveOf s2 slot with st := .absent, cmds := [], queued := [] }
      | _ => memberFailed s2 slot 1

/-- A read that failed at a sector: reconstructed, counted and rewritten, or its lines poisoned where the stripe cannot be
reconstructed (R375, R379, R417). -/
def readFailed (s : State) (slot n stripe unit sector : Nat) : State :=
  let now := s.time
  let d := driveOf s slot
  let errs := now :: d.mediaErrs.filter (fun t => decide (now < t + secs 86400))
  let s1 := bump (driveSet s slot { d with mediaErrs := errs }) (Reg.AWL_MBR_ERR_MEDIA slot) 1
  let s2 :=
    if (setOf s n).st = .failed then
      match chunkAt s n stripe unit with
      | some c =>
        match (segOf s (c / 32)).replica.find? (fun r => r.1 = c % 32) with
        | some r => fault (readUnit s1 r.2.set r.2.stripe r.2.unit) .tier Ev.REPLICA_USED 0xFF (le 4 (segOf s (c / 32)).obj)
        | none => fault (setF (poisonSector s1 n c sector) Reg.TIR_EVENTS_POISON) .tier Ev.OBJECT_POISON 0xFF
            (le 4 (segOf s (c / 32)).obj ++ le 8 ((c / 32 * 32768 + c % 32 * 1024 + sector * 64) * 64))
      | none => s1
    else issueCmd (record (reconstruct s1 n stripe unit) Ev.READ_RECONSTRUCTED slot []) slot (.rewrite n stripe unit)
  if 64 < errs.length then memberPredicted s2 slot else s2

/-- A unit read for the refetch of clean lines (R276): the lines of its chunk that wait are written with the data of the drive tier,
which is what a CLEAN line held. -/
def refetchDone (s : State) (n stripe unit : Nat) : State :=
  match chunkAt s n stripe unit with
  | none => s
  | some c =>
    let f := (segOf s (c / 32)).frame
    let ls := s.dram.chans.flatMap (fun e => (e.2.repairs.filter (fun r => !r.fromTwin && r.line / 1024 == f * 32 + c % 32)).map Repair.line)
    ls.foldl (fun t l => repairDone t l (dramArray t l)) s

/-- What the end of a command does for what it was for. -/
def cmdDone (s : State) (slot : Nat) (c : DriveCmd) : State :=
  match c.use with
  | .unitWrite n k col _ =>
    { s with
    awl := { s.awl with
    stripes := s.awl.stripes.map (fun (x : Stripe) =>
      if x.set = n ∧ x.stripe = k then { x with waiting := x.waiting.filter (· ≠ col) } else x) } }
  | .journal => { s with cin := { s.cin with journalCopies := s.cin.journalCopies + 1 } }
  | .unitRead n k u => refetchDone s n k u
  | _ => driveSet s slot (driveOf s slot)

/-- The one retry of a unit write (R363), with the bytes of its column. -/
def unitRetry (s : State) (slot n k col : Nat) : State :=
  match s.awl.stripes.find? (fun (x : Stripe) => x.set = n && x.stripe = k) with
  | some x => writeColumn s slot n k x.chunks col true x.relocate
  | none => issueCmd s slot (.unitWrite n k col true)

/-- A command that failed: a unit write is tried once more (R363), a read is reconstructed (R375). -/
def cmdFailed (s : State) (slot sector : Nat) (c : DriveCmd) : State :=
  match c.use with
  | .unitWrite n k col false => unitRetry s slot n k col
  | .unitRead n k u => readFailed s slot n k u sector
  | .journal => issueCmd s slot .journal
  | _ => s

/-- DRIVE_COMMAND_COMPLETE: an outstanding command of a drive ends (R352, R363, R374 to R376, R383). -/
def execDriveCommandComplete (slot : Fin 24) (id : Nat) (res : DriveResult) (s : State) :
    Host.Outcome State Fault Refusal :=
  .next <|
    let d := driveOf s slot
    match d.cmds.find? (fun c => c.id = id) with
    | none => if d.linkUp then driveViolation s slot 1 else s
    | some c =>
      let s1 := issueNext (driveSet s slot { d with cmds := d.cmds.filter (fun x => x.id ≠ id), aborting := none }) slot
      match res with
      | .done => cmdDone s1 slot c
      | .readError sec => cmdFailed s1 slot sec c
      | .writeError => cmdFailed s1 slot 0 c
      | .badEntry =>
        d.cmds.foldl (fun t x => emit t (.driveCmd slot x.id x.use)) (emit (driveViolation s slot 2) (.driveRecreate slot))
      | .shortData sec => cmdFailed (driveViolation s1 slot 3) slot sec c
      | .identifyChanged => memberFailed (driveViolation s1 slot 4) slot 4
      | .malformedTlp => driveViolation s slot 5
      | .keyGone => fence s1

/-- DRIVE_COMMAND_TIMEOUT: a command is not completed within DRIVE_TIMEOUT (R376): Abort is tried; the third timeout within
60 s makes the member FAILED. -/
def execDriveCommandTimeout (slot : Fin 24) (id : Nat) (s : State) : Host.Outcome State Fault Refusal :=
  .next <|
    let d := driveOf s slot
    if !d.cmds.any (fun c => c.id = id) then s
    else
      let ts := s.time :: d.timeouts.filter (fun t => decide (s.time < t + secs 60))
      let s1 := bump (driveSet s slot { d with timeouts := ts, aborting := some s.time }) (Reg.AWL_MBR_ERR_TIMEOUTS slot) 1
      if 3 ≤ ts.length then memberFailed s1 slot 3 else emit s1 (.driveAbort slot)

/-- DRIVE_RESET_TIMEOUT: neither Abort nor a controller reset succeeded within 10 s (R376 cause 2). -/
def execDriveResetTimeout (slot : Fin 24) (s : State) : Host.Outcome State Fault Refusal :=
  .next (if (driveOf s slot).aborting.isSome then memberFailed s slot 2 else s)

/-- READ_SHORTCUT_EXPIRED: a read has not completed within READ_SHORTCUT and its unit is reconstructed from the rest of its
stripe (R374). -/
def execReadShortcutExpired (slot : Fin 24) (id : Nat) (s : State) : Host.Outcome State Fault Refusal :=
  .next <|
    match (driveOf s slot).cmds.find? (fun c => c.id = id) with
    | some c => match c.use with
      | .unitRead n k u => reconstruct s n k u
      | _ => s
    | none => s

/-- DRIVE_ASYNC_EVENT: a SMART critical warning (R376): read-only media or a failed volatile memory backup makes the member
FAILED, available spare below threshold makes it PREDICTED. -/
def execDriveAsyncEvent (slot : Fin 24) (spareLow readOnly backupFailed : Bool) (s : State) :
    Host.Outcome State Fault Refusal :=
  .next <|
    if readOnly || backupFailed then memberFailed s slot 4
    else if spareLow then memberPredicted s slot
    else s

/-- A root-port link that goes down (R351, R376, R610). -/
def driveLinkDown (s : State) (slot : Nat) : State :=
  let d := driveOf s slot
  driveSet s slot { d with linkUp := false, width := 0, gen5 := false,
                           downSince := if d.downSince.isSome then d.downSince else some s.time }

/-- DRIVE_LINK_CHANGE: a root-port link goes down, which starts the 5 s count, or comes up at a width and rate (R351,
R376). -/
def execDriveLinkChange (slot : Fin 24) (up : Bool) (width : Nat) (gen5 : Bool) (s : State) :
    Host.Outcome State Fault Refusal :=
  .next <|
    let d := driveOf s slot
    if up then driveSet s slot { d with linkUp := true, width := width, gen5 := gen5, downSince := none }
    else driveLinkDown s slot

/-- DRIVE_LINK_DOWN_EXPIRED: a link has been down for 5 s (R376 cause 1). -/
def execDriveLinkDownExpired (slot : Fin 24) (s : State) : Host.Outcome State Fault Refusal :=
  .next <|
    let d := driveOf s slot
    if d.downSince.isSome ∧ d.linkUp = false then
      match d.st with
      | .online | .rebuilding => memberFailed s slot 1
      | .spare | .unassigned => driveSet s slot { d with st := .absent }
      | _ => s
    else s

/-- FORCE_FAIL: a write of 1 to AWL_MBR_CTRL.FORCE_FAIL (R376 cause 6). -/
def execForceFail (slot : Fin 24) (s : State) : Host.Outcome State Fault Refusal := .next (memberFailed s slot 6)

/-- REBUILD_START: a write of 1 to AWL_SET_CTRL.START starts a pending rebuild (R378). -/
def execRebuildStart (n : Fin 8) (s : State) : Host.Outcome State Fault Refusal :=
  .next <|
    match (setOf s n).rebuild with
    | some r => if r.pending ∧ s.cin.phase ≠ .commit then beginRebuild s n r.column r.target r.queued else s
    | none =>
      match (missingColumns s n).head? with
      | some c => match rebuildTarget s n c with
        | some t => if (setOf s n).layout ≠ 0 ∧ s.cin.phase ≠ .commit then beginRebuild s n c t none else s
        | none => s
      | none => s

/-- The rebuild of a set ended (R378, R381): record 0x9008, the target ONLINE, a PREDICTED member FAILED, and the queued
column begun where a target exists. -/
def rebuildEnd (s : State) (n : Nat) (r : Rebuild) : State :=
  let old := s.awl.drives.find? (fun e => e.2.st = .online && e.2.set == n && e.2.col == r.column && e.2.predicted)
  let s1 := match old with
    | some (sl, d) => driveSet s sl { d with st := .failed, cause := 4, col := 0x1F }
    | none => s
  let s2 := driveSet (setSet s1 n { setOf s1 n with rebuild := none }) r.target { driveOf s1 r.target with st := .online }
  let s3 := setUpdate (record (setF s2 Reg.AWL_EVENTS_REBUILD_DONE) Ev.REBUILD_DONE n (le 1 r.column)) n
  match r.queued with | some c => wantRebuild s3 n c | none => s3

/-- The DRAM working copy serves a unit (R379 source 1): a data unit whose chunk is resident, whose granules are all CLEAN,
and to which the segment map points. -/
def dramServes (s : State) (n stripe unit : Nat) : Bool :=
  match chunkAt s n stripe unit with
  | some c =>
    segResident (segOf s (c / 32)) &&
    (List.range 16).all (fun g => (amFind s.cin.granules ((segOf s (c / 32)).frame * 512 + c % 32 * 16 + g)).isNone)
  | none => false

/-- A stripe relocated (R379 source 3): its live chunks wait for new stripes, the unreadable sectors of chunks that are not
resident are poisoned, and the stripe counts as stale. -/
def relocateStripe (s : State) (n stripe : Nat) (bad : List (Nat × Nat)) : State :=
  let live := (List.range (setOf s n).n).filterMap (chunkAt s n stripe)
  let s1 := bad.foldl (fun t b => match chunkAt s n stripe b.1 with | some c => poisonSector t n c b.2 | none => t) s
  let s2 := { s1 with
    awl := { s1.awl with
    relocQ := s1.awl.relocQ ++ live.map (fun c => { dram := 0, home := c, granules := [], takenAt := s.lck.count, barrier := false }) } }
  let s3 := fault (bump s2 (Reg.AWL_SET_ERR_RELOCATED n) 1) (.stripeSet n) Ev.STRIPE_RELOCATED n (le 8 stripe)
  setSet s3 n { setOf s3 n with stale := (setOf s3 n).stale ++ [stripe] }

/-- REBUILD_STRIPE: the rebuild of a set does one stripe (R379): the logical unit of the target, whether the surviving units
can be read, the unreadable sectors (data unit and sector), and whether it is the last stripe. -/
def execRebuildStripe (n : Fin 8) (stripe unit : Nat) (readable : Bool) (bad : List (Nat × Nat)) (last : Bool)
    (s : State) : Host.Outcome State Fault Refusal :=
  .next <|
    match (setOf s n).rebuild with
    | none => s
    | some r =>
      if r.pending ∨ s.cin.phase = .commit then s
      else
        let ok := (decide (unit < (setOf s n).n) && dramServes s n stripe unit) || readable
        let s1 := if ok then issueCmd s r.target (.rebuild n stripe)
          else issueCmd (relocateStripe s n stripe bad) r.target (.rebuild n stripe)
        let r1 := { r with done := r.done + 1 }
        let s2 := setSet s1 n { setOf s1 n with rebuild := some r1 }
        if last then rebuildEnd s2 n r1 else s2

end Sys2Proof.Machine
end

