-- ==== Sys2Proof/Machine/Drain.lean ====
section
/-!
DEFINITION. The Drain and the Awl engine's stripes (spec/10, spec/12): taking chunks (R303, R306), writing and committing
stripes (R304, R305, R362, R363), reclaim (R364), and the hold-up readings (R297).
-/
namespace Sys2Proof.Machine

/-! ### Hold-up readings (R297, R317) -/

/-- The hold-up conditions taken anew after a reading (R297): each record once when its condition begins. -/
def holdupCheck (s : State) : State :=
  let c := s.cin
  let hi := max c.reported c.sensed
  let mis := c.smbOk && c.senseOk && decide (hi < 4 * (hi - min c.reported c.sensed))
  let una := !c.smbOk && !c.senseOk
  let s1 := { s with cin := { c with mismatch := mis, unavailable := una } }
  let s2 := if mis && !c.mismatch then record (setF s1 Reg.CIN_EVENTS_HOLDUP) Ev.HOLDUP_MISMATCH 0xFF
    (le 2 c.reported ++ le 2 c.sensed) else s1
  if una && !c.unavailable then
    alert (reportFault (setF s2 Reg.CIN_EVENTS_HOLDUP) .drain Ev.HOLDUP_UNAVAILABLE.code 0xFF Ev.HOLDUP_UNAVAILABLE.sev [])
      Ev.HOLDUP_UNAVAILABLE.code
  else if !una && c.unavailable then alertClear s2 Ev.HOLDUP_UNAVAILABLE.code
  else s2

/-- HOLDUP_SMBUS_POLL: the 100 ms SMBus read of the hold-up module in units of 10 ms, and its one retry; a time above 600 s is a
violation (R498); once the read has failed for 1 s the reported time is no longer used (R297). -/
def execHoldupSmbusPoll (first retry : SmbAnswer) (s : State) : Host.Outcome State Fault Refusal :=
  let (value, s) := smbRead s .smb0 60000 first retry
  .next <|
    match value with
    | some v => holdupCheck { s with cin := { s.cin with reported := v % 65536, smbOk := true, smbFailed := none } }
    | none =>
      let since := s.cin.smbFailed.getD s.time
      holdupCheck { s with
        cin := { s.cin with
        smbFailed := some since, smbOk := s.cin.smbOk && decide (s.time < since + secs 1) } }

/-- HOLDUP_SENSE_SAMPLE: the 1 ms sample of HOLDUP_SENSE in microvolts, full scale 1.000 V, times SENSE_SCALE; below 0.010 V it
is not used (R297). -/
def execHoldupSenseSample (uv : Nat) (s : State) : Host.Outcome State Fault Refusal :=
  .next <|
    holdupCheck { s with
      cin := { s.cin with
      sensed := satTo 65535 (satTo 1000000 uv * odNum s 0x800203 2 1200 / 1000000), senseOk := decide (10000 ≤ uv) } }

/-! ### Chunks (R303, R305, R306) -/

/-- A granule of a chunk that the Drain may take (R303 step 2): DIRTY, with no line in the Welt, the Skive buffer, a DIRTY Tree
line or a write-back buffer. -/
def granuleFree (s : State) (g : Nat) : Bool :=
  (match amFind s.cin.granules g with | some x => x.st = .dirty | none => false) &&
  s.tree.lines.all (fun t => !(t.line / 64 == g && (t.st = .dirty || (t.st = .fill && decide (0 < plineCount t.merge))))) &&
  s.tree.wbb.all (fun e => e.line / 64 != g) &&
  s.per.welt.all (fun e => !decide ((dramOf s e.line).map (· / 64) = some g)) &&
  s.per.skive.all (fun e => !decide ((dramOf s e.line).map (· / 64) = some g))

/-- A MEDIA barrier that runs covers a granule. -/
def granuleWanted (s : State) (g : Nat × Granule) : Bool :=
  s.per.barriers.any (fun b => b.served == 2 && loCovered b g.2.lo &&
    ((homeOfDram s (g.1 * 64)).map (lineInScope s (scopeLds s b.ld b.scope))).getD true)

/-- The newest dirty half-cycle of a chunk's DIRTY granules; `none` where it has none. -/
def chunkAge (s : State) (c : Nat) : Option Nat :=
  let gs := s.cin.granules.filter (fun g => g.1 / 16 == c && g.2.st = .dirty)
  if gs = [] then none else some ((gs.map (fun g => g.2.newest)).foldl max 0)

/-- The chunk that the Drain takes next (R306): during failback one of the twin's half (R347), one that a MEDIA barrier covers, one of a segment being demoted (R402), else
the one longest dirty, at BACKGROUND pace only when it has been so for 1,024 half-cycles. -/
def nextChunk (s : State) : Option Nat :=
  let cs := ((s.cin.granules.filter (fun g => g.2.st = .dirty)).map (fun g => g.1 / 16)).dedup
  let wanted := cs.find? (fun c => s.cin.granules.any (fun g => g.1 / 16 == c && g.2.st = .dirty && granuleWanted s g))
  let leaving := cs.find? (fun c => s.tier.segs.any (fun e => (e.2.st = .evicting || e.2.leaving) && e.2.frame == c / 32))
  let twins := cs.find? (fun c => s.twin.failback && s.tier.segs.any (fun e => decide (2 ^ 25 ≤ e.1) && segResident e.2 && e.2.frame == c / 32))
  let oldest := cs.foldl (fun (b : Option (Nat × Nat)) c =>
    match chunkAge s c, b with
    | some a, some (x, y) => if a < x then some (a, c) else some (x, y)
    | some a, none => some (a, c)
    | none, b => b) none
  let aged := match oldest with
    | some (a, c) => if s.cin.pace = .background ∧ s.lck.count < a + 1024 then none else some c
    | none => none
  twins <|> wanted <|> leaving <|> aged

/-- The DIRTY Tree lines of a chunk cleaned, and their lines accepted by DRAM where its write queues have room (R303
step 1). -/
def cleanChunk (s : State) (c : Nat) : State :=
  let s1 := treeCleanWhere s (fun t => t.line / 1024 == c)
  (s1.tree.wbb.filter (fun e => e.line / 1024 == c && !e.fetch)).foldl (fun t e =>
    if wrqFull t e.line then t
    else
      let u := { t with tree := { t.tree with wbb := t.tree.wbb.filter (fun x => x.line ≠ e.line) } }
      let v := wrqPut u e.line (plineBytes e.data) e.poison
      if (homeOfDram v e.line).isSome then markDirty v e.line e.lo else v) s1

/-- The cut of a chunk's RELEASE (R331): the mirror sequence current when it is taken, or the lowest one of bytes of the chunk
still in the Welt or the Skive buffer. -/
def chunkCut (s : State) (c : Nat) : Nat :=
  let inC := fun gl => decide ((dramOf s gl).map (· / 1024) = some c)
  let qs := (s.per.welt.filter (fun e => inC e.line)).filterMap WeltEntry.mirrorSeq ++
    (s.per.skive.filter (fun e => inC e.line)).filterMap SkiveLine.mirrorSeq
  qs.foldl min s.twin.txSeq

/-- A chunk taken (R303): its Tree lines cleaned, its free DIRTY granules TAKEN, and the chunk read from DRAM. A chunk in which
no granule is taken is not read. -/
def takeChunk (s : State) (c : Nat) : State :=
  let cut := chunkCut s c
  let s1 := cleanChunk s c
  let gs := ((List.range 16).map (fun k => c * 16 + k)).filter (granuleFree s1)
  if gs = [] then s1
  else
    let wanted := s1.cin.granules.any (fun g => gs.contains g.1 && granuleWanted s1 g)
    let home := match homeOfDram s1 (c * 1024) with | some gl => gl / 1024 | none => 0
    { s1 with
      cin := { s1.cin with
      granules := s1.cin.granules.map (fun g => if gs.contains g.1 then (g.1, { g.2 with st := .taken, takenLo := g.2.lo }) else g)
      chunks := s1.cin.chunks ++ [{
        dram := c, home := home, granules := gs, takenAt := s1.lck.count, barrier := wanted, cut := cut
        data := (List.range 1024).flatMap (fun i => (dramLine s1 (c * 1024 + i)).1) }] } }

/-- DRAIN_TAKE_CHUNK: the Drain takes its next chunk (R303, R306). A FENCED controller's Drain stands still (R341). -/
def execDrainTakeChunk (s : State) : Host.Outcome State Fault Refusal :=
  .next <|
    if s.twin.role = .fenced then s
    else match nextChunk s with
      | some c => takeChunk s c
      | none => s

/-! ### Stripes (R304, R305, R362, R363) -/

/-- The chunks at hand may be written as a stripe of n data units (R305): a full stripe, or a partial one that a MEDIA barrier,
COMMIT or 64 half-cycles of waiting allow. -/
def stripeDue (s : State) (cs : List Chunk) (n : Nat) : Bool :=
  decide (n ≤ cs.length) || (cs.any (fun c => c.barrier || decide (c.takenAt + 64 ≤ s.lck.count)) && cs ≠ []) ||
  (s.cin.phase = .commit && cs ≠ [])

/-- The columns of the set with no member for a new stripe, as a mask. -/
def missingMask (s : State) (n : Nat) : Nat := ((missingColumns s n).map (fun c => 2 ^ c)).sum

/-- The 16 granules of a chunk as a mask. -/
def chunkMask (c : Chunk) : Nat := (c.granules.map (fun g => 2 ^ (g % 16))).sum

/-- A stripe written (R362 steps 1 and 2): an OPEN entry, then every unit to all columns at once. -/
def writeStripe (s : State) (n k : Nat) (cs : List Chunk) (reloc : Bool) : State :=
  let seq := s.awl.jseq + 1
  let miss := missingMask s n
  let s1 := journalPut s {
    state := .opened, kind := if reloc then 1 else 0, set := n, stripe := k, epoch := s.cin.epoch,
    seq := seq, upd := seq, missing := miss, writer := !lowerSerial s, chunks := cs.map (fun c => (c.home, chunkMask c)),
    twinHas := false }
  let cols := (List.range (setOf s n).w).filter (fun c => (columnSlot s n c).isSome)
  let s2 := { s1 with
    awl := { s1.awl with
    stripes := s1.awl.stripes ++ [{ set := n, stripe := k, chunks := cs, waiting := cols, missing := miss, entry := seq, relocate := reloc }] } }
  cols.foldl (fun t c => match columnSlot t n c with | some sl => writeColumn t sl n k cs c false reloc | none => t) s2

/-- The Drain stalls for want of a zone (R308), with its record once. -/
def zonesExhausted (s : State) : State :=
  if s.cin.zonesOut then s
  else fault (setF { s with cin := { s.cin with zonesOut := true } } Reg.CIN_EVENTS_ZONES) .drain Ev.ZONES_EXHAUSTED 0xFF []

/-- The Drain stalls for want of a journal entry (R367), with its record once. -/
def journalFull (s : State) : State :=
  if s.awl.full then s
  else fault (setF { s with awl := { s.awl with full := true } } Reg.AWL_EVENTS_JOURNAL_FULL) .awl Ev.JOURNAL_FULL 0xFF []

/-- The set that the copies at the head of the relocation queue must avoid: a replica goes to another set (R399). A replica
copy carries its mark in `barrier`. -/
def replicaAvoid (s : State) (cs : List Chunk) : Option Nat :=
  match cs with
  | c :: _ => if c.barrier then (amFind (segOf s (c.home / 32)).chunks (c.home % 32)).map ChunkLoc.set else none
  | [] => none

/-- STRIPE_WRITE: the Awl engine writes a stripe of chunks that the Drain has taken, or of chunks to be relocated (R304, R305,
R361, R362, R364). -/
def execStripeWrite (relocate : Bool) (s : State) : Host.Outcome State Fault Refusal :=
  .next <|
    let cs := if relocate then s.awl.relocQ else s.cin.chunks
    if s.twin.role = .fenced ∨ cs = [] then s
    else match pickSet s (if relocate then replicaAvoid s cs else none) with
      | none => zonesExhausted s
      | some n =>
        let w := (setOf s n).n
        if !(relocate || stripeDue s cs w) then s
        else if 6144 ≤ s.awl.journal.length then journalFull s
        else match takeStripe s n with
          | none => zonesExhausted s
          | some (k, s1) =>
            let s2 := if relocate then { s1 with awl := { s1.awl with relocQ := cs.drop w } }
              else { s1 with cin := { s1.cin with chunks := cs.drop w } }
            writeStripe s2 n k (cs.take w) relocate

/-- The granules of a stripe's chunks after its commit: TAKEN becomes CLEAN, TAKEN_DIRTY becomes DIRTY (R293). -/
def granulesCommit (s : State) (gs : List Nat) : State :=
  admitUpdate { s with
  cin := { s.cin with
  granules := s.cin.granules.filterMap (fun g =>
    if gs.contains g.1 then (match g.2.st with
      | .taken => none
      | .takenDirty => some (g.1, { g.2 with st := .dirty })
      | .dirty => some g)
    else some g) } }

/-- The granules of an abandoned stripe: both taken states become DIRTY (R293). -/
def granulesAbandon (s : State) (gs : List Nat) : State :=
  { s with
  cin := { s.cin with
  granules := s.cin.granules.map (fun g =>
    if gs.contains g.1 then (g.1, { g.2 with st := .dirty, lo := if g.2.st = .takenDirty then min g.2.lo g.2.takenLo else g.2.lo })
    else g) } }

/-- A segment of T2 whose chunks have all been written to the drives becomes T3, and its lease frame goes back (R408). -/
def settleT2 (s : State) (hs : Nat) : State :=
  let g := segOf s hs
  if g.st = .t2 ∧ 32 ≤ g.chunks.length then
    let l := amGet s.tier.lenders g.lender {}
    emit { segSet s hs { g with st := .t3, frame := 0, lender := 0 } with
      tier := { (segSet s hs { g with st := .t3, frame := 0, lender := 0 }).tier with
        lenders := amSet s.tier.lenders g.lender
          { l with used := l.used.filter (· ≠ g.frame), frames := l.frames.filter (· ≠ g.frame) } } }
      (.lease true g.lender .ret [g.frame] 0 0)
  else s

/-- The segment map takes a chunk's new location (R362 step 4): as its copy, or as its replica (R399). -/
def chunkMoved (s : State) (home : Nat) (loc : ChunkLoc) (repl : Bool) : State :=
  let hs := home / 32
  let g := segOf s hs
  settleT2 (segSet s hs (if repl then { g with replica := amSet g.replica (home % 32) loc }
    else { g with chunks := amSet g.chunks (home % 32) loc })) hs

/-- A stripe committed (R362 steps 3 to 5, R293, R298, R331); the chunks of objects with REPLICA are to be copied (R399). -/
def commitStripe (s : State) (x : Stripe) : State :=
  let e := (journalFind s x.entry).getD {
    state := .opened, kind := 0, set := x.set, stripe := x.stripe, epoch := s.cin.epoch,
    seq := x.entry, upd := x.entry, missing := x.missing, writer := !lowerSerial s, chunks := [], twinHas := false }
  let s1 := journalPut { s with awl := { s.awl with stripes := s.awl.stripes.filter (fun y => y.entry ≠ x.entry) } }
    { e with state := .committed, missing := x.missing }
  let s2 := bump64 s1 (Reg.AWL_SET_STRIPES_LO_STRIPES_LO x.set) (Reg.AWL_SET_STRIPES_HI_STRIPES_HI x.set) 1
  let s3 := (x.chunks.zipIdx).foldl (fun t c => chunkMoved t c.1.home ⟨x.set, x.stripe, c.2⟩ (x.relocate && c.1.barrier)) s2
  let s4 := granulesCommit s3 (x.chunks.flatMap Chunk.granules)
  let s5 := if x.relocate then s4 else { s4 with
    cin := { s4.cin with
    curBytes := s4.cin.curBytes + 65536 * x.chunks.length } }
  let s6 := if journalSync s5 then { s5 with
    awl := { s5.awl with
    releases := s5.awl.releases ++
      (x.chunks.filter (fun c => c.granules ≠ [])).map (fun c => ⟨s5.awl.jseq, c.home, c.cut, chunkMask c⟩) } } else s5
  let s7 := { s6 with
    awl := { s6.awl with
      drainPoint := s6.awl.jseq
      relocQ := s6.awl.relocQ ++ (if x.relocate then [] else (x.chunks.filter (fun c =>
        objReplica s6 (segOf s6 (c.home / 32)).obj)).map (fun c => { c with granules := [], barrier := true })) } }
  freeZonesNow s7

/-- STRIPE_COMMIT: every unit of a stripe is acknowledged: its entry becomes COMMITTED (R362). -/
def execStripeCommit (n : Fin 8) (stripe : Nat) (s : State) : Host.Outcome State Fault Refusal :=
  .next <|
    match s.awl.stripes.find? (fun x => x.set = n.val ∧ x.stripe = stripe) with
    | some x => if x.waiting = [] then commitStripe s x else s
    | none => s

/-- A stripe abandoned (R293, R363): its granules are DIRTY again, its entry is freed, record 0x9014 is written. -/
def abandonStripe (s : State) (x : Stripe) : State :=
  let s1 := granulesAbandon { s with awl := { s.awl with stripes := s.awl.stripes.filter (fun y => y.entry ≠ x.entry) } }
    (x.chunks.flatMap Chunk.granules)
  let s2 := match journalFind s1 x.entry with | some e => journalPut s1 { e with state := .free } | none => s1
  let s3 := if x.relocate then { s2 with awl := { s2.awl with relocQ := x.chunks ++ s2.awl.relocQ } } else s2
  admitUpdate (fault s3 (.stripeSet x.set) Ev.STRIPE_WRITE_FAILED x.set (le 8 x.stripe))

/-- STRIPE_WRITE_FAILED: the retry of a unit write fails too (R363): the member becomes FAILED, and the stripe goes on without
the unit while the set is within its tolerance, else it is abandoned. -/
def execStripeWriteFailed (n : Fin 8) (stripe col : Nat) (s : State) : Host.Outcome State Fault Refusal :=
  .next <|
    match s.awl.stripes.find? (fun x => x.set = n.val ∧ x.stripe = stripe) with
    | none => s
    | some x =>
      if !x.waiting.contains col then s
      else
        let s1 := match columnSlot s n col with | some sl => memberFailed s sl 5 | none => s
        let s2 := { s1 with
        awl := { s1.awl with
        stripes := s1.awl.stripes.map (fun (y : Stripe) =>
          if y.entry = x.entry then
            { y with waiting := y.waiting.filter (· ≠ col), missing := Sys2Proof.Machine.setBit y.missing col true } else y) } }
        if (setStateFor s2 n) = .failed then
          abandonStripe s2 ((s2.awl.stripes.find? (fun y => y.entry = x.entry)).getD x)
        else s2

/-- The live chunks of a zone as copies to be written elsewhere (R364, R399): a replica carries its mark in `barrier`. -/
def relocated (s : State) (zone : Nat) : List Chunk :=
  let copy := fun (hs : Nat) (b : Bool) (c : Nat × ChunkLoc) =>
    ({ dram := 0, home := hs * 32 + c.1, granules := [], takenAt := s.lck.count, barrier := b } : Chunk)
  let here := fun (c : Nat × ChunkLoc) => decide (zoneOf s c.2.set c.2.stripe = zone)
  s.tier.segs.flatMap (fun e => (e.2.chunks.filter here).map (copy e.1 false) ++ (e.2.replica.filter here).map (copy e.1 true))

/-- ZONE_RECLAIM: an owned zone whose live fraction is below RECLAIM_PCT has its live chunks relocated (R364). -/
def execZoneReclaim (zone : Nat) (s : State) : Host.Outcome State Fault Refusal :=
  .next <|
    let live := zoneLive s zone
    let cap := zoneStripes (setOf s (zoneSet zone)).n * (setOf s (zoneSet zone)).n
    if !s.cin.ownedZones.contains zone ∨ s.cin.freeZones.contains zone ∨ zoneBusy s zone ∨ s.cin.phase ≠ .normal ∨
        cap * rd s Reg.AWL_CTRL_RECLAIM_PCT ≤ live * 100 then s
    else if live = 0 then freeZonesNow s
    else
      let cs := relocated s zone
      { s with awl := { s.awl with relocQ := s.awl.relocQ ++ cs, reclaiming := some zone } }

end Sys2Proof.Machine
end

