-- ==== Sys2Proof/Machine/HostPorts.lean ====
section
/-!
DEFINITION. The meanings of the host ports' commands (spec/05): CXL.mem writes and reads, decoders, link changes, enables,
doorbells.
-/
namespace Sys2Proof.Machine

/-! ### Widths and roles (R125, R126) -/

/-- The merge value of a quad (R125). -/
def quadMode (s : State) (q : Nat) : Nat := odNum s 0x610001 2 0x0924 / 8 ^ q % 8

/-- The lanes of a port (R125); 0 for an absorbed port. -/
def portLanes (s : State) (p : Nat) : Nat :=
  match quadMode s (p / 4), p % 4 with
  | 4, 0 => 16
  | 4, _ => 0
  | 1, 0 | 3, 0 | 2, 2 | 3, 2 => 8
  | 1, 1 | 3, 1 | 2, 3 | 3, 3 => 0
  | _, _ => 4

/-- HPT_PORT_STATUS.ROLE (R126): 0 a ×4 port, 1 a merged lead, 2 absorbed. -/
def portRole (s : State) (p : Nat) : Nat :=
  if portLanes s p = 0 then 2 else if portLanes s p = 4 then 0 else 1

/-- The trackers a port owns (R23, R24). -/
def portTrackers (s : State) (p : Nat) : Nat := 1024 * portLanes s p

/-- Host requests of a port in flight. -/
def portInFlight (s : State) (p : Nat) : Nat :=
  (s.host.writes.filter (fun w => match w.who with | .host q _ _ => q == p | _ => false)).length +
  (s.host.reads.filter (fun r => match r.who with | .host q _ _ => q == p | _ => false)).length

/-- Host requests of an LD in flight. -/
def ldInFlight (s : State) (n : Nat) : Nat :=
  (s.host.writes.filter (fun w => match w.who with | .host _ l _ => l == n | _ => false)).length +
  (s.host.reads.filter (fun r => match r.who with | .host _ l _ => l == n | _ => false)).length

/-- HPT_PORT_TRACK.LOW_WATER takes a new least value of FREE. -/
def trackLow (s : State) (p : Nat) : State :=
  let f := portTrackers s p - portInFlight s p
  if f < rd s (Reg.HPT_PORT_TRACK_LOW_WATER p) then wr s (Reg.HPT_PORT_TRACK_LOW_WATER p) f else s

/-! ### Decoding (R132, R133, R150) -/

/-- The DPA that a committed decoder gives a host address. PRESUMED: the interleave arithmetic of CXL decoders. -/
def decode1 (d : Decoder) (hpa : Nat) : Option Nat :=
  if d.committed && decide (d.base ≤ hpa) && decide (hpa < d.base + d.size * d.ways) then
    let o := hpa - d.base
    some (d.skip + o / (d.gran * d.ways) * d.gran + o % d.gran)
  else none

/-- The DPA of a host address of an LD. -/
def decodeHpa (s : State) (n hpa : Nat) : Option Nat := (ldOf s n).decoders.findSome? (fun e => decode1 e.2 hpa)

/-- Where a CXL.mem request goes: to a home line of an LD with its DPA, to a refusal with poison or a discarded completion
and its violation cause (0 where it is not counted), or nowhere while credits are withheld. -/
inductive Target where
  | line (ld dpa gl : Nat) | refuse (ld : Option Nat) (cause : Nat) | withheld
deriving DecidableEq, Repr

/-- The port advertises CXL.mem credits, or has granted credits that COMMIT still serves (R146, R147, R149). -/
def creditsOpen (s : State) (p : Nat) : Bool :=
  s.boot.memActive && fnOpen s (.port p) && s.twin.role ≠ .fenced && s.boot.warm = .none

/-- The target of a memory TLP in compatibility mode (R585): the bank in force and the offset in the window; at or beyond the
LD's size it is violation cause 1. -/
def lxTarget (s : State) (p off : Nat) : Target :=
  let e := p / 4
  let dpa := rd s (Reg.LXF_BANK_BANK e) * 2 ^ 40 + off % 2 ^ 40 / 64 * 64
  if p % 4 ≠ 0 ∨ 2 ≤ e then .withheld
  else if (fnOf s (.ld e)).phase ≠ .enabled then .refuse (some e) (if (fnOf s (.ld e)).phase = .disabled then 2 else 0)
  else if ldSegs s e * 0x200000 ≤ dpa then .refuse (some e) 1
  else .line e dpa (homeLine s e dpa)

/-- An LD that STBY_PARTNER_LD names as the stand-in for one of the twin's (R342). -/
def isStandby (s : State) (n : Nat) : Bool :=
  !s.boot.twinPresentN && odNum s ((0x5100 + n) * 256 + 1) 1 0xFF ≠ 0xFF

/-- The target of a CXL.mem request (R132, R137, R145 to R151, R342), or of a memory TLP in compatibility mode. -/
def target (s : State) (p ldid hpa : Nat) : Target :=
  if !creditsOpen s p ∨ portTrackers s p ≤ portInFlight s p then .withheld
  else if s.boot.mode = .compat then lxTarget s p hpa
  else match (portLds s p)[ldid]? with
    | none => .refuse none 2
    | some n =>
      let f := fnOf s (.ld n)
      if f.phase = .disabled then .refuse (some n) 2
      else if f.phase = .quiescing then .refuse (some n) 0
      else if isStandby s n ∧ (ldOf s n).standbyOpen = false then .withheld
      else if contained s (.ld n) ∧ 64 ≤ ldInFlight s n then .withheld
      else match decodeHpa s n (hpa / 64 * 64) with
        | none => .refuse (some n) 1
        | some dpa =>
          if (ldOf s n).fenced ∧ (windowAt s n (dpa / 0x200000)).isSome then .refuse (some n) 0
          else .line n dpa (homeLine s n dpa)

/-- The answer to a refused request counted where it is a violation. -/
def refuseCount (s : State) (p : Nat) (ld : Option Nat) (cause : Nat) : State :=
  if cause = 0 then s else hostViolation s p ld cause

/-- A write of a STREAM region accepted into the Skive buffer (R18, R164, R165, R167) and completed at LOCAL. -/
def skiveAccept (s : State) (p ld tag gl : Nat) (data : PLine) : State :=
  let q := s.per.acceptSeq + 1
  let make : Option State := match skiveFind s gl with
    | some _ => some s
    | none =>
      if s.per.skive.length < 16384 then some s
      else match s.per.skive.find? (fun e => !plineFull e.data) with
        | some e => skiveClose s e
        | none => none
  match make with
  | none => emit s (.creditWithheld p)
  | some s0 =>
    let s1 := touchSegment { s0 with per := { s0.per with acceptSeq := q } } (gl / 32768)
    let old := skiveFind s1 gl
    let d := plineOver data ((old.map SkiveLine.data).getD plineEmpty)
    let mir := if plineFull d then mirrorSeqNext s1 else none
    let e : SkiveLine := {
      line := gl, data := d, ld := ld, seqs := ((old.map SkiveLine.seqs).getD []) ++ [q],
      openedTick := (old.map SkiveLine.openedTick).getD (lineStamp s), mirrorSeq := mir,
      poisoned := ((old.map SkiveLine.poisoned).getD false) && !plineFull data }
    let s1a := repairWritten s1 gl data
    let s2 := { s1a with per := { s1a.per with skive := s1a.per.skive.filter (fun (x : SkiveLine) => x.line ≠ gl) ++ [e] } }
    let s3 := match dramOf s2 gl with | some dl => markDirty s2 dl q | none => s2
    let s4 := if plineFull d then mirrorLine s3 gl d else s3
    let wid := s4.host.nextWrite
    let s5 := { s4 with
      host := { s4.host with
      nextWrite := wid + 1,
      writes := s4.host.writes ++ [⟨wid, .host p ld tag, gl, q, false, none, false, false, s.time⟩] } }
    let s6 := tryComplete (admitUpdate s5) wid
    if plineFull d then skiveWrite s6 e else s6

/-- A CXL.mem write through the port (R13 to R19, R133, R136, R147, R150, R247). `meta` is 0 No-Op, 1 Invalid, 2 Shared, 3
Any. -/
def hostWrite (p : Nat) (ldid tag hpa mask meta_ : Nat) (data : Bytes) (s : State) : State :=
  let d := plineMasked mask (data ++ List.replicate (64 - data.length) 0 |>.take 64)
  match target s p ldid hpa with
  | .withheld => emit s (.creditWithheld p)
  | .refuse ld cause =>
    if s.boot.mode = .compat then refuseCount s p ld cause
    else emit (refuseCount s p ld cause) (.writeDone p (ld.getD 0x3F) tag)
  | .line n dpa gl =>
    let s0 := streamTouch (trackLow s p) n gl
    let seg := dpa / 0x200000
    if policyAt s n seg = 4 ∧ s.cin.phase ≠ .commit then skiveAccept s0 p n tag gl d
    else match acceptWrite s0 (.host p n tag) n gl d (completePair s n seg) (decide (meta_ ≠ 1)) with
      | some t => t
      | none => emit s (.creditWithheld p)

/-- HOST_WRITE: a CXL.mem write of the bytes of a line that the mask selects; in compatibility mode a posted memory write at a
window offset (R585). -/
def execHostWrite (port : Fin 16) (ldid : Fin 16) (tag hpa mask meta_ : Nat) (data : Bytes) (s : State) :
    Host.Outcome State Fault Refusal := .next (hostWrite port ldid tag hpa mask meta_ data s)

/-- STREAM_WRITE: a CXL.mem write that decodes to a STREAM region is accepted into the Skive buffer and completed at LOCAL
(R18, R164); one that decodes elsewhere takes the Welt path of HOST_WRITE. -/
def execStreamWrite (port : Fin 16) (ldid : Fin 16) (tag hpa mask : Nat) (data : Bytes) (s : State) :
    Host.Outcome State Fault Refusal := .next (hostWrite port ldid tag hpa mask 1 data s)

/-- HOST_READ: a CXL.mem read of a line (R20 to R22, R147, R150, R247); in compatibility mode a memory read at a window offset,
withheld until the posted writes received before it have completed (R585, R587). `err` is what the read finds in the SRAM arrays
(R163, R222, R223). -/
def execHostRead (port : Fin 16) (ldid : Fin 16) (tag hpa meta_ : Nat) (err : SramErr) (s : State) : Host.Outcome State Fault Refusal :=
  .next <|
    match target s port ldid hpa with
    | .withheld => emit s (.creditWithheld port)
    | .refuse ld cause => emit (refuseCount s port ld cause) (.readData port (ld.getD 0x3F) tag (List.replicate 64 0) true)
    | .line n _ gl =>
      let s1 := streamTouch (trackLow s port) n gl
      let s2 := sramFound (if meta_ ≠ 1 ∧ (inWindow s gl).isSome then hhSet s1 gl true else s1) gl err
      if s.boot.mode = .compat ∧ s.host.writes.any (fun v => match v.who with | .host q _ _ => q == port.val | _ => false)
      then holdRead s2 (.host port n tag) gl (.posted s.per.acceptSeq)
      else readLine s2 (.host port n tag) gl (some port.val)

/-! ### Decoders (R132) -/

/-- The parameters under which a decoder is committed (R132). -/
def decoderOk (s : State) (n idx : Nat) (d : Decoder) : Bool :=
  let u := 0x10000000
  let lo := d.skip / 0x200000
  let hi := (d.skip + d.size) / 0x200000
  let win := (ldWindows s n).map (windowSegs s)
  decide (d.ways ∈ [1, 2, 4, 8, 16]) && decide (d.gran ∈ [256, 512, 1024, 2048, 4096, 8192, 16384]) &&
  d.size % u == 0 && d.skip % u == 0 && decide (0 < d.size) && decide (hi ≤ ldSegs s n) &&
  (ldOf s n).decoders.all (fun e => e.1 == idx || !e.2.committed ||
    decide (d.skip + d.size ≤ e.2.skip) || decide (e.2.skip + e.2.size ≤ d.skip)) &&
  (if d.bi then win.any (fun w => decide (w.1 ≤ lo) && decide (hi ≤ w.1 + w.2)) && !rdb s (Reg.HPT_PORT_STATUS_FLIT68 (ldPort s n))
   else win.all (fun w => decide (hi ≤ w.1) || decide (w.1 + w.2 ≤ lo)))

/-- HDM_DECODER_COMMIT: a host commits a decoder of an LD, accepted within R132, or refused with Error Not Committed and
record 0x3008. A decoder locked by an earlier commit stays as it is. -/
def execHdmDecoderCommit (n : Fin 64) (idx : Fin 4) (base size skip ways gran : Nat) (bi lock : Bool) (s : State) :
    Host.Outcome State Fault Refusal :=
  let l := ldOf s n
  let old := amGet l.decoders idx.val {}
  let d : Decoder := { committed := true, base := base, size := size, skip := skip, ways := ways, gran := gran, bi := bi,
                       lock := lock }
  .next <|
    if old.lock ∧ old.committed then s
    else if decoderOk s n idx d then ldSet s n { l with decoders := amSet l.decoders idx.val d }
    else record (ldSet s n { l with decoders := amSet l.decoders idx.val { d with committed := false, refused := true } })
      Ev.DECODER_REFUSED n (le 1 idx)

/-! ### Links and enables (R127, R148, R149) -/

/-- HOST_LINK_UP: a port's link reaches L0 at a negotiated width code and rate (R127, R137, R148): fences of its LDs are
lifted, BUSY slots become FREE, lost records are counted in record 0x3005, and a link below its configuration is recorded. An
absorbed port has no link. -/
def execHostLinkUp (port : Fin 16) (width : Nat) (rate64 flit68 : Bool) (s : State) : Host.Outcome State Fault Refusal :=
  .next <|
    if portRole s port = 2 ∨ s.boot.mode = .service ∨ s.boot.stage < 6 then s
    else if flit68 ∧ (rate64 ∨ rdb s (Reg.HPT_PORT_CTRL_FLIT68_EN port) = false) then s
    else
      let s1 := setF (wr (wr (wr (wr s (Reg.HPT_PORT_STATUS_LINK_UP port) 1) (Reg.HPT_PORT_STATUS_WIDTH port) width)
        (Reg.HPT_PORT_STATUS_RATE_64 port) (b2n rate64)) (Reg.HPT_PORT_STATUS_FLIT68 port) (b2n flit68))
        (Reg.HPT_PORT_EVENTS_LINK_UP port)
      let s2 := record s1 Ev.PORT_LINK_UP port []
      let s3 := (portLds s2 port).foldl (fun t n => ldSet t n { ldOf t n with
        fenced := false, slots := (ldOf t n).slots.map (fun e => (e.1, { e.2 with busy := false })) }) s2
      let full := if portLanes s port = 16 then 5 else if portLanes s port = 8 then 4 else 3
      let slow := !rate64 && !rdb s (Reg.HPT_PORT_CTRL_RATE_32 port)
      let s4 := if width < full ∨ slow then record (setF s3 (Reg.HPT_PORT_EVENTS_DEGRADED port)) Ev.PORT_DEGRADED port
          (le 1 width) else s3
      let n := amGet s.host.dropped port.val 0
      if n = 0 then s4
      else record (setF { s4 with host := { s4.host with dropped := amErase s4.host.dropped port.val } }
        (Reg.HPT_PORT_EVENTS_RECORDS_DROPPED port)) Ev.RECORDS_DROPPED port (le 4 n)

/-- A port's link taken down (R148): data not sent is discarded, accepted writes go on as if completed. -/
def linkDown (s : State) (p : Nat) : State :=
  if rdb s (Reg.HPT_PORT_STATUS_LINK_UP p) then
    let s1 := setF (wr (wr s (Reg.HPT_PORT_STATUS_LINK_UP p) 0) (Reg.HPT_PORT_STATUS_WIDTH p) 0) (Reg.HPT_PORT_EVENTS_LINK_DOWN p)
    let s2 := { s1 with
      host := { s1.host with
      reads := s1.host.reads.filter (fun r => match r.who with | .host q _ _ => q ≠ p | _ => true)
      writes := s1.host.writes.filter (fun w => match w.who with | .host q _ _ => q ≠ p | _ => true) } }
    record s2 Ev.PORT_LINK_DOWN p []
  else s

/-- HOST_LINK_DOWN: a port's link goes down, or its HOST_PERST_N is asserted (R148, R607). -/
def execHostLinkDown (port : Fin 16) (s : State) : Host.Outcome State Fault Refusal := .next (linkDown s port)

/-- A value staged for an RWB field, to be applied at the next tick (R80). -/
def stageField (s : State) (f : Fld) (v : Nat) : State :=
  if s.cin.phase = .commit then s
  else { s with iface := { s.iface with staged := amSet s.iface.staged f.addr (v % 2 ^ f.width) } }

/-- HPT_PORT_ENABLE_CHANGE: HPT_PORT_CTRL.ENABLE is written and takes effect at the next tick (R149, R495, R496). -/
def execHptPortEnableChange (port : Fin 16) (on : Bool) (s : State) : Host.Outcome State Fault Refusal :=
  .next (stageField s (Reg.HPT_PORT_CTRL_ENABLE port) (b2n on))

/-- HPT_LD_ENABLE_CHANGE: HPT_LD_CFG.ENABLE is written and takes effect at the next tick (R149, R495, R496). -/
def execHptLdEnableChange (n : Fin 64) (on : Bool) (s : State) : Host.Outcome State Fault Refusal :=
  .next (stageField s (Reg.HPT_LD_CFG_ENABLE n) (b2n on))

/-! ### Doorbells (R141 to R144, R169) -/

/-- DOORBELL_ADDR_WRITE: a host writes an offset of a doorbell slot (R141, R144, R151): ADDR of a FREE slot takes the value;
a write to ADDR of a BUSY slot, to STATE or to another offset changes nothing and is a violation of cause 3. A contained
LD's page ignores writes. -/
def execDoorbellAddrWrite (n : Fin 64) (slot : Fin 64) (off value : Nat) (s : State) : Host.Outcome State Fault Refusal :=
  let l := ldOf s n
  let sl := amGet l.slots slot.val {}
  .next <|
    if contained s (.ld n) then s
    else if off = 0 ∧ sl.busy = false then
      ldSet s n { l with slots := amSet l.slots slot.val { sl with addr := value % 2 ^ 64 } }
    else hostViolation s (ldPort s n) (some n) 3

/-- DOORBELL_RING: a write of `bits` bits to RING of a slot (R142 to R144, R146, R147, R149, R150): a barrier begins, or the
record is written at once with BAD_DESCRIPTOR, NOT_READY or FUNCTION_DISABLED; misuse is a violation. -/
def execDoorbellRing (n : Fin 64) (slot : Fin 64) (word bits : Nat) (s : State) : Host.Outcome State Fault Refusal :=
  let l := ldOf s n
  let sl := amGet l.slots slot.val {}
  let token := word % 0x10000
  let scope := word / 0x10000 % 4
  let level := word / 0x40000 % 4
  let intr := bit word 20
  let vec := word / 0x200000 % 64
  .next <|
    if contained s (.ld n) then s
    else if bits ≠ 64 ∨ sl.busy ∨ sl.addr % 64 ≠ 0 then hostViolation s (ldPort s n) (some n) 3
    else if scope = 3 ∨ level = 3 ∨ word / 2 ^ 27 % 2 ^ 37 ≠ 0 then
      writeRecord (hostViolation s (ldPort s n) (some n) 4) n sl.addr token .badDescriptor scope level intr vec
    else if s.boot.ready = false ∨ s.cin.phase = .commit then
      writeRecord (bump s Reg.WLT_BAR_ERR_NOT_READY 1) n sl.addr token .notReady scope level intr vec
    else if !fnOpen s (.ld n) ∨ !fnOpen s (.port (ldPort s n)) then
      writeRecord s n sl.addr token .functionDisabled scope level intr vec
    else
      startBarrier (ldSet s n { l with slots := amSet l.slots slot.val { sl with busy := true } })
        (.doorbell n slot token intr vec) n scope level

end Sys2Proof.Machine
end

