-- ==== Sys2Proof/Machine/Objects.lean ====
section
/-!
DEFINITION. The object and stream commands (spec/13, R390 to R400, R411 to R416) and the vendor commands' common part (R138 to
R140).
-/
namespace Sys2Proof.Machine

/-! ### Vendor commands (R140) -/

/-- The answer to a vendor command (R140): return code Success, the status byte, 15 zero bytes, then the output. -/
def vendorReply (s : State) (n : Nat) (st : Status) (out : Bytes) : State :=
  emit s (.cci n .success (le 1 (statusCode st) ++ List.replicate 15 0 ++ out))

/-- A vendor command's common refusals (R140, R149, R394): in compatibility mode the command is absent, before READY it ends
with NOT_READY, from a contained LD with PARTNER_VIOLATION (R151), on an LD that is not ENABLED with FUNCTION_DISABLED; otherwise
it runs. -/
def vendorCmd (s : State) (n : Nat) (run : State → State) : State :=
  if s.boot.mode = .compat then emit s (.cci n .unsupported [])
  else if !s.boot.ready then vendorReply s n .notReady []
  else if contained s (.ld n) then vendorReply s n .partnerViolation []
  else if !fnOpen s (.ld n) then vendorReply s n .functionDisabled []
  else run s

/-! ### Objects (R390 to R399) -/

/-- The LD may act on an object (R394): one of its own run, or of a window of its sharing group. -/
def mayAct (s : State) (n id : Nat) : Bool :=
  let b := objBase s id
  b == n || (decide (64 ≤ b) && isSharer s (b - 64) n)

/-- Stripe sets in use. -/
def setsInUse (s : State) : List Nat := (List.range 8).filter (fun n => (setOf s n).layout ≠ 0)

/-- The data capacity in segments of the sets that are not FAILED (R401). -/
def dataSegs (s : State) : Nat :=
  (((setsInUse s).filter (fun n => (setOf s n).st ≠ .failed)).map (fun n =>
    (setOf s n).zones * zoneStripes (setOf s n).n * (setOf s n).n / 32)).sum

/-- The sizes of a tenant's created objects, in segments (R400). -/
def tenantT3 (s : State) (ten : Nat) : Nat :=
  ((s.tier.objs.filter (fun o => objTenant s o.id = ten)).map TObj.size).sum

/-- A reservation of drive capacity fits (R401): at most T3_RESERVE_PCT of half the data capacity. -/
def t3Fits (s : State) (segs : Nat) : Bool :=
  decide (200 * ((s.tier.objs.map TObj.size).sum + segs) ≤ dataSegs s * odNum s 0x300103 1 90)

/-- The lowest free object ID (R390). -/
def freeObjId (s : State) : Option Nat :=
  let ids := s.tier.objs.map TObj.id
  ((List.range (ids.length + 1)).map (· + 128)).find? (fun k => !ids.contains k && decide (k < 2 ^ 20))

/-- Segments reset to ZERO in an object (R391, R396): their frames, lease slots, chunks and poison are released, their lines
leave the Tree cache, the ring and the buffers, their granules become CLEAN without being drained, and the twin frees its
pool frames on a RELEASE whose cut is the current sequence. -/
def zeroSegs (s : State) (first k obj : Nat) : State :=
  let inR := fun gl => decide (first ≤ gl / 32768) && decide (gl / 32768 < first + k)
  let frames := (s.tier.segs.filter (fun e => decide (first ≤ e.1) && decide (e.1 < first + k) && segResident e.2)).map
    (fun e => e.2.frame)
  let inF := fun dl => frames.contains (dl / 32768)
  let lent := s.tier.segs.filter (fun e => decide (first ≤ e.1) && decide (e.1 < first + k) && e.2.st = .t2)
  let s1 := { s with
    per := { s.per with welt := s.per.welt.filter (fun e => !inR e.line), skive := s.per.skive.filter (fun e => !inR e.line) }
    tree := { s.tree with lines := s.tree.lines.filter (fun t => !inF t.line), wbb := s.tree.wbb.filter (fun e => !inF e.line) }
    ring := { s.ring with agents := s.ring.agents.filter (fun a => !inF a.line) }
    cin := { s.cin with granules := s.cin.granules.filter (fun g => !inF (g.1 * 64)),
                        chunks := s.cin.chunks.filter (fun c => !inF (c.dram * 1024)) }
    tier := { s.tier with
      segs := s.tier.segs.filter (fun e => !(decide (first ≤ e.1) && decide (e.1 < first + k)))
      lenders := lent.foldl (fun ls e =>
        let l := amGet ls e.2.lender {}
        amSet ls e.2.lender { l with used := l.used.filter (· ≠ e.2.frame) }) s.tier.lenders } }
  let s2 := (List.range k).foldl (fun t i => segSet t (first + i) { obj := obj }) s1
  let s3 := if linkCarries s2 then
      (List.range (32 * k)).foldl (fun t i => twinSend t 0x13 (first * 32 + i) s.twin.txSeq (le 2 0xFFFF)) s2
    else s2
  freeZonesNow (admitUpdate (completeAll s3))

/-- The base object and first home segment that a DPA range names, where it lies wholly inside one base object (R391). -/
def carveRange (s : State) (n seg k : Nat) : Option (Nat × Nat) :=
  let base := match windowAt s n seg with | some w => 64 + w | none => n
  let first := homeSeg s n seg
  if (List.range k).all (fun i =>
      decide ((windowAt s n (seg + i)).map (· + 64) = (windowAt s n seg).map (· + 64)) &&
      homeSeg s n (seg + i) == first + i && (segOf s (first + i)).obj == base) && decide (seg + k ≤ ldSegs s n)
  then some (base, first) else none

/-- The status of OBJECT_CREATE's or OBJECT_SET_POLICY's class, policy and flags (R392, R395). -/
def policyOk (s : State) (cls policy flags : Nat) : Bool :=
  decide (cls < 2) && decide (policy < 4) && decide (flags < 2) && !(policy == 3 && cls == 0) && !(flags == 1 && cls == 1) &&
  !(flags == 1 && decide ((setsInUse s).length < 2))

/-- OBJECT_CREATE: an object carved out of a base object (R391, R395, R400, R401). -/
def execObjectCreate (n : Fin 64) (offset size cls policy flags : Nat) (s : State) : Host.Outcome State Fault Refusal :=
  .next <| vendorCmd s n (fun s =>
    let k := size / 0x200000
    if offset % 0x200000 ≠ 0 ∨ size % 0x200000 ≠ 0 ∨ k = 0 ∨ !policyOk s cls policy flags then vendorReply s n .badDescriptor []
    else match carveRange s n (offset / 0x200000) k with
      | none => vendorReply s n .badDescriptor []
      | some (base, first) =>
        let ten := rd s (Reg.HPT_LD_CFG_TENANT n)
        let fits := fitsQuota (quota s ten 3) (tenantT3 s ten + k) && t3Fits s k &&
          (policy != 0 || (fitsQuota (quota s ten 1) (tenantT1 s ten + k) && decide (k ≤ (freeFrames s).length)))
        match freeObjId s with
        | none => vendorReply s n .quota []
        | some id =>
          if !fits then vendorReply s n .quota []
          else
            let o : TObj := { id := id, first := first, size := k, base := base, volatileClass := cls == 1, policy := policy,
                              replica := flags == 1 }
            let s1 := { s with tier := { s.tier with objs := s.tier.objs ++ [o] } }
            vendorReply (zeroSegs s1 first k id) n .ok (le 4 id))

/-- An object command's common checks (R394): an unknown ID, then one that the LD may not act on. -/
def objectCmd (s : State) (n id : Nat) (run : State → Nat × Nat → State) : State :=
  match objRange s id with
  | none => vendorReply s n .badDescriptor []
  | some r => if mayAct s n id then run s r else vendorReply s n .access []

/-- OBJECT_DESTROY: the object's segments return to its base object as ZERO (R396). -/
def execObjectDestroy (n : Fin 64) (id : Nat) (s : State) : Host.Outcome State Fault Refusal :=
  .next <| vendorCmd s n (fun s => objectCmd s n id (fun s r =>
    if id < 128 then vendorReply s n .badDescriptor []
    else if s.tier.streams.any (fun t => t.obj == id) then vendorReply s n .busyRetry []
    else
      let b := objBase s id
      let s1 := { s with tier := { s.tier with objs := s.tier.objs.filter (fun o => o.id ≠ id) } }
      vendorReply (zeroSegs s1 r.1 r.2 b) n .ok []))

/-- The attributes that OBJECT_QUERY returns (R397). -/
def objectInfo (s : State) (id : Nat) (r : Nat × Nat) : Bytes :=
  let gs := ((List.range r.2).map (fun i => segOf s (r.1 + i))).filter (fun g => g.obj = id)
  let cnt := fun (p : SegSt → Bool) => (gs.filter (fun g => p g.st)).length
  le 8 ((regionKey s r.1).2 * 0x200000) ++ le 8 (r.2 * 0x200000) ++ le 1 (b2n (objVolatile s id)) ++ le 1 (objPolicy s id) ++
  le 1 (b2n (objReplica s id)) ++ le 1 0 ++
  le 4 (cnt (fun x => x = .t1 || x = .evicting || x = .moving)) ++ le 4 (cnt (fun x => x = .t2)) ++
  le 4 (cnt (fun x => x = .t3 || x = .loading)) ++ le 4 (cnt (fun x => x = .zero)) ++
  le 4 ((gs.map (fun g => g.poison.length)).sum) ++ le 1 (s.tier.streams.filter (fun t => t.obj = id)).length

/-- OBJECT_QUERY: an object's attributes and segment counts (R397). -/
def execObjectQuery (n : Fin 64) (id : Nat) (s : State) : Host.Outcome State Fault Refusal :=
  .next <| vendorCmd s n (fun s => objectCmd s n id (fun s r => vendorReply s n .ok (objectInfo s id r)))

/-- The replica of every chunk of an object dropped, or its chunks queued to be copied (R398, R399). -/
def setReplica (s : State) (r : Nat × Nat) (on : Bool) : State :=
  if on then
    let cs := (List.range r.2).flatMap (fun i => (segOf s (r.1 + i)).chunks.map (fun c =>
      ({ dram := 0, home := (r.1 + i) * 32 + c.1, granules := [], takenAt := s.lck.count, barrier := true } : Chunk)))
    { s with awl := { s.awl with relocQ := s.awl.relocQ ++ cs } }
  else freeZonesNow ((List.range r.2).foldl (fun t i => segSet t (r.1 + i) { segOf t (r.1 + i) with replica := [] }) s)

/-- OBJECT_SET_POLICY: an object's policy and REPLICA flag changed under the checks of R395; a change to PINNED_T1 queues every
segment that is not resident for loading at demand priority (R398). -/
def execObjectSetPolicy (n : Fin 64) (id policy flags : Nat) (s : State) : Host.Outcome State Fault Refusal :=
  .next <| vendorCmd s n (fun s => objectCmd s n id (fun s r =>
    if !policyOk s (b2n (objVolatile s id)) policy flags then vendorReply s n .badDescriptor []
    else
      let ten := objTenant s id
      let away := ((List.range r.2).filter (fun i => !segResident (segOf s (r.1 + i)) && (segOf s (r.1 + i)).obj == id))
      if policy = 0 ∧ objPolicy s id ≠ 0 ∧
          (!fitsQuota (quota s ten 1) (tenantT1 s ten + away.length) ∨ (freeFrames s).length < away.length) then
        vendorReply s n .quota []
      else
        let s1 := match objFind s id with
          | some _ => { s with
            tier := { s.tier with
            objs := s.tier.objs.map (fun (o : TObj) =>
              if o.id = id then { o with policy := policy, replica := flags == 1 } else o) } }
          | none => { s with tier := { s.tier with basePol := amSet s.tier.basePol id (policy, flags == 1) } }
        let s2 := if objReplica s id = (flags == 1) then s1 else setReplica s1 r (flags == 1)
        let s3 := if policy = 0 then away.foldl (fun t i => startLoad t (r.1 + i) 2) s2 else s2
        vendorReply s3 n .ok []))

/-! ### Streams (R411 to R416) -/

/-- The bytes of a stretch of an LD's DPA range: lines whose segment stands on the drives or with a lender are those that
`far` gives. -/
def dpaBytes (s : State) (n dpa len : Nat) (far : List (Nat × Bytes)) : Bytes :=
  let lines := List.range ((dpa % 64 + len + 63) / 64)
  ((lines.flatMap (fun i =>
    let gl := homeLine s n (dpa / 64 * 64 + 64 * i)
    match lineValue s gl with
    | some v => v.1
    | none => amGet far gl (List.replicate 64 0))).drop (dpa % 64)).take len

/-- A layer's entry in a stream descriptor (R411): offset and length where the entry is good. -/
def layerEntry (e : Bytes) (size : Nat) : Option (Nat × Nat) :=
  let o := leNat (e.take 8)
  let l := leNat ((e.drop 8).take 4)
  if o % 64 = 0 ∧ l % 64 = 0 ∧ 64 ≤ l ∧ o + l ≤ size ∧ leNat (e.drop 12) = 0 then some (o, l) else none

/-- The layers of a stream descriptor (R411): `none` where the magic, a field or a layer is wrong. -/
def readDescriptor (s : State) (n dpa size : Nat) (far : List (Nat × Bytes)) : Option (List (Nat × Nat)) :=
  let h := dpaBytes s n dpa 16 far
  let k := leNat ((h.drop 4).take 2)
  if leNat (h.take 4) ≠ 0x5245494E ∨ k = 0 ∨ 4096 < k ∨ leNat (h.drop 6) ≠ 0 ∨ ldSegs s n * 0x200000 < dpa + 16 + 16 * k then none
  else
    let body := dpaBytes s n (dpa + 16) (16 * k) far
    let es := (List.range k).map (fun i => layerEntry ((body.drop (16 * i)).take 16) size)
    if es.all Option.isSome then some (es.filterMap id) else none

/-- The lowest number below a bound that a list does not hold. -/
def lowestFree (used : List Nat) (bound : Nat) : Option Nat :=
  (List.range (min bound (used.length + 1))).find? (fun k => !used.contains k)

/-- The segments of the W largest layers, in whole segments (R412). -/
def windowReserve (layers : List (Nat × Nat)) (w : Nat) : Nat :=
  (((layers.map (fun l => (l.1 + l.2 + 0x1FFFFF) / 0x200000 - l.1 / 0x200000)).mergeSort (fun a b => b ≤ a)).take w).sum

/-- STREAM_OPEN: a stream descriptor copied and its window fetched (R411, R412, R414). `far` gives the descriptor's lines
that stand on the drives. -/
def execStreamOpen (n : Fin 64) (object desc start window mode flags deadline : Nat) (far : List (Nat × Bytes)) (s : State) :
    Host.Outcome State Fault Refusal :=
  .next <| vendorCmd s n (fun s => objectCmd s n object (fun s r =>
    let ld := n.val
    let ten := rd s (Reg.HPT_LD_CFG_TENANT ld)
    match (if desc % 64 = 0 ∧ desc + 16 ≤ ldSegs s n * 0x200000 then readDescriptor s n desc (r.2 * 0x200000) far else none) with
    | none => vendorReply s n .badDescriptor []
    | some layers =>
      if window = 0 ∨ 64 < window ∨ layers.length < window ∨ layers.length ≤ start ∨ 1 < mode ∨ 1 < flags ∨ 64 < deadline then
        vendorReply s n .badDescriptor []
      else
        let mine := s.tier.streams.filter (fun t => t.ld = ld)
        match lowestFree (mine.map Stream.page) 64, lowestFree (s.tier.streams.map Stream.dev) 1024 with
        | some page, some dev =>
          if !fitsQuota (quota s ten 1) (tenantT1 s ten + windowReserve layers window) then vendorReply s n .quota []
          else
            let sid := s.tier.nextStream % 65536
            let dl := if deadline = 0 then rd s Reg.TIR_CTRL_DEADLINE else deadline
            let t : Stream := { id := sid, ld := ld, page := page, dev := dev, obj := object, layers := layers, window := window,
                                lastTouch := mode == 1, loop := flags == 1, deadline := msec dl, oldest := start,
                                fetched := start + window - 1 }
            let s1 := { s with tier := { s.tier with streams := s.tier.streams ++ [t], nextStream := s.tier.nextStream + 1 } }
            let s2 := (windowLayers t).foldl (fun x k => fetchLayer x t k (if k = start then 1 else 3)) s1
            vendorReply s2 n .ok (le 1 page ++ le 2 sid ++ le 2 dev)
        | _, _ => vendorReply s n .quota []))

/-- A stream closed (R412): its held reads go on as demand loads. -/
def streamEnd (s : State) (id : Nat) : State :=
  { s with
    tier := { s.tier with streams := s.tier.streams.filter (fun t => t.id ≠ id) }
    host := { s.host with
    reads := s.host.reads.map (fun (h : HeldRead) =>
      if h.wait = .stream id then { h with wait := .load } else h) } }

/-- STREAM_CLOSE: a stream of the LD's tenant ended (R412). -/
def execStreamClose (n : Fin 64) (id : Nat) (s : State) : Host.Outcome State Fault Refusal :=
  .next <| vendorCmd s n (fun s =>
    match s.tier.streams.find? (fun t => t.id = id) with
    | none => vendorReply s n .badDescriptor []
    | some t =>
      if rd s (Reg.HPT_LD_CFG_TENANT n) = rd s (Reg.HPT_LD_CFG_TENANT t.ld) then vendorReply (streamEnd s id) n .ok []
      else vendorReply s n .access [])

/-- LAYER_DONE: a write to a slot of the LD's stream page (R413, R414): window layers complete; a layer outside the window, a
free slot or other bits set are host violation cause 3. -/
def execLayerDone (n : Fin 64) (slot : Fin 64) (word : Nat) (s : State) : Host.Outcome State Fault Refusal :=
  .next <|
    match s.tier.streams.find? (fun t => t.ld = n.val ∧ t.page = slot.val) with
    | none => hostViolation s (ldPort s n) (some n) 3
    | some t =>
      if 65536 ≤ word ∨ !(windowLayers t).contains word then hostViolation s (ldPort s n) (some n) 3
      else if t.lastTouch then s
      else completeLayers s t word

/-- The held reads of a home line of a kind, answered with what the line reads as now: poison while its segment is not
resident. -/
def poisonHeld (s : State) (p : HeldRead → Bool) : State :=
  let rs := s.host.reads.filter p
  let s1 := { s with host := { s.host with reads := s.host.reads.filter (fun r => !p r) } }
  rs.foldl (fun t r => answerRead t r.who r.line (List.replicate 64 0) true) s1

/-- STREAM_DEADLINE: a read held for a stream layer is still held at its deadline: it returns poison, and the fetch goes on
(R415). -/
def execStreamDeadline (line : Nat) (s : State) : Host.Outcome State Fault Refusal :=
  .next <|
    let p := fun (h : HeldRead) => h.line = line && (match h.wait with | .stream _ => true | _ => false)
    if s.host.reads.any p then
      record (setF (bump (poisonHeld s p) Reg.TIR_ERR_DEADLINE (s.host.reads.filter p).length) Reg.TIR_EVENTS_DEADLINE)
        Ev.STREAM_DEADLINE 0xFF (le 8 line)
    else s

/-- LOAD_LATE: a read held for a demand load past the internal completion guard returns poison; the load goes on (R405). -/
def execLoadLate (line : Nat) (s : State) : Host.Outcome State Fault Refusal :=
  .next <|
    let p := fun (h : HeldRead) => h.line = line && h.wait = .load
    if s.host.reads.any p then
      fault (setF (bump (poisonHeld s p) Reg.TIR_ERR_LOAD_LATE (s.host.reads.filter p).length) Reg.TIR_EVENTS_LOAD_LATE)
        .tier Ev.LOAD_LATE 0xFF (le 8 line)
    else s

end Sys2Proof.Machine
end

