-- ==== Sys2Proof/Machine/CipherOps.lean ====
section
/-!
DEFINITION. Shared operations of the Buckle engine (spec/15): key slots and their references, cores, the scheduler.
-/
namespace Sys2Proof.Machine

/-! ### Key slots (R464, R468, R470) -/

/-- A key slot. -/
def keyOf (s : State) (k : Nat) : KeySlot := amGet s.bkl.slots k {}

/-- A key slot replaced; a FREE one has no entry. -/
def keyPut (s : State) (k : Nat) (v : KeySlot) : State :=
  bklSet s { s.bkl with slots := if v.st = .free then amErase s.bkl.slots k else amSet s.bkl.slots k v }

/-- The jobs that are admitted and have not ended. -/
def jobsOf (s : State) : List CJob := s.bkl.running.map Prod.snd ++ s.bkl.queued

/-- The references of a slot (R464, R468): its set, the connections that it is bound to, and the jobs that use it. -/
def keyRefs (s : State) (k : Nat) : Nat :=
  (if k < 8 ∧ (amGet s.awl.sets k {}).st ≠ .unused then 1 else 0) +
  (s.lat.conns.filter (fun c => c.2.sealed && (c.2.txKey == k || c.2.rxKey0 == k || c.2.rxKey1 == k))).length +
  ((jobsOf s).filter (fun j => j.slot == k)).length

/-- BROKEN GCM slots without references become FREE (R472). -/
def keySweep (s : State) : State :=
  bklSet s { s.bkl with slots := s.bkl.slots.filter (fun e => e.1 < 8 || !(e.2.st = .broken) || keyRefs s e.1 != 0) }

/-- The newer good copy of the key store (R470), if one is good. -/
def keyStore (s : State) : Option KeyCopy :=
  let a := s.bkl.storeA
  let b := s.bkl.storeB
  if a.good && b.good then some (if b.gen ≤ a.gen then a else b)
  else if a.good then some a
  else if b.good then some b
  else none

/-- The PERSIST keys written to the older copy of the key store with the next generation (R102, R470). -/
def keyStoreWrite (s : State) : State :=
  let ks := s.bkl.slots.filter (fun e => e.2.persist)
  let g := max s.bkl.storeA.gen s.bkl.storeB.gen + 1
  let c : KeyCopy := { gen := g, good := true, keys := ks }
  if !s.bkl.storeA.good || (s.bkl.storeB.good && decide (s.bkl.storeA.gen ≤ s.bkl.storeB.gen))
  then bklSet s { s.bkl with storeA := c } else bklSet s { s.bkl with storeB := c }

/-- Every PERSIST key reloaded into its own slot at step 8 (R470). -/
def keyReload (s : State) : State :=
  match keyStore s with
  | some c => bklSet s { s.bkl with slots := c.keys.foldl (fun m e => amSet m e.1 e.2) s.bkl.slots }
  | none => fault s .buckle Ev.KEY_STORE_CORRUPT 0xFF []

/-! ### Cores and the scheduler (R455 to R458, R474) -/

/-- The cores in service: those that passed their tests and are not disabled (R474). -/
def coresUp (s : State) : Nat := Nat.land s.bkl.coresOk (0xFFFF - rd s Reg.BKL_CORE_DISABLE_CORES)

/-- A core is in service. -/
def coreUp (s : State) (c : Nat) : Bool := bit (coresUp s) c

/-- The lowest core in service without a job. -/
def freeCore (s : State) : Option Nat :=
  (List.range 16).find? (fun c => coreUp s c && (amFind s.bkl.running c).isNone)

/-- The weight of a class (BKL_WEIGHT; 0 is taken as 1). -/
def classWeight (s : State) (c : Nat) : Nat :=
  max 1 (match c with
    | 0 => rd s Reg.BKL_WEIGHT_DW
    | 1 => rd s Reg.BKL_WEIGHT_DR
    | 2 => rd s Reg.BKL_WEIGHT_RX
    | _ => rd s Reg.BKL_WEIGHT_TX)

/-- The queue of a class. -/
def classQueue (s : State) (c : Nat) : List CJob := s.bkl.queued.filter (fun j => j.cls == c)

/-- The rounds of the deficit round robin until a class may start its first job. -/
def roundsFor (s : State) (c : Nat) : Option Nat :=
  match classQueue s c with
  | j :: _ => some ((j.cost - amGet s.bkl.deficit c 0 + classWeight s c - 1) / classWeight s c)
  | [] => none

/-- The classes in the order of the round robin. -/
def classOrder (s : State) : List Nat := [0, 1, 2, 3].map (fun k => (s.bkl.turn + k) % 4)

/-- The class that starts the next job and the rounds that pass until then (R457). -/
def nextClass (s : State) : Option (Nat × Nat) :=
  ((classOrder s).filterMap (fun c => (roundsFor s c).map (fun r => (c, r)))).foldl
    (fun (b : Option (Nat × Nat)) x => match b with | none => some x | some y => if x.2 < y.2 then some x else some y) none

/-- The first job of a class taken from the list of queued jobs. -/
def dropJob (js : List CJob) (c : Nat) : List CJob :=
  match js with
  | [] => []
  | j :: r => if j.cls == c then r else j :: dropJob r c

/-- Jobs of requesters that wait enter their queues where an entry is free (R456). -/
def admitWaiting (s : State) : State :=
  s.bkl.waiting.foldl (fun t j =>
    if (classQueue t j.cls).length < 1024 ∧ !(t.bkl.waiting.any (fun w => w.tag != j.tag && w.cls == j.cls &&
        decide (w.tag < j.tag)))
    then bklSet t { t.bkl with queued := t.bkl.queued ++ [j], waiting := t.bkl.waiting.filter (fun w => w.tag ≠ j.tag) }
    else t) s

/-- One job handed to a free core by deficit round robin (R457). -/
def scheduleOne (s : State) : State :=
  match freeCore s, nextClass s with
  | some core, some (c, r) =>
    match classQueue s c with
    | j :: _ =>
      let d := [0, 1, 2, 3].map (fun k =>
        (k, if (classQueue s k).isEmpty then 0
            else amGet s.bkl.deficit k 0 + r * classWeight s k - (if k = c then j.cost else 0)))
      let left := dropJob s.bkl.queued c
      admitWaiting (bklSet s { s.bkl with
        running := amSet s.bkl.running core j, queued := left, turn := c,
        deficit := d.filter (fun e => left.any (fun x => x.cls == e.1)) })
    | [] => s
  | _, _ => s

/-- Jobs handed to the cores until none is free or no job is queued. -/
def schedule (s : State) : State := (List.range 16).foldl (fun t _ => scheduleOne t) s

/-- A core out of service (R474): its job is reissued on another core; with no core left every job ends with INTERNAL. -/
def coreOut (s : State) (c : Nat) : State :=
  let s1 := wr (bklSet s { s.bkl with coresOk := setBit s.bkl.coresOk c false }) Reg.BKL_CORE_DISABLE_CORES
    (setBit (rd s Reg.BKL_CORE_DISABLE_CORES) c true)
  let s2 := setF s1 Reg.BKL_EVENTS_CORE_ISOLATED
  let s3 := match amFind s2.bkl.running c with
    | some j => bklSet s2 { s2.bkl with running := amErase s2.bkl.running c, queued := j :: s2.bkl.queued }
    | none => s2
  if coresUp s3 = 0 then jobsEnd s3 (fun _ => true) true .internal else schedule s3

/-- A core isolated (R474): it leaves service at S2. -/
def coreIsolate (s : State) (c : Nat) : State := fault (coreOut s c) (.core c) Ev.CORE_ISOLATED c []

/-- The cost of a job in blocks (R455). -/
def jobCost (cls len aad : Nat) : Nat := if cls < 2 then len / 16 + 1 else (len + 15) / 16 + (aad + 15) / 16 + 2

/-- The limits of a job (R463): an XTS job has the size of its data unit, a GCM job at most 4,096 payload bytes and 12 to 64
bytes of additional data. -/
def jobInLimits (cls du len aad : Nat) : Bool :=
  if cls < 2 then decide (512 ≤ du) && decide (du ≤ 65536) && du % 16 == 0 && len == du
  else decide (len ≤ 4096) && decide (12 ≤ aad) && decide (aad ≤ 64)

end Sys2Proof.Machine
end

