-- ==== Sys2Proof/Machine/Latigo.lean ====
section
/-!
DEFINITION. The meanings of the Latigo engine's commands, queues and packets (spec/14, R421 to R449, R454).
-/
namespace Sys2Proof.Machine

/-! ### Command slots (R424, R425) -/

/-- The tenant of an LD. -/
def tenantOf (s : State) (n : Nat) : Nat := rd s (Reg.HPT_LD_CFG_TENANT n)

/-- The issuer may name a tenant (R424, R425): on the CXL route only its own. -/
def mayName (s : State) (who : Issuer) (ten : Nat) : Bool :=
  match who with
  | .cxl n => tenantOf s n == ten
  | .mgmt => true

/-- A Latigo command run in a slot (R424): on the CXL route an LD may use only its own slot; before READY and while the engine is
not ENABLED it is refused. The command gives its status, output and state. -/
def latCmd (s : State) (who : Issuer) (slot tag : Nat) (run : State → Status × (Bytes × State)) : State :=
  let own := match who with | .cxl n => n.val == slot | .mgmt => decide (64 ≤ slot)
  if !own then emit s (.latDone slot .access [])
  else if s.boot.mode = .compat then latResult s slot tag .functionDisabled []
  else if !s.boot.ready then latResult s slot tag .notReady []
  else if !fnOpen s .lat then latResult s slot tag .functionDisabled []
  else
    let r := run s
    latResult r.2.2 slot tag r.1 r.2.1

/-- A refusal by a command. -/
def no (s : State) (st : Status) : Status × (Bytes × State) := (st, ([], s))

/-- The lowest number below a bound that a map has no entry for. -/
def freeKey {α : Type} (m : List (Nat × α)) (bound : Nat) : Option Nat := lowestFree (m.map Prod.fst) bound

/-- PD_ALLOC: a protection domain for a tenant (R424, R425). -/
def execPdAlloc (who : Issuer) (slot : Fin 128) (tag tenant : Nat) (s : State) : Host.Outcome State Fault Refusal :=
  .next <| latCmd s who slot tag (fun s =>
    if !mayName s who tenant then no s .access
    else match freeKey s.lat.pds 4096 with
      | none => no s .quota
      | some pd => (.ok, (le 2 pd, latSet s { s.lat with pds := amSet s.lat.pds pd tenant })))

/-- PD_FREE: a protection domain freed (R424); one that a connection or region still uses is busy. -/
def execPdFree (who : Issuer) (slot : Fin 128) (tag pd : Nat) (s : State) : Host.Outcome State Fault Refusal :=
  .next <| latCmd s who slot tag (fun s =>
    match amFind s.lat.pds pd with
    | none => no s .badDescriptor
    | some ten =>
      if !mayName s who ten then no s .access
      else if s.lat.conns.any (fun c => c.2.pd == pd) || s.lat.regions.any (fun r => r.2.pd == pd && !(r.2.st = .free)) then
        no s .busyRetry
      else (.ok, ([], latSet s { s.lat with pds := amErase s.lat.pds pd })))

/-- A power of two between two bounds. -/
def pow2In (n lo hi : Nat) : Bool := decide (lo ≤ n) && decide (n ≤ hi) && (List.range 32).any (fun k => 2 ^ k == n)

/-- A stretch of bytes lies in an LD's DPA range. -/
def inRange (s : State) (n dpa len : Nat) : Bool := decide (n < 64) && decide (dpa + len ≤ ldSegs s n * 0x200000)

/-- A doorbell slot of an LD's queue page that neither a connection nor a CQ uses (R429). -/
def queueSlotFree (s : State) (n slot : Nat) : Bool :=
  decide (slot < 256) && s.lat.conns.all (fun c => !(c.2.owner == n && c.2.slot == slot && (c.2.sq.entries != 0 || c.2.rq.entries != 0))) &&
  s.lat.cqs.all (fun q => !(q.2.ld == n && q.2.slot == slot))

/-- CQ_CREATE: a completion queue of an LD (R424). -/
def execCqCreate (who : Issuer) (slot : Fin 128) (tag owner dpa entries qslot : Nat) (s : State) :
    Host.Outcome State Fault Refusal :=
  .next <| latCmd s who slot tag (fun s =>
    if !pow2In entries 64 65536 || !inRange s owner dpa (32 * entries) || !queueSlotFree s owner qslot then no s .badDescriptor
    else if !mayName s who (tenantOf s owner) then no s .access
    else match freeKey s.lat.cqs 16384 with
      | none => no s .quota
      | some q => (.ok, (le 2 q, latSet s { s.lat with
          cqs := amSet s.lat.cqs q { ld := owner, dpa := dpa, entries := entries, slot := qslot } })))

/-- CQ_DESTROY: a completion queue that no connection completes into and no WAIT names (R432). -/
def execCqDestroy (who : Issuer) (slot : Fin 128) (tag cq : Nat) (s : State) : Host.Outcome State Fault Refusal :=
  .next <| latCmd s who slot tag (fun s =>
    match amFind s.lat.cqs cq with
    | none => no s .badDescriptor
    | some q =>
      if !mayName s who (tenantOf s q.ld) then no s .access
      else if s.lat.conns.any (fun c => (c.2.sq.entries != 0 && c.2.sqCq == cq) || (c.2.rq.entries != 0 && c.2.rqCq == cq) ||
          c.2.wqes.any (fun w => w.op == 6 && w.status.isNone && w.operand % 2 ^ 32 == cq)) then no s .busyRetry
      else (.ok, ([], latSet s { s.lat with cqs := amErase s.lat.cqs cq })))

/-! ### Connections (R425 to R427, R437, R438, R449) -/

/-- Connections whose context is resident or being fetched. -/
def residents (s : State) : Nat := (s.lat.conns.filter (fun c => c.2.res ≠ .evicted)).length

/-- Cells of the parking buffer for one packet (R438). -/
def cellsPer (mtu : Nat) : Nat := (mtu + 128 + 255) / 256

/-- Cells reserved for evicted connections (R438). -/
def reservedCells (s : State) : Nat := (s.lat.conns.map (fun c => c.2.reserved)).sum

/-- The reservation that an eviction needs (R435, R438). -/
def reservation (s : State) (c : Conn) : Nat := if s.time < c.grantHeld then c.grant * cellsPer c.mtu else 0

/-- The eviction of candidates tried in order of age (R438): the first whose reservation the region takes is evicted; each one
refused writes record 0xB006. -/
def evictFrom (s : State) (ids : List Nat) : State :=
  match ids with
  | [] => s
  | id :: r =>
    match connFind s id with
    | none => evictFrom s r
    | some c =>
      let k := reservation s c
      if reservedCells s + k ≤ rd s Reg.LAT_PARK_CFG_RESERVE then connPut s id { c with res := .evicted, reserved := k }
      else evictFrom (record (setF (bump s Reg.LAT_STAT_EVICT_REFUSED 1) Reg.LAT_EVENTS_EVICT_REFUSED) Ev.EVICT_REFUSED 0xFF
        (le 2 id)) r

/-- The eviction candidates, the longest idle first (R438). -/
def candidates (s : State) : List Nat :=
  ((s.lat.conns.filter (fun c => evictable s c.2)).mergeSort (fun a b => a.2.lastPacket ≤ b.2.lastPacket)).map Prod.fst

/-- CONTEXT_EVICT: the engine evicts its oldest candidate to keep EVICT_SLACK resident slots free (R437, R438). -/
def execContextEvict (s : State) : Host.Outcome State Fault Refusal :=
  .next (if 4096 < residents s + rd s Reg.LAT_EVICT_SLACK then evictFrom s (candidates s) else s)

/-- A key slot belongs to a tenant other than that of a connection's owner. -/
def keyForeign (s : State) (ten k : Nat) : Bool :=
  match amFind s.bkl.slots k with
  | some x => x.tenant != ten
  | none => false

/-- The fields of CONN_CREATE are in range and its queues lie in the owner's DPA range (R425, R426). -/
def connOk (s : State) (p : ConnParams) : Bool :=
  decide (p.owner < 64) && decide (p.port < 4) && [256, 512, 1024, 2048, 4096].contains p.mtu &&
  (p.sqEntries == 0 || (pow2In p.sqEntries 16 16384 && inRange s p.owner p.sqDpa (64 * p.sqEntries))) &&
  (p.rqEntries == 0 || (pow2In p.rqEntries 16 16384 && inRange s p.owner p.rqDpa (32 * p.rqEntries))) &&
  decide (p.txPsn < 2 ^ 24) && decide (p.rxPsn < 2 ^ 24) && decide (p.retry < 8) && decide (p.rnrRetry < 8) &&
  decide (8 ≤ p.ackTimeout) && decide (p.ackTimeout ≤ 20) && decide (p.creditMode < 2) && decide (p.sealed < 2) &&
  (amFind s.lat.pds p.pd).isSome && (p.sqEntries == 0 || (amFind s.lat.cqs p.sqCq).isSome) &&
  (p.rqEntries == 0 || (amFind s.lat.cqs p.rqCq).isSome) &&
  ((p.sqEntries == 0 && p.rqEntries == 0) || queueSlotFree s p.owner p.slot) &&
  (p.sealed == 0 || (decide (p.txKey < 8192) && decide (p.rxKey0 < 8192)))

/-- The PD, a CQ or a key slot of CONN_CREATE belongs to another tenant (R426). -/
def connForeign (s : State) (p : ConnParams) : Bool :=
  let ten := tenantOf s p.owner
  amFind s.lat.pds p.pd ≠ some ten ||
  (p.sqEntries != 0 && ((amFind s.lat.cqs p.sqCq).map (fun q => tenantOf s q.ld)) ≠ some ten) ||
  (p.rqEntries != 0 && ((amFind s.lat.cqs p.rqCq).map (fun q => tenantOf s q.ld)) ≠ some ten) ||
  (p.sealed == 1 && (keyForeign s ten p.txKey || keyForeign s ten p.rxKey0 || keyForeign s ten p.rxKey1))

/-- A new connection (R425, R426): resident, in RTS. A local queue pair number is the connection ID with bit 16 set. -/
def newConn (p : ConnParams) (id now : Nat) : Conn := {
  qpn := 0x10000 + id, owner := p.owner, pd := p.pd, port := p.port, src := p.src, peer := p.peer,
  peerQpn := p.peerQpn, mtu := p.mtu, sq := { dpa := p.sqDpa, entries := p.sqEntries },
  rq := { dpa := p.rqDpa, entries := p.rqEntries }, sqCq := p.sqCq, rqCq := p.rqCq, slot := p.slot,
  txPsn := p.txPsn, rxPsn := p.rxPsn, retry := p.retry, rnrRetry := p.rnrRetry, ackTimeout := p.ackTimeout,
  standard := p.creditMode == 1, sealed := p.sealed == 1, txKey := p.txKey, txSalt := p.txSalt, txCtr := p.txCtr,
  rxKey0 := p.rxKey0, rxKey1 := p.rxKey1, lastPacket := now }

/-- CONN_CREATE: a resident connection in RTS (R425, R426). -/
def execConnCreate (who : Issuer) (slot : Fin 128) (tag : Nat) (p : ConnParams) (s : State) :
    Host.Outcome State Fault Refusal :=
  .next <| latCmd s who slot tag (fun s =>
    if !connOk s p then no s .badDescriptor
    else if !mayName s who (tenantOf s p.owner) || connForeign s p then no s .access
    else if contained s (.peer p.peer) then no s .partnerViolation
    else if p.creditMode = 1 ∧ odNum s 0x700107 2 1024 ≤ (s.lat.conns.filter (fun c => c.2.standard)).length then no s .quota
    else
      let s1 := if residents s < 4096 then s else evictFrom s (candidates s)
      match freeKey s1.lat.conns 65536 with
      | none => no s1 .quota
      | some id =>
        if 4096 ≤ residents s1 then no s1 .quota
        else
          (.ok, (le 2 id ++ le 3 (newConn p id s.time).qpn, connPut s1 id (newConn p id s.time))))

/-- A command on a connection (R424, R427): an unknown one, then one of another tenant's LD. -/
def connCmd (s : State) (who : Issuer) (id : Nat) (run : State → Conn → Status × (Bytes × State)) : Status × (Bytes × State) :=
  match connFind s id with
  | none => no s .badDescriptor
  | some c => if mayName s who (tenantOf s c.owner) then run s c else no s .access

/-- CONN_MODIFY_ERROR: the connection enters ERROR (R427). -/
def execConnModifyError (who : Issuer) (slot : Fin 128) (tag id : Nat) (s : State) : Host.Outcome State Fault Refusal :=
  .next <| latCmd s who slot tag (fun s => connCmd s who id (fun s _ => (.ok, ([], connError s id))))

/-- CONN_MODIFY_TX_KEY: a new transmit key and salt, and the key phase flips (R449). -/
def execConnModifyTxKey (who : Issuer) (slot : Fin 128) (tag id key salt : Nat) (s : State) : Host.Outcome State Fault Refusal :=
  .next <| latCmd s who slot tag (fun s => connCmd s who id (fun s c =>
    if 8192 ≤ key then no s .badDescriptor
    else if keyForeign s (tenantOf s c.owner) key then no s .access
    else (.ok, ([], connPut s id { c with txKey := key, txSalt := salt, keyPhase := 1 - c.keyPhase }))))

/-- CONN_MODIFY_RX_KEY: the receive key of one key phase (R449). -/
def execConnModifyRxKey (who : Issuer) (slot : Fin 128) (tag id phase key : Nat) (s : State) : Host.Outcome State Fault Refusal :=
  .next <| latCmd s who slot tag (fun s => connCmd s who id (fun s c =>
    if 8192 ≤ key ∨ 1 < phase then no s .badDescriptor
    else if keyForeign s (tenantOf s c.owner) key then no s .access
    else (.ok, ([], connPut s id (if phase = 0 then { c with rxKey0 := key } else { c with rxKey1 := key })))))

/-- CONN_DESTROY: a connection in ERROR is destroyed; in any other state it is busy (R427). -/
def execConnDestroy (who : Issuer) (slot : Fin 128) (tag id : Nat) (s : State) : Host.Outcome State Fault Refusal :=
  .next <| latCmd s who slot tag (fun s => connCmd s who id (fun s c =>
    if c.st = .error then (.ok, ([], keySweep (latSet s { s.lat with conns := amErase s.lat.conns id }))) else no s .busyRetry))

/-! ### Regions (R441, R445, R446) -/

/-- REGION_REGISTER: a region of an LD; its rkey is the index below its generation (R424, R441). -/
def execRegionRegister (who : Issuer) (slot : Fin 128) (tag owner pd base len acc : Nat) (s : State) :
    Host.Outcome State Fault Refusal :=
  .next <| latCmd s who slot tag (fun s =>
    if len = 0 ∨ 2 ^ 40 < len ∨ 8 ≤ acc ∨ !inRange s owner base len ∨ (amFind s.lat.pds pd).isNone then no s .badDescriptor
    else if !mayName s who (tenantOf s owner) ∨ amFind s.lat.pds pd ≠ some (tenantOf s owner) then no s .access
    else
      let used := (s.lat.regions.filter (fun r => r.2.st ≠ .free)).map Prod.fst
      match lowestFree used 262144 with
      | none => no s .quota
      | some k =>
        let gen := match regionFind s k with | some r => (r.gen + 1) % 2 ^ 14 | none => 0
        (.ok, (le 4 (k + 2 ^ 18 * gen), regionPut s k {
          gen := gen, st := .valid, pd := pd, owner := owner, base := base,
          len := len, acc := acc })))

/-- REGION_REVOKE: the region is DRAINING until its messages end, and then FREE (R445): at once where none counts. -/
def execRegionRevoke (who : Issuer) (slot : Fin 128) (tag rkey : Nat) (s : State) : Host.Outcome State Fault Refusal :=
  let k := rkey % 2 ^ 18
  .next <|
    match regionFind s k with
    | some r =>
      if r.st = .valid ∧ r.gen = rkey / 2 ^ 18 ∧ r.inflight ≠ 0 ∧ s.boot.ready ∧ fnOpen s .lat ∧ s.boot.mode ≠ .compat ∧
          mayName s who (tenantOf s r.owner) ∧ (match who with | .cxl n => n.val == slot.val | .mgmt => decide (64 ≤ slot.val)) = true then
        regionPut s k { r with st := .draining, revoker := some (slot.val, tag) }
      else latCmd s who slot tag (fun s =>
        if !mayName s who (tenantOf s r.owner) then no s .access
        else if r.st ≠ .valid ∨ r.gen ≠ rkey / 2 ^ 18 then no s .keyRevoked
        else (.ok, ([], regionPut s k { r with st := .free })))
    | none => latCmd s who slot tag (fun s => no s .keyRevoked)

/-- REVOKE_FORCED: messages still count after REVOKE_GUARD (R446): they are refused, their connections enter ERROR, and the region
becomes FREE. -/
def execRevokeForced (k : Nat) (s : State) : Host.Outcome State Fault Refusal :=
  .next <|
    match regionFind s k with
    | some r =>
      if r.st ≠ .draining then s
      else
        let cs := (s.lat.conns.filter (fun c => c.2.msgs.any (fun m => m.region = some k))).map Prod.fst
        let s1 := cs.foldl (fun t id =>
          connError (emit (bump t Reg.LAT_STAT_NAK_ACCESS 1) (.roce id (.nak ((connFind t id).map Conn.rxPsn |>.getD 0) .access))) id) s
        let s2 := match regionFind s1 k with
          | some r1 => if r1.st = .draining then
              (match r1.revoker with | some (a, b) => latResult (regionPut s1 k { r1 with st := .free, inflight := 0, revoker := none }) a b .ok []
                                     | none => regionPut s1 k { r1 with st := .free, inflight := 0 })
            else s1
          | none => s1
        fault (setF s2 Reg.LAT_EVENTS_REVOKE_FORCED) .latigo Ev.REVOKE_FORCED 0xFF (le 4 k)
    | none => s

/-! ### Queues and doorbells (R429 to R433, R440) -/

/-- A connection whose context is not resident is fetched (R440). -/
def fetchContext (s : State) (id : Nat) : State :=
  match connFind s id with
  | some c => if c.res = .evicted then connPut s id { c with res := .fetching } else s
  | none => s

/-- The connection that a queue slot of an LD serves. -/
def slotConn (s : State) (n slot : Nat) : Option (Nat × Conn) :=
  s.lat.conns.find? (fun c => c.2.owner == n && c.2.slot == slot && (c.2.sq.entries != 0 || c.2.rq.entries != 0))

/-- SQ_TAIL: send queue entries published (R429, R430, R440). -/
def execSqTail (n : Fin 64) (qslot : Nat) (value : Word) (s : State) : Host.Outcome State Fault Refusal :=
  .next <|
    match slotConn s n qslot with
    | some (id, c) =>
      if c.sq.entries = 0 then hostViolation s (ldPort s n) (some n) 3
      else fetchContext (connPut s id { c with sq := { c.sq with tail := value.toNat } }) id
    | none => hostViolation s (ldPort s n) (some n) 3

/-- RQ_TAIL: receive queue entries published (R429, R430, R440). -/
def execRqTail (n : Fin 64) (qslot : Nat) (value : Word) (s : State) : Host.Outcome State Fault Refusal :=
  .next <|
    match slotConn s n qslot with
    | some (id, c) =>
      if c.rq.entries = 0 then hostViolation s (ldPort s n) (some n) 3
      else fetchContext (connPut s id { c with rq := { c.rq with tail := value.toNat } }) id
    | none => hostViolation s (ldPort s n) (some n) 3

/-- CQ_HEAD: completion queue room freed (R429, R431). -/
def execCqHead (n : Fin 64) (qslot : Nat) (value : Word) (s : State) : Host.Outcome State Fault Refusal :=
  .next <|
    match s.lat.cqs.find? (fun q => q.2.ld = n.val ∧ q.2.slot = qslot) with
    | some (k, q) => latSet s { s.lat with cqs := amSet s.lat.cqs k { q with head := value.toNat } }
    | none => hostViolation s (ldPort s n) (some n) 3

/-- A send queue entry as its 64 bytes spell it; `none` where the opcode is unknown or a reserved byte is not zero. -/
def parseWqe (idx : Nat) (b : Bytes) : Option Wqe :=
  let f := fun a n => leNat ((b.drop a).take n)
  if 6 < f 0 1 ∨ f 2 2 ≠ 0 ∨ f 28 4 ≠ 0 ∨ f 56 8 ≠ 0 ∨ 4 ≤ f 1 1 then none
  else some { idx := idx, op := f 0 1, flags := f 1 1, len := f 4 4, loc := f 8 8, remote := f 16 8, rkey := f 24 4,
              operand := f 32 8, swap := f 40 8, wrId := f 48 8 }

/-- The send queue entry that starts next, as read through the host read path (R430); `far` gives its line where it stands on
the drives. -/
def nextWqe (s : State) (c : Conn) (far : Bytes) : Option Wqe :=
  let dpa := c.sq.dpa + 64 * (c.sq.next % max 1 c.sq.entries)
  parseWqe c.sq.next (dpaBytes s c.owner dpa 64 [(homeLine s c.owner dpa, far)])

/-- The completion queue of a queue is full, up to CQ_HEAD (R431). -/
def cqFull (s : State) (cq : Nat) : Bool :=
  match amFind s.lat.cqs cq with
  | some q => decide (q.entries ≤ (q.tail + 2 ^ 32 - q.head) % 2 ^ 32)
  | none => false

/-- The next send queue entry may start (R427, R431, R432): the connection is in RTS and resident, an entry is published, its
queue is not stalled, no WAIT is pending, and a FENCE finds every earlier READ and atomic complete. -/
def mayStart (s : State) (c : Conn) : Bool :=
  c.st = .rts && c.res = .resident && c.sq.entries != 0 && c.sq.next != c.sq.tail && !cqFull s c.sqCq &&
  c.wqes.all (fun w => !(w.op == 6 && w.status.isNone))

/-- Packets of a message (R421). -/
def packets (mtu len : Nat) : Nat := max 1 ((len + mtu - 1) / max 1 mtu)

/-- A send queue entry started: packet numbers taken (R448: each packet takes one counter value), the entry pending. -/
def wqeStart (s : State) (id : Nat) (c : Conn) (w : Wqe) (pk : Nat) (st : Option Status) : State :=
  let psn := (c.txPsn + pk - 1) % 2 ^ 24
  connPut s id { c with
    sq := { c.sq with next := (c.sq.next + 1) % 2 ^ 32 }, txPsn := (c.txPsn + pk) % 2 ^ 24,
    txCtr := if c.sealed then (c.txCtr + pk) % 2 ^ 64 else c.txCtr, lastPacket := if pk = 0 then c.lastPacket else s.time,
    wqes := c.wqes ++ [{ w with psn := psn, status := st }] }

/-- The lines of a local buffer read for a message (R20, R443). -/
def readBuffer (s : State) (id msg n dpa len : Nat) : State :=
  if len = 0 then s
  else (List.range ((dpa % 64 + len + 63) / 64)).foldl (fun t k =>
    readLine t (.latigo id msg k) (homeLine t n (dpa / 64 * 64 + 64 * k)) none) s

/-- The packet that an entry sends. -/
def wqePacket (w : Wqe) (psn : Nat) : Option RocePkt :=
  match w.op with
  | 1 => some (.write w.remote w.rkey w.len psn)
  | 2 => some (.read w.remote w.rkey w.len psn)
  | 3 => some (.send w.len psn)
  | 4 => some (.cas w.remote w.rkey w.operand w.swap psn)
  | 5 => some (.faa w.remote w.rkey w.operand psn)
  | _ => none

/-- The start of an entry of opcode `op` at the head of a connection's send queue (R430 to R433). An entry that is not of the
opcode leaves the state as it is, but for one that is no good, which ends with BAD_DESCRIPTOR. -/
def startWqe (s : State) (id op : Nat) (far : Bytes) : State :=
  match connFind s id with
  | none => s
  | some c =>
    if !mayStart s c then s
    else match nextWqe s c far with
      | none =>
        let dpa := c.sq.dpa + 64 * (c.sq.next % max 1 c.sq.entries)
        let b := dpaBytes s c.owner dpa 64 [(homeLine s c.owner dpa, far)]
        wqeError (wqeStart s id c {
          idx := c.sq.next, op := leNat (b.take 1), flags := 1, len := 0, loc := 0, remote := 0,
          rkey := 0, operand := 0, swap := 0, wrId := leNat ((b.drop 48).take 8) } 0 none) id c.sq.next .badDescriptor
      | some w =>
        let reads := c.wqes.filter (fun x => (x.op == 2 || x.op == 4 || x.op == 5) && x.status.isNone)
        if w.op ≠ op ∨ (bit w.flags 1 ∧ reads ≠ []) ∨ ((op = 2 ∨ op = 4 ∨ op = 5) ∧ 16 ≤ reads.length) then s
        else if op = 0 then wqeStart s id c w 0 (some .ok)
        else if op = 6 then
          let cnt := ((amFind s.lat.cqs (w.operand % 2 ^ 32)).map LCq.count).getD 0
          let d := (cnt + 2 ^ 32 - w.operand / 2 ^ 32 % 2 ^ 32) % 2 ^ 32
          wqeStart s id c w 0 (if (amFind s.lat.cqs (w.operand % 2 ^ 32)).isSome ∧ d < 2 ^ 31 then some .ok else none)
        else
          let pk := if op = 2 ∨ op = 1 ∨ op = 3 then packets c.mtu w.len else 1
          let bad : Option Status :=
            if (op = 4 ∨ op = 5) ∧ (w.loc % 8 ≠ 0 ∨ w.remote % 8 ≠ 0) then some .alignment
            else if (op = 4 ∨ op = 5) ∧ w.len ≠ 8 then some .badDescriptor
            else if 2 ^ 31 < w.len then some .badDescriptor
            else if !inRange s c.owner w.loc w.len then some .access
            else none
          match bad with
          | some st => wqeError (wqeStart s id c w 0 none) id w.idx st
          | none =>
            let s1 := wqeStart s id c w pk none
            let s2 := if op = 1 ∨ op = 3 then readBuffer s1 id w.idx c.owner w.loc w.len else s1
            match connFind s2 id, wqePacket w ((c.txPsn + pk - 1) % 2 ^ 24) with
            | some c2, some p =>
              if c2.st = .error then s2
              else emit (bump64 s2 (Reg.LAT_PORT_TX_LO_TX_LO c.port) (Reg.LAT_PORT_TX_HI_TX_HI c.port)
                (if op = 1 ∨ op = 3 then w.len else 0)) (.roce id p)
            | _, _ => s2

/-- WQE_NOP (R431). -/
def execWqeNop (id : Nat) (far : Bytes) (s : State) : Host.Outcome State Fault Refusal := .next (startWqe s id 0 far)
/-- WQE_WRITE (R431): an RDMA WRITE of a local buffer. -/
def execWqeWrite (id : Nat) (far : Bytes) (s : State) : Host.Outcome State Fault Refusal := .next (startWqe s id 1 far)
/-- WQE_READ (R431): an RDMA READ into a local buffer. -/
def execWqeRead (id : Nat) (far : Bytes) (s : State) : Host.Outcome State Fault Refusal := .next (startWqe s id 2 far)
/-- WQE_SEND (R431). -/
def execWqeSend (id : Nat) (far : Bytes) (s : State) : Host.Outcome State Fault Refusal := .next (startWqe s id 3 far)
/-- WQE_CAS (R431): compare and swap. -/
def execWqeCas (id : Nat) (far : Bytes) (s : State) : Host.Outcome State Fault Refusal := .next (startWqe s id 4 far)
/-- WQE_FAA (R431): fetch and add. -/
def execWqeFaa (id : Nat) (far : Bytes) (s : State) : Host.Outcome State Fault Refusal := .next (startWqe s id 5 far)
/-- WQE_WAIT: the send queue held until the count of a CQ reaches the target (R432). -/
def execWqeWait (id : Nat) (far : Bytes) (s : State) : Host.Outcome State Fault Refusal := .next (startWqe s id 6 far)

/-! ### Writes into the owner's memory (R431, R442, R444) -/

/-- Lines that a writer has yet to complete, counted up. -/
def leftAdd (s : State) (who : Writer) (k : Nat) : State :=
  if k = 0 then s
  else match s.host.left.find? (fun e => e.1 = who) with
    | some e => { s with host := { s.host with left := s.host.left.filter (fun x => x.1 ≠ who) ++ [(who, e.2 + k)] } }
    | none => { s with host := { s.host with left := s.host.left ++ [(who, k)] } }

/-- Bytes at an address as lines of partial bytes, first line first. -/
def splitLines (dpa : Nat) (data : Bytes) : List (Nat × PLine) :=
  let padded : PLine := List.replicate (dpa % 64) none ++ data.map some
  (List.range ((padded.length + 63) / 64)).map (fun k =>
    let l := (padded.drop (64 * k)).take 64
    (dpa / 64 * 64 + 64 * k, l ++ List.replicate (64 - l.length) none))

/-- Bytes written by an agent through the Welt path as host-path writes of an LD (R229, R442); `none` where the Welt has no room
for one of the lines. -/
def agentWrite (s : State) (who : Writer) (n dpa : Nat) (data : Bytes) : Option State :=
  let ls := if data = [] then [] else splitLines dpa data
  ls.foldl (fun (t : Option State) l => t.bind (fun u =>
    acceptWrite u who n (homeLine u n l.1) l.2 (completePair u n (l.1 / 0x200000)) true)) (some (leftAdd s who ls.length))

/-- WAITs at the head of send queues that the count of a CQ now satisfies (R432). -/
def releaseWaits (s : State) (cq : Nat) : State :=
  let cnt := ((amFind s.lat.cqs cq).map LCq.count).getD 0
  latSet s { s.lat with
  conns := s.lat.conns.map (fun (x : Nat × Conn) => (x.1, { x.2 with
  wqes := x.2.wqes.map (fun w =>
    if w.op = 6 ∧ w.status.isNone ∧ w.operand % 2 ^ 32 = cq ∧
        (cnt + 2 ^ 32 - w.operand / 2 ^ 32 % 2 ^ 32) % 2 ^ 32 < 2 ^ 31 then { w with status := some .ok } else w) })) }

/-- A completion queue entry written (R431, R432): through the Welt path, the count one higher. `none` where the CQ or the Welt
has no room. -/
def writeCqe (s : State) (cq conn wrId op len idx queue : Nat) (st : Status) : Option State :=
  match amFind s.lat.cqs cq with
  | none => some s
  | some q =>
    if cqFull s cq then none
    else
      let b := le 8 wrId ++ le 1 (statusCode st) ++ le 1 op ++ le 2 conn ++ le 4 len ++ le 4 idx ++ le 1 queue ++
        List.replicate 10 0 ++ le 1 (1 - q.tail / q.entries % 2)
      (agentWrite s (.latigo conn (2 ^ 40)) q.ld (q.dpa + 32 * (q.tail % q.entries)) b).map (fun t =>
        releaseWaits (latSet t { t.lat with
        cqs := amSet t.lat.cqs cq
          { q with tail := (q.tail + 1) % 2 ^ 32, count := (q.count + 1) % 2 ^ 32 } }) cq)

/-- The entry that ends with ABORTED though it never started (R427): its WR_ID is read from the queue. -/
def unstarted (s : State) (c : Conn) (far : Bytes) : Option Wqe :=
  if c.st = .error ∧ c.sq.entries ≠ 0 ∧ c.sq.next ≠ c.sq.tail then
    let dpa := c.sq.dpa + 64 * (c.sq.next % max 1 c.sq.entries)
    let b := dpaBytes s c.owner dpa 64 [(homeLine s c.owner dpa, far)]
    some { idx := c.sq.next, op := leNat (b.take 1), flags := 1, len := 0, loc := 0, remote := 0, rkey := 0, operand := 0, swap := 0,
           wrId := leNat ((b.drop 48).take 8), status := some .aborted }
  else none

/-- The receive entry that completes next: one that has ended, or, in ERROR, the next pending one with ABORTED (R427). -/
def nextRq (s : State) (c : Conn) (far : Bytes) : Option RqDone :=
  match c.rqDone with
  | d :: _ => some d
  | [] =>
    if c.st = .error ∧ c.rq.entries ≠ 0 ∧ c.rq.head ≠ c.rq.tail then
      let dpa := c.rq.dpa + 32 * (c.rq.head % max 1 c.rq.entries)
      let b := dpaBytes s c.owner dpa 32 [(homeLine s c.owner dpa, far)]
      some ⟨c.rq.head, leNat ((b.drop 16).take 8), 0, .aborted⟩
    else none

/-- CQE_WRITE: the oldest entry of a connection's send or receive queue that has ended completes in order, with a CQE when it is
SIGNALED, received, or in error, once its data writes have completed (R431). -/
def execCqeWrite (id : Nat) (rq : Bool) (far : Bytes) (s : State) : Host.Outcome State Fault Refusal :=
  .next <|
    match connFind s id with
    | none => s
    | some c =>
      if rq then
        match nextRq s c far with
        | none => s
        | some d =>
          (writeCqe (connPut s id { c with rqDone := c.rqDone.drop 1, rq := if c.rqDone = [] then { c.rq with head := (c.rq.head + 1) % 2 ^ 32 } else c.rq })
            c.rqCq id d.wrId 7 d.len d.idx 1 d.status).getD s
      else match c.wqes.head? <|> unstarted s c far with
        | none => s
        | some w =>
          match w.status with
          | none => s
          | some st =>
            if s.host.left.any (fun e => e.1 = .latigo id w.idx) then s
            else
              let s1 := connPut s id { c with
                wqes := c.wqes.drop 1, sq := { c.sq with next := if c.wqes = [] then (c.sq.next + 1) % 2 ^ 32 else c.sq.next,
                                                         head := (c.sq.head + 1) % 2 ^ 32 } }
              if st = .ok ∧ !bit w.flags 0 then s1
              else (writeCqe s1 c.sqCq id w.wrId w.op (if st = .ok then w.len else 0) w.idx 0 st).getD s

/-! ### Answers of peers (R423, R427, R428, R433) -/

/-- ROCE_ACK_RECEIVED: an ACK or response of a peer: every entry sent up to its packet number that needs no data completes, and a
READ or atomic takes its data through the Welt path (R428, R431). -/
def execRoceAckReceived (id psn : Nat) (data : Bytes) (s : State) : Host.Outcome State Fault Refusal :=
  .next <|
    match connFind s id with
    | none => s
    | some c =>
      if c.st = .error then s
      else
        let upto := fun (w : Wqe) => decide ((psn + 2 ^ 24 - w.psn) % 2 ^ 24 < 2 ^ 23)
        let c1 := { c with
          retries := 0, rnrs := 0, lastPacket := s.time,
          wqes := c.wqes.map (fun w =>
            if w.status.isNone ∧ (w.op = 1 ∨ w.op = 3) ∧ upto w then { w with status := some .ok } else w) }
        let s1 := bump64 (connPut s id c1) (Reg.LAT_PORT_RX_LO_RX_LO c.port) (Reg.LAT_PORT_RX_HI_RX_HI c.port) data.length
        match c1.wqes.find? (fun w => w.status.isNone && (w.op == 2 || w.op == 4 || w.op == 5) && w.psn == psn) with
        | none => s1
        | some w =>
          let s2 := connPut s1 id { c1 with wqes := c1.wqes.map (fun x => if x.idx = w.idx then { x with status := some .ok } else x) }
          (agentWrite s2 (.latigo id w.idx) c.owner w.loc (data.take w.len)).getD s

/-- A connection whose retries are exhausted (R427, R433). -/
def retriesOut (s : State) (id idx : Nat) : State := wqeError (record s Ev.RETRY_EXHAUSTED 0xFF (le 2 id)) id idx .timeout

/-- The oldest entry of a connection that awaits an answer. -/
def oldestPending (c : Conn) : Option Wqe := c.wqes.find? (fun w => w.status.isNone && w.op != 6)

/-- The packets of an entry sent again: one counter value each (R448). -/
def resend (s : State) (id : Nat) (c : Conn) (w : Wqe) : State :=
  match wqePacket w w.psn with
  | some p => emit (connPut s id { c with
      txCtr := if c.sealed then (c.txCtr + (if w.op = 1 ∨ w.op = 3 then packets c.mtu w.len else 1)) % 2 ^ 64 else c.txCtr
      lastPacket := s.time }) (.roce id p)
  | none => s

/-- ROCE_NAK_RECEIVED: a peer's NAK ends the entry with its status and the connection enters ERROR; RNR is retried, and a
sequence error sends again (R427, R433). -/
def execRoceNakReceived (id : Nat) (kind : NakKind) (s : State) : Host.Outcome State Fault Refusal :=
  .next <|
    match connFind s id with
    | none => s
    | some c =>
      match oldestPending c with
      | none => s
      | some w =>
        if c.st = .error then s
        else match kind with
          | .access => wqeError s id w.idx .access
          | .operational => wqeError s id w.idx .mediaPoison
          | .invalid => wqeError s id w.idx .partnerViolation
          | .rnr => if c.rnrRetry ≤ c.rnrs then retriesOut s id w.idx else resend s id { c with rnrs := c.rnrs + 1 } w
          | .sequence => resend s id c w

/-- ROCE_ACK_TIMEOUT: the local ACK timeout expires: the oldest packet is sent again, or the retries are exhausted (R427). -/
def execRoceAckTimeout (id : Nat) (s : State) : Host.Outcome State Fault Refusal :=
  .next <|
    match connFind s id with
    | none => s
    | some c =>
      match oldestPending c with
      | none => s
      | some w => if c.st = .error then s
        else if c.retry ≤ c.retries then retriesOut s id w.idx
        else resend s id { c with retries := c.retries + 1 } w

/-- CNP_RECEIVED: the connection's transmit rate is halved, down to 1 Gb/s (R423). -/
def execCnpReceived (id : Nat) (s : State) : Host.Outcome State Fault Refusal :=
  .next <|
    match connFind s id with
    | none => s
    | some c => connPut (bump s (Reg.LAT_PORT_ERR_CNP_RX c.port) 1) id { c with rate := max 1 (c.rate / 2) }

/-- CNP_RATE_RECOVERY: 100 µs without a CNP raise the rate by 5 Gb/s, up to line rate (R423). -/
def execCnpRateRecovery (id : Nat) (s : State) : Host.Outcome State Fault Refusal :=
  .next <|
    match connFind s id with
    | none => s
    | some c => connPut s id { c with rate := min 400 (c.rate + 5) }

/-! ### Requests of peers (R434 to R449, R454) -/

/-- A violation by a peer counted (R454), with containment above PEER_VIOL_LIMIT. -/
def peerViolation (s : State) (addr cause : Nat) : State :=
  let lim := odNum s 0x700109 2 256
  let s1 := wr (bump s Reg.LAT_VIOL_COUNT 1) Reg.LAT_VIOL_LAST_CAUSE cause
  let s2 := countViolation s1 (.peer addr) lim
  if overLimit s1 (.peer addr) lim then record (setF s2 Reg.LAT_EVENTS_CONTAINED) Ev.PEER_CONTAINED 0xFF (le 4 addr) else s2

/-- A violation answered with NAK Invalid Request, which ends the connection; a contained peer gets no answer (R454). -/
def invalidRequest (s : State) (id : Nat) (p : RxPkt) (cause : Nat) : State :=
  if contained s (.peer p.src) then peerViolation s p.src cause
  else connError (emit (peerViolation s p.src cause) (.roce id (.nak p.psn .invalid))) id

/-- A request refused with NAK Remote Access Error (R441). -/
def refuseAccess (s : State) (id : Nat) (p : RxPkt) : State :=
  connError (emit (bump s Reg.LAT_STAT_NAK_ACCESS 1) (.roce id (.nak p.psn .access))) id

/-- The region that serves a request (R441): VALID, of the connection's PD, granting the access, holding the whole range, and its
owner ENABLED. -/
def regionFor (s : State) (c : Conn) (p : RxPkt) : Option (Nat × Region) :=
  let k := p.rkey % 2 ^ 18
  match regionFind s k with
  | none => none
  | some r =>
    let acc : Bool := match p.kind with | .read => bit r.acc 0 | .write => bit r.acc 1 | _ => bit r.acc 2
    if r.st = .valid ∧ r.gen = p.rkey / 2 ^ 18 ∧ r.pd = c.pd ∧ acc = true ∧ r.base ≤ p.va ∧ p.va + p.total ≤ r.base + r.len ∧
        fnOpen s (.ld r.owner) then some (k, r) else none

/-- The packet number after one taken. -/
def psnNext (c : Conn) (p : RxPkt) : Conn := { c with rxPsn := (p.psn + 1) % 2 ^ 24 }

/-- A message begun: its entry, its region one message higher (R445). -/
def msgBegin (s : State) (id : Nat) (c : Conn) (m : RxMsg) : State :=
  let s1 := connPut s id { c with msgs := c.msgs ++ [m], nextMsg := c.nextMsg + 1 }
  match m.region with
  | some k => match regionFind s1 k with
    | some r => regionPut s1 k { r with inflight := r.inflight + 1 }
    | none => s1
  | none => s1

/-- The payload of a message's packet written through the Welt path (R442): the message counts one more line until its last
packet, so that it cannot end before that; `none` where the Welt has no room, and then nothing of the packet is taken. -/
def msgData (s : State) (id : Nat) (c : Conn) (p : RxPkt) (m : RxMsg) (owner dpa : Nat) : Option State :=
  let who : Writer := .latigo id m.msg
  let m1 := { m with got := m.got + p.data.length, lastPsn := if p.last then some p.psn else none }
  let s0 := leftAdd (connPut s id { psnNext c p with msgs := c.msgs.map (fun x => if x.msg = m.msg then m1 else x) }) who
    (if p.first then 1 else 0)
  (agentWrite s0 who owner dpa p.data).map (fun t =>
    let u := bump64 t (Reg.LAT_PORT_RX_LO_RX_LO c.port) (Reg.LAT_PORT_RX_HI_RX_HI c.port) p.data.length
    if p.last then lineCompleted u who else u)

/-- An RDMA WRITE packet (R441, R442, R445). -/
def rxWrite (s : State) (id : Nat) (c : Conn) (p : RxPkt) : State :=
  if p.first then
    match regionFor s c p with
    | none => refuseAccess s id p
    | some (k, r) =>
      let m : RxMsg := { msg := rxBase + c.nextMsg, kind := .write, region := some k, va := p.va }
      let s1 := msgBegin s id c m
      (msgData s1 id ((connFind s1 id).getD c) p m r.owner p.va).getD s
  else match c.msgs.find? (fun m => m.kind = .write ∧ m.lastPsn = none) with
    | some m => match m.region.bind (regionFind s) with
      | some r => (msgData s id c p m r.owner (m.va + m.got)).getD s
      | none => refuseAccess s id p
    | none => invalidRequest s id p 3

/-- A SEND packet (R431, R433, R442): placed in the next receive entry; longer than the entry it ends with LENGTH; with no
entry posted the peer is told to wait. -/
def rxSend (s : State) (id : Nat) (c : Conn) (p : RxPkt) (far : Bytes) : State :=
  if c.rq.entries = 0 then invalidRequest s id p 6
  else if p.first then
    if c.rq.head = c.rq.tail then emit s (.roce id (.nak p.psn .rnr))
    else
      let dpa := c.rq.dpa + 32 * (c.rq.head % max 1 c.rq.entries)
      let b := dpaBytes s c.owner dpa 32 [(homeLine s c.owner dpa, far)]
      let loc := leNat (b.take 8)
      let len := leNat ((b.drop 8).take 4)
      let wrId := leNat ((b.drop 16).take 8)
      let c1 := { c with rq := { c.rq with head := (c.rq.head + 1) % 2 ^ 32 } }
      let bad : Option Status :=
        if len < p.total then some .length
        else if !inRange s c.owner loc len then some .access
        else none
      match bad with
      | some st =>
        connError (emit (connPut s id { c1 with rqDone := c1.rqDone ++ [⟨c.rq.head, wrId, 0, st⟩] }) (.roce id (.nak p.psn .invalid))) id
      | none =>
        let m : RxMsg := { msg := rxBase + c.nextMsg, kind := .send, va := loc, rqe := some (c.rq.head, loc, len, wrId) }
        let s1 := msgBegin s id c1 m
        (msgData s1 id ((connFind s1 id).getD c1) p m c.owner loc).getD s
  else match c.msgs.find? (fun m => m.kind = .send ∧ m.lastPsn = none) with
    | some m => (msgData s id c p m c.owner (m.va + m.got)).getD s
    | none => invalidRequest s id p 3

/-- An RDMA READ request (R441, R443): served as host reads; the response follows the last line. -/
def rxRead (s : State) (id : Nat) (c : Conn) (p : RxPkt) : State :=
  if 16 ≤ (c.msgs.filter (fun m => m.kind = .read ∨ m.kind = .cas ∨ m.kind = .faa)).length then invalidRequest s id p 3
  else match regionFor s c p with
    | none => refuseAccess s id p
    | some (k, r) =>
      let n := (p.va % 64 + p.total + 63) / 64
      let m : RxMsg := { msg := rxBase + c.nextMsg, kind := .read, region := some k, va := p.va, got := p.total, lines := n,
                         lastPsn := some p.psn }
      let s1 := msgBegin s id { psnNext c p with rxPsn := (p.psn + packets c.mtu p.total) % 2 ^ 24 } m
      if p.total = 0 then latLine s1 id m.msg false else readBuffer s1 id m.msg r.owner p.va p.total

/-- An atomic (R441, R444, R454): one read-modify-write at the line's home slice. Where its segment is not resident the request
waits for the load. -/
def rxAtomic (s : State) (id : Nat) (c : Conn) (p : RxPkt) : State :=
  if p.va % 8 ≠ 0 ∨ p.total ≠ 8 then invalidRequest s id p 5
  else match regionFor s c p with
    | none => refuseAccess s id p
    | some (k, r) =>
      let gl := homeLine s r.owner p.va
      match lineValue s gl with
      | none => startLoad s (gl / 32768) 2
      | some (line, poison) =>
        if poison then connError (emit (bump s Reg.LAT_STAT_NAK_OPERATIONAL 1) (.roce id (.nak p.psn .operational))) id
        else
          let old := leNat ((line.drop (p.va % 64)).take 8)
          let new := if p.kind = .cas then (if old = p.operand then p.swap else old) else (old + p.operand) % 2 ^ 64
          let m : RxMsg := { msg := rxBase + c.nextMsg, kind := p.kind, region := some k, va := p.va, result := old,
                             lastPsn := some p.psn }
          (agentWrite (msgBegin s id (psnNext c p) m) (.latigo id m.msg) r.owner p.va (le 8 new)).getD s

/-- A duplicate of a packet already taken (R442, R444): an atomic is answered from the results kept; a message that has completed
is acknowledged again; one that has not is ignored. -/
def rxDuplicate (s : State) (id : Nat) (c : Conn) (p : RxPkt) : State :=
  if p.kind = .cas ∨ p.kind = .faa then
    match c.atomics.find? (fun a => a.1 = p.psn) with
    | some a => aeth s id c p.psn (fun k => .atomicResp p.psn a.2 k)
    | none => s
  else if c.msgs.any (fun m => m.lastPsn = none || m.lastPsn = some p.psn) then s
  else if p.kind = .read then rxRead s id { c with rxPsn := c.rxPsn } p
  else aeth s id c p.psn (fun k => .ack p.psn k)

/-- The grant checked (R434, R436): a request beyond it other than the one probe is violation 1 and is served all the same. -/
def rxGrant (s : State) (id : Nat) (c : Conn) (p : RxPkt) : State :=
  if c.standard then s
  else if s.time < c.grantEnd ∧ (c.grantPsn + 2 ^ 24 - p.psn) % 2 ^ 24 < 2 ^ 23 then s
  else if c.grantEnd ≤ s.time ∧ !c.probed then connPut s id { c with probed := true }
  else peerViolation s p.src 1

/-- A congestion mark answered by a CNP, at most one per 50 µs (R423). -/
def rxMark (s : State) (id : Nat) (c : Conn) (p : RxPkt) : State :=
  if p.ce && (match c.cnpSent with | some t => decide (t + usec 50 ≤ s.time) | none => true) then
    emit (bump (connPut s id { c with cnpSent := some s.time }) (Reg.LAT_PORT_ERR_CNP_TX c.port) 1) (.roce id .cnp)
  else s

/-- A request packet served by a resident connection (R441 to R449, R454). -/
def rxServe (s : State) (id : Nat) (p : RxPkt) (far : Bytes) : State :=
  match connFind s id with
  | none => s
  | some c0 =>
    if c0.st = .error then s
    else if c0.sealed ∧ p.tag ≠ some true then
      record (setF (peerViolation s p.src 2) Reg.LAT_EVENTS_TAG_FAIL) Ev.TAG_FAILED 0xFF (le 2 id)
    else
      let s1 := rxMark s id c0 p
      let c1 := { (connFind s1 id).getD c0 with lastPacket := s.time }
      let ahead := (p.psn + 2 ^ 24 - c1.rxPsn) % 2 ^ 24
      if p.malformed ∨ c1.mtu < p.data.length then invalidRequest s1 id p 3
      else if 2 ^ 23 ≤ ahead then rxDuplicate (connPut s1 id c1) id c1 p
      else if ahead ≠ 0 then emit (connPut s1 id c1) (.roce id (.nak p.psn .sequence))
      else
        let s2 := rxGrant (connPut s1 id c1) id c1 p
        let c2 := (connFind s2 id).getD c1
        match p.kind with
        | .write => rxWrite s2 id c2 p
        | .send => rxSend s2 id c2 p far
        | .read => rxRead s2 id c2 p
        | .cas | .faa => rxAtomic s2 id c2 p

/-- Cells of the probe pool in use (R439): those of parked packets beyond their connections' reservations. -/
def probeUsed (s : State) : Nat :=
  (s.lat.conns.map (fun c => (c.2.parked.length * cellsPer c.2.mtu) - c.2.reserved)).sum

/-- A packet for a connection whose context is away (R439): parked in its reserved cells or the probe pool, and the context
fetched; with the probe pool full it is answered with RNR NAK. -/
def rxPark (s : State) (id : Nat) (c : Conn) (p : RxPkt) : State :=
  let k := cellsPer c.mtu
  let fits := decide ((c.parked.length + 1) * k ≤ c.reserved) ||
    decide (probeUsed s + k ≤ 16384 - rd s Reg.LAT_PARK_CFG_RESERVE)
  if fits then connPut s id { c with parked := c.parked ++ [p], res := .fetching }
  else emit (fault (setF (bump s Reg.LAT_STAT_EVICT_RNR 1) Reg.LAT_EVENTS_PROBE_FULL) .latigo Ev.PROBE_POOL_FULL 0xFF [])
    (.roce id (.nak p.psn .rnr))

/-- A request packet received (R422, R439, R454): dropped before READY; one for an unknown queue pair or from the wrong peer is
violation 4; one for a connection that is away is parked. -/
def rxPacket (s : State) (p : RxPkt) (kind : RxKind) (far : Bytes) : State :=
  let p := { p with kind := kind }
  if !s.boot.ready ∨ !fnOpen s .lat then bump s (Reg.LAT_PORT_ERR_DROPPED (p.port % 4)) 1
  else match s.lat.conns.find? (fun c => c.2.qpn = p.qpn ∧ c.2.peer = p.src) with
    | none => peerViolation (bump s (Reg.LAT_PORT_ERR_DROPPED (p.port % 4)) 1) p.src 4
    | some (id, c) =>
      if c.st = .error then s
      else if c.res ≠ .resident then rxPark s id c p
      else rxServe s id p far

/-- RDMA_WRITE_REQUEST (R442). -/
def execRdmaWriteRequest (p : RxPkt) (s : State) : Host.Outcome State Fault Refusal := .next (rxPacket s p .write [])
/-- RDMA_READ_REQUEST (R443). -/
def execRdmaReadRequest (p : RxPkt) (s : State) : Host.Outcome State Fault Refusal := .next (rxPacket s p .read [])
/-- SEND_REQUEST (R442); `far` gives the receive entry's line where it stands on the drives. -/
def execSendRequest (p : RxPkt) (far : Bytes) (s : State) : Host.Outcome State Fault Refusal := .next (rxPacket s p .send far)
/-- COMPARE_AND_SWAP (R444). -/
def execCompareAndSwap (p : RxPkt) (s : State) : Host.Outcome State Fault Refusal := .next (rxPacket s p .cas [])
/-- FETCH_AND_ADD (R444). -/
def execFetchAndAdd (p : RxPkt) (s : State) : Host.Outcome State Fault Refusal := .next (rxPacket s p .faa [])

/-- CONTEXT_FETCH_DONE: a fetched context arrives after a time in units of 10 ns; the packets parked for it are processed in
packet order and their cells released (R439). -/
def execContextFetchDone (id took : Nat) (s : State) : Host.Outcome State Fault Refusal :=
  .next <|
    match connFind s id with
    | none => s
    | some c =>
      if c.res ≠ .fetching then s
      else
        let s1 := raiseTo (wr s Reg.LAT_FETCH_LAST (satTo 0xFFFF took)) Reg.LAT_FETCH_MAX took
        let s2 := connPut s1 id { c with res := .resident, parked := [], reserved := 0 }
        (c.parked.mergeSort (fun a b => decide ((a.psn + 2 ^ 24 - c.rxPsn) % 2 ^ 24 ≤ (b.psn + 2 ^ 24 - c.rxPsn) % 2 ^ 24))).foldl
          (fun t p => rxServe t id p []) s2

/-- ETH_LINK_CHANGE: an Ethernet port link comes up, from bring-up step 12 on, or goes down (R422). -/
def execEthLinkChange (port : Fin 4) (up : Bool) (s : State) : Host.Outcome State Fault Refusal :=
  .next <|
    let q := amGet s.lat.ports port {}
    if up then
      if s.boot.stage < 12 ∨ s.boot.mode = .compat ∨ q.up then s
      else record (latSet s { s.lat with
        ports := amSet s.lat.ports port
          { q with up := true, pfc := odNum s ((0x7010 + port.val) * 256 + 4) 1 0xFF ≠ 0xFF } })
        Ev.PORT_LINK_UP_B001 port []
    else if q.up then
      fault (latSet s { s.lat with ports := amSet s.lat.ports port { q with up := false, pfc := false } })
        .latigo Ev.PORT_LINK_DOWN_B002 port []
    else s

end Sys2Proof.Machine
end

