-- ==== Sys2Proof/Machine/Cipher.lean ====
section
/-!
DEFINITION. The meanings of the Buckle engine's commands (spec/15, R455 to R475).
-/
namespace Sys2Proof.Machine

/-- CIPHER_JOB_SUBMIT: a job of a class, for a connection (NET classes) or the stripe of a journal entry (DRIVE_WRITE), on a key slot with its tweak or
IV, its data unit size, additional data length and data (R456, R458, R463, R468, R474). Outside the limits it ends with
LENGTH, an internal fault: the Latigo engine puts the connection into ERROR, and the Awl engine retries the stripe in other
space (R363). -/
def execCipherJobSubmit (cls : Fin 4) (tag owner slot iv du aad : Nat) (data : Bytes) (tagOk : Bool) (s : State) :
    Host.Outcome State Fault Refusal :=
  let j : CJob := { tag := tag, cls := cls, slot := slot, usage := (keyOf s slot).usage, key := (keyOf s slot).key, iv := iv,
                    cost := jobCost cls data.length aad, data := data, tagOk := tagOk }
  .next <|
    if !fnOpen s .bkl then jobEnd s j .functionDisabled []
    else if !jobInLimits cls du data.length aad then
      let s1 := fault (setF (bump (jobEnd s j .length []) Reg.BKL_ERR_LENGTH 1) Reg.BKL_EVENTS_LENGTH) .buckle Ev.CIPHER_LENGTH
        0xFF (le 1 cls)
      if 2 ≤ cls.val then connError s1 owner
      else match s1.awl.stripes.find? (fun x => cls.val = 0 ∧ x.entry = owner) with
      | some x => abandonStripe s1 x
      | none => s1
    else if s.cin.phase = .commit ∧ cls.val ≠ 0 then jobEnd s j .notReady []
    else if (keyOf s slot).st = .broken then jobEnd s j .internal []
    else if coresUp s = 0 then jobEnd s j .internal []
    else if 1024 ≤ (classQueue s cls).length then bklSet s { s.bkl with waiting := s.bkl.waiting ++ [j] }
    else schedule (bklSet s { s.bkl with queued := s.bkl.queued ++ [j] })

/-- CIPHER_JOB_DONE: a core finishes its job (R457, R462, R472): its blocks are counted, its result goes to the requester under
its tag, and the scheduler hands the core the next job. -/
def execCipherJobDone (core : Fin 16) (s : State) : Host.Outcome State Fault Refusal :=
  .next <|
    match amFind s.bkl.running core with
    | none => s
    | some j =>
      let s1 := bump64 (bklSet s { s.bkl with running := amErase s.bkl.running core })
        (Reg.BKL_STAT_LO_BLOCKS_LO j.cls) (Reg.BKL_STAT_HI_BLOCKS_HI j.cls) j.cost
      let s2 :=
        if (keyOf s j.slot).st = .broken then jobEnd s1 j .internal []
        else if j.cls = 2 ∧ j.tagOk = false then jobEnd (bump s1 Reg.BKL_ERR_TAG 1) j .access []
        else jobEnd s1 j .ok (Config.cipherBytes j.cls j.usage j.key j.iv j.data)
      schedule (keySweep s2)

/-- CORE_ISOLATED: a core that fails a known-answer test or whose pipeline parity fails (R474). -/
def execCoreIsolated (core : Fin 16) (s : State) : Host.Outcome State Fault Refusal :=
  .next (if coreUp s core then coreIsolate s core else s)

/-- KEY_SLOT_BROKEN: a slot whose key shows an uncorrectable error becomes BROKEN (R472): a set key is reloaded from flash at
once, a GCM slot puts its connections into ERROR and is FREE once it has no references. -/
def execKeySlotBroken (slot : Fin 8192) (s : State) : Host.Outcome State Fault Refusal :=
  let v := keyOf s slot
  .next <|
    if v.st ≠ .loaded then s
    else
      let s1 := fault (setF (keyPut s slot { v with st := .broken }) Reg.BKL_EVENTS_SLOT_BROKEN) .buckle Ev.KEY_SLOT_BROKEN 0xFF
        (le 2 slot)
      if slot.val < 8 then
        match (keyStore s1).bind (fun c => amFind c.keys slot) with
        | some k => keyPut s1 slot k
        | none => s1
      else
        let cs := (s1.lat.conns.filter (fun c => c.2.sealed && (c.2.txKey == slot.val || c.2.rxKey0 == slot.val ||
          c.2.rxKey1 == slot.val))).map Prod.fst
        keySweep (cs.foldl connError s1)

/-! ### Key commands (R466, R467, R469) -/

/-- The result of a key command (R466): status, TAG, slot and the key check value, in KEY_RESULT of the command slot. -/
def keyResult (s : State) (slot tag k : Nat) (st : Status) (check : Bytes) : State :=
  let r := le 1 (statusCode st) ++ [0] ++ le 2 tag ++ le 2 k ++ [0, 0] ++ check
  let r32 := r ++ List.replicate (32 - r.length) 0
  emit { s with dict := { s.dict with active := amSet s.dict.active ((0x7200 + slot) * 256 + 2) r32 } } (.keyDone slot st r32)

/-- The rules of the command slots (R424, R466): an LD on the CXL route uses its own slot only, Tack and MBX clients use the
slots from 64; before READY bring-up still takes key commands once the dictionary is available (R106, R471). -/
def keySlotOk (who : Issuer) (slot : Nat) : Bool := match who with | .cxl n => n.val == slot | .mgmt => decide (64 ≤ slot)

/-- Set n holds a live chunk (R469). -/
def setLive (s : State) (n : Nat) : Bool := s.tier.segs.any (fun g => (g.2.chunks ++ g.2.replica).any (fun c => c.2.set == n))

/-- The PERSIST slots above slot 7 in use (R467). -/
def persistUsed (s : State) : Nat := (s.bkl.slots.filter (fun e => decide (8 ≤ e.1) && e.2.persist)).length

/-- The usage fits the slot (R464): XTS for slots 0 to 7, GCM for the rest. -/
def usageFits (k usage : Nat) : Bool := if k < 8 then decide (usage < 2) else usage == 2

/-- KEY_LOAD: a key unwrapped into a slot (R465 to R467, R469): refused in the order access, field ranges and the slot's usage,
the unwrap, busy, quota. Slot 0xFFFF takes the lowest free slot from 8 upward. -/
def execKeyLoad (who : Issuer) (cslot : Fin 128) (tag slot tenant : Nat) (persist : Bool) (format usage : Nat) (blob : Bytes)
    (s : State) : Host.Outcome State Fault Refusal :=
  let foreign : Bool := match who with | .cxl n => tenantOf s n != tenant || tenant == 0xFF || persist | .mgmt => false
  let free := ((List.range 8184).map (· + 8)).find? (fun k => (amFind s.bkl.slots k).isNone)
  let k := if slot = 0xFFFF then free.getD 0xFFFF else slot
  .next <|
    if !keySlotOk who cslot then emit s (.keyDone cslot .access [])
    else if foreign then keyResult s cslot tag k .access []
    else if (slot ≠ 0xFFFF ∧ 8192 ≤ slot) ∨ (64 ≤ tenant ∧ tenant ≠ 0xFF) ∨ format ≠ 1 ∨ 2 < usage ∨
        !usageFits (if slot = 0xFFFF then 8 else slot) usage ∨ (slot < 8 ∧ (tenant ≠ 0xFF ∨ persist = false)) then
      keyResult s cslot tag k .badDescriptor []
    else match Config.unwrap usage blob with
      | none => keyResult (fault (setF (bump s Reg.BKL_ERR_UNWRAP 1) Reg.BKL_EVENTS_UNWRAP_FAILED) .buckle Ev.KEY_UNWRAP_FAILED 0xFF
          (le 2 k)) cslot tag k .badDescriptor []
      | some key =>
        if slot = 0xFFFF ∧ free = none then keyResult s cslot tag k .quota []
        else if (keyOf s k).st ≠ .free ∨ (k < 8 ∧ setLive s k ∧ s.bkl.setWait = false) then keyResult s cslot tag k .busyRetry []
        else if 8 ≤ k ∧ persist ∧ 256 ≤ persistUsed s then keyResult s cslot tag k .quota []
        else
          let s1 := keyPut s k { st := .loaded, usage := usage, tenant := tenant, persist := persist, key := key }
          let s2 := if persist then keyStoreWrite s1 else s1
          keyResult (record s2 Ev.KEY_LOADED 0xFF (le 2 k)) cslot tag k .ok (le 8 (Config.keyCheck usage key).toNat)

/-- KEY_FREE: a slot zeroed and FREE (R467, R469): refused for a slot of another tenant, one that does not exist, one with
references, or the slot of a set that holds live chunks. -/
def execKeyFree (who : Issuer) (cslot : Fin 128) (tag slot : Nat) (s : State) : Host.Outcome State Fault Refusal :=
  let v := keyOf s slot
  let foreign : Bool := match who with | .cxl n => v.st ≠ .free && tenantOf s n != v.tenant | .mgmt => false
  .next <|
    if !keySlotOk who cslot then emit s (.keyDone cslot .access [])
    else if 8192 ≤ slot then keyResult s cslot tag slot .badDescriptor []
    else if foreign then keyResult s cslot tag slot .access []
    else if keyRefs s slot ≠ 0 ∨ (slot < 8 ∧ setLive s slot) then keyResult s cslot tag slot .busyRetry []
    else
      let s1 := keyPut s slot {}
      keyResult (if v.persist then keyStoreWrite s1 else s1) cslot tag slot .ok []

end Sys2Proof.Machine
end

