-- ==== Sys2Proof/Machine/Persistence.lean ====
section
/-!
DEFINITION. The meanings of the persistence commands (spec/06): closing and release, barriers, Global Persistent Flush.
-/
namespace Sys2Proof.Machine

/-- SKIVE_CLOSE: a partial Skive line has stayed open for SKIVE_CLOSE ticks and is closed into the Welt (R166). -/
def execSkiveClose (line : Nat) (s : State) : Host.Outcome State Fault Refusal :=
  .next <|
    match skiveFind s line with
    | some e => if plineFull e.data ∨ lineStamp s < e.openedTick + rd s Reg.WLT_CTRL_SKIVE_CLOSE then s
      else (skiveClose s e).getD s
    | none => s

/-- WELT_RELEASE: a Welt entry is released to the Tree cache where R15 and R16 allow it; `err` is what the read of its bytes finds
(R163). -/
def execWeltRelease (line : Nat) (err : SramErr) (s : State) : Host.Outcome State Fault Refusal :=
  let s := sramFound s line err
  .next <|
    match weltFind s line with
    | some e => if weltReady s e then weltRelease s e else s
    | none => s

/-- An earlier barrier of the same LD with the same scope and level still runs (R174). -/
def barrierBehind (s : State) (b : Barrier) : Bool :=
  s.per.barriers.any (fun x => decide (x.id < b.id) && x.ld == b.ld && x.scope == b.scope && x.level == b.level)

/-- BARRIER_END: a barrier whose covered bytes are at its level ends (R171, R172, R174): an APPLIANCE barrier waits for the
twin's part too, and takes the first status that is not OK. -/
def execBarrierEnd (id : Nat) (s : State) : Host.Outcome State Fault Refusal :=
  .next <|
    match s.per.barriers.find? (fun b => b.id = id) with
    | none => s
    | some b =>
      if barrierReached s b && !barrierBehind s b && (b.twinTag.isNone || b.twinStatus.isSome)
      then endBarrier s b (b.twinStatus.getD .ok) else s

/-- The guard of a barrier (R175, R177): the host request guard, or MEDIA_GUARD for one served at MEDIA. -/
def barrierGuard (s : State) (b : Barrier) : Nat :=
  if b.served = 2 then msec (10 * rd s Reg.WLT_GUARD_MEDIA_GUARD) else msec (max 1 (rd s Reg.ERR_TIMER0_HOST_GUARD))

/-- BARRIER_TIMEOUT: a barrier runs past its guard, ends with TIMEOUT and writes record 0x4003 (R175). -/
def execBarrierTimeout (id : Nat) (s : State) : Host.Outcome State Fault Refusal :=
  .next <|
    match s.per.barriers.find? (fun b => b.id = id) with
    | none => s
    | some b =>
      if s.time < b.startTime + barrierGuard s b then s
      else
        let s1 := endBarrier (setF (bump s Reg.WLT_BAR_ERR_TIMEOUTS 1) Reg.WLT_EVENTS_BAR_TIMEOUT) b .timeout
        fault s1 (.ld b.ld) Ev.BARRIER_TIMEOUT b.ld (le 1 b.scope ++ le 1 b.level)

/-- COMMIT_BARRIER_CUTOFF: 100 µs after COMMIT entry the LOCAL and PAIR barriers that are not at their level end with
NOT_READY, and one record 0x400A carries the count where any has ended so (R176). -/
def execCommitBarrierCutoff (s : State) : Host.Outcome State Fault Refusal :=
  .next <|
    if s.cin.phase ≠ .commit ∨ s.time < s.cin.commitAt + usec 100 then s
    else
      let late := s.per.barriers.filter (fun b => !barrierReached s b)
      let s1 := s.per.barriers.foldl (fun t b => endBarrier t b (if barrierReached s b then .ok else .notReady)) s
      let n := s.cin.endedBar + late.length
      let s2 := { s1 with cin := { s1.cin with endedBar := 0 } }
      if n = 0 then s2 else record (setF s2 Reg.WLT_EVENTS_COMMIT_ENDED) Ev.BARRIERS_ENDED_BY_COMMIT 0xFF (le 4 n)

/-- A GPF phase served as an APPLIANCE barrier (R179), or acknowledged at once after COMMIT is entered (R180). -/
def gpf (phase port level : Nat) (s : State) : State :=
  if s.cin.phase = .commit then emit s (.gpfAck port phase)
  else startBarrier (bump (wr s Reg.WLT_GPF_PHASE phase) Reg.WLT_GPF_COUNT 1) (.gpf phase port) 0x3F 2 level

/-- GPF_PHASE1: Phase 1 as an APPLIANCE barrier of level LOCAL (R179). -/
def execGpfPhase1 (port : Fin 16) (s : State) : Host.Outcome State Fault Refusal := .next (gpf 1 port 0 s)

/-- GPF_PHASE2: Phase 2 as an APPLIANCE barrier of level PAIR, or LOCAL while PAIR is unavailable (R179). -/
def execGpfPhase2 (port : Fin 16) (s : State) : Host.Outcome State Fault Refusal := .next (gpf 2 port 1 s)

end Sys2Proof.Machine
end

