-- ==== Sys2Proof/Machine/Compat.lean ====
section
/-!
DEFINITION. LX-310 compatibility mode (spec/22): the register file, the compatibility tick, command rings and the LX opcodes.
-/
namespace Sys2Proof.Machine

/-! ### The endpoints -/

/-- An endpoint that exists (R583, R584): in compatibility mode, from bring-up step 6, and endpoint 1 only where LX_EP_SIZE1 is
not 0. -/
def lxLive (s : State) (e : Nat) : Bool :=
  s.boot.mode = .compat && decide (6 ≤ s.boot.stage) && (e == 0 || odNum s 0x690002 4 4096 != 0)

/-- RING_ERR set (R592), with LXF_INT_STATUS.ERROR. -/
def lxRingErr (s : State) (e : Nat) : State :=
  setF (lxEpSet s e { lxEp s e with ringErr := true }) (Reg.LXF_INT_STATUS_ERROR e)

/-- A value staged for a field until the next compatibility tick (R586). -/
def lxStage (e : Nat) (s : State) (f : Fld) (v : Nat) : State :=
  lxEpSet s e { lxEp s e with staged := amSet (lxEp s e).staged f.addr (v / 2 ^ (f.addr % 32) % 2 ^ f.width) }

/-- The entries of a ring (RING_CFG.SIZE). -/
def lxEntries (s : State) (e r : Nat) : Nat := 16 * 2 ^ rd s (Reg.RING_CFG_SIZE e r)

/-- A reset of the endpoint's rings (R593): RING_ERR clears and the LD passes through QUIESCING and DISABLED. -/
def lxRingReset (s : State) (e : Nat) : State :=
  let s1 := lxEpSet s e { lxEp s e with ringErr := false, resetting := true }
  fnQuiesce s1 (.ld e) .enable (disableAbort s)

/-- A write of RING_TAIL (R589, R592): the producer index at once, or host violation cause 3 for an index beyond the ring. -/
def lxTailWrite (s : State) (e r v : Nat) : State :=
  if lxEntries s e r ≤ v % 2 ^ 16 then hostViolation s (4 * e) (some e) 3
  else lxRingSet s e r { lxRing s e r with tail := v % 2 ^ 16 }

/-- A write of RING_BASE_L, RING_BASE_H or RING_CFG (R592): SIZE and the base are ignored and set RING_ERR while ENABLE is 1. -/
def lxRingWrite (s : State) (e r off v : Nat) : State :=
  let on := rdb s (Reg.RING_CFG_ENABLE e r)
  match off with
  | 0x00 => if on then lxRingErr s e else lxStage e s (Reg.RING_BASE_L_BASE_L e r) v
  | 0x04 => if on then lxRingErr s e else lxStage e s (Reg.RING_BASE_H_BASE_H e r) v
  | 0x08 =>
    let s1 := lxStage e (lxStage e s (Reg.RING_CFG_ENABLE e r) v) (Reg.RING_CFG_VECTOR e r) v
    if on ∧ v % 16 ≠ rd s (Reg.RING_CFG_SIZE e r) then lxRingErr s1 e
    else if on then s1 else lxStage e s1 (Reg.RING_CFG_SIZE e r) v
  | 0x0C => lxTailWrite s e r v
  | _ => s

/-- A write to the register file of an endpoint (R586, R592): bits 31 to 24 are ignored; other offsets and read-only registers
change nothing. -/
def lxWrite (s : State) (e off value : Nat) : State :=
  let v := value % 2 ^ 24
  if lxLive s e = false then s
  else match off with
  | 0x008 =>
    let s1 := lxStage e (lxStage e s (Reg.LXF_CTRL_ENABLE e) v) (Reg.LXF_CTRL_INT_EN e) v
    if bit v 2 then lxRingReset s1 e else s1
  | 0x00C => lxStage e s (Reg.LXF_BANK_BANK e) v
  | 0x014 =>
    let clr := fun (t : State) (f : Fld) => wr t f (rd t f &&& (2 ^ f.width - 1 - v / 2 ^ (f.addr % 32) % 2 ^ f.width))
    [Reg.LXF_INT_STATUS_RING_DONE e, Reg.LXF_INT_STATUS_PAIR_CHANGE e, Reg.LXF_INT_STATUS_ERROR e,
      Reg.LXF_INT_STATUS_READY_CHANGE e].foldl clr s
  | 0x018 =>
    [Reg.LXF_INT_MASK_RING_DONE e, Reg.LXF_INT_MASK_PAIR_CHANGE e, Reg.LXF_INT_MASK_ERROR e,
      Reg.LXF_INT_MASK_READY_CHANGE e].foldl (fun t f => lxStage e t f v) s
  | _ => if 0x100 ≤ off ∧ off < 0x200 then lxRingWrite s e ((off - 0x100) / 0x20) ((off - 0x100) % 0x20) v else s

/-- LX_REGISTER_WRITE: a host writes a register of the LX register file (R586, R592). -/
def execLxRegisterWrite (e : Fin 2) (off : Nat) (value : Word) (s : State) : Host.Outcome State Fault Refusal :=
  .next (if off % 4 = 0 then lxWrite s e off value.toNat else s)

/-- LX_BANK_WRITE: a host writes LXF_BANK, in force from the next compatibility tick (R586). -/
def execLxBankWrite (e : Fin 2) (value : Word) (s : State) : Host.Outcome State Fault Refusal :=
  .next (lxWrite s e 0x00C value.toNat)

/-- LX_RING_TAIL_WRITE: a host writes RING_TAIL of a ring, at once (R589, R592). -/
def execLxRingTailWrite (e : Fin 2) (r : Fin 8) (value : Word) (s : State) : Host.Outcome State Fault Refusal :=
  .next (lxWrite s e (0x10C + 0x20 * r) value.toNat)

/-- LX_RING_RESET: LXF_CTRL.RING_RESET is written with 1 (R593). -/
def execLxRingReset (e : Fin 2) (s : State) : Host.Outcome State Fault Refusal :=
  .next (if lxLive s e then lxRingReset s e else s)

/-- FUNCTION_LEVEL_RESET: a PCIe Function Level Reset of an endpoint (R593). -/
def execFunctionLevelReset (e : Fin 2) (s : State) : Host.Outcome State Fault Refusal :=
  .next (if lxLive s e then lxRingReset s e else s)

/-! ### The commands in flight -/

/-- The lines of a ZERO accepted into the Welt, from a DPA upward, while it has room (R589): the DPA that comes next. -/
def zeroLines (e r idx : Nat) (s : State) (dpa stop : Nat) : Nat → Nat × State
  | 0 => (dpa, s)
  | n + 1 =>
    if stop ≤ dpa then (dpa, s)
    else match acceptWrite s (.lx e r idx) e (homeLine s e dpa) (List.replicate 64 (some 0)) true false with
      | some t => zeroLines e r idx t (dpa + 64) stop n
      | none => (dpa, s)

/-- A ZERO carried on: as many lines as the Welt takes. -/
def zeroGo (s : State) (e r : Nat) (c : LxCmd) : State :=
  match c.todo with
  | none => s
  | some (dpa, stop) =>
    let (d, s1) := zeroLines e r c.idx s dpa stop 16384
    let v := lxRing s1 e r
    lxRingSet s1 e r { v with
      cmds := v.cmds.map (fun (x : LxCmd) => if x.idx = c.idx then { x with todo := if stop ≤ d then none else some (d, stop) } else x) }

/-- The earlier commands of the ring have completed (R590). -/
def lxFirst (s : State) (e r idx : Nat) : Bool :=
  ((lxRing s e r).cmds.takeWhile (fun c => c.idx ≠ idx)).all (fun c => c.done.isSome)

/-- A waiting FLUSH started once the earlier commands of its ring have completed (R590). -/
def flushGo (s : State) (e r : Nat) (c : LxCmd) : State :=
  match c.waits with
  | none => s
  | some level =>
    if lxFirst s e r c.idx then
      let v := lxRing s e r
      startBarrier (lxRingSet s e r { v with
        cmds := v.cmds.map (fun (x : LxCmd) => if x.idx = c.idx then { x with waits := none } else x) }) (.ring e r c.idx) e 0 level
    else s

/-- A command that has not ended ended with a status, and what it has not begun dropped (R592, R593). -/
def lxEnd (s : State) (e r : Nat) (c : LxCmd) (st : Status) : State :=
  if c.done.isSome then s
  else
    let s1 := lxDone s e r c.idx st
    let v := lxRing s1 e r
    let s2 := lxRingSet s1 e r { v with
      cmds := v.cmds.map (fun (x : LxCmd) => if x.idx = c.idx then { x with todo := none } else x) }
    { s2 with
      host := { s2.host with left := s2.host.left.filter (fun x => x.1 ≠ .lx e r c.idx) }
      per := { s2.per with barriers := s2.per.barriers.filter (fun b => b.by_ ≠ .ring e r c.idx) } }

/-- The commands of a ring in flight carried on; from COMMIT entry those that wait end with NOT_READY (R592). -/
def ringGo (e : Nat) (s : State) (r : Nat) : State :=
  (lxRing s e r).cmds.foldl (fun t c =>
    if c.done.isSome then t
    else if s.cin.phase = .commit ∧ (c.todo.isSome ∨ c.waits.isSome) then lxEnd t e r c .notReady
    else flushGo (zeroGo t e r c) e r c) s

/-! ### The compatibility tick (R586) -/

/-- LXF_STATUS.PAIR (R596): 0 NONE, 1 RESYNC, 2 PAIRED, 3 LOST. -/
def lxPair (s : State) : Nat :=
  match s.twin.link with
  | .paired => 2
  | .resync | .hello => 1
  | _ => if s.twin.everUp then 3 else 0

/-- A staged field of an endpoint applied (R586, R592): a ring whose SIZE exceeds 6 is not enabled; ENABLE of LXF_CTRL disables
or enables the LD. -/
def lxApply (e : Nat) (s : State) (x : Nat × Nat) : State :=
  if x.1 = (Reg.LXF_CTRL_ENABLE e).addr then
    let s1 := wr s (Reg.LXF_CTRL_ENABLE e) x.2
    if x.2 = 0 then fnQuiesce s1 (.ld e) .disable (disableAbort s)
    else fnSet s1 (.ld e) { fnOf s1 (.ld e) with phase := .enabled, want := .none }
  else
    let wide : Fld := ⟨x.1, 24, 0⟩
    { s with csr := nmSet s.csr wide.addr x.2 0 }

/-- A ring enabled with a size that is refused (R592). -/
def lxCheckRing (e : Nat) (s : State) (r : Nat) : State :=
  if rdb s (Reg.RING_CFG_ENABLE e r) ∧ 6 < rd s (Reg.RING_CFG_SIZE e r) then
    record (lxRingErr (wr s (Reg.RING_CFG_ENABLE e r) 0) e) Ev.LX_RING_ERROR (4 * e) (le 1 r)
  else s

/-- Changes of PAIR and READY noted for an endpoint (LXF_INT_STATUS). -/
def lxNote (s : State) (e : Nat) : State :=
  let s1 := if rd s (Reg.LXF_STATUS_PAIR e) = lxPair s then s
    else setF (wr s (Reg.LXF_STATUS_PAIR e) (lxPair s)) (Reg.LXF_INT_STATUS_PAIR_CHANGE e)
  if rdb s1 (Reg.LXF_STATUS_READY e) = s.boot.ready then s1
  else setF (wr s1 (Reg.LXF_STATUS_READY e) (b2n s.boot.ready)) (Reg.LXF_INT_STATUS_READY_CHANGE e)

/-- One endpoint at the compatibility tick. -/
def lxTick (s : State) (e : Nat) : State :=
  if lxLive s e then
    let s1 := (lxEp s e).staged.foldl (lxApply e) (lxEpSet s e { lxEp s e with staged := [] })
    let s2 := (List.range 8).foldl (lxCheckRing e) s1
    (List.range 8).foldl (ringGo e) (lxNote s2 e)
  else s

/-- The heartbeat of the LX twin protocol, every 100 µs (R595). -/
def lxHeartbeat (s : State) : State :=
  if s.boot.mode ≠ .compat then s
  else
    let s1 := { s with lx := { s.lx with ticks := (s.lx.ticks + 1) % 100 } }
    if s1.lx.ticks = 0 then heartbeatSend s1 else s1

/-- COMPAT_TICK: the 1 µs compatibility tick applies what is staged, the commands in flight go on, and every hundredth sends the heartbeat
(R586, R590, R595). -/
def execCompatTick (s : State) : Host.Outcome State Fault Refusal := .next (lxHeartbeat (lxTick (lxTick s 0) 1))

/-! ### The LX opcodes (R589 to R592) -/

/-- The commands of an endpoint in flight. -/
def lxInFlight (s : State) (e : Nat) : Nat := ((lxEp s e).rings.map (fun x => x.2.cmds.length)).sum

/-- The entry that a ring fetches next, with FLAGS, started by `run` on the entry's index (R589, R592): nothing where the ring has
no entry published or no room for one, NOT_READY before READY and from COMMIT entry, FUNCTION_DISABLED while the LD is not
enabled. -/
def lxFetch (s : State) (e r op flags : Nat) (run : State → LxCmd → State) : State :=
  let v := lxRing s e r
  if lxLive s e = false ∨ rdb s (Reg.RING_CFG_ENABLE e r) = false ∨ v.next = v.tail ∨ 1024 ≤ lxInFlight s e then s
  else
    let c : LxCmd := { idx := v.next, op := op, intr := bit flags 0 }
    let s1 := lxRingSet s e r { v with next := (v.next + 1) % lxEntries s e r, cmds := v.cmds ++ [c] }
    if s.boot.ready = false ∨ s.cin.phase = .commit then lxDone s1 e r c.idx .notReady
    else if !fnOpen s (.ld e) then lxDone s1 e r c.idx .functionDisabled
    else run s1 c

/-- NOP (opcode 0x00): completes at once. -/
def execNop (e : Fin 2) (r : Fin 8) (flags : Nat) (s : State) : Host.Outcome State Fault Refusal :=
  .next (lxFetch s e r 0x00 flags (fun t c => lxDone t e r c.idx .ok))

/-- A FLUSH of a level begun, or left waiting for the earlier commands of its ring (R590). -/
def lxFlush (e r level : Nat) (s : State) (c : LxCmd) : State :=
  let v := lxRing s e r
  flushGo (lxRingSet s e r { v with
    cmds := v.cmds.map (fun (x : LxCmd) => if x.idx = c.idx then { x with waits := some level } else x) }) e r
    { c with waits := some level }

/-- FLUSH (opcode 0x01): a HOST-scope barrier of level PAIR on the endpoint's LD (R589, R590). -/
def execFlush (e : Fin 2) (r : Fin 8) (flags : Nat) (s : State) : Host.Outcome State Fault Refusal :=
  .next (lxFetch s e r 0x01 flags (lxFlush e r 1))

/-- FLUSH_MEDIA (opcode 0x02): a HOST-scope barrier of level MEDIA (R589, R590). -/
def execFlushMedia (e : Fin 2) (r : Fin 8) (flags : Nat) (s : State) : Host.Outcome State Fault Refusal :=
  .next (lxFetch s e r 0x02 flags (lxFlush e r 2))

/-- A ZERO begun (R589): DPA and LENGTH multiples of 64, LENGTH up to 1 GiB, the range within the LD. -/
def lxZero (e r dpa len : Nat) (s : State) (c : LxCmd) : State :=
  if dpa % 64 ≠ 0 ∨ len % 64 ≠ 0 then lxDone s e r c.idx .alignment
  else if 0x40000000 < len then lxDone s e r c.idx .length
  else if ldSegs s e * 0x200000 < dpa + len then lxDone s e r c.idx .access
  else if len = 0 then lxDone s e r c.idx .ok
  else
    let v := lxRing s e r
    let s1 := lxRingSet s e r { v with
      cmds := v.cmds.map (fun (x : LxCmd) => if x.idx = c.idx then { x with todo := some (dpa, dpa + len) } else x) }
    zeroGo { s1 with host := { s1.host with left := s1.host.left ++ [(.lx e r c.idx, len / 64)] } } e r
      { c with todo := some (dpa, dpa + len) }

/-- ZERO (opcode 0x10): full-line writes of zero over DPA to DPA + LENGTH − 1 through the Welt path (R589). -/
def execZero (e : Fin 2) (r : Fin 8) (flags dpa len : Nat) (s : State) : Host.Outcome State Fault Refusal :=
  .next (lxFetch s e r 0x10 flags (lxZero e r dpa len))

/-- The identity page (R589, R597): LX-310 fields, which the spec does not give (free bytes), and the serial number and FW_VERSION
at bytes 3,072 to 3,083. -/
def lxIdentity (s : State) : Bytes :=
  let free := fun (n k : Nat) => (List.range n).map (fun i => (Config.freeValue (s.freeCtr + k + i)).setWidth 8)
  free 3072 0 ++ le 8 Config.serial.toNat ++ le 4 s.fw.version ++ free 1012 3072

/-- IDENTIFY (opcode 0x30): the 4 KiB identity page written to HOST_ADDR, 4 KiB aligned (R589). -/
def execIdentify (e : Fin 2) (r : Fin 8) (flags hostAddr : Nat) (s : State) : Host.Outcome State Fault Refusal :=
  .next (lxFetch s e r 0x30 flags (fun t c =>
    if hostAddr % 4096 ≠ 0 then lxDone t e r c.idx .alignment
    else lxDone { emit t (.hostMem e hostAddr (lxIdentity t)) with freeCtr := t.freeCtr + 4084 } e r c.idx .ok))

/-- FW_DOWNLOAD (opcode 0x40): ends with INVALID (R589, R591). -/
def execFwDownload (e : Fin 2) (r : Fin 8) (flags : Nat) (s : State) : Host.Outcome State Fault Refusal :=
  .next (lxFetch s e r 0x40 flags (fun t c => lxDone t e r c.idx .badDescriptor))

/-- FW_COMMIT (opcode 0x41): ends with INVALID (R589, R591). -/
def execFwCommit (e : Fin 2) (r : Fin 8) (flags : Nat) (s : State) : Host.Outcome State Fault Refusal :=
  .next (lxFetch s e r 0x41 flags (fun t c => lxDone t e r c.idx .badDescriptor))

/-- LX_UNKNOWN_OPCODE: any other opcode ends with INVALID (R589, R591). -/
def execLxUnknownOpcode (e : Fin 2) (r : Fin 8) (op : Byte) (flags : Nat) (s : State) : Host.Outcome State Fault Refusal :=
  .next (lxFetch s e r op.toNat flags (fun t c => lxDone t e r c.idx .badDescriptor))

/-- The status of the oldest command of a ring, once it has ended, written with its line timestamp; RING_HEAD advances past it
(R589, R591). -/
def lxStatus (s : State) (e r : Nat) : State :=
  let v := lxRing s e r
  match v.cmds with
  | [] => s
  | c :: rest =>
    match c.done with
    | none => s
    | some (st, stamp) =>
      let at_ := rd s (Reg.RING_BASE_L_BASE_L e r) * 2 ^ 12 + rd s (Reg.RING_BASE_H_BASE_H e r) * 2 ^ 36 + 64 * c.idx
      let s1 := lxRingSet s e r { v with cmds := rest, head := (c.idx + 1) % lxEntries s e r }
      let s2 := emit (emit s1 (.hostMem e (at_ + 32) (le 8 stamp))) (.hostMem e (at_ + 4) (le 1 (0x80 + lxCode st)))
      if c.intr then
        let s3 := wr s2 (Reg.LXF_INT_STATUS_RING_DONE e) (setBit (rd s2 (Reg.LXF_INT_STATUS_RING_DONE e)) r true)
        if rdb s2 (Reg.LXF_CTRL_INT_EN e) && bit (rd s2 (Reg.LXF_INT_MASK_RING_DONE e)) r
        then emit s3 (.msix e (rd s2 (Reg.RING_CFG_VECTOR e r))) else s3
      else s2

/-- LX_COMMAND_STATUS: the status of the oldest command of a ring is written, in ring order (R589, R591). -/
def execLxCommandStatus (e : Fin 2) (r : Fin 8) (s : State) : Host.Outcome State Fault Refusal := .next (lxStatus s e r)

/-! ### The end of a ring reset (R593) -/

/-- The rings of an endpoint once its LD is DISABLED: what has ended has its status written in ring order, and ENABLE, RING_HEAD and
the tail of every ring clear. -/
def lxRingsClear (s : State) (e : Nat) : State :=
  if (lxEp s e).resetting then
    let s0 := (lxEp s e).rings.foldl (fun t x => x.2.cmds.foldl (fun u _ => lxStatus u e x.1) t) s
    let s1 := lxEpSet s0 e { lxEp s0 e with resetting := false, rings := [] }
    (List.range 8).foldl (fun t r => wr t (Reg.RING_CFG_ENABLE e r) 0) s1
  else s

/-- The commands of an endpoint that have not ended when its abort time ends, ended with ABORTED (R593), and their number. -/
def lxAbort (s : State) (e : Nat) : Nat × State :=
  (lxEp s e).rings.foldl (fun t x => x.2.cmds.foldl (fun u c =>
    if c.done.isSome then u else (u.1 + 1, lxEnd u.2 e x.1 c .aborted)) t) (0, s)

end Sys2Proof.Machine
end

