-- ==== Sys2Proof/Machine/RecorderOps.lean ====
section
/-!
DEFINITION. Shared operations of the Stamp recorder's flash areas (spec/21, R573 to R576, R578, R580): programming, the scan
at every start, and what a reader gets.
-/
namespace Sys2Proof.Machine

/-- The recorder with its state replaced. -/
def stmSet (s : State) (m : Stm) : State := { s with stm := m }

/-- A sector of LAST that may be written: it holds no record and is not INDETERMINATE (R549, R573). -/
def lastErased (s : State) (k : Nat) : Bool :=
  s.stm.last.all (fun r => r.sector != k) && !(flsBank s 2).indet.contains (544 + k)

/-- The erased sectors ahead of the write point, at most 16 (R573). -/
def erasedAhead (s : State) : Nat :=
  ((List.range 16).takeWhile (fun k => lastErased s ((s.stm.lastSector + 1 + k) % 480))).length

/-- A sector erased by its owner: cells and records go, and its wear counts (R553). -/
def sectorErase (s : State) (b k : Nat) : State :=
  let s1 := flsWear (flsErased s b k) b k
  let n := amGet (flsBank s1 b).wear k 0
  if wearDue n then fault (setF s1 Reg.FLS_EVENTS_WEAR_HIGH) .flash Ev.FLASH_WEAR_HIGH 0xFF (le 1 b ++ le 2 k) else s1

/-- A sector of LAST erased (R573). -/
def lastErase (s : State) (k : Nat) : State := sectorErase s 2 (544 + k)

/-- A sector of FIRST erased (R580). -/
def firstErase (s : State) (k : Nat) : State := sectorErase s 2 (512 + k)

/-- A new reservation of half-cycle counts, written as record 0x0007 (R36). -/
def lineReserve (s : State) : State :=
  let r := s.lck.count + 65536
  record { s with lck := { s.lck with reservation := r } } Ev.LINE_RESERVE 0xFF (le 8 r)

/-- The next sector of LAST taken for writing where it is erased, with the sector 16 ahead of it erased (R573) unless erases have
stopped (R577). -/
def lastAdvance (s : State) : Option State :=
  let k := (s.stm.lastSector + 1) % 480
  if lastErased s k then
    let s1 := stmSet s { s.stm with lastSector := k, lastUsed := 0 }
    some (if s1.stm.eraseStopped || s1.stm.clearing.isSome then s1 else lastErase s1 ((k + 16) % 480))
  else none

/-- A record placed in LAST: in the current sector where it fits, else in the next (R573). -/
def lastPut (s : State) (r : Rec) : Option State :=
  let fits := decide (s.stm.lastUsed + recSize r ≤ 65536)
  let s1 := if fits then some s else lastAdvance s
  s1.map (fun t => stmSet t { t.stm with last := t.stm.last ++ [⟨t.stm.lastSector, r, false⟩], lastUsed := t.stm.lastUsed + recSize r })

/-- A record placed in FIRST while it has room (R574); where it does not fit any more, FIRST is full and record 0x0006 is written
once. -/
def firstPut (s : State) (r : Rec) : State :=
  if s.stm.firstFull then s
  else
    let here := decide (s.stm.firstUsed + recSize r ≤ 65536)
    if here || decide (s.stm.firstSector < 31) then
      let sec := if here then s.stm.firstSector else s.stm.firstSector + 1
      let used := if here then s.stm.firstUsed else 0
      stmSet s { s.stm with first := s.stm.first ++ [⟨sec, r, false⟩], firstSector := sec, firstUsed := used + recSize r }
    else
      let s1 := stmSet s (stmWr { s.stm with firstFull := true } Reg.STM_EVENTS_FIRST_FULL 1)
      record s1 Ev.FIRST_AREA_FULL 0xFF []

/-- STAGING_OVERFLOW is written once room has returned (R572). -/
def overflowEnd (s : State) : State :=
  if s.stm.overflow && decide (stagingUsed s.stm + 36 ≤ 0x100000) then
    record (stmSet s { s.stm with overflow := false }) Ev.STAGING_OVERFLOW 0xFF []
  else s

/-- During a clear, LAST takes records at sectors already erased only (R580). -/
def clearAllows (s : State) : Bool :=
  match s.stm.clearing with
  | none => true
  | some c => match c.stage with
    | .eraseLast k => decide (s.stm.lastSector < k)
    | .eraseFirst _ => true
    | _ => false

/-- The oldest staged record programmed into LAST, and into FIRST while FIRST has room (R572 to R574); not while the Recorder group is
DISABLED (R572). -/
def programOne (s : State) : State :=
  match s.stm.staging with
  | [] => s
  | r :: rest =>
    if (fnOf s .stm).phase = .disabled || !clearAllows s then s
    else
      match lastPut (stmSet s { s.stm with staging := rest }) r with
      | none => s
      | some s1 =>
        let s2 := if s.stm.clearing.any (fun c => match c.stage with | .eraseFirst _ => true | _ => false) then s1 else firstPut s1 r
        overflowEnd (stmSet s2 { s2.stm with flashedSeq := r.seq })

/-- Every staged record programmed. -/
def programAll (s : State) : State := s.stm.staging.foldl (fun t _ => programOne t) s

/-! ### Every start (R573 to R576) -/

/-- The greatest SEQ in the areas and in staging. -/
def greatestSeq (m : Stm) : Nat :=
  ((m.last.map (fun r => r.rcd.seq)) ++ (m.first.map (fun r => r.rcd.seq)) ++ (m.staging.map Rec.seq)).foldl max 0

/-- A clear that was interrupted goes on from its first step not done (R581). -/
def resumeClear (s : State) : State :=
  let intents := (s.stm.last.filter (fun r => r.rcd.code == 0x0003 && !r.torn)).map (fun r => r.rcd.seq)
  let done := (s.stm.first.filter (fun r => r.rcd.code == 0x0001 && !r.torn)).map (fun r => r.rcd.seq)
  let i := intents.foldl max 0
  let d := done.foldl max 0
  if i ≠ 0 ∧ d < i then
    stmSet s { s.stm with clearing := some ⟨.eraseFirst 0, i, 0, 0⟩ }
  else if d ≠ 0 ∧ s.stm.last ≠ [] ∧ s.stm.last.all (fun r => decide (r.rcd.seq ≤ d)) ∧
      s.stm.last.any (fun r => r.rcd.code == 0x0003) then
    stmSet s { s.stm with clearing := some ⟨.eraseLast 0, i, 0, 0⟩, lastSector := 479, lastUsed := 65536 }
  else s

/-- What the recorder does at every start (R573 to R576, R581): torn records are recorded and left out, lost sectors recorded, SEQ
resumes above the greatest found, and writing begins at fresh sectors. -/
def stmStart (s : State) : State :=
  let torn := (s.stm.last ++ s.stm.first).filter AreaRec.torn
  let lost := ((flsBank s 2).indet.filter (fun k => decide (512 ≤ k))).map (fun k => k - 512)
  let m := s.stm
  let m1 := { m with
    last := m.last.filter (fun r => !r.torn), first := m.first.filter (fun r => !r.torn), indeterminate := lost,
    headSeq := greatestSeq m, clearing := none, eraseStopped := false, overflow := false,
    lastUsed := 65536, firstUsed := 65536,
    firstSector := (m.first.map AreaRec.sector).foldl max 0, firstFull := m.firstFull }
  let m2 := if m.first = [] then { m1 with firstSector := 0, firstUsed := 0 } else m1
  let m3 := if m.last = [] then { m2 with lastUsed := 0 } else m2
  let s1 := resumeClear (stmSet s m3)
  let s2 := torn.foldl (fun t _ => record (stmSet t (stmWr t.stm Reg.STM_EVENTS_TORN 1)) Ev.TORN_RECORD_SKIPPED 0xFF []) s1
  lost.foldl (fun t k => record (stmSet t (stmWr t.stm Reg.STM_EVENTS_SECTOR_LOST 1)) Ev.AREA_SECTOR_LOST 0xFF (le 4 k)) s2

/-- Every bucket refilled (R570). -/
def bucketsFull (s : State) : State := stmSet s { s.stm with buckets := [] }

/-! ### Reading (R578) -/

/-- Whole records as stored from a sequence number on, up to 4,096 bytes. -/
def fitRecords (rs : List Rec) (room : Nat) : Bytes :=
  match rs with
  | [] => []
  | r :: rest => if recSize r ≤ room then recBytes r ++ fitRecords rest (room - recSize r) else []

/-- The value of READ_BLOCK (R578): records of the area READ_AREA names, from READ_FROM on, zero-filled; LAST includes staged records. -/
def readBlock (s : State) : Bytes :=
  let area := odNum s 0x900401 1 0
  let from_ := odNum s 0x900402 8 0
  let rs := if area = 1 then (s.stm.first.filter (fun r => !r.torn)).map AreaRec.rcd
            else (s.stm.last.filter (fun r => !r.torn)).map AreaRec.rcd ++ s.stm.staging
  let b := fitRecords (rs.filter (fun r => decide (from_ ≤ r.seq))) 4096
  b ++ List.replicate (4096 - b.length) 0

/-! ### Clearing (R580) -/

/-- The clear begun (R580 step 1): CLEAR_INTENT is written and programmed into LAST, which is the commit point. -/
def clearBegin (s : State) (route client : Nat) : State :=
  let s1 := record s Ev.CLEAR_INTENT 0xFF []
  let i := s1.stm.headSeq
  let s2 := programAll s1
  stmSet s2 { s2.stm with clearing := some ⟨.eraseFirst 0, i, route, client⟩ }

/-- The sector of LAST that holds CLEAR_INTENT (R580). -/
def intentSector (s : State) (i : Nat) : Nat :=
  match s.stm.last.find? (fun r => r.rcd.seq = i) with | some r => r.sector | none => 480

/-- Step 3 of the clear (R580): what is staged goes into LAST, which is erased after it; RECORDER_CLEARED is admitted as the first record
of FIRST and, once its sector is erased, of LAST; every bucket is refilled. -/
def clearRecord (s : State) (c : Clearing) : State :=
  let s1 := programAll s
  let n := s1.stm.last.length
  let s2 := bucketsFull (stmSet s1 { s1.stm with first := [], firstSector := 0, firstUsed := 0, firstFull := false, staging := [] })
  let s3 := record s2 Ev.RECORDER_CLEARED 0xFF (le 1 c.route ++ le 1 c.client ++ le 8 c.intentSeq ++ le 4 n)
  stmSet s3 { s3.stm with clearing := some { c with stage := .eraseLast 0 }, lastSector := 479, lastUsed := 65536 }

/-- The end of one erase of a clear (R580): the next sector, or the next step. -/
def clearStep (s : State) : State :=
  match s.stm.clearing with
  | none => s
  | some c =>
    if s.stm.eraseStopped then s
    else match c.stage with
    | .eraseFirst k =>
      let s1 := firstErase s k
      if k < 31 then stmSet s1 { s1.stm with clearing := some { c with stage := .eraseFirst (k + 1) } } else clearRecord s1 c
    | .eraseLast k =>
      let hold := intentSector s c.intentSeq
      if k < 480 then
        let s1 := if k = hold then s else lastErase s k
        stmSet s1 { s1.stm with
          clearing := some { c with stage := .eraseLast (k + 1) }
          lastSector := if k = 0 then 0 else s1.stm.lastSector
          lastUsed := if k = 0 then (if hold = 0 then 65536 else 0) else s1.stm.lastUsed }
      else
        let s1 := if hold < 480 then lastErase s hold else s
        let n := stmRd s1.stm Reg.STM_STATUS_CLEARS
        lineReserve (stmSet s1 (stmWr (stmWr { s1.stm with clearing := none } Reg.STM_STATUS_CLEARS (satTo 0xFFFF (n + 1)))
          Reg.STM_EVENTS_CLEARED 1))
    | _ => s

end Sys2Proof.Machine
end

