-- ==== Sys2Proof/Machine/FlashCmds.lean ====
section
/-!
DEFINITION. The meanings of the flash controller's commands (spec/19, R537 to R553).
-/
namespace Sys2Proof.Machine

/-! ### Claims (R540, R70) -/

/-- The refusal of an access to a register of a bank by its master, or by the flash controller's domain being off (R60, R62, R616). -/
def flsShut (s : State) (m off : Nat) : Option State :=
  match masterRefused s m off with
  | some t => some t
  | none => if regPowered s off then none else some (csrRefuse s m 3 off)

/-- FLS_BANK_CLAIM: a read of FLS_B_CLAIM returns 1 and makes the reader owner when the bank is free, and 0 when it is owned. -/
def execFlsBankClaim (m : Fin 11) (b : Fin 4) (s : State) : Host.Outcome State Fault Refusal :=
  let off := 0x341000 + 0x400 * b.val
  let own := rd s (Reg.FLS_B_CLAIM_OWNER b)
  .next <|
    match masterRefused s m off with
    | some t => t
    | none =>
    if !regPowered s off then emit (csrRefuse s m 3 off) (.csrData m off 0)
    else if own = 0xF then
      emit (wr (wr s (Reg.FLS_B_CLAIM_OWNER b) m) (Reg.FLS_B_CLAIM_CLAIM b) 0) (.csrData m off (BitVec.ofNat 32 (1 + 2 * 0xF)))
    else emit s (.csrData m off (BitVec.ofNat 32 (2 * own)))

/-- The bank made free. -/
def flsRelease (s : State) (b : Nat) : State :=
  wr (wr s (Reg.FLS_B_CLAIM_OWNER b) 0xF) (Reg.FLS_B_CLAIM_CLAIM b) 1

/-- FLS_BANK_RELEASE: the owner writes RELEASE; a write by another master is ignored (R62 cause 7). -/
def execFlsBankRelease (m : Fin 11) (b : Fin 4) (s : State) : Host.Outcome State Fault Refusal :=
  .next <|
    match flsShut s m (0x341000 + 0x400 * b.val) with
    | some t => t
    | none => if rd s (Reg.FLS_B_CLAIM_OWNER b) = m.val then flsRelease s b else csrRefuse s m 7 (0x341000 + 0x400 * b.val)

/-! ### Commands (R540 to R547) -/

/-- A command issued by a master that owns the bank, with OP as written beside START: other masters are refused (R540), a disabled
controller answers FUNCTION_DISABLED (R480). -/
def flsIssue (s : State) (m b op : Nat) (run : State → State) : State :=
  match flsShut s m (0x341004 + 0x400 * b) with
  | some t => t
  | none =>
  if rd s (Reg.FLS_B_CLAIM_OWNER b) ≠ m then csrRefuse s m 7 (0x341004 + 0x400 * b)
  else
    let s1 := wr (wr s (Reg.FLS_B_CMD_OP b) op) (Reg.FLS_B_CMD_ABORT_RESULT b) 0
    if !fnOpen s .fls then flsStatus s1 b .functionDisabled else run s1

/-- The status word (R543). -/
def statusWord (b reason sector : Nat) : Bytes := le 4 (0xF5000000 + b * 2 ^ 22 + reason * 2 ^ 20 + sector)

/-- The status word in every word of the page window, with BUSY_RETRY (R543). -/
def flsBusyRead (s : State) (b reason sector : Nat) : State :=
  flsStatus (bump (flsSet s b { flsBank s b with data := (List.replicate 64 (statusWord b reason sector)).flatten })
    Reg.FLS_ERR_BUSY_READS 1) b .busyRetry

/-- The sector of the operation that runs or is suspended. -/
def opSector (v : FlsBank) : Nat := flsSector ((v.op.map FlsOp.addr).getD 0)

/-- The range of a READ or PROGRAM (R541): LENGTH, then ALIGNMENT. -/
def flsRange (addr len : Nat) : Option Status :=
  if len = 0 ∨ 256 < len then some .length else if 256 < addr % 256 + len then some .alignment else none

/-- FLASH_READ: up to 256 bytes within a page, or the status word from a busy bank, a suspended sector or an INDETERMINATE one (R541, R543,
R544, R549). -/
def execFlashRead (m : Fin 11) (b : Fin 4) (corrected : Bool) (s : State) : Host.Outcome State Fault Refusal :=
  .next <| flsIssue s m b 0 (fun s =>
    let addr := rd s (Reg.FLS_B_ADDR_ADDR b)
    let len := rd s (Reg.FLS_B_LEN_LEN b)
    let v := flsBank s b
    match flsRange addr len with
    | some st => flsStatus s b st
    | none =>
      if v.prog.isSome || v.st = .programming then flsBusyRead s b 0 (flsSector (((v.prog <|> v.op).map FlsOp.addr).getD 0))
      else if v.st = .erasing then flsBusyRead s b 1 (opSector v)
      else if v.st = .eraseSuspended ∧ flsSector addr = opSector v then flsBusyRead s b 2 (opSector v)
      else if v.indet.contains (flsSector addr) then flsBusyRead s b 3 (flsSector addr)
      else
        let s1 := flsSet s b { v with data := flsBytes s b addr len ++ v.data.drop len }
        if corrected then flsStatus (bump s1 Reg.FLS_ERR_CORRECTED 1) b .okCorrected else flsStatus s1 b .ok)

/-- READ_WEAR: a sector's erase count in the first word of the page window (R553). -/
def execReadWear (m : Fin 11) (b : Fin 4) (s : State) : Host.Outcome State Fault Refusal :=
  .next <| flsIssue s m b 5 (fun s =>
    let addr := rd s (Reg.FLS_B_ADDR_ADDR b)
    let v := flsBank s b
    if addr % 65536 ≠ 0 then flsStatus s b .alignment
    else flsStatus (flsSet s b { v with data := le 4 (amGet v.wear (flsSector addr) 0) ++ v.data.drop 4 }) b .ok)

/-- The partition of an address is protected (FLS_PROTECT, R538, R541). -/
def flsProtected (s : State) (b addr : Nat) : Bool :=
  match b with
  | 0 => rdb s Reg.FLS_PROTECT_WP_SLOT_A
  | 1 => rdb s Reg.FLS_PROTECT_WP_SLOT_B
  | 2 => if addr < 0x2000000 then rdb s Reg.FLS_PROTECT_WP_CFG else rdb s Reg.FLS_PROTECT_WP_STAMP
  | _ => rdb s Reg.FLS_PROTECT_WP_META

/-- A bit that is 0 would become 1. -/
def raisesBit (old new : Bytes) : Bool := (old.zip new).any (fun e => e.2 &&& ~~~ e.1 ≠ 0)

/-- An operation started in the die, its commit point (R542): the flag cell of an ERASE is set first (R548). -/
def flsStart (s : State) (b : Nat) (o : FlsOp) : State :=
  let v := flsBank s b
  let v1 := if v.st = .eraseSuspended then { v with prog := some o } else
    { v with op := some o, st := if o.erase then .erasing else .programming }
  let k := flsSector o.addr
  flsBusy (flsSet s b (if o.erase && !v1.flags.contains k then { v1 with flags := v1.flags ++ [k] } else v1)) b true

/-- FLASH_PROGRAM: up to 256 bytes programmed within a page (R541, R542, R544, R549). While another operation runs it waits its turn. -/
def execFlashProgram (m : Fin 11) (b : Fin 4) (s : State) : Host.Outcome State Fault Refusal :=
  .next <| flsIssue s m b 1 (fun s =>
    let addr := rd s (Reg.FLS_B_ADDR_ADDR b)
    let len := rd s (Reg.FLS_B_LEN_LEN b)
    let v := flsBank s b
    let bs := (v.data ++ List.replicate (256 - v.data.length) 0).take len
    match flsRange addr len with
    | some st => flsStatus s b st
    | none =>
      if raisesBit (flsBytes s b addr len) bs then flsStatus s b .badDescriptor
      else if flsProtected s b addr then flsStatus s b .access
      else if v.indet.contains (flsSector addr) then flsStatus s b .busyRetry
      else if v.st = .eraseSuspended ∧ (flsSector addr = opSector v ∨ v.prog.isSome) then flsStatus s b .busyRetry
      else if v.st = .programSuspended then flsStatus s b .busyRetry
      else if flsRunning v then flsBusy (flsSet s b { v with queue := v.queue ++ [⟨false, addr, bs⟩] }) b true
      else flsStart s b ⟨false, addr, bs⟩)

/-- FLASH_ERASE: a sector erased, its flag cell set first (R541, R542, R544, R548, R552). While another operation runs it waits its turn. -/
def execFlashErase (m : Fin 11) (b : Fin 4) (s : State) : Host.Outcome State Fault Refusal :=
  .next <| flsIssue s m b 2 (fun s =>
    let addr := rd s (Reg.FLS_B_ADDR_ADDR b)
    let v := flsBank s b
    if addr % 65536 ≠ 0 then flsStatus s b .alignment
    else if flsProtected s b addr then flsStatus s b .access
    else if s.fls.frozen then flsStatus s b .notReady
    else if v.st = .eraseSuspended || v.st = .programSuspended then flsStatus s b .busyRetry
    else if flsRunning v then flsBusy (flsSet s b { v with queue := v.queue ++ [⟨true, addr, []⟩] }) b true
    else flsStart s b ⟨true, addr, []⟩)

/-- FLASH_SUSPEND: the running erase or program is to be suspended, once the minimum run time has passed (R541, R544 to R546). -/
def execFlashSuspend (m : Fin 11) (b : Fin 4) (s : State) : Host.Outcome State Fault Refusal :=
  .next <| flsIssue s m b 3 (fun s =>
    let v := flsBank s b
    if v.prog.isSome then flsStatus s b .busyRetry
    else if !flsRunning v then flsStatus s b .badDescriptor
    else flsSet s b { v with suspend := true })

/-- FLASH_SUSPEND_EFFECT: the suspend takes effect, and SUSPEND ends with OK (R545, R546). -/
def execFlashSuspendEffect (b : Fin 4) (s : State) : Host.Outcome State Fault Refusal :=
  let v := flsBank s b
  .next <|
    if v.suspend ∧ flsRunning v ∧ v.window = none then
      flsStatus (flsSet s b { v with suspend := false, st := if v.st = .erasing then .eraseSuspended else .programSuspended }) b .ok
    else s

/-- FLASH_RUN_WINDOW_END: the minimum run time after RESUME ends, and a deferred SUSPEND proceeds (R546). -/
def execFlashRunWindowEnd (b : Fin 4) (s : State) : Host.Outcome State Fault Refusal :=
  .next (flsSet s b { flsBank s b with window := none })

/-- FLASH_RESUME: the suspended operation runs again, for at least 1,000 µs (R541, R546, R552). -/
def execFlashResume (m : Fin 11) (b : Fin 4) (s : State) : Host.Outcome State Fault Refusal :=
  .next <| flsIssue s m b 4 (fun s =>
    let v := flsBank s b
    if v.st ≠ .eraseSuspended ∧ v.st ≠ .programSuspended then flsStatus s b .badDescriptor
    else if v.prog.isSome then flsStatus s b .busyRetry
    else if v.st = .eraseSuspended ∧ s.fls.frozen then flsStatus s b .notReady
    else flsStatus (flsSet s b { v with
      st := if v.st = .eraseSuspended then .erasing else .programming, window := some s.time }) b .ok)

/-- FLASH_ABORT: an operation issued and not started ends with ABORTED; one that has started runs on, and the abort returns
ABORT_TOO_LATE (R493, R494, R542). -/
def execFlashAbort (m : Fin 11) (b : Fin 4) (s : State) : Host.Outcome State Fault Refusal :=
  let v := flsBank s b
  .next <|
    match flsShut s m (0x341004 + 0x400 * b.val) with
    | some t => t
    | none =>
    if rd s (Reg.FLS_B_CLAIM_OWNER b) ≠ m.val then csrRefuse s m 7 (0x341004 + 0x400 * b.val)
    else if v.queue ≠ [] then
      wr (flsStatus (flsSet s b { v with queue := v.queue.dropLast }) b .aborted) (Reg.FLS_B_CMD_ABORT_RESULT b) (statusCode .aborted)
    else if v.op.isSome || v.prog.isSome then wr s (Reg.FLS_B_CMD_ABORT_RESULT b) (statusCode .abortTooLate)
    else flsStatus s b .badDescriptor

/-- The next operation that waits its turn started; with none, BUSY clears. -/
def flsNext (s : State) (b : Nat) : State :=
  let v := flsBank s b
  if flsRunning v || v.prog.isSome then s
  else match v.queue with
  | [] => flsBusy s b v.op.isSome
  | o :: r =>
    let s1 := flsSet s b { v with queue := r }
    if o.erase ∧ s.fls.frozen then flsBusy (flsStatus s1 b .notReady) b (v.op.isSome) else flsStart s1 b o

/-- A SUSPEND that waits when its operation ends has nothing to suspend (R547). -/
def suspendLost (s : State) (b : Nat) : State :=
  let v := flsBank s b
  if v.suspend then flsStatus (flsSet s b { v with suspend := false }) b .badDescriptor else s

/-- FLASH_PROGRAM_DONE: a PROGRAM ends, verified or failed with INTERNAL and record 0xD005 (R553). -/
def execFlashProgramDone (b : Fin 4) (ok : Bool) (s : State) : Host.Outcome State Fault Refusal :=
  let v := flsBank s b
  let o : Option FlsOp := if v.prog.isSome then v.prog else if v.st = .programming then v.op else none
  .next <|
    match o with
    | none => s
    | some x =>
      let old := flsBytes s b x.addr x.data.length
      let done := if ok then ((old.zip x.data).map (fun e => e.1 &&& e.2), s) else mixBytes s old x.data
      let v1 := if v.prog.isSome then { v with prog := none } else { v with op := none, st := .idle, window := none }
      let s1 := flsSet done.2 b { v1 with cells := memWriteBytes 0xFF v1.cells x.addr done.1 }
      let s2 := if ok then flsStatus s1 b .ok
        else fault (flsStatus (setF (bump s1 Reg.FLS_ERR_FAILED 1) Reg.FLS_EVENTS_FAILED) b .internal) .flash Ev.FLASH_PROGRAM_FAILED
          0xFF (le 1 b ++ le 2 (flsSector x.addr))
      flsNext (suspendLost s2 b) b

/-- FLASH_ERASE_DONE: an ERASE verifies and clears its flag, and an INDETERMINATE sector recovers (R548, R550); or it fails, ends with
INTERNAL, writes record 0xD004 and leaves the flag set (R553). -/
def execFlashEraseDone (b : Fin 4) (ok : Bool) (s : State) : Host.Outcome State Fault Refusal :=
  let v := flsBank s b
  .next <|
    match (if v.st = .erasing then v.op else none) with
    | none => s
    | some x =>
      let k := flsSector x.addr
      let s1 := flsSet s b { v with op := none, st := .idle, window := none }
      let s2 :=
        if ok then
          let was := v.indet.contains k
          let sE := sectorErase s1 b k
          let s3 := flsSet sE b { flsBank sE b with flags := v.flags.filter (· ≠ k), indet := v.indet.filter (· ≠ k) }
          let s4 := if was then record (setF s3 Reg.FLS_EVENTS_RECOVERED) Ev.FLASH_SECTOR_RECOVERED 0xFF (le 1 b ++ le 2 k) else s3
          flsStatus s4 b .ok
        else
          let s3 := flsSet (flsWear s1 b k) b { flsBank (flsWear s1 b k) b with
            indet := if v.indet.contains k then v.indet else v.indet ++ [k] }
          fault (flsStatus (setF (bump s3 Reg.FLS_ERR_FAILED 1) Reg.FLS_EVENTS_FAILED) b .internal) .flash Ev.FLASH_ERASE_FAILED
            0xFF (le 1 b ++ le 2 k)
      flsNext (suspendLost s2 b) b

/-- FLS_CLAIM_EXPIRED: the owner has made no access for 1 s: the bank is released, and what it issued and has not started ends with
ABORTED (R70, R540). -/
def execFlsClaimExpired (b : Fin 4) (s : State) : Host.Outcome State Fault Refusal :=
  .next <|
    if rd s (Reg.FLS_B_CLAIM_OWNER b) = 0xF then s
    else
      let v := flsBank s b
      flsRelease (if v.queue = [] then s else flsStatus (flsSet s b { v with queue := [] }) b .aborted) b

/-- Bring-up step 4 (R549): a set flag cell marks its sector INDETERMINATE, with record 0xD001. -/
def flsScan (s : State) : State :=
  let ks := [0, 1, 2, 3].flatMap (fun b => (flsBank s b).flags.map (fun k => (b, k)))
  let s1 := { s with fls := { s.fls with flagsRead := true, frozen := false } }
  ks.foldl (fun (t : State) (e : Nat × Nat) =>
    let v := flsBank t e.1
    record (setF (flsSet t e.1 { v with indet := if v.indet.contains e.2 then v.indet else v.indet ++ [e.2] })
      Reg.FLS_EVENTS_UNFINISHED) Ev.FLASH_ERASE_UNFINISHED 0xFF (le 1 e.1 ++ le 2 e.2)) s1

end Sys2Proof.Machine
end

