-- ==== Sys2Proof/Machine/FirmwareOps.lean ====
section
/-!
DEFINITION. Shared operations of the firmware slots (spec/20): image verification, the choice of the slot, writing, activating and
confirming.
-/
namespace Sys2Proof.Machine

/-- The firmware state replaced. -/
def fwSet (s : State) (f : Fw) : State := { s with fw := f }

/-- A slot of the boot record. -/
def fwSlot (s : State) (k : Nat) : FwSlot := if k = 0 then s.fw.slotA else s.fw.slotB

/-- A slot replaced; the boot record is written, so that both copies are good again. -/
def fwSlotSet (s : State) (k : Nat) (v : FwSlot) : State :=
  fwSet s (if k = 0 then { s.fw with slotA := v, copyA := true, copyB := true }
           else { s.fw with slotB := v, copyA := true, copyB := true })

/-- A field of the image header of a slot (R554). -/
def imgField (s : State) (k off n : Nat) : Nat := leNat (flsBytes s k off n)

/-- The entries of the section table: type, offset, length and hash (R554). -/
def imgSections (s : State) (k : Nat) : List (Nat × (Nat × (Nat × Bytes))) :=
  (List.range (imgField s k 24 2)).map (fun i =>
    let o := 64 + 64 * i
    (imgField s k o 1, (imgField s k (o + 4) 4, (imgField s k (o + 8) 4, flsBytes s k (o + 12) 48))))

/-- The check of R555 that an image fails, numbered in the order of the rule: 1 magic and format, 2 revoked key, 3 signature, 4 MIN_ROM,
5 a section's place or hash, 6 pommel or keeper sections, 7 microcode sections, 8 extension sections. -/
def imgFails (s : State) (k : Nat) : Option Nat :=
  let secs := imgSections s k
  let len := imgField s k 20 4
  let count := fun (t : Nat) => (secs.filter (fun x => x.1 == t)).length
  let key := imgField s k 6 1
  if imgField s k 0 4 ≠ 0x4E574649 ∨ imgField s k 4 2 ≠ 1 then some 1
  else if 3 < key ∨ Config.keyRevoked key then some 2
  else if Config.signatureGood key (flsBytes s k 0 3968) (flsBytes s k 3968 96) = false ∨
      (flsBank s k).indet.any (fun x => decide (x * 65536 < len)) then some 3
  else if rd s Reg.GLB_REV_ROM_VER < imgField s k 16 1 then some 4
  else if len % 4096 ≠ 0 ∨ 0x4000000 < len ∨ secs = [] ∨ 32 < secs.length ∨
      secs.any (fun x => decide (len < x.2.1 + x.2.2.1) || !(Config.sha384 (flsBytes s k x.2.1 x.2.2.1) == x.2.2.2)) then some 5
  else if count 0 ≠ 1 ∨ count 1 ≠ 1 then some 6
  else if count 2 = 0 then some 7
  else if 1 < count 3 then some 8
  else none

/-- The image of a slot verifies (R555); one that does not is recorded (0xD010) with the slot and the check. -/
def imgVerify (s : State) (k : Nat) : Bool × State :=
  match imgFails s k with
  | none => (true, s)
  | some c => (false, fault s .flash Ev.FW_SLOT_BAD 0xFF (le 1 k ++ le 1 c))

/-! ### The choice at bring-up step 5 (R557 to R559, R564, R565) -/

/-- The layers of the configuration area in use. -/
def areaLayers (s : State) : List Layer := [s.dict.base, s.dict.native, s.dict.compat, s.dict.single, s.dict.service]

/-- The layers put back. -/
def areaRestore (s : State) (ls : List Layer) : State :=
  match ls with
  | [a, b, c, d, e] => { s with dict := { s.dict with base := a, native := b, compat := c, single := d, service := e } }
  | _ => s

/-- A slot booted: what runs takes its version, protocol and format from the image. -/
def bootSlot (s : State) (k : Nat) (trial : Bool) : State :=
  fwSet s { s.fw with
    running := k, onTrial := trial, since := none
    protoMajor := imgField s k 13 1, protoMinor := imgField s k 12 1
    version := imgField s k 8 4, cfgFormat := imgField s k 14 2 }

/-- The trial slot's end without confirmation (R558, R559): counted unless marked, REJECTED at the third failure, else VALID; its
configuration area is left behind (R564). -/
def trialFailed (s : State) (k : Nat) (count : Bool) : State :=
  let v := fwSlot s k
  let n := if count then v.trials + 1 else v.trials
  let s1 := fwSlotSet s k { v with trials := n, st := if 3 ≤ n then .rejected else .valid }
  let s2 := fwSet s1 { s1.fw with trialRunning := false, notCounted := false, spare := none }
  let s3 := match s.fw.spare with | some ls => areaRestore s2 ls | none => s2
  let s4 := if 3 ≤ n then fault s3 .flash Ev.FW_REJECTED 0xFF (le 1 k) else s3
  fault s4 .flash Ev.FW_FALLBACK 0xFF (le 1 k)

/-- The confirmed slot booted; where its image fails, the other VALID slot that verifies takes its place (R558). The Bool says
whether a slot boots. -/
def bootConfirmed (s : State) : Bool × State :=
  let c := s.fw.confirmed
  let (ok, s1) := imgVerify s c
  if ok then (true, bootSlot s1 c false)
  else if (fwSlot s1 (1 - c)).st = .valid then
    let (ok2, s2) := imgVerify s1 (1 - c)
    if ok2 then
      let s3 := fwSlotSet (fwSlotSet s2 (1 - c) { fwSlot s2 (1 - c) with st := .confirmed }) c { fwSlot s2 c with st := .empty }
      (true, bootSlot (fault (fwSet s3 { s3.fw with confirmed := 1 - c }) .flash Ev.FW_FALLBACK 0xFF (le 1 c)) (1 - c) false)
    else (false, s2)
  else (false, s1)

/-- A trial begun (R558, R564): the new image converts the configuration into the other area, and stores go there alone. -/
def trialBegin (s : State) (k : Nat) : State :=
  let s1 := fwSlotSet s k { fwSlot s k with st := .trial }
  let s2 := fwSet s1 { s1.fw with trialRunning := true, notCounted := false, spare := some (areaLayers s) }
  record (record (bootSlot s2 k true) Ev.FW_TRIAL_START 0xFF (le 1 k)) Ev.CFG_CONVERTED 0xFF []

/-- The slot chosen and booted at step 5 (R557, R558, R565). The Bool says whether a slot boots. -/
def bootChoose (s : State) : Bool × State :=
  if !s.fw.copyA && !s.fw.copyB then
    let s0 := fault s .flash Ev.BOOT_RECORD_CORRUPT 0xFF []
    let (a, s1) := imgVerify s0 0
    let (b, s2) := if a then (true, s1) else imgVerify s1 1
    let k := if a then 0 else 1
    let st := fun (i : Nat) => if i = k then FwSt.confirmed else if (imgFails s2 i).isNone then FwSt.valid else FwSt.empty
    let s3 := fwSet s2 { s2.fw with
      copyA := true, copyB := true, confirmed := k, trialRunning := false, notCounted := false, forced := none, curArea := 0
      slotA := { st := st 0, trials := 0, version := imgField s2 0 8 4 }
      slotB := { st := st 1, trials := 0, version := imgField s2 1 8 4 } }
    if b then (true, bootSlot s3 k false) else (false, s3)
  else
    let forced : Option Nat := match s.fw.forced with
      | some f => if (imgFails s f).isNone then some f else none
      | none => none
    match forced with
    | some f =>
      let s1 := fwSlotSet (fwSlotSet s f { fwSlot s f with st := .confirmed }) (1 - f) { fwSlot s (1 - f) with st := .valid }
      let s2 := record (bootSlot (fwSet s1 { s1.fw with
        confirmed := f, forced := none, trialRunning := false, notCounted := false, spare := none }) f false)
        Ev.FW_FORCED_SLOT 0xFF (le 1 f)
      (true, if s2.fw.cfgFormat = s.fw.cfgFormat then s2
        else record (fwSet s2 { s2.fw with curArea := 1 - s2.fw.curArea }) Ev.CFG_CONVERTED 0xFF [])
    | none =>
      if s.fw.trialRunning then
        bootConfirmed (trialFailed s (1 - s.fw.confirmed) (!s.fw.notCounted))
      else if (fwSlot s (1 - s.fw.confirmed)).st = .pending then
        let k := 1 - s.fw.confirmed
        let (ok, s1) := imgVerify s k
        if ok then (true, trialBegin s1 k) else bootConfirmed (trialFailed s1 k true)
      else bootConfirmed s

/-! ### Writing and activating (R560, R561) -/

/-- The slot that FW_DATA and FW_ACTIVATE act on: the one that is neither CONFIRMED nor TRIAL (R560). -/
def fwTarget (s : State) : Nat := 1 - s.fw.confirmed

/-- A write of FW_DATA (R560): the sector at FW_OFFSET erased and programmed, FW_OFFSET advanced. -/
def fwData (s : State) (data : Bytes) : Status × State :=
  let k := fwTarget s
  let off := odNum s 0xA00201 4 0
  if s.fw.onTrial then (.busyRetry, s)
  else if 0x4000000 ≤ off then (.badDescriptor, s)
  else if flsRunning (flsBank s k) || (flsBank s k).op.isSome then (.busyRetry, s)
  else
    let s1 := sectorErase s k (off / 65536)
    let v := flsBank s1 k
    let s2 := flsSet s1 k { v with
      cells := memWriteBytes 0xFF v.cells off data
      flags := v.flags.filter (· ≠ off / 65536), indet := v.indet.filter (· ≠ off / 65536) }
    let s3 := fwSlotSet s2 k { fwSlot s2 k with st := .empty, trials := 0 }
    (.ok, { s3 with dict := { s3.dict with active := amSet s3.dict.active 0xA00201 (le 4 (off + 65536)) } })

/-- An image of a slot could pair with the twin's protocol version (R349, R561). -/
def imgPairs (s : State) (k : Nat) : Bool :=
  protoFits (fwSet s { s.fw with protoMajor := imgField s k 13 1, protoMinor := imgField s k 12 1 }) s.twin.peerMajor s.twin.peerMinor

/-- A write of FW_ACTIVATE (R561). -/
def fwActivate (s : State) (v : Nat) : Status × State :=
  let k := fwTarget s
  let w := fwSlot s k
  if v ≠ 0x41435456 ∧ v ≠ 0x41435446 ∧ v ≠ 0x43414E43 then (.badDescriptor, s)
  else if s.fw.onTrial then (.busyRetry, s)
  else if v = 0x43414E43 then
    (if w.st = .pending then (.ok, fwSlotSet s k { w with st := .valid }) else (.badDescriptor, s))
  else if w.st = .rejected then (.badDescriptor, s)
  else
    let (ok, s1) := imgVerify s k
    if !ok then (.badDescriptor, fwSlotSet s1 k { w with st := .empty })
    else
      let w1 := { w with version := imgField s k 8 4 }
      if v = 0x41435456 ∧ s.twin.link = .paired ∧ imgPairs s k = false then (.badDescriptor, fwSlotSet s1 k { w1 with st := .valid })
      else (.ok, fwSlotSet s1 k { w1 with st := .pending })

/-! ### Confirmation (R562, R563) -/

/-- The conditions under which the confirmation count runs (R562). -/
def confirmHolds (s : State) : Bool :=
  s.fw.onTrial && s.boot.ready && (s.twin.link = .paired || s.dict.inForce.contains .single)

/-- The count kept: it starts when the conditions begin to hold and ends when they cease. -/
def confirmTrack (s : State) : State :=
  if confirmHolds s then (if s.fw.since.isSome then s else fwSet s { s.fw with since := some s.time })
  else if s.fw.since.isSome then fwSet s { s.fw with since := none } else s

end Sys2Proof.Machine
end

