-- ==== Sys2Proof/Machine/Firmware.lean ====
section
/-!
DEFINITION. The meaning of FW_CONFIRMED (spec/20, R562, R563); the writes of FW_DATA and FW_ACTIVATE are dictionary writes.
-/
namespace Sys2Proof.Machine

/-- FW_CONFIRMED: CONFIRM_TIME has passed with the conditions held: one write of the boot record makes the trial slot CONFIRMED, the
former one VALID and the trial area current (R562, R563). From COMMIT entry none is written. -/
def execFwConfirmed (s : State) : Host.Outcome State Fault Refusal :=
  .next <|
    match s.fw.since with
    | none => s
    | some t =>
      if !confirmHolds s || s.cin.phase = .commit || decide (s.time < t + secs (odNum s 0xA00101 4 600)) then s
      else
        let k := s.fw.running
        let s1 := fwSlotSet (fwSlotSet s k { fwSlot s k with st := .confirmed }) (1 - k) { fwSlot s (1 - k) with st := .valid }
        record (fwSet s1 { s1.fw with
          confirmed := k, trialRunning := false, notCounted := false, onTrial := false, since := none, spare := none
          curArea := 1 - s1.fw.curArea }) Ev.FW_CONFIRMED 0xFF (le 1 k)

end Sys2Proof.Machine
end

