-- ==== Sys2Proof/Machine/Ring.lean ====
section
/-!
DEFINITION. The meanings of the coherence messages on the Girth ring and of the keeper cluster caches (spec/08, R227 to
R257): agents, homes, rounds, guards.
-/
namespace Sys2Proof.Machine

/-! ### Agents -/

/-- The entry of an agent's line; no entry is I. -/
def agentFind (s : State) (a line : Nat) : Option AgentLine :=
  s.ring.agents.find? (fun l => l.agent = a ∧ l.line = line)

/-- The state with an agent's line put in or replaced. -/
def agentPut (s : State) (l : AgentLine) : State :=
  { s with
  ring := { s.ring with
    agents :=
      (s.ring.agents.filter (fun x => !(x.agent == l.agent && x.line == l.line)) ++ [l]) } }

/-- The state with an agent's line in I. -/
def agentDrop (s : State) (a line : Nat) : State :=
  { s with ring := { s.ring with agents := s.ring.agents.filter (fun x => !(x.agent == a && x.line == line)) } }

/-- The line is host-visible: it is the working copy of a segment (R228). -/
def hostVisible (s : State) (dl : Nat) : Bool := (homeOfDram s dl).isSome

/-- The state codes of GRT_ERR. -/
def agentStCode (x : Option AgentLine) : Nat :=
  match x.map AgentLine.st with
  | none => 0
  | some .s => 1
  | some .e => 2
  | some .m => 3
  | some .isD => 4
  | some .imD => 5
  | some .smD => 6
  | some .miA => 7

/-- An agent isolated at S2 (R256): its lines count as I, records 0x5012 and the fault's own. -/
def isolateAgent (s : State) (a : Nat) : State :=
  let s1 := { s with
    ring := { s.ring with
    agents := s.ring.agents.filter (fun l => l.agent ≠ a)
    isolated := if s.ring.isolated.contains a then s.ring.isolated else s.ring.isolated ++ [a] } }
  record (setF s1 Reg.GRT_EVENTS_ISOLATED) Ev.AGENT_ISOLATED a []

/-- A protocol error (R257): the message is dropped, the agent, state and message are recorded, and the agent isolated; an
agent number of 15 marks an error found by the home. -/
def protocolError (s : State) (a st msg line : Nat) : State :=
  let s1 := wr (wr (wr (wr (setF s Reg.GRT_EVENTS_PROTOCOL_ERROR) Reg.GRT_ERR_AGENT a) Reg.GRT_ERR_STATE st)
    Reg.GRT_ERR_MESSAGE msg) Reg.GRT_ERR_SLICE (treeSlice line)
  if a = 15 then record s1 Ev.COHERENCE_PROTOCOL_ERROR a (le 6 line)
  else isolateAgent (gradeFault (recordAt s1 Ev.COHERENCE_PROTOCOL_ERROR.code 2 a (le 6 line))
    (if a = 0 ∨ a = 4 then .ring else .agent a) Ev.COHERENCE_PROTOCOL_ERROR.code a 2 (if a = 0 ∨ a = 4 then 4 else 2)) a

/-- A message an agent sends to a home. -/
def toHome (s : State) (m : RingMsg) (a line : Nat) (data : Bytes) : State := emit s (.ring m a line data)

/-- SNP_S or SNP_INV received by an agent and answered by its state (R234, R243). -/
def agentSnoop (inv : Bool) (a line : Nat) (s : State) : State :=
  match agentFind s a line with
  | none => toHome s .ackI a line []
  | some l => match l.st with
    | .s => if inv then toHome (agentDrop s a line) .ackI a line [] else toHome s .ackS a line []
    | .e => if inv then toHome (agentDrop s a line) .ackI a line [] else toHome (agentPut s { l with st := .s }) .ackS a line []
    | .m => if inv then toHome (agentDrop s a line) .ackData a line l.data
      else toHome (agentPut s { l with st := .s }) .ackData a line l.data
    | .isD | .imD => toHome s .ackI a line []
    | .smD => if inv then toHome (agentPut s { l with st := .imD }) .ackI a line [] else toHome s .ackS a line []
    | .miA => toHome s .wbPending a line []

/-- SNP_S: an agent receives SNP_S (R234). -/
def execSnpS (a : Fin 5) (line : Nat) (s : State) : Host.Outcome State Fault Refusal := .next (agentSnoop false a line s)

/-- SNP_INV: an agent receives SNP_INV (R234). -/
def execSnpInv (a : Fin 5) (line : Nat) (s : State) : Host.Outcome State Fault Refusal := .next (agentSnoop true a line s)

/-- Bytes stored over part of a line. -/
def patch (d : Bytes) (off : Nat) (b : Bytes) : Bytes := d.take off ++ b ++ d.drop (off + b.length)

/-- The access that waited for a line is served (R234): a load's data goes to its core. -/
def serveCore (s : State) (l : AgentLine) (data : Bytes) : State :=
  if l.store = [] then emit s (.coreData l.core l.line data) else s

/-- DATA_S: an agent receives DATA_S (R234): IS_D enters S, the load is served and DONE sent; any other state is an
error. -/
def execDataS (a : Fin 5) (line : Nat) (data : Bytes) (s : State) : Host.Outcome State Fault Refusal :=
  .next <|
    match agentFind s a line with
    | some l => if l.st = .isD
      then toHome (serveCore (agentPut s { l with st := .s, data := data, nacks := 0 }) l data) .done a line []
      else protocolError s a (agentStCode (some l)) 9 line
    | none => protocolError s a 0 9 line

/-- DATA_E: an agent receives DATA_E (R234): IS_D enters E, IM_D and SM_D enter M with the store performed. -/
def execDataE (a : Fin 5) (line : Nat) (data : Bytes) (s : State) : Host.Outcome State Fault Refusal :=
  .next <|
    match agentFind s a line with
    | some l => match l.st with
      | .isD => toHome (serveCore (agentPut s { l with st := .e, data := data, nacks := 0 }) l data) .done a line []
      | .imD | .smD =>
        toHome (agentPut s { l with st := .m, data := patch data l.off l.store, store := [], nacks := 0 }) .done a line []
      | _ => protocolError s a (agentStCode (some l)) 10 line
    | none => protocolError s a 0 10 line

/-- WB_ACK: an agent in MI_A enters I (R234). -/
def execWbAck (a : Fin 5) (line : Nat) (s : State) : Host.Outcome State Fault Refusal :=
  .next <|
    match agentFind s a line with
    | some l => if l.st = .miA then agentDrop s a line else protocolError s a (agentStCode (some l)) 11 line
    | none => protocolError s a 0 11 line

/-- The backoff after the k-th consecutive NACK in units of 1/1,024 SYSCLK_IN cycle (R239): 16 ns × 2ᵏ, at most 2 µs. -/
def nackBackoff (k : Nat) : Nat := min (16 * 2 ^ min k 7) 2000 * 25600 / 1000

/-- NACK: an agent receives NACK (R234, R239): RETRY goes back to I or S and retries after its backoff; REFUSED faults the
store, a precise bus error with status ACCESS on its core. -/
def execNack (a : Fin 5) (line : Nat) (refused : Bool) (s : State) : Host.Outcome State Fault Refusal :=
  .next <|
    match agentFind s a line with
    | some l => match l.st with
      | .isD | .imD | .smD =>
        if refused then
          if l.st = .isD then protocolError s a 4 12 line
          else
            let s1 := if l.st = .smD then agentPut s { l with st := .s, store := [] } else agentDrop s a line
            emit s1 (.busError l.core (statusCode .access))
        else agentPut s { l with nacks := l.nacks + 1, retry := some (s.time + nackBackoff l.nacks) }
      | _ => protocolError s a (agentStCode (some l)) 12 line
    | none => protocolError s a 0 12 line

/-- NACK_RETRY_TIMER: the backoff of an agent's request expires and the request is sent again, with priority once the count
has reached NACK_PRIORITY (R239). -/
def execNackRetryTimer (a : Fin 5) (line : Nat) (s : State) : Host.Outcome State Fault Refusal :=
  .next <|
    match agentFind s a line with
    | some l =>
      if l.retry.isNone then s
      else
        let prio := decide (max 1 (rd s Reg.GRT_CFG_NACK_PRIORITY) ≤ l.nacks)
        let s1 := agentPut s { l with retry := none }
        let s2 := if prio then record (setF s1 Reg.GRT_EVENTS_STARVATION) Ev.NACK_STARVATION a (le 6 line) else s1
        toHome s2 (if l.st = .isD then .rdS else .rdX) a line []
    | none => s

/-! ### Homes -/

/-- Busy lines of a slice. -/
def sliceBusy (s : State) (sl : Nat) : Nat := (s.ring.busy.filter (fun t => treeSlice t.req.line = sl)).length

/-- Agent requests queued at a slice, with or without priority. -/
def sliceQueued (s : State) (sl : Nat) (prio : Bool) : Nat :=
  (s.ring.queue.filter (fun r => treeSlice r.line = sl ∧ r.prio = prio ∧ r.requester < 16)).length

/-- The Tree line of an internal line that is granted (R226, R237): its PEER bit is set, in a way allocated where none holds it. -/
def grantTree (s : State) (dl : Nat) (data : Bytes × Bool) : State :=
  match treeFind s dl with
  | some l => treePut s { l with peer := true }
  | none => match treeAlloc s dl with
    | (.got w, u) => treePut u { line := dl, way := w, st := .clean, age := insertAge s false, peer := true,
                                 data := data.1, poison := data.2 }
    | (.snoop _, u) => u
    | (.held, u) => u

/-- The grant of a request after its last answer (R236, R237, R238): a host-visible line grants DATA_S with pending bytes
merged; an internal line DATA_E where exclusive. -/
def grant (s : State) (t : HomeTxn) : State :=
  let dl := t.req.line
  let s1 := busyPut s { t with granted := true }
  match homeOfDram s dl with
  | some gl => readLine s1 (.agent t.req.requester) gl none
  | none =>
    let excl := t.req.kind = .rdX ∨ (t.anyS = false ∧ t.req.requester ≠ 3)
    emit (grantTree s1 dl (lineNow s dl)) (.ring (if excl then .dataE else .dataS) t.req.requester dl (lineNow s dl).1)

/-- The end of a round of answers (R235, R238, R241): the grant of a request, or what an invalidation was for. -/
def roundEnd (s : State) (t : HomeTxn) : State :=
  let dl := t.req.line
  let s0 := raiseTo (wr s Reg.GRT_ROUND_LAT_LAST (satTo 0xFFFF ((s.time - t.begun) * 1000 / 25600)))
    Reg.GRT_ROUND_LAT_MAX ((s.time - t.begun) * 1000 / 25600)
  let noPeer := fun x : State => match treeFind x dl with
    | some l => treePut x { l with peer := false }
    | none => x
  match t.req.kind with
  | .rdS | .rdX => grant s0 t
  | .hostWrite wid =>
    let s1 := noPeer (busyDrop s0 dl)
    let s2 := { s1 with
      host := { s1.host with
      writes := s1.host.writes.map (fun w => if w.id = wid then { w with round := false } else w) } }
    tryComplete s2 wid
  | .skive => skiveWriteAll (noPeer (busyDrop s0 dl))
  | .evict => match treeFind s0 dl with
    | some l => retryWay (treeEvict (busyDrop s0 dl) { l with peer := false })
    | none => retryWay (busyDrop s0 dl)
  | .segMove | .maint => match treeFind s0 dl with
    | some l => treeCleanInv (busyDrop s0 dl) { l with peer := false }
    | none => busyDrop s0 dl

/-- A round whose every answer has come (R252) goes on; one that still waits does not. -/
def roundCheck (s : State) (t : HomeTxn) : State :=
  if t.waiting = [] ∧ t.wbp = [] ∧ t.bi = [] ∧ t.granted = false then roundEnd s t else s

/-- A request that the home takes (R235, R236, R241): its snoops are sent, or the grant follows at once. -/
def takeReq (s : State) (r : HomeReq) : State :=
  let ts := roundTargets s r.line r.requester
  match r.kind with
  | .rdS =>
    let s1 := startRound s r false ts [] none false
    if ts = [] then grant s1 { req := r, waiting := [], begun := s.time } else s1
  | .rdX =>
    let s1 := startRound s r true ts [] none false
    if ts = [] then grant s1 { req := r, waiting := [], begun := s.time } else s1
  | .hostWrite wid =>
    match s.host.writes.find? (fun w => w.id = wid) with
    | none => s
    | some w =>
      let n := match w.who with | .host _ l _ => some l | _ => none
      let bi := biTargets s w.line n
      let s1 := startRound s r true ts bi n false
      if ts = [] ∧ bi = [] then roundEnd s1 { req := r, waiting := [], begun := s.time } else s1
  | _ =>
    let s1 := startRound s r true ts [] none false
    if ts = [] then roundEnd s1 { req := r, waiting := [], begun := s.time } else s1

/-- The next queued request of a line taken once the line is no longer busy (R235): priority first, then arrival order. -/
def takeNext (s : State) (dl : Nat) : State :=
  if (busyFind s dl).isSome then s
  else match s.ring.queue.find? (fun r => r.line = dl) with
    | none => s
    | some r =>
      let i := s.ring.queue.findIdx (fun x => x.line = dl)
      takeReq { s with ring := { s.ring with queue := s.ring.queue.eraseIdx i } } r

/-- RD_S or RD_X received by a home (R235, R236, R239). -/
def homeRequest (s : State) (r : HomeReq) : State :=
  let sl := treeSlice r.line
  if r.kind = .rdX ∧ hostVisible s r.line then
    record (setF (bump (emit s (.ring .nackRefused r.requester r.line [])) Reg.GRT_STAT_NACK_REFUSED 1)
      Reg.GRT_EVENTS_RDX_REFUSED) Ev.RDX_REFUSED r.requester (le 6 r.line)
  else if (busyFind s r.line).isSome then
    if (r.prio ∧ sliceQueued s sl true < 4) ∨ sliceQueued s sl false < 256 then homeQueue s r
    else bump (emit s (.ring .nack r.requester r.line [])) Reg.GRT_STAT_NACK_RETRY 1
  else if 64 ≤ sliceBusy s sl ∧ r.prio = false then
    bump (emit s (.ring .nack r.requester r.line [])) Reg.GRT_STAT_NACK_RETRY 1
  else takeReq s r

/-- RD_S: a home receives RD_S from an agent (R236). -/
def execRdS (a : Fin 5) (line : Nat) (prio : Bool) (s : State) : Host.Outcome State Fault Refusal :=
  .next (homeRequest s ⟨line, .rdS, a, prio⟩)

/-- RD_X: a home receives RD_X from an agent (R236). -/
def execRdX (a : Fin 5) (line : Nat) (prio : Bool) (s : State) : Host.Outcome State Fault Refusal :=
  .next (homeRequest s ⟨line, .rdX, a, prio⟩)

/-- Data an agent returned, written into the Tree line and through to DRAM (R230, R237). -/
def writeThrough (s : State) (line : Nat) (data : Bytes) : State :=
  let s1 := match treeFind s line with
    | some l => treePut s { l with data := data, poison := false }
    | none => s
  if wbbFull s (treeSlice line) then wrqPut s1 line data false else wbbPut s1 ⟨line, plineOf data, false, 0, false⟩

/-- WB: a home receives a writeback (R240, R243): never refused, written through, answered with WB_ACK; a round that waits
for it goes on. -/
def execWb (a : Fin 5) (line : Nat) (data : Bytes) (s : State) : Host.Outcome State Fault Refusal :=
  let s1 := emit (writeThrough s line data) (.ring .wbAck a line [])
  let s2 := match agentFind s1 a line with
    | some l => if l.st = .miA then agentPut s1 { l with landed := true } else s1
    | none => s1
  .next <|
    match busyFind s2 line with
    | some t =>
      let t1 := { t with wbp := t.wbp.filter (· ≠ a.val) }
      roundCheck (busyPut s2 t1) t1
    | none => s2

/-- An answer of a round received by a home (R252, R257): counted once for a target that has not answered, with what it brings (`g`)
and what it notes (`f`); any other answer is dropped as a protocol error. -/
def homeAnswer (s : State) (a line msg : Nat) (g : State → State) (f : HomeTxn → HomeTxn) : State :=
  match busyFind s line with
  | some t =>
    if a ∈ t.waiting then
      roundCheck (busyPut (g s) (f { t with waiting := t.waiting.filter (· ≠ a) })) (f { t with waiting := t.waiting.filter (· ≠ a) })
    else protocolError s 15 0 msg line
  | none => protocolError s 15 0 msg line

/-- ACK_I: an answer of the round (R252). -/
def execAckI (a : Fin 5) (line : Nat) (s : State) : Host.Outcome State Fault Refusal :=
  .next (homeAnswer s a line 5 id id)

/-- ACK_S: an answer of the round; the agent keeps S (R238). -/
def execAckS (a : Fin 5) (line : Nat) (s : State) : Host.Outcome State Fault Refusal :=
  .next (homeAnswer s a line 6 id (fun t => { t with anyS := true }))

/-- ACK_DATA: an answer with the data of an M line, written into the Tree line and through to DRAM (R237). The agent keeps S
where the round was SNP_S. -/
def execAckData (a : Fin 5) (line : Nat) (data : Bytes) (s : State) : Host.Outcome State Fault Refusal :=
  .next (homeAnswer s a line 7 (fun x => writeThrough x line data)
    (fun t => { t with anyS := t.anyS || decide (t.req.kind = .rdS) }))

/-- WB_PENDING: the round is held open until the writeback lands (R243), unless it has landed already (R244). -/
def execWbPending (a : Fin 5) (line : Nat) (s : State) : Host.Outcome State Fault Refusal :=
  .next (homeAnswer (bump s Reg.GRT_STAT_WBP_WB_PENDING 1) a line 8 id (fun t =>
    if ((agentFind s a line).map AgentLine.landed).getD true then t else { t with wbp := t.wbp ++ [a.val] }))

/-- DONE: the requester has its grant; the transaction ends and the next request of the line is taken (R235, R254). -/
def execDone (a : Fin 5) (line : Nat) (s : State) : Host.Outcome State Fault Refusal :=
  .next <|
    match busyFind s line with
    | some t => if t.granted ∧ t.req.requester = a.val then takeNext (busyDrop s line) line else protocolError s 15 0 13 line
    | none => protocolError s 15 0 13 line

/-- SNOOP_GUARD_EXPIRED: a target has not answered within SNOOP_GUARD: the round ends as if it had answered ACK_I, and the
agent is isolated at S2 (R256, R479). -/
def execSnoopGuardExpired (a : Fin 5) (line : Nat) (s : State) : Host.Outcome State Fault Refusal :=
  .next <|
    match busyFind s line with
    | some t =>
      if a.val ∈ t.waiting ∨ a.val ∈ t.wbp then
        let s1 := reportFault (setF s Reg.GRT_EVENTS_GUARD_EXPIRED) (if a.val = 0 ∨ a.val = 4 then .ring else .agent a)
          Ev.SNOOP_GUARD_EXPIRED.code a (if a.val = 0 ∨ a.val = 4 then 4 else 2) (le 6 line)
        let s2 := isolateAgent s1 a
        let t1 := { t with waiting := t.waiting.filter (· ≠ a.val), wbp := t.wbp.filter (· ≠ a.val) }
        roundCheck (busyPut s2 t1) t1
      else s
    | none => s

/-! ### Back-invalidate snoops (R137, R249, R250) -/

/-- The end of a back-invalidate round: the bit as R249 leaves it, and the round goes on. -/
def biAnswered (s : State) (key : Nat) (t : HomeTxn) : State :=
  if t.bi = [] then
    let gl := match t.req.kind with
      | .hostWrite wid => (s.host.writes.find? (fun w => w.id = wid)).map HeldWrite.line
      | _ => homeOfDram s key
    let d := (s.time - t.begun) * 1000 / 256000
    let s1 := raiseTo (wr s Reg.GRT_BISNP_LAT_LAST (satTo 0xFFFF d)) Reg.GRT_BISNP_LAT_MAX d
    let s2 := match gl with
      | some g => hhSet s1 g (t.setBit && t.writer.isSome)
      | none => s1
    roundCheck (busyPut s2 t) t
  else busyPut s t

/-- BIRSPI: a sharer answers a BISnpInv (R249); with no BISnp outstanding it is a violation of cause 5 (R150). -/
def execBirspi (n : Fin 64) (key : Nat) (s : State) : Host.Outcome State Fault Refusal :=
  .next <|
    match busyFind s key with
    | some t => if n.val ∈ t.bi then biAnswered s key { t with bi := t.bi.filter (· ≠ n.val) }
      else hostViolation s (ldPort s n) (some n) 5
    | none => hostViolation s (ldPort s n) (some n) 5

/-- BICONFLICT: the host's own request to the line is outstanding (R250): the conflict is acknowledged, and the host's
request is sequenced after the write that caused the snoop, whose answer still comes. -/
def execBiconflict (n : Fin 64) (key : Nat) (s : State) : Host.Outcome State Fault Refusal :=
  .next <|
    match busyFind s key with
    | some t => if n.val ∈ t.bi then emit s (.biConflictAck n key) else hostViolation s (ldPort s n) (some n) 5
    | none => hostViolation s (ldPort s n) (some n) 5

/-- BISNP_GUARD_EXPIRED: a sharer has not answered within BISNP_GUARD (R137): it is fenced, its answer is taken as BIRspI,
and record 0x3007 is written; the violation is of cause 6. -/
def execBisnpGuardExpired (n : Fin 64) (key : Nat) (s : State) : Host.Outcome State Fault Refusal :=
  .next <|
    match busyFind s key with
    | some t =>
      if n.val ∈ t.bi then
        let s1 := ldSet s n { ldOf s n with fenced := true }
        let s2 := fault (hostViolation s1 (ldPort s n) (some n) 6) (.ld n) Ev.SHARER_FENCED n (le 6 key)
        biAnswered s2 key { t with bi := t.bi.filter (· ≠ n.val) }
      else s
    | none => s

/-! ### Accesses of the keeper cores to their cluster caches (R225, R226, R233) -/

/-- The agent of a keeper core: cluster cache A for cores 0 to 3, B for 4 to 7. -/
def coreAgent (c : Nat) : Nat := if c < 4 then 0 else 1

/-- A keeper core. -/
def coreOf (s : State) (c : Nat) : KCore := amGet s.keep.cores c {}

/-- The state with a keeper core replaced. -/
def coreSet (s : State) (c : Nat) (v : KCore) : State := { s with keep := { s.keep with cores := amSet s.keep.cores c v } }

/-- The bytes of a line that the core's own stores in its store buffer cover, newest over oldest (R187). -/
def forwarded (c : KCore) (line : Nat) (base : Bytes) : Bytes :=
  (c.storeBuf.filter (fun w => w.addr / 64 = line)).foldl (fun d w => patch d (w.addr % 64) w.bytes) base

/-- AGENT_LOAD: a keeper core loads a line (R187, R226, R233): a hit answers at once; I sends RD_S unless the core already has
a miss outstanding, when it stalls; transient states wait. -/
def execAgentLoad (c : Fin 8) (line : Nat) (s : State) : Host.Outcome State Fault Refusal :=
  let a := coreAgent c
  let k := coreOf s c
  .next <|
    match agentFind s a line with
    | some l => match l.st with
      | .s | .e | .m | .smD => emit s (.coreData c line (forwarded k line l.data))
      | _ => emit s (.coreWait c line)
    | none =>
      if k.miss.isSome then emit s (.coreWait c line)
      else
        let s1 := coreSet s c { k with miss := some line, pendInv := k.pendInv.filter (· ≠ line) }
        toHome (agentPut s1 { agent := a, line := line, st := .isD, core := c }) .rdS a line []

/-- A store leaving a core's store buffer into the cluster cache (R188, R233). The Bool says that it left. -/
def storeDrain (s : State) (c : Nat) (w : KStore) : Bool × State :=
  let a := coreAgent c
  let line := w.addr / 64
  match agentFind s a line with
  | some l => match l.st with
    | .e | .m => (true, agentPut s { l with st := .m, data := patch l.data (w.addr % 64) w.bytes })
    | .s => (true, toHome (agentPut s { l with st := .smD, core := c, off := w.addr % 64, store := w.bytes }) .rdX a line [])
    | _ => (false, s)
  | none => (true, toHome (agentPut s { agent := a, line := line, st := .imD, core := c, off := w.addr % 64, store := w.bytes })
      .rdX a line [])

/-- The oldest stores of a core drained in program order, as far as they can (R188). -/
def drainStores (s : State) (c : Nat) : Nat → State
  | 0 => s
  | n + 1 =>
    match (coreOf s c).storeBuf with
    | [] => s
    | w :: r =>
      match storeDrain s c w with
      | (true, s1) => drainStores (coreSet s1 c { coreOf s1 c with storeBuf := r }) c n
      | (false, s1) => s1

/-- AGENT_STORE: a keeper core stores bytes (R188, R226, R233): the store enters the store buffer of 16 entries and drains
into the cluster cache in program order; a full buffer stalls the core. -/
def execAgentStore (c : Fin 8) (addr : Nat) (bytes : Bytes) (s : State) : Host.Outcome State Fault Refusal :=
  let k := coreOf s c
  .next <|
    if 16 ≤ k.storeBuf.length then emit s (.coreWait c (addr / 64))
    else drainStores (coreSet s c { k with storeBuf := k.storeBuf ++ [⟨addr, bytes⟩] }) c 16

/-- AGENT_EVICTION: a cluster cache, stream buffer or parity cache evicts a line (R233): silently from S and E, with WB from
M; a transient line is no victim. Each agent has at most eight WBs in flight (R240). -/
def execAgentEviction (a : Fin 5) (line : Nat) (s : State) : Host.Outcome State Fault Refusal :=
  .next <|
    match agentFind s a line with
    | some l => match l.st with
      | .s | .e => agentDrop s a line
      | .m =>
        if 8 ≤ (s.ring.agents.filter (fun x => x.agent = a.val ∧ x.st = .miA)).length then s
        else toHome (agentPut s { l with st := .miA, landed := false }) .wb a line l.data
      | _ => s
    | none => s

end Sys2Proof.Machine
end

