-- ==== Sys2Proof/Machine/KeeperCores.lean ====
section
/-!
DEFINITION. The meanings of the keeper cores' other accesses (spec/01 R11, R12; spec/06 R186 to R190): non-temporal stores,
uncached accesses and fences.
-/
namespace Sys2Proof.Machine

/-- The bytes of a store as a partial line at an offset. -/
def storeLine (off : Nat) (bytes : Bytes) : PLine :=
  (List.replicate off none ++ bytes.map some ++ List.replicate 64 none).take 64

/-- A line of a core's combining buffer sent on (R189, R229): a home line goes through the Welt path. The Bool says that it
was taken. -/
def combineOut (s : State) (c : Nat) (l : Nat × PLine) : Bool × State :=
  match acceptWrite s (.keeper c) 0x3F l.1 l.2 (completePair s (regionKey s (l.1 / 32768)).1 (regionKey s (l.1 / 32768)).2)
    false with
  | some t => (true, t)
  | none => (false, s)

/-- Every line of a core's combining buffer sent on, as far as there is room. -/
def combineDrain (s : State) (c : Nat) : Nat → State
  | 0 => s
  | n + 1 =>
    match (coreOf s c).combine with
    | [] => s
    | l :: r =>
      match combineOut s c l with
      | (true, t) => combineDrain (coreSet t c { coreOf t c with combine := r }) c n
      | (false, t) => t

/-- NON_TEMPORAL_STORE: bytes of a home line enter the core's combining buffer of eight lines (R189); when it is full, its
oldest line leaves first. -/
def execNonTemporalStore (c : Fin 8) (line off : Nat) (bytes : Bytes) (s : State) : Host.Outcome State Fault Refusal :=
  let k := coreOf s c
  let d := storeLine (off % 64) bytes
  .next <|
    match amFind k.combine line with
    | some o => coreSet s c { k with combine := k.combine.map (fun e => if e.1 = line then (line, plineOver d o) else e) }
    | none =>
      if k.combine.length < 8 then coreSet s c { k with combine := k.combine ++ [(line, d)] }
      else match k.combine with
        | l :: r =>
          match combineOut s c l with
          | (true, t) => coreSet t c { k with combine := r ++ [(line, d)] }
          | (false, _) => emit s (.coreWait c line)
        | [] => s

/-- UNCACHED_ACCESS: an uncached load or store takes the core's uncached I/O path and an entry of its reorder buffer of 64
(R11, R12); a full buffer issues nothing until an entry retires. A completed access (`done`) retires, in program order. -/
def execUncachedAccess (c : Fin 8) (addr : Nat) (write done : Bool) (s : State) : Host.Outcome State Fault Refusal :=
  let k := coreOf s c
  .next <|
    if done then
      let u := k.uncached.map (fun e => if e.1 = addr then (e.1, true) else e)
      let r := u.dropWhile (fun e => e.2)
      coreSet s c { k with uncached := r }
    else if 64 ≤ k.uncached.length then emit s (.coreWait c (addr / 64))
    else emit (coreSet s c { k with uncached := k.uncached ++ [(addr, false)] }) (.uncached c addr write)

/-- A fence of a core has what it waits for (R190): at core scope its uncached accesses have completed; at cluster scope the
store and combining buffers have drained and loads have returned; at system scope its stores hold their lines exclusively
and the cluster cache has applied every pending invalidation. A store fence waits for stores alone. -/
def fenceMet (s : State) (c : Nat) (f : KFence) : Bool :=
  let k := coreOf s c
  let stores := k.storeBuf.isEmpty && k.combine.isEmpty
  let unc := k.uncached.isEmpty || !f.full
  let loads := k.miss.isNone || !f.full
  let excl := s.ring.agents.all (fun l => l.core ≠ c || l.agent ≠ coreAgent c || (l.st ≠ .imD && l.st ≠ .smD))
  let inv := k.pendInv.isEmpty || !f.full
  match f.scope with
  | 0 => unc
  | 1 => unc && stores && loads
  | _ => unc && stores && loads && excl && inv

/-- A fence: the store buffer and the combining buffer are drained where its scope takes them in, pending invalidations are
applied at system scope, and the core goes on when the fence is met; else it waits at the fence. -/
def fenceRun (c : Nat) (f : KFence) (s : State) : State :=
  let s1 := if f.scope = 0 then s else combineDrain (drainStores s c 16) c 8
  let s2 := if f.scope = 2 ∧ f.full then coreSet s1 c { coreOf s1 c with pendInv := [] } else s1
  if fenceMet s2 c f then emit (coreSet s2 c { coreOf s2 c with fence := none }) (.fenceDone c)
  else coreSet s2 c { coreOf s2 c with fence := some f }

/-- FENCE.F.CORE (R190). -/
def execFenceFCore (c : Fin 8) (s : State) : Host.Outcome State Fault Refusal := .next (fenceRun c ⟨true, 0⟩ s)

/-- FENCE.F.CLU (R190). -/
def execFenceFClu (c : Fin 8) (s : State) : Host.Outcome State Fault Refusal := .next (fenceRun c ⟨true, 1⟩ s)

/-- FENCE.F.SYS (R190). -/
def execFenceFSys (c : Fin 8) (s : State) : Host.Outcome State Fault Refusal := .next (fenceRun c ⟨true, 2⟩ s)

/-- FENCE.S.CORE (R190). -/
def execFenceSCore (c : Fin 8) (s : State) : Host.Outcome State Fault Refusal := .next (fenceRun c ⟨false, 0⟩ s)

/-- FENCE.S.CLU (R190). -/
def execFenceSClu (c : Fin 8) (s : State) : Host.Outcome State Fault Refusal := .next (fenceRun c ⟨false, 1⟩ s)

/-- FENCE.S.SYS (R190). -/
def execFenceSSys (c : Fin 8) (s : State) : Host.Outcome State Fault Refusal := .next (fenceRun c ⟨false, 2⟩ s)

end Sys2Proof.Machine
end

