-- ==== Sys2Proof/Machine/Recorder.lean ====
section
/-!
DEFINITION. The meanings of the Stamp recorder's commands (spec/21): submission, programming, the stages of a clear.
-/
namespace Sys2Proof.Machine

/-- RECORD_SUBMIT: a unit reports a record, which is admitted with SEQ and timestamp or suppressed (R569 to R572). A payload is at most
496 bytes, its INSTANCE included (R567, R568). -/
def execRecordSubmit (code : Fin 65536) (sev : Fin 6) (inst : Byte) (items : Bytes) (s : State) :
    Host.Outcome State Fault Refusal :=
  .next (recordAt s code sev inst.toNat (items.take 495))

/-- RECORD_PROGRAMMED: the oldest staged record is programmed into LAST, and into FIRST while FIRST has room (R572 to R574). -/
def execRecordProgrammed (s : State) : Host.Outcome State Fault Refusal := .next (programOne s)

/-- RECORDER_CLEAR_STEP_END: an erase of a running clear ends, and the clear moves on (R580). -/
def execRecorderClearStepEnd (s : State) : Host.Outcome State Fault Refusal := .next (clearStep s)

end Sys2Proof.Machine
end

