-- ==== Sys2Proof/Machine/Faults.lean ====
section
/-!
DEFINITION. The fault manager's commands (spec/16): functions and unit resets, timers, grading, group and window ends, WDI.
-/
namespace Sys2Proof.Machine

/-! ### Functions (R149, R495, R496, R535) -/

/-- A running barrier of an LD. -/
def ldBarrier (n : Nat) (b : Barrier) : Bool :=
  match b.by_ with
  | .doorbell l _ _ _ _ => l == n
  | .ring e _ _ => e == n
  | _ => false

/-- A function has work in flight (R495). -/
def fnWork (s : State) (f : Fn) : Bool :=
  match f with
  | .port p => decide (0 < portInFlight s p) || s.per.barriers.any (fun b => (portLds s p).any (fun n => ldBarrier n b))
  | .ld n => decide (0 < ldInFlight s n) || s.per.barriers.any (ldBarrier n) ||
      (s.boot.mode = .compat && (lxEp s n).rings.any (fun x => x.2.cmds.any (fun c => c.done.isNone)))
  | .lat => s.lat.conns.any (fun c => !c.2.msgs.isEmpty || c.2.wqes.any (fun w => w.status.isNone))
  | .bkl => !(s.bkl.running.isEmpty && s.bkl.queued.isEmpty && s.bkl.waiting.isEmpty)
  | .tir => s.tier.segs.any (fun e => e.2.st = .loading || e.2.st = .evicting || e.2.st = .moving)
  | .fls => s.fls.banks.any (fun e => flsRunning e.2 || !e.2.queue.isEmpty)
  | .stm | .kcb => false

/-- Held reads that meet a condition ended with poison, and their number. -/
def poisonReads (s : State) (p : HeldRead → Bool) : Nat × State :=
  let rs := s.host.reads.filter p
  (rs.length, rs.foldl (fun t r => answerRead t r.who r.line (List.replicate 64 0) true)
    { s with host := { s.host with reads := s.host.reads.filter (fun r => !p r) } })

/-- Barriers that meet a condition ended with FUNCTION_DISABLED, and their number. -/
def disableBarriers (s : State) (p : Barrier → Bool) : Nat × State :=
  let bs := s.per.barriers.filter p
  (bs.length, bs.foldl (fun t b => endBarrier t b .functionDisabled) s)

/-- A segment transfer given up: a load leaves the segment where it was, an eviction leaves it resident, a move in its old
frame. -/
def segStopped (g : Segment) : Segment :=
  match g.st with
  | .loading => { g with st := if g.wrote then .zero else if g.toT2.isSome then .t2 else .t3 }
  | .evicting | .moving => { g with st := .t1 }
  | _ => g

/-- What remains of a function's work when its abort time ends (R149, R475, R495, R593): the number of operations aborted and the
state. Accepted host writes are never aborted. -/
def fnAbort (s : State) (f : Fn) : Nat × State :=
  match f with
  | .port p =>
    let (a, s1) := poisonReads s (fun r => match r.who with | .host q _ _ => q == p | _ => false)
    let (b, s2) := disableBarriers s1 (fun b => (portLds s p).any (fun n => ldBarrier n b))
    (a + b, s2)
  | .ld n =>
    let (a, s1) := poisonReads s (fun r => match r.who with | .host _ l _ => l == n | _ => false)
    if s.boot.mode = .compat then
      let (b, s2) := lxAbort s1 n
      (a + b, s2)
    else
      let (b, s2) := disableBarriers s1 (ldBarrier n)
      (a + b, s2)
  | .lat =>
    let k := (s.lat.conns.map (fun c => c.2.msgs.length + (c.2.wqes.filter (fun w => w.status.isNone)).length)).sum
    (k, { s with
      lat := { s.lat with
      conns := s.lat.conns.map (fun (c : Nat × Conn) => (c.1, { c.2 with
        msgs := [], parked := [], reserved := 0
        wqes := c.2.wqes.map (fun (w : Wqe) => if w.status.isSome then w else { w with status := some .functionDisabled }) }))
      regions := s.lat.regions.map (fun (r : Nat × Region) => (r.1, { r.2 with inflight := 0 })) } })
  | .bkl =>
    (s.bkl.running.length + s.bkl.queued.length + s.bkl.waiting.length, jobsEnd s (fun _ => true) true .functionDisabled)
  | .tir =>
    let (a, s1) := poisonReads s (fun r => match r.wait with | .load | .stream _ => true | _ => false)
    (a, { s1 with tier := { s1.tier with segs := s1.tier.segs.map (fun (e : Nat × Segment) => (e.1, segStopped e.2)) } })
  | .fls =>
    let busy := (List.range 4).filter (fun b => flsRunning (flsBank s b) || !(flsBank s b).queue.isEmpty)
    (busy.length, flsCut (busy.foldl (fun t b => flsBusy (flsStatus t b .functionDisabled) b false) s))
  | .stm | .kcb => (0, s)

/-- Keeper cluster B taken down and its cores reloaded from the running image (R527, R535): its cache writes its dirty lines back
first. -/
def clusterReset (s : State) : State :=
  let s1 := keeperWriteBack s [1]
  { s1 with
    ring := { s1.ring with agents := s1.ring.agents.filter (fun l => l.agent ≠ 1) }
    keep := { s1.keep with cores := s1.keep.cores.filter (fun e => decide (e.1 < 4)) } }

/-- The bit of GLB_UNIT_RESET of a function. -/
def unitBit (f : Fn) : Option Fld :=
  match f with
  | .lat => some Reg.GLB_UNIT_RESET_LAT
  | .bkl => some Reg.GLB_UNIT_RESET_BKL
  | .tir => some Reg.GLB_UNIT_RESET_TIR
  | .stm => some Reg.GLB_UNIT_RESET_STM
  | .fls => some Reg.GLB_UNIT_RESET_FLS
  | .kcb => some Reg.GLB_UNIT_RESET_KCB
  | _ => none

/-- The first and end offset of the registers of a unit that GLB_UNIT_RESET resets (R61, R82). -/
def unitRegs (f : Fn) : Nat × Nat :=
  match f with
  | .tir => (0x240000, 0x280000)
  | .lat => (0x280000, 0x2C0000)
  | .bkl => (0x2C0000, 0x300000)
  | .fls => (0x340000, 0x380000)
  | .stm => (0x380000, 0x3C0000)
  | _ => (0, 0)

/-- The reset of a unit (R82, R535), with what it keeps; its staged register copies are discarded. -/
def unitReset (s0 : State) (f : Fn) : State :=
  let s := { s0 with
    iface := { s0.iface with
      staged := s0.iface.staged.filter (fun e => !(decide ((unitRegs f).1 * 8 ≤ e.1) && decide (e.1 < (unitRegs f).2 * 8))) } }
  match f with
  | .lat =>
    let s1 := (s.lat.conns.map Prod.fst).foldl connError s
    { s1 with tier := { s1.tier with lenders := s1.tier.lenders.map (fun (e : Nat × Lender) => (e.1, { e.2 with up := false })) } }
  | .bkl => jobsEnd s (fun _ => true) true .functionDisabled
  | .tir => (s.tier.streams.map Stream.id).foldl streamEnd s
  | .stm => stmStart s
  | .fls => flsScan (flsCut s)
  | .kcb => clusterReset s
  | .port _ | .ld _ => s

/-- The coherence agent that a function's unit reset recovers (R479). -/
def fnAgent (f : Fn) : Option Nat :=
  match f with
  | .kcb => some 1
  | .lat => some 2
  | .tir => some 3
  | _ => none

/-- The nibble of the records of a function's unit. -/
def fnNibble (f : Fn) : Nat :=
  match f with
  | .port _ | .ld _ => 0x3
  | .lat => 0xB
  | .bkl => 0xC
  | .tir => 0xA
  | .stm | .fls | .kcb => 0xD

/-- INSTANCE of the records of a function's unit: a port or an LD, else 0xFF. -/
def fnInst (f : Fn) : Nat :=
  match f with
  | .port p => p
  | .ld n => n
  | _ => 0xFF

/-- A function back in service after its unit reset (R479): its bit in GLB_UNIT_RESET clears, its agent is no longer isolated, and
a running S2 reaction ends with record 0xnF13. -/
def fnReturn (s : State) (f : Fn) : State :=
  let mine : Window → Bool := fun w => w.endedAt.isNone && (match w.scope with | .unit u => unitFn u = some f | _ => false)
  let s1 := match unitBit f with | some b => wr s b 0 | none => s
  let s2 := { s1 with
    ring := { s1.ring with isolated := s1.ring.isolated.filter (fun a => some a ≠ fnAgent f) } }
  let s3 := fnSet s2 f {}
  if s.fm.windows.any mine then
    recordAt { s3 with
      fm := { s3.fm with
        windows := s3.fm.windows.map (fun w => if mine w then { w with endedAt := some s.time } else w) } }
      (fnNibble f * 0x1000 + 0xF13) 0 (fnInst f) []
  else s3

/-- Connections of an LD that leaves service enter ERROR (R427). -/
def ldConnsError (s : State) (n : Nat) : State :=
  ((s.lat.conns.filter (fun c => c.2.owner == n)).map Prod.fst).foldl connError s

/-- A function whose work has ended enters DISABLED (R495), with record 0xnF20 and the count of aborted operations; a unit reset is
done then, and the rings of a compatibility endpoint clear (R593). -/
def fnDisable (s : State) (f : Fn) : State :=
  let v := fnOf s f
  let s1 := recordAt (fnSet s f { v with phase := .disabled }) (fnNibble f * 0x1000 + 0xF20) 0 (fnInst f) (le 4 v.aborted)
  let s2 := match f with
    | .ld n => if s.boot.mode = .compat then lxRingsClear s1 n else ldConnsError s1 n
    | _ => s1
  if v.want = .reset then unitReset s2 f else s2

/-- FUNCTION_QUIESCED: a QUIESCING function without work enters DISABLED, and a DISABLED function whose unit reset has ended returns
to ENABLED (R495, R535). -/
def execFunctionQuiesced (f : Fn) (s : State) : Host.Outcome State Fault Refusal :=
  let v := fnOf s f
  .next <|
    if v.phase = .quiescing ∧ fnWork s f = false then fnDisable s f
    else if v.phase = .disabled ∧ v.want = .reset then fnReturn s f
    else s

/-- DISABLE_ABORT_TIME_EXPIRED: the abort time of a QUIESCING function ends, and what remains of its work ends with
FUNCTION_DISABLED (R149, R495). -/
def execDisableAbortTimeExpired (f : Fn) (s : State) : Host.Outcome State Fault Refusal :=
  let v := fnOf s f
  .next <|
    if v.phase = .quiescing then
      let (k, s1) := fnAbort s f
      fnSet s1 f { v with aborted := v.aborted + k }
    else s

/-- A write of a bit of GLB_UNIT_RESET (R495, R496, R535): the unit passes through QUIESCING and DISABLED; from COMMIT entry it is
recorded and ignored. -/
def unitResetWrite (s : State) (f : Fn) : State :=
  if s.cin.phase = .commit then recordAt s (fnNibble f * 0x1000 + 0xF20) 0 0xFF (le 4 0)
  else if s.boot.porst then s
  else
    let s1 := match unitBit f with | some b => wr s b 1 | none => s
    fnQuiesce s1 f .reset (disableAbort s)

/-- UNIT_RESET_LAT: GLB_UNIT_RESET.LAT is written with 1 (R452, R535). -/
def execUnitResetLat (s : State) : Host.Outcome State Fault Refusal := .next (unitResetWrite s .lat)

/-- UNIT_RESET_BKL: GLB_UNIT_RESET.BKL is written with 1 (R475, R535). -/
def execUnitResetBkl (s : State) : Host.Outcome State Fault Refusal := .next (unitResetWrite s .bkl)

/-- UNIT_RESET_TIR: GLB_UNIT_RESET.TIR is written with 1 (R416, R535). -/
def execUnitResetTir (s : State) : Host.Outcome State Fault Refusal := .next (unitResetWrite s .tir)

/-- UNIT_RESET_STM: GLB_UNIT_RESET.STM is written with 1 (R535, R577). -/
def execUnitResetStm (s : State) : Host.Outcome State Fault Refusal := .next (unitResetWrite s .stm)

/-- UNIT_RESET_FLS: GLB_UNIT_RESET.FLS is written with 1 (R535). -/
def execUnitResetFls (s : State) : Host.Outcome State Fault Refusal := .next (unitResetWrite s .fls)

/-- UNIT_RESET_KCB: GLB_UNIT_RESET.KCB is written with 1 (R535). -/
def execUnitResetKcb (s : State) : Host.Outcome State Fault Refusal := .next (unitResetWrite s .kcb)

/-! ### Timers (R487 to R491) -/

/-- A guard expiry graded against a unit (R487): record 0xnF01. -/
def guardFault (s : State) (u : FUnit) (inst : Nat) : State :=
  reportFault (setF s Reg.ERR_EVENTS_GUARD) u (unitNibble u * 0x1000 + 0xF01) inst 1 []

/-- HOST_GUARD_EXPIRED: the host request guard of a request expires (R278, R405, R488): it does not run for one held by admission or
for a stream layer. A read ends with poison; a write that waits for the twin makes the Stirrup link retrain; a LOCAL or PAIR
barrier ends with TIMEOUT; a served request ends. -/
def execHostGuardExpired (q : HostReq) (s : State) : Host.Outcome State Fault Refusal :=
  .next <|
    match q with
    | .read port ld tag =>
      match s.host.reads.find? (fun r => r.who = .host port ld tag) with
      | none => s
      | some r =>
        if (match r.wait with | .stream _ => true | _ => false) then s
        else
          let (_, s1) := poisonReads s (fun x => x = r)
          guardFault s1 (.port port) port
    | .write id =>
      match s.host.writes.find? (fun w => w.id = id) with
      | none => s
      | some w =>
        if w.admission then s
        else if w.pair ∧ s.per.pairAvail ∧ mirAcked s w.mir = false then linkLost (guardFault s .stirrup 0xFF)
        else match w.who with
          | .host p _ _ => guardFault s (.port p) p
          | _ => s
    | .barrier id =>
      match s.per.barriers.find? (fun b => b.id = id) with
      | none => s
      | some b =>
        if b.served = 2 then s
        else guardFault (endBarrier (setF (bump s Reg.WLT_BAR_ERR_TIMEOUTS 1) Reg.WLT_EVENTS_BAR_TIMEOUT) b .timeout) (.ld b.ld) b.ld
    | .served conn msg =>
      match (connFind s conn).bind (fun c => c.msgs.find? (fun m => m.msg = msg)) with
      | none => s
      | some m =>
        if m.msg < rxBase then s
        else guardFault (emit (bump (msgEnd s conn m) Reg.LAT_STAT_NAK_OPERATIONAL 1)
          (.roce conn (.nak (m.lastPsn.getD 0) .operational))) .latigo 0xFF

/-- The unit of a watched engine. -/
def engineUnit (e : Engine) : FUnit :=
  match e with
  | .drain => .drain
  | .awl => .awl
  | .mirror => .mirror
  | .tier => .tier
  | .latigo => .latigo
  | .buckle => .buckle
  | .scrub => .scrub
  | .recorder => .recorder
  | .flash => .flash

/-- ENGINE_WATCHDOG_EXPIRED: an engine shows no progress (R487, R489): S2, or S4 for one without a bit in GLB_UNIT_RESET; a second
expiry of the Drain or the Awl engine during COMMIT step 4 ends the step early (R486). -/
def execEngineWatchdogExpired (e : Engine) (s : State) : Host.Outcome State Fault Refusal :=
  let u := engineUnit e
  let code := unitNibble u * 0x1000 + 0xF02
  let s1 := recordAt (setF s Reg.ERR_EVENTS_WATCHDOG) code 2 0xFF []
  let own := (e = .drain || e = .awl) && s.cin.phase = .commit && s.cin.step == 4
  let s2 := if own then { s1 with
      cin := { s1.cin with
      wdogs := s1.cin.wdogs + 1,
      step4Stop := s1.cin.step4Stop || decide (1 ≤ s1.cin.wdogs) } } else s1
  .next (gradeFault s2 u code 0xFF 2 (if (unitFn u).isSome then 2 else 4))

/-- KEEPER_HEARTBEAT_MISSED: a keeper core misses its heartbeat (R490): a sandboxed core is stopped until the next warm reset, at
S2; another core stops and is reloaded, at S3 for its group, and at S4 in cluster A (R480). -/
def execKeeperHeartbeatMissed (k : Fin 8) (s : State) : Host.Outcome State Fault Refusal :=
  let stop := fun (t : State) => { t with
    keep := { t.keep with
    cores := amSet t.keep.cores k.val { amGet t.keep.cores k.val {} with
    running := false, miss := none } } }
  let s0 := setF s Reg.ERR_EVENTS_KEEPER_HB
  .next <|
    if s.boot.sandbox ∧ 6 ≤ k.val then
      let s1 := recordAt s0 Ev.KEEPER_HEARTBEAT_MISSED.code 2 k []
      stop (wr s1 Reg.ERR_KEEPER_SANDBOX_STOPPED (setBit (rd s1 Reg.ERR_KEEPER_SANDBOX_STOPPED) (k - 6) true))
    else
      let s1 := record s0 Ev.KEEPER_HEARTBEAT_MISSED k []
      let s2 := stop (wr s1 Reg.ERR_KEEPER_RELOADING (setBit (rd s1 Reg.ERR_KEEPER_RELOADING) k true))
      if k.val < 4 then gradeFault s2 (.keeper k) Ev.KEEPER_HEARTBEAT_MISSED.code k 3 3
      else
        let (r, held) := ruleRung s2 (.keeper k) Ev.KEEPER_HEARTBEAT_MISSED.code k 3
        if r = 3 ∧ held = false ∧ s.cin.phase ≠ .commit then
          if reactionRuns s2 (.group .clusterB) 3 then s2
          else
            let s3 := wr (wr (wr (wr s2 Reg.ERR_LAST_CODE Ev.KEEPER_HEARTBEAT_MISSED.code) Reg.ERR_LAST_RUNG 3)
              Reg.ERR_LAST_RAISED 0) Reg.ERR_LAST_INSTANCE k
            let s4 := sevCount (openWindow s3 ⟨.group .clusterB, 3, Ev.KEEPER_HEARTBEAT_MISSED.code, k, none⟩) 3
            { s4 with fw := { s4.fw with since := none } }
        else gradeFault s2 (.keeper k) Ev.KEEPER_HEARTBEAT_MISSED.code k 3 3

/-- KEEPER_RELOAD_DONE: a reloaded keeper core returns and its engines resume (R490). -/
def execKeeperReloadDone (k : Fin 8) (s : State) : Host.Outcome State Fault Refusal :=
  .next <|
    if bit (rd s Reg.ERR_KEEPER_RELOADING) k then
      let s1 := bump (wr s Reg.ERR_KEEPER_RELOADING (setBit (rd s Reg.ERR_KEEPER_RELOADING) k false)) Reg.ERR_KEEPER_RELOADS 1
      let s2 := { s1 with keep := { s1.keep with cores := amSet s1.keep.cores k.val {} } }
      if 4 ≤ k.val ∧ rd s2 Reg.ERR_KEEPER_RELOADING / 16 = 0 ∧ s2.fm.groups.all (fun e => e.1 ≠ .clusterB) then
        endReaction s2 (.group .clusterB) else s2
    else s

/-- POMMEL_WATCHDOG: the pommel core has not restarted its watchdog: an S4 fault, record 0xDF04 (R487, R491). -/
def execPommelWatchdog (s : State) : Host.Outcome State Fault Refusal :=
  .next (reportFault (if s.cin.phase = .commit then s else setF s Reg.GLB_RESET_CAUSE_POMMEL_WDOG) .pommel 0xDF04 0xFF 4 [])

/-! ### Grading, groups and windows (R476, R478, R480, R484) -/

/-- A replica that an S2 fault takes out of service until PORST_N (R222, R474, R479): a way of the Tree cache, a Buckle core. -/
def replicaOut (s : State) (u : FUnit) : State :=
  if s.cin.phase = .commit then s
  else match u with
  | .treeWay sl w => if wayDisabled s sl w then s else wayIsolate s sl w
  | .core c => if coreUp s c then coreOut s c else s
  | _ => s

/-- FAULT_REPORTED: a unit reports a fault of a code, source instance and severity (R477, R478, R484 to R486); at S1 its one repeat
succeeds or fails, and a repeat that fails is graded again at S2. -/
def execFaultReported (u : FUnit) (code : Fin 65536) (inst : Byte) (sev : Fin 6) (repeatOk : Bool) (s : State) :
    Host.Outcome State Fault Refusal :=
  let s0 := if sev.val = 2 ∨ (sev.val = 1 ∧ repeatOk = false) then replicaOut s u else s
  let s1 := reportFault s0 u code inst.toNat sev []
  .next (if sev.val = 1 ∧ repeatOk = false then gradeFault s1 u code inst.toNat 1 2 else s1)

/-- A function back in the state its enable gives (R149, R495): a host port whose HPT_PORT_CTRL.ENABLE is clear stays DISABLED. -/
def fnHome (s : State) (f : Fn) : State :=
  match f with
  | .port p => fnSet s f (if rdb s (Reg.HPT_PORT_CTRL_ENABLE p) then {} else { phase := .disabled })
  | .ld n => fnSet s f (if rdb s (Reg.HPT_LD_CFG_ENABLE n) then {} else { phase := .disabled })
  | _ => fnSet s f {}

/-- GROUP_RETRY has passed for a DISABLED fault group: its units are reset and enabled once (R480). -/
def groupEnable (s : State) (g : FGroup) : State :=
  let s1 := (groupFns g).foldl (fun t f =>
    let u := if (fnOf t f).phase = .disabled then t else (fnDisable (fnAbort t f).2 f)
    fnHome (unitReset u f) f) { s with fm := { s.fm with groups := s.fm.groups.filter (fun e => e.1 ≠ g) } }
  endReaction s1 (.group g)

/-- RECOVERY_WINDOW_CLOSE: the settle time of a window whose reaction has ended has passed (R476). -/
def execRecoveryWindowClose (sc : Scope) (s : State) : Host.Outcome State Fault Refusal :=
  .next { s with
    fm := { s.fm with
    windows := s.fm.windows.filter (fun w => !(w.scope = sc && (match w.endedAt with
      | some t => decide (t + settleTime s w.rung ≤ s.time)
      | none => false))) } }

/-! ### WDI (R492, R523) -/

/-- WDI_TOGGLE: an edge on WDI (R492, R523): the timer is armed by the first toggle after READY where ERR_WDI.EN is set and the mode
is not service, and restarted by the others; an edge within 10 µs of the last counts with it. -/
def execWdiToggle (s : State) : Host.Outcome State Fault Refusal :=
  let s1 := { s with ham := { s.ham with wdi := !s.ham.wdi } }
  .next <|
    if s.boot.porst ∨ s.boot.ready = false ∨ s.boot.mode = .service ∨ rdb s Reg.ERR_WDI_EN = false then s1
    else setF s1 Reg.ERR_WDI_ARMED

/-- WDI_MISSED: an armed window passes without a toggle: an S5 fault, record 0x1F05, with the cause bit WDI (R483, R487, R492). -/
def execWdiMissed (s : State) : Host.Outcome State Fault Refusal :=
  .next <|
    if rdb s Reg.ERR_WDI_ARMED = false then s
    else reportFault (if s.cin.phase = .commit then s else setF s Reg.GLB_RESET_CAUSE_WDI) .pommel 0x1F05 0xFF 5 []

end Sys2Proof.Machine
end

