-- ==== Sys2Proof/Machine/Power.lean ====
section
/-!
DEFINITION. The Hame sequencer (spec/17): the rail record and its table, common start and power-up, rail faults and their reactions,
the supply inputs, the reference clocks (R609, R610).
-/
namespace Sys2Proof.Machine

/-! ### The rail record (R5, R503) -/

/-- RAIL_CFG of a slot in the fused default table (R503). -/
def railCfgDefault (n : Nat) : Nat :=
  let mk := fun (g cls rea ret svc feeds : Nat) => 1 + 2 * g + 16 * cls + 128 * rea + 512 * ret + 1024 * svc + 65536 * feeds
  if n < 2 then mk 0 6 3 1 1 0
  else if n < 4 then mk 0 7 3 0 1 0
  else if n < 6 then mk 0 6 3 0 1 0
  else if n < 10 then mk 1 5 3 0 0 (2 ^ (n - 6))
  else if n < 16 then mk 2 3 1 0 1 (2 ^ (n - 10))
  else if n < 18 then mk 3 4 3 0 0 (2 ^ (n - 16))
  else if n < 20 then mk 4 1 2 0 0 (2 ^ (n - 18))
  else if n < 22 then mk 5 1 2 0 0 (2 ^ (n - 18))
  else if n < 26 then mk 6 2 2 0 0 (2 ^ (n - 22))
  else if n < 28 then mk 7 0 1 0 1 0
  else 0

/-- ON_DELAY of a slot in the fused default table, in 10 µs (R503). -/
def railOnDefault (n : Nat) : Nat :=
  if n < 2 then 0 else if n < 4 then 100 else if n < 6 then 200 else if n < 10 then 500 else if n < 18 then 800
  else if n < 26 then 1000 else if n < 28 then 1200 else 0

/-- OFF_DELAY of a slot in the fused default table, in 10 µs (R503). -/
def railOffDefault (n : Nat) : Nat :=
  if n < 2 then 10000 else if n < 4 then 9000 else if n < 6 then 8000 else if n < 10 then 6000 else if n < 18 then 5000
  else if n < 22 then 2000 else if n < 26 then 1000 else 0

/-- PG_TIMEOUT of a slot in the fused default table, in ms (R503). -/
def railPgDefault (n : Nat) : Nat := if 6 ≤ n ∧ n < 10 then 20 else if n < 28 then 10 else 1

/-- The good copy of a layer with the highest generation, with its place: 0 copy A, 1 copy B (R102, R503). -/
def layerBest (l : Layer) : Option (Nat × StoreCopy) :=
  if l.a.good && (!l.b.good || decide (l.b.gen ≤ l.a.gen)) then some (0, l.a)
  else if l.b.good then some (1, l.b)
  else none

/-- The layers in force by the sampled straps (R5), numbered as in the rail record: 0 base, 1 NATIVE, 2 COMPAT, 3 SINGLE,
4 SERVICE. -/
def strapLayers (s : State) : List Nat :=
  [0] ++ (match s.boot.mode with | .native => [1] | .compat => [2] | .service => [4] | .refused => []) ++
    (if s.boot.twinPresentN then [3] else [])

/-- The value of an entry under the layers in force: the last layer that sets it, else the default. -/
def railValue (ls : List Nat) (vals : List (Nat × Bytes)) (key len d : Nat) : Nat :=
  ls.foldl (fun v l => match amFind vals (l * 2 ^ 24 + key) with | some b => leNat b | none => v) (leNat (le len d))

/-- The values of the rail record that are in force now; none where neither copy is good. -/
def railVals (s : State) : List (Nat × Bytes) := match layerBest s.dict.rail with | some (_, c) => c.vals | none => []

/-- The configuration of a slot assembled from the rail record (R5, R503), laid over the slot's state. -/
def railFromRecord (s : State) (n : Nat) (r : Rail) : Rail :=
  let ls := strapLayers s
  let v := railVals s
  let cfg := railValue ls v ((0x8100 + n) * 256 + 1) 4 (railCfgDefault n)
  { r with
    enable := bit cfg 0, group := cfg / 2 % 8
    cls := (match cfg / 16 % 8 with
      | 0 => .aux | 1 => .host | 2 => .net | 3 => .drive | 4 => .stirrup | 5 => .dram | 6 => .sram | _ => .core)
    reaction := (match cfg / 128 % 4 with | 0 => .ignore | 1 => .retry | 2 => .groupOff | _ => .sysReset)
    retain := bit cfg 9, svc := bit cfg 10, feeds := cfg / 65536 % 64
    onDelay := railValue ls v ((0x8100 + n) * 256 + 2) 2 (railOnDefault n)
    offDelay := railValue ls v ((0x8100 + n) * 256 + 3) 2 (railOffDefault n)
    pgTimeout := railValue ls v ((0x8100 + n) * 256 + 4) 1 (railPgDefault n) }

/-! ### Slots, groups and the units they feed (R501, R508) -/

/-- The slots. -/
def railList : List Nat := List.range 32

/-- A class is flush-critical (R501). -/
def flushClass (c : RailClass) : Bool :=
  match c with
  | .core | .sram | .dram | .drive | .stirrup => true
  | _ => false

/-- A rail group is flush-critical (R501). -/
def flushGroup (s : State) (g : Nat) : Bool :=
  s.ham.rails.any (fun e => e.2.enable && e.2.group == g && flushClass e.2.cls)

/-- The mode switches a slot on: in service mode only slots with SVC (R507), in compatibility mode no NET slot. -/
def slotUsed (s : State) (r : Rail) : Bool :=
  r.enable && (s.boot.mode ≠ .service || r.svc) && (s.boot.mode ≠ .compat || r.cls ≠ .net)

/-- A slot carries its rail: ON, or left on after an IGNORE fault. -/
def slotUp (r : Rail) : Bool := r.state = .on || r.state = .faultOn

/-- The state of a rail group; ON where nothing is listed. -/
def groupState (s : State) (g : Nat) : RailGroupState := amGet s.ham.groups g .on

/-- The state with a rail group's state replaced. -/
def groupSet (s : State) (g : Nat) (v : RailGroupState) : State :=
  { s with
    ham := { s.ham with
      groups := if v = .on then amErase s.ham.groups g else amSet s.ham.groups g v } }

/-- A slot is switched off with its group (R514). -/
def groupLeft (s : State) (r : Rail) : Bool := groupState s r.group = .offRetry || groupState s r.group = .offHeld

/-- A slot no longer holds power-up back (R509). -/
def slotSettled (s : State) (r : Rail) : Bool := !slotUsed s r || slotUp r || groupLeft s r

/-- The class and FEEDS bit that feed a domain (R501). -/
def domFeed (d : Nat) : Option (RailClass × Nat) :=
  if d < 4 then some (.net, d)
  else if 6 ≤ d ∧ d < 10 then some (.net, d - 6)
  else if 13 ≤ d ∧ d < 29 then some (.host, (d - 13) / 4)
  else if 29 ≤ d ∧ d < 33 then some (.host, d - 29)
  else if 56 ≤ d ∧ d < 62 then some (.drive, d - 56)
  else if 62 ≤ d ∧ d < 70 then some (.dram, (d - 62) / 2)
  else if 74 ≤ d ∧ d < 76 then some (.stirrup, d - 74)
  else none

/-- Every enabled slot that feeds a domain's unit carries its rail (R501). -/
def domFed (s : State) (d : Nat) : Bool :=
  match domFeed d with
  | none => true
  | some (c, b) => s.ham.rails.all (fun e => !(e.2.enable && e.2.cls = c && bit e.2.feeds b) || slotUp e.2)

/-- A domain is on. -/
def domOn (s : State) (d : Nat) : Bool := s.ham.doms.getLsbD d

/-- The state with a domain on or off. -/
def domSet (s : State) (d : Nat) (v : Bool) : State :=
  { s with
    ham := { s.ham with
      doms := if v then s.ham.doms ||| (1#96 <<< d) else s.ham.doms &&& ~~~(1#96 <<< d) } }

/-- Domains from one number up to another, off. -/
def domsOff (s : State) (lo hi : Nat) : State := (List.range (hi - lo)).foldl (fun t k => domSet t (lo + k) false) s

/-- What goes down with the domain of a unit: the link of a host port (R148), an Ethernet port, or the drives of a root-port
group. -/
def domDown (s : State) (d : Nat) : State :=
  let s1 := domSet s d false
  if 13 ≤ d ∧ d < 29 then linkDown s1 (d - 13)
  else if 6 ≤ d ∧ d < 10 then
    latSet s1 { s1.lat with ports := amSet s1.lat.ports (d - 6) { amGet s1.lat.ports (d - 6) {} with up := false } }
  else if 56 ≤ d ∧ d < 62 then (List.range 4).foldl (fun t k => driveLinkDown t (4 * (d - 56) + k)) s1
  else s1

/-- Domains whose feeds have gone, off (R501). -/
def feedLost (s : State) : State :=
  (List.range 92).foldl (fun t d => if domOn t d && !domFed t d then domDown t d else t) s

/-- The slots of a set of classes do not hold their internal group back (R508). -/
def classesReady (s : State) (p : Rail → Bool) : Bool :=
  s.ham.rails.all (fun e => !(slotUsed s e.2 && p e.2) || slotUp e.2 || groupLeft s e.2)

/-- The internal groups (R508) in the order of power-up: first domain, end, and what they need. -/
def powerGroups : List (Nat × (Nat × (Rail → Bool))) :=
  [ (83, 92, fun r => r.cls = .sram && r.retain),
    (42, 83, fun r => flushClass r.cls),
    (33, 42, fun r => r.cls = .core || r.cls = .sram),
    (13, 33, fun r => r.cls = .core || r.cls = .host),
    (0, 13, fun r => r.cls = .core || r.cls = .net) ]

/-- The domains that service mode powers (R30): the root-port groups and the flash controller. -/
def serviceDom (d : Nat) : Bool := (decide (56 ≤ d) && decide (d < 62)) || d == 77

/-- The domains of a group switched on, but for those whose unit is not fed or whose switch failed (R508). -/
def domsUp (s : State) (lo hi : Nat) : State :=
  (List.range (hi - lo)).foldl (fun t k =>
    let d := lo + k
    if domFed t d && !t.ham.domFault.contains d && (t.boot.mode ≠ .service || serviceDom d) then domSet t d true else t) s

/-- The internal groups switched on in order, as far as their rails are ready (R508). The Bool says that none is left. -/
def groupsUp (s : State) (gs : List (Nat × (Nat × (Rail → Bool)))) : Bool × State :=
  match gs with
  | [] => (true, s)
  | g :: r => if classesReady s g.2.2 then groupsUp (domsUp s g.1 g.2.1) r else (false, s)

/-- Power-up complete (R509): the back-out count clears and bring-up step 2 starts. -/
def powerComplete (s : State) : State :=
  { s with
    ham := { s.ham with seq := .running, backouts := 0 }
    boot := { s.boot with stage := max 2 s.boot.stage } }

/-- What follows a change of a slot (R501, R508, R509): domains that lost a feed go off; during power-up the groups come on in order
until it is complete; while running, domains that are fed again come on. -/
def powerStep (s : State) : State :=
  let s1 := feedLost s
  match s1.ham.seq with
  | .powerUp =>
    let (all, s2) := groupsUp s1 powerGroups
    if all && s2.ham.rails.all (fun e => slotSettled s2 e.2) then powerComplete s2 else s2
  | .running =>
    if s1.cin.phase = .commit then s1
    else (List.range 92).foldl (fun t d => if (domFeed d).isSome then domsUp t d (d + 1) else t) s1
  | _ => s1

/-! ### The common start (R504 to R507) -/

/-- A slot at t0 (R504 to R507): a retained slot that is ON stays ON, one that is up without PG must show it within PG_TIMEOUT, a
used slot waits for its ON_DELAY, and every other RAIL_EN is low. -/
def slotStart (s : State) (n : Nat) : Rail :=
  let r := railFromRecord s n (railOf s n)
  let r1 := { r with retrying := false, stuck := false }
  if slotUsed s r1 then
    if r1.en && r1.retain then { r1 with state := if r1.pg && r1.state = .on then .on else .ramp }
    else { r1 with state := .waitOn, en := false }
  else { r1 with state := .off, en := false }

/-- The rail table read (R503). -/
def railTableRead (s : State) : State :=
  match layerBest s.dict.rail with
  | some (k, _) => { s with ham := { s.ham with tableSrc := k } }
  | none =>
    alert (record (setF { s with ham := { s.ham with tableSrc := 2 } } Reg.HAM_EVENTS_TABLE_DEFAULT) Ev.RAIL_TABLE_DEFAULT 0xFF [])
      Ev.RAIL_TABLE_DEFAULT.code

/-- Power-up begun at t0 (R504). -/
def powerUpStart (s : State) : State :=
  let s1 := railTableRead s
  powerStep { s1 with
    ham := { s1.ham with
      rails := railList.map (fun n => (n, slotStart s1 n))
      seq := .powerUp, groups := [], domFault := [], goodSince := none } }

/-- COMMON_START: t0 (R504): PORST_N released for 2 ms in a mode that starts, or a back-out whose inputs have held for 2 s. -/
def execCommonStart (s : State) : Host.Outcome State Fault Refusal :=
  .next <|
    if s.boot.porst ∨ s.boot.mode = .refused ∨ supplyGood s = false then s
    else match s.ham.seq with
    | .off => if s.boot.stage = 1 ∧ s.boot.stop = .none ∧ s.cin.phase ≠ .commit then powerUpStart s else s
    | .backout => if s.ham.goodSince.isSome then powerUpStart s else s
    | _ => s

/-! ### Rail faults and reactions (R510 to R516, R519) -/

/-- The rung of a slot's reaction (R512). -/
def reactionRung (r : RailReaction) : Nat :=
  match r with
  | .ignore => 0
  | .retry => 1
  | .groupOff => 3
  | .sysReset => 5

/-- A recovery window governs a slot. -/
def railWindow (s : State) (n : Nat) (w : Window) : Bool :=
  match w.scope with
  | .unit (.rail m) => m == n
  | .group (.rail g) => g == (railOf s n).group
  | .controller => true
  | _ => false

/-- Another slot of the group is retried, or its retry's S1 window is open (R516). -/
def retryNear (s : State) (n : Nat) : Bool :=
  let g := (railOf s n).group
  s.ham.rails.any (fun e => e.1 ≠ n && e.2.group == g && e.2.retrying) ||
  s.fm.windows.any (fun w => w.rung == 1 && (match w.scope with
    | .unit (.rail m) => m ≠ n && (railOf s m).group == g
    | _ => false))

/-- The rung of a rail fault (R484, R512, R516), and whether its group stays off: the higher of its own and the open rung, raised
for a repeat; GROUP_OFF in a flush-critical group becomes SYS_RESET. -/
def railRung (s : State) (n own : Nat) : Nat × Bool :=
  let ws := s.fm.windows.filter (railWindow s n)
  let o := (ws.map Window.rung).foldl max 0
  let base := max own o
  let held := base == 3 && ws.any (fun w => w.rung == 3 && w.endedAt.isSome)
  let again := ws.any (fun w => w.rung == o && w.endedAt.isSome && w.code == 0x1002 && w.inst == n)
  let r0 := if again && !held then min 5 (base + 1) else base
  let r1 := if r0 = 2 ∨ r0 = 3 ∨ (r0 < 3 ∧ retryNear s n) then (if flushGroup s (railOf s n).group then 5 else 3) else r0
  let r2 := if r1 = 4 ∧ recentS4 s ≠ [] then 5 else r1
  (r2, held && r2 == 3)

/-- The fault of a slot marked: HAM_FAULT, its count, HAM_EVENTS and record 0x1002 at a severity (R511). -/
def slotMark (s : State) (n sev : Nat) : State :=
  let s1 := wr s Reg.HAM_FAULT_SLOT (Sys2Proof.Machine.setBit (rd s Reg.HAM_FAULT_SLOT) n true)
  recordAt (setF (bump s1 (Reg.HAM_RAIL_STATUS_FAULTS n) 1) Reg.HAM_EVENTS_RAIL_FAULT) Ev.RAIL_PG_FAULT.code sev n []

/-- The reaction of a rung noted (R476, R484): ERR_LAST, the raise, the window and the count. -/
def railReact (s : State) (n own r : Nat) (sc : Scope) : State :=
  let s1 := wr (wr (wr (wr s Reg.ERR_LAST_CODE 0x1002) Reg.ERR_LAST_RUNG r) Reg.ERR_LAST_RAISED (b2n (decide (own < r))))
    Reg.ERR_LAST_INSTANCE n
  let s2 := if own < r then recordAt (setF s1 Reg.ERR_EVENTS_RAISED) 0x1F10 r n (le 2 0x1002) else s1
  let s3 := sevCount (openWindow s2 ⟨sc, r, 0x1002, n, none⟩) r
  if 3 ≤ r then { s3 with fw := { s3.fw with since := none } } else s3

/-- The functions that a rail group feeds (R501, R514). -/
def railFns (s : State) (g : Nat) : List Fn :=
  let rs := (s.ham.rails.filter (fun e => e.2.enable && e.2.group == g)).map Prod.snd
  ((List.range 4).filter (fun q => rs.any (fun r => r.cls = .host && bit r.feeds q))).flatMap
    (fun q => [.port (4 * q), .port (4 * q + 1), .port (4 * q + 2), .port (4 * q + 3)]) ++
  (if rs.any (fun r => r.cls = .net) then [.lat] else [])

/-- RETRY (R513): the slot alone goes off and waits 50 ms for its first attempt. -/
def railRetry (s : State) (n : Nat) : State :=
  let r := railOf s n
  powerStep (groupSet (railSet s n { r with state := .retryWait, en := false, retrying := true, attempts := 0 }) r.group .retrying)

/-- GROUP_OFF (R514): every slot of the group goes off by its relative OFF_DELAY, the units it feeds are DISABLED, and the group
waits for GROUP_RETRY, or stays off until the next warm reset. -/
def railGroupOff (s : State) (n : Nat) (held : Bool) : State :=
  let g := (railOf s n).group
  let s1 := groupSet { s with
    ham := { s.ham with
      rails := s.ham.rails.map (fun (e : Nat × Rail) =>
        if e.2.enable && e.2.group == g then (e.1, { railTurnOff e.2 with retrying := false }) else e) } }
    g (if held then .offHeld else .offRetry)
  let s2 := recordAt (setF s1 Reg.HAM_EVENTS_GROUP_OFF) Ev.RAIL_GROUP_OFF.code 3 n (le 1 g)
  powerStep ((railFns s2 g).foldl (fun t f => fnQuiesce t f .disable (msec 1)) (reactS3 s2 (.rail n) (.rail g) n held))

/-- SYS_RESET (R510, R515): before power-up is complete a back-out; after it COMMIT with trigger 5, whose step 4 ends early where
the rail is flush-critical. -/
def railSysReset (s : State) (n : Nat) : State :=
  if s.ham.seq = .powerUp then powerStep (backOut s true (some n))
  else
    let s1 := reactS5 (recordAt (setF s Reg.HAM_EVENTS_SYS_RESET) Ev.RAIL_SYS_RESET.code 5 n []) (.rail n) n
    if s1.cin.phase = .commit ∧ flushClass (railOf s n).cls then
      { s1 with cin := { s1.cin with step4Stop := true } } else s1

/-- A rail reaction at a rung (R484, R512): 1 RETRY, 3 GROUP_OFF, 4 a warm reset, 5 SYS_RESET; a SYS_RESET before power-up is
complete is graded S1. -/
def railReaction (s : State) (n own r : Nat) (held : Bool) : State :=
  if r = 5 ∧ s.ham.seq = .powerUp then
    endReaction (railSysReset (railReact s n own 1 (.unit (.rail n))) n) (.unit (.rail n))
  else match r with
  | 1 => railRetry (railReact s n own 1 (.unit (.rail n))) n
  | 3 => railGroupOff (railReact s n own 3 (.group (.rail (railOf s n).group))) n held
  | 4 => reactS4 (railSet (railReact s n own 4 .controller) n { railOf s n with state := .faultOff, en := false }) (.rail n) n
  | _ => railSysReset (railReact s n own 5 .controller) n

/-- A fault of a slot outside COMMIT (R511, R512, R516): recorded at the severity of its reaction, and its reaction started. -/
def slotFault (s : State) (n : Nat) : State :=
  let r := railOf s n
  let own := reactionRung r.reaction
  let sev := if own = 5 ∧ s.ham.seq = .powerUp then 1 else own
  let s1 := slotMark s n sev
  if own = 0 then powerStep (railSet s1 n { r with state := .faultOn, en := true })
  else
    let (rung, held) := railRung s1 n own
    railReaction s1 n own rung held

/-- A rail fault from COMMIT entry (R519): recorded in 0x1009; in steps 1 to 4 a flush-critical rail ends step 4 early. The drives
behind a lost DRIVE rail lose their links. -/
def commitFault (s : State) (n : Nat) : State :=
  let r := railOf s n
  let crit := flushClass r.cls
  let s1 := wr s Reg.HAM_FAULT_SLOT (Sys2Proof.Machine.setBit (rd s Reg.HAM_FAULT_SLOT) n true)
  let s2 := recordAt (railSet (setF s1 Reg.HAM_EVENTS_RAIL_FAULT) n { r with state := .faultOn })
    Ev.RAIL_FAULT_IN_COMMIT.code (if crit then 2 else 0) n (le 1 s.cin.step)
  let s3 := if crit ∧ s.cin.step ≤ 4 then { s2 with cin := { s2.cin with step4Stop := true } } else s2
  if r.cls = .drive then
    (List.range 24).foldl (fun t k => if bit r.feeds (k / 4) then driveLinkDown t k else t) s3
  else s3

/-- RAIL_ON_DELAY: a slot's ON_DELAY has passed since t0, or the one relative to its group since the group is switched on
again: RAIL_EN goes high (R505, R514). -/
def execRailOnDelay (n : Fin 32) (s : State) : Host.Outcome State Fault Refusal :=
  let r := railOf s n
  .next (if r.state = .waitOn then railSet s n { r with state := .ramp, en := true } else s)

/-- RAIL_PG_RISE: RAIL_PG rises, `ramp` units of 100 µs after RAIL_EN rose (R505, R512, R513): the slot becomes ON; a retry succeeds
with record 0x1003. -/
def execRailPgRise (n : Fin 32) (ramp : Nat) (s : State) : Host.Outcome State Fault Refusal :=
  let r := railOf s n
  let s1 := railSet s n { r with pg := true }
  .next <|
    if r.state = .ramp ∧ r.en then
      let s2 := wr (railSet s1 n { r with pg := true, state := .on, retrying := false }) (Reg.HAM_RAIL_STATUS_RAMP n) (satTo 255 ramp)
      if r.retrying then
        let s3 := endReaction (record (setF s2 Reg.HAM_EVENTS_RETRY_OK) Ev.RAIL_RETRY_OK n []) (.unit (.rail n))
        powerStep (if s3.ham.rails.any (fun e => e.2.group == r.group && e.2.retrying) then s3 else groupSet s3 r.group .on)
      else powerStep s2
    else if r.state = .faultOn ∧ s.cin.phase ≠ .commit then powerStep (railSet s1 n { r with pg := true, state := .on })
    else s1

/-- RAIL_PG_TIMEOUT: PG_TIMEOUT passes without RAIL_PG after RAIL_EN rose (R505, R511, R513, R519): the slot faults; an attempt of a
retry fails, and the third raises the reaction with record 0x1004. -/
def execRailPgTimeout (n : Fin 32) (s : State) : Host.Outcome State Fault Refusal :=
  let r := railOf s n
  .next <|
    if r.state ≠ .ramp ∨ r.pg then s
    else if s.cin.phase = .commit then commitFault s n
    else if r.retrying = false then slotFault s n
    else if r.attempts < 3 then railSet s n { r with state := .retryWait, en := false }
    else
      let up := if flushGroup s r.group then 5 else 3
      let s1 := endReaction (railSet s n { r with state := .faultOff, en := false, retrying := false }) (.unit (.rail n))
      let (r0, held) := railRung s1 n up
      let rung := max up r0
      railReaction (recordAt (groupSet s1 r.group .on) Ev.RAIL_RETRY_FAILED.code rung n []) n 1 rung held

/-- RAIL_PG_FAULT: RAIL_PG has been low for 20 µs (R506, R511, R519, R526): a slot with RETAIN clears the retention latch; while
PORST_N is asserted or before t0 a retained slot is recorded only; otherwise an ON slot faults. -/
def execRailPgFault (n : Fin 32) (s : State) : Host.Outcome State Fault Refusal :=
  let r := railOf s n
  let s0 := railSet s n { r with pg := false }
  let s1 := if r.retain then { s0 with boot := { s0.boot with retLatch := false } } else s0
  .next <|
    if s.ham.vddAon = false ∨ r.en = false then s1
    else if s.cin.phase = .commit then (if slotUp r then commitFault s1 n else s1)
    else if s.boot.porst ∨ (s.ham.seq ≠ .powerUp ∧ s.ham.seq ≠ .running) then
      (if r.retain then
        let s2 := wr s1 Reg.HAM_FAULT_SLOT (Sys2Proof.Machine.setBit (rd s1 Reg.HAM_FAULT_SLOT) n true)
        recordAt (railSet s2 n { r with pg := false, state := .ramp }) Ev.RAIL_PG_FAULT.code 0 n []
      else s1)
    else if r.state = .on then slotFault s1 n
    else s1

/-- RAIL_RETRY_ATTEMPT: the 50 ms before an attempt of a retry have passed, and RAIL_EN goes high (R513). -/
def execRailRetryAttempt (n : Fin 32) (s : State) : Host.Outcome State Fault Refusal :=
  let r := railOf s n
  .next (if r.state = .retryWait ∧ r.retrying
    then railSet s n { r with state := .ramp, en := true, attempts := min 3 (r.attempts + 1) } else s)

/-- RAIL_OFF_DELAY: a slot's OFF_DELAY has passed since the power-down, back-out or GROUP_OFF that switches it off, and RAIL_EN goes
low (R510, R514, R518). -/
def execRailOffDelay (n : Fin 32) (s : State) : Host.Outcome State Fault Refusal :=
  let r := railOf s n
  .next (if r.state = .waitOff then powerStep (railSet s n { r with state := .off, en := false }) else s)

/-- RAIL_PG_FALL: RAIL_PG of a slot whose RAIL_EN fell goes low (R518, R526). -/
def execRailPgFall (n : Fin 32) (s : State) : Host.Outcome State Fault Refusal :=
  let r := railOf s n
  let s1 := railSet s n { r with pg := false }
  .next <|
    if r.en then s
    else if r.retain then { s1 with boot := { s1.boot with retLatch := false } }
    else s1

/-- RAIL_STUCK_ON: PG_TIMEOUT after its RAIL_EN fell in COMMIT step 6, a slot still shows RAIL_PG: record 0x100A, and the step no
longer waits for it (R518). -/
def execRailStuckOn (n : Fin 32) (s : State) : Host.Outcome State Fault Refusal :=
  let r := railOf s n
  .next <|
    if s.ham.seq = .powerDown ∧ r.state = .off ∧ r.en = false ∧ r.pg ∧ r.stuck = false then
      fault (setF (railSet s n { r with stuck := true }) Reg.HAM_EVENTS_STUCK_ON) (.rail n) Ev.RAIL_STUCK_ON n []
    else s

/-- DOMAIN_SWITCH_TIMEOUT: the switch of a domain reports no good state within 100 µs: the domain stays off, an S2 fault of its unit
(R479, R508). -/
def execDomainSwitchTimeout (d : Fin 92) (s : State) : Host.Outcome State Fault Refusal :=
  .next <|
    if s.boot.porst ∨ (s.ham.seq ≠ .powerUp ∧ s.ham.seq ≠ .running) then s
    else
      let s1 := domDown { s with
        ham := { s.ham with
          domFault := if s.ham.domFault.contains d.val then s.ham.domFault else s.ham.domFault ++ [d.val] } } d
      gradeFault s1 (.domain d) 0x1F11 0xFF 2 2

/-- A rail group switched on again after GROUP_RETRY (R514): its slots wait for their on-delays relative to the group, and the units
it feeds are reset and enabled. -/
def railGroupBack (s : State) (g : Nat) : State :=
  let s1 := groupSet { s with
    ham := { s.ham with
      rails := s.ham.rails.map (fun (e : Nat × Rail) =>
        if e.2.group == g && slotUsed s e.2 then (e.1, { e.2 with state := .waitOn, en := false }) else e) } } g .on
  (railFns s1 g).foldl (fun t f =>
    let u := if (fnOf t f).phase = .disabled then t else (fnDisable (fnAbort t f).2 f)
    fnHome (unitReset u f) f) s1

/-- GROUP_RETRY_EXPIRED: GROUP_RETRY has passed for a fault group that waits for it (R480, R514). -/
def execGroupRetryExpired (g : FGroup) (s : State) : Host.Outcome State Fault Refusal :=
  .next <|
    if s.fm.groups.any (fun e => e.1 = g && e.2 = .retry) then
      match g with
      | .rail k => groupEnable (railGroupBack s k) g
      | _ => groupEnable s g
    else s

/-! ### Supply inputs and FAULT_N (R521, R522) -/

/-- PSU_OK_LOW: PSU_OK has been low for 1 µs (R313, R510, R521). -/
def execPsuOkLow (s : State) : Host.Outcome State Fault Refusal :=
  let s1 := supplyCheck { s with ham := { s.ham with psuOk := false } }
  .next (if s.ham.vddAon then powerStep (commitTrigger (record s1 Ev.PSU_OK_LOW 0xFF []) 1) else s1)

/-- PSU_OK_HIGH: PSU_OK returns high (R318, R504). -/
def execPsuOkHigh (s : State) : Host.Outcome State Fault Refusal :=
  .next (supplyCheck { s with ham := { s.ham with psuOk := true } })

/-- PSU_OK_GLITCH: a low of PSU_OK shorter than 1 µs (R521). -/
def execPsuOkGlitch (s : State) : Host.Outcome State Fault Refusal :=
  .next (if s.ham.vddAon then bump s Reg.HAM_GLITCH_PSU_OK 1 else s)

/-- HOLDUP_LOW: HOLDUP_LOW_N has been low for 1 µs (R313, R510, R521). -/
def execHoldupLow (s : State) : Host.Outcome State Fault Refusal :=
  let s1 := supplyCheck { s with ham := { s.ham with holdupLowN := false } }
  .next (if s.ham.vddAon then powerStep (commitTrigger (record s1 Ev.HOLDUP_LOW 0xFF []) 2) else s1)

/-- HOLDUP_LOW_N_HIGH: HOLDUP_LOW_N returns high (R318, R504). -/
def execHoldupLowNHigh (s : State) : Host.Outcome State Fault Refusal :=
  .next (supplyCheck { s with ham := { s.ham with holdupLowN := true } })

/-- HOLDUP_LOW_N_GLITCH: a low of HOLDUP_LOW_N shorter than 1 µs (R521). -/
def execHoldupLowNGlitch (s : State) : Host.Outcome State Fault Refusal :=
  .next (if s.ham.vddAon then bump s Reg.HAM_GLITCH_HOLDUP 1 else s)

/-- FAULT_N_EXTERNAL: FAULT_N has read low for 1 µs, driven by another node (R313, R510, R522). While this controller drives the
line, it cannot see another. -/
def execFaultNExternal (s : State) : Host.Outcome State Fault Refusal :=
  let s1 := supplyCheck { s with ham := { s.ham with faultNExt := true } }
  .next <|
    if s.ham.vddAon = false ∨ s.ham.faultNDriven then s1
    else powerStep (commitTrigger (record (setF s1 Reg.HAM_EVENTS_FAULT_N_EXT) Ev.FAULT_N_EXTERNAL 0xFF []) 4)

/-- FAULT_N_RELEASED: the other node releases FAULT_N (R318, R504). -/
def execFaultNReleased (s : State) : Host.Outcome State Fault Refusal :=
  .next (supplyCheck { s with ham := { s.ham with faultNExt := false } })

/-- FAULT_N_GLITCH: a low of FAULT_N shorter than 1 µs (R522). -/
def execFaultNGlitch (s : State) : Host.Outcome State Fault Refusal :=
  .next <|
    if s.ham.vddAon = false ∨ s.ham.faultNDriven then s
    else record (bump s Reg.HAM_GLITCH_FAULT_N 1) Ev.FAULT_N_GLITCH 0xFF []

/-! ### Reference clocks (R609, R610) -/

/-- SYSCLK_LOSS: SYSCLK_IN is absent or out of range for 10 µs: an S5 fault, record 0x1F15 (R609). From COMMIT entry it is recorded
only (R486). -/
def execSysclkLoss (s : State) : Host.Outcome State Fault Refusal :=
  let s1 := supplyCheck { s with ham := { s.ham with sysclkOk := false } }
  .next <|
    if s.ham.vddAon = false ∨ s.ham.sysclkOk = false then s1
    else if s.boot.porst then recordAt s1 0x1F15 5 0xFF []
    else if s.cin.phase = .commit then gradeFault (recordAt s1 0x1F15 5 0xFF []) .pommel 0x1F15 0xFF 5 5
    else powerStep (gradeFault s1 .pommel 0x1F15 0xFF 5 5)

/-- SYSCLK_RETURN: SYSCLK_IN is back within its limits (R609). -/
def execSysclkReturn (s : State) : Host.Outcome State Fault Refusal :=
  .next (supplyCheck { s with ham := { s.ham with sysclkOk := true } })

/-- REFCLK_LOSS: the reference clock of a host quad (0 to 3) or of the drives (4) is lost (R148, R351, R376, R610). -/
def execRefclkLoss (which : Fin 5) (s : State) : Host.Outcome State Fault Refusal :=
  .next <|
    if which.val < 4 then (List.range 4).foldl (fun t k => linkDown t (4 * which.val + k)) s
    else (List.range 24).foldl (fun t k => if (driveOf t k).linkUp then driveLinkDown t k else t) s

end Sys2Proof.Machine
end

