-- ==== Sys2Proof/Machine/Resets.lean ====
section
/-!
DEFINITION. What PORST_N, a requalified power-up and the loss of VDD_AON keep and discard (R35, R192, R500, R506, R536, R577).
-/
namespace Sys2Proof.Machine

/-- Register fields of the HAM block, which only loss of VDD_AON clears (R500). -/
def hamFields (csr : List (Nat × Nat)) : List (Nat × Nat) :=
  csr.filter (fun e => decide (0x300000 * 8 ≤ e.1) && decide (e.1 < 0x310000 * 8))

/-- The home segments with dirty granules: what the dirty summary of the stripe-journal array flags (R292, R365). -/
def dirtySegs (s : State) : List Nat :=
  (s.cin.granules.filterMap (fun g => (homeOfDram s (g.1 * 64)).map (fun l => l / 32768))).dedup

/-- The recorder after PORST_N is asserted: staging still stands until the fill; what flash holds stays (R575, R577). -/
def stmCut (m : Stm) : Stm :=
  { staging := m.staging, headSeq := m.headSeq, flashedSeq := m.flashedSeq, last := m.last, lastSector := m.lastSector,
    lastUsed := m.lastUsed, first := m.first, firstSector := m.firstSector, firstUsed := m.firstUsed, firstFull := m.firstFull,
    indeterminate := m.indeterminate }

/-- A layer whose older copy is cut off while it is written (R102). -/
def layerTorn (l : Layer) : Layer :=
  if l.a.gen ≤ l.b.gen then { l with a := { l.a with good := false } } else { l with b := { l.b with good := false } }

/-- The layers a store that runs is writing, torn where the cut finds the write begun (R102). -/
def dictTorn (d : Dict) (torn : Bool) : Dict :=
  match d.storing with
  | none => d
  | some ws =>
    let hit : LayerId → Bool := fun l => torn && ws.any (fun w => w.1 = l)
    { d with
      base := if hit .base then layerTorn d.base else d.base
      native := if hit .native then layerTorn d.native else d.native
      compat := if hit .compat then layerTorn d.compat else d.compat
      single := if hit .single then layerTorn d.single else d.single
      service := if hit .service then layerTorn d.service else d.service }

/-- What the dictionary keeps: the configuration store, the rail record and a pending factory default. -/
def dictCut (d : Dict) : Dict :=
  { base := d.base, native := d.native, compat := d.compat, single := d.single, service := d.service, rail := d.rail,
    factoryPending := d.factoryPending }

/-- What the boot record holds (R557). -/
def fwCut (f : Fw) : Fw :=
  { copyA := f.copyA, copyB := f.copyB, slotA := f.slotA, slotB := f.slotB, confirmed := f.confirmed, trialRunning := f.trialRunning,
    notCounted := f.notCounted, forced := f.forced, curArea := f.curArea, cfgFormat := f.cfgFormat, spare := f.spare }

/-- A drive whose controller has lost its links: label, serial and capacity stand on the drive. -/
def driveCut (d : Drive) : Drive :=
  { st := d.st, set := d.set, col := d.col, cause := d.cause, predicted := d.predicted, serial := d.serial, cap := d.cap,
    nextCmd := d.nextCmd }

/-- What the drives and the retained journal array hold of the Awl engine (R355, R365). -/
def awlCut (s : State) : Awl :=
  { drives := s.awl.drives.map (fun (e : Nat × Drive) => (e.1, driveCut e.2)),
    sets := s.awl.sets.map (fun (e : Nat × StripeSet) => (e.1, { e.2 with st := .assembling, rebuild := none })),
    journal := s.awl.journal, twinJrn := s.awl.twinJrn, jseq := s.awl.jseq, drainPoint := s.awl.drainPoint,
    zoneNow := s.awl.zoneNow, relocQ := s.awl.relocQ, dumpDone := s.awl.dumpDone,
    dirtySum := (s.awl.dirtySum ++ dirtySegs s).dedup,
    hdrTrigger := s.awl.hdrTrigger, hdrEarly := s.awl.hdrEarly, hdrTime := s.awl.hdrTime, diskJrn := s.awl.diskJrn,
    dump := s.awl.dump, applied := s.awl.applied, lost := s.awl.lost }

/-- A segment record after DRAM is lost: what was in T1 is where its chunks are. -/
def segCut (g : Segment) : Segment :=
  let h := segStopped g
  let st := match h.st with
    | .t1 => if h.chunks = [] then .zero else .t3
    | x => x
  { h with st := st, toFrame := 0, rank := 5, wrote := false, toT2 := none, leaving := false }

/-- The tier map after DRAM is lost. -/
def tierCut (t : Tier) : Tier :=
  { runs := t.runs, segs := t.segs.map (fun (e : Nat × Segment) => (e.1, segCut e.2)), objs := t.objs, basePol := t.basePol,
    lenders := t.lenders.map (fun (e : Nat × Lender) => (e.1, { e.2 with up := false })), lendEpoch := t.lendEpoch,
    roots := t.roots, ckptSeq := t.ckptSeq, ckptAt := t.ckptAt }

/-- The host side after PORST_N: label storage and dirty shutdown counts stand in flash (R138). -/
def hostCut (h : HostSide) : HostSide :=
  { lsa := h.lsa,
    lds := (h.lds.filter (fun e => e.2.dirtyShutdowns ≠ 0)).map (fun (e : Nat × LDev) =>
      (e.1, ({ dirtyShutdowns := e.2.dirtyShutdowns } : LDev))) }

/-- The Welt array in the retention domain (R192, R195): its entries, which no longer wait for an acknowledgement of the twin. -/
def perCut (p : Persist) : Persist :=
  { welt := p.welt.map (fun (e : WeltEntry) => { e with mirrorSeq := none }), acceptSeq := p.acceptSeq }

/-- What the always-on group and the drives keep of the Drain (R308, R315): the log of the last COMMIT, the zones and the epoch; and
the segments that stood in T1, for warm-up (R320). -/
def cinCut (s : State) : Cin :=
  { freeZones := s.cin.freeZones, ownedZones := s.cin.ownedZones, twinZones := s.cin.twinZones, epoch := s.cin.epoch,
    lastTrigger := s.cin.lastTrigger, lastEarly := s.cin.lastEarly, lastDuration := s.cin.lastDuration, lastBytes := s.cin.lastBytes,
    lastPartial := s.cin.lastPartial,
    warmLeft := (s.tier.segs.filter (fun e => segResident e.2)).map Prod.fst }

/-- The line clock through a reset of the rest (R35): count and phase run on at the last measured period. -/
def lckCut (c : LineClock) : LineClock :=
  { count := c.count, phase := c.phase, freq60 := c.freq60, period := c.period, boundaries := c.boundaries,
    lastBoundary := c.lastBoundary, reservation := c.reservation, countLost := c.countLost, synth60 := c.synth60 }

/-- The rail slots while PORST_N is asserted (R506): a retained slot keeps RAIL_EN; every other RAIL_EN is low. -/
def railsCut (rs : List (Nat × Rail)) : List (Nat × Rail) :=
  rs.map (fun (e : Nat × Rail) =>
    (e.1, { e.2 with
      en := e.2.en && e.2.retain && e.2.enable
      state := if e.2.en && e.2.retain && e.2.enable then e.2.state else .off
      retrying := false, stuck := false }))

/-- The domains while PORST_N is asserted (R29): always-on, and of the retention group those that were on. -/
def domsCut (d : BitVec 96) : BitVec 96 := (d &&& (0x1FF#96 <<< 83)) ||| 0xF00000000000000000000000#96

/-- The sequencer while PORST_N is asserted (R500, R506). -/
def hamCut (h : Ham) : Ham :=
  { vddAon := h.vddAon, rails := railsCut h.rails, tableSrc := h.tableSrc, doms := domsCut h.doms, psuOk := h.psuOk,
    holdupLowN := h.holdupLowN, faultNExt := h.faultNExt, wdi := h.wdi, sysclkOk := h.sysclkOk }

/-- What PORST_N leaves (R192, R506, R536): the state of reset with what the always-on group, the retention domain, the flash and
the drives hold. -/
def porstReset (s0 : State) (torn : Bool) : State :=
  let s := flsCut s0
  { State.reset with
    csr := hamFields s.csr
    dict := dictCut (dictTorn s.dict torn)
    pres := { low := s.pres.low, fellAt := s.pres.fellAt, roseAt := s.pres.roseAt }
    lck := lckCut s.lck
    stm := stmCut s.stm
    fm := { s5at := s.fm.s5at, s5restartPending := s.fm.s5restartPending }
    ham := hamCut s.ham
    boot := { wrstLow := s.boot.wrstLow, retLatch := s.boot.retLatch, marker := s.boot.marker, weltMarker := s.boot.weltMarker,
              jrnMarker := s.boot.jrnMarker }
    host := hostCut s.host
    per := perCut s.per
    cin := cinCut s
    tier := tierCut s.tier
    awl := awlCut s
    fls := s.fls
    fw := fwCut s.fw
    bkl := { storeA := s.bkl.storeA, storeB := s.bkl.storeB }
    time := s.time
    freeCtr := s.freeCtr
    out := s.out
    pending := s.pending }

/-- What a requalified power-up keeps beside that (R318): straps, mode, the line clock, and GLB_RESET_CAUSE bits [5:1] with PORST
set. -/
def requalReset (s : State) : State :=
  let t := porstReset s false
  { t with
    csr := s.csr.filter (fun e => decide (0x18 * 8 < e.1) && decide (e.1 < 0x18 * 8 + 6)) ++ t.csr
    lck := s.lck
    boot := { t.boot with
      porst := false, modeStrap := s.boot.modeStrap, serviceN := s.boot.serviceN, twinPresentN := s.boot.twinPresentN,
      mode := s.boot.mode, stage := 1, startAt := s.time }
    cin := { t.cin with restarted := true } }

/-- The loss of VDD_AON (R35, R500, R526, R603): with it go the sequencer, the latch, the S5 record, staging and the count; flash and
the drives keep what they hold. -/
def vddAonLost (s0 : State) (torn : Bool) : State :=
  let s := porstReset s0 torn
  { s with
    csr := []
    lck := { countLost := true }
    stm := { s.stm with staging := [] }
    fm := {}
    ham := { vddAon := false, psuOk := s.ham.psuOk, holdupLowN := s.ham.holdupLowN, faultNExt := s.ham.faultNExt, wdi := s.ham.wdi,
             sysclkOk := s.ham.sysclkOk, doms := 0, rails := s.ham.rails.map (fun (e : Nat × Rail) => (e.1, ({ pg := e.2.pg } : Rail))) }
    boot := { wrstLow := s.boot.wrstLow }
    per := {}
    awl := { s.awl with lost := s.awl.lost ++ s.awl.journal.filter (fun e => e.state = .committed), journal := [], twinJrn := [], dirtySum := [], hdrTrigger := 0, hdrEarly := false, hdrTime := 0, dumpDone := false }
    cin := { s.cin with lastDuration := 0, lastBytes := 0, lastTrigger := 0, lastEarly := false } }

end Sys2Proof.Machine
end

