-- ==== Sys2Proof/Machine/Tiers.lean ====
section
/-!
DEFINITION. Movement between the tiers, neighbour memory and the map checkpoint (spec/13, R402 to R410, R418; spec/14, R450).
-/
namespace Sys2Proof.Machine

/-! ### Loads (R403, R404) -/

/-- A channel whose write queues hold no line of a frame. -/
def Chan.without (c : Chan) (f : Nat) : Chan :=
  { c with subA := { c.subA with writes := c.subA.writes.filter (fun w => w.line / 32768 ≠ f) },
           subB := { c.subB with writes := c.subB.writes.filter (fun w => w.line / 32768 ≠ f) } }

/-- Every byte of a T1 frame zero, none of its lines poisoned, and no queued write of it left. -/
def frameClear (s : State) (f : Nat) : State :=
  { s with
    dram := { s.dram with
      mem := s.dram.mem.filter (fun c => c.1 / 0x200000 ≠ f)
      poison := s.dram.poison.filter (fun l => l / 32768 ≠ f)
      chans := s.dram.chans.map (fun (c : Nat × Chan) => (c.1, c.2.without f)) } }

/-- A line of a frame written directly. -/
def frameLine (s : State) (f off : Nat) (data : Bytes) : State :=
  { s with dram := { s.dram with mem := memWriteBytes 0 s.dram.mem ((f * 32768 + off) * 64) (data.take 64) } }

/-- The frames of a mirror pool that wait to be merged into a segment, merged into its frame (R340, R371): their granules
count as old from the start (R306). -/
def mergeReplay (s : State) (hs : Nat) : State :=
  let fs := s.twin.replay.filter (fun p => p.gran / 512 = hs)
  let f := (segOf s hs).frame
  let s1 := fs.foldl (fun t p =>
    let g := f * 512 + p.gran % 512
    markDirtyAt (p.lines.foldl (fun u l => { u with
      dram := { u.dram with
      mem := memMerge 0 u.dram.mem ((g * 64 + l.1) * 64) l.2 } }) t) (g * 64) 0 true) s
  twinSet s1 { s1.twin with replay := s1.twin.replay.filter (fun p => p.gran / 512 ≠ hs) }

/-- The reads held for the load of a segment, tried again now that it is resident. -/
def releaseReads (s : State) (hs : Nat) : State :=
  let p := fun (h : HeldRead) => decide (h.line / 32768 = hs) &&
    (match h.wait with | .load => true | .stream _ => true | _ => false)
  let rs := s.host.reads.filter p
  rs.foldl (fun t r => readLine t r.who r.line (match r.who with | .host q _ _ => some q | _ => none))
    { s with host := { s.host with reads := s.host.reads.filter (fun r => !p r) } }

/-- Warm-up's list without a segment that has been loaded (R320): its end is recorded. -/
def warmLoaded (s : State) (hs : Nat) : State :=
  if s.cin.warmup ∧ s.cin.warmLeft.contains hs then
    let l := s.cin.warmLeft.filter (· ≠ hs)
    let s1 := { s with cin := { s.cin with warmLeft := l, warmup := l ≠ [] } }
    if l = [] then record (setF s1 Reg.CIN_EVENTS_WARMUP_DONE) Ev.WARMUP_DONE 0xFF [] else s1
  else s

/-- SEGMENT_LOAD_DONE: a load into T1 commits (R386, R404, R320): the frame holds the lines that the drives or the lender gave,
zeros elsewhere; its granules are CLEAN, or DIRTY from T2; reads held for it are served. WARN pauses ranks 3 to 5 (R403). -/
def execSegmentLoadDone (hs : Nat) (lines : List (Nat × Bytes)) (s : State) : Host.Outcome State Fault Refusal :=
  .next <|
    let g := segOf s hs
    if g.st ≠ .loading ∨ (s.cin.phase = .commit ∧ weltHolds s hs = false) ∨ (s.cin.phase = .warn ∧ 3 ≤ g.rank) then s
    else
      let s1 := if g.wrote then frameClear s g.frame
        else lines.foldl (fun t l => frameLine t g.frame (l.1 % 32768) l.2) (frameClear s g.frame)
      let s2 := segSet s1 hs { g with st := .t1, access := s.lck.count / 64, toT2 := none, wrote := false, lender := 0 }
      let s3 := bump64 s2 Reg.TIR_STAT_LOAD_LO_LOAD_LO Reg.TIR_STAT_LOAD_HI_LOAD_HI 1
      let us := (s.time - g.since) / 25600
      let s4 := if g.rank ≤ 2 then
          bump (raiseTo (wr s3 Reg.TIR_LOAD_LAT_LAST (satTo 0xFFFF us)) Reg.TIR_LOAD_LAT_MAX us) Reg.CIN_WARMUP_DEMAND 1 else s3
      let s5 := match g.toT2 with
        | some (i, slot) =>
          let l := amGet s4.tier.lenders i {}
          let back := (l.recalling.map (fun r => r.1.contains slot)).getD false
          let l1 := { l with used := l.used.filter (· ≠ slot), frames := if back then l.frames.filter (· ≠ slot) else l.frames }
          let t := { s4 with tier := { s4.tier with lenders := amSet s4.tier.lenders i l1 } }
          let u := if back then emit t (.lease true i .ret [slot] 0 0) else t
          (List.range 512).foldl (fun x k => markDirtyAt x ((g.frame * 512 + k) * 64) u.per.acceptSeq true) u
        | none => s4
      admitUpdate (skiveWriteAll (releaseReads (warmLoaded (mergeReplay s5 hs) hs) hs))

/-- Loads begun for reads and Welt entries that wait for segments not yet loading, now that a frame may be free. -/
def retryLoads (s : State) : State :=
  let rs := (s.host.reads.filter (fun h => h.wait = .load)).map (fun h => h.line / 32768)
  let ws := s.per.welt.map (fun e => e.line / 32768)
  (rs ++ ws).dedup.foldl (fun t hs => startLoad t hs 2) s

/-! ### Evictions (R402, R404) -/

/-- The number of free frames that the tier map keeps (R402). -/
def freeTarget (s : State) : Nat := max 64 (s.tier.t1Frames * rd s Reg.TIR_CTRL_FREE_TARGET / 1000)

/-- A home segment lies in the window of an open stream (R414). -/
def inWindow_ (s : State) (hs : Nat) : Bool :=
  s.tier.streams.any (fun t => !t.closing && (windowLayers t).any (fun k => (layerSegs s t k).contains hs))

/-- The class of a segment as a victim (R402): 0 first; `none` where it is not one. -/
def victimClass (s : State) (hs : Nat) (g : Segment) : Option Nat :=
  let p := objPolicy s g.obj
  let ten := objTenant s g.obj
  if g.st ≠ .t1 ∨ p = 0 then none
  else if p = 2 then (if inWindow_ s hs then none else some 0)
  else if !fitsQuota (quota s ten 1) (tenantT1 s ten) then some 1
  else some 2

/-- The victim that the tier map demotes next (R402): by class, then oldest ACCESS. -/
def segVictim (s : State) : Option Nat :=
  let cs := s.tier.segs.filterMap (fun e => (victimClass s e.1 e.2).map (fun c => (c, e.2.access, e.1)))
  (cs.foldl (fun (b : Option (Nat × Nat × Nat)) x =>
    match b with
    | none => some x
    | some y => if x.1 < y.1 ∨ (x.1 = y.1 ∧ x.2.1 < y.2.1) then some x else some y) none).map (fun x => x.2.2)

/-- A frame's granules are all CLEAN. -/
def frameClean (s : State) (f : Nat) : Bool := s.cin.granules.all (fun g => g.1 / 512 != f)

/-- A lease slot for a BORROWABLE segment (R393, R400): from the lowest connected lender with an unused frame, where the
tenant's T2 quota allows. -/
def leaseSlot (s : State) (obj : Nat) : Option (Nat × Nat) :=
  let ten := objTenant s obj
  let t2 := (s.tier.segs.filter (fun e => e.2.st = .t2 && objTenant s e.2.obj == ten)).length
  if objPolicy s obj = 3 ∧ fitsQuota (quota s ten 2) (t2 + 1) then
    s.tier.lenders.findSome? (fun l => if l.2.up && l.2.recalling.isNone
      then (l.2.frames.find? (fun f => !l.2.used.contains f)).map (fun f => (l.1, f)) else none)
  else none

/-- The lines of a frame cleaned and invalidated in the Tree cache, with the snoop round of a line that has PEER set (R241,
R404 step 2). -/
def frameFlush (s : State) (f : Nat) : State :=
  (s.tree.lines.filter (fun t => t.line / 32768 = f)).foldl (fun x t =>
    if t.peer then evictRound x { t with leaving := true } else treeCleanInv x t) s

/-- SEGMENT_EVICT: below FREE_TARGET the tier map demotes a victim (R402): one whose granules are not all CLEAN is passed to the
Drain first, else its eviction begins (R404). -/
def execSegmentEvict (s : State) : Host.Outcome State Fault Refusal :=
  .next <|
    if freeTarget s ≤ (freeFrames s).length ∨ s.cin.phase ≠ .normal ∨ !fnOpen s .tir then s
    else match segVictim s with
      | none => s
      | some hs =>
        let g := segOf s hs
        if !frameClean s g.frame then segSet s hs { g with leaving := true }
        else
          let slot := leaseSlot s g.obj
          let s1 := frameFlush (segSet s hs { g with st := .evicting, wrote := false, leaving := false, toT2 := slot }) g.frame
          match slot with
          | some (i, f) =>
            let l := amGet s1.tier.lenders i {}
            emit { s1 with tier := { s1.tier with lenders := amSet s1.tier.lenders i { l with used := l.used ++ [f] } } }
              (.t2Write i f hs)
          | none => s1

/-- An eviction's lines have all left: no Welt or Skive entry, no Tree line or write-back buffer entry holds the segment, and
its granules are CLEAN (R404 step 4). -/
def evictReady (s : State) (hs f : Nat) : Bool :=
  s.per.welt.all (fun e => e.line / 32768 != hs) && s.per.skive.all (fun e => e.line / 32768 != hs) &&
  s.tree.lines.all (fun t => t.line / 32768 != f) && s.tree.wbb.all (fun e => e.line / 32768 != f) && frameClean s f

/-- SEGMENT_EVICT_DONE: an eviction commits when no write arrived; a write has already made the segment T1 again (R404). A
segment with no chunk on the drives goes back to ZERO (R386). -/
def execSegmentEvictDone (hs : Nat) (s : State) : Host.Outcome State Fault Refusal :=
  .next <|
    let g := segOf s hs
    if g.st ≠ .evicting ∨ !evictReady s hs g.frame then s
    else
      let g1 : Segment := match g.toT2 with
        | some (i, f) => { g with st := .t2, lender := i, frame := f, toT2 := none }
        | none => { g with st := if g.chunks = [] ∧ g.poison = [] then .zero else .t3, frame := 0, toT2 := none }
      let s1 := bump64 (frameClear (segSet s hs g1) g.frame) Reg.TIR_STAT_EVICT_LO_EVICT_LO Reg.TIR_STAT_EVICT_HI_EVICT_HI 1
      let s2 := if g.toT2.isSome ∧ linkCarries s1 then
          (List.range 32).foldl (fun t k => twinSend t 0x13 (hs * 32 + k) s.twin.txSeq (le 2 0xFFFF)) s1
        else s1
      retryLoads s2

/-- The contents of frame `a` in frame `b` (R279, R404): its lines as they now are, wherever they stand, with their poison and the states of
their granules; frame `a` is clear. -/
def frameMoved (s : State) (a b : Nat) : State :=
  let cached := ((s.tree.lines.map TreeLine.line ++ s.tree.wbb.map WbbEntry.line ++
    s.dram.chans.flatMap (fun c => ((c.2.subA.writes ++ c.2.subB.writes).map DWrite.line))).filter
      (fun l => l / 32768 = a)).dedup
  let vals := cached.map (fun l => (l % 32768, lineNow s l))
  let s0 := frameClear (frameClear s a) b
  let s1 := { s0 with
    dram := { s0.dram with
    poison := s0.dram.poison ++
      (s.dram.poison.filter (fun l => l / 32768 = a)).map (fun l => b * 32768 + l % 32768) }
    tree := { s.tree with
      lines := s.tree.lines.filter (fun t => t.line / 32768 ≠ a), wbb := s.tree.wbb.filter (fun e => e.line / 32768 ≠ a) }
    cin := { s.cin with
    granules := (s.cin.granules.filter (fun (x : Nat × Granule) => x.1 / 512 = a)).foldl
      (fun (m : List (Nat × Granule)) (x : Nat × Granule) => amSet m (b * 512 + x.1 % 512) x.2)
      (s.cin.granules.filter (fun (x : Nat × Granule) => x.1 / 512 ≠ a)) } }
  let s2 := { s1 with
    dram := { s1.dram with
    mem := (s.dram.mem.filter (fun (c : Host.Cell) => c.1 / 0x200000 = a)).foldl
      (fun (m : List Host.Cell) (c : Host.Cell) => memWrite 0 m (b * 0x200000 + c.1 % 0x200000) c.2) s1.dram.mem } }
  let dirty := (s.tree.lines.filter (fun t => t.line / 32768 = a ∧ t.st = .dirty)).map (fun t => (t.line % 32768, t.lo))
  let s3 := vals.foldl (fun t v => frameLine t b v.1 v.2.1) s2
  dirty.foldl (fun t d => markDirty t (b * 32768 + d.1) d.2) s3

/-- FRAME_MOVE_DONE: the copy of a T1 frame ends and the segment takes its new frame, with its granule states (R279, R404). -/
def execFrameMoveDone (hs : Nat) (s : State) : Host.Outcome State Fault Refusal :=
  .next <|
    let g := segOf s hs
    if g.st ≠ .moving then s
    else releaseReads (segSet (frameMoved s g.frame g.toFrame) hs { g with st := .t1, frame := g.toFrame, toFrame := 0 }) hs

/-! ### Neighbour memory: the borrower (R407 to R410) -/

/-- A lender slot. -/
def lenderOf (s : State) (i : Nat) : Lender := amGet s.tier.lenders i {}

/-- The state with a lender slot replaced. -/
def lenderSet (s : State) (i : Nat) (l : Lender) : State :=
  { s with tier := { s.tier with lenders := amSet s.tier.lenders i l } }

/-- T2 segments lost (R409): every line poisoned, and one record 0xA006 for each object with the count. -/
def loseT2 (s : State) (p : Segment → Bool) : State :=
  let lost := s.tier.segs.filter (fun e => e.2.st = .t2 && p e.2)
  let s1 := lost.foldl (fun t e => segSet t e.1 { e.2 with
    st := .t3, frame := 0, lender := 0, chunks := [], poison := (List.range 32768).map (fun k => e.1 * 32768 + k) }) s
  let objs := (lost.map (fun e => e.2.obj)).dedup
  objs.foldl (fun t o => fault (setF t Reg.TIR_EVENTS_T2_LOST) .tier Ev.T2_SEGMENTS_LOST 0xFF
    (le 4 o ++ le 4 (lost.filter (fun e => e.2.obj = o)).length)) s1

/-- LEASE_GRANT: a lender grants frames with its region key and lease epoch (R407); a new epoch loses the segments held under
the old one (R409). -/
def execLeaseGrant (i : Fin 16) (frames : List Nat) (rkey epoch : Nat) (s : State) : Host.Outcome State Fault Refusal :=
  .next <|
    let l := lenderOf s i
    if !l.up then s
    else
      let fresh := l.frames ≠ [] ∧ l.epoch ≠ epoch
      let s1 := if fresh then loseT2 s (fun g => g.lender == i.val) else s
      let old := if fresh then [] else l.frames
      lenderSet s1 i { l with
        frames := (old ++ frames).dedup, used := if fresh then [] else l.used, rkey := rkey, epoch := epoch }

/-- LEASE_RECALL: a lender recalls frames (R408): the segments in them are moved to T1 at rank 2, or to the drives where no frame
is free, and frames not in use are returned at once. -/
def execLeaseRecall (i : Fin 16) (frames : List Nat) (s : State) : Host.Outcome State Fault Refusal :=
  .next <|
    let l := lenderOf s i
    let mine := frames.filter (fun f => l.frames.contains f)
    if !l.up ∨ mine = [] then s
    else
      let idle := mine.filter (fun f => !l.used.contains f)
      let rest := (((l.recalling.map Prod.fst).getD []) ++ mine.filter (fun f => !idle.contains f)).dedup
      let s1 := lenderSet s i { l with
        frames := l.frames.filter (fun f => !idle.contains f),
        recalling := if rest = [] then none
          else some (rest, (l.recalling.map Prod.snd).getD (s.time + secs (odNum s 0x300303 2 30))) }
      let s2 := if idle = [] then s1 else emit s1 (.lease true i .ret idle 0 0)
      let s3 := record (setF s2 Reg.TIR_EVENTS_RECALL) Ev.LEASE_RECALLED i (le 4 mine.length)
      (s3.tier.segs.filter (fun e => e.2.st = .t2 && e.2.lender == i.val && mine.contains e.2.frame)).foldl (fun t e =>
        match freeFrame t with
        | some _ => startLoad t e.1 2
        | none => { t with
          awl := { t.awl with
          relocQ := t.awl.relocQ ++ (List.range 32).map (fun k =>
            { dram := 0, home := e.1 * 32 + k, granules := [], takenAt := t.lck.count, barrier := false }) } }) s3

/-- LEASE_PING: a ping of a lender or of a borrower refreshes the lease; a lender's new epoch loses the segments it holds
(R407, R409). -/
def execLeasePing (fromLender : Bool) (who epoch : Nat) (s : State) : Host.Outcome State Fault Refusal :=
  .next <|
    if fromLender then
      let l := lenderOf s who
      if !l.up then s
      else if l.frames ≠ [] ∧ l.epoch ≠ epoch then
        lenderSet (loseT2 s (fun g => g.lender == who)) who { l with frames := [], used := [], epoch := epoch }
      else lenderSet s who { l with epoch := epoch }
    else s

/-- LEASE_PING_TIMER: every 100 ms a LEASE_PING goes to each connected lender and to each borrower (R407). -/
def execLeasePingTimer (s : State) : Host.Outcome State Fault Refusal :=
  .next <|
    let s1 := (s.tier.lenders.filter (fun l => l.2.up)).foldl (fun t l => emit t (.lease true l.1 .ping [] l.2.epoch 0)) s
    s.tier.borrowers.foldl (fun t b => emit t (.lease false b.addr .ping [] s.tier.lendEpoch 0)) s1

/-- LEASE_RECALL_DEADLINE: a recall's deadline passes (R408, R409): as lender the frames are taken back, as borrower the
segments still in them are lost. -/
def execLeaseRecallDeadline (asLender : Bool) (who : Nat) (s : State) : Host.Outcome State Fault Refusal :=
  .next <|
    if asLender then
      { s with
      tier := { s.tier with
      borrowers := s.tier.borrowers.map (fun (b : Borrower) =>
        if b.addr = who then
          { b with frames := b.frames.filter (fun f => !((b.recalling.map (fun r => r.1.contains f)).getD false)), recalling := none }
        else b) } }
    else
      let l := lenderOf s who
      match l.recalling with
      | some (fs, _) =>
        lenderSet (loseT2 s (fun g => g.lender == who && fs.contains g.frame)) who { l with
          frames := l.frames.filter (fun f => !fs.contains f), used := l.used.filter (fun f => !fs.contains f), recalling := none }
      | none => s

/-- LEASE_GRACE_EXPIRED: no LEASE_PING of a lender for LEASE_GRACE: its T2 segments are lost (R409). -/
def execLeaseGraceExpired (i : Fin 16) (s : State) : Host.Outcome State Fault Refusal :=
  .next <|
    let l := lenderOf s i
    if !l.up then s
    else lenderSet (loseT2 s (fun g => g.lender == i.val)) i { l with up := false, frames := [], used := [], recalling := none }

/-! ### Neighbour memory: the lender (R406 to R409) -/

/-- Leases are served (R406): LEND_EN, READY and not in COMMIT. -/
def lending (s : State) : Bool := rdb s Reg.TIR_CTRL_LEND_EN && s.boot.ready && !(s.cin.phase = .commit)

/-- Frames lent to borrowers. -/
def lentFrames (s : State) : Nat := (s.tier.borrowers.map (fun b => b.frames.length)).sum

/-- LEASE_REQ: a borrower asks for frames; the lender grants as many as LEND_GIB and its free frames allow (R406, R407). -/
def execLeaseReq (addr wanted : Nat) (s : State) : Host.Outcome State Fault Refusal :=
  .next <|
    if !lending s ∨ !s.tier.borrowers.any (fun b => b.addr = addr) then s
    else
      let room := odNum s 0x300302 4 0 * 512 - lentFrames s
      let fs := (freeFrames s).take (min (min wanted 4096) room)
      emit { s with
      tier := { s.tier with
      borrowers := s.tier.borrowers.map (fun (b : Borrower) =>
        if b.addr = addr then { b with frames := b.frames ++ fs } else b) } } (.lease false addr .grant fs s.tier.lendEpoch 0)

/-- LEASE_RETURN: a borrower returns frames, which are free again (R407). -/
def execLeaseReturn (addr : Nat) (frames : List Nat) (s : State) : Host.Outcome State Fault Refusal :=
  .next { s with
  tier := { s.tier with
  borrowers := s.tier.borrowers.map (fun (b : Borrower) =>
    if b.addr = addr then { b with frames := b.frames.filter (fun f => !frames.contains f) } else b) } }

/-! ### Lease connections (R450) -/

/-- The lease key slot of OD 0x7003:01; 0xFFFF for none. -/
def leaseKey (s : State) : Nat := odNum s 0x700301 2 0xFFFF

/-- LEASE_OPEN: a lender creates its side of a lease connection and answers with LEASE_ACCEPT (R450). A packet on a node
without the lease key cannot be read and is discarded (R449). -/
def execLeaseOpen (addr qpn psn salt ctr : Nat) (s : State) : Host.Outcome State Fault Refusal :=
  .next <|
    if !lending s ∨ leaseKey s = 0xFFFF then s
    else
      let b := (s.tier.borrowers.find? (fun x => x.addr = addr)).getD { addr := addr }
      let b1 : Borrower := { b with qpn := qpn, psn := psn, salt := salt, ctr := ctr }
      emit (freeTaken { s with
        tier := { s.tier with
        borrowers := s.tier.borrowers.filter (fun x => x.addr ≠ addr) ++ [b1] } })
        (.lease false addr .accept [] (Config.serial.toNat % 2 ^ 32) (freeNow s).toNat)

/-- A LEASE_OPEN sent (R450): the counter is a fresh random value. -/
def sendLeaseOpen (s : State) (i : Nat) : State :=
  let l := lenderOf s i
  emit (freeTaken (lenderSet s i { l with tries := l.tries + 1, opening := some (s.time + msec 10) }))
    (.lease true i .open_ [] (Config.serial.toNat % 2 ^ 32) (freeNow s).toNat)

/-- LEASE_ACCEPT: the borrower's lease connection is set up, and frames are asked for (R407, R450). -/
def execLeaseAccept (i : Fin 16) (qpn psn salt ctr : Nat) (s : State) : Host.Outcome State Fault Refusal :=
  .next <|
    let l := lenderOf s i
    if l.opening.isNone then s
    else
      let want := min 4096 (odNum s ((0x3010 + i.val) * 256 + 3) 4 0 * 512 - l.frames.length)
      let s1 := lenderSet s i { l with
        up := true, opening := none, tries := 0, qpn := qpn, psn := psn, salt := salt, ctr := ctr }
      if want = 0 then s1 else emit s1 (.lease true i .req [] want 0)

/-- LEASE_OPEN_RESEND: no answer within 10 ms: the open is sent again, up to 8 times, and then record 0xB009 written (R450). -/
def execLeaseOpenResend (i : Fin 16) (s : State) : Host.Outcome State Fault Refusal :=
  .next <|
    let l := lenderOf s i
    if l.opening.isNone then s
    else if 9 ≤ l.tries then
      fault (lenderSet s i { l with opening := none, tries := 0 }) .latigo Ev.LEASE_OPEN_FAILED i []
    else sendLeaseOpen s i

/-- Lease connections opened to every lender that OD 0x3010+i names (R407, R450). -/
def openLeases (s : State) : State :=
  if leaseKey s = 0xFFFF then s
  else (List.range 16).foldl (fun t i =>
    if (amGet t.dict.active ((0x3010 + i) * 256 + 1) []).any (fun b => b ≠ 0) ∧ !(lenderOf t i).up ∧ (lenderOf t i).opening.isNone
    then sendLeaseOpen t i else t) s

/-! ### The map checkpoint (R367, R418) -/

/-- The three distinct members that a journal copy or a root record goes to (R368): the lowest ONLINE slot of each of the three
lowest root-port groups that have one, then the lowest slots not yet chosen. -/
def chosenMembers (s : State) : List Nat :=
  let on := (List.range 24).filter (fun n => (driveOf s n).st = .online)
  let first := (((List.range 6).filterMap (fun g => on.find? (fun n => n / 4 = g))).take 3)
  (first ++ on.filter (fun n => !first.contains n)).take 3

/-- TIER_CHECKPOINT: the changed metadata and a root record are written, the entries it covers become CHECKPOINTED, and those
that were CHECKPOINTED are freed (R367, R418). -/
def execTierCheckpoint (s : State) : Host.Outcome State Fault Refusal :=
  .next <|
    if s.twin.role = .fenced ∨ s.boot.stage < 11 then s
    else
      let s0 := { s with tier := { s.tier with ckptSeq := s.tier.ckptSeq + 1, ckptAt := s.lck.count } }
      let ms := chosenMembers s0
      let s1 := ms.foldl (fun t m => emit t (.checkpoint m s0.tier.ckptSeq)) s0
      let s2 := { s1 with
      tier := { s1.tier with
      roots := ms.foldl (fun r m =>
        amSet r m { seq := s0.tier.ckptSeq, journalSeq := s0.awl.jseq }) s1.tier.roots } }
      let gone := s.awl.journal.filter (fun e => e.state = .checkpointed)
      let done := s.awl.journal.filter (fun e => e.state = .committed ∧ e.kind ≠ 2)
      let s3 := gone.foldl (fun t e => journalPut t { e with state := .free }) s2
      let s4 := done.foldl (fun t e => journalPut t { e with state := .checkpointed }) s3
      { s4 with awl := { s4.awl with full := decide (6144 ≤ s4.awl.journal.length) } }

end Sys2Proof.Machine
end

