-- ==== Sys2Proof/Machine/Commit.lean ====
section
/-!
DEFINITION. The steps of COMMIT (R313 to R319, R337, R343, R368, R518) and the requalified power-up.
-/
namespace Sys2Proof.Machine

/-- Step 2 of COMMIT: the shed-first group goes off (R29, R315). -/
def commitShed (s : State) : State :=
  let s1 := (List.range 13).foldl domDown s
  { s1 with
    cin := { s1.cin with step := 2 }
    keep := { s1.keep with
      cores := s1.keep.cores.map (fun (e : Nat × KCore) => if 4 ≤ e.1 then (e.1, { e.2 with running := false }) else e) } }

/-- Everything a host, or another writer, has been accepted for is answered (R29, R315). -/
def allAnswered (s : State) : Bool := s.host.reads.isEmpty && s.host.writes.isEmpty && s.per.barriers.isEmpty

/-- What step 3 does (R218, R315, R316): loads that Welt and Skive lines wait for, the Skive buffer and the Welt released, the Tree
cache cleaned. -/
def commitRelease (s : State) : State :=
  let hs := ((s.per.welt.map (fun (e : WeltEntry) => e.line / 32768)) ++ (s.per.skive.map (fun (e : SkiveLine) => e.line / 32768))).dedup
  let s1 := skiveWriteAll (skiveCloseWhere (hs.foldl (fun t h => startLoad t h 0) s) (fun _ => true))
  let s2 := s1.per.welt.foldl (fun t e => if weltReady t e then weltRelease t e else t) s1
  treeCleanWhere s2 (fun _ => true)

/-- Step 3 begun: the host-facing group goes off, with the links of the ports (R315). -/
def commitFlush (s : State) : State :=
  let s1 := (List.range 20).foldl (fun t k => domDown t (13 + k)) s
  commitRelease { s1 with cin := { s1.cin with step := 3 }, tree := { s1.tree with flushing := true } }

/-- Step 3 has ended (R29, R315): Welt, Skive buffer and Tree cache hold no dirty data. Retained Welt entries that bring-up has not
replayed yet do not hold it (log entry 62). -/
def flushDone (s : State) : Bool :=
  (s.per.welt.isEmpty || decide (s.boot.stage < 11)) && s.per.skive.isEmpty && s.tree.lines.all (fun t => t.st ≠ .dirty) &&
  s.tree.wbb.isEmpty

/-- Step 4 begun: the engine group goes off (R315). -/
def commitDrain (s : State) : State :=
  let s1 := domsOff s 33 42
  { s1 with cin := { s1.cin with step := 4 }, tree := { s1.tree with lines := [], flushing := false } }

/-- Nothing dirty is left for the Drain (R315). -/
def drainDone (s : State) : Bool :=
  s.cin.granules.isEmpty && s.awl.stripes.isEmpty && s.cin.chunks.isEmpty && s.per.welt.isEmpty

/-- Step 4 stops early (R317, R486): the hold-up time in use is below JOURNAL_RESERVE while a reading is available, or a
flush-critical rail or a second watchdog expiry has stopped it. -/
def drainStops (s : State) : Bool :=
  s.cin.step4Stop || ((s.cin.smbOk || s.cin.senseOk) && decide (holdup s * 10 < odNum s 0x800107 2 250)) ||
  (!s.per.welt.isEmpty && s.cin.granules.isEmpty && s.awl.stripes.isEmpty)

/-- The dirty shutdown count of every LD raised (R138, R317). -/
def dirtyShutdown (s : State) : State :=
  s.host.bound.foldl (fun t n => ldSet t n { ldOf t n with dirtyShutdowns := (ldOf t n).dirtyShutdowns + 1 }) s

/-- Step 4 ended early (R317): record 0x7009 with the bytes left, the dirty shutdown counts, the dirty summary for the next start. -/
def drainEarly (s : State) : State :=
  let s1 := record s Ev.COMMIT_ENDED_EARLY 0xFF (le 8 (dirtyBytes s))
  dirtyShutdown { s1 with
    cin := { s1.cin with early := true }
    awl := { s1.awl with dirtySum := dirtySegs s1 } }

/-- Pool frames written as POOL_DUMP stripes of up to 16 granules a chunk (R337): each takes a stripe of an own zone and a journal
entry. -/
def poolDump (s : State) : Nat → List PoolFrame → State
  | _, [] => { s with awl := { s.awl with dumpDone := true } }
  | 0, _ => s
  | k + 1, fs =>
    match pickSet s none with
    | none => s
    | some n =>
      match takeStripe s n with
      | none => s
      | some (st, s1) =>
        let now := fs.take (16 * (setOf s1 n).n)
        let q := s1.awl.jseq + 1
        let s2 := journalPut s1 {
          state := .committed, kind := 2, set := n, stripe := st, epoch := s1.cin.epoch, seq := q, upd := q,
          missing := missingMask s1 n, writer := !lowerSerial s1, chunks := now.map (fun f => (f.gran / 16, 2 ^ (f.gran % 16))),
          twinHas := false }
        let cols := (List.range (setOf s2 n).w).filter (fun c => (columnSlot s2 n c).isSome)
        let s3 := cols.foldl (fun t c => match columnSlot t n c with | some sl => issueCmd t sl .other | none => t) s2
        poolDump { s3 with awl := { s3.awl with dump := s3.awl.dump ++ now } } k (fs.drop (16 * (setOf s1 n).n))

/-- The pool dump after step 4 where the twin is lost or ended its COMMIT early (R337). -/
def poolDumpDue (s : State) : State :=
  if s.twin.pool ≠ [] ∧ (linkCarries s = false ∨ s.twin.twinEarly) then
    poolDump (record s Ev.POOL_DUMPED 0xFF (le 4 s.twin.pool.length))
      s.twin.pool.length s.twin.pool
  else s

/-- Step 5 begun (R365, R368): the header takes trigger, early flag and time, and the array goes to three members. -/
def commitJournal (s : State) : State :=
  let s1 := poolDumpDue s
  let q := s1.awl.jseq + 1
  let s2 := { s1 with
    cin := { s1.cin with step := 5, journalCopies := 0 }
    awl := { s1.awl with
      jseq := q, dirtySum := if s1.cin.early then s1.awl.dirtySum else [], hdrTrigger := s1.cin.trigger, hdrEarly := s1.cin.early, hdrTime := (s1.time - s1.cin.commitAt) / msec 10 } }
  (chosenMembers s2).foldl (fun t m => emit (issueCmd t m .journal) (.driveJournal m q)) s2

/-- A journal copy is still on its way to a reachable member. -/
def journalOut (s : State) : Bool :=
  s.awl.drives.any (fun e => e.2.linkUp && (e.2.cmds.any (fun c => c.use = .journal) || e.2.queued.any (fun u => u = .journal)))

/-- Step 5 has ended (R315, R519): the third copy is acknowledged, or none is still on its way. -/
def journalWritten (s : State) : Bool := decide (3 ≤ s.cin.journalCopies) || !journalOut s

/-- Step 6 begun (R343, R518): after a handover the own keys go and HANDOVER DONE is sent; the hold-up and retention groups go off,
and every slot by its OFF_DELAY. -/
def commitRails (s : State) : State :=
  let crit := decide (s.cin.journalCopies < 3) && s.ham.rails.any (fun e => e.2.state = .faultOn && e.2.cls = .drive)
  let s0 := if crit then recordAt s Ev.RAIL_FAULT_IN_COMMIT.code 0 0xFF (le 1 s.cin.journalCopies) else s
  let s1 := if 1 ≤ s0.cin.journalCopies then { s0 with
    awl := { s0.awl with
      diskJrn := some { seq := s0.awl.jseq, trigger := s0.awl.hdrTrigger, early := s0.awl.hdrEarly, time := s0.awl.hdrTime,
                        dumpDone := s0.awl.dumpDone, entries := s0.awl.journal, dirty := s0.awl.dirtySum } } } else s0
  let s2 := if 5 ≤ s1.cin.trigger ∧ linkCarries s1
    then emit ((configuredMembers s1).foldl (fun t m => emit t (.reserve m 0)) s1) (.twinFrame 0x60 1 0 []) else s1
  let s3 := domsOff (domsOff s2 42 83) 83 92
  { s3 with
    cin := { s3.cin with step := 6 }
    ham := { s3.ham with
      seq := .powerDown, rails := s3.ham.rails.map (fun (e : Nat × Rail) => (e.1, railTurnOff e.2)) } }

/-- Every rail is off, or no longer waited for (R518). -/
def railsDown (s : State) : Bool := s.ham.rails.all (fun e => e.2.en = false && (e.2.pg = false || e.2.stuck))

/-- An S5 is followed by a restart (R483): ERR_WINDOW.S5_RESTART is set and no S5 restart lies within S5_WINDOW. -/
def s5Restarts (s : State) : Bool :=
  rdb s Reg.ERR_WINDOW_S5_RESTART && (match s.fm.s5at with
    | some t => decide (t + secs (60 * rd s Reg.ERR_WINDOW_S5_WINDOW) ≤ s.time)
    | none => true)

/-- COMMIT ended (R314, R318, R319, R483, R534): record 0x7008, FAULT_N released, and requalification, or standing powered down until
PORST_N; a PORST_N that came meanwhile takes effect. -/
def commitEnd (s : State) : State :=
  let dur := (s.time - s.cin.commitAt) / msec 10
  let bytes := s.cin.commitBytes - dirtyBytes s
  let s1 := record s Ev.COMMIT_DONE 0xFF (le 1 s.cin.trigger ++ le 4 dur ++ le 8 bytes)
  let again := decide (s.cin.trigger ≤ 4) || (s.cin.trigger == 5 && s5Restarts s)
  let s2 := endReaction { s1 with
    cin := { s1.cin with
      step := 0, lastTrigger := s.cin.trigger, lastEarly := s.cin.early, lastDuration := satTo 0xFFFF dur, lastBytes := bytes,
      lastPartial := false }
    ham := { s1.ham with faultNDriven := false, seq := if again then .requal else .off, goodSince := none }
    fm := { s1.fm with s5restartPending := s.cin.trigger == 5 && again } } .controller
  if s.boot.porstDeferred then porstReset s2 false else supplyCheck s2

/-- COMMIT_STEP_END: the end condition of the present COMMIT step is looked at; where it holds the next step starts (R315), and where it
does not the step goes on. -/
def execCommitStepEnd (s : State) : Host.Outcome State Fault Refusal :=
  .next <|
    if s.cin.phase ≠ .commit then s
    else match s.cin.step with
    | 1 => commitShed s
    | 2 => if allAnswered s then commitFlush s else s
    | 3 => if flushDone s then commitDrain s else commitRelease s
    | 4 => if drainDone s then commitJournal s else if drainStops s then commitJournal (drainEarly s) else s
    | 5 => if journalWritten s then commitRails s else s
    | 6 => if railsDown s then commitEnd s else s
    | _ => s

/-- SW_COMMIT: CIN_SW_COMMIT is written (R313): the key enters COMMIT with trigger 6, and other values are ignored. With the Drain's
domain off the access is refused (R62, R616). -/
def execSwCommit (m : Fin 11) (value : Word) (s : State) : Host.Outcome State Fault Refusal :=
  .next <|
    match masterRefused s m 0x180060 with
    | some t => t
    | none =>
    if domOn s 52 = false then csrRefuse s m.val 3 0x180060
    else if value.toNat = 0x434D4954 then commitTrigger s 6
    else s

/-- REQUAL_POWER_UP: after step 6 the inputs have held for 2 s (R318, R483): power-up from the common start, with the straps kept. -/
def execRequalPowerUp (s : State) : Host.Outcome State Fault Refusal :=
  .next <|
    if s.ham.seq = .requal ∧ s.ham.goodSince.isSome ∧ supplyGood s then
      let s1 := requalReset s
      let s2 := { s1 with
        fm := { s1.fm with s5at := if s.fm.s5restartPending then some s.time else s.fm.s5at, s5restartPending := false } }
      powerUpStart (record s2 Ev.REQUAL_POWER_UP 0xFF [])
    else s

end Sys2Proof.Machine
end

