-- ==== Sys2Proof/Machine/OdTable.lean ====
section
/-!
DEFINITION. The entries of the object dictionary (spec/04 and the entry tables of the other chapters): keys, types, rights, defaults and
ranges (R89 to R97), the registers they load (R83), and what a read of each gives.
-/
namespace Sys2Proof.Machine

/-- The types that entries have (R90): BOOL, unsigned numbers of n bytes, OCTETS of up to n bytes, and OCTETS of exactly n. -/
inductive OdType where
  | bool | num (n : Nat) | octets (n : Nat) | exactly (n : Nat)
deriving DecidableEq, Repr

/-- Access rights (R94). -/
inductive OdRight where
  | ro | rw | tick | reset | sealed_
deriving DecidableEq, Repr

/-- A row of the dictionary: `count` entries from key `key`, `step` apart, with their type, right, default and range. -/
structure OdEntry where
  key : Nat
  step : Nat
  count : Nat
  typ : OdType
  right : OdRight
  dflt : Nat
  lo : Nat
  hi : Nat
deriving DecidableEq, Repr

/-- A single entry holding a number. -/
def odOne (key n : Nat) (right : OdRight) (dflt lo hi : Nat) : OdEntry := ⟨key, 1, 1, .num n, right, dflt, lo, hi⟩

/-- A single BOOL entry. -/
def odBool (key : Nat) (right : OdRight) (dflt : Nat) : OdEntry := ⟨key, 1, 1, .bool, right, dflt, 0, 1⟩

/-- The same subindex of `count` consecutive indices, holding a number. -/
def odMany (key count n : Nat) (right : OdRight) (dflt lo hi : Nat) : OdEntry := ⟨key, 256, count, .num n, right, dflt, lo, hi⟩

/-- Identity, communication and device entries (0x1000 to 0x2FFF). -/
def odRows1 : List OdEntry := [
  odOne 0x100001 1 .ro 0x56 0 0xFF, odOne 0x100002 2 .ro 0x7180 0 0xFFFF, odOne 0x100003 8 .ro 0 0 0, odOne 0x100004 4 .ro 0 0 0,
  odBool 0x100201 .ro 0, odOne 0x101001 2 .rw 0 0x5356 0x5356,
  odOne 0x101301 1 .rw 0 0 0xFF, odOne 0x101302 3 .rw 0 0 0xFFFFFF, ⟨0x101303, 1, 1, .octets 64, .rw, 0, 0, 0⟩,
  odOne 0x101304 1 .rw 0 1 2,
  odOne 0x102001 1 .reset 0x20 1 63, odOne 0x102002 4 .reset 1000000 500000 1000000, odOne 0x102003 4 .reset 8000000 2000000 8000000,
  odOne 0x102004 1 .reset 3 0 3, odOne 0x102005 2 .rw 64 1 0xFFFF,
  ⟨0x103001, 1, 2, .num 2, .sealed_, 0xFFFF, 0, 0xFFFF⟩, odOne 0x103003 2 .sealed_ 0x0088 0 0xFFFF,
  odOne 0x104001 1 .sealed_ 0 0 1, odBool 0x104002 .ro 0, odOne 0x104003 1 .ro 0 0 60,
  ⟨0x105001, 1, 1, .octets 96, .ro, 0, 0, 0⟩,
  odOne 0x201001 1 .reset 0 0 1, odOne 0x201002 1 .reset 50 50 60, odOne 0x202001 4 .sealed_ 0xFFFFFFFF 0 0xFFFFFFFF,
  odBool 0x203001 .reset 1, odOne 0x203002 1 .reset 1 0 3]

/-- Timers and engine parameters (0x2040 to 0x2080). -/
def odRows2 : List OdEntry := [
  odOne 0x204001 2 .tick 10 1 1000, odOne 0x204002 2 .tick 8 1 1000, odOne 0x204003 2 .tick 20 5 1000,
  odOne 0x204004 2 .tick 100 20 10000, odOne 0x204005 2 .reset 1000 100 60000, odBool 0x204006 .reset 1,
  odOne 0x204007 2 .reset 2000 100 60000, odOne 0x204008 1 .tick 10 1 255, odOne 0x204009 1 .tick 60 1 255,
  odOne 0x20400A 1 .tick 5 1 255, odBool 0x20400B .tick 1,
  odOne 0x205001 4 .tick 64 1 255, odOne 0x205002 2 .tick 1000 10 6000,
  odOne 0x206001 1 .tick 20 1 255, odOne 0x206002 1 .tick 8 1 32,
  odOne 0x207001 1 .reset 1 0 3, odOne 0x207002 1 .tick 75 2 100, odOne 0x207003 1 .tick 50 1 99, odBool 0x207004 .tick 1,
  ⟨0x208001, 1, 4, .num 1, .tick, 4, 1, 15⟩]

/-- Tiers, stripe sets and the twin (0x3000 to 0x5FFF). -/
def odRows3 : List OdEntry := [
  odOne 0x300101 2 .tick 10 1 100, odBool 0x300102 .tick 1, odOne 0x300103 1 .reset 90 50 100, odOne 0x300201 1 .tick 8 1 64,
  odBool 0x300301 .reset 0, odOne 0x300302 4 .tick 0 0 0xFFFFFFFF, odOne 0x300303 2 .tick 30 1 600, odOne 0x300304 2 .tick 10 1 600,
  ⟨0x301001, 256, 16, .octets 16, .reset, 0, 0, 0⟩, odMany 0x301002 16 1 .reset 0 0 3, odMany 0x301003 16 4 .tick 0 0 0xFFFFFFFF,
  odMany 0x310001 64 4 .tick 0xFFFFFFFF 0 0xFFFFFFFF, odMany 0x310002 64 4 .tick 0xFFFFFFFF 0 0xFFFFFFFF,
  odMany 0x310003 64 4 .tick 0xFFFFFFFF 0 0xFFFFFFFF,
  odOne 0x400101 1 .tick 5 1 100, odOne 0x400102 1 .tick 20 1 100, odOne 0x400103 2 .tick 7500 500 30000, odBool 0x400104 .tick 1,
  odOne 0x400105 1 .tick 25 5 90, odOne 0x400106 1 .tick 5 1 100, odOne 0x400107 2 .tick 1000 100 30000,
  odOne 0x400108 2 .tick 64 1 0xFFFF,
  odMany 0x410001 8 4 .reset 0 0 0xFFFFFFFF, ⟨0x410002, 256, 8, .exactly 1000, .reset, 0, 0, 0⟩,
  odMany 0x410003 8 4 .reset 4096 512 65536,
  odOne 0x500101 2 .reset 3000 1000 8000, odOne 0x500102 1 .tick 5 1 100, odOne 0x500103 2 .tick 4096 64 0xFFFF,
  odOne 0x500104 2 .tick 64 1 0xFFFF, odOne 0x500105 2 .tick 25 21 1000, odMany 0x510001 64 1 .reset 0xFF 0 0xFF]

/-- Host ports (0x6000 to 0x6FFF). -/
def odRows4 : List OdEntry := [
  odMany 0x600001 16 4 .tick 1000 100 65535, odOne 0x610001 2 .reset 0x0924 0 0xFFFF, odOne 0x610002 2 .tick 256 1 0xFFFF,
  odOne 0x610003 1 .tick 20 1 80,
  odMany 0x620001 64 1 .reset 0xFF 0 0xFF, odMany 0x620002 64 1 .reset 0 0 63, odMany 0x620003 64 4 .reset 0 0 262144,
  odMany 0x620004 64 1 .reset 0 0 1, odMany 0x620005 64 1 .reset 0xFF 0 0xFF,
  odMany 0x630001 64 1 .reset 0xFF 0 0xFF, odMany 0x630002 64 4 .reset 0 0 0xFFFFFFFF, odMany 0x630003 64 4 .reset 0 0 0xFFFFFFFF,
  odMany 0x640001 1024 1 .tick 0xFF 0 0xFF, odMany 0x640002 1024 4 .tick 0 0 0xFFFFFFFF, odMany 0x640003 1024 4 .tick 0 0 33554432,
  odMany 0x640004 1024 1 .tick 0 0 4, odMany 0x640005 1024 1 .tick 1 0 1,
  odOne 0x690001 4 .reset 4096 1 262144, odOne 0x690002 4 .reset 4096 0 262144, odOne 0x690003 2 .reset 1 0 0xFFFF]

/-- The Latigo engine and Buckle key slots (0x7000 to 0x7FFF). -/
def odRows5 : List OdEntry := [
  odOne 0x700101 1 .tick 16 1 64, odOne 0x700102 2 .tick 500 100 10000, odOne 0x700103 2 .tick 100 10 1000,
  odOne 0x700104 2 .tick 1000 0 0xFFFF, odOne 0x700105 1 .tick 64 8 255, odOne 0x700106 2 .tick 12288 4096 15360,
  odOne 0x700107 2 .tick 1024 0 3072, odOne 0x700108 2 .tick 10 1 1000, odOne 0x700109 2 .tick 256 1 0xFFFF,
  odOne 0x700301 2 .reset 0xFFFF 0 0xFFFF,
  ⟨0x701001, 256, 4, .octets 6, .reset, 0, 0, 0⟩, ⟨0x701002, 256, 4, .octets 64, .reset, 0, 0, 0⟩,
  odMany 0x701003 4 2 .reset 0 0 0xFFFF, odMany 0x701004 4 1 .reset 0xFF 0 0xFF, odMany 0x701005 4 1 .reset 0 0 0xFF,
  ⟨0x710001, 256, 128, .octets 64, .rw, 0, 0, 0⟩, ⟨0x710002, 256, 128, .octets 32, .ro, 0, 0, 0⟩,
  ⟨0x720001, 256, 128, .octets 192, .rw, 0, 0, 0⟩, ⟨0x720002, 256, 128, .octets 32, .ro, 0, 0, 0⟩]

/-- Power, recorder, firmware, statistics and sealed operations (0x8000 to 0xFFFF). -/
def odRows6 : List OdEntry := [
  odOne 0x800101 8 .tick 0x8000000000 0 0xFFFFFFFFFFFFFFFF, odOne 0x800102 2 .tick 700 100 1000, odOne 0x800103 4 .tick 50000 1000 200000,
  odOne 0x800104 1 .tick 90 50 99, odOne 0x800105 1 .tick 50 10 90, odOne 0x800106 1 .tick 10 0 49, odOne 0x800107 2 .tick 250 100 2000,
  odOne 0x800201 1 .reset 0x58 0 127, odOne 0x800202 1 .reset 0xD0 0 0xFF, odOne 0x800203 2 .reset 1200 0 0xFFFF,
  odOne 0x800301 2 .tick 32 1 0xFFFF,
  odMany 0x810001 32 4 .reset 0 0 0xFFFFFFFF, odMany 0x810002 32 2 .reset 0 0 0xFFFF, odMany 0x810003 32 2 .reset 0 0 0xFFFF,
  odMany 0x810004 32 1 .reset 0 1 255,
  odOne 0x900101 2 .tick 8 0 0xFFFF, odOne 0x900102 2 .tick 32 0 0xFFFF,
  odOne 0x900401 1 .rw 0 0 1, odOne 0x900402 8 .rw 0 0 0xFFFFFFFFFFFFFFFF, ⟨0x900403, 1, 1, .octets 4096, .ro, 0, 0, 0⟩,
  odOne 0xA00101 4 .reset 600 0 0xFFFFFFFF, odOne 0xA00201 4 .rw 0 0 0x3FF0000, ⟨0xA00202, 1, 1, .exactly 65536, .rw, 0, 0, 0⟩,
  odOne 0xA00203 4 .rw 0 0 0xFFFFFFFF,
  odMany 0xA00401 2 1 .ro 0 0 5, odMany 0xA00402 2 4 .ro 0 0 0, odMany 0xA00403 2 1 .ro 0 0 0, odBool 0xA01001 .reset 0,
  odMany 0xB05001 16 8 .ro 0 0 0, odMany 0xB05002 16 8 .ro 0 0 0, odMany 0xB05003 16 8 .ro 0 0 0, odMany 0xB05004 16 8 .ro 0 0 0,
  odMany 0xB05005 16 8 .ro 0 0 0, odMany 0xB05006 16 8 .ro 0 0 0,
  odOne 0xF01001 2 .sealed_ 0 0xC1EA 0xC1EA, odOne 0xF01101 2 .sealed_ 0 0xFAC7 0xFAC7, odOne 0xF01201 2 .sealed_ 0 0xE7A5 0xE7A5,
  odOne 0xF01301 1 .sealed_ 0 0 1]

/-- Every entry (R97). -/
def odRows : List OdEntry := odRows1 ++ odRows2 ++ odRows3 ++ odRows4 ++ odRows5 ++ odRows6

/-- The row names an entry of the key. -/
def OdEntry.has (e : OdEntry) (key : Nat) : Bool :=
  decide (e.key ≤ key) && (key - e.key) % e.step == 0 && decide ((key - e.key) / e.step < e.count)

/-- The entry of a key (R96). -/
def odFind (key : Nat) : Option OdEntry := odRows.find? (fun e => e.has key)

/-- The highest subindex of an index (R93); none where the index holds no entries. -/
def odTop (index : Nat) : Option Nat :=
  ((List.range 12).filter (fun k => (odFind (index * 256 + k + 1)).isSome)).getLast?.map (· + 1)

/-- The size of a type whose values have one length. -/
def odSize (t : OdType) : Option Nat :=
  match t with
  | .bool => some 1
  | .num n => some n
  | .exactly n => some n
  | .octets _ => none

/-- The greatest length of a value. -/
def odMax (t : OdType) : Nat :=
  match t with
  | .bool => 1
  | .num n => n
  | .exactly n => n
  | .octets n => n

/-! ### Defaults (R95) -/

/-- A member record that names a slot and its column, with any suitable drive accepted (R357). -/
def memberRow (slot col : Nat) : Bytes := le 1 slot ++ le 1 0 ++ le 1 col ++ List.replicate 37 0

/-- The default SET_MEMBERS of a set (R357): PARITY2 10+2 for sets 0 and 1, unused for the others. -/
def membersDefault (n : Nat) : Bytes :=
  if n < 2 then
    le 2 4 ++ le 1 12 ++ List.replicate 37 0 ++ (List.range 12).flatMap (fun k => memberRow (12 * n + k) k) ++
      (List.range 12).flatMap (fun _ => memberRow 0xFF 0)
  else List.replicate 40 0 ++ (List.range 24).flatMap (fun _ => memberRow 0xFF 0)

/-- The default of an entry. -/
def odDefault (key : Nat) : Bytes :=
  let i := key / 256
  let sub := key % 256
  if i = 0x4100 ∧ sub = 1 ∨ i = 0x4101 ∧ sub = 1 then le 4 0x0A04
  else if decide (0x4100 ≤ i) && decide (i < 0x4108) && sub == 2 then membersDefault (i - 0x4100)
  else if decide (0x3010 ≤ i) && decide (i < 0x3020) && sub == 1 then List.replicate 16 0
  else if decide (0x7010 ≤ i) && decide (i < 0x7014) && sub == 1 then le 6 (Config.mac (i - 0x7010)).toNat
  else if decide (0x8100 ≤ i) && decide (i < 0x8120) then
    (match sub with
      | 1 => le 4 (railCfgDefault (i - 0x8100))
      | 2 => le 2 (railOnDefault (i - 0x8100))
      | 3 => le 2 (railOffDefault (i - 0x8100))
      | _ => le 1 (railPgDefault (i - 0x8100)))
  else match odFind key with
    | none => []
    | some e => match e.typ with
      | .bool => le 1 e.dflt
      | .num n => le n e.dflt
      | .exactly _ => []
      | .octets _ => []

/-! ### Values -/

/-- A layer of the configuration store. -/
def layerOf (d : Dict) (l : LayerId) : Layer :=
  match l with
  | .base => d.base
  | .native => d.native
  | .compat => d.compat
  | .single => d.single
  | .service => d.service

/-- The state with a layer replaced. -/
def layerSet (s : State) (l : LayerId) (v : Layer) : State :=
  match l with
  | .base => { s with dict := { s.dict with base := v } }
  | .native => { s with dict := { s.dict with native := v } }
  | .compat => { s with dict := { s.dict with compat := v } }
  | .single => { s with dict := { s.dict with single := v } }
  | .service => { s with dict := { s.dict with service := v } }

/-- The values that a layer supplies (R102, R104): those of its good copy with the highest generation. -/
def layerVals (s : State) (l : LayerId) : List (Nat × Bytes) :=
  match layerBest (layerOf s.dict l) with
  | some (_, c) => c.vals
  | none => []

/-- The entries that the COMPAT overlay fixes, and their values (R583). -/
def compatFixed (key : Nat) : Option Bytes :=
  let i := key / 256
  let sub := key % 256
  if key = 0x610001 then some (le 2 0x0024)
  else if key = 0x620001 then some (le 1 0)
  else if key = 0x620101 then some (le 1 4)
  else if decide (0x6202 ≤ i) && decide (i < 0x6240) && sub == 1 then some (le 1 0xFF)
  else if decide (0x6200 ≤ i) && decide (i < 0x6240) && sub == 4 then some (le 1 0)
  else if decide (0x6200 ≤ i) && decide (i < 0x6240) && sub == 5 then some (le 1 0xFF)
  else if decide (0x6300 ≤ i) && decide (i < 0x6340) && sub == 1 then some (le 1 0xFF)
  else if decide (0x6400 ≤ i) && decide (i < 0x6800) && sub == 1 then some (le 1 0xFF)
  else if key = 0x300301 ∨ key = 0xA01001 then some (le 1 0)
  else if key = 0x103003 then some (le 2 0)
  else none

/-- The COMPAT overlay is in force. -/
def compatInForce (s : State) : Bool := s.dict.inForce.contains .compat

/-- The layer in force that supplies an entry: the last one applied that sets it, else the base configuration (R5, R99, R100). -/
def supplier (s : State) (key : Nat) : LayerId :=
  ((s.dict.inForce.filter (fun l => (amFind (layerVals s l) key).isSome)).getLast?).getD .base

/-- The stored value of an entry (R94, R95): what the configuration assembled now would hold. -/
def storedValue (s : State) (key : Nat) : Bytes :=
  match (if compatInForce s then compatFixed key else none) with
  | some b => b
  | none => amGet (layerVals s (supplier s key)) key (odDefault key)

/-- The active value of an entry. -/
def activeValue (s : State) (key : Nat) : Bytes := amGet s.dict.active key (odDefault key)

/-- The active value of an entry, or the one that waits for the next tick boundary. -/
def nextNum (s : State) (key : Nat) : Nat := leNat (amGet s.dict.tickNext key (activeValue s key))

/-- Every key of an entry of the dictionary with a right. -/
def odKeysWith (p : OdRight → Bool) : List Nat :=
  (odRows.filter (fun e => p e.right)).flatMap (fun e => (List.range e.count).map (fun k => e.key + e.step * k))

/-- The keys that an active value or a layer in force sets. -/
def odTouched (s : State) : List Nat :=
  (s.dict.active.map Prod.fst ++ (s.dict.inForce.map (fun l => (layerVals s l).map Prod.fst)).flatten).dedup

/-- RESET_PENDING (R95): an RW-RESET entry holds a stored value that is not yet active. -/
def resetPending (s : State) : Bool :=
  (odTouched s).any (fun k => (odFind k).any (fun e => e.right = .reset) && !(storedValue s k == activeValue s k))

/-- WINDOW_REMAIN: seconds left in the presence window. -/
def windowRemain (s : State) : Nat :=
  if s.pres.window then (s.pres.openedAt + secs 60 - s.time + secs 1 - 1) / secs 1 else 0

/-- SLOT_STATE codes (OD 0xA004+s:01). -/
def fwCode (x : FwSt) : Nat :=
  match x with
  | .empty => 0
  | .valid => 1
  | .pending => 2
  | .trial => 3
  | .confirmed => 4
  | .rejected => 5

/-- The statistics of a Tree slice (OD 0xB050+s). -/
def treeStat (s : State) (sl sub : Nat) : Nat :=
  match sub with
  | 1 => rd64 s (Reg.TRE_STAT_HIT_LO_HIT_LO sl) (Reg.TRE_STAT_HIT_HI_HIT_HI sl)
  | 2 => rd64 s (Reg.TRE_STAT_MISS_LO_COUNT sl) (Reg.TRE_STAT_MISS_HI_COUNT sl)
  | 3 => rd64 s (Reg.TRE_STAT_EVD_LO_COUNT sl) (Reg.TRE_STAT_EVD_HI_COUNT sl)
  | 4 => rd64 s (Reg.TRE_STAT_EVC_LO_COUNT sl) (Reg.TRE_STAT_EVC_HI_COUNT sl)
  | 5 => (s.tree.lines.filter (fun t => treeSlice t.line == sl && (t.st = .clean || t.st = .dirty))).length
  | _ => (s.tree.lines.filter (fun t => treeSlice t.line == sl && t.st = .dirty)).length

/-- The value of an RO entry that shows state. -/
def odShown (s : State) (key : Nat) : Option Bytes :=
  let i := key / 256
  let sub := key % 256
  if key = 0x100003 then some (le 8 Config.serial.toNat)
  else if key = 0x100004 then some (le 4 s.fw.version)
  else if key = 0x100201 then some (le 1 (b2n (resetPending s)))
  else if key = 0x101001 then some (le 2 (b2n s.dict.storing.isSome))
  else if key = 0x104002 then some (le 1 (b2n s.pres.window))
  else if key = 0x104003 then some (le 1 (windowRemain s))
  else if key = 0x105001 then some Config.importPubkey
  else if key = 0x900403 then some (readBlock s)
  else if i = 0xA004 ∨ i = 0xA005 then
    (let v := fwSlot s (i - 0xA004)
     match sub with
     | 1 => some (le 1 (fwCode v.st))
     | 2 => some (le 4 v.version)
     | _ => some (le 1 v.trials))
  else if decide (0xB050 ≤ i) && decide (i < 0xB060) then some (le 8 (treeStat s (i - 0xB050) sub))
  else none

/-- What a read of an entry gives (R93, R94). -/
def odValue (s : State) (key : Nat) : Bytes :=
  if key % 256 = 0 then le 1 ((odTop (key / 256)).getD 0)
  else match odShown s key with
    | some b => b
    | none => match odFind key with
      | some e => if e.right = .reset then storedValue s key else activeValue s key
      | none => []

/-! ### Registers loaded from entries (R83) -/

/-- The register fields that an entry's value is loaded into, from its low bits up. -/
def odLoad (key : Nat) : List Fld :=
  let i := key / 256
  if decide (0x6000 ≤ i) && decide (i < 0x6010) then [Reg.HPT_PORT_LAT_TARGET_TARGET (i - 0x6000)]
  else match key with
  | 0x203002 => [Reg.CFG_CTRL_CRC_REACT]
  | 0x204002 => [Reg.ERR_TIMER0_HOST_GUARD]
  | 0x204003 => [Reg.ERR_TIMER0_ENGINE_WDOG]
  | 0x204004 => [Reg.ERR_TIMER1_KEEPER_HB]
  | 0x204005 => [Reg.ERR_TIMER1_POMMEL_WDOG]
  | 0x204006 => [Reg.ERR_WDI_EN]
  | 0x204007 => [Reg.ERR_WDI_WINDOW]
  | 0x204008 => [Reg.ERR_WINDOW_S4_WINDOW]
  | 0x204009 => [Reg.ERR_WINDOW_S5_WINDOW]
  | 0x20400A => [Reg.ERR_WINDOW_GROUP_RETRY]
  | 0x20400B => [Reg.ERR_WINDOW_S5_RESTART]
  | 0x205001 => [Reg.WLT_CTRL_SKIVE_CLOSE]
  | 0x205002 => [Reg.WLT_GUARD_MEDIA_GUARD]
  | 0x206001 => [Reg.GRT_CFG_SNOOP_GUARD]
  | 0x206002 => [Reg.GRT_CFG_NACK_PRIORITY]
  | 0x207001 => [Reg.DRC_CFG_MAP]
  | 0x207002 => [Reg.DRC_PANIC_HIGH_PCT]
  | 0x207003 => [Reg.DRC_PANIC_LOW_PCT]
  | 0x207004 => [Reg.DRC_SCRUB_ENABLE]
  | 0x208001 => [Reg.BKL_WEIGHT_DW]
  | 0x208002 => [Reg.BKL_WEIGHT_DR]
  | 0x208003 => [Reg.BKL_WEIGHT_RX]
  | 0x208004 => [Reg.BKL_WEIGHT_TX]
  | 0x300101 => [Reg.TIR_CTRL_FREE_TARGET]
  | 0x300102 => [Reg.TIR_CTRL_MIGRATE_EN]
  | 0x300201 => [Reg.TIR_CTRL_DEADLINE]
  | 0x300301 => [Reg.TIR_CTRL_LEND_EN]
  | 0x400101 => [Reg.AWL_CTRL_FLOOR]
  | 0x400102 => [Reg.AWL_CTRL_FLOOR_DD]
  | 0x400103 => [Reg.AWL_MEMBER_RATE_RATE]
  | 0x400104 => [Reg.AWL_CTRL_AUTO_REBUILD]
  | 0x400105 => [Reg.AWL_CTRL_RECLAIM_PCT]
  | 0x400106 => [Reg.AWL_CTRL_READ_SHORTCUT]
  | 0x400107 => [Reg.AWL_DRIVE_CFG_TIMEOUT]
  | 0x400108 => [Reg.AWL_DRIVE_CFG_VIOL_LIMIT]
  | 0x500101 => [Reg.STP_CFG_TWIN_WAIT]
  | 0x500102 => [Reg.STP_CFG_CLAIM_DELAY]
  | 0x500103 => [Reg.STP_CTRL_FAILBACK_CAP]
  | 0x500105 => [Reg.STP_CFG_RETRAIN_GUARD]
  | 0x610002 => [Reg.HPT_GLB_CFG_VIOL_LIMIT]
  | 0x610003 => [Reg.HPT_GLB_CFG_BISNP_GUARD]
  | 0x700101 => [Reg.LAT_CREDIT_GRANT]
  | 0x700102 => [Reg.LAT_CREDIT_LIFE]
  | 0x700103 => [Reg.LAT_CREDIT_PACKET_LIFE]
  | 0x700104 => [Reg.LAT_EVICT_IDLE]
  | 0x700105 => [Reg.LAT_EVICT_SLACK]
  | 0x700106 => [Reg.LAT_PARK_CFG_RESERVE]
  | 0x800101 => [Reg.CIN_CAP_LO_CAP_LO, Reg.CIN_CAP_HI_CAP_HI]
  | 0x800102 => [Reg.CIN_DERATE_PERMILLE]
  | 0x800104 => [Reg.CIN_CTRL_SOFT_PCT]
  | 0x800105 => [Reg.CIN_CTRL_WARN_PCT]
  | 0x800106 => [Reg.CIN_CTRL_LOW_PCT]
  | 0x900101 => [Reg.STM_RATE_REFILL]
  | 0x900102 => [Reg.STM_RATE_BURST]
  | _ => []

/-- A value laid into fields from its low bits up. -/
def loadWith (put : State → Fld → Nat → State) (s : State) (fs : List Fld) (v : Nat) : State :=
  match fs with
  | [] => s
  | f :: r => loadWith put (put s f v) r (v / 2 ^ f.width)

end Sys2Proof.Machine
end

