-- ==== Sys2Proof/Machine/Dictionary.lean ====
section
/-!
DEFINITION. Access to the object dictionary (spec/04, R89 to R108): the checks of a write, what a write does, the configuration store,
and the sealed operations (R118 to R123).
-/
namespace Sys2Proof.Machine

/-! ### Routes, statuses and abort codes (R105, R115) -/

/-- The route number that records carry: 0 Tack, 1 MBX, 2 CXL. -/
def routeCode (r : Route) : Nat :=
  match r with
  | .tack _ => 0
  | .mbx => 1
  | .cxl _ => 2

/-- The mask entry of a route (R105). -/
def routeMaskKey (r : Route) : Nat := 0x103001 + routeCode r

/-- The Tack abort code that goes with a status where no rule names another (R115). -/
def abortCode (x : Status) : Nat :=
  match x with
  | .badDescriptor => 0x2
  | .length => 0x4
  | .access => 0x5
  | .busyRetry => 0x7
  | .timeout => 0x8
  | .aborted => 0x9
  | .abortTooLate => 0xA
  | .quota => 0xB
  | .sealedRefused => 0xC
  | .notReady => 0xD
  | .partnerViolation => 0xE
  | _ => 0xF

/-- A status with its abort code. -/
def stc (x : Status) : Status × Nat := (x, abortCode x)

/-! ### Reads (R96, R105, R106) -/

/-- The status of a read of a key on a route, before its value. -/
def readStatus (s : State) (r : Route) (key : Nat) : Status × Nat :=
  let i := key / 256
  if s.dict.opened = false ∧ (i < 0x1000 ∨ 0x2000 ≤ i) then stc .notReady
  else if (odTop i).isNone || (key % 256 ≠ 0 && (odFind key).isNone) then (.badDescriptor, 0x1)
  else match r with
    | .cxl _ => if 0xF000 ≤ i then (.access, 0x6) else (.ok, 0)
    | _ => (.ok, 0)

/-! ### Lengths and ranges (R90 to R92) -/

/-- The length of a value fits the type of its entry. -/
def lengthFits (e : OdEntry) (n : Nat) : Bool :=
  match odSize e.typ with
  | some k => n == k
  | none => decide (n ≤ odMax e.typ) && (decide (n ≤ 8) || n % 2 == 0)

/-- The value of an entry lies in its range. -/
def rangeFits (key : Nat) (e : OdEntry) (data : Bytes) : Bool :=
  let v := leNat data
  let i := key / 256
  let sub := key % 256
  match e.typ with
  | .bool => decide (v ≤ 1)
  | .num _ =>
    decide (e.lo ≤ v) && decide (v ≤ e.hi) &&
    (if key = 0x102002 then v == 500000 || v == 1000000
     else if key = 0x102003 then [2000000, 4000000, 5000000, 8000000].contains v
     else if key = 0x201002 then v == 50 || v == 60
     else if decide (0x5100 ≤ i) && decide (i < 0x5140) then decide (v < 64) || v == 0xFF
     else if key = 0x700301 then decide (v < 8192) || v == 0xFFFF
     else if decide (0x6200 ≤ i) && decide (i < 0x6240) && sub == 1 then decide (v < 16) || v == 0xFF
     else if decide (0x6200 ≤ i) && decide (i < 0x6240) && sub == 5 then decide (v < 32) || v == 0xFF
     else if decide (0x6300 ≤ i) && decide (i < 0x6340) && sub == 1 then decide (v < 32) || v == 0xFF
     else if decide (0x6400 ≤ i) && decide (i < 0x6800) && sub == 1 then decide (v < 64) || v == 0xFF
     else if key = 0x610001 then
       decide (v < 0x1000) && [0, 1, 2, 3].all (fun q => decide (v / 8 ^ q % 8 ≤ 4))
     else if decide (0x4100 ≤ i) && decide (i < 0x4108) && sub == 1 then
       (let n := v / 256 % 32
        v % 256 / 16 == 0 && decide (v < 0x2000) &&
        (match v % 16 with
          | 0 => true
          | 1 => decide (1 ≤ n) && decide (n ≤ 12)
          | 2 => decide (1 ≤ n) && decide (n ≤ 8)
          | 3 => decide (2 ≤ n) && decide (n ≤ 23)
          | 4 => decide (4 ≤ n) && decide (n ≤ 22)
          | _ => false))
     else if decide (0x4100 ≤ i) && decide (i < 0x4108) && sub == 3 then
       [512, 1024, 2048, 4096, 8192, 16384, 32768, 65536].contains v
     else if key = 0xA00201 then v % 65536 == 0
     else true)
  | _ => true

/-! ### Configurations that are refused (R129, R135, R246, R502) -/

/-- The stored values as they would stand after a write. -/
def storedWith (s : State) (key : Nat) (data : Bytes) (k : Nat) : Nat := if k = key then leNat data else leNat (storedValue s k)

/-- The size of an LD under stored values (R583: LDs 0 and 1 of compatibility mode take theirs from OD 0x6900). -/
def ldSizeOf (s : State) (st : Nat → Nat) (n : Nat) : Nat :=
  if compatInForce s && decide (n < 2) then st (0x690001 + n) else st ((0x6200 + n) * 256 + 3)

/-- The lanes of a port under a PORT_WIDTH value are none: it is absorbed (R125). -/
def absorbed (w p : Nat) : Bool :=
  match w / 8 ^ (p / 4) % 8, p % 4 with
  | 4, 0 => false
  | 4, _ => true
  | 1, 1 | 3, 1 | 2, 3 | 3, 3 => true
  | _, _ => false

/-- The LDs that share a window under stored values (R134). -/
def sharersOf (st : Nat → Nat) (w : Nat) : List Nat :=
  let g := st ((0x6300 + w) * 256 + 1)
  if g = 0xFF then [] else (List.range 64).filter (fun n => st ((0x6200 + n) * 256 + 5) == g)

/-- LDs, ports and shared windows are within their limits (R129, R135, R246). -/
def hostConfigOk (s : State) (st : Nat → Nat) : Bool :=
  let lds := List.range 64
  let ports := lds.map (fun n => st ((0x6200 + n) * 256 + 1))
  let wins := (List.range 64).filter (fun w => st ((0x6300 + w) * 256 + 1) ≠ 0xFF)
  let off := fun (w : Nat) => st ((0x6300 + w) * 256 + 2)
  let size := fun (w : Nat) => st ((0x6300 + w) * 256 + 3)
  (List.range 16).all (fun p => decide ((ports.filter (· = p)).length ≤ 16)) &&
  ports.all (fun p => p == 0xFF || !absorbed (st 0x610001) p) &&
  decide ((lds.map (ldSizeOf s st)).sum ≤ 262144 + (wins.map (fun w => size w * ((sharersOf st w).length - 1))).sum) &&
  wins.all (fun w =>
    decide ((sharersOf st w).length ≤ 32) &&
    (sharersOf st w).all (fun n => decide (off w + size w ≤ ldSizeOf s st n)) &&
    wins.all (fun v => v == w || st ((0x6300 + v) * 256 + 1) ≠ st ((0x6300 + w) * 256 + 1) ||
      decide (off v + size v ≤ off w) || decide (off w + size w ≤ off v))) &&
  decide ((wins.map size).sum ≤ 16384)

/-- A class and a reaction that go together (R502). -/
def reactionAllowed (cls rea : Nat) : Bool :=
  if cls = 3 then rea == 1 || rea == 3 else if decide (4 ≤ cls) then rea == 3 else true

/-- FEEDS fits the class (R502). -/
def feedsFit (enabled : Bool) (cls feeds : Nat) : Bool :=
  if cls = 1 ∨ cls = 2 ∨ cls = 5 then (!enabled || feeds ≠ 0) && decide (feeds < 16)
  else if cls = 3 then !enabled || feeds ≠ 0
  else if cls = 4 then (!enabled || feeds ≠ 0) && decide (feeds < 4)
  else feeds == 0

/-- A RAIL_CFG value that slot n accepts beside the stored values of the others (R502, R503). -/
def railCfgOk (st : Nat → Nat) (n : Nat) : Bool :=
  let cfg := fun (k : Nat) => st ((0x8100 + k) * 256 + 1)
  let group := fun (k : Nat) => cfg k / 2 % 8
  let cls := fun (k : Nat) => cfg k / 16 % 8
  let rea := fun (k : Nat) => cfg k / 128 % 4
  let crit := fun (k : Nat) => bit (cfg k) 0 && decide (3 ≤ cls k)
  let v := cfg n
  let peers := (List.range 32).filter (fun k => group k == group n)
  decide (v / 2 ^ 22 = 0) && decide (v / 2 ^ 11 % 32 = 0) &&
  reactionAllowed (cls n) (rea n) &&
  (!bit v 9 || cls n == 6) &&
  !(rea n == 2 && peers.any crit) &&
  !(crit n && peers.any (fun k => k ≠ n && bit (cfg k) 0 && rea k == 2)) &&
  feedsFit (bit v 0) (cls n) (v / 65536 % 64)

/-! ### Region entries (R209, R210) -/

/-- A subentry of a region as the next write of RGN_LD would take it: staged, else waiting, else active (R209). -/
def rgnSub (s : State) (e sub : Nat) : Nat :=
  amGet s.dict.rgnStaged ((0x6400 + e) * 256 + sub) (nextNum s ((0x6400 + e) * 256 + sub))

/-- A region entry as RGN_LD, base, size, policy and COMPLETE_AT pass the checks of R210. -/
def rgnOk (s : State) (e ld : Nat) : Bool :=
  let base := rgnSub s e 2
  let size := rgnSub s e 3
  let pol := rgnSub s e 4
  let comp := rgnSub s e 5
  let other := fun (k : Nat) => nextNum s ((0x6400 + k) * 256 + 1) == ld &&
    !(decide (base + size ≤ nextNum s ((0x6400 + k) * 256 + 2)) ||
      decide (nextNum s ((0x6400 + k) * 256 + 2) + nextNum s ((0x6400 + k) * 256 + 3) ≤ base))
  let used := ((s.dict.active ++ s.dict.tickNext).filter (fun x => decide (0x640000 ≤ x.1) && decide (x.1 < 0x680000) && x.1 % 256 == 1)).map
    (fun x => x.1 / 256 - 0x6400)
  decide (size ≠ 0) && decide (base + size ≤ ldSegs s ld) && !(used.any (fun k => k ≠ e && other k)) && decide (pol < 5) &&
  !(pol == 4 && comp == 1) &&
  !(pol == 4 && (ldWindows s ld).any (fun w => decide ((windowSegs s w).1 < base + size) &&
    decide (base < (windowSegs s w).1 + (windowSegs s w).2)))

/-! ### The checks of a write (R91 to R108) -/

/-- The layer an OVERLAY value names (R101). -/
def overlayOf (v : Nat) : LayerId :=
  match v with
  | 0 => .native
  | 1 => .compat
  | 2 => .single
  | _ => .service

/-- The check of an overlay edit (R101) with COMMAND 1 add or 2 remove. -/
def overlayCheck (s : State) (cmd : Nat) : Status × Nat :=
  let ov := leNat (activeValue s 0x101301)
  let key := leNat (activeValue s 0x101302)
  let v := activeValue s 0x101303
  let held := layerVals s (overlayOf ov)
  if cmd ≠ 1 ∧ cmd ≠ 2 ∨ 3 < ov then stc .badDescriptor
  else match odFind key with
    | none => if (odTop (key / 256)).isSome ∧ key % 256 = 0 then stc .access else (.badDescriptor, 0x1)
    | some e =>
      if e.right = .ro ∨ e.right = .sealed_ ∨ (compatFixed key).isSome then stc .access
      else if cmd = 2 then (if (amFind held key).isSome then (.ok, 0) else stc .badDescriptor)
      else if 64 < odMax e.typ then stc .length
      else if !lengthFits e v.length then stc .length
      else if !rangeFits key e v then stc .badDescriptor
      else if (amFind held key).isNone ∧ 4096 ≤ held.length then stc .quota
      else (.ok, 0)

/-- A SET_LAYOUT value that compatibility mode supports (R594): unused, MIRROR2, or PARITY2 from 4+2 to 10+2. -/
def compatLayout (v : Nat) : Bool := v % 16 == 0 || v % 16 == 1 || (v % 16 == 4 && decide (v / 256 % 32 ≤ 10))

/-- The checks that some entries have of their own. -/
def specialCheck (s : State) (key : Nat) (data : Bytes) : Status × Nat :=
  let i := key / 256
  let sub := key % 256
  let v := leNat data
  let st := storedWith s key data
  if key = 0x101001 then (if s.dict.storing.isSome then stc .busyRetry else (.ok, 0))
  else if key = 0x101304 then overlayCheck s v
  else if key = 0x207003 ∧ nextNum s 0x207002 ≤ v then stc .badDescriptor
  else if key = 0x800105 ∧ nextNum s 0x800104 ≤ v then stc .badDescriptor
  else if key = 0x700104 ∧ v < nextNum s 0x700102 + 2 * nextNum s 0x700103 then stc .badDescriptor
  else if (key = 0x610001 ∨ (0x6200 ≤ i ∧ i < 0x6340) ∨ key = 0x690001 ∨ key = 0x690002) ∧ !hostConfigOk s st then stc .badDescriptor
  else if 0x6400 ≤ i ∧ i < 0x6800 ∧ sub = 1 ∧ v ≠ 0xFF ∧ !rgnOk s (i - 0x6400) v then stc .badDescriptor
  else if 0x4100 ≤ i ∧ i < 0x4108 ∧ sub = 1 ∧ compatInForce s = true ∧ !compatLayout v then stc .badDescriptor
  else if 0x8100 ≤ i ∧ i < 0x8120 ∧ sub = 1 ∧ !railCfgOk st (i - 0x8100) then stc .badDescriptor
  else (.ok, 0)

/-- The checks of a write that need no value (R93, R94, R96, R103, R105 to R107, R583). `own` says that the write's own chunks hold the
entry. -/
def accessCheck (s : State) (r : Route) (key : Nat) (own : Bool) : Status × Nat :=
  let i := key / 256
  if s.cin.phase = .commit then stc .notReady
  else if s.dict.opened = false ∧ i ≠ 0x1040 then stc .notReady
  else if (odTop i).isNone || (key % 256 ≠ 0 && (odFind key).isNone) then (.badDescriptor, 0x1)
  else if bit (leNat (activeValue s (routeMaskKey r))) (i / 0x1000) = false then (.access, 0x6)
  else match odFind key with
    | none => stc .access
    | some e =>
      if e.right = .ro ∨ (compatInForce s = true ∧ (compatFixed key).isSome) then stc .access
      else if own = false ∧ s.dict.staged.any (fun x => x.key == key) then stc .busyRetry
      else (.ok, 0)

/-- The checks of a write with its value (R91, R92, R121). -/
def writeCheck (s : State) (r : Route) (key : Nat) (data : Bytes) (own : Bool) : Status × Nat :=
  let a := accessCheck s r key own
  if a.1 ≠ .ok then a
  else match odFind key with
    | none => stc .access
    | some e =>
      if e.right = .sealed_ ∧ s.pres.window = false then stc .sealedRefused
      else if !lengthFits e data.length then stc .length
      else if !rangeFits key e data then stc .badDescriptor
      else specialCheck s key data

/-! ### The configuration store (R99 to R102, R503) -/

/-- A layer with its values replaced in the older copy, which takes the next generation (R102). -/
def layerPut (l : Layer) (f : List (Nat × Bytes) → List (Nat × Bytes)) : Layer :=
  match layerBest l with
  | some (0, c) => { l with b := { gen := c.gen + 1, good := true, vals := f c.vals } }
  | some (_, c) => { l with a := { gen := c.gen + 1, good := true, vals := f c.vals } }
  | none => { l with a := { gen := 1, good := true, vals := f [] } }

/-- The number of a layer in the rail record (R503). -/
def layerNum (l : LayerId) : Nat :=
  match l with
  | .base => 0
  | .native => 1
  | .compat => 2
  | .single => 3
  | .service => 4

/-- The entries that the rail record carries (R503). -/
def inRail (key : Nat) : Bool :=
  (decide (0x8100 ≤ key / 256) && decide (key / 256 < 0x8120)) || key == 0x201001 || key == 0x201002

/-- A value stored in a layer, and in the rail record where that carries the entry (R99, R503); `none` removes it. -/
def storeIn (s : State) (l : LayerId) (key : Nat) (v : Option Bytes) : State :=
  let f := fun (k : Nat) (m : List (Nat × Bytes)) => match v with | some b => amSet m k b | none => amErase m k
  let s1 := layerSet s l (layerPut (layerOf s.dict l) (f key))
  if inRail key then
    { s1 with dict := { s1.dict with rail := layerPut s1.dict.rail (f (layerNum l * 2 ^ 24 + key)) } }
  else s1

/-- What a store writes (R100): every RW and RW-TICK active value that differs from its stored value, with the layer that supplies it.
Values that commands leave (results, RO state) are no values of the configuration. -/
def storeList (s : State) : List (LayerId × (Nat × Bytes)) :=
  (odTouched s).filterMap (fun k =>
    match odFind k with
    | some e =>
      if (e.right = .rw ∨ e.right = .tick) ∧ k ≠ 0x101001 ∧ !(activeValue s k == storedValue s k) then
        some (supplier s k, (k, activeValue s k)) else none
    | none => none)

/-! ### Sealed operations (R121, R123) -/

/-- The old or new value of an entry as a record carries it (R568). -/
def valueItem (b : Bytes) : Bytes := le 2 b.length ++ b

/-- The client number that a record carries: the Tack node, the CSR master or the LD. -/
def recordClient (r : Route) (client : Nat) : Nat := match r with | .cxl n => n | _ => client

/-- The crypto-erase (R473): every slot and both copies of the key store, sealed connections into ERROR, sets ASSEMBLING. -/
def cryptoErase (s : State) : State :=
  let ids := (s.lat.conns.filter (fun c => c.2.sealed)).map Prod.fst
  let s1 := ids.foldl connError s
  { s1 with
    bkl := { s1.bkl with
      slots := []
      storeA := { gen := s1.bkl.storeA.gen + 1, good := true, keys := [] }
      storeB := { gen := s1.bkl.storeB.gen + 1, good := true, keys := [] } }
    awl := { s1.awl with
      sets := s1.awl.sets.map (fun (e : Nat × StripeSet) =>
        if e.2.st = .unused then e else (e.1, { e.2 with st := SetSt.assembling, rebuild := none })) } }

/-- An HDM decoder of an LD is committed (R123: an HDM range is active). -/
def hdmActive (s : State) : Bool := s.host.lds.any (fun l => l.2.decoders.any (fun d => d.2.committed))

/-- The state after a sealed operation's commit point: the record and the window's end (R119, R123). -/
def sealedDone (s : State) (r : Route) (client : Nat) (old new : Bytes) : State :=
  closeWindow (record s Ev.SEALED_OP_DONE 0xFF (le 1 (routeCode r) ++ le 1 (recordClient r client) ++ valueItem old ++ valueItem new)) 1

/-- A sealed write that has passed its checks with a window open (R123). -/
def sealedWrite (s : State) (r : Route) (client key : Nat) (data : Bytes) : (Status × Nat) × State :=
  let old := odValue s key
  match key with
  | 0xF01001 => if s.stm.clearing.isSome then (stc .busyRetry, s)
      else ((.ok, 0), closeWindow (clearBegin s (routeCode r) (recordClient r client)) 1)
  | 0xF01101 => ((.ok, 0), sealedDone { s with dict := { s.dict with factoryPending := true } } r client old data)
  | 0xF01201 =>
    if hdmActive s && s.boot.mode ≠ .service then (stc .notReady, s)
    else ((.ok, 0), sealedDone (cryptoErase s) r client old data)
  | 0xF01301 =>
    let (ok, s1) := imgVerify s (leNat data)
    if ok then ((.ok, 0), sealedDone (fwSet s1 { s1.fw with forced := some (leNat data) }) r client old data)
    else (stc .badDescriptor, s1)
  | 0x104001 =>
    ((.ok, 0), sealedDone { storeIn s .base key (some data) with
      pres := { s.pres with policyNext := some (leNat data) } } r client old data)
  | _ => ((.ok, 0), sealedDone (storeIn s .base key (some data)) r client old data)

/-! ### What a write does -/

/-- The value of an entry becomes active. -/
def activate (s : State) (key : Nat) (data : Bytes) : State :=
  { s with dict := { s.dict with active := if data = odDefault key then amErase s.dict.active key else amSet s.dict.active key data } }

/-- The value of an RW-TICK entry that takes effect at the next tick boundary, with the fields it loads staged (R94). -/
def tickWrite (s : State) (key : Nat) (data : Bytes) : State :=
  loadWith fldStage { s with dict := { s.dict with tickNext := amSet s.dict.tickNext key data } } (odLoad key) (leNat data)

/-- A write of RGN_LD that has passed its checks (R209): the whole entry, or its removal, at the next tick. -/
def rgnWrite (s : State) (e ld : Nat) : State :=
  let k := (0x6400 + e) * 256
  let sub := fun (n : Nat) => rgnSub s e n
  if ld = 0xFF then fldStage (tickWrite s (k + 1) (le 1 0xFF)) (Reg.TRE_RGN_CFG_VALID e) 0
  else
    let s1 := tickWrite (tickWrite (tickWrite (tickWrite (tickWrite s (k + 1) (le 1 ld)) (k + 2) (le 4 (sub 2))) (k + 3) (le 4 (sub 3)))
      (k + 4) (le 1 (sub 4))) (k + 5) (le 1 (sub 5))
    let s2 := fldStage (fldStage (fldStage s1 (Reg.TRE_RGN_CFG_VALID e) 1) (Reg.TRE_RGN_CFG_LD e) ld) (Reg.TRE_RGN_CFG_POLICY e) (sub 4)
    let s3 := fldStage (fldStage (fldStage s2 (Reg.TRE_RGN_CFG_COMPLETE e) (sub 5)) (Reg.TRE_RGN_BASE_BASE e) (sub 2))
      (Reg.TRE_RGN_SIZE_SIZE e) (sub 3)
    { s3 with dict := { s3.dict with rgnStaged := s3.dict.rgnStaged.filter (fun x => x.1 / 256 ≠ 0x6400 + e) } }

/-- A write of an RW entry: commands, and values that are active at once (R94, R99). -/
def rwWrite (s : State) (key : Nat) (data : Bytes) : (Status × Nat) × State :=
  match key with
  | 0x101001 => ((.ok, 0), { s with dict := { s.dict with storing := some (storeList s) } })
  | 0x101304 =>
    let l := overlayOf (leNat (activeValue s 0x101301))
    ((.ok, 0), activate (storeIn s l (leNat (activeValue s 0x101302))
      (if leNat data = 1 then some (activeValue s 0x101303) else none)) key data)
  | 0xA00202 => let (st, s1) := fwData s data; (stc st, s1)
  | 0xA00203 => let (st, s1) := fwActivate s (leNat data); (if st = .ok then ((.ok, 0), activate s1 key data) else (stc st, s1))
  | _ => ((.ok, 0), activate s key data)

/-- The commit point of a write (R94, R99, R108): its checks, and where they pass its effect. -/
def odCommit (s : State) (r : Route) (client key : Nat) (data : Bytes) (own : Bool) : (Status × Nat) × State :=
  let c := writeCheck s r key data own
  if c.1 = .sealedRefused then (c, record s Ev.SEALED_REFUSED_NO_WINDOW 0xFF [])
  else if c.1 ≠ .ok then (c, s)
  else match odFind key with
    | none => (stc .access, s)
    | some e =>
      match e.right with
      | .ro => (stc .access, s)
      | .rw => rwWrite s key data
      | .reset => ((.ok, 0), storeIn s (supplier s key) key (some data))
      | .sealed_ => sealedWrite s r client key data
      | .tick =>
        let i := key / 256
        if 0x6400 ≤ i ∧ i < 0x6800 then
          (if key % 256 = 1 then ((.ok, 0), rgnWrite s (i - 0x6400) (leNat data))
           else ((.ok, 0), { s with dict := { s.dict with rgnStaged := amSet s.dict.rgnStaged key (leNat data) } }))
        else ((.ok, 0), tickWrite s key data)

/-- A write on a route, answered. -/
def odWrite (s : State) (r : Route) (client key : Nat) (data : Bytes) : State :=
  let (c, s1) := odCommit s r client key data false
  emit s1 (.odDone r client key c.1 [])

/-- A read on a route, answered. -/
def odRead (s : State) (r : Route) (client key : Nat) : State :=
  let c := readStatus s r key
  emit s (.odDone r client key c.1 (if c.1 = .ok then odValue s key else []))

/-! ### Staged writes of long values (R74, R107, R113) -/

/-- The staged write of an entry. -/
def stagedOf (s : State) (key : Nat) : Option OdStaged := s.dict.staged.find? (fun x => x.key == key)

/-- The staged write of an entry dropped. -/
def stagedDrop (s : State) (key : Nat) : State :=
  { s with dict := { s.dict with staged := s.dict.staged.filter (fun x => x.key ≠ key) } }

/-- A staged write replaced or begun. -/
def stagedPut (s : State) (x : OdStaged) : State :=
  let t := stagedDrop s x.key
  { t with dict := { t.dict with staged := t.dict.staged ++ [x] } }

end Sys2Proof.Machine
end

