-- ==== Sys2Proof/Machine/Assemble.lean ====
section
/-!
DEFINITION. The active configuration assembled at a start (R5, R98 to R104), the registers loaded from it (R83, R528), the locks
set by the lock policy (R78, R79), and the runs of home segments (R387).
-/
namespace Sys2Proof.Machine

/-! ### The layers in force (R5) -/

/-- The overlays that the sampled straps put in force (R5), in the order in which they apply. -/
def overlaysFor (s : State) : List LayerId :=
  (match s.boot.mode with
    | .native => [.native]
    | .compat => [.compat]
    | .service => [.service]
    | .refused => []) ++ (if s.boot.twinPresentN then [.single] else [])

/-- The entries that the COMPAT overlay fixes at values other than their defaults (R583). -/
def compatKeys : List Nat := [0x610001, 0x620001, 0x620101, 0x103003]

/-- The entries that the layers in force, or the COMPAT overlay, set. -/
def layerKeys (s : State) : List Nat :=
  let ks := (LayerId.base :: s.dict.inForce).flatMap (fun l => (layerVals s l).map Prod.fst)
  ((if compatInForce s then compatKeys else []) ++ ks).dedup.filter (fun k => (odFind k).isSome)

/-- The active values of the entries that meet a condition, assembled from the layers in force (R5, R98). -/
def assemble (s0 : State) (p : Nat → Bool) : State :=
  let s := { s0 with dict := { s0.dict with inForce := overlaysFor s0 } }
  let kept := s.dict.active.filter (fun e => !p e.1)
  { s with
    dict := { s.dict with
      active := ((layerKeys s).filter p).foldl (fun (m : List (Nat × Bytes)) k =>
        if storedValue s k = odDefault k then m else amSet m k (storedValue s k)) kept } }

/-- The entries that a host port needs to train (R125): PORT_WIDTH, the LD table, the LX-310 endpoint sizes. -/
def trainKey (k : Nat) : Bool :=
  k == 0x610001 || (decide (0x620000 ≤ k) && decide (k < 0x634000)) || (decide (0x690000 ≤ k) && decide (k < 0x690100))

/-- Record 0xE011 for each layer in force that has no valid copy (R104). -/
def layersLost (s : State) : State :=
  (LayerId.base :: s.dict.inForce).foldl (fun t l =>
    if (layerBest (layerOf t.dict l)).isNone then record t Ev.CFG_STORE_CORRUPT 0xFF [] else t) s

/-! ### Set layouts (R384) -/

/-- The layout and member map of a set taken into use (R384): at PORST_N, and where the set holds no live chunk; a stored change that
must wait leaves the set as it was and writes record 0x9012. -/
def setApply (s : State) (n : Nat) : State :=
  let k1 := (0x4100 + n) * 256 + 1
  let k2 := (0x4100 + n) * 256 + 2
  let was : Nat → Bytes := fun k => amGet s.awl.applied k (odDefault k)
  let same := activeValue s k1 == was k1 && activeValue s k2 == was k2
  let first := (amFind s.awl.applied k1).isNone
  let back : State → State := fun t => activate (activate t k1 (was k1)) k2 (was k2)
  let now : State → State := fun t => { t with
    awl := { t.awl with
    applied := amSet (amSet t.awl.applied k1 (activeValue s k1)) k2 (activeValue s k2)
    sets := if same then t.awl.sets else amErase t.awl.sets n }
    cin := if same then t.cin else { t.cin with
      freeZones := t.cin.freeZones.filter (fun z => zoneSet z ≠ n), ownedZones := t.cin.ownedZones.filter (fun z => zoneSet z ≠ n)
      twinZones := t.cin.twinZones.filter (fun z => zoneSet z ≠ n) } }
  if same || first then now s
  else if setLive s n then record (back s) Ev.LAYOUT_DEFERRED n []
  else if s.boot.warmPath then back s
  else now s

/-- Every set's layout and member map, the members that the configuration names, and the sets to be assembled. -/
def setsApply (s : State) : State :=
  let s1 := (List.range 8).foldl setApply s
  let mems := (List.range 8).flatMap (fun n => if layoutWord s1 n % 16 = 0 then [] else (memberRecords s1 n).map Prod.fst)
  let s2 := { s1 with awl := { s1.awl with configured := mems.dedup } }
  (List.range 8).foldl (fun t n =>
    let w := layoutWord t n
    let v := setOf t n
    if w % 16 = 0 then { t with awl := { t.awl with sets := amErase t.awl.sets n } }
    else setSet t n { v with layout := w % 16, n := w / 256 % 32, w := layoutWidth (w % 16) (w / 256 % 32), st := .assembling }) s2

/-! ### Registers (R83, R528) -/

/-- The entries that load register fields as they stand (R83). -/
def loadKeys : List Nat :=
  (List.range 16).map (fun p => (0x6000 + p) * 256 + 1) ++
  [0x203002, 0x204002, 0x204003, 0x204004, 0x204005, 0x204006, 0x204007, 0x204008, 0x204009, 0x20400A, 0x20400B, 0x205001, 0x205002,
   0x206001, 0x206002, 0x207001, 0x207002, 0x207003, 0x207004, 0x208001, 0x208002, 0x208003, 0x208004] ++
  [0x300101, 0x300102, 0x300201, 0x300301, 0x400101, 0x400102, 0x400103, 0x400104, 0x400105, 0x400106, 0x400107, 0x400108, 0x500101,
   0x500102, 0x500103, 0x500105, 0x610002, 0x610003, 0x700101, 0x700102, 0x700103, 0x700104, 0x700105, 0x700106] ++
  [0x800101, 0x800102, 0x800104, 0x800105, 0x800106, 0x900101, 0x900102]

/-- The row's field at a bit address, with the number of its copy. -/
def fieldOf (addr : Nat) : Option (RegRow × (Nat × FieldRow)) :=
  match findReg (addr / 32 * 4) with
  | none => none
  | some (r, k) => (r.fields.find? (fun f => f.lo == addr % 32)).map (fun f => (r, (k, f)))

/-- The governing lock of a field of copy `k` is set (R78, R79). -/
def lockSet (s : State) (r : RegRow) (k : Nat) (f : FieldRow) : Bool :=
  f.lock ≠ 0 && amGet s.csr (f.lock + (if r.count = 1 then 0 else r.stride * 8 * k)) 0 ≠ 0

/-- A field written by firmware's load: a locked field keeps its value (R78). -/
def loadFld (s : State) (f : Fld) (v : Nat) : State :=
  match fieldOf f.addr with
  | some (r, k, g) => if lockSet s r k g then s else fldWrite s f v
  | none => fldWrite s f v

/-- A field loaded before a start leaves its value: RWB and unlocked RWL fields return to their reset values, those that the fault
manager sets (R222, R474) excepted. -/
def covered (s : State) (addr : Nat) : Bool :=
  match fieldOf addr with
  | some (r, k, f) => (f.code = .rwb || f.code = .rwl) && !lockSet s r k f && crcField (r.base + r.stride * k) f && r.base ≠ 0x20008
  | none => false

/-- The value of an entry laid into the fields that it loads. -/
def loadEntry (s : State) (key : Nat) : State := loadWith loadFld s (odLoad key) (leNat (activeValue s key))

/-- The number that an entry holds. -/
def actNum (s : State) (key : Nat) : Nat := leNat (activeValue s key)

/-- The registers of an LD (R128): in compatibility mode LD_SIZE comes from OD 0x6900 (R583). An LD that is bound is enabled. -/
def loadLd (s : State) (n : Nat) : State :=
  let k := (0x6200 + n) * 256
  let p := actNum s (k + 1)
  let g := actNum s (k + 5)
  let size := if s.boot.mode = .compat then (if n < 2 then actNum s (0x690001 + n) else 0) else actNum s (k + 3)
  let s1 := loadFld (loadFld (loadFld (loadFld s (Reg.HPT_LD_CFG_PORT n) (p % 16)) (Reg.HPT_LD_CFG_TENANT n) (actNum s (k + 2)))
    (Reg.HPT_LD_CFG_MGMT n) (actNum s (k + 4))) (Reg.HPT_LD_CFG_GROUP n) (if g = 0xFF then 0x3F else g)
  let s2 := loadFld (loadFld s1 (Reg.HPT_LD_SIZE_SIZE n) size) (Reg.HPT_LD_CFG_ENABLE n) (b2n (p ≠ 0xFF))
  if p = 0xFF then s2 else { s2 with host := { s2.host with bound := s2.host.bound ++ [n] } }

/-- The registers of a shared window (R134). -/
def loadWindow (s : State) (w : Nat) : State :=
  let k := (0x6300 + w) * 256
  let g := actNum s (k + 1)
  loadFld (loadFld (loadFld (loadFld s (Reg.HPT_SW_CFG_ENABLE w) (b2n (g ≠ 0xFF))) (Reg.HPT_SW_CFG_GROUP w) (g % 32))
    (Reg.HPT_SW_OFFSET_OFFSET w) (actNum s (k + 2))) (Reg.HPT_SW_SIZE_SIZE w) (actNum s (k + 3))

/-- The host ports' registers (R125, R128, R134): the LDs, the shared windows, and the ports that carry an LD enabled. -/
def loadHosts (s : State) : State :=
  let s1 := (List.range 64).foldl loadLd { s with host := { s.host with bound := [] } }
  let s2 := (List.range 64).foldl loadWindow s1
  (List.range 16).foldl (fun t p =>
    loadFld t (Reg.HPT_PORT_CTRL_ENABLE p) (b2n (portRole t p ≠ 2 && t.host.bound.any (fun n => ldPort t n == p)))) s2

/-- A region entry (R209): an entry in use loads its registers. -/
def loadRegion (s : State) (e : Nat) : State :=
  let k := (0x6400 + e) * 256
  let ld := actNum s (k + 1)
  if ld = 0xFF then s
  else
    let s1 := fldWrite (fldWrite (fldWrite s (Reg.TRE_RGN_CFG_VALID e) 1) (Reg.TRE_RGN_CFG_LD e) ld) (Reg.TRE_RGN_CFG_POLICY e)
      (actNum s (k + 4))
    fldWrite (fldWrite (fldWrite s1 (Reg.TRE_RGN_CFG_COMPLETE e) (actNum s (k + 5))) (Reg.TRE_RGN_BASE_BASE e) (actNum s (k + 2)))
      (Reg.TRE_RGN_SIZE_SIZE e) (actNum s (k + 3))

/-- The region entries that an active value sets. -/
def regionsSet (s : State) : List Nat :=
  (s.dict.active.filter (fun x => decide (0x640000 ≤ x.1) && decide (x.1 < 0x680000) && x.1 % 256 == 1)).map
    (fun x => x.1 / 256 - 0x6400)

/-- The host-held bitmap's registers (R246): one bit a line of every shared window, at the top of local DRAM. -/
def loadBitmap (s : State) : State :=
  let lines := ((List.range 64).map (fun w => if windowUsed s w then (windowSegs s w).2 * 64 else 0)).sum
  let base := dramLines s - lines
  let s1 := loadFld s Reg.GRT_HHB_SIZE_LINES lines
  if lines = 0 then s1 else loadFld (loadFld s1 Reg.GRT_HHB_BASE_LO_BASE_LO base) Reg.GRT_HHB_BASE_HI_BASE_HI (base / 2 ^ 26)

/-- Every covered register loaded from the active configuration (R83, R85, R528). -/
def loadAll (s0 : State) : State :=
  let s := { s0 with csr := s0.csr.filter (fun e => !covered s0 e.1) }
  let s1 := loadKeys.foldl loadEntry s
  let s2 := loadFld (loadFld s1 Reg.LCK_CFG_FORCE_SYNTH (b2n s1.lck.forceSynth)) Reg.LCK_CFG_SYNTH_60 (b2n s1.lck.synth60)
  loadBitmap ((regionsSet s2).foldl loadRegion (loadHosts s2))

/-! ### Locks (R78, R79) -/

/-- The *_LOCK fields in the order of their blocks (R61). -/
def lockFields : List Fld :=
  [Reg.LCK_CFG_LCK_CFG_LOCK, Reg.CFG_CTRL_CFG_CTRL_LOCK] ++
  (List.range 16).map Reg.HPT_PORT_CTRL_HPT_PORT_CTRL_LOCK ++ (List.range 64).map Reg.HPT_LD_CFG_HPT_LD_CFG_LOCK ++
  (List.range 64).map Reg.HPT_SW_CFG_HPT_SW_CFG_LOCK ++ (List.range 16).map Reg.TRE_WAY_DISABLE_TRE_WAY_DISABLE_LOCK ++
  (List.range 16).map Reg.TRE_LFSR_SEED_TRE_LFSR_SEED_LOCK ++
  [Reg.GRT_HHB_SIZE_GRT_HHB_LOCK, Reg.DRC_CFG_DRC_CFG_LOCK, Reg.STP_CFG_STP_CFG_LOCK, Reg.TIR_CTRL_TIR_CTRL_LOCK,
   Reg.BKL_CORE_DISABLE_BKL_CORE_DISABLE_LOCK, Reg.ERR_WDI_ERR_WDI_LOCK, Reg.FLS_PROTECT_FLS_PROTECT_LOCK]

/-- The locks that LOCK_POLICY selects set: bit n for the *_LOCK fields of block n. LCK_CFG_LOCK is set in any case. -/
def setLocks (s : State) : State :=
  let pol := actNum s 0x202001
  lockFields.foldl (fun t f => if f = Reg.LCK_CFG_LCK_CFG_LOCK ∨ bit pol (blockOf (f.addr / 8)) then setF t f else t) s

/-! ### Home segments (R387) -/

/-- The lowest home segment from which a run of a size is free. -/
def runPlace (runs : List (Nat × (Nat × Nat))) (size : Nat) : Nat :=
  let ends := 0 :: runs.map (fun r => r.2.1 + r.2.2)
  let free : Nat → Bool := fun b => runs.all (fun r => decide (r.2.1 + r.2.2 ≤ b) || decide (b + size ≤ r.2.1))
  ((ends.filter free).mergeSort (· ≤ ·)).headD 0

/-- A base object given its run: the one it has where its size is the same, else a new one, with its old contents dropped. -/
def runApply (s : State) (base size : Nat) : State :=
  let old := runOf s base
  if old.2 = size then s
  else
    let runs := amErase s.tier.runs base
    let inOld : Nat → Bool := fun hs => decide (old.1 ≤ hs) && decide (hs < old.1 + old.2)
    { s with
      tier := { s.tier with
        runs := if size = 0 then runs else amSet runs base (runPlace runs size, size)
        segs := s.tier.segs.filter (fun e => !inOld e.1)
        objs := s.tier.objs.filter (fun o => o.base ≠ base) } }

/-- The runs of every LD, less its windows, and of every shared window. -/
def runsApply (s : State) : State :=
  let s1 := (List.range 64).foldl (fun t n =>
    runApply t n (if ldBound t n then ldSegs t n - ((ldWindows t n).map (fun w => (windowSegs t w).2)).sum else 0)) s
  (List.range 64).foldl (fun t w => runApply t (64 + w) (if windowUsed t w then (windowSegs t w).2 else 0)) s1

end Sys2Proof.Machine
end

