-- ==== Sys2Proof/Machine/LineClock.lean ====
section
/-!
DEFINITION. The line clock (spec/02): how LINE_SYNC pulses, missed crossings and the end of the listen change it
(R38 to R51), and the advance of the tick (R33, R41, R48).
-/
namespace Sys2Proof.Machine

/-- The nominal half-cycle in SYSCLK_IN cycles (R48): 250,000 at 50 Hz, 208,333 at 60 Hz. -/
def nominalCycles (freq60 : Bool) : Nat := if freq60 then 208333 else 250000

/-- The half-cycle the clock runs at, in SYSCLK_IN cycles: the measured period, or the nominal one where none has been
measured (R35); in SYNTHETIC at 60 Hz every third half-cycle has one cycle more (R48). -/
def runPeriod (c : LineClock) : Nat :=
  if c.state = .synthetic then
    (if c.synth60 then 208333 + (if c.acc = 2 then 1 else 0) else 250000)
  else if c.period = 0 then nominalCycles c.freq60 else c.period

/-- The correction of one tick (R41): the phase error, limited to 12.5% of the tick spacing. In units of 1/1,024 cycle a
tick is as long as the half-cycle is in cycles. -/
def tickCorrection (c : LineClock) : Int :=
  let m : Int := (runPeriod c / 8 : Nat)
  if c.phaseErr > m then m else if c.phaseErr < -m then -m else c.phaseErr

/-- The length of the present tick. -/
def tickLength (c : LineClock) : Nat := ((runPeriod c : Int) + tickCorrection c).toNat

/-- Which frequency range an interval in SYSCLK_IN cycles lies in (R45): `some false` for 50 Hz, `some true` for
60 Hz. -/
def freqRange (cyc : Nat) : Option Bool :=
  if 225000 ≤ cyc ∧ cyc ≤ 277500 then some false
  else if 190000 ≤ cyc ∧ cyc < 225000 then some true
  else none

/-- The mean interval, in SYSCLK_IN cycles per half-cycle, between the first and the last of a list of crossings (time
and boundary index), oldest first; 0 where there are fewer than two. -/
def meanPeriod (xs : List (Nat × Nat)) : Nat :=
  match xs.head?, xs.getLast? with
  | some a, some b => if b.2 ≤ a.2 then 0 else (b.1 - a.1) / (b.2 - a.2) / 1024
  | _, _ => 0

/-- The crossings R39 takes the mean over: the last eight once eight good crossings have come since LOCKED, else all. -/
def keptCrossings (xs : List (Nat × Nat)) (goodSince : Nat) : List (Nat × Nat) :=
  if 8 ≤ goodSince then xs.drop (xs.length - 8) else xs

/-- A pulse counted as a glitch and otherwise ignored (R38, R40). -/
def lineGlitch (s : State) : State :=
  record (setF (bump s Reg.LCK_COUNTS_GLITCH_TOTAL 1) Reg.LCK_EVENTS_GLITCH) Ev.LINE_GLITCH 0xFF []

/-- The check of a newly measured period against the range of the frequency in use (R45). -/
def checkRange (s : State) : State :=
  if s.lck.period ≠ 0 ∧ freqRange s.lck.period ≠ some s.lck.freq60 then
    if s.lck.outOfRange then s
    else record (setF { s with lck := { s.lck with outOfRange := true } } Reg.LCK_EVENTS_FREQ_RANGE)
      Ev.LINE_FREQ_RANGE 0xFF []
  else { s with lck := { s.lck with outOfRange := false } }

/-- SYNTHETIC is entered at the frequency of SYNTH_FREQ (R47, R48). -/
def enterSynthetic (s : State) : State :=
  { s with lck := { s.lck with state := .synthetic, freq60 := s.lck.synth60, listening := false, awaitNext := none,
                               xings := [], missRun := 0, goodRun := 0, prevDone := true } }

/-- A good crossing at time `t` with phase error `err` (R40 to R45, R312). -/
def goodCrossing (s : State) (t idx : Nat) (err : Int) (next : Bool) : State :=
  let c := s.lck
  let xs := keptCrossings (c.xings ++ [(t, idx)]) (c.goodSince + 1)
  let p := meanPeriod xs
  let inTick : Bool := decide (err ≤ (runPeriod c : Int)) && decide (-(runPeriod c : Int) ≤ err)
  let run := if c.state = .holdover then c.goodRun + 1 else if inTick then 0 else 1
  let relock : Bool := decide (c.state = .holdover) && decide (4 ≤ run) && inTick
  let st : LckState := if relock then .locked else if c.state = .locked ∧ inTick = false then .holdover else c.state
  let s1 := { s with
    lck := { c with
    xings := xs, goodSince := c.goodSince + 1, period := if p = 0 then c.period else p,
    phaseErr := err, missRun := 0, goodRun := if relock then 0 else run, state := st,
    prevDone := if next then c.prevDone else true, nextGood := if next then true else c.nextGood } }
  let s2 := if relock then record (setF s1 Reg.LCK_EVENTS_RELOCK) Ev.LINE_RELOCK 0xFF [] else s1
  let s3 := checkRange s2
  if c.state = .holdover ∧ 4 ≤ run then warnStandDown s3 else s3

/-- A qualified pulse during the listen of R46: the third in one range makes the clock wait for the next, and that next
one begins a new half-cycle and enters LOCKED. -/
def listenPulse (s : State) (t : Nat) : State :=
  let c := s.lck
  match c.awaitNext with
  | some _ =>
    let xs := c.xings ++ [(t, c.boundaries + c.xings.length)]
    { s with
      lck := { c with
      count := (c.count + 1) % 2 ^ 40, phase := 0, state := .locked, listening := false, awaitNext := none,
      boundaries := c.boundaries + c.xings.length, xings := xs, goodSince := 0, period := meanPeriod xs,
      lastBoundary := t, prevExp := t, prevDone := true, nextGood := false, missRun := 0, goodRun := 0, phaseErr := 0 } }
  | none =>
    let ps := c.xings ++ [(t, c.boundaries + c.xings.length)]
    match ps.reverse with
    | z :: y :: x :: _ =>
      let a := freqRange ((y.1 - x.1) / 1024)
      let b := freqRange ((z.1 - y.1) / 1024)
      if a ≠ none ∧ a = b then
        { s with lck := { c with xings := ps.drop (ps.length - 3), freq60 := a.getD false,
                                 awaitNext := some (t + (z.1 - x.1) / 2 + usec 1500) } }
      else { s with lck := { c with xings := ps } }
    | _ => { s with lck := { c with xings := ps } }

/-- A time within 1.5 ms of another (R40). -/
def nearCrossing (t e : Nat) : Bool := decide (t ≤ e + usec 1500) && decide (e ≤ t + usec 1500)

/-- LINE_SYNC_PULSE: a pulse high for `highNs` ns, which rose `dt` SYSCLK_IN cycles after the last tick boundary
(R38 to R45, R50). -/
def execLineSyncPulse (highNs dt : Nat) (s : State) : Host.Outcome State Fault Refusal :=
  let t := s.time + cycles dt
  let c := s.lck
  .next <|
    if highNs < 2000 then lineGlitch s
    else match c.state with
    | .acquire => if c.listening then listenPulse s t else s
    | .synthetic =>
      if c.lineSeen then s
      else record { s with lck := { c with lineSeen := true } } Ev.LINE_SEEN_SYNTH 0xFF []
    | _ =>
      let upcoming := s.time + (1024 - c.phase) * runPeriod c
      let nextExp := c.lastBoundary + runPeriod c * 1024
      if nearCrossing t c.prevExp then
        if c.prevDone then lineGlitch s
        else goodCrossing s t c.boundaries ((t : Int) - (c.lastBoundary : Int)) false
      else if nearCrossing t nextExp then
        if c.nextGood then lineGlitch s
        else goodCrossing s t (c.boundaries + 1) ((t : Int) - (upcoming : Int)) true
      else lineGlitch s

/-- LINE_MISSED: the window of the last crossing closes without a good crossing (R43): the first such half-cycle enters
WARN, and the third in a row is COMMIT trigger 3. -/
def execLineMissed (s : State) : Host.Outcome State Fault Refusal :=
  let c := s.lck
  .next <|
    if (c.state = .locked ∨ c.state = .holdover) ∧ c.prevDone = false then
      let s1 := record (setF (bump { s with
        lck := { c with
        state := .holdover, missRun := min 7 (c.missRun + 1), goodRun := 0, prevDone := true } }
        Reg.LCK_COUNTS_MISSED_TOTAL 1) Reg.LCK_EVENTS_MISSED) Ev.LINE_MISSED 0xFF []
      if s.ham.seq = .requal ∨ s.ham.seq = .backout then requalRestart s1
      else if c.missRun + 1 = 3 then commitTrigger s1 3
      else if c.missRun = 0 then warnEnter s1
      else s1
    else s

/-- LINE_LISTEN_END: the listen of R46, or the wait for the next pulse, ends without LOCKED: the clock enters SYNTHETIC
and writes record 0x2003. -/
def execLineListenEnd (s : State) : Host.Outcome State Fault Refusal :=
  .next <|
    if s.lck.listening then record (enterSynthetic s) Ev.LINE_ABSENT 0xFF [] else s

end Sys2Proof.Machine
end

