-- ==== Sys2Proof/Machine/Tack.lean ====
section
/-!
DEFINITION. The meanings of the Tack frames (spec/04, R109 to R117).
-/
namespace Sys2Proof.Machine

/-- The channel is switched on (OD 0x1020:04). -/
def tackOn (s : State) (chan : Nat) : Bool := bit (leNat (activeValue s 0x102004)) chan

/-- Tack takes frames: from the start of the pommel core at bring-up step 3, on a channel that is on. -/
def tackHears (s : State) (chan : Nat) : Bool := !s.boot.porst && s.ham.vddAon && decide (3 ≤ s.boot.stage) && tackOn s chan

/-- The state with the transactions replaced. -/
def txnsSet (s : State) (ts : List TackTxn) : State := { s with tack := { s.tack with txns := ts } }

/-- The running transaction of a channel, CLIENT and TAG. -/
def txnOf (s : State) (h : TackHdr) : Option TackTxn :=
  s.tack.txns.find? (fun t => t.chan == h.chan.val && t.client == h.client && t.tag == h.tag)

/-- A transaction ended, with its staged write (R107). -/
def txnDrop (s : State) (t : TackTxn) : State :=
  let s1 := txnsSet s (s.tack.txns.filter (fun x => !(x.chan == t.chan && x.client == t.client && x.tag == t.tag)))
  if t.isWrite then stagedDrop s1 t.key else s1

/-- A transaction replaced or begun. -/
def txnPut (s : State) (t : TackTxn) : State :=
  txnsSet s (s.tack.txns.filter (fun x => !(x.chan == t.chan && x.client == t.client && x.tag == t.tag)) ++ [t])

/-- An ABORT frame sent with a status and an abort code (R115). -/
def tackAbort (s : State) (h : TackHdr) (key : Nat) (st : Status × Nat) : State :=
  emit s (.tack h.chan 0x06 h.client h.tag key (statusCode st.1) (le 2 st.2))

/-- A violation counted against a channel (R109, R116). -/
def chanViolation (s : State) (chan : Nat) : State :=
  { s with tack := { s.tack with chanViol := amSet s.tack.chanViol chan (amGet s.tack.chanViol chan 0 + 1) } }

/-- A violation by a node (R116): answered with MALFORMED and counted; above TACK_VIOL_LIMIT the node is contained for 60 s. -/
def nodeViolation (s : State) (h : TackHdr) : State :=
  let lim := leNat (activeValue s 0x102005)
  let s1 := tackAbort s h 0 (stc .partnerViolation)
  let s2 := countViolation s1 (.tackNode h.client) lim
  if overLimit s1 (.tackNode h.client) lim then record s2 Ev.TACK_NODE_CONTAINED 0xFF (le 1 h.client) else s2

/-- The common part of every frame (R116): a channel that does not hear, a CLIENT that cannot be trusted, a contained node, a malformed
header; else what the command does. -/
def tackFrame (s : State) (h : TackHdr) (run : State → State) : State :=
  if !tackHears s h.chan then s
  else if h.client = 0 ∨ 63 < h.client ∨ h.client = s.tack.node then chanViolation s h.chan
  else if contained s (.tackNode h.client) then s
  else if 56 < h.len ∨ h.fits = false ∨ h.known = false then nodeViolation s h
  else run s

/-- A request that begins a transaction (R115): a repeated TAG aborts the running one, and a ninth request is turned away. -/
def tackRequest (s : State) (h : TackHdr) (key : Nat) (run : State → State) : State :=
  match txnOf s h with
  | some t => nodeViolation (txnDrop s t) h
  | none =>
    if 8 ≤ (s.tack.txns.filter (fun t => t.chan == h.chan.val)).length then tackAbort s h key (stc .busyRetry) else run s

/-- SEGMENT frames of a read sent, from one number up to another (R113). -/
def sendSegments (s : State) (t : TackTxn) (from_ upto : Nat) : State :=
  (List.range (upto - from_)).foldl (fun u k =>
    let n := from_ + k
    emit u (.tack t.chan 0x04 t.client t.tag n (b2n (decide (t.total ≤ 56 * (n + 1)))) ((t.data.drop (56 * n)).take 56))) s

/-- The number of segments of a length. -/
def segCount (n : Nat) : Nat := (n + 55) / 56

/-- READ: answered with the value, or with its length and the first segments (R112, R113). -/
def execRead (h : TackHdr) (key : Nat) (s : State) : Host.Outcome State Fault Refusal :=
  .next <| tackFrame s h (fun s => tackRequest s h key (fun s =>
    let c := readStatus s (.tack h.chan) key
    let v := odValue s key
    if c.1 ≠ .ok then tackAbort s h key c
    else if v.length ≤ 56 then emit s (.tack h.chan 0x81 h.client h.tag key 0 v)
    else
      let t : TackTxn := ⟨h.chan, h.client, h.tag, key, false, v.length, v, min 16 (segCount v.length), 0⟩
      sendSegments (txnPut (emit s (.tack h.chan 0x81 h.client h.tag key 0 (le 4 v.length))) t) t 0 t.nextSeg))

/-- The answer to a write at its commit point (R112, R113, R115). -/
def tackAnswer (s : State) (h : TackHdr) (key : Nat) (c : Status × Nat) : State :=
  if c.1 = .ok then
    emit { s with dict := { s.dict with done := amSet s.dict.done (64 * h.chan + h.client) h.tag } }
      (.tack h.chan 0x82 h.client h.tag key 0 [])
  else tackAbort s h key c

/-- WRITE: a value of up to 56 bytes (R112). -/
def execWrite (h : TackHdr) (key : Nat) (data : Bytes) (s : State) : Host.Outcome State Fault Refusal :=
  .next <| tackFrame s h (fun s => tackRequest s h key (fun s =>
    let (c, s1) := odCommit s (.tack h.chan) h.client key (data.take h.len) false
    tackAnswer s1 h key c))

/-- WRITE_INIT: a segmented write of a total length opened (R113). -/
def execWriteInit (h : TackHdr) (key total : Nat) (s : State) : Host.Outcome State Fault Refusal :=
  .next <| tackFrame s h (fun s => tackRequest s h key (fun s =>
    let c := accessCheck s (.tack h.chan) key false
    if c.1 ≠ .ok then tackAbort s h key c
    else if 16777214 < total then tackAbort s h key (stc .length)
    else
      let s1 := stagedPut s ⟨key, .tack h.chan, h.client, total, []⟩
      emit (txnPut s1 ⟨h.chan, h.client, h.tag, key, true, total, [], 0, 0⟩) (.tack h.chan 0x83 h.client h.tag key 0 [])))

/-- The last segment of a write (R113): acknowledged, committed and answered. -/
def lastSegment (s : State) (h : TackHdr) (t : TackTxn) (data : Bytes) (n : Nat) : State :=
  let s1 := emit (txnDrop s t) (.tack h.chan 0x05 h.client h.tag n 0 [])
  if data.length ≠ t.total then tackAbort s1 h t.key (stc .length)
  else
    let (c, s2) := odCommit s1 (.tack h.chan) h.client t.key data true
    tackAnswer s2 h t.key c

/-- SEGMENT: up to 56 bytes of a segmented write (R113, R114). -/
def execSegment (h : TackHdr) (n : Nat) (last : Bool) (data : Bytes) (s : State) : Host.Outcome State Fault Refusal :=
  .next <| tackFrame s h (fun s =>
    match txnOf s h with
    | none => s
    | some t =>
      if t.isWrite = false then s
      else if n ≠ t.nextSeg then tackAbort (txnDrop s t) h t.key (.badDescriptor, 0x3)
      else
        let d := t.data ++ data.take h.len
        if last then lastSegment s h t d n
        else if h.len ≠ 56 ∨ t.total ≤ d.length then tackAbort (txnDrop s t) h t.key (stc .length)
        else
          let s1 := txnPut s { t with data := d, nextSeg := n + 1 }
          if (n + 1) % 16 = 0 then emit s1 (.tack h.chan 0x05 h.client h.tag n 0 []) else s1)

/-- ACK: segments of a read acknowledged up to a number (R113): the sender goes on, at most 16 beyond the last ACK. -/
def execAck (h : TackHdr) (n : Nat) (s : State) : Host.Outcome State Fault Refusal :=
  .next <| tackFrame s h (fun s =>
    match txnOf s h with
    | none => s
    | some t =>
      if t.isWrite ∨ n < t.acked ∨ t.nextSeg ≤ n then s
      else if n + 1 = segCount t.total then txnDrop s t
      else
        let upto := min (n + 17) (segCount t.total)
        sendSegments (txnPut s { t with acked := n + 1, nextSeg := upto }) t t.nextSeg upto)

/-- ABORT: a client aborts a transaction (R108, R114, R493, R494): a running one ends ABORTED and leaves its entry untouched; a write that
has completed stands; a tag that names no operation is BAD_DESCRIPTOR. -/
def execAbort (h : TackHdr) (s : State) : Host.Outcome State Fault Refusal :=
  .next <| tackFrame s h (fun s =>
    let answer := fun (t : State) (key : Nat) (st : Status) =>
      emit t (.tack h.chan 0x86 h.client h.tag key (statusCode st) (le 2 (abortCode st)))
    match txnOf s h with
    | some t => answer (txnDrop s t) t.key .aborted
    | none => answer s 0 (if amFind s.dict.done (64 * h.chan + h.client) = some h.tag then .abortTooLate else .badDescriptor))

/-- TACK_TRANSFER_TIMEOUT: no frame of a transaction for 500 ms (R114). -/
def execTackTransferTimeout (chan : Fin 2) (client tag : Nat) (s : State) : Host.Outcome State Fault Refusal :=
  let h : TackHdr := ⟨chan, client, tag, 0, true, true⟩
  .next <|
    match txnOf s h with
    | none => s
    | some t => tackAbort (txnDrop s t) h t.key (stc .timeout)

/-- TACK_CLASSICAL_FRAME: a classical CAN frame is ignored and counted (R109). -/
def execTackClassicalFrame (chan : Fin 2) (s : State) : Host.Outcome State Fault Refusal :=
  .next (if tackHears s chan then chanViolation s chan else s)

/-- The boot-up frame sent on every channel that is on, and the listen begun (R110, R117). -/
def tackBoot (s : State) : State :=
  let s1 := [0, 1].foldl (fun t c => if tackOn t c then emit t (.bootUp c) else t) s
  { s1 with tack := { s1.tack with listening := true } }

/-- TACK_BOOTUP_FRAME: a boot-up frame of a device with a serial number (R117): while this one listens, the lower serial number moves to
the next node ID. -/
def execTackBootupFrame (chan : Fin 2) (node serial : Nat) (s : State) : Host.Outcome State Fault Refusal :=
  .next <|
    if tackHears s chan && s.tack.listening && node == s.tack.node && decide (Config.serial.toNat < serial) then
      let n := if s.tack.node = 63 then 1 else s.tack.node + 1
      tackBoot (record { s with tack := { s.tack with node := n } } Ev.TACK_NODE_MOVED 0xFF (le 1 n))
    else s

/-- TACK_BOOTUP_LISTEN_END: the 100 ms listen ends (R117). -/
def execTackBootupListenEnd (s : State) : Host.Outcome State Fault Refusal :=
  .next { s with tack := { s.tack with listening := false } }

end Sys2Proof.Machine
end

