-- ==== Sys2Proof/Machine/Bringup.lean ====
section
/-!
DEFINITION. The meanings of PORST_N, VDD_AON, the bring-up steps and the warm resets (spec/00 R1 to R5, spec/18 R524 to R536).
-/
namespace Sys2Proof.Machine

/-! ### PORST_N and VDD_AON (R1 to R4, R35, R46, R47, R500, R506, R603) -/

/-- The mode that MODE[1:0] and SERVICE_N select (R2). -/
def strapMode (m : Nat) (serviceN : Bool) : Mode :=
  match m with
  | 0 => .native
  | 1 => .compat
  | 2 => if serviceN then .refused else .service
  | _ => .refused

/-- The count at which the line clock resumes after VDD_AON was lost (R35): one more than the largest count and the largest
reservation in LAST, 0 where it holds neither. -/
def countResume (s : State) : Nat :=
  let rs := (s.stm.last.filter (fun r => !r.torn)).map AreaRec.rcd
  let vs := rs.flatMap (fun r =>
    r.count :: (if r.code = Ev.LINE_RESERVE.code then [leNat ((r.payload.drop 1).take 8)] else []))
  if vs = [] then 0 else vs.foldl max 0 + 1

/-- The line clock at the release of PORST_N (R35, R46, R47): LINE_MODE and SYNTH_FREQ from the rail record under the straps just
sampled. -/
def clockStart (s : State) : State :=
  let force := railValue (strapLayers s) (railVals s) 0x201001 1 0 == 1
  let synth60 := railValue (strapLayers s) (railVals s) 0x201002 1 50 == 60
  let c := s.lck
  let c1 := if c.countLost
    then { c with count := countResume s % 2 ^ 40, phase := 0, countLost := false, lastBoundary := s.time, prevDone := true }
    else c
  let s1 := { s with
    lck := { c1 with forceSynth := force, synth60 := synth60, state := .acquire, listening := !force, awaitNext := none,
                     xings := [], missRun := 0, goodRun := 0, aligned := false } }
  if force then enterSynthetic s1 else s1

/-- A factory default that waited for PORST_N clears the configuration store and the rail record. -/
def factoryApply (d : Dict) : Dict := if d.factoryPending then {} else d

/-- PORST_N_RELEASE: the straps are sampled and select the mode, the line clock starts, and bring-up begins at step 1; a Refused
selection stops before any common start (R1 to R3, R35, R46, R524). -/
def execPorstNRelease (mode : Fin 4) (serviceN twinPresentN : Bool) (s : State) : Host.Outcome State Fault Refusal :=
  .next <|
    if s.ham.vddAon = false then s
    else if s.boot.porst = false then { s with boot := { s.boot with porstDeferred := false } }
    else
      let m := strapMode mode serviceN
      let s1 := clockStart { s with
        dict := factoryApply s.dict
        boot := { s.boot with
          porst := false, porstDeferred := false, modeStrap := mode, serviceN := serviceN, twinPresentN := twinPresentN, mode := m,
          stage := 1, stop := .none, late := false, startAt := s.time, stepAt := s.time, warm := .none, warmPath := false } }
      if m = .refused then
        alert (record { s1 with boot := { s1.boot with stop := .refused } } Ev.MODE_STRAP_INVALID 0xFF
          (le 1 mode ++ le 1 (b2n serviceN))) Ev.MODE_STRAP_INVALID.code
      else s1

/-- PORST_N_ASSERT: every RAIL_EN without RETAIN goes low, and a warm reset ends; during COMMIT it waits until step 6 has ended
(R506, R534, R536). `torn` says that a store found its write begun (R102). -/
def execPorstNAssert (torn : Bool) (s : State) : Host.Outcome State Fault Refusal :=
  .next <|
    if s.boot.porst ∨ s.ham.vddAon = false then s
    else if s.cin.phase = .commit then
      if s.boot.porstDeferred then s
      else record { s with boot := { s.boot with porstDeferred := true } } Ev.PORST_DEFERRED 0xFF []
    else porstReset (closeWindow s 2) torn

/-- VDD_AON_LOSS: the always-on group loses what it holds, so that the next release is a cold start (R35, R500, R526, R603). -/
def execVddAonLoss (torn : Bool) (s : State) : Host.Outcome State Fault Refusal :=
  .next <| if s.ham.vddAon then vddAonLost s torn else s

/-- VDD_AON_RETURN: the always-on group and the sequencer start with every RAIL_EN low and await PORST_N (R29, R603). -/
def execVddAonReturn (s : State) : Host.Outcome State Fault Refusal :=
  .next <|
    if s.ham.vddAon then s
    else { s with ham := { s.ham with vddAon := true, doms := s.ham.doms ||| 0xF00000000000000000000000#96 } }

/-! ### Steps 2 to 8 -/

/-- The next step begun (R524). -/
def stepTo (s : State) (n : Nat) : State :=
  { s with boot := { s.boot with stage := n, late := false, stop := .none, stepAt := s.time } }

/-- Bring-up stands still with ALERT_N asserted (R524). -/
def stepStop (s : State) (why : BringupStop) (code : Nat) : State := alert { s with boot := { s.boot with stop := why } } code

/-- Step 2 (R28, R533, R577): the fill clears staging and the key slots; after a warm reset it spares both. The retention arrays wait
for the retention check. -/
def stepFill (s : State) : State :=
  if s.boot.warm ≠ .none then s
  else { stmSet s { s.stm with staging := [], buckets := [], supp := [], overflow := false } with bkl := { s.bkl with slots := [] } }

/-- Step 3 (R526): the retention check; where it fails, the arrays are cleared and take a new marker. -/
def retentionCheck (s : State) (jrnGood : Bool) : State :=
  if s.boot.warmPath ∨ s.boot.mode = .service then s
  else if s.boot.retLatch ∧ s.boot.weltMarker = s.boot.marker ∧ s.boot.jrnMarker = s.boot.marker ∧ jrnGood then
    { s with boot := { s.boot with retention := .passed } }
  else
    let m := (freeNow s).toNat
    let t := freeTaken s
    { t with
      boot := { t.boot with retention := .failed, retLatch := true, marker := m, weltMarker := m, jrnMarker := m }
      per := { t.per with welt := [] }
      awl := { t.awl with
        lost := t.awl.lost ++ t.awl.journal.filter (fun e => e.state = .committed)
        journal := [], twinJrn := [], dirtySum := [], hdrTrigger := 0, hdrEarly := false, hdrTime := 0, dumpDone := false } }

/-- Step 5 (R555 to R558): a slot is chosen and verified; the step ends only when one boots. -/
def stepFirmware (s : State) : State :=
  let (ok, s1) := bootChoose s
  if !ok then stepStop s1 .noSlot Ev.FW_SLOT_BAD.code
  else if s1.boot.mode = .service ∨ s1.boot.warmPath then stepTo s1 8
  else
    let s2 := loadEntry (loadHosts (assemble s1 trainKey)) 0x207001
    stepTo { s2 with
      dram := { s2.dram with chans := (List.range 16).map (fun c => (c, ({ st := .training } : Chan))) } } 6

/-- The first DIMM that breaks the population rule (R259, R260), as channel and slot: the same number in every channel, 1 or 2, of the
same geometry and density, each of a supported type and rated for the speed of its DPC. -/
def dimmBad (ds : List Dimm) : Option (Nat × Nat) :=
  let count : Nat → Nat := fun c => (ds.filter (fun d => d.channel == c)).length
  let n := count 0
  match (List.range 16).find? (fun c => count c ≠ n || !(n == 1 || n == 2)) with
  | some c => some (c, 0)
  | none =>
    let fits : Dimm → Dimm → Bool := fun a d => d.supported && a.ranks2 == d.ranks2 && a.stack2h == d.stack2h &&
      a.density == d.density && decide ((if n = 1 then 6400 else 5600) ≤ d.speed)
    match ds with
    | [] => some (0, 0)
    | a :: _ => (ds.find? (fun d => !fits a d)).map (fun d => (d.channel, d.slot))

/-- Step 6 (R260, R283): the SPD check, then training; either can stop bring-up. -/
def stepDram (s : State) (r : StepIn) : State :=
  match dimmBad r.spd with
  | some (c, k) => stepStop (record s Ev.DIMM_POPULATION 0xFF (le 1 c ++ le 1 k)) .dram Ev.DIMM_POPULATION.code
  | none =>
    let d := r.spd.headD ⟨0, 0, false, false, 0, 0, true⟩
    let s1 := { s with
      dram := { s.dram with
        dimms := (r.spd.filter (fun x => x.channel == 0)).length, pranks2 := d.ranks2, stack2h := d.stack2h, density := d.density } }
    match r.trainFail.filter (fun c => decide (c < 16)) with
    | [] =>
      stepTo { s1 with
        dram := { s1.dram with chans := s1.dram.chans.map (fun (e : Nat × Chan) => (e.1, { e.2 with st := .filling })) } } 7
    | bad =>
      let s2 := bad.foldl (fun t c => record (chanSet t c { chanOf t c with st := .failed }) Ev.DRAM_TRAIN_FAIL c []) s1
      stepStop s2 .dram Ev.DRAM_TRAIN_FAIL.code

/-- Step 7 (R290, R291): every line is zero, and with it the mirror pool is gone. -/
def stepFillDram (s : State) : State :=
  let s1 := wr (wr (wr s Reg.DRC_FILL_PERMILLE 1000) Reg.DRC_FILL_DONE 1) Reg.DRC_FILL_TIME
    (satTo 0xFFFF ((s.time - s.boot.stepAt) / msec 10))
  stepTo { s1 with
    dram := { s1.dram with
      mem := [], poison := [], retired := []
      chans := s1.dram.chans.map (fun (e : Nat × Chan) => (e.1, { e.2 with st := .running, scrubStart := s.time })) }
    twin := { s1.twin with pool := [], waiting := [] }
    cin := { s1.cin with poolFrames := 0, granules := [], chunks := [] } } 8

/-- The extension section runs on cores 6 and 7 (R556). -/
def extensionRuns (s : State) : Bool :=
  s.boot.mode = .native && leNat (storedValue s 0xA01001) == 1 && (imgSections s s.fw.running).any (fun x => x.1 == 3)

/-- Step 8 (R470, R474, R527, R530, R533): cores and microcode are loaded, known-answer tests run, PERSIST keys come back; on the warm
path DRAM leaves self-refresh, and the contexts' reads are issued again. -/
def stepLoad (s : State) (r : StepIn) : State :=
  if s.boot.mode = .service then stepTo s 9
  else
    let s1 := { s with bkl := { s.bkl with coresOk := 0xFFFF }, keep := {} }
    let s2 := ((List.range 16).filter (fun c => !bit r.cores c)).foldl coreIsolate s1
    let s3 := if s2.boot.warmPath then s2 else keyReload s2
    let x := extensionRuns s3
    let s4 := { s3 with boot := { s3.boot with sandbox := x }, fw := { s3.fw with extLoaded := x } }
    let s5 := if s4.boot.warmPath then { s4 with
        dram := { s4.dram with
        chans := s4.dram.chans.map (fun (e : Nat × Chan) =>
          (e.1, if e.2.st = .selfRefresh then { e.2 with st := .running } else e.2)) } } else s4
    let back := s5.host.reads
    stepTo (back.foldl (fun t h => readLine t h.who h.line none) { s5 with host := { s5.host with reads := [] } }) 9

/-! ### Step 9 (R5, R83, R98 to R106, R110, R145, R528) -/

/-- CFG_CRC_REF and CFG_CRC_NOW (R84, R528): the reference over the values that the active configuration gives every covered register,
with the locks and CRC_EN as they will stand; the other over the registers as they are. -/
def crcLoad (s0 : State) (s : State) : State :=
  let free := { s0 with csr := s0.csr.filter (fun e => !(lockFields.any (fun f => f.addr == e.1))) }
  let want := lockFields.foldl (fun t f => wr t f (rd s f)) (loadAll { free with dict := s.dict, boot := s.boot })
  let en := actNum s 0x202002
  let enOf : State → State := fun t => if en = 0 then t else setF t Reg.CFG_CTRL_CRC_EN
  let ref := configCrc (enOf want)
  let now := configCrc (enOf s)
  let s1 := wr (wr s Reg.CFG_CRC_REF_REF ref) Reg.CFG_CRC_NOW_NOW now
  if en = 0 then s1
  else if ref = now then wr (enOf s1) Reg.CFG_CRC_STATUS_MATCH 1
  else
    let s2 := setF (wr (enOf s1) Reg.CFG_CRC_STATUS_MATCH 0) Reg.CFG_CRC_STATUS_FAULT
    if rd s Reg.CFG_CTRL_CRC_REACT = 1 then loadAll (recordAt s2 Ev.CFG_CRC_FAULT.code 1 0xFF [])
    else recordAt s2 Ev.CFG_CRC_FAULT.code 0 0xFF []

/-- The bound LDs and the ports that carry them are in service (R128, R495). -/
def hostsEnable (s : State) : State :=
  let s1 := s.host.bound.foldl (fun t n => if isStandby t n then t else fnSet t (.ld n) { phase := .enabled }) s
  (List.range 16).foldl (fun t p => if rdb t (Reg.HPT_PORT_CTRL_ENABLE p) then fnSet t (.port p) { phase := .enabled } else t) s1

/-- Step 9: the active configuration is assembled and loaded, locks are set and the CRC reference is checked; the dictionary opens and
the boot-up frame is sent. -/
def stepConfigure (s : State) : State :=
  let s1 := layersLost (assemble s (fun _ => true))
  let s2 := runsApply (loadAll (setsApply s1))
  let s3 := { s2 with
    tier := { s2.tier with t1Frames := t1Count s2 }
    cin := { s2.cin with capInForce := rd64 s2 Reg.CIN_CAP_LO_CAP_LO Reg.CIN_CAP_HI_CAP_HI } }
  let s4 := crcLoad s (setLocks s3)
  let s5 := { s4 with
    tack := { s4.tack with node := actNum s4 0x102001 }
    dict := { s4.dict with opened := true }
    boot := { s4.boot with memInfoValid := true } }
  stepTo (tackBoot (hostsEnable s5)) 10

/-! ### Step 10 (R353, R355, R471) -/

/-- A slot as step 10 finds it (R353, R355): absent, unsuitable, or in the place that its label gives it. -/
def discoverSlot (ds : List (Nat × DriveInfo)) (s : State) (n : Nat) : State :=
  let d0 := driveOf s n
  let out : Drive := { nextCmd := d0.nextCmd, timeouts := d0.timeouts, mediaErrs := d0.mediaErrs, predicted := d0.predicted }
  match amFind ds n with
  | none => if (amFind s.awl.drives n).isSome then driveSet s n out else s
  | some info =>
    let d := { out with linkUp := true, width := 2, gen5 := true, serial := info.serial, cap := info.lbas, st := .unassigned }
    let why := unsuitable s info
    if why ≠ 0 then record (driveSet s n { d with cap := 0 }) Ev.DRIVE_UNSUITABLE n (le 1 why)
    else match labelled s n info.label with
      | (some (st, m, c), _) => driveSet s n { d with st := st, set := m, col := c }
      | (none, true) => record (driveSet s n d) Ev.DRIVE_UNSUITABLE n
          (le 1 5 ++ le 1 ((info.label.bind (fun l => (memberRecords s l.1).find? (fun x => x.2.2 = l.2))).map Prod.fst |>.getD 0xFF))
      | (none, false) => driveSet s n d

/-- The zones of a set taken into use (R354, R357): its stripes are those of the smallest member, and every zone is free. -/
def zonesFound (s : State) (n : Nat) : State :=
  let v := setOf s n
  let caps := (s.awl.drives.filter (fun e => e.2.set == n && e.2.st = .online)).map (fun e => e.2.cap)
  match caps with
  | [] => s
  | c :: cs =>
    let total := ((cs.foldl min c * 4096 - 64 * 2 ^ 20) / 65536) / zoneStripes v.n
    if v.zones ≠ 0 ∨ s.cin.ownedZones.any (fun z => zoneSet z == n) then s
    else
      let zs := (List.range total).map (fun k => n * 2 ^ 22 + k)
      { setSet s n { v with zones := total } with
        cin := { s.cin with freeZones := s.cin.freeZones ++ zs, ownedZones := s.cin.ownedZones ++ zs } }

/-- A set assembled (R355, R377): its state by the columns that are missing. -/
def setAssemble (s : State) (n : Nat) : State :=
  zonesFound (setUpdate (setSet s n { setOf s n with st := .optimal }) n) n

/-- The configured sets without a key (R471). -/
def keyless (s : State) : List Nat :=
  (List.range 8).filter (fun n => (setOf s n).layout ≠ 0 && (keyOf s n).st ≠ .loaded)

/-- Bring-up waits for a set key (R471), with record 0xC006 once for each set. -/
def keyWait (s : State) (ns : List Nat) : State :=
  let s1 := if s.boot.stop = .setKey then s
    else ns.foldl (fun t n => record t Ev.SET_KEY_MISSING n []) (setF s Reg.BKL_EVENTS_SET_KEY)
  stepStop { s1 with bkl := { s1.bkl with setWait := true } } .setKey Ev.SET_KEY_MISSING.code

/-- Step 10: the drives are discovered and the sets assembled; without a set's key the step waits. In service mode bring-up ends
here, and no set is assembled (R530). -/
def stepDrives (s : State) (r : StepIn) : State :=
  let s1 := (List.range 24).foldl (discoverSlot r.drives) s
  if s.boot.mode = .service then endReaction { s1 with boot := { s1.boot with warm := .none } } .controller
  else
    let s2 := ((List.range 8).filter (fun n => (setOf s1 n).layout ≠ 0 && (keyOf s1 n).st = .loaded)).foldl setAssemble s1
    if keyless s2 ≠ [] then keyWait s2 (keyless s2)
    else alertClear (stepTo { s2 with bkl := { s2.bkl with setWait := false } } 11) Ev.SET_KEY_MISSING.code

/-! ### Step 11 (R195, R369, R370, R419, R471, R531) -/

/-- The journal that step 11 takes (R369): its source (1 retained array, 2 member copy, 3 twin copy, 4 lost), its entries, and its
header's trigger, early flag and time. -/
def journalTaken (s : State) (r : StepIn) : Nat × (List JournalEntry × (Nat × (Bool × Nat))) :=
  if s.boot.warmPath ∨ s.boot.retention = .passed then (1, (s.awl.journal, (s.awl.hdrTrigger, (s.awl.hdrEarly, s.awl.hdrTime))))
  else match s.awl.diskJrn, r.twinJrn with
    | some j, _ => (2, (j.entries, (j.trigger, (j.early, j.time))))
    | none, some es => (3, (es, (0, (false, 0))))
    | none, none => (4, ([], (0, (false, 0))))

/-- A COMMITTED entry's updates of the segment map applied again (R370), where the map still has the chunk; an entry that the newest
root record covers has them already (R419). -/
def replayEntry (root : Nat) (s : State) (e : JournalEntry) : State :=
  if e.state ≠ .committed ∨ e.kind = 2 ∨ e.upd ≤ root then s
  else
    ((List.range e.chunks.length).zip e.chunks).foldl (fun t c =>
      let g := segOf t (c.2.1 / 32)
      match amFind g.chunks (c.2.1 % 32) with
      | some l => if l.set = e.set ∧ l.stripe = e.stripe then chunkMoved t c.2.1 ⟨e.set, e.stripe, c.1⟩ false else t
      | none => t) s

/-- The root record with the highest sequence and a good CRC (R419); each newer one found bad is recorded. -/
def rootTake (s : State) : Nat × State :=
  let rs := s.tier.roots.map Prod.snd
  let best := (rs.filter RootRec.good).foldl (fun (b : RootRec) x => if b.seq ≤ x.seq then x else b) ⟨0, 0, true⟩
  let bad := rs.filter (fun x => !x.good && decide (best.seq < x.seq))
  (best.journalSeq, bad.foldl (fun t _ => record t Ev.ROOT_RECORD_BAD 0xFF []) s)

/-- The retained Welt entries replayed (R193, R195): record 0x4006 with the count, and the segments they wait for are loaded. -/
def weltReplay (s : State) : State :=
  if s.per.welt = [] then s
  else
    let s1 := wr (setF (record s Ev.WELT_REPLAYED 0xFF (le 4 s.per.welt.length)) Reg.WLT_EVENTS_REPLAY_DONE) Reg.WLT_REPLAY_ENTRIES
      s.per.welt.length
    let s2 := { s1 with
      per := { s1.per with
        welt := s1.per.welt.map (fun (e : WeltEntry) => { e with resident := e.resident && s.boot.warmPath, mirrorSeq := none }) } }
    (s2.per.welt.map (fun e => e.line / 32768)).dedup.foldl touchSegment s2

/-- What the journal says of the last shutdown after a failed retention check (R531). -/
def retentionVerdict (s : State) (trigger : Nat) (early : Bool) : State :=
  if s.boot.retention ≠ .failed then s
  else if trigger ≠ 0 ∧ early = false then { s with boot := { s.boot with retention := .failedNothingLost } }
  else
    let s1 := if s.boot.twinPresentN then recordAt s Ev.RETENTION_LOST.code 3 0xFF (le 1 1)
      else record s Ev.RETENTION_LOST 0xFF (le 1 0)
    dirtyShutdown { s1 with boot := { s1.boot with retention := .failedWithLoss }, awl := { s1.awl with recover := !s.boot.twinPresentN } }

/-- Step 12 begun (R344, R533): alone under SINGLE; else the handshake, once HELLO has come. -/
def stepTwin (s : State) : State :=
  let s1 := stepTo s 12
  if s1.boot.twinPresentN then twinSet s1 { s1.twin with role := .single }
  else
    let s2 := if s1.twin.link = .down ∨ s1.twin.link = .training then s1 else sendHello s1
    if s2.twin.helloDone ∧ s2.twin.link ≠ .incompatible then handshake s2 else s2

/-- Step 11: the stripe journal, the root record and the Welt entries are replayed; a set whose metadata fail under its key holds
bring-up. -/
def stepReplay (s : State) (r : StepIn) : State :=
  let bad := r.metaBad.filter (fun n => (setOf s n).layout ≠ 0)
  if bad ≠ [] then
    let s1 := bad.foldl (fun t n =>
      record (setSet t n { setOf t n with st := .assembling }) Ev.SET_KEY_MISMATCH n []) s
    stepStop (setF { s1 with bkl := { s1.bkl with setWait := true } } Reg.BKL_EVENTS_SET_KEY) .setKey Ev.SET_KEY_MISMATCH.code
  else
    let (src, es, trigger, early, time) := journalTaken s r
    let s0 := (List.range 8).foldl (fun t n =>
      if (setOf t n).layout ≠ 0 ∧ (setOf t n).st = .assembling then setAssemble t n else t)
      (alertClear { s with bkl := { s.bkl with setWait := false } } Ev.SET_KEY_MISMATCH.code)
    let s1 := (List.range r.jrnBad).foldl (fun t _ => record t Ev.JOURNAL_COPY_BAD 0xFF []) s0
    let s2 := if src = 4 then record s1 Ev.JOURNAL_LOST 0xFF [] else s1
    let (root, s3) := rootTake s2
    let kept := es.filter (fun e => e.state = .committed || e.state = .checkpointed)
    let s4 := (kept.mergeSort (fun a b => decide (a.upd ≤ b.upd))).foldl (replayEntry root)
      { s3 with
          awl := { s3.awl with
          journal := kept, source := src
          dirtySum := if src = 2 then ((s3.awl.diskJrn.map JrnCopy.dirty).getD []) else s3.awl.dirtySum
          jseq := (kept.map JournalEntry.upd).foldl max s3.awl.jseq
          lost := if src = 1 then [] else s3.awl.lost.filter (fun e => kept.all (fun k => k.seq ≠ e.seq))
          recover := s3.awl.recover || early || s3.awl.dirtySum ≠ [] } }
    let s5 := if s4.cin.lastTrigger = 0 ∧ trigger ≠ 0 then { s4 with
        cin := { s4.cin with lastTrigger := trigger, lastEarly := early, lastDuration := satTo 0xFFFF time, lastPartial := true } }
      else s4
    let s6 := retentionVerdict { s5 with
      awl := { s5.awl with recover := s5.awl.recover || s5.awl.lost ≠ [], hdrEarly := early } } trigger early
    let s7 := if s6.twin.pool = [] ∧ s6.awl.dump ≠ [] then twinSet s6 { s6.twin with pool := s6.awl.dump } else s6
    stepTwin (weltReplay s7)

/-! ### Step 12 ended: what the twin's copy gives back (R196, R371, R420) -/

/-- The frames of the twin's pool copy of this controller's half, by granule. -/
def poolFrames (r : StepIn) : List PoolFrame :=
  (r.pool.map (fun x => x.1 / 64)).dedup.map (fun g =>
    ⟨g, 0, (r.pool.filter (fun x => x.1 / 64 == g)).map (fun x => (x.1 % 64, plineMasked x.2.1 x.2.2))⟩)

/-- The lines that no frame covers whole, of the flagged segments and of the stripes that no journal copy names. -/
def uncovered (s : State) (fs : List PoolFrame) : List Nat :=
  let full : Nat → Bool := fun gl => fs.any (fun f => f.gran == gl / 64 && f.lines.any (fun l => l.1 == gl % 64 && plineFull l.2))
  let flagged := s.awl.dirtySum.flatMap (fun hs => (List.range 32768).map (fun k => hs * 32768 + k))
  let lost := s.awl.lost.flatMap (fun e => e.chunks.flatMap (fun c =>
    ((List.range 16).filter (fun g => bit c.2 g)).flatMap (fun g => (List.range 64).map (fun k => c.1 * 1024 + g * 64 + k))))
  (flagged ++ lost).dedup.filter (fun gl => !full gl)

/-- The lines poisoned for want of a copy: one record for each object, or the one record of R196. -/
def poisonLost (s : State) (ls : List Nat) : State :=
  let s1 := ls.foldl (fun t gl => mapPoison t gl true) s
  if ls = [] then s1
  else if s.awl.hdrEarly ∨ s.awl.source = 4 ∨ s.awl.dirtySum = [] then
    ((ls.map (fun gl => (segOf s (gl / 32768)).obj)).dedup).foldl (fun t o => record t Ev.LINES_POISONED 0xFF (le 4 o)) s1
  else
    dirtyShutdown (record s1 Ev.RESET_LINES_UNRECOVERED 0xFF (le 4 ls.length ++ le 8 (ls.headD 0 * 64)))

/-- VOLATILE objects set ZERO, with their poison cleared (R392, R420): one record each. -/
def volatileReset (s : State) : State :=
  (s.tier.objs.filter TObj.volatileClass).foldl (fun t o =>
    let u := zeroSegs t o.first o.size o.id
    record (twinSet u { u.twin with
      replay := u.twin.replay.filter (fun f => !(decide (o.first ≤ f.gran / 512) && decide (f.gran / 512 < o.first + o.size))) })
      Ev.VOLATILE_RESET 0xFF (le 4 o.id)) s

/-- This controller's half recovered (R196, R371): every pool frame waits for its segment to be merged, and lines that no copy holds
are poisoned unless an early COMMIT's pool copy is complete. -/
def recoverHalf (s : State) (r : StepIn) : State :=
  let s1 :=
    if s.awl.recover then
      let fs := poolFrames r
      let s2 := twinSet s { s.twin with replay := s.twin.replay ++ fs }
      let s3 := if fs = [] then s2 else record s2 Ev.POOL_MERGED 0xFF (le 4 fs.length)
      if s.awl.hdrEarly ∧ r.poolWhole ∧ s.boot.twinPresentN = false then s3 else poisonLost s3 (uncovered s3 fs)
    else s
  let s4 := if s.boot.warmPath then s1 else volatileReset s1
  admitUpdate (retryLoads { s4 with
    awl := { s4.awl with
      dirtySum := [], recover := false, lost := [], hdrTrigger := 0, hdrEarly := false, hdrTime := 0
      diskJrn := s4.awl.diskJrn.map (fun (j : JrnCopy) => { j with trigger := 0, early := false }) } })

/-- Step 12 has ended (R344, R348): this controller is alone, or its role has left STARTING. -/
def twinSettled (s : State) : Bool :=
  s.boot.twinPresentN ||
  (match s.twin.role with
    | .starting => s.twin.helloDone && (s.twin.link = .incompatible || s.twin.twinRole = some .fenced)
    | .returning | .stalled | .claiming => false
    | _ => true)

/-! ### Steps 13 and 14 (R251, R320, R524) -/

/-- Step 13: the host-held bitmap is all ones, and warm-up begins: PINNED_T1 objects first, then by last access, the latest first. -/
def stepWarmup (s : State) : State :=
  let s1 := record (setF { s with ring := { s.ring with hhClear := [] } } Reg.GRT_EVENTS_HHB_FILLED) Ev.HHB_FILLED 0xFF []
  let left := s1.cin.warmLeft.filter (fun hs => (segOf s1 hs).st = .t3)
  let pinned : Nat → Nat := fun hs => b2n (objPolicy s1 (segOf s1 hs).obj ≠ 0)
  let order := left.mergeSort (fun a b => decide (pinned a < pinned b) ||
    (pinned a == pinned b && decide ((segOf s1 b).access ≤ (segOf s1 a).access)))
  let s2 := { s1 with cin := { s1.cin with warmup := order ≠ [], warmLeft := order, warmTotal := order.length } }
  stepTo (if order = [] then record (setF s2 Reg.CIN_EVENTS_WARMUP_DONE) Ev.WARMUP_DONE 0xFF []
    else order.foldl (fun t hs => startLoad t hs 4) s2) 14

/-- Step 14: READY is asserted. -/
def stepReady (s : State) : State :=
  let ms := (s.time - s.boot.startAt) / msec 1
  let s1 := { s with boot := { s.boot with ready := true, memActive := true, warm := .none } }
  let s2 := record (wr s1 Reg.GLB_BOOT_READY_TIME (satTo 0xFFFF ms)) Ev.BRINGUP_READY 0xFF (le 4 ms)
  openLeases (admitUpdate (endReaction s2 .controller))

/-- BRINGUP_STEP_END: the step that runs ends with what it finds outside the block, and the next begins, up to READY (R524, R530). -/
def execBringupStepEnd (r : StepIn) (s : State) : Host.Outcome State Fault Refusal :=
  .next <|
    if s.boot.porst ∨ s.ham.vddAon = false ∨ s.cin.phase = .commit ∨ s.boot.warm = .draining ∨ s.ham.seq ≠ .running then s
    else match s.boot.stop with
      | .refused | .halted | .noSlot | .dram | .stalled => s
      | .none | .setKey => match s.boot.stage with
        | 2 => stepTo (stepFill s) 3
        | 3 => stepTo (retentionCheck s r.jrnGood) 4
        | 4 => stepTo (lineReserve (stmStart (flsScan s))) 5
        | 5 => stepFirmware s
        | 6 => stepDram s r
        | 7 => stepFillDram s
        | 8 => stepLoad s r
        | 9 => stepConfigure s
        | 10 => stepDrives s r
        | 11 => stepReplay s r
        | 12 =>
          if twinSettled s then
            let s1 := if s.twin.role = .starting then twinSet s { s.twin with role := .active } else s
            stepTo (recoverHalf s1 r) 13
          else s
        | 13 => stepReady (stepWarmup s)
        | _ => s

/-- BRINGUP_STEP_LATE: a step passes its maximum time: record 0xE021 once, and it goes on (R524). -/
def execBringupStepLate (s : State) : Host.Outcome State Fault Refusal :=
  .next <|
    if s.boot.porst ∨ s.boot.stage = 0 ∨ 13 < s.boot.stage ∨ s.boot.late ∨ s.boot.stop ≠ .none ∨ s.cin.phase = .commit ∨
        s.boot.warm = .draining ∨ (s.boot.mode = .service ∧ s.boot.stage = 10) then s
    else
      let s1 := record { s with boot := { s.boot with late := true } } Ev.BRINGUP_STEP_LATE 0xFF (le 1 s.boot.stage)
      if rd s1 Reg.GLB_BOOT_LATE_STEP = 0 then wr s1 Reg.GLB_BOOT_LATE_STEP s.boot.stage else s1

/-! ### Warm resets (R193, R532 to R534) -/

/-- WRST_N_ASSERT: WRST_N low for 1 µs or more starts a warm reset; the pin is ignored while PORST_N is low (R532, R604). -/
def execWrstNAssert (s : State) : Host.Outcome State Fault Refusal :=
  .next <| startWarmReset { s with boot := { s.boot with wrstLow := true } } .pin

/-- WRST_N_RELEASE: WRST_N has risen, so that the reset may take hold (R533). -/
def execWrstNRelease (s : State) : Host.Outcome State Fault Refusal := .next { s with boot := { s.boot with wrstLow := false } }

/-- SW_WARM_RESET: a write of GLB_SW_RESET starts a warm reset when it carries the key (R532). -/
def execSwWarmReset (m : Fin 11) (value : Word) (s : State) : Host.Outcome State Fault Refusal :=
  .next <|
    match masterRefused s m 0x1C with
    | some t => t
    | none => if value = 0x5741524D#32 then startWarmReset s .sw else s

/-- WARM_RESET_DEFERRAL_END: the 50 µs are over; Welt entries that are left are retained for replay (R193). -/
def execWarmResetDeferralEnd (s : State) : Host.Outcome State Fault Refusal :=
  .next <|
    if s.boot.warm ≠ .draining ∨ s.boot.drained then s
    else
      let s1 := { s with boot := { s.boot with drained := true } }
      if s.per.welt = [] then s1 else record s1 Ev.WELT_RETAINED_AT_RESET 0xFF (le 4 s.per.welt.length)

/-- What must have ended before a warm reset takes hold (R192, R219, R287, R533): the Welt and the Skive buffer are empty or the
deferral is over, and every dirty line has left the Tree cache. -/
def warmReady (s : State) : Bool :=
  (s.boot.drained || (s.per.welt.isEmpty && s.per.skive.isEmpty)) &&
  s.tree.lines.all (fun t => t.st ≠ .dirty) && s.tree.wbb.isEmpty

/-- What the write queues and intake queues hold, written to DRAM before self-refresh (R287). -/
def queuesOut (s : State) : State :=
  let ws := s.dram.chans.flatMap (fun (c : Nat × Chan) => c.2.subA.writes ++ c.2.subB.writes ++ c.2.mirrorQ ++ c.2.drainQ)
  let s1 := (ws.mergeSort (fun a b => decide (a.arrived ≤ b.arrived))).foldl (fun t w => dramStore t w.line w.data w.poison) s
  { s1 with
    dram := { s1.dram with
      chans := s1.dram.chans.map (fun (c : Nat × Chan) =>
        (c.1, { c.2 with
          st := if c.2.st = .failed then .failed else .selfRefresh
          subA := {}, subB := {}, mirrorQ := [], drainQ := [], repairs := [], panicMirror := false, panicDrain := false })) } }

/-- A register field keeps its value through a warm reset (R78, R536): locks, locked and read-only fields, events and counters, and the
HAM block; the mailbox, the flash banks' and the LX-310 register blocks return to their reset values. -/
def warmKeeps (s : State) (addr : Nat) : Bool :=
  if 0x4000000 * 8 ≤ addr ∨ (0x30000 * 8 ≤ addr ∧ addr < 0x40000 * 8) ∨ (0x341000 * 8 ≤ addr ∧ addr < 0x350000 * 8) then false
  else if 0x300000 * 8 ≤ addr ∧ addr < 0x340000 * 8 then true
  else match fieldOf addr with
    | some (r, k, f) => match f.code with
      | .rw | .rwb => !crcField (r.base + r.stride * k) f && decide (0xC0000 ≤ r.base)
      | .rwl => lockSet s r k f
      | .w1s => lockFields.any (fun g => g.addr == addr)
      | _ => true
    | none => true

/-- The work of the drives and stripes in flight abandoned: their granules are DIRTY again, and their journal entries are OPEN for
the replay (R370). -/
def stripesDropped (s : State) : State :=
  let gs := s.cin.chunks.flatMap Chunk.granules ++ s.awl.stripes.flatMap (fun x => x.chunks.flatMap Chunk.granules)
  let s1 := granulesAbandon s gs
  { s1 with
    cin := { s1.cin with chunks := [] }
    awl := { s1.awl with
      stripes := [], releases := []
      drives := s1.awl.drives.map (fun (e : Nat × Drive) => (e.1, { e.2 with cmds := [], queued := [], aborting := none })) } }

/-- Who is reset with the host ports: hosts, keeper cores, LX-310 rings and mailboxes; the contexts of the Latigo engine are kept. -/
def writerKept (w : Writer) : Bool := match w with | .latigo _ _ => true | _ => false

/-- A reader whose context is kept. -/
def readerKept (w : Reader) : Bool := match w with | .latigo _ _ _ => true | _ => false

/-- The reset takes hold (R533 step 3, R536): host and Ethernet links go down, and what a warm reset does not keep is gone. -/
def warmHold (s0 : State) (torn : Bool) : State :=
  let s1 := flsCut (queuesOut (stripesDropped (keeperWriteBack s0 [0, 1])))
  let s2 := (List.range 16).foldl linkDown s1
  let loading := (s2.tier.segs.filter (fun e => e.2.st = .loading)).map Prod.fst
  let cut := perCut s2.per
  { s2 with
    csr := s2.csr.filter (fun e => warmKeeps s2 e.1)
    iface := {}
    dict := dictCut (dictTorn s2.dict torn)
    tack := {}
    fm := { s2.fm with fns := [], isolated := [] }
    boot := { s2.boot with
      stage := 2, stop := .none, late := false, warm := .running, warmPath := true, memActive := false, memInfoValid := false,
      sandbox := false, drained := false, retention := .unchecked, stepAt := s2.time }
    host := { hostCut s2.host with
      lds := (s2.host.lds.filter (fun e => e.2.dirtyShutdowns ≠ 0 || e.2.standby)).map (fun (e : Nat × LDev) =>
        (e.1, ({ dirtyShutdowns := e.2.dirtyShutdowns, standby := e.2.standby } : LDev)))
      writes := (s2.host.writes.filter (fun w => writerKept w.who)).map (fun (w : HeldWrite) => { w with mir := none, round := false })
      nextWrite := s2.host.nextWrite
      left := s2.host.left.filter (fun x => writerKept x.1)
      reads := (s2.host.reads.filter (fun h => readerKept h.who)).map (fun (h : HeldRead) => { h with wait := .direct }) }
    per := { cut with poison := s2.per.poison }
    cin := { s2.cin with warmup := false, warmLeft := loading, warmTotal := loading.length, curBusy := s2.cin.curBusy }
    tree := { corr := s2.tree.corr }
    ring := {}
    keep := {}
    tier := { s2.tier with
      segs := s2.tier.segs.map (fun (e : Nat × Segment) => (e.1, segStopped e.2))
      streams := [] }
    twin := { s2.twin with
      helloDone := false, resync := none, resyncIn := false, unacked := [], sentAt := [], waiting := []
      link := match s2.twin.link with | .resync | .paired => .hello | l => l }
    fw := { fwCut s2.fw with since := none }
    lat := { s2.lat with
      ports := s2.lat.ports.map (fun (p : Nat × LatPort) => (p.1, { p.2 with up := false }))
      conns := s2.lat.conns.map (fun (c : Nat × Conn) => (c.1, { c.2 with res := .evicted, parked := [], reserved := 0 })) }
    bkl := { s2.bkl with running := [], queued := [], waiting := [], deficit := [], turn := 0 }
    lx := {} }

/-- WARM_RESET_HOLD: once WRST_N is high and the drain has ended the reset takes hold, and bring-up runs from step 2 on the warm path,
or on the full path where the reset was promoted (R533, R534). `torn` says that a store found its write begun (R102). -/
def execWarmResetHold (torn : Bool) (s : State) : Host.Outcome State Fault Refusal :=
  .next <|
    if s.boot.warm ≠ .draining ∨ s.boot.wrstLow ∨ s.cin.phase = .commit then s
    else if s.boot.stage < 9 then
      let s1 := flsCut s
      setF { s1 with
        iface := {}, dict := dictCut (dictTorn s1.dict torn), fw := fwCut s1.fw, host := hostCut s1.host
        boot := { s1.boot with
          stage := min 2 s1.boot.stage, stop := .none, late := false, warm := .running, warmPath := false, drained := false
          retention := .unchecked, stepAt := s1.time } } Reg.GLB_BOOT_PROMOTED
    else if !warmReady s then s
    else setF (warmHold s torn) Reg.GLB_BOOT_WARM

end Sys2Proof.Machine
end

