-- ==== Sys2Proof/Machine/Flags.lean ====
section
/-!
DEFINITION. The status fields: what a read-only register field shows of the units' state, by the register maps of spec/02 to spec/22.
A field that no unit's structure shows holds its value in the store (`fldHome`).
-/
namespace Sys2Proof.Machine

/-! ### Codes of states -/

/-- Bits set for the numbers of a list. -/
def bitSet (ns : List Nat) : Nat := (ns.dedup.map (fun n => 2 ^ n)).sum

/-- LCK_STATUS.STATE. -/
def lckCode (x : LckState) : Nat :=
  match x with | .acquire => 0 | .locked => 1 | .holdover => 2 | .synthetic => 3

/-- GLB_MODE.MODE_SEL (R2). -/
def modeCode (x : Mode) : Nat :=
  match x with | .native => 0 | .compat => 1 | .service => 2 | .refused => 3

/-- The state of a function as the STATE fields show it (R495). -/
def fnCode (x : FnPhase) : Nat :=
  match x with | .enabled => 0 | .quiescing => 1 | .disabled => 2

/-- DRC_CH_STATUS.STATE. -/
def chanCode (x : ChanState) : Nat :=
  match x with
  | .off => 0 | .training => 1 | .filling => 2 | .running => 3 | .retraining => 4 | .selfRefresh => 5 | .failed => 6

/-- CIN_STATUS.PHASE. -/
def phaseCode (x : CinPhase) : Nat :=
  match x with | .normal => 0 | .warn => 1 | .commit => 2

/-- CIN_STATUS.ADMIT. -/
def admitCode (x : Admit) : Nat :=
  match x with | .opened => 0 | .paced => 1 | .stopped => 2

/-- CIN_STATUS.PACE. -/
def paceCode (x : Pace) : Nat :=
  match x with | .background => 0 | .normal => 1 | .urgent => 2 | .commit => 3

/-- STP_STATUS.LINK. -/
def linkCode (x : LinkSt) : Nat :=
  match x with | .down => 0 | .training => 1 | .hello => 2 | .resync => 3 | .paired => 4 | .incompatible => 5

/-- STP_STATUS.ROLE. -/
def roleCode (x : TwinRole) : Nat :=
  match x with
  | .single => 0 | .starting => 1 | .active => 2 | .claiming => 3 | .survivor => 4 | .fenced => 5 | .returning => 6
  | .stalled => 7 | .handedOver => 8 | .resetting => 9

/-- AWL_SET_STATUS.STATE (R377). -/
def setCode (x : SetSt) : Nat :=
  match x with
  | .unused => 0 | .optimal => 1 | .degraded => 2 | .doubleDegraded => 3 | .failed => 4 | .assembling => 5

/-- AWL_MBR_STATUS.STATE. -/
def memberCode (x : MemberSt) : Nat :=
  match x with
  | .absent => 0 | .unassigned => 1 | .online => 2 | .rebuilding => 3 | .spare => 4 | .failed => 5

/-- HAM_STATUS.SEQ. -/
def seqCode (x : SeqState) : Nat :=
  match x with
  | .off => 0 | .powerUp => 1 | .running => 2 | .powerDown => 3 | .requal => 4 | .backout => 5 | .halted => 6

/-- HAM_RAIL_STATUS.STATE. -/
def railCode (x : RailState) : Nat :=
  match x with
  | .off => 0 | .waitOn => 1 | .ramp => 2 | .on => 3 | .retryWait => 4 | .faultOff => 5 | .faultOn => 6 | .waitOff => 7

/-- HAM_GROUPS.G. -/
def groupCode (x : RailGroupState) : Nat :=
  match x with | .on => 0 | .retrying => 1 | .offRetry => 2 | .offHeld => 3

/-- HAM_RAIL_CFG.CLASS (R501). -/
def classCode (x : RailClass) : Nat :=
  match x with
  | .aux => 0 | .host => 1 | .net => 2 | .drive => 3 | .stirrup => 4 | .dram => 5 | .sram => 6 | .core => 7

/-- HAM_RAIL_CFG.REACTION (R501). -/
def reactionCode (x : RailReaction) : Nat :=
  match x with | .ignore => 0 | .retry => 1 | .groupOff => 2 | .sysReset => 3

/-- GLB_BOOT.RETENTION (R531). -/
def retentionCode (x : Retention) : Nat :=
  match x with | .unchecked => 0 | .passed => 1 | .failedNothingLost => 2 | .failed => 2 | .failedWithLoss => 3

/-- FLS_B_STATE.STATE. -/
def flsCode (x : FlsSt) : Nat :=
  match x with
  | .idle => 0 | .reading => 1 | .programming => 2 | .erasing => 3 | .eraseSuspended => 4 | .programSuspended => 5

/-- BKL_SLOT_INFO.STATE. -/
def keyCode (x : KeySt) : Nat := match x with | .free => 0 | .loaded => 1 | .broken => 2

/-! ### The blocks -/

/-- The line clock (spec/02). -/
def viewLck (s : State) (off lo : Nat) : Option Nat :=
  match off, lo with
  | 0x10004, 0 => some (lckCode s.lck.state)
  | 0x10004, 2 => some (b2n s.lck.freq60)
  | 0x10004, 3 => some (b2n s.lck.aligned)
  | 0x10004, 4 => some (b2n s.lck.lineSeen)
  | 0x10004, 5 => some (satTo 7 s.lck.missRun)
  | 0x10004, 8 => some (satTo 7 s.lck.goodRun)
  | 0x10008, 0 => some s.lck.phase
  | 0x10008, 10 => some s.lck.count
  | 0x1000C, 0 => some (s.lck.count / 2 ^ 22)
  | 0x10010, 0 => some s.lck.period
  | _, _ => none

/-- GLB (spec/03, spec/18, spec/20). -/
def viewGlb (s : State) (off lo : Nat) : Option Nat :=
  match off, lo with
  | 0x10, 0 => some s.boot.modeStrap
  | 0x10, 2 => some (b2n s.boot.serviceN)
  | 0x10, 3 => some (b2n s.boot.twinPresentN)
  | 0x10, 4 => some (modeCode s.boot.mode)
  | 0x10, 8 => some (b2n (s.dict.inForce.contains .native))
  | 0x10, 9 => some (b2n (s.dict.inForce.contains .compat))
  | 0x10, 10 => some (b2n (s.dict.inForce.contains .service))
  | 0x10, 11 => some (b2n (s.dict.inForce.contains .single))
  | 0x10, 12 => some (b2n s.boot.sandbox)
  | 0x14, 0 => some (b2n s.boot.ready)
  | 0x14, 1 => some (b2n (s.cin.phase = .warn))
  | 0x14, 2 => some (b2n (s.cin.phase = .commit))
  | 0x14, 4 => some s.boot.stage
  | 0x14, 8 => some s.fw.running
  | 0x14, 9 => some (b2n s.fw.onTrial)
  | 0x30, 21 => some (retentionCode s.boot.retention)
  | 0x34, 0 =>
    let conf := odNum s 0xA00101 2 600
    some (if s.fw.onTrial then (match s.fw.since with
      | some t => (t + secs conf - s.time + secs 1 - 1) / secs 1
      | none => conf) else 0)
  | 0x34, 16 => some (if s.fw.onTrial then (fwSlot s s.fw.running).trials else 0)
  | 0x34, 18 => some s.fw.curArea
  | 0x34, 19 => some (b2n s.fw.extLoaded)
  | _, _ => none

/-- CFG: staged copies that wait, by block (R80), and COMMIT's stop (R82). -/
def viewCfg (s : State) (off lo : Nat) : Option Nat :=
  match off, lo with
  | 0x20004, 0 => some (bitSet (s.iface.staged.map (fun e => blockOf (e.1 / 8))))
  | 0x20004, 19 => some (b2n (s.lx.eps.any (fun e => e.2.staged ≠ [])))
  | 0x20010, 5 => some (b2n (s.cin.phase = .commit))
  | _, _ => none

/-- The number of an LD within its port (R130); 0 where it is not bound. -/
def ldIdOf (s : State) (n : Nat) : Nat := ((portLds s (ldPort s n)).filter (fun m => decide (m < n))).length

/-- The host ports (spec/05). The registers of an absorbed port but ROLE read as zero (R126). -/
def viewHpt (s : State) (off lo : Nat) : Option Nat :=
  if off < 0x50000 then
    let p := (off - 0x40000) / 0x1000
    match off % 0x1000, lo with
    | 4, 5 => some (portRole s p)
    | r, k =>
      if portRole s p = 2 then some 0
      else match r, k with
        | 4, 7 => some (fnCode (fnOf s (.port p)).phase)
        | 4, 9 => some (b2n (contained s (.port p)))
        | 4, 11 => some (b2n (creditsOpen s p && rdb s (Reg.HPT_PORT_STATUS_LINK_UP p) && !(s.cin.phase = .commit)))
        | 4, 12 => some (portLds s p).length
        | 0xC, 0 => some (portTrackers s p - portInFlight s p)
        | _, _ => none
  else if off < 0x51000 then
    let n := (off - 0x50000) / 0x40
    match off % 0x40, lo with
    | 0, 20 => some (ldIdOf s n)
    | 0, 24 => some (b2n (contained s (.ld n)))
    | 0, 25 => some (b2n (ldOf s n).fenced)
    | 8, 0 => some (bitSet (((ldOf s n).slots.filter (fun e => e.2.busy && decide (e.1 < 32))).map Prod.fst))
    | 0xC, 0 => some (bitSet (((ldOf s n).slots.filter (fun e => e.2.busy && decide (32 ≤ e.1))).map (fun e => e.1 - 32)))
    | _, _ => none
  else match off, lo with
    | 0x53000, 0 => some (b2n s.boot.memInfoValid)
    | 0x53000, 1 => some (b2n s.boot.memActive)
    | 0x53000, 2 => some (b2n (s.cin.phase = .commit))
    | _, _ => none

/-- A bank of the Welt has no free entry (R160). -/
def weltBankFull (s : State) : Bool :=
  (List.range 8).any (fun b => decide (15360 ≤ (s.per.welt.filter (fun e => (Config.weltBank e.line).val == b)).length))

/-- Persistence (spec/06). -/
def viewWlt (s : State) (off lo : Nat) : Option Nat :=
  match off, lo with
  | 0x80008, 0 => some (b2n s.per.pairAvail)
  | 0x80008, 1 => some (b2n (s.dict.inForce.contains .single))
  | 0x80008, 2 => some (b2n (s.cin.phase = .commit))
  | 0x80008, 3 => some (b2n (s.boot.stage == 11 && s.per.welt ≠ []))
  | 0x80008, 4 => some (b2n (weltBankFull s))
  | 0x80008, 5 => some (b2n (16384 ≤ s.per.skive.length))
  | 0x8000C, 0 => some s.per.welt.length
  | 0x80010, 0 => some s.per.skive.length
  | 0x80010, 16 => some (s.per.skive.filter (fun e => !plineFull e.data)).length
  | 0x80018, 0 => some s.per.acceptSeq
  | 0x8001C, 0 => some (s.per.acceptSeq / 2 ^ 32)
  | 0x80020, 0 => some s.per.barriers.length
  | 0x80020, 13 => some (s.per.barriers.filter (fun b => b.served == 2)).length
  | _, _ => none

/-- The Tree cache (spec/07). -/
def viewTre (s : State) (off lo : Nat) : Option Nat :=
  if 0xC1000 ≤ off ∧ off < 0xC2000 then
    match off % 0x100, lo with
    | 0x24, 0 => some (treeStat s ((off - 0xC1000) / 0x100) 5 / 4)
    | 0x24, 16 => some (treeStat s ((off - 0xC1000) / 0x100) 6 / 4)
    | _, _ => none
  else match off, lo with
    | 0xC0004, 0 => some (b2n (s.tree.walks ≠ []))
    | 0xC0004, 1 => some (b2n s.tree.flushing)
    | 0xC0004, 2 => some (b2n s.tree.maintOp.isSome)
    | 0xC0004, 16 => some (bitSet ((List.range 16).filter (wbbFull s)))
    | 0xC0010, 4 => some (b2n s.tree.maintOp.isSome)
    | _, _ => none

/-- The Girth ring (spec/08). -/
def viewGrt (s : State) (off lo : Nat) : Option Nat :=
  match off, lo with
  | 0x100010, 0 => some (bitSet s.ring.isolated)
  | 0x100010, 16 => some (satTo 1024 s.ring.busy.length)
  | _, _ => none

/-- The rank and device with the most corrected lines in the window, and their number (R280). -/
def worstDevice (s : State) (c : Chan) : Nat × Nat :=
  if c.corrSince + 4096 ≤ s.lck.count then (0, 0)
  else c.corr.foldl (fun b e => if b.2 < e.2 then e else b) (0, 0)

/-- DRAM (spec/09). -/
def viewDrc (s : State) (off lo : Nat) : Option Nat :=
  if off < 0x160000 then
    let c := chanOf s ((off - 0x140000) / 0x2000)
    match off % 0x2000, lo with
    | 0, 0 => some (chanCode c.st)
    | 0, 4 => some s.dram.dimms
    | 0, 6 => some (b2n s.dram.pranks2)
    | 0, 7 => some (b2n s.dram.stack2h)
    | 0, 8 => some s.dram.density
    | 0, 10 => some (b2n (c.hot ≠ []))
    | 0, 11 => some (b2n c.panicMirror)
    | 0, 12 => some (b2n c.panicDrain)
    | 0, 13 => some (b2n c.subA.wdrain)
    | 0, 14 => some (b2n c.subB.wdrain)
    | 4, 0 => some c.subA.reads.length
    | 4, 8 => some c.subB.reads.length
    | 4, 16 => some c.subA.writes.length
    | 4, 24 => some c.subB.writes.length
    | 0x18, 0 => some ((worstDevice s c).1 % 32)
    | 0x18, 5 => some ((worstDevice s c).1 / 32)
    | 0x18, 8 => some (satTo 0xFFFF (worstDevice s c).2)
    | 0x18, 24 => some (bitSet (c.erasure.map Prod.fst))
    | _, _ => none
  else match off, lo with
    | 0x160008, 16 => some (if chanLines s = 0 then 0 else satTo 1000 ((chanOf s 0).scrubIdx * 1000 / chanLines s))
    | 0x160014, 0 => some (bitSet ((List.range 16).filter (fun c => (chanOf s c).st = .running)))
    | 0x160014, 16 => some (dramLines s / 2 ^ 24)
    | _, _ => none

/-- Gibibytes that a number of 4 KiB frames takes, rounded up. -/
def frameGib (n : Nat) : Nat := (n + 2 ^ 18 - 1) / 2 ^ 18

/-- Warm-up is complete (R320): it has been started, at step 13, and no segment is left. -/
def warmDone (s : State) : Bool := decide (13 ≤ s.boot.stage) && !s.cin.warmup

/-- The cinch limit and the Drain (spec/10). -/
def viewCin (s : State) (off lo : Nat) : Option Nat :=
  match off, lo with
  | 0x180010, 0 => some s.cin.reported
  | 0x180010, 16 => some s.cin.sensed
  | 0x180014, 0 => some (holdup s)
  | 0x180014, 16 => some (b2n (s.cin.smbOk && s.cin.smbFailed.isNone))
  | 0x180014, 17 => some (b2n s.cin.senseOk)
  | 0x180014, 18 => some (b2n s.cin.mismatch)
  | 0x180018, 0 => some (satTo 0xFFFFFF (drainRate s / 1000000))
  | 0x180018, 24 => some (b2n (s.cin.samples.length < 8))
  | 0x180020, 0 => some s.cin.limit
  | 0x180024, 0 => some (s.cin.limit / 2 ^ 32)
  | 0x180028, 0 => some (dirtyBytes s)
  | 0x18002C, 0 => some (dirtyBytes s / 2 ^ 32)
  | 0x180030, 0 => some s.cin.granules.length
  | 0x180034, 0 => some (dirtyLines s)
  | 0x180038, 0 => some (phaseCode s.cin.phase)
  | 0x180038, 2 => some (admitCode s.cin.admitSt)
  | 0x180038, 4 => some (paceCode s.cin.pace)
  | 0x180038, 6 => some (if s.cin.phase = .commit then s.cin.step else 0)
  | 0x180038, 9 => some (if s.cin.phase = .commit then s.cin.trigger else 0)
  | 0x180038, 12 => some (b2n s.ham.faultNDriven)
  | 0x180038, 13 => some (b2n s.cin.warmup)
  | 0x18003C, 0 => some (s.host.writes.filter (fun w => w.admission)).length
  | 0x180044, 0 => some (satTo 0xFFFFFF (paceRate s / 1000000))
  | 0x180048, 0 => some s.cin.epoch
  | 0x18004C, 0 => some (satTo 0x3FFFFF s.cin.freeZones.length)
  | 0x18006C, 0 => some (satTo 0x3FFFFF s.cin.ownedZones.length)
  | 0x180050, 0 => some (satTo 0xFFFF (frameGib s.cin.poolFrames))
  | 0x180050, 16 => some (satTo 0xFFFF (frameGib s.twin.pool.length))
  | 0x180054, 0 => some s.cin.lastTrigger
  | 0x180054, 3 => some (b2n s.cin.lastEarly)
  | 0x180054, 4 => some (b2n s.cin.restarted)
  | 0x180054, 5 => some (b2n s.cin.lastPartial)
  | 0x180054, 16 => some (satTo 0xFFFF s.cin.lastDuration)
  | 0x180058, 0 => some s.cin.lastBytes
  | 0x18005C, 0 => some (s.cin.lastBytes / 2 ^ 32)
  | 0x180064, 0 => some (if warmDone s then 1000 else if s.cin.warmTotal = 0 then 0
      else (s.cin.warmTotal - s.cin.warmLeft.length) * 1000 / s.cin.warmTotal)
  | 0x180064, 10 => some (b2n (warmDone s))
  | _, _ => none

/-- The Stirrup link (spec/11). -/
def viewStp (s : State) (off lo : Nat) : Option Nat :=
  match off, lo with
  | 0x1C0008, 0 => some (linkCode s.twin.link)
  | 0x1C0008, 3 => some (roleCode s.twin.role)
  | 0x1C0008, 7 => some (b2n (contained s .twin))
  | 0x1C0008, 8 => some (b2n s.twin.twinCommit.isSome)
  | 0x1C0008, 9 => some (if s.twin.link = .down ∨ s.twin.link = .training then 0 else s.twin.lanes)
  | 0x1C0008, 14 => some (satTo 15 s.twin.hbMissed)
  | 0x1C000C, 0 => some s.fw.protoMinor
  | 0x1C000C, 8 => some s.fw.protoMajor
  | 0x1C000C, 16 => some s.twin.peerMinor
  | 0x1C000C, 24 => some s.twin.peerMajor
  | 0x1C0010, 0 => some s.twin.txSeq
  | 0x1C0014, 0 => some (s.twin.txSeq / 2 ^ 32)
  | 0x1C0018, 0 => some (s.twin.txAcked - 1)
  | 0x1C001C, 0 => some ((s.twin.txAcked - 1) / 2 ^ 32)
  | 0x1C0020, 0 => some s.twin.pool.length
  | 0x1C0024, 0 => some (s.cin.poolFrames - s.twin.pool.length)
  | 0x1C0028, 0 => some (if s.twin.link = .paired then 1000 else 0)
  | 0x1C0028, 10 => some (b2n s.twin.resync.isSome)
  | 0x1C0028, 11 => some (b2n s.twin.resyncIn)
  | _, _ => none

/-- A set and its rebuild (AWL_SET registers). -/
def viewSet (s : State) (n r lo : Nat) : Option Nat :=
  let v := setOf s n
  match r, lo with
  | 0, 0 => some v.layout
  | 0, 4 => some v.n
  | 0, 9 => some v.w
  | 0, 14 => some (setCode v.st)
  | 0, 17 => some (missingColumns s n).length
  | 8, 0 => some (satTo 0x3FFFFF ((s.cin.freeZones ++ s.cin.twinZones.filter (fun z => zoneLive s z == 0)).filter
      (fun z => zoneSet z = n)).length)
  | 0xC, 0 => some (satTo 0x3FFFFF v.zones)
  | 0x10, 0 => some ((v.rebuild.map Rebuild.column).getD 0x1F)
  | 0x10, 5 => some ((v.rebuild.bind Rebuild.queued).getD 0x1F)
  | 0x10, 10 => some (match v.rebuild with
      | some x => satTo 1000 (x.done * 1000 / max 1 (v.zones * zoneStripes v.n))
      | none => 0)
  | 0x10, 20 => some (b2n (v.rebuild.isSome && (s.cin.pace = .urgent || s.cin.pace = .commit)))
  | _, _ => none

/-- A member slot (AWL_MBR registers). The own reservation key is registered from step 10 on an ONLINE member of a controller that is not
fenced. -/
def viewMember (s : State) (k r lo : Nat) : Option Nat :=
  let d := driveOf s k
  match r, lo with
  | 0, 0 => some (memberCode d.st)
  | 0, 3 => some (if d.set < 8 then d.set else 0)
  | 0, 6 => some (if d.set < 8 then d.col else 0)
  | 0, 11 => some (if d.linkUp then d.width else 0)
  | 0, 13 => some (b2n d.gen5)
  | 0, 14 => some (b2n (contained s (.drive k)))
  | 0, 15 => some (b2n (d.st = .online && decide (10 ≤ s.boot.stage) && !(s.twin.role = .fenced)))
  | 0, 16 => some (b2n d.predicted)
  | 0, 17 => some d.cause
  | 0x10, 0 => some d.cap
  | 0x14, 0 => some (d.cap / 2 ^ 32)
  | _, _ => none

/-- Stripe sets and drives (spec/12). -/
def viewAwl (s : State) (off lo : Nat) : Option Nat :=
  if 0x202000 ≤ off then viewMember s ((off - 0x202000) / 0x40) (off % 0x40) lo
  else if 0x201000 ≤ off then viewSet s ((off - 0x201000) / 0x100) (off % 0x100) lo
  else match off, lo with
    | 0x20000C, 0 => some s.awl.journal.length
    | 0x20000C, 13 => some s.awl.twinJrn.length
    | 0x20000C, 26 => some (b2n s.awl.full)
    | 0x20000C, 27 => some (b2n (journalSync s))
    | 0x20000C, 28 => some (b2n (s.boot.stage == 11))
    | 0x20000C, 29 => some s.awl.source
    | 0x200010, 0 => some s.awl.jseq
    | 0x200014, 0 => some (s.awl.jseq / 2 ^ 32)
    | 0x200018, 0 => some (bitSet ((List.range 8).filter (fun n => (setOf s n).st = .degraded ∨ (setOf s n).st = .doubleDegraded)))
    | 0x200018, 8 => some (bitSet ((List.range 8).filter (fun n => (setOf s n).st = .failed)))
    | 0x200018, 16 => some (b2n (s.awl.sets.any (fun e => e.2.rebuild.any (fun x => !x.pending))))
    | 0x200018, 17 => some (b2n s.awl.reclaiming.isSome)
    | 0x200018, 18 => some (b2n (s.twin.replay ≠ []))
    | _, _ => none

/-- The open stream whose status stands in a slot of the stream registers. -/
def streamSlot (s : State) (k : Nat) : Option Stream := s.tier.streams.find? (fun t => t.id % 1024 = k)

/-- Tiers and streams (spec/13). -/
def viewTir (s : State) (off lo : Nat) : Option Nat :=
  if 0x250000 ≤ off then
    match streamSlot s ((off - 0x250000) / 0x20) with
    | none => match off % 0x20 with | 0 | 4 => some 0 | _ => none
    | some t => match off % 0x20, lo with
      | 0, 0 => some (if t.closing then 2 else 1)
      | 0, 2 => some t.ld
      | 0, 8 => some t.window
      | 0, 15 => some (b2n t.loop)
      | 0, 16 => some t.id
      | 4, 0 => some t.oldest
      | 4, 16 => some (t.fetched - 1)
      | _, _ => none
  else if 0x248000 ≤ off then
    let ten := (off - 0x248000) / 0x10
    match off % 0x10, lo with
    | 0, 0 => some (tenantT1 s ten)
    | 0, 31 => some (b2n (!fitsQuota (quota s ten 1) (tenantT1 s ten)))
    | _, _ => none
  else match off, lo with
    | 0x240004, 0 => some (b2n (s.tier.t1Frames ≠ 0 && decide ((freeFrames s).length < freeTarget s)))
    | 0x240004, 1 => some (b2n (s.cin.phase = .warn))
    | 0x240004, 3 => some (bitSet ((s.tier.lenders.filter (fun e => e.2.up)).map Prod.fst))
    | 0x240004, 19 => some (s.tier.segs.filter (fun e => e.2.st = .moving)).length
    | 0x240008, 0 => some s.tier.t1Frames
    | 0x24000C, 0 => some (freeFrames s).length
    | 0x240010, 0 => some (s.tier.segs.filter (fun e => e.2.st = .t2)).length
    | 0x240010, 16 => some (lentFrames s)
    | 0x240014, 0 => some (s.tier.objs.length + s.tier.runs.length)
    | 0x240014, 21 => some s.tier.streams.length
    | 0x240038, 0 => some s.tier.ckptSeq
    | 0x24003C, 0 => some (s.tier.ckptSeq / 2 ^ 32)
    | _, _ => none

/-- RoCE peers contained now. -/
def peersContained (s : State) : Nat :=
  (s.partners.filter (fun e => e.2.contained.isSome && (match e.1 with | .peer _ => true | _ => false))).length

/-- The Latigo engine (spec/14). -/
def viewLat (s : State) (off lo : Nat) : Option Nat :=
  if 0x281000 ≤ off then
    let p := (off - 0x281000) / 0x100
    match off % 0x100, lo with
    | 0, 0 => some (b2n (amGet s.lat.ports p {}).up)
    | 0, 1 => some (b2n (amGet s.lat.ports p {}).pfc)
    | 0, 16 => some (s.lat.conns.filter (fun c => c.2.port == p)).length
    | _, _ => none
  else match off, lo with
    | 0x28000C, 0 => some (s.lat.conns.filter (fun c => c.2.res = .resident)).length
    | 0x28000C, 16 => some (s.lat.conns.filter (fun c => c.2.res ≠ .resident)).length
    | 0x280010, 0 => some (reservedCells s)
    | 0x280010, 16 => some (probeUsed s)
    | 0x28001C, 0 => some (s.lat.regions.filter (fun r => r.2.st = .valid)).length
    | 0x28001C, 19 => some (satTo 1023 (s.lat.regions.filter (fun r => r.2.st = .draining)).length)
    | 0x280024, 20 => some (satTo 0xFFF (peersContained s))
    | _, _ => none

/-- The Buckle engine (spec/15); BKL_SLOT_INFO shows the slot that BKL_SLOT_SEL names. -/
def viewBkl (s : State) (off lo : Nat) : Option Nat :=
  let k := rd s Reg.BKL_SLOT_SEL_SLOT
  let v := keyOf s k
  match off, lo with
  | 0x2C0004, 0 => some s.bkl.coresOk
  | 0x2C0004, 16 => some (b2n (s.cin.phase = .commit))
  | 0x2C0004, 17 => some (b2n s.bkl.setWait)
  | 0x2C000C, 0 => some (satTo 255 ((classQueue s 0).length / 4))
  | 0x2C000C, 8 => some (satTo 255 ((classQueue s 1).length / 4))
  | 0x2C000C, 16 => some (satTo 255 ((classQueue s 2).length / 4))
  | 0x2C000C, 24 => some (satTo 255 ((classQueue s 3).length / 4))
  | 0x2C0010, 0 => some (s.bkl.slots.filter (fun e => e.2.st ≠ .free)).length
  | 0x2C0010, 16 => some (s.bkl.slots.filter (fun e => e.2.persist && decide (7 < e.1))).length
  | 0x2C0018, 0 => some (keyCode v.st)
  | 0x2C0018, 2 => some v.usage
  | 0x2C0018, 4 => some (b2n v.persist)
  | 0x2C0018, 5 => some v.tenant
  | 0x2C0018, 13 => some (satTo 0x7FFFF (keyRefs s k))
  | _, _ => none

/-- Partners contained now that meet a condition. -/
def containedCount (s : State) (p : Partner → Bool) : Nat :=
  (s.partners.filter (fun e => e.2.contained.isSome && p e.1)).length

/-- The fault manager (spec/16). -/
def viewErr (s : State) (off lo : Nat) : Option Nat :=
  match off, lo with
  | 0x3C0008, 18 => some (b2n s.ham.wdi)
  | 0x3C0010, 0 => some (((s.fm.windows.filter (fun w => w.endedAt.isNone)).map Window.rung).foldl max 0)
  | 0x3C0010, 3 => some ((s.fm.windows.map Window.rung).foldl max 0)
  | 0x3C0010, 6 => some (b2n (s.fm.alerts ≠ []))
  | 0x3C0010, 7 => some (satTo 7 (recentS4 s).length)
  | 0x3C0010, 10 => some (b2n (s.fm.s5at.any (fun t => decide (s.time < t + settleTime s 5))))
  | 0x3C001C, 0 => some (containedCount s (fun p => match p with | .ld _ => true | _ => false))
  | 0x3C001C, 7 => some (containedCount s (fun p => match p with | .drive _ => true | _ => false))
  | 0x3C001C, 12 => some (satTo 0xFFF (peersContained s))
  | 0x3C001C, 24 => some (containedCount s (fun p => match p with | .tackNode _ => true | _ => false))
  | 0x3C001C, 30 => some (b2n (contained s .twin))
  | 0x3C001C, 31 => some (b2n (0 < containedCount s (fun p => match p with | .smb0 | .smb1 _ => true | _ => false)))
  | 0x3C0020, 16 => some (b2n (contained s .smb0))
  | 0x3C0020, 17 => some (containedCount s (fun p => match p with | .smb1 _ => true | _ => false))
  | _, _ => none

/-- A rail slot (HAM_RAIL registers). -/
def viewRail (s : State) (n r lo : Nat) : Option Nat :=
  let x := railOf s n
  match r, lo with
  | 0, 0 => some (b2n x.enable)
  | 0, 1 => some x.group
  | 0, 4 => some (classCode x.cls)
  | 0, 7 => some (reactionCode x.reaction)
  | 0, 9 => some (b2n x.retain)
  | 0, 10 => some (b2n x.svc)
  | 0, 11 => some (b2n (flushClass x.cls))
  | 0, 16 => some x.feeds
  | 4, 0 => some x.onDelay
  | 4, 16 => some x.offDelay
  | 8, 0 => some x.pgTimeout
  | 0xC, 0 => some (railCode x.state)
  | 0xC, 3 => some (satTo 3 x.attempts)
  | _, _ => none

/-- Power sequencing (spec/17). -/
def viewHam (s : State) (off lo : Nat) : Option Nat :=
  if 0x301000 ≤ off then viewRail s ((off - 0x301000) / 0x10) (off % 0x10) lo
  else match off, lo with
    | 0x300000, 0 => some (seqCode s.ham.seq)
    | 0x300000, 3 => some (satTo 3 s.ham.backouts)
    | 0x300000, 5 => some s.ham.tableSrc
    | 0x300004, 0 => some (b2n s.ham.psuOk)
    | 0x300004, 1 => some (b2n s.ham.holdupLowN)
    | 0x300004, 2 => some (b2n (!(s.ham.faultNExt || s.ham.faultNDriven)))
    | 0x300004, 3 => some (b2n s.ham.faultNDriven)
    | 0x300004, 4 => some (b2n s.ham.wdi)
    | 0x300008, 0 => some (bitSet (railList.filter (fun n => (railOf s n).en)))
    | 0x30000C, 0 => some (bitSet (railList.filter (fun n => (railOf s n).pg)))
    | 0x300014, k => if k % 2 = 0 ∧ k < 16 then some (groupCode (groupState s (k / 2))) else none
    | 0x300018, 0 => some (match s.ham.seq, s.ham.goodSince with
        | .requal, some t => satTo 2000 ((s.time - t) / msec 1)
        | _, _ => 0)
    | 0x300020, 0 => some s.ham.doms.toNat
    | 0x300024, 0 => some (s.ham.doms.toNat / 2 ^ 32)
    | 0x300028, 0 => some (s.ham.doms.toNat / 2 ^ 64)
    | _, _ => none

/-- The INDETERMINATE sectors by their device-wide numbers. -/
def indetSectors (s : State) : List Nat := (List.range 4).flatMap (fun b => (flsBank s b).indet.map (fun k => b * 1024 + k))

/-- The sector of a running or suspended erase or program of a bank. -/
def bankSector (v : FlsBank) : Nat := flsSector (((v.prog <|> v.op).map FlsOp.addr).getD 0)

/-- The highest erase count of any sector, with its device-wide number (R553). -/
def wearMax (s : State) : Nat × Nat :=
  ((List.range 4).flatMap (fun b => (flsBank s b).wear.map (fun e => (b * 1024 + e.1, e.2)))).foldl
    (fun (m : Nat × Nat) e => if m.2 < e.2 then e else m) (0, 0)

/-- The flash (spec/19). -/
def viewFls (s : State) (off lo : Nat) : Option Nat :=
  if 0x341000 ≤ off then
    let v := flsBank s ((off - 0x341000) / 0x400)
    match off % 0x400, lo with
    | 0x10, 0 => some (flsCode v.st)
    | 0x10, 3 => some (bankSector v)
    | 0x10, 13 => some (b2n (v.suspend && v.window.isSome))
    | 0x10, 14 => some (match v.window with | some t => 1000 - (s.time - t) / usec 1 | none => 0)
    | _, _ => none
  else match off, lo with
    | 0x340004, 0 => some (((List.range 4).map (fun b => flsCode (flsBank s b).st * 2 ^ (3 * b))).sum)
    | 0x340004, 12 => some (b2n s.fls.flagsRead)
    | 0x340004, 13 => some (indetSectors s).length
    | 0x340008, 0 => some ((indetSectors s).foldl min ((indetSectors s).headD 0))
    | 0x340008, 12 => some (b2n (indetSectors s ≠ []))
    | 0x34000C, 0 => some (satTo 0x1FFFF (wearMax s).2)
    | 0x34000C, 17 => some (wearMax s).1
    | _, _ => none

/-- The newest and oldest SEQ the recorder shows: the oldest record in LAST (R576), 0 where LAST holds none. -/
def oldestSeq (s : State) : Nat :=
  let ks := (s.stm.last.filter (fun a => !a.torn)).map (fun a => a.rcd.seq)
  ks.foldl min (ks.headD 0)

/-- The Stamp recorder (spec/21). -/
def viewStm (s : State) (off lo : Nat) : Option Nat :=
  match off, lo with
  | 0x380004, 0 => some s.stm.headSeq
  | 0x380008, 0 => some (s.stm.headSeq / 2 ^ 32)
  | 0x38000C, 0 => some (oldestSeq s)
  | 0x380010, 0 => some (oldestSeq s / 2 ^ 32)
  | 0x380014, 0 => some s.stm.flashedSeq
  | 0x380018, 0 => some (s.stm.flashedSeq / 2 ^ 32)
  | 0x38001C, 0 => some ((stagingUsed s.stm + 1023) / 1024)
  | 0x38001C, 11 => some s.stm.staging.length
  | 0x380020, 0 => some s.stm.lastSector
  | 0x380020, 9 => some (satTo 16 (erasedAhead s))
  | 0x380020, 14 => some ((s.stm.first.map AreaRec.sector).dedup.length)
  | 0x380020, 20 => some (b2n s.stm.firstFull)
  | 0x380020, 21 => some (satTo 0xFF s.stm.indeterminate.length)
  | 0x380024, 0 => some (b2n s.stm.clearing.isSome)
  | 0x380024, 1 => some (b2n s.stm.eraseStopped)
  | 0x380024, 2 => some (b2n s.stm.overflow)
  | 0x380024, 3 => some (b2n ((fnOf s .stm).phase = .disabled))
  | _, _ => none

/-- The LX-310 register files (spec/22), at 0x400_0000 + 0x1000 × endpoint. -/
def viewLxf (s : State) (off lo : Nat) : Option Nat :=
  let e := (off - 0x4000000) / 0x1000
  let r := off % 0x1000
  match r, lo with
  | 4, 3 => some (b2n ((lxEp s e).staged.any (fun x => x.1 == (Reg.LXF_BANK_BANK e).addr)))
  | 4, 4 => some (b2n (s.cin.phase = .commit))
  | 4, 5 => some (b2n (s.cin.admitSt = .stopped))
  | 4, 6 => some (b2n (s.awl.sets.any (fun x => x.2.st = .degraded ∨ x.2.st = .doubleDegraded ∨ x.2.st = .failed)))
  | 4, 7 => some (b2n (lxEp s e).ringErr)
  | 0x10, 0 => some (ldSegs s e / 128)
  | _, _ => if 0x100 ≤ r ∧ (r - 0x100) % 0x20 = 0x10 ∧ lo = 0 then some (lxRing s e ((r - 0x100) / 0x20)).head else none

/-- What a field shows of the units' state; `none` for a field that holds its value in the store. -/
def fieldView (s : State) (addr : Nat) : Option Nat :=
  let off := addr / 32 * 4
  let lo := addr % 32
  if 0x4000000 ≤ off then viewLxf s off lo
  else match blockOf off with
    | 0 => viewGlb s off lo
    | 1 => viewLck s off lo
    | 2 => viewCfg s off lo
    | 4 => viewHpt s off lo
    | 5 => viewWlt s off lo
    | 6 => viewTre s off lo
    | 7 => viewGrt s off lo
    | 8 => viewDrc s off lo
    | 9 => viewCin s off lo
    | 10 => viewStp s off lo
    | 11 => viewAwl s off lo
    | 12 => viewTir s off lo
    | 13 => viewLat s off lo
    | 14 => viewBkl s off lo
    | 15 => viewHam s off lo
    | 16 => viewFls s off lo
    | 17 => viewStm s off lo
    | 18 => viewErr s off lo
    | _ => none

end Sys2Proof.Machine
end

