-- ==== Sys2Proof/Machine/Csr.lean ====
section
/-!
DEFINITION. The CSR window (spec/03, R60 to R82): plain and alias writes, reads that clear or latch, and CFG_HOLD_LONG.
-/
namespace Sys2Proof.Machine

/-- A field whose write is a command with a row of its own (a START, RELEASE, RESET or KEY field, ENABLE of a port or
LD): the generic write leaves it to that command. -/
def ownCommand (off : Nat) (f : FieldRow) : Bool :=
  f.code = .wo ||
  (f.code = .w1s && (off != 0x10000 && off != 0x20000 || f.lo != 31) && !(f.lo == 31)) ||
  (decide (0x40000 ≤ off ∧ off < 0x50000) && off % 0x1000 == 0 && f.lo == 0) ||
  (decide (0x50000 ≤ off ∧ off < 0x51000) && off % 0x40 == 0 && f.lo == 0)

/-- A write refused for a locked field or a reserved bit, with its record (R62 causes 5 and 6). -/
def csrRefuseWrite (s : State) (m cause off : Nat) : State :=
  record (csrRefuse s m cause off) (if cause = 5 then Ev.CSR_LOCKED_WRITE else Ev.CSR_RSVD_WRITE) m (le 4 off)

/-- The live value of a field: its home in the store, or the part of State whose state it shows. -/
def fldLive (s : State) (f : Fld) : Nat :=
  match fieldView s f.addr with
  | some v => v % 2 ^ f.width
  | none => fldHome s f

/-- The governing lock of a field of copy `k` is set (R78, R79). -/
def fldLocked (s : State) (r : RegRow) (k : Nat) (f : FieldRow) : Bool :=
  f.lock ≠ 0 && amGet s.csr (f.lock + (if r.count = 1 then 0 else r.stride * 8 * k)) 0 ≠ 0

/-- What a plain write of a register does to one of its fields (R65, R78, R80, R88). -/
def writeField (m off : Nat) (r : RegRow) (k value : Nat) (s : State) (f : FieldRow) : State :=
  let fl := fldAt off f
  let nv := value / 2 ^ f.lo % 2 ^ f.width
  let cur := fldLive s fl
  if ownCommand off f then s
  else match f.code with
  | .rw => fldWrite s fl nv
  | .rwb => fldStage s fl nv
  | .rwl =>
    if nv = cur then s
    else if fldLocked s r k f then csrRefuseWrite s m 5 off else fldWrite s fl nv
  | .w1c => fldWrite s fl (Nat.bitwise (fun a b => a && !b) cur nv)
  | .w1s => fldWrite s fl (cur ||| nv)
  | .rsvd =>
    if nv = cur then s
    else if s.boot.mode = .service then record (fldWrite s fl nv) Ev.CSR_RSVD_WRITE m (le 4 off)
    else csrRefuseWrite s m 6 off
  | _ => s

/-- A word of a byte window, little-endian; bytes not written are 0. -/
def windowWord (d : Bytes) (k : Nat) : Nat := leNat ((d.drop k).take 4)

/-- The word at an offset: every field at its live value, or a word of MBX_DATA or FLS_B_DATA. -/
def regWord (s : State) (off : Nat) : Nat :=
  match findReg off with
  | none =>
    if decide (0x30100 ≤ off) && decide (off < 0x30200) then windowWord s.iface.mbxData (off - 0x30100)
    else if 0x341000 ≤ off then windowWord (flsBank s ((off - 0x341000) / 0x400)).data (off % 0x400 - 0x100)
    else 0
  | some (r, _) => (r.fields.map (fun f =>
      if f.code = .wo then 0 else fldLive s (fldAt off f) * 2 ^ f.lo)).sum

/-- Store a word into the mailbox data window (R72): VALID clears. -/
def mbxDataWrite (s : State) (off value : Nat) : State :=
  let k := off - 0x30100
  let d := s.iface.mbxData ++ List.replicate (256 - s.iface.mbxData.length) 0
  wr { s with iface := { s.iface with mbxData := d.take k ++ le 4 value ++ d.drop (k + 4) } } Reg.MBX_CTRL_VALID 0

/-- Commit both halves of a writable pair at the write of its _HI register (R68). -/
def writePair (m off value : Nat) (s : State) : State :=
  let lo := off - 4
  match findReg lo, findReg off with
  | some (rl, kl), some (rh, kh) =>
    let s1 := match amFind s.iface.stageWord (masterBlock m off) with
      | some (o, v) => if o = lo then rl.fields.foldl (writeField m lo rl kl v)
            { s with iface := { s.iface with stageWord := amErase s.iface.stageWord (masterBlock m off) } }
          else s
      | none => s
    rh.fields.foldl (writeField m off rh kh value) s1
  | _, _ => s

/-- A plain write of an assigned, powered register within the master's reach. -/
def writeReg (s : State) (m off value : Nat) : State :=
  if inMbx off && rd s Reg.MBX_CLAIM_OWNER ≠ m then csrRefuse s m 7 off
  else if inMbx off && rdb s Reg.MBX_CTRL_BUSY && off ≠ 0x30004 && off ≠ 0x30000 then s
  else if decide (0x30100 ≤ off) && decide (off < 0x30200) then mbxDataWrite s off value
  else if off ∈ writableLo then
    { s with iface := { s.iface with stageWord := amSet s.iface.stageWord (masterBlock m off) (off, value) } }
  else if 4 ≤ off ∧ (off - 4) ∈ writableLo then writePair m off value s
  else match findReg off with
    | some (r, k) => r.fields.foldl (writeField m off r k value) s
    | none => s

/-- A word of the page buffer of a flash bank (FLS_B_DATA). -/
def flsDataWrite (s : State) (off value : Nat) : State :=
  let b := (off - 0x341000) / 0x400
  let k := off % 0x400 - 0x100
  let bk := amGet s.fls.banks b {}
  let d := bk.data ++ List.replicate (256 - bk.data.length) 0
  { s with fls := { s.fls with banks := amSet s.fls.banks b { bk with data := d.take k ++ le 4 value ++ d.drop (k + 4) } } }

/-- CSR_WRITE: a plain write of `size` bytes at an offset by a CSR master (R60 to R68, R78, R80, R88). -/
def execCsrWrite (m : Fin 11) (off size : Nat) (value : Word) (s : State) : Host.Outcome State Fault Refusal :=
  .next <|
    if debugShut s m then emit s (.csrError m off)
    else if off % 4 ≠ 0 ∨ size ≠ 4 then emit (csrRefuse s m 2 off) (.busError m (statusCode .alignment))
    else if sandboxed s m && !inMbx off then
      emit (record (csrRefuse s m 4 off) Ev.CSR_ACCESS_REFUSED m (le 4 off)) (.busError m (statusCode .access))
    else if !assigned off then csrRefuse s m 1 off
    else if !regPowered s off then csrRefuse s m 3 off
    else if decide (0x341000 ≤ off) && (findReg off).isNone then flsDataWrite s off value.toNat
    else writeReg s m off value.toNat

/-- The live or staged value of an RWB field, which an alias write changes by one bit (R76). -/
def stagedOrLive (s : State) (f : Fld) : Nat := amGet s.iface.staged f.addr (fldLive s f)

/-- What an alias write does to the field that holds the bit (R65, R76, R77). -/
def aliasField (m off b : Nat) (v : Bool) (r : RegRow) (k : Nat) (s : State) (f : FieldRow) : State :=
  let fl := fldAt off f
  let cur := fldLive s fl
  let n := b - f.lo
  if ownCommand off f then s
  else match f.code with
  | .rw => fldWrite s fl (setBit cur n v)
  | .rwb => fldStage s fl (setBit (stagedOrLive s fl) n v)
  | .rwl =>
    if setBit cur n v = cur then s
    else if fldLocked s r k f then csrRefuseWrite s m 5 off else fldWrite s fl (setBit cur n v)
  | .w1c => if v then fldWrite s fl (setBit cur n false) else s
  | .w1s => if v then fldWrite s fl (setBit cur n true) else s
  | _ => s

/-- CSR_ALIAS_WRITE: a write of the alias word of one bit (R76, R77). -/
def execCsrAliasWrite (m : Fin 11) (off : Nat) (value : Word) (s : State) : Host.Outcome State Fault Refusal :=
  let n := (off - 0x1000000) / 4
  let a := n / 32 * 4
  let b := n % 32
  .next <|
    if debugShut s m then emit s (.csrError m off)
    else if off % 4 ≠ 0 then emit (csrRefuse s m 2 off) (.busError m (statusCode .alignment))
    else if off < 0x1000000 ∨ 0x1800000 ≤ off ∨ !assigned a then csrRefuse s m 1 off
    else if sandboxed s m && !inMbx a then
      emit (record (csrRefuse s m 4 off) Ev.CSR_ACCESS_REFUSED m (le 4 off)) (.busError m (statusCode .access))
    else if !regPowered s a then csrRefuse s m 3 off
    else if inMbx a && rd s Reg.MBX_CLAIM_OWNER ≠ m then csrRefuse s m 7 off
    else if inMbx a && rdb s Reg.MBX_CTRL_BUSY then s
    else if decide (0x30100 ≤ a) && decide (a < 0x30200) then
      mbxDataWrite s a (setBit (leNat ((s.iface.mbxData.drop (a - 0x30100)).take 4)) b (value.getLsbD 0))
    else match findReg a with
      | some (r, k) =>
        match r.fields.find? (fun f => decide (f.lo ≤ b) && decide (b < f.lo + f.width)) with
        | some f => aliasField m a b (value.getLsbD 0) r k s f
        | none => s
      | none => s

/-- The refusal that a read shares with a write, if any (R62): the state after it. -/
def readRefused (s : State) (m off : Nat) : Option State :=
  if debugShut s m then some (emit s (.csrError m off))
  else if off % 4 ≠ 0 then some (emit (csrRefuse s m 2 off) (.busError m (statusCode .alignment)))
  else if sandboxed s m && !(inMbx off || decide (off < 0x20000)) then
    some (emit (record (csrRefuse s m 4 off) Ev.CSR_ACCESS_REFUSED m (le 4 off)) (.busError m (statusCode .access)))
  else if !assigned off then some (emit (csrRefuse s m 1 off) (.csrData m off 0))
  else if !regPowered s off then some (emit (csrRefuse s m 3 off) (.csrData m off 0))
  else none

/-- The register at an offset is the _LO of an RLT pair (R67). -/
def latchLo (off : Nat) : Bool :=
  match findReg off with
  | some (r, _) => r.fields.any (fun f => f.code = .rlt)
  | none => false

/-- What a plain read of a register gives a master (R65, R67): the _HI of an RLT pair the master's shadow of the block, 0 where it has read
no _LO of that pair since PORST_N; any other register its live word. -/
def readWord (s : State) (m off : Nat) : Nat :=
  if 4 ≤ off ∧ latchLo (off - 4) then
    match amFind s.iface.shadow (masterBlock m off) with
    | some (los, v) => if off - 4 ∈ los then v else 0
    | none => 0
  else regWord s off

/-- The state after a plain read: RC fields are clear, and the high half paired with an RLT field is in the master's shadow (R65, R67). The
registers whose read has a row of its own, MBX_CLAIM and FLS_B_CLAIM, are left to that row. -/
def readEffect (s : State) (m off : Nat) : State :=
  match findReg off with
  | none => s
  | some (r, _) =>
    let s1 := r.fields.foldl (fun t f =>
      if f.code = .rc && off ≠ 0x30000 && !(decide (0x341000 ≤ off) && decide (off < 0x342000))
      then fldWrite t (fldAt off f) 0 else t) s
    if latchLo off then
      let old := (amGet s.iface.shadow (masterBlock m off) ([], 0)).1
      { s1 with
          iface := { s1.iface with
          shadow := amSet s1.iface.shadow (masterBlock m off)
            (if old.contains off then old else old ++ [off], regWord s (off + 4)) } }
    else s1

/-- The bit that a read of an alias word gives (R76, R77): 0 for a reserved bit, else the bit of what a plain read would give. -/
def aliasBit (s : State) (m a b : Nat) : Nat :=
  let reserved : Bool := match findReg a with
    | some (r, _) => !r.fields.any (fun f => decide (f.lo ≤ b) && decide (b < f.lo + f.width) && f.code ≠ .rsvd)
    | none => false
  if reserved then 0 else readWord s m a / 2 ^ b % 2

/-- A plain read of a register, or a read of an alias word, which gives one bit and changes nothing (R65, R76, R77). -/
def plainRead (s : State) (m off : Nat) : State :=
  if 0x1000000 ≤ off ∧ off < 0x1800000 then
    let n := (off - 0x1000000) / 4
    let a := n / 32 * 4
    if off % 4 ≠ 0 then (readRefused s m off).getD s
    else match readRefused s m a with
      | some _ => if debugShut s m then emit s (.csrError m off)
        else if sandboxed s m && !(inMbx a || decide (a < 0x20000)) then
          emit (record (csrRefuse s m 4 off) Ev.CSR_ACCESS_REFUSED m (le 4 off)) (.busError m (statusCode .access))
        else emit (csrRefuse s m (if assigned a then 3 else 1) off) (.csrData m off 0)
      | none => emit s (.csrData m off (BitVec.ofNat 32 (aliasBit s m a (n % 32))))
  else match readRefused s m off with
    | some t => t
    | none => emit (readEffect s m off) (.csrData m off (BitVec.ofNat 32 (readWord s m off)))

/-- CSR_READ_CLEAR: a plain read returns the register and clears its RC fields (R65). -/
def execCsrReadClear (m : Fin 11) (off : Nat) (s : State) : Host.Outcome State Fault Refusal := .next (plainRead s m off)

/-- CSR_READ_LATCH: a plain read of the _LO register of an RLT pair returns the low half and copies the high half into the
reader's shadow (R67). -/
def execCsrReadLatch (m : Fin 11) (off : Nat) (s : State) : Host.Outcome State Fault Refusal := .next (plainRead s m off)

/-- CFG_HOLD_LONG: HOLD has been set for 1,024 ticks: record 0xE006 once, and HOLD keeps holding (R81). -/
def execCfgHoldLong (s : State) : Host.Outcome State Fault Refusal :=
  .next <|
    if rdb s Reg.CFG_CTRL_HOLD && !rdb s Reg.CFG_CRC_STATUS_HOLD_LONG then
      record (setF s Reg.CFG_CRC_STATUS_HOLD_LONG) Ev.CFG_HOLD_LONG 0xFF []
    else s

end Sys2Proof.Machine
end

