-- ==== Sys2Proof/Machine/CxlMailbox.lean ====
section
/-!
DEFINITION. The meanings of the CXL mailbox commands (spec/05, R124, R138 to R140). PRESUMED: the layout of the standard commands' output
payloads, which the manual takes from CXL 3.1; what it says of their content stands in them, and every other byte is a free value.
-/
namespace Sys2Proof.Machine

/-- `n` bytes that the manual leaves open, each the next free value. -/
def freeBytes (s : State) (n : Nat) : Bytes :=
  (List.range n).map (fun k => (Config.freeValue (s.freeCtr + k)).setWidth 8)

/-- The state with `n` free values taken. -/
def freeSkip (s : State) (n : Nat) : State := { s with freeCtr := s.freeCtr + n }

/-- The bytes of a range of an LD. -/
def ldBytes (s : State) (n : Nat) : Nat := ldSegs s n * 0x200000

/-- A standard command (R138): absent in compatibility mode; where it needs READY, Busy before it. -/
def stdCmd (s : State) (n : Nat) (needsReady : Bool) (run : State) : State :=
  if s.boot.mode = .compat then emit s (.cci n .unsupported [])
  else if needsReady && !s.boot.ready then emit s (.cci n .busy [])
  else run

/-- IDENTIFY_MEMORY_DEVICE: the capacity is persistent, the volatile capacity 0 (R131, R138), the label area 64 KiB. -/
def execIdentifyMemoryDevice (n : Fin 64) (s : State) : Host.Outcome State Fault Refusal :=
  let cap := ldBytes s n / 0x10000000
  .next (stdCmd s n false (emit (freeSkip s 31) (.cci n .success
    (freeBytes s 16 ++ le 8 cap ++ le 8 0 ++ le 8 cap ++ freeBytes (freeSkip s 16) 8 ++
      le 8 0 ++ le 4 65536 ++ freeBytes (freeSkip s 24) 7))))

/-- GET_PARTITION_INFO: all of the range is persistent (R131). -/
def execGetPartitionInfo (n : Fin 64) (s : State) : Host.Outcome State Fault Refusal :=
  .next (stdCmd s n false (emit s (.cci n .success (le 8 0 ++ le 8 (ldBytes s n / 0x10000000) ++ le 8 0 ++ le 8 0))))

/-- The mailbox opcodes that are supported (R138). PRESUMED: the opcodes of the standard commands. -/
def mailboxOpcodes : List Nat :=
  [0x0100, 0x0101, 0x0102, 0x0103, 0x0200, 0x0300, 0x0301, 0x0400, 0x0401, 0x4000, 0x4100, 0x4102, 0x4103, 0x4200, 0x4300, 0x4302,
   0xC000, 0xC001, 0xC002, 0xC010, 0xC011, 0xC012, 0xC013, 0xC020, 0xC021]

/-- The Command Effects Log (R138): each opcode with its effect word. -/
def celLog : Bytes := mailboxOpcodes.flatMap (fun o => le 2 o ++ le 2 (Config.celEffect o).toNat)

/-- The identifier of the Command Effects Log. PRESUMED: the UUID of CXL 3.1. -/
def celUuid : Bytes :=
  [0x0D, 0xA9, 0xC0, 0xB5, 0xBF, 0x41, 0x4B, 0x78, 0x8F, 0x79, 0x96, 0xB1, 0x62, 0x3B, 0x3F, 0x17]

/-- GET_SUPPORTED_LOGS: the CEL is the one log (R138). -/
def execGetSupportedLogs (n : Fin 64) (s : State) : Host.Outcome State Fault Refusal :=
  .next (stdCmd s n false (emit s (.cci n .success (le 2 1 ++ List.replicate 6 0 ++ celUuid ++ le 4 celLog.length))))

/-- GET_LOG: a part of the CEL; another log or a range outside it is Invalid Input (R138, R140). -/
def execGetLog (n : Fin 64) (uuid : Bytes) (off len : Nat) (s : State) : Host.Outcome State Fault Refusal :=
  .next (stdCmd s n false (
    if uuid ≠ celUuid ∨ celLog.length < off + len ∨ 4096 < len then emit s (.cci n .invalidInput [])
    else emit s (.cci n .success ((celLog.drop off).take len))))

/-- GET_HEALTH_INFO: the dirty shutdown count (R138). -/
def execGetHealthInfo (n : Fin 64) (s : State) : Host.Outcome State Fault Refusal :=
  .next (stdCmd s n false (emit (freeSkip s 14) (.cci n .success
    (freeBytes s 6 ++ le 4 (ldOf s n).dirtyShutdowns ++ freeBytes (freeSkip s 6) 8))))

/-- The records of one log of an LD. -/
def logOf (s : State) (n log : Nat) : List CxlEvent := (ldOf s n).events.filter (fun e => e.log == log)

/-- Event records of 128 bytes: the handle stands in bytes 20 and 21, and the event code in bytes 48 and 49. -/
def eventBytes (s : State) (es : List CxlEvent) (k : Nat) : Bytes :=
  match es with
  | [] => []
  | e :: r => freeBytes (freeSkip s k) 20 ++ le 2 e.handle ++ freeBytes (freeSkip s (k + 20)) 26 ++ le 2 e.code ++
      freeBytes (freeSkip s (k + 46)) 78 ++ eventBytes s r (k + 124)

/-- GET_EVENT_RECORDS: the oldest records of a log, at most 31 in a payload (R138). -/
def execGetEventRecords (n : Fin 64) (log : Nat) (s : State) : Host.Outcome State Fault Refusal :=
  .next (stdCmd s n false (
    if 4 ≤ log then emit s (.cci n .invalidInput [])
    else
      let es := (logOf s n log).take 31
      let more := b2n (decide (31 < (logOf s n log).length))
      emit (freeSkip s (124 * es.length + 18)) (.cci n .success
        (le 1 (2 * more) ++ [0] ++ freeBytes (freeSkip s (124 * es.length)) 18 ++ le 2 es.length ++ List.replicate 10 0 ++
          eventBytes s es 0))))

/-- CLEAR_EVENT_RECORDS: all records of a log, or those named; a handle the log does not hold is Invalid Input (R138, R140). -/
def execClearEventRecords (n : Fin 64) (log : Nat) (all : Bool) (handles : List Nat) (s : State) : Host.Outcome State Fault Refusal :=
  let d := ldOf s n
  .next (stdCmd s n false (
    if 4 ≤ log ∨ (all = false ∧ !handles.all (fun h => (logOf s n log).any (fun e => e.handle == h))) then emit s (.cci n .invalidInput [])
    else emit (ldSet s n { d with
      events := d.events.filter (fun e => !(e.log == log && (all || handles.contains e.handle))) }) (.cci n .success [])))

/-- GET_EVENT_INTERRUPT_POLICY: for each log whether an event raises an interrupt (R138). -/
def execGetEventInterruptPolicy (n : Fin 64) (s : State) : Host.Outcome State Fault Refusal :=
  .next (stdCmd s n false (emit s (.cci n .success
    ([0, 1, 2, 3].flatMap (fun k => le 1 (b2n (bit (ldOf s n).eventPolicy k)))))))

/-- SET_EVENT_INTERRUPT_POLICY: one setting for each log, 0 none or 1 MSI-X (R138, R140). -/
def execSetEventInterruptPolicy (n : Fin 64) (settings : List Byte) (s : State) : Host.Outcome State Fault Refusal :=
  .next (stdCmd s n false (
    if settings.length ≠ 4 then emit s (.cci n .invalidPayloadLength [])
    else if settings.any (fun b => decide (1 < b.toNat % 4)) then emit s (.cci n .invalidInput [])
    else emit (ldSet s n { ldOf s n with
      eventPolicy := leNat (settings.map (fun b => b &&& 1)) % 2 + 2 * (leNat ((settings.drop 1).take 1) % 2) +
        4 * (leNat ((settings.drop 2).take 1) % 2) + 8 * (leNat ((settings.drop 3).take 1) % 2) }) (.cci n .success [])))

/-- The label storage area of an LD, 64 KiB; bytes never written read 0xFF. -/
def lsaBytes (s : State) (n off len : Nat) : Bytes :=
  let b := amGet s.host.lsa n []
  let d := (b.drop off).take len
  d ++ List.replicate (len - d.length) 0xFF

/-- GET_LSA: a part of the label storage area (R138). -/
def execGetLsa (n : Fin 64) (off len : Nat) (s : State) : Host.Outcome State Fault Refusal :=
  .next (stdCmd s n true (
    if 65536 < off + len ∨ 4096 < len then emit s (.cci n .invalidInput [])
    else emit s (.cci n .success (lsaBytes s n off len))))

/-- SET_LSA: a part of the label storage area written (R138). -/
def execSetLsa (n : Fin 64) (off : Nat) (data : Bytes) (s : State) : Host.Outcome State Fault Refusal :=
  .next (stdCmd s n true (
    if 65536 < off + data.length then emit s (.cci n .invalidInput [])
    else
      let old := amGet s.host.lsa n []
      let b := lsaBytes s n 0 (max old.length (off + data.length))
      emit { s with host := { s.host with lsa := amSet s.host.lsa n (b.take off ++ data ++ b.drop (off + data.length)) } }
        (.cci n .success [])))

/-! ### Poison (R138) -/

/-- The DPA of a home line as an LD sees it, where its range holds the line. -/
def dpaOf (s : State) (n gl : Nat) : Option Nat :=
  match baseOf s (gl / 32768) with
  | none => none
  | some b =>
    let off := gl / 32768 - (runOf s b).1
    let seg := if 64 ≤ b then (windowSegs s (b - 64)).1 + off
      else (ldWindows s n).foldl (fun a w => if (windowSegs s w).1 ≤ a then a + (windowSegs s w).2 else a) off
    if (b = n ∨ (64 ≤ b ∧ isSharer s (b - 64) n = true)) ∧ seg < ldSegs s n then some (seg * 0x200000 + gl % 32768 * 64) else none

/-- The home lines that some store marks poisoned. -/
def poisonedLines (s : State) : List Nat :=
  ((s.tier.segs.map (fun e => e.2.poison)).flatten ++ (s.per.welt.filter WeltEntry.poisoned).map WeltEntry.line ++
    (s.per.skive.filter SkiveLine.poisoned).map SkiveLine.line ++
    (s.dram.poison ++ (s.tree.lines.filter TreeLine.poison).map TreeLine.line ++ (s.tree.wbb.filter WbbEntry.poison).map WbbEntry.line).filterMap
      (homeOfDram s)).dedup

/-- The poisoned DPAs of an LD in a range. -/
def poisonIn (s : State) (n start len : Nat) : List Nat :=
  (((poisonedLines s).filter (fun gl => (lineValue s gl).all Prod.snd)).filterMap (dpaOf s n)).filter
    (fun a => decide (start ≤ a) && decide (a < start + 64 * len))

/-- GET_POISON_LIST: the poisoned addresses of a range, at most 254 in a payload (R138). -/
def execGetPoisonList (n : Fin 64) (start len : Nat) (s : State) : Host.Outcome State Fault Refusal :=
  .next (stdCmd s n true (
    let ps := (poisonIn s n start len).mergeSort (fun a b => decide (a ≤ b))
    if ldBytes s n < start + 64 * len ∨ start % 64 ≠ 0 then emit s (.cci n .invalidInput [])
    else emit s (.cci n .success
      (le 1 (b2n (decide (254 < ps.length))) ++ List.replicate 9 0 ++ le 2 (ps.take 254).length ++ List.replicate 20 0 ++
        (ps.take 254).flatMap (fun a => le 8 a ++ le 4 1 ++ le 4 0)))))

/-- CLEAR_POISON: 64 bytes written to a line, whose poison ends (R138, R163). Where the Welt has no room for the line the command
answers Busy. -/
def execClearPoison (n : Fin 64) (dpa : Nat) (data : Bytes) (s : State) : Host.Outcome State Fault Refusal :=
  .next (stdCmd s n true (
    if data.length ≠ 64 then emit s (.cci n .invalidPayloadLength [])
    else if dpa % 64 ≠ 0 ∨ ldBytes s n ≤ dpa then emit s (.cci n .invalidInput [])
    else match acceptWrite s (.mailbox n) n (homeLine s n dpa) (plineOf data) (completePair s n (dpa / 0x200000)) false with
      | some t => emit t (.cci n .success [])
      | none => emit s (.cci n .busy [])))

/-! ### Timestamps and firmware (R138) -/

/-- The time that timestamps count, in ns. -/
def timeNs (s : State) : Nat := s.time * 40 / 1024

/-- GET_TIMESTAMP: the time with the LD's offset (R138). -/
def execGetTimestamp (n : Fin 64) (s : State) : Host.Outcome State Fault Refusal :=
  .next (stdCmd s n false (emit s (.cci n .success (le 8 ((timeNs s + (ldOf s n).tsOffset) % 2 ^ 64)))))

/-- SET_TIMESTAMP: the LD's offset is set; the line clock is untouched (R138). -/
def execSetTimestamp (n : Fin 64) (value : Nat) (s : State) : Host.Outcome State Fault Refusal :=
  .next (stdCmd s n false (emit (ldSet s n { ldOf s n with
    tsOffset := (value % 2 ^ 64 + 2 ^ 64 - timeNs s % 2 ^ 64) % 2 ^ 64 }) (.cci n .success [])))

/-- A decimal number as text. -/
def decText (n : Nat) : Bytes := (toString n).toList.map (fun c => BitVec.ofNat 8 c.toNat)

/-- A slot's FW_VERSION as text in 16 bytes (R554): major, minor, patch and build from byte 3 down. -/
def versionText (v : Nat) : Bytes :=
  let dot : Byte := 0x2E
  let b := decText (v / 0x1000000) ++ [dot] ++ decText (v / 0x10000 % 256) ++ [dot] ++ decText (v / 256 % 256) ++ [dot] ++ decText (v % 256)
  b ++ List.replicate (16 - b.length) 0

/-- GET_FW_INFO: two slots, the active slot, the pending slot as the staged one, and each slot's version as text (R138). -/
def execGetFwInfo (n : Fin 64) (s : State) : Host.Outcome State Fault Refusal :=
  let staged := if s.fw.slotA.st = .pending then 1 else if s.fw.slotB.st = .pending then 2 else 0
  .next (stdCmd s n false (emit s (.cci n .success
    (le 1 2 ++ le 1 (s.fw.running + 1 + 8 * staged) ++ List.replicate 14 0 ++ versionText s.fw.slotA.version ++
      versionText s.fw.slotB.version ++ List.replicate 32 0))))

/-- UNSUPPORTED_MAILBOX_COMMAND: Transfer FW, Activate FW, Inject Poison and every other opcode (R138, R140). -/
def execUnsupportedMailboxCommand (n : Fin 64) (s : State) : Host.Outcome State Fault Refusal :=
  .next (emit s (.cci n .unsupported []))

/-! ### The FM API over the FM-owned LD (R124, R130) -/

/-- The answers of the FM-owned LD of a port carry the number 64 + port. A port with fewer than two LDs has none. -/
def fmCmd (s : State) (p : Nat) (run : State) : State :=
  if s.boot.mode = .compat ∨ (portLds s p).length < 2 then emit s (.cci (64 + p) .unsupported []) else run

/-- GET_LD_INFO: the memory size and the LD count of a port (R124). -/
def execGetLdInfo (p : Fin 16) (s : State) : Host.Outcome State Fault Refusal :=
  .next (fmCmd s p (emit (freeSkip s 1) (.cci (64 + p) .success
    (le 8 ((portLds s p).map (ldBytes s)).sum ++ le 2 (portLds s p).length ++ freeBytes s 1))))

/-- GET_LD_ALLOCATIONS: the size of each LD of a port in units of 256 MiB, from an LD-ID on (R124, R130). -/
def execGetLdAllocations (p : Fin 16) (start limit : Nat) (s : State) : Host.Outcome State Fault Refusal :=
  let lds := ((portLds s p).drop start).take limit
  .next (fmCmd s p (emit s (.cci (64 + p) .success
    (le 1 (portLds s p).length ++ le 1 0 ++ le 1 start ++ le 1 lds.length ++
      lds.flatMap (fun n => le 8 (ldBytes s n / 0x10000000) ++ le 8 0)))))

/-- SET_LD_ALLOCATIONS: returns Unsupported (R124). -/
def execSetLdAllocations (p : Fin 16) (s : State) : Host.Outcome State Fault Refusal :=
  .next (emit s (.cci (64 + p) .unsupported []))

/-! ### Dictionary commands (R139, R140) -/

/-- The LD carries the management flag. -/
def ldMgmt (s : State) (n : Nat) : Bool := rdb s (Reg.HPT_LD_CFG_MGMT n)

/-- OD_READ: one chunk of an entry (R139); before READY only of indices 0x1000 to 0x1FFF (R140). -/
def execOdRead (n : Fin 64) (key off : Nat) (s : State) : Host.Outcome State Fault Refusal :=
  let run := fun (s : State) =>
    if !ldMgmt s n then vendorReply s n .access []
    else
      let c := readStatus s (.cxl n) key
      let v := odValue s key
      if c.1 ≠ .ok then vendorReply s n c.1 []
      else if off ≠ 0 ∧ v.length ≤ off then vendorReply s n .badDescriptor []
      else vendorReply s n .ok ((v.drop off).take 4080)
  .next (
    if s.boot.mode ≠ .compat ∧ s.boot.ready = false ∧ 0x100000 ≤ key ∧ key < 0x200000 then run s else vendorCmd s n run)

/-- A write of one chunk over an LD's mailbox (R107, R139): staged until the chunk that ends at the total length. -/
def odChunk (s : State) (n key off total : Nat) (data : Bytes) : State :=
  let prev := s.dict.staged.find? (fun x => x.key == key && x.route = .cxl n)
  let c := accessCheck s (.cxl n) key prev.isSome
  let drop := if prev.isSome then stagedDrop s key else s
  let have_ := if off = 0 then some ([] : Bytes) else (prev.filter (fun x => x.total == total)).map OdStaged.data
  if 4080 < data.length ∨ (data.length % 2 ≠ 0 ∧ 8 < total) ∨ 16777214 < total ∨ total < off + data.length then vendorReply s n .length []
  else if c.1 ≠ .ok then vendorReply s n c.1 []
  else match have_ with
    | none => vendorReply drop n .badDescriptor []
    | some d =>
      if d.length ≠ off then vendorReply drop n .badDescriptor []
      else if off + data.length = total then
        let (st, s1) := odCommit drop (.cxl n) n key (d ++ data) true
        vendorReply (if st.1 = .ok then { s1 with dict := { s1.dict with done := amSet s1.dict.done (256 + n) key } } else s1) n st.1 []
      else vendorReply (stagedPut s ⟨key, .cxl n, n, total, d ++ data⟩) n .ok []

/-- OD_WRITE: one chunk of an entry written (R139). -/
def execOdWrite (n : Fin 64) (key off total : Nat) (data : Bytes) (s : State) : Host.Outcome State Fault Refusal :=
  .next (vendorCmd s n (fun s => if !ldMgmt s n then vendorReply s n .access [] else odChunk s n key off total data))

/-- OD_ABORT: the operation on a key aborted (R108, R493, R494). -/
def execOdAbort (n : Fin 64) (key : Nat) (s : State) : Host.Outcome State Fault Refusal :=
  .next (vendorCmd s n (fun s =>
    if !ldMgmt s n then vendorReply s n .access []
    else if s.dict.staged.any (fun x => x.key == key && x.route = .cxl n.val) then vendorReply (stagedDrop s key) n .aborted []
    else vendorReply s n (if amFind s.dict.done (256 + n) = some key then .abortTooLate else .badDescriptor) []))

end Sys2Proof.Machine
end

