-- ==== Sys2Proof/Machine/Mailbox.lean ====
section
/-!
DEFINITION. The meanings of the CSR mailbox commands (spec/03, R69 to R75) and of the dictionary operations that have rows of their own on
every route (R100 to R102, R209, R560, R561, R578).
-/
namespace Sys2Proof.Machine

/-! ### The mailbox (R69 to R75) -/

/-- A master reaches the MBX block: outside service mode the debug port does not (R60), and with VDD_AON gone nobody does (R616). -/
def mbxShut (s : State) (m off : Nat) : Option State :=
  if debugShut s m then some (emit s (.csrError m off))
  else if !regPowered s off then some (csrRefuse s m 3 off)
  else none

/-- Chunks that an owner has staged are discarded (R74). -/
def mbxStagedDrop (s : State) : State :=
  { s with dict := { s.dict with staged := s.dict.staged.filter (fun x => x.route ≠ .mbx) } }

/-- The mailbox made free (R70, R72): VALID clears, and chunks staged by the owner go. -/
def mbxFree (s : State) : State :=
  mbxStagedDrop (wr (wr (wr s Reg.MBX_CLAIM_CLAIM 1) Reg.MBX_CLAIM_OWNER 0xF) Reg.MBX_CTRL_VALID 0)

/-- MBX_CLAIM: a read of the register makes the reader the owner when the mailbox is free (R70). -/
def execMbxClaim (m : Fin 11) (s : State) : Host.Outcome State Fault Refusal :=
  .next <|
    match mbxShut s m 0x30000 with
    | some t => t
    | none =>
      let s1 := emit s (.csrData m 0x30000 (BitVec.ofNat 32 (rd s Reg.MBX_CLAIM_CLAIM + 2 * rd s Reg.MBX_CLAIM_OWNER)))
      if rdb s Reg.MBX_CLAIM_CLAIM then wr (wr s1 Reg.MBX_CLAIM_CLAIM 0) Reg.MBX_CLAIM_OWNER m else s1

/-- MBX_RELEASE: the owner writes 1 to RELEASE (R70); another master's write is ignored with cause 7. -/
def execMbxRelease (m : Fin 11) (s : State) : Host.Outcome State Fault Refusal :=
  .next <|
    match mbxShut s m 0x30000 with
    | some t => t
    | none => if rd s Reg.MBX_CLAIM_OWNER ≠ m then csrRefuse s m 7 0x30000 else mbxFree s

/-- A running operation settled as ABORTED (R75): nothing of a write is applied. -/
def mbxAborted (s : State) : State :=
  mbxStagedDrop (wr (wr (wr { s with iface := { s.iface with mbxOp := none } } Reg.MBX_CTRL_BUSY 0)
    Reg.MBX_CTRL_STATUS (statusCode .aborted)) Reg.MBX_CTRL_ABORT_RESULT (statusCode .aborted))

/-- An abort settled against completion at the commit point (R75, R108). -/
def mbxAbortNow (s : State) : State :=
  match s.iface.mbxOp with
  | none => s
  | some o => if o.committed then wr s Reg.MBX_CTRL_ABORT_RESULT (statusCode .abortTooLate) else mbxAborted s

/-- MBX_CLAIM_EXPIRED: 1 s without an MBX access of the owner (R70): the operation in progress is aborted, the mailbox released and record
0xE007 written. -/
def execMbxClaimExpired (s : State) : Host.Outcome State Fault Refusal :=
  .next <|
    if rd s Reg.MBX_CLAIM_OWNER = 0xF then s
    else fault (mbxFree (mbxAbortNow s)) .config Ev.MBX_CLAIM_EXPIRED 0xFF []

/-- The key in MBX_KEY. -/
def mbxKey (s : State) : Nat := rd s Reg.MBX_KEY_INDEX * 256 + rd s Reg.MBX_KEY_SUBINDEX

/-- The chunk in the data window: WIN_LEN bytes. -/
def mbxWindow (s : State) : Bytes :=
  (s.iface.mbxData ++ List.replicate (256 - s.iface.mbxData.length) 0).take (rd s Reg.MBX_LENGTH_WIN_LEN)

/-- A write of one chunk (R74): the status it will end with, whether its commit point has passed, and the state after it. -/
def mbxChunk (s : State) (m : Nat) : Status × (Bool × State) :=
  let key := mbxKey s
  let off := 256 * rd s Reg.MBX_OFFSET_CHUNK
  let data := mbxWindow s
  let last := decide ((off + data.length) / 2 = rd s Reg.MBX_LENGTH_TOTAL_ENC)
  let prev := s.dict.staged.find? (fun x => x.key == key && x.route = .mbx && x.client == m)
  let a := accessCheck s .mbx key prev.isSome
  if 256 < rd s Reg.MBX_LENGTH_WIN_LEN then (.length, (false, mbxStagedDrop s))
  else if a.1 ≠ .ok then (a.1, (false, s))
  else if off = 0 ∧ last then
    let (c, s1) := odCommit (mbxStagedDrop s) .mbx m key data true
    (c.1, (true, s1))
  else if off = 0 then
    (.ok, (false, stagedPut (mbxStagedDrop s) ⟨key, .mbx, m, 2 * rd s Reg.MBX_LENGTH_TOTAL_ENC, data⟩))
  else match prev with
    | none => (.badDescriptor, (false, s))
    | some x =>
      if off ≠ x.data.length ∨ x.data.length % 256 ≠ 0 then (.badDescriptor, (false, mbxStagedDrop s))
      else if last then
        let (c, s1) := odCommit (stagedDrop s key) .mbx m key (x.data ++ data) true
        (c.1, (true, s1))
      else (.ok, (false, stagedPut s { x with data := x.data ++ data }))

/-- START by a master (R70, R72 to R74): ignored while BUSY; OP 2 and 3 are refused with BAD_DESCRIPTOR. -/
def mbxStart (s : State) (m op : Nat) : State :=
  match mbxShut s m 0x30004 with
  | some t => t
  | none =>
    if rd s Reg.MBX_CLAIM_OWNER ≠ m then csrRefuse s m 7 0x30004
    else if rdb s Reg.MBX_CTRL_BUSY then s
    else
      let s1 := wr (wr (wr (wr s Reg.MBX_CTRL_OP op) Reg.MBX_CTRL_VALID 0) Reg.MBX_CTRL_BUSY 1) Reg.MBX_CTRL_ABORT_RESULT 0
      let put := fun (t : State) (w c : Bool) (st : Status) =>
        { t with iface := { t.iface with mbxOp := some ⟨w, c, mbxKey s, st, [], 0⟩ } }
      match op with
      | 0 => put s1 false false .ok
      | 1 => let (st, (c, s2)) := mbxChunk s1 m; put s2 true c st
      | _ => put s1 true false .badDescriptor

/-- MBX_READ: START with OP 0, or with the refused values 2 and 3 of OP (R72, R73). -/
def execMbxRead (m : Fin 11) (op : Fin 4) (s : State) : Host.Outcome State Fault Refusal := .next (mbxStart s m op)

/-- MBX_WRITE: START with OP 1: a chunk staged, or the value applied with its last chunk (R74). -/
def execMbxWrite (m : Fin 11) (s : State) : Host.Outcome State Fault Refusal := .next (mbxStart s m 1)

/-- MBX_ABORT: the owner writes 1 to ABORT (R75). -/
def execMbxAbort (m : Fin 11) (s : State) : Host.Outcome State Fault Refusal :=
  .next <|
    match mbxShut s m 0x30004 with
    | some t => t
    | none => if rd s Reg.MBX_CLAIM_OWNER ≠ m then csrRefuse s m 7 0x30004 else mbxAbortNow s

/-- The end of a read: its chunk in the window (R72). -/
def mbxReadEnd (s : State) (key : Nat) : State :=
  let c := readStatus s .mbx key
  let v := odValue s key
  let off := 256 * rd s Reg.MBX_OFFSET_CHUNK
  if c.1 ≠ .ok then wr s Reg.MBX_CTRL_STATUS (statusCode c.1)
  else if off ≠ 0 ∧ v.length ≤ off then wr s Reg.MBX_CTRL_STATUS (statusCode .badDescriptor)
  else
    let w := (v.drop off).take 256
    let s1 := { s with iface := { s.iface with mbxData := w ++ List.replicate (256 - w.length) 0 } }
    wr (wr (wr (wr s1 Reg.MBX_LENGTH_WIN_LEN w.length) Reg.MBX_LENGTH_TOTAL_ENC (v.length / 2)) Reg.MBX_CTRL_VALID 1)
      Reg.MBX_CTRL_STATUS (statusCode .ok)

/-- MBX_OP_DONE: the running operation ends: BUSY clears and STATUS holds its status (R73). -/
def execMbxOpDone (s : State) : Host.Outcome State Fault Refusal :=
  .next <|
    match s.iface.mbxOp with
    | none => s
    | some o =>
      let s1 := wr { s with iface := { s.iface with mbxOp := none } } Reg.MBX_CTRL_BUSY 0
      if o.isWrite then wr s1 Reg.MBX_CTRL_STATUS (statusCode o.status) else mbxReadEnd s1 o.key

/-! ### Dictionary operations with rows of their own -/

/-- OD_STORE: 0x5356 written to STORE (R100). -/
def execOdStore (r : Route) (client : Nat) (s : State) : Host.Outcome State Fault Refusal :=
  .next (odWrite s r client 0x101001 (le 2 0x5356))

/-- The values of one layer written in one generation (R102, R503). -/
def storeLayer (s : State) (l : LayerId) (vs : List (Nat × Bytes)) : State :=
  let put := fun (f : Nat → Nat) (xs : List (Nat × Bytes)) (m : List (Nat × Bytes)) =>
    xs.foldl (fun (a : List (Nat × Bytes)) (x : Nat × Bytes) => amSet a (f x.1) x.2) m
  let rail := vs.filter (fun (x : Nat × Bytes) => inRail x.1)
  if vs.isEmpty then s
  else
    let s1 := layerSet s l (layerPut (layerOf s.dict l) (put id vs))
    if rail.isEmpty then s1
    else { s1 with dict := { s1.dict with rail := layerPut s1.dict.rail (put (fun k => layerNum l * 2 ^ 24 + k) rail) } }

/-- OD_STORE_DONE: the store has written the next generation into the older copy of each layer (R102). -/
def execOdStoreDone (s : State) : Host.Outcome State Fault Refusal :=
  .next <|
    match s.dict.storing with
    | none => s
    | some vs =>
      [LayerId.base, .native, .compat, .single, .service].foldl (fun t l =>
        storeLayer t l ((vs.filter (fun x => x.1 = l)).map (fun x => x.2))) { s with dict := { s.dict with storing := none } }

/-- OVERLAY_ADD: COMMAND 1 written to OVERLAY_EDIT (R101). -/
def execOverlayAdd (r : Route) (client : Nat) (s : State) : Host.Outcome State Fault Refusal :=
  .next (odWrite s r client 0x101304 (le 1 1))

/-- OVERLAY_REMOVE: COMMAND 2 written to OVERLAY_EDIT (R101). -/
def execOverlayRemove (r : Route) (client : Nat) (s : State) : Host.Outcome State Fault Refusal :=
  .next (odWrite s r client 0x101304 (le 1 2))

/-- RGN_ENTRY_APPLY: RGN_LD of a region entry written (R209, R210). -/
def execRgnEntryApply (r : Route) (client : Nat) (e : Fin 1024) (ld : Byte) (s : State) : Host.Outcome State Fault Refusal :=
  .next (odWrite s r client ((0x6400 + e) * 256 + 1) (le 1 ld.toNat))

/-- FW_DATA: 65,536 bytes of an image written at FW_OFFSET (R560). -/
def execFwData (r : Route) (client : Nat) (data : Bytes) (s : State) : Host.Outcome State Fault Refusal :=
  .next (odWrite s r client 0xA00202 data)

/-- FW_ACTIVATE: 0x4143_5456 written (R561). -/
def execFwActivate (r : Route) (client : Nat) (s : State) : Host.Outcome State Fault Refusal :=
  .next (odWrite s r client 0xA00203 (le 4 0x41435456))

/-- FW_ACTIVATE_FORCE: 0x4143_5446 written (R561). -/
def execFwActivateForce (r : Route) (client : Nat) (s : State) : Host.Outcome State Fault Refusal :=
  .next (odWrite s r client 0xA00203 (le 4 0x41435446))

/-- FW_ACTIVATE_CANCEL: 0x4341_4E43 written (R561). -/
def execFwActivateCancel (r : Route) (client : Nat) (s : State) : Host.Outcome State Fault Refusal :=
  .next (odWrite s r client 0xA00203 (le 4 0x43414E43))

/-- READ_BLOCK: OD 0x9004:03 read (R578). -/
def execReadBlock (r : Route) (client : Nat) (s : State) : Host.Outcome State Fault Refusal :=
  .next (odRead s r client 0x900403)

end Sys2Proof.Machine
end

