-- ==== Sys2Proof/Machine/Sealed.lean ====
section
/-!
DEFINITION. The meanings of PRESENCE_N and of the sealed operations (spec/04, R118 to R123).
-/
namespace Sys2Proof.Machine

/-- PRESENCE_N_PRESS: the pin goes low. -/
def execPresenceNPress (s : State) : Host.Outcome State Fault Refusal :=
  .next <| if s.pres.low then s else { s with pres := { s.pres with low := true, fellAt := s.time, openedByPress := false } }

/-- PRESENCE_N_RELEASE: the pin goes high (R120). -/
def execPresenceNRelease (s : State) : Host.Outcome State Fault Refusal :=
  .next <| if s.pres.low then { s with pres := { s.pres with low := false, roseAt := s.time } } else s

/-- The conditions under which a press opens a window (R118, R120). -/
def presenceMay (s : State) : Bool :=
  s.pres.low && !s.pres.stuck && !s.pres.window && !s.pres.openedByPress && !s.boot.porst && s.cin.phase ≠ .commit &&
  decide (3 ≤ s.boot.stage) && (leNat (activeValue s 0x104001) == 0 || !s.boot.serviceN)

/-- PRESENCE_OPEN: the pin has been low for 2 s (R118, R122). -/
def execPresenceOpen (s : State) : Host.Outcome State Fault Refusal :=
  .next <|
    if presenceMay s then
      record { s with pres := { s.pres with window := true, openedByPress := true, openedAt := s.time } } Ev.PRESENCE_OPEN 0xFF []
    else s

/-- PRESENCE_CLOSE: 60 s have passed since the window opened (R119). -/
def execPresenceClose (s : State) : Host.Outcome State Fault Refusal := .next (closeWindow s 0)

/-- PRESENCE_STUCK: the pin has been low for more than 30 s (R120). -/
def execPresenceStuck (s : State) : Host.Outcome State Fault Refusal :=
  .next <|
    if s.pres.low && !s.pres.stuck && !s.boot.porst then
      let s1 := if s.pres.openedByPress then closeWindow s 4 else s
      fault { s1 with pres := { s1.pres with stuck := true } } .pommel Ev.PRESENCE_STUCK 0xFF []
    else s

/-- PRESENCE_REARM: after a stuck press the pin has been high for 1 s (R120). -/
def execPresenceRearm (s : State) : Host.Outcome State Fault Refusal :=
  .next <| if s.pres.stuck && !s.pres.low then { s with pres := { s.pres with stuck := false } } else s

/-- RECORDER_CLEAR: a value written to OD 0xF010:01 (R123, R580). -/
def execRecorderClear (r : Route) (client : Nat) (value : Bytes) (s : State) : Host.Outcome State Fault Refusal :=
  .next (odWrite s r client 0xF01001 value)

/-- LOCK_POLICY_CHANGE: a value written to the lock policy (which = 0) or to a route write mask (1 to 3) (R123). -/
def execLockPolicyChange (r : Route) (client : Nat) (which : Fin 4) (value : Bytes) (s : State) : Host.Outcome State Fault Refusal :=
  .next (odWrite s r client (if which = 0 then 0x202001 else 0x103000 + which) value)

/-- FACTORY_DEFAULT: a value written to OD 0xF011:01 (R123). -/
def execFactoryDefault (r : Route) (client : Nat) (value : Bytes) (s : State) : Host.Outcome State Fault Refusal :=
  .next (odWrite s r client 0xF01101 value)

/-- CRYPTO_ERASE: a value written to OD 0xF012:01 (R123, R473). -/
def execCryptoErase (r : Route) (client : Nat) (value : Bytes) (s : State) : Host.Outcome State Fault Refusal :=
  .next (odWrite s r client 0xF01201 value)

/-- FORCED_SLOT_SELECTION: a value written to OD 0xF013:01 (R123, R565). -/
def execForcedSlotSelection (r : Route) (client : Nat) (value : Bytes) (s : State) : Host.Outcome State Fault Refusal :=
  .next (odWrite s r client 0xF01301 value)

/-- PRESENCE_POLICY_CHANGE: a value written to PRESENCE_POLICY (R123). -/
def execPresencePolicyChange (r : Route) (client : Nat) (value : Bytes) (s : State) : Host.Outcome State Fault Refusal :=
  .next (odWrite s r client 0x104001 value)

end Sys2Proof.Machine
end

