-- ==== Sys2Proof/Machine/Ticks.lean ====
section
/-!
DEFINITION. The meanings of the tick boundaries (spec/02 R33, R41, R52, R56 to R59): what runs at each, in the order of R58.
-/
namespace Sys2Proof.Machine

/-! ### Phase update (R33 to R36, R41, R48, R52) -/

/-- The count steps forward to a later one of the twin's (R34, R52). -/
def alignStep (s : State) (t : Nat) : State :=
  let new := max s.lck.count ((t + 1) % 2 ^ 40)
  let s1 := { s with lck := { s.lck with count := new, aligned := true, mismatchRun := 0, realign := none } }
  if new = s.lck.count then s1
  else record (setF s1 Reg.LCK_EVENTS_ALIGN_STEP) Ev.TWIN_ALIGN_STEP 0xFF (le 5 s.lck.count ++ le 5 new)

/-- A half-cycle boundary: phase 0, and the count one higher. -/
def wrapClock (s : State) : State :=
  let c := s.lck
  let s1 := { s with
    lck := { c with
      phase := 0, count := (c.count + 1) % 2 ^ 40, prevExp := c.lastBoundary + runPeriod c * 1024
      prevDone := c.nextGood || !(c.state = .locked || c.state = .holdover), nextGood := false
      lastBoundary := s.time, boundaries := c.boundaries + 1, acc := (c.acc + 1) % 3 } }
  match c.realign with
  | some t => if s.boot.mode = .compat ∨ s.boot.porst then s1 else alignStep s1 t
  | none => s1

/-- The time and the phase move on by one tick, whose spacing removes a phase error (R33, R41). -/
def tickAdvance (s : State) : State :=
  let c := s.lck
  let s1 := { s with
    time := s.time + tickLength c
    lck := { c with phaseErr := c.phaseErr - tickCorrection c, phase := c.phase + 1 } }
  if 1023 ≤ c.phase then wrapClock s1 else s1

/-- A reservation record where the count nears the reservation in force (R36), once step 4 has opened the recorder. -/
def reserveDue (s : State) : State :=
  if 4 ≤ s.boot.stage ∧ s.lck.reservation ≤ s.lck.count + 32768 then lineReserve s else s

/-! ### Buffered writes (R57, R80 to R83, R94, R149, R209 to R213, R495, R496) -/

/-- The region entries in use (R209): entry, LD, base, size and policy. -/
def regionTable (s : State) : List Walk :=
  ((List.range 1024).filter (fun e => rdb s (Reg.TRE_RGN_CFG_VALID e))).map (fun e =>
    ⟨e, rd s (Reg.TRE_RGN_CFG_LD e), rd s (Reg.TRE_RGN_BASE_BASE e), rd s (Reg.TRE_RGN_SIZE_SIZE e),
     rd s (Reg.TRE_RGN_CFG_POLICY e)⟩)

/-- A home segment lies in the range of a walk. -/
def walkHas (s : State) (w : Walk) (hs : Nat) : Bool :=
  let k := regionKey s hs
  k.1 == w.ld && decide (w.base ≤ k.2) && decide (k.2 < w.base + w.size)

/-- The walks that a change of the region table starts (R213): each new or changed entry's range under its policy, and each range that
an entry has left under the default policy; WB and NWA need none. -/
def walksFor (s : State) (was now : List Walk) : List Walk :=
  let left := (was.filter (fun w => !now.any (fun v => v.ld == w.ld && v.base == w.base && v.size == w.size))).map
    (fun (w : Walk) => { w with policy := rd s Reg.TRE_CTRL_DEF_POLICY })
  let came := now.filter (fun w => !was.contains w)
  (left ++ came).filter (fun w => w.policy = 1 || w.policy = 3 || w.policy = 4)

/-- A conflict of the region table that a direct write has made (R210): an invalid policy code, or two entries of one LD that
overlap. -/
def regionConflict (now : List Walk) (e : Nat) : Bool :=
  match now.find? (fun w => w.entry == e) with
  | some w => decide (5 ≤ w.policy) || now.any (fun v => v.entry ≠ e && v.ld == w.ld && decide (v.base < w.base + w.size) &&
      decide (w.base < v.base + v.size))
  | none => false

/-- What a changed region table starts (R210, R213). -/
def regionsChanged (s : State) (was : List Walk) (touched : List Nat) : State :=
  let now := regionTable s
  if now = was then s
  else
    let s1 := { s with tree := { s.tree with walks := s.tree.walks ++ walksFor s was now } }
    let gone := was.filter (fun w => w.policy = 4 && !now.contains w)
    let s2 := skiveCloseWhere s1 (fun k => gone.any (fun w => walkHas s w (k.line / 32768)))
    (touched.filter (regionConflict now)).foldl (fun t e =>
      record (setF t Reg.TRE_EVENTS_REGION_CONFLICT) Ev.REGION_CONFLICT 0xFF (le 2 e)) s2

/-- The function whose enable stands at a bit address. -/
def enableFn (a : Nat) : Option Fn :=
  match (List.range 16).find? (fun p => (Reg.HPT_PORT_CTRL_ENABLE p).addr == a) with
  | some p => some (.port p)
  | none => ((List.range 64).find? (fun n => (Reg.HPT_LD_CFG_ENABLE n).addr == a)).map Fn.ld

/-- An enable bit that changes (R149, R495, R496). -/
def enableChange (s : State) (f : Fn) (on : Bool) : State :=
  let v := fnOf s f
  if on then
    match v.phase with
    | .disabled => fnSet s f {}
    | .quiescing => fnSet s f { v with want := .enable }
    | .enabled => if v.want = .disable then fnSet s f {} else s
  else fnQuiesce s f .disable (disableAbort s)

/-- A staged copy that takes effect. -/
def stagedApply (s : State) (x : Nat × Nat) : State :=
  let f : Fld := match fieldOf x.1 with
    | some (_, _, g) => ⟨x.1, g.width, g.reset⟩
    | none => ⟨x.1, 32, 0⟩
  let s1 := fldWrite s f x.2
  match enableFn x.1 with
  | some fn => enableChange s1 fn (x.2 ≠ 0)
  | none => s1

/-- A changed CINCH_CAP (R310): a lowered one is in force at once; a raised one once the twin has grown its pool to match, which it
may refuse (a free value). -/
def capApply (s : State) : State :=
  let want := rd64 s Reg.CIN_CAP_LO_CAP_LO Reg.CIN_CAP_HI_CAP_HI
  let old := s.cin.capInForce
  if want ≤ old ∨ s.boot.twinPresentN then { s with cin := { s.cin with capInForce := want } }
  else if linkCarries s = false then s
  else
    let t := freeTaken s
    if (freeNow s).getLsbD 0 then { t with cin := { t.cin with capInForce := want } }
    else
      record (setF (wr64 t Reg.CIN_CAP_LO_CAP_LO Reg.CIN_CAP_HI_CAP_HI old) Reg.CIN_EVENTS_POOL_REFUSED) Ev.POOL_GROW_REFUSED 0xFF []

/-- Buffered writes at a tick boundary: none while HOLD is 1 or from COMMIT entry (R81, R82). -/
def applyBuffered (s : State) : State :=
  if rdb s Reg.CFG_CTRL_HOLD ∨ s.cin.phase = .commit then s
  else
    let staged := s.iface.staged
    let ticks := s.dict.tickNext
    let was := regionTable s
    let s1 := staged.foldl stagedApply { s with iface := { s.iface with staged := [] } }
    let s2 := ticks.foldl (fun t x => activate t x.1 x.2) { s1 with dict := { s1.dict with tickNext := [] } }
    let touched := (staged.filter (fun x => decide (0xC4000 * 8 ≤ x.1) && decide (x.1 < 0xC8000 * 8))).map
      (fun x => (x.1 / 8 - 0xC4000) / 16)
    let s3 := if staged = [] then s2 else regionsChanged s2 was touched.dedup
    let s4 := if s3.boot.stage < 10 then s3 else capApply s3
    if ticks.any (fun x => odLoad x.1 ≠ []) ∧ s4.boot.memInfoValid then wr s4 Reg.CFG_CRC_REF_REF (configCrc s4) else s4

/-- Functions at a tick boundary (R495, R496): a disable asked for makes its function QUIESCING, and an enable staged on a function that
has reached DISABLED takes effect. -/
def functionsTick (s : State) : State :=
  let s1 := (s.fm.fns.map Prod.fst).foldl fnEnter s
  (s1.fm.fns.filter (fun e => e.2.phase = .disabled && e.2.want = .enable)).foldl (fun t e => fnSet t e.1 {}) s1

/-- Standby LDs opened at the tick after a takeover (R145, R340). -/
def standbyTick (s : State) : State :=
  if s.twin.role ≠ .survivor ∨ s.boot.ready = false then s
  else
    (s.host.lds.filter (fun e => e.2.standby && !e.2.standbyOpen)).foldl (fun t e =>
      fnSet (ldSet t e.1 { ldOf t e.1 with standbyOpen := true, memActive := true }) (.ld e.1) {}) s

/-! ### Phase 0 (R59, R284, R296 to R308, R320, R340, R346) -/

/-- The half-cycle's busy time and bytes become a sample of R where it was busy for 1 ms (R298). -/
def sampleTake (s : State) : State :=
  let c := s.cin
  let xs := if msec 1 ≤ c.curBusy then c.samples ++ [(c.curBytes, c.curBusy)] else c.samples
  { s with cin := { c with samples := xs.drop (xs.length - 64), curBytes := 0, curBusy := 0 } }

/-- Zones whose ZONE_ACK has been sent are used from this boundary on, under the new epoch (R307, R346). -/
def zonesAdopt (s : State) : State :=
  if s.cin.incoming = [] then s
  else
    record { s with
      cin := { s.cin with
        freeZones := s.cin.freeZones ++ s.cin.incoming, ownedZones := s.cin.ownedZones ++ s.cin.incoming, incoming := []
        epoch := s.cin.inEpoch } } Ev.ZONE_HANDOVER 0xFF (le 4 s.cin.inEpoch)

/-- Zones handed over to a twin that has asked (R307, R308): up to 64 free ones, the highest numbers first, keeping a quarter of the
owned ones free. -/
def zonesGrant (s : State) : State :=
  let c := s.cin
  if c.twinWants = 0 ∨ s.lck.aligned = false ∨ c.phase = .commit ∨ s.twin.twinCommit.isSome ∨ linkCarries s = false ∨ c.outgoing ≠ []
  then s
  else
    let keep := (c.ownedZones.length + 3) / 4
    let k := min (min 64 c.twinWants) (c.freeZones.length - keep)
    let zs := (c.freeZones.mergeSort (fun a b => decide (b ≤ a))).take k
    if zs = [] then { s with cin := { c with twinWants := 0 } }
    else
      emit { s with
        cin := { c with
          twinWants := 0, outgoing := zs, freeZones := c.freeZones.filter (fun z => !zs.contains z)
          ownedZones := c.ownedZones.filter (fun z => !zs.contains z) } } (.zoneGrant zs ((c.epoch + 1) % 2 ^ 32))

/-- More zones asked for where the free ones have fallen below a quarter of the owned ones (R307). -/
def zonesAsk (s : State) : State :=
  let c := s.cin
  if s.boot.ready = false ∨ s.boot.mode = .compat ∨ s.boot.twinPresentN ∨ s.twin.tookOver ∨ c.zonePending ∨ c.phase = .commit ∨
      linkCarries s = false ∨ c.ownedZones.length ≤ c.freeZones.length * 4 then s
  else twinSend { s with cin := { c with zonePending := true } } 0x40 64 0 []

/-- The token refill (R59, R570): every code's bucket gains the refill rate in units of 1/h token. -/
def bucketsRefill (s : State) : State :=
  let m := s.stm
  let full := stmBurst m * halfPerSec s.lck
  stmSet s { m with
    buckets := (m.buckets.map (fun b => (b.1, b.2 + stmRd m Reg.STM_RATE_REFILL))).filter (fun b => decide (b.2 < full)) }

/-- Dump stripes freed once what they hold has been merged and committed (R372). -/
def dumpFree (s : State) : State :=
  if s.awl.dump = [] ∨ s.boot.stage < 13 ∨ s.cin.phase = .commit ∨
      s.awl.dump.any (fun f => s.twin.pool.any (fun p => p.gran == f.gran)) then s
  else { s with
    awl := { s.awl with dump := [], dumpDone := false, journal := s.awl.journal.filter (fun e => e.kind ≠ 2) } }

/-- The loads of warm-up (R320, R322): WARN and COMMIT keep them back. -/
def warmupLoads (s : State) : State :=
  if s.cin.warmup = false ∨ s.cin.phase ≠ .normal then s
  else (s.cin.warmLeft.filter (fun hs => (segOf s hs).st = .t3)).foldl (fun t hs => startLoad t hs 4) s

/-- What runs at phase 0, in the order of R58. -/
def phaseZero (s : State) : State :=
  let s1 := cinchRecompute (sampleTake s)
  let s2 := zonesAsk (zonesGrant (zonesAdopt s1))
  let s3 := bucketsRefill s2
  let s4 := if s3.lck.count % 256 = 0 then retrainSlot s3 (s3.lck.count / 256 % 16) else s3
  let s5 := warmupLoads (dumpFree (reserveDue s4))
  if s5.twin.role = .stalled ∧ s5.twin.link ≠ .down ∧ s5.twin.link ≠ .training then sendHello s5 else s5

/-! ### Every tick (R85, R298, R301, R334, R340, R347, R562) -/

/-- The pacing bucket refilled with one tick's worth, and completions that it lets go (R301). -/
def pacingTick (s : State) (len : Nat) : State :=
  let s1 := { s with cin := { s.cin with tokens := paceRate s * len / 25600000000 } }
  let s2 := if s1.cin.admitSt = .opened then s1 else bump s1 Reg.CIN_ADMIT_TIME_TICKS 1
  skiveWriteAll (completeAll s2)

/-- Busy time counts while the Drain has a full stripe ready (R298). -/
def busyTick (s : State) (len : Nat) : State :=
  match pickSet s none with
  | some n => if (setOf s n).n ≤ s.cin.chunks.length ∧ 0 < (setOf s n).n
    then { s with cin := { s.cin with curBusy := s.cin.curBusy + len } } else s
  | none => s

/-- The heartbeat of a tick (R334); in compatibility mode the LX protocol has its own interval (R595). -/
def heartbeatTick (s : State) : State := if s.boot.mode = .compat then s else heartbeatSend s

/-- The replay of pool frames (R340, R371): frames of resident segments are merged, the others' segments loaded. -/
def replayTick (s : State) : State :=
  if s.twin.replay = [] ∨ s.cin.phase = .commit ∨ s.boot.stage < 12 then s
  else
    ((s.twin.replay.map (fun f => f.gran / 512)).dedup).foldl (fun t hs =>
      if segResident (segOf t hs) then mergeReplay t hs else startLoad t hs 4) s

/-- Nothing of the twin's half is left to drain (R347). -/
def farDrained (s : State) : Bool :=
  s.twin.replay.all (fun f => decide (f.gran < 2 ^ 34)) &&
  s.per.welt.all (fun e => decide (e.line < 2 ^ 40)) && s.per.skive.all (fun e => decide (e.line < 2 ^ 40)) &&
  s.cin.granules.all (fun g => match homeOfDram s (g.1 * 64) with | some l => decide (l < 2 ^ 40) | none => true)

/-- FAILBACK READY, once the standby LDs are DISABLED and the twin's half is drained and committed (R347): the journal copy goes
first, and the epoch is one higher. -/
def failbackTick (s : State) : State :=
  if s.twin.failback = false ∨ s.twin.failbackReq = false ∨ s.twin.readySent ∨ farDrained s = false ∨ linkCarries s = false ∨
      (standbyLds s).any (fun n => (fnOf s (.ld n)).phase ≠ .disabled) then s
  else
    let s1 := s.awl.journal.foldl (fun t e => emit t (.journal e.upd e)) s
    let e := (s.cin.epoch + 1) % 2 ^ 32
    twinSend (twinSet { s1 with cin := { s1.cin with epoch := e } } { s1.twin with readySent := true }) 0x61 1 e []

/-- The configuration CRC at phase 512 (R84, R85): every mismatch is recorded, and the second of a run is a fault, whose reaction
CRC_REACT selects; under REAPPLY a mismatch at the next snapshot escalates to S4. -/
def crcCheck (s : State) : State :=
  let now := configCrc s
  let s1 := wr s Reg.CFG_CRC_NOW_NOW now
  if rdb s Reg.CFG_CTRL_CRC_EN = false then s1
  else if now = rd s Reg.CFG_CRC_REF_REF then
    let s2 := wr (wr s1 Reg.CFG_CRC_STATUS_MATCH 1) Reg.CFG_CRC_STATUS_MISMATCH_RUN 0
    { s2 with iface := { s2.iface with rewrote := false } }
  else
    let run := min 3 (rd s Reg.CFG_CRC_STATUS_MISMATCH_RUN + 1)
    let s2 := record (wr (wr s1 Reg.CFG_CRC_STATUS_MATCH 0) Reg.CFG_CRC_STATUS_MISMATCH_RUN run) Ev.CFG_CRC_MISMATCH 0xFF
      (le 4 now)
    let faulted := setF s2 Reg.CFG_CRC_STATUS_FAULT
    if s.iface.rewrote then
      reportFault { faulted with iface := { faulted.iface with rewrote := false } } .config Ev.CFG_CRC_FAULT.code 0xFF 4 []
    else if run ≠ 2 then s2
    else match rd s Reg.CFG_CTRL_CRC_REACT with
      | 0 => recordAt faulted Ev.CFG_CRC_FAULT.code 0 0xFF []
      | 1 =>
        let s3 := loadAll (recordAt faulted Ev.CFG_CRC_FAULT.code 1 0xFF [])
        { s3 with iface := { s3.iface with rewrote := true } }
      | 2 => reportFault faulted .config Ev.CFG_CRC_FAULT.code 0xFF 4 []
      | _ => reportFault faulted .config Ev.CFG_CRC_FAULT.code 0xFF 5 []

/-- A tick boundary (R56, R58): the phase update, buffered writes, what runs at phase 0, then what runs at every tick. While PORST_N is
asserted only the line clock runs (R35); without VDD_AON nothing does. -/
def tick (s : State) : State :=
  if s.ham.vddAon = false then s
  else
    let len := tickLength s.lck
    let s1 := tickAdvance s
    if s1.boot.porst then s1
    else
      let s2 := standbyTick (functionsTick (applyBuffered s1))
      let s3 := if s2.lck.phase = 0 then phaseZero s2 else s2
      let s4 := heartbeatTick (busyTick (pacingTick s3 len) len)
      let s5 := failbackTick (replayTick (scrubTick s4))
      confirmTrack (if s5.lck.phase = 512 then crcCheck s5 else s5)

/-- TICK: a tick boundary (R56). -/
def execTick (s : State) : Host.Outcome State Fault Refusal := .next (tick s)

/-- HALF_CYCLE_BOUNDARY: the tick boundary of phase 0, at which the count advances (R33, R56). -/
def execHalfCycleBoundary (s : State) : Host.Outcome State Fault Refusal := .next (if s.lck.phase = 1023 then tick s else s)

end Sys2Proof.Machine
end

