-- ==== Sys2Proof/Machine/Dispatch.lean ====
section
/-!
DEFINITION. Dispatch: one arm for each command, a direct call of its meaning.
-/
namespace Sys2Proof.Machine

def exec (i : Instr) (s : State) : Host.Outcome State Fault Refusal :=
  match i with
  | .porstNRelease mode serviceN twinPresentN => Sys2Proof.Machine.execPorstNRelease mode serviceN twinPresentN s
  | .porstNAssert torn => Sys2Proof.Machine.execPorstNAssert torn s
  | .vddAonLoss torn => Sys2Proof.Machine.execVddAonLoss torn s
  | .commonStart => Sys2Proof.Machine.execCommonStart s
  | .railOnDelay n => Sys2Proof.Machine.execRailOnDelay n s
  | .railPgRise n ramp => Sys2Proof.Machine.execRailPgRise n ramp s
  | .railPgTimeout n => Sys2Proof.Machine.execRailPgTimeout n s
  | .railPgFault n => Sys2Proof.Machine.execRailPgFault n s
  | .railRetryAttempt n => Sys2Proof.Machine.execRailRetryAttempt n s
  | .railOffDelay n => Sys2Proof.Machine.execRailOffDelay n s
  | .railStuckOn n => Sys2Proof.Machine.execRailStuckOn n s
  | .domainSwitchTimeout d => Sys2Proof.Machine.execDomainSwitchTimeout d s
  | .psuOkLow => Sys2Proof.Machine.execPsuOkLow s
  | .holdupLow => Sys2Proof.Machine.execHoldupLow s
  | .faultNExternal => Sys2Proof.Machine.execFaultNExternal s
  | .faultNGlitch => Sys2Proof.Machine.execFaultNGlitch s
  | .sysclkLoss => Sys2Proof.Machine.execSysclkLoss s
  | .refclkLoss which => Sys2Proof.Machine.execRefclkLoss which s
  | .wdiToggle => Sys2Proof.Machine.execWdiToggle s
  | .wdiMissed => Sys2Proof.Machine.execWdiMissed s
  | .bringupStepEnd r => Sys2Proof.Machine.execBringupStepEnd r s
  | .bringupStepLate => Sys2Proof.Machine.execBringupStepLate s
  | .wrstNAssert => Sys2Proof.Machine.execWrstNAssert s
  | .swWarmReset m value => Sys2Proof.Machine.execSwWarmReset m value s
  | .warmResetHold torn => Sys2Proof.Machine.execWarmResetHold torn s
  | .warmResetDeferralEnd => Sys2Proof.Machine.execWarmResetDeferralEnd s
  | .unitResetLat => Sys2Proof.Machine.execUnitResetLat s
  | .unitResetBkl => Sys2Proof.Machine.execUnitResetBkl s
  | .unitResetTir => Sys2Proof.Machine.execUnitResetTir s
  | .unitResetStm => Sys2Proof.Machine.execUnitResetStm s
  | .unitResetFls => Sys2Proof.Machine.execUnitResetFls s
  | .unitResetKcb => Sys2Proof.Machine.execUnitResetKcb s
  | .functionQuiesced f => Sys2Proof.Machine.execFunctionQuiesced f s
  | .disableAbortTimeExpired f => Sys2Proof.Machine.execDisableAbortTimeExpired f s
  | .lineSyncPulse highNs dt => Sys2Proof.Machine.execLineSyncPulse highNs dt s
  | .lineMissed => Sys2Proof.Machine.execLineMissed s
  | .lineListenEnd => Sys2Proof.Machine.execLineListenEnd s
  | .tick => Sys2Proof.Machine.execTick s
  | .halfCycleBoundary => Sys2Proof.Machine.execHalfCycleBoundary s
  | .compatTick => Sys2Proof.Machine.execCompatTick s
  | .csrWrite m off size value => Sys2Proof.Machine.execCsrWrite m off size value s
  | .csrAliasWrite m off value => Sys2Proof.Machine.execCsrAliasWrite m off value s
  | .csrReadClear m off => Sys2Proof.Machine.execCsrReadClear m off s
  | .csrReadLatch m off => Sys2Proof.Machine.execCsrReadLatch m off s
  | .cfgHoldLong => Sys2Proof.Machine.execCfgHoldLong s
  | .mbxClaim m => Sys2Proof.Machine.execMbxClaim m s
  | .mbxRelease m => Sys2Proof.Machine.execMbxRelease m s
  | .mbxClaimExpired => Sys2Proof.Machine.execMbxClaimExpired s
  | .mbxRead m op => Sys2Proof.Machine.execMbxRead m op s
  | .mbxWrite m => Sys2Proof.Machine.execMbxWrite m s
  | .mbxAbort m => Sys2Proof.Machine.execMbxAbort m s
  | .mbxOpDone => Sys2Proof.Machine.execMbxOpDone s
  | .odStore r client => Sys2Proof.Machine.execOdStore r client s
  | .odStoreDone => Sys2Proof.Machine.execOdStoreDone s
  | .overlayAdd r client => Sys2Proof.Machine.execOverlayAdd r client s
  | .overlayRemove r client => Sys2Proof.Machine.execOverlayRemove r client s
  | .rgnEntryApply r client e ld => Sys2Proof.Machine.execRgnEntryApply r client e ld s
  | .read h key => Sys2Proof.Machine.execRead h key s
  | .write h key data => Sys2Proof.Machine.execWrite h key data s
  | .writeInit h key total => Sys2Proof.Machine.execWriteInit h key total s
  | .segment h n last data => Sys2Proof.Machine.execSegment h n last data s
  | .ack h n => Sys2Proof.Machine.execAck h n s
  | .abort h => Sys2Proof.Machine.execAbort h s
  | .tackBootupFrame chan node serial => Sys2Proof.Machine.execTackBootupFrame chan node serial s
  | .tackBootupListenEnd => Sys2Proof.Machine.execTackBootupListenEnd s
  | .tackClassicalFrame chan => Sys2Proof.Machine.execTackClassicalFrame chan s
  | .tackTransferTimeout chan client tag => Sys2Proof.Machine.execTackTransferTimeout chan client tag s
  | .presenceOpen => Sys2Proof.Machine.execPresenceOpen s
  | .presenceClose => Sys2Proof.Machine.execPresenceClose s
  | .presenceStuck => Sys2Proof.Machine.execPresenceStuck s
  | .presenceRearm => Sys2Proof.Machine.execPresenceRearm s
  | .recorderClear r client value => Sys2Proof.Machine.execRecorderClear r client value s
  | .recorderClearStepEnd => Sys2Proof.Machine.execRecorderClearStepEnd s
  | .lockPolicyChange r client which value => Sys2Proof.Machine.execLockPolicyChange r client which value s
  | .factoryDefault r client value => Sys2Proof.Machine.execFactoryDefault r client value s
  | .cryptoErase r client value => Sys2Proof.Machine.execCryptoErase r client value s
  | .forcedSlotSelection r client value => Sys2Proof.Machine.execForcedSlotSelection r client value s
  | .presencePolicyChange r client value => Sys2Proof.Machine.execPresencePolicyChange r client value s
  | .hostWrite port ldid tag hpa mask meta_ data => Sys2Proof.Machine.execHostWrite port ldid tag hpa mask meta_ data s
  | .hostRead port ldid tag hpa meta_ err => Sys2Proof.Machine.execHostRead port ldid tag hpa meta_ err s
  | .streamWrite port ldid tag hpa mask data => Sys2Proof.Machine.execStreamWrite port ldid tag hpa mask data s
  | .skiveClose line => Sys2Proof.Machine.execSkiveClose line s
  | .weltRelease line err => Sys2Proof.Machine.execWeltRelease line err s
  | .hdmDecoderCommit n idx base size skip ways gran bi lock => Sys2Proof.Machine.execHdmDecoderCommit n idx base size skip ways gran bi lock s
  | .doorbellRing n slot word bits => Sys2Proof.Machine.execDoorbellRing n slot word bits s
  | .barrierEnd id => Sys2Proof.Machine.execBarrierEnd id s
  | .barrierTimeout id => Sys2Proof.Machine.execBarrierTimeout id s
  | .commitBarrierCutoff => Sys2Proof.Machine.execCommitBarrierCutoff s
  | .gpfPhase1 port => Sys2Proof.Machine.execGpfPhase1 port s
  | .gpfPhase2 port => Sys2Proof.Machine.execGpfPhase2 port s
  | .hostLinkUp port width rate64 flit68 => Sys2Proof.Machine.execHostLinkUp port width rate64 flit68 s
  | .hostLinkDown port => Sys2Proof.Machine.execHostLinkDown port s
  | .hptPortEnableChange port on => Sys2Proof.Machine.execHptPortEnableChange port on s
  | .hptLdEnableChange n on => Sys2Proof.Machine.execHptLdEnableChange n on s
  | .birspi n key => Sys2Proof.Machine.execBirspi n key s
  | .biconflict n key => Sys2Proof.Machine.execBiconflict n key s
  | .bisnpGuardExpired n key => Sys2Proof.Machine.execBisnpGuardExpired n key s
  | .identifyMemoryDevice n => Sys2Proof.Machine.execIdentifyMemoryDevice n s
  | .getPartitionInfo n => Sys2Proof.Machine.execGetPartitionInfo n s
  | .getSupportedLogs n => Sys2Proof.Machine.execGetSupportedLogs n s
  | .getLog n uuid off len => Sys2Proof.Machine.execGetLog n uuid off len s
  | .getHealthInfo n => Sys2Proof.Machine.execGetHealthInfo n s
  | .getEventRecords n log => Sys2Proof.Machine.execGetEventRecords n log s
  | .clearEventRecords n log all handles => Sys2Proof.Machine.execClearEventRecords n log all handles s
  | .getEventInterruptPolicy n => Sys2Proof.Machine.execGetEventInterruptPolicy n s
  | .setEventInterruptPolicy n settings => Sys2Proof.Machine.execSetEventInterruptPolicy n settings s
  | .getLsa n off len => Sys2Proof.Machine.execGetLsa n off len s
  | .setLsa n off data => Sys2Proof.Machine.execSetLsa n off data s
  | .getPoisonList n start len => Sys2Proof.Machine.execGetPoisonList n start len s
  | .clearPoison n dpa data => Sys2Proof.Machine.execClearPoison n dpa data s
  | .getTimestamp n => Sys2Proof.Machine.execGetTimestamp n s
  | .setTimestamp n value => Sys2Proof.Machine.execSetTimestamp n value s
  | .getFwInfo n => Sys2Proof.Machine.execGetFwInfo n s
  | .unsupportedMailboxCommand n => Sys2Proof.Machine.execUnsupportedMailboxCommand n s
  | .getLdInfo p => Sys2Proof.Machine.execGetLdInfo p s
  | .getLdAllocations p start limit => Sys2Proof.Machine.execGetLdAllocations p start limit s
  | .setLdAllocations p => Sys2Proof.Machine.execSetLdAllocations p s
  | .odRead n key off => Sys2Proof.Machine.execOdRead n key off s
  | .odWrite n key off total data => Sys2Proof.Machine.execOdWrite n key off total data s
  | .odAbort n key => Sys2Proof.Machine.execOdAbort n key s
  | .objectCreate n offset size cls policy flags => Sys2Proof.Machine.execObjectCreate n offset size cls policy flags s
  | .objectDestroy n id => Sys2Proof.Machine.execObjectDestroy n id s
  | .objectQuery n id => Sys2Proof.Machine.execObjectQuery n id s
  | .objectSetPolicy n id policy flags => Sys2Proof.Machine.execObjectSetPolicy n id policy flags s
  | .streamOpen n object desc start window mode flags deadline far => Sys2Proof.Machine.execStreamOpen n object desc start window mode flags deadline far s
  | .streamClose n id => Sys2Proof.Machine.execStreamClose n id s
  | .layerDone n slot word => Sys2Proof.Machine.execLayerDone n slot word s
  | .streamDeadline line => Sys2Proof.Machine.execStreamDeadline line s
  | .mirror seq line mask data => Sys2Proof.Machine.execMirror seq line mask data s
  | .mirrorFull seq line data => Sys2Proof.Machine.execMirrorFull seq line data s
  | .mirrorAck upto => Sys2Proof.Machine.execMirrorAck upto s
  | .release chunk mask cut => Sys2Proof.Machine.execRelease chunk mask cut s
  | .repairReq line tag => Sys2Proof.Machine.execRepairReq line tag s
  | .repairRsp tag mask data => Sys2Proof.Machine.execRepairRsp tag mask data s
  | .remirror line => Sys2Proof.Machine.execRemirror line s
  | .journal seq e => Sys2Proof.Machine.execJournal seq e s
  | .journalAck seq => Sys2Proof.Machine.execJournalAck seq s
  | .zoneReq wanted => Sys2Proof.Machine.execZoneReq wanted s
  | .zoneGrant zones epoch => Sys2Proof.Machine.execZoneGrant zones epoch s
  | .zoneAck zones => Sys2Proof.Machine.execZoneAck zones s
  | .barrierReq tag level => Sys2Proof.Machine.execBarrierReq tag level s
  | .barrierDone tag st => Sys2Proof.Machine.execBarrierDone tag st s
  | .hello h => Sys2Proof.Machine.execHello h s
  | .heartbeat h => Sys2Proof.Machine.execHeartbeat h s
  | .handoverBegin => Sys2Proof.Machine.execHandoverBegin s
  | .handoverDone => Sys2Proof.Machine.execHandoverDone s
  | .failbackReq => Sys2Proof.Machine.execFailbackReq s
  | .failbackReady epoch => Sys2Proof.Machine.execFailbackReady epoch s
  | .failbackDone => Sys2Proof.Machine.execFailbackDone s
  | .violation cause code => Sys2Proof.Machine.execViolation cause code s
  | .stirrupUp lanes => Sys2Proof.Machine.execStirrupUp lanes s
  | .stirrupDown => Sys2Proof.Machine.execStirrupDown s
  | .stpRetrain => Sys2Proof.Machine.execStpRetrain s
  | .heartbeatLossRetrain => Sys2Proof.Machine.execHeartbeatLossRetrain s
  | .twinFailed => Sys2Proof.Machine.execTwinFailed s
  | .claimDelayExpired => Sys2Proof.Machine.execClaimDelayExpired s
  | .reservationPreemptDone slot ok => Sys2Proof.Machine.execReservationPreemptDone slot ok s
  | .claimRetry => Sys2Proof.Machine.execClaimRetry s
  | .leaseSlotWrite => Sys2Proof.Machine.execLeaseSlotWrite s
  | .handoverLeaseStale => Sys2Proof.Machine.execHandoverLeaseStale s
  | .twinWaitExpired lease => Sys2Proof.Machine.execTwinWaitExpired lease s
  | .twinLeaseRecheck lease => Sys2Proof.Machine.execTwinLeaseRecheck lease s
  | .partnerContainmentEnd p => Sys2Proof.Machine.execPartnerContainmentEnd p s
  | .rdS a line prio => Sys2Proof.Machine.execRdS a line prio s
  | .rdX a line prio => Sys2Proof.Machine.execRdX a line prio s
  | .wb a line data => Sys2Proof.Machine.execWb a line data s
  | .snpS a line => Sys2Proof.Machine.execSnpS a line s
  | .snpInv a line => Sys2Proof.Machine.execSnpInv a line s
  | .ackI a line => Sys2Proof.Machine.execAckI a line s
  | .ackS a line => Sys2Proof.Machine.execAckS a line s
  | .ackData a line data => Sys2Proof.Machine.execAckData a line data s
  | .wbPending a line => Sys2Proof.Machine.execWbPending a line s
  | .dataS a line data => Sys2Proof.Machine.execDataS a line data s
  | .dataE a line data => Sys2Proof.Machine.execDataE a line data s
  | .wbAck a line => Sys2Proof.Machine.execWbAck a line s
  | .nack a line refused => Sys2Proof.Machine.execNack a line refused s
  | .done a line => Sys2Proof.Machine.execDone a line s
  | .nackRetryTimer a line => Sys2Proof.Machine.execNackRetryTimer a line s
  | .snoopGuardExpired a line => Sys2Proof.Machine.execSnoopGuardExpired a line s
  | .agentLoad c line => Sys2Proof.Machine.execAgentLoad c line s
  | .agentStore c addr bytes => Sys2Proof.Machine.execAgentStore c addr bytes s
  | .agentEviction a line => Sys2Proof.Machine.execAgentEviction a line s
  | .nonTemporalStore c line off bytes => Sys2Proof.Machine.execNonTemporalStore c line off bytes s
  | .uncachedAccess c addr write done => Sys2Proof.Machine.execUncachedAccess c addr write done s
  | .fenceFCore c => Sys2Proof.Machine.execFenceFCore c s
  | .fenceFClu c => Sys2Proof.Machine.execFenceFClu c s
  | .fenceFSys c => Sys2Proof.Machine.execFenceFSys c s
  | .fenceSCore c => Sys2Proof.Machine.execFenceSCore c s
  | .fenceSClu c => Sys2Proof.Machine.execFenceSClu c s
  | .fenceSSys c => Sys2Proof.Machine.execFenceSSys c s
  | .treeFillDone line => Sys2Proof.Machine.execTreeFillDone line s
  | .treeWalkDone e => Sys2Proof.Machine.execTreeWalkDone e s
  | .clean => Sys2Proof.Machine.execClean s
  | .cleanInv => Sys2Proof.Machine.execCleanInv s
  | .inv => Sys2Proof.Machine.execInv s
  | .treMaintAbort reached => Sys2Proof.Machine.execTreMaintAbort reached s
  | .treMaintDone => Sys2Proof.Machine.execTreMaintDone s
  | .dramArbitrate ch subB => Sys2Proof.Machine.execDramArbitrate ch subB s
  | .dramWriteEnqueue line => Sys2Proof.Machine.execDramWriteEnqueue line s
  | .dramReadReturn ch subB res pool map => Sys2Proof.Machine.execDramReadReturn ch subB res pool map s
  | .dramRefreshDue ch subB => Sys2Proof.Machine.execDramRefreshDue ch subB s
  | .dimmTempPoll ch dimm first retry => Sys2Proof.Machine.execDimmTempPoll ch dimm first retry s
  | .dramRetrainDone ch pass => Sys2Proof.Machine.execDramRetrainDone ch pass s
  | .holdupSmbusPoll first retry => Sys2Proof.Machine.execHoldupSmbusPoll first retry s
  | .holdupSenseSample uv => Sys2Proof.Machine.execHoldupSenseSample uv s
  | .drainTakeChunk => Sys2Proof.Machine.execDrainTakeChunk s
  | .stripeWrite relocate => Sys2Proof.Machine.execStripeWrite relocate s
  | .stripeCommit n stripe => Sys2Proof.Machine.execStripeCommit n stripe s
  | .stripeWriteFailed n stripe col => Sys2Proof.Machine.execStripeWriteFailed n stripe col s
  | .zoneReclaim zone => Sys2Proof.Machine.execZoneReclaim zone s
  | .tierCheckpoint => Sys2Proof.Machine.execTierCheckpoint s
  | .commitStepEnd => Sys2Proof.Machine.execCommitStepEnd s
  | .swCommit m value => Sys2Proof.Machine.execSwCommit m value s
  | .requalPowerUp => Sys2Proof.Machine.execRequalPowerUp s
  | .segmentLoadDone hs lines => Sys2Proof.Machine.execSegmentLoadDone hs lines s
  | .segmentEvict => Sys2Proof.Machine.execSegmentEvict s
  | .segmentEvictDone hs => Sys2Proof.Machine.execSegmentEvictDone hs s
  | .frameMoveDone hs => Sys2Proof.Machine.execFrameMoveDone hs s
  | .loadLate line => Sys2Proof.Machine.execLoadLate line s
  | .leaseReq addr wanted => Sys2Proof.Machine.execLeaseReq addr wanted s
  | .leaseGrant i1 frames rkey epoch => Sys2Proof.Machine.execLeaseGrant i1 frames rkey epoch s
  | .leaseReturn addr frames => Sys2Proof.Machine.execLeaseReturn addr frames s
  | .leaseRecall i1 frames => Sys2Proof.Machine.execLeaseRecall i1 frames s
  | .leasePing fromLender who epoch => Sys2Proof.Machine.execLeasePing fromLender who epoch s
  | .leasePingTimer => Sys2Proof.Machine.execLeasePingTimer s
  | .leaseRecallDeadline asLender who => Sys2Proof.Machine.execLeaseRecallDeadline asLender who s
  | .leaseGraceExpired i1 => Sys2Proof.Machine.execLeaseGraceExpired i1 s
  | .leaseOpen addr qpn psn salt ctr => Sys2Proof.Machine.execLeaseOpen addr qpn psn salt ctr s
  | .leaseAccept i1 qpn psn salt ctr => Sys2Proof.Machine.execLeaseAccept i1 qpn psn salt ctr s
  | .leaseOpenResend i1 => Sys2Proof.Machine.execLeaseOpenResend i1 s
  | .pdAlloc who slot tag tenant => Sys2Proof.Machine.execPdAlloc who slot tag tenant s
  | .pdFree who slot tag pd => Sys2Proof.Machine.execPdFree who slot tag pd s
  | .cqCreate who slot tag owner dpa entries qslot => Sys2Proof.Machine.execCqCreate who slot tag owner dpa entries qslot s
  | .cqDestroy who slot tag cq => Sys2Proof.Machine.execCqDestroy who slot tag cq s
  | .connCreate who slot tag p => Sys2Proof.Machine.execConnCreate who slot tag p s
  | .connModifyError who slot tag id => Sys2Proof.Machine.execConnModifyError who slot tag id s
  | .connModifyTxKey who slot tag id key salt => Sys2Proof.Machine.execConnModifyTxKey who slot tag id key salt s
  | .connModifyRxKey who slot tag id phase key => Sys2Proof.Machine.execConnModifyRxKey who slot tag id phase key s
  | .connDestroy who slot tag id => Sys2Proof.Machine.execConnDestroy who slot tag id s
  | .regionRegister who slot tag owner pd base len acc => Sys2Proof.Machine.execRegionRegister who slot tag owner pd base len acc s
  | .regionRevoke who slot tag rkey => Sys2Proof.Machine.execRegionRevoke who slot tag rkey s
  | .revokeForced k => Sys2Proof.Machine.execRevokeForced k s
  | .sqTail n qslot value => Sys2Proof.Machine.execSqTail n qslot value s
  | .rqTail n qslot value => Sys2Proof.Machine.execRqTail n qslot value s
  | .cqHead n qslot value => Sys2Proof.Machine.execCqHead n qslot value s
  | .wqeNop id far => Sys2Proof.Machine.execWqeNop id far s
  | .wqeWrite id far => Sys2Proof.Machine.execWqeWrite id far s
  | .wqeRead id far => Sys2Proof.Machine.execWqeRead id far s
  | .wqeSend id far => Sys2Proof.Machine.execWqeSend id far s
  | .wqeCas id far => Sys2Proof.Machine.execWqeCas id far s
  | .wqeFaa id far => Sys2Proof.Machine.execWqeFaa id far s
  | .wqeWait id far => Sys2Proof.Machine.execWqeWait id far s
  | .cqeWrite id rq far => Sys2Proof.Machine.execCqeWrite id rq far s
  | .rdmaWriteRequest p => Sys2Proof.Machine.execRdmaWriteRequest p s
  | .rdmaReadRequest p => Sys2Proof.Machine.execRdmaReadRequest p s
  | .sendRequest p far => Sys2Proof.Machine.execSendRequest p far s
  | .compareAndSwap p => Sys2Proof.Machine.execCompareAndSwap p s
  | .fetchAndAdd p => Sys2Proof.Machine.execFetchAndAdd p s
  | .roceAckReceived id psn data => Sys2Proof.Machine.execRoceAckReceived id psn data s
  | .roceNakReceived id kind => Sys2Proof.Machine.execRoceNakReceived id kind s
  | .roceAckTimeout id => Sys2Proof.Machine.execRoceAckTimeout id s
  | .cnpReceived id => Sys2Proof.Machine.execCnpReceived id s
  | .cnpRateRecovery id => Sys2Proof.Machine.execCnpRateRecovery id s
  | .contextFetchDone id took => Sys2Proof.Machine.execContextFetchDone id took s
  | .contextEvict => Sys2Proof.Machine.execContextEvict s
  | .ethLinkChange port up => Sys2Proof.Machine.execEthLinkChange port up s
  | .cipherJobSubmit cls tag owner slot iv du aad data tagOk => Sys2Proof.Machine.execCipherJobSubmit cls tag owner slot iv du aad data tagOk s
  | .cipherJobDone core => Sys2Proof.Machine.execCipherJobDone core s
  | .coreIsolated core => Sys2Proof.Machine.execCoreIsolated core s
  | .keySlotBroken slot => Sys2Proof.Machine.execKeySlotBroken slot s
  | .keyLoad who cslot tag slot tenant persist format usage blob => Sys2Proof.Machine.execKeyLoad who cslot tag slot tenant persist format usage blob s
  | .keyFree who cslot tag slot => Sys2Proof.Machine.execKeyFree who cslot tag slot s
  | .driveInserted slot info => Sys2Proof.Machine.execDriveInserted slot info s
  | .driveRemoved slot => Sys2Proof.Machine.execDriveRemoved slot s
  | .driveCommandComplete slot id res => Sys2Proof.Machine.execDriveCommandComplete slot id res s
  | .driveCommandTimeout slot id => Sys2Proof.Machine.execDriveCommandTimeout slot id s
  | .readShortcutExpired slot id => Sys2Proof.Machine.execReadShortcutExpired slot id s
  | .driveAsyncEvent slot spareLow readOnly backupFailed => Sys2Proof.Machine.execDriveAsyncEvent slot spareLow readOnly backupFailed s
  | .driveLinkDownExpired slot => Sys2Proof.Machine.execDriveLinkDownExpired slot s
  | .forceFail slot => Sys2Proof.Machine.execForceFail slot s
  | .rebuildStart n => Sys2Proof.Machine.execRebuildStart n s
  | .rebuildStripe n stripe unit readable bad last => Sys2Proof.Machine.execRebuildStripe n stripe unit readable bad last s
  | .hostGuardExpired q => Sys2Proof.Machine.execHostGuardExpired q s
  | .engineWatchdogExpired e => Sys2Proof.Machine.execEngineWatchdogExpired e s
  | .keeperHeartbeatMissed k => Sys2Proof.Machine.execKeeperHeartbeatMissed k s
  | .keeperReloadDone k => Sys2Proof.Machine.execKeeperReloadDone k s
  | .pommelWatchdog => Sys2Proof.Machine.execPommelWatchdog s
  | .faultReported u code inst sev repeatOk => Sys2Proof.Machine.execFaultReported u code inst sev repeatOk s
  | .groupRetryExpired g => Sys2Proof.Machine.execGroupRetryExpired g s
  | .recoveryWindowClose sc => Sys2Proof.Machine.execRecoveryWindowClose sc s
  | .flsBankClaim m b => Sys2Proof.Machine.execFlsBankClaim m b s
  | .flsBankRelease m b => Sys2Proof.Machine.execFlsBankRelease m b s
  | .flsClaimExpired b => Sys2Proof.Machine.execFlsClaimExpired b s
  | .flashRead m b corrected => Sys2Proof.Machine.execFlashRead m b corrected s
  | .flashProgram m b => Sys2Proof.Machine.execFlashProgram m b s
  | .flashErase m b => Sys2Proof.Machine.execFlashErase m b s
  | .flashSuspend m b => Sys2Proof.Machine.execFlashSuspend m b s
  | .flashResume m b => Sys2Proof.Machine.execFlashResume m b s
  | .readWear m b => Sys2Proof.Machine.execReadWear m b s
  | .flashAbort m b => Sys2Proof.Machine.execFlashAbort m b s
  | .flashSuspendEffect b => Sys2Proof.Machine.execFlashSuspendEffect b s
  | .flashRunWindowEnd b => Sys2Proof.Machine.execFlashRunWindowEnd b s
  | .flashProgramDone b ok => Sys2Proof.Machine.execFlashProgramDone b ok s
  | .flashEraseDone b ok => Sys2Proof.Machine.execFlashEraseDone b ok s
  | .fwData r client data => Sys2Proof.Machine.execFwData r client data s
  | .fwActivate r client => Sys2Proof.Machine.execFwActivate r client s
  | .fwActivateForce r client => Sys2Proof.Machine.execFwActivateForce r client s
  | .fwActivateCancel r client => Sys2Proof.Machine.execFwActivateCancel r client s
  | .fwConfirmed => Sys2Proof.Machine.execFwConfirmed s
  | .recordSubmit code sev inst items => Sys2Proof.Machine.execRecordSubmit code sev inst items s
  | .recordProgrammed => Sys2Proof.Machine.execRecordProgrammed s
  | .readBlock r client => Sys2Proof.Machine.execReadBlock r client s
  | .lxRingTailWrite e r value => Sys2Proof.Machine.execLxRingTailWrite e r value s
  | .lxBankWrite e value => Sys2Proof.Machine.execLxBankWrite e value s
  | .lxRingReset e => Sys2Proof.Machine.execLxRingReset e s
  | .functionLevelReset e => Sys2Proof.Machine.execFunctionLevelReset e s
  | .nop e r flags => Sys2Proof.Machine.execNop e r flags s
  | .flush e r flags => Sys2Proof.Machine.execFlush e r flags s
  | .flushMedia e r flags => Sys2Proof.Machine.execFlushMedia e r flags s
  | .zero e r flags dpa len => Sys2Proof.Machine.execZero e r flags dpa len s
  | .identify e r flags hostAddr => Sys2Proof.Machine.execIdentify e r flags hostAddr s
  | .fwDownload e r flags => Sys2Proof.Machine.execFwDownload e r flags s
  | .fwCommit e r flags => Sys2Proof.Machine.execFwCommit e r flags s
  | .lxUnknownOpcode e r op flags => Sys2Proof.Machine.execLxUnknownOpcode e r op flags s
  | .lxCommandStatus e r => Sys2Proof.Machine.execLxCommandStatus e r s
  | .psuOkHigh => Sys2Proof.Machine.execPsuOkHigh s
  | .holdupLowNHigh => Sys2Proof.Machine.execHoldupLowNHigh s
  | .faultNReleased => Sys2Proof.Machine.execFaultNReleased s
  | .psuOkGlitch => Sys2Proof.Machine.execPsuOkGlitch s
  | .holdupLowNGlitch => Sys2Proof.Machine.execHoldupLowNGlitch s
  | .sysclkReturn => Sys2Proof.Machine.execSysclkReturn s
  | .vddAonReturn => Sys2Proof.Machine.execVddAonReturn s
  | .wrstNRelease => Sys2Proof.Machine.execWrstNRelease s
  | .presenceNPress => Sys2Proof.Machine.execPresenceNPress s
  | .presenceNRelease => Sys2Proof.Machine.execPresenceNRelease s
  | .railPgFall n => Sys2Proof.Machine.execRailPgFall n s
  | .driveLinkChange slot up width gen5 => Sys2Proof.Machine.execDriveLinkChange slot up width gen5 s
  | .driveResetTimeout slot => Sys2Proof.Machine.execDriveResetTimeout slot s
  | .doorbellAddrWrite n slot off value => Sys2Proof.Machine.execDoorbellAddrWrite n slot off value s
  | .lxRegisterWrite e off value => Sys2Proof.Machine.execLxRegisterWrite e off value s

end Sys2Proof.Machine
end

