-- ==== Sys2Proof/Safety.lean ====
section
/-!
DEFINITION. What counts as a safe run, in the terms the statements use: memories in canonical form, and what a command leaves as it was.
-/
namespace Sys2Proof.Machine

/-! ### Canonical memories -/

/-- The memories of the machine are in canonical form: the DRAM contents, whose unlisted bytes read 0, and the cells of every flash bank,
whose unlisted bytes read 0xFF. -/
def MemInv (s : State) : Prop :=
  Memory.wf 0 s.dram.mem = true ∧ ∀ e ∈ s.fls.banks, Memory.wf 0xFF e.2.cells = true

/-! ### The line clock and READY -/

/-- The line clock is in range (R33, R34, R46): the phase is one of 1,024, the count has 40 bits, and only an ACQUIRE listens. -/
def ClockInv (s : State) : Prop :=
  s.lck.phase < 1024 ∧ s.lck.count < 2 ^ 40 ∧ (s.lck.listening = true → s.lck.state = .acquire)

/-- The line timestamp (R34): the half-cycle count followed by the 10-bit phase. -/
def timestamp (s : State) : Nat := s.lck.count * 1024 + s.lck.phase

/-- READY is asserted only in a controller that has ended step 13 (R524), holds no PORST_N, is not in COMMIT (R315) and drains for no
warm reset (R533). -/
def ReadyInv (s : State) : Prop :=
  s.boot.ready = true → s.boot.stage = 14 ∧ s.boot.porst = false ∧ s.cin.phase ≠ .commit ∧ s.boot.warm ≠ .draining

/-! ### Frames -/

/-- The parts of the state. -/
inductive Part where
  | csr | iface | dict | tack | pres | partners | lck | stm | fm | ham | boot | host | per | cin | tree | ring | dram | keep
  | tier | twin | awl | fls | fw | lat | bkl | lx | time | freeCtr | out | pending
deriving DecidableEq, Repr

/-- A part is the same in two states. -/
def Part.same (p : Part) (s t : State) : Prop :=
  match p with
  | .csr => t.csr = s.csr
  | .iface => t.iface = s.iface
  | .dict => t.dict = s.dict
  | .tack => t.tack = s.tack
  | .pres => t.pres = s.pres
  | .partners => t.partners = s.partners
  | .lck => t.lck = s.lck
  | .stm => t.stm = s.stm
  | .fm => t.fm = s.fm
  | .ham => t.ham = s.ham
  | .boot => t.boot = s.boot
  | .host => t.host = s.host
  | .per => t.per = s.per
  | .cin => t.cin = s.cin
  | .tree => t.tree = s.tree
  | .ring => t.ring = s.ring
  | .dram => t.dram = s.dram
  | .keep => t.keep = s.keep
  | .tier => t.tier = s.tier
  | .twin => t.twin = s.twin
  | .awl => t.awl = s.awl
  | .fls => t.fls = s.fls
  | .fw => t.fw = s.fw
  | .lat => t.lat = s.lat
  | .bkl => t.bkl = s.bkl
  | .lx => t.lx = s.lx
  | .time => t.time = s.time
  | .freeCtr => t.freeCtr = s.freeCtr
  | .out => t.out = s.out
  | .pending => t.pending = s.pending

/-- Every part is the same but those of a list. -/
def KeptBut (ps : List Part) (s t : State) : Prop := ∀ p : Part, p ∉ ps → p.same s t

/-- Every register field holds what it held, but those of a list. -/
def FieldsKeptBut (fs : List Fld) (s t : State) : Prop := ∀ f : Fld, (∀ g ∈ fs, g.addr ≠ f.addr) → rd t f = rd s f

/-- What the machine has sent stays sent: what is sent later follows it. -/
def OutGrows (s t : State) : Prop := ∃ os : List Output, t.out = s.out ++ os

/-! ### Conditions of the statements -/

/-- A Tack frame reaches its command (R109, R116): the channel hears, the client is a node that is not contained, and the header is sound. -/
def frameHeard (s : State) (h : TackHdr) : Prop :=
  tackHears s h.chan = true ∧ h.client ≠ 0 ∧ h.client ≤ 63 ∧ h.client ≠ s.tack.node ∧ contained s (.tackNode h.client) = false ∧
  h.len ≤ 56 ∧ h.fits = true ∧ h.known = true

/-- A Tack request begins a transaction (R115): no transaction has its tag, and fewer than eight run on the channel. -/
def requestFresh (s : State) (h : TackHdr) : Prop :=
  frameHeard s h ∧ txnOf s h = none ∧ (s.tack.txns.filter (fun t => t.chan == h.chan.val)).length < 8

/-- A vendor command of an LD is served (R140, R149, R151). -/
def vendorServed (s : State) (n : Nat) : Prop :=
  s.boot.mode ≠ .compat ∧ s.boot.ready = true ∧ contained s (.ld n) = false ∧ fnOpen s (.ld n) = true

/-- An object command of an LD is served: the object exists with this range, and the LD may act on it (R394). -/
def objectServed (s : State) (n id : Nat) (r : Nat × Nat) : Prop :=
  vendorServed s n ∧ objRange s id = some r ∧ mayAct s n id = true

/-- A Latigo command in a slot is served (R424): the issuer's own slot, not in compatibility mode, READY, the engine ENABLED. -/
def latServed (s : State) (who : Issuer) (slot : Nat) : Prop :=
  (match who with | .cxl n => n.val = slot | .mgmt => 64 ≤ slot) ∧ s.boot.mode ≠ .compat ∧ s.boot.ready = true ∧ fnOpen s .lat = true

/-- A request packet of a peer reaches the serving of its kind in order (R439, R448, R449, R454): a resident connection in RTS with
standard flow control and no seal, the packet unmarked, well formed and the one expected. -/
def requestInOrder (s : State) (id : Nat) (c : Conn) (p : RxPkt) : Prop :=
  s.boot.ready = true ∧ fnOpen s .lat = true ∧ s.lat.conns.find? (fun c => c.2.qpn = p.qpn ∧ c.2.peer = p.src) = some (id, c) ∧
  connFind s id = some c ∧ c.st = .rts ∧ c.res = .resident ∧ c.standard = true ∧ c.sealed = false ∧ p.ce = false ∧ p.malformed = false ∧
  p.data.length ≤ c.mtu ∧ p.psn = c.rxPsn ∧ c.rxPsn < 2 ^ 24

/-- A flash command of a master is served (R62, R480, R540): it owns the bank, whose registers it may use, and the controller is ENABLED. -/
def flsServed (s : State) (m : Fin 11) (b : Fin 4) : Prop :=
  flsShut s m (0x341004 + 0x400 * b.val) = none ∧ rd s (Reg.FLS_B_CLAIM_OWNER b) = m.val ∧ fnOpen s .fls = true

/-- A ring of an LX endpoint fetches its next entry (R589, R592): the endpoint is live, the ring enabled, an entry published, and fewer
than 1,024 commands in flight. -/
def lxReady (s : State) (e : Fin 2) (r : Fin 8) : Prop :=
  lxLive s e = true ∧ rdb s (Reg.RING_CFG_ENABLE e r) = true ∧ (lxRing s e r).next ≠ (lxRing s e r).tail ∧ lxInFlight s e < 1024

end Sys2Proof.Machine
end

