-- ==== Sys2Proof/WellFormed.lean ====
section
/-!
DEFINITION. Well-formed commands: the operands stay within the widths that the spec gives them. `exec` answers on every command,
well-formed or not; what a test or an outside sender gives the block is expected to be well-formed.
-/
namespace Sys2Proof

/-- A number fits a width in bits. -/
def ltp (v w : Nat) : Bool := decide (v < 2 ^ w)

/-- A line of data has 64 bytes (R9). -/
def line (d : Bytes) : Bool := d.length == 64

/-- A home line number: 48 bits of home address less the 6 of the line (R323). -/
def home (n : Nat) : Bool := ltp n 42

/-- A Tack header: 7-bit nodes and an 8-bit TAG (R112). -/
def tackOk (h : TackHdr) : Bool := ltp h.client 7 && ltp h.tag 8

/-- The value of an SMBus read fits the width read (R297, R498). -/
def smbOk (w : Nat) (a : SmbAnswer) : Bool := match a with | .value v => ltp v w | _ => true

/-- A command's operands are within their widths. -/
def Instr.wellFormed (i : Instr) : Bool :=
  match i with
  | .porstNRelease _ _ _ => true
  | .porstNAssert _ => true
  | .vddAonLoss _ => true
  | .commonStart => true
  | .railOnDelay _ => true
  | .railPgRise _ ramp => ltp ramp 32
  | .railPgTimeout _ => true
  | .railPgFault _ => true
  | .railRetryAttempt _ => true
  | .railOffDelay _ => true
  | .railStuckOn _ => true
  | .domainSwitchTimeout _ => true
  | .psuOkLow => true
  | .holdupLow => true
  | .faultNExternal => true
  | .faultNGlitch => true
  | .sysclkLoss => true
  | .refclkLoss _ => true
  | .wdiToggle => true
  | .wdiMissed => true
  | .bringupStepEnd _ => true
  | .bringupStepLate => true
  | .wrstNAssert => true
  | .swWarmReset _ _ => true
  | .warmResetHold _ => true
  | .warmResetDeferralEnd => true
  | .unitResetLat => true
  | .unitResetBkl => true
  | .unitResetTir => true
  | .unitResetStm => true
  | .unitResetFls => true
  | .unitResetKcb => true
  | .functionQuiesced _ => true
  | .disableAbortTimeExpired _ => true
  | .lineSyncPulse h dt => ltp h 48 && ltp dt 64
  | .lineMissed => true
  | .lineListenEnd => true
  | .tick => true
  | .halfCycleBoundary => true
  | .compatTick => true
  | .csrWrite _ off size _ => ltp off 26 && decide (size ∈ [1, 2, 4, 8])
  | .csrAliasWrite _ off _ => decide (0x1000000 ≤ off) && decide (off < 0x1800000)
  | .csrReadClear _ off => ltp off 26
  | .csrReadLatch _ off => ltp off 26
  | .cfgHoldLong => true
  | .mbxClaim _ => true
  | .mbxRelease _ => true
  | .mbxClaimExpired => true
  | .mbxRead _ _ => true
  | .mbxWrite _ => true
  | .mbxAbort _ => true
  | .mbxOpDone => true
  | .odStore _ c => ltp c 8
  | .odStoreDone => true
  | .overlayAdd _ _ => true
  | .overlayRemove _ _ => true
  | .rgnEntryApply _ _ _ _ => true
  | .read h k => tackOk h && ltp k 24
  | .write h k d => tackOk h && ltp k 24 && decide (d.length ≤ 56)
  | .writeInit h k t => tackOk h && ltp k 24 && ltp t 32
  | .segment h n _ d => tackOk h && ltp n 16 && decide (d.length ≤ 56)
  | .ack h n => tackOk h && ltp n 16
  | .abort _ => true
  | .tackBootupFrame _ n ser => ltp n 7 && ltp ser 64
  | .tackBootupListenEnd => true
  | .tackClassicalFrame _ => true
  | .tackTransferTimeout _ c t => ltp c 7 && ltp t 8
  | .presenceOpen => true
  | .presenceClose => true
  | .presenceStuck => true
  | .presenceRearm => true
  | .recorderClear _ _ _ => true
  | .recorderClearStepEnd => true
  | .lockPolicyChange _ _ _ _ => true
  | .factoryDefault _ _ _ => true
  | .cryptoErase _ _ _ => true
  | .forcedSlotSelection _ _ _ => true
  | .presencePolicyChange _ _ _ => true
  | .hostWrite _ _ tag hpa mask m d => ltp tag 16 && ltp hpa 52 && ltp mask 64 && ltp m 2 && line d
  | .hostRead _ _ tag hpa m _ => ltp tag 16 && ltp hpa 52 && ltp m 2
  | .streamWrite _ _ tag hpa mask d => ltp tag 16 && ltp hpa 52 && ltp mask 64 && line d
  | .skiveClose n => home n
  | .weltRelease n _ => home n
  | .hdmDecoderCommit _ _ b sz sk _ _ _ _ => ltp b 52 && ltp sz 52 && ltp sk 52
  | .doorbellRing _ _ w b => ltp w 64 && decide (b ≤ 64)
  | .barrierEnd _ => true
  | .barrierTimeout _ => true
  | .commitBarrierCutoff => true
  | .gpfPhase1 _ => true
  | .gpfPhase2 _ => true
  | .hostLinkUp _ w _ _ => decide (w ≤ 5)
  | .hostLinkDown _ => true
  | .hptPortEnableChange _ _ => true
  | .hptLdEnableChange _ _ => true
  | .birspi _ k => home k
  | .biconflict _ k => home k
  | .bisnpGuardExpired _ k => home k
  | .identifyMemoryDevice _ => true
  | .getPartitionInfo _ => true
  | .getSupportedLogs _ => true
  | .getLog _ u off len => u.length == 16 && ltp off 32 && ltp len 32
  | .getHealthInfo _ => true
  | .getEventRecords _ l => ltp l 2
  | .clearEventRecords _ l _ _ => ltp l 2
  | .getEventInterruptPolicy _ => true
  | .setEventInterruptPolicy _ x => x.length == 4
  | .getLsa _ off len => ltp off 32 && ltp len 32
  | .setLsa _ off _ => ltp off 32
  | .getPoisonList _ a b => ltp a 64 && ltp b 64
  | .clearPoison _ a d => ltp a 64 && line d
  | .getTimestamp _ => true
  | .setTimestamp _ v => ltp v 64
  | .getFwInfo _ => true
  | .unsupportedMailboxCommand _ => true
  | .getLdInfo _ => true
  | .getLdAllocations _ a b => ltp a 8 && ltp b 8
  | .setLdAllocations _ => true
  | .odRead _ k off => ltp k 24 && ltp off 32
  | .odWrite _ k off t d => ltp k 24 && ltp off 32 && ltp t 32 && decide (d.length ≤ 4080)
  | .odAbort _ k => ltp k 24
  | .objectCreate _ o sz c p f => ltp o 64 && ltp sz 64 && ltp c 8 && ltp p 8 && ltp f 8
  | .objectDestroy _ i => ltp i 32
  | .objectQuery _ i => ltp i 32
  | .objectSetPolicy _ i p f => ltp i 32 && ltp p 8 && ltp f 8
  | .streamOpen _ o d st w m f dl _ => ltp o 32 && ltp d 64 && ltp st 16 && ltp w 8 && ltp m 8 && ltp f 8 && ltp dl 8
  | .streamClose _ i => ltp i 16
  | .layerDone _ _ w => ltp w 64
  | .streamDeadline _ => true
  | .mirror q l m d => ltp q 64 && home l && ltp m 64 && line d
  | .mirrorFull q l d => ltp q 64 && home l && line d
  | .mirrorAck q => ltp q 64
  | .release c m k => ltp c 32 && ltp m 16 && ltp k 64
  | .repairReq l t => ltp l 48 && ltp t 32
  | .repairRsp t m d => ltp t 32 && ltp m 64 && line d
  | .remirror l => ltp l 48
  | .journal _ _ => true
  | .journalAck q => ltp q 64
  | .zoneReq n => ltp n 22
  | .zoneGrant zs e => decide (zs.length ≤ 64) && ltp e 32
  | .zoneAck zs => decide (zs.length ≤ 64)
  | .barrierReq t l => ltp t 32 && ltp l 2
  | .barrierDone t st => ltp t 32 && ltp st 8
  | .hello _ => true
  | .heartbeat _ => true
  | .handoverBegin => true
  | .handoverDone => true
  | .failbackReq => true
  | .failbackReady e => ltp e 32
  | .failbackDone => true
  | .violation c k => ltp c 8 && ltp k 8
  | .stirrupUp n => decide (n ∈ [4, 8, 16])
  | .stirrupDown => true
  | .stpRetrain => true
  | .heartbeatLossRetrain => true
  | .twinFailed => true
  | .claimDelayExpired => true
  | .reservationPreemptDone _ _ => true
  | .claimRetry => true
  | .leaseSlotWrite => true
  | .handoverLeaseStale => true
  | .twinWaitExpired _ => true
  | .twinLeaseRecheck _ => true
  | .partnerContainmentEnd _ => true
  | .rdS _ _ _ => true
  | .rdX _ _ _ => true
  | .wb _ l d => ltp l 37 && line d
  | .snpS _ _ => true
  | .snpInv _ _ => true
  | .ackI _ _ => true
  | .ackS _ _ => true
  | .ackData _ l d => ltp l 37 && line d
  | .wbPending _ _ => true
  | .dataS _ l d => ltp l 37 && line d
  | .dataE _ l d => ltp l 37 && line d
  | .wbAck _ _ => true
  | .nack _ _ _ => true
  | .done _ _ => true
  | .nackRetryTimer _ _ => true
  | .snoopGuardExpired _ _ => true
  | .agentLoad _ _ => true
  | .agentStore _ a b => ltp a 43 && decide (0 < b.length ∧ b.length ≤ 8)
  | .agentEviction _ _ => true
  | .nonTemporalStore _ l off b => home l && decide (off + b.length ≤ 64)
  | .uncachedAccess _ a _ _ => ltp a 48
  | .fenceFCore _ => true
  | .fenceFClu _ => true
  | .fenceFSys _ => true
  | .fenceSCore _ => true
  | .fenceSClu _ => true
  | .fenceSSys _ => true
  | .treeFillDone _ => true
  | .treeWalkDone _ => true
  | .clean => true
  | .cleanInv => true
  | .inv => true
  | .treMaintAbort n => ltp n 38
  | .treMaintDone => true
  | .dramArbitrate _ _ => true
  | .dramWriteEnqueue _ => true
  | .dramReadReturn _ _ _ _ _ => true
  | .dramRefreshDue _ _ => true
  | .dimmTempPoll _ _ a b => smbOk 8 a && smbOk 8 b
  | .dramRetrainDone _ _ => true
  | .holdupSmbusPoll a b => smbOk 16 a && smbOk 16 b
  | .holdupSenseSample v => decide (v ≤ 1000000)
  | .drainTakeChunk => true
  | .stripeWrite _ => true
  | .stripeCommit _ _ => true
  | .stripeWriteFailed _ _ _ => true
  | .zoneReclaim _ => true
  | .tierCheckpoint => true
  | .commitStepEnd => true
  | .swCommit _ _ => true
  | .requalPowerUp => true
  | .segmentLoadDone _ _ => true
  | .segmentEvict => true
  | .segmentEvictDone _ => true
  | .frameMoveDone _ => true
  | .loadLate _ => true
  | .leaseReq a w => ltp a 32 && ltp w 16
  | .leaseGrant _ _ k e => ltp k 32 && ltp e 32
  | .leaseReturn _ _ => true
  | .leaseRecall _ _ => true
  | .leasePing _ _ _ => true
  | .leasePingTimer => true
  | .leaseRecallDeadline _ _ => true
  | .leaseGraceExpired _ => true
  | .leaseOpen a q p sa c => ltp a 32 && ltp q 24 && ltp p 24 && ltp sa 32 && ltp c 64
  | .leaseAccept _ q p sa c => ltp q 24 && ltp p 24 && ltp sa 32 && ltp c 64
  | .leaseOpenResend _ => true
  | .pdAlloc _ _ t n => ltp t 16 && ltp n 8
  | .pdFree _ _ t p => ltp t 16 && ltp p 16
  | .cqCreate _ _ t o d n q => ltp t 16 && ltp o 6 && ltp d 64 && ltp n 17 && ltp q 16
  | .cqDestroy _ _ t c => ltp t 16 && ltp c 17
  | .connCreate _ _ t _ => ltp t 16
  | .connModifyError _ _ t i => ltp t 16 && ltp i 16
  | .connModifyTxKey _ _ t i k sa => ltp t 16 && ltp i 16 && ltp k 13 && ltp sa 32
  | .connModifyRxKey _ _ t i p k => ltp t 16 && ltp i 16 && ltp p 1 && ltp k 13
  | .connDestroy _ _ t i => ltp t 16 && ltp i 16
  | .regionRegister _ _ t o p b l a => ltp t 16 && ltp o 6 && ltp p 16 && ltp b 64 && ltp l 64 && ltp a 8
  | .regionRevoke _ _ t k => ltp t 16 && ltp k 32
  | .revokeForced _ => true
  | .sqTail _ _ _ => true
  | .rqTail _ _ _ => true
  | .cqHead _ _ _ => true
  | .wqeNop _ f => f.length == 64
  | .wqeWrite _ f => f.length == 64
  | .wqeRead _ f => f.length == 64
  | .wqeSend _ f => f.length == 64
  | .wqeCas _ f => f.length == 64
  | .wqeFaa _ f => f.length == 64
  | .wqeWait _ f => f.length == 64
  | .cqeWrite _ _ _ => true
  | .rdmaWriteRequest _ => true
  | .rdmaReadRequest _ => true
  | .sendRequest _ _ => true
  | .compareAndSwap _ => true
  | .fetchAndAdd _ => true
  | .roceAckReceived _ _ _ => true
  | .roceNakReceived _ _ => true
  | .roceAckTimeout _ => true
  | .cnpReceived _ => true
  | .cnpRateRecovery _ => true
  | .contextFetchDone _ _ => true
  | .contextEvict => true
  | .ethLinkChange _ _ => true
  | .cipherJobSubmit _ _ _ sl _ _ _ _ _ => ltp sl 13
  | .cipherJobDone _ => true
  | .coreIsolated _ => true
  | .keySlotBroken _ => true
  | .keyLoad _ _ t sl tn _ _ _ _ => ltp t 16 && ltp sl 13 && ltp tn 8
  | .keyFree _ _ t sl => ltp t 16 && ltp sl 13
  | .driveInserted _ _ => true
  | .driveRemoved _ => true
  | .driveCommandComplete _ _ _ => true
  | .driveCommandTimeout _ _ => true
  | .readShortcutExpired _ _ => true
  | .driveAsyncEvent _ _ _ _ => true
  | .driveLinkDownExpired _ => true
  | .forceFail _ => true
  | .rebuildStart _ => true
  | .rebuildStripe _ _ _ _ _ _ => true
  | .hostGuardExpired _ => true
  | .engineWatchdogExpired _ => true
  | .keeperHeartbeatMissed _ => true
  | .keeperReloadDone _ => true
  | .pommelWatchdog => true
  | .faultReported _ _ _ _ _ => true
  | .groupRetryExpired _ => true
  | .recoveryWindowClose _ => true
  | .flsBankClaim _ _ => true
  | .flsBankRelease _ _ => true
  | .flsClaimExpired _ => true
  | .flashRead _ _ _ => true
  | .flashProgram _ _ => true
  | .flashErase _ _ => true
  | .flashSuspend _ _ => true
  | .flashResume _ _ => true
  | .readWear _ _ => true
  | .flashAbort _ _ => true
  | .flashSuspendEffect _ => true
  | .flashRunWindowEnd _ => true
  | .flashProgramDone _ _ => true
  | .flashEraseDone _ _ => true
  | .fwData _ _ _ => true
  | .fwActivate _ _ => true
  | .fwActivateForce _ _ => true
  | .fwActivateCancel _ _ => true
  | .fwConfirmed => true
  | .recordSubmit _ _ _ it => decide (it.length ≤ 4079)
  | .recordProgrammed => true
  | .readBlock _ _ => true
  | .lxRingTailWrite _ _ _ => true
  | .lxBankWrite _ _ => true
  | .lxRingReset _ => true
  | .functionLevelReset _ => true
  | .nop _ _ f => ltp f 16
  | .flush _ _ f => ltp f 16
  | .flushMedia _ _ f => ltp f 16
  | .zero _ _ f d l => ltp f 16 && ltp d 64 && ltp l 32
  | .identify _ _ f a => ltp f 16 && ltp a 64
  | .fwDownload _ _ f => ltp f 16
  | .fwCommit _ _ f => ltp f 16
  | .lxUnknownOpcode _ _ _ f => ltp f 16
  | .lxCommandStatus _ _ => true
  | .psuOkHigh => true
  | .holdupLowNHigh => true
  | .faultNReleased => true
  | .psuOkGlitch => true
  | .holdupLowNGlitch => true
  | .sysclkReturn => true
  | .vddAonReturn => true
  | .wrstNRelease => true
  | .presenceNPress => true
  | .presenceNRelease => true
  | .railPgFall _ => true
  | .driveLinkChange _ _ w _ => decide (w ≤ 2)
  | .driveResetTimeout _ => true
  | .doorbellAddrWrite _ _ off v => ltp off 6 && ltp v 64
  | .lxRegisterWrite _ off _ => ltp off 12

end Sys2Proof
end

