-- ==== Sys2Proof/Certificates/Slice0/Obligations.lean ====
section
/-!
DEFINITION. The statements for the provers.
-/
open Sys2Proof Sys2Proof.Machine

/-- O1: A step runs the command at the front of the queue on the state with the rest of the queue; with an empty queue the block idles.
Cites: R1, R33. -/
def Obligations.StepRunsFrontCommand : Prop :=
  (∀ (s : State) (c : Instr) (q : List Instr), step { s with pending := c :: q } = exec c { s with pending := q }) ∧
  (∀ (s : State) (c : Instr), step (s.withCommand c) = exec c s) ∧
  (∀ s : State, s.pending = [] → step s = .next s)

/-- O2: No command stops the block: every command answers a next state in every state.
Cites: R1, R60, R62. -/
def Obligations.NoCommandStops : Prop :=
  ∀ (c : Instr) (s : State), ∃ t, exec c s = .next t

/-- O3: Rail slots: RAIL_ON_DELAY, RAIL_PG_RISE, RAIL_PG_TIMEOUT, RAIL_RETRY_ATTEMPT, RAIL_OFF_DELAY, RAIL_PG_FALL and COMMON_START
complete.
Cites: R504, R505, R511, R513, R514, R518. -/
def Obligations.RailSlots : Prop :=
  (∀ (n : Fin 32) (s : State), (railOf s n).state = .waitOn →
    exec (.railOnDelay n) s = .next (railSet s n { railOf s n with state := .ramp, en := true })) ∧
  (∀ (n : Fin 32) (ramp : Nat) (s : State), (railOf s n).state = .ramp → (railOf s n).en = true → (railOf s n).retrying = false →
    exec (.railPgRise n ramp) s = .next (powerStep (wr (railSet (railSet s n { railOf s n with pg := true }) n
      { railOf s n with pg := true, state := .on, retrying := false }) (Reg.HAM_RAIL_STATUS_RAMP n) (satTo 255 ramp)))) ∧
  (∀ (n : Fin 32) (s : State), (railOf s n).state = .ramp → (railOf s n).pg = false → s.cin.phase ≠ .commit →
    (railOf s n).retrying = false → exec (.railPgTimeout n) s = .next (slotFault s n)) ∧
  (∀ (n : Fin 32) (s : State), (railOf s n).state = .ramp → (railOf s n).pg = false → s.cin.phase ≠ .commit →
    (railOf s n).retrying = true → (railOf s n).attempts < 3 →
    exec (.railPgTimeout n) s = .next (railSet s n { railOf s n with state := .retryWait, en := false })) ∧
  (∀ (n : Fin 32) (s : State), (railOf s n).state = .retryWait → (railOf s n).retrying = true →
    exec (.railRetryAttempt n) s =
      .next (railSet s n { railOf s n with state := .ramp, en := true, attempts := min 3 ((railOf s n).attempts + 1) })) ∧
  (∀ (n : Fin 32) (s : State), (railOf s n).state = .waitOff →
    exec (.railOffDelay n) s = .next (powerStep (railSet s n { railOf s n with state := .off, en := false }))) ∧
  (∀ (n : Fin 32) (s : State), (railOf s n).en = false → (railOf s n).retain = false →
    exec (.railPgFall n) s = .next (railSet s n { railOf s n with pg := false })) ∧
  (∀ (n : Fin 32) (s : State), (railOf s n).en = false → (railOf s n).retain = true →
    ∃ t, exec (.railPgFall n) s = .next t ∧ t.boot.retLatch = false ∧ (railOf t n).pg = false ∧ KeptBut [.boot, .ham] s t) ∧
  (∀ s : State, s.boot.porst = false → s.boot.mode ≠ .refused → supplyGood s = true → s.ham.seq = .off → s.boot.stage = 1 →
    s.boot.stop = .none → s.cin.phase ≠ .commit → exec .commonStart s = .next (powerUpStart s))

/-- O4: Rail and domain faults: RAIL_PG_FAULT, RAIL_STUCK_ON, DOMAIN_SWITCH_TIMEOUT and GROUP_RETRY_EXPIRED complete.
Cites: R506, R508, R511, R512, R518, R519. -/
def Obligations.RailFaults : Prop :=
  (∀ (n : Fin 32) (s : State), s.ham.vddAon = true → (railOf s n).en = true → s.cin.phase ≠ .commit → s.boot.porst = false →
    s.ham.seq = .running → (railOf s n).state = .on → (railOf s n).retain = false → (railOf s n).reaction = .ignore →
    exec (.railPgFault n) s = .next (powerStep (railSet (slotMark (railSet s n { railOf s n with pg := false }) n 0) n
      { railOf s n with pg := false, state := .faultOn, en := true }))) ∧
  (∀ (n : Fin 32) (s : State), s.ham.vddAon = true → (railOf s n).en = true → s.cin.phase = .commit → (railOf s n).state = .on →
    (railOf s n).retain = false → exec (.railPgFault n) s = .next (commitFault (railSet s n { railOf s n with pg := false }) n)) ∧
  (∀ (n : Fin 32) (s : State), s.ham.seq = .powerDown → (railOf s n).state = .off → (railOf s n).en = false → (railOf s n).pg = true →
    (railOf s n).stuck = false → exec (.railStuckOn n) s =
      .next (fault (setF (railSet s n { railOf s n with stuck := true }) Reg.HAM_EVENTS_STUCK_ON) (.rail n) Ev.RAIL_STUCK_ON n [])) ∧
  (∀ (d : Fin 92) (s : State), s.boot.porst = false → s.ham.seq = .running → s.ham.domFault = [] →
    exec (.domainSwitchTimeout d) s =
      .next (gradeFault (domDown { s with ham := { s.ham with domFault := [d.val] } } d) (.domain d) 0x1F11 0xFF 2 2)) ∧
  (∀ (k : Nat) (s : State), (.rail k, .retry) ∈ s.fm.groups →
    exec (.groupRetryExpired (.rail k)) s = .next (groupEnable (railGroupBack s k) (.rail k))) ∧
  (∀ s : State, (.latigo, .retry) ∈ s.fm.groups → exec (.groupRetryExpired .latigo) s = .next (groupEnable s .latigo))

/-- O5: Supply inputs: PSU_OK, HOLDUP_LOW_N, FAULT_N, SYSCLK_IN and WDI events complete, and a low input is a COMMIT trigger with its own
number.
Cites: R313, R318, R521, R522, R609. -/
def Obligations.SupplyInputs : Prop :=
  (∀ s : State, s.ham.vddAon = true → exec .psuOkLow s = .next (powerStep (commitTrigger (record
      (supplyCheck { s with ham := { s.ham with psuOk := false } }) Ev.PSU_OK_LOW 0xFF []) 1))) ∧
  (∀ s : State, s.ham.vddAon = true → exec .holdupLow s = .next (powerStep (commitTrigger (record
      (supplyCheck { s with ham := { s.ham with holdupLowN := false } }) Ev.HOLDUP_LOW 0xFF []) 2))) ∧
  (∀ s : State, s.ham.vddAon = true → s.ham.faultNDriven = false → exec .faultNExternal s = .next (powerStep (commitTrigger (record
      (setF (supplyCheck { s with ham := { s.ham with faultNExt := true } }) Reg.HAM_EVENTS_FAULT_N_EXT) Ev.FAULT_N_EXTERNAL 0xFF []) 4))) ∧
  (∀ s : State, exec .psuOkHigh s = .next (supplyCheck { s with ham := { s.ham with psuOk := true } })) ∧
  (∀ s : State, exec .holdupLowNHigh s = .next (supplyCheck { s with ham := { s.ham with holdupLowN := true } })) ∧
  (∀ s : State, exec .faultNReleased s = .next (supplyCheck { s with ham := { s.ham with faultNExt := false } })) ∧
  (∀ s : State, exec .sysclkReturn s = .next (supplyCheck { s with ham := { s.ham with sysclkOk := true } })) ∧
  (∀ s : State, s.ham.vddAon = true → exec .psuOkGlitch s = .next (bump s Reg.HAM_GLITCH_PSU_OK 1)) ∧
  (∀ s : State, s.ham.vddAon = true → exec .holdupLowNGlitch s = .next (bump s Reg.HAM_GLITCH_HOLDUP 1)) ∧
  (∀ s : State, s.ham.vddAon = true → s.ham.faultNDriven = false →
    exec .faultNGlitch s = .next (record (bump s Reg.HAM_GLITCH_FAULT_N 1) Ev.FAULT_N_GLITCH 0xFF [])) ∧
  (∀ s : State, s.ham.vddAon = true → s.ham.sysclkOk = true → s.boot.porst = false → s.cin.phase ≠ .commit →
    exec .sysclkLoss s = .next (powerStep (gradeFault (supplyCheck { s with ham := { s.ham with sysclkOk := false } })
      .pommel 0x1F15 0xFF 5 5)))

/-- O6: PORST_N, VDD_AON and the warm reset commands complete with their own effect.
Cites: R1, R2, R29, R193, R500, R506, R532, R533, R534, R536, R604. -/
def Obligations.PowerAndReset : Prop :=
  (∀ (mode : Fin 4) (sv tw : Bool) (s : State), s.ham.vddAon = true → s.boot.porst = true → strapMode mode sv ≠ .refused →
    exec (.porstNRelease mode sv tw) s = .next (clockStart { s with
      dict := factoryApply s.dict
      boot := { s.boot with
        porst := false, porstDeferred := false, modeStrap := mode, serviceN := sv, twinPresentN := tw, mode := strapMode mode sv,
        stage := 1, stop := .none, late := false, startAt := s.time, stepAt := s.time, warm := .none, warmPath := false } })) ∧
  (∀ (mode : Fin 4) (sv tw : Bool) (s : State), s.ham.vddAon = true → s.boot.porst = true → strapMode mode sv = .refused →
    ∃ t, exec (.porstNRelease mode sv tw) s = .next t ∧ t.boot.stop = .refused ∧ t.boot.porst = false ∧
      Ev.MODE_STRAP_INVALID.code ∈ t.fm.alerts) ∧
  (∀ (torn : Bool) (s : State), s.boot.porst = false → s.ham.vddAon = true → s.cin.phase ≠ .commit →
    exec (.porstNAssert torn) s = .next (porstReset (closeWindow s 2) torn)) ∧
  (∀ (torn : Bool) (s : State), s.boot.porst = false → s.ham.vddAon = true → s.cin.phase = .commit → s.boot.porstDeferred = false →
    exec (.porstNAssert torn) s =
      .next (record { s with boot := { s.boot with porstDeferred := true } } Ev.PORST_DEFERRED 0xFF [])) ∧
  (∀ (torn : Bool) (s : State), s.ham.vddAon = true → exec (.vddAonLoss torn) s = .next (vddAonLost s torn)) ∧
  (∀ s : State, s.ham.vddAon = false → exec .vddAonReturn s =
    .next { s with ham := { s.ham with vddAon := true, doms := s.ham.doms ||| 0xF00000000000000000000000#96 } }) ∧
  (∀ s : State, exec .wrstNAssert s = .next (startWarmReset { s with boot := { s.boot with wrstLow := true } } .pin)) ∧
  (∀ s : State, exec .wrstNRelease s = .next { s with boot := { s.boot with wrstLow := false } }) ∧
  (∀ (m : Fin 11) (s : State), masterRefused s m 0x1C = none →
    exec (.swWarmReset m 0x5741524D#32) s = .next (startWarmReset s .sw)) ∧
  (∀ (m : Fin 11) (v : Word) (s : State), masterRefused s m 0x1C = none → v ≠ 0x5741524D#32 → exec (.swWarmReset m v) s = .next s) ∧
  (∀ s : State, s.boot.warm = .draining → s.boot.drained = false → s.per.welt = [] →
    exec .warmResetDeferralEnd s = .next { s with boot := { s.boot with drained := true } }) ∧
  (∀ s : State, s.boot.warm = .draining → s.boot.drained = false → s.per.welt ≠ [] → exec .warmResetDeferralEnd s =
    .next (record { s with boot := { s.boot with drained := true } } Ev.WELT_RETAINED_AT_RESET 0xFF (le 4 s.per.welt.length))) ∧
  (∀ (torn : Bool) (s : State), s.boot.warm = .draining → s.boot.wrstLow = false → s.cin.phase ≠ .commit → 9 ≤ s.boot.stage →
    warmReady s = true → exec (.warmResetHold torn) s = .next (setF (warmHold s torn) Reg.GLB_BOOT_WARM)) ∧
  (∀ (torn : Bool) (s : State), s.boot.warm = .draining → s.boot.wrstLow = false → s.cin.phase ≠ .commit → s.boot.stage < 9 →
    ∃ t, exec (.warmResetHold torn) s = .next t ∧ t.boot.stage = min 2 s.boot.stage ∧ t.boot.warm = .running ∧
      t.boot.warmPath = false ∧ rd t Reg.GLB_BOOT_PROMOTED = 1) ∧
  (∀ (torn : Bool) (s : State), s.boot.warm = .draining → s.boot.wrstLow = true → exec (.warmResetHold torn) s = .next s) ∧
  (∀ (torn : Bool) (s : State), s.boot.warm ≠ .draining → exec (.warmResetHold torn) s = .next s)

/-- O7: Bring-up: BRINGUP_STEP_END runs what the step that ends stands for and goes on, step by step, to READY; BRINGUP_STEP_LATE records
once.
Cites: R28, R251, R290, R320, R524, R526, R530, R533, R555. -/
def Obligations.BringupSteps : Prop :=
  (∀ (r : StepIn) (s : State), s.boot.porst = false → s.ham.vddAon = true → s.cin.phase ≠ .commit → s.boot.warm ≠ .draining →
      s.ham.seq = .running → s.boot.stop = .none →
    (s.boot.stage = 2 → exec (.bringupStepEnd r) s = .next (stepTo (stepFill s) 3)) ∧
    (s.boot.stage = 3 → exec (.bringupStepEnd r) s = .next (stepTo (retentionCheck s r.jrnGood) 4)) ∧
    (s.boot.stage = 4 → exec (.bringupStepEnd r) s = .next (stepTo (lineReserve (stmStart (flsScan s))) 5)) ∧
    (s.boot.stage = 5 → exec (.bringupStepEnd r) s = .next (stepFirmware s)) ∧
    (s.boot.stage = 6 → exec (.bringupStepEnd r) s = .next (stepDram s r)) ∧
    (s.boot.stage = 7 → exec (.bringupStepEnd r) s = .next (stepFillDram s)) ∧
    (s.boot.stage = 8 → exec (.bringupStepEnd r) s = .next (stepLoad s r)) ∧
    (s.boot.stage = 9 → exec (.bringupStepEnd r) s = .next (stepConfigure s)) ∧
    (s.boot.stage = 10 → exec (.bringupStepEnd r) s = .next (stepDrives s r)) ∧
    (s.boot.stage = 11 → exec (.bringupStepEnd r) s = .next (stepReplay s r)) ∧
    (s.boot.stage = 12 → twinSettled s = true → s.twin.role ≠ .starting →
      exec (.bringupStepEnd r) s = .next (stepTo (recoverHalf s r) 13)) ∧
    (s.boot.stage = 13 → exec (.bringupStepEnd r) s = .next (stepReady (stepWarmup s)))) ∧
  (∀ s : State, s.boot.porst = false → 0 < s.boot.stage → s.boot.stage ≤ 13 → s.boot.late = false → s.boot.stop = .none →
      s.cin.phase ≠ .commit → s.boot.warm ≠ .draining → s.boot.mode ≠ .service →
    ∃ t, exec .bringupStepLate s = .next t ∧ t.boot = { s.boot with late := true } ∧
      t.stm.headSeq = (record s Ev.BRINGUP_STEP_LATE 0xFF (le 1 s.boot.stage)).stm.headSeq ∧
      (rd s Reg.GLB_BOOT_LATE_STEP = 0 → rd t Reg.GLB_BOOT_LATE_STEP = s.boot.stage) ∧ KeptBut [.boot, .stm, .csr] s t)

/-- O8: Reset: PORST_N asserted, VDD_AON present with the always-on domains alone on, READY low, nothing running, no record and no command
waiting.
Cites: R1, R29, R500, R524, R567, R611. -/
def Obligations.ResetLeaves : Prop :=
  State.reset.boot.porst = true ∧ State.reset.ham.vddAon = true ∧ State.reset.ham.doms = 0xF00000000000000000000000#96 ∧
  State.reset.boot.ready = false ∧ State.reset.boot.stage = 0 ∧ State.reset.ham.seq = .off ∧ (∀ f : Fld, rd State.reset f = f.reset) ∧
  State.reset.stm.staging = [] ∧ State.reset.per.welt = [] ∧ State.reset.per.skive = [] ∧ State.reset.tree.lines = [] ∧
  State.reset.ring.busy = [] ∧ (∀ a, memRead 0 State.reset.dram.mem a = 0) ∧ State.reset.awl.drives = [] ∧
  State.reset.dict.opened = false ∧ State.reset.dict.active = [] ∧ State.reset.cin.phase = .normal ∧ State.reset.lck.countLost = true ∧
  State.reset.out = [] ∧ State.reset.pending = []

/-- O9: PORST_N low keeps the retained Welt, the journal, the always-on group and what flash and drives hold, and discards the rest.
Cites: R29, R35, R192, R500, R506, R536, R551, R577. -/
def Obligations.PorstKeepsAndDiscards : Prop :=
  ∀ (torn : Bool) (s : State), s.boot.porst = false → s.ham.vddAon = true → s.cin.phase ≠ .commit →
    ∃ t, exec (.porstNAssert torn) s = .next t ∧ t.boot.porst = true ∧ t.boot.ready = false ∧
      t.per.welt = s.per.welt.map (fun e => { e with mirrorSeq := none }) ∧ t.per.acceptSeq = s.per.acceptSeq ∧
      t.awl.journal = s.awl.journal ∧ t.awl.twinJrn = s.awl.twinJrn ∧ t.lck.count = s.lck.count ∧ t.lck.phase = s.lck.phase ∧
      t.boot.retLatch = s.boot.retLatch ∧ t.boot.marker = s.boot.marker ∧
      (s.pres.window = false → t.stm.staging = s.stm.staging) ∧ t.stm.last = s.stm.last ∧ t.stm.first = s.stm.first ∧
      t.dict.rail = s.dict.rail ∧ t.host.lsa = s.host.lsa ∧ t.bkl.storeA = s.bkl.storeA ∧ t.bkl.storeB = s.bkl.storeB ∧
      t.time = s.time ∧ t.out = s.out ∧ t.pending = s.pending ∧
      (∀ f : Fld, 0x300000 * 8 ≤ f.addr → f.addr < 0x310000 * 8 → rd t f = rd s f) ∧
      (∀ f : Fld, f.addr < 0x300000 * 8 ∨ 0x310000 * 8 ≤ f.addr → rd t f = f.reset) ∧
      (∀ e ∈ t.ham.rails, e.2.retain = false → e.2.en = false) ∧
      t.per.skive = [] ∧ t.tree = {} ∧ t.ring = {} ∧ t.dram = {} ∧ t.host.reads = [] ∧ t.host.writes = [] ∧ t.tier.streams = [] ∧
      t.lat = {} ∧ t.iface = {} ∧ t.tack = {} ∧ t.twin = {} ∧ t.keep = {} ∧ t.lx = {}

/-- O10: Unit resets and functions: UNIT_RESET_*, FUNCTION_QUIESCED and DISABLE_ABORT_TIME_EXPIRED complete.
Cites: R82, R149, R452, R475, R495, R496, R535. -/
def Obligations.UnitResetsAndFunctions : Prop :=
  (∀ s : State, s.cin.phase ≠ .commit → s.boot.porst = false →
    (exec .unitResetLat s = .next (fnQuiesce (wr s Reg.GLB_UNIT_RESET_LAT 1) .lat .reset (disableAbort s)) ∧
     exec .unitResetBkl s = .next (fnQuiesce (wr s Reg.GLB_UNIT_RESET_BKL 1) .bkl .reset (disableAbort s)) ∧
     exec .unitResetTir s = .next (fnQuiesce (wr s Reg.GLB_UNIT_RESET_TIR 1) .tir .reset (disableAbort s)) ∧
     exec .unitResetStm s = .next (fnQuiesce (wr s Reg.GLB_UNIT_RESET_STM 1) .stm .reset (disableAbort s)) ∧
     exec .unitResetFls s = .next (fnQuiesce (wr s Reg.GLB_UNIT_RESET_FLS 1) .fls .reset (disableAbort s)) ∧
     exec .unitResetKcb s = .next (fnQuiesce (wr s Reg.GLB_UNIT_RESET_KCB 1) .kcb .reset (disableAbort s)))) ∧
  (∀ s : State, s.cin.phase ≠ .commit → s.boot.porst = false → (fnOf s .lat).phase = .enabled →
    ∃ t, exec .unitResetLat s = .next t ∧ (fnOf t .lat).want = .reset ∧ (fnOf t .lat).phase = .enabled ∧
      (fnOf t .lat).abortTime = msec (odNum s 0x204001 2 10) ∧ rd t Reg.GLB_UNIT_RESET_LAT = 1 ∧ KeptBut [.csr, .fm] s t ∧
      FieldsKeptBut [Reg.GLB_UNIT_RESET_LAT] s t) ∧
  (∀ s : State, s.cin.phase = .commit → exec .unitResetLat s = .next (recordAt s 0xBF20 0 0xFF (le 4 0))) ∧
  (∀ (f : Fn) (s : State), (fnOf s f).phase = .quiescing → fnWork s f = false → exec (.functionQuiesced f) s = .next (fnDisable s f)) ∧
  (∀ (f : Fn) (s : State), (fnOf s f).phase = .disabled → (fnOf s f).want = .reset →
    exec (.functionQuiesced f) s = .next (fnReturn s f)) ∧
  (∀ (f : Fn) (s : State), (fnOf s f).phase = .quiescing → exec (.disableAbortTimeExpired f) s =
    .next (fnSet (fnAbort s f).2 f { fnOf s f with aborted := (fnOf s f).aborted + (fnAbort s f).1 }))

/-- O11: Timers and watchdogs: guards, engine and keeper watchdogs, pommel, WDI, reference clocks and recovery windows complete.
Cites: R148, R351, R476, R487, R488, R489, R490, R491, R492, R523, R610. -/
def Obligations.TimersAndWatchdogs : Prop :=
  (∀ (port ld tag : Nat) (s : State) (r : HeldRead), s.host.reads.find? (fun r => r.who = .host port ld tag) = some r → r.wait = .load →
    exec (.hostGuardExpired (.read port ld tag)) s = .next (guardFault (poisonReads s (fun x => x = r)).2 (.port port) port)) ∧
  (∀ (id : Nat) (s : State) (b : Barrier), s.per.barriers.find? (fun b => b.id = id) = some b → b.served ≠ 2 →
    exec (.hostGuardExpired (.barrier id)) s = .next (guardFault (endBarrier (setF (bump s Reg.WLT_BAR_ERR_TIMEOUTS 1)
      Reg.WLT_EVENTS_BAR_TIMEOUT) b .timeout) (.ld b.ld) b.ld)) ∧
  (∀ s : State, s.cin.phase ≠ .commit → exec (.engineWatchdogExpired .latigo) s =
    .next (gradeFault (recordAt (setF s Reg.ERR_EVENTS_WATCHDOG) 0xBF02 2 0xFF []) .latigo 0xBF02 0xFF 2 2)) ∧
  (∀ s : State, s.cin.phase ≠ .commit → exec (.engineWatchdogExpired .drain) s =
    .next (gradeFault (recordAt (setF s Reg.ERR_EVENTS_WATCHDOG) 0x7F02 2 0xFF []) .drain 0x7F02 0xFF 2 4)) ∧
  (∀ s : State, s.boot.sandbox = false → ∃ u, exec (.keeperHeartbeatMissed 2) s =
      .next (gradeFault u (.keeper 2) Ev.KEEPER_HEARTBEAT_MISSED.code 2 3 3) ∧
    (amGet u.keep.cores 2 {}).running = false ∧ KeptBut [.csr, .stm, .keep] s u) ∧
  (∀ (k : Fin 8) (s : State), bit (rd s Reg.ERR_KEEPER_RELOADING) k = true → k.val < 4 →
    ∃ t, exec (.keeperReloadDone k) s = .next t ∧ amGet t.keep.cores k.val {} = {} ∧ KeptBut [.csr, .keep] s t ∧
      FieldsKeptBut [Reg.ERR_KEEPER_RELOADING, Reg.ERR_KEEPER_RELOADS] s t) ∧
  (∀ s : State, s.cin.phase ≠ .commit → exec .pommelWatchdog s =
    .next (reportFault (setF s Reg.GLB_RESET_CAUSE_POMMEL_WDOG) .pommel 0xDF04 0xFF 4 [])) ∧
  (∀ s : State, rdb s Reg.ERR_WDI_ARMED = true → s.cin.phase ≠ .commit → exec .wdiMissed s =
    .next (reportFault (setF s Reg.GLB_RESET_CAUSE_WDI) .pommel 0x1F05 0xFF 5 [])) ∧
  (∀ s : State, s.boot.porst = false → s.boot.ready = true → s.boot.mode ≠ .service → rdb s Reg.ERR_WDI_EN = true →
    exec .wdiToggle s = .next (setF { s with ham := { s.ham with wdi := !s.ham.wdi } } Reg.ERR_WDI_ARMED)) ∧
  (∀ (w : Fin 5) (s : State), w.val < 4 → exec (.refclkLoss w) s =
    .next ((List.range 4).foldl (fun t k => linkDown t (4 * w.val + k)) s)) ∧
  (∀ s : State, exec (.refclkLoss 4) s =
    .next ((List.range 24).foldl (fun t k => if (driveOf t k).linkUp then driveLinkDown t k else t) s)) ∧
  (∀ (sc : Scope) (s : State), ∃ t, exec (.recoveryWindowClose sc) s = .next t ∧ KeptBut [.fm] s t ∧
    (∀ w ∈ t.fm.windows, w ∈ s.fm.windows) ∧
    (∀ w ∈ s.fm.windows, w ∉ t.fm.windows ↔ w.scope = sc ∧ ∃ e, w.endedAt = some e ∧ e + settleTime s w.rung ≤ s.time))

/-- O12: FAULT_REPORTED: a fault is recorded and graded; in COMMIT one at S2 or above starts nothing; S5 in a running controller enters
COMMIT with trigger 5.
Cites: R476, R477, R478, R480, R481, R483, R484, R486. -/
def Obligations.FaultReports : Prop :=
  (∀ (u : FUnit) (code : Fin 65536) (inst : Byte) (ok : Bool) (s : State),
    exec (.faultReported u code inst 0 ok) s = .next (recordAt s code 0 inst.toNat [])) ∧
  (∀ (u : FUnit) (code : Fin 65536) (inst : Byte) (s : State),
    exec (.faultReported u code inst 1 true) s = .next (gradeFault (recordAt s code 1 inst.toNat []) u code inst.toNat 1 1)) ∧
  (∀ (u : FUnit) (code : Fin 65536) (inst : Byte) (ok : Bool) (s : State), s.cin.phase = .commit →
    ∃ t, exec (.faultReported u code inst 3 ok) s = .next t ∧ KeptBut [.stm, .csr] s t ∧ t.stm = (recordAt s code 3 inst.toNat []).stm ∧
      FieldsKeptBut [Reg.ERR_LAST_CODE, Reg.ERR_LAST_RUNG, Reg.ERR_LAST_RAISED, Reg.ERR_LAST_INSTANCE] s t) ∧
  (∀ (u : FUnit) (code : Fin 65536) (inst : Byte) (ok : Bool) (s : State), s.cin.phase ≠ .commit → s.ham.seq = .running →
      s.fm.windows = [] → ∃ t, exec (.faultReported u code inst 5 ok) s = .next t ∧ t.cin.phase = .commit ∧ t.boot.ready = false)

/-- O13: The line clock: LINE_SYNC_PULSE, LINE_MISSED, LINE_LISTEN_END and HALF_CYCLE_BOUNDARY complete.
Cites: R39, R40, R43, R46, R47, R48, R50, R51, R312, R313. -/
def Obligations.LineClockEvents : Prop :=
  (∀ (ns dt : Nat) (s : State), 2000 ≤ ns → s.lck.state = .acquire → s.lck.listening = true →
    exec (.lineSyncPulse ns dt) s = .next (listenPulse s (s.time + cycles dt))) ∧
  (∀ (ns dt : Nat) (s : State), 2000 ≤ ns → s.lck.state = .synthetic → s.lck.lineSeen = false →
    exec (.lineSyncPulse ns dt) s = .next (record { s with lck := { s.lck with lineSeen := true } } Ev.LINE_SEEN_SYNTH 0xFF [])) ∧
  (∀ (ns dt : Nat) (s : State), 2000 ≤ ns → s.lck.state = .locked ∨ s.lck.state = .holdover →
    nearCrossing (s.time + cycles dt) s.lck.prevExp = true → s.lck.prevDone = false → exec (.lineSyncPulse ns dt) s =
      .next (goodCrossing s (s.time + cycles dt) s.lck.boundaries (((s.time + cycles dt : Nat) : Int) - (s.lck.lastBoundary : Int)) false)) ∧
  (∀ s : State, s.lck.state = .locked ∨ s.lck.state = .holdover → s.lck.prevDone = false → s.ham.seq = .running → s.lck.missRun = 0 →
    ∃ u, exec .lineMissed s = .next (warnEnter u) ∧ u.lck.state = .holdover ∧ u.lck.missRun = 1 ∧ u.lck.prevDone = true ∧
      KeptBut [.lck, .csr, .stm] s u ∧ FieldsKeptBut [Reg.LCK_COUNTS_MISSED_TOTAL, Reg.LCK_EVENTS_MISSED] s u) ∧
  (∀ s : State, s.lck.state = .locked ∨ s.lck.state = .holdover → s.lck.prevDone = false → s.ham.seq = .running → s.lck.missRun = 2 →
    ∃ u, exec .lineMissed s = .next (commitTrigger u 3) ∧ u.lck.missRun = 3 ∧ KeptBut [.lck, .csr, .stm] s u) ∧
  (∀ s : State, s.lck.listening = true → exec .lineListenEnd s = .next (record (enterSynthetic s) Ev.LINE_ABSENT 0xFF [])) ∧
  (∀ s : State, s.lck.phase = 1023 → exec .halfCycleBoundary s = .next (tick s) ∧ exec .tick s = .next (tick s)) ∧
  (∀ s : State, s.lck.phase ≠ 1023 → exec .halfCycleBoundary s = .next s)

/-- O14: R38: a LINE_SYNC pulse of less than 2 µs is counted as a glitch and otherwise ignored; the line clock uses qualified pulses only.
Cites: R38. -/
def Obligations.ShortPulsesAreGlitches : Prop :=
  ∀ (ns dt : Nat) (s : State), ns < 2000 → ∃ t, exec (.lineSyncPulse ns dt) s = .next t ∧ t.lck = s.lck ∧
    rd t Reg.LCK_COUNTS_GLITCH_TOTAL = satTo (2 ^ Reg.LCK_COUNTS_GLITCH_TOTAL.width - 1) (rd s Reg.LCK_COUNTS_GLITCH_TOTAL + 1) ∧
    KeptBut [.csr, .stm] s t ∧ FieldsKeptBut [Reg.LCK_COUNTS_GLITCH_TOTAL, Reg.LCK_EVENTS_GLITCH] s t

/-- O15: A tick: the phase runs from 0 to 1,023, at 1,024 ticks a half-cycle the count advances; while PORST_N is asserted only the clock
runs.
Cites: R33, R35, R41, R56. -/
def Obligations.TickAdvancesTheClock : Prop :=
  (∀ s : State, s.ham.vddAon = false → exec .tick s = .next s) ∧
  (∀ s : State, s.ham.vddAon = true → s.boot.porst = true → s.lck.phase < 1023 →
    ∃ t, exec .tick s = .next t ∧ t.lck.phase = s.lck.phase + 1 ∧ t.lck.count = s.lck.count ∧
      t.time = s.time + tickLength s.lck ∧ KeptBut [.lck, .time] s t) ∧
  (∀ s : State, s.ham.vddAon = true → s.boot.porst = true → s.lck.phase = 1023 →
    ∃ t, exec .tick s = .next t ∧ t.lck.phase = 0 ∧ t.lck.count = (s.lck.count + 1) % 2 ^ 40 ∧
      t.time = s.time + tickLength s.lck ∧ KeptBut [.lck, .time] s t) ∧
  (∀ c : LineClock, runPeriod c - runPeriod c / 8 ≤ tickLength c ∧ tickLength c ≤ runPeriod c + runPeriod c / 8)

/-- O16: The CSR window: plain writes, alias writes, clearing and latching reads and CFG_HOLD_LONG complete.
Cites: R60, R62, R65, R67, R68, R76, R77, R81. -/
def Obligations.CsrAccesses : Prop :=
  (∀ (m : Fin 11) (off : Nat) (v : Word) (s : State), debugShut s m = false → sandboxed s m = false → off % 4 = 0 → assigned off = true →
    regPowered s off = true → off < 0x341000 → exec (.csrWrite m off 4 v) s = .next (writeReg s m off v.toNat)) ∧
  (∀ (m : Fin 11) (a b : Nat) (v : Word) (s : State) (r : RegRow) (k : Nat) (f : FieldRow), debugShut s m = false →
    sandboxed s m = false → a % 4 = 0 → a < 0x40000 → b < 32 → assigned a = true → regPowered s a = true → inMbx a = false →
    findReg a = some (r, k) → r.fields.find? (fun f => decide (f.lo ≤ b) && decide (b < f.lo + f.width)) = some f →
    exec (.csrAliasWrite m (0x1000000 + a / 4 * 128 + b * 4) v) s = .next (aliasField m a b (v.getLsbD 0) r k s f)) ∧
  (∀ (m : Fin 11) (off : Nat) (s : State), off < 0x1000000 → readRefused s m off = none →
    exec (.csrReadClear m off) s = .next (emit (readEffect s m off) (.csrData m off (BitVec.ofNat 32 (readWord s m off))))) ∧
  (∀ (m : Fin 11) (off : Nat) (s : State) (r : RegRow) (k : Nat), findReg off = some (r, k) → latchLo off = true →
    r.fields.all (fun f => f.code ≠ .rc) = true → off < 0x1000000 → readRefused s m off = none →
    ∃ t, exec (.csrReadLatch m off) s = .next t ∧ (amGet t.iface.shadow (masterBlock m off) ([], 0)).2 = regWord s (off + 4) ∧
      off ∈ (amGet t.iface.shadow (masterBlock m off) ([], 0)).1 ∧
      t.out = s.out ++ [.csrData m off (BitVec.ofNat 32 (readWord s m off))] ∧ t.csr = s.csr ∧ KeptBut [.iface, .out] s t) ∧
  (∀ s : State, rdb s Reg.CFG_CTRL_HOLD = true → rdb s Reg.CFG_CRC_STATUS_HOLD_LONG = false →
    exec .cfgHoldLong s = .next (record (setF s Reg.CFG_CRC_STATUS_HOLD_LONG) Ev.CFG_HOLD_LONG 0xFF [])) ∧
  (∀ s : State, rdb s Reg.CFG_CRC_STATUS_HOLD_LONG = true → exec .cfgHoldLong s = .next s)

/-- O17: R62: an access that is not aligned, is unassigned or unpowered, or comes from a sandboxed core, changes only the access registers.
Cites: R60, R62, R616. -/
def Obligations.CsrRefusals : Prop :=
  (∀ (s : State) (m cause off : Nat), rd (csrRefuse s m cause off) Reg.GLB_ACCESS_ERR_MASTER = m % 2 ^ Reg.GLB_ACCESS_ERR_MASTER.width ∧
    rd (csrRefuse s m cause off) Reg.GLB_ACCESS_ERR_CAUSE = cause % 2 ^ Reg.GLB_ACCESS_ERR_CAUSE.width ∧
    rd (csrRefuse s m cause off) Reg.GLB_ACCESS_ADDR_OFFSET = off % 2 ^ Reg.GLB_ACCESS_ADDR_OFFSET.width ∧
    rd (csrRefuse s m cause off) Reg.GLB_ACCESS_COUNT_COUNT =
      satTo (2 ^ Reg.GLB_ACCESS_COUNT_COUNT.width - 1) (rd s Reg.GLB_ACCESS_COUNT_COUNT + 1) ∧
    KeptBut [.csr] s (csrRefuse s m cause off) ∧
    FieldsKeptBut [Reg.GLB_ACCESS_ERR_MASTER, Reg.GLB_ACCESS_ERR_CAUSE, Reg.GLB_ACCESS_ADDR_OFFSET, Reg.GLB_ACCESS_COUNT_COUNT] s
      (csrRefuse s m cause off)) ∧
  (∀ (m : Fin 11) (off size : Nat) (v : Word) (s : State), debugShut s m = false → off % 4 ≠ 0 ∨ size ≠ 4 →
    exec (.csrWrite m off size v) s = .next (emit (csrRefuse s m 2 off) (.busError m (statusCode .alignment)))) ∧
  (∀ (m : Fin 11) (off : Nat) (v : Word) (s : State), debugShut s m = false → off % 4 = 0 → sandboxed s m = true → inMbx off = false →
    exec (.csrWrite m off 4 v) s =
      .next (emit (record (csrRefuse s m 4 off) Ev.CSR_ACCESS_REFUSED m (le 4 off)) (.busError m (statusCode .access)))) ∧
  (∀ (m : Fin 11) (off : Nat) (v : Word) (s : State), debugShut s m = false → off % 4 = 0 → sandboxed s m = false →
    assigned off = false → exec (.csrWrite m off 4 v) s = .next (csrRefuse s m 1 off)) ∧
  (∀ (m : Fin 11) (off : Nat) (v : Word) (s : State), debugShut s m = false → off % 4 = 0 → sandboxed s m = false →
    assigned off = true → regPowered s off = false → exec (.csrWrite m off 4 v) s = .next (csrRefuse s m 3 off)) ∧
  (∀ (m : Fin 11) (off : Nat) (s : State), debugShut s m = false → off < 0x1000000 → off % 4 = 0 → sandboxed s m = false →
    assigned off = false → exec (.csrReadClear m off) s = .next (emit (csrRefuse s m 1 off) (.csrData m off 0))) ∧
  (∀ (m : Fin 11) (off : Nat) (s : State), debugShut s m = false → off < 0x1000000 → off % 4 = 0 → sandboxed s m = false →
    assigned off = true → regPowered s off = false → exec (.csrReadLatch m off) s = .next (emit (csrRefuse s m 3 off) (.csrData m off 0)))

/-- O18: R65: what a plain write does to a field of each access code.
Cites: R65, R78, R80, R88. -/
def Obligations.AccessCodes : Prop :=
  ∀ (m off k value : Nat) (r : RegRow) (s : State) (f : FieldRow), ownCommand off f = false → inStm (fldAt off f) = false →
      (∀ g ∈ [Reg.GLB_ACCESS_ERR_MASTER, Reg.GLB_ACCESS_ERR_CAUSE, Reg.GLB_ACCESS_ADDR_OFFSET, Reg.GLB_ACCESS_COUNT_COUNT],
        g.addr ≠ (fldAt off f).addr) →
    let v := value / 2 ^ f.lo % 2 ^ f.width
    let t := writeField m off r k value s f
    (f.code = .rw → rd t (fldAt off f) = v ∧ FieldsKeptBut [fldAt off f] s t) ∧
    (f.code = .rwb → t.csr = s.csr ∧ amGet t.iface.staged (fldAt off f).addr 0 = v) ∧
    (f.code = .rwl → fldLocked s r k f = false → v ≠ fldLive s (fldAt off f) → rd t (fldAt off f) = v) ∧
    (f.code = .rwl → fldLocked s r k f = true → rd t (fldAt off f) = rd s (fldAt off f)) ∧
    (f.code = .w1s → rd t (fldAt off f) = (fldLive s (fldAt off f) ||| v) % 2 ^ f.width) ∧
    (f.code = .ro ∨ f.code = .rc ∨ f.code = .rlt → t = s) ∧
    (f.code = .rsvd → s.boot.mode ≠ .service → rd t (fldAt off f) = rd s (fldAt off f))

/-- O19: The CSR mailbox: claim, release, expiry, START of a read and of a write, abort and completion, for the owner and for another
master.
Cites: R69, R70, R72, R73, R74, R75, R108. -/
def Obligations.MailboxCommands : Prop :=
  (∀ (m : Fin 11) (s : State), mbxShut s m 0x30000 = none → rdb s Reg.MBX_CLAIM_CLAIM = true →
    exec (.mbxClaim m) s = .next (wr (wr (emit s (.csrData m 0x30000 (BitVec.ofNat 32
      (rd s Reg.MBX_CLAIM_CLAIM + 2 * rd s Reg.MBX_CLAIM_OWNER)))) Reg.MBX_CLAIM_CLAIM 0) Reg.MBX_CLAIM_OWNER m)) ∧
  (∀ (m : Fin 11) (s : State), mbxShut s m 0x30000 = none → rdb s Reg.MBX_CLAIM_CLAIM = false →
    exec (.mbxClaim m) s = .next (emit s (.csrData m 0x30000 (BitVec.ofNat 32
      (rd s Reg.MBX_CLAIM_CLAIM + 2 * rd s Reg.MBX_CLAIM_OWNER))))) ∧
  (∀ (m : Fin 11) (s : State), mbxShut s m 0x30000 = none → rd s Reg.MBX_CLAIM_OWNER = m → exec (.mbxRelease m) s =
    .next (mbxStagedDrop (wr (wr (wr s Reg.MBX_CLAIM_CLAIM 1) Reg.MBX_CLAIM_OWNER 0xF) Reg.MBX_CTRL_VALID 0))) ∧
  (∀ s : State, rd s Reg.MBX_CLAIM_OWNER ≠ 0xF →
    exec .mbxClaimExpired s = .next (fault (mbxFree (mbxAbortNow s)) .config Ev.MBX_CLAIM_EXPIRED 0xFF [])) ∧
  (∀ (m : Fin 11) (s : State), mbxShut s m 0x30004 = none → rd s Reg.MBX_CLAIM_OWNER = m → rdb s Reg.MBX_CTRL_BUSY = false →
    exec (.mbxRead m 0) s = .next { wr (wr (wr (wr s Reg.MBX_CTRL_OP 0) Reg.MBX_CTRL_VALID 0) Reg.MBX_CTRL_BUSY 1)
      Reg.MBX_CTRL_ABORT_RESULT 0 with iface := { s.iface with mbxOp := some ⟨false, false, mbxKey s, .ok, [], 0⟩ } } ∧
    exec (.mbxRead m 2) s = .next { wr (wr (wr (wr s Reg.MBX_CTRL_OP 2) Reg.MBX_CTRL_VALID 0) Reg.MBX_CTRL_BUSY 1)
      Reg.MBX_CTRL_ABORT_RESULT 0 with iface := { s.iface with mbxOp := some ⟨true, false, mbxKey s, .badDescriptor, [], 0⟩ } } ∧
    exec (.mbxRead m 3) s = .next { wr (wr (wr (wr s Reg.MBX_CTRL_OP 3) Reg.MBX_CTRL_VALID 0) Reg.MBX_CTRL_BUSY 1)
      Reg.MBX_CTRL_ABORT_RESULT 0 with iface := { s.iface with mbxOp := some ⟨true, false, mbxKey s, .badDescriptor, [], 0⟩ } } ∧
    exec (.mbxWrite m) s =
      (let c := mbxChunk (wr (wr (wr (wr s Reg.MBX_CTRL_OP 1) Reg.MBX_CTRL_VALID 0) Reg.MBX_CTRL_BUSY 1) Reg.MBX_CTRL_ABORT_RESULT 0) m
       .next { c.2.2 with iface := { c.2.2.iface with mbxOp := some ⟨true, c.2.1, mbxKey s, c.1, [], 0⟩ } })) ∧
  (∀ (m : Fin 11) (op : Fin 4) (s : State), mbxShut s m 0x30004 = none → rd s Reg.MBX_CLAIM_OWNER = m → rdb s Reg.MBX_CTRL_BUSY = true →
    exec (.mbxRead m op) s = .next s ∧ exec (.mbxWrite m) s = .next s) ∧
  (∀ (m : Fin 11) (s : State) (o : MbxOp), mbxShut s m 0x30004 = none → rd s Reg.MBX_CLAIM_OWNER = m → s.iface.mbxOp = some o →
    (o.committed = false → exec (.mbxAbort m) s = .next (mbxStagedDrop (wr (wr (wr { s with iface := { s.iface with mbxOp := none } }
      Reg.MBX_CTRL_BUSY 0) Reg.MBX_CTRL_STATUS 0x20) Reg.MBX_CTRL_ABORT_RESULT 0x20))) ∧
    (o.committed = true → exec (.mbxAbort m) s = .next (wr s Reg.MBX_CTRL_ABORT_RESULT 0x21))) ∧
  (∀ (s : State) (o : MbxOp), s.iface.mbxOp = some o → o.isWrite = true → exec .mbxOpDone s =
    .next (wr (wr { s with iface := { s.iface with mbxOp := none } } Reg.MBX_CTRL_BUSY 0) Reg.MBX_CTRL_STATUS (statusCode o.status))) ∧
  (∀ (s : State) (o : MbxOp), s.iface.mbxOp = some o → o.isWrite = false → exec .mbxOpDone s =
    .next (mbxReadEnd (wr { s with iface := { s.iface with mbxOp := none } } Reg.MBX_CTRL_BUSY 0) o.key)) ∧
  (∀ (s : State) (key : Nat), (readStatus s .mbx key).1 = .ok → rd s Reg.MBX_OFFSET_CHUNK = 0 →
    mbxReadEnd s key = wr (wr (wr (wr { s with iface := { s.iface with
        mbxData := (odValue s key).take 256 ++ List.replicate (256 - ((odValue s key).take 256).length) 0 } }
      Reg.MBX_LENGTH_WIN_LEN ((odValue s key).take 256).length) Reg.MBX_LENGTH_TOTAL_ENC ((odValue s key).length / 2)) Reg.MBX_CTRL_VALID 1)
      Reg.MBX_CTRL_STATUS 0) ∧
  (∀ (m : Fin 11) (op : Fin 4) (s : State), mbxShut s m 0x30000 = none → mbxShut s m 0x30004 = none → rd s Reg.MBX_CLAIM_OWNER ≠ m →
    exec (.mbxRelease m) s = .next (csrRefuse s m 7 0x30000) ∧ exec (.mbxRead m op) s = .next (csrRefuse s m 7 0x30004) ∧
    exec (.mbxWrite m) s = .next (csrRefuse s m 7 0x30004) ∧ exec (.mbxAbort m) s = .next (csrRefuse s m 7 0x30004))

/-- O20: Dictionary writes with rows of their own: store, overlays, regions and firmware, and the read of a recorder block.
Cites: R94, R99, R100, R101, R102, R105, R209, R560, R561, R578. -/
def Obligations.DictionaryWrites : Prop :=
  (∀ (r : Route) (c : Nat) (s : State), writeCheck s r 0x101001 [0x56, 0x53] false = (.ok, 0) → exec (.odStore r c) s =
    .next (emit { s with dict := { s.dict with storing := some (storeList s) } } (.odDone r c 0x101001 .ok []))) ∧
  (∀ s : State, s.dict.storing = none → exec .odStoreDone s = .next s) ∧
  (∀ (s : State) (vs : List (LayerId × (Nat × Bytes))), s.dict.storing = some vs → exec .odStoreDone s =
    .next ([LayerId.base, .native, .compat, .single, .service].foldl (fun t l =>
      storeLayer t l ((vs.filter (fun x => x.1 = l)).map (fun x => x.2))) { s with dict := { s.dict with storing := none } })) ∧
  (∀ (r : Route) (c : Nat) (s : State), writeCheck s r 0x101304 [1] false = (.ok, 0) → exec (.overlayAdd r c) s =
    .next (emit (activate (storeIn s (overlayOf (leNat (activeValue s 0x101301))) (leNat (activeValue s 0x101302))
      (some (activeValue s 0x101303))) 0x101304 [1]) (.odDone r c 0x101304 .ok []))) ∧
  (∀ (r : Route) (c : Nat) (s : State), writeCheck s r 0x101304 [2] false = (.ok, 0) → exec (.overlayRemove r c) s =
    .next (emit (activate (storeIn s (overlayOf (leNat (activeValue s 0x101301))) (leNat (activeValue s 0x101302)) none) 0x101304 [2])
      (.odDone r c 0x101304 .ok []))) ∧
  (∀ (r : Route) (c : Nat) (e : Fin 1024) (ld : Byte) (s : State),
    writeCheck s r ((0x6400 + e) * 256 + 1) (le 1 ld.toNat) false = (.ok, 0) → exec (.rgnEntryApply r c e ld) s =
      .next (emit (rgnWrite s e (leNat (le 1 ld.toNat))) (.odDone r c ((0x6400 + e) * 256 + 1) .ok []))) ∧
  (∀ (r : Route) (c : Nat) (data : Bytes) (s : State), writeCheck s r 0xA00202 data false = (.ok, 0) → exec (.fwData r c data) s =
    .next (emit (fwData s data).2 (.odDone r c 0xA00202 (fwData s data).1 []))) ∧
  (∀ (r : Route) (c : Nat) (s : State),
    (writeCheck s r 0xA00203 (le 4 0x41435456) false = (.ok, 0) → (fwActivate s 0x41435456).1 = .ok → exec (.fwActivate r c) s =
      .next (emit (activate (fwActivate s 0x41435456).2 0xA00203 (le 4 0x41435456)) (.odDone r c 0xA00203 .ok []))) ∧
    (writeCheck s r 0xA00203 (le 4 0x41435446) false = (.ok, 0) → (fwActivate s 0x41435446).1 = .ok → exec (.fwActivateForce r c) s =
      .next (emit (activate (fwActivate s 0x41435446).2 0xA00203 (le 4 0x41435446)) (.odDone r c 0xA00203 .ok []))) ∧
    (writeCheck s r 0xA00203 (le 4 0x43414E43) false = (.ok, 0) → (fwActivate s 0x43414E43).1 = .ok → exec (.fwActivateCancel r c) s =
      .next (emit (activate (fwActivate s 0x43414E43).2 0xA00203 (le 4 0x43414E43)) (.odDone r c 0xA00203 .ok [])))) ∧
  (∀ (r : Route) (c : Nat) (s : State), (writeCheck s r 0x101001 [0x56, 0x53] false).1 ≠ .ok →
      (writeCheck s r 0x101001 [0x56, 0x53] false).1 ≠ .sealedRefused →
    exec (.odStore r c) s = .next (emit s (.odDone r c 0x101001 (writeCheck s r 0x101001 [0x56, 0x53] false).1 []))) ∧
  (∀ (r : Route) (c : Nat) (s : State), (readStatus s r 0x900403).1 = .ok →
    exec (.readBlock r c) s = .next (emit s (.odDone r c 0x900403 (readStatus s r 0x900403).1 (odValue s 0x900403)))) ∧
  (∀ (r : Route) (c : Nat) (s : State), (readStatus s r 0x900403).1 ≠ .ok →
    exec (.readBlock r c) s = .next (emit s (.odDone r c 0x900403 (readStatus s r 0x900403).1 [])))

/-- O21: PRESENCE_N and the sealed operations: a window opens by a press, closes, and lets one sealed write through.
Cites: R118, R119, R120, R121, R122, R123, R473, R565, R580. -/
def Obligations.PresenceAndSealed : Prop :=
  (∀ s : State, s.pres.low = false → exec .presenceNPress s =
    .next { s with pres := { s.pres with low := true, fellAt := s.time, openedByPress := false } }) ∧
  (∀ s : State, s.pres.low = true → exec .presenceNRelease s = .next { s with pres := { s.pres with low := false, roseAt := s.time } }) ∧
  (∀ s : State, s.pres.low = true → s.pres.stuck = false → s.pres.window = false → s.pres.openedByPress = false → s.boot.porst = false →
      s.cin.phase ≠ .commit → 3 ≤ s.boot.stage → s.boot.serviceN = false → exec .presenceOpen s = .next (record { s with
        pres := { s.pres with window := true, openedByPress := true, openedAt := s.time } } Ev.PRESENCE_OPEN 0xFF [])) ∧
  (∀ s : State, s.pres.window = true → s.pres.policyNext = none → exec .presenceClose s =
    .next (record { s with pres := { s.pres with window := false } } Ev.PRESENCE_CLOSE 0xFF [0])) ∧
  (∀ s : State, s.pres.window = false → exec .presenceClose s = .next s) ∧
  (∀ s : State, s.pres.low = true → s.pres.stuck = false → s.boot.porst = false → s.pres.openedByPress = false → exec .presenceStuck s =
    .next (fault { s with pres := { s.pres with stuck := true } } .pommel Ev.PRESENCE_STUCK 0xFF [])) ∧
  (∀ s : State, s.pres.low = true → s.pres.stuck = false → s.boot.porst = false → s.pres.openedByPress = true →
    exec .presenceStuck s = .next (fault { closeWindow s 4 with pres := { (closeWindow s 4).pres with stuck := true } } .pommel
      Ev.PRESENCE_STUCK 0xFF [])) ∧
  (∀ s : State, s.pres.stuck = true → s.pres.low = false →
    exec .presenceRearm s = .next { s with pres := { s.pres with stuck := false } }) ∧
  (∀ (r : Route) (c : Nat) (v : Bytes) (s : State), writeCheck s r 0xF01001 v false = (.ok, 0) → s.stm.clearing = none →
    exec (.recorderClear r c v) s =
      .next (emit (closeWindow (clearBegin s (routeCode r) (recordClient r c)) 1) (.odDone r c 0xF01001 .ok []))) ∧
  (∀ (r : Route) (c : Nat) (v : Bytes) (s : State),
    (writeCheck s r 0x202001 v false = (.ok, 0) → exec (.lockPolicyChange r c 0 v) s =
      .next (emit (sealedDone (storeIn s .base 0x202001 (some v)) r c (odValue s 0x202001) v) (.odDone r c 0x202001 .ok []))) ∧
    (writeCheck s r 0x103001 v false = (.ok, 0) → exec (.lockPolicyChange r c 1 v) s =
      .next (emit (sealedDone (storeIn s .base 0x103001 (some v)) r c (odValue s 0x103001) v) (.odDone r c 0x103001 .ok []))) ∧
    (writeCheck s r 0x103002 v false = (.ok, 0) → exec (.lockPolicyChange r c 2 v) s =
      .next (emit (sealedDone (storeIn s .base 0x103002 (some v)) r c (odValue s 0x103002) v) (.odDone r c 0x103002 .ok []))) ∧
    (writeCheck s r 0x103003 v false = (.ok, 0) → exec (.lockPolicyChange r c 3 v) s =
      .next (emit (sealedDone (storeIn s .base 0x103003 (some v)) r c (odValue s 0x103003) v) (.odDone r c 0x103003 .ok [])))) ∧
  (∀ (r : Route) (c : Nat) (v : Bytes) (s : State), writeCheck s r 0xF01101 v false = (.ok, 0) → exec (.factoryDefault r c v) s =
    .next (emit (sealedDone { s with dict := { s.dict with factoryPending := true } } r c (odValue s 0xF01101) v)
      (.odDone r c 0xF01101 .ok []))) ∧
  (∀ (r : Route) (c : Nat) (v : Bytes) (s : State), writeCheck s r 0xF01201 v false = (.ok, 0) →
      hdmActive s = false ∨ s.boot.mode = .service → exec (.cryptoErase r c v) s =
    .next (emit (sealedDone (cryptoErase s) r c (odValue s 0xF01201) v) (.odDone r c 0xF01201 .ok []))) ∧
  (∀ (r : Route) (c : Nat) (v : Bytes) (s : State), writeCheck s r 0xF01301 v false = (.ok, 0) → imgFails s (leNat v) = none →
    exec (.forcedSlotSelection r c v) s =
      .next (emit (sealedDone (fwSet s { s.fw with forced := some (leNat v) }) r c (odValue s 0xF01301) v) (.odDone r c 0xF01301 .ok []))) ∧
  (∀ (r : Route) (c : Nat) (v : Bytes) (s : State), writeCheck s r 0x104001 v false = (.ok, 0) → exec (.presencePolicyChange r c v) s =
    .next (emit (sealedDone { storeIn s .base 0x104001 (some v) with pres := { s.pres with policyNext := some (leNat v) } } r c
      (odValue s 0x104001) v) (.odDone r c 0x104001 .ok []))) ∧
  (∀ (r : Route) (c : Nat) (v : Bytes) (s : State), (writeCheck s r 0xF01201 v false).1 = .sealedRefused → exec (.cryptoErase r c v) s =
    .next (emit (record s Ev.SEALED_REFUSED_NO_WINDOW 0xFF []) (.odDone r c 0xF01201 .sealedRefused [])))

/-- O22: Tack frames: requests, segments, acknowledgements, aborts, time-outs, classical frames and boot-up complete.
Cites: R108, R109, R110, R112, R113, R114, R115, R116, R117, R493. -/
def Obligations.TackFrames : Prop :=
  (∀ (h : TackHdr) (key : Nat) (s : State), requestFresh s h → (readStatus s (.tack h.chan) key).1 = .ok → (odValue s key).length ≤ 56 →
    exec (.read h key) s = .next (emit s (.tack h.chan 0x81 h.client h.tag key 0 (odValue s key)))) ∧
  (∀ (h : TackHdr) (key : Nat) (data : Bytes) (s : State), requestFresh s h → exec (.write h key data) s =
    .next (tackAnswer (odCommit s (.tack h.chan) h.client key (data.take h.len) false).2 h key
      (odCommit s (.tack h.chan) h.client key (data.take h.len) false).1)) ∧
  (∀ (h : TackHdr) (key total : Nat) (s : State), requestFresh s h → accessCheck s (.tack h.chan) key false = (.ok, 0) →
    total ≤ 16777214 → exec (.writeInit h key total) s =
      .next (emit (txnPut (stagedPut s ⟨key, .tack h.chan, h.client, total, []⟩) ⟨h.chan, h.client, h.tag, key, true, total, [], 0, 0⟩)
        (.tack h.chan 0x83 h.client h.tag key 0 []))) ∧
  (∀ (h : TackHdr) (n : Nat) (data : Bytes) (s : State) (t : TackTxn), frameHeard s h → txnOf s h = some t → t.isWrite = true →
    n = t.nextSeg → h.len = 56 → (t.data ++ data.take 56).length < t.total →
    ((n + 1) % 16 ≠ 0 → exec (.segment h n false data) s = .next (txnPut s { t with data := t.data ++ data.take 56, nextSeg := n + 1 })) ∧
    ((n + 1) % 16 = 0 → exec (.segment h n false data) s = .next (emit (txnPut s { t with
      data := t.data ++ data.take 56, nextSeg := n + 1 }) (.tack h.chan 0x05 h.client h.tag n 0 [])))) ∧
  (∀ (h : TackHdr) (n : Nat) (s : State) (t : TackTxn), frameHeard s h → txnOf s h = some t → t.isWrite = false → t.acked ≤ n →
    n < t.nextSeg → n + 1 = segCount t.total → exec (.ack h n) s = .next (txnDrop s t)) ∧
  (∀ (h : TackHdr) (s : State) (t : TackTxn), frameHeard s h → txnOf s h = some t →
    exec (.abort h) s = .next (emit (txnDrop s t) (.tack h.chan 0x86 h.client h.tag t.key 0x20 [9, 0]))) ∧
  (∀ (h : TackHdr) (s : State), frameHeard s h → txnOf s h = none → amFind s.dict.done (64 * h.chan + h.client) ≠ some h.tag →
    exec (.abort h) s = .next (emit s (.tack h.chan 0x86 h.client h.tag 0 0x32 [2, 0]))) ∧
  (∀ (chan : Fin 2) (client tag : Nat) (s : State) (t : TackTxn), txnOf s ⟨chan, client, tag, 0, true, true⟩ = some t →
    exec (.tackTransferTimeout chan client tag) s = .next (emit (txnDrop s t) (.tack chan 0x06 client tag t.key 0x23 [8, 0]))) ∧
  (∀ (chan : Fin 2) (s : State), tackHears s chan = true → exec (.tackClassicalFrame chan) s =
    .next { s with tack := { s.tack with chanViol := amSet s.tack.chanViol chan (amGet s.tack.chanViol chan 0 + 1) } }) ∧
  (∀ (chan : Fin 2) (serial : Nat) (s : State), tackHears s chan = true → s.tack.listening = true → Config.serial.toNat < serial →
    s.tack.node < 63 → exec (.tackBootupFrame chan s.tack.node serial) s =
      .next (tackBoot (record { s with tack := { s.tack with node := s.tack.node + 1 } } Ev.TACK_NODE_MOVED 0xFF (le 1 (s.tack.node + 1))))) ∧
  (∀ s : State, exec .tackBootupListenEnd s = .next { s with tack := { s.tack with listening := false } }) ∧
  (∀ (h : TackHdr) (key : Nat) (data : Bytes) (s : State), tackHears s h.chan = true → h.client ≠ 0 → h.client ≤ 63 →
      h.client ≠ s.tack.node → contained s (.tackNode h.client) = true →
    exec (.read h key) s = .next s ∧ exec (.write h key data) s = .next s ∧ exec (.abort h) s = .next s)

/-- O23: The recorder: a record is admitted with the next SEQ, the line time and its suppressed count, or suppressed; programming and the
clear.
Cites: R567, R568, R569, R570, R571, R572, R580. -/
def Obligations.RecorderAdmits : Prop :=
  (∀ (code : Fin 65536) (sev : Fin 6) (inst : Byte) (items : Bytes) (s : State),
      let p := le 1 inst.toNat ++ items.take 495
      let h := halfPerSec s.lck
      (stmBypass code sev = true ∨ h ≤ stmUnits s.stm h code) → stagingUsed s.stm + (recLength p + 4) ≤ 0x100000 →
    ∃ t, exec (.recordSubmit code sev inst items) s = .next t ∧ KeptBut [.stm] s t ∧ t.stm.headSeq = s.stm.headSeq + 1 ∧
      t.stm.staging = s.stm.staging ++
        [⟨s.stm.headSeq + 1, code, s.lck.count, s.lck.phase, sev, suppEncode (amGet s.stm.supp code 0), p⟩] ∧
      amGet t.stm.supp code 0 = 0 ∧ (stmBypass code sev = true → t.stm.buckets = s.stm.buckets) ∧
      t.stm.last = s.stm.last ∧ t.stm.first = s.stm.first) ∧
  (∀ (code : Fin 65536) (sev : Fin 6) (inst : Byte) (items : Bytes) (s : State),
      let p := le 1 inst.toNat ++ items.take 495
      let h := halfPerSec s.lck
      (stmBypass code sev = false ∧ stmUnits s.stm h code < h) ∨ 0x100000 < stagingUsed s.stm + (recLength p + 4) →
    ∃ t, exec (.recordSubmit code sev inst items) s = .next t ∧ KeptBut [.stm] s t ∧ t.stm.headSeq = s.stm.headSeq ∧
      t.stm.staging = s.stm.staging ∧ t.stm.buckets = s.stm.buckets ∧
      amGet t.stm.supp code 0 = amGet s.stm.supp code 0 + 1) ∧
  (∀ (s s1 : State) (r : Rec) (rest : List Rec), s.stm.staging = r :: rest → (fnOf s .stm).phase ≠ .disabled → s.stm.clearing = none →
    lastPut (stmSet s { s.stm with staging := rest }) r = some s1 → exec .recordProgrammed s =
      .next (overflowEnd (stmSet (firstPut s1 r) { (firstPut s1 r).stm with flashedSeq := r.seq }))) ∧
  (∀ s : State, s.stm.clearing = none → exec .recorderClearStepEnd s = .next s) ∧
  (∀ (s : State) (c : Clearing) (k : Nat), s.stm.clearing = some c → s.stm.eraseStopped = false → c.stage = .eraseFirst k → k < 31 →
    exec .recorderClearStepEnd s = .next (stmSet (firstErase s k) { (firstErase s k).stm with
      clearing := some { c with stage := .eraseFirst (k + 1) } }))

/-- O24: CXL.mem requests: HOST_WRITE, STREAM_WRITE and HOST_READ reach their line, are refused, or are withheld.
Cites: R13, R18, R20, R132, R133, R136, R145, R147, R150, R164, R241, R585. -/
def Obligations.HostRequests : Prop :=
  (∀ (port ldid : Fin 16) (tag hpa mask mv : Nat) (data : Bytes) (s t : State) (n dpa gl : Nat), target s port ldid hpa = .line n dpa gl →
      policyAt s n (dpa / 0x200000) ≠ 4 ∨ s.cin.phase = .commit →
      acceptWrite (streamTouch (trackLow s port) n gl) (.host port n tag) n gl
        (plineMasked mask ((data ++ List.replicate (64 - data.length) 0).take 64)) (completePair s n (dpa / 0x200000)) (decide (mv ≠ 1)) = some t →
    exec (.hostWrite port ldid tag hpa mask mv data) s = .next t) ∧
  (∀ (port ldid : Fin 16) (tag hpa mask mv : Nat) (data : Bytes) (s : State) (n dpa gl : Nat), target s port ldid hpa = .line n dpa gl →
      policyAt s n (dpa / 0x200000) ≠ 4 ∨ s.cin.phase = .commit →
      acceptWrite (streamTouch (trackLow s port) n gl) (.host port n tag) n gl
        (plineMasked mask ((data ++ List.replicate (64 - data.length) 0).take 64)) (completePair s n (dpa / 0x200000)) (decide (mv ≠ 1)) = none →
    exec (.hostWrite port ldid tag hpa mask mv data) s = .next (emit s (.creditWithheld port))) ∧
  (∀ (port ldid : Fin 16) (tag hpa mask : Nat) (data : Bytes) (s : State) (n dpa gl : Nat), target s port ldid hpa = .line n dpa gl →
      policyAt s n (dpa / 0x200000) = 4 → s.cin.phase ≠ .commit → exec (.streamWrite port ldid tag hpa mask data) s =
    .next (skiveAccept (streamTouch (trackLow s port) n gl) port n tag gl
      (plineMasked mask ((data ++ List.replicate (64 - data.length) 0).take 64)))) ∧
  (∀ (port ldid : Fin 16) (tag hpa mv : Nat) (s : State) (n dpa gl : Nat), target s port ldid hpa = .line n dpa gl → s.boot.mode ≠ .compat →
    exec (.hostRead port ldid tag hpa mv .good) s =
      .next (readLine (if mv ≠ 1 ∧ (inWindow s gl).isSome
        then hhSet (streamTouch (trackLow s port) n gl) gl true else streamTouch (trackLow s port) n gl) (.host port n tag) gl (some port.val))) ∧
  (∀ (port ldid : Fin 16) (tag hpa mask mv : Nat) (data : Bytes) (err : SramErr) (s : State) (ld : Option Nat) (cause : Nat),
      target s port ldid hpa = .refuse ld cause → s.boot.mode ≠ .compat →
    exec (.hostWrite port ldid tag hpa mask mv data) s = .next (emit (refuseCount s port ld cause) (.writeDone port (ld.getD 0x3F) tag)) ∧
    exec (.streamWrite port ldid tag hpa mask data) s = .next (emit (refuseCount s port ld cause) (.writeDone port (ld.getD 0x3F) tag)) ∧
    exec (.hostRead port ldid tag hpa mv err) s =
      .next (emit (refuseCount s port ld cause) (.readData port (ld.getD 0x3F) tag (List.replicate 64 0) true))) ∧
  (∀ (port ldid : Fin 16) (tag hpa mask mv : Nat) (data : Bytes) (err : SramErr) (s : State), target s port ldid hpa = .withheld →
    exec (.hostWrite port ldid tag hpa mask mv data) s = .next (emit s (.creditWithheld port)) ∧
    exec (.streamWrite port ldid tag hpa mask data) s = .next (emit s (.creditWithheld port)) ∧
    exec (.hostRead port ldid tag hpa mv err) s = .next (emit s (.creditWithheld port)))

/-- O25: Host port control: decoders, link up and down, enables, doorbell slots and RING.
Cites: R126, R127, R132, R141, R142, R143, R144, R148, R149, R151, R495. -/
def Obligations.HostPortControl : Prop :=
  (∀ (n : Fin 64) (idx : Fin 4) (base size skip ways gran : Nat) (bi lock : Bool) (s : State),
      (amGet (ldOf s n).decoders idx.val {}).lock = false →
    let d : Decoder := { committed := true, base := base, size := size, skip := skip, ways := ways, gran := gran, bi := bi, lock := lock }
    (decoderOk s n idx d = true → exec (.hdmDecoderCommit n idx base size skip ways gran bi lock) s =
      .next (ldSet s n { ldOf s n with decoders := amSet (ldOf s n).decoders idx.val d })) ∧
    (decoderOk s n idx d = false → exec (.hdmDecoderCommit n idx base size skip ways gran bi lock) s =
      .next (record (ldSet s n { ldOf s n with decoders := amSet (ldOf s n).decoders idx.val { d with committed := false, refused := true } })
        Ev.DECODER_REFUSED n (le 1 idx)))) ∧
  (∀ (n : Fin 64) (idx : Fin 4) (base size skip ways gran : Nat) (bi lock : Bool) (s : State),
      (amGet (ldOf s n).decoders idx.val {}).lock = true → (amGet (ldOf s n).decoders idx.val {}).committed = true →
    exec (.hdmDecoderCommit n idx base size skip ways gran bi lock) s = .next s) ∧
  (∀ (p : Fin 16) (s : State), rdb s (Reg.HPT_PORT_STATUS_LINK_UP p) = true → exec (.hostLinkDown p) s = .next (record
    { setF (wr (wr s (Reg.HPT_PORT_STATUS_LINK_UP p) 0) (Reg.HPT_PORT_STATUS_WIDTH p) 0) (Reg.HPT_PORT_EVENTS_LINK_DOWN p) with
      host := { s.host with
        reads := s.host.reads.filter (fun r => match r.who with | .host q _ _ => q ≠ p.val | _ => true)
        writes := s.host.writes.filter (fun w => match w.who with | .host q _ _ => q ≠ p.val | _ => true) } } Ev.PORT_LINK_DOWN p [])) ∧
  (∀ (p : Fin 16) (s : State), rdb s (Reg.HPT_PORT_STATUS_LINK_UP p) = false → exec (.hostLinkDown p) s = .next s) ∧
  (∀ (p : Fin 16) (w : Nat) (s : State), portRole s p ≠ 2 → s.boot.mode ≠ .service → 6 ≤ s.boot.stage → amGet s.host.dropped p.val 0 = 0 →
    ∃ t, exec (.hostLinkUp p w true false) s = .next t ∧ rd t (Reg.HPT_PORT_STATUS_LINK_UP p) = 1 ∧
      rd t (Reg.HPT_PORT_STATUS_WIDTH p) = w % 2 ^ (Reg.HPT_PORT_STATUS_WIDTH p).width ∧ rd t (Reg.HPT_PORT_STATUS_RATE_64 p) = 1 ∧
      rd t (Reg.HPT_PORT_STATUS_FLIT68 p) = 0 ∧ KeptBut [.csr, .stm, .host] s t ∧ t.host.reads = s.host.reads ∧
      t.host.writes = s.host.writes) ∧
  (∀ (p : Fin 16) (n : Fin 64) (on : Bool) (s : State), s.cin.phase ≠ .commit →
    exec (.hptPortEnableChange p on) s = .next { s with iface := { s.iface with
      staged := amSet s.iface.staged (Reg.HPT_PORT_CTRL_ENABLE p).addr (b2n on % 2 ^ (Reg.HPT_PORT_CTRL_ENABLE p).width) } } ∧
    exec (.hptLdEnableChange n on) s = .next { s with iface := { s.iface with
      staged := amSet s.iface.staged (Reg.HPT_LD_CFG_ENABLE n).addr (b2n on % 2 ^ (Reg.HPT_LD_CFG_ENABLE n).width) } }) ∧
  (∀ (n slot : Fin 64) (v : Nat) (s : State), contained s (.ld n) = false → (amGet (ldOf s n).slots slot.val {}).busy = false →
    exec (.doorbellAddrWrite n slot 0 v) s = .next (ldSet s n { ldOf s n with
      slots := amSet (ldOf s n).slots slot.val { amGet (ldOf s n).slots slot.val {} with addr := v % 2 ^ 64 } })) ∧
  (∀ (n slot : Fin 64) (off v : Nat) (s : State), contained s (.ld n) = false → off ≠ 0 →
    exec (.doorbellAddrWrite n slot off v) s = .next (hostViolation s (ldPort s n) (some n) 3)) ∧
  (∀ (n slot : Fin 64) (token scope level : Nat) (s : State), contained s (.ld n) = false →
      (amGet (ldOf s n).slots slot.val {}).busy = false → (amGet (ldOf s n).slots slot.val {}).addr % 64 = 0 →
      token < 0x10000 → scope < 3 → level < 3 → fnOpen s (.ld n) = true → fnOpen s (.port (ldPort s n)) = true →
    (s.boot.ready = true → s.cin.phase ≠ .commit →
      exec (.doorbellRing n slot (token + 0x10000 * scope + 0x40000 * level) 64) s =
        .next (startBarrier (ldSet s n { ldOf s n with
          slots := amSet (ldOf s n).slots slot.val { amGet (ldOf s n).slots slot.val {} with busy := true } })
          (.doorbell n slot token false 0) n scope level)) ∧
    (s.boot.ready = false → exec (.doorbellRing n slot (token + 0x10000 * scope + 0x40000 * level) 64) s =
      .next (writeRecord (bump s Reg.WLT_BAR_ERR_NOT_READY 1) n (amGet (ldOf s n).slots slot.val {}).addr token .notReady scope level false 0))) ∧
  (∀ (n slot : Fin 64) (word bits : Nat) (s : State), contained s (.ld n) = false → bits ≠ 64 →
    exec (.doorbellRing n slot word bits) s = .next (hostViolation s (ldPort s n) (some n) 3))

/-- O26: Persistence: SKIVE_CLOSE, WELT_RELEASE, the end and time-out of barriers, the COMMIT cut-off and Global Persistent Flush complete.
Cites: R15, R16, R162, R166, R171, R172, R174, R175, R176, R179, R180. -/
def Obligations.PersistenceCommands : Prop :=
  (∀ (line : Nat) (s t : State) (e : SkiveLine), skiveFind s line = some e → plineFull e.data = false →
    e.openedTick + rd s Reg.WLT_CTRL_SKIVE_CLOSE ≤ lineStamp s → skiveClose s e = some t → exec (.skiveClose line) s = .next t) ∧
  (∀ (line : Nat) (s : State) (e : SkiveLine), skiveFind s line = some e →
    plineFull e.data = true ∨ lineStamp s < e.openedTick + rd s Reg.WLT_CTRL_SKIVE_CLOSE → exec (.skiveClose line) s = .next s) ∧
  (∀ (line : Nat) (s : State) (e : WeltEntry), weltFind s line = some e →
    (weltReady s e = true → exec (.weltRelease line .good) s = .next (weltRelease s e)) ∧
    (weltReady s e = false → exec (.weltRelease line .good) s = .next s)) ∧
  (∀ (id : Nat) (s : State) (b : Barrier), s.per.barriers.find? (fun b => b.id = id) = some b → barrierBehind s b = false →
    (barrierReached s b = true → b.twinTag = none → exec (.barrierEnd id) s = .next (endBarrier s b (b.twinStatus.getD .ok))) ∧
    (∀ x, barrierReached s b = true → b.twinStatus = some x → exec (.barrierEnd id) s = .next (endBarrier s b x)) ∧
    (barrierReached s b = false → exec (.barrierEnd id) s = .next s)) ∧
  (∀ (id : Nat) (s : State) (b : Barrier), s.per.barriers.find? (fun b => b.id = id) = some b →
    (b.startTime + barrierGuard s b ≤ s.time → exec (.barrierTimeout id) s =
      .next (fault (endBarrier (setF (bump s Reg.WLT_BAR_ERR_TIMEOUTS 1) Reg.WLT_EVENTS_BAR_TIMEOUT) b .timeout) (.ld b.ld)
        Ev.BARRIER_TIMEOUT b.ld (le 1 b.scope ++ le 1 b.level))) ∧
    (s.time < b.startTime + barrierGuard s b → exec (.barrierTimeout id) s = .next s)) ∧
  (∀ s : State, s.cin.phase = .commit → s.cin.commitAt + usec 100 ≤ s.time →
    (let late := s.cin.endedBar + (s.per.barriers.filter (fun b => !barrierReached s b)).length
     let u := s.per.barriers.foldl (fun t b => endBarrier t b (if barrierReached s b then .ok else .notReady)) s
     let v := { u with cin := { u.cin with endedBar := 0 } }
     (late ≠ 0 → exec .commitBarrierCutoff s =
       .next (record (setF v Reg.WLT_EVENTS_COMMIT_ENDED) Ev.BARRIERS_ENDED_BY_COMMIT 0xFF (le 4 late))) ∧
     (late = 0 → exec .commitBarrierCutoff s = .next v))) ∧
  (∀ s : State, s.cin.phase ≠ .commit → exec .commitBarrierCutoff s = .next s) ∧
  (∀ (p : Fin 16) (s : State), s.cin.phase ≠ .commit →
    exec (.gpfPhase1 p) s = .next (startBarrier (bump (wr s Reg.WLT_GPF_PHASE 1) Reg.WLT_GPF_COUNT 1) (.gpf 1 p) 0x3F 2 0) ∧
    exec (.gpfPhase2 p) s = .next (startBarrier (bump (wr s Reg.WLT_GPF_PHASE 2) Reg.WLT_GPF_COUNT 1) (.gpf 2 p) 0x3F 2 1)) ∧
  (∀ (p : Fin 16) (s : State), s.cin.phase = .commit →
    exec (.gpfPhase1 p) s = .next (emit s (.gpfAck p 1)) ∧ exec (.gpfPhase2 p) s = .next (emit s (.gpfAck p 2)))

/-- O27: The CXL mailbox: the standard commands, the unsupported ones and the FM API complete with their answers.
Cites: R124, R130, R131, R138, R140, R554. -/
def Obligations.CxlMailboxStandard : Prop :=
  (∀ (n : Fin 64) (s : State), s.boot.mode ≠ .compat →
    exec (.identifyMemoryDevice n) s = .next (emit (freeSkip s 31) (.cci n .success (freeBytes s 16 ++ le 8 (ldBytes s n / 0x10000000) ++
      le 8 0 ++ le 8 (ldBytes s n / 0x10000000) ++ freeBytes (freeSkip s 16) 8 ++ le 8 0 ++ le 4 65536 ++ freeBytes (freeSkip s 24) 7))) ∧
    exec (.getPartitionInfo n) s = .next (emit s (.cci n .success (le 8 0 ++ le 8 (ldBytes s n / 0x10000000) ++ le 8 0 ++ le 8 0))) ∧
    exec (.getSupportedLogs n) s = .next (emit s (.cci n .success (le 2 1 ++ List.replicate 6 0 ++ celUuid ++ le 4 celLog.length))) ∧
    exec (.getHealthInfo n) s = .next (emit (freeSkip s 14) (.cci n .success
      (freeBytes s 6 ++ le 4 (ldOf s n).dirtyShutdowns ++ freeBytes (freeSkip s 6) 8))) ∧
    exec (.getEventInterruptPolicy n) s = .next (emit s (.cci n .success
      ([0, 1, 2, 3].flatMap (fun k => le 1 (b2n (bit (ldOf s n).eventPolicy k)))))) ∧
    exec (.getTimestamp n) s = .next (emit s (.cci n .success (le 8 ((timeNs s + (ldOf s n).tsOffset) % 2 ^ 64)))) ∧
    exec (.getFwInfo n) s = .next (emit s (.cci n .success (le 1 2 ++ le 1 (s.fw.running + 1 +
        8 * (if s.fw.slotA.st = .pending then 1 else if s.fw.slotB.st = .pending then 2 else 0)) ++ List.replicate 14 0 ++
      versionText s.fw.slotA.version ++ versionText s.fw.slotB.version ++ List.replicate 32 0)))) ∧
  (∀ (n : Fin 64) (off len : Nat) (s : State), s.boot.mode ≠ .compat → off + len ≤ celLog.length → len ≤ 4096 →
    exec (.getLog n celUuid off len) s = .next (emit s (.cci n .success ((celLog.drop off).take len)))) ∧
  (∀ (n : Fin 64) (log : Nat) (s : State), s.boot.mode ≠ .compat → log < 4 →
    exec (.getEventRecords n log) s = .next (emit (freeSkip s (124 * ((logOf s n log).take 31).length + 18)) (.cci n .success
      (le 1 (2 * b2n (decide (31 < (logOf s n log).length))) ++ [0] ++ freeBytes (freeSkip s (124 * ((logOf s n log).take 31).length)) 18 ++
        le 2 ((logOf s n log).take 31).length ++ List.replicate 10 0 ++ eventBytes s ((logOf s n log).take 31) 0))) ∧
    exec (.clearEventRecords n log true []) s = .next (emit (ldSet s n { ldOf s n with
      events := (ldOf s n).events.filter (fun e => !(e.log == log)) }) (.cci n .success []))) ∧
  (∀ (n : Fin 64) (a b c d : Fin 2) (s : State), s.boot.mode ≠ .compat →
    exec (.setEventInterruptPolicy n [BitVec.ofNat 8 a, BitVec.ofNat 8 b, BitVec.ofNat 8 c, BitVec.ofNat 8 d]) s =
      .next (emit (ldSet s n { ldOf s n with eventPolicy := a + 2 * b + 4 * c + 8 * d }) (.cci n .success []))) ∧
  (∀ (n : Fin 64) (off len : Nat) (data : Bytes) (s : State), s.boot.mode ≠ .compat → s.boot.ready = true →
    (off + len ≤ 65536 → len ≤ 4096 → exec (.getLsa n off len) s = .next (emit s (.cci n .success (lsaBytes s n off len)))) ∧
    (off + data.length ≤ 65536 → exec (.setLsa n off data) s = .next (emit { s with host := { s.host with
      lsa := amSet s.host.lsa n ((lsaBytes s n 0 (max (amGet s.host.lsa n.val []).length (off + data.length))).take off ++ data ++
        (lsaBytes s n 0 (max (amGet s.host.lsa n.val []).length (off + data.length))).drop (off + data.length)) } } (.cci n .success [])))) ∧
  (∀ (n : Fin 64) (start len : Nat) (s : State), s.boot.mode ≠ .compat → s.boot.ready = true → start + 64 * len ≤ ldBytes s n →
    start % 64 = 0 → exec (.getPoisonList n start len) s =
      (let ps := (poisonIn s n start len).mergeSort (fun a b => decide (a ≤ b))
       .next (emit s (.cci n .success (le 1 (b2n (decide (254 < ps.length))) ++ List.replicate 9 0 ++ le 2 (ps.take 254).length ++
        List.replicate 20 0 ++ (ps.take 254).flatMap (fun a => le 8 a ++ le 4 1 ++ le 4 0)))))) ∧
  (∀ (n : Fin 64) (dpa : Nat) (data : Bytes) (s t : State), s.boot.mode ≠ .compat → s.boot.ready = true → data.length = 64 →
      dpa % 64 = 0 → dpa < ldBytes s n →
      acceptWrite s (.mailbox n) n (homeLine s n dpa) (plineOf data) (completePair s n (dpa / 0x200000)) false = some t →
    exec (.clearPoison n dpa data) s = .next (emit t (.cci n .success []))) ∧
  (∀ (n : Fin 64) (v : Nat) (s : State), s.boot.mode ≠ .compat → exec (.setTimestamp n v) s = .next (emit (ldSet s n { ldOf s n with
    tsOffset := (v % 2 ^ 64 + 2 ^ 64 - timeNs s % 2 ^ 64) % 2 ^ 64 }) (.cci n .success []))) ∧
  (∀ (n : Fin 64) (off len : Nat) (s : State), s.boot.mode ≠ .compat → s.boot.ready = false →
    exec (.getLsa n off len) s = .next (emit s (.cci n .busy [])) ∧ exec (.getPoisonList n off len) s = .next (emit s (.cci n .busy []))) ∧
  (∀ (n : Fin 64) (p : Fin 16) (s : State), exec (.unsupportedMailboxCommand n) s = .next (emit s (.cci n .unsupported [])) ∧
    exec (.setLdAllocations p) s = .next (emit s (.cci (64 + p) .unsupported []))) ∧
  (∀ (p : Fin 16) (start limit : Nat) (s : State), s.boot.mode ≠ .compat → 2 ≤ (portLds s p).length →
    exec (.getLdInfo p) s = .next (emit (freeSkip s 1) (.cci (64 + p) .success
      (le 8 ((portLds s p).map (ldBytes s)).sum ++ le 2 (portLds s p).length ++ freeBytes s 1))) ∧
    exec (.getLdAllocations p start limit) s = .next (emit s (.cci (64 + p) .success
      (le 1 (portLds s p).length ++ le 1 0 ++ le 1 start ++ le 1 (((portLds s p).drop start).take limit).length ++
        (((portLds s p).drop start).take limit).flatMap (fun n => le 8 (ldBytes s n / 0x10000000) ++ le 8 0))))) ∧
  (∀ (p : Fin 16) (start limit : Nat) (s : State), (portLds s p).length < 2 →
    exec (.getLdInfo p) s = .next (emit s (.cci (64 + p) .unsupported [])) ∧
    exec (.getLdAllocations p start limit) s = .next (emit s (.cci (64 + p) .unsupported [])))

/-- O28: Vendor mailbox commands: their common refusals, the dictionary commands, and the object and stream commands that act on one.
Cites: R107, R108, R139, R140, R149, R151, R394, R396, R397, R398, R412, R494. -/
def Obligations.VendorCommands : Prop :=
  (∀ (n : Fin 64) (key off id : Nat) (s : State),
    (s.boot.mode = .compat → exec (.odAbort n key) s = .next (emit s (.cci n .unsupported [])) ∧
      exec (.objectQuery n id) s = .next (emit s (.cci n .unsupported []))) ∧
    (s.boot.mode ≠ .compat → s.boot.ready = false → exec (.odAbort n key) s = .next (vendorReply s n .notReady []) ∧
      exec (.objectDestroy n id) s = .next (vendorReply s n .notReady [])) ∧
    (s.boot.mode ≠ .compat → s.boot.ready = true → contained s (.ld n) = true →
      exec (.odRead n key off) s = .next (vendorReply s n .partnerViolation [])) ∧
    (s.boot.mode ≠ .compat → s.boot.ready = true → contained s (.ld n) = false → fnOpen s (.ld n) = false →
      exec (.odRead n key off) s = .next (vendorReply s n .functionDisabled []))) ∧
  (∀ (n : Fin 64) (key off : Nat) (s : State), vendorServed s n → ldMgmt s n = true → (readStatus s (.cxl n) key).1 = .ok →
    off = 0 ∨ off < (odValue s key).length → exec (.odRead n key off) s = .next (vendorReply s n .ok (((odValue s key).drop off).take 4080))) ∧
  (∀ (n : Fin 64) (key : Nat) (data : Bytes) (s : State), vendorServed s n → ldMgmt s n = true → data.length ≤ 4080 →
      data.length ≤ 8 ∨ data.length % 2 = 0 → accessCheck s (.cxl n) key false = (.ok, 0) →
      s.dict.staged.find? (fun x => x.key == key && x.route = .cxl n) = none →
    (let c := odCommit s (.cxl n) n key data true
     (c.1.1 = .ok → exec (.odWrite n key 0 data.length data) s =
       .next (vendorReply { c.2 with dict := { c.2.dict with done := amSet c.2.dict.done (256 + n) key } } n c.1.1 [])) ∧
     (c.1.1 ≠ .ok → exec (.odWrite n key 0 data.length data) s = .next (vendorReply c.2 n c.1.1 [])))) ∧
  (∀ (n : Fin 64) (key : Nat) (s : State), vendorServed s n → ldMgmt s n = true → s.dict.staged = [] →
    (amFind s.dict.done (256 + n) = some key → exec (.odAbort n key) s = .next (vendorReply s n .abortTooLate [])) ∧
    (amFind s.dict.done (256 + n) ≠ some key → exec (.odAbort n key) s = .next (vendorReply s n .badDescriptor []))) ∧
  (∀ (n : Fin 64) (id : Nat) (r : Nat × Nat) (s : State), objectServed s n id r → 128 ≤ id → s.tier.streams.any (fun t => t.obj == id) = false →
    exec (.objectDestroy n id) s = .next (vendorReply (zeroSegs { s with tier := { s.tier with
      objs := s.tier.objs.filter (fun o => o.id ≠ id) } } r.1 r.2 (objBase s id)) n .ok [])) ∧
  (∀ (n : Fin 64) (id : Nat) (r : Nat × Nat) (s : State), objectServed s n id r →
    exec (.objectQuery n id) s = .next (vendorReply s n .ok (objectInfo s id r))) ∧
  (∀ (n : Fin 64) (id : Nat) (r : Nat × Nat) (s : State), objectServed s n id r → objFind s id = none → objReplica s id = false →
    exec (.objectSetPolicy n id 1 0) s =
      .next (vendorReply { s with tier := { s.tier with basePol := amSet s.tier.basePol id (1, false) } } n .ok [])) ∧
  (∀ (n : Fin 64) (id : Nat) (t : Stream) (s : State), vendorServed s n → s.tier.streams.find? (fun t => t.id = id) = some t →
    (rd s (Reg.HPT_LD_CFG_TENANT n) = rd s (Reg.HPT_LD_CFG_TENANT t.ld) → exec (.streamClose n id) s = .next (vendorReply (streamEnd s id) n .ok [])) ∧
    (rd s (Reg.HPT_LD_CFG_TENANT n) ≠ rd s (Reg.HPT_LD_CFG_TENANT t.ld) → exec (.streamClose n id) s = .next (vendorReply s n .access []))) ∧
  (∀ (n : Fin 64) (off size cls pol fl : Nat) (s : State), vendorServed s n → policyOk s cls pol fl = false →
    exec (.objectCreate n off size cls pol fl) s = .next (vendorReply s n .badDescriptor []))

/-- O29: Stirrup frames of a twin whose link carries frames: mirroring, repair, journal, zones and barriers complete.
Cites: R171, R307, R327, R328, R330, R331, R332, R333, R346, R350, R366. -/
def Obligations.TwinFrames : Prop :=
  (∀ (seq line mask : Nat) (data : Bytes) (s : State), linkCarries s = true →
    let d := (data ++ List.replicate (64 - data.length) 0).take 64
    (seq = s.twin.rxNext → s.twin.waiting = [] → poolRoom s ⟨seq, line, plineMasked mask d, false⟩ = true → ∃ u,
      exec (.mirror seq line mask data) s = .next (sendMirrorAck u) ∧
      u.twin = (poolStore s ⟨seq, line, plineMasked mask d, false⟩).twin ∧ u.per = s.per ∧ u.pending = s.pending ∧ u.out = s.out) ∧
    (seq = s.twin.rxNext → s.twin.waiting = [] → poolRoom s ⟨seq, line, plineOf d, true⟩ = true → ∃ u,
      exec (.mirrorFull seq line data) s = .next (sendMirrorAck u) ∧
      u.twin = (poolStore s ⟨seq, line, plineOf d, true⟩).twin ∧ u.per = s.per ∧ u.pending = s.pending ∧ u.out = s.out) ∧
    (seq ≠ s.twin.rxNext + s.twin.waiting.length → exec (.mirror seq line mask data) s = .next (twinViolation s 1 0x10) ∧
      exec (.mirrorFull seq line data) s = .next (twinViolation s 1 0x11))) ∧
  (∀ (n : Nat) (s : State), linkCarries s = true → exec (.mirrorAck n) s = .next (ackTaken s n)) ∧
  (∀ (chunk mask cut : Nat) (s : State), linkCarries s = true → s.twin.waiting = [] →
    (cut ≤ s.twin.rxNext → exec (.release chunk mask cut) s = .next (twinSet s { s.twin with
      pool := s.twin.pool.filter (fun f => !(f.gran / 16 == chunk && bit mask (f.gran % 16) && decide (f.newest < cut))) })) ∧
    (s.twin.rxNext < cut → exec (.release chunk mask cut) s = .next (twinViolation s 3 0x13))) ∧
  (∀ (line tag : Nat) (s : State), linkCarries s = true →
    (2 ^ 40 ≤ line → exec (.repairReq line tag) s = .next (twinViolation (twinSend s 0x21 tag 0 []) 4 0x20)) ∧
    (∀ l, line < 2 ^ 40 → (poolFind s (line / 64)).bind (fun p => amFind p.lines (line % 64)) = some l →
      exec (.repairReq line tag) s = .next (emit s (.repairRsp tag l))) ∧
    (line < 2 ^ 40 → (poolFind s (line / 64)).bind (fun p => amFind p.lines (line % 64)) = none →
      exec (.repairReq line tag) s = .next (twinSend s 0x21 tag 0 []))) ∧
  (∀ (tag ch : Nat) (r : Repair) (data : Bytes) (s : State), linkCarries s = true → repairOf s tag = some (ch, r) → r.tree = false →
    data.length = 64 → exec (.repairRsp tag (2 ^ 64 - 1) data) s = .next (record (setF (bump (repairDone s r.line data)
      (Reg.DRC_CH_ECC_REPAIRED ch) 1) (Reg.DRC_CH_EVENTS_REPAIRED ch)) Ev.DRAM_REPAIRED ch (le 6 r.line))) ∧
  (∀ (line : Nat) (v : Bytes × Bool) (s : State), linkCarries s = true → (baseOf s (line / 32768)).isSome = true → lineValue s line = some v →
    exec (.remirror line) s = .next (mirrorSend s line (plineOf v.1))) ∧
  (∀ (seq : Nat) (e : JournalEntry) (s : State), linkCarries s = true →
    exec (.journal seq e) s = .next (twinSend { s with awl := { s.awl with
      twinJrn := s.awl.twinJrn.filter (fun x => x.seq ≠ e.seq) ++ (if e.state = .free then [] else [e]) } } 0x31 seq 0 []) ∧
    (s.awl.releases = [] → exec (.journalAck seq) s = .next { s with awl := { s.awl with
      journal := s.awl.journal.map (fun e => if e.upd ≤ seq then { e with twinHas := true } else e), releases := [] } })) ∧
  (∀ (n : Nat) (zones : List Nat) (s : State), linkCarries s = true →
    exec (.zoneReq n) s = .next { s with cin := { s.cin with twinWants := n } } ∧
    (s.cin.epoch ≤ n → (∀ z ∈ zones, z ∈ s.cin.twinZones) → exec (.zoneGrant zones n) s = .next (emit { s with cin := { s.cin with
      inEpoch := n, incoming := s.cin.incoming ++ zones, zonePending := false, twinZones := s.cin.twinZones.filter (· ∉ zones) } } (.zoneAck zones))) ∧
    (n < s.cin.epoch → exec (.zoneGrant zones n) s = .next (twinViolation s 5 0x41)) ∧
    (zones ≠ [] → zones = s.cin.outgoing → exec (.zoneAck zones) s = .next (record { s with cin := { s.cin with
      epoch := (s.cin.epoch + 1) % 2 ^ 32, outgoing := [], twinZones := s.cin.twinZones ++ zones } } Ev.ZONE_HANDOVER 0xFF (le 4 zones.length)))) ∧
  (∀ (tag x : Nat) (s : State), linkCarries s = true →
    (s.cin.phase ≠ .commit → exec (.barrierReq tag x) s = .next (startBarrier s (.twinReq tag) 0x3F 2 x)) ∧
    (s.cin.phase = .commit → exec (.barrierReq tag x) s = .next (twinSend s 0x51 tag 0x70 [])) ∧
    exec (.barrierDone tag x) s = .next { s with per := { s.per with barriers := s.per.barriers.map (fun b =>
      if b.twinTag = some tag then { b with twinStatus := some (barrierStatus x) } else b) } }) ∧
  (∀ (c k : Nat) (s : State), s.twin.link ≠ .down → s.twin.link ≠ .training → c ≠ 1 →
    exec (.violation c k) s = .next (twinSet s { s.twin with rxViolation := s.twin.rxViolation ++ [(c, k)] })) ∧
  (∀ (a b c : Nat) (d : Bytes) (zs : List Nat) (s : State), linkCarries s = false → exec (.mirror a b c d) s = .next s ∧
    exec (.mirrorFull a b d) s = .next s ∧ exec (.mirrorAck a) s = .next s ∧ exec (.release a b c) s = .next s ∧
    exec (.repairReq a b) s = .next s ∧ exec (.zoneGrant zs a) s = .next s ∧ exec (.barrierReq a b) s = .next s)

/-- O30: The Stirrup link and claims: link up and down, HELLO, HEARTBEAT, declaring the twin failed, claims, waits and leases complete.
Cites: R325, R326, R334, R335, R336, R338, R339, R343, R344, R348, R349, R497. -/
def Obligations.TwinLinkLife : Prop :=
  (∀ s : State, s.boot.twinPresentN = false → s.twin.link = .down ∨ s.twin.link = .training → 6 ≤ s.boot.stage → exec (.stirrupUp 16) s =
    .next (sendHello (record (twinSet s { s.twin with link := .hello, everUp := true, lanes := 16, helloDone := false }) Ev.STIRRUP_UP 0xFF [16]))) ∧
  (∀ (k : Nat) (s : State), s.boot.twinPresentN = true → exec (.stirrupUp k) s = .next s) ∧
  (∀ s : State, exec .stirrupDown s = .next (linkLost s) ∧ exec .stpRetrain s = .next (linkLost s) ∧
    (16 ≤ s.twin.hbMissed → exec .heartbeatLossRetrain s = .next (linkLost s)) ∧
    (s.twin.hbMissed < 16 → exec .heartbeatLossRetrain s = .next s)) ∧
  (∀ s : State, s.twin.link = .down ∨ s.twin.link = .training → linkLost s = s) ∧
  (∀ (h : HelloFrame) (s : State), s.twin.link ≠ .down → s.twin.link ≠ .training →
    (h.role ∉ [1, 2, 4, 5, 7] → exec (.hello h) s = .next (twinViolation s 6 0x01)) ∧
    (h.role ∈ [1, 2, 4, 5, 7] → protoFits s h.major h.minor = false → ∃ u, exec (.hello h) s =
      .next (alert (fault (pairLost (twinSet u { u.twin with link := .incompatible })) .stirrup Ev.PROTOCOL_INCOMPATIBLE 0xFF
        (le 1 h.major ++ le 1 h.minor)) Ev.PROTOCOL_INCOMPATIBLE.code))) ∧
  (∀ (h : HeartbeatFrame) (s : State), s.twin.link = .incompatible → h.role ≠ 9 → h.count = s.lck.count → h.phase = s.lck.phase →
      s.lck.state ≠ .synthetic → s.lck.phase ≠ 0 →
    ∃ t, exec (.heartbeat h) s = .next t ∧ t.twin = { s.twin with
        hbSeen := true, hbMissed := 0,
        twinCommit := if h.commit then some h.trigger else none, twinWarn := h.warn, twinEarly := h.early, twinEpoch := h.epoch } ∧
      t.lck = { s.lck with mismatchRun := 0 } ∧ rd t Reg.LCK_TWIN_COUNT_MATCH = 1 ∧ rd t Reg.LCK_TWIN_PHASE_DIFF = 0 ∧
      KeptBut [.twin, .lck, .csr] s t) ∧
  (∀ s : State, 3 ≤ s.twin.hbMissed → s.twin.link = .training → s.twin.everUp = true → s.twin.claim = none → s.twin.tookOver = false →
      s.twin.downSince + msec (rd s Reg.STP_CFG_RETRAIN_GUARD) ≤ s.time → claimBarred s = false →
    exec .twinFailed s = .next (claimStart (fault (setF s Reg.STP_EVENTS_TWIN_FAILED) .stirrup Ev.TWIN_FAILED 0xFF []) true)) ∧
  (∀ (c : Claim) (s : State), s.twin.claim = some c →
    (c.delay.isSome = true → exec .claimDelayExpired s = .next (claimGo s)) ∧
    (c.retryAt.isSome = true → exec .claimRetry s = .next (claimGo s)) ∧
    (∀ slot : Fin 24, exec (.reservationPreemptDone slot false) s = .next (fence s)) ∧
    (∀ slot : Fin 24, claimBarred s = false → majority s (c.preempted.filter (· ≠ slot.val) ++ [slot.val]).length = true →
      exec (.reservationPreemptDone slot true) s = .next (takeover (record { s with cin := { s.cin with epoch := (s.cin.epoch + 1) % 2 ^ 32 } }
        Ev.CLAIM_WON 0xFF [])))) ∧
  (∀ s : State, claimBarred s = true → claimGo s =
    twinSet s { s.twin with claim := none, role := if s.twin.role = .claiming then idleRole s else s.twin.role }) ∧
  (∀ s : State, s.twin.role ≠ .fenced → 10 ≤ s.boot.stage → exec .leaseSlotWrite s = .next ((reachableMembers s).foldl
    (fun t m => emit t (.leaseWrite m s.twin.role s.cin.epoch (s.twin.leaseCount + 1))) (twinSet s { s.twin with leaseCount := s.twin.leaseCount + 1 }))) ∧
  (∀ (l : Option (Nat × Nat)) (s : State), s.boot.stage = 12 → s.boot.twinPresentN = false → s.twin.helloDone = false →
    exec (.twinWaitExpired l) s = .next (twinSet s { s.twin with
      twinRead := l.map (fun l => ⟨l.1, .active, 0, l.2⟩), waitUntil := some (s.time + secs 2) })) ∧
  (∀ (a : Lease) (b : Nat × Nat) (w : Nat) (s : State), s.twin.waitUntil = some w → s.twin.twinRead = some a → a.count < b.2 →
    exec (.twinLeaseRecheck (some b)) s = .next (alert (fault (sendHello { twinSet s { s.twin with waitUntil := none, role := .stalled } with
      boot := { s.boot with stop := .stalled } }) .stirrup Ev.TWIN_STALLED 0xFF []) Ev.TWIN_STALLED.code)) ∧
  (∀ s : State, s.twin.handover = true → s.twin.leaseAt + secs 3 ≤ s.time → s.twin.link = .training →
    exec .handoverLeaseStale s = .next (claimStart (twinSet s { s.twin with handover := false }) true)) ∧
  (∀ (n e : Nat) (s : State), (conductOf s (.ld n)).contained = some e → e ≤ s.time →
    exec (.partnerContainmentEnd (.ld n)) s = .next (conductSet s (.ld n) { conductOf s (.ld n) with contained := none }))

/-- O31: Handover and failback between the twins: begin, done, request, ready and done complete, and a wrong role is violation cause 6.
Cites: R336, R340, R343, R347, R350, R618. -/
def Obligations.TwinHandoverFailback : Prop :=
  (∀ (t : Nat) (s : State), linkCarries s = true → s.twin.twinCommit = some t →
    (5 ≤ t → exec .handoverBegin s = .next (twinSet s { s.twin with handover := true, leaseAt := s.time })) ∧
    (t < 5 → exec .handoverBegin s = .next (twinViolation s 6 0x60))) ∧
  (∀ s : State, linkCarries s = true → s.twin.twinCommit = none → exec .handoverBegin s = .next (twinViolation s 6 0x60)) ∧
  (∀ s : State, linkCarries s = true →
    (s.twin.handover = true → exec .handoverDone s = .next (record (takeover s) Ev.HANDOVER_TAKEN 0xFF [])) ∧
    (s.twin.handover = false → exec .handoverDone s = .next (twinViolation s 6 0x60))) ∧
  (∀ s : State, linkCarries s = true → s.twin.role = .survivor → s.twin.twinRole = some .starting →
    exec .failbackReq s = .next ((standbyLds s).foldl (fun t n => fnQuiesce t (.ld n) .disable (msec (max 1 (odNum s 0x204001 2 10))))
      (twinSet s { s.twin with failback := true, failbackReq := true })) ∧
    exec .failbackDone s = .next (
      let s1 := twinSet s { s.twin with role := .active, tookOver := false, failback := false, failbackReq := false, readySent := false }
      startResync (record (setF (standbyReturn ((standbyLds s1).foldl (fun t n => ldSet t n { ldOf t n with
        standby := false, standbyOpen := false, memActive := false }) s1)) Reg.STP_EVENTS_FAILBACK_DONE) Ev.FAILBACK_DONE 0xFF []))) ∧
  (∀ (e : Nat) (s : State), linkCarries s = true → s.twin.twinRole = some .survivor → exec (.failbackReady e) s = .next (
    let s1 := { twinSet s { s.twin with role := .active } with cin := { s.cin with epoch := e } }
    startResync (poolReserve (twinSend ((reachableMembers s1).foldl (fun t m => emit t (.leaseWrite m .active e t.twin.leaseCount)) s1) 0x61 2 0 [])))) ∧
  (∀ (e : Nat) (s : State), linkCarries s = true → s.twin.role ≠ .survivor → s.twin.twinRole ≠ some .survivor →
    exec .failbackReq s = .next (twinViolation s 6 0x61) ∧ exec (.failbackReady e) s = .next (twinViolation s 6 0x61) ∧
    exec .failbackDone s = .next (twinViolation s 6 0x61)) ∧
  (∀ (e : Nat) (s : State), linkCarries s = false → exec .handoverBegin s = .next s ∧ exec .handoverDone s = .next s ∧
    exec .failbackReq s = .next s ∧ exec (.failbackReady e) s = .next s ∧ exec .failbackDone s = .next s)

/-- O32: Agents on the Girth ring: the answers of every state to a snoop, data, WB_ACK and NACK, and loads, stores and evictions of the
keeper caches.
Cites: R187, R188, R226, R232, R233, R234, R239, R240, R243, R257. -/
def Obligations.RingAgents : Prop :=
  (∀ (a : Fin 5) (line : Nat) (s : State), agentFind s a line = none →
    exec (.snpS a line) s = .next (toHome s .ackI a line []) ∧ exec (.snpInv a line) s = .next (toHome s .ackI a line []) ∧
    (∀ d, exec (.dataS a line d) s = .next (protocolError s a 0 9 line) ∧ exec (.dataE a line d) s = .next (protocolError s a 0 10 line)) ∧
    exec (.wbAck a line) s = .next (protocolError s a 0 11 line) ∧ (∀ r, exec (.nack a line r) s = .next (protocolError s a 0 12 line))) ∧
  (∀ (a : Fin 5) (line : Nat) (l : AgentLine) (s : State), agentFind s a line = some l →
    (l.st = .s → exec (.snpS a line) s = .next (toHome s .ackS a line []) ∧
      exec (.snpInv a line) s = .next (toHome (agentDrop s a line) .ackI a line []) ∧ exec (.agentEviction a line) s = .next (agentDrop s a line)) ∧
    (l.st = .e → exec (.snpS a line) s = .next (toHome (agentPut s { l with st := .s }) .ackS a line []) ∧
      exec (.snpInv a line) s = .next (toHome (agentDrop s a line) .ackI a line []) ∧ exec (.agentEviction a line) s = .next (agentDrop s a line)) ∧
    (l.st = .m → exec (.snpS a line) s = .next (toHome (agentPut s { l with st := .s }) .ackData a line l.data) ∧
      exec (.snpInv a line) s = .next (toHome (agentDrop s a line) .ackData a line l.data) ∧
      ((s.ring.agents.filter (fun x => x.agent = a.val ∧ x.st = .miA)).length < 8 →
        exec (.agentEviction a line) s = .next (toHome (agentPut s { l with st := .miA, landed := false }) .wb a line l.data))) ∧
    (l.st = .miA → exec (.snpS a line) s = .next (toHome s .wbPending a line []) ∧ exec (.wbAck a line) s = .next (agentDrop s a line)) ∧
    (∀ d, l.st = .isD → exec (.dataS a line d) s =
      .next (toHome (serveCore (agentPut s { l with st := .s, data := d, nacks := 0 }) l d) .done a line []) ∧
      exec (.dataE a line d) s = .next (toHome (serveCore (agentPut s { l with st := .e, data := d, nacks := 0 }) l d) .done a line [])) ∧
    (∀ d, l.st = .imD ∨ l.st = .smD → exec (.dataE a line d) s =
      .next (toHome (agentPut s { l with st := .m, data := patch d l.off l.store, store := [], nacks := 0 }) .done a line [])) ∧
    (l.st = .isD ∨ l.st = .imD ∨ l.st = .smD → exec (.nack a line false) s =
      .next (agentPut s { l with nacks := l.nacks + 1, retry := some (s.time + nackBackoff l.nacks) })) ∧
    (l.st = .imD → exec (.nack a line true) s = .next (emit (agentDrop s a line) (.busError l.core 0x40))) ∧
    (l.retry.isSome = true → l.nacks < max 1 (rd s Reg.GRT_CFG_NACK_PRIORITY) → exec (.nackRetryTimer a line) s =
      .next (toHome (agentPut s { l with retry := none }) (if l.st = .isD then .rdS else .rdX) a line []))) ∧
  (∀ (c : Fin 8) (line : Nat) (l : AgentLine) (s : State), agentFind s (coreAgent c) line = some l →
    l.st = .s ∨ l.st = .e ∨ l.st = .m → exec (.agentLoad c line) s = .next (emit s (.coreData c line (forwarded (coreOf s c) line l.data)))) ∧
  (∀ (c : Fin 8) (line : Nat) (s : State), agentFind s (coreAgent c) line = none → (coreOf s c).miss = none → exec (.agentLoad c line) s =
    .next (toHome (agentPut (coreSet s c { coreOf s c with miss := some line, pendInv := (coreOf s c).pendInv.filter (· ≠ line) })
      { agent := coreAgent c, line := line, st := .isD, core := c }) .rdS (coreAgent c) line [])) ∧
  (∀ (c : Fin 8) (addr : Nat) (b : Bytes) (s : State),
    ((coreOf s c).storeBuf.length < 16 → exec (.agentStore c addr b) s =
      .next (drainStores (coreSet s c { coreOf s c with storeBuf := (coreOf s c).storeBuf ++ [⟨addr, b⟩] }) c 16)) ∧
    (16 ≤ (coreOf s c).storeBuf.length → exec (.agentStore c addr b) s = .next (emit s (.coreWait c (addr / 64)))))

/-- O33: Homes on the Girth ring: requests, the answers of a round, DONE, writebacks, the guards and the back-invalidate answers.
Cites: R137, R150, R228, R235, R236, R240, R243, R249, R250, R252, R254, R256. -/
def Obligations.RingHomes : Prop :=
  (∀ (a : Fin 5) (line : Nat) (p : Bool) (s : State), hostVisible s line = true → exec (.rdX a line p) s =
    .next (record (setF (bump (emit s (.ring .nackRefused a line [])) Reg.GRT_STAT_NACK_REFUSED 1) Reg.GRT_EVENTS_RDX_REFUSED)
      Ev.RDX_REFUSED a (le 6 line))) ∧
  (∀ (a : Fin 5) (line : Nat) (p : Bool) (s : State), busyFind s line = none → sliceBusy s (treeSlice line) < 64 →
    exec (.rdS a line p) s = .next (takeReq s ⟨line, .rdS, a, p⟩) ∧
    (hostVisible s line = false → exec (.rdX a line p) s = .next (takeReq s ⟨line, .rdX, a, p⟩))) ∧
  (∀ (a : Fin 5) (line : Nat) (t : HomeTxn) (s : State), busyFind s line = some t → sliceQueued s (treeSlice line) false = 256 →
    exec (.rdS a line false) s = .next (bump (emit s (.ring .nack a line [])) Reg.GRT_STAT_NACK_RETRY 1)) ∧
  (∀ (a : Fin 5) (line : Nat) (d : Bytes) (t : HomeTxn) (s : State), busyFind s line = some t → a.val ∈ t.waiting →
    let u := { t with waiting := t.waiting.filter (· ≠ a.val) }
    exec (.ackI a line) s = .next (roundCheck (busyPut s u) u) ∧
    exec (.ackS a line) s = .next (roundCheck (busyPut s { u with anyS := true }) { u with anyS := true }) ∧
    exec (.ackData a line d) s = .next (roundCheck (busyPut (writeThrough s line d) { u with anyS := u.anyS || decide (u.req.kind = .rdS) })
      { u with anyS := u.anyS || decide (u.req.kind = .rdS) }) ∧
    (((agentFind s a line).map AgentLine.landed) = some false → exec (.wbPending a line) s =
      .next (roundCheck (busyPut (bump s Reg.GRT_STAT_WBP_WB_PENDING 1) { u with wbp := u.wbp ++ [a.val] }) { u with wbp := u.wbp ++ [a.val] })) ∧
    exec (.snoopGuardExpired a line) s = .next (roundCheck (busyPut (isolateAgent (reportFault (setF s Reg.GRT_EVENTS_GUARD_EXPIRED)
      (if a.val = 0 ∨ a.val = 4 then .ring else .agent a) Ev.SNOOP_GUARD_EXPIRED.code a (if a.val = 0 ∨ a.val = 4 then 4 else 2) (le 6 line)) a)
      { u with wbp := t.wbp.filter (· ≠ a.val) }) { u with wbp := t.wbp.filter (· ≠ a.val) })) ∧
  (∀ (a : Fin 5) (line : Nat) (s : State), busyFind s line = none → exec (.ackI a line) s = .next (protocolError s 15 0 5 line) ∧
    exec (.ackS a line) s = .next (protocolError s 15 0 6 line) ∧ (∀ d, exec (.ackData a line d) s = .next (protocolError s 15 0 7 line)) ∧
    exec (.done a line) s = .next (protocolError s 15 0 13 line) ∧ exec (.snoopGuardExpired a line) s = .next s ∧
    (∀ d, agentFind s a line = none → agentFind (emit (writeThrough s line d) (.ring .wbAck a line [])) a line = none →
      busyFind (emit (writeThrough s line d) (.ring .wbAck a line [])) line = none →
      exec (.wb a line d) s = .next (emit (writeThrough s line d) (.ring .wbAck a line [])))) ∧
  (∀ (a : Fin 5) (line : Nat) (t : HomeTxn) (s : State), busyFind s line = some t → t.granted = true → t.req.requester = a.val →
    exec (.done a line) s = .next (takeNext (busyDrop s line) line)) ∧
  (∀ (n : Fin 64) (key : Nat) (t : HomeTxn) (s : State), busyFind s key = some t → n.val ∈ t.bi →
    exec (.birspi n key) s = .next (biAnswered s key { t with bi := t.bi.filter (· ≠ n.val) }) ∧
    exec (.biconflict n key) s = .next (emit s (.biConflictAck n key)) ∧
    exec (.bisnpGuardExpired n key) s = .next (biAnswered (fault (hostViolation (ldSet s n { ldOf s n with fenced := true })
      (ldPort s n) (some n) 6) (.ld n) Ev.SHARER_FENCED n (le 6 key)) key { t with bi := t.bi.filter (· ≠ n.val) })) ∧
  (∀ (n : Fin 64) (key : Nat) (s : State), busyFind s key = none →
    exec (.birspi n key) s = .next (hostViolation s (ldPort s n) (some n) 5) ∧
    exec (.biconflict n key) s = .next (hostViolation s (ldPort s n) (some n) 5) ∧ exec (.bisnpGuardExpired n key) s = .next s)

/-- O34: Keeper cores' fences and uncached accesses, and the Tree cache's fills, walks and maintenance operations complete.
Cites: R11, R12, R189, R190, R201, R213, R220, R221, R222, R493. -/
def Obligations.KeeperAndTreeCommands : Prop :=
  (∀ (c : Fin 8) (line off : Nat) (b : Bytes) (s : State), amFind (coreOf s c).combine line = none → (coreOf s c).combine.length < 8 →
    exec (.nonTemporalStore c line off b) s =
      .next (coreSet s c { coreOf s c with combine := (coreOf s c).combine ++ [(line, storeLine (off % 64) b)] })) ∧
  (∀ (c : Fin 8) (addr : Nat) (w : Bool) (s : State),
    ((coreOf s c).uncached.length < 64 → exec (.uncachedAccess c addr w false) s =
      .next (emit (coreSet s c { coreOf s c with uncached := (coreOf s c).uncached ++ [(addr, false)] }) (.uncached c addr w))) ∧
    (64 ≤ (coreOf s c).uncached.length → exec (.uncachedAccess c addr w false) s = .next (emit s (.coreWait c (addr / 64))))) ∧
  (∀ (c : Fin 8) (s : State),
    ((coreOf s c).uncached = [] → exec (.fenceFCore c) s = .next (emit (coreSet s c { coreOf s c with fence := none }) (.fenceDone c))) ∧
    ((coreOf s c).uncached ≠ [] → exec (.fenceFCore c) s = .next (coreSet s c { coreOf s c with fence := some ⟨true, 0⟩ })) ∧
    exec (.fenceSCore c) s = .next (emit (coreSet s c { coreOf s c with fence := none }) (.fenceDone c))) ∧
  (∀ (c : Fin 8) (s : State),
    let u := combineDrain (drainStores s c 16) c 8
    let v := coreSet u c { coreOf u c with pendInv := [] }
    (fenceMet u c ⟨true, 1⟩ = true → exec (.fenceFClu c) s = .next (emit (coreSet u c { coreOf u c with fence := none }) (.fenceDone c))) ∧
    (fenceMet v c ⟨true, 2⟩ = true → exec (.fenceFSys c) s = .next (emit (coreSet v c { coreOf v c with fence := none }) (.fenceDone c))) ∧
    (fenceMet u c ⟨false, 1⟩ = true → exec (.fenceSClu c) s = .next (emit (coreSet u c { coreOf u c with fence := none }) (.fenceDone c))) ∧
    (fenceMet u c ⟨false, 2⟩ = true → exec (.fenceSSys c) s = .next (emit (coreSet u c { coreOf u c with fence := none }) (.fenceDone c)))) ∧
  (∀ (line : Nat) (t u : TreeLine) (d : Bytes) (p : Bool) (s : State), treeFind s line = some t → t.st = .fill → t.arrived = some (d, p) →
    treeFind (retryWay (fillDone s t d p)) line = some u → wayDisabled (retryWay (fillDone s t d p)) (treeSlice line) u.way = false →
    exec (.treeFillDone line) s = .next (retryWay (fillDone s t d p))) ∧
  (∀ (line : Nat) (s : State), treeFind s line = none → exec (.treeFillDone line) s = .next s) ∧
  (∀ (e : Nat) (s : State), s.tree.walks.filter (fun w => w.entry = e) = [] → exec (.treeWalkDone e) s = .next s) ∧
  (∀ (e : Nat) (w : Walk) (s : State), s.tree.walks = [w] → w.entry = e → exec (.treeWalkDone e) s =
    .next (let t := { walkRun s w with tree := { (walkRun s w).tree with walks := (walkRun s w).tree.walks.filter (fun x => x.entry ≠ e) } }
      if t.tree.walks = [] then setF t Reg.TRE_EVENTS_WALK_DONE else t)) ∧
  (∀ (s : State), s.tree.maintOp = none → s.cin.phase ≠ .commit → (maintRange s).1 ≤ (maintRange s).2 → (maintRange s).2 < 2 ^ 37 →
    let go := fun op : Nat => { wr (wr (wr s Reg.TRE_MAINT_CTRL_OP op)
      Reg.TRE_MAINT_CTRL_ABORT_RESULT 0) Reg.TRE_MAINT_CTRL_STATUS 0 with tree := { s.tree with maintOp := some (op, maintRange s) } }
    exec .clean s = .next (go 0) ∧ exec .cleanInv s = .next (go 1) ∧ exec .inv s = .next (go 2)) ∧
  (∀ s : State, s.tree.maintOp = none → s.cin.phase = .commit → exec .clean s =
    .next (wr (wr (wr s Reg.TRE_MAINT_CTRL_OP 0) Reg.TRE_MAINT_CTRL_ABORT_RESULT 0) Reg.TRE_MAINT_CTRL_STATUS 0x70)) ∧
  (∀ (op lo hi : Nat) (s : State), s.tree.maintOp = some (op, lo, hi) →
    exec .clean s = .next s ∧ exec .cleanInv s = .next s ∧ exec .inv s = .next s ∧
    exec .treMaintDone s = .next (wr { maintProcess s op lo hi with tree := { (maintProcess s op lo hi).tree with maintOp := none } }
      Reg.TRE_MAINT_CTRL_STATUS 0) ∧
    exec (.treMaintAbort 0) s = .next (wr (wr { s with tree := { s.tree with maintOp := none } } Reg.TRE_MAINT_CTRL_STATUS 0x20)
      Reg.TRE_MAINT_CTRL_ABORT_RESULT 0x20)) ∧
  (∀ (k : Nat) (s : State), s.tree.maintOp = none → exec (.treMaintAbort k) s = .next (wr s Reg.TRE_MAINT_CTRL_ABORT_RESULT 0x21) ∧
    exec .treMaintDone s = .next s)

/-- O35: DRAM arbitration, writes, returns, refresh, temperatures, retraining, and the hold-up readings complete.
Cites: R214, R265, R266, R268, R272, R275, R281, R282, R284, R286, R293, R297. -/
def Obligations.DramCommands : Prop :=
  (∀ (ch : Fin 16) (b : Bool) (s : State) (c : Chan), chanOf s ch = c → c.st = .running →
    (5 ≤ (c.sub b).refDue → exec (.dramArbitrate ch b) s =
      .next (chanSet s ch (c.subSet b { c.sub b with refDue := (c.sub b).refDue - 1, open_ := [] }))) ∧
    (∀ r : DRead, (c.sub b).refDue < 5 → c.panicMirror = false → c.panicDrain = false → (c.sub b).writes = [] → c.mirrorQ = [] →
      c.drainQ = [] → (c.sub b).reads = [r] → r.issued = none → urgency s r = 0 →
      exec (.dramArbitrate ch b) s = .next (chanSet s ch (c.subSet b (openRow s { c.sub b with
        reads := [{ r with issued := some (dramArray s r.line, decide (r.line ∈ s.dram.poison)) }] } r.line))))) ∧
  (∀ (ch : Fin 16) (b : Bool) (s : State), (chanOf s ch).st ≠ .running → exec (.dramArbitrate ch b) s = .next s) ∧
  (∀ (line : Nat) (s : State) (e : WbbEntry), wbbFind s line = some e →
    (e.fetch = false → wrqFull s line = false → exec (.dramWriteEnqueue line) s =
      let t := wrqPut { s with tree := { s.tree with wbb := s.tree.wbb.filter (fun x => x.line ≠ line) } } line (plineBytes e.data) e.poison
      .next (admitUpdate (if (homeOfDram s line).isSome then markDirty t line e.lo else t))) ∧
    (e.fetch = true ∨ wrqFull s line = true → exec (.dramWriteEnqueue line) s = .next s)) ∧
  (∀ (ch : Fin 16) (b : Bool) (pool map : Option Nat) (s : State) (r : DRead) (d : Bytes) (p : Bool),
    ((chanOf s ch).sub b).reads.find? (fun r => r.issued.isSome) = some r → r.issued = some (d, p) →
    let t := bump64 (chanSet s ch ((chanOf s ch).subSet b { (chanOf s ch).sub b with reads := ((chanOf s ch).sub b).reads.erase r }))
      (Reg.DRC_CH_STAT_RD_LO_RD_LO ch) (Reg.DRC_CH_STAT_RD_HI_RD_HI ch) 1
    exec (.dramReadReturn ch b .good pool map) s = .next (deliver t r d p) ∧
    (∀ dev rank, exec (.dramReadReturn ch b (.corrected dev rank) pool map) s = .next (correctLine (deliver t r d p) ch r.line dev rank d)) ∧
    exec (.dramReadReturn ch b .uncorrectable pool map) s = .next (if r.purpose = .verify
      then retireFrame (errAddr t ch r.line 0x1F 0 true) ch r.line else resolveLine (errAddr t ch r.line 0x1F 0 true) ch r.line pool map)) ∧
  (∀ (ch : Fin 16) (b : Bool) (s : State) (c : Chan), chanOf s ch = c → (c.st = .running ∨ c.st = .retraining) →
    exec (.dramRefreshDue ch b) s = .next (chanSet s ch (c.subSet b { c.sub b with refDue := min 5 ((c.sub b).refDue + 1) }))) ∧
  (∀ (ch : Fin 16) (dimm : Fin 2) (t : Nat) (x : SmbAnswer) (s : State), contained s (.smb1 (2 * ch.val + dimm.val)) = false →
    (95 < t → t ≤ 255 → exec (.dimmTempPoll ch dimm (.value t) x) s =
      .next (fault (dimmHot s ch (chanOf s ch).hot dimm) (.channel ch) ⟨Ev.DIMM_TEMP_HIGH.code, 2⟩ ch (le 1 t))) ∧
    (85 < t → t ≤ 95 → dimm.val ∉ (chanOf s ch).hot → exec (.dimmTempPoll ch dimm (.value t) x) s =
      .next (record (dimmHot s ch (chanOf s ch).hot dimm) Ev.DIMM_TEMP_HIGH ch (le 1 t))) ∧
    (80 ≤ t → t ≤ 85 → exec (.dimmTempPoll ch dimm (.value t) x) s = .next s) ∧
    (t < 80 → exec (.dimmTempPoll ch dimm (.value t) x) s = .next (chanSet s ch { chanOf s ch with
      hot := (chanOf s ch).hot.filter (fun d => d ≠ dimm.val) }))) ∧
  (∀ (ch : Fin 16) (s : State), (chanOf s ch).st = .retraining →
    let t := bump (chanSet s ch { chanOf s ch with st := .running }) (Reg.DRC_CH_RETRAIN_DONE ch) 1
    let n := satTo 7 (rd s (Reg.DRC_CH_RETRAIN_FAIL_RUN ch) + 1)
    let u := setF (wr (wr t (Reg.DRC_CH_RETRAIN_LAST ch) 2) (Reg.DRC_CH_RETRAIN_FAIL_RUN ch) n) (Reg.DRC_CH_EVENTS_RETRAIN_FAIL ch)
    exec (.dramRetrainDone ch true) s = .next (wr (wr t (Reg.DRC_CH_RETRAIN_LAST ch) 1) (Reg.DRC_CH_RETRAIN_FAIL_RUN ch) 0) ∧
    (n ≠ 4 → exec (.dramRetrainDone ch false) s = .next (reportFault u (.channel ch) Ev.DRAM_RETRAIN_FAIL.code ch 1 [])) ∧
    (n = 4 → exec (.dramRetrainDone ch false) s =
      .next (alert (reportFault u (.channel ch) Ev.DRAM_RETRAIN_FAIL.code ch 2 []) Ev.DRAM_RETRAIN_FAIL.code))) ∧
  (∀ (v : Nat) (x : SmbAnswer) (s : State), contained s .smb0 = false → v ≤ 60000 → exec (.holdupSmbusPoll (.value v) x) s =
    .next (holdupCheck { s with cin := { s.cin with reported := v, smbOk := true, smbFailed := none } })) ∧
  (∀ s : State, contained s .smb0 = false → contained (smbViolation s .smb0 2) .smb0 = false →
    exec (.holdupSmbusPoll .nack .nack) s =
    let t := smbViolation (smbViolation s .smb0 2) .smb0 2
    .next (holdupCheck { t with cin := { t.cin with
      smbFailed := some (t.cin.smbFailed.getD t.time), smbOk := t.cin.smbOk && decide (t.time < t.cin.smbFailed.getD t.time + secs 1) } })) ∧
  (∀ (uv : Nat) (s : State), exec (.holdupSenseSample uv) s = .next (holdupCheck { s with cin := { s.cin with
    sensed := satTo 65535 (satTo 1000000 uv * odNum s 0x800203 2 1200 / 1000000), senseOk := decide (10000 ≤ uv) } }))

/-- O36: The Drain takes chunks; stripes are written, committed, failed and abandoned; zones are reclaimed: each command completes.
Cites: R293, R303, R304, R305, R306, R308, R341, R361, R362, R363, R364, R367. -/
def Obligations.DrainAndStripes : Prop :=
  (∀ s : State, s.twin.role ≠ .fenced →
    (∀ c, nextChunk s = some c → exec .drainTakeChunk s = .next (takeChunk s c)) ∧
    (nextChunk s = none → exec .drainTakeChunk s = .next s)) ∧
  (∀ s : State, s.twin.role = .fenced → exec .drainTakeChunk s = .next s ∧ ∀ r, exec (.stripeWrite r) s = .next s) ∧
  (∀ (n : Nat) (s : State), s.twin.role ≠ .fenced →
    (s.cin.chunks ≠ [] → pickSet s none = some n → s.awl.journal.length < 6144 →
      (∀ k t, stripeDue s s.cin.chunks (setOf s n).n = true → takeStripe s n = some (k, t) →
        exec (.stripeWrite false) s = .next (writeStripe { t with
          cin := { t.cin with chunks := s.cin.chunks.drop (setOf s n).n } } n k (s.cin.chunks.take (setOf s n).n) false)) ∧
      (stripeDue s s.cin.chunks (setOf s n).n = false → exec (.stripeWrite false) s = .next s)) ∧
    (s.cin.chunks ≠ [] → pickSet s none = some n → stripeDue s s.cin.chunks (setOf s n).n = true → 6144 ≤ s.awl.journal.length →
      exec (.stripeWrite false) s = .next (journalFull s)) ∧
    (s.cin.chunks ≠ [] → pickSet s none = none → exec (.stripeWrite false) s = .next (zonesExhausted s)) ∧
    (s.cin.chunks = [] → exec (.stripeWrite false) s = .next s) ∧
    (∀ k t, s.awl.relocQ ≠ [] → pickSet s (replicaAvoid s s.awl.relocQ) = some n → s.awl.journal.length < 6144 → takeStripe s n = some (k, t) →
      exec (.stripeWrite true) s = .next (writeStripe { t with
        awl := { t.awl with relocQ := s.awl.relocQ.drop (setOf s n).n } } n k (s.awl.relocQ.take (setOf s n).n) true))) ∧
  (∀ (n : Fin 8) (k : Nat) (s : State) (x : Stripe), s.awl.stripes.find? (fun x => x.set = n.val ∧ x.stripe = k) = some x →
    (x.waiting = [] → exec (.stripeCommit n k) s = .next (commitStripe s x)) ∧
    (x.waiting ≠ [] → exec (.stripeCommit n k) s = .next s)) ∧
  (∀ (n : Fin 8) (k col sl : Nat) (s : State) (x : Stripe), s.awl.stripes.find? (fun x => x.set = n.val ∧ x.stripe = k) = some x →
    (col ∈ x.waiting → columnSlot s n col = some sl →
      let u := memberFailed s sl 5
      let v := { u with
        awl := { u.awl with
        stripes := u.awl.stripes.map (fun (y : Stripe) => if y.entry = x.entry then
          { y with waiting := y.waiting.filter (· ≠ col), missing := Sys2Proof.Machine.setBit y.missing col true } else y) } }
      (setStateFor v n ≠ .failed → exec (.stripeWriteFailed n k col) s = .next v) ∧
      (setStateFor v n = .failed → exec (.stripeWriteFailed n k col) s =
        .next (abandonStripe v ((v.awl.stripes.find? (fun y => y.entry = x.entry)).getD x)))) ∧
    (col ∉ x.waiting → exec (.stripeWriteFailed n k col) s = .next s)) ∧
  (∀ (zone : Nat) (s : State), zone ∈ s.cin.ownedZones → zone ∉ s.cin.freeZones → zoneBusy s zone = false → s.cin.phase = .normal →
    let cap := zoneStripes (setOf s (zoneSet zone)).n * (setOf s (zoneSet zone)).n
    (zoneLive s zone * 100 < cap * rd s Reg.AWL_CTRL_RECLAIM_PCT →
      (zoneLive s zone = 0 → exec (.zoneReclaim zone) s = .next (freeZonesNow s)) ∧
      (zoneLive s zone ≠ 0 → exec (.zoneReclaim zone) s =
        .next { s with awl := { s.awl with relocQ := s.awl.relocQ ++ relocated s zone, reclaiming := some zone } })) ∧
    (cap * rd s Reg.AWL_CTRL_RECLAIM_PCT ≤ zoneLive s zone * 100 → exec (.zoneReclaim zone) s = .next s))

/-- O37: The steps of COMMIT in order, SW_COMMIT, requalified power-up: each command completes.
Cites: R29, R313, R314, R315, R317, R318, R319, R337, R365, R368, R483, R518. -/
def Obligations.CommitSteps : Prop :=
  (∀ s : State, s.cin.phase ≠ .commit → exec .commitStepEnd s = .next s) ∧
  (∀ s : State, s.cin.phase = .commit →
    (s.cin.step = 1 → exec .commitStepEnd s = .next (commitShed s)) ∧
    (s.cin.step = 2 → s.host.reads = [] → s.host.writes = [] → s.per.barriers = [] → exec .commitStepEnd s = .next (commitFlush s)) ∧
    (s.cin.step = 2 → s.host.reads ≠ [] ∨ s.host.writes ≠ [] ∨ s.per.barriers ≠ [] → exec .commitStepEnd s = .next s) ∧
    (s.cin.step = 3 → s.per.welt = [] ∨ s.boot.stage < 11 → s.per.skive = [] → (∀ t ∈ s.tree.lines, t.st ≠ .dirty) → s.tree.wbb = [] →
      exec .commitStepEnd s = .next (commitDrain s)) ∧
    (s.cin.step = 3 → s.per.skive ≠ [] ∨ s.tree.wbb ≠ [] ∨ (∃ t ∈ s.tree.lines, t.st = .dirty) → exec .commitStepEnd s = .next (commitRelease s)) ∧
    (s.cin.step = 4 → s.cin.granules = [] → s.awl.stripes = [] → s.cin.chunks = [] → s.per.welt = [] →
      exec .commitStepEnd s = .next (commitJournal s)) ∧
    (s.cin.step = 4 → s.cin.granules ≠ [] → drainStops s = true → exec .commitStepEnd s = .next (commitJournal (drainEarly s))) ∧
    (s.cin.step = 4 → s.cin.granules ≠ [] → drainStops s = false → exec .commitStepEnd s = .next s) ∧
    (s.cin.step = 5 → 3 ≤ s.cin.journalCopies ∨ journalOut s = false → exec .commitStepEnd s = .next (commitRails s)) ∧
    (s.cin.step = 5 → s.cin.journalCopies < 3 → journalOut s = true → exec .commitStepEnd s = .next s) ∧
    (s.cin.step = 6 → (∀ e ∈ s.ham.rails, e.2.en = false ∧ (e.2.pg = false ∨ e.2.stuck = true)) →
      exec .commitStepEnd s = .next (commitEnd s)) ∧
    (s.cin.step = 6 → (∃ e ∈ s.ham.rails, e.2.en = true) → exec .commitStepEnd s = .next s)) ∧
  (∀ s : State, (commitShed s).cin.step = 2 ∧ (commitDrain s).cin.step = 4 ∧ (commitRails s).cin.step = 6 ∧ (drainEarly s).cin.early = true) ∧
  (∀ (m : Fin 11) (v : Word) (s : State), masterRefused s m 0x180060 = none → domOn s 52 = true →
    (v.toNat = 0x434D4954 → exec (.swCommit m v) s = .next (commitTrigger s 6)) ∧
    (v.toNat ≠ 0x434D4954 → exec (.swCommit m v) s = .next s)) ∧
  (∀ s : State, s.ham.seq = .requal → s.ham.goodSince.isSome = true → supplyGood s = true →
    exec .requalPowerUp s = .next (powerUpStart (record { requalReset s with
      fm := { (requalReset s).fm with
        s5at := if s.fm.s5restartPending then some s.time else s.fm.s5at
        s5restartPending := false } } Ev.REQUAL_POWER_UP 0xFF []))) ∧
  (∀ s : State, s.ham.seq ≠ .requal ∨ supplyGood s = false → exec .requalPowerUp s = .next s)

/-- O38: OBJECT_CREATE, streams, segment loads, evictions and frame moves, and the map checkpoint complete.
Cites: R279, R367, R386, R395, R402, R403, R404, R405, R412, R414, R415, R418. -/
def Obligations.ObjectsStreamsTiers : Prop :=
  (∀ (n : Fin 64) (off size cls pol fl base first id : Nat) (s : State), vendorServed s n →
    off % 0x200000 = 0 → size % 0x200000 = 0 → size / 0x200000 ≠ 0 → policyOk s cls pol fl = true →
    carveRange s n (off / 0x200000) (size / 0x200000) = some (base, first) → freeObjId s = some id →
    fitsQuota (quota s (rd s (Reg.HPT_LD_CFG_TENANT n)) 3) (tenantT3 s (rd s (Reg.HPT_LD_CFG_TENANT n)) + size / 0x200000) = true →
    t3Fits s (size / 0x200000) = true →
    (pol ≠ 0 ∨ fitsQuota (quota s (rd s (Reg.HPT_LD_CFG_TENANT n)) 1) (tenantT1 s (rd s (Reg.HPT_LD_CFG_TENANT n)) + size / 0x200000) = true ∧
      size / 0x200000 ≤ (freeFrames s).length) →
    exec (.objectCreate n off size cls pol fl) s = .next (vendorReply (zeroSegs { s with tier := { s.tier with
      objs := s.tier.objs ++ [{ id := id, first := first, size := size / 0x200000, base := base, volatileClass := cls == 1,
                                policy := pol, replica := fl == 1 }] } } first (size / 0x200000) id) n .ok (le 4 id))) ∧
  (∀ (n : Fin 64) (obj desc start win mode fl dl page dev : Nat) (far : List (Nat × Bytes)) (r : Nat × Nat) (layers : List (Nat × Nat)) (s : State),
    objectServed s n obj r → desc % 64 = 0 → desc + 16 ≤ ldSegs s n * 0x200000 →
    readDescriptor s n desc (r.2 * 0x200000) far = some layers → 0 < win → win ≤ 64 → win ≤ layers.length → start < layers.length →
    mode ≤ 1 → fl ≤ 1 → dl ≤ 64 → lowestFree ((s.tier.streams.filter (fun t => t.ld = n.val)).map Stream.page) 64 = some page →
    lowestFree (s.tier.streams.map Stream.dev) 1024 = some dev →
    fitsQuota (quota s (rd s (Reg.HPT_LD_CFG_TENANT n)) 1) (tenantT1 s (rd s (Reg.HPT_LD_CFG_TENANT n)) + windowReserve layers win) = true →
    let t : Stream := { id := s.tier.nextStream % 65536, ld := n, page := page, dev := dev, obj := obj, layers := layers, window := win,
                        lastTouch := mode == 1, loop := fl == 1,
                        deadline := msec (if dl = 0 then rd s Reg.TIR_CTRL_DEADLINE else dl), oldest := start, fetched := start + win - 1 }
    exec (.streamOpen n obj desc start win mode fl dl far) s = .next (vendorReply ((windowLayers t).foldl
      (fun x k => fetchLayer x t k (if k = start then 1 else 3))
      { s with tier := { s.tier with streams := s.tier.streams ++ [t], nextStream := s.tier.nextStream + 1 } })
      n .ok (le 1 page ++ le 2 t.id ++ le 2 dev))) ∧
  (∀ (n slot : Fin 64) (w : Nat) (t : Stream) (s : State), s.tier.streams.find? (fun t => t.ld = n.val ∧ t.page = slot.val) = some t →
    (w < 65536 → w ∈ windowLayers t → exec (.layerDone n slot w) s = .next (if t.lastTouch then s else completeLayers s t w)) ∧
    (65536 ≤ w ∨ w ∉ windowLayers t → exec (.layerDone n slot w) s = .next (hostViolation s (ldPort s n) (some n) 3))) ∧
  (∀ (line : Nat) (s : State),
    let p := fun (h : HeldRead) => h.line = line && (match h.wait with | .stream _ => true | _ => false)
    let q := fun (h : HeldRead) => h.line = line && h.wait = .load
    (s.host.reads.any p = true → exec (.streamDeadline line) s = .next (record (setF (bump (poisonHeld s p) Reg.TIR_ERR_DEADLINE
      (s.host.reads.filter p).length) Reg.TIR_EVENTS_DEADLINE) Ev.STREAM_DEADLINE 0xFF (le 8 line))) ∧
    (s.host.reads.any p = false → exec (.streamDeadline line) s = .next s) ∧
    (s.host.reads.any q = true → exec (.loadLate line) s = .next (fault (setF (bump (poisonHeld s q) Reg.TIR_ERR_LOAD_LATE
      (s.host.reads.filter q).length) Reg.TIR_EVENTS_LOAD_LATE) .tier Ev.LOAD_LATE 0xFF (le 8 line))) ∧
    (s.host.reads.any q = false → exec (.loadLate line) s = .next s)) ∧
  (∀ (hs : Nat) (lines : List (Nat × Bytes)) (s : State), (segOf s hs).st = .loading → (segOf s hs).toT2 = none →
    (segOf s hs).wrote = false → 3 ≤ (segOf s hs).rank → s.cin.phase = .normal →
    exec (.segmentLoadDone hs lines) s = .next (admitUpdate (skiveWriteAll (releaseReads (warmLoaded (mergeReplay (bump64
      (segSet (lines.foldl (fun t l => frameLine t (segOf s hs).frame (l.1 % 32768) l.2) (frameClear s (segOf s hs).frame)) hs
        { segOf s hs with st := .t1, access := s.lck.count / 64, toT2 := none, wrote := false, lender := 0 })
      Reg.TIR_STAT_LOAD_LO_LOAD_LO Reg.TIR_STAT_LOAD_HI_LOAD_HI 1) hs) hs) hs)))) ∧
  (∀ (hs : Nat) (lines : List (Nat × Bytes)) (s : State), (segOf s hs).st ≠ .loading → exec (.segmentLoadDone hs lines) s = .next s) ∧
  (∀ s : State, freeTarget s ≤ (freeFrames s).length → exec .segmentEvict s = .next s) ∧
  (∀ (hs : Nat) (s : State), (freeFrames s).length < freeTarget s → s.cin.phase = .normal → fnOpen s .tir = true → segVictim s = some hs →
    (frameClean s (segOf s hs).frame = false → exec .segmentEvict s = .next (segSet s hs { segOf s hs with leaving := true })) ∧
    (frameClean s (segOf s hs).frame = true → leaseSlot s (segOf s hs).obj = none → exec .segmentEvict s =
      .next (frameFlush (segSet s hs { segOf s hs with st := .evicting, wrote := false, leaving := false, toT2 := none }) (segOf s hs).frame))) ∧
  (∀ (hs : Nat) (s : State), (segOf s hs).st = .evicting →
    (evictReady s hs (segOf s hs).frame = false → exec (.segmentEvictDone hs) s = .next s) ∧
    (evictReady s hs (segOf s hs).frame = true → (segOf s hs).toT2 = none → exec (.segmentEvictDone hs) s =
      .next (retryLoads (bump64 (frameClear (segSet s hs { segOf s hs with
        st := if (segOf s hs).chunks = [] ∧ (segOf s hs).poison = [] then .zero else .t3, frame := 0, toT2 := none }) (segOf s hs).frame)
        Reg.TIR_STAT_EVICT_LO_EVICT_LO Reg.TIR_STAT_EVICT_HI_EVICT_HI 1)))) ∧
  (∀ (hs : Nat) (s : State), ((segOf s hs).st = .moving → exec (.frameMoveDone hs) s =
      .next (releaseReads (segSet (frameMoved s (segOf s hs).frame (segOf s hs).toFrame) hs { segOf s hs with
      st := .t1, frame := (segOf s hs).toFrame, toFrame := 0 }) hs)) ∧
    ((segOf s hs).st ≠ .moving → exec (.frameMoveDone hs) s = .next s)) ∧
  (∀ s : State, (s.twin.role ≠ .fenced → 11 ≤ s.boot.stage → ∃ t, exec .tierCheckpoint s = .next t ∧
      t.awl.full = decide (6144 ≤ t.awl.journal.length) ∧ t.tier.ckptSeq = s.tier.ckptSeq + 1 ∧ t.tier.ckptAt = s.lck.count) ∧
    (s.twin.role = .fenced ∨ s.boot.stage < 11 → exec .tierCheckpoint s = .next s))

/-- O39: Leases of neighbour memory, as lender and as borrower: every message, timer and deadline completes.
Cites: R406, R407, R408, R409, R449, R450. -/
def Obligations.Leases : Prop :=
  (∀ (addr wanted : Nat) (s : State),
    (lending s = true → (∃ b ∈ s.tier.borrowers, b.addr = addr) →
      let fs := (freeFrames s).take (min (min wanted 4096) (odNum s 0x300302 4 0 * 512 - lentFrames s))
      exec (.leaseReq addr wanted) s = .next (emit { s with tier := { s.tier with
        borrowers := s.tier.borrowers.map (fun (b : Borrower) => if b.addr = addr then { b with frames := b.frames ++ fs } else b) } }
        (.lease false addr .grant fs s.tier.lendEpoch 0))) ∧
    (lending s = false → exec (.leaseReq addr wanted) s = .next s ∧ ∀ q p t c, exec (.leaseOpen addr q p t c) s = .next s)) ∧
  (∀ (addr q p t c : Nat) (s : State), lending s = true → leaseKey s ≠ 0xFFFF → exec (.leaseOpen addr q p t c) s =
    .next (emit (freeTaken { s with tier := { s.tier with borrowers := s.tier.borrowers.filter (fun x => x.addr ≠ addr) ++
        [{ (s.tier.borrowers.find? (fun x => x.addr = addr)).getD { addr := addr } with qpn := q, psn := p, salt := t, ctr := c }] } })
      (.lease false addr .accept [] (Config.serial.toNat % 2 ^ 32) (freeNow s).toNat))) ∧
  (∀ (addr : Nat) (frames : List Nat) (s : State), exec (.leaseReturn addr frames) s = .next { s with tier := { s.tier with
    borrowers := s.tier.borrowers.map (fun (b : Borrower) =>
      if b.addr = addr then { b with frames := b.frames.filter (fun f => !frames.contains f) } else b) } }) ∧
  (∀ (i : Fin 16) (frames : List Nat) (rkey epoch : Nat) (s : State), (lenderOf s i).up = true →
    ((lenderOf s i).frames = [] ∨ (lenderOf s i).epoch = epoch → exec (.leaseGrant i frames rkey epoch) s =
      .next (lenderSet s i { lenderOf s i with frames := ((lenderOf s i).frames ++ frames).dedup, rkey := rkey, epoch := epoch })) ∧
    ((lenderOf s i).frames ≠ [] → (lenderOf s i).epoch ≠ epoch → exec (.leaseGrant i frames rkey epoch) s =
      .next (lenderSet (loseT2 s (fun g => g.lender == i.val)) i
        { lenderOf s i with frames := frames.dedup, used := [], rkey := rkey, epoch := epoch })) ∧
    ((∀ f ∈ frames, f ∉ (lenderOf s i).frames) → exec (.leaseRecall i frames) s = .next s) ∧
    (frames ≠ [] → (∀ f ∈ frames, f ∈ (lenderOf s i).frames ∧ f ∉ (lenderOf s i).used) →
      (∀ e ∈ s.tier.segs, e.2.st ≠ .t2) → (lenderOf s i).recalling = none → exec (.leaseRecall i frames) s = .next (record (setF (emit (lenderSet s i { lenderOf s i with
        frames := (lenderOf s i).frames.filter (fun f => !frames.contains f) }) (.lease true i .ret frames 0 0)) Reg.TIR_EVENTS_RECALL)
        Ev.LEASE_RECALLED i (le 4 frames.length))) ∧
    ((lenderOf s i).frames = [] ∨ (lenderOf s i).epoch = epoch →
      exec (.leasePing true i epoch) s = .next (lenderSet s i { lenderOf s i with epoch := epoch })) ∧
    ((lenderOf s i).frames ≠ [] → (lenderOf s i).epoch ≠ epoch → exec (.leasePing true i epoch) s =
      .next (lenderSet (loseT2 s (fun g => g.lender == i.val)) i { lenderOf s i with frames := [], used := [], epoch := epoch })) ∧
    exec (.leaseGraceExpired i) s = .next (lenderSet (loseT2 s (fun g => g.lender == i.val)) i
      { lenderOf s i with up := false, frames := [], used := [], recalling := none })) ∧
  (∀ (i : Fin 16) (frames : List Nat) (k e : Nat) (s : State), (lenderOf s i).up = false →
    exec (.leaseGrant i frames k e) s = .next s ∧ exec (.leaseRecall i frames) s = .next s ∧ exec (.leasePing true i e) s = .next s ∧
    exec (.leaseGraceExpired i) s = .next s) ∧
  (∀ (who e : Nat) (s : State), exec (.leasePing false who e) s = .next s) ∧
  (∀ s : State, exec .leasePingTimer s = .next (s.tier.borrowers.foldl
    (fun t b => emit t (.lease false b.addr .ping [] s.tier.lendEpoch 0))
    ((s.tier.lenders.filter (fun l => l.2.up)).foldl (fun t l => emit t (.lease true l.1 .ping [] l.2.epoch 0)) s))) ∧
  (∀ (who : Nat) (s : State),
    exec (.leaseRecallDeadline true who) s = .next { s with tier := { s.tier with borrowers := s.tier.borrowers.map (fun (b : Borrower) =>
      if b.addr = who then
        { b with frames := b.frames.filter (fun f => !((b.recalling.map (fun r => r.1.contains f)).getD false)), recalling := none }
      else b) } } ∧
    (∀ fs d, (lenderOf s who).recalling = some (fs, d) → exec (.leaseRecallDeadline false who) s =
      .next (lenderSet (loseT2 s (fun g => g.lender == who && fs.contains g.frame)) who { lenderOf s who with
        frames := (lenderOf s who).frames.filter (fun f => !fs.contains f)
        used := (lenderOf s who).used.filter (fun f => !fs.contains f), recalling := none })) ∧
    ((lenderOf s who).recalling = none → exec (.leaseRecallDeadline false who) s = .next s)) ∧
  (∀ (i : Fin 16) (q p t c : Nat) (s : State),
    let want := min 4096 (odNum s ((0x3010 + i.val) * 256 + 3) 4 0 * 512 - (lenderOf s i).frames.length)
    let u := lenderSet s i { lenderOf s i with up := true, opening := none, tries := 0, qpn := q, psn := p, salt := t, ctr := c }
    ((lenderOf s i).opening.isSome = true → exec (.leaseAccept i q p t c) s =
      .next (if want = 0 then u else emit u (.lease true i .req [] want 0))) ∧
    ((lenderOf s i).opening = none → exec (.leaseAccept i q p t c) s = .next s ∧ exec (.leaseOpenResend i) s = .next s) ∧
    ((lenderOf s i).opening.isSome = true → (lenderOf s i).tries < 9 → exec (.leaseOpenResend i) s = .next (sendLeaseOpen s i)) ∧
    ((lenderOf s i).opening.isSome = true → 9 ≤ (lenderOf s i).tries → exec (.leaseOpenResend i) s =
      .next (fault (lenderSet s i { lenderOf s i with opening := none, tries := 0 }) .latigo Ev.LEASE_OPEN_FAILED i [])))

/-- O40: Latigo commands in their slots: protection domains, completion queues, connections and regions complete with OK.
Cites: R424, R425, R426, R427, R432, R441, R445, R446, R449. -/
def Obligations.LatigoManagement : Prop :=
  (∀ (who : Issuer) (slot : Fin 128) (tag ten : Nat) (s : State), latServed s who slot →
    (∀ pd, mayName s who ten = true → freeKey s.lat.pds 4096 = some pd → exec (.pdAlloc who slot tag ten) s =
      .next (latResult (latSet s { s.lat with pds := amSet s.lat.pds pd ten }) slot tag .ok (le 2 pd))) ∧
    (∀ pd, amFind s.lat.pds pd = some ten → mayName s who ten = true → (∀ c ∈ s.lat.conns, c.2.pd ≠ pd) →
      (∀ r ∈ s.lat.regions, r.2.pd = pd → r.2.st = .free) → exec (.pdFree who slot tag pd) s =
      .next (latResult (latSet s { s.lat with pds := amErase s.lat.pds pd }) slot tag .ok []))) ∧
  (∀ (who : Issuer) (slot : Fin 128) (tag owner dpa n qslot q : Nat) (s : State), latServed s who slot →
    pow2In n 64 65536 = true → inRange s owner dpa (32 * n) = true → queueSlotFree s owner qslot = true →
    mayName s who (tenantOf s owner) = true → freeKey s.lat.cqs 16384 = some q →
    exec (.cqCreate who slot tag owner dpa n qslot) s = .next (latResult (latSet s { s.lat with
      cqs := amSet s.lat.cqs q { ld := owner, dpa := dpa, entries := n, slot := qslot } }) slot tag .ok (le 2 q))) ∧
  (∀ (who : Issuer) (slot : Fin 128) (tag k : Nat) (q : LCq) (s : State), latServed s who slot → amFind s.lat.cqs k = some q →
    mayName s who (tenantOf s q.ld) = true → (∀ c ∈ s.lat.conns, (c.2.sq.entries = 0 ∨ c.2.sqCq ≠ k) ∧ (c.2.rq.entries = 0 ∨ c.2.rqCq ≠ k) ∧
      ∀ w ∈ c.2.wqes, w.op ≠ 6) →
    exec (.cqDestroy who slot tag k) s = .next (latResult (latSet s { s.lat with cqs := amErase s.lat.cqs k }) slot tag .ok [])) ∧
  (∀ (who : Issuer) (slot : Fin 128) (tag id : Nat) (p : ConnParams) (s : State), latServed s who slot → connOk s p = true →
    mayName s who (tenantOf s p.owner) = true → connForeign s p = false → contained s (.peer p.peer) = false →
    (p.creditMode = 1 → (s.lat.conns.filter (fun c => c.2.standard)).length < odNum s 0x700107 2 1024) →
    residents s < 4096 → freeKey s.lat.conns 65536 = some id → exec (.connCreate who slot tag p) s =
      .next (latResult (connPut s id (newConn p id s.time)) slot tag .ok (le 2 id ++ le 3 (0x10000 + id)))) ∧
  (∀ (who : Issuer) (slot : Fin 128) (tag id key salt : Nat) (c : Conn) (s : State), latServed s who slot → connFind s id = some c →
    mayName s who (tenantOf s c.owner) = true →
    exec (.connModifyError who slot tag id) s = .next (latResult (connError s id) slot tag .ok []) ∧
    (key < 8192 → keyForeign s (tenantOf s c.owner) key = false →
      exec (.connModifyTxKey who slot tag id key salt) s =
        .next (latResult (connPut s id { c with txKey := key, txSalt := salt, keyPhase := 1 - c.keyPhase }) slot tag .ok []) ∧
      exec (.connModifyRxKey who slot tag id 0 key) s = .next (latResult (connPut s id { c with rxKey0 := key }) slot tag .ok []) ∧
      exec (.connModifyRxKey who slot tag id 1 key) s = .next (latResult (connPut s id { c with rxKey1 := key }) slot tag .ok [])) ∧
    (c.st = .error → exec (.connDestroy who slot tag id) s =
      .next (latResult (keySweep (latSet s { s.lat with conns := amErase s.lat.conns id })) slot tag .ok [])) ∧
    (c.st ≠ .error → exec (.connDestroy who slot tag id) s = .next (latResult s slot tag .busyRetry []))) ∧
  (∀ (who : Issuer) (slot : Fin 128) (tag owner pd base len acc k : Nat) (s : State), latServed s who slot →
    0 < len → len ≤ 2 ^ 40 → acc < 8 → inRange s owner base len = true → mayName s who (tenantOf s owner) = true →
    amFind s.lat.pds pd = some (tenantOf s owner) → lowestFree ((s.lat.regions.filter (fun r => r.2.st ≠ .free)).map Prod.fst) 262144 = some k →
    let gen := match regionFind s k with | some r => (r.gen + 1) % 2 ^ 14 | none => 0
    exec (.regionRegister who slot tag owner pd base len acc) s = .next (latResult (regionPut s k
      { gen := gen, st := .valid, pd := pd, owner := owner, base := base, len := len, acc := acc }) slot tag .ok (le 4 (k + 2 ^ 18 * gen)))) ∧
  (∀ (who : Issuer) (slot : Fin 128) (tag rkey : Nat) (r : Region) (s : State), latServed s who slot →
    regionFind s (rkey % 2 ^ 18) = some r → r.st = .valid → r.gen = rkey / 2 ^ 18 → mayName s who (tenantOf s r.owner) = true →
    (r.inflight = 0 → exec (.regionRevoke who slot tag rkey) s =
      .next (latResult (regionPut s (rkey % 2 ^ 18) { r with st := .free }) slot tag .ok [])) ∧
    (r.inflight ≠ 0 → exec (.regionRevoke who slot tag rkey) s =
      .next (regionPut s (rkey % 2 ^ 18) { r with st := .draining, revoker := some (slot.val, tag) }))) ∧
  (∀ (k : Nat) (r : Region) (s : State), regionFind s k = some r →
    (r.st ≠ .draining → exec (.revokeForced k) s = .next s) ∧
    (r.st = .draining → r.revoker = none → (∀ c ∈ s.lat.conns, ∀ m ∈ c.2.msgs, m.region ≠ some k) → exec (.revokeForced k) s =
      .next (fault (setF (regionPut s k { r with st := .free, inflight := 0 }) Reg.LAT_EVENTS_REVOKE_FORCED) .latigo Ev.REVOKE_FORCED 0xFF (le 4 k)))) ∧
  (∀ (who : Issuer) (slot : Fin 128) (tag ten : Nat) (s : State),
    (s.boot.mode ≠ .compat → s.boot.ready = false → (match who with | .cxl n => n.val = slot.val | .mgmt => 64 ≤ slot.val) →
      exec (.pdAlloc who slot tag ten) s = .next (latResult s slot tag .notReady [])) ∧
    (∀ n : Fin 64, n.val ≠ slot.val → exec (.pdAlloc (.cxl n) slot tag ten) s = .next (emit s (.latDone slot .access []))))

/-- O41: Latigo queues: doorbells, send queue entries, completions, answers of peers, contexts and links complete.
Cites: R422, R423, R427, R428, R429, R430, R431, R432, R433, R438, R439, R440. -/
def Obligations.LatigoQueues : Prop :=
  (∀ (n : Fin 64) (qs id : Nat) (v : Word) (c : Conn) (s : State), slotConn s n qs = some (id, c) →
    (c.sq.entries ≠ 0 → exec (.sqTail n qs v) s = .next (fetchContext (connPut s id { c with sq := { c.sq with tail := v.toNat } }) id)) ∧
    (c.rq.entries ≠ 0 → exec (.rqTail n qs v) s = .next (fetchContext (connPut s id { c with rq := { c.rq with tail := v.toNat } }) id))) ∧
  (∀ (n : Fin 64) (qs : Nat) (v : Word) (s : State),
    (slotConn s n qs = none → exec (.sqTail n qs v) s = .next (hostViolation s (ldPort s n) (some n) 3) ∧
      exec (.rqTail n qs v) s = .next (hostViolation s (ldPort s n) (some n) 3)) ∧
    (∀ k q, s.lat.cqs.find? (fun q => q.2.ld = n.val ∧ q.2.slot = qs) = some (k, q) →
      exec (.cqHead n qs v) s = .next (latSet s { s.lat with cqs := amSet s.lat.cqs k { q with head := v.toNat } }))) ∧
  (∀ (id : Nat) (far : Bytes) (c : Conn) (w : Wqe) (s : State), connFind s id = some c → mayStart s c = true → nextWqe s c far = some w →
    bit w.flags 1 = false → (c.wqes.filter (fun x => (x.op == 2 || x.op == 4 || x.op == 5) && x.status.isNone)).length < 16 →
    (w.op = 0 → exec (.wqeNop id far) s = .next (wqeStart s id c w 0 (some .ok))) ∧
    (∀ q, w.op = 6 → amFind s.lat.cqs (w.operand % 2 ^ 32) = some q →
      ((q.count + 2 ^ 32 - w.operand / 2 ^ 32 % 2 ^ 32) % 2 ^ 32 < 2 ^ 31 → exec (.wqeWait id far) s = .next (wqeStart s id c w 0 (some .ok))) ∧
      (2 ^ 31 ≤ (q.count + 2 ^ 32 - w.operand / 2 ^ 32 % 2 ^ 32) % 2 ^ 32 → exec (.wqeWait id far) s = .next (wqeStart s id c w 0 none))) ∧
    (∀ c2, w.op = 1 ∨ w.op = 3 → w.len ≤ 2 ^ 31 → inRange s c.owner w.loc w.len = true →
      let u := readBuffer (wqeStart s id c w (packets c.mtu w.len) none) id w.idx c.owner w.loc w.len
      let psn := (c.txPsn + packets c.mtu w.len - 1) % 2 ^ 24
      connFind u id = some c2 → c2.st ≠ .error →
      (w.op = 1 → exec (.wqeWrite id far) s = .next (emit (bump64 u (Reg.LAT_PORT_TX_LO_TX_LO c.port)
        (Reg.LAT_PORT_TX_HI_TX_HI c.port) w.len) (.roce id (.write w.remote w.rkey w.len psn)))) ∧
      (w.op = 3 → exec (.wqeSend id far) s = .next (emit (bump64 u (Reg.LAT_PORT_TX_LO_TX_LO c.port)
        (Reg.LAT_PORT_TX_HI_TX_HI c.port) w.len) (.roce id (.send w.len psn))))) ∧
    (w.op = 2 → w.len ≤ 2 ^ 31 → inRange s c.owner w.loc w.len = true → exec (.wqeRead id far) s =
      .next (emit (bump64 (wqeStart s id c w (packets c.mtu w.len) none) (Reg.LAT_PORT_TX_LO_TX_LO c.port) (Reg.LAT_PORT_TX_HI_TX_HI c.port) 0)
        (.roce id (.read w.remote w.rkey w.len ((c.txPsn + packets c.mtu w.len - 1) % 2 ^ 24))))) ∧
    (w.len = 8 → w.loc % 8 = 0 → w.remote % 8 = 0 → inRange s c.owner w.loc 8 = true →
      (w.op = 4 → exec (.wqeCas id far) s = .next (emit (bump64 (wqeStart s id c w 1 none) (Reg.LAT_PORT_TX_LO_TX_LO c.port)
        (Reg.LAT_PORT_TX_HI_TX_HI c.port) 0) (.roce id (.cas w.remote w.rkey w.operand w.swap (c.txPsn % 2 ^ 24))))) ∧
      (w.op = 5 → exec (.wqeFaa id far) s = .next (emit (bump64 (wqeStart s id c w 1 none) (Reg.LAT_PORT_TX_LO_TX_LO c.port)
        (Reg.LAT_PORT_TX_HI_TX_HI c.port) 0) (.roce id (.faa w.remote w.rkey w.operand (c.txPsn % 2 ^ 24))))))) ∧
  (∀ (id : Nat) (far : Bytes) (c : Conn) (w : Wqe) (r : List Wqe) (st : Status) (s : State), connFind s id = some c → c.wqes = w :: r →
    w.status = some st → (∀ e ∈ s.host.left, e.1 ≠ .latigo id w.idx) →
    let u := connPut s id { c with wqes := r, sq := { c.sq with head := (c.sq.head + 1) % 2 ^ 32 } }
    (st = .ok → bit w.flags 0 = false → exec (.cqeWrite id false far) s = .next u) ∧
    (∀ t, st ≠ .ok ∨ bit w.flags 0 = true → writeCqe u c.sqCq id w.wrId w.op (if st = .ok then w.len else 0) w.idx 0 st = some t →
      exec (.cqeWrite id false far) s = .next t)) ∧
  (∀ (id psn : Nat) (data : Bytes) (c : Conn) (s : State), connFind s id = some c → c.st = .rts → (∀ w ∈ c.wqes, w.op = 1 ∨ w.op = 3) →
    exec (.roceAckReceived id psn data) s = .next (bump64 (connPut s id { c with
      retries := 0, rnrs := 0, lastPacket := s.time
      wqes := c.wqes.map (fun w => if w.status.isNone ∧ (w.op = 1 ∨ w.op = 3) ∧ decide ((psn + 2 ^ 24 - w.psn) % 2 ^ 24 < 2 ^ 23) = true
        then { w with status := some .ok } else w) })
      (Reg.LAT_PORT_RX_LO_RX_LO c.port) (Reg.LAT_PORT_RX_HI_RX_HI c.port) data.length)) ∧
  (∀ (id : Nat) (c : Conn) (w : Wqe) (s : State), connFind s id = some c → c.st = .rts → oldestPending c = some w →
    exec (.roceNakReceived id .access) s = .next (wqeError s id w.idx .access) ∧
    exec (.roceNakReceived id .operational) s = .next (wqeError s id w.idx .mediaPoison) ∧
    exec (.roceNakReceived id .invalid) s = .next (wqeError s id w.idx .partnerViolation) ∧
    exec (.roceNakReceived id .sequence) s = .next (resend s id c w) ∧
    (c.rnrs < c.rnrRetry → exec (.roceNakReceived id .rnr) s = .next (resend s id { c with rnrs := c.rnrs + 1 } w)) ∧
    (c.rnrRetry ≤ c.rnrs → exec (.roceNakReceived id .rnr) s = .next (retriesOut s id w.idx)) ∧
    (c.retries < c.retry → exec (.roceAckTimeout id) s = .next (resend s id { c with retries := c.retries + 1 } w)) ∧
    (c.retry ≤ c.retries → exec (.roceAckTimeout id) s = .next (retriesOut s id w.idx))) ∧
  (∀ (id took : Nat) (c : Conn) (s : State), connFind s id = some c →
    exec (.cnpReceived id) s = .next (connPut (bump s (Reg.LAT_PORT_ERR_CNP_RX c.port) 1) id { c with rate := max 1 (c.rate / 2) }) ∧
    exec (.cnpRateRecovery id) s = .next (connPut s id { c with rate := min 400 (c.rate + 5) }) ∧
    (c.res = .fetching → c.parked = [] → exec (.contextFetchDone id took) s = .next (connPut (raiseTo (wr s Reg.LAT_FETCH_LAST
      (satTo 0xFFFF took)) Reg.LAT_FETCH_MAX took) id { c with res := .resident, parked := [], reserved := 0 })) ∧
    (c.res ≠ .fetching → exec (.contextFetchDone id took) s = .next s)) ∧
  (∀ s : State, (residents s + rd s Reg.LAT_EVICT_SLACK ≤ 4096 → exec .contextEvict s = .next s) ∧
    (4096 < residents s + rd s Reg.LAT_EVICT_SLACK → exec .contextEvict s = .next (evictFrom s (candidates s)))) ∧
  (∀ (p : Fin 4) (q : LatPort) (s : State), amGet s.lat.ports p {} = q →
    (q.up = false → 12 ≤ s.boot.stage → s.boot.mode ≠ .compat → exec (.ethLinkChange p true) s =
      .next (record (latSet s { s.lat with
        ports := amSet s.lat.ports p { q with up := true, pfc := odNum s ((0x7010 + p.val) * 256 + 4) 1 0xFF ≠ 0xFF } }) Ev.PORT_LINK_UP_B001 p [])) ∧
    (q.up = true → exec (.ethLinkChange p false) s = .next (fault (latSet s { s.lat with
        ports := amSet s.lat.ports p { q with up := false, pfc := false } }) .latigo Ev.PORT_LINK_DOWN_B002 p [])) ∧
    (s.boot.stage < 12 → exec (.ethLinkChange p true) s = .next s))

/-- O42: Requests of RoCE peers: RDMA WRITE, READ, SEND and atomics are served in order; before READY they are dropped.
Cites: R422, R433, R439, R441, R442, R443, R444, R454. -/
def Obligations.LatigoRequests : Prop :=
  (∀ (id : Nat) (c : Conn) (p : RxPkt) (s : State), requestInOrder s id c p →
    let d := { c with lastPacket := s.time }
    let u := connPut s id d
    (∀ k r t, let q := { p with kind := .write }
      p.first = true → regionFor u d q = some (k, r) →
      let m : RxMsg := { msg := rxBase + c.nextMsg, kind := .write, region := some k, va := p.va }
      let v := msgBegin u id d m
      msgData v id ((connFind v id).getD d) q m r.owner p.va = some t → exec (.rdmaWriteRequest p) s = .next t) ∧
    (∀ far t, let q := { p with kind := .send }
      let b := dpaBytes u c.owner (c.rq.dpa + 32 * (c.rq.head % max 1 c.rq.entries)) 32
        [(homeLine u c.owner (c.rq.dpa + 32 * (c.rq.head % max 1 c.rq.entries)), far)]
      let loc := leNat (b.take 8)
      let len := leNat ((b.drop 8).take 4)
      p.first = true → c.rq.entries ≠ 0 → c.rq.head ≠ c.rq.tail → p.total ≤ len → inRange u c.owner loc len = true →
      let e := { d with rq := { c.rq with head := (c.rq.head + 1) % 2 ^ 32 } }
      let m : RxMsg := { msg := rxBase + c.nextMsg, kind := .send, va := loc, rqe := some (c.rq.head, loc, len, leNat ((b.drop 16).take 8)) }
      let v := msgBegin u id e m
      msgData v id ((connFind v id).getD e) q m c.owner loc = some t → exec (.sendRequest p far) s = .next t) ∧
    (∀ k r, let q := { p with kind := .read }
      (c.msgs.filter (fun m => m.kind = .read ∨ m.kind = .cas ∨ m.kind = .faa)).length < 16 → regionFor u d q = some (k, r) → 0 < p.total →
      exec (.rdmaReadRequest p) s = .next (readBuffer (msgBegin u id { d with rxPsn := (p.psn + packets c.mtu p.total) % 2 ^ 24 }
        { msg := rxBase + c.nextMsg, kind := .read, region := some k, va := p.va, got := p.total, lines := (p.va % 64 + p.total + 63) / 64,
          lastPsn := some p.psn }) id (rxBase + c.nextMsg) r.owner p.va p.total)) ∧
    (∀ k r l t, p.va % 8 = 0 → p.total = 8 → lineValue u (homeLine u r.owner p.va) = some (l, false) →
      let old := leNat ((l.drop (p.va % 64)).take 8)
      let m := fun kind => ({ msg := rxBase + c.nextMsg, kind := kind, region := some k, va := p.va, result := old, lastPsn := some p.psn } : RxMsg)
      let e := { d with rxPsn := (p.psn + 1) % 2 ^ 24 }
      (regionFor u d { p with kind := .cas } = some (k, r) →
        agentWrite (msgBegin u id e (m .cas)) (.latigo id (rxBase + c.nextMsg)) r.owner p.va (le 8 (if old = p.operand then p.swap else old)) = some t →
        exec (.compareAndSwap p) s = .next t) ∧
      (regionFor u d { p with kind := .faa } = some (k, r) →
        agentWrite (msgBegin u id e (m .faa)) (.latigo id (rxBase + c.nextMsg)) r.owner p.va (le 8 ((old + p.operand) % 2 ^ 64)) = some t →
        exec (.fetchAndAdd p) s = .next t)) ∧
    (p.first = true → regionFor u d { p with kind := .write } = none →
      exec (.rdmaWriteRequest p) s = .next (refuseAccess u id { p with kind := .write }))) ∧
  (∀ (p : RxPkt) (far : Bytes) (s : State), s.boot.ready = false ∨ fnOpen s .lat = false →
    exec (.rdmaWriteRequest p) s = .next (bump s (Reg.LAT_PORT_ERR_DROPPED (p.port % 4)) 1) ∧
    exec (.rdmaReadRequest p) s = .next (bump s (Reg.LAT_PORT_ERR_DROPPED (p.port % 4)) 1) ∧
    exec (.sendRequest p far) s = .next (bump s (Reg.LAT_PORT_ERR_DROPPED (p.port % 4)) 1) ∧
    exec (.compareAndSwap p) s = .next (bump s (Reg.LAT_PORT_ERR_DROPPED (p.port % 4)) 1) ∧
    exec (.fetchAndAdd p) s = .next (bump s (Reg.LAT_PORT_ERR_DROPPED (p.port % 4)) 1)) ∧
  (∀ (p : RxPkt) (s : State), s.boot.ready = true → fnOpen s .lat = true → (∀ c ∈ s.lat.conns, c.2.qpn ≠ p.qpn ∨ c.2.peer ≠ p.src) →
    exec (.rdmaWriteRequest p) s = .next (peerViolation (bump s (Reg.LAT_PORT_ERR_DROPPED (p.port % 4)) 1) p.src 4))

/-- O43: Cipher jobs, cores, broken key slots, KEY_LOAD and KEY_FREE complete.
Cites: R455, R456, R457, R458, R463, R464, R466, R467, R469, R472, R474. -/
def Obligations.CipherAndKeys : Prop :=
  (∀ (cls : Fin 4) (tag owner slot iv du aad : Nat) (data : Bytes) (ok : Bool) (s : State), fnOpen s .bkl = true →
    let j : CJob := { tag := tag, cls := cls, slot := slot, usage := (keyOf s slot).usage, key := (keyOf s slot).key, iv := iv,
                      cost := jobCost cls data.length aad, data := data, tagOk := ok }
    (jobInLimits cls du data.length aad = true → s.cin.phase ≠ .commit → (keyOf s slot).st ≠ .broken → coresUp s ≠ 0 →
      ((classQueue s cls).length < 1024 → exec (.cipherJobSubmit cls tag owner slot iv du aad data ok) s =
        .next (schedule (bklSet s { s.bkl with queued := s.bkl.queued ++ [j] }))) ∧
      (1024 ≤ (classQueue s cls).length → exec (.cipherJobSubmit cls tag owner slot iv du aad data ok) s =
        .next (bklSet s { s.bkl with waiting := s.bkl.waiting ++ [j] }))) ∧
    (jobInLimits cls du data.length aad = false → cls.val = 1 → exec (.cipherJobSubmit cls tag owner slot iv du aad data ok) s =
      .next (fault (setF (bump (jobEnd s j .length []) Reg.BKL_ERR_LENGTH 1) Reg.BKL_EVENTS_LENGTH) .buckle Ev.CIPHER_LENGTH 0xFF (le 1 1)))) ∧
  (∀ (core : Fin 16) (s : State),
    (∀ j, amFind s.bkl.running core = some j →
      let t := bump64 (bklSet s { s.bkl with running := amErase s.bkl.running core })
        (Reg.BKL_STAT_LO_BLOCKS_LO j.cls) (Reg.BKL_STAT_HI_BLOCKS_HI j.cls) j.cost
      ((keyOf s j.slot).st = .broken → exec (.cipherJobDone core) s = .next (schedule (keySweep (jobEnd t j .internal [])))) ∧
      ((keyOf s j.slot).st ≠ .broken → j.cls ≠ 2 ∨ j.tagOk = true → exec (.cipherJobDone core) s =
        .next (schedule (keySweep (jobEnd t j .ok (Config.cipherBytes j.cls j.usage j.key j.iv j.data))))) ∧
      ((keyOf s j.slot).st ≠ .broken → j.cls = 2 → j.tagOk = false → exec (.cipherJobDone core) s =
        .next (schedule (keySweep (jobEnd (bump t Reg.BKL_ERR_TAG 1) j .access []))))) ∧
    (amFind s.bkl.running core = none → exec (.cipherJobDone core) s = .next s) ∧
    (coreUp s core = true → exec (.coreIsolated core) s = .next (coreIsolate s core)) ∧
    (coreUp s core = false → exec (.coreIsolated core) s = .next s)) ∧
  (∀ (k : Fin 8192) (s : State),
    let t := fault (setF (keyPut s k { keyOf s k with st := .broken }) Reg.BKL_EVENTS_SLOT_BROKEN) .buckle Ev.KEY_SLOT_BROKEN 0xFF (le 2 k)
    ((keyOf s k).st ≠ .loaded → exec (.keySlotBroken k) s = .next s) ∧
    ((keyOf s k).st = .loaded → 8 ≤ k.val → exec (.keySlotBroken k) s = .next (keySweep (((t.lat.conns.filter (fun c => c.2.sealed &&
      (c.2.txKey == k.val || c.2.rxKey0 == k.val || c.2.rxKey1 == k.val))).map Prod.fst).foldl connError t))) ∧
    (∀ v, (keyOf s k).st = .loaded → k.val < 8 → (keyStore t).bind (fun c => amFind c.keys k) = some v →
      exec (.keySlotBroken k) s = .next (keyPut t k v))) ∧
  (∀ (cslot : Fin 128) (tag k tenant : Nat) (persist : Bool) (blob : Bytes) (s : State), 64 ≤ cslot.val → 8 ≤ k → k < 8192 →
    tenant < 64 → (keyOf s k).st = .free → persist = false ∨ persistUsed s < 256 →
    exec (.keyLoad .mgmt cslot tag k tenant persist 1 2 blob) s = .next (match Config.unwrap 2 blob with
      | none => keyResult (fault (setF (bump s Reg.BKL_ERR_UNWRAP 1) Reg.BKL_EVENTS_UNWRAP_FAILED) .buckle Ev.KEY_UNWRAP_FAILED 0xFF
          (le 2 k)) cslot tag k .badDescriptor []
      | some key =>
        let t := keyPut s k { st := .loaded, usage := 2, tenant := tenant, persist := persist, key := key }
        keyResult (record (if persist then keyStoreWrite t else t) Ev.KEY_LOADED 0xFF (le 2 k)) cslot tag k .ok
          (le 8 (Config.keyCheck 2 key).toNat))) ∧
  (∀ (cslot : Fin 128) (tag k : Nat) (s : State), 64 ≤ cslot.val → k < 8192 →
    (keyRefs s k = 0 → 8 ≤ k → exec (.keyFree .mgmt cslot tag k) s =
      .next (keyResult (if (keyOf s k).persist then keyStoreWrite (keyPut s k {}) else keyPut s k {}) cslot tag k .ok [])) ∧
    (keyRefs s k ≠ 0 → exec (.keyFree .mgmt cslot tag k) s = .next (keyResult s cslot tag k .busyRetry []))) ∧
  (∀ (n : Fin 64) (cslot : Fin 128) (tag k : Nat) (s : State), n.val ≠ cslot.val →
    exec (.keyFree (.cxl n) cslot tag k) s = .next (emit s (.keyDone cslot .access [])))

/-- O44: Drives: insertion, removal, command ends and time-outs, links, forced failure and rebuilds complete.
Cites: R351, R353, R355, R363, R374, R375, R376, R377, R378, R379, R381, R383. -/
def Obligations.Drives : Prop :=
  (∀ (slot : Fin 24) (info : DriveInfo) (s : State),
    let d : Drive := { linkUp := true, width := 2, gen5 := true, serial := info.serial, cap := info.lbas, nextCmd := (driveOf s slot).nextCmd }
    let t := record (setF s Reg.AWL_EVENTS_DRIVE_ADDED) Ev.DRIVE_ADDED slot []
    (unsuitable s info ≠ 0 → exec (.driveInserted slot info) s = .next (fault (driveSet t slot { d with st := .unassigned, cap := 0 })
      (.drive slot) Ev.DRIVE_UNSUITABLE slot (le 1 (unsuitable s info)))) ∧
    (∀ st n c b, unsuitable s info = 0 → labelled s slot info.label = (some (st, n, c), b) → exec (.driveInserted slot info) s =
      .next (setUpdate (driveSet t slot { d with st := st, set := n, col := c }) n)) ∧
    (unsuitable s info = 0 → info.label = none → slotRecord s slot = none → exec (.driveInserted slot info) s =
      .next (driveSet t slot { d with st := .unassigned }))) ∧
  (∀ (slot : Fin 24) (s : State),
    ((driveOf s slot).st = .online ∨ (driveOf s slot).st = .rebuilding → exec (.driveRemoved slot) s =
      let t := fault s (.drive slot) Ev.DRIVE_REMOVED slot []
      .next (memberFailed (driveSet t slot { driveOf t slot with linkUp := false, width := 0, downSince := none }) slot 1)) ∧
    ((driveOf s slot).st = .absent → exec (.driveRemoved slot) s = .next s) ∧
    exec (.forceFail slot) s = .next (memberFailed s slot 6) ∧
    ((driveOf s slot).aborting.isSome = true → exec (.driveResetTimeout slot) s = .next (memberFailed s slot 2)) ∧
    ((driveOf s slot).aborting = none → exec (.driveResetTimeout slot) s = .next s) ∧
    (∀ a b c, exec (.driveAsyncEvent slot a b c) s = .next (if b = true ∨ c = true then memberFailed s slot 4
      else if a = true then memberPredicted s slot else s)) ∧
    (∀ w g, exec (.driveLinkChange slot true w g) s =
      .next (driveSet s slot { driveOf s slot with linkUp := true, width := w, gen5 := g, downSince := none })) ∧
    (∀ w g, (driveOf s slot).downSince = none → exec (.driveLinkChange slot false w g) s =
      .next (driveSet s slot { driveOf s slot with linkUp := false, width := 0, gen5 := false, downSince := some s.time })) ∧
    ((driveOf s slot).downSince.isSome = true → (driveOf s slot).linkUp = false → (driveOf s slot).st = .online ∨ (driveOf s slot).st = .rebuilding →
      exec (.driveLinkDownExpired slot) s = .next (memberFailed s slot 1)) ∧
    ((driveOf s slot).linkUp = true → exec (.driveLinkDownExpired slot) s = .next s)) ∧
  (∀ (slot : Fin 24) (id : Nat) (c : DriveCmd) (s : State), (driveOf s slot).cmds.find? (fun c => c.id = id) = some c →
    let t := issueNext (driveSet s slot { driveOf s slot with cmds := (driveOf s slot).cmds.filter (fun x => x.id ≠ id), aborting := none }) slot
    (∀ n k col b, c.use = .unitWrite n k col b → exec (.driveCommandComplete slot id .done) s = .next { t with awl := { t.awl with
      stripes := t.awl.stripes.map (fun (x : Stripe) =>
        if x.set = n ∧ x.stripe = k then { x with waiting := x.waiting.filter (· ≠ col) } else x) } }) ∧
    (c.use = .journal → exec (.driveCommandComplete slot id .done) s =
      .next { t with cin := { t.cin with journalCopies := t.cin.journalCopies + 1 } }) ∧
    (∀ n k u, c.use = .unitRead n k u → exec (.driveCommandComplete slot id .done) s = .next (refetchDone t n k u)) ∧
    (∀ n k col, c.use = .unitWrite n k col false → exec (.driveCommandComplete slot id .writeError) s =
      .next (match t.awl.stripes.find? (fun (x : Stripe) => x.set = n && x.stripe = k) with
        | some x => writeColumn t slot n k x.chunks col true x.relocate
        | none => issueCmd t slot (.unitWrite n k col true))) ∧
    (∀ n k u sec, c.use = .unitRead n k u → exec (.driveCommandComplete slot id (.readError sec)) s = .next (readFailed t slot n k u sec)) ∧
    exec (.driveCommandComplete slot id .keyGone) s = .next (fence t) ∧
    (∀ n k u, c.use = .unitRead n k u → exec (.readShortcutExpired slot id) s = .next (reconstruct s n k u)) ∧
    (let ts := s.time :: (driveOf s slot).timeouts.filter (fun t => decide (s.time < t + secs 60))
     let u := bump (driveSet s slot { driveOf s slot with timeouts := ts, aborting := some s.time }) (Reg.AWL_MBR_ERR_TIMEOUTS slot) 1
     exec (.driveCommandTimeout slot id) s = .next (if 3 ≤ ts.length then memberFailed u slot 3 else emit u (.driveAbort slot)))) ∧
  (∀ (slot : Fin 24) (id : Nat) (r : DriveResult) (s : State), (∀ c ∈ (driveOf s slot).cmds, c.id ≠ id) →
    ((driveOf s slot).linkUp = true → exec (.driveCommandComplete slot id r) s = .next (driveViolation s slot 1)) ∧
    exec (.driveCommandTimeout slot id) s = .next s ∧ exec (.readShortcutExpired slot id) s = .next s) ∧
  (∀ (n : Fin 8) (r : Rebuild) (s : State), (setOf s n).rebuild = some r → s.cin.phase ≠ .commit →
    (r.pending = true → exec (.rebuildStart n) s = .next (beginRebuild s n r.column r.target r.queued)) ∧
    (r.pending = false → exec (.rebuildStart n) s = .next s ∧ ∀ (k unit : Nat) (bad : List (Nat × Nat)) (last : Bool),
      let t := issueCmd s r.target (.rebuild n k)
      let u := setSet t n { setOf t n with rebuild := some { r with done := r.done + 1 } }
      exec (.rebuildStripe n k unit true bad last) s = .next (if last then rebuildEnd u n { r with done := r.done + 1 } else u)) ∧
    (r.pending = true → ∀ k unit rd_ bad last, exec (.rebuildStripe n k unit rd_ bad last) s = .next s))

/-- O45: Flash banks: claims, reads, programs, erases, suspends, resumes, aborts and their ends complete.
Cites: R540, R541, R542, R543, R544, R545, R546, R547, R548, R549, R550, R553. -/
def Obligations.FlashBanks : Prop :=
  (∀ (m : Fin 11) (b : Fin 4) (s : State), masterRefused s m (0x341000 + 0x400 * b.val) = none → regPowered s (0x341000 + 0x400 * b.val) = true →
    (rd s (Reg.FLS_B_CLAIM_OWNER b) = 0xF → exec (.flsBankClaim m b) s = .next (emit (wr (wr s (Reg.FLS_B_CLAIM_OWNER b) m)
      (Reg.FLS_B_CLAIM_CLAIM b) 0) (.csrData m (0x341000 + 0x400 * b.val) (BitVec.ofNat 32 31)))) ∧
    (rd s (Reg.FLS_B_CLAIM_OWNER b) ≠ 0xF → exec (.flsBankClaim m b) s =
      .next (emit s (.csrData m (0x341000 + 0x400 * b.val) (BitVec.ofNat 32 (2 * rd s (Reg.FLS_B_CLAIM_OWNER b)))))) ∧
    (rd s (Reg.FLS_B_CLAIM_OWNER b) = m.val → exec (.flsBankRelease m b) s = .next (flsRelease s b)) ∧
    (rd s (Reg.FLS_B_CLAIM_OWNER b) ≠ m.val → exec (.flsBankRelease m b) s = .next (csrRefuse s m 7 (0x341000 + 0x400 * b.val)))) ∧
  (∀ (b : Fin 4) (s : State), (rd s (Reg.FLS_B_CLAIM_OWNER b) = 0xF → exec (.flsClaimExpired b) s = .next s) ∧
    (rd s (Reg.FLS_B_CLAIM_OWNER b) ≠ 0xF → (flsBank s b).queue = [] → exec (.flsClaimExpired b) s = .next (flsRelease s b))) ∧
  (∀ (m : Fin 11) (b : Fin 4) (s : State), flsServed s m b →
    let cmd := fun op => wr (wr s (Reg.FLS_B_CMD_OP b) op) (Reg.FLS_B_CMD_ABORT_RESULT b) 0
    let a := rd s (Reg.FLS_B_ADDR_ADDR b)
    let n := rd s (Reg.FLS_B_LEN_LEN b)
    let v := flsBank s b
    let bs := (v.data ++ List.replicate (256 - v.data.length) 0).take n
    (flsRange a n = none → v.st = .idle → v.prog = none → flsSector a ∉ v.indet →
      exec (.flashRead m b false) s = .next (flsStatus (flsSet (cmd 0) b { v with data := flsBytes (cmd 0) b a n ++ v.data.drop n }) b .ok) ∧
      exec (.flashRead m b true) s = .next (flsStatus (bump (flsSet (cmd 0) b { v with data := flsBytes (cmd 0) b a n ++ v.data.drop n })
        Reg.FLS_ERR_CORRECTED 1) b .okCorrected)) ∧
    (∀ c, flsRange a n = none → v.st = .erasing → v.prog = none → exec (.flashRead m b c) s = .next (flsBusyRead (cmd 0) b 1 (opSector v))) ∧
    (flsRange a n = none → raisesBit (flsBytes (cmd 1) b a n) bs = false → flsProtected (cmd 1) b a = false → flsSector a ∉ v.indet →
      (v.st = .idle → exec (.flashProgram m b) s = .next (flsStart (cmd 1) b ⟨false, a, bs⟩)) ∧
      (flsRunning v = true → exec (.flashProgram m b) s = .next (flsBusy (flsSet (cmd 1) b { v with queue := v.queue ++ [⟨false, a, bs⟩] }) b true))) ∧
    (a % 65536 = 0 → flsProtected (cmd 2) b a = false → s.fls.frozen = false →
      (v.st = .idle → exec (.flashErase m b) s = .next (flsStart (cmd 2) b ⟨true, a, []⟩)) ∧
      (flsRunning v = true → exec (.flashErase m b) s = .next (flsBusy (flsSet (cmd 2) b { v with queue := v.queue ++ [⟨true, a, []⟩] }) b true))) ∧
    (v.prog = none → flsRunning v = true → exec (.flashSuspend m b) s = .next (flsSet (cmd 3) b { v with suspend := true })) ∧
    (v.prog = none → flsRunning v = false → exec (.flashSuspend m b) s = .next (flsStatus (cmd 3) b .badDescriptor)) ∧
    (v.prog = none → s.fls.frozen = false →
      (v.st = .eraseSuspended → exec (.flashResume m b) s = .next (flsStatus (flsSet (cmd 4) b { v with st := .erasing, window := some s.time }) b .ok)) ∧
      (v.st = .programSuspended →
        exec (.flashResume m b) s = .next (flsStatus (flsSet (cmd 4) b { v with st := .programming, window := some s.time }) b .ok)) ∧
      (v.st = .idle → exec (.flashResume m b) s = .next (flsStatus (cmd 4) b .badDescriptor))) ∧
    (a % 65536 = 0 → exec (.readWear m b) s = .next (flsStatus (flsSet (cmd 5) b { v with
      data := le 4 (amGet v.wear (flsSector a) 0) ++ v.data.drop 4 }) b .ok)) ∧
    (v.queue ≠ [] → exec (.flashAbort m b) s = .next (wr (flsStatus (flsSet s b { v with queue := v.queue.dropLast }) b .aborted)
      (Reg.FLS_B_CMD_ABORT_RESULT b) (statusCode .aborted))) ∧
    (v.queue = [] → v.op.isSome = true → exec (.flashAbort m b) s = .next (wr s (Reg.FLS_B_CMD_ABORT_RESULT b) (statusCode .abortTooLate)))) ∧
  (∀ (b : Fin 4) (s : State), exec (.flashRunWindowEnd b) s = .next (flsSet s b { flsBank s b with window := none }) ∧
    ((flsBank s b).suspend = true → (flsBank s b).window = none → (flsBank s b).st = .erasing →
      exec (.flashSuspendEffect b) s = .next (flsStatus (flsSet s b { flsBank s b with suspend := false, st := .eraseSuspended }) b .ok)) ∧
    ((flsBank s b).suspend = true → (flsBank s b).window = none → (flsBank s b).st = .programming →
      exec (.flashSuspendEffect b) s = .next (flsStatus (flsSet s b { flsBank s b with suspend := false, st := .programSuspended }) b .ok)) ∧
    ((flsBank s b).suspend = false → exec (.flashSuspendEffect b) s = .next s)) ∧
  (∀ (b : Fin 4) (x : FlsOp) (s : State), (flsBank s b).op = some x →
    let v := flsBank s b
    let k := flsSector x.addr
    (v.st = .programming → v.prog = none → exec (.flashProgramDone b true) s = .next (flsNext (suspendLost (flsStatus (flsSet s b { v with
      op := none, st := .idle, window := none
      cells := memWriteBytes 0xFF v.cells x.addr (((flsBytes s b x.addr x.data.length).zip x.data).map (fun e => e.1 &&& e.2)) }) b .ok) b) b)) ∧
    (v.st = .erasing → k ∉ v.indet →
      let t := sectorErase (flsSet s b { v with op := none, st := .idle, window := none }) b k
      exec (.flashEraseDone b true) s = .next (flsNext (suspendLost (flsStatus (flsSet t b { flsBank t b with
        flags := v.flags.filter (· ≠ k), indet := v.indet.filter (· ≠ k) }) b .ok) b) b)) ∧
    (v.st = .erasing → k ∉ v.indet →
      let t := flsWear (flsSet s b { v with op := none, st := .idle, window := none }) b k
      exec (.flashEraseDone b false) s = .next (flsNext (suspendLost (fault (flsStatus (setF (bump (flsSet t b { flsBank t b with
        indet := v.indet ++ [k] }) Reg.FLS_ERR_FAILED 1) Reg.FLS_EVENTS_FAILED) b .internal) .flash Ev.FLASH_ERASE_FAILED
        0xFF (le 1 b ++ le 2 k)) b) b)))

/-- O46: LX-310 compatibility mode: register writes, rings and every LX opcode complete; outside it they change nothing.
Cites: R583, R586, R589, R590, R591, R592, R593, R595. -/
def Obligations.CompatibilityMode : Prop :=
  (∀ (e : Fin 2) (v : Word) (s : State), lxLive s e = true →
    (bit (v.toNat % 2 ^ 24) 2 = false → exec (.lxRegisterWrite e 8 v) s =
      .next (lxStage e (lxStage e s (Reg.LXF_CTRL_ENABLE e) (v.toNat % 2 ^ 24)) (Reg.LXF_CTRL_INT_EN e) (v.toNat % 2 ^ 24))) ∧
    exec (.lxBankWrite e v) s = .next (lxStage e s (Reg.LXF_BANK_BANK e) (v.toNat % 2 ^ 24)) ∧
    exec (.lxRingReset e) s = .next (fnQuiesce (lxEpSet s e { lxEp s e with ringErr := false, resetting := true }) (.ld e) .enable (disableAbort s)) ∧
    exec (.functionLevelReset e) s = .next (fnQuiesce (lxEpSet s e { lxEp s e with ringErr := false, resetting := true }) (.ld e) .enable (disableAbort s))) ∧
  (∀ (e : Fin 2) (r : Fin 8) (v : Word) (s : State), lxLive s e = true →
    (v.toNat % 2 ^ 16 < lxEntries s e r → exec (.lxRingTailWrite e r v) s =
      .next (lxRingSet s e r { lxRing s e r with tail := v.toNat % 2 ^ 16 })) ∧
    (lxEntries s e r ≤ v.toNat % 2 ^ 16 → exec (.lxRingTailWrite e r v) s = .next (hostViolation s (4 * e) (some e) 3))) ∧
  (∀ (e : Fin 2) (r : Fin 8) (fl : Nat) (s : State), lxReady s e r →
    let c := fun op => ({ idx := (lxRing s e r).next, op := op, intr := bit fl 0 } : LxCmd)
    let t := fun op => lxRingSet s e r { lxRing s e r with next := ((lxRing s e r).next + 1) % lxEntries s e r, cmds := (lxRing s e r).cmds ++ [c op] }
    (s.boot.ready = true → s.cin.phase ≠ .commit → fnOpen s (.ld e) = true →
      exec (.nop e r fl) s = .next (lxDone (t 0) e r (c 0).idx .ok) ∧
      exec (.flush e r fl) s = .next (lxFlush e r 1 (t 1) (c 1)) ∧
      exec (.flushMedia e r fl) s = .next (lxFlush e r 2 (t 2) (c 2)) ∧
      (∀ dpa len, dpa % 64 = 0 → len % 64 = 0 → len ≠ 0 → len ≤ 0x40000000 → dpa + len ≤ ldSegs (t 0x10) e * 0x200000 →
        let u := lxRingSet (t 0x10) e r { lxRing (t 0x10) e r with
          cmds := (lxRing (t 0x10) e r).cmds.map (fun (x : LxCmd) => if x.idx = (c 0x10).idx then { x with todo := some (dpa, dpa + len) } else x) }
        exec (.zero e r fl dpa len) s = .next (zeroGo { u with host := { u.host with left := u.host.left ++ [(.lx e r (c 0x10).idx, len / 64)] } }
          e r { c 0x10 with todo := some (dpa, dpa + len) })) ∧
      (∀ dpa len, dpa % 64 ≠ 0 → exec (.zero e r fl dpa len) s = .next (lxDone (t 0x10) e r (c 0x10).idx .alignment)) ∧
      (∀ a, a % 4096 = 0 → exec (.identify e r fl a) s = .next (lxDone { emit (t 0x30) (.hostMem e a (lxIdentity (t 0x30))) with
        freeCtr := (t 0x30).freeCtr + 4084 } e r (c 0x30).idx .ok)) ∧
      exec (.fwDownload e r fl) s = .next (lxDone (t 0x40) e r (c 0x40).idx .badDescriptor) ∧
      exec (.fwCommit e r fl) s = .next (lxDone (t 0x41) e r (c 0x41).idx .badDescriptor) ∧
      (∀ op : Byte, exec (.lxUnknownOpcode e r op fl) s = .next (lxDone (t op.toNat) e r (c op.toNat).idx .badDescriptor))) ∧
    (s.cin.phase = .commit → exec (.nop e r fl) s = .next (lxDone (t 0) e r (c 0).idx .notReady))) ∧
  (∀ (e : Fin 2) (r : Fin 8) (x : LxCmd) (rest : List LxCmd) (st : Status) (stamp : Nat) (s : State), (lxRing s e r).cmds = x :: rest →
    x.done = some (st, stamp) → x.intr = false → exec (.lxCommandStatus e r) s = .next (emit (emit (lxRingSet s e r { lxRing s e r with
      cmds := rest, head := (x.idx + 1) % lxEntries s e r })
      (.hostMem e (rd s (Reg.RING_BASE_L_BASE_L e r) * 2 ^ 12 + rd s (Reg.RING_BASE_H_BASE_H e r) * 2 ^ 36 + 64 * x.idx + 32) (le 8 stamp)))
      (.hostMem e (rd s (Reg.RING_BASE_L_BASE_L e r) * 2 ^ 12 + rd s (Reg.RING_BASE_H_BASE_H e r) * 2 ^ 36 + 64 * x.idx + 4) (le 1 (0x80 + lxCode st))))) ∧
  (∀ s : State, exec .compatTick s = .next (lxHeartbeat (lxTick (lxTick s 0) 1))) ∧
  (∀ (e : Fin 2) (r : Fin 8) (v : Word) (off fl a b : Nat) (op : Byte) (s : State), lxLive s e = false →
    exec (.lxRegisterWrite e off v) s = .next s ∧ exec (.lxBankWrite e v) s = .next s ∧ exec (.lxRingTailWrite e r v) s = .next s ∧
    exec (.lxRingReset e) s = .next s ∧ exec (.functionLevelReset e) s = .next s ∧ exec (.nop e r fl) s = .next s ∧
    exec (.flush e r fl) s = .next s ∧ exec (.flushMedia e r fl) s = .next s ∧ exec (.zero e r fl a b) s = .next s ∧
    exec (.identify e r fl a) s = .next s ∧ exec (.fwDownload e r fl) s = .next s ∧ exec (.fwCommit e r fl) s = .next s ∧
    exec (.lxUnknownOpcode e r op fl) s = .next s)

/-- O47: FW_CONFIRMED: a trial run that has held its conditions for CONFIRM_TIME becomes CONFIRMED.
Cites: R562, R563. -/
def Obligations.FirmwareConfirmed : Prop :=
  (∀ (t : Nat) (s : State), s.fw.since = some t → confirmHolds s = true → s.cin.phase ≠ .commit →
    (t + secs (odNum s 0xA00101 4 600) ≤ s.time →
      let u := fwSlotSet (fwSlotSet s s.fw.running { fwSlot s s.fw.running with st := .confirmed }) (1 - s.fw.running)
        { fwSlot s (1 - s.fw.running) with st := .valid }
      exec .fwConfirmed s = .next (record (fwSet u { u.fw with
        confirmed := s.fw.running, trialRunning := false, notCounted := false, onTrial := false, since := none, spare := none
        curArea := 1 - u.fw.curArea }) Ev.FW_CONFIRMED 0xFF (le 1 s.fw.running))) ∧
    (s.time < t + secs (odNum s 0xA00101 4 600) → exec .fwConfirmed s = .next s)) ∧
  (∀ s : State, s.fw.since = none ∨ confirmHolds s = false ∨ s.cin.phase = .commit → exec .fwConfirmed s = .next s)

/-- O48: Right after reset the memories are canonical, the line clock is in range and READY is not asserted.
Cites: R33, R46, R315, R524, R533. -/
def Obligations.InvariantsHoldAtReset : Prop :=
  MemInv State.reset ∧ ClockInv State.reset ∧ ReadyInv State.reset ∧ State.reset.boot.ready = false ∧ State.reset.out = [] ∧
    State.reset.pending = []

/-- O49: No command touches the queue or takes back what the machine has sent.
Cites: R1, R33. -/
def Obligations.CommandsLeaveTheQueue : Prop :=
  (∀ (c : Instr) (s t : State), exec c s = .next t → t.pending = s.pending ∧ OutGrows s t) ∧
  (∀ s t : State, step s = .next t → t.pending = s.pending.tail ∧ OutGrows s t)

/-- O50: Every step keeps the memories in canonical form.
Cites: R29, R287, R290, R541, R543. -/
def Obligations.MemoriesStayCanonical : Prop :=
  ∀ s t : State, MemInv s → step s = .next t → MemInv t

/-- O51: Every step keeps the line clock in range.
Cites: R33, R34, R35, R46. -/
def Obligations.ClockStaysInRange : Prop :=
  ∀ s t : State, ClockInv s → step s = .next t → ClockInv t

/-- O52: Every step keeps this: READY is asserted only after step 13 of bring-up, with PORST_N high, outside COMMIT and with no warm reset
draining.
Cites: R315, R506, R524, R533. -/
def Obligations.ReadyOnlyWhenRunning : Prop :=
  ∀ s t : State, ReadyInv s → step s = .next t → ReadyInv t

/-- O53: R34: no command but the loss of VDD_AON takes the line timestamp back, and every tick takes it forward.
Cites: R34, R35, R52. -/
def Obligations.TimestampsNeverDecrease : Prop :=
  (∀ (c : Instr) (s t : State), ClockInv s → s.lck.count + 1 < 2 ^ 40 → s.lck.countLost = false → (∀ torn, c ≠ .vddAonLoss torn) →
    exec c s = .next t → timestamp s ≤ timestamp t) ∧
  (∀ s t : State, ClockInv s → s.lck.count + 1 < 2 ^ 40 → s.ham.vddAon = true → exec .tick s = .next t → timestamp s < timestamp t)

/-- O54: R50: SYNTHETIC lasts until the next PORST_N; a qualified pulse sets LINE_SEEN, writes record 0x2008 once and leaves the time base.
Cites: R50. -/
def Obligations.SyntheticUntilPorst : Prop :=
  (∀ (c : Instr) (s t : State), s.boot.porst = false → s.lck.state = .synthetic → s.lck.listening = false → exec c s = .next t →
    t.lck.state = .synthetic ∨ t.boot.porst = true) ∧
  (∀ (ns dt : Nat) (s : State), 2000 ≤ ns → s.lck.state = .synthetic → ∃ t, exec (.lineSyncPulse ns dt) s = .next t ∧
    t.lck = { s.lck with lineSeen := true } ∧ t.time = s.time ∧ fieldView t Reg.LCK_STATUS_LINE_SEEN.addr = some 1 ∧
    (s.lck.lineSeen = false → t = record { s with lck := { s.lck with lineSeen := true } } ⟨0x2008, Ev.LINE_SEEN_SYNTH.sev⟩ 0xFF []) ∧
    (s.lck.lineSeen = true → t = s))

/-- O55: R51 and R49: a locked line clock never falls back to SYNTHETIC before the next PORST_N, and SYNTHETIC misses no half-cycle.
Cites: R43, R44, R49, R51. -/
def Obligations.LockedNeverSynthetic : Prop :=
  (∀ (c : Instr) (s t : State), s.boot.porst = false → s.lck.state = .locked ∨ s.lck.state = .holdover → s.lck.listening = false →
    exec c s = .next t → t.lck.state = .locked ∨ t.lck.state = .holdover ∨ t.boot.porst = true) ∧
  (∀ s : State, s.lck.state = .synthetic ∨ s.lck.state = .acquire → exec .lineMissed s = .next s)

/-- O56: R73: while BUSY is 1 writes of the key, offset, length and data and a START are ignored; at the end BUSY clears and STATUS holds
its status.
Cites: R73. -/
def Obligations.MailboxBusyIgnoresWrites : Prop :=
  (∀ (m : Fin 11) (off : Nat) (v : Word) (s : State), rdb s Reg.MBX_CTRL_BUSY = true → rd s Reg.MBX_CLAIM_OWNER = m →
    debugShut s m = false → regPowered s off = true → off ∈ [0x30008, 0x3000C, 0x30010] ∨ (0x30100 ≤ off ∧ off < 0x30200 ∧ off % 4 = 0) →
    exec (.csrWrite m off 4 v) s = .next s) ∧
  (∀ (m : Fin 11) (op : Fin 4) (s : State), rdb s Reg.MBX_CTRL_BUSY = true → rd s Reg.MBX_CLAIM_OWNER = m → mbxShut s m 0x30004 = none →
    exec (.mbxRead m op) s = .next s ∧ exec (.mbxWrite m) s = .next s) ∧
  (∀ (s : State) (o : MbxOp), s.iface.mbxOp = some o → ∃ t st, exec .mbxOpDone s = .next t ∧ rdb t Reg.MBX_CTRL_BUSY = false ∧
    rd t Reg.MBX_CTRL_STATUS = statusCode st ∧ (o.isWrite = true → st = o.status) ∧
    (o.isWrite = false → (readStatus (wr { s with iface := { s.iface with mbxOp := none } } Reg.MBX_CTRL_BUSY 0) .mbx o.key).1 ≠ .ok →
      st = (readStatus (wr { s with iface := { s.iface with mbxOp := none } } Reg.MBX_CTRL_BUSY 0) .mbx o.key).1) ∧
    (o.isWrite = false → rdb t Reg.MBX_CTRL_VALID = true → rdb s Reg.MBX_CTRL_VALID = false → st = .ok))

/-- O57: R66: no CSR access disturbs the shadow or the staging word of another master, or of the same master in another block.
Cites: R66, R67, R68. -/
def Obligations.ShadowsAreSeparate : Prop :=
  ∀ (m m' : Fin 11) (off off' size : Nat) (v : Word) (s t : State), m' ≠ m ∨ blockOf off' ≠ blockOf off →
    exec (.csrWrite m off size v) s = .next t ∨ exec (.csrAliasWrite m off v) s = .next t ∨ exec (.csrReadClear m off) s = .next t ∨
      exec (.csrReadLatch m off) s = .next t →
    amFind t.iface.shadow (masterBlock m' off') = amFind s.iface.shadow (masterBlock m' off') ∧
    amFind t.iface.stageWord (masterBlock m' off') = amFind s.iface.stageWord (masterBlock m' off')

/-- O58: R358 and R359: the columns of a stripe hold its data units, P and Q where R358 puts them, P recovers any one lost unit, and Q
weighs unit j by g to the j.
Cites: R304, R358, R359, R461. -/
def Obligations.StripeUnitsAndParity : Prop :=
  (∀ (s : State) (n k p : Nat) (cs : List Chunk), p < (setOf s n).w →
    let v := setOf s n
    let us := stripeUnits s n k cs
    let b := columnBytes s n k cs (unitColumn v.w p k)
    (v.layout = 3 ∨ v.layout = 4 → p < v.n → b = us.getD p []) ∧
    (v.layout = 3 ∨ v.layout = 4 → p = v.n → b = parityP us) ∧
    (v.layout = 4 → p = v.n + 1 → b = parityQ us) ∧
    (v.layout = 1 ∨ v.layout = 2 → 0 < v.n → b = us.getD (p % v.n) [])) ∧
  (∀ (len j : Nat) (us : List Bytes), (∀ u ∈ us, u.length = len) → j < us.length →
    xorBytes (parityP us) (parityP (us.eraseIdx j)) = us.getD j [] ∧
    xorBytes (parityQ us) (parityQ (us.set j (List.replicate len 0#8))) = (us.getD j []).map gfDouble^[j])
end

