-- ==== Sys2Proof/Laws/State.lean ====
section
/-!
SUPPORT. What the state updates that every meaning is built from leave alone: one lemma for each part of the state and each update, and what
a register field reads after them.
-/
namespace Sys2Proof.Laws
open Sys2Proof.Machine

/-! ### emit -/

@[simp] theorem emit_csr (s : State) (o : Output) : (emit s o).csr = s.csr := rfl
@[simp] theorem emit_iface (s : State) (o : Output) : (emit s o).iface = s.iface := rfl
@[simp] theorem emit_dict (s : State) (o : Output) : (emit s o).dict = s.dict := rfl
@[simp] theorem emit_tack (s : State) (o : Output) : (emit s o).tack = s.tack := rfl
@[simp] theorem emit_pres (s : State) (o : Output) : (emit s o).pres = s.pres := rfl
@[simp] theorem emit_partners (s : State) (o : Output) : (emit s o).partners = s.partners := rfl
@[simp] theorem emit_lck (s : State) (o : Output) : (emit s o).lck = s.lck := rfl
@[simp] theorem emit_stm (s : State) (o : Output) : (emit s o).stm = s.stm := rfl
@[simp] theorem emit_fm (s : State) (o : Output) : (emit s o).fm = s.fm := rfl
@[simp] theorem emit_ham (s : State) (o : Output) : (emit s o).ham = s.ham := rfl
@[simp] theorem emit_boot (s : State) (o : Output) : (emit s o).boot = s.boot := rfl
@[simp] theorem emit_host (s : State) (o : Output) : (emit s o).host = s.host := rfl
@[simp] theorem emit_per (s : State) (o : Output) : (emit s o).per = s.per := rfl
@[simp] theorem emit_cin (s : State) (o : Output) : (emit s o).cin = s.cin := rfl
@[simp] theorem emit_tree (s : State) (o : Output) : (emit s o).tree = s.tree := rfl
@[simp] theorem emit_ring (s : State) (o : Output) : (emit s o).ring = s.ring := rfl
@[simp] theorem emit_dram (s : State) (o : Output) : (emit s o).dram = s.dram := rfl
@[simp] theorem emit_keep (s : State) (o : Output) : (emit s o).keep = s.keep := rfl
@[simp] theorem emit_tier (s : State) (o : Output) : (emit s o).tier = s.tier := rfl
@[simp] theorem emit_twin (s : State) (o : Output) : (emit s o).twin = s.twin := rfl
@[simp] theorem emit_awl (s : State) (o : Output) : (emit s o).awl = s.awl := rfl
@[simp] theorem emit_fls (s : State) (o : Output) : (emit s o).fls = s.fls := rfl
@[simp] theorem emit_fw (s : State) (o : Output) : (emit s o).fw = s.fw := rfl
@[simp] theorem emit_lat (s : State) (o : Output) : (emit s o).lat = s.lat := rfl
@[simp] theorem emit_bkl (s : State) (o : Output) : (emit s o).bkl = s.bkl := rfl
@[simp] theorem emit_lx (s : State) (o : Output) : (emit s o).lx = s.lx := rfl
@[simp] theorem emit_time (s : State) (o : Output) : (emit s o).time = s.time := rfl
@[simp] theorem emit_freeCtr (s : State) (o : Output) : (emit s o).freeCtr = s.freeCtr := rfl
@[simp] theorem emit_out (s : State) (o : Output) : (emit s o).out = s.out ++ [o] := rfl
@[simp] theorem emit_pending (s : State) (o : Output) : (emit s o).pending = s.pending := rfl
@[simp] theorem rd_emit (s : State) (o : Output) (g : Fld) : rd (emit s o) g = rd s g := rfl

/-! ### freeTaken -/

@[simp] theorem freeTaken_csr (s : State)  : (freeTaken s).csr = s.csr := rfl
@[simp] theorem freeTaken_iface (s : State)  : (freeTaken s).iface = s.iface := rfl
@[simp] theorem freeTaken_dict (s : State)  : (freeTaken s).dict = s.dict := rfl
@[simp] theorem freeTaken_tack (s : State)  : (freeTaken s).tack = s.tack := rfl
@[simp] theorem freeTaken_pres (s : State)  : (freeTaken s).pres = s.pres := rfl
@[simp] theorem freeTaken_partners (s : State)  : (freeTaken s).partners = s.partners := rfl
@[simp] theorem freeTaken_lck (s : State)  : (freeTaken s).lck = s.lck := rfl
@[simp] theorem freeTaken_stm (s : State)  : (freeTaken s).stm = s.stm := rfl
@[simp] theorem freeTaken_fm (s : State)  : (freeTaken s).fm = s.fm := rfl
@[simp] theorem freeTaken_ham (s : State)  : (freeTaken s).ham = s.ham := rfl
@[simp] theorem freeTaken_boot (s : State)  : (freeTaken s).boot = s.boot := rfl
@[simp] theorem freeTaken_host (s : State)  : (freeTaken s).host = s.host := rfl
@[simp] theorem freeTaken_per (s : State)  : (freeTaken s).per = s.per := rfl
@[simp] theorem freeTaken_cin (s : State)  : (freeTaken s).cin = s.cin := rfl
@[simp] theorem freeTaken_tree (s : State)  : (freeTaken s).tree = s.tree := rfl
@[simp] theorem freeTaken_ring (s : State)  : (freeTaken s).ring = s.ring := rfl
@[simp] theorem freeTaken_dram (s : State)  : (freeTaken s).dram = s.dram := rfl
@[simp] theorem freeTaken_keep (s : State)  : (freeTaken s).keep = s.keep := rfl
@[simp] theorem freeTaken_tier (s : State)  : (freeTaken s).tier = s.tier := rfl
@[simp] theorem freeTaken_twin (s : State)  : (freeTaken s).twin = s.twin := rfl
@[simp] theorem freeTaken_awl (s : State)  : (freeTaken s).awl = s.awl := rfl
@[simp] theorem freeTaken_fls (s : State)  : (freeTaken s).fls = s.fls := rfl
@[simp] theorem freeTaken_fw (s : State)  : (freeTaken s).fw = s.fw := rfl
@[simp] theorem freeTaken_lat (s : State)  : (freeTaken s).lat = s.lat := rfl
@[simp] theorem freeTaken_bkl (s : State)  : (freeTaken s).bkl = s.bkl := rfl
@[simp] theorem freeTaken_lx (s : State)  : (freeTaken s).lx = s.lx := rfl
@[simp] theorem freeTaken_time (s : State)  : (freeTaken s).time = s.time := rfl
@[simp] theorem freeTaken_freeCtr (s : State)  : (freeTaken s).freeCtr = s.freeCtr + 1 := rfl
@[simp] theorem freeTaken_out (s : State)  : (freeTaken s).out = s.out := rfl
@[simp] theorem freeTaken_pending (s : State)  : (freeTaken s).pending = s.pending := rfl
@[simp] theorem rd_freeTaken (s : State)  (g : Fld) : rd (freeTaken s) g = rd s g := rfl

/-! ### wr -/

@[simp] theorem wr_csr (s : State) (f : Fld) (v : Nat) : (wr s f v).csr = nmSet s.csr f.addr (v % 2 ^ f.width) f.reset := rfl
@[simp] theorem wr_iface (s : State) (f : Fld) (v : Nat) : (wr s f v).iface = s.iface := rfl
@[simp] theorem wr_dict (s : State) (f : Fld) (v : Nat) : (wr s f v).dict = s.dict := rfl
@[simp] theorem wr_tack (s : State) (f : Fld) (v : Nat) : (wr s f v).tack = s.tack := rfl
@[simp] theorem wr_pres (s : State) (f : Fld) (v : Nat) : (wr s f v).pres = s.pres := rfl
@[simp] theorem wr_partners (s : State) (f : Fld) (v : Nat) : (wr s f v).partners = s.partners := rfl
@[simp] theorem wr_lck (s : State) (f : Fld) (v : Nat) : (wr s f v).lck = s.lck := rfl
@[simp] theorem wr_stm (s : State) (f : Fld) (v : Nat) : (wr s f v).stm = s.stm := rfl
@[simp] theorem wr_fm (s : State) (f : Fld) (v : Nat) : (wr s f v).fm = s.fm := rfl
@[simp] theorem wr_ham (s : State) (f : Fld) (v : Nat) : (wr s f v).ham = s.ham := rfl
@[simp] theorem wr_boot (s : State) (f : Fld) (v : Nat) : (wr s f v).boot = s.boot := rfl
@[simp] theorem wr_host (s : State) (f : Fld) (v : Nat) : (wr s f v).host = s.host := rfl
@[simp] theorem wr_per (s : State) (f : Fld) (v : Nat) : (wr s f v).per = s.per := rfl
@[simp] theorem wr_cin (s : State) (f : Fld) (v : Nat) : (wr s f v).cin = s.cin := rfl
@[simp] theorem wr_tree (s : State) (f : Fld) (v : Nat) : (wr s f v).tree = s.tree := rfl
@[simp] theorem wr_ring (s : State) (f : Fld) (v : Nat) : (wr s f v).ring = s.ring := rfl
@[simp] theorem wr_dram (s : State) (f : Fld) (v : Nat) : (wr s f v).dram = s.dram := rfl
@[simp] theorem wr_keep (s : State) (f : Fld) (v : Nat) : (wr s f v).keep = s.keep := rfl
@[simp] theorem wr_tier (s : State) (f : Fld) (v : Nat) : (wr s f v).tier = s.tier := rfl
@[simp] theorem wr_twin (s : State) (f : Fld) (v : Nat) : (wr s f v).twin = s.twin := rfl
@[simp] theorem wr_awl (s : State) (f : Fld) (v : Nat) : (wr s f v).awl = s.awl := rfl
@[simp] theorem wr_fls (s : State) (f : Fld) (v : Nat) : (wr s f v).fls = s.fls := rfl
@[simp] theorem wr_fw (s : State) (f : Fld) (v : Nat) : (wr s f v).fw = s.fw := rfl
@[simp] theorem wr_lat (s : State) (f : Fld) (v : Nat) : (wr s f v).lat = s.lat := rfl
@[simp] theorem wr_bkl (s : State) (f : Fld) (v : Nat) : (wr s f v).bkl = s.bkl := rfl
@[simp] theorem wr_lx (s : State) (f : Fld) (v : Nat) : (wr s f v).lx = s.lx := rfl
@[simp] theorem wr_time (s : State) (f : Fld) (v : Nat) : (wr s f v).time = s.time := rfl
@[simp] theorem wr_freeCtr (s : State) (f : Fld) (v : Nat) : (wr s f v).freeCtr = s.freeCtr := rfl
@[simp] theorem wr_out (s : State) (f : Fld) (v : Nat) : (wr s f v).out = s.out := rfl
@[simp] theorem wr_pending (s : State) (f : Fld) (v : Nat) : (wr s f v).pending = s.pending := rfl

/-! ### setF -/

@[simp] theorem setF_iface (s : State) (f : Fld) : (setF s f).iface = s.iface := rfl
@[simp] theorem setF_dict (s : State) (f : Fld) : (setF s f).dict = s.dict := rfl
@[simp] theorem setF_tack (s : State) (f : Fld) : (setF s f).tack = s.tack := rfl
@[simp] theorem setF_pres (s : State) (f : Fld) : (setF s f).pres = s.pres := rfl
@[simp] theorem setF_partners (s : State) (f : Fld) : (setF s f).partners = s.partners := rfl
@[simp] theorem setF_lck (s : State) (f : Fld) : (setF s f).lck = s.lck := rfl
@[simp] theorem setF_stm (s : State) (f : Fld) : (setF s f).stm = s.stm := rfl
@[simp] theorem setF_fm (s : State) (f : Fld) : (setF s f).fm = s.fm := rfl
@[simp] theorem setF_ham (s : State) (f : Fld) : (setF s f).ham = s.ham := rfl
@[simp] theorem setF_boot (s : State) (f : Fld) : (setF s f).boot = s.boot := rfl
@[simp] theorem setF_host (s : State) (f : Fld) : (setF s f).host = s.host := rfl
@[simp] theorem setF_per (s : State) (f : Fld) : (setF s f).per = s.per := rfl
@[simp] theorem setF_cin (s : State) (f : Fld) : (setF s f).cin = s.cin := rfl
@[simp] theorem setF_tree (s : State) (f : Fld) : (setF s f).tree = s.tree := rfl
@[simp] theorem setF_ring (s : State) (f : Fld) : (setF s f).ring = s.ring := rfl
@[simp] theorem setF_dram (s : State) (f : Fld) : (setF s f).dram = s.dram := rfl
@[simp] theorem setF_keep (s : State) (f : Fld) : (setF s f).keep = s.keep := rfl
@[simp] theorem setF_tier (s : State) (f : Fld) : (setF s f).tier = s.tier := rfl
@[simp] theorem setF_twin (s : State) (f : Fld) : (setF s f).twin = s.twin := rfl
@[simp] theorem setF_awl (s : State) (f : Fld) : (setF s f).awl = s.awl := rfl
@[simp] theorem setF_fls (s : State) (f : Fld) : (setF s f).fls = s.fls := rfl
@[simp] theorem setF_fw (s : State) (f : Fld) : (setF s f).fw = s.fw := rfl
@[simp] theorem setF_lat (s : State) (f : Fld) : (setF s f).lat = s.lat := rfl
@[simp] theorem setF_bkl (s : State) (f : Fld) : (setF s f).bkl = s.bkl := rfl
@[simp] theorem setF_lx (s : State) (f : Fld) : (setF s f).lx = s.lx := rfl
@[simp] theorem setF_time (s : State) (f : Fld) : (setF s f).time = s.time := rfl
@[simp] theorem setF_freeCtr (s : State) (f : Fld) : (setF s f).freeCtr = s.freeCtr := rfl
@[simp] theorem setF_out (s : State) (f : Fld) : (setF s f).out = s.out := rfl
@[simp] theorem setF_pending (s : State) (f : Fld) : (setF s f).pending = s.pending := rfl

/-! ### bump -/

@[simp] theorem bump_iface (s : State) (f : Fld) (n : Nat) : (bump s f n).iface = s.iface := rfl
@[simp] theorem bump_dict (s : State) (f : Fld) (n : Nat) : (bump s f n).dict = s.dict := rfl
@[simp] theorem bump_tack (s : State) (f : Fld) (n : Nat) : (bump s f n).tack = s.tack := rfl
@[simp] theorem bump_pres (s : State) (f : Fld) (n : Nat) : (bump s f n).pres = s.pres := rfl
@[simp] theorem bump_partners (s : State) (f : Fld) (n : Nat) : (bump s f n).partners = s.partners := rfl
@[simp] theorem bump_lck (s : State) (f : Fld) (n : Nat) : (bump s f n).lck = s.lck := rfl
@[simp] theorem bump_stm (s : State) (f : Fld) (n : Nat) : (bump s f n).stm = s.stm := rfl
@[simp] theorem bump_fm (s : State) (f : Fld) (n : Nat) : (bump s f n).fm = s.fm := rfl
@[simp] theorem bump_ham (s : State) (f : Fld) (n : Nat) : (bump s f n).ham = s.ham := rfl
@[simp] theorem bump_boot (s : State) (f : Fld) (n : Nat) : (bump s f n).boot = s.boot := rfl
@[simp] theorem bump_host (s : State) (f : Fld) (n : Nat) : (bump s f n).host = s.host := rfl
@[simp] theorem bump_per (s : State) (f : Fld) (n : Nat) : (bump s f n).per = s.per := rfl
@[simp] theorem bump_cin (s : State) (f : Fld) (n : Nat) : (bump s f n).cin = s.cin := rfl
@[simp] theorem bump_tree (s : State) (f : Fld) (n : Nat) : (bump s f n).tree = s.tree := rfl
@[simp] theorem bump_ring (s : State) (f : Fld) (n : Nat) : (bump s f n).ring = s.ring := rfl
@[simp] theorem bump_dram (s : State) (f : Fld) (n : Nat) : (bump s f n).dram = s.dram := rfl
@[simp] theorem bump_keep (s : State) (f : Fld) (n : Nat) : (bump s f n).keep = s.keep := rfl
@[simp] theorem bump_tier (s : State) (f : Fld) (n : Nat) : (bump s f n).tier = s.tier := rfl
@[simp] theorem bump_twin (s : State) (f : Fld) (n : Nat) : (bump s f n).twin = s.twin := rfl
@[simp] theorem bump_awl (s : State) (f : Fld) (n : Nat) : (bump s f n).awl = s.awl := rfl
@[simp] theorem bump_fls (s : State) (f : Fld) (n : Nat) : (bump s f n).fls = s.fls := rfl
@[simp] theorem bump_fw (s : State) (f : Fld) (n : Nat) : (bump s f n).fw = s.fw := rfl
@[simp] theorem bump_lat (s : State) (f : Fld) (n : Nat) : (bump s f n).lat = s.lat := rfl
@[simp] theorem bump_bkl (s : State) (f : Fld) (n : Nat) : (bump s f n).bkl = s.bkl := rfl
@[simp] theorem bump_lx (s : State) (f : Fld) (n : Nat) : (bump s f n).lx = s.lx := rfl
@[simp] theorem bump_time (s : State) (f : Fld) (n : Nat) : (bump s f n).time = s.time := rfl
@[simp] theorem bump_freeCtr (s : State) (f : Fld) (n : Nat) : (bump s f n).freeCtr = s.freeCtr := rfl
@[simp] theorem bump_out (s : State) (f : Fld) (n : Nat) : (bump s f n).out = s.out := rfl
@[simp] theorem bump_pending (s : State) (f : Fld) (n : Nat) : (bump s f n).pending = s.pending := rfl

/-! ### raiseTo -/

@[simp] theorem raiseTo_iface (s : State) (f : Fld) (v : Nat) : (raiseTo s f v).iface = s.iface := rfl
@[simp] theorem raiseTo_dict (s : State) (f : Fld) (v : Nat) : (raiseTo s f v).dict = s.dict := rfl
@[simp] theorem raiseTo_tack (s : State) (f : Fld) (v : Nat) : (raiseTo s f v).tack = s.tack := rfl
@[simp] theorem raiseTo_pres (s : State) (f : Fld) (v : Nat) : (raiseTo s f v).pres = s.pres := rfl
@[simp] theorem raiseTo_partners (s : State) (f : Fld) (v : Nat) : (raiseTo s f v).partners = s.partners := rfl
@[simp] theorem raiseTo_lck (s : State) (f : Fld) (v : Nat) : (raiseTo s f v).lck = s.lck := rfl
@[simp] theorem raiseTo_stm (s : State) (f : Fld) (v : Nat) : (raiseTo s f v).stm = s.stm := rfl
@[simp] theorem raiseTo_fm (s : State) (f : Fld) (v : Nat) : (raiseTo s f v).fm = s.fm := rfl
@[simp] theorem raiseTo_ham (s : State) (f : Fld) (v : Nat) : (raiseTo s f v).ham = s.ham := rfl
@[simp] theorem raiseTo_boot (s : State) (f : Fld) (v : Nat) : (raiseTo s f v).boot = s.boot := rfl
@[simp] theorem raiseTo_host (s : State) (f : Fld) (v : Nat) : (raiseTo s f v).host = s.host := rfl
@[simp] theorem raiseTo_per (s : State) (f : Fld) (v : Nat) : (raiseTo s f v).per = s.per := rfl
@[simp] theorem raiseTo_cin (s : State) (f : Fld) (v : Nat) : (raiseTo s f v).cin = s.cin := rfl
@[simp] theorem raiseTo_tree (s : State) (f : Fld) (v : Nat) : (raiseTo s f v).tree = s.tree := rfl
@[simp] theorem raiseTo_ring (s : State) (f : Fld) (v : Nat) : (raiseTo s f v).ring = s.ring := rfl
@[simp] theorem raiseTo_dram (s : State) (f : Fld) (v : Nat) : (raiseTo s f v).dram = s.dram := rfl
@[simp] theorem raiseTo_keep (s : State) (f : Fld) (v : Nat) : (raiseTo s f v).keep = s.keep := rfl
@[simp] theorem raiseTo_tier (s : State) (f : Fld) (v : Nat) : (raiseTo s f v).tier = s.tier := rfl
@[simp] theorem raiseTo_twin (s : State) (f : Fld) (v : Nat) : (raiseTo s f v).twin = s.twin := rfl
@[simp] theorem raiseTo_awl (s : State) (f : Fld) (v : Nat) : (raiseTo s f v).awl = s.awl := rfl
@[simp] theorem raiseTo_fls (s : State) (f : Fld) (v : Nat) : (raiseTo s f v).fls = s.fls := rfl
@[simp] theorem raiseTo_fw (s : State) (f : Fld) (v : Nat) : (raiseTo s f v).fw = s.fw := rfl
@[simp] theorem raiseTo_lat (s : State) (f : Fld) (v : Nat) : (raiseTo s f v).lat = s.lat := rfl
@[simp] theorem raiseTo_bkl (s : State) (f : Fld) (v : Nat) : (raiseTo s f v).bkl = s.bkl := rfl
@[simp] theorem raiseTo_lx (s : State) (f : Fld) (v : Nat) : (raiseTo s f v).lx = s.lx := rfl
@[simp] theorem raiseTo_time (s : State) (f : Fld) (v : Nat) : (raiseTo s f v).time = s.time := rfl
@[simp] theorem raiseTo_freeCtr (s : State) (f : Fld) (v : Nat) : (raiseTo s f v).freeCtr = s.freeCtr := rfl
@[simp] theorem raiseTo_out (s : State) (f : Fld) (v : Nat) : (raiseTo s f v).out = s.out := rfl
@[simp] theorem raiseTo_pending (s : State) (f : Fld) (v : Nat) : (raiseTo s f v).pending = s.pending := rfl

/-! ### wr64 -/

@[simp] theorem wr64_iface (s : State) (lo hi : Fld) (v : Nat) : (wr64 s lo hi v).iface = s.iface := rfl
@[simp] theorem wr64_dict (s : State) (lo hi : Fld) (v : Nat) : (wr64 s lo hi v).dict = s.dict := rfl
@[simp] theorem wr64_tack (s : State) (lo hi : Fld) (v : Nat) : (wr64 s lo hi v).tack = s.tack := rfl
@[simp] theorem wr64_pres (s : State) (lo hi : Fld) (v : Nat) : (wr64 s lo hi v).pres = s.pres := rfl
@[simp] theorem wr64_partners (s : State) (lo hi : Fld) (v : Nat) : (wr64 s lo hi v).partners = s.partners := rfl
@[simp] theorem wr64_lck (s : State) (lo hi : Fld) (v : Nat) : (wr64 s lo hi v).lck = s.lck := rfl
@[simp] theorem wr64_stm (s : State) (lo hi : Fld) (v : Nat) : (wr64 s lo hi v).stm = s.stm := rfl
@[simp] theorem wr64_fm (s : State) (lo hi : Fld) (v : Nat) : (wr64 s lo hi v).fm = s.fm := rfl
@[simp] theorem wr64_ham (s : State) (lo hi : Fld) (v : Nat) : (wr64 s lo hi v).ham = s.ham := rfl
@[simp] theorem wr64_boot (s : State) (lo hi : Fld) (v : Nat) : (wr64 s lo hi v).boot = s.boot := rfl
@[simp] theorem wr64_host (s : State) (lo hi : Fld) (v : Nat) : (wr64 s lo hi v).host = s.host := rfl
@[simp] theorem wr64_per (s : State) (lo hi : Fld) (v : Nat) : (wr64 s lo hi v).per = s.per := rfl
@[simp] theorem wr64_cin (s : State) (lo hi : Fld) (v : Nat) : (wr64 s lo hi v).cin = s.cin := rfl
@[simp] theorem wr64_tree (s : State) (lo hi : Fld) (v : Nat) : (wr64 s lo hi v).tree = s.tree := rfl
@[simp] theorem wr64_ring (s : State) (lo hi : Fld) (v : Nat) : (wr64 s lo hi v).ring = s.ring := rfl
@[simp] theorem wr64_dram (s : State) (lo hi : Fld) (v : Nat) : (wr64 s lo hi v).dram = s.dram := rfl
@[simp] theorem wr64_keep (s : State) (lo hi : Fld) (v : Nat) : (wr64 s lo hi v).keep = s.keep := rfl
@[simp] theorem wr64_tier (s : State) (lo hi : Fld) (v : Nat) : (wr64 s lo hi v).tier = s.tier := rfl
@[simp] theorem wr64_twin (s : State) (lo hi : Fld) (v : Nat) : (wr64 s lo hi v).twin = s.twin := rfl
@[simp] theorem wr64_awl (s : State) (lo hi : Fld) (v : Nat) : (wr64 s lo hi v).awl = s.awl := rfl
@[simp] theorem wr64_fls (s : State) (lo hi : Fld) (v : Nat) : (wr64 s lo hi v).fls = s.fls := rfl
@[simp] theorem wr64_fw (s : State) (lo hi : Fld) (v : Nat) : (wr64 s lo hi v).fw = s.fw := rfl
@[simp] theorem wr64_lat (s : State) (lo hi : Fld) (v : Nat) : (wr64 s lo hi v).lat = s.lat := rfl
@[simp] theorem wr64_bkl (s : State) (lo hi : Fld) (v : Nat) : (wr64 s lo hi v).bkl = s.bkl := rfl
@[simp] theorem wr64_lx (s : State) (lo hi : Fld) (v : Nat) : (wr64 s lo hi v).lx = s.lx := rfl
@[simp] theorem wr64_time (s : State) (lo hi : Fld) (v : Nat) : (wr64 s lo hi v).time = s.time := rfl
@[simp] theorem wr64_freeCtr (s : State) (lo hi : Fld) (v : Nat) : (wr64 s lo hi v).freeCtr = s.freeCtr := rfl
@[simp] theorem wr64_out (s : State) (lo hi : Fld) (v : Nat) : (wr64 s lo hi v).out = s.out := rfl
@[simp] theorem wr64_pending (s : State) (lo hi : Fld) (v : Nat) : (wr64 s lo hi v).pending = s.pending := rfl

/-! ### bump64 -/

@[simp] theorem bump64_iface (s : State) (lo hi : Fld) (n : Nat) : (bump64 s lo hi n).iface = s.iface := rfl
@[simp] theorem bump64_dict (s : State) (lo hi : Fld) (n : Nat) : (bump64 s lo hi n).dict = s.dict := rfl
@[simp] theorem bump64_tack (s : State) (lo hi : Fld) (n : Nat) : (bump64 s lo hi n).tack = s.tack := rfl
@[simp] theorem bump64_pres (s : State) (lo hi : Fld) (n : Nat) : (bump64 s lo hi n).pres = s.pres := rfl
@[simp] theorem bump64_partners (s : State) (lo hi : Fld) (n : Nat) : (bump64 s lo hi n).partners = s.partners := rfl
@[simp] theorem bump64_lck (s : State) (lo hi : Fld) (n : Nat) : (bump64 s lo hi n).lck = s.lck := rfl
@[simp] theorem bump64_stm (s : State) (lo hi : Fld) (n : Nat) : (bump64 s lo hi n).stm = s.stm := rfl
@[simp] theorem bump64_fm (s : State) (lo hi : Fld) (n : Nat) : (bump64 s lo hi n).fm = s.fm := rfl
@[simp] theorem bump64_ham (s : State) (lo hi : Fld) (n : Nat) : (bump64 s lo hi n).ham = s.ham := rfl
@[simp] theorem bump64_boot (s : State) (lo hi : Fld) (n : Nat) : (bump64 s lo hi n).boot = s.boot := rfl
@[simp] theorem bump64_host (s : State) (lo hi : Fld) (n : Nat) : (bump64 s lo hi n).host = s.host := rfl
@[simp] theorem bump64_per (s : State) (lo hi : Fld) (n : Nat) : (bump64 s lo hi n).per = s.per := rfl
@[simp] theorem bump64_cin (s : State) (lo hi : Fld) (n : Nat) : (bump64 s lo hi n).cin = s.cin := rfl
@[simp] theorem bump64_tree (s : State) (lo hi : Fld) (n : Nat) : (bump64 s lo hi n).tree = s.tree := rfl
@[simp] theorem bump64_ring (s : State) (lo hi : Fld) (n : Nat) : (bump64 s lo hi n).ring = s.ring := rfl
@[simp] theorem bump64_dram (s : State) (lo hi : Fld) (n : Nat) : (bump64 s lo hi n).dram = s.dram := rfl
@[simp] theorem bump64_keep (s : State) (lo hi : Fld) (n : Nat) : (bump64 s lo hi n).keep = s.keep := rfl
@[simp] theorem bump64_tier (s : State) (lo hi : Fld) (n : Nat) : (bump64 s lo hi n).tier = s.tier := rfl
@[simp] theorem bump64_twin (s : State) (lo hi : Fld) (n : Nat) : (bump64 s lo hi n).twin = s.twin := rfl
@[simp] theorem bump64_awl (s : State) (lo hi : Fld) (n : Nat) : (bump64 s lo hi n).awl = s.awl := rfl
@[simp] theorem bump64_fls (s : State) (lo hi : Fld) (n : Nat) : (bump64 s lo hi n).fls = s.fls := rfl
@[simp] theorem bump64_fw (s : State) (lo hi : Fld) (n : Nat) : (bump64 s lo hi n).fw = s.fw := rfl
@[simp] theorem bump64_lat (s : State) (lo hi : Fld) (n : Nat) : (bump64 s lo hi n).lat = s.lat := rfl
@[simp] theorem bump64_bkl (s : State) (lo hi : Fld) (n : Nat) : (bump64 s lo hi n).bkl = s.bkl := rfl
@[simp] theorem bump64_lx (s : State) (lo hi : Fld) (n : Nat) : (bump64 s lo hi n).lx = s.lx := rfl
@[simp] theorem bump64_time (s : State) (lo hi : Fld) (n : Nat) : (bump64 s lo hi n).time = s.time := rfl
@[simp] theorem bump64_freeCtr (s : State) (lo hi : Fld) (n : Nat) : (bump64 s lo hi n).freeCtr = s.freeCtr := rfl
@[simp] theorem bump64_out (s : State) (lo hi : Fld) (n : Nat) : (bump64 s lo hi n).out = s.out := rfl
@[simp] theorem bump64_pending (s : State) (lo hi : Fld) (n : Nat) : (bump64 s lo hi n).pending = s.pending := rfl

/-! ### csrRefuse -/

@[simp] theorem csrRefuse_iface (s : State) (m cause off : Nat) : (csrRefuse s m cause off).iface = s.iface := rfl
@[simp] theorem csrRefuse_dict (s : State) (m cause off : Nat) : (csrRefuse s m cause off).dict = s.dict := rfl
@[simp] theorem csrRefuse_tack (s : State) (m cause off : Nat) : (csrRefuse s m cause off).tack = s.tack := rfl
@[simp] theorem csrRefuse_pres (s : State) (m cause off : Nat) : (csrRefuse s m cause off).pres = s.pres := rfl
@[simp] theorem csrRefuse_partners (s : State) (m cause off : Nat) : (csrRefuse s m cause off).partners = s.partners := rfl
@[simp] theorem csrRefuse_lck (s : State) (m cause off : Nat) : (csrRefuse s m cause off).lck = s.lck := rfl
@[simp] theorem csrRefuse_stm (s : State) (m cause off : Nat) : (csrRefuse s m cause off).stm = s.stm := rfl
@[simp] theorem csrRefuse_fm (s : State) (m cause off : Nat) : (csrRefuse s m cause off).fm = s.fm := rfl
@[simp] theorem csrRefuse_ham (s : State) (m cause off : Nat) : (csrRefuse s m cause off).ham = s.ham := rfl
@[simp] theorem csrRefuse_boot (s : State) (m cause off : Nat) : (csrRefuse s m cause off).boot = s.boot := rfl
@[simp] theorem csrRefuse_host (s : State) (m cause off : Nat) : (csrRefuse s m cause off).host = s.host := rfl
@[simp] theorem csrRefuse_per (s : State) (m cause off : Nat) : (csrRefuse s m cause off).per = s.per := rfl
@[simp] theorem csrRefuse_cin (s : State) (m cause off : Nat) : (csrRefuse s m cause off).cin = s.cin := rfl
@[simp] theorem csrRefuse_tree (s : State) (m cause off : Nat) : (csrRefuse s m cause off).tree = s.tree := rfl
@[simp] theorem csrRefuse_ring (s : State) (m cause off : Nat) : (csrRefuse s m cause off).ring = s.ring := rfl
@[simp] theorem csrRefuse_dram (s : State) (m cause off : Nat) : (csrRefuse s m cause off).dram = s.dram := rfl
@[simp] theorem csrRefuse_keep (s : State) (m cause off : Nat) : (csrRefuse s m cause off).keep = s.keep := rfl
@[simp] theorem csrRefuse_tier (s : State) (m cause off : Nat) : (csrRefuse s m cause off).tier = s.tier := rfl
@[simp] theorem csrRefuse_twin (s : State) (m cause off : Nat) : (csrRefuse s m cause off).twin = s.twin := rfl
@[simp] theorem csrRefuse_awl (s : State) (m cause off : Nat) : (csrRefuse s m cause off).awl = s.awl := rfl
@[simp] theorem csrRefuse_fls (s : State) (m cause off : Nat) : (csrRefuse s m cause off).fls = s.fls := rfl
@[simp] theorem csrRefuse_fw (s : State) (m cause off : Nat) : (csrRefuse s m cause off).fw = s.fw := rfl
@[simp] theorem csrRefuse_lat (s : State) (m cause off : Nat) : (csrRefuse s m cause off).lat = s.lat := rfl
@[simp] theorem csrRefuse_bkl (s : State) (m cause off : Nat) : (csrRefuse s m cause off).bkl = s.bkl := rfl
@[simp] theorem csrRefuse_lx (s : State) (m cause off : Nat) : (csrRefuse s m cause off).lx = s.lx := rfl
@[simp] theorem csrRefuse_time (s : State) (m cause off : Nat) : (csrRefuse s m cause off).time = s.time := rfl
@[simp] theorem csrRefuse_freeCtr (s : State) (m cause off : Nat) : (csrRefuse s m cause off).freeCtr = s.freeCtr := rfl
@[simp] theorem csrRefuse_out (s : State) (m cause off : Nat) : (csrRefuse s m cause off).out = s.out := rfl
@[simp] theorem csrRefuse_pending (s : State) (m cause off : Nat) : (csrRefuse s m cause off).pending = s.pending := rfl

/-! ### recordAt -/

@[simp] theorem recordAt_csr (s : State) (code sev inst : Nat) (items : Bytes) : (recordAt s code sev inst items).csr = s.csr := rfl
@[simp] theorem recordAt_iface (s : State) (code sev inst : Nat) (items : Bytes) : (recordAt s code sev inst items).iface = s.iface := rfl
@[simp] theorem recordAt_dict (s : State) (code sev inst : Nat) (items : Bytes) : (recordAt s code sev inst items).dict = s.dict := rfl
@[simp] theorem recordAt_tack (s : State) (code sev inst : Nat) (items : Bytes) : (recordAt s code sev inst items).tack = s.tack := rfl
@[simp] theorem recordAt_pres (s : State) (code sev inst : Nat) (items : Bytes) : (recordAt s code sev inst items).pres = s.pres := rfl
@[simp] theorem recordAt_partners (s : State) (code sev inst : Nat) (items : Bytes) : (recordAt s code sev inst items).partners = s.partners := rfl
@[simp] theorem recordAt_lck (s : State) (code sev inst : Nat) (items : Bytes) : (recordAt s code sev inst items).lck = s.lck := rfl
@[simp] theorem recordAt_fm (s : State) (code sev inst : Nat) (items : Bytes) : (recordAt s code sev inst items).fm = s.fm := rfl
@[simp] theorem recordAt_ham (s : State) (code sev inst : Nat) (items : Bytes) : (recordAt s code sev inst items).ham = s.ham := rfl
@[simp] theorem recordAt_boot (s : State) (code sev inst : Nat) (items : Bytes) : (recordAt s code sev inst items).boot = s.boot := rfl
@[simp] theorem recordAt_host (s : State) (code sev inst : Nat) (items : Bytes) : (recordAt s code sev inst items).host = s.host := rfl
@[simp] theorem recordAt_per (s : State) (code sev inst : Nat) (items : Bytes) : (recordAt s code sev inst items).per = s.per := rfl
@[simp] theorem recordAt_cin (s : State) (code sev inst : Nat) (items : Bytes) : (recordAt s code sev inst items).cin = s.cin := rfl
@[simp] theorem recordAt_tree (s : State) (code sev inst : Nat) (items : Bytes) : (recordAt s code sev inst items).tree = s.tree := rfl
@[simp] theorem recordAt_ring (s : State) (code sev inst : Nat) (items : Bytes) : (recordAt s code sev inst items).ring = s.ring := rfl
@[simp] theorem recordAt_dram (s : State) (code sev inst : Nat) (items : Bytes) : (recordAt s code sev inst items).dram = s.dram := rfl
@[simp] theorem recordAt_keep (s : State) (code sev inst : Nat) (items : Bytes) : (recordAt s code sev inst items).keep = s.keep := rfl
@[simp] theorem recordAt_tier (s : State) (code sev inst : Nat) (items : Bytes) : (recordAt s code sev inst items).tier = s.tier := rfl
@[simp] theorem recordAt_twin (s : State) (code sev inst : Nat) (items : Bytes) : (recordAt s code sev inst items).twin = s.twin := rfl
@[simp] theorem recordAt_awl (s : State) (code sev inst : Nat) (items : Bytes) : (recordAt s code sev inst items).awl = s.awl := rfl
@[simp] theorem recordAt_fls (s : State) (code sev inst : Nat) (items : Bytes) : (recordAt s code sev inst items).fls = s.fls := rfl
@[simp] theorem recordAt_fw (s : State) (code sev inst : Nat) (items : Bytes) : (recordAt s code sev inst items).fw = s.fw := rfl
@[simp] theorem recordAt_lat (s : State) (code sev inst : Nat) (items : Bytes) : (recordAt s code sev inst items).lat = s.lat := rfl
@[simp] theorem recordAt_bkl (s : State) (code sev inst : Nat) (items : Bytes) : (recordAt s code sev inst items).bkl = s.bkl := rfl
@[simp] theorem recordAt_lx (s : State) (code sev inst : Nat) (items : Bytes) : (recordAt s code sev inst items).lx = s.lx := rfl
@[simp] theorem recordAt_time (s : State) (code sev inst : Nat) (items : Bytes) : (recordAt s code sev inst items).time = s.time := rfl
@[simp] theorem recordAt_freeCtr (s : State) (code sev inst : Nat) (items : Bytes) : (recordAt s code sev inst items).freeCtr = s.freeCtr := rfl
@[simp] theorem recordAt_out (s : State) (code sev inst : Nat) (items : Bytes) : (recordAt s code sev inst items).out = s.out := rfl
@[simp] theorem recordAt_pending (s : State) (code sev inst : Nat) (items : Bytes) : (recordAt s code sev inst items).pending = s.pending := rfl
@[simp] theorem rd_recordAt (s : State) (code sev inst : Nat) (items : Bytes) (g : Fld) : rd (recordAt s code sev inst items) g = rd s g := rfl

/-! ### record -/

@[simp] theorem record_csr (s : State) (ev : Ev) (inst : Nat) (items : Bytes) : (record s ev inst items).csr = s.csr := rfl
@[simp] theorem record_iface (s : State) (ev : Ev) (inst : Nat) (items : Bytes) : (record s ev inst items).iface = s.iface := rfl
@[simp] theorem record_dict (s : State) (ev : Ev) (inst : Nat) (items : Bytes) : (record s ev inst items).dict = s.dict := rfl
@[simp] theorem record_tack (s : State) (ev : Ev) (inst : Nat) (items : Bytes) : (record s ev inst items).tack = s.tack := rfl
@[simp] theorem record_pres (s : State) (ev : Ev) (inst : Nat) (items : Bytes) : (record s ev inst items).pres = s.pres := rfl
@[simp] theorem record_partners (s : State) (ev : Ev) (inst : Nat) (items : Bytes) : (record s ev inst items).partners = s.partners := rfl
@[simp] theorem record_lck (s : State) (ev : Ev) (inst : Nat) (items : Bytes) : (record s ev inst items).lck = s.lck := rfl
@[simp] theorem record_fm (s : State) (ev : Ev) (inst : Nat) (items : Bytes) : (record s ev inst items).fm = s.fm := rfl
@[simp] theorem record_ham (s : State) (ev : Ev) (inst : Nat) (items : Bytes) : (record s ev inst items).ham = s.ham := rfl
@[simp] theorem record_boot (s : State) (ev : Ev) (inst : Nat) (items : Bytes) : (record s ev inst items).boot = s.boot := rfl
@[simp] theorem record_host (s : State) (ev : Ev) (inst : Nat) (items : Bytes) : (record s ev inst items).host = s.host := rfl
@[simp] theorem record_per (s : State) (ev : Ev) (inst : Nat) (items : Bytes) : (record s ev inst items).per = s.per := rfl
@[simp] theorem record_cin (s : State) (ev : Ev) (inst : Nat) (items : Bytes) : (record s ev inst items).cin = s.cin := rfl
@[simp] theorem record_tree (s : State) (ev : Ev) (inst : Nat) (items : Bytes) : (record s ev inst items).tree = s.tree := rfl
@[simp] theorem record_ring (s : State) (ev : Ev) (inst : Nat) (items : Bytes) : (record s ev inst items).ring = s.ring := rfl
@[simp] theorem record_dram (s : State) (ev : Ev) (inst : Nat) (items : Bytes) : (record s ev inst items).dram = s.dram := rfl
@[simp] theorem record_keep (s : State) (ev : Ev) (inst : Nat) (items : Bytes) : (record s ev inst items).keep = s.keep := rfl
@[simp] theorem record_tier (s : State) (ev : Ev) (inst : Nat) (items : Bytes) : (record s ev inst items).tier = s.tier := rfl
@[simp] theorem record_twin (s : State) (ev : Ev) (inst : Nat) (items : Bytes) : (record s ev inst items).twin = s.twin := rfl
@[simp] theorem record_awl (s : State) (ev : Ev) (inst : Nat) (items : Bytes) : (record s ev inst items).awl = s.awl := rfl
@[simp] theorem record_fls (s : State) (ev : Ev) (inst : Nat) (items : Bytes) : (record s ev inst items).fls = s.fls := rfl
@[simp] theorem record_fw (s : State) (ev : Ev) (inst : Nat) (items : Bytes) : (record s ev inst items).fw = s.fw := rfl
@[simp] theorem record_lat (s : State) (ev : Ev) (inst : Nat) (items : Bytes) : (record s ev inst items).lat = s.lat := rfl
@[simp] theorem record_bkl (s : State) (ev : Ev) (inst : Nat) (items : Bytes) : (record s ev inst items).bkl = s.bkl := rfl
@[simp] theorem record_lx (s : State) (ev : Ev) (inst : Nat) (items : Bytes) : (record s ev inst items).lx = s.lx := rfl
@[simp] theorem record_time (s : State) (ev : Ev) (inst : Nat) (items : Bytes) : (record s ev inst items).time = s.time := rfl
@[simp] theorem record_freeCtr (s : State) (ev : Ev) (inst : Nat) (items : Bytes) : (record s ev inst items).freeCtr = s.freeCtr := rfl
@[simp] theorem record_out (s : State) (ev : Ev) (inst : Nat) (items : Bytes) : (record s ev inst items).out = s.out := rfl
@[simp] theorem record_pending (s : State) (ev : Ev) (inst : Nat) (items : Bytes) : (record s ev inst items).pending = s.pending := rfl
@[simp] theorem rd_record (s : State) (ev : Ev) (inst : Nat) (items : Bytes) (g : Fld) : rd (record s ev inst items) g = rd s g := rfl

/-! ### alert -/

@[simp] theorem alert_csr (s : State) (cond : Nat) : (alert s cond).csr = s.csr := rfl
@[simp] theorem alert_iface (s : State) (cond : Nat) : (alert s cond).iface = s.iface := rfl
@[simp] theorem alert_dict (s : State) (cond : Nat) : (alert s cond).dict = s.dict := rfl
@[simp] theorem alert_tack (s : State) (cond : Nat) : (alert s cond).tack = s.tack := rfl
@[simp] theorem alert_pres (s : State) (cond : Nat) : (alert s cond).pres = s.pres := rfl
@[simp] theorem alert_partners (s : State) (cond : Nat) : (alert s cond).partners = s.partners := rfl
@[simp] theorem alert_lck (s : State) (cond : Nat) : (alert s cond).lck = s.lck := rfl
@[simp] theorem alert_stm (s : State) (cond : Nat) : (alert s cond).stm = s.stm := rfl
@[simp] theorem alert_ham (s : State) (cond : Nat) : (alert s cond).ham = s.ham := rfl
@[simp] theorem alert_boot (s : State) (cond : Nat) : (alert s cond).boot = s.boot := rfl
@[simp] theorem alert_host (s : State) (cond : Nat) : (alert s cond).host = s.host := rfl
@[simp] theorem alert_per (s : State) (cond : Nat) : (alert s cond).per = s.per := rfl
@[simp] theorem alert_cin (s : State) (cond : Nat) : (alert s cond).cin = s.cin := rfl
@[simp] theorem alert_tree (s : State) (cond : Nat) : (alert s cond).tree = s.tree := rfl
@[simp] theorem alert_ring (s : State) (cond : Nat) : (alert s cond).ring = s.ring := rfl
@[simp] theorem alert_dram (s : State) (cond : Nat) : (alert s cond).dram = s.dram := rfl
@[simp] theorem alert_keep (s : State) (cond : Nat) : (alert s cond).keep = s.keep := rfl
@[simp] theorem alert_tier (s : State) (cond : Nat) : (alert s cond).tier = s.tier := rfl
@[simp] theorem alert_twin (s : State) (cond : Nat) : (alert s cond).twin = s.twin := rfl
@[simp] theorem alert_awl (s : State) (cond : Nat) : (alert s cond).awl = s.awl := rfl
@[simp] theorem alert_fls (s : State) (cond : Nat) : (alert s cond).fls = s.fls := rfl
@[simp] theorem alert_fw (s : State) (cond : Nat) : (alert s cond).fw = s.fw := rfl
@[simp] theorem alert_lat (s : State) (cond : Nat) : (alert s cond).lat = s.lat := rfl
@[simp] theorem alert_bkl (s : State) (cond : Nat) : (alert s cond).bkl = s.bkl := rfl
@[simp] theorem alert_lx (s : State) (cond : Nat) : (alert s cond).lx = s.lx := rfl
@[simp] theorem alert_time (s : State) (cond : Nat) : (alert s cond).time = s.time := rfl
@[simp] theorem alert_freeCtr (s : State) (cond : Nat) : (alert s cond).freeCtr = s.freeCtr := rfl
@[simp] theorem alert_out (s : State) (cond : Nat) : (alert s cond).out = s.out := rfl
@[simp] theorem alert_pending (s : State) (cond : Nat) : (alert s cond).pending = s.pending := rfl
@[simp] theorem rd_alert (s : State) (cond : Nat) (g : Fld) : rd (alert s cond) g = rd s g := rfl

/-! ### alertClear -/

@[simp] theorem alertClear_csr (s : State) (cond : Nat) : (alertClear s cond).csr = s.csr := rfl
@[simp] theorem alertClear_iface (s : State) (cond : Nat) : (alertClear s cond).iface = s.iface := rfl
@[simp] theorem alertClear_dict (s : State) (cond : Nat) : (alertClear s cond).dict = s.dict := rfl
@[simp] theorem alertClear_tack (s : State) (cond : Nat) : (alertClear s cond).tack = s.tack := rfl
@[simp] theorem alertClear_pres (s : State) (cond : Nat) : (alertClear s cond).pres = s.pres := rfl
@[simp] theorem alertClear_partners (s : State) (cond : Nat) : (alertClear s cond).partners = s.partners := rfl
@[simp] theorem alertClear_lck (s : State) (cond : Nat) : (alertClear s cond).lck = s.lck := rfl
@[simp] theorem alertClear_stm (s : State) (cond : Nat) : (alertClear s cond).stm = s.stm := rfl
@[simp] theorem alertClear_ham (s : State) (cond : Nat) : (alertClear s cond).ham = s.ham := rfl
@[simp] theorem alertClear_boot (s : State) (cond : Nat) : (alertClear s cond).boot = s.boot := rfl
@[simp] theorem alertClear_host (s : State) (cond : Nat) : (alertClear s cond).host = s.host := rfl
@[simp] theorem alertClear_per (s : State) (cond : Nat) : (alertClear s cond).per = s.per := rfl
@[simp] theorem alertClear_cin (s : State) (cond : Nat) : (alertClear s cond).cin = s.cin := rfl
@[simp] theorem alertClear_tree (s : State) (cond : Nat) : (alertClear s cond).tree = s.tree := rfl
@[simp] theorem alertClear_ring (s : State) (cond : Nat) : (alertClear s cond).ring = s.ring := rfl
@[simp] theorem alertClear_dram (s : State) (cond : Nat) : (alertClear s cond).dram = s.dram := rfl
@[simp] theorem alertClear_keep (s : State) (cond : Nat) : (alertClear s cond).keep = s.keep := rfl
@[simp] theorem alertClear_tier (s : State) (cond : Nat) : (alertClear s cond).tier = s.tier := rfl
@[simp] theorem alertClear_twin (s : State) (cond : Nat) : (alertClear s cond).twin = s.twin := rfl
@[simp] theorem alertClear_awl (s : State) (cond : Nat) : (alertClear s cond).awl = s.awl := rfl
@[simp] theorem alertClear_fls (s : State) (cond : Nat) : (alertClear s cond).fls = s.fls := rfl
@[simp] theorem alertClear_fw (s : State) (cond : Nat) : (alertClear s cond).fw = s.fw := rfl
@[simp] theorem alertClear_lat (s : State) (cond : Nat) : (alertClear s cond).lat = s.lat := rfl
@[simp] theorem alertClear_bkl (s : State) (cond : Nat) : (alertClear s cond).bkl = s.bkl := rfl
@[simp] theorem alertClear_lx (s : State) (cond : Nat) : (alertClear s cond).lx = s.lx := rfl
@[simp] theorem alertClear_time (s : State) (cond : Nat) : (alertClear s cond).time = s.time := rfl
@[simp] theorem alertClear_freeCtr (s : State) (cond : Nat) : (alertClear s cond).freeCtr = s.freeCtr := rfl
@[simp] theorem alertClear_out (s : State) (cond : Nat) : (alertClear s cond).out = s.out := rfl
@[simp] theorem alertClear_pending (s : State) (cond : Nat) : (alertClear s cond).pending = s.pending := rfl
@[simp] theorem rd_alertClear (s : State) (cond : Nat) (g : Fld) : rd (alertClear s cond) g = rd s g := rfl

/-! ### conductSet -/

@[simp] theorem conductSet_csr (s : State) (p : Partner) (c : Conduct) : (conductSet s p c).csr = s.csr := rfl
@[simp] theorem conductSet_iface (s : State) (p : Partner) (c : Conduct) : (conductSet s p c).iface = s.iface := rfl
@[simp] theorem conductSet_dict (s : State) (p : Partner) (c : Conduct) : (conductSet s p c).dict = s.dict := rfl
@[simp] theorem conductSet_tack (s : State) (p : Partner) (c : Conduct) : (conductSet s p c).tack = s.tack := rfl
@[simp] theorem conductSet_pres (s : State) (p : Partner) (c : Conduct) : (conductSet s p c).pres = s.pres := rfl
@[simp] theorem conductSet_lck (s : State) (p : Partner) (c : Conduct) : (conductSet s p c).lck = s.lck := rfl
@[simp] theorem conductSet_stm (s : State) (p : Partner) (c : Conduct) : (conductSet s p c).stm = s.stm := rfl
@[simp] theorem conductSet_fm (s : State) (p : Partner) (c : Conduct) : (conductSet s p c).fm = s.fm := rfl
@[simp] theorem conductSet_ham (s : State) (p : Partner) (c : Conduct) : (conductSet s p c).ham = s.ham := rfl
@[simp] theorem conductSet_boot (s : State) (p : Partner) (c : Conduct) : (conductSet s p c).boot = s.boot := rfl
@[simp] theorem conductSet_host (s : State) (p : Partner) (c : Conduct) : (conductSet s p c).host = s.host := rfl
@[simp] theorem conductSet_per (s : State) (p : Partner) (c : Conduct) : (conductSet s p c).per = s.per := rfl
@[simp] theorem conductSet_cin (s : State) (p : Partner) (c : Conduct) : (conductSet s p c).cin = s.cin := rfl
@[simp] theorem conductSet_tree (s : State) (p : Partner) (c : Conduct) : (conductSet s p c).tree = s.tree := rfl
@[simp] theorem conductSet_ring (s : State) (p : Partner) (c : Conduct) : (conductSet s p c).ring = s.ring := rfl
@[simp] theorem conductSet_dram (s : State) (p : Partner) (c : Conduct) : (conductSet s p c).dram = s.dram := rfl
@[simp] theorem conductSet_keep (s : State) (p : Partner) (c : Conduct) : (conductSet s p c).keep = s.keep := rfl
@[simp] theorem conductSet_tier (s : State) (p : Partner) (c : Conduct) : (conductSet s p c).tier = s.tier := rfl
@[simp] theorem conductSet_twin (s : State) (p : Partner) (c : Conduct) : (conductSet s p c).twin = s.twin := rfl
@[simp] theorem conductSet_awl (s : State) (p : Partner) (c : Conduct) : (conductSet s p c).awl = s.awl := rfl
@[simp] theorem conductSet_fls (s : State) (p : Partner) (c : Conduct) : (conductSet s p c).fls = s.fls := rfl
@[simp] theorem conductSet_fw (s : State) (p : Partner) (c : Conduct) : (conductSet s p c).fw = s.fw := rfl
@[simp] theorem conductSet_lat (s : State) (p : Partner) (c : Conduct) : (conductSet s p c).lat = s.lat := rfl
@[simp] theorem conductSet_bkl (s : State) (p : Partner) (c : Conduct) : (conductSet s p c).bkl = s.bkl := rfl
@[simp] theorem conductSet_lx (s : State) (p : Partner) (c : Conduct) : (conductSet s p c).lx = s.lx := rfl
@[simp] theorem conductSet_time (s : State) (p : Partner) (c : Conduct) : (conductSet s p c).time = s.time := rfl
@[simp] theorem conductSet_freeCtr (s : State) (p : Partner) (c : Conduct) : (conductSet s p c).freeCtr = s.freeCtr := rfl
@[simp] theorem conductSet_out (s : State) (p : Partner) (c : Conduct) : (conductSet s p c).out = s.out := rfl
@[simp] theorem conductSet_pending (s : State) (p : Partner) (c : Conduct) : (conductSet s p c).pending = s.pending := rfl
@[simp] theorem rd_conductSet (s : State) (p : Partner) (c : Conduct) (g : Fld) : rd (conductSet s p c) g = rd s g := rfl

/-! ### The state with commands left to run -/

@[simp] theorem withPending_csr (s : State) (q : List Instr) : { s with pending := q }.csr = s.csr := rfl
@[simp] theorem withPending_iface (s : State) (q : List Instr) : { s with pending := q }.iface = s.iface := rfl
@[simp] theorem withPending_dict (s : State) (q : List Instr) : { s with pending := q }.dict = s.dict := rfl
@[simp] theorem withPending_tack (s : State) (q : List Instr) : { s with pending := q }.tack = s.tack := rfl
@[simp] theorem withPending_pres (s : State) (q : List Instr) : { s with pending := q }.pres = s.pres := rfl
@[simp] theorem withPending_partners (s : State) (q : List Instr) : { s with pending := q }.partners = s.partners := rfl
@[simp] theorem withPending_lck (s : State) (q : List Instr) : { s with pending := q }.lck = s.lck := rfl
@[simp] theorem withPending_stm (s : State) (q : List Instr) : { s with pending := q }.stm = s.stm := rfl
@[simp] theorem withPending_fm (s : State) (q : List Instr) : { s with pending := q }.fm = s.fm := rfl
@[simp] theorem withPending_ham (s : State) (q : List Instr) : { s with pending := q }.ham = s.ham := rfl
@[simp] theorem withPending_boot (s : State) (q : List Instr) : { s with pending := q }.boot = s.boot := rfl
@[simp] theorem withPending_host (s : State) (q : List Instr) : { s with pending := q }.host = s.host := rfl
@[simp] theorem withPending_per (s : State) (q : List Instr) : { s with pending := q }.per = s.per := rfl
@[simp] theorem withPending_cin (s : State) (q : List Instr) : { s with pending := q }.cin = s.cin := rfl
@[simp] theorem withPending_tree (s : State) (q : List Instr) : { s with pending := q }.tree = s.tree := rfl
@[simp] theorem withPending_ring (s : State) (q : List Instr) : { s with pending := q }.ring = s.ring := rfl
@[simp] theorem withPending_dram (s : State) (q : List Instr) : { s with pending := q }.dram = s.dram := rfl
@[simp] theorem withPending_keep (s : State) (q : List Instr) : { s with pending := q }.keep = s.keep := rfl
@[simp] theorem withPending_tier (s : State) (q : List Instr) : { s with pending := q }.tier = s.tier := rfl
@[simp] theorem withPending_twin (s : State) (q : List Instr) : { s with pending := q }.twin = s.twin := rfl
@[simp] theorem withPending_awl (s : State) (q : List Instr) : { s with pending := q }.awl = s.awl := rfl
@[simp] theorem withPending_fls (s : State) (q : List Instr) : { s with pending := q }.fls = s.fls := rfl
@[simp] theorem withPending_fw (s : State) (q : List Instr) : { s with pending := q }.fw = s.fw := rfl
@[simp] theorem withPending_lat (s : State) (q : List Instr) : { s with pending := q }.lat = s.lat := rfl
@[simp] theorem withPending_bkl (s : State) (q : List Instr) : { s with pending := q }.bkl = s.bkl := rfl
@[simp] theorem withPending_lx (s : State) (q : List Instr) : { s with pending := q }.lx = s.lx := rfl
@[simp] theorem withPending_time (s : State) (q : List Instr) : { s with pending := q }.time = s.time := rfl
@[simp] theorem withPending_freeCtr (s : State) (q : List Instr) : { s with pending := q }.freeCtr = s.freeCtr := rfl
@[simp] theorem withPending_out (s : State) (q : List Instr) : { s with pending := q }.out = s.out := rfl

end Sys2Proof.Laws
end

