-- ==== Sys2Proof/Laws/Maps.lean ====
section
/-!
SUPPORT. Reading a sparse map after it was changed, and a register field after it was written.
-/
namespace Sys2Proof.Laws
open Sys2Proof.Machine

theorem amGet_amErase_self {α : Type} (m : List (Nat × α)) (k : Nat) (d : α) : amGet (amErase m k) k d = d := by
  induction m with
  | nil => rfl
  | cons e r ih =>
    obtain ⟨a, v⟩ := e
    by_cases h : a = k
    · simpa [amErase, h] using ih
    · simpa [amErase, h, amGet] using ih

theorem amGet_amErase_ne {α : Type} (m : List (Nat × α)) {k j : Nat} (d : α) (hne : j ≠ k) :
    amGet (amErase m k) j d = amGet m j d := by
  induction m with
  | nil => rfl
  | cons e r ih =>
    obtain ⟨a, v⟩ := e
    by_cases h : a = k
    · subst h
      simpa [amErase, amGet, Ne.symm hne] using ih
    · by_cases hj : a = j
      · simp [amErase, amGet, hj, hne]
      · simpa [amErase, h, amGet, hj] using ih

/-- The keys of a map with an entry erased. -/
theorem amErase_absent {α : Type} (m : List (Nat × α)) (k : Nat) : ∀ e ∈ amErase m k, e.1 ≠ k := by
  intro e he
  simpa using (List.mem_filter.mp he).2

theorem amGet_amInsert_self {α : Type} (m : List (Nat × α)) (k : Nat) (v d : α) (h : ∀ e ∈ m, e.1 ≠ k) :
    amGet (amInsert m k v) k d = v := by
  induction m with
  | nil => simp [amInsert, amGet]
  | cons e r ih =>
    obtain ⟨a, w⟩ := e
    have ha : a ≠ k := h (a, w) (by simp)
    by_cases hk : k < a
    · simp [amInsert, hk, amGet]
    · simp only [amInsert, hk, if_false, amGet, ha]
      exact ih (fun e he => h e (by simp [he]))

theorem amGet_amInsert_ne {α : Type} (m : List (Nat × α)) {k j : Nat} (v d : α) (hne : j ≠ k) :
    amGet (amInsert m k v) j d = amGet m j d := by
  induction m with
  | nil => simp [amInsert, amGet, Ne.symm hne]
  | cons e r ih =>
    obtain ⟨a, w⟩ := e
    by_cases hk : k < a
    · simp [amInsert, hk, amGet, Ne.symm hne]
    · by_cases hj : a = j
      · subst hj
        simp [amInsert, hk, amGet]
      · simp [amInsert, hk, amGet, hj, ih]

@[simp] theorem amGet_amSet_self {α : Type} (m : List (Nat × α)) (k : Nat) (v d : α) : amGet (amSet m k v) k d = v :=
  amGet_amInsert_self _ _ _ _ (amErase_absent m k)

theorem amGet_amSet_ne {α : Type} (m : List (Nat × α)) {k j : Nat} (v d : α) (h : j ≠ k) :
    amGet (amSet m k v) j d = amGet m j d := by
  rw [amSet, amGet_amInsert_ne _ _ _ h, amGet_amErase_ne _ _ h]

/-- Looking a key up with a default is looking it up and defaulting. -/
theorem amGet_eq {α : Type} (m : List (Nat × α)) (k : Nat) (d : α) : amGet m k d = (amFind m k).getD d := by
  induction m with
  | nil => rfl
  | cons e r ih =>
    obtain ⟨a, w⟩ := e
    by_cases h : a = k
    · simp [amGet, amFind, h]
    · simpa [amGet, amFind, h] using ih

@[simp] theorem amFind_amSet_self {α : Type} (m : List (Nat × α)) (k : Nat) (v : α) : amFind (amSet m k v) k = some v := by
  have h : ∀ l : List (Nat × α), (∀ e ∈ l, e.1 ≠ k) → amFind (amInsert l k v) k = some v := by
    intro l
    induction l with
    | nil => intro _; simp [amInsert, amFind]
    | cons e r ih =>
      obtain ⟨a, w⟩ := e
      intro hl
      have ha : a ≠ k := hl (a, w) (by simp)
      by_cases hk : k < a
      · simp [amInsert, hk, amFind]
      · simp only [amInsert, hk, if_false, amFind, ha]
        exact ih (fun e he => hl e (by simp [he]))
  exact h _ (amErase_absent m k)

@[simp] theorem amGet_nmSet_self (m : List (Nat × Nat)) (k v d : Nat) : amGet (nmSet m k v d) k d = v := by
  by_cases h : v = d
  · simp [nmSet, h, amGet_amErase_self]
  · simp only [nmSet, h, if_false]
    exact amGet_amInsert_self _ _ _ _ (amErase_absent m k)

theorem amGet_nmSet_ne (m : List (Nat × Nat)) {k j : Nat} (v d e : Nat) (h : j ≠ k) :
    amGet (nmSet m k v d) j e = amGet m j e := by
  by_cases hv : v = d
  · simp [nmSet, hv, amGet_amErase_ne _ _ h]
  · simp [nmSet, hv, amGet_amInsert_ne _ _ _ h, amGet_amErase_ne _ _ h]

/-! ### Register fields -/

/-- A field reads the written value, cut to its width. -/
@[simp] theorem rd_wr_self (s : State) (f : Fld) (v : Nat) : rd (wr s f v) f = v % 2 ^ f.width := by
  simp [rd]

/-- Writing a field leaves the others. -/
theorem rd_wr_ne (s : State) {f g : Fld} (v : Nat) (h : g.addr ≠ f.addr) : rd (wr s f v) g = rd s g := by
  simp [rd, amGet_nmSet_ne _ _ _ _ h]

theorem rd_setF_ne (s : State) {f g : Fld} (h : g.addr ≠ f.addr) : rd (setF s f) g = rd s g := rd_wr_ne s 1 h

/-- A flag of one bit or more that is set reads as 1. -/
theorem rd_setF_self (s : State) (f : Fld) (h : 0 < f.width) : rd (setF s f) f = 1 := by
  have : 1 < 2 ^ f.width := Nat.one_lt_two_pow (by omega)
  simp [setF, Nat.mod_eq_of_lt this]

theorem rd_bump_ne (s : State) {f g : Fld} (n : Nat) (h : g.addr ≠ f.addr) : rd (bump s f n) g = rd s g :=
  rd_wr_ne s _ h

theorem satTo_le (m v : Nat) : satTo m v ≤ m := by
  unfold satTo
  split <;> omega

/-- A counter saturates at the greatest value of its width (R73). -/
theorem rd_bump_self (s : State) (f : Fld) (n : Nat) : rd (bump s f n) f = satTo (2 ^ f.width - 1) (rd s f + n) := by
  have h := satTo_le (2 ^ f.width - 1) (rd s f + n)
  have p : 0 < 2 ^ f.width := Nat.two_pow_pos _
  simp only [bump, rd_wr_self]
  exact Nat.mod_eq_of_lt (by omega)

end Sys2Proof.Laws
end

