-- ==== Sys2Proof/Laws/Access.lean ====
section
/-!
SUPPORT. What the accessors of the units' tables read after one entry was replaced.
-/
namespace Sys2Proof.Laws
open Sys2Proof.Machine

@[simp] theorem railOf_railSet_self (s : State) (n : Nat) (r : Rail) : railOf (railSet s n r) n = r := by
  simp [railOf, railSet]

theorem railOf_railSet_ne (s : State) {n m : Nat} (r : Rail) (h : m ≠ n) : railOf (railSet s n r) m = railOf s m := by
  simp [railOf, railSet, amGet_amSet_ne _ _ _ h]

end Sys2Proof.Laws
end

