-- ==== Sys2Proof/Laws/Dictionary.lean ====
section
/-!
SUPPORT. What a dictionary write that passes its checks does, by the access right of its entry.
-/
namespace Sys2Proof.Laws
open Sys2Proof.Machine

theorem odCommit_rw {s : State} {r : Route} {c k : Nat} {d : Bytes} {own : Bool} (h : writeCheck s r k d own = (.ok, 0))
    (hr : (odFind k).map (fun e => e.right) = some .rw) : odCommit s r c k d own = rwWrite s k d := by
  unfold odCommit
  cases he : odFind k with
  | none => simp [he] at hr
  | some e => simp [he] at hr; simp [h, hr]

theorem odCommit_sealed {s : State} {r : Route} {c k : Nat} {d : Bytes} {own : Bool} (h : writeCheck s r k d own = (.ok, 0))
    (hr : (odFind k).map (fun e => e.right) = some .sealed_) : odCommit s r c k d own = sealedWrite s r c k d := by
  unfold odCommit
  cases he : odFind k with
  | none => simp [he] at hr
  | some e => simp [he] at hr; simp [h, hr]

/-- A write that its checks refuse, other than a sealed one without a window, changes nothing. -/
theorem odCommit_refused {s : State} {r : Route} {c k : Nat} {d : Bytes} {own : Bool} (h : (writeCheck s r k d own).1 ≠ .ok)
    (h2 : (writeCheck s r k d own).1 ≠ .sealedRefused) : odCommit s r c k d own = (writeCheck s r k d own, s) := by
  unfold odCommit
  simp [h, h2]

/-- Rows whose entries all stand below a key do not hold it. -/
theorem odFind_skip (k : Nat) (l r : List OdEntry) (h : ∀ x ∈ l, 0 < x.step ∧ x.key + x.step * x.count ≤ k) :
    (l ++ r).find? (fun e => e.has k) = r.find? (fun e => e.has k) := by
  have hn : l.find? (fun e => e.has k) = none := by
    rw [List.find?_eq_none]
    intro x hx
    obtain ⟨h1, h2⟩ := h x hx
    simp only [OdEntry.has, Bool.and_eq_true, decide_eq_true_eq, not_and, Nat.not_lt]
    intro _
    rw [Nat.le_div_iff_mul_le h1, Nat.mul_comm]
    omega
  simp [List.find?_append, hn]

/-- The first rows of the host ports, up to the region entries. -/
theorem odRows_split : odRows = (odRows1 ++ odRows2 ++ odRows3 ++ odRows4.take 12) ++
    (odMany 0x640001 1024 1 .tick 0xFF 0 0xFF :: (odRows4.drop 13 ++ odRows5 ++ odRows6)) := rfl

theorem odRows_below : ∀ x ∈ odRows1 ++ odRows2 ++ odRows3 ++ odRows4.take 12, 0 < x.step ∧ x.key + x.step * x.count ≤ 0x640001 := by
  decide

/-- The region entry's RGN_LD is an RW-TICK entry (R209). -/
theorem odFind_rgn_ld (e : Fin 1024) :
    odFind ((0x6400 + e.val) * 256 + 1) = some (odMany 0x640001 1024 1 .tick 0xFF 0 0xFF) := by
  have hs := odFind_skip ((0x6400 + e.val) * 256 + 1) _ (odMany 0x640001 1024 1 .tick 0xFF 0 0xFF :: (odRows4.drop 13 ++ odRows5 ++ odRows6))
    (fun x hx => ⟨(odRows_below x hx).1, by have := (odRows_below x hx).2; omega⟩)
  rw [odFind, odRows_split, hs, List.find?_cons]
  have : (odMany 0x640001 1024 1 .tick 0xFF 0 0xFF).has ((0x6400 + e.val) * 256 + 1) = true := by
    have h1 : 0x640001 ≤ (0x6400 + e.val) * 256 + 1 := by omega
    have h2 : ((0x6400 + e.val) * 256 + 1 - 0x640001) % 256 = 0 := by omega
    have h3 : ((0x6400 + e.val) * 256 + 1 - 0x640001) / 256 < 1024 := by omega
    exact Bool.and_eq_true_iff.2 ⟨Bool.and_eq_true_iff.2 ⟨decide_eq_true h1, beq_iff_eq.2 h2⟩, decide_eq_true h3⟩
  rw [this]

end Sys2Proof.Laws
end

