-- ==== Sys2Proof/Laws/Exec.lean ====
section
/-!
SUPPORT. Dispatch, one lemma for each command: `exec` of the command is its meaning; and a step runs the command at the front of the queue.
-/
namespace Sys2Proof.Laws
open Sys2Proof.Machine

@[simp] theorem exec_porstNRelease (mode : Fin 4) (serviceN twinPresentN : Bool) (s : State) : exec (.porstNRelease mode serviceN twinPresentN) s = execPorstNRelease mode serviceN twinPresentN s := rfl
@[simp] theorem exec_porstNAssert (torn : Bool) (s : State) : exec (.porstNAssert torn) s = execPorstNAssert torn s := rfl
@[simp] theorem exec_vddAonLoss (torn : Bool) (s : State) : exec (.vddAonLoss torn) s = execVddAonLoss torn s := rfl
@[simp] theorem exec_commonStart (s : State) : exec .commonStart s = execCommonStart s := rfl
@[simp] theorem exec_railOnDelay (n : Fin 32) (s : State) : exec (.railOnDelay n) s = execRailOnDelay n s := rfl
@[simp] theorem exec_railPgRise (n : Fin 32) (ramp : Nat) (s : State) : exec (.railPgRise n ramp) s = execRailPgRise n ramp s := rfl
@[simp] theorem exec_railPgTimeout (n : Fin 32) (s : State) : exec (.railPgTimeout n) s = execRailPgTimeout n s := rfl
@[simp] theorem exec_railPgFault (n : Fin 32) (s : State) : exec (.railPgFault n) s = execRailPgFault n s := rfl
@[simp] theorem exec_railRetryAttempt (n : Fin 32) (s : State) : exec (.railRetryAttempt n) s = execRailRetryAttempt n s := rfl
@[simp] theorem exec_railOffDelay (n : Fin 32) (s : State) : exec (.railOffDelay n) s = execRailOffDelay n s := rfl
@[simp] theorem exec_railStuckOn (n : Fin 32) (s : State) : exec (.railStuckOn n) s = execRailStuckOn n s := rfl
@[simp] theorem exec_domainSwitchTimeout (d : Fin 92) (s : State) : exec (.domainSwitchTimeout d) s = execDomainSwitchTimeout d s := rfl
@[simp] theorem exec_psuOkLow (s : State) : exec .psuOkLow s = execPsuOkLow s := rfl
@[simp] theorem exec_holdupLow (s : State) : exec .holdupLow s = execHoldupLow s := rfl
@[simp] theorem exec_faultNExternal (s : State) : exec .faultNExternal s = execFaultNExternal s := rfl
@[simp] theorem exec_faultNGlitch (s : State) : exec .faultNGlitch s = execFaultNGlitch s := rfl
@[simp] theorem exec_sysclkLoss (s : State) : exec .sysclkLoss s = execSysclkLoss s := rfl
@[simp] theorem exec_refclkLoss (which : Fin 5) (s : State) : exec (.refclkLoss which) s = execRefclkLoss which s := rfl
@[simp] theorem exec_wdiToggle (s : State) : exec .wdiToggle s = execWdiToggle s := rfl
@[simp] theorem exec_wdiMissed (s : State) : exec .wdiMissed s = execWdiMissed s := rfl
@[simp] theorem exec_bringupStepEnd (r : StepIn) (s : State) : exec (.bringupStepEnd r) s = execBringupStepEnd r s := rfl
@[simp] theorem exec_bringupStepLate (s : State) : exec .bringupStepLate s = execBringupStepLate s := rfl
@[simp] theorem exec_wrstNAssert (s : State) : exec .wrstNAssert s = execWrstNAssert s := rfl
@[simp] theorem exec_swWarmReset (m : Fin 11) (value : Word) (s : State) : exec (.swWarmReset m value) s = execSwWarmReset m value s := rfl
@[simp] theorem exec_warmResetHold (torn : Bool) (s : State) : exec (.warmResetHold torn) s = execWarmResetHold torn s := rfl
@[simp] theorem exec_warmResetDeferralEnd (s : State) : exec .warmResetDeferralEnd s = execWarmResetDeferralEnd s := rfl
@[simp] theorem exec_unitResetLat (s : State) : exec .unitResetLat s = execUnitResetLat s := rfl
@[simp] theorem exec_unitResetBkl (s : State) : exec .unitResetBkl s = execUnitResetBkl s := rfl
@[simp] theorem exec_unitResetTir (s : State) : exec .unitResetTir s = execUnitResetTir s := rfl
@[simp] theorem exec_unitResetStm (s : State) : exec .unitResetStm s = execUnitResetStm s := rfl
@[simp] theorem exec_unitResetFls (s : State) : exec .unitResetFls s = execUnitResetFls s := rfl
@[simp] theorem exec_unitResetKcb (s : State) : exec .unitResetKcb s = execUnitResetKcb s := rfl
@[simp] theorem exec_functionQuiesced (f : Fn) (s : State) : exec (.functionQuiesced f) s = execFunctionQuiesced f s := rfl
@[simp] theorem exec_disableAbortTimeExpired (f : Fn) (s : State) : exec (.disableAbortTimeExpired f) s = execDisableAbortTimeExpired f s := rfl
@[simp] theorem exec_lineSyncPulse (highNs dt : Nat) (s : State) : exec (.lineSyncPulse highNs dt) s = execLineSyncPulse highNs dt s := rfl
@[simp] theorem exec_lineMissed (s : State) : exec .lineMissed s = execLineMissed s := rfl
@[simp] theorem exec_lineListenEnd (s : State) : exec .lineListenEnd s = execLineListenEnd s := rfl
@[simp] theorem exec_tick (s : State) : exec .tick s = execTick s := rfl
@[simp] theorem exec_halfCycleBoundary (s : State) : exec .halfCycleBoundary s = execHalfCycleBoundary s := rfl
@[simp] theorem exec_compatTick (s : State) : exec .compatTick s = execCompatTick s := rfl
@[simp] theorem exec_csrWrite (m : Fin 11) (off size : Nat) (value : Word) (s : State) : exec (.csrWrite m off size value) s = execCsrWrite m off size value s := rfl
@[simp] theorem exec_csrAliasWrite (m : Fin 11) (off : Nat) (value : Word) (s : State) : exec (.csrAliasWrite m off value) s = execCsrAliasWrite m off value s := rfl
@[simp] theorem exec_csrReadClear (m : Fin 11) (off : Nat) (s : State) : exec (.csrReadClear m off) s = execCsrReadClear m off s := rfl
@[simp] theorem exec_csrReadLatch (m : Fin 11) (off : Nat) (s : State) : exec (.csrReadLatch m off) s = execCsrReadLatch m off s := rfl
@[simp] theorem exec_cfgHoldLong (s : State) : exec .cfgHoldLong s = execCfgHoldLong s := rfl
@[simp] theorem exec_mbxClaim (m : Fin 11) (s : State) : exec (.mbxClaim m) s = execMbxClaim m s := rfl
@[simp] theorem exec_mbxRelease (m : Fin 11) (s : State) : exec (.mbxRelease m) s = execMbxRelease m s := rfl
@[simp] theorem exec_mbxClaimExpired (s : State) : exec .mbxClaimExpired s = execMbxClaimExpired s := rfl
@[simp] theorem exec_mbxRead (m : Fin 11) (op : Fin 4) (s : State) : exec (.mbxRead m op) s = execMbxRead m op s := rfl
@[simp] theorem exec_mbxWrite (m : Fin 11) (s : State) : exec (.mbxWrite m) s = execMbxWrite m s := rfl
@[simp] theorem exec_mbxAbort (m : Fin 11) (s : State) : exec (.mbxAbort m) s = execMbxAbort m s := rfl
@[simp] theorem exec_mbxOpDone (s : State) : exec .mbxOpDone s = execMbxOpDone s := rfl
@[simp] theorem exec_odStore (r : Route) (client : Nat) (s : State) : exec (.odStore r client) s = execOdStore r client s := rfl
@[simp] theorem exec_odStoreDone (s : State) : exec .odStoreDone s = execOdStoreDone s := rfl
@[simp] theorem exec_overlayAdd (r : Route) (client : Nat) (s : State) : exec (.overlayAdd r client) s = execOverlayAdd r client s := rfl
@[simp] theorem exec_overlayRemove (r : Route) (client : Nat) (s : State) : exec (.overlayRemove r client) s = execOverlayRemove r client s := rfl
@[simp] theorem exec_rgnEntryApply (r : Route) (client : Nat) (e : Fin 1024) (ld : Byte) (s : State) : exec (.rgnEntryApply r client e ld) s = execRgnEntryApply r client e ld s := rfl
@[simp] theorem exec_read (h : TackHdr) (key : Nat) (s : State) : exec (.read h key) s = execRead h key s := rfl
@[simp] theorem exec_write (h : TackHdr) (key : Nat) (data : Bytes) (s : State) : exec (.write h key data) s = execWrite h key data s := rfl
@[simp] theorem exec_writeInit (h : TackHdr) (key total : Nat) (s : State) : exec (.writeInit h key total) s = execWriteInit h key total s := rfl
@[simp] theorem exec_segment (h : TackHdr) (n : Nat) (last : Bool) (data : Bytes) (s : State) : exec (.segment h n last data) s = execSegment h n last data s := rfl
@[simp] theorem exec_ack (h : TackHdr) (n : Nat) (s : State) : exec (.ack h n) s = execAck h n s := rfl
@[simp] theorem exec_abort (h : TackHdr) (s : State) : exec (.abort h) s = execAbort h s := rfl
@[simp] theorem exec_tackBootupFrame (chan : Fin 2) (node serial : Nat) (s : State) : exec (.tackBootupFrame chan node serial) s = execTackBootupFrame chan node serial s := rfl
@[simp] theorem exec_tackBootupListenEnd (s : State) : exec .tackBootupListenEnd s = execTackBootupListenEnd s := rfl
@[simp] theorem exec_tackClassicalFrame (chan : Fin 2) (s : State) : exec (.tackClassicalFrame chan) s = execTackClassicalFrame chan s := rfl
@[simp] theorem exec_tackTransferTimeout (chan : Fin 2) (client tag : Nat) (s : State) : exec (.tackTransferTimeout chan client tag) s = execTackTransferTimeout chan client tag s := rfl
@[simp] theorem exec_presenceOpen (s : State) : exec .presenceOpen s = execPresenceOpen s := rfl
@[simp] theorem exec_presenceClose (s : State) : exec .presenceClose s = execPresenceClose s := rfl
@[simp] theorem exec_presenceStuck (s : State) : exec .presenceStuck s = execPresenceStuck s := rfl
@[simp] theorem exec_presenceRearm (s : State) : exec .presenceRearm s = execPresenceRearm s := rfl
@[simp] theorem exec_recorderClear (r : Route) (client : Nat) (value : Bytes) (s : State) : exec (.recorderClear r client value) s = execRecorderClear r client value s := rfl
@[simp] theorem exec_recorderClearStepEnd (s : State) : exec .recorderClearStepEnd s = execRecorderClearStepEnd s := rfl
@[simp] theorem exec_lockPolicyChange (r : Route) (client : Nat) (which : Fin 4) (value : Bytes) (s : State) : exec (.lockPolicyChange r client which value) s = execLockPolicyChange r client which value s := rfl
@[simp] theorem exec_factoryDefault (r : Route) (client : Nat) (value : Bytes) (s : State) : exec (.factoryDefault r client value) s = execFactoryDefault r client value s := rfl
@[simp] theorem exec_cryptoErase (r : Route) (client : Nat) (value : Bytes) (s : State) : exec (.cryptoErase r client value) s = execCryptoErase r client value s := rfl
@[simp] theorem exec_forcedSlotSelection (r : Route) (client : Nat) (value : Bytes) (s : State) : exec (.forcedSlotSelection r client value) s = execForcedSlotSelection r client value s := rfl
@[simp] theorem exec_presencePolicyChange (r : Route) (client : Nat) (value : Bytes) (s : State) : exec (.presencePolicyChange r client value) s = execPresencePolicyChange r client value s := rfl
@[simp] theorem exec_hostWrite (port : Fin 16) (ldid : Fin 16) (tag hpa mask meta_ : Nat) (data : Bytes) (s : State) : exec (.hostWrite port ldid tag hpa mask meta_ data) s = execHostWrite port ldid tag hpa mask meta_ data s := rfl
@[simp] theorem exec_hostRead (port : Fin 16) (ldid : Fin 16) (tag hpa meta_ : Nat) (err : SramErr) (s : State) : exec (.hostRead port ldid tag hpa meta_ err) s = execHostRead port ldid tag hpa meta_ err s := rfl
@[simp] theorem exec_streamWrite (port : Fin 16) (ldid : Fin 16) (tag hpa mask : Nat) (data : Bytes) (s : State) : exec (.streamWrite port ldid tag hpa mask data) s = execStreamWrite port ldid tag hpa mask data s := rfl
@[simp] theorem exec_skiveClose (line : Nat) (s : State) : exec (.skiveClose line) s = execSkiveClose line s := rfl
@[simp] theorem exec_weltRelease (line : Nat) (err : SramErr) (s : State) : exec (.weltRelease line err) s = execWeltRelease line err s := rfl
@[simp] theorem exec_hdmDecoderCommit (n : Fin 64) (idx : Fin 4) (base size skip ways gran : Nat) (bi lock : Bool) (s : State) : exec (.hdmDecoderCommit n idx base size skip ways gran bi lock) s = execHdmDecoderCommit n idx base size skip ways gran bi lock s := rfl
@[simp] theorem exec_doorbellRing (n : Fin 64) (slot : Fin 64) (word bits : Nat) (s : State) : exec (.doorbellRing n slot word bits) s = execDoorbellRing n slot word bits s := rfl
@[simp] theorem exec_barrierEnd (id : Nat) (s : State) : exec (.barrierEnd id) s = execBarrierEnd id s := rfl
@[simp] theorem exec_barrierTimeout (id : Nat) (s : State) : exec (.barrierTimeout id) s = execBarrierTimeout id s := rfl
@[simp] theorem exec_commitBarrierCutoff (s : State) : exec .commitBarrierCutoff s = execCommitBarrierCutoff s := rfl
@[simp] theorem exec_gpfPhase1 (port : Fin 16) (s : State) : exec (.gpfPhase1 port) s = execGpfPhase1 port s := rfl
@[simp] theorem exec_gpfPhase2 (port : Fin 16) (s : State) : exec (.gpfPhase2 port) s = execGpfPhase2 port s := rfl
@[simp] theorem exec_hostLinkUp (port : Fin 16) (width : Nat) (rate64 flit68 : Bool) (s : State) : exec (.hostLinkUp port width rate64 flit68) s = execHostLinkUp port width rate64 flit68 s := rfl
@[simp] theorem exec_hostLinkDown (port : Fin 16) (s : State) : exec (.hostLinkDown port) s = execHostLinkDown port s := rfl
@[simp] theorem exec_hptPortEnableChange (port : Fin 16) (on : Bool) (s : State) : exec (.hptPortEnableChange port on) s = execHptPortEnableChange port on s := rfl
@[simp] theorem exec_hptLdEnableChange (n : Fin 64) (on : Bool) (s : State) : exec (.hptLdEnableChange n on) s = execHptLdEnableChange n on s := rfl
@[simp] theorem exec_birspi (n : Fin 64) (key : Nat) (s : State) : exec (.birspi n key) s = execBirspi n key s := rfl
@[simp] theorem exec_biconflict (n : Fin 64) (key : Nat) (s : State) : exec (.biconflict n key) s = execBiconflict n key s := rfl
@[simp] theorem exec_bisnpGuardExpired (n : Fin 64) (key : Nat) (s : State) : exec (.bisnpGuardExpired n key) s = execBisnpGuardExpired n key s := rfl
@[simp] theorem exec_identifyMemoryDevice (n : Fin 64) (s : State) : exec (.identifyMemoryDevice n) s = execIdentifyMemoryDevice n s := rfl
@[simp] theorem exec_getPartitionInfo (n : Fin 64) (s : State) : exec (.getPartitionInfo n) s = execGetPartitionInfo n s := rfl
@[simp] theorem exec_getSupportedLogs (n : Fin 64) (s : State) : exec (.getSupportedLogs n) s = execGetSupportedLogs n s := rfl
@[simp] theorem exec_getLog (n : Fin 64) (uuid : Bytes) (off len : Nat) (s : State) : exec (.getLog n uuid off len) s = execGetLog n uuid off len s := rfl
@[simp] theorem exec_getHealthInfo (n : Fin 64) (s : State) : exec (.getHealthInfo n) s = execGetHealthInfo n s := rfl
@[simp] theorem exec_getEventRecords (n : Fin 64) (log : Nat) (s : State) : exec (.getEventRecords n log) s = execGetEventRecords n log s := rfl
@[simp] theorem exec_clearEventRecords (n : Fin 64) (log : Nat) (all : Bool) (handles : List Nat) (s : State) : exec (.clearEventRecords n log all handles) s = execClearEventRecords n log all handles s := rfl
@[simp] theorem exec_getEventInterruptPolicy (n : Fin 64) (s : State) : exec (.getEventInterruptPolicy n) s = execGetEventInterruptPolicy n s := rfl
@[simp] theorem exec_setEventInterruptPolicy (n : Fin 64) (settings : List Byte) (s : State) : exec (.setEventInterruptPolicy n settings) s = execSetEventInterruptPolicy n settings s := rfl
@[simp] theorem exec_getLsa (n : Fin 64) (off len : Nat) (s : State) : exec (.getLsa n off len) s = execGetLsa n off len s := rfl
@[simp] theorem exec_setLsa (n : Fin 64) (off : Nat) (data : Bytes) (s : State) : exec (.setLsa n off data) s = execSetLsa n off data s := rfl
@[simp] theorem exec_getPoisonList (n : Fin 64) (start len : Nat) (s : State) : exec (.getPoisonList n start len) s = execGetPoisonList n start len s := rfl
@[simp] theorem exec_clearPoison (n : Fin 64) (dpa : Nat) (data : Bytes) (s : State) : exec (.clearPoison n dpa data) s = execClearPoison n dpa data s := rfl
@[simp] theorem exec_getTimestamp (n : Fin 64) (s : State) : exec (.getTimestamp n) s = execGetTimestamp n s := rfl
@[simp] theorem exec_setTimestamp (n : Fin 64) (value : Nat) (s : State) : exec (.setTimestamp n value) s = execSetTimestamp n value s := rfl
@[simp] theorem exec_getFwInfo (n : Fin 64) (s : State) : exec (.getFwInfo n) s = execGetFwInfo n s := rfl
@[simp] theorem exec_unsupportedMailboxCommand (n : Fin 64) (s : State) : exec (.unsupportedMailboxCommand n) s = execUnsupportedMailboxCommand n s := rfl
@[simp] theorem exec_getLdInfo (p : Fin 16) (s : State) : exec (.getLdInfo p) s = execGetLdInfo p s := rfl
@[simp] theorem exec_getLdAllocations (p : Fin 16) (start limit : Nat) (s : State) : exec (.getLdAllocations p start limit) s = execGetLdAllocations p start limit s := rfl
@[simp] theorem exec_setLdAllocations (p : Fin 16) (s : State) : exec (.setLdAllocations p) s = execSetLdAllocations p s := rfl
@[simp] theorem exec_odRead (n : Fin 64) (key off : Nat) (s : State) : exec (.odRead n key off) s = execOdRead n key off s := rfl
@[simp] theorem exec_odWrite (n : Fin 64) (key off total : Nat) (data : Bytes) (s : State) : exec (.odWrite n key off total data) s = execOdWrite n key off total data s := rfl
@[simp] theorem exec_odAbort (n : Fin 64) (key : Nat) (s : State) : exec (.odAbort n key) s = execOdAbort n key s := rfl
@[simp] theorem exec_objectCreate (n : Fin 64) (offset size cls policy flags : Nat) (s : State) : exec (.objectCreate n offset size cls policy flags) s = execObjectCreate n offset size cls policy flags s := rfl
@[simp] theorem exec_objectDestroy (n : Fin 64) (id : Nat) (s : State) : exec (.objectDestroy n id) s = execObjectDestroy n id s := rfl
@[simp] theorem exec_objectQuery (n : Fin 64) (id : Nat) (s : State) : exec (.objectQuery n id) s = execObjectQuery n id s := rfl
@[simp] theorem exec_objectSetPolicy (n : Fin 64) (id policy flags : Nat) (s : State) : exec (.objectSetPolicy n id policy flags) s = execObjectSetPolicy n id policy flags s := rfl
@[simp] theorem exec_streamOpen (n : Fin 64) (object desc start window mode flags deadline : Nat) (far : List (Nat × Bytes)) (s : State) : exec (.streamOpen n object desc start window mode flags deadline far) s = execStreamOpen n object desc start window mode flags deadline far s := rfl
@[simp] theorem exec_streamClose (n : Fin 64) (id : Nat) (s : State) : exec (.streamClose n id) s = execStreamClose n id s := rfl
@[simp] theorem exec_layerDone (n : Fin 64) (slot : Fin 64) (word : Nat) (s : State) : exec (.layerDone n slot word) s = execLayerDone n slot word s := rfl
@[simp] theorem exec_streamDeadline (line : Nat) (s : State) : exec (.streamDeadline line) s = execStreamDeadline line s := rfl
@[simp] theorem exec_mirror (seq line mask : Nat) (data : Bytes) (s : State) : exec (.mirror seq line mask data) s = execMirror seq line mask data s := rfl
@[simp] theorem exec_mirrorFull (seq line : Nat) (data : Bytes) (s : State) : exec (.mirrorFull seq line data) s = execMirrorFull seq line data s := rfl
@[simp] theorem exec_mirrorAck (upto : Nat) (s : State) : exec (.mirrorAck upto) s = execMirrorAck upto s := rfl
@[simp] theorem exec_release (chunk mask cut : Nat) (s : State) : exec (.release chunk mask cut) s = execRelease chunk mask cut s := rfl
@[simp] theorem exec_repairReq (line tag : Nat) (s : State) : exec (.repairReq line tag) s = execRepairReq line tag s := rfl
@[simp] theorem exec_repairRsp (tag mask : Nat) (data : Bytes) (s : State) : exec (.repairRsp tag mask data) s = execRepairRsp tag mask data s := rfl
@[simp] theorem exec_remirror (line : Nat) (s : State) : exec (.remirror line) s = execRemirror line s := rfl
@[simp] theorem exec_journal (seq : Nat) (e : JournalEntry) (s : State) : exec (.journal seq e) s = execJournal seq e s := rfl
@[simp] theorem exec_journalAck (seq : Nat) (s : State) : exec (.journalAck seq) s = execJournalAck seq s := rfl
@[simp] theorem exec_zoneReq (wanted : Nat) (s : State) : exec (.zoneReq wanted) s = execZoneReq wanted s := rfl
@[simp] theorem exec_zoneGrant (zones : List Nat) (epoch : Nat) (s : State) : exec (.zoneGrant zones epoch) s = execZoneGrant zones epoch s := rfl
@[simp] theorem exec_zoneAck (zones : List Nat) (s : State) : exec (.zoneAck zones) s = execZoneAck zones s := rfl
@[simp] theorem exec_barrierReq (tag level : Nat) (s : State) : exec (.barrierReq tag level) s = execBarrierReq tag level s := rfl
@[simp] theorem exec_barrierDone (tag st : Nat) (s : State) : exec (.barrierDone tag st) s = execBarrierDone tag st s := rfl
@[simp] theorem exec_hello (h : HelloFrame) (s : State) : exec (.hello h) s = execHello h s := rfl
@[simp] theorem exec_heartbeat (h : HeartbeatFrame) (s : State) : exec (.heartbeat h) s = execHeartbeat h s := rfl
@[simp] theorem exec_handoverBegin (s : State) : exec .handoverBegin s = execHandoverBegin s := rfl
@[simp] theorem exec_handoverDone (s : State) : exec .handoverDone s = execHandoverDone s := rfl
@[simp] theorem exec_failbackReq (s : State) : exec .failbackReq s = execFailbackReq s := rfl
@[simp] theorem exec_failbackReady (epoch : Nat) (s : State) : exec (.failbackReady epoch) s = execFailbackReady epoch s := rfl
@[simp] theorem exec_failbackDone (s : State) : exec .failbackDone s = execFailbackDone s := rfl
@[simp] theorem exec_violation (cause code : Nat) (s : State) : exec (.violation cause code) s = execViolation cause code s := rfl
@[simp] theorem exec_stirrupUp (lanes : Nat) (s : State) : exec (.stirrupUp lanes) s = execStirrupUp lanes s := rfl
@[simp] theorem exec_stirrupDown (s : State) : exec .stirrupDown s = execStirrupDown s := rfl
@[simp] theorem exec_stpRetrain (s : State) : exec .stpRetrain s = execStpRetrain s := rfl
@[simp] theorem exec_heartbeatLossRetrain (s : State) : exec .heartbeatLossRetrain s = execHeartbeatLossRetrain s := rfl
@[simp] theorem exec_twinFailed (s : State) : exec .twinFailed s = execTwinFailed s := rfl
@[simp] theorem exec_claimDelayExpired (s : State) : exec .claimDelayExpired s = execClaimDelayExpired s := rfl
@[simp] theorem exec_reservationPreemptDone (slot : Fin 24) (ok : Bool) (s : State) : exec (.reservationPreemptDone slot ok) s = execReservationPreemptDone slot ok s := rfl
@[simp] theorem exec_claimRetry (s : State) : exec .claimRetry s = execClaimRetry s := rfl
@[simp] theorem exec_leaseSlotWrite (s : State) : exec .leaseSlotWrite s = execLeaseSlotWrite s := rfl
@[simp] theorem exec_handoverLeaseStale (s : State) : exec .handoverLeaseStale s = execHandoverLeaseStale s := rfl
@[simp] theorem exec_twinWaitExpired (lease : Option (Nat × Nat)) (s : State) : exec (.twinWaitExpired lease) s = execTwinWaitExpired lease s := rfl
@[simp] theorem exec_twinLeaseRecheck (lease : Option (Nat × Nat)) (s : State) : exec (.twinLeaseRecheck lease) s = execTwinLeaseRecheck lease s := rfl
@[simp] theorem exec_partnerContainmentEnd (p : Partner) (s : State) : exec (.partnerContainmentEnd p) s = execPartnerContainmentEnd p s := rfl
@[simp] theorem exec_rdS (a : Fin 5) (line : Nat) (prio : Bool) (s : State) : exec (.rdS a line prio) s = execRdS a line prio s := rfl
@[simp] theorem exec_rdX (a : Fin 5) (line : Nat) (prio : Bool) (s : State) : exec (.rdX a line prio) s = execRdX a line prio s := rfl
@[simp] theorem exec_wb (a : Fin 5) (line : Nat) (data : Bytes) (s : State) : exec (.wb a line data) s = execWb a line data s := rfl
@[simp] theorem exec_snpS (a : Fin 5) (line : Nat) (s : State) : exec (.snpS a line) s = execSnpS a line s := rfl
@[simp] theorem exec_snpInv (a : Fin 5) (line : Nat) (s : State) : exec (.snpInv a line) s = execSnpInv a line s := rfl
@[simp] theorem exec_ackI (a : Fin 5) (line : Nat) (s : State) : exec (.ackI a line) s = execAckI a line s := rfl
@[simp] theorem exec_ackS (a : Fin 5) (line : Nat) (s : State) : exec (.ackS a line) s = execAckS a line s := rfl
@[simp] theorem exec_ackData (a : Fin 5) (line : Nat) (data : Bytes) (s : State) : exec (.ackData a line data) s = execAckData a line data s := rfl
@[simp] theorem exec_wbPending (a : Fin 5) (line : Nat) (s : State) : exec (.wbPending a line) s = execWbPending a line s := rfl
@[simp] theorem exec_dataS (a : Fin 5) (line : Nat) (data : Bytes) (s : State) : exec (.dataS a line data) s = execDataS a line data s := rfl
@[simp] theorem exec_dataE (a : Fin 5) (line : Nat) (data : Bytes) (s : State) : exec (.dataE a line data) s = execDataE a line data s := rfl
@[simp] theorem exec_wbAck (a : Fin 5) (line : Nat) (s : State) : exec (.wbAck a line) s = execWbAck a line s := rfl
@[simp] theorem exec_nack (a : Fin 5) (line : Nat) (refused : Bool) (s : State) : exec (.nack a line refused) s = execNack a line refused s := rfl
@[simp] theorem exec_done (a : Fin 5) (line : Nat) (s : State) : exec (.done a line) s = execDone a line s := rfl
@[simp] theorem exec_nackRetryTimer (a : Fin 5) (line : Nat) (s : State) : exec (.nackRetryTimer a line) s = execNackRetryTimer a line s := rfl
@[simp] theorem exec_snoopGuardExpired (a : Fin 5) (line : Nat) (s : State) : exec (.snoopGuardExpired a line) s = execSnoopGuardExpired a line s := rfl
@[simp] theorem exec_agentLoad (c : Fin 8) (line : Nat) (s : State) : exec (.agentLoad c line) s = execAgentLoad c line s := rfl
@[simp] theorem exec_agentStore (c : Fin 8) (addr : Nat) (bytes : Bytes) (s : State) : exec (.agentStore c addr bytes) s = execAgentStore c addr bytes s := rfl
@[simp] theorem exec_agentEviction (a : Fin 5) (line : Nat) (s : State) : exec (.agentEviction a line) s = execAgentEviction a line s := rfl
@[simp] theorem exec_nonTemporalStore (c : Fin 8) (line off : Nat) (bytes : Bytes) (s : State) : exec (.nonTemporalStore c line off bytes) s = execNonTemporalStore c line off bytes s := rfl
@[simp] theorem exec_uncachedAccess (c : Fin 8) (addr : Nat) (write done : Bool) (s : State) : exec (.uncachedAccess c addr write done) s = execUncachedAccess c addr write done s := rfl
@[simp] theorem exec_fenceFCore (c : Fin 8) (s : State) : exec (.fenceFCore c) s = execFenceFCore c s := rfl
@[simp] theorem exec_fenceFClu (c : Fin 8) (s : State) : exec (.fenceFClu c) s = execFenceFClu c s := rfl
@[simp] theorem exec_fenceFSys (c : Fin 8) (s : State) : exec (.fenceFSys c) s = execFenceFSys c s := rfl
@[simp] theorem exec_fenceSCore (c : Fin 8) (s : State) : exec (.fenceSCore c) s = execFenceSCore c s := rfl
@[simp] theorem exec_fenceSClu (c : Fin 8) (s : State) : exec (.fenceSClu c) s = execFenceSClu c s := rfl
@[simp] theorem exec_fenceSSys (c : Fin 8) (s : State) : exec (.fenceSSys c) s = execFenceSSys c s := rfl
@[simp] theorem exec_treeFillDone (line : Nat) (s : State) : exec (.treeFillDone line) s = execTreeFillDone line s := rfl
@[simp] theorem exec_treeWalkDone (e : Nat) (s : State) : exec (.treeWalkDone e) s = execTreeWalkDone e s := rfl
@[simp] theorem exec_clean (s : State) : exec .clean s = execClean s := rfl
@[simp] theorem exec_cleanInv (s : State) : exec .cleanInv s = execCleanInv s := rfl
@[simp] theorem exec_inv (s : State) : exec .inv s = execInv s := rfl
@[simp] theorem exec_treMaintAbort (reached : Nat) (s : State) : exec (.treMaintAbort reached) s = execTreMaintAbort reached s := rfl
@[simp] theorem exec_treMaintDone (s : State) : exec .treMaintDone s = execTreMaintDone s := rfl
@[simp] theorem exec_dramArbitrate (ch : Fin 16) (subB : Bool) (s : State) : exec (.dramArbitrate ch subB) s = execDramArbitrate ch subB s := rfl
@[simp] theorem exec_dramWriteEnqueue (line : Nat) (s : State) : exec (.dramWriteEnqueue line) s = execDramWriteEnqueue line s := rfl
@[simp] theorem exec_dramReadReturn (ch : Fin 16) (subB : Bool) (res : EccResult) (pool map : Option Nat) (s : State) : exec (.dramReadReturn ch subB res pool map) s = execDramReadReturn ch subB res pool map s := rfl
@[simp] theorem exec_dramRefreshDue (ch : Fin 16) (subB : Bool) (s : State) : exec (.dramRefreshDue ch subB) s = execDramRefreshDue ch subB s := rfl
@[simp] theorem exec_dimmTempPoll (ch : Fin 16) (dimm : Fin 2) (first retry : SmbAnswer) (s : State) : exec (.dimmTempPoll ch dimm first retry) s = execDimmTempPoll ch dimm first retry s := rfl
@[simp] theorem exec_dramRetrainDone (ch : Fin 16) (pass : Bool) (s : State) : exec (.dramRetrainDone ch pass) s = execDramRetrainDone ch pass s := rfl
@[simp] theorem exec_holdupSmbusPoll (first retry : SmbAnswer) (s : State) : exec (.holdupSmbusPoll first retry) s = execHoldupSmbusPoll first retry s := rfl
@[simp] theorem exec_holdupSenseSample (uv : Nat) (s : State) : exec (.holdupSenseSample uv) s = execHoldupSenseSample uv s := rfl
@[simp] theorem exec_drainTakeChunk (s : State) : exec .drainTakeChunk s = execDrainTakeChunk s := rfl
@[simp] theorem exec_stripeWrite (relocate : Bool) (s : State) : exec (.stripeWrite relocate) s = execStripeWrite relocate s := rfl
@[simp] theorem exec_stripeCommit (n : Fin 8) (stripe : Nat) (s : State) : exec (.stripeCommit n stripe) s = execStripeCommit n stripe s := rfl
@[simp] theorem exec_stripeWriteFailed (n : Fin 8) (stripe col : Nat) (s : State) : exec (.stripeWriteFailed n stripe col) s = execStripeWriteFailed n stripe col s := rfl
@[simp] theorem exec_zoneReclaim (zone : Nat) (s : State) : exec (.zoneReclaim zone) s = execZoneReclaim zone s := rfl
@[simp] theorem exec_tierCheckpoint (s : State) : exec .tierCheckpoint s = execTierCheckpoint s := rfl
@[simp] theorem exec_commitStepEnd (s : State) : exec .commitStepEnd s = execCommitStepEnd s := rfl
@[simp] theorem exec_swCommit (m : Fin 11) (value : Word) (s : State) : exec (.swCommit m value) s = execSwCommit m value s := rfl
@[simp] theorem exec_requalPowerUp (s : State) : exec .requalPowerUp s = execRequalPowerUp s := rfl
@[simp] theorem exec_segmentLoadDone (hs : Nat) (lines : List (Nat × Bytes)) (s : State) : exec (.segmentLoadDone hs lines) s = execSegmentLoadDone hs lines s := rfl
@[simp] theorem exec_segmentEvict (s : State) : exec .segmentEvict s = execSegmentEvict s := rfl
@[simp] theorem exec_segmentEvictDone (hs : Nat) (s : State) : exec (.segmentEvictDone hs) s = execSegmentEvictDone hs s := rfl
@[simp] theorem exec_frameMoveDone (hs : Nat) (s : State) : exec (.frameMoveDone hs) s = execFrameMoveDone hs s := rfl
@[simp] theorem exec_loadLate (line : Nat) (s : State) : exec (.loadLate line) s = execLoadLate line s := rfl
@[simp] theorem exec_leaseReq (addr wanted : Nat) (s : State) : exec (.leaseReq addr wanted) s = execLeaseReq addr wanted s := rfl
@[simp] theorem exec_leaseGrant (i : Fin 16) (frames : List Nat) (rkey epoch : Nat) (s : State) : exec (.leaseGrant i frames rkey epoch) s = execLeaseGrant i frames rkey epoch s := rfl
@[simp] theorem exec_leaseReturn (addr : Nat) (frames : List Nat) (s : State) : exec (.leaseReturn addr frames) s = execLeaseReturn addr frames s := rfl
@[simp] theorem exec_leaseRecall (i : Fin 16) (frames : List Nat) (s : State) : exec (.leaseRecall i frames) s = execLeaseRecall i frames s := rfl
@[simp] theorem exec_leasePing (fromLender : Bool) (who epoch : Nat) (s : State) : exec (.leasePing fromLender who epoch) s = execLeasePing fromLender who epoch s := rfl
@[simp] theorem exec_leasePingTimer (s : State) : exec .leasePingTimer s = execLeasePingTimer s := rfl
@[simp] theorem exec_leaseRecallDeadline (asLender : Bool) (who : Nat) (s : State) : exec (.leaseRecallDeadline asLender who) s = execLeaseRecallDeadline asLender who s := rfl
@[simp] theorem exec_leaseGraceExpired (i : Fin 16) (s : State) : exec (.leaseGraceExpired i) s = execLeaseGraceExpired i s := rfl
@[simp] theorem exec_leaseOpen (addr qpn psn salt ctr : Nat) (s : State) : exec (.leaseOpen addr qpn psn salt ctr) s = execLeaseOpen addr qpn psn salt ctr s := rfl
@[simp] theorem exec_leaseAccept (i : Fin 16) (qpn psn salt ctr : Nat) (s : State) : exec (.leaseAccept i qpn psn salt ctr) s = execLeaseAccept i qpn psn salt ctr s := rfl
@[simp] theorem exec_leaseOpenResend (i : Fin 16) (s : State) : exec (.leaseOpenResend i) s = execLeaseOpenResend i s := rfl
@[simp] theorem exec_pdAlloc (who : Issuer) (slot : Fin 128) (tag tenant : Nat) (s : State) : exec (.pdAlloc who slot tag tenant) s = execPdAlloc who slot tag tenant s := rfl
@[simp] theorem exec_pdFree (who : Issuer) (slot : Fin 128) (tag pd : Nat) (s : State) : exec (.pdFree who slot tag pd) s = execPdFree who slot tag pd s := rfl
@[simp] theorem exec_cqCreate (who : Issuer) (slot : Fin 128) (tag owner dpa entries qslot : Nat) (s : State) : exec (.cqCreate who slot tag owner dpa entries qslot) s = execCqCreate who slot tag owner dpa entries qslot s := rfl
@[simp] theorem exec_cqDestroy (who : Issuer) (slot : Fin 128) (tag cq : Nat) (s : State) : exec (.cqDestroy who slot tag cq) s = execCqDestroy who slot tag cq s := rfl
@[simp] theorem exec_connCreate (who : Issuer) (slot : Fin 128) (tag : Nat) (p : ConnParams) (s : State) : exec (.connCreate who slot tag p) s = execConnCreate who slot tag p s := rfl
@[simp] theorem exec_connModifyError (who : Issuer) (slot : Fin 128) (tag id : Nat) (s : State) : exec (.connModifyError who slot tag id) s = execConnModifyError who slot tag id s := rfl
@[simp] theorem exec_connModifyTxKey (who : Issuer) (slot : Fin 128) (tag id key salt : Nat) (s : State) : exec (.connModifyTxKey who slot tag id key salt) s = execConnModifyTxKey who slot tag id key salt s := rfl
@[simp] theorem exec_connModifyRxKey (who : Issuer) (slot : Fin 128) (tag id phase key : Nat) (s : State) : exec (.connModifyRxKey who slot tag id phase key) s = execConnModifyRxKey who slot tag id phase key s := rfl
@[simp] theorem exec_connDestroy (who : Issuer) (slot : Fin 128) (tag id : Nat) (s : State) : exec (.connDestroy who slot tag id) s = execConnDestroy who slot tag id s := rfl
@[simp] theorem exec_regionRegister (who : Issuer) (slot : Fin 128) (tag owner pd base len acc : Nat) (s : State) : exec (.regionRegister who slot tag owner pd base len acc) s = execRegionRegister who slot tag owner pd base len acc s := rfl
@[simp] theorem exec_regionRevoke (who : Issuer) (slot : Fin 128) (tag rkey : Nat) (s : State) : exec (.regionRevoke who slot tag rkey) s = execRegionRevoke who slot tag rkey s := rfl
@[simp] theorem exec_revokeForced (k : Nat) (s : State) : exec (.revokeForced k) s = execRevokeForced k s := rfl
@[simp] theorem exec_sqTail (n : Fin 64) (qslot : Nat) (value : Word) (s : State) : exec (.sqTail n qslot value) s = execSqTail n qslot value s := rfl
@[simp] theorem exec_rqTail (n : Fin 64) (qslot : Nat) (value : Word) (s : State) : exec (.rqTail n qslot value) s = execRqTail n qslot value s := rfl
@[simp] theorem exec_cqHead (n : Fin 64) (qslot : Nat) (value : Word) (s : State) : exec (.cqHead n qslot value) s = execCqHead n qslot value s := rfl
@[simp] theorem exec_wqeNop (id : Nat) (far : Bytes) (s : State) : exec (.wqeNop id far) s = execWqeNop id far s := rfl
@[simp] theorem exec_wqeWrite (id : Nat) (far : Bytes) (s : State) : exec (.wqeWrite id far) s = execWqeWrite id far s := rfl
@[simp] theorem exec_wqeRead (id : Nat) (far : Bytes) (s : State) : exec (.wqeRead id far) s = execWqeRead id far s := rfl
@[simp] theorem exec_wqeSend (id : Nat) (far : Bytes) (s : State) : exec (.wqeSend id far) s = execWqeSend id far s := rfl
@[simp] theorem exec_wqeCas (id : Nat) (far : Bytes) (s : State) : exec (.wqeCas id far) s = execWqeCas id far s := rfl
@[simp] theorem exec_wqeFaa (id : Nat) (far : Bytes) (s : State) : exec (.wqeFaa id far) s = execWqeFaa id far s := rfl
@[simp] theorem exec_wqeWait (id : Nat) (far : Bytes) (s : State) : exec (.wqeWait id far) s = execWqeWait id far s := rfl
@[simp] theorem exec_cqeWrite (id : Nat) (rq : Bool) (far : Bytes) (s : State) : exec (.cqeWrite id rq far) s = execCqeWrite id rq far s := rfl
@[simp] theorem exec_rdmaWriteRequest (p : RxPkt) (s : State) : exec (.rdmaWriteRequest p) s = execRdmaWriteRequest p s := rfl
@[simp] theorem exec_rdmaReadRequest (p : RxPkt) (s : State) : exec (.rdmaReadRequest p) s = execRdmaReadRequest p s := rfl
@[simp] theorem exec_sendRequest (p : RxPkt) (far : Bytes) (s : State) : exec (.sendRequest p far) s = execSendRequest p far s := rfl
@[simp] theorem exec_compareAndSwap (p : RxPkt) (s : State) : exec (.compareAndSwap p) s = execCompareAndSwap p s := rfl
@[simp] theorem exec_fetchAndAdd (p : RxPkt) (s : State) : exec (.fetchAndAdd p) s = execFetchAndAdd p s := rfl
@[simp] theorem exec_roceAckReceived (id psn : Nat) (data : Bytes) (s : State) : exec (.roceAckReceived id psn data) s = execRoceAckReceived id psn data s := rfl
@[simp] theorem exec_roceNakReceived (id : Nat) (kind : NakKind) (s : State) : exec (.roceNakReceived id kind) s = execRoceNakReceived id kind s := rfl
@[simp] theorem exec_roceAckTimeout (id : Nat) (s : State) : exec (.roceAckTimeout id) s = execRoceAckTimeout id s := rfl
@[simp] theorem exec_cnpReceived (id : Nat) (s : State) : exec (.cnpReceived id) s = execCnpReceived id s := rfl
@[simp] theorem exec_cnpRateRecovery (id : Nat) (s : State) : exec (.cnpRateRecovery id) s = execCnpRateRecovery id s := rfl
@[simp] theorem exec_contextFetchDone (id took : Nat) (s : State) : exec (.contextFetchDone id took) s = execContextFetchDone id took s := rfl
@[simp] theorem exec_contextEvict (s : State) : exec .contextEvict s = execContextEvict s := rfl
@[simp] theorem exec_ethLinkChange (port : Fin 4) (up : Bool) (s : State) : exec (.ethLinkChange port up) s = execEthLinkChange port up s := rfl
@[simp] theorem exec_cipherJobSubmit (cls : Fin 4) (tag owner slot iv du aad : Nat) (data : Bytes) (tagOk : Bool) (s : State) : exec (.cipherJobSubmit cls tag owner slot iv du aad data tagOk) s = execCipherJobSubmit cls tag owner slot iv du aad data tagOk s := rfl
@[simp] theorem exec_cipherJobDone (core : Fin 16) (s : State) : exec (.cipherJobDone core) s = execCipherJobDone core s := rfl
@[simp] theorem exec_coreIsolated (core : Fin 16) (s : State) : exec (.coreIsolated core) s = execCoreIsolated core s := rfl
@[simp] theorem exec_keySlotBroken (slot : Fin 8192) (s : State) : exec (.keySlotBroken slot) s = execKeySlotBroken slot s := rfl
@[simp] theorem exec_keyLoad (who : Issuer) (cslot : Fin 128) (tag slot tenant : Nat) (persist : Bool) (format usage : Nat) (blob : Bytes) (s : State) : exec (.keyLoad who cslot tag slot tenant persist format usage blob) s = execKeyLoad who cslot tag slot tenant persist format usage blob s := rfl
@[simp] theorem exec_keyFree (who : Issuer) (cslot : Fin 128) (tag slot : Nat) (s : State) : exec (.keyFree who cslot tag slot) s = execKeyFree who cslot tag slot s := rfl
@[simp] theorem exec_driveInserted (slot : Fin 24) (info : DriveInfo) (s : State) : exec (.driveInserted slot info) s = execDriveInserted slot info s := rfl
@[simp] theorem exec_driveRemoved (slot : Fin 24) (s : State) : exec (.driveRemoved slot) s = execDriveRemoved slot s := rfl
@[simp] theorem exec_driveCommandComplete (slot : Fin 24) (id : Nat) (res : DriveResult) (s : State) : exec (.driveCommandComplete slot id res) s = execDriveCommandComplete slot id res s := rfl
@[simp] theorem exec_driveCommandTimeout (slot : Fin 24) (id : Nat) (s : State) : exec (.driveCommandTimeout slot id) s = execDriveCommandTimeout slot id s := rfl
@[simp] theorem exec_readShortcutExpired (slot : Fin 24) (id : Nat) (s : State) : exec (.readShortcutExpired slot id) s = execReadShortcutExpired slot id s := rfl
@[simp] theorem exec_driveAsyncEvent (slot : Fin 24) (spareLow readOnly backupFailed : Bool) (s : State) : exec (.driveAsyncEvent slot spareLow readOnly backupFailed) s = execDriveAsyncEvent slot spareLow readOnly backupFailed s := rfl
@[simp] theorem exec_driveLinkDownExpired (slot : Fin 24) (s : State) : exec (.driveLinkDownExpired slot) s = execDriveLinkDownExpired slot s := rfl
@[simp] theorem exec_forceFail (slot : Fin 24) (s : State) : exec (.forceFail slot) s = execForceFail slot s := rfl
@[simp] theorem exec_rebuildStart (n : Fin 8) (s : State) : exec (.rebuildStart n) s = execRebuildStart n s := rfl
@[simp] theorem exec_rebuildStripe (n : Fin 8) (stripe unit : Nat) (readable : Bool) (bad : List (Nat × Nat)) (last : Bool) (s : State) : exec (.rebuildStripe n stripe unit readable bad last) s = execRebuildStripe n stripe unit readable bad last s := rfl
@[simp] theorem exec_hostGuardExpired (q : HostReq) (s : State) : exec (.hostGuardExpired q) s = execHostGuardExpired q s := rfl
@[simp] theorem exec_engineWatchdogExpired (e : Engine) (s : State) : exec (.engineWatchdogExpired e) s = execEngineWatchdogExpired e s := rfl
@[simp] theorem exec_keeperHeartbeatMissed (k : Fin 8) (s : State) : exec (.keeperHeartbeatMissed k) s = execKeeperHeartbeatMissed k s := rfl
@[simp] theorem exec_keeperReloadDone (k : Fin 8) (s : State) : exec (.keeperReloadDone k) s = execKeeperReloadDone k s := rfl
@[simp] theorem exec_pommelWatchdog (s : State) : exec .pommelWatchdog s = execPommelWatchdog s := rfl
@[simp] theorem exec_faultReported (u : FUnit) (code : Fin 65536) (inst : Byte) (sev : Fin 6) (repeatOk : Bool) (s : State) : exec (.faultReported u code inst sev repeatOk) s = execFaultReported u code inst sev repeatOk s := rfl
@[simp] theorem exec_groupRetryExpired (g : FGroup) (s : State) : exec (.groupRetryExpired g) s = execGroupRetryExpired g s := rfl
@[simp] theorem exec_recoveryWindowClose (sc : Scope) (s : State) : exec (.recoveryWindowClose sc) s = execRecoveryWindowClose sc s := rfl
@[simp] theorem exec_flsBankClaim (m : Fin 11) (b : Fin 4) (s : State) : exec (.flsBankClaim m b) s = execFlsBankClaim m b s := rfl
@[simp] theorem exec_flsBankRelease (m : Fin 11) (b : Fin 4) (s : State) : exec (.flsBankRelease m b) s = execFlsBankRelease m b s := rfl
@[simp] theorem exec_flsClaimExpired (b : Fin 4) (s : State) : exec (.flsClaimExpired b) s = execFlsClaimExpired b s := rfl
@[simp] theorem exec_flashRead (m : Fin 11) (b : Fin 4) (corrected : Bool) (s : State) : exec (.flashRead m b corrected) s = execFlashRead m b corrected s := rfl
@[simp] theorem exec_flashProgram (m : Fin 11) (b : Fin 4) (s : State) : exec (.flashProgram m b) s = execFlashProgram m b s := rfl
@[simp] theorem exec_flashErase (m : Fin 11) (b : Fin 4) (s : State) : exec (.flashErase m b) s = execFlashErase m b s := rfl
@[simp] theorem exec_flashSuspend (m : Fin 11) (b : Fin 4) (s : State) : exec (.flashSuspend m b) s = execFlashSuspend m b s := rfl
@[simp] theorem exec_flashResume (m : Fin 11) (b : Fin 4) (s : State) : exec (.flashResume m b) s = execFlashResume m b s := rfl
@[simp] theorem exec_readWear (m : Fin 11) (b : Fin 4) (s : State) : exec (.readWear m b) s = execReadWear m b s := rfl
@[simp] theorem exec_flashAbort (m : Fin 11) (b : Fin 4) (s : State) : exec (.flashAbort m b) s = execFlashAbort m b s := rfl
@[simp] theorem exec_flashSuspendEffect (b : Fin 4) (s : State) : exec (.flashSuspendEffect b) s = execFlashSuspendEffect b s := rfl
@[simp] theorem exec_flashRunWindowEnd (b : Fin 4) (s : State) : exec (.flashRunWindowEnd b) s = execFlashRunWindowEnd b s := rfl
@[simp] theorem exec_flashProgramDone (b : Fin 4) (ok : Bool) (s : State) : exec (.flashProgramDone b ok) s = execFlashProgramDone b ok s := rfl
@[simp] theorem exec_flashEraseDone (b : Fin 4) (ok : Bool) (s : State) : exec (.flashEraseDone b ok) s = execFlashEraseDone b ok s := rfl
@[simp] theorem exec_fwData (r : Route) (client : Nat) (data : Bytes) (s : State) : exec (.fwData r client data) s = execFwData r client data s := rfl
@[simp] theorem exec_fwActivate (r : Route) (client : Nat) (s : State) : exec (.fwActivate r client) s = execFwActivate r client s := rfl
@[simp] theorem exec_fwActivateForce (r : Route) (client : Nat) (s : State) : exec (.fwActivateForce r client) s = execFwActivateForce r client s := rfl
@[simp] theorem exec_fwActivateCancel (r : Route) (client : Nat) (s : State) : exec (.fwActivateCancel r client) s = execFwActivateCancel r client s := rfl
@[simp] theorem exec_fwConfirmed (s : State) : exec .fwConfirmed s = execFwConfirmed s := rfl
@[simp] theorem exec_recordSubmit (code : Fin 65536) (sev : Fin 6) (inst : Byte) (items : Bytes) (s : State) : exec (.recordSubmit code sev inst items) s = execRecordSubmit code sev inst items s := rfl
@[simp] theorem exec_recordProgrammed (s : State) : exec .recordProgrammed s = execRecordProgrammed s := rfl
@[simp] theorem exec_readBlock (r : Route) (client : Nat) (s : State) : exec (.readBlock r client) s = execReadBlock r client s := rfl
@[simp] theorem exec_lxRingTailWrite (e : Fin 2) (r : Fin 8) (value : Word) (s : State) : exec (.lxRingTailWrite e r value) s = execLxRingTailWrite e r value s := rfl
@[simp] theorem exec_lxBankWrite (e : Fin 2) (value : Word) (s : State) : exec (.lxBankWrite e value) s = execLxBankWrite e value s := rfl
@[simp] theorem exec_lxRingReset (e : Fin 2) (s : State) : exec (.lxRingReset e) s = execLxRingReset e s := rfl
@[simp] theorem exec_functionLevelReset (e : Fin 2) (s : State) : exec (.functionLevelReset e) s = execFunctionLevelReset e s := rfl
@[simp] theorem exec_nop (e : Fin 2) (r : Fin 8) (flags : Nat) (s : State) : exec (.nop e r flags) s = execNop e r flags s := rfl
@[simp] theorem exec_flush (e : Fin 2) (r : Fin 8) (flags : Nat) (s : State) : exec (.flush e r flags) s = execFlush e r flags s := rfl
@[simp] theorem exec_flushMedia (e : Fin 2) (r : Fin 8) (flags : Nat) (s : State) : exec (.flushMedia e r flags) s = execFlushMedia e r flags s := rfl
@[simp] theorem exec_zero (e : Fin 2) (r : Fin 8) (flags dpa len : Nat) (s : State) : exec (.zero e r flags dpa len) s = execZero e r flags dpa len s := rfl
@[simp] theorem exec_identify (e : Fin 2) (r : Fin 8) (flags hostAddr : Nat) (s : State) : exec (.identify e r flags hostAddr) s = execIdentify e r flags hostAddr s := rfl
@[simp] theorem exec_fwDownload (e : Fin 2) (r : Fin 8) (flags : Nat) (s : State) : exec (.fwDownload e r flags) s = execFwDownload e r flags s := rfl
@[simp] theorem exec_fwCommit (e : Fin 2) (r : Fin 8) (flags : Nat) (s : State) : exec (.fwCommit e r flags) s = execFwCommit e r flags s := rfl
@[simp] theorem exec_lxUnknownOpcode (e : Fin 2) (r : Fin 8) (op : Byte) (flags : Nat) (s : State) : exec (.lxUnknownOpcode e r op flags) s = execLxUnknownOpcode e r op flags s := rfl
@[simp] theorem exec_lxCommandStatus (e : Fin 2) (r : Fin 8) (s : State) : exec (.lxCommandStatus e r) s = execLxCommandStatus e r s := rfl
@[simp] theorem exec_psuOkHigh (s : State) : exec .psuOkHigh s = execPsuOkHigh s := rfl
@[simp] theorem exec_holdupLowNHigh (s : State) : exec .holdupLowNHigh s = execHoldupLowNHigh s := rfl
@[simp] theorem exec_faultNReleased (s : State) : exec .faultNReleased s = execFaultNReleased s := rfl
@[simp] theorem exec_psuOkGlitch (s : State) : exec .psuOkGlitch s = execPsuOkGlitch s := rfl
@[simp] theorem exec_holdupLowNGlitch (s : State) : exec .holdupLowNGlitch s = execHoldupLowNGlitch s := rfl
@[simp] theorem exec_sysclkReturn (s : State) : exec .sysclkReturn s = execSysclkReturn s := rfl
@[simp] theorem exec_vddAonReturn (s : State) : exec .vddAonReturn s = execVddAonReturn s := rfl
@[simp] theorem exec_wrstNRelease (s : State) : exec .wrstNRelease s = execWrstNRelease s := rfl
@[simp] theorem exec_presenceNPress (s : State) : exec .presenceNPress s = execPresenceNPress s := rfl
@[simp] theorem exec_presenceNRelease (s : State) : exec .presenceNRelease s = execPresenceNRelease s := rfl
@[simp] theorem exec_railPgFall (n : Fin 32) (s : State) : exec (.railPgFall n) s = execRailPgFall n s := rfl
@[simp] theorem exec_driveLinkChange (slot : Fin 24) (up : Bool) (width : Nat) (gen5 : Bool) (s : State) : exec (.driveLinkChange slot up width gen5) s = execDriveLinkChange slot up width gen5 s := rfl
@[simp] theorem exec_driveResetTimeout (slot : Fin 24) (s : State) : exec (.driveResetTimeout slot) s = execDriveResetTimeout slot s := rfl
@[simp] theorem exec_doorbellAddrWrite (n : Fin 64) (slot : Fin 64) (off value : Nat) (s : State) : exec (.doorbellAddrWrite n slot off value) s = execDoorbellAddrWrite n slot off value s := rfl
@[simp] theorem exec_lxRegisterWrite (e : Fin 2) (off : Nat) (value : Word) (s : State) : exec (.lxRegisterWrite e off value) s = execLxRegisterWrite e off value s := rfl

theorem step_cons (s : State) (c : Instr) (r : List Instr) (h : s.pending = c :: r) : step s = exec c { s with pending := r } := by
  simp [step, h]

theorem step_nil (s : State) (h : s.pending = []) : step s = .next s := by
  simp [step, h]

end Sys2Proof.Laws
end

