-- ==== Sys2Proof/Laws/Frames.lean ====
section
/-!
SUPPORT. Frames compose: what two steps in a row leave alone, and what the smallest operations leave alone.
-/
namespace Sys2Proof.Laws
open Sys2Proof.Machine

theorem kept_refl (ps : List Part) (s : State) : KeptBut ps s s := fun p _ => by cases p <;> rfl

theorem kept_trans {ps : List Part} {s t u : State} (h1 : KeptBut ps s t) (h2 : KeptBut ps t u) : KeptBut ps s u := by
  intro p hp
  have a := h1 p hp
  have b := h2 p hp
  cases p <;> exact b.trans a

theorem kept_mono {ps qs : List Part} {s t : State} (h : KeptBut ps s t) (hs : ∀ p ∈ ps, p ∈ qs) : KeptBut qs s t :=
  fun p hp => h p (fun hq => hp (hs p hq))

theorem kept_wr (s : State) (f : Fld) (v : Nat) : KeptBut [.csr] s (wr s f v) := by
  intro p hp; cases p <;> first | rfl | simp at hp

theorem kept_setF (s : State) (f : Fld) : KeptBut [.csr] s (setF s f) := kept_wr s f 1

theorem kept_bump (s : State) (f : Fld) (n : Nat) : KeptBut [.csr] s (bump s f n) := kept_wr s f _

theorem kept_recordAt (s : State) (c v i : Nat) (b : Bytes) : KeptBut [.stm] s (recordAt s c v i b) := by
  intro p hp; cases p <;> first | rfl | simp at hp

theorem kept_record (s : State) (e : Ev) (i : Nat) (b : Bytes) : KeptBut [.stm] s (record s e i b) := kept_recordAt s _ _ _ _

theorem kept_emit (s : State) (o : Output) : KeptBut [.out] s (emit s o) := by
  intro p hp; cases p <;> first | rfl | simp at hp

theorem fields_refl (fs : List Fld) (s : State) : FieldsKeptBut fs s s := fun _ _ => rfl

theorem fields_trans {fs : List Fld} {s t u : State} (h1 : FieldsKeptBut fs s t) (h2 : FieldsKeptBut fs t u) :
    FieldsKeptBut fs s u := fun f hf => (h2 f hf).trans (h1 f hf)

end Sys2Proof.Laws
end

