-- ==== Sys2Proof/Laws/KeepBase.lean ====
section
/-!
SUPPORT. A part of the state that no element of a loop changes is not changed by the loop.
-/
namespace Sys2Proof.Laws
open Sys2Proof.Machine

/-- What no turn of a loop changes, the loop does not change. -/
theorem foldl_kept {α β : Type} (g : State → β) (f : State → α → State) (h : ∀ s a, g (f s a) = g s) (l : List α) (s : State) :
    g (l.foldl f s) = g s := by
  induction l generalizing s with
  | nil => rfl
  | cons a r ih => rw [List.foldl_cons, ih, h]

@[simp] theorem foldl_pending {α : Type} (f : State → α → State) (l : List α) (s : State) (h : ∀ s a, (f s a).pending = s.pending) :
    (l.foldl f s).pending = s.pending := foldl_kept State.pending f h l s

@[simp] theorem foldl_lck {α : Type} (f : State → α → State) (l : List α) (s : State) (h : ∀ s a, (f s a).lck = s.lck) :
    (l.foldl f s).lck = s.lck := foldl_kept State.lck f h l s

@[simp] theorem foldl_ready {α : Type} (f : State → α → State) (l : List α) (s : State) (h : ∀ s a, (f s a).boot.ready = s.boot.ready) :
    (l.foldl f s).boot.ready = s.boot.ready := foldl_kept (fun s => s.boot.ready) f h l s

@[simp] theorem foldl_phase {α : Type} (f : State → α → State) (l : List α) (s : State) (h : ∀ s a, (f s a).cin.phase = s.cin.phase) :
    (l.foldl f s).cin.phase = s.cin.phase := foldl_kept (fun s => s.cin.phase) f h l s

@[simp] theorem foldl_mem {α : Type} (f : State → α → State) (l : List α) (s : State) (h : ∀ s a, (f s a).dram.mem = s.dram.mem) :
    (l.foldl f s).dram.mem = s.dram.mem := foldl_kept (fun s => s.dram.mem) f h l s

@[simp] theorem foldl_banks {α : Type} (f : State → α → State) (l : List α) (s : State) (h : ∀ s a, (f s a).fls.banks = s.fls.banks) :
    (l.foldl f s).fls.banks = s.fls.banks := foldl_kept (fun s => s.fls.banks) f h l s

theorem snd_pending {α : Type} {x : α × State} {a : α} {t : State} (h : x = (a, t)) : t.pending = x.2.pending := by rw [h]

theorem snd_lck {α : Type} {x : α × State} {a : α} {t : State} (h : x = (a, t)) : t.lck = x.2.lck := by rw [h]

theorem snd_ready {α : Type} {x : α × State} {a : α} {t : State} (h : x = (a, t)) : t.boot.ready = x.2.boot.ready := by rw [h]

theorem snd_phase {α : Type} {x : α × State} {a : α} {t : State} (h : x = (a, t)) : t.cin.phase = x.2.cin.phase := by rw [h]

theorem snd_mem {α : Type} {x : α × State} {a : α} {t : State} (h : x = (a, t)) : t.dram.mem = x.2.dram.mem := by rw [h]

theorem snd_banks {α : Type} {x : α × State} {a : α} {t : State} (h : x = (a, t)) : t.fls.banks = x.2.fls.banks := by rw [h]

end Sys2Proof.Laws
end

