-- ==== Sys2Proof/Laws/KeepOps.lean ====
section
/-!
SUPPORT. What the operations of Ops leave alone: one lemma for each operation and each part of the state that it never changes.
-/
namespace Sys2Proof.Laws
open Sys2Proof.Machine
set_option linter.unusedTactic false
set_option linter.unreachableTactic false
set_option linter.unusedVariables false
set_option linter.unusedSimpArgs false

@[simp] theorem countViolation_pending (s : State) (p : Partner) (limit : Nat) : (countViolation s p limit).pending = s.pending := by
  unfold countViolation
  (try dsimp only)
  repeat' (first | (with_reducible rfl) | split)
  all_goals (try simp_all -implicitDefEqProofs)
  all_goals (repeat' (first | (with_reducible rfl) | split))
  all_goals (try simp_all -implicitDefEqProofs)
@[simp] theorem countViolation_lck (s : State) (p : Partner) (limit : Nat) : (countViolation s p limit).lck = s.lck := by
  unfold countViolation
  (try dsimp only)
  repeat' (first | (with_reducible rfl) | split)
  all_goals (try simp_all -implicitDefEqProofs)
  all_goals (repeat' (first | (with_reducible rfl) | split))
  all_goals (try simp_all -implicitDefEqProofs)
@[simp] theorem countViolation_ready (s : State) (p : Partner) (limit : Nat) : (countViolation s p limit).boot.ready = s.boot.ready := by
  unfold countViolation
  (try dsimp only)
  repeat' (first | (with_reducible rfl) | split)
  all_goals (try simp_all -implicitDefEqProofs)
  all_goals (repeat' (first | (with_reducible rfl) | split))
  all_goals (try simp_all -implicitDefEqProofs)
@[simp] theorem countViolation_phase (s : State) (p : Partner) (limit : Nat) : (countViolation s p limit).cin.phase = s.cin.phase := by
  unfold countViolation
  (try dsimp only)
  repeat' (first | (with_reducible rfl) | split)
  all_goals (try simp_all -implicitDefEqProofs)
  all_goals (repeat' (first | (with_reducible rfl) | split))
  all_goals (try simp_all -implicitDefEqProofs)
@[simp] theorem countViolation_mem (s : State) (p : Partner) (limit : Nat) : (countViolation s p limit).dram.mem = s.dram.mem := by
  unfold countViolation
  (try dsimp only)
  repeat' (first | (with_reducible rfl) | split)
  all_goals (try simp_all -implicitDefEqProofs)
  all_goals (repeat' (first | (with_reducible rfl) | split))
  all_goals (try simp_all -implicitDefEqProofs)
@[simp] theorem countViolation_banks (s : State) (p : Partner) (limit : Nat) : (countViolation s p limit).fls.banks = s.fls.banks := by
  unfold countViolation
  (try dsimp only)
  repeat' (first | (with_reducible rfl) | split)
  all_goals (try simp_all -implicitDefEqProofs)
  all_goals (repeat' (first | (with_reducible rfl) | split))
  all_goals (try simp_all -implicitDefEqProofs)
@[simp] theorem smbViolation_pending (s : State) (p : Partner) (cause : Nat) : (smbViolation s p cause).pending = s.pending := by
  unfold smbViolation
  (try dsimp only)
  repeat' (first | (with_reducible rfl) | split)
  all_goals (try simp_all -implicitDefEqProofs)
  all_goals (repeat' (first | (with_reducible rfl) | split))
  all_goals (try simp_all -implicitDefEqProofs)
@[simp] theorem smbViolation_lck (s : State) (p : Partner) (cause : Nat) : (smbViolation s p cause).lck = s.lck := by
  unfold smbViolation
  (try dsimp only)
  repeat' (first | (with_reducible rfl) | split)
  all_goals (try simp_all -implicitDefEqProofs)
  all_goals (repeat' (first | (with_reducible rfl) | split))
  all_goals (try simp_all -implicitDefEqProofs)
@[simp] theorem smbViolation_ready (s : State) (p : Partner) (cause : Nat) : (smbViolation s p cause).boot.ready = s.boot.ready := by
  unfold smbViolation
  (try dsimp only)
  repeat' (first | (with_reducible rfl) | split)
  all_goals (try simp_all -implicitDefEqProofs)
  all_goals (repeat' (first | (with_reducible rfl) | split))
  all_goals (try simp_all -implicitDefEqProofs)
@[simp] theorem smbViolation_phase (s : State) (p : Partner) (cause : Nat) : (smbViolation s p cause).cin.phase = s.cin.phase := by
  unfold smbViolation
  (try dsimp only)
  repeat' (first | (with_reducible rfl) | split)
  all_goals (try simp_all -implicitDefEqProofs)
  all_goals (repeat' (first | (with_reducible rfl) | split))
  all_goals (try simp_all -implicitDefEqProofs)
@[simp] theorem smbViolation_mem (s : State) (p : Partner) (cause : Nat) : (smbViolation s p cause).dram.mem = s.dram.mem := by
  unfold smbViolation
  (try dsimp only)
  repeat' (first | (with_reducible rfl) | split)
  all_goals (try simp_all -implicitDefEqProofs)
  all_goals (repeat' (first | (with_reducible rfl) | split))
  all_goals (try simp_all -implicitDefEqProofs)
@[simp] theorem smbViolation_banks (s : State) (p : Partner) (cause : Nat) : (smbViolation s p cause).fls.banks = s.fls.banks := by
  unfold smbViolation
  (try dsimp only)
  repeat' (first | (with_reducible rfl) | split)
  all_goals (try simp_all -implicitDefEqProofs)
  all_goals (repeat' (first | (with_reducible rfl) | split))
  all_goals (try simp_all -implicitDefEqProofs)
@[simp] theorem smbRead_pending (s : State) (p : Partner) (top : Nat) (first retry : SmbAnswer) : (smbRead s p top first retry).2.pending = s.pending := by
  unfold smbRead
  (try dsimp only)
  repeat' (first | (with_reducible rfl) | split)
  all_goals (try simp_all -implicitDefEqProofs)
  all_goals (repeat' (first | (with_reducible rfl) | split))
  all_goals (try simp_all -implicitDefEqProofs)
@[simp] theorem smbRead_lck (s : State) (p : Partner) (top : Nat) (first retry : SmbAnswer) : (smbRead s p top first retry).2.lck = s.lck := by
  unfold smbRead
  (try dsimp only)
  repeat' (first | (with_reducible rfl) | split)
  all_goals (try simp_all -implicitDefEqProofs)
  all_goals (repeat' (first | (with_reducible rfl) | split))
  all_goals (try simp_all -implicitDefEqProofs)
@[simp] theorem smbRead_ready (s : State) (p : Partner) (top : Nat) (first retry : SmbAnswer) : (smbRead s p top first retry).2.boot.ready = s.boot.ready := by
  unfold smbRead
  (try dsimp only)
  repeat' (first | (with_reducible rfl) | split)
  all_goals (try simp_all -implicitDefEqProofs)
  all_goals (repeat' (first | (with_reducible rfl) | split))
  all_goals (try simp_all -implicitDefEqProofs)
@[simp] theorem smbRead_phase (s : State) (p : Partner) (top : Nat) (first retry : SmbAnswer) : (smbRead s p top first retry).2.cin.phase = s.cin.phase := by
  unfold smbRead
  (try dsimp only)
  repeat' (first | (with_reducible rfl) | split)
  all_goals (try simp_all -implicitDefEqProofs)
  all_goals (repeat' (first | (with_reducible rfl) | split))
  all_goals (try simp_all -implicitDefEqProofs)
@[simp] theorem smbRead_mem (s : State) (p : Partner) (top : Nat) (first retry : SmbAnswer) : (smbRead s p top first retry).2.dram.mem = s.dram.mem := by
  unfold smbRead
  (try dsimp only)
  repeat' (first | (with_reducible rfl) | split)
  all_goals (try simp_all -implicitDefEqProofs)
  all_goals (repeat' (first | (with_reducible rfl) | split))
  all_goals (try simp_all -implicitDefEqProofs)
@[simp] theorem smbRead_banks (s : State) (p : Partner) (top : Nat) (first retry : SmbAnswer) : (smbRead s p top first retry).2.fls.banks = s.fls.banks := by
  unfold smbRead
  (try dsimp only)
  repeat' (first | (with_reducible rfl) | split)
  all_goals (try simp_all -implicitDefEqProofs)
  all_goals (repeat' (first | (with_reducible rfl) | split))
  all_goals (try simp_all -implicitDefEqProofs)

end Sys2Proof.Laws
end

