-- ==== Sys2Proof/Laws/KeepCipherJobs.lean ====
section
/-!
SUPPORT. What the operations of CipherJobs leave alone: one lemma for each operation and each part of the state that it never changes.
-/
namespace Sys2Proof.Laws
open Sys2Proof.Machine
set_option linter.unusedTactic false
set_option linter.unreachableTactic false
set_option linter.unusedVariables false
set_option linter.unusedSimpArgs false

@[simp] theorem bklSet_pending (s : State) (b : Buckle) : (bklSet s b).pending = s.pending := by
  unfold bklSet
  (try dsimp only)
  repeat' (first | (with_reducible rfl) | split)
  all_goals (try simp_all -implicitDefEqProofs)
  all_goals (repeat' (first | (with_reducible rfl) | split))
  all_goals (try simp_all -implicitDefEqProofs)
@[simp] theorem bklSet_lck (s : State) (b : Buckle) : (bklSet s b).lck = s.lck := by
  unfold bklSet
  (try dsimp only)
  repeat' (first | (with_reducible rfl) | split)
  all_goals (try simp_all -implicitDefEqProofs)
  all_goals (repeat' (first | (with_reducible rfl) | split))
  all_goals (try simp_all -implicitDefEqProofs)
@[simp] theorem bklSet_ready (s : State) (b : Buckle) : (bklSet s b).boot.ready = s.boot.ready := by
  unfold bklSet
  (try dsimp only)
  repeat' (first | (with_reducible rfl) | split)
  all_goals (try simp_all -implicitDefEqProofs)
  all_goals (repeat' (first | (with_reducible rfl) | split))
  all_goals (try simp_all -implicitDefEqProofs)
@[simp] theorem bklSet_phase (s : State) (b : Buckle) : (bklSet s b).cin.phase = s.cin.phase := by
  unfold bklSet
  (try dsimp only)
  repeat' (first | (with_reducible rfl) | split)
  all_goals (try simp_all -implicitDefEqProofs)
  all_goals (repeat' (first | (with_reducible rfl) | split))
  all_goals (try simp_all -implicitDefEqProofs)
@[simp] theorem bklSet_mem (s : State) (b : Buckle) : (bklSet s b).dram.mem = s.dram.mem := by
  unfold bklSet
  (try dsimp only)
  repeat' (first | (with_reducible rfl) | split)
  all_goals (try simp_all -implicitDefEqProofs)
  all_goals (repeat' (first | (with_reducible rfl) | split))
  all_goals (try simp_all -implicitDefEqProofs)
@[simp] theorem bklSet_banks (s : State) (b : Buckle) : (bklSet s b).fls.banks = s.fls.banks := by
  unfold bklSet
  (try dsimp only)
  repeat' (first | (with_reducible rfl) | split)
  all_goals (try simp_all -implicitDefEqProofs)
  all_goals (repeat' (first | (with_reducible rfl) | split))
  all_goals (try simp_all -implicitDefEqProofs)
@[simp] theorem jobEnd_pending (s : State) (j : CJob) (st : Status) (out : Bytes) : (jobEnd s j st out).pending = s.pending := by
  unfold jobEnd
  (try dsimp only)
  repeat' (first | (with_reducible rfl) | split)
  all_goals (try simp_all -implicitDefEqProofs)
  all_goals (repeat' (first | (with_reducible rfl) | split))
  all_goals (try simp_all -implicitDefEqProofs)
@[simp] theorem jobEnd_lck (s : State) (j : CJob) (st : Status) (out : Bytes) : (jobEnd s j st out).lck = s.lck := by
  unfold jobEnd
  (try dsimp only)
  repeat' (first | (with_reducible rfl) | split)
  all_goals (try simp_all -implicitDefEqProofs)
  all_goals (repeat' (first | (with_reducible rfl) | split))
  all_goals (try simp_all -implicitDefEqProofs)
@[simp] theorem jobEnd_ready (s : State) (j : CJob) (st : Status) (out : Bytes) : (jobEnd s j st out).boot.ready = s.boot.ready := by
  unfold jobEnd
  (try dsimp only)
  repeat' (first | (with_reducible rfl) | split)
  all_goals (try simp_all -implicitDefEqProofs)
  all_goals (repeat' (first | (with_reducible rfl) | split))
  all_goals (try simp_all -implicitDefEqProofs)
@[simp] theorem jobEnd_phase (s : State) (j : CJob) (st : Status) (out : Bytes) : (jobEnd s j st out).cin.phase = s.cin.phase := by
  unfold jobEnd
  (try dsimp only)
  repeat' (first | (with_reducible rfl) | split)
  all_goals (try simp_all -implicitDefEqProofs)
  all_goals (repeat' (first | (with_reducible rfl) | split))
  all_goals (try simp_all -implicitDefEqProofs)
@[simp] theorem jobEnd_mem (s : State) (j : CJob) (st : Status) (out : Bytes) : (jobEnd s j st out).dram.mem = s.dram.mem := by
  unfold jobEnd
  (try dsimp only)
  repeat' (first | (with_reducible rfl) | split)
  all_goals (try simp_all -implicitDefEqProofs)
  all_goals (repeat' (first | (with_reducible rfl) | split))
  all_goals (try simp_all -implicitDefEqProofs)
@[simp] theorem jobEnd_banks (s : State) (j : CJob) (st : Status) (out : Bytes) : (jobEnd s j st out).fls.banks = s.fls.banks := by
  unfold jobEnd
  (try dsimp only)
  repeat' (first | (with_reducible rfl) | split)
  all_goals (try simp_all -implicitDefEqProofs)
  all_goals (repeat' (first | (with_reducible rfl) | split))
  all_goals (try simp_all -implicitDefEqProofs)
@[simp] theorem jobsEnd_pending (s : State) (p : CJob → Bool) (run : Bool) (st : Status) : (jobsEnd s p run st).pending = s.pending := by
  unfold jobsEnd
  (try dsimp only)
  repeat' (first | (with_reducible rfl) | split)
  all_goals (try simp_all -implicitDefEqProofs)
  all_goals (repeat' (first | (with_reducible rfl) | split))
  all_goals (try simp_all -implicitDefEqProofs)
@[simp] theorem jobsEnd_lck (s : State) (p : CJob → Bool) (run : Bool) (st : Status) : (jobsEnd s p run st).lck = s.lck := by
  unfold jobsEnd
  (try dsimp only)
  repeat' (first | (with_reducible rfl) | split)
  all_goals (try simp_all -implicitDefEqProofs)
  all_goals (repeat' (first | (with_reducible rfl) | split))
  all_goals (try simp_all -implicitDefEqProofs)
@[simp] theorem jobsEnd_ready (s : State) (p : CJob → Bool) (run : Bool) (st : Status) : (jobsEnd s p run st).boot.ready = s.boot.ready := by
  unfold jobsEnd
  (try dsimp only)
  repeat' (first | (with_reducible rfl) | split)
  all_goals (try simp_all -implicitDefEqProofs)
  all_goals (repeat' (first | (with_reducible rfl) | split))
  all_goals (try simp_all -implicitDefEqProofs)
@[simp] theorem jobsEnd_phase (s : State) (p : CJob → Bool) (run : Bool) (st : Status) : (jobsEnd s p run st).cin.phase = s.cin.phase := by
  unfold jobsEnd
  (try dsimp only)
  repeat' (first | (with_reducible rfl) | split)
  all_goals (try simp_all -implicitDefEqProofs)
  all_goals (repeat' (first | (with_reducible rfl) | split))
  all_goals (try simp_all -implicitDefEqProofs)
@[simp] theorem jobsEnd_mem (s : State) (p : CJob → Bool) (run : Bool) (st : Status) : (jobsEnd s p run st).dram.mem = s.dram.mem := by
  unfold jobsEnd
  (try dsimp only)
  repeat' (first | (with_reducible rfl) | split)
  all_goals (try simp_all -implicitDefEqProofs)
  all_goals (repeat' (first | (with_reducible rfl) | split))
  all_goals (try simp_all -implicitDefEqProofs)
@[simp] theorem jobsEnd_banks (s : State) (p : CJob → Bool) (run : Bool) (st : Status) : (jobsEnd s p run st).fls.banks = s.fls.banks := by
  unfold jobsEnd
  (try dsimp only)
  repeat' (first | (with_reducible rfl) | split)
  all_goals (try simp_all -implicitDefEqProofs)
  all_goals (repeat' (first | (with_reducible rfl) | split))
  all_goals (try simp_all -implicitDefEqProofs)
@[simp] theorem cipherCommit_pending (s : State) : (cipherCommit s).pending = s.pending := by
  unfold cipherCommit
  (try dsimp only)
  repeat' (first | (with_reducible rfl) | split)
  all_goals (try simp_all -implicitDefEqProofs)
  all_goals (repeat' (first | (with_reducible rfl) | split))
  all_goals (try simp_all -implicitDefEqProofs)
@[simp] theorem cipherCommit_lck (s : State) : (cipherCommit s).lck = s.lck := by
  unfold cipherCommit
  (try dsimp only)
  repeat' (first | (with_reducible rfl) | split)
  all_goals (try simp_all -implicitDefEqProofs)
  all_goals (repeat' (first | (with_reducible rfl) | split))
  all_goals (try simp_all -implicitDefEqProofs)
@[simp] theorem cipherCommit_ready (s : State) : (cipherCommit s).boot.ready = s.boot.ready := by
  unfold cipherCommit
  (try dsimp only)
  repeat' (first | (with_reducible rfl) | split)
  all_goals (try simp_all -implicitDefEqProofs)
  all_goals (repeat' (first | (with_reducible rfl) | split))
  all_goals (try simp_all -implicitDefEqProofs)
@[simp] theorem cipherCommit_phase (s : State) : (cipherCommit s).cin.phase = s.cin.phase := by
  unfold cipherCommit
  (try dsimp only)
  repeat' (first | (with_reducible rfl) | split)
  all_goals (try simp_all -implicitDefEqProofs)
  all_goals (repeat' (first | (with_reducible rfl) | split))
  all_goals (try simp_all -implicitDefEqProofs)
@[simp] theorem cipherCommit_mem (s : State) : (cipherCommit s).dram.mem = s.dram.mem := by
  unfold cipherCommit
  (try dsimp only)
  repeat' (first | (with_reducible rfl) | split)
  all_goals (try simp_all -implicitDefEqProofs)
  all_goals (repeat' (first | (with_reducible rfl) | split))
  all_goals (try simp_all -implicitDefEqProofs)
@[simp] theorem cipherCommit_banks (s : State) : (cipherCommit s).fls.banks = s.fls.banks := by
  unfold cipherCommit
  (try dsimp only)
  repeat' (first | (with_reducible rfl) | split)
  all_goals (try simp_all -implicitDefEqProofs)
  all_goals (repeat' (first | (with_reducible rfl) | split))
  all_goals (try simp_all -implicitDefEqProofs)

end Sys2Proof.Laws
end

