-- ==== Sys2Proof/Laws/KeepFlashOps.lean ====
section
/-!
SUPPORT. What the operations of FlashOps leave alone: one lemma for each operation and each part of the state that it never changes.
-/
namespace Sys2Proof.Laws
open Sys2Proof.Machine
set_option linter.unusedTactic false
set_option linter.unreachableTactic false
set_option linter.unusedVariables false
set_option linter.unusedSimpArgs false

@[simp] theorem flsSet_pending (s : State) (b : Nat) (v : FlsBank) : (flsSet s b v).pending = s.pending := by
  unfold flsSet
  (try dsimp only)
  repeat' (first | (with_reducible rfl) | split)
  all_goals (try simp_all -implicitDefEqProofs)
  all_goals (repeat' (first | (with_reducible rfl) | split))
  all_goals (try simp_all -implicitDefEqProofs)
@[simp] theorem flsSet_lck (s : State) (b : Nat) (v : FlsBank) : (flsSet s b v).lck = s.lck := by
  unfold flsSet
  (try dsimp only)
  repeat' (first | (with_reducible rfl) | split)
  all_goals (try simp_all -implicitDefEqProofs)
  all_goals (repeat' (first | (with_reducible rfl) | split))
  all_goals (try simp_all -implicitDefEqProofs)
@[simp] theorem flsSet_ready (s : State) (b : Nat) (v : FlsBank) : (flsSet s b v).boot.ready = s.boot.ready := by
  unfold flsSet
  (try dsimp only)
  repeat' (first | (with_reducible rfl) | split)
  all_goals (try simp_all -implicitDefEqProofs)
  all_goals (repeat' (first | (with_reducible rfl) | split))
  all_goals (try simp_all -implicitDefEqProofs)
@[simp] theorem flsSet_phase (s : State) (b : Nat) (v : FlsBank) : (flsSet s b v).cin.phase = s.cin.phase := by
  unfold flsSet
  (try dsimp only)
  repeat' (first | (with_reducible rfl) | split)
  all_goals (try simp_all -implicitDefEqProofs)
  all_goals (repeat' (first | (with_reducible rfl) | split))
  all_goals (try simp_all -implicitDefEqProofs)
@[simp] theorem flsSet_mem (s : State) (b : Nat) (v : FlsBank) : (flsSet s b v).dram.mem = s.dram.mem := by
  unfold flsSet
  (try dsimp only)
  repeat' (first | (with_reducible rfl) | split)
  all_goals (try simp_all -implicitDefEqProofs)
  all_goals (repeat' (first | (with_reducible rfl) | split))
  all_goals (try simp_all -implicitDefEqProofs)
@[simp] theorem mixBytes_pending (s : State) (old new : Bytes) : (mixBytes s old new).2.pending = s.pending := by
  unfold mixBytes
  (try dsimp only)
  repeat' (first | (with_reducible rfl) | split)
  all_goals (try simp_all -implicitDefEqProofs)
  all_goals (repeat' (first | (with_reducible rfl) | split))
  all_goals (try simp_all -implicitDefEqProofs)
@[simp] theorem mixBytes_lck (s : State) (old new : Bytes) : (mixBytes s old new).2.lck = s.lck := by
  unfold mixBytes
  (try dsimp only)
  repeat' (first | (with_reducible rfl) | split)
  all_goals (try simp_all -implicitDefEqProofs)
  all_goals (repeat' (first | (with_reducible rfl) | split))
  all_goals (try simp_all -implicitDefEqProofs)
@[simp] theorem mixBytes_ready (s : State) (old new : Bytes) : (mixBytes s old new).2.boot.ready = s.boot.ready := by
  unfold mixBytes
  (try dsimp only)
  repeat' (first | (with_reducible rfl) | split)
  all_goals (try simp_all -implicitDefEqProofs)
  all_goals (repeat' (first | (with_reducible rfl) | split))
  all_goals (try simp_all -implicitDefEqProofs)
@[simp] theorem mixBytes_phase (s : State) (old new : Bytes) : (mixBytes s old new).2.cin.phase = s.cin.phase := by
  unfold mixBytes
  (try dsimp only)
  repeat' (first | (with_reducible rfl) | split)
  all_goals (try simp_all -implicitDefEqProofs)
  all_goals (repeat' (first | (with_reducible rfl) | split))
  all_goals (try simp_all -implicitDefEqProofs)
@[simp] theorem mixBytes_mem (s : State) (old new : Bytes) : (mixBytes s old new).2.dram.mem = s.dram.mem := by
  unfold mixBytes
  (try dsimp only)
  repeat' (first | (with_reducible rfl) | split)
  all_goals (try simp_all -implicitDefEqProofs)
  all_goals (repeat' (first | (with_reducible rfl) | split))
  all_goals (try simp_all -implicitDefEqProofs)
@[simp] theorem mixBytes_banks (s : State) (old new : Bytes) : (mixBytes s old new).2.fls.banks = s.fls.banks := by
  unfold mixBytes
  (try dsimp only)
  repeat' (first | (with_reducible rfl) | split)
  all_goals (try simp_all -implicitDefEqProofs)
  all_goals (repeat' (first | (with_reducible rfl) | split))
  all_goals (try simp_all -implicitDefEqProofs)
@[simp] theorem flsStatus_pending (s : State) (b : Nat) (st : Status) : (flsStatus s b st).pending = s.pending := by
  unfold flsStatus
  (try dsimp only)
  repeat' (first | (with_reducible rfl) | split)
  all_goals (try simp_all -implicitDefEqProofs)
  all_goals (repeat' (first | (with_reducible rfl) | split))
  all_goals (try simp_all -implicitDefEqProofs)
@[simp] theorem flsStatus_lck (s : State) (b : Nat) (st : Status) : (flsStatus s b st).lck = s.lck := by
  unfold flsStatus
  (try dsimp only)
  repeat' (first | (with_reducible rfl) | split)
  all_goals (try simp_all -implicitDefEqProofs)
  all_goals (repeat' (first | (with_reducible rfl) | split))
  all_goals (try simp_all -implicitDefEqProofs)
@[simp] theorem flsStatus_ready (s : State) (b : Nat) (st : Status) : (flsStatus s b st).boot.ready = s.boot.ready := by
  unfold flsStatus
  (try dsimp only)
  repeat' (first | (with_reducible rfl) | split)
  all_goals (try simp_all -implicitDefEqProofs)
  all_goals (repeat' (first | (with_reducible rfl) | split))
  all_goals (try simp_all -implicitDefEqProofs)
@[simp] theorem flsStatus_phase (s : State) (b : Nat) (st : Status) : (flsStatus s b st).cin.phase = s.cin.phase := by
  unfold flsStatus
  (try dsimp only)
  repeat' (first | (with_reducible rfl) | split)
  all_goals (try simp_all -implicitDefEqProofs)
  all_goals (repeat' (first | (with_reducible rfl) | split))
  all_goals (try simp_all -implicitDefEqProofs)
@[simp] theorem flsStatus_mem (s : State) (b : Nat) (st : Status) : (flsStatus s b st).dram.mem = s.dram.mem := by
  unfold flsStatus
  (try dsimp only)
  repeat' (first | (with_reducible rfl) | split)
  all_goals (try simp_all -implicitDefEqProofs)
  all_goals (repeat' (first | (with_reducible rfl) | split))
  all_goals (try simp_all -implicitDefEqProofs)
@[simp] theorem flsStatus_banks (s : State) (b : Nat) (st : Status) : (flsStatus s b st).fls.banks = s.fls.banks := by
  unfold flsStatus
  (try dsimp only)
  repeat' (first | (with_reducible rfl) | split)
  all_goals (try simp_all -implicitDefEqProofs)
  all_goals (repeat' (first | (with_reducible rfl) | split))
  all_goals (try simp_all -implicitDefEqProofs)
@[simp] theorem flsBusy_pending (s : State) (b : Nat) (v : Bool) : (flsBusy s b v).pending = s.pending := by
  unfold flsBusy
  (try dsimp only)
  repeat' (first | (with_reducible rfl) | split)
  all_goals (try simp_all -implicitDefEqProofs)
  all_goals (repeat' (first | (with_reducible rfl) | split))
  all_goals (try simp_all -implicitDefEqProofs)
@[simp] theorem flsBusy_lck (s : State) (b : Nat) (v : Bool) : (flsBusy s b v).lck = s.lck := by
  unfold flsBusy
  (try dsimp only)
  repeat' (first | (with_reducible rfl) | split)
  all_goals (try simp_all -implicitDefEqProofs)
  all_goals (repeat' (first | (with_reducible rfl) | split))
  all_goals (try simp_all -implicitDefEqProofs)
@[simp] theorem flsBusy_ready (s : State) (b : Nat) (v : Bool) : (flsBusy s b v).boot.ready = s.boot.ready := by
  unfold flsBusy
  (try dsimp only)
  repeat' (first | (with_reducible rfl) | split)
  all_goals (try simp_all -implicitDefEqProofs)
  all_goals (repeat' (first | (with_reducible rfl) | split))
  all_goals (try simp_all -implicitDefEqProofs)
@[simp] theorem flsBusy_phase (s : State) (b : Nat) (v : Bool) : (flsBusy s b v).cin.phase = s.cin.phase := by
  unfold flsBusy
  (try dsimp only)
  repeat' (first | (with_reducible rfl) | split)
  all_goals (try simp_all -implicitDefEqProofs)
  all_goals (repeat' (first | (with_reducible rfl) | split))
  all_goals (try simp_all -implicitDefEqProofs)
@[simp] theorem flsBusy_mem (s : State) (b : Nat) (v : Bool) : (flsBusy s b v).dram.mem = s.dram.mem := by
  unfold flsBusy
  (try dsimp only)
  repeat' (first | (with_reducible rfl) | split)
  all_goals (try simp_all -implicitDefEqProofs)
  all_goals (repeat' (first | (with_reducible rfl) | split))
  all_goals (try simp_all -implicitDefEqProofs)
@[simp] theorem flsBusy_banks (s : State) (b : Nat) (v : Bool) : (flsBusy s b v).fls.banks = s.fls.banks := by
  unfold flsBusy
  (try dsimp only)
  repeat' (first | (with_reducible rfl) | split)
  all_goals (try simp_all -implicitDefEqProofs)
  all_goals (repeat' (first | (with_reducible rfl) | split))
  all_goals (try simp_all -implicitDefEqProofs)
@[simp] theorem flsFreeze_pending (s : State) : (flsFreeze s).pending = s.pending := by
  unfold flsFreeze
  (try dsimp only)
  repeat' (first | (with_reducible rfl) | split)
  all_goals (try simp_all -implicitDefEqProofs)
  all_goals (repeat' (first | (with_reducible rfl) | split))
  all_goals (try simp_all -implicitDefEqProofs)
@[simp] theorem flsFreeze_lck (s : State) : (flsFreeze s).lck = s.lck := by
  unfold flsFreeze
  (try dsimp only)
  repeat' (first | (with_reducible rfl) | split)
  all_goals (try simp_all -implicitDefEqProofs)
  all_goals (repeat' (first | (with_reducible rfl) | split))
  all_goals (try simp_all -implicitDefEqProofs)
@[simp] theorem flsFreeze_ready (s : State) : (flsFreeze s).boot.ready = s.boot.ready := by
  unfold flsFreeze
  (try dsimp only)
  repeat' (first | (with_reducible rfl) | split)
  all_goals (try simp_all -implicitDefEqProofs)
  all_goals (repeat' (first | (with_reducible rfl) | split))
  all_goals (try simp_all -implicitDefEqProofs)
@[simp] theorem flsFreeze_phase (s : State) : (flsFreeze s).cin.phase = s.cin.phase := by
  unfold flsFreeze
  (try dsimp only)
  repeat' (first | (with_reducible rfl) | split)
  all_goals (try simp_all -implicitDefEqProofs)
  all_goals (repeat' (first | (with_reducible rfl) | split))
  all_goals (try simp_all -implicitDefEqProofs)
@[simp] theorem flsFreeze_mem (s : State) : (flsFreeze s).dram.mem = s.dram.mem := by
  unfold flsFreeze
  (try dsimp only)
  repeat' (first | (with_reducible rfl) | split)
  all_goals (try simp_all -implicitDefEqProofs)
  all_goals (repeat' (first | (with_reducible rfl) | split))
  all_goals (try simp_all -implicitDefEqProofs)
@[simp] theorem flsTear_pending (u : State) (b : Nat) (o : FlsOp) : (flsTear u b o).pending = u.pending := by
  unfold flsTear
  (try dsimp only)
  repeat' (first | (with_reducible rfl) | split)
  all_goals (try simp_all -implicitDefEqProofs)
  all_goals (repeat' (first | (with_reducible rfl) | split))
  all_goals (try simp_all -implicitDefEqProofs)
@[simp] theorem flsTear_lck (u : State) (b : Nat) (o : FlsOp) : (flsTear u b o).lck = u.lck := by
  unfold flsTear
  (try dsimp only)
  repeat' (first | (with_reducible rfl) | split)
  all_goals (try simp_all -implicitDefEqProofs)
  all_goals (repeat' (first | (with_reducible rfl) | split))
  all_goals (try simp_all -implicitDefEqProofs)
@[simp] theorem flsTear_ready (u : State) (b : Nat) (o : FlsOp) : (flsTear u b o).boot.ready = u.boot.ready := by
  unfold flsTear
  (try dsimp only)
  repeat' (first | (with_reducible rfl) | split)
  all_goals (try simp_all -implicitDefEqProofs)
  all_goals (repeat' (first | (with_reducible rfl) | split))
  all_goals (try simp_all -implicitDefEqProofs)
@[simp] theorem flsTear_phase (u : State) (b : Nat) (o : FlsOp) : (flsTear u b o).cin.phase = u.cin.phase := by
  unfold flsTear
  (try dsimp only)
  repeat' (first | (with_reducible rfl) | split)
  all_goals (try simp_all -implicitDefEqProofs)
  all_goals (repeat' (first | (with_reducible rfl) | split))
  all_goals (try simp_all -implicitDefEqProofs)
@[simp] theorem flsTear_mem (u : State) (b : Nat) (o : FlsOp) : (flsTear u b o).dram.mem = u.dram.mem := by
  unfold flsTear
  (try dsimp only)
  repeat' (first | (with_reducible rfl) | split)
  all_goals (try simp_all -implicitDefEqProofs)
  all_goals (repeat' (first | (with_reducible rfl) | split))
  all_goals (try simp_all -implicitDefEqProofs)
@[simp] theorem flsCut_pending (s : State) : (flsCut s).pending = s.pending := by
  unfold flsCut
  repeat' (first
    | (with_reducible rfl)
    | (extract_lets +onlyGivenNames u; have hu : u.pending = s.pending := (by
         (try simp only [u])
         repeat' (first | (with_reducible rfl) | split)
         all_goals (try simp_all -implicitDefEqProofs)
         all_goals (repeat' (first | (with_reducible rfl) | split))
         all_goals (try simp_all -implicitDefEqProofs)); clear_value u)
    | (extract_lets +onlyGivenNames u; clear_value u)
    | (split <;> (rename_i heq; have hh := snd_pending heq; clear heq))
    | split
    | (refine (foldl_pending _ _ _ ?_).trans ?_)
    | intro _)
  all_goals (try simp_all -implicitDefEqProofs)
  all_goals (repeat' (first | (with_reducible rfl) | split))
  all_goals (try simp_all -implicitDefEqProofs)
@[simp] theorem flsCut_lck (s : State) : (flsCut s).lck = s.lck := by
  unfold flsCut
  (try dsimp only)
  repeat' (first | (with_reducible rfl) | split)
  all_goals (try simp_all -implicitDefEqProofs)
  all_goals (repeat' (first | (with_reducible rfl) | split))
  all_goals (try simp_all -implicitDefEqProofs)
@[simp] theorem flsCut_ready (s : State) : (flsCut s).boot.ready = s.boot.ready := by
  unfold flsCut
  repeat' (first
    | (with_reducible rfl)
    | (extract_lets +onlyGivenNames u; have hu : u.boot.ready = s.boot.ready := (by
         (try simp only [u])
         repeat' (first | (with_reducible rfl) | split)
         all_goals (try simp_all -implicitDefEqProofs)
         all_goals (repeat' (first | (with_reducible rfl) | split))
         all_goals (try simp_all -implicitDefEqProofs)); clear_value u)
    | (extract_lets +onlyGivenNames u; clear_value u)
    | (split <;> (rename_i heq; have hh := snd_ready heq; clear heq))
    | split
    | (refine (foldl_ready _ _ _ ?_).trans ?_)
    | intro _)
  all_goals (try simp_all -implicitDefEqProofs)
  all_goals (repeat' (first | (with_reducible rfl) | split))
  all_goals (try simp_all -implicitDefEqProofs)
@[simp] theorem flsCut_phase (s : State) : (flsCut s).cin.phase = s.cin.phase := by
  unfold flsCut
  repeat' (first
    | (with_reducible rfl)
    | (extract_lets +onlyGivenNames u; have hu : u.cin.phase = s.cin.phase := (by
         (try simp only [u])
         repeat' (first | (with_reducible rfl) | split)
         all_goals (try simp_all -implicitDefEqProofs)
         all_goals (repeat' (first | (with_reducible rfl) | split))
         all_goals (try simp_all -implicitDefEqProofs)); clear_value u)
    | (extract_lets +onlyGivenNames u; clear_value u)
    | (split <;> (rename_i heq; have hh := snd_phase heq; clear heq))
    | split
    | (refine (foldl_phase _ _ _ ?_).trans ?_)
    | intro _)
  all_goals (try simp_all -implicitDefEqProofs)
  all_goals (repeat' (first | (with_reducible rfl) | split))
  all_goals (try simp_all -implicitDefEqProofs)
@[simp] theorem flsCut_mem (s : State) : (flsCut s).dram.mem = s.dram.mem := by
  unfold flsCut
  repeat' (first
    | (with_reducible rfl)
    | (extract_lets +onlyGivenNames u; have hu : u.dram.mem = s.dram.mem := (by
         (try simp only [u])
         repeat' (first | (with_reducible rfl) | split)
         all_goals (try simp_all -implicitDefEqProofs)
         all_goals (repeat' (first | (with_reducible rfl) | split))
         all_goals (try simp_all -implicitDefEqProofs)); clear_value u)
    | (extract_lets +onlyGivenNames u; clear_value u)
    | (split <;> (rename_i heq; have hh := snd_mem heq; clear heq))
    | split
    | (refine (foldl_mem _ _ _ ?_).trans ?_)
    | intro _)
  all_goals (try simp_all -implicitDefEqProofs)
  all_goals (repeat' (first | (with_reducible rfl) | split))
  all_goals (try simp_all -implicitDefEqProofs)
@[simp] theorem flsWear_pending (s : State) (b sector : Nat) : (flsWear s b sector).pending = s.pending := by
  unfold flsWear
  (try dsimp only)
  repeat' (first | (with_reducible rfl) | split)
  all_goals (try simp_all -implicitDefEqProofs)
  all_goals (repeat' (first | (with_reducible rfl) | split))
  all_goals (try simp_all -implicitDefEqProofs)
@[simp] theorem flsWear_lck (s : State) (b sector : Nat) : (flsWear s b sector).lck = s.lck := by
  unfold flsWear
  (try dsimp only)
  repeat' (first | (with_reducible rfl) | split)
  all_goals (try simp_all -implicitDefEqProofs)
  all_goals (repeat' (first | (with_reducible rfl) | split))
  all_goals (try simp_all -implicitDefEqProofs)
@[simp] theorem flsWear_ready (s : State) (b sector : Nat) : (flsWear s b sector).boot.ready = s.boot.ready := by
  unfold flsWear
  (try dsimp only)
  repeat' (first | (with_reducible rfl) | split)
  all_goals (try simp_all -implicitDefEqProofs)
  all_goals (repeat' (first | (with_reducible rfl) | split))
  all_goals (try simp_all -implicitDefEqProofs)
@[simp] theorem flsWear_phase (s : State) (b sector : Nat) : (flsWear s b sector).cin.phase = s.cin.phase := by
  unfold flsWear
  (try dsimp only)
  repeat' (first | (with_reducible rfl) | split)
  all_goals (try simp_all -implicitDefEqProofs)
  all_goals (repeat' (first | (with_reducible rfl) | split))
  all_goals (try simp_all -implicitDefEqProofs)
@[simp] theorem flsWear_mem (s : State) (b sector : Nat) : (flsWear s b sector).dram.mem = s.dram.mem := by
  unfold flsWear
  (try dsimp only)
  repeat' (first | (with_reducible rfl) | split)
  all_goals (try simp_all -implicitDefEqProofs)
  all_goals (repeat' (first | (with_reducible rfl) | split))
  all_goals (try simp_all -implicitDefEqProofs)
@[simp] theorem flsErased_pending (s : State) (b sector : Nat) : (flsErased s b sector).pending = s.pending := by
  unfold flsErased
  (try dsimp only)
  repeat' (first | (with_reducible rfl) | split)
  all_goals (try simp_all -implicitDefEqProofs)
  all_goals (repeat' (first | (with_reducible rfl) | split))
  all_goals (try simp_all -implicitDefEqProofs)
@[simp] theorem flsErased_lck (s : State) (b sector : Nat) : (flsErased s b sector).lck = s.lck := by
  unfold flsErased
  (try dsimp only)
  repeat' (first | (with_reducible rfl) | split)
  all_goals (try simp_all -implicitDefEqProofs)
  all_goals (repeat' (first | (with_reducible rfl) | split))
  all_goals (try simp_all -implicitDefEqProofs)
@[simp] theorem flsErased_ready (s : State) (b sector : Nat) : (flsErased s b sector).boot.ready = s.boot.ready := by
  unfold flsErased
  (try dsimp only)
  repeat' (first | (with_reducible rfl) | split)
  all_goals (try simp_all -implicitDefEqProofs)
  all_goals (repeat' (first | (with_reducible rfl) | split))
  all_goals (try simp_all -implicitDefEqProofs)
@[simp] theorem flsErased_phase (s : State) (b sector : Nat) : (flsErased s b sector).cin.phase = s.cin.phase := by
  unfold flsErased
  (try dsimp only)
  repeat' (first | (with_reducible rfl) | split)
  all_goals (try simp_all -implicitDefEqProofs)
  all_goals (repeat' (first | (with_reducible rfl) | split))
  all_goals (try simp_all -implicitDefEqProofs)
@[simp] theorem flsErased_mem (s : State) (b sector : Nat) : (flsErased s b sector).dram.mem = s.dram.mem := by
  unfold flsErased
  (try dsimp only)
  repeat' (first | (with_reducible rfl) | split)
  all_goals (try simp_all -implicitDefEqProofs)
  all_goals (repeat' (first | (with_reducible rfl) | split))
  all_goals (try simp_all -implicitDefEqProofs)

end Sys2Proof.Laws
end

