-- ==== Sys2Proof/Laws/KeepTreeOps.lean ====
section
/-!
SUPPORT. What the operations of TreeOps leave alone: one lemma for each operation and each part of the state that it never changes.
-/
namespace Sys2Proof.Laws
open Sys2Proof.Machine
set_option linter.unusedTactic false
set_option linter.unreachableTactic false
set_option linter.unusedVariables false
set_option linter.unusedSimpArgs false

@[simp] theorem treeLines_pending (s : State) (ls : List TreeLine) : (treeLines s ls).pending = s.pending := by
  unfold treeLines
  (try dsimp only)
  repeat' (first | (with_reducible rfl) | split)
  all_goals (try simp_all -implicitDefEqProofs)
  all_goals (repeat' (first | (with_reducible rfl) | split))
  all_goals (try simp_all -implicitDefEqProofs)
@[simp] theorem treeLines_lck (s : State) (ls : List TreeLine) : (treeLines s ls).lck = s.lck := by
  unfold treeLines
  (try dsimp only)
  repeat' (first | (with_reducible rfl) | split)
  all_goals (try simp_all -implicitDefEqProofs)
  all_goals (repeat' (first | (with_reducible rfl) | split))
  all_goals (try simp_all -implicitDefEqProofs)
@[simp] theorem treeLines_ready (s : State) (ls : List TreeLine) : (treeLines s ls).boot.ready = s.boot.ready := by
  unfold treeLines
  (try dsimp only)
  repeat' (first | (with_reducible rfl) | split)
  all_goals (try simp_all -implicitDefEqProofs)
  all_goals (repeat' (first | (with_reducible rfl) | split))
  all_goals (try simp_all -implicitDefEqProofs)
@[simp] theorem treeLines_phase (s : State) (ls : List TreeLine) : (treeLines s ls).cin.phase = s.cin.phase := by
  unfold treeLines
  (try dsimp only)
  repeat' (first | (with_reducible rfl) | split)
  all_goals (try simp_all -implicitDefEqProofs)
  all_goals (repeat' (first | (with_reducible rfl) | split))
  all_goals (try simp_all -implicitDefEqProofs)
@[simp] theorem treeLines_mem (s : State) (ls : List TreeLine) : (treeLines s ls).dram.mem = s.dram.mem := by
  unfold treeLines
  (try dsimp only)
  repeat' (first | (with_reducible rfl) | split)
  all_goals (try simp_all -implicitDefEqProofs)
  all_goals (repeat' (first | (with_reducible rfl) | split))
  all_goals (try simp_all -implicitDefEqProofs)
@[simp] theorem treeLines_banks (s : State) (ls : List TreeLine) : (treeLines s ls).fls.banks = s.fls.banks := by
  unfold treeLines
  (try dsimp only)
  repeat' (first | (with_reducible rfl) | split)
  all_goals (try simp_all -implicitDefEqProofs)
  all_goals (repeat' (first | (with_reducible rfl) | split))
  all_goals (try simp_all -implicitDefEqProofs)
@[simp] theorem treePut_pending (s : State) (t : TreeLine) : (treePut s t).pending = s.pending := by
  unfold treePut
  (try dsimp only)
  repeat' (first | (with_reducible rfl) | split)
  all_goals (try simp_all -implicitDefEqProofs)
  all_goals (repeat' (first | (with_reducible rfl) | split))
  all_goals (try simp_all -implicitDefEqProofs)
@[simp] theorem treePut_lck (s : State) (t : TreeLine) : (treePut s t).lck = s.lck := by
  unfold treePut
  (try dsimp only)
  repeat' (first | (with_reducible rfl) | split)
  all_goals (try simp_all -implicitDefEqProofs)
  all_goals (repeat' (first | (with_reducible rfl) | split))
  all_goals (try simp_all -implicitDefEqProofs)
@[simp] theorem treePut_ready (s : State) (t : TreeLine) : (treePut s t).boot.ready = s.boot.ready := by
  unfold treePut
  (try dsimp only)
  repeat' (first | (with_reducible rfl) | split)
  all_goals (try simp_all -implicitDefEqProofs)
  all_goals (repeat' (first | (with_reducible rfl) | split))
  all_goals (try simp_all -implicitDefEqProofs)
@[simp] theorem treePut_phase (s : State) (t : TreeLine) : (treePut s t).cin.phase = s.cin.phase := by
  unfold treePut
  (try dsimp only)
  repeat' (first | (with_reducible rfl) | split)
  all_goals (try simp_all -implicitDefEqProofs)
  all_goals (repeat' (first | (with_reducible rfl) | split))
  all_goals (try simp_all -implicitDefEqProofs)
@[simp] theorem treePut_mem (s : State) (t : TreeLine) : (treePut s t).dram.mem = s.dram.mem := by
  unfold treePut
  (try dsimp only)
  repeat' (first | (with_reducible rfl) | split)
  all_goals (try simp_all -implicitDefEqProofs)
  all_goals (repeat' (first | (with_reducible rfl) | split))
  all_goals (try simp_all -implicitDefEqProofs)
@[simp] theorem treePut_banks (s : State) (t : TreeLine) : (treePut s t).fls.banks = s.fls.banks := by
  unfold treePut
  (try dsimp only)
  repeat' (first | (with_reducible rfl) | split)
  all_goals (try simp_all -implicitDefEqProofs)
  all_goals (repeat' (first | (with_reducible rfl) | split))
  all_goals (try simp_all -implicitDefEqProofs)
@[simp] theorem treeDrop_pending (s : State) (n : Nat) : (treeDrop s n).pending = s.pending := by
  unfold treeDrop
  (try dsimp only)
  repeat' (first | (with_reducible rfl) | split)
  all_goals (try simp_all -implicitDefEqProofs)
  all_goals (repeat' (first | (with_reducible rfl) | split))
  all_goals (try simp_all -implicitDefEqProofs)
@[simp] theorem treeDrop_lck (s : State) (n : Nat) : (treeDrop s n).lck = s.lck := by
  unfold treeDrop
  (try dsimp only)
  repeat' (first | (with_reducible rfl) | split)
  all_goals (try simp_all -implicitDefEqProofs)
  all_goals (repeat' (first | (with_reducible rfl) | split))
  all_goals (try simp_all -implicitDefEqProofs)
@[simp] theorem treeDrop_ready (s : State) (n : Nat) : (treeDrop s n).boot.ready = s.boot.ready := by
  unfold treeDrop
  (try dsimp only)
  repeat' (first | (with_reducible rfl) | split)
  all_goals (try simp_all -implicitDefEqProofs)
  all_goals (repeat' (first | (with_reducible rfl) | split))
  all_goals (try simp_all -implicitDefEqProofs)
@[simp] theorem treeDrop_phase (s : State) (n : Nat) : (treeDrop s n).cin.phase = s.cin.phase := by
  unfold treeDrop
  (try dsimp only)
  repeat' (first | (with_reducible rfl) | split)
  all_goals (try simp_all -implicitDefEqProofs)
  all_goals (repeat' (first | (with_reducible rfl) | split))
  all_goals (try simp_all -implicitDefEqProofs)
@[simp] theorem treeDrop_mem (s : State) (n : Nat) : (treeDrop s n).dram.mem = s.dram.mem := by
  unfold treeDrop
  (try dsimp only)
  repeat' (first | (with_reducible rfl) | split)
  all_goals (try simp_all -implicitDefEqProofs)
  all_goals (repeat' (first | (with_reducible rfl) | split))
  all_goals (try simp_all -implicitDefEqProofs)
@[simp] theorem treeDrop_banks (s : State) (n : Nat) : (treeDrop s n).fls.banks = s.fls.banks := by
  unfold treeDrop
  (try dsimp only)
  repeat' (first | (with_reducible rfl) | split)
  all_goals (try simp_all -implicitDefEqProofs)
  all_goals (repeat' (first | (with_reducible rfl) | split))
  all_goals (try simp_all -implicitDefEqProofs)
@[simp] theorem treeSweep_pending (s : State) (n : Nat) : (treeSweep s n).pending = s.pending := by
  unfold treeSweep
  (try dsimp only)
  repeat' (first | (with_reducible rfl) | split)
  all_goals (try simp_all -implicitDefEqProofs)
  all_goals (repeat' (first | (with_reducible rfl) | split))
  all_goals (try simp_all -implicitDefEqProofs)
@[simp] theorem treeSweep_lck (s : State) (n : Nat) : (treeSweep s n).lck = s.lck := by
  unfold treeSweep
  (try dsimp only)
  repeat' (first | (with_reducible rfl) | split)
  all_goals (try simp_all -implicitDefEqProofs)
  all_goals (repeat' (first | (with_reducible rfl) | split))
  all_goals (try simp_all -implicitDefEqProofs)
@[simp] theorem treeSweep_ready (s : State) (n : Nat) : (treeSweep s n).boot.ready = s.boot.ready := by
  unfold treeSweep
  (try dsimp only)
  repeat' (first | (with_reducible rfl) | split)
  all_goals (try simp_all -implicitDefEqProofs)
  all_goals (repeat' (first | (with_reducible rfl) | split))
  all_goals (try simp_all -implicitDefEqProofs)
@[simp] theorem treeSweep_phase (s : State) (n : Nat) : (treeSweep s n).cin.phase = s.cin.phase := by
  unfold treeSweep
  (try dsimp only)
  repeat' (first | (with_reducible rfl) | split)
  all_goals (try simp_all -implicitDefEqProofs)
  all_goals (repeat' (first | (with_reducible rfl) | split))
  all_goals (try simp_all -implicitDefEqProofs)
@[simp] theorem treeSweep_mem (s : State) (n : Nat) : (treeSweep s n).dram.mem = s.dram.mem := by
  unfold treeSweep
  (try dsimp only)
  repeat' (first | (with_reducible rfl) | split)
  all_goals (try simp_all -implicitDefEqProofs)
  all_goals (repeat' (first | (with_reducible rfl) | split))
  all_goals (try simp_all -implicitDefEqProofs)
@[simp] theorem treeSweep_banks (s : State) (n : Nat) : (treeSweep s n).fls.banks = s.fls.banks := by
  unfold treeSweep
  (try dsimp only)
  repeat' (first | (with_reducible rfl) | split)
  all_goals (try simp_all -implicitDefEqProofs)
  all_goals (repeat' (first | (with_reducible rfl) | split))
  all_goals (try simp_all -implicitDefEqProofs)
@[simp] theorem wbbPut_pending (s : State) (e : WbbEntry) : (wbbPut s e).pending = s.pending := by
  unfold wbbPut
  (try dsimp only)
  repeat' (first | (with_reducible rfl) | split)
  all_goals (try simp_all -implicitDefEqProofs)
  all_goals (repeat' (first | (with_reducible rfl) | split))
  all_goals (try simp_all -implicitDefEqProofs)
@[simp] theorem wbbPut_lck (s : State) (e : WbbEntry) : (wbbPut s e).lck = s.lck := by
  unfold wbbPut
  (try dsimp only)
  repeat' (first | (with_reducible rfl) | split)
  all_goals (try simp_all -implicitDefEqProofs)
  all_goals (repeat' (first | (with_reducible rfl) | split))
  all_goals (try simp_all -implicitDefEqProofs)
@[simp] theorem wbbPut_ready (s : State) (e : WbbEntry) : (wbbPut s e).boot.ready = s.boot.ready := by
  unfold wbbPut
  (try dsimp only)
  repeat' (first | (with_reducible rfl) | split)
  all_goals (try simp_all -implicitDefEqProofs)
  all_goals (repeat' (first | (with_reducible rfl) | split))
  all_goals (try simp_all -implicitDefEqProofs)
@[simp] theorem wbbPut_phase (s : State) (e : WbbEntry) : (wbbPut s e).cin.phase = s.cin.phase := by
  unfold wbbPut
  (try dsimp only)
  repeat' (first | (with_reducible rfl) | split)
  all_goals (try simp_all -implicitDefEqProofs)
  all_goals (repeat' (first | (with_reducible rfl) | split))
  all_goals (try simp_all -implicitDefEqProofs)
@[simp] theorem wbbPut_mem (s : State) (e : WbbEntry) : (wbbPut s e).dram.mem = s.dram.mem := by
  unfold wbbPut
  (try dsimp only)
  repeat' (first | (with_reducible rfl) | split)
  all_goals (try simp_all -implicitDefEqProofs)
  all_goals (repeat' (first | (with_reducible rfl) | split))
  all_goals (try simp_all -implicitDefEqProofs)
@[simp] theorem wbbPut_banks (s : State) (e : WbbEntry) : (wbbPut s e).fls.banks = s.fls.banks := by
  unfold wbbPut
  (try dsimp only)
  repeat' (first | (with_reducible rfl) | split)
  all_goals (try simp_all -implicitDefEqProofs)
  all_goals (repeat' (first | (with_reducible rfl) | split))
  all_goals (try simp_all -implicitDefEqProofs)
@[simp] theorem treeClean_pending (s : State) (t : TreeLine) : (treeClean s t).pending = s.pending := by
  unfold treeClean
  (try dsimp only)
  repeat' (first | (with_reducible rfl) | split)
  all_goals (try simp_all -implicitDefEqProofs)
  all_goals (repeat' (first | (with_reducible rfl) | split))
  all_goals (try simp_all -implicitDefEqProofs)
@[simp] theorem treeClean_lck (s : State) (t : TreeLine) : (treeClean s t).lck = s.lck := by
  unfold treeClean
  (try dsimp only)
  repeat' (first | (with_reducible rfl) | split)
  all_goals (try simp_all -implicitDefEqProofs)
  all_goals (repeat' (first | (with_reducible rfl) | split))
  all_goals (try simp_all -implicitDefEqProofs)
@[simp] theorem treeClean_ready (s : State) (t : TreeLine) : (treeClean s t).boot.ready = s.boot.ready := by
  unfold treeClean
  (try dsimp only)
  repeat' (first | (with_reducible rfl) | split)
  all_goals (try simp_all -implicitDefEqProofs)
  all_goals (repeat' (first | (with_reducible rfl) | split))
  all_goals (try simp_all -implicitDefEqProofs)
@[simp] theorem treeClean_phase (s : State) (t : TreeLine) : (treeClean s t).cin.phase = s.cin.phase := by
  unfold treeClean
  (try dsimp only)
  repeat' (first | (with_reducible rfl) | split)
  all_goals (try simp_all -implicitDefEqProofs)
  all_goals (repeat' (first | (with_reducible rfl) | split))
  all_goals (try simp_all -implicitDefEqProofs)
@[simp] theorem treeClean_mem (s : State) (t : TreeLine) : (treeClean s t).dram.mem = s.dram.mem := by
  unfold treeClean
  (try dsimp only)
  repeat' (first | (with_reducible rfl) | split)
  all_goals (try simp_all -implicitDefEqProofs)
  all_goals (repeat' (first | (with_reducible rfl) | split))
  all_goals (try simp_all -implicitDefEqProofs)
@[simp] theorem treeClean_banks (s : State) (t : TreeLine) : (treeClean s t).fls.banks = s.fls.banks := by
  unfold treeClean
  (try dsimp only)
  repeat' (first | (with_reducible rfl) | split)
  all_goals (try simp_all -implicitDefEqProofs)
  all_goals (repeat' (first | (with_reducible rfl) | split))
  all_goals (try simp_all -implicitDefEqProofs)
@[simp] theorem treeCleanWhere_pending (s : State) (p : TreeLine → Bool) : (treeCleanWhere s p).pending = s.pending := by
  unfold treeCleanWhere
  (try dsimp only)
  repeat' (first | (with_reducible rfl) | split)
  all_goals (try simp_all -implicitDefEqProofs)
  all_goals (repeat' (first | (with_reducible rfl) | split))
  all_goals (try simp_all -implicitDefEqProofs)
@[simp] theorem treeCleanWhere_lck (s : State) (p : TreeLine → Bool) : (treeCleanWhere s p).lck = s.lck := by
  unfold treeCleanWhere
  (try dsimp only)
  repeat' (first | (with_reducible rfl) | split)
  all_goals (try simp_all -implicitDefEqProofs)
  all_goals (repeat' (first | (with_reducible rfl) | split))
  all_goals (try simp_all -implicitDefEqProofs)
@[simp] theorem treeCleanWhere_ready (s : State) (p : TreeLine → Bool) : (treeCleanWhere s p).boot.ready = s.boot.ready := by
  unfold treeCleanWhere
  (try dsimp only)
  repeat' (first | (with_reducible rfl) | split)
  all_goals (try simp_all -implicitDefEqProofs)
  all_goals (repeat' (first | (with_reducible rfl) | split))
  all_goals (try simp_all -implicitDefEqProofs)
@[simp] theorem treeCleanWhere_phase (s : State) (p : TreeLine → Bool) : (treeCleanWhere s p).cin.phase = s.cin.phase := by
  unfold treeCleanWhere
  (try dsimp only)
  repeat' (first | (with_reducible rfl) | split)
  all_goals (try simp_all -implicitDefEqProofs)
  all_goals (repeat' (first | (with_reducible rfl) | split))
  all_goals (try simp_all -implicitDefEqProofs)
@[simp] theorem treeCleanWhere_mem (s : State) (p : TreeLine → Bool) : (treeCleanWhere s p).dram.mem = s.dram.mem := by
  unfold treeCleanWhere
  (try dsimp only)
  repeat' (first | (with_reducible rfl) | split)
  all_goals (try simp_all -implicitDefEqProofs)
  all_goals (repeat' (first | (with_reducible rfl) | split))
  all_goals (try simp_all -implicitDefEqProofs)
@[simp] theorem treeCleanWhere_banks (s : State) (p : TreeLine → Bool) : (treeCleanWhere s p).fls.banks = s.fls.banks := by
  unfold treeCleanWhere
  (try dsimp only)
  repeat' (first | (with_reducible rfl) | split)
  all_goals (try simp_all -implicitDefEqProofs)
  all_goals (repeat' (first | (with_reducible rfl) | split))
  all_goals (try simp_all -implicitDefEqProofs)
@[simp] theorem treeCleanInv_pending (s : State) (t : TreeLine) : (treeCleanInv s t).pending = s.pending := by
  unfold treeCleanInv
  (try dsimp only)
  repeat' (first | (with_reducible rfl) | split)
  all_goals (try simp_all -implicitDefEqProofs)
  all_goals (repeat' (first | (with_reducible rfl) | split))
  all_goals (try simp_all -implicitDefEqProofs)
@[simp] theorem treeCleanInv_lck (s : State) (t : TreeLine) : (treeCleanInv s t).lck = s.lck := by
  unfold treeCleanInv
  (try dsimp only)
  repeat' (first | (with_reducible rfl) | split)
  all_goals (try simp_all -implicitDefEqProofs)
  all_goals (repeat' (first | (with_reducible rfl) | split))
  all_goals (try simp_all -implicitDefEqProofs)
@[simp] theorem treeCleanInv_ready (s : State) (t : TreeLine) : (treeCleanInv s t).boot.ready = s.boot.ready := by
  unfold treeCleanInv
  (try dsimp only)
  repeat' (first | (with_reducible rfl) | split)
  all_goals (try simp_all -implicitDefEqProofs)
  all_goals (repeat' (first | (with_reducible rfl) | split))
  all_goals (try simp_all -implicitDefEqProofs)
@[simp] theorem treeCleanInv_phase (s : State) (t : TreeLine) : (treeCleanInv s t).cin.phase = s.cin.phase := by
  unfold treeCleanInv
  (try dsimp only)
  repeat' (first | (with_reducible rfl) | split)
  all_goals (try simp_all -implicitDefEqProofs)
  all_goals (repeat' (first | (with_reducible rfl) | split))
  all_goals (try simp_all -implicitDefEqProofs)
@[simp] theorem treeCleanInv_mem (s : State) (t : TreeLine) : (treeCleanInv s t).dram.mem = s.dram.mem := by
  unfold treeCleanInv
  (try dsimp only)
  repeat' (first | (with_reducible rfl) | split)
  all_goals (try simp_all -implicitDefEqProofs)
  all_goals (repeat' (first | (with_reducible rfl) | split))
  all_goals (try simp_all -implicitDefEqProofs)
@[simp] theorem treeCleanInv_banks (s : State) (t : TreeLine) : (treeCleanInv s t).fls.banks = s.fls.banks := by
  unfold treeCleanInv
  (try dsimp only)
  repeat' (first | (with_reducible rfl) | split)
  all_goals (try simp_all -implicitDefEqProofs)
  all_goals (repeat' (first | (with_reducible rfl) | split))
  all_goals (try simp_all -implicitDefEqProofs)
@[simp] theorem treeEvict_pending (s : State) (t : TreeLine) : (treeEvict s t).pending = s.pending := by
  unfold treeEvict
  (try dsimp only)
  repeat' (first | (with_reducible rfl) | split)
  all_goals (try simp_all -implicitDefEqProofs)
  all_goals (repeat' (first | (with_reducible rfl) | split))
  all_goals (try simp_all -implicitDefEqProofs)
@[simp] theorem treeEvict_lck (s : State) (t : TreeLine) : (treeEvict s t).lck = s.lck := by
  unfold treeEvict
  (try dsimp only)
  repeat' (first | (with_reducible rfl) | split)
  all_goals (try simp_all -implicitDefEqProofs)
  all_goals (repeat' (first | (with_reducible rfl) | split))
  all_goals (try simp_all -implicitDefEqProofs)
@[simp] theorem treeEvict_ready (s : State) (t : TreeLine) : (treeEvict s t).boot.ready = s.boot.ready := by
  unfold treeEvict
  (try dsimp only)
  repeat' (first | (with_reducible rfl) | split)
  all_goals (try simp_all -implicitDefEqProofs)
  all_goals (repeat' (first | (with_reducible rfl) | split))
  all_goals (try simp_all -implicitDefEqProofs)
@[simp] theorem treeEvict_phase (s : State) (t : TreeLine) : (treeEvict s t).cin.phase = s.cin.phase := by
  unfold treeEvict
  (try dsimp only)
  repeat' (first | (with_reducible rfl) | split)
  all_goals (try simp_all -implicitDefEqProofs)
  all_goals (repeat' (first | (with_reducible rfl) | split))
  all_goals (try simp_all -implicitDefEqProofs)
@[simp] theorem treeEvict_mem (s : State) (t : TreeLine) : (treeEvict s t).dram.mem = s.dram.mem := by
  unfold treeEvict
  (try dsimp only)
  repeat' (first | (with_reducible rfl) | split)
  all_goals (try simp_all -implicitDefEqProofs)
  all_goals (repeat' (first | (with_reducible rfl) | split))
  all_goals (try simp_all -implicitDefEqProofs)
@[simp] theorem treeEvict_banks (s : State) (t : TreeLine) : (treeEvict s t).fls.banks = s.fls.banks := by
  unfold treeEvict
  (try dsimp only)
  repeat' (first | (with_reducible rfl) | split)
  all_goals (try simp_all -implicitDefEqProofs)
  all_goals (repeat' (first | (with_reducible rfl) | split))
  all_goals (try simp_all -implicitDefEqProofs)
@[simp] theorem treeHit_pending (s : State) (n : Nat) : (treeHit s n).pending = s.pending := by
  unfold treeHit
  (try dsimp only)
  repeat' (first | (with_reducible rfl) | split)
  all_goals (try simp_all -implicitDefEqProofs)
  all_goals (repeat' (first | (with_reducible rfl) | split))
  all_goals (try simp_all -implicitDefEqProofs)
@[simp] theorem treeHit_lck (s : State) (n : Nat) : (treeHit s n).lck = s.lck := by
  unfold treeHit
  (try dsimp only)
  repeat' (first | (with_reducible rfl) | split)
  all_goals (try simp_all -implicitDefEqProofs)
  all_goals (repeat' (first | (with_reducible rfl) | split))
  all_goals (try simp_all -implicitDefEqProofs)
@[simp] theorem treeHit_ready (s : State) (n : Nat) : (treeHit s n).boot.ready = s.boot.ready := by
  unfold treeHit
  (try dsimp only)
  repeat' (first | (with_reducible rfl) | split)
  all_goals (try simp_all -implicitDefEqProofs)
  all_goals (repeat' (first | (with_reducible rfl) | split))
  all_goals (try simp_all -implicitDefEqProofs)
@[simp] theorem treeHit_phase (s : State) (n : Nat) : (treeHit s n).cin.phase = s.cin.phase := by
  unfold treeHit
  (try dsimp only)
  repeat' (first | (with_reducible rfl) | split)
  all_goals (try simp_all -implicitDefEqProofs)
  all_goals (repeat' (first | (with_reducible rfl) | split))
  all_goals (try simp_all -implicitDefEqProofs)
@[simp] theorem treeHit_mem (s : State) (n : Nat) : (treeHit s n).dram.mem = s.dram.mem := by
  unfold treeHit
  (try dsimp only)
  repeat' (first | (with_reducible rfl) | split)
  all_goals (try simp_all -implicitDefEqProofs)
  all_goals (repeat' (first | (with_reducible rfl) | split))
  all_goals (try simp_all -implicitDefEqProofs)
@[simp] theorem treeHit_banks (s : State) (n : Nat) : (treeHit s n).fls.banks = s.fls.banks := by
  unfold treeHit
  (try dsimp only)
  repeat' (first | (with_reducible rfl) | split)
  all_goals (try simp_all -implicitDefEqProofs)
  all_goals (repeat' (first | (with_reducible rfl) | split))
  all_goals (try simp_all -implicitDefEqProofs)
@[simp] theorem treeMiss_pending (s : State) (n : Nat) : (treeMiss s n).pending = s.pending := by
  unfold treeMiss
  (try dsimp only)
  repeat' (first | (with_reducible rfl) | split)
  all_goals (try simp_all -implicitDefEqProofs)
  all_goals (repeat' (first | (with_reducible rfl) | split))
  all_goals (try simp_all -implicitDefEqProofs)
@[simp] theorem treeMiss_lck (s : State) (n : Nat) : (treeMiss s n).lck = s.lck := by
  unfold treeMiss
  (try dsimp only)
  repeat' (first | (with_reducible rfl) | split)
  all_goals (try simp_all -implicitDefEqProofs)
  all_goals (repeat' (first | (with_reducible rfl) | split))
  all_goals (try simp_all -implicitDefEqProofs)
@[simp] theorem treeMiss_ready (s : State) (n : Nat) : (treeMiss s n).boot.ready = s.boot.ready := by
  unfold treeMiss
  (try dsimp only)
  repeat' (first | (with_reducible rfl) | split)
  all_goals (try simp_all -implicitDefEqProofs)
  all_goals (repeat' (first | (with_reducible rfl) | split))
  all_goals (try simp_all -implicitDefEqProofs)
@[simp] theorem treeMiss_phase (s : State) (n : Nat) : (treeMiss s n).cin.phase = s.cin.phase := by
  unfold treeMiss
  (try dsimp only)
  repeat' (first | (with_reducible rfl) | split)
  all_goals (try simp_all -implicitDefEqProofs)
  all_goals (repeat' (first | (with_reducible rfl) | split))
  all_goals (try simp_all -implicitDefEqProofs)
@[simp] theorem treeMiss_mem (s : State) (n : Nat) : (treeMiss s n).dram.mem = s.dram.mem := by
  unfold treeMiss
  (try dsimp only)
  repeat' (first | (with_reducible rfl) | split)
  all_goals (try simp_all -implicitDefEqProofs)
  all_goals (repeat' (first | (with_reducible rfl) | split))
  all_goals (try simp_all -implicitDefEqProofs)
@[simp] theorem treeMiss_banks (s : State) (n : Nat) : (treeMiss s n).fls.banks = s.fls.banks := by
  unfold treeMiss
  (try dsimp only)
  repeat' (first | (with_reducible rfl) | split)
  all_goals (try simp_all -implicitDefEqProofs)
  all_goals (repeat' (first | (with_reducible rfl) | split))
  all_goals (try simp_all -implicitDefEqProofs)
@[simp] theorem chanSet_pending (s : State) (c : Nat) (v : Chan) : (chanSet s c v).pending = s.pending := by
  unfold chanSet
  (try dsimp only)
  repeat' (first | (with_reducible rfl) | split)
  all_goals (try simp_all -implicitDefEqProofs)
  all_goals (repeat' (first | (with_reducible rfl) | split))
  all_goals (try simp_all -implicitDefEqProofs)
@[simp] theorem chanSet_lck (s : State) (c : Nat) (v : Chan) : (chanSet s c v).lck = s.lck := by
  unfold chanSet
  (try dsimp only)
  repeat' (first | (with_reducible rfl) | split)
  all_goals (try simp_all -implicitDefEqProofs)
  all_goals (repeat' (first | (with_reducible rfl) | split))
  all_goals (try simp_all -implicitDefEqProofs)
@[simp] theorem chanSet_ready (s : State) (c : Nat) (v : Chan) : (chanSet s c v).boot.ready = s.boot.ready := by
  unfold chanSet
  (try dsimp only)
  repeat' (first | (with_reducible rfl) | split)
  all_goals (try simp_all -implicitDefEqProofs)
  all_goals (repeat' (first | (with_reducible rfl) | split))
  all_goals (try simp_all -implicitDefEqProofs)
@[simp] theorem chanSet_phase (s : State) (c : Nat) (v : Chan) : (chanSet s c v).cin.phase = s.cin.phase := by
  unfold chanSet
  (try dsimp only)
  repeat' (first | (with_reducible rfl) | split)
  all_goals (try simp_all -implicitDefEqProofs)
  all_goals (repeat' (first | (with_reducible rfl) | split))
  all_goals (try simp_all -implicitDefEqProofs)
@[simp] theorem chanSet_mem (s : State) (c : Nat) (v : Chan) : (chanSet s c v).dram.mem = s.dram.mem := by
  unfold chanSet
  (try dsimp only)
  repeat' (first | (with_reducible rfl) | split)
  all_goals (try simp_all -implicitDefEqProofs)
  all_goals (repeat' (first | (with_reducible rfl) | split))
  all_goals (try simp_all -implicitDefEqProofs)
@[simp] theorem chanSet_banks (s : State) (c : Nat) (v : Chan) : (chanSet s c v).fls.banks = s.fls.banks := by
  unfold chanSet
  (try dsimp only)
  repeat' (first | (with_reducible rfl) | split)
  all_goals (try simp_all -implicitDefEqProofs)
  all_goals (repeat' (first | (with_reducible rfl) | split))
  all_goals (try simp_all -implicitDefEqProofs)
@[simp] theorem dramStore_pending (s : State) (n : Nat) (data : Bytes) (poison : Bool) : (dramStore s n data poison).pending = s.pending := by
  unfold dramStore
  (try dsimp only)
  repeat' (first | (with_reducible rfl) | split)
  all_goals (try simp_all -implicitDefEqProofs)
  all_goals (repeat' (first | (with_reducible rfl) | split))
  all_goals (try simp_all -implicitDefEqProofs)
@[simp] theorem dramStore_lck (s : State) (n : Nat) (data : Bytes) (poison : Bool) : (dramStore s n data poison).lck = s.lck := by
  unfold dramStore
  (try dsimp only)
  repeat' (first | (with_reducible rfl) | split)
  all_goals (try simp_all -implicitDefEqProofs)
  all_goals (repeat' (first | (with_reducible rfl) | split))
  all_goals (try simp_all -implicitDefEqProofs)
@[simp] theorem dramStore_ready (s : State) (n : Nat) (data : Bytes) (poison : Bool) : (dramStore s n data poison).boot.ready = s.boot.ready := by
  unfold dramStore
  (try dsimp only)
  repeat' (first | (with_reducible rfl) | split)
  all_goals (try simp_all -implicitDefEqProofs)
  all_goals (repeat' (first | (with_reducible rfl) | split))
  all_goals (try simp_all -implicitDefEqProofs)
@[simp] theorem dramStore_phase (s : State) (n : Nat) (data : Bytes) (poison : Bool) : (dramStore s n data poison).cin.phase = s.cin.phase := by
  unfold dramStore
  (try dsimp only)
  repeat' (first | (with_reducible rfl) | split)
  all_goals (try simp_all -implicitDefEqProofs)
  all_goals (repeat' (first | (with_reducible rfl) | split))
  all_goals (try simp_all -implicitDefEqProofs)
@[simp] theorem dramStore_banks (s : State) (n : Nat) (data : Bytes) (poison : Bool) : (dramStore s n data poison).fls.banks = s.fls.banks := by
  unfold dramStore
  (try dsimp only)
  repeat' (first | (with_reducible rfl) | split)
  all_goals (try simp_all -implicitDefEqProofs)
  all_goals (repeat' (first | (with_reducible rfl) | split))
  all_goals (try simp_all -implicitDefEqProofs)
@[simp] theorem wrqPut_pending (s : State) (n : Nat) (data : Bytes) (poison : Bool) : (wrqPut s n data poison).pending = s.pending := by
  unfold wrqPut
  (try dsimp only)
  repeat' (first | (with_reducible rfl) | split)
  all_goals (try simp_all -implicitDefEqProofs)
  all_goals (repeat' (first | (with_reducible rfl) | split))
  all_goals (try simp_all -implicitDefEqProofs)
@[simp] theorem wrqPut_lck (s : State) (n : Nat) (data : Bytes) (poison : Bool) : (wrqPut s n data poison).lck = s.lck := by
  unfold wrqPut
  (try dsimp only)
  repeat' (first | (with_reducible rfl) | split)
  all_goals (try simp_all -implicitDefEqProofs)
  all_goals (repeat' (first | (with_reducible rfl) | split))
  all_goals (try simp_all -implicitDefEqProofs)
@[simp] theorem wrqPut_ready (s : State) (n : Nat) (data : Bytes) (poison : Bool) : (wrqPut s n data poison).boot.ready = s.boot.ready := by
  unfold wrqPut
  (try dsimp only)
  repeat' (first | (with_reducible rfl) | split)
  all_goals (try simp_all -implicitDefEqProofs)
  all_goals (repeat' (first | (with_reducible rfl) | split))
  all_goals (try simp_all -implicitDefEqProofs)
@[simp] theorem wrqPut_phase (s : State) (n : Nat) (data : Bytes) (poison : Bool) : (wrqPut s n data poison).cin.phase = s.cin.phase := by
  unfold wrqPut
  (try dsimp only)
  repeat' (first | (with_reducible rfl) | split)
  all_goals (try simp_all -implicitDefEqProofs)
  all_goals (repeat' (first | (with_reducible rfl) | split))
  all_goals (try simp_all -implicitDefEqProofs)
@[simp] theorem wrqPut_mem (s : State) (n : Nat) (data : Bytes) (poison : Bool) : (wrqPut s n data poison).dram.mem = s.dram.mem := by
  unfold wrqPut
  (try dsimp only)
  repeat' (first | (with_reducible rfl) | split)
  all_goals (try simp_all -implicitDefEqProofs)
  all_goals (repeat' (first | (with_reducible rfl) | split))
  all_goals (try simp_all -implicitDefEqProofs)
@[simp] theorem wrqPut_banks (s : State) (n : Nat) (data : Bytes) (poison : Bool) : (wrqPut s n data poison).fls.banks = s.fls.banks := by
  unfold wrqPut
  (try dsimp only)
  repeat' (first | (with_reducible rfl) | split)
  all_goals (try simp_all -implicitDefEqProofs)
  all_goals (repeat' (first | (with_reducible rfl) | split))
  all_goals (try simp_all -implicitDefEqProofs)
@[simp] theorem rdqPut_pending (s : State) (n : Nat) (p : ReadFor) (port : Option Nat) : (rdqPut s n p port).pending = s.pending := by
  unfold rdqPut
  (try dsimp only)
  repeat' (first | (with_reducible rfl) | split)
  all_goals (try simp_all -implicitDefEqProofs)
  all_goals (repeat' (first | (with_reducible rfl) | split))
  all_goals (try simp_all -implicitDefEqProofs)
@[simp] theorem rdqPut_lck (s : State) (n : Nat) (p : ReadFor) (port : Option Nat) : (rdqPut s n p port).lck = s.lck := by
  unfold rdqPut
  (try dsimp only)
  repeat' (first | (with_reducible rfl) | split)
  all_goals (try simp_all -implicitDefEqProofs)
  all_goals (repeat' (first | (with_reducible rfl) | split))
  all_goals (try simp_all -implicitDefEqProofs)
@[simp] theorem rdqPut_ready (s : State) (n : Nat) (p : ReadFor) (port : Option Nat) : (rdqPut s n p port).boot.ready = s.boot.ready := by
  unfold rdqPut
  (try dsimp only)
  repeat' (first | (with_reducible rfl) | split)
  all_goals (try simp_all -implicitDefEqProofs)
  all_goals (repeat' (first | (with_reducible rfl) | split))
  all_goals (try simp_all -implicitDefEqProofs)
@[simp] theorem rdqPut_phase (s : State) (n : Nat) (p : ReadFor) (port : Option Nat) : (rdqPut s n p port).cin.phase = s.cin.phase := by
  unfold rdqPut
  (try dsimp only)
  repeat' (first | (with_reducible rfl) | split)
  all_goals (try simp_all -implicitDefEqProofs)
  all_goals (repeat' (first | (with_reducible rfl) | split))
  all_goals (try simp_all -implicitDefEqProofs)
@[simp] theorem rdqPut_mem (s : State) (n : Nat) (p : ReadFor) (port : Option Nat) : (rdqPut s n p port).dram.mem = s.dram.mem := by
  unfold rdqPut
  (try dsimp only)
  repeat' (first | (with_reducible rfl) | split)
  all_goals (try simp_all -implicitDefEqProofs)
  all_goals (repeat' (first | (with_reducible rfl) | split))
  all_goals (try simp_all -implicitDefEqProofs)
@[simp] theorem rdqPut_banks (s : State) (n : Nat) (p : ReadFor) (port : Option Nat) : (rdqPut s n p port).fls.banks = s.fls.banks := by
  unfold rdqPut
  (try dsimp only)
  repeat' (first | (with_reducible rfl) | split)
  all_goals (try simp_all -implicitDefEqProofs)
  all_goals (repeat' (first | (with_reducible rfl) | split))
  all_goals (try simp_all -implicitDefEqProofs)
@[simp] theorem treeAlloc_pending (s : State) (n : Nat) : (treeAlloc s n).2.pending = s.pending := by
  unfold treeAlloc
  (try dsimp only)
  repeat' (first | (with_reducible rfl) | split)
  all_goals (try simp_all -implicitDefEqProofs)
  all_goals (repeat' (first | (with_reducible rfl) | split))
  all_goals (try simp_all -implicitDefEqProofs)
@[simp] theorem treeAlloc_lck (s : State) (n : Nat) : (treeAlloc s n).2.lck = s.lck := by
  unfold treeAlloc
  (try dsimp only)
  repeat' (first | (with_reducible rfl) | split)
  all_goals (try simp_all -implicitDefEqProofs)
  all_goals (repeat' (first | (with_reducible rfl) | split))
  all_goals (try simp_all -implicitDefEqProofs)
@[simp] theorem treeAlloc_ready (s : State) (n : Nat) : (treeAlloc s n).2.boot.ready = s.boot.ready := by
  unfold treeAlloc
  (try dsimp only)
  repeat' (first | (with_reducible rfl) | split)
  all_goals (try simp_all -implicitDefEqProofs)
  all_goals (repeat' (first | (with_reducible rfl) | split))
  all_goals (try simp_all -implicitDefEqProofs)
@[simp] theorem treeAlloc_phase (s : State) (n : Nat) : (treeAlloc s n).2.cin.phase = s.cin.phase := by
  unfold treeAlloc
  (try dsimp only)
  repeat' (first | (with_reducible rfl) | split)
  all_goals (try simp_all -implicitDefEqProofs)
  all_goals (repeat' (first | (with_reducible rfl) | split))
  all_goals (try simp_all -implicitDefEqProofs)
@[simp] theorem treeAlloc_mem (s : State) (n : Nat) : (treeAlloc s n).2.dram.mem = s.dram.mem := by
  unfold treeAlloc
  (try dsimp only)
  repeat' (first | (with_reducible rfl) | split)
  all_goals (try simp_all -implicitDefEqProofs)
  all_goals (repeat' (first | (with_reducible rfl) | split))
  all_goals (try simp_all -implicitDefEqProofs)
@[simp] theorem treeAlloc_banks (s : State) (n : Nat) : (treeAlloc s n).2.fls.banks = s.fls.banks := by
  unfold treeAlloc
  (try dsimp only)
  repeat' (first | (with_reducible rfl) | split)
  all_goals (try simp_all -implicitDefEqProofs)
  all_goals (repeat' (first | (with_reducible rfl) | split))
  all_goals (try simp_all -implicitDefEqProofs)

end Sys2Proof.Laws
end

