-- ==== Sys2Proof/Laws/KeepCinchOps.lean ====
section
/-!
SUPPORT. What the operations of CinchOps leave alone: one lemma for each operation and each part of the state that it never changes.
-/
namespace Sys2Proof.Laws
open Sys2Proof.Machine
set_option linter.unusedTactic false
set_option linter.unreachableTactic false
set_option linter.unusedVariables false
set_option linter.unusedSimpArgs false

@[simp] theorem admitUpdate_pending (s : State) : (admitUpdate s).pending = s.pending := by
  unfold admitUpdate
  (try dsimp only)
  repeat' (first | (with_reducible rfl) | split)
  all_goals (try simp_all -implicitDefEqProofs)
  all_goals (repeat' (first | (with_reducible rfl) | split))
  all_goals (try simp_all -implicitDefEqProofs)
@[simp] theorem admitUpdate_lck (s : State) : (admitUpdate s).lck = s.lck := by
  unfold admitUpdate
  (try dsimp only)
  repeat' (first | (with_reducible rfl) | split)
  all_goals (try simp_all -implicitDefEqProofs)
  all_goals (repeat' (first | (with_reducible rfl) | split))
  all_goals (try simp_all -implicitDefEqProofs)
@[simp] theorem admitUpdate_ready (s : State) : (admitUpdate s).boot.ready = s.boot.ready := by
  unfold admitUpdate
  (try dsimp only)
  repeat' (first | (with_reducible rfl) | split)
  all_goals (try simp_all -implicitDefEqProofs)
  all_goals (repeat' (first | (with_reducible rfl) | split))
  all_goals (try simp_all -implicitDefEqProofs)
@[simp] theorem admitUpdate_phase (s : State) : (admitUpdate s).cin.phase = s.cin.phase := by
  unfold admitUpdate
  (try dsimp only)
  repeat' (first | (with_reducible rfl) | split)
  all_goals (try simp_all -implicitDefEqProofs)
  all_goals (repeat' (first | (with_reducible rfl) | split))
  all_goals (try simp_all -implicitDefEqProofs)
@[simp] theorem admitUpdate_mem (s : State) : (admitUpdate s).dram.mem = s.dram.mem := by
  unfold admitUpdate
  (try dsimp only)
  repeat' (first | (with_reducible rfl) | split)
  all_goals (try simp_all -implicitDefEqProofs)
  all_goals (repeat' (first | (with_reducible rfl) | split))
  all_goals (try simp_all -implicitDefEqProofs)
@[simp] theorem admitUpdate_banks (s : State) : (admitUpdate s).fls.banks = s.fls.banks := by
  unfold admitUpdate
  (try dsimp only)
  repeat' (first | (with_reducible rfl) | split)
  all_goals (try simp_all -implicitDefEqProofs)
  all_goals (repeat' (first | (with_reducible rfl) | split))
  all_goals (try simp_all -implicitDefEqProofs)
@[simp] theorem cinchRecompute_pending (s : State) : (cinchRecompute s).pending = s.pending := by
  unfold cinchRecompute
  (try dsimp only)
  repeat' (first | (with_reducible rfl) | split)
  all_goals (try simp_all -implicitDefEqProofs)
  all_goals (repeat' (first | (with_reducible rfl) | split))
  all_goals (try simp_all -implicitDefEqProofs)
@[simp] theorem cinchRecompute_lck (s : State) : (cinchRecompute s).lck = s.lck := by
  unfold cinchRecompute
  (try dsimp only)
  repeat' (first | (with_reducible rfl) | split)
  all_goals (try simp_all -implicitDefEqProofs)
  all_goals (repeat' (first | (with_reducible rfl) | split))
  all_goals (try simp_all -implicitDefEqProofs)
@[simp] theorem cinchRecompute_ready (s : State) : (cinchRecompute s).boot.ready = s.boot.ready := by
  unfold cinchRecompute
  (try dsimp only)
  repeat' (first | (with_reducible rfl) | split)
  all_goals (try simp_all -implicitDefEqProofs)
  all_goals (repeat' (first | (with_reducible rfl) | split))
  all_goals (try simp_all -implicitDefEqProofs)
@[simp] theorem cinchRecompute_phase (s : State) : (cinchRecompute s).cin.phase = s.cin.phase := by
  unfold cinchRecompute
  (try dsimp only)
  repeat' (first | (with_reducible rfl) | split)
  all_goals (try simp_all -implicitDefEqProofs)
  all_goals (repeat' (first | (with_reducible rfl) | split))
  all_goals (try simp_all -implicitDefEqProofs)
@[simp] theorem cinchRecompute_mem (s : State) : (cinchRecompute s).dram.mem = s.dram.mem := by
  unfold cinchRecompute
  (try dsimp only)
  repeat' (first | (with_reducible rfl) | split)
  all_goals (try simp_all -implicitDefEqProofs)
  all_goals (repeat' (first | (with_reducible rfl) | split))
  all_goals (try simp_all -implicitDefEqProofs)
@[simp] theorem cinchRecompute_banks (s : State) : (cinchRecompute s).fls.banks = s.fls.banks := by
  unfold cinchRecompute
  (try dsimp only)
  repeat' (first | (with_reducible rfl) | split)
  all_goals (try simp_all -implicitDefEqProofs)
  all_goals (repeat' (first | (with_reducible rfl) | split))
  all_goals (try simp_all -implicitDefEqProofs)
@[simp] theorem takeAdmission_pending (s : State) : (takeAdmission s).2.pending = s.pending := by
  unfold takeAdmission
  (try dsimp only)
  repeat' (first | (with_reducible rfl) | split)
  all_goals (try simp_all -implicitDefEqProofs)
  all_goals (repeat' (first | (with_reducible rfl) | split))
  all_goals (try simp_all -implicitDefEqProofs)
@[simp] theorem takeAdmission_lck (s : State) : (takeAdmission s).2.lck = s.lck := by
  unfold takeAdmission
  (try dsimp only)
  repeat' (first | (with_reducible rfl) | split)
  all_goals (try simp_all -implicitDefEqProofs)
  all_goals (repeat' (first | (with_reducible rfl) | split))
  all_goals (try simp_all -implicitDefEqProofs)
@[simp] theorem takeAdmission_ready (s : State) : (takeAdmission s).2.boot.ready = s.boot.ready := by
  unfold takeAdmission
  (try dsimp only)
  repeat' (first | (with_reducible rfl) | split)
  all_goals (try simp_all -implicitDefEqProofs)
  all_goals (repeat' (first | (with_reducible rfl) | split))
  all_goals (try simp_all -implicitDefEqProofs)
@[simp] theorem takeAdmission_phase (s : State) : (takeAdmission s).2.cin.phase = s.cin.phase := by
  unfold takeAdmission
  (try dsimp only)
  repeat' (first | (with_reducible rfl) | split)
  all_goals (try simp_all -implicitDefEqProofs)
  all_goals (repeat' (first | (with_reducible rfl) | split))
  all_goals (try simp_all -implicitDefEqProofs)
@[simp] theorem takeAdmission_mem (s : State) : (takeAdmission s).2.dram.mem = s.dram.mem := by
  unfold takeAdmission
  (try dsimp only)
  repeat' (first | (with_reducible rfl) | split)
  all_goals (try simp_all -implicitDefEqProofs)
  all_goals (repeat' (first | (with_reducible rfl) | split))
  all_goals (try simp_all -implicitDefEqProofs)
@[simp] theorem takeAdmission_banks (s : State) : (takeAdmission s).2.fls.banks = s.fls.banks := by
  unfold takeAdmission
  (try dsimp only)
  repeat' (first | (with_reducible rfl) | split)
  all_goals (try simp_all -implicitDefEqProofs)
  all_goals (repeat' (first | (with_reducible rfl) | split))
  all_goals (try simp_all -implicitDefEqProofs)
@[simp] theorem markDirtyAt_pending (s : State) (dl lo : Nat) (old : Bool) : (markDirtyAt s dl lo old).pending = s.pending := by
  unfold markDirtyAt
  (try dsimp only)
  repeat' (first | (with_reducible rfl) | split)
  all_goals (try simp_all -implicitDefEqProofs)
  all_goals (repeat' (first | (with_reducible rfl) | split))
  all_goals (try simp_all -implicitDefEqProofs)
@[simp] theorem markDirtyAt_lck (s : State) (dl lo : Nat) (old : Bool) : (markDirtyAt s dl lo old).lck = s.lck := by
  unfold markDirtyAt
  (try dsimp only)
  repeat' (first | (with_reducible rfl) | split)
  all_goals (try simp_all -implicitDefEqProofs)
  all_goals (repeat' (first | (with_reducible rfl) | split))
  all_goals (try simp_all -implicitDefEqProofs)
@[simp] theorem markDirtyAt_ready (s : State) (dl lo : Nat) (old : Bool) : (markDirtyAt s dl lo old).boot.ready = s.boot.ready := by
  unfold markDirtyAt
  (try dsimp only)
  repeat' (first | (with_reducible rfl) | split)
  all_goals (try simp_all -implicitDefEqProofs)
  all_goals (repeat' (first | (with_reducible rfl) | split))
  all_goals (try simp_all -implicitDefEqProofs)
@[simp] theorem markDirtyAt_phase (s : State) (dl lo : Nat) (old : Bool) : (markDirtyAt s dl lo old).cin.phase = s.cin.phase := by
  unfold markDirtyAt
  (try dsimp only)
  repeat' (first | (with_reducible rfl) | split)
  all_goals (try simp_all -implicitDefEqProofs)
  all_goals (repeat' (first | (with_reducible rfl) | split))
  all_goals (try simp_all -implicitDefEqProofs)
@[simp] theorem markDirtyAt_mem (s : State) (dl lo : Nat) (old : Bool) : (markDirtyAt s dl lo old).dram.mem = s.dram.mem := by
  unfold markDirtyAt
  (try dsimp only)
  repeat' (first | (with_reducible rfl) | split)
  all_goals (try simp_all -implicitDefEqProofs)
  all_goals (repeat' (first | (with_reducible rfl) | split))
  all_goals (try simp_all -implicitDefEqProofs)
@[simp] theorem markDirtyAt_banks (s : State) (dl lo : Nat) (old : Bool) : (markDirtyAt s dl lo old).fls.banks = s.fls.banks := by
  unfold markDirtyAt
  (try dsimp only)
  repeat' (first | (with_reducible rfl) | split)
  all_goals (try simp_all -implicitDefEqProofs)
  all_goals (repeat' (first | (with_reducible rfl) | split))
  all_goals (try simp_all -implicitDefEqProofs)
@[simp] theorem markDirty_pending (s : State) (dl lo : Nat) : (markDirty s dl lo).pending = s.pending := by
  unfold markDirty
  (try dsimp only)
  repeat' (first | (with_reducible rfl) | split)
  all_goals (try simp_all -implicitDefEqProofs)
  all_goals (repeat' (first | (with_reducible rfl) | split))
  all_goals (try simp_all -implicitDefEqProofs)
@[simp] theorem markDirty_lck (s : State) (dl lo : Nat) : (markDirty s dl lo).lck = s.lck := by
  unfold markDirty
  (try dsimp only)
  repeat' (first | (with_reducible rfl) | split)
  all_goals (try simp_all -implicitDefEqProofs)
  all_goals (repeat' (first | (with_reducible rfl) | split))
  all_goals (try simp_all -implicitDefEqProofs)
@[simp] theorem markDirty_ready (s : State) (dl lo : Nat) : (markDirty s dl lo).boot.ready = s.boot.ready := by
  unfold markDirty
  (try dsimp only)
  repeat' (first | (with_reducible rfl) | split)
  all_goals (try simp_all -implicitDefEqProofs)
  all_goals (repeat' (first | (with_reducible rfl) | split))
  all_goals (try simp_all -implicitDefEqProofs)
@[simp] theorem markDirty_phase (s : State) (dl lo : Nat) : (markDirty s dl lo).cin.phase = s.cin.phase := by
  unfold markDirty
  (try dsimp only)
  repeat' (first | (with_reducible rfl) | split)
  all_goals (try simp_all -implicitDefEqProofs)
  all_goals (repeat' (first | (with_reducible rfl) | split))
  all_goals (try simp_all -implicitDefEqProofs)
@[simp] theorem markDirty_mem (s : State) (dl lo : Nat) : (markDirty s dl lo).dram.mem = s.dram.mem := by
  unfold markDirty
  (try dsimp only)
  repeat' (first | (with_reducible rfl) | split)
  all_goals (try simp_all -implicitDefEqProofs)
  all_goals (repeat' (first | (with_reducible rfl) | split))
  all_goals (try simp_all -implicitDefEqProofs)
@[simp] theorem markDirty_banks (s : State) (dl lo : Nat) : (markDirty s dl lo).fls.banks = s.fls.banks := by
  unfold markDirty
  (try dsimp only)
  repeat' (first | (with_reducible rfl) | split)
  all_goals (try simp_all -implicitDefEqProofs)
  all_goals (repeat' (first | (with_reducible rfl) | split))
  all_goals (try simp_all -implicitDefEqProofs)
@[simp] theorem markClean_pending (s : State) (gs : List Nat) : (markClean s gs).pending = s.pending := by
  unfold markClean
  (try dsimp only)
  repeat' (first | (with_reducible rfl) | split)
  all_goals (try simp_all -implicitDefEqProofs)
  all_goals (repeat' (first | (with_reducible rfl) | split))
  all_goals (try simp_all -implicitDefEqProofs)
@[simp] theorem markClean_lck (s : State) (gs : List Nat) : (markClean s gs).lck = s.lck := by
  unfold markClean
  (try dsimp only)
  repeat' (first | (with_reducible rfl) | split)
  all_goals (try simp_all -implicitDefEqProofs)
  all_goals (repeat' (first | (with_reducible rfl) | split))
  all_goals (try simp_all -implicitDefEqProofs)
@[simp] theorem markClean_ready (s : State) (gs : List Nat) : (markClean s gs).boot.ready = s.boot.ready := by
  unfold markClean
  (try dsimp only)
  repeat' (first | (with_reducible rfl) | split)
  all_goals (try simp_all -implicitDefEqProofs)
  all_goals (repeat' (first | (with_reducible rfl) | split))
  all_goals (try simp_all -implicitDefEqProofs)
@[simp] theorem markClean_phase (s : State) (gs : List Nat) : (markClean s gs).cin.phase = s.cin.phase := by
  unfold markClean
  (try dsimp only)
  repeat' (first | (with_reducible rfl) | split)
  all_goals (try simp_all -implicitDefEqProofs)
  all_goals (repeat' (first | (with_reducible rfl) | split))
  all_goals (try simp_all -implicitDefEqProofs)
@[simp] theorem markClean_mem (s : State) (gs : List Nat) : (markClean s gs).dram.mem = s.dram.mem := by
  unfold markClean
  (try dsimp only)
  repeat' (first | (with_reducible rfl) | split)
  all_goals (try simp_all -implicitDefEqProofs)
  all_goals (repeat' (first | (with_reducible rfl) | split))
  all_goals (try simp_all -implicitDefEqProofs)
@[simp] theorem markClean_banks (s : State) (gs : List Nat) : (markClean s gs).fls.banks = s.fls.banks := by
  unfold markClean
  (try dsimp only)
  repeat' (first | (with_reducible rfl) | split)
  all_goals (try simp_all -implicitDefEqProofs)
  all_goals (repeat' (first | (with_reducible rfl) | split))
  all_goals (try simp_all -implicitDefEqProofs)

end Sys2Proof.Laws
end

