-- ==== Sys2Proof/Laws/KeepDriveOps.lean ====
section
/-!
SUPPORT. What the operations of DriveOps leave alone: one lemma for each operation and each part of the state that it never changes.
-/
namespace Sys2Proof.Laws
open Sys2Proof.Machine
set_option linter.unusedTactic false
set_option linter.unreachableTactic false
set_option linter.unusedVariables false
set_option linter.unusedSimpArgs false

@[simp] theorem driveSet_pending (s : State) (n : Nat) (d : Drive) : (driveSet s n d).pending = s.pending := by
  unfold driveSet
  (try dsimp only)
  repeat' (first | (with_reducible rfl) | split)
  all_goals (try simp_all -implicitDefEqProofs)
  all_goals (repeat' (first | (with_reducible rfl) | split))
  all_goals (try simp_all -implicitDefEqProofs)
@[simp] theorem driveSet_lck (s : State) (n : Nat) (d : Drive) : (driveSet s n d).lck = s.lck := by
  unfold driveSet
  (try dsimp only)
  repeat' (first | (with_reducible rfl) | split)
  all_goals (try simp_all -implicitDefEqProofs)
  all_goals (repeat' (first | (with_reducible rfl) | split))
  all_goals (try simp_all -implicitDefEqProofs)
@[simp] theorem driveSet_ready (s : State) (n : Nat) (d : Drive) : (driveSet s n d).boot.ready = s.boot.ready := by
  unfold driveSet
  (try dsimp only)
  repeat' (first | (with_reducible rfl) | split)
  all_goals (try simp_all -implicitDefEqProofs)
  all_goals (repeat' (first | (with_reducible rfl) | split))
  all_goals (try simp_all -implicitDefEqProofs)
@[simp] theorem driveSet_phase (s : State) (n : Nat) (d : Drive) : (driveSet s n d).cin.phase = s.cin.phase := by
  unfold driveSet
  (try dsimp only)
  repeat' (first | (with_reducible rfl) | split)
  all_goals (try simp_all -implicitDefEqProofs)
  all_goals (repeat' (first | (with_reducible rfl) | split))
  all_goals (try simp_all -implicitDefEqProofs)
@[simp] theorem driveSet_mem (s : State) (n : Nat) (d : Drive) : (driveSet s n d).dram.mem = s.dram.mem := by
  unfold driveSet
  (try dsimp only)
  repeat' (first | (with_reducible rfl) | split)
  all_goals (try simp_all -implicitDefEqProofs)
  all_goals (repeat' (first | (with_reducible rfl) | split))
  all_goals (try simp_all -implicitDefEqProofs)
@[simp] theorem driveSet_banks (s : State) (n : Nat) (d : Drive) : (driveSet s n d).fls.banks = s.fls.banks := by
  unfold driveSet
  (try dsimp only)
  repeat' (first | (with_reducible rfl) | split)
  all_goals (try simp_all -implicitDefEqProofs)
  all_goals (repeat' (first | (with_reducible rfl) | split))
  all_goals (try simp_all -implicitDefEqProofs)
@[simp] theorem setSet_pending (s : State) (n : Nat) (v : StripeSet) : (setSet s n v).pending = s.pending := by
  unfold setSet
  (try dsimp only)
  repeat' (first | (with_reducible rfl) | split)
  all_goals (try simp_all -implicitDefEqProofs)
  all_goals (repeat' (first | (with_reducible rfl) | split))
  all_goals (try simp_all -implicitDefEqProofs)
@[simp] theorem setSet_lck (s : State) (n : Nat) (v : StripeSet) : (setSet s n v).lck = s.lck := by
  unfold setSet
  (try dsimp only)
  repeat' (first | (with_reducible rfl) | split)
  all_goals (try simp_all -implicitDefEqProofs)
  all_goals (repeat' (first | (with_reducible rfl) | split))
  all_goals (try simp_all -implicitDefEqProofs)
@[simp] theorem setSet_ready (s : State) (n : Nat) (v : StripeSet) : (setSet s n v).boot.ready = s.boot.ready := by
  unfold setSet
  (try dsimp only)
  repeat' (first | (with_reducible rfl) | split)
  all_goals (try simp_all -implicitDefEqProofs)
  all_goals (repeat' (first | (with_reducible rfl) | split))
  all_goals (try simp_all -implicitDefEqProofs)
@[simp] theorem setSet_phase (s : State) (n : Nat) (v : StripeSet) : (setSet s n v).cin.phase = s.cin.phase := by
  unfold setSet
  (try dsimp only)
  repeat' (first | (with_reducible rfl) | split)
  all_goals (try simp_all -implicitDefEqProofs)
  all_goals (repeat' (first | (with_reducible rfl) | split))
  all_goals (try simp_all -implicitDefEqProofs)
@[simp] theorem setSet_mem (s : State) (n : Nat) (v : StripeSet) : (setSet s n v).dram.mem = s.dram.mem := by
  unfold setSet
  (try dsimp only)
  repeat' (first | (with_reducible rfl) | split)
  all_goals (try simp_all -implicitDefEqProofs)
  all_goals (repeat' (first | (with_reducible rfl) | split))
  all_goals (try simp_all -implicitDefEqProofs)
@[simp] theorem setSet_banks (s : State) (n : Nat) (v : StripeSet) : (setSet s n v).fls.banks = s.fls.banks := by
  unfold setSet
  (try dsimp only)
  repeat' (first | (with_reducible rfl) | split)
  all_goals (try simp_all -implicitDefEqProofs)
  all_goals (repeat' (first | (with_reducible rfl) | split))
  all_goals (try simp_all -implicitDefEqProofs)
@[simp] theorem issueCmd_pending (s : State) (slot : Nat) (use : DriveFor) : (issueCmd s slot use).pending = s.pending := by
  unfold issueCmd
  (try dsimp only)
  repeat' (first | (with_reducible rfl) | split)
  all_goals (try simp_all -implicitDefEqProofs)
  all_goals (repeat' (first | (with_reducible rfl) | split))
  all_goals (try simp_all -implicitDefEqProofs)
@[simp] theorem issueCmd_lck (s : State) (slot : Nat) (use : DriveFor) : (issueCmd s slot use).lck = s.lck := by
  unfold issueCmd
  (try dsimp only)
  repeat' (first | (with_reducible rfl) | split)
  all_goals (try simp_all -implicitDefEqProofs)
  all_goals (repeat' (first | (with_reducible rfl) | split))
  all_goals (try simp_all -implicitDefEqProofs)
@[simp] theorem issueCmd_ready (s : State) (slot : Nat) (use : DriveFor) : (issueCmd s slot use).boot.ready = s.boot.ready := by
  unfold issueCmd
  (try dsimp only)
  repeat' (first | (with_reducible rfl) | split)
  all_goals (try simp_all -implicitDefEqProofs)
  all_goals (repeat' (first | (with_reducible rfl) | split))
  all_goals (try simp_all -implicitDefEqProofs)
@[simp] theorem issueCmd_phase (s : State) (slot : Nat) (use : DriveFor) : (issueCmd s slot use).cin.phase = s.cin.phase := by
  unfold issueCmd
  (try dsimp only)
  repeat' (first | (with_reducible rfl) | split)
  all_goals (try simp_all -implicitDefEqProofs)
  all_goals (repeat' (first | (with_reducible rfl) | split))
  all_goals (try simp_all -implicitDefEqProofs)
@[simp] theorem issueCmd_mem (s : State) (slot : Nat) (use : DriveFor) : (issueCmd s slot use).dram.mem = s.dram.mem := by
  unfold issueCmd
  (try dsimp only)
  repeat' (first | (with_reducible rfl) | split)
  all_goals (try simp_all -implicitDefEqProofs)
  all_goals (repeat' (first | (with_reducible rfl) | split))
  all_goals (try simp_all -implicitDefEqProofs)
@[simp] theorem issueCmd_banks (s : State) (slot : Nat) (use : DriveFor) : (issueCmd s slot use).fls.banks = s.fls.banks := by
  unfold issueCmd
  (try dsimp only)
  repeat' (first | (with_reducible rfl) | split)
  all_goals (try simp_all -implicitDefEqProofs)
  all_goals (repeat' (first | (with_reducible rfl) | split))
  all_goals (try simp_all -implicitDefEqProofs)
@[simp] theorem issueNext_pending (s : State) (slot : Nat) : (issueNext s slot).pending = s.pending := by
  unfold issueNext
  (try dsimp only)
  repeat' (first | (with_reducible rfl) | split)
  all_goals (try simp_all -implicitDefEqProofs)
  all_goals (repeat' (first | (with_reducible rfl) | split))
  all_goals (try simp_all -implicitDefEqProofs)
@[simp] theorem issueNext_lck (s : State) (slot : Nat) : (issueNext s slot).lck = s.lck := by
  unfold issueNext
  (try dsimp only)
  repeat' (first | (with_reducible rfl) | split)
  all_goals (try simp_all -implicitDefEqProofs)
  all_goals (repeat' (first | (with_reducible rfl) | split))
  all_goals (try simp_all -implicitDefEqProofs)
@[simp] theorem issueNext_ready (s : State) (slot : Nat) : (issueNext s slot).boot.ready = s.boot.ready := by
  unfold issueNext
  (try dsimp only)
  repeat' (first | (with_reducible rfl) | split)
  all_goals (try simp_all -implicitDefEqProofs)
  all_goals (repeat' (first | (with_reducible rfl) | split))
  all_goals (try simp_all -implicitDefEqProofs)
@[simp] theorem issueNext_phase (s : State) (slot : Nat) : (issueNext s slot).cin.phase = s.cin.phase := by
  unfold issueNext
  (try dsimp only)
  repeat' (first | (with_reducible rfl) | split)
  all_goals (try simp_all -implicitDefEqProofs)
  all_goals (repeat' (first | (with_reducible rfl) | split))
  all_goals (try simp_all -implicitDefEqProofs)
@[simp] theorem issueNext_mem (s : State) (slot : Nat) : (issueNext s slot).dram.mem = s.dram.mem := by
  unfold issueNext
  (try dsimp only)
  repeat' (first | (with_reducible rfl) | split)
  all_goals (try simp_all -implicitDefEqProofs)
  all_goals (repeat' (first | (with_reducible rfl) | split))
  all_goals (try simp_all -implicitDefEqProofs)
@[simp] theorem issueNext_banks (s : State) (slot : Nat) : (issueNext s slot).fls.banks = s.fls.banks := by
  unfold issueNext
  (try dsimp only)
  repeat' (first | (with_reducible rfl) | split)
  all_goals (try simp_all -implicitDefEqProofs)
  all_goals (repeat' (first | (with_reducible rfl) | split))
  all_goals (try simp_all -implicitDefEqProofs)
@[simp] theorem reconstruct_pending (s : State) (n stripe unit : Nat) : (reconstruct s n stripe unit).pending = s.pending := by
  unfold reconstruct
  repeat' (first
    | (with_reducible rfl)
    | (extract_lets +onlyGivenNames u; have hu : u.pending = s.pending := (by
         (try simp only [u])
         repeat' (first | (with_reducible rfl) | split)
         all_goals (try simp_all -implicitDefEqProofs)
         all_goals (repeat' (first | (with_reducible rfl) | split))
         all_goals (try simp_all -implicitDefEqProofs)); clear_value u)
    | (extract_lets +onlyGivenNames u; clear_value u)
    | (split <;> (rename_i heq; have hh := snd_pending heq; clear heq))
    | split
    | (refine (foldl_pending _ _ _ ?_).trans ?_)
    | intro _)
  all_goals (try simp_all -implicitDefEqProofs)
  all_goals (repeat' (first | (with_reducible rfl) | split))
  all_goals (try simp_all -implicitDefEqProofs)
@[simp] theorem reconstruct_lck (s : State) (n stripe unit : Nat) : (reconstruct s n stripe unit).lck = s.lck := by
  unfold reconstruct
  repeat' (first
    | (with_reducible rfl)
    | (extract_lets +onlyGivenNames u; have hu : u.lck = s.lck := (by
         (try simp only [u])
         repeat' (first | (with_reducible rfl) | split)
         all_goals (try simp_all -implicitDefEqProofs)
         all_goals (repeat' (first | (with_reducible rfl) | split))
         all_goals (try simp_all -implicitDefEqProofs)); clear_value u)
    | (extract_lets +onlyGivenNames u; clear_value u)
    | (split <;> (rename_i heq; have hh := snd_lck heq; clear heq))
    | split
    | (refine (foldl_lck _ _ _ ?_).trans ?_)
    | intro _)
  all_goals (try simp_all -implicitDefEqProofs)
  all_goals (repeat' (first | (with_reducible rfl) | split))
  all_goals (try simp_all -implicitDefEqProofs)
@[simp] theorem reconstruct_ready (s : State) (n stripe unit : Nat) : (reconstruct s n stripe unit).boot.ready = s.boot.ready := by
  unfold reconstruct
  repeat' (first
    | (with_reducible rfl)
    | (extract_lets +onlyGivenNames u; have hu : u.boot.ready = s.boot.ready := (by
         (try simp only [u])
         repeat' (first | (with_reducible rfl) | split)
         all_goals (try simp_all -implicitDefEqProofs)
         all_goals (repeat' (first | (with_reducible rfl) | split))
         all_goals (try simp_all -implicitDefEqProofs)); clear_value u)
    | (extract_lets +onlyGivenNames u; clear_value u)
    | (split <;> (rename_i heq; have hh := snd_ready heq; clear heq))
    | split
    | (refine (foldl_ready _ _ _ ?_).trans ?_)
    | intro _)
  all_goals (try simp_all -implicitDefEqProofs)
  all_goals (repeat' (first | (with_reducible rfl) | split))
  all_goals (try simp_all -implicitDefEqProofs)
@[simp] theorem reconstruct_phase (s : State) (n stripe unit : Nat) : (reconstruct s n stripe unit).cin.phase = s.cin.phase := by
  unfold reconstruct
  repeat' (first
    | (with_reducible rfl)
    | (extract_lets +onlyGivenNames u; have hu : u.cin.phase = s.cin.phase := (by
         (try simp only [u])
         repeat' (first | (with_reducible rfl) | split)
         all_goals (try simp_all -implicitDefEqProofs)
         all_goals (repeat' (first | (with_reducible rfl) | split))
         all_goals (try simp_all -implicitDefEqProofs)); clear_value u)
    | (extract_lets +onlyGivenNames u; clear_value u)
    | (split <;> (rename_i heq; have hh := snd_phase heq; clear heq))
    | split
    | (refine (foldl_phase _ _ _ ?_).trans ?_)
    | intro _)
  all_goals (try simp_all -implicitDefEqProofs)
  all_goals (repeat' (first | (with_reducible rfl) | split))
  all_goals (try simp_all -implicitDefEqProofs)
@[simp] theorem reconstruct_mem (s : State) (n stripe unit : Nat) : (reconstruct s n stripe unit).dram.mem = s.dram.mem := by
  unfold reconstruct
  repeat' (first
    | (with_reducible rfl)
    | (extract_lets +onlyGivenNames u; have hu : u.dram.mem = s.dram.mem := (by
         (try simp only [u])
         repeat' (first | (with_reducible rfl) | split)
         all_goals (try simp_all -implicitDefEqProofs)
         all_goals (repeat' (first | (with_reducible rfl) | split))
         all_goals (try simp_all -implicitDefEqProofs)); clear_value u)
    | (extract_lets +onlyGivenNames u; clear_value u)
    | (split <;> (rename_i heq; have hh := snd_mem heq; clear heq))
    | split
    | (refine (foldl_mem _ _ _ ?_).trans ?_)
    | intro _)
  all_goals (try simp_all -implicitDefEqProofs)
  all_goals (repeat' (first | (with_reducible rfl) | split))
  all_goals (try simp_all -implicitDefEqProofs)
@[simp] theorem reconstruct_banks (s : State) (n stripe unit : Nat) : (reconstruct s n stripe unit).fls.banks = s.fls.banks := by
  unfold reconstruct
  repeat' (first
    | (with_reducible rfl)
    | (extract_lets +onlyGivenNames u; have hu : u.fls.banks = s.fls.banks := (by
         (try simp only [u])
         repeat' (first | (with_reducible rfl) | split)
         all_goals (try simp_all -implicitDefEqProofs)
         all_goals (repeat' (first | (with_reducible rfl) | split))
         all_goals (try simp_all -implicitDefEqProofs)); clear_value u)
    | (extract_lets +onlyGivenNames u; clear_value u)
    | (split <;> (rename_i heq; have hh := snd_banks heq; clear heq))
    | split
    | (refine (foldl_banks _ _ _ ?_).trans ?_)
    | intro _)
  all_goals (try simp_all -implicitDefEqProofs)
  all_goals (repeat' (first | (with_reducible rfl) | split))
  all_goals (try simp_all -implicitDefEqProofs)
@[simp] theorem readUnit_pending (s : State) (n stripe unit : Nat) : (readUnit s n stripe unit).pending = s.pending := by
  unfold readUnit
  (try dsimp only)
  repeat' (first | (with_reducible rfl) | split)
  all_goals (try simp_all -implicitDefEqProofs)
  all_goals (repeat' (first | (with_reducible rfl) | split))
  all_goals (try simp_all -implicitDefEqProofs)
@[simp] theorem readUnit_lck (s : State) (n stripe unit : Nat) : (readUnit s n stripe unit).lck = s.lck := by
  unfold readUnit
  (try dsimp only)
  repeat' (first | (with_reducible rfl) | split)
  all_goals (try simp_all -implicitDefEqProofs)
  all_goals (repeat' (first | (with_reducible rfl) | split))
  all_goals (try simp_all -implicitDefEqProofs)
@[simp] theorem readUnit_ready (s : State) (n stripe unit : Nat) : (readUnit s n stripe unit).boot.ready = s.boot.ready := by
  unfold readUnit
  (try dsimp only)
  repeat' (first | (with_reducible rfl) | split)
  all_goals (try simp_all -implicitDefEqProofs)
  all_goals (repeat' (first | (with_reducible rfl) | split))
  all_goals (try simp_all -implicitDefEqProofs)
@[simp] theorem readUnit_phase (s : State) (n stripe unit : Nat) : (readUnit s n stripe unit).cin.phase = s.cin.phase := by
  unfold readUnit
  (try dsimp only)
  repeat' (first | (with_reducible rfl) | split)
  all_goals (try simp_all -implicitDefEqProofs)
  all_goals (repeat' (first | (with_reducible rfl) | split))
  all_goals (try simp_all -implicitDefEqProofs)
@[simp] theorem readUnit_mem (s : State) (n stripe unit : Nat) : (readUnit s n stripe unit).dram.mem = s.dram.mem := by
  unfold readUnit
  (try dsimp only)
  repeat' (first | (with_reducible rfl) | split)
  all_goals (try simp_all -implicitDefEqProofs)
  all_goals (repeat' (first | (with_reducible rfl) | split))
  all_goals (try simp_all -implicitDefEqProofs)
@[simp] theorem readUnit_banks (s : State) (n stripe unit : Nat) : (readUnit s n stripe unit).fls.banks = s.fls.banks := by
  unfold readUnit
  (try dsimp only)
  repeat' (first | (with_reducible rfl) | split)
  all_goals (try simp_all -implicitDefEqProofs)
  all_goals (repeat' (first | (with_reducible rfl) | split))
  all_goals (try simp_all -implicitDefEqProofs)

end Sys2Proof.Laws
end

