-- ==== Sys2Proof/Laws/KeepLatOps.lean ====
section
/-!
SUPPORT. What the operations of LatOps leave alone: one lemma for each operation and each part of the state that it never changes.
-/
namespace Sys2Proof.Laws
open Sys2Proof.Machine
set_option linter.unusedTactic false
set_option linter.unreachableTactic false
set_option linter.unusedVariables false
set_option linter.unusedSimpArgs false

@[simp] theorem latSet_pending (s : State) (l : Latigo) : (latSet s l).pending = s.pending := by
  unfold latSet
  (try dsimp only)
  repeat' (first | (with_reducible rfl) | split)
  all_goals (try simp_all -implicitDefEqProofs)
  all_goals (repeat' (first | (with_reducible rfl) | split))
  all_goals (try simp_all -implicitDefEqProofs)
@[simp] theorem latSet_lck (s : State) (l : Latigo) : (latSet s l).lck = s.lck := by
  unfold latSet
  (try dsimp only)
  repeat' (first | (with_reducible rfl) | split)
  all_goals (try simp_all -implicitDefEqProofs)
  all_goals (repeat' (first | (with_reducible rfl) | split))
  all_goals (try simp_all -implicitDefEqProofs)
@[simp] theorem latSet_ready (s : State) (l : Latigo) : (latSet s l).boot.ready = s.boot.ready := by
  unfold latSet
  (try dsimp only)
  repeat' (first | (with_reducible rfl) | split)
  all_goals (try simp_all -implicitDefEqProofs)
  all_goals (repeat' (first | (with_reducible rfl) | split))
  all_goals (try simp_all -implicitDefEqProofs)
@[simp] theorem latSet_phase (s : State) (l : Latigo) : (latSet s l).cin.phase = s.cin.phase := by
  unfold latSet
  (try dsimp only)
  repeat' (first | (with_reducible rfl) | split)
  all_goals (try simp_all -implicitDefEqProofs)
  all_goals (repeat' (first | (with_reducible rfl) | split))
  all_goals (try simp_all -implicitDefEqProofs)
@[simp] theorem latSet_mem (s : State) (l : Latigo) : (latSet s l).dram.mem = s.dram.mem := by
  unfold latSet
  (try dsimp only)
  repeat' (first | (with_reducible rfl) | split)
  all_goals (try simp_all -implicitDefEqProofs)
  all_goals (repeat' (first | (with_reducible rfl) | split))
  all_goals (try simp_all -implicitDefEqProofs)
@[simp] theorem latSet_banks (s : State) (l : Latigo) : (latSet s l).fls.banks = s.fls.banks := by
  unfold latSet
  (try dsimp only)
  repeat' (first | (with_reducible rfl) | split)
  all_goals (try simp_all -implicitDefEqProofs)
  all_goals (repeat' (first | (with_reducible rfl) | split))
  all_goals (try simp_all -implicitDefEqProofs)
@[simp] theorem connPut_pending (s : State) (id : Nat) (c : Conn) : (connPut s id c).pending = s.pending := by
  unfold connPut
  (try dsimp only)
  repeat' (first | (with_reducible rfl) | split)
  all_goals (try simp_all -implicitDefEqProofs)
  all_goals (repeat' (first | (with_reducible rfl) | split))
  all_goals (try simp_all -implicitDefEqProofs)
@[simp] theorem connPut_lck (s : State) (id : Nat) (c : Conn) : (connPut s id c).lck = s.lck := by
  unfold connPut
  (try dsimp only)
  repeat' (first | (with_reducible rfl) | split)
  all_goals (try simp_all -implicitDefEqProofs)
  all_goals (repeat' (first | (with_reducible rfl) | split))
  all_goals (try simp_all -implicitDefEqProofs)
@[simp] theorem connPut_ready (s : State) (id : Nat) (c : Conn) : (connPut s id c).boot.ready = s.boot.ready := by
  unfold connPut
  (try dsimp only)
  repeat' (first | (with_reducible rfl) | split)
  all_goals (try simp_all -implicitDefEqProofs)
  all_goals (repeat' (first | (with_reducible rfl) | split))
  all_goals (try simp_all -implicitDefEqProofs)
@[simp] theorem connPut_phase (s : State) (id : Nat) (c : Conn) : (connPut s id c).cin.phase = s.cin.phase := by
  unfold connPut
  (try dsimp only)
  repeat' (first | (with_reducible rfl) | split)
  all_goals (try simp_all -implicitDefEqProofs)
  all_goals (repeat' (first | (with_reducible rfl) | split))
  all_goals (try simp_all -implicitDefEqProofs)
@[simp] theorem connPut_mem (s : State) (id : Nat) (c : Conn) : (connPut s id c).dram.mem = s.dram.mem := by
  unfold connPut
  (try dsimp only)
  repeat' (first | (with_reducible rfl) | split)
  all_goals (try simp_all -implicitDefEqProofs)
  all_goals (repeat' (first | (with_reducible rfl) | split))
  all_goals (try simp_all -implicitDefEqProofs)
@[simp] theorem connPut_banks (s : State) (id : Nat) (c : Conn) : (connPut s id c).fls.banks = s.fls.banks := by
  unfold connPut
  (try dsimp only)
  repeat' (first | (with_reducible rfl) | split)
  all_goals (try simp_all -implicitDefEqProofs)
  all_goals (repeat' (first | (with_reducible rfl) | split))
  all_goals (try simp_all -implicitDefEqProofs)
@[simp] theorem regionPut_pending (s : State) (idx : Nat) (r : Region) : (regionPut s idx r).pending = s.pending := by
  unfold regionPut
  (try dsimp only)
  repeat' (first | (with_reducible rfl) | split)
  all_goals (try simp_all -implicitDefEqProofs)
  all_goals (repeat' (first | (with_reducible rfl) | split))
  all_goals (try simp_all -implicitDefEqProofs)
@[simp] theorem regionPut_lck (s : State) (idx : Nat) (r : Region) : (regionPut s idx r).lck = s.lck := by
  unfold regionPut
  (try dsimp only)
  repeat' (first | (with_reducible rfl) | split)
  all_goals (try simp_all -implicitDefEqProofs)
  all_goals (repeat' (first | (with_reducible rfl) | split))
  all_goals (try simp_all -implicitDefEqProofs)
@[simp] theorem regionPut_ready (s : State) (idx : Nat) (r : Region) : (regionPut s idx r).boot.ready = s.boot.ready := by
  unfold regionPut
  (try dsimp only)
  repeat' (first | (with_reducible rfl) | split)
  all_goals (try simp_all -implicitDefEqProofs)
  all_goals (repeat' (first | (with_reducible rfl) | split))
  all_goals (try simp_all -implicitDefEqProofs)
@[simp] theorem regionPut_phase (s : State) (idx : Nat) (r : Region) : (regionPut s idx r).cin.phase = s.cin.phase := by
  unfold regionPut
  (try dsimp only)
  repeat' (first | (with_reducible rfl) | split)
  all_goals (try simp_all -implicitDefEqProofs)
  all_goals (repeat' (first | (with_reducible rfl) | split))
  all_goals (try simp_all -implicitDefEqProofs)
@[simp] theorem regionPut_mem (s : State) (idx : Nat) (r : Region) : (regionPut s idx r).dram.mem = s.dram.mem := by
  unfold regionPut
  (try dsimp only)
  repeat' (first | (with_reducible rfl) | split)
  all_goals (try simp_all -implicitDefEqProofs)
  all_goals (repeat' (first | (with_reducible rfl) | split))
  all_goals (try simp_all -implicitDefEqProofs)
@[simp] theorem regionPut_banks (s : State) (idx : Nat) (r : Region) : (regionPut s idx r).fls.banks = s.fls.banks := by
  unfold regionPut
  (try dsimp only)
  repeat' (first | (with_reducible rfl) | split)
  all_goals (try simp_all -implicitDefEqProofs)
  all_goals (repeat' (first | (with_reducible rfl) | split))
  all_goals (try simp_all -implicitDefEqProofs)
@[simp] theorem latResult_pending (s : State) (slot tag : Nat) (st : Status) (out : Bytes) : (latResult s slot tag st out).pending = s.pending := by
  unfold latResult
  (try dsimp only)
  repeat' (first | (with_reducible rfl) | split)
  all_goals (try simp_all -implicitDefEqProofs)
  all_goals (repeat' (first | (with_reducible rfl) | split))
  all_goals (try simp_all -implicitDefEqProofs)
@[simp] theorem latResult_lck (s : State) (slot tag : Nat) (st : Status) (out : Bytes) : (latResult s slot tag st out).lck = s.lck := by
  unfold latResult
  (try dsimp only)
  repeat' (first | (with_reducible rfl) | split)
  all_goals (try simp_all -implicitDefEqProofs)
  all_goals (repeat' (first | (with_reducible rfl) | split))
  all_goals (try simp_all -implicitDefEqProofs)
@[simp] theorem latResult_ready (s : State) (slot tag : Nat) (st : Status) (out : Bytes) : (latResult s slot tag st out).boot.ready = s.boot.ready := by
  unfold latResult
  (try dsimp only)
  repeat' (first | (with_reducible rfl) | split)
  all_goals (try simp_all -implicitDefEqProofs)
  all_goals (repeat' (first | (with_reducible rfl) | split))
  all_goals (try simp_all -implicitDefEqProofs)
@[simp] theorem latResult_phase (s : State) (slot tag : Nat) (st : Status) (out : Bytes) : (latResult s slot tag st out).cin.phase = s.cin.phase := by
  unfold latResult
  (try dsimp only)
  repeat' (first | (with_reducible rfl) | split)
  all_goals (try simp_all -implicitDefEqProofs)
  all_goals (repeat' (first | (with_reducible rfl) | split))
  all_goals (try simp_all -implicitDefEqProofs)
@[simp] theorem latResult_mem (s : State) (slot tag : Nat) (st : Status) (out : Bytes) : (latResult s slot tag st out).dram.mem = s.dram.mem := by
  unfold latResult
  (try dsimp only)
  repeat' (first | (with_reducible rfl) | split)
  all_goals (try simp_all -implicitDefEqProofs)
  all_goals (repeat' (first | (with_reducible rfl) | split))
  all_goals (try simp_all -implicitDefEqProofs)
@[simp] theorem latResult_banks (s : State) (slot tag : Nat) (st : Status) (out : Bytes) : (latResult s slot tag st out).fls.banks = s.fls.banks := by
  unfold latResult
  (try dsimp only)
  repeat' (first | (with_reducible rfl) | split)
  all_goals (try simp_all -implicitDefEqProofs)
  all_goals (repeat' (first | (with_reducible rfl) | split))
  all_goals (try simp_all -implicitDefEqProofs)
@[simp] theorem aeth_pending (s : State) (id : Nat) (c : Conn) (psn : Nat) (p : Nat → RocePkt) : (aeth s id c psn p).pending = s.pending := by
  unfold aeth
  (try dsimp only)
  repeat' (first | (with_reducible rfl) | split)
  all_goals (try simp_all -implicitDefEqProofs)
  all_goals (repeat' (first | (with_reducible rfl) | split))
  all_goals (try simp_all -implicitDefEqProofs)
@[simp] theorem aeth_lck (s : State) (id : Nat) (c : Conn) (psn : Nat) (p : Nat → RocePkt) : (aeth s id c psn p).lck = s.lck := by
  unfold aeth
  (try dsimp only)
  repeat' (first | (with_reducible rfl) | split)
  all_goals (try simp_all -implicitDefEqProofs)
  all_goals (repeat' (first | (with_reducible rfl) | split))
  all_goals (try simp_all -implicitDefEqProofs)
@[simp] theorem aeth_ready (s : State) (id : Nat) (c : Conn) (psn : Nat) (p : Nat → RocePkt) : (aeth s id c psn p).boot.ready = s.boot.ready := by
  unfold aeth
  (try dsimp only)
  repeat' (first | (with_reducible rfl) | split)
  all_goals (try simp_all -implicitDefEqProofs)
  all_goals (repeat' (first | (with_reducible rfl) | split))
  all_goals (try simp_all -implicitDefEqProofs)
@[simp] theorem aeth_phase (s : State) (id : Nat) (c : Conn) (psn : Nat) (p : Nat → RocePkt) : (aeth s id c psn p).cin.phase = s.cin.phase := by
  unfold aeth
  (try dsimp only)
  repeat' (first | (with_reducible rfl) | split)
  all_goals (try simp_all -implicitDefEqProofs)
  all_goals (repeat' (first | (with_reducible rfl) | split))
  all_goals (try simp_all -implicitDefEqProofs)
@[simp] theorem aeth_mem (s : State) (id : Nat) (c : Conn) (psn : Nat) (p : Nat → RocePkt) : (aeth s id c psn p).dram.mem = s.dram.mem := by
  unfold aeth
  (try dsimp only)
  repeat' (first | (with_reducible rfl) | split)
  all_goals (try simp_all -implicitDefEqProofs)
  all_goals (repeat' (first | (with_reducible rfl) | split))
  all_goals (try simp_all -implicitDefEqProofs)
@[simp] theorem aeth_banks (s : State) (id : Nat) (c : Conn) (psn : Nat) (p : Nat → RocePkt) : (aeth s id c psn p).fls.banks = s.fls.banks := by
  unfold aeth
  (try dsimp only)
  repeat' (first | (with_reducible rfl) | split)
  all_goals (try simp_all -implicitDefEqProofs)
  all_goals (repeat' (first | (with_reducible rfl) | split))
  all_goals (try simp_all -implicitDefEqProofs)
@[simp] theorem regionLeave_pending (s : State) (idx : Nat) : (regionLeave s idx).pending = s.pending := by
  unfold regionLeave
  (try dsimp only)
  repeat' (first | (with_reducible rfl) | split)
  all_goals (try simp_all -implicitDefEqProofs)
  all_goals (repeat' (first | (with_reducible rfl) | split))
  all_goals (try simp_all -implicitDefEqProofs)
@[simp] theorem regionLeave_lck (s : State) (idx : Nat) : (regionLeave s idx).lck = s.lck := by
  unfold regionLeave
  (try dsimp only)
  repeat' (first | (with_reducible rfl) | split)
  all_goals (try simp_all -implicitDefEqProofs)
  all_goals (repeat' (first | (with_reducible rfl) | split))
  all_goals (try simp_all -implicitDefEqProofs)
@[simp] theorem regionLeave_ready (s : State) (idx : Nat) : (regionLeave s idx).boot.ready = s.boot.ready := by
  unfold regionLeave
  (try dsimp only)
  repeat' (first | (with_reducible rfl) | split)
  all_goals (try simp_all -implicitDefEqProofs)
  all_goals (repeat' (first | (with_reducible rfl) | split))
  all_goals (try simp_all -implicitDefEqProofs)
@[simp] theorem regionLeave_phase (s : State) (idx : Nat) : (regionLeave s idx).cin.phase = s.cin.phase := by
  unfold regionLeave
  (try dsimp only)
  repeat' (first | (with_reducible rfl) | split)
  all_goals (try simp_all -implicitDefEqProofs)
  all_goals (repeat' (first | (with_reducible rfl) | split))
  all_goals (try simp_all -implicitDefEqProofs)
@[simp] theorem regionLeave_mem (s : State) (idx : Nat) : (regionLeave s idx).dram.mem = s.dram.mem := by
  unfold regionLeave
  (try dsimp only)
  repeat' (first | (with_reducible rfl) | split)
  all_goals (try simp_all -implicitDefEqProofs)
  all_goals (repeat' (first | (with_reducible rfl) | split))
  all_goals (try simp_all -implicitDefEqProofs)
@[simp] theorem regionLeave_banks (s : State) (idx : Nat) : (regionLeave s idx).fls.banks = s.fls.banks := by
  unfold regionLeave
  (try dsimp only)
  repeat' (first | (with_reducible rfl) | split)
  all_goals (try simp_all -implicitDefEqProofs)
  all_goals (repeat' (first | (with_reducible rfl) | split))
  all_goals (try simp_all -implicitDefEqProofs)
@[simp] theorem connError_pending (s : State) (id : Nat) : (connError s id).pending = s.pending := by
  unfold connError
  (try dsimp only)
  repeat' (first | (with_reducible rfl) | split)
  all_goals (try simp_all -implicitDefEqProofs)
  all_goals (repeat' (first | (with_reducible rfl) | split))
  all_goals (try simp_all -implicitDefEqProofs)
@[simp] theorem connError_lck (s : State) (id : Nat) : (connError s id).lck = s.lck := by
  unfold connError
  (try dsimp only)
  repeat' (first | (with_reducible rfl) | split)
  all_goals (try simp_all -implicitDefEqProofs)
  all_goals (repeat' (first | (with_reducible rfl) | split))
  all_goals (try simp_all -implicitDefEqProofs)
@[simp] theorem connError_ready (s : State) (id : Nat) : (connError s id).boot.ready = s.boot.ready := by
  unfold connError
  (try dsimp only)
  repeat' (first | (with_reducible rfl) | split)
  all_goals (try simp_all -implicitDefEqProofs)
  all_goals (repeat' (first | (with_reducible rfl) | split))
  all_goals (try simp_all -implicitDefEqProofs)
@[simp] theorem connError_phase (s : State) (id : Nat) : (connError s id).cin.phase = s.cin.phase := by
  unfold connError
  (try dsimp only)
  repeat' (first | (with_reducible rfl) | split)
  all_goals (try simp_all -implicitDefEqProofs)
  all_goals (repeat' (first | (with_reducible rfl) | split))
  all_goals (try simp_all -implicitDefEqProofs)
@[simp] theorem connError_mem (s : State) (id : Nat) : (connError s id).dram.mem = s.dram.mem := by
  unfold connError
  (try dsimp only)
  repeat' (first | (with_reducible rfl) | split)
  all_goals (try simp_all -implicitDefEqProofs)
  all_goals (repeat' (first | (with_reducible rfl) | split))
  all_goals (try simp_all -implicitDefEqProofs)
@[simp] theorem connError_banks (s : State) (id : Nat) : (connError s id).fls.banks = s.fls.banks := by
  unfold connError
  (try dsimp only)
  repeat' (first | (with_reducible rfl) | split)
  all_goals (try simp_all -implicitDefEqProofs)
  all_goals (repeat' (first | (with_reducible rfl) | split))
  all_goals (try simp_all -implicitDefEqProofs)
@[simp] theorem wqeError_pending (s : State) (id idx : Nat) (st : Status) : (wqeError s id idx st).pending = s.pending := by
  unfold wqeError
  (try dsimp only)
  repeat' (first | (with_reducible rfl) | split)
  all_goals (try simp_all -implicitDefEqProofs)
  all_goals (repeat' (first | (with_reducible rfl) | split))
  all_goals (try simp_all -implicitDefEqProofs)
@[simp] theorem wqeError_lck (s : State) (id idx : Nat) (st : Status) : (wqeError s id idx st).lck = s.lck := by
  unfold wqeError
  (try dsimp only)
  repeat' (first | (with_reducible rfl) | split)
  all_goals (try simp_all -implicitDefEqProofs)
  all_goals (repeat' (first | (with_reducible rfl) | split))
  all_goals (try simp_all -implicitDefEqProofs)
@[simp] theorem wqeError_ready (s : State) (id idx : Nat) (st : Status) : (wqeError s id idx st).boot.ready = s.boot.ready := by
  unfold wqeError
  (try dsimp only)
  repeat' (first | (with_reducible rfl) | split)
  all_goals (try simp_all -implicitDefEqProofs)
  all_goals (repeat' (first | (with_reducible rfl) | split))
  all_goals (try simp_all -implicitDefEqProofs)
@[simp] theorem wqeError_phase (s : State) (id idx : Nat) (st : Status) : (wqeError s id idx st).cin.phase = s.cin.phase := by
  unfold wqeError
  (try dsimp only)
  repeat' (first | (with_reducible rfl) | split)
  all_goals (try simp_all -implicitDefEqProofs)
  all_goals (repeat' (first | (with_reducible rfl) | split))
  all_goals (try simp_all -implicitDefEqProofs)
@[simp] theorem wqeError_mem (s : State) (id idx : Nat) (st : Status) : (wqeError s id idx st).dram.mem = s.dram.mem := by
  unfold wqeError
  (try dsimp only)
  repeat' (first | (with_reducible rfl) | split)
  all_goals (try simp_all -implicitDefEqProofs)
  all_goals (repeat' (first | (with_reducible rfl) | split))
  all_goals (try simp_all -implicitDefEqProofs)
@[simp] theorem wqeError_banks (s : State) (id idx : Nat) (st : Status) : (wqeError s id idx st).fls.banks = s.fls.banks := by
  unfold wqeError
  (try dsimp only)
  repeat' (first | (with_reducible rfl) | split)
  all_goals (try simp_all -implicitDefEqProofs)
  all_goals (repeat' (first | (with_reducible rfl) | split))
  all_goals (try simp_all -implicitDefEqProofs)
@[simp] theorem msgEnd_pending (s : State) (id : Nat) (m : RxMsg) : (msgEnd s id m).pending = s.pending := by
  unfold msgEnd
  (try dsimp only)
  repeat' (first | (with_reducible rfl) | split)
  all_goals (try simp_all -implicitDefEqProofs)
  all_goals (repeat' (first | (with_reducible rfl) | split))
  all_goals (try simp_all -implicitDefEqProofs)
@[simp] theorem msgEnd_lck (s : State) (id : Nat) (m : RxMsg) : (msgEnd s id m).lck = s.lck := by
  unfold msgEnd
  (try dsimp only)
  repeat' (first | (with_reducible rfl) | split)
  all_goals (try simp_all -implicitDefEqProofs)
  all_goals (repeat' (first | (with_reducible rfl) | split))
  all_goals (try simp_all -implicitDefEqProofs)
@[simp] theorem msgEnd_ready (s : State) (id : Nat) (m : RxMsg) : (msgEnd s id m).boot.ready = s.boot.ready := by
  unfold msgEnd
  (try dsimp only)
  repeat' (first | (with_reducible rfl) | split)
  all_goals (try simp_all -implicitDefEqProofs)
  all_goals (repeat' (first | (with_reducible rfl) | split))
  all_goals (try simp_all -implicitDefEqProofs)
@[simp] theorem msgEnd_phase (s : State) (id : Nat) (m : RxMsg) : (msgEnd s id m).cin.phase = s.cin.phase := by
  unfold msgEnd
  (try dsimp only)
  repeat' (first | (with_reducible rfl) | split)
  all_goals (try simp_all -implicitDefEqProofs)
  all_goals (repeat' (first | (with_reducible rfl) | split))
  all_goals (try simp_all -implicitDefEqProofs)
@[simp] theorem msgEnd_mem (s : State) (id : Nat) (m : RxMsg) : (msgEnd s id m).dram.mem = s.dram.mem := by
  unfold msgEnd
  (try dsimp only)
  repeat' (first | (with_reducible rfl) | split)
  all_goals (try simp_all -implicitDefEqProofs)
  all_goals (repeat' (first | (with_reducible rfl) | split))
  all_goals (try simp_all -implicitDefEqProofs)
@[simp] theorem msgEnd_banks (s : State) (id : Nat) (m : RxMsg) : (msgEnd s id m).fls.banks = s.fls.banks := by
  unfold msgEnd
  (try dsimp only)
  repeat' (first | (with_reducible rfl) | split)
  all_goals (try simp_all -implicitDefEqProofs)
  all_goals (repeat' (first | (with_reducible rfl) | split))
  all_goals (try simp_all -implicitDefEqProofs)
@[simp] theorem latFinished_pending (s : State) (id msg : Nat) : (latFinished s id msg).pending = s.pending := by
  unfold latFinished
  (try dsimp only)
  repeat' (first | (with_reducible rfl) | split)
  all_goals (try simp_all -implicitDefEqProofs)
  all_goals (repeat' (first | (with_reducible rfl) | split))
  all_goals (try simp_all -implicitDefEqProofs)
@[simp] theorem latFinished_lck (s : State) (id msg : Nat) : (latFinished s id msg).lck = s.lck := by
  unfold latFinished
  (try dsimp only)
  repeat' (first | (with_reducible rfl) | split)
  all_goals (try simp_all -implicitDefEqProofs)
  all_goals (repeat' (first | (with_reducible rfl) | split))
  all_goals (try simp_all -implicitDefEqProofs)
@[simp] theorem latFinished_ready (s : State) (id msg : Nat) : (latFinished s id msg).boot.ready = s.boot.ready := by
  unfold latFinished
  (try dsimp only)
  repeat' (first | (with_reducible rfl) | split)
  all_goals (try simp_all -implicitDefEqProofs)
  all_goals (repeat' (first | (with_reducible rfl) | split))
  all_goals (try simp_all -implicitDefEqProofs)
@[simp] theorem latFinished_phase (s : State) (id msg : Nat) : (latFinished s id msg).cin.phase = s.cin.phase := by
  unfold latFinished
  (try dsimp only)
  repeat' (first | (with_reducible rfl) | split)
  all_goals (try simp_all -implicitDefEqProofs)
  all_goals (repeat' (first | (with_reducible rfl) | split))
  all_goals (try simp_all -implicitDefEqProofs)
@[simp] theorem latFinished_mem (s : State) (id msg : Nat) : (latFinished s id msg).dram.mem = s.dram.mem := by
  unfold latFinished
  (try dsimp only)
  repeat' (first | (with_reducible rfl) | split)
  all_goals (try simp_all -implicitDefEqProofs)
  all_goals (repeat' (first | (with_reducible rfl) | split))
  all_goals (try simp_all -implicitDefEqProofs)
@[simp] theorem latFinished_banks (s : State) (id msg : Nat) : (latFinished s id msg).fls.banks = s.fls.banks := by
  unfold latFinished
  (try dsimp only)
  repeat' (first | (with_reducible rfl) | split)
  all_goals (try simp_all -implicitDefEqProofs)
  all_goals (repeat' (first | (with_reducible rfl) | split))
  all_goals (try simp_all -implicitDefEqProofs)
@[simp] theorem latLine_pending (s : State) (id msg : Nat) (poison : Bool) : (latLine s id msg poison).pending = s.pending := by
  unfold latLine
  (try dsimp only)
  repeat' (first | (with_reducible rfl) | split)
  all_goals (try simp_all -implicitDefEqProofs)
  all_goals (repeat' (first | (with_reducible rfl) | split))
  all_goals (try simp_all -implicitDefEqProofs)
@[simp] theorem latLine_lck (s : State) (id msg : Nat) (poison : Bool) : (latLine s id msg poison).lck = s.lck := by
  unfold latLine
  (try dsimp only)
  repeat' (first | (with_reducible rfl) | split)
  all_goals (try simp_all -implicitDefEqProofs)
  all_goals (repeat' (first | (with_reducible rfl) | split))
  all_goals (try simp_all -implicitDefEqProofs)
@[simp] theorem latLine_ready (s : State) (id msg : Nat) (poison : Bool) : (latLine s id msg poison).boot.ready = s.boot.ready := by
  unfold latLine
  (try dsimp only)
  repeat' (first | (with_reducible rfl) | split)
  all_goals (try simp_all -implicitDefEqProofs)
  all_goals (repeat' (first | (with_reducible rfl) | split))
  all_goals (try simp_all -implicitDefEqProofs)
@[simp] theorem latLine_phase (s : State) (id msg : Nat) (poison : Bool) : (latLine s id msg poison).cin.phase = s.cin.phase := by
  unfold latLine
  (try dsimp only)
  repeat' (first | (with_reducible rfl) | split)
  all_goals (try simp_all -implicitDefEqProofs)
  all_goals (repeat' (first | (with_reducible rfl) | split))
  all_goals (try simp_all -implicitDefEqProofs)
@[simp] theorem latLine_mem (s : State) (id msg : Nat) (poison : Bool) : (latLine s id msg poison).dram.mem = s.dram.mem := by
  unfold latLine
  (try dsimp only)
  repeat' (first | (with_reducible rfl) | split)
  all_goals (try simp_all -implicitDefEqProofs)
  all_goals (repeat' (first | (with_reducible rfl) | split))
  all_goals (try simp_all -implicitDefEqProofs)
@[simp] theorem latLine_banks (s : State) (id msg : Nat) (poison : Bool) : (latLine s id msg poison).fls.banks = s.fls.banks := by
  unfold latLine
  (try dsimp only)
  repeat' (first | (with_reducible rfl) | split)
  all_goals (try simp_all -implicitDefEqProofs)
  all_goals (repeat' (first | (with_reducible rfl) | split))
  all_goals (try simp_all -implicitDefEqProofs)

end Sys2Proof.Laws
end

