-- ==== Sys2Proof/Laws/KeepRingOps.lean ====
section
/-!
SUPPORT. What the operations of RingOps leave alone: one lemma for each operation and each part of the state that it never changes.
-/
namespace Sys2Proof.Laws
open Sys2Proof.Machine
set_option linter.unusedTactic false
set_option linter.unreachableTactic false
set_option linter.unusedVariables false
set_option linter.unusedSimpArgs false

@[simp] theorem busyPut_pending (s : State) (t : HomeTxn) : (busyPut s t).pending = s.pending := by
  unfold busyPut
  (try dsimp only)
  repeat' (first | (with_reducible rfl) | split)
  all_goals (try simp_all -implicitDefEqProofs)
  all_goals (repeat' (first | (with_reducible rfl) | split))
  all_goals (try simp_all -implicitDefEqProofs)
@[simp] theorem busyPut_lck (s : State) (t : HomeTxn) : (busyPut s t).lck = s.lck := by
  unfold busyPut
  (try dsimp only)
  repeat' (first | (with_reducible rfl) | split)
  all_goals (try simp_all -implicitDefEqProofs)
  all_goals (repeat' (first | (with_reducible rfl) | split))
  all_goals (try simp_all -implicitDefEqProofs)
@[simp] theorem busyPut_ready (s : State) (t : HomeTxn) : (busyPut s t).boot.ready = s.boot.ready := by
  unfold busyPut
  (try dsimp only)
  repeat' (first | (with_reducible rfl) | split)
  all_goals (try simp_all -implicitDefEqProofs)
  all_goals (repeat' (first | (with_reducible rfl) | split))
  all_goals (try simp_all -implicitDefEqProofs)
@[simp] theorem busyPut_phase (s : State) (t : HomeTxn) : (busyPut s t).cin.phase = s.cin.phase := by
  unfold busyPut
  (try dsimp only)
  repeat' (first | (with_reducible rfl) | split)
  all_goals (try simp_all -implicitDefEqProofs)
  all_goals (repeat' (first | (with_reducible rfl) | split))
  all_goals (try simp_all -implicitDefEqProofs)
@[simp] theorem busyPut_mem (s : State) (t : HomeTxn) : (busyPut s t).dram.mem = s.dram.mem := by
  unfold busyPut
  (try dsimp only)
  repeat' (first | (with_reducible rfl) | split)
  all_goals (try simp_all -implicitDefEqProofs)
  all_goals (repeat' (first | (with_reducible rfl) | split))
  all_goals (try simp_all -implicitDefEqProofs)
@[simp] theorem busyPut_banks (s : State) (t : HomeTxn) : (busyPut s t).fls.banks = s.fls.banks := by
  unfold busyPut
  (try dsimp only)
  repeat' (first | (with_reducible rfl) | split)
  all_goals (try simp_all -implicitDefEqProofs)
  all_goals (repeat' (first | (with_reducible rfl) | split))
  all_goals (try simp_all -implicitDefEqProofs)
@[simp] theorem busyDrop_pending (s : State) (dl : Nat) : (busyDrop s dl).pending = s.pending := by
  unfold busyDrop
  (try dsimp only)
  repeat' (first | (with_reducible rfl) | split)
  all_goals (try simp_all -implicitDefEqProofs)
  all_goals (repeat' (first | (with_reducible rfl) | split))
  all_goals (try simp_all -implicitDefEqProofs)
@[simp] theorem busyDrop_lck (s : State) (dl : Nat) : (busyDrop s dl).lck = s.lck := by
  unfold busyDrop
  (try dsimp only)
  repeat' (first | (with_reducible rfl) | split)
  all_goals (try simp_all -implicitDefEqProofs)
  all_goals (repeat' (first | (with_reducible rfl) | split))
  all_goals (try simp_all -implicitDefEqProofs)
@[simp] theorem busyDrop_ready (s : State) (dl : Nat) : (busyDrop s dl).boot.ready = s.boot.ready := by
  unfold busyDrop
  (try dsimp only)
  repeat' (first | (with_reducible rfl) | split)
  all_goals (try simp_all -implicitDefEqProofs)
  all_goals (repeat' (first | (with_reducible rfl) | split))
  all_goals (try simp_all -implicitDefEqProofs)
@[simp] theorem busyDrop_phase (s : State) (dl : Nat) : (busyDrop s dl).cin.phase = s.cin.phase := by
  unfold busyDrop
  (try dsimp only)
  repeat' (first | (with_reducible rfl) | split)
  all_goals (try simp_all -implicitDefEqProofs)
  all_goals (repeat' (first | (with_reducible rfl) | split))
  all_goals (try simp_all -implicitDefEqProofs)
@[simp] theorem busyDrop_mem (s : State) (dl : Nat) : (busyDrop s dl).dram.mem = s.dram.mem := by
  unfold busyDrop
  (try dsimp only)
  repeat' (first | (with_reducible rfl) | split)
  all_goals (try simp_all -implicitDefEqProofs)
  all_goals (repeat' (first | (with_reducible rfl) | split))
  all_goals (try simp_all -implicitDefEqProofs)
@[simp] theorem busyDrop_banks (s : State) (dl : Nat) : (busyDrop s dl).fls.banks = s.fls.banks := by
  unfold busyDrop
  (try dsimp only)
  repeat' (first | (with_reducible rfl) | split)
  all_goals (try simp_all -implicitDefEqProofs)
  all_goals (repeat' (first | (with_reducible rfl) | split))
  all_goals (try simp_all -implicitDefEqProofs)
@[simp] theorem homeQueue_pending (s : State) (r : HomeReq) : (homeQueue s r).pending = s.pending := by
  unfold homeQueue
  (try dsimp only)
  repeat' (first | (with_reducible rfl) | split)
  all_goals (try simp_all -implicitDefEqProofs)
  all_goals (repeat' (first | (with_reducible rfl) | split))
  all_goals (try simp_all -implicitDefEqProofs)
@[simp] theorem homeQueue_lck (s : State) (r : HomeReq) : (homeQueue s r).lck = s.lck := by
  unfold homeQueue
  (try dsimp only)
  repeat' (first | (with_reducible rfl) | split)
  all_goals (try simp_all -implicitDefEqProofs)
  all_goals (repeat' (first | (with_reducible rfl) | split))
  all_goals (try simp_all -implicitDefEqProofs)
@[simp] theorem homeQueue_ready (s : State) (r : HomeReq) : (homeQueue s r).boot.ready = s.boot.ready := by
  unfold homeQueue
  (try dsimp only)
  repeat' (first | (with_reducible rfl) | split)
  all_goals (try simp_all -implicitDefEqProofs)
  all_goals (repeat' (first | (with_reducible rfl) | split))
  all_goals (try simp_all -implicitDefEqProofs)
@[simp] theorem homeQueue_phase (s : State) (r : HomeReq) : (homeQueue s r).cin.phase = s.cin.phase := by
  unfold homeQueue
  (try dsimp only)
  repeat' (first | (with_reducible rfl) | split)
  all_goals (try simp_all -implicitDefEqProofs)
  all_goals (repeat' (first | (with_reducible rfl) | split))
  all_goals (try simp_all -implicitDefEqProofs)
@[simp] theorem homeQueue_mem (s : State) (r : HomeReq) : (homeQueue s r).dram.mem = s.dram.mem := by
  unfold homeQueue
  (try dsimp only)
  repeat' (first | (with_reducible rfl) | split)
  all_goals (try simp_all -implicitDefEqProofs)
  all_goals (repeat' (first | (with_reducible rfl) | split))
  all_goals (try simp_all -implicitDefEqProofs)
@[simp] theorem homeQueue_banks (s : State) (r : HomeReq) : (homeQueue s r).fls.banks = s.fls.banks := by
  unfold homeQueue
  (try dsimp only)
  repeat' (first | (with_reducible rfl) | split)
  all_goals (try simp_all -implicitDefEqProofs)
  all_goals (repeat' (first | (with_reducible rfl) | split))
  all_goals (try simp_all -implicitDefEqProofs)
@[simp] theorem startRound_pending (s : State) (r : HomeReq) (inv : Bool) (targets bi : List Nat) (writer : Option Nat) (setB : Bool) : (startRound s r inv targets bi writer setB).pending = s.pending := by
  unfold startRound
  (try dsimp only)
  repeat' (first | (with_reducible rfl) | split)
  all_goals (try simp_all -implicitDefEqProofs)
  all_goals (repeat' (first | (with_reducible rfl) | split))
  all_goals (try simp_all -implicitDefEqProofs)
@[simp] theorem startRound_lck (s : State) (r : HomeReq) (inv : Bool) (targets bi : List Nat) (writer : Option Nat) (setB : Bool) : (startRound s r inv targets bi writer setB).lck = s.lck := by
  unfold startRound
  (try dsimp only)
  repeat' (first | (with_reducible rfl) | split)
  all_goals (try simp_all -implicitDefEqProofs)
  all_goals (repeat' (first | (with_reducible rfl) | split))
  all_goals (try simp_all -implicitDefEqProofs)
@[simp] theorem startRound_ready (s : State) (r : HomeReq) (inv : Bool) (targets bi : List Nat) (writer : Option Nat) (setB : Bool) : (startRound s r inv targets bi writer setB).boot.ready = s.boot.ready := by
  unfold startRound
  (try dsimp only)
  repeat' (first | (with_reducible rfl) | split)
  all_goals (try simp_all -implicitDefEqProofs)
  all_goals (repeat' (first | (with_reducible rfl) | split))
  all_goals (try simp_all -implicitDefEqProofs)
@[simp] theorem startRound_phase (s : State) (r : HomeReq) (inv : Bool) (targets bi : List Nat) (writer : Option Nat) (setB : Bool) : (startRound s r inv targets bi writer setB).cin.phase = s.cin.phase := by
  unfold startRound
  (try dsimp only)
  repeat' (first | (with_reducible rfl) | split)
  all_goals (try simp_all -implicitDefEqProofs)
  all_goals (repeat' (first | (with_reducible rfl) | split))
  all_goals (try simp_all -implicitDefEqProofs)
@[simp] theorem startRound_mem (s : State) (r : HomeReq) (inv : Bool) (targets bi : List Nat) (writer : Option Nat) (setB : Bool) : (startRound s r inv targets bi writer setB).dram.mem = s.dram.mem := by
  unfold startRound
  (try dsimp only)
  repeat' (first | (with_reducible rfl) | split)
  all_goals (try simp_all -implicitDefEqProofs)
  all_goals (repeat' (first | (with_reducible rfl) | split))
  all_goals (try simp_all -implicitDefEqProofs)
@[simp] theorem startRound_banks (s : State) (r : HomeReq) (inv : Bool) (targets bi : List Nat) (writer : Option Nat) (setB : Bool) : (startRound s r inv targets bi writer setB).fls.banks = s.fls.banks := by
  unfold startRound
  (try dsimp only)
  repeat' (first | (with_reducible rfl) | split)
  all_goals (try simp_all -implicitDefEqProofs)
  all_goals (repeat' (first | (with_reducible rfl) | split))
  all_goals (try simp_all -implicitDefEqProofs)
@[simp] theorem evictRound_pending (s : State) (v : TreeLine) : (evictRound s v).pending = s.pending := by
  unfold evictRound
  (try dsimp only)
  repeat' (first | (with_reducible rfl) | split)
  all_goals (try simp_all -implicitDefEqProofs)
  all_goals (repeat' (first | (with_reducible rfl) | split))
  all_goals (try simp_all -implicitDefEqProofs)
@[simp] theorem evictRound_lck (s : State) (v : TreeLine) : (evictRound s v).lck = s.lck := by
  unfold evictRound
  (try dsimp only)
  repeat' (first | (with_reducible rfl) | split)
  all_goals (try simp_all -implicitDefEqProofs)
  all_goals (repeat' (first | (with_reducible rfl) | split))
  all_goals (try simp_all -implicitDefEqProofs)
@[simp] theorem evictRound_ready (s : State) (v : TreeLine) : (evictRound s v).boot.ready = s.boot.ready := by
  unfold evictRound
  (try dsimp only)
  repeat' (first | (with_reducible rfl) | split)
  all_goals (try simp_all -implicitDefEqProofs)
  all_goals (repeat' (first | (with_reducible rfl) | split))
  all_goals (try simp_all -implicitDefEqProofs)
@[simp] theorem evictRound_phase (s : State) (v : TreeLine) : (evictRound s v).cin.phase = s.cin.phase := by
  unfold evictRound
  (try dsimp only)
  repeat' (first | (with_reducible rfl) | split)
  all_goals (try simp_all -implicitDefEqProofs)
  all_goals (repeat' (first | (with_reducible rfl) | split))
  all_goals (try simp_all -implicitDefEqProofs)
@[simp] theorem evictRound_mem (s : State) (v : TreeLine) : (evictRound s v).dram.mem = s.dram.mem := by
  unfold evictRound
  (try dsimp only)
  repeat' (first | (with_reducible rfl) | split)
  all_goals (try simp_all -implicitDefEqProofs)
  all_goals (repeat' (first | (with_reducible rfl) | split))
  all_goals (try simp_all -implicitDefEqProofs)
@[simp] theorem evictRound_banks (s : State) (v : TreeLine) : (evictRound s v).fls.banks = s.fls.banks := by
  unfold evictRound
  (try dsimp only)
  repeat' (first | (with_reducible rfl) | split)
  all_goals (try simp_all -implicitDefEqProofs)
  all_goals (repeat' (first | (with_reducible rfl) | split))
  all_goals (try simp_all -implicitDefEqProofs)

end Sys2Proof.Laws
end

