-- ==== Sys2Proof/Laws/KeepLines.lean ====
section
/-!
SUPPORT. What the operations of Lines leave alone: one lemma for each operation and each part of the state that it never changes.
-/
namespace Sys2Proof.Laws
open Sys2Proof.Machine
set_option linter.unusedTactic false
set_option linter.unreachableTactic false
set_option linter.unusedVariables false
set_option linter.unusedSimpArgs false

@[simp] theorem ldSet_pending (s : State) (n : Nat) (v : LDev) : (ldSet s n v).pending = s.pending := by
  unfold ldSet
  (try dsimp only)
  repeat' (first | (with_reducible rfl) | split)
  all_goals (try simp_all -implicitDefEqProofs)
  all_goals (repeat' (first | (with_reducible rfl) | split))
  all_goals (try simp_all -implicitDefEqProofs)
@[simp] theorem ldSet_lck (s : State) (n : Nat) (v : LDev) : (ldSet s n v).lck = s.lck := by
  unfold ldSet
  (try dsimp only)
  repeat' (first | (with_reducible rfl) | split)
  all_goals (try simp_all -implicitDefEqProofs)
  all_goals (repeat' (first | (with_reducible rfl) | split))
  all_goals (try simp_all -implicitDefEqProofs)
@[simp] theorem ldSet_ready (s : State) (n : Nat) (v : LDev) : (ldSet s n v).boot.ready = s.boot.ready := by
  unfold ldSet
  (try dsimp only)
  repeat' (first | (with_reducible rfl) | split)
  all_goals (try simp_all -implicitDefEqProofs)
  all_goals (repeat' (first | (with_reducible rfl) | split))
  all_goals (try simp_all -implicitDefEqProofs)
@[simp] theorem ldSet_phase (s : State) (n : Nat) (v : LDev) : (ldSet s n v).cin.phase = s.cin.phase := by
  unfold ldSet
  (try dsimp only)
  repeat' (first | (with_reducible rfl) | split)
  all_goals (try simp_all -implicitDefEqProofs)
  all_goals (repeat' (first | (with_reducible rfl) | split))
  all_goals (try simp_all -implicitDefEqProofs)
@[simp] theorem ldSet_mem (s : State) (n : Nat) (v : LDev) : (ldSet s n v).dram.mem = s.dram.mem := by
  unfold ldSet
  (try dsimp only)
  repeat' (first | (with_reducible rfl) | split)
  all_goals (try simp_all -implicitDefEqProofs)
  all_goals (repeat' (first | (with_reducible rfl) | split))
  all_goals (try simp_all -implicitDefEqProofs)
@[simp] theorem ldSet_banks (s : State) (n : Nat) (v : LDev) : (ldSet s n v).fls.banks = s.fls.banks := by
  unfold ldSet
  (try dsimp only)
  repeat' (first | (with_reducible rfl) | split)
  all_goals (try simp_all -implicitDefEqProofs)
  all_goals (repeat' (first | (with_reducible rfl) | split))
  all_goals (try simp_all -implicitDefEqProofs)
@[simp] theorem segSet_pending (s : State) (hs : Nat) (v : Segment) : (segSet s hs v).pending = s.pending := by
  unfold segSet
  (try dsimp only)
  repeat' (first | (with_reducible rfl) | split)
  all_goals (try simp_all -implicitDefEqProofs)
  all_goals (repeat' (first | (with_reducible rfl) | split))
  all_goals (try simp_all -implicitDefEqProofs)
@[simp] theorem segSet_lck (s : State) (hs : Nat) (v : Segment) : (segSet s hs v).lck = s.lck := by
  unfold segSet
  (try dsimp only)
  repeat' (first | (with_reducible rfl) | split)
  all_goals (try simp_all -implicitDefEqProofs)
  all_goals (repeat' (first | (with_reducible rfl) | split))
  all_goals (try simp_all -implicitDefEqProofs)
@[simp] theorem segSet_ready (s : State) (hs : Nat) (v : Segment) : (segSet s hs v).boot.ready = s.boot.ready := by
  unfold segSet
  (try dsimp only)
  repeat' (first | (with_reducible rfl) | split)
  all_goals (try simp_all -implicitDefEqProofs)
  all_goals (repeat' (first | (with_reducible rfl) | split))
  all_goals (try simp_all -implicitDefEqProofs)
@[simp] theorem segSet_phase (s : State) (hs : Nat) (v : Segment) : (segSet s hs v).cin.phase = s.cin.phase := by
  unfold segSet
  (try dsimp only)
  repeat' (first | (with_reducible rfl) | split)
  all_goals (try simp_all -implicitDefEqProofs)
  all_goals (repeat' (first | (with_reducible rfl) | split))
  all_goals (try simp_all -implicitDefEqProofs)
@[simp] theorem segSet_mem (s : State) (hs : Nat) (v : Segment) : (segSet s hs v).dram.mem = s.dram.mem := by
  unfold segSet
  (try dsimp only)
  repeat' (first | (with_reducible rfl) | split)
  all_goals (try simp_all -implicitDefEqProofs)
  all_goals (repeat' (first | (with_reducible rfl) | split))
  all_goals (try simp_all -implicitDefEqProofs)
@[simp] theorem segSet_banks (s : State) (hs : Nat) (v : Segment) : (segSet s hs v).fls.banks = s.fls.banks := by
  unfold segSet
  (try dsimp only)
  repeat' (first | (with_reducible rfl) | split)
  all_goals (try simp_all -implicitDefEqProofs)
  all_goals (repeat' (first | (with_reducible rfl) | split))
  all_goals (try simp_all -implicitDefEqProofs)
@[simp] theorem mapPoison_pending (s : State) (gl : Nat) (p : Bool) : (mapPoison s gl p).pending = s.pending := by
  unfold mapPoison
  (try dsimp only)
  repeat' (first | (with_reducible rfl) | split)
  all_goals (try simp_all -implicitDefEqProofs)
  all_goals (repeat' (first | (with_reducible rfl) | split))
  all_goals (try simp_all -implicitDefEqProofs)
@[simp] theorem mapPoison_lck (s : State) (gl : Nat) (p : Bool) : (mapPoison s gl p).lck = s.lck := by
  unfold mapPoison
  (try dsimp only)
  repeat' (first | (with_reducible rfl) | split)
  all_goals (try simp_all -implicitDefEqProofs)
  all_goals (repeat' (first | (with_reducible rfl) | split))
  all_goals (try simp_all -implicitDefEqProofs)
@[simp] theorem mapPoison_ready (s : State) (gl : Nat) (p : Bool) : (mapPoison s gl p).boot.ready = s.boot.ready := by
  unfold mapPoison
  (try dsimp only)
  repeat' (first | (with_reducible rfl) | split)
  all_goals (try simp_all -implicitDefEqProofs)
  all_goals (repeat' (first | (with_reducible rfl) | split))
  all_goals (try simp_all -implicitDefEqProofs)
@[simp] theorem mapPoison_phase (s : State) (gl : Nat) (p : Bool) : (mapPoison s gl p).cin.phase = s.cin.phase := by
  unfold mapPoison
  (try dsimp only)
  repeat' (first | (with_reducible rfl) | split)
  all_goals (try simp_all -implicitDefEqProofs)
  all_goals (repeat' (first | (with_reducible rfl) | split))
  all_goals (try simp_all -implicitDefEqProofs)
@[simp] theorem mapPoison_mem (s : State) (gl : Nat) (p : Bool) : (mapPoison s gl p).dram.mem = s.dram.mem := by
  unfold mapPoison
  (try dsimp only)
  repeat' (first | (with_reducible rfl) | split)
  all_goals (try simp_all -implicitDefEqProofs)
  all_goals (repeat' (first | (with_reducible rfl) | split))
  all_goals (try simp_all -implicitDefEqProofs)
@[simp] theorem mapPoison_banks (s : State) (gl : Nat) (p : Bool) : (mapPoison s gl p).fls.banks = s.fls.banks := by
  unfold mapPoison
  (try dsimp only)
  repeat' (first | (with_reducible rfl) | split)
  all_goals (try simp_all -implicitDefEqProofs)
  all_goals (repeat' (first | (with_reducible rfl) | split))
  all_goals (try simp_all -implicitDefEqProofs)
@[simp] theorem weltPut_pending (s : State) (e : WeltEntry) : (weltPut s e).pending = s.pending := by
  unfold weltPut
  (try dsimp only)
  repeat' (first | (with_reducible rfl) | split)
  all_goals (try simp_all -implicitDefEqProofs)
  all_goals (repeat' (first | (with_reducible rfl) | split))
  all_goals (try simp_all -implicitDefEqProofs)
@[simp] theorem weltPut_lck (s : State) (e : WeltEntry) : (weltPut s e).lck = s.lck := by
  unfold weltPut
  (try dsimp only)
  repeat' (first | (with_reducible rfl) | split)
  all_goals (try simp_all -implicitDefEqProofs)
  all_goals (repeat' (first | (with_reducible rfl) | split))
  all_goals (try simp_all -implicitDefEqProofs)
@[simp] theorem weltPut_ready (s : State) (e : WeltEntry) : (weltPut s e).boot.ready = s.boot.ready := by
  unfold weltPut
  (try dsimp only)
  repeat' (first | (with_reducible rfl) | split)
  all_goals (try simp_all -implicitDefEqProofs)
  all_goals (repeat' (first | (with_reducible rfl) | split))
  all_goals (try simp_all -implicitDefEqProofs)
@[simp] theorem weltPut_phase (s : State) (e : WeltEntry) : (weltPut s e).cin.phase = s.cin.phase := by
  unfold weltPut
  (try dsimp only)
  repeat' (first | (with_reducible rfl) | split)
  all_goals (try simp_all -implicitDefEqProofs)
  all_goals (repeat' (first | (with_reducible rfl) | split))
  all_goals (try simp_all -implicitDefEqProofs)
@[simp] theorem weltPut_mem (s : State) (e : WeltEntry) : (weltPut s e).dram.mem = s.dram.mem := by
  unfold weltPut
  (try dsimp only)
  repeat' (first | (with_reducible rfl) | split)
  all_goals (try simp_all -implicitDefEqProofs)
  all_goals (repeat' (first | (with_reducible rfl) | split))
  all_goals (try simp_all -implicitDefEqProofs)
@[simp] theorem weltPut_banks (s : State) (e : WeltEntry) : (weltPut s e).fls.banks = s.fls.banks := by
  unfold weltPut
  (try dsimp only)
  repeat' (first | (with_reducible rfl) | split)
  all_goals (try simp_all -implicitDefEqProofs)
  all_goals (repeat' (first | (with_reducible rfl) | split))
  all_goals (try simp_all -implicitDefEqProofs)
@[simp] theorem weltDrop_pending (s : State) (gl : Nat) : (weltDrop s gl).pending = s.pending := by
  unfold weltDrop
  (try dsimp only)
  repeat' (first | (with_reducible rfl) | split)
  all_goals (try simp_all -implicitDefEqProofs)
  all_goals (repeat' (first | (with_reducible rfl) | split))
  all_goals (try simp_all -implicitDefEqProofs)
@[simp] theorem weltDrop_lck (s : State) (gl : Nat) : (weltDrop s gl).lck = s.lck := by
  unfold weltDrop
  (try dsimp only)
  repeat' (first | (with_reducible rfl) | split)
  all_goals (try simp_all -implicitDefEqProofs)
  all_goals (repeat' (first | (with_reducible rfl) | split))
  all_goals (try simp_all -implicitDefEqProofs)
@[simp] theorem weltDrop_ready (s : State) (gl : Nat) : (weltDrop s gl).boot.ready = s.boot.ready := by
  unfold weltDrop
  (try dsimp only)
  repeat' (first | (with_reducible rfl) | split)
  all_goals (try simp_all -implicitDefEqProofs)
  all_goals (repeat' (first | (with_reducible rfl) | split))
  all_goals (try simp_all -implicitDefEqProofs)
@[simp] theorem weltDrop_phase (s : State) (gl : Nat) : (weltDrop s gl).cin.phase = s.cin.phase := by
  unfold weltDrop
  (try dsimp only)
  repeat' (first | (with_reducible rfl) | split)
  all_goals (try simp_all -implicitDefEqProofs)
  all_goals (repeat' (first | (with_reducible rfl) | split))
  all_goals (try simp_all -implicitDefEqProofs)
@[simp] theorem weltDrop_mem (s : State) (gl : Nat) : (weltDrop s gl).dram.mem = s.dram.mem := by
  unfold weltDrop
  (try dsimp only)
  repeat' (first | (with_reducible rfl) | split)
  all_goals (try simp_all -implicitDefEqProofs)
  all_goals (repeat' (first | (with_reducible rfl) | split))
  all_goals (try simp_all -implicitDefEqProofs)
@[simp] theorem weltDrop_banks (s : State) (gl : Nat) : (weltDrop s gl).fls.banks = s.fls.banks := by
  unfold weltDrop
  (try dsimp only)
  repeat' (first | (with_reducible rfl) | split)
  all_goals (try simp_all -implicitDefEqProofs)
  all_goals (repeat' (first | (with_reducible rfl) | split))
  all_goals (try simp_all -implicitDefEqProofs)
@[simp] theorem skiveDrop_pending (s : State) (gl : Nat) : (skiveDrop s gl).pending = s.pending := by
  unfold skiveDrop
  (try dsimp only)
  repeat' (first | (with_reducible rfl) | split)
  all_goals (try simp_all -implicitDefEqProofs)
  all_goals (repeat' (first | (with_reducible rfl) | split))
  all_goals (try simp_all -implicitDefEqProofs)
@[simp] theorem skiveDrop_lck (s : State) (gl : Nat) : (skiveDrop s gl).lck = s.lck := by
  unfold skiveDrop
  (try dsimp only)
  repeat' (first | (with_reducible rfl) | split)
  all_goals (try simp_all -implicitDefEqProofs)
  all_goals (repeat' (first | (with_reducible rfl) | split))
  all_goals (try simp_all -implicitDefEqProofs)
@[simp] theorem skiveDrop_ready (s : State) (gl : Nat) : (skiveDrop s gl).boot.ready = s.boot.ready := by
  unfold skiveDrop
  (try dsimp only)
  repeat' (first | (with_reducible rfl) | split)
  all_goals (try simp_all -implicitDefEqProofs)
  all_goals (repeat' (first | (with_reducible rfl) | split))
  all_goals (try simp_all -implicitDefEqProofs)
@[simp] theorem skiveDrop_phase (s : State) (gl : Nat) : (skiveDrop s gl).cin.phase = s.cin.phase := by
  unfold skiveDrop
  (try dsimp only)
  repeat' (first | (with_reducible rfl) | split)
  all_goals (try simp_all -implicitDefEqProofs)
  all_goals (repeat' (first | (with_reducible rfl) | split))
  all_goals (try simp_all -implicitDefEqProofs)
@[simp] theorem skiveDrop_mem (s : State) (gl : Nat) : (skiveDrop s gl).dram.mem = s.dram.mem := by
  unfold skiveDrop
  (try dsimp only)
  repeat' (first | (with_reducible rfl) | split)
  all_goals (try simp_all -implicitDefEqProofs)
  all_goals (repeat' (first | (with_reducible rfl) | split))
  all_goals (try simp_all -implicitDefEqProofs)
@[simp] theorem skiveDrop_banks (s : State) (gl : Nat) : (skiveDrop s gl).fls.banks = s.fls.banks := by
  unfold skiveDrop
  (try dsimp only)
  repeat' (first | (with_reducible rfl) | split)
  all_goals (try simp_all -implicitDefEqProofs)
  all_goals (repeat' (first | (with_reducible rfl) | split))
  all_goals (try simp_all -implicitDefEqProofs)
@[simp] theorem answerRead_pending (s : State) (who : Reader) (gl : Nat) (data : Bytes) (poison : Bool) : (answerRead s who gl data poison).pending = s.pending := by
  unfold answerRead
  (try dsimp only)
  repeat' (first | (with_reducible rfl) | split)
  all_goals (try simp_all -implicitDefEqProofs)
  all_goals (repeat' (first | (with_reducible rfl) | split))
  all_goals (try simp_all -implicitDefEqProofs)
@[simp] theorem answerRead_lck (s : State) (who : Reader) (gl : Nat) (data : Bytes) (poison : Bool) : (answerRead s who gl data poison).lck = s.lck := by
  unfold answerRead
  (try dsimp only)
  repeat' (first | (with_reducible rfl) | split)
  all_goals (try simp_all -implicitDefEqProofs)
  all_goals (repeat' (first | (with_reducible rfl) | split))
  all_goals (try simp_all -implicitDefEqProofs)
@[simp] theorem answerRead_ready (s : State) (who : Reader) (gl : Nat) (data : Bytes) (poison : Bool) : (answerRead s who gl data poison).boot.ready = s.boot.ready := by
  unfold answerRead
  (try dsimp only)
  repeat' (first | (with_reducible rfl) | split)
  all_goals (try simp_all -implicitDefEqProofs)
  all_goals (repeat' (first | (with_reducible rfl) | split))
  all_goals (try simp_all -implicitDefEqProofs)
@[simp] theorem answerRead_phase (s : State) (who : Reader) (gl : Nat) (data : Bytes) (poison : Bool) : (answerRead s who gl data poison).cin.phase = s.cin.phase := by
  unfold answerRead
  (try dsimp only)
  repeat' (first | (with_reducible rfl) | split)
  all_goals (try simp_all -implicitDefEqProofs)
  all_goals (repeat' (first | (with_reducible rfl) | split))
  all_goals (try simp_all -implicitDefEqProofs)
@[simp] theorem answerRead_mem (s : State) (who : Reader) (gl : Nat) (data : Bytes) (poison : Bool) : (answerRead s who gl data poison).dram.mem = s.dram.mem := by
  unfold answerRead
  (try dsimp only)
  repeat' (first | (with_reducible rfl) | split)
  all_goals (try simp_all -implicitDefEqProofs)
  all_goals (repeat' (first | (with_reducible rfl) | split))
  all_goals (try simp_all -implicitDefEqProofs)
@[simp] theorem answerRead_banks (s : State) (who : Reader) (gl : Nat) (data : Bytes) (poison : Bool) : (answerRead s who gl data poison).fls.banks = s.fls.banks := by
  unfold answerRead
  (try dsimp only)
  repeat' (first | (with_reducible rfl) | split)
  all_goals (try simp_all -implicitDefEqProofs)
  all_goals (repeat' (first | (with_reducible rfl) | split))
  all_goals (try simp_all -implicitDefEqProofs)
@[simp] theorem answerHeld_pending (s : State) (p : HeldRead → Bool) : (answerHeld s p).pending = s.pending := by
  unfold answerHeld
  repeat' (first
    | (with_reducible rfl)
    | (extract_lets +onlyGivenNames u; have hu : u.pending = s.pending := (by
         (try simp only [u])
         repeat' (first | (with_reducible rfl) | split)
         all_goals (try simp_all -implicitDefEqProofs)
         all_goals (repeat' (first | (with_reducible rfl) | split))
         all_goals (try simp_all -implicitDefEqProofs)); clear_value u)
    | (extract_lets +onlyGivenNames u; clear_value u)
    | (split <;> (rename_i heq; have hh := snd_pending heq; clear heq))
    | split
    | (refine (foldl_pending _ _ _ ?_).trans ?_)
    | intro _)
  all_goals (try simp_all -implicitDefEqProofs)
  all_goals (repeat' (first | (with_reducible rfl) | split))
  all_goals (try simp_all -implicitDefEqProofs)
@[simp] theorem answerHeld_lck (s : State) (p : HeldRead → Bool) : (answerHeld s p).lck = s.lck := by
  unfold answerHeld
  repeat' (first
    | (with_reducible rfl)
    | (extract_lets +onlyGivenNames u; have hu : u.lck = s.lck := (by
         (try simp only [u])
         repeat' (first | (with_reducible rfl) | split)
         all_goals (try simp_all -implicitDefEqProofs)
         all_goals (repeat' (first | (with_reducible rfl) | split))
         all_goals (try simp_all -implicitDefEqProofs)); clear_value u)
    | (extract_lets +onlyGivenNames u; clear_value u)
    | (split <;> (rename_i heq; have hh := snd_lck heq; clear heq))
    | split
    | (refine (foldl_lck _ _ _ ?_).trans ?_)
    | intro _)
  all_goals (try simp_all -implicitDefEqProofs)
  all_goals (repeat' (first | (with_reducible rfl) | split))
  all_goals (try simp_all -implicitDefEqProofs)
@[simp] theorem answerHeld_ready (s : State) (p : HeldRead → Bool) : (answerHeld s p).boot.ready = s.boot.ready := by
  unfold answerHeld
  repeat' (first
    | (with_reducible rfl)
    | (extract_lets +onlyGivenNames u; have hu : u.boot.ready = s.boot.ready := (by
         (try simp only [u])
         repeat' (first | (with_reducible rfl) | split)
         all_goals (try simp_all -implicitDefEqProofs)
         all_goals (repeat' (first | (with_reducible rfl) | split))
         all_goals (try simp_all -implicitDefEqProofs)); clear_value u)
    | (extract_lets +onlyGivenNames u; clear_value u)
    | (split <;> (rename_i heq; have hh := snd_ready heq; clear heq))
    | split
    | (refine (foldl_ready _ _ _ ?_).trans ?_)
    | intro _)
  all_goals (try simp_all -implicitDefEqProofs)
  all_goals (repeat' (first | (with_reducible rfl) | split))
  all_goals (try simp_all -implicitDefEqProofs)
@[simp] theorem answerHeld_phase (s : State) (p : HeldRead → Bool) : (answerHeld s p).cin.phase = s.cin.phase := by
  unfold answerHeld
  repeat' (first
    | (with_reducible rfl)
    | (extract_lets +onlyGivenNames u; have hu : u.cin.phase = s.cin.phase := (by
         (try simp only [u])
         repeat' (first | (with_reducible rfl) | split)
         all_goals (try simp_all -implicitDefEqProofs)
         all_goals (repeat' (first | (with_reducible rfl) | split))
         all_goals (try simp_all -implicitDefEqProofs)); clear_value u)
    | (extract_lets +onlyGivenNames u; clear_value u)
    | (split <;> (rename_i heq; have hh := snd_phase heq; clear heq))
    | split
    | (refine (foldl_phase _ _ _ ?_).trans ?_)
    | intro _)
  all_goals (try simp_all -implicitDefEqProofs)
  all_goals (repeat' (first | (with_reducible rfl) | split))
  all_goals (try simp_all -implicitDefEqProofs)
@[simp] theorem answerHeld_mem (s : State) (p : HeldRead → Bool) : (answerHeld s p).dram.mem = s.dram.mem := by
  unfold answerHeld
  repeat' (first
    | (with_reducible rfl)
    | (extract_lets +onlyGivenNames u; have hu : u.dram.mem = s.dram.mem := (by
         (try simp only [u])
         repeat' (first | (with_reducible rfl) | split)
         all_goals (try simp_all -implicitDefEqProofs)
         all_goals (repeat' (first | (with_reducible rfl) | split))
         all_goals (try simp_all -implicitDefEqProofs)); clear_value u)
    | (extract_lets +onlyGivenNames u; clear_value u)
    | (split <;> (rename_i heq; have hh := snd_mem heq; clear heq))
    | split
    | (refine (foldl_mem _ _ _ ?_).trans ?_)
    | intro _)
  all_goals (try simp_all -implicitDefEqProofs)
  all_goals (repeat' (first | (with_reducible rfl) | split))
  all_goals (try simp_all -implicitDefEqProofs)
@[simp] theorem answerHeld_banks (s : State) (p : HeldRead → Bool) : (answerHeld s p).fls.banks = s.fls.banks := by
  unfold answerHeld
  repeat' (first
    | (with_reducible rfl)
    | (extract_lets +onlyGivenNames u; have hu : u.fls.banks = s.fls.banks := (by
         (try simp only [u])
         repeat' (first | (with_reducible rfl) | split)
         all_goals (try simp_all -implicitDefEqProofs)
         all_goals (repeat' (first | (with_reducible rfl) | split))
         all_goals (try simp_all -implicitDefEqProofs)); clear_value u)
    | (extract_lets +onlyGivenNames u; clear_value u)
    | (split <;> (rename_i heq; have hh := snd_banks heq; clear heq))
    | split
    | (refine (foldl_banks _ _ _ ?_).trans ?_)
    | intro _)
  all_goals (try simp_all -implicitDefEqProofs)
  all_goals (repeat' (first | (with_reducible rfl) | split))
  all_goals (try simp_all -implicitDefEqProofs)
@[simp] theorem holdRead_pending (s : State) (who : Reader) (gl : Nat) (w : ReadWait) : (holdRead s who gl w).pending = s.pending := by
  unfold holdRead
  (try dsimp only)
  repeat' (first | (with_reducible rfl) | split)
  all_goals (try simp_all -implicitDefEqProofs)
  all_goals (repeat' (first | (with_reducible rfl) | split))
  all_goals (try simp_all -implicitDefEqProofs)
@[simp] theorem holdRead_lck (s : State) (who : Reader) (gl : Nat) (w : ReadWait) : (holdRead s who gl w).lck = s.lck := by
  unfold holdRead
  (try dsimp only)
  repeat' (first | (with_reducible rfl) | split)
  all_goals (try simp_all -implicitDefEqProofs)
  all_goals (repeat' (first | (with_reducible rfl) | split))
  all_goals (try simp_all -implicitDefEqProofs)
@[simp] theorem holdRead_ready (s : State) (who : Reader) (gl : Nat) (w : ReadWait) : (holdRead s who gl w).boot.ready = s.boot.ready := by
  unfold holdRead
  (try dsimp only)
  repeat' (first | (with_reducible rfl) | split)
  all_goals (try simp_all -implicitDefEqProofs)
  all_goals (repeat' (first | (with_reducible rfl) | split))
  all_goals (try simp_all -implicitDefEqProofs)
@[simp] theorem holdRead_phase (s : State) (who : Reader) (gl : Nat) (w : ReadWait) : (holdRead s who gl w).cin.phase = s.cin.phase := by
  unfold holdRead
  (try dsimp only)
  repeat' (first | (with_reducible rfl) | split)
  all_goals (try simp_all -implicitDefEqProofs)
  all_goals (repeat' (first | (with_reducible rfl) | split))
  all_goals (try simp_all -implicitDefEqProofs)
@[simp] theorem holdRead_mem (s : State) (who : Reader) (gl : Nat) (w : ReadWait) : (holdRead s who gl w).dram.mem = s.dram.mem := by
  unfold holdRead
  (try dsimp only)
  repeat' (first | (with_reducible rfl) | split)
  all_goals (try simp_all -implicitDefEqProofs)
  all_goals (repeat' (first | (with_reducible rfl) | split))
  all_goals (try simp_all -implicitDefEqProofs)
@[simp] theorem holdRead_banks (s : State) (who : Reader) (gl : Nat) (w : ReadWait) : (holdRead s who gl w).fls.banks = s.fls.banks := by
  unfold holdRead
  (try dsimp only)
  repeat' (first | (with_reducible rfl) | split)
  all_goals (try simp_all -implicitDefEqProofs)
  all_goals (repeat' (first | (with_reducible rfl) | split))
  all_goals (try simp_all -implicitDefEqProofs)
@[simp] theorem startLoad_pending (s : State) (hs rank : Nat) : (startLoad s hs rank).pending = s.pending := by
  unfold startLoad
  (try dsimp only)
  repeat' (first | (with_reducible rfl) | split)
  all_goals (try simp_all -implicitDefEqProofs)
  all_goals (repeat' (first | (with_reducible rfl) | split))
  all_goals (try simp_all -implicitDefEqProofs)
@[simp] theorem startLoad_lck (s : State) (hs rank : Nat) : (startLoad s hs rank).lck = s.lck := by
  unfold startLoad
  (try dsimp only)
  repeat' (first | (with_reducible rfl) | split)
  all_goals (try simp_all -implicitDefEqProofs)
  all_goals (repeat' (first | (with_reducible rfl) | split))
  all_goals (try simp_all -implicitDefEqProofs)
@[simp] theorem startLoad_ready (s : State) (hs rank : Nat) : (startLoad s hs rank).boot.ready = s.boot.ready := by
  unfold startLoad
  (try dsimp only)
  repeat' (first | (with_reducible rfl) | split)
  all_goals (try simp_all -implicitDefEqProofs)
  all_goals (repeat' (first | (with_reducible rfl) | split))
  all_goals (try simp_all -implicitDefEqProofs)
@[simp] theorem startLoad_phase (s : State) (hs rank : Nat) : (startLoad s hs rank).cin.phase = s.cin.phase := by
  unfold startLoad
  (try dsimp only)
  repeat' (first | (with_reducible rfl) | split)
  all_goals (try simp_all -implicitDefEqProofs)
  all_goals (repeat' (first | (with_reducible rfl) | split))
  all_goals (try simp_all -implicitDefEqProofs)
@[simp] theorem startLoad_mem (s : State) (hs rank : Nat) : (startLoad s hs rank).dram.mem = s.dram.mem := by
  unfold startLoad
  (try dsimp only)
  repeat' (first | (with_reducible rfl) | split)
  all_goals (try simp_all -implicitDefEqProofs)
  all_goals (repeat' (first | (with_reducible rfl) | split))
  all_goals (try simp_all -implicitDefEqProofs)
@[simp] theorem startLoad_banks (s : State) (hs rank : Nat) : (startLoad s hs rank).fls.banks = s.fls.banks := by
  unfold startLoad
  (try dsimp only)
  repeat' (first | (with_reducible rfl) | split)
  all_goals (try simp_all -implicitDefEqProofs)
  all_goals (repeat' (first | (with_reducible rfl) | split))
  all_goals (try simp_all -implicitDefEqProofs)
@[simp] theorem treeRead_pending (s : State) (who : Reader) (gl dl : Nat) (port : Option Nat) : (treeRead s who gl dl port).pending = s.pending := by
  unfold treeRead
  repeat' (first
    | (with_reducible rfl)
    | (extract_lets +onlyGivenNames u; have hu : u.pending = s.pending := (by
         (try simp only [u])
         repeat' (first | (with_reducible rfl) | split)
         all_goals (try simp_all -implicitDefEqProofs)
         all_goals (repeat' (first | (with_reducible rfl) | split))
         all_goals (try simp_all -implicitDefEqProofs)); clear_value u)
    | (extract_lets +onlyGivenNames u; clear_value u)
    | (split <;> (rename_i heq; have hh := snd_pending heq; clear heq))
    | split
    | (refine (foldl_pending _ _ _ ?_).trans ?_)
    | intro _)
  all_goals (try simp_all -implicitDefEqProofs)
  all_goals (repeat' (first | (with_reducible rfl) | split))
  all_goals (try simp_all -implicitDefEqProofs)
@[simp] theorem treeRead_lck (s : State) (who : Reader) (gl dl : Nat) (port : Option Nat) : (treeRead s who gl dl port).lck = s.lck := by
  unfold treeRead
  repeat' (first
    | (with_reducible rfl)
    | (extract_lets +onlyGivenNames u; have hu : u.lck = s.lck := (by
         (try simp only [u])
         repeat' (first | (with_reducible rfl) | split)
         all_goals (try simp_all -implicitDefEqProofs)
         all_goals (repeat' (first | (with_reducible rfl) | split))
         all_goals (try simp_all -implicitDefEqProofs)); clear_value u)
    | (extract_lets +onlyGivenNames u; clear_value u)
    | (split <;> (rename_i heq; have hh := snd_lck heq; clear heq))
    | split
    | (refine (foldl_lck _ _ _ ?_).trans ?_)
    | intro _)
  all_goals (try simp_all -implicitDefEqProofs)
  all_goals (repeat' (first | (with_reducible rfl) | split))
  all_goals (try simp_all -implicitDefEqProofs)
@[simp] theorem treeRead_ready (s : State) (who : Reader) (gl dl : Nat) (port : Option Nat) : (treeRead s who gl dl port).boot.ready = s.boot.ready := by
  unfold treeRead
  repeat' (first
    | (with_reducible rfl)
    | (extract_lets +onlyGivenNames u; have hu : u.boot.ready = s.boot.ready := (by
         (try simp only [u])
         repeat' (first | (with_reducible rfl) | split)
         all_goals (try simp_all -implicitDefEqProofs)
         all_goals (repeat' (first | (with_reducible rfl) | split))
         all_goals (try simp_all -implicitDefEqProofs)); clear_value u)
    | (extract_lets +onlyGivenNames u; clear_value u)
    | (split <;> (rename_i heq; have hh := snd_ready heq; clear heq))
    | split
    | (refine (foldl_ready _ _ _ ?_).trans ?_)
    | intro _)
  all_goals (try simp_all -implicitDefEqProofs)
  all_goals (repeat' (first | (with_reducible rfl) | split))
  all_goals (try simp_all -implicitDefEqProofs)
@[simp] theorem treeRead_phase (s : State) (who : Reader) (gl dl : Nat) (port : Option Nat) : (treeRead s who gl dl port).cin.phase = s.cin.phase := by
  unfold treeRead
  repeat' (first
    | (with_reducible rfl)
    | (extract_lets +onlyGivenNames u; have hu : u.cin.phase = s.cin.phase := (by
         (try simp only [u])
         repeat' (first | (with_reducible rfl) | split)
         all_goals (try simp_all -implicitDefEqProofs)
         all_goals (repeat' (first | (with_reducible rfl) | split))
         all_goals (try simp_all -implicitDefEqProofs)); clear_value u)
    | (extract_lets +onlyGivenNames u; clear_value u)
    | (split <;> (rename_i heq; have hh := snd_phase heq; clear heq))
    | split
    | (refine (foldl_phase _ _ _ ?_).trans ?_)
    | intro _)
  all_goals (try simp_all -implicitDefEqProofs)
  all_goals (repeat' (first | (with_reducible rfl) | split))
  all_goals (try simp_all -implicitDefEqProofs)
@[simp] theorem treeRead_mem (s : State) (who : Reader) (gl dl : Nat) (port : Option Nat) : (treeRead s who gl dl port).dram.mem = s.dram.mem := by
  unfold treeRead
  repeat' (first
    | (with_reducible rfl)
    | (extract_lets +onlyGivenNames u; have hu : u.dram.mem = s.dram.mem := (by
         (try simp only [u])
         repeat' (first | (with_reducible rfl) | split)
         all_goals (try simp_all -implicitDefEqProofs)
         all_goals (repeat' (first | (with_reducible rfl) | split))
         all_goals (try simp_all -implicitDefEqProofs)); clear_value u)
    | (extract_lets +onlyGivenNames u; clear_value u)
    | (split <;> (rename_i heq; have hh := snd_mem heq; clear heq))
    | split
    | (refine (foldl_mem _ _ _ ?_).trans ?_)
    | intro _)
  all_goals (try simp_all -implicitDefEqProofs)
  all_goals (repeat' (first | (with_reducible rfl) | split))
  all_goals (try simp_all -implicitDefEqProofs)
@[simp] theorem treeRead_banks (s : State) (who : Reader) (gl dl : Nat) (port : Option Nat) : (treeRead s who gl dl port).fls.banks = s.fls.banks := by
  unfold treeRead
  repeat' (first
    | (with_reducible rfl)
    | (extract_lets +onlyGivenNames u; have hu : u.fls.banks = s.fls.banks := (by
         (try simp only [u])
         repeat' (first | (with_reducible rfl) | split)
         all_goals (try simp_all -implicitDefEqProofs)
         all_goals (repeat' (first | (with_reducible rfl) | split))
         all_goals (try simp_all -implicitDefEqProofs)); clear_value u)
    | (extract_lets +onlyGivenNames u; clear_value u)
    | (split <;> (rename_i heq; have hh := snd_banks heq; clear heq))
    | split
    | (refine (foldl_banks _ _ _ ?_).trans ?_)
    | intro _)
  all_goals (try simp_all -implicitDefEqProofs)
  all_goals (repeat' (first | (with_reducible rfl) | split))
  all_goals (try simp_all -implicitDefEqProofs)
@[simp] theorem retryWay_pending (s : State) : (retryWay s).pending = s.pending := by
  unfold retryWay
  repeat' (first
    | (with_reducible rfl)
    | (extract_lets +onlyGivenNames u; have hu : u.pending = s.pending := (by
         (try simp only [u])
         repeat' (first | (with_reducible rfl) | split)
         all_goals (try simp_all -implicitDefEqProofs)
         all_goals (repeat' (first | (with_reducible rfl) | split))
         all_goals (try simp_all -implicitDefEqProofs)); clear_value u)
    | (extract_lets +onlyGivenNames u; clear_value u)
    | (split <;> (rename_i heq; have hh := snd_pending heq; clear heq))
    | split
    | (refine (foldl_pending _ _ _ ?_).trans ?_)
    | intro _)
  all_goals (try simp_all -implicitDefEqProofs)
  all_goals (repeat' (first | (with_reducible rfl) | split))
  all_goals (try simp_all -implicitDefEqProofs)
@[simp] theorem retryWay_lck (s : State) : (retryWay s).lck = s.lck := by
  unfold retryWay
  (try dsimp only)
  repeat' (first | (with_reducible rfl) | split)
  all_goals (try simp_all -implicitDefEqProofs)
  all_goals (repeat' (first | (with_reducible rfl) | split))
  all_goals (try simp_all -implicitDefEqProofs)
@[simp] theorem retryWay_ready (s : State) : (retryWay s).boot.ready = s.boot.ready := by
  unfold retryWay
  repeat' (first
    | (with_reducible rfl)
    | (extract_lets +onlyGivenNames u; have hu : u.boot.ready = s.boot.ready := (by
         (try simp only [u])
         repeat' (first | (with_reducible rfl) | split)
         all_goals (try simp_all -implicitDefEqProofs)
         all_goals (repeat' (first | (with_reducible rfl) | split))
         all_goals (try simp_all -implicitDefEqProofs)); clear_value u)
    | (extract_lets +onlyGivenNames u; clear_value u)
    | (split <;> (rename_i heq; have hh := snd_ready heq; clear heq))
    | split
    | (refine (foldl_ready _ _ _ ?_).trans ?_)
    | intro _)
  all_goals (try simp_all -implicitDefEqProofs)
  all_goals (repeat' (first | (with_reducible rfl) | split))
  all_goals (try simp_all -implicitDefEqProofs)
@[simp] theorem retryWay_phase (s : State) : (retryWay s).cin.phase = s.cin.phase := by
  unfold retryWay
  repeat' (first
    | (with_reducible rfl)
    | (extract_lets +onlyGivenNames u; have hu : u.cin.phase = s.cin.phase := (by
         (try simp only [u])
         repeat' (first | (with_reducible rfl) | split)
         all_goals (try simp_all -implicitDefEqProofs)
         all_goals (repeat' (first | (with_reducible rfl) | split))
         all_goals (try simp_all -implicitDefEqProofs)); clear_value u)
    | (extract_lets +onlyGivenNames u; clear_value u)
    | (split <;> (rename_i heq; have hh := snd_phase heq; clear heq))
    | split
    | (refine (foldl_phase _ _ _ ?_).trans ?_)
    | intro _)
  all_goals (try simp_all -implicitDefEqProofs)
  all_goals (repeat' (first | (with_reducible rfl) | split))
  all_goals (try simp_all -implicitDefEqProofs)
@[simp] theorem retryWay_mem (s : State) : (retryWay s).dram.mem = s.dram.mem := by
  unfold retryWay
  repeat' (first
    | (with_reducible rfl)
    | (extract_lets +onlyGivenNames u; have hu : u.dram.mem = s.dram.mem := (by
         (try simp only [u])
         repeat' (first | (with_reducible rfl) | split)
         all_goals (try simp_all -implicitDefEqProofs)
         all_goals (repeat' (first | (with_reducible rfl) | split))
         all_goals (try simp_all -implicitDefEqProofs)); clear_value u)
    | (extract_lets +onlyGivenNames u; clear_value u)
    | (split <;> (rename_i heq; have hh := snd_mem heq; clear heq))
    | split
    | (refine (foldl_mem _ _ _ ?_).trans ?_)
    | intro _)
  all_goals (try simp_all -implicitDefEqProofs)
  all_goals (repeat' (first | (with_reducible rfl) | split))
  all_goals (try simp_all -implicitDefEqProofs)
@[simp] theorem retryWay_banks (s : State) : (retryWay s).fls.banks = s.fls.banks := by
  unfold retryWay
  repeat' (first
    | (with_reducible rfl)
    | (extract_lets +onlyGivenNames u; have hu : u.fls.banks = s.fls.banks := (by
         (try simp only [u])
         repeat' (first | (with_reducible rfl) | split)
         all_goals (try simp_all -implicitDefEqProofs)
         all_goals (repeat' (first | (with_reducible rfl) | split))
         all_goals (try simp_all -implicitDefEqProofs)); clear_value u)
    | (extract_lets +onlyGivenNames u; clear_value u)
    | (split <;> (rename_i heq; have hh := snd_banks heq; clear heq))
    | split
    | (refine (foldl_banks _ _ _ ?_).trans ?_)
    | intro _)
  all_goals (try simp_all -implicitDefEqProofs)
  all_goals (repeat' (first | (with_reducible rfl) | split))
  all_goals (try simp_all -implicitDefEqProofs)
@[simp] theorem readLine_pending (s : State) (who : Reader) (gl : Nat) (port : Option Nat) : (readLine s who gl port).pending = s.pending := by
  unfold readLine
  repeat' (first
    | (with_reducible rfl)
    | (extract_lets +onlyGivenNames u; have hu : u.pending = s.pending := (by
         (try simp only [u])
         repeat' (first | (with_reducible rfl) | split)
         all_goals (try simp_all -implicitDefEqProofs)
         all_goals (repeat' (first | (with_reducible rfl) | split))
         all_goals (try simp_all -implicitDefEqProofs)); clear_value u)
    | (extract_lets +onlyGivenNames u; clear_value u)
    | (split <;> (rename_i heq; have hh := snd_pending heq; clear heq))
    | split
    | (refine (foldl_pending _ _ _ ?_).trans ?_)
    | intro _)
  all_goals (try simp_all -implicitDefEqProofs)
  all_goals (repeat' (first | (with_reducible rfl) | split))
  all_goals (try simp_all -implicitDefEqProofs)
@[simp] theorem readLine_lck (s : State) (who : Reader) (gl : Nat) (port : Option Nat) : (readLine s who gl port).lck = s.lck := by
  unfold readLine
  (try dsimp only)
  repeat' (first | (with_reducible rfl) | split)
  all_goals (try simp_all -implicitDefEqProofs)
  all_goals (repeat' (first | (with_reducible rfl) | split))
  all_goals (try simp_all -implicitDefEqProofs)
@[simp] theorem readLine_ready (s : State) (who : Reader) (gl : Nat) (port : Option Nat) : (readLine s who gl port).boot.ready = s.boot.ready := by
  unfold readLine
  repeat' (first
    | (with_reducible rfl)
    | (extract_lets +onlyGivenNames u; have hu : u.boot.ready = s.boot.ready := (by
         (try simp only [u])
         repeat' (first | (with_reducible rfl) | split)
         all_goals (try simp_all -implicitDefEqProofs)
         all_goals (repeat' (first | (with_reducible rfl) | split))
         all_goals (try simp_all -implicitDefEqProofs)); clear_value u)
    | (extract_lets +onlyGivenNames u; clear_value u)
    | (split <;> (rename_i heq; have hh := snd_ready heq; clear heq))
    | split
    | (refine (foldl_ready _ _ _ ?_).trans ?_)
    | intro _)
  all_goals (try simp_all -implicitDefEqProofs)
  all_goals (repeat' (first | (with_reducible rfl) | split))
  all_goals (try simp_all -implicitDefEqProofs)
@[simp] theorem readLine_phase (s : State) (who : Reader) (gl : Nat) (port : Option Nat) : (readLine s who gl port).cin.phase = s.cin.phase := by
  unfold readLine
  repeat' (first
    | (with_reducible rfl)
    | (extract_lets +onlyGivenNames u; have hu : u.cin.phase = s.cin.phase := (by
         (try simp only [u])
         repeat' (first | (with_reducible rfl) | split)
         all_goals (try simp_all -implicitDefEqProofs)
         all_goals (repeat' (first | (with_reducible rfl) | split))
         all_goals (try simp_all -implicitDefEqProofs)); clear_value u)
    | (extract_lets +onlyGivenNames u; clear_value u)
    | (split <;> (rename_i heq; have hh := snd_phase heq; clear heq))
    | split
    | (refine (foldl_phase _ _ _ ?_).trans ?_)
    | intro _)
  all_goals (try simp_all -implicitDefEqProofs)
  all_goals (repeat' (first | (with_reducible rfl) | split))
  all_goals (try simp_all -implicitDefEqProofs)
@[simp] theorem readLine_mem (s : State) (who : Reader) (gl : Nat) (port : Option Nat) : (readLine s who gl port).dram.mem = s.dram.mem := by
  unfold readLine
  repeat' (first
    | (with_reducible rfl)
    | (extract_lets +onlyGivenNames u; have hu : u.dram.mem = s.dram.mem := (by
         (try simp only [u])
         repeat' (first | (with_reducible rfl) | split)
         all_goals (try simp_all -implicitDefEqProofs)
         all_goals (repeat' (first | (with_reducible rfl) | split))
         all_goals (try simp_all -implicitDefEqProofs)); clear_value u)
    | (extract_lets +onlyGivenNames u; clear_value u)
    | (split <;> (rename_i heq; have hh := snd_mem heq; clear heq))
    | split
    | (refine (foldl_mem _ _ _ ?_).trans ?_)
    | intro _)
  all_goals (try simp_all -implicitDefEqProofs)
  all_goals (repeat' (first | (with_reducible rfl) | split))
  all_goals (try simp_all -implicitDefEqProofs)
@[simp] theorem readLine_banks (s : State) (who : Reader) (gl : Nat) (port : Option Nat) : (readLine s who gl port).fls.banks = s.fls.banks := by
  unfold readLine
  repeat' (first
    | (with_reducible rfl)
    | (extract_lets +onlyGivenNames u; have hu : u.fls.banks = s.fls.banks := (by
         (try simp only [u])
         repeat' (first | (with_reducible rfl) | split)
         all_goals (try simp_all -implicitDefEqProofs)
         all_goals (repeat' (first | (with_reducible rfl) | split))
         all_goals (try simp_all -implicitDefEqProofs)); clear_value u)
    | (extract_lets +onlyGivenNames u; clear_value u)
    | (split <;> (rename_i heq; have hh := snd_banks heq; clear heq))
    | split
    | (refine (foldl_banks _ _ _ ?_).trans ?_)
    | intro _)
  all_goals (try simp_all -implicitDefEqProofs)
  all_goals (repeat' (first | (with_reducible rfl) | split))
  all_goals (try simp_all -implicitDefEqProofs)
@[simp] theorem releaseHit_pending (s : State) (t : TreeLine) (pol dl : Nat) (data : PLine) (poison : Bool) (lo : Nat) : (releaseHit s t pol dl data poison lo).2.pending = s.pending := by
  unfold releaseHit
  (try dsimp only)
  repeat' (first | (with_reducible rfl) | split)
  all_goals (try simp_all -implicitDefEqProofs)
  all_goals (repeat' (first | (with_reducible rfl) | split))
  all_goals (try simp_all -implicitDefEqProofs)
@[simp] theorem releaseHit_lck (s : State) (t : TreeLine) (pol dl : Nat) (data : PLine) (poison : Bool) (lo : Nat) : (releaseHit s t pol dl data poison lo).2.lck = s.lck := by
  unfold releaseHit
  (try dsimp only)
  repeat' (first | (with_reducible rfl) | split)
  all_goals (try simp_all -implicitDefEqProofs)
  all_goals (repeat' (first | (with_reducible rfl) | split))
  all_goals (try simp_all -implicitDefEqProofs)
@[simp] theorem releaseHit_ready (s : State) (t : TreeLine) (pol dl : Nat) (data : PLine) (poison : Bool) (lo : Nat) : (releaseHit s t pol dl data poison lo).2.boot.ready = s.boot.ready := by
  unfold releaseHit
  (try dsimp only)
  repeat' (first | (with_reducible rfl) | split)
  all_goals (try simp_all -implicitDefEqProofs)
  all_goals (repeat' (first | (with_reducible rfl) | split))
  all_goals (try simp_all -implicitDefEqProofs)
@[simp] theorem releaseHit_phase (s : State) (t : TreeLine) (pol dl : Nat) (data : PLine) (poison : Bool) (lo : Nat) : (releaseHit s t pol dl data poison lo).2.cin.phase = s.cin.phase := by
  unfold releaseHit
  (try dsimp only)
  repeat' (first | (with_reducible rfl) | split)
  all_goals (try simp_all -implicitDefEqProofs)
  all_goals (repeat' (first | (with_reducible rfl) | split))
  all_goals (try simp_all -implicitDefEqProofs)
@[simp] theorem releaseHit_mem (s : State) (t : TreeLine) (pol dl : Nat) (data : PLine) (poison : Bool) (lo : Nat) : (releaseHit s t pol dl data poison lo).2.dram.mem = s.dram.mem := by
  unfold releaseHit
  (try dsimp only)
  repeat' (first | (with_reducible rfl) | split)
  all_goals (try simp_all -implicitDefEqProofs)
  all_goals (repeat' (first | (with_reducible rfl) | split))
  all_goals (try simp_all -implicitDefEqProofs)
@[simp] theorem releaseHit_banks (s : State) (t : TreeLine) (pol dl : Nat) (data : PLine) (poison : Bool) (lo : Nat) : (releaseHit s t pol dl data poison lo).2.fls.banks = s.fls.banks := by
  unfold releaseHit
  (try dsimp only)
  repeat' (first | (with_reducible rfl) | split)
  all_goals (try simp_all -implicitDefEqProofs)
  all_goals (repeat' (first | (with_reducible rfl) | split))
  all_goals (try simp_all -implicitDefEqProofs)
@[simp] theorem releaseThru_pending (s : State) (dl : Nat) (data : PLine) (poison : Bool) (lo : Nat) : (releaseThru s dl data poison lo).2.pending = s.pending := by
  unfold releaseThru
  (try dsimp only)
  repeat' (first | (with_reducible rfl) | split)
  all_goals (try simp_all -implicitDefEqProofs)
  all_goals (repeat' (first | (with_reducible rfl) | split))
  all_goals (try simp_all -implicitDefEqProofs)
@[simp] theorem releaseThru_lck (s : State) (dl : Nat) (data : PLine) (poison : Bool) (lo : Nat) : (releaseThru s dl data poison lo).2.lck = s.lck := by
  unfold releaseThru
  (try dsimp only)
  repeat' (first | (with_reducible rfl) | split)
  all_goals (try simp_all -implicitDefEqProofs)
  all_goals (repeat' (first | (with_reducible rfl) | split))
  all_goals (try simp_all -implicitDefEqProofs)
@[simp] theorem releaseThru_ready (s : State) (dl : Nat) (data : PLine) (poison : Bool) (lo : Nat) : (releaseThru s dl data poison lo).2.boot.ready = s.boot.ready := by
  unfold releaseThru
  (try dsimp only)
  repeat' (first | (with_reducible rfl) | split)
  all_goals (try simp_all -implicitDefEqProofs)
  all_goals (repeat' (first | (with_reducible rfl) | split))
  all_goals (try simp_all -implicitDefEqProofs)
@[simp] theorem releaseThru_phase (s : State) (dl : Nat) (data : PLine) (poison : Bool) (lo : Nat) : (releaseThru s dl data poison lo).2.cin.phase = s.cin.phase := by
  unfold releaseThru
  (try dsimp only)
  repeat' (first | (with_reducible rfl) | split)
  all_goals (try simp_all -implicitDefEqProofs)
  all_goals (repeat' (first | (with_reducible rfl) | split))
  all_goals (try simp_all -implicitDefEqProofs)
@[simp] theorem releaseThru_mem (s : State) (dl : Nat) (data : PLine) (poison : Bool) (lo : Nat) : (releaseThru s dl data poison lo).2.dram.mem = s.dram.mem := by
  unfold releaseThru
  (try dsimp only)
  repeat' (first | (with_reducible rfl) | split)
  all_goals (try simp_all -implicitDefEqProofs)
  all_goals (repeat' (first | (with_reducible rfl) | split))
  all_goals (try simp_all -implicitDefEqProofs)
@[simp] theorem releaseThru_banks (s : State) (dl : Nat) (data : PLine) (poison : Bool) (lo : Nat) : (releaseThru s dl data poison lo).2.fls.banks = s.fls.banks := by
  unfold releaseThru
  (try dsimp only)
  repeat' (first | (with_reducible rfl) | split)
  all_goals (try simp_all -implicitDefEqProofs)
  all_goals (repeat' (first | (with_reducible rfl) | split))
  all_goals (try simp_all -implicitDefEqProofs)
@[simp] theorem releaseAlloc_pending (s : State) (pol dl : Nat) (data : PLine) (poison fromSkive : Bool) (lo : Nat) : (releaseAlloc s pol dl data poison fromSkive lo).2.pending = s.pending := by
  unfold releaseAlloc
  repeat' (first
    | (with_reducible rfl)
    | (extract_lets +onlyGivenNames u; have hu : u.pending = s.pending := (by
         (try simp only [u])
         repeat' (first | (with_reducible rfl) | split)
         all_goals (try simp_all -implicitDefEqProofs)
         all_goals (repeat' (first | (with_reducible rfl) | split))
         all_goals (try simp_all -implicitDefEqProofs)); clear_value u)
    | (extract_lets +onlyGivenNames u; clear_value u)
    | (split <;> (rename_i heq; have hh := snd_pending heq; clear heq))
    | split
    | (refine (foldl_pending _ _ _ ?_).trans ?_)
    | intro _)
  all_goals (try simp_all -implicitDefEqProofs)
  all_goals (repeat' (first | (with_reducible rfl) | split))
  all_goals (try simp_all -implicitDefEqProofs)
@[simp] theorem releaseAlloc_lck (s : State) (pol dl : Nat) (data : PLine) (poison fromSkive : Bool) (lo : Nat) : (releaseAlloc s pol dl data poison fromSkive lo).2.lck = s.lck := by
  unfold releaseAlloc
  repeat' (first
    | (with_reducible rfl)
    | (extract_lets +onlyGivenNames u; have hu : u.lck = s.lck := (by
         (try simp only [u])
         repeat' (first | (with_reducible rfl) | split)
         all_goals (try simp_all -implicitDefEqProofs)
         all_goals (repeat' (first | (with_reducible rfl) | split))
         all_goals (try simp_all -implicitDefEqProofs)); clear_value u)
    | (extract_lets +onlyGivenNames u; clear_value u)
    | (split <;> (rename_i heq; have hh := snd_lck heq; clear heq))
    | split
    | (refine (foldl_lck _ _ _ ?_).trans ?_)
    | intro _)
  all_goals (try simp_all -implicitDefEqProofs)
  all_goals (repeat' (first | (with_reducible rfl) | split))
  all_goals (try simp_all -implicitDefEqProofs)
@[simp] theorem releaseAlloc_ready (s : State) (pol dl : Nat) (data : PLine) (poison fromSkive : Bool) (lo : Nat) : (releaseAlloc s pol dl data poison fromSkive lo).2.boot.ready = s.boot.ready := by
  unfold releaseAlloc
  repeat' (first
    | (with_reducible rfl)
    | (extract_lets +onlyGivenNames u; have hu : u.boot.ready = s.boot.ready := (by
         (try simp only [u])
         repeat' (first | (with_reducible rfl) | split)
         all_goals (try simp_all -implicitDefEqProofs)
         all_goals (repeat' (first | (with_reducible rfl) | split))
         all_goals (try simp_all -implicitDefEqProofs)); clear_value u)
    | (extract_lets +onlyGivenNames u; clear_value u)
    | (split <;> (rename_i heq; have hh := snd_ready heq; clear heq))
    | split
    | (refine (foldl_ready _ _ _ ?_).trans ?_)
    | intro _)
  all_goals (try simp_all -implicitDefEqProofs)
  all_goals (repeat' (first | (with_reducible rfl) | split))
  all_goals (try simp_all -implicitDefEqProofs)
@[simp] theorem releaseAlloc_phase (s : State) (pol dl : Nat) (data : PLine) (poison fromSkive : Bool) (lo : Nat) : (releaseAlloc s pol dl data poison fromSkive lo).2.cin.phase = s.cin.phase := by
  unfold releaseAlloc
  repeat' (first
    | (with_reducible rfl)
    | (extract_lets +onlyGivenNames u; have hu : u.cin.phase = s.cin.phase := (by
         (try simp only [u])
         repeat' (first | (with_reducible rfl) | split)
         all_goals (try simp_all -implicitDefEqProofs)
         all_goals (repeat' (first | (with_reducible rfl) | split))
         all_goals (try simp_all -implicitDefEqProofs)); clear_value u)
    | (extract_lets +onlyGivenNames u; clear_value u)
    | (split <;> (rename_i heq; have hh := snd_phase heq; clear heq))
    | split
    | (refine (foldl_phase _ _ _ ?_).trans ?_)
    | intro _)
  all_goals (try simp_all -implicitDefEqProofs)
  all_goals (repeat' (first | (with_reducible rfl) | split))
  all_goals (try simp_all -implicitDefEqProofs)
@[simp] theorem releaseAlloc_mem (s : State) (pol dl : Nat) (data : PLine) (poison fromSkive : Bool) (lo : Nat) : (releaseAlloc s pol dl data poison fromSkive lo).2.dram.mem = s.dram.mem := by
  unfold releaseAlloc
  repeat' (first
    | (with_reducible rfl)
    | (extract_lets +onlyGivenNames u; have hu : u.dram.mem = s.dram.mem := (by
         (try simp only [u])
         repeat' (first | (with_reducible rfl) | split)
         all_goals (try simp_all -implicitDefEqProofs)
         all_goals (repeat' (first | (with_reducible rfl) | split))
         all_goals (try simp_all -implicitDefEqProofs)); clear_value u)
    | (extract_lets +onlyGivenNames u; clear_value u)
    | (split <;> (rename_i heq; have hh := snd_mem heq; clear heq))
    | split
    | (refine (foldl_mem _ _ _ ?_).trans ?_)
    | intro _)
  all_goals (try simp_all -implicitDefEqProofs)
  all_goals (repeat' (first | (with_reducible rfl) | split))
  all_goals (try simp_all -implicitDefEqProofs)
@[simp] theorem releaseAlloc_banks (s : State) (pol dl : Nat) (data : PLine) (poison fromSkive : Bool) (lo : Nat) : (releaseAlloc s pol dl data poison fromSkive lo).2.fls.banks = s.fls.banks := by
  unfold releaseAlloc
  repeat' (first
    | (with_reducible rfl)
    | (extract_lets +onlyGivenNames u; have hu : u.fls.banks = s.fls.banks := (by
         (try simp only [u])
         repeat' (first | (with_reducible rfl) | split)
         all_goals (try simp_all -implicitDefEqProofs)
         all_goals (repeat' (first | (with_reducible rfl) | split))
         all_goals (try simp_all -implicitDefEqProofs)); clear_value u)
    | (extract_lets +onlyGivenNames u; clear_value u)
    | (split <;> (rename_i heq; have hh := snd_banks heq; clear heq))
    | split
    | (refine (foldl_banks _ _ _ ?_).trans ?_)
    | intro _)
  all_goals (try simp_all -implicitDefEqProofs)
  all_goals (repeat' (first | (with_reducible rfl) | split))
  all_goals (try simp_all -implicitDefEqProofs)
@[simp] theorem treeRelease_pending (s : State) (gl dl : Nat) (data : PLine) (poison fromSkive : Bool) (lo : Nat) : (treeRelease s gl dl data poison fromSkive lo).2.pending = s.pending := by
  unfold treeRelease
  (try dsimp only)
  repeat' (first | (with_reducible rfl) | split)
  all_goals (try simp_all -implicitDefEqProofs)
  all_goals (repeat' (first | (with_reducible rfl) | split))
  all_goals (try simp_all -implicitDefEqProofs)
@[simp] theorem treeRelease_lck (s : State) (gl dl : Nat) (data : PLine) (poison fromSkive : Bool) (lo : Nat) : (treeRelease s gl dl data poison fromSkive lo).2.lck = s.lck := by
  unfold treeRelease
  (try dsimp only)
  repeat' (first | (with_reducible rfl) | split)
  all_goals (try simp_all -implicitDefEqProofs)
  all_goals (repeat' (first | (with_reducible rfl) | split))
  all_goals (try simp_all -implicitDefEqProofs)
@[simp] theorem treeRelease_ready (s : State) (gl dl : Nat) (data : PLine) (poison fromSkive : Bool) (lo : Nat) : (treeRelease s gl dl data poison fromSkive lo).2.boot.ready = s.boot.ready := by
  unfold treeRelease
  (try dsimp only)
  repeat' (first | (with_reducible rfl) | split)
  all_goals (try simp_all -implicitDefEqProofs)
  all_goals (repeat' (first | (with_reducible rfl) | split))
  all_goals (try simp_all -implicitDefEqProofs)
@[simp] theorem treeRelease_phase (s : State) (gl dl : Nat) (data : PLine) (poison fromSkive : Bool) (lo : Nat) : (treeRelease s gl dl data poison fromSkive lo).2.cin.phase = s.cin.phase := by
  unfold treeRelease
  (try dsimp only)
  repeat' (first | (with_reducible rfl) | split)
  all_goals (try simp_all -implicitDefEqProofs)
  all_goals (repeat' (first | (with_reducible rfl) | split))
  all_goals (try simp_all -implicitDefEqProofs)
@[simp] theorem treeRelease_mem (s : State) (gl dl : Nat) (data : PLine) (poison fromSkive : Bool) (lo : Nat) : (treeRelease s gl dl data poison fromSkive lo).2.dram.mem = s.dram.mem := by
  unfold treeRelease
  (try dsimp only)
  repeat' (first | (with_reducible rfl) | split)
  all_goals (try simp_all -implicitDefEqProofs)
  all_goals (repeat' (first | (with_reducible rfl) | split))
  all_goals (try simp_all -implicitDefEqProofs)
@[simp] theorem treeRelease_banks (s : State) (gl dl : Nat) (data : PLine) (poison fromSkive : Bool) (lo : Nat) : (treeRelease s gl dl data poison fromSkive lo).2.fls.banks = s.fls.banks := by
  unfold treeRelease
  (try dsimp only)
  repeat' (first | (with_reducible rfl) | split)
  all_goals (try simp_all -implicitDefEqProofs)
  all_goals (repeat' (first | (with_reducible rfl) | split))
  all_goals (try simp_all -implicitDefEqProofs)

end Sys2Proof.Laws
end

