-- ==== Sys2Proof/Laws/KeepLxOps.lean ====
section
/-!
SUPPORT. What the operations of LxOps leave alone: one lemma for each operation and each part of the state that it never changes.
-/
namespace Sys2Proof.Laws
open Sys2Proof.Machine
set_option linter.unusedTactic false
set_option linter.unreachableTactic false
set_option linter.unusedVariables false
set_option linter.unusedSimpArgs false

@[simp] theorem lxEpSet_pending (s : State) (e : Nat) (v : LxEp) : (lxEpSet s e v).pending = s.pending := by
  unfold lxEpSet
  (try dsimp only)
  repeat' (first | (with_reducible rfl) | split)
  all_goals (try simp_all -implicitDefEqProofs)
  all_goals (repeat' (first | (with_reducible rfl) | split))
  all_goals (try simp_all -implicitDefEqProofs)
@[simp] theorem lxEpSet_lck (s : State) (e : Nat) (v : LxEp) : (lxEpSet s e v).lck = s.lck := by
  unfold lxEpSet
  (try dsimp only)
  repeat' (first | (with_reducible rfl) | split)
  all_goals (try simp_all -implicitDefEqProofs)
  all_goals (repeat' (first | (with_reducible rfl) | split))
  all_goals (try simp_all -implicitDefEqProofs)
@[simp] theorem lxEpSet_ready (s : State) (e : Nat) (v : LxEp) : (lxEpSet s e v).boot.ready = s.boot.ready := by
  unfold lxEpSet
  (try dsimp only)
  repeat' (first | (with_reducible rfl) | split)
  all_goals (try simp_all -implicitDefEqProofs)
  all_goals (repeat' (first | (with_reducible rfl) | split))
  all_goals (try simp_all -implicitDefEqProofs)
@[simp] theorem lxEpSet_phase (s : State) (e : Nat) (v : LxEp) : (lxEpSet s e v).cin.phase = s.cin.phase := by
  unfold lxEpSet
  (try dsimp only)
  repeat' (first | (with_reducible rfl) | split)
  all_goals (try simp_all -implicitDefEqProofs)
  all_goals (repeat' (first | (with_reducible rfl) | split))
  all_goals (try simp_all -implicitDefEqProofs)
@[simp] theorem lxEpSet_mem (s : State) (e : Nat) (v : LxEp) : (lxEpSet s e v).dram.mem = s.dram.mem := by
  unfold lxEpSet
  (try dsimp only)
  repeat' (first | (with_reducible rfl) | split)
  all_goals (try simp_all -implicitDefEqProofs)
  all_goals (repeat' (first | (with_reducible rfl) | split))
  all_goals (try simp_all -implicitDefEqProofs)
@[simp] theorem lxEpSet_banks (s : State) (e : Nat) (v : LxEp) : (lxEpSet s e v).fls.banks = s.fls.banks := by
  unfold lxEpSet
  (try dsimp only)
  repeat' (first | (with_reducible rfl) | split)
  all_goals (try simp_all -implicitDefEqProofs)
  all_goals (repeat' (first | (with_reducible rfl) | split))
  all_goals (try simp_all -implicitDefEqProofs)
@[simp] theorem lxRingSet_pending (s : State) (e r : Nat) (v : LxRing) : (lxRingSet s e r v).pending = s.pending := by
  unfold lxRingSet
  (try dsimp only)
  repeat' (first | (with_reducible rfl) | split)
  all_goals (try simp_all -implicitDefEqProofs)
  all_goals (repeat' (first | (with_reducible rfl) | split))
  all_goals (try simp_all -implicitDefEqProofs)
@[simp] theorem lxRingSet_lck (s : State) (e r : Nat) (v : LxRing) : (lxRingSet s e r v).lck = s.lck := by
  unfold lxRingSet
  (try dsimp only)
  repeat' (first | (with_reducible rfl) | split)
  all_goals (try simp_all -implicitDefEqProofs)
  all_goals (repeat' (first | (with_reducible rfl) | split))
  all_goals (try simp_all -implicitDefEqProofs)
@[simp] theorem lxRingSet_ready (s : State) (e r : Nat) (v : LxRing) : (lxRingSet s e r v).boot.ready = s.boot.ready := by
  unfold lxRingSet
  (try dsimp only)
  repeat' (first | (with_reducible rfl) | split)
  all_goals (try simp_all -implicitDefEqProofs)
  all_goals (repeat' (first | (with_reducible rfl) | split))
  all_goals (try simp_all -implicitDefEqProofs)
@[simp] theorem lxRingSet_phase (s : State) (e r : Nat) (v : LxRing) : (lxRingSet s e r v).cin.phase = s.cin.phase := by
  unfold lxRingSet
  (try dsimp only)
  repeat' (first | (with_reducible rfl) | split)
  all_goals (try simp_all -implicitDefEqProofs)
  all_goals (repeat' (first | (with_reducible rfl) | split))
  all_goals (try simp_all -implicitDefEqProofs)
@[simp] theorem lxRingSet_mem (s : State) (e r : Nat) (v : LxRing) : (lxRingSet s e r v).dram.mem = s.dram.mem := by
  unfold lxRingSet
  (try dsimp only)
  repeat' (first | (with_reducible rfl) | split)
  all_goals (try simp_all -implicitDefEqProofs)
  all_goals (repeat' (first | (with_reducible rfl) | split))
  all_goals (try simp_all -implicitDefEqProofs)
@[simp] theorem lxRingSet_banks (s : State) (e r : Nat) (v : LxRing) : (lxRingSet s e r v).fls.banks = s.fls.banks := by
  unfold lxRingSet
  (try dsimp only)
  repeat' (first | (with_reducible rfl) | split)
  all_goals (try simp_all -implicitDefEqProofs)
  all_goals (repeat' (first | (with_reducible rfl) | split))
  all_goals (try simp_all -implicitDefEqProofs)
@[simp] theorem lxDone_pending (s : State) (e r idx : Nat) (st : Status) : (lxDone s e r idx st).pending = s.pending := by
  unfold lxDone
  (try dsimp only)
  repeat' (first | (with_reducible rfl) | split)
  all_goals (try simp_all -implicitDefEqProofs)
  all_goals (repeat' (first | (with_reducible rfl) | split))
  all_goals (try simp_all -implicitDefEqProofs)
@[simp] theorem lxDone_lck (s : State) (e r idx : Nat) (st : Status) : (lxDone s e r idx st).lck = s.lck := by
  unfold lxDone
  (try dsimp only)
  repeat' (first | (with_reducible rfl) | split)
  all_goals (try simp_all -implicitDefEqProofs)
  all_goals (repeat' (first | (with_reducible rfl) | split))
  all_goals (try simp_all -implicitDefEqProofs)
@[simp] theorem lxDone_ready (s : State) (e r idx : Nat) (st : Status) : (lxDone s e r idx st).boot.ready = s.boot.ready := by
  unfold lxDone
  (try dsimp only)
  repeat' (first | (with_reducible rfl) | split)
  all_goals (try simp_all -implicitDefEqProofs)
  all_goals (repeat' (first | (with_reducible rfl) | split))
  all_goals (try simp_all -implicitDefEqProofs)
@[simp] theorem lxDone_phase (s : State) (e r idx : Nat) (st : Status) : (lxDone s e r idx st).cin.phase = s.cin.phase := by
  unfold lxDone
  (try dsimp only)
  repeat' (first | (with_reducible rfl) | split)
  all_goals (try simp_all -implicitDefEqProofs)
  all_goals (repeat' (first | (with_reducible rfl) | split))
  all_goals (try simp_all -implicitDefEqProofs)
@[simp] theorem lxDone_mem (s : State) (e r idx : Nat) (st : Status) : (lxDone s e r idx st).dram.mem = s.dram.mem := by
  unfold lxDone
  (try dsimp only)
  repeat' (first | (with_reducible rfl) | split)
  all_goals (try simp_all -implicitDefEqProofs)
  all_goals (repeat' (first | (with_reducible rfl) | split))
  all_goals (try simp_all -implicitDefEqProofs)
@[simp] theorem lxDone_banks (s : State) (e r idx : Nat) (st : Status) : (lxDone s e r idx st).fls.banks = s.fls.banks := by
  unfold lxDone
  (try dsimp only)
  repeat' (first | (with_reducible rfl) | split)
  all_goals (try simp_all -implicitDefEqProofs)
  all_goals (repeat' (first | (with_reducible rfl) | split))
  all_goals (try simp_all -implicitDefEqProofs)

end Sys2Proof.Laws
end

