-- ==== Sys2Proof/Laws/KeepTwinOps.lean ====
section
/-!
SUPPORT. What the operations of TwinOps leave alone: one lemma for each operation and each part of the state that it never changes.
-/
namespace Sys2Proof.Laws
open Sys2Proof.Machine
set_option linter.unusedTactic false
set_option linter.unreachableTactic false
set_option linter.unusedVariables false
set_option linter.unusedSimpArgs false

@[simp] theorem twinSet_pending (s : State) (t : Twin) : (twinSet s t).pending = s.pending := by
  unfold twinSet
  (try dsimp only)
  repeat' (first | (with_reducible rfl) | split)
  all_goals (try simp_all -implicitDefEqProofs)
  all_goals (repeat' (first | (with_reducible rfl) | split))
  all_goals (try simp_all -implicitDefEqProofs)
@[simp] theorem twinSet_lck (s : State) (t : Twin) : (twinSet s t).lck = s.lck := by
  unfold twinSet
  (try dsimp only)
  repeat' (first | (with_reducible rfl) | split)
  all_goals (try simp_all -implicitDefEqProofs)
  all_goals (repeat' (first | (with_reducible rfl) | split))
  all_goals (try simp_all -implicitDefEqProofs)
@[simp] theorem twinSet_ready (s : State) (t : Twin) : (twinSet s t).boot.ready = s.boot.ready := by
  unfold twinSet
  (try dsimp only)
  repeat' (first | (with_reducible rfl) | split)
  all_goals (try simp_all -implicitDefEqProofs)
  all_goals (repeat' (first | (with_reducible rfl) | split))
  all_goals (try simp_all -implicitDefEqProofs)
@[simp] theorem twinSet_phase (s : State) (t : Twin) : (twinSet s t).cin.phase = s.cin.phase := by
  unfold twinSet
  (try dsimp only)
  repeat' (first | (with_reducible rfl) | split)
  all_goals (try simp_all -implicitDefEqProofs)
  all_goals (repeat' (first | (with_reducible rfl) | split))
  all_goals (try simp_all -implicitDefEqProofs)
@[simp] theorem twinSet_mem (s : State) (t : Twin) : (twinSet s t).dram.mem = s.dram.mem := by
  unfold twinSet
  (try dsimp only)
  repeat' (first | (with_reducible rfl) | split)
  all_goals (try simp_all -implicitDefEqProofs)
  all_goals (repeat' (first | (with_reducible rfl) | split))
  all_goals (try simp_all -implicitDefEqProofs)
@[simp] theorem twinSet_banks (s : State) (t : Twin) : (twinSet s t).fls.banks = s.fls.banks := by
  unfold twinSet
  (try dsimp only)
  repeat' (first | (with_reducible rfl) | split)
  all_goals (try simp_all -implicitDefEqProofs)
  all_goals (repeat' (first | (with_reducible rfl) | split))
  all_goals (try simp_all -implicitDefEqProofs)
@[simp] theorem mirrorSend_pending (s : State) (gl : Nat) (data : PLine) : (mirrorSend s gl data).pending = s.pending := by
  unfold mirrorSend
  (try dsimp only)
  repeat' (first | (with_reducible rfl) | split)
  all_goals (try simp_all -implicitDefEqProofs)
  all_goals (repeat' (first | (with_reducible rfl) | split))
  all_goals (try simp_all -implicitDefEqProofs)
@[simp] theorem mirrorSend_lck (s : State) (gl : Nat) (data : PLine) : (mirrorSend s gl data).lck = s.lck := by
  unfold mirrorSend
  (try dsimp only)
  repeat' (first | (with_reducible rfl) | split)
  all_goals (try simp_all -implicitDefEqProofs)
  all_goals (repeat' (first | (with_reducible rfl) | split))
  all_goals (try simp_all -implicitDefEqProofs)
@[simp] theorem mirrorSend_ready (s : State) (gl : Nat) (data : PLine) : (mirrorSend s gl data).boot.ready = s.boot.ready := by
  unfold mirrorSend
  (try dsimp only)
  repeat' (first | (with_reducible rfl) | split)
  all_goals (try simp_all -implicitDefEqProofs)
  all_goals (repeat' (first | (with_reducible rfl) | split))
  all_goals (try simp_all -implicitDefEqProofs)
@[simp] theorem mirrorSend_phase (s : State) (gl : Nat) (data : PLine) : (mirrorSend s gl data).cin.phase = s.cin.phase := by
  unfold mirrorSend
  (try dsimp only)
  repeat' (first | (with_reducible rfl) | split)
  all_goals (try simp_all -implicitDefEqProofs)
  all_goals (repeat' (first | (with_reducible rfl) | split))
  all_goals (try simp_all -implicitDefEqProofs)
@[simp] theorem mirrorSend_mem (s : State) (gl : Nat) (data : PLine) : (mirrorSend s gl data).dram.mem = s.dram.mem := by
  unfold mirrorSend
  (try dsimp only)
  repeat' (first | (with_reducible rfl) | split)
  all_goals (try simp_all -implicitDefEqProofs)
  all_goals (repeat' (first | (with_reducible rfl) | split))
  all_goals (try simp_all -implicitDefEqProofs)
@[simp] theorem mirrorSend_banks (s : State) (gl : Nat) (data : PLine) : (mirrorSend s gl data).fls.banks = s.fls.banks := by
  unfold mirrorSend
  (try dsimp only)
  repeat' (first | (with_reducible rfl) | split)
  all_goals (try simp_all -implicitDefEqProofs)
  all_goals (repeat' (first | (with_reducible rfl) | split))
  all_goals (try simp_all -implicitDefEqProofs)
@[simp] theorem mirrorLine_pending (s : State) (gl : Nat) (data : PLine) : (mirrorLine s gl data).pending = s.pending := by
  unfold mirrorLine
  (try dsimp only)
  repeat' (first | (with_reducible rfl) | split)
  all_goals (try simp_all -implicitDefEqProofs)
  all_goals (repeat' (first | (with_reducible rfl) | split))
  all_goals (try simp_all -implicitDefEqProofs)
@[simp] theorem mirrorLine_lck (s : State) (gl : Nat) (data : PLine) : (mirrorLine s gl data).lck = s.lck := by
  unfold mirrorLine
  (try dsimp only)
  repeat' (first | (with_reducible rfl) | split)
  all_goals (try simp_all -implicitDefEqProofs)
  all_goals (repeat' (first | (with_reducible rfl) | split))
  all_goals (try simp_all -implicitDefEqProofs)
@[simp] theorem mirrorLine_ready (s : State) (gl : Nat) (data : PLine) : (mirrorLine s gl data).boot.ready = s.boot.ready := by
  unfold mirrorLine
  (try dsimp only)
  repeat' (first | (with_reducible rfl) | split)
  all_goals (try simp_all -implicitDefEqProofs)
  all_goals (repeat' (first | (with_reducible rfl) | split))
  all_goals (try simp_all -implicitDefEqProofs)
@[simp] theorem mirrorLine_phase (s : State) (gl : Nat) (data : PLine) : (mirrorLine s gl data).cin.phase = s.cin.phase := by
  unfold mirrorLine
  (try dsimp only)
  repeat' (first | (with_reducible rfl) | split)
  all_goals (try simp_all -implicitDefEqProofs)
  all_goals (repeat' (first | (with_reducible rfl) | split))
  all_goals (try simp_all -implicitDefEqProofs)
@[simp] theorem mirrorLine_mem (s : State) (gl : Nat) (data : PLine) : (mirrorLine s gl data).dram.mem = s.dram.mem := by
  unfold mirrorLine
  (try dsimp only)
  repeat' (first | (with_reducible rfl) | split)
  all_goals (try simp_all -implicitDefEqProofs)
  all_goals (repeat' (first | (with_reducible rfl) | split))
  all_goals (try simp_all -implicitDefEqProofs)
@[simp] theorem mirrorLine_banks (s : State) (gl : Nat) (data : PLine) : (mirrorLine s gl data).fls.banks = s.fls.banks := by
  unfold mirrorLine
  (try dsimp only)
  repeat' (first | (with_reducible rfl) | split)
  all_goals (try simp_all -implicitDefEqProofs)
  all_goals (repeat' (first | (with_reducible rfl) | split))
  all_goals (try simp_all -implicitDefEqProofs)
@[simp] theorem poolStore_pending (s : State) (f : MirFrame) : (poolStore s f).pending = s.pending := by
  unfold poolStore
  (try dsimp only)
  repeat' (first | (with_reducible rfl) | split)
  all_goals (try simp_all -implicitDefEqProofs)
  all_goals (repeat' (first | (with_reducible rfl) | split))
  all_goals (try simp_all -implicitDefEqProofs)
@[simp] theorem poolStore_lck (s : State) (f : MirFrame) : (poolStore s f).lck = s.lck := by
  unfold poolStore
  (try dsimp only)
  repeat' (first | (with_reducible rfl) | split)
  all_goals (try simp_all -implicitDefEqProofs)
  all_goals (repeat' (first | (with_reducible rfl) | split))
  all_goals (try simp_all -implicitDefEqProofs)
@[simp] theorem poolStore_ready (s : State) (f : MirFrame) : (poolStore s f).boot.ready = s.boot.ready := by
  unfold poolStore
  (try dsimp only)
  repeat' (first | (with_reducible rfl) | split)
  all_goals (try simp_all -implicitDefEqProofs)
  all_goals (repeat' (first | (with_reducible rfl) | split))
  all_goals (try simp_all -implicitDefEqProofs)
@[simp] theorem poolStore_phase (s : State) (f : MirFrame) : (poolStore s f).cin.phase = s.cin.phase := by
  unfold poolStore
  (try dsimp only)
  repeat' (first | (with_reducible rfl) | split)
  all_goals (try simp_all -implicitDefEqProofs)
  all_goals (repeat' (first | (with_reducible rfl) | split))
  all_goals (try simp_all -implicitDefEqProofs)
@[simp] theorem poolStore_mem (s : State) (f : MirFrame) : (poolStore s f).dram.mem = s.dram.mem := by
  unfold poolStore
  (try dsimp only)
  repeat' (first | (with_reducible rfl) | split)
  all_goals (try simp_all -implicitDefEqProofs)
  all_goals (repeat' (first | (with_reducible rfl) | split))
  all_goals (try simp_all -implicitDefEqProofs)
@[simp] theorem poolStore_banks (s : State) (f : MirFrame) : (poolStore s f).fls.banks = s.fls.banks := by
  unfold poolStore
  (try dsimp only)
  repeat' (first | (with_reducible rfl) | split)
  all_goals (try simp_all -implicitDefEqProofs)
  all_goals (repeat' (first | (with_reducible rfl) | split))
  all_goals (try simp_all -implicitDefEqProofs)
@[simp] theorem sendMirrorAck_pending (s : State) : (sendMirrorAck s).pending = s.pending := by
  unfold sendMirrorAck
  (try dsimp only)
  repeat' (first | (with_reducible rfl) | split)
  all_goals (try simp_all -implicitDefEqProofs)
  all_goals (repeat' (first | (with_reducible rfl) | split))
  all_goals (try simp_all -implicitDefEqProofs)
@[simp] theorem sendMirrorAck_lck (s : State) : (sendMirrorAck s).lck = s.lck := by
  unfold sendMirrorAck
  (try dsimp only)
  repeat' (first | (with_reducible rfl) | split)
  all_goals (try simp_all -implicitDefEqProofs)
  all_goals (repeat' (first | (with_reducible rfl) | split))
  all_goals (try simp_all -implicitDefEqProofs)
@[simp] theorem sendMirrorAck_ready (s : State) : (sendMirrorAck s).boot.ready = s.boot.ready := by
  unfold sendMirrorAck
  (try dsimp only)
  repeat' (first | (with_reducible rfl) | split)
  all_goals (try simp_all -implicitDefEqProofs)
  all_goals (repeat' (first | (with_reducible rfl) | split))
  all_goals (try simp_all -implicitDefEqProofs)
@[simp] theorem sendMirrorAck_phase (s : State) : (sendMirrorAck s).cin.phase = s.cin.phase := by
  unfold sendMirrorAck
  (try dsimp only)
  repeat' (first | (with_reducible rfl) | split)
  all_goals (try simp_all -implicitDefEqProofs)
  all_goals (repeat' (first | (with_reducible rfl) | split))
  all_goals (try simp_all -implicitDefEqProofs)
@[simp] theorem sendMirrorAck_mem (s : State) : (sendMirrorAck s).dram.mem = s.dram.mem := by
  unfold sendMirrorAck
  (try dsimp only)
  repeat' (first | (with_reducible rfl) | split)
  all_goals (try simp_all -implicitDefEqProofs)
  all_goals (repeat' (first | (with_reducible rfl) | split))
  all_goals (try simp_all -implicitDefEqProofs)
@[simp] theorem sendMirrorAck_banks (s : State) : (sendMirrorAck s).fls.banks = s.fls.banks := by
  unfold sendMirrorAck
  (try dsimp only)
  repeat' (first | (with_reducible rfl) | split)
  all_goals (try simp_all -implicitDefEqProofs)
  all_goals (repeat' (first | (with_reducible rfl) | split))
  all_goals (try simp_all -implicitDefEqProofs)
@[simp] theorem poolDrain_pending (s : State) (k : Nat) : (poolDrain s k).pending = s.pending := by
  induction k generalizing s with
  | zero => rfl
  | succ k ih =>
    unfold poolDrain
    split
    · simp
    · split
      · rw [ih]; simp
      · rfl
@[simp] theorem poolDrain_ready (s : State) (k : Nat) : (poolDrain s k).boot.ready = s.boot.ready := by
  induction k generalizing s with
  | zero => rfl
  | succ k ih =>
    unfold poolDrain
    split
    · simp
    · split
      · rw [ih]; simp
      · rfl
@[simp] theorem poolDrain_phase (s : State) (k : Nat) : (poolDrain s k).cin.phase = s.cin.phase := by
  induction k generalizing s with
  | zero => rfl
  | succ k ih =>
    unfold poolDrain
    split
    · simp
    · split
      · rw [ih]; simp
      · rfl
@[simp] theorem poolDrain_mem (s : State) (k : Nat) : (poolDrain s k).dram.mem = s.dram.mem := by
  induction k generalizing s with
  | zero => rfl
  | succ k ih =>
    unfold poolDrain
    split
    · simp
    · split
      · rw [ih]; simp
      · rfl
@[simp] theorem poolDrain_banks (s : State) (k : Nat) : (poolDrain s k).fls.banks = s.fls.banks := by
  induction k generalizing s with
  | zero => rfl
  | succ k ih =>
    unfold poolDrain
    split
    · simp
    · split
      · rw [ih]; simp
      · rfl

end Sys2Proof.Laws
end

