-- ==== Sys2Proof/Laws/KeepPersistOps.lean ====
section
/-!
SUPPORT. What the operations of PersistOps leave alone: one lemma for each operation and each part of the state that it never changes.
-/
namespace Sys2Proof.Laws
open Sys2Proof.Machine
set_option linter.unusedTactic false
set_option linter.unreachableTactic false
set_option linter.unusedVariables false
set_option linter.unusedSimpArgs false

@[simp] theorem hhSet_pending (s : State) (gl : Nat) (v : Bool) : (hhSet s gl v).pending = s.pending := by
  unfold hhSet
  (try dsimp only)
  repeat' (first | (with_reducible rfl) | split)
  all_goals (try simp_all -implicitDefEqProofs)
  all_goals (repeat' (first | (with_reducible rfl) | split))
  all_goals (try simp_all -implicitDefEqProofs)
@[simp] theorem hhSet_lck (s : State) (gl : Nat) (v : Bool) : (hhSet s gl v).lck = s.lck := by
  unfold hhSet
  (try dsimp only)
  repeat' (first | (with_reducible rfl) | split)
  all_goals (try simp_all -implicitDefEqProofs)
  all_goals (repeat' (first | (with_reducible rfl) | split))
  all_goals (try simp_all -implicitDefEqProofs)
@[simp] theorem hhSet_ready (s : State) (gl : Nat) (v : Bool) : (hhSet s gl v).boot.ready = s.boot.ready := by
  unfold hhSet
  (try dsimp only)
  repeat' (first | (with_reducible rfl) | split)
  all_goals (try simp_all -implicitDefEqProofs)
  all_goals (repeat' (first | (with_reducible rfl) | split))
  all_goals (try simp_all -implicitDefEqProofs)
@[simp] theorem hhSet_phase (s : State) (gl : Nat) (v : Bool) : (hhSet s gl v).cin.phase = s.cin.phase := by
  unfold hhSet
  (try dsimp only)
  repeat' (first | (with_reducible rfl) | split)
  all_goals (try simp_all -implicitDefEqProofs)
  all_goals (repeat' (first | (with_reducible rfl) | split))
  all_goals (try simp_all -implicitDefEqProofs)
@[simp] theorem hhSet_mem (s : State) (gl : Nat) (v : Bool) : (hhSet s gl v).dram.mem = s.dram.mem := by
  unfold hhSet
  (try dsimp only)
  repeat' (first | (with_reducible rfl) | split)
  all_goals (try simp_all -implicitDefEqProofs)
  all_goals (repeat' (first | (with_reducible rfl) | split))
  all_goals (try simp_all -implicitDefEqProofs)
@[simp] theorem hhSet_banks (s : State) (gl : Nat) (v : Bool) : (hhSet s gl v).fls.banks = s.fls.banks := by
  unfold hhSet
  (try dsimp only)
  repeat' (first | (with_reducible rfl) | split)
  all_goals (try simp_all -implicitDefEqProofs)
  all_goals (repeat' (first | (with_reducible rfl) | split))
  all_goals (try simp_all -implicitDefEqProofs)
@[simp] theorem writerFinished_pending (s : State) (who : Writer) : (writerFinished s who).pending = s.pending := by
  unfold writerFinished
  (try dsimp only)
  repeat' (first | (with_reducible rfl) | split)
  all_goals (try simp_all -implicitDefEqProofs)
  all_goals (repeat' (first | (with_reducible rfl) | split))
  all_goals (try simp_all -implicitDefEqProofs)
@[simp] theorem writerFinished_lck (s : State) (who : Writer) : (writerFinished s who).lck = s.lck := by
  unfold writerFinished
  (try dsimp only)
  repeat' (first | (with_reducible rfl) | split)
  all_goals (try simp_all -implicitDefEqProofs)
  all_goals (repeat' (first | (with_reducible rfl) | split))
  all_goals (try simp_all -implicitDefEqProofs)
@[simp] theorem writerFinished_ready (s : State) (who : Writer) : (writerFinished s who).boot.ready = s.boot.ready := by
  unfold writerFinished
  (try dsimp only)
  repeat' (first | (with_reducible rfl) | split)
  all_goals (try simp_all -implicitDefEqProofs)
  all_goals (repeat' (first | (with_reducible rfl) | split))
  all_goals (try simp_all -implicitDefEqProofs)
@[simp] theorem writerFinished_phase (s : State) (who : Writer) : (writerFinished s who).cin.phase = s.cin.phase := by
  unfold writerFinished
  (try dsimp only)
  repeat' (first | (with_reducible rfl) | split)
  all_goals (try simp_all -implicitDefEqProofs)
  all_goals (repeat' (first | (with_reducible rfl) | split))
  all_goals (try simp_all -implicitDefEqProofs)
@[simp] theorem writerFinished_mem (s : State) (who : Writer) : (writerFinished s who).dram.mem = s.dram.mem := by
  unfold writerFinished
  (try dsimp only)
  repeat' (first | (with_reducible rfl) | split)
  all_goals (try simp_all -implicitDefEqProofs)
  all_goals (repeat' (first | (with_reducible rfl) | split))
  all_goals (try simp_all -implicitDefEqProofs)
@[simp] theorem writerFinished_banks (s : State) (who : Writer) : (writerFinished s who).fls.banks = s.fls.banks := by
  unfold writerFinished
  (try dsimp only)
  repeat' (first | (with_reducible rfl) | split)
  all_goals (try simp_all -implicitDefEqProofs)
  all_goals (repeat' (first | (with_reducible rfl) | split))
  all_goals (try simp_all -implicitDefEqProofs)
@[simp] theorem lineCompleted_pending (s : State) (who : Writer) : (lineCompleted s who).pending = s.pending := by
  unfold lineCompleted
  (try dsimp only)
  repeat' (first | (with_reducible rfl) | split)
  all_goals (try simp_all -implicitDefEqProofs)
  all_goals (repeat' (first | (with_reducible rfl) | split))
  all_goals (try simp_all -implicitDefEqProofs)
@[simp] theorem lineCompleted_lck (s : State) (who : Writer) : (lineCompleted s who).lck = s.lck := by
  unfold lineCompleted
  (try dsimp only)
  repeat' (first | (with_reducible rfl) | split)
  all_goals (try simp_all -implicitDefEqProofs)
  all_goals (repeat' (first | (with_reducible rfl) | split))
  all_goals (try simp_all -implicitDefEqProofs)
@[simp] theorem lineCompleted_ready (s : State) (who : Writer) : (lineCompleted s who).boot.ready = s.boot.ready := by
  unfold lineCompleted
  (try dsimp only)
  repeat' (first | (with_reducible rfl) | split)
  all_goals (try simp_all -implicitDefEqProofs)
  all_goals (repeat' (first | (with_reducible rfl) | split))
  all_goals (try simp_all -implicitDefEqProofs)
@[simp] theorem lineCompleted_phase (s : State) (who : Writer) : (lineCompleted s who).cin.phase = s.cin.phase := by
  unfold lineCompleted
  (try dsimp only)
  repeat' (first | (with_reducible rfl) | split)
  all_goals (try simp_all -implicitDefEqProofs)
  all_goals (repeat' (first | (with_reducible rfl) | split))
  all_goals (try simp_all -implicitDefEqProofs)
@[simp] theorem lineCompleted_mem (s : State) (who : Writer) : (lineCompleted s who).dram.mem = s.dram.mem := by
  unfold lineCompleted
  (try dsimp only)
  repeat' (first | (with_reducible rfl) | split)
  all_goals (try simp_all -implicitDefEqProofs)
  all_goals (repeat' (first | (with_reducible rfl) | split))
  all_goals (try simp_all -implicitDefEqProofs)
@[simp] theorem lineCompleted_banks (s : State) (who : Writer) : (lineCompleted s who).fls.banks = s.fls.banks := by
  unfold lineCompleted
  (try dsimp only)
  repeat' (first | (with_reducible rfl) | split)
  all_goals (try simp_all -implicitDefEqProofs)
  all_goals (repeat' (first | (with_reducible rfl) | split))
  all_goals (try simp_all -implicitDefEqProofs)
@[simp] theorem postedReads_pending (s : State) (port : Nat) : (postedReads s port).pending = s.pending := by
  unfold postedReads
  (try dsimp only)
  repeat' (first | (with_reducible rfl) | split)
  all_goals (try simp_all -implicitDefEqProofs)
  all_goals (repeat' (first | (with_reducible rfl) | split))
  all_goals (try simp_all -implicitDefEqProofs)
@[simp] theorem postedReads_lck (s : State) (port : Nat) : (postedReads s port).lck = s.lck := by
  unfold postedReads
  (try dsimp only)
  repeat' (first | (with_reducible rfl) | split)
  all_goals (try simp_all -implicitDefEqProofs)
  all_goals (repeat' (first | (with_reducible rfl) | split))
  all_goals (try simp_all -implicitDefEqProofs)
@[simp] theorem postedReads_ready (s : State) (port : Nat) : (postedReads s port).boot.ready = s.boot.ready := by
  unfold postedReads
  (try dsimp only)
  repeat' (first | (with_reducible rfl) | split)
  all_goals (try simp_all -implicitDefEqProofs)
  all_goals (repeat' (first | (with_reducible rfl) | split))
  all_goals (try simp_all -implicitDefEqProofs)
@[simp] theorem postedReads_phase (s : State) (port : Nat) : (postedReads s port).cin.phase = s.cin.phase := by
  unfold postedReads
  (try dsimp only)
  repeat' (first | (with_reducible rfl) | split)
  all_goals (try simp_all -implicitDefEqProofs)
  all_goals (repeat' (first | (with_reducible rfl) | split))
  all_goals (try simp_all -implicitDefEqProofs)
@[simp] theorem postedReads_mem (s : State) (port : Nat) : (postedReads s port).dram.mem = s.dram.mem := by
  unfold postedReads
  (try dsimp only)
  repeat' (first | (with_reducible rfl) | split)
  all_goals (try simp_all -implicitDefEqProofs)
  all_goals (repeat' (first | (with_reducible rfl) | split))
  all_goals (try simp_all -implicitDefEqProofs)
@[simp] theorem postedReads_banks (s : State) (port : Nat) : (postedReads s port).fls.banks = s.fls.banks := by
  unfold postedReads
  (try dsimp only)
  repeat' (first | (with_reducible rfl) | split)
  all_goals (try simp_all -implicitDefEqProofs)
  all_goals (repeat' (first | (with_reducible rfl) | split))
  all_goals (try simp_all -implicitDefEqProofs)
@[simp] theorem sendCompletion_pending (s : State) (w : HeldWrite) : (sendCompletion s w).pending = s.pending := by
  unfold sendCompletion
  (try dsimp only)
  repeat' (first | (with_reducible rfl) | split)
  all_goals (try simp_all -implicitDefEqProofs)
  all_goals (repeat' (first | (with_reducible rfl) | split))
  all_goals (try simp_all -implicitDefEqProofs)
@[simp] theorem sendCompletion_lck (s : State) (w : HeldWrite) : (sendCompletion s w).lck = s.lck := by
  unfold sendCompletion
  (try dsimp only)
  repeat' (first | (with_reducible rfl) | split)
  all_goals (try simp_all -implicitDefEqProofs)
  all_goals (repeat' (first | (with_reducible rfl) | split))
  all_goals (try simp_all -implicitDefEqProofs)
@[simp] theorem sendCompletion_ready (s : State) (w : HeldWrite) : (sendCompletion s w).boot.ready = s.boot.ready := by
  unfold sendCompletion
  (try dsimp only)
  repeat' (first | (with_reducible rfl) | split)
  all_goals (try simp_all -implicitDefEqProofs)
  all_goals (repeat' (first | (with_reducible rfl) | split))
  all_goals (try simp_all -implicitDefEqProofs)
@[simp] theorem sendCompletion_phase (s : State) (w : HeldWrite) : (sendCompletion s w).cin.phase = s.cin.phase := by
  unfold sendCompletion
  (try dsimp only)
  repeat' (first | (with_reducible rfl) | split)
  all_goals (try simp_all -implicitDefEqProofs)
  all_goals (repeat' (first | (with_reducible rfl) | split))
  all_goals (try simp_all -implicitDefEqProofs)
@[simp] theorem sendCompletion_mem (s : State) (w : HeldWrite) : (sendCompletion s w).dram.mem = s.dram.mem := by
  unfold sendCompletion
  (try dsimp only)
  repeat' (first | (with_reducible rfl) | split)
  all_goals (try simp_all -implicitDefEqProofs)
  all_goals (repeat' (first | (with_reducible rfl) | split))
  all_goals (try simp_all -implicitDefEqProofs)
@[simp] theorem sendCompletion_banks (s : State) (w : HeldWrite) : (sendCompletion s w).fls.banks = s.fls.banks := by
  unfold sendCompletion
  (try dsimp only)
  repeat' (first | (with_reducible rfl) | split)
  all_goals (try simp_all -implicitDefEqProofs)
  all_goals (repeat' (first | (with_reducible rfl) | split))
  all_goals (try simp_all -implicitDefEqProofs)
@[simp] theorem mirrorAfter_pending (s : State) (w : HeldWrite) : (mirrorAfter s w).pending = s.pending := by
  unfold mirrorAfter
  (try dsimp only)
  repeat' (first | (with_reducible rfl) | split)
  all_goals (try simp_all -implicitDefEqProofs)
  all_goals (repeat' (first | (with_reducible rfl) | split))
  all_goals (try simp_all -implicitDefEqProofs)
@[simp] theorem mirrorAfter_lck (s : State) (w : HeldWrite) : (mirrorAfter s w).lck = s.lck := by
  unfold mirrorAfter
  (try dsimp only)
  repeat' (first | (with_reducible rfl) | split)
  all_goals (try simp_all -implicitDefEqProofs)
  all_goals (repeat' (first | (with_reducible rfl) | split))
  all_goals (try simp_all -implicitDefEqProofs)
@[simp] theorem mirrorAfter_ready (s : State) (w : HeldWrite) : (mirrorAfter s w).boot.ready = s.boot.ready := by
  unfold mirrorAfter
  (try dsimp only)
  repeat' (first | (with_reducible rfl) | split)
  all_goals (try simp_all -implicitDefEqProofs)
  all_goals (repeat' (first | (with_reducible rfl) | split))
  all_goals (try simp_all -implicitDefEqProofs)
@[simp] theorem mirrorAfter_phase (s : State) (w : HeldWrite) : (mirrorAfter s w).cin.phase = s.cin.phase := by
  unfold mirrorAfter
  (try dsimp only)
  repeat' (first | (with_reducible rfl) | split)
  all_goals (try simp_all -implicitDefEqProofs)
  all_goals (repeat' (first | (with_reducible rfl) | split))
  all_goals (try simp_all -implicitDefEqProofs)
@[simp] theorem mirrorAfter_mem (s : State) (w : HeldWrite) : (mirrorAfter s w).dram.mem = s.dram.mem := by
  unfold mirrorAfter
  (try dsimp only)
  repeat' (first | (with_reducible rfl) | split)
  all_goals (try simp_all -implicitDefEqProofs)
  all_goals (repeat' (first | (with_reducible rfl) | split))
  all_goals (try simp_all -implicitDefEqProofs)
@[simp] theorem mirrorAfter_banks (s : State) (w : HeldWrite) : (mirrorAfter s w).fls.banks = s.fls.banks := by
  unfold mirrorAfter
  (try dsimp only)
  repeat' (first | (with_reducible rfl) | split)
  all_goals (try simp_all -implicitDefEqProofs)
  all_goals (repeat' (first | (with_reducible rfl) | split))
  all_goals (try simp_all -implicitDefEqProofs)
@[simp] theorem tryComplete_pending (s : State) (id : Nat) : (tryComplete s id).pending = s.pending := by
  unfold tryComplete
  repeat' (first
    | (with_reducible rfl)
    | (extract_lets +onlyGivenNames u; have hu : u.pending = s.pending := (by
         (try simp only [u])
         repeat' (first | (with_reducible rfl) | split)
         all_goals (try simp_all -implicitDefEqProofs)
         all_goals (repeat' (first | (with_reducible rfl) | split))
         all_goals (try simp_all -implicitDefEqProofs)); clear_value u)
    | (extract_lets +onlyGivenNames u; clear_value u)
    | (split <;> (rename_i heq; have hh := snd_pending heq; clear heq))
    | split
    | (refine (foldl_pending _ _ _ ?_).trans ?_)
    | intro _)
  all_goals (try simp_all -implicitDefEqProofs)
  all_goals (repeat' (first | (with_reducible rfl) | split))
  all_goals (try simp_all -implicitDefEqProofs)
@[simp] theorem tryComplete_lck (s : State) (id : Nat) : (tryComplete s id).lck = s.lck := by
  unfold tryComplete
  repeat' (first
    | (with_reducible rfl)
    | (extract_lets +onlyGivenNames u; have hu : u.lck = s.lck := (by
         (try simp only [u])
         repeat' (first | (with_reducible rfl) | split)
         all_goals (try simp_all -implicitDefEqProofs)
         all_goals (repeat' (first | (with_reducible rfl) | split))
         all_goals (try simp_all -implicitDefEqProofs)); clear_value u)
    | (extract_lets +onlyGivenNames u; clear_value u)
    | (split <;> (rename_i heq; have hh := snd_lck heq; clear heq))
    | split
    | (refine (foldl_lck _ _ _ ?_).trans ?_)
    | intro _)
  all_goals (try simp_all -implicitDefEqProofs)
  all_goals (repeat' (first | (with_reducible rfl) | split))
  all_goals (try simp_all -implicitDefEqProofs)
@[simp] theorem tryComplete_ready (s : State) (id : Nat) : (tryComplete s id).boot.ready = s.boot.ready := by
  unfold tryComplete
  repeat' (first
    | (with_reducible rfl)
    | (extract_lets +onlyGivenNames u; have hu : u.boot.ready = s.boot.ready := (by
         (try simp only [u])
         repeat' (first | (with_reducible rfl) | split)
         all_goals (try simp_all -implicitDefEqProofs)
         all_goals (repeat' (first | (with_reducible rfl) | split))
         all_goals (try simp_all -implicitDefEqProofs)); clear_value u)
    | (extract_lets +onlyGivenNames u; clear_value u)
    | (split <;> (rename_i heq; have hh := snd_ready heq; clear heq))
    | split
    | (refine (foldl_ready _ _ _ ?_).trans ?_)
    | intro _)
  all_goals (try simp_all -implicitDefEqProofs)
  all_goals (repeat' (first | (with_reducible rfl) | split))
  all_goals (try simp_all -implicitDefEqProofs)
@[simp] theorem tryComplete_phase (s : State) (id : Nat) : (tryComplete s id).cin.phase = s.cin.phase := by
  unfold tryComplete
  repeat' (first
    | (with_reducible rfl)
    | (extract_lets +onlyGivenNames u; have hu : u.cin.phase = s.cin.phase := (by
         (try simp only [u])
         repeat' (first | (with_reducible rfl) | split)
         all_goals (try simp_all -implicitDefEqProofs)
         all_goals (repeat' (first | (with_reducible rfl) | split))
         all_goals (try simp_all -implicitDefEqProofs)); clear_value u)
    | (extract_lets +onlyGivenNames u; clear_value u)
    | (split <;> (rename_i heq; have hh := snd_phase heq; clear heq))
    | split
    | (refine (foldl_phase _ _ _ ?_).trans ?_)
    | intro _)
  all_goals (try simp_all -implicitDefEqProofs)
  all_goals (repeat' (first | (with_reducible rfl) | split))
  all_goals (try simp_all -implicitDefEqProofs)
@[simp] theorem tryComplete_mem (s : State) (id : Nat) : (tryComplete s id).dram.mem = s.dram.mem := by
  unfold tryComplete
  repeat' (first
    | (with_reducible rfl)
    | (extract_lets +onlyGivenNames u; have hu : u.dram.mem = s.dram.mem := (by
         (try simp only [u])
         repeat' (first | (with_reducible rfl) | split)
         all_goals (try simp_all -implicitDefEqProofs)
         all_goals (repeat' (first | (with_reducible rfl) | split))
         all_goals (try simp_all -implicitDefEqProofs)); clear_value u)
    | (extract_lets +onlyGivenNames u; clear_value u)
    | (split <;> (rename_i heq; have hh := snd_mem heq; clear heq))
    | split
    | (refine (foldl_mem _ _ _ ?_).trans ?_)
    | intro _)
  all_goals (try simp_all -implicitDefEqProofs)
  all_goals (repeat' (first | (with_reducible rfl) | split))
  all_goals (try simp_all -implicitDefEqProofs)
@[simp] theorem tryComplete_banks (s : State) (id : Nat) : (tryComplete s id).fls.banks = s.fls.banks := by
  unfold tryComplete
  repeat' (first
    | (with_reducible rfl)
    | (extract_lets +onlyGivenNames u; have hu : u.fls.banks = s.fls.banks := (by
         (try simp only [u])
         repeat' (first | (with_reducible rfl) | split)
         all_goals (try simp_all -implicitDefEqProofs)
         all_goals (repeat' (first | (with_reducible rfl) | split))
         all_goals (try simp_all -implicitDefEqProofs)); clear_value u)
    | (extract_lets +onlyGivenNames u; clear_value u)
    | (split <;> (rename_i heq; have hh := snd_banks heq; clear heq))
    | split
    | (refine (foldl_banks _ _ _ ?_).trans ?_)
    | intro _)
  all_goals (try simp_all -implicitDefEqProofs)
  all_goals (repeat' (first | (with_reducible rfl) | split))
  all_goals (try simp_all -implicitDefEqProofs)
@[simp] theorem completeAll_pending (s : State) : (completeAll s).pending = s.pending := by
  unfold completeAll
  (try dsimp only)
  repeat' (first | (with_reducible rfl) | split)
  all_goals (try simp_all -implicitDefEqProofs)
  all_goals (repeat' (first | (with_reducible rfl) | split))
  all_goals (try simp_all -implicitDefEqProofs)
@[simp] theorem completeAll_lck (s : State) : (completeAll s).lck = s.lck := by
  unfold completeAll
  (try dsimp only)
  repeat' (first | (with_reducible rfl) | split)
  all_goals (try simp_all -implicitDefEqProofs)
  all_goals (repeat' (first | (with_reducible rfl) | split))
  all_goals (try simp_all -implicitDefEqProofs)
@[simp] theorem completeAll_ready (s : State) : (completeAll s).boot.ready = s.boot.ready := by
  unfold completeAll
  (try dsimp only)
  repeat' (first | (with_reducible rfl) | split)
  all_goals (try simp_all -implicitDefEqProofs)
  all_goals (repeat' (first | (with_reducible rfl) | split))
  all_goals (try simp_all -implicitDefEqProofs)
@[simp] theorem completeAll_phase (s : State) : (completeAll s).cin.phase = s.cin.phase := by
  unfold completeAll
  (try dsimp only)
  repeat' (first | (with_reducible rfl) | split)
  all_goals (try simp_all -implicitDefEqProofs)
  all_goals (repeat' (first | (with_reducible rfl) | split))
  all_goals (try simp_all -implicitDefEqProofs)
@[simp] theorem completeAll_mem (s : State) : (completeAll s).dram.mem = s.dram.mem := by
  unfold completeAll
  (try dsimp only)
  repeat' (first | (with_reducible rfl) | split)
  all_goals (try simp_all -implicitDefEqProofs)
  all_goals (repeat' (first | (with_reducible rfl) | split))
  all_goals (try simp_all -implicitDefEqProofs)
@[simp] theorem completeAll_banks (s : State) : (completeAll s).fls.banks = s.fls.banks := by
  unfold completeAll
  (try dsimp only)
  repeat' (first | (with_reducible rfl) | split)
  all_goals (try simp_all -implicitDefEqProofs)
  all_goals (repeat' (first | (with_reducible rfl) | split))
  all_goals (try simp_all -implicitDefEqProofs)
@[simp] theorem cancelEvict_pending (s : State) (hs : Nat) : (cancelEvict s hs).pending = s.pending := by
  unfold cancelEvict
  (try dsimp only)
  repeat' (first | (with_reducible rfl) | split)
  all_goals (try simp_all -implicitDefEqProofs)
  all_goals (repeat' (first | (with_reducible rfl) | split))
  all_goals (try simp_all -implicitDefEqProofs)
@[simp] theorem cancelEvict_lck (s : State) (hs : Nat) : (cancelEvict s hs).lck = s.lck := by
  unfold cancelEvict
  (try dsimp only)
  repeat' (first | (with_reducible rfl) | split)
  all_goals (try simp_all -implicitDefEqProofs)
  all_goals (repeat' (first | (with_reducible rfl) | split))
  all_goals (try simp_all -implicitDefEqProofs)
@[simp] theorem cancelEvict_ready (s : State) (hs : Nat) : (cancelEvict s hs).boot.ready = s.boot.ready := by
  unfold cancelEvict
  (try dsimp only)
  repeat' (first | (with_reducible rfl) | split)
  all_goals (try simp_all -implicitDefEqProofs)
  all_goals (repeat' (first | (with_reducible rfl) | split))
  all_goals (try simp_all -implicitDefEqProofs)
@[simp] theorem cancelEvict_phase (s : State) (hs : Nat) : (cancelEvict s hs).cin.phase = s.cin.phase := by
  unfold cancelEvict
  (try dsimp only)
  repeat' (first | (with_reducible rfl) | split)
  all_goals (try simp_all -implicitDefEqProofs)
  all_goals (repeat' (first | (with_reducible rfl) | split))
  all_goals (try simp_all -implicitDefEqProofs)
@[simp] theorem cancelEvict_mem (s : State) (hs : Nat) : (cancelEvict s hs).dram.mem = s.dram.mem := by
  unfold cancelEvict
  (try dsimp only)
  repeat' (first | (with_reducible rfl) | split)
  all_goals (try simp_all -implicitDefEqProofs)
  all_goals (repeat' (first | (with_reducible rfl) | split))
  all_goals (try simp_all -implicitDefEqProofs)
@[simp] theorem cancelEvict_banks (s : State) (hs : Nat) : (cancelEvict s hs).fls.banks = s.fls.banks := by
  unfold cancelEvict
  (try dsimp only)
  repeat' (first | (with_reducible rfl) | split)
  all_goals (try simp_all -implicitDefEqProofs)
  all_goals (repeat' (first | (with_reducible rfl) | split))
  all_goals (try simp_all -implicitDefEqProofs)
@[simp] theorem touchSegment_pending (s : State) (hs : Nat) : (touchSegment s hs).pending = s.pending := by
  unfold touchSegment
  (try dsimp only)
  repeat' (first | (with_reducible rfl) | split)
  all_goals (try simp_all -implicitDefEqProofs)
  all_goals (repeat' (first | (with_reducible rfl) | split))
  all_goals (try simp_all -implicitDefEqProofs)
@[simp] theorem touchSegment_lck (s : State) (hs : Nat) : (touchSegment s hs).lck = s.lck := by
  unfold touchSegment
  (try dsimp only)
  repeat' (first | (with_reducible rfl) | split)
  all_goals (try simp_all -implicitDefEqProofs)
  all_goals (repeat' (first | (with_reducible rfl) | split))
  all_goals (try simp_all -implicitDefEqProofs)
@[simp] theorem touchSegment_ready (s : State) (hs : Nat) : (touchSegment s hs).boot.ready = s.boot.ready := by
  unfold touchSegment
  (try dsimp only)
  repeat' (first | (with_reducible rfl) | split)
  all_goals (try simp_all -implicitDefEqProofs)
  all_goals (repeat' (first | (with_reducible rfl) | split))
  all_goals (try simp_all -implicitDefEqProofs)
@[simp] theorem touchSegment_phase (s : State) (hs : Nat) : (touchSegment s hs).cin.phase = s.cin.phase := by
  unfold touchSegment
  (try dsimp only)
  repeat' (first | (with_reducible rfl) | split)
  all_goals (try simp_all -implicitDefEqProofs)
  all_goals (repeat' (first | (with_reducible rfl) | split))
  all_goals (try simp_all -implicitDefEqProofs)
@[simp] theorem touchSegment_mem (s : State) (hs : Nat) : (touchSegment s hs).dram.mem = s.dram.mem := by
  unfold touchSegment
  (try dsimp only)
  repeat' (first | (with_reducible rfl) | split)
  all_goals (try simp_all -implicitDefEqProofs)
  all_goals (repeat' (first | (with_reducible rfl) | split))
  all_goals (try simp_all -implicitDefEqProofs)
@[simp] theorem touchSegment_banks (s : State) (hs : Nat) : (touchSegment s hs).fls.banks = s.fls.banks := by
  unfold touchSegment
  (try dsimp only)
  repeat' (first | (with_reducible rfl) | split)
  all_goals (try simp_all -implicitDefEqProofs)
  all_goals (repeat' (first | (with_reducible rfl) | split))
  all_goals (try simp_all -implicitDefEqProofs)
@[simp] theorem weltMerge_pending (s : State) (ld gl : Nat) (data : PLine) (fromSkive : Bool) (seqs : List Nat) (mir : Option Nat) : (weltMerge s ld gl data fromSkive seqs mir).pending = s.pending := by
  unfold weltMerge
  (try dsimp only)
  repeat' (first | (with_reducible rfl) | split)
  all_goals (try simp_all -implicitDefEqProofs)
  all_goals (repeat' (first | (with_reducible rfl) | split))
  all_goals (try simp_all -implicitDefEqProofs)
@[simp] theorem weltMerge_lck (s : State) (ld gl : Nat) (data : PLine) (fromSkive : Bool) (seqs : List Nat) (mir : Option Nat) : (weltMerge s ld gl data fromSkive seqs mir).lck = s.lck := by
  unfold weltMerge
  (try dsimp only)
  repeat' (first | (with_reducible rfl) | split)
  all_goals (try simp_all -implicitDefEqProofs)
  all_goals (repeat' (first | (with_reducible rfl) | split))
  all_goals (try simp_all -implicitDefEqProofs)
@[simp] theorem weltMerge_ready (s : State) (ld gl : Nat) (data : PLine) (fromSkive : Bool) (seqs : List Nat) (mir : Option Nat) : (weltMerge s ld gl data fromSkive seqs mir).boot.ready = s.boot.ready := by
  unfold weltMerge
  (try dsimp only)
  repeat' (first | (with_reducible rfl) | split)
  all_goals (try simp_all -implicitDefEqProofs)
  all_goals (repeat' (first | (with_reducible rfl) | split))
  all_goals (try simp_all -implicitDefEqProofs)
@[simp] theorem weltMerge_phase (s : State) (ld gl : Nat) (data : PLine) (fromSkive : Bool) (seqs : List Nat) (mir : Option Nat) : (weltMerge s ld gl data fromSkive seqs mir).cin.phase = s.cin.phase := by
  unfold weltMerge
  (try dsimp only)
  repeat' (first | (with_reducible rfl) | split)
  all_goals (try simp_all -implicitDefEqProofs)
  all_goals (repeat' (first | (with_reducible rfl) | split))
  all_goals (try simp_all -implicitDefEqProofs)
@[simp] theorem weltMerge_mem (s : State) (ld gl : Nat) (data : PLine) (fromSkive : Bool) (seqs : List Nat) (mir : Option Nat) : (weltMerge s ld gl data fromSkive seqs mir).dram.mem = s.dram.mem := by
  unfold weltMerge
  (try dsimp only)
  repeat' (first | (with_reducible rfl) | split)
  all_goals (try simp_all -implicitDefEqProofs)
  all_goals (repeat' (first | (with_reducible rfl) | split))
  all_goals (try simp_all -implicitDefEqProofs)
@[simp] theorem weltMerge_banks (s : State) (ld gl : Nat) (data : PLine) (fromSkive : Bool) (seqs : List Nat) (mir : Option Nat) : (weltMerge s ld gl data fromSkive seqs mir).fls.banks = s.fls.banks := by
  unfold weltMerge
  (try dsimp only)
  repeat' (first | (with_reducible rfl) | split)
  all_goals (try simp_all -implicitDefEqProofs)
  all_goals (repeat' (first | (with_reducible rfl) | split))
  all_goals (try simp_all -implicitDefEqProofs)
@[simp] theorem repairWritten_pending (s : State) (gl : Nat) (data : PLine) : (repairWritten s gl data).pending = s.pending := by
  unfold repairWritten
  (try dsimp only)
  repeat' (first | (with_reducible rfl) | split)
  all_goals (try simp_all -implicitDefEqProofs)
  all_goals (repeat' (first | (with_reducible rfl) | split))
  all_goals (try simp_all -implicitDefEqProofs)
@[simp] theorem repairWritten_lck (s : State) (gl : Nat) (data : PLine) : (repairWritten s gl data).lck = s.lck := by
  unfold repairWritten
  (try dsimp only)
  repeat' (first | (with_reducible rfl) | split)
  all_goals (try simp_all -implicitDefEqProofs)
  all_goals (repeat' (first | (with_reducible rfl) | split))
  all_goals (try simp_all -implicitDefEqProofs)
@[simp] theorem repairWritten_ready (s : State) (gl : Nat) (data : PLine) : (repairWritten s gl data).boot.ready = s.boot.ready := by
  unfold repairWritten
  (try dsimp only)
  repeat' (first | (with_reducible rfl) | split)
  all_goals (try simp_all -implicitDefEqProofs)
  all_goals (repeat' (first | (with_reducible rfl) | split))
  all_goals (try simp_all -implicitDefEqProofs)
@[simp] theorem repairWritten_phase (s : State) (gl : Nat) (data : PLine) : (repairWritten s gl data).cin.phase = s.cin.phase := by
  unfold repairWritten
  (try dsimp only)
  repeat' (first | (with_reducible rfl) | split)
  all_goals (try simp_all -implicitDefEqProofs)
  all_goals (repeat' (first | (with_reducible rfl) | split))
  all_goals (try simp_all -implicitDefEqProofs)
@[simp] theorem repairWritten_mem (s : State) (gl : Nat) (data : PLine) : (repairWritten s gl data).dram.mem = s.dram.mem := by
  unfold repairWritten
  (try dsimp only)
  repeat' (first | (with_reducible rfl) | split)
  all_goals (try simp_all -implicitDefEqProofs)
  all_goals (repeat' (first | (with_reducible rfl) | split))
  all_goals (try simp_all -implicitDefEqProofs)
@[simp] theorem repairWritten_banks (s : State) (gl : Nat) (data : PLine) : (repairWritten s gl data).fls.banks = s.fls.banks := by
  unfold repairWritten
  (try dsimp only)
  repeat' (first | (with_reducible rfl) | split)
  all_goals (try simp_all -implicitDefEqProofs)
  all_goals (repeat' (first | (with_reducible rfl) | split))
  all_goals (try simp_all -implicitDefEqProofs)
@[simp] theorem writeRound_lck (s : State) (wid gl : Nat) (writer : Option Nat) (setB : Bool) : (writeRound s wid gl writer setB).2.lck = s.lck := by
  unfold writeRound
  (try dsimp only)
  repeat' (first | (with_reducible rfl) | split)
  all_goals (try simp_all -implicitDefEqProofs)
  all_goals (repeat' (first | (with_reducible rfl) | split))
  all_goals (try simp_all -implicitDefEqProofs)
@[simp] theorem skiveCloseWhere_pending (s : State) (p : SkiveLine → Bool) : (skiveCloseWhere s p).pending = s.pending := by
  unfold skiveCloseWhere
  refine foldl_pending _ _ _ ?_
  intro t e
  unfold skiveClose
  split <;> simp
@[simp] theorem skiveCloseWhere_ready (s : State) (p : SkiveLine → Bool) : (skiveCloseWhere s p).boot.ready = s.boot.ready := by
  unfold skiveCloseWhere
  refine foldl_ready _ _ _ ?_
  intro t e
  unfold skiveClose
  split <;> simp
@[simp] theorem skiveCloseWhere_phase (s : State) (p : SkiveLine → Bool) : (skiveCloseWhere s p).cin.phase = s.cin.phase := by
  unfold skiveCloseWhere
  refine foldl_phase _ _ _ ?_
  intro t e
  unfold skiveClose
  split <;> simp
@[simp] theorem skiveCloseWhere_mem (s : State) (p : SkiveLine → Bool) : (skiveCloseWhere s p).dram.mem = s.dram.mem := by
  unfold skiveCloseWhere
  refine foldl_mem _ _ _ ?_
  intro t e
  unfold skiveClose
  split <;> simp
@[simp] theorem skiveCloseWhere_banks (s : State) (p : SkiveLine → Bool) : (skiveCloseWhere s p).fls.banks = s.fls.banks := by
  unfold skiveCloseWhere
  refine foldl_banks _ _ _ ?_
  intro t e
  unfold skiveClose
  split <;> simp
@[simp] theorem skiveWrite_pending (s : State) (e : SkiveLine) : (skiveWrite s e).pending = s.pending := by
  unfold skiveWrite
  (try dsimp only)
  repeat' (first | (with_reducible rfl) | split)
  all_goals (try simp_all -implicitDefEqProofs)
  all_goals (repeat' (first | (with_reducible rfl) | split))
  all_goals (try simp_all -implicitDefEqProofs)
@[simp] theorem skiveWrite_lck (s : State) (e : SkiveLine) : (skiveWrite s e).lck = s.lck := by
  unfold skiveWrite
  (try dsimp only)
  repeat' (first | (with_reducible rfl) | split)
  all_goals (try simp_all -implicitDefEqProofs)
  all_goals (repeat' (first | (with_reducible rfl) | split))
  all_goals (try simp_all -implicitDefEqProofs)
@[simp] theorem skiveWrite_ready (s : State) (e : SkiveLine) : (skiveWrite s e).boot.ready = s.boot.ready := by
  unfold skiveWrite
  (try dsimp only)
  repeat' (first | (with_reducible rfl) | split)
  all_goals (try simp_all -implicitDefEqProofs)
  all_goals (repeat' (first | (with_reducible rfl) | split))
  all_goals (try simp_all -implicitDefEqProofs)
@[simp] theorem skiveWrite_phase (s : State) (e : SkiveLine) : (skiveWrite s e).cin.phase = s.cin.phase := by
  unfold skiveWrite
  (try dsimp only)
  repeat' (first | (with_reducible rfl) | split)
  all_goals (try simp_all -implicitDefEqProofs)
  all_goals (repeat' (first | (with_reducible rfl) | split))
  all_goals (try simp_all -implicitDefEqProofs)
@[simp] theorem skiveWrite_mem (s : State) (e : SkiveLine) : (skiveWrite s e).dram.mem = s.dram.mem := by
  unfold skiveWrite
  (try dsimp only)
  repeat' (first | (with_reducible rfl) | split)
  all_goals (try simp_all -implicitDefEqProofs)
  all_goals (repeat' (first | (with_reducible rfl) | split))
  all_goals (try simp_all -implicitDefEqProofs)
@[simp] theorem skiveWrite_banks (s : State) (e : SkiveLine) : (skiveWrite s e).fls.banks = s.fls.banks := by
  unfold skiveWrite
  (try dsimp only)
  repeat' (first | (with_reducible rfl) | split)
  all_goals (try simp_all -implicitDefEqProofs)
  all_goals (repeat' (first | (with_reducible rfl) | split))
  all_goals (try simp_all -implicitDefEqProofs)
@[simp] theorem skiveWriteAll_pending (s : State) : (skiveWriteAll s).pending = s.pending := by
  unfold skiveWriteAll
  (try dsimp only)
  repeat' (first | (with_reducible rfl) | split)
  all_goals (try simp_all -implicitDefEqProofs)
  all_goals (repeat' (first | (with_reducible rfl) | split))
  all_goals (try simp_all -implicitDefEqProofs)
@[simp] theorem skiveWriteAll_lck (s : State) : (skiveWriteAll s).lck = s.lck := by
  unfold skiveWriteAll
  (try dsimp only)
  repeat' (first | (with_reducible rfl) | split)
  all_goals (try simp_all -implicitDefEqProofs)
  all_goals (repeat' (first | (with_reducible rfl) | split))
  all_goals (try simp_all -implicitDefEqProofs)
@[simp] theorem skiveWriteAll_ready (s : State) : (skiveWriteAll s).boot.ready = s.boot.ready := by
  unfold skiveWriteAll
  (try dsimp only)
  repeat' (first | (with_reducible rfl) | split)
  all_goals (try simp_all -implicitDefEqProofs)
  all_goals (repeat' (first | (with_reducible rfl) | split))
  all_goals (try simp_all -implicitDefEqProofs)
@[simp] theorem skiveWriteAll_phase (s : State) : (skiveWriteAll s).cin.phase = s.cin.phase := by
  unfold skiveWriteAll
  (try dsimp only)
  repeat' (first | (with_reducible rfl) | split)
  all_goals (try simp_all -implicitDefEqProofs)
  all_goals (repeat' (first | (with_reducible rfl) | split))
  all_goals (try simp_all -implicitDefEqProofs)
@[simp] theorem skiveWriteAll_mem (s : State) : (skiveWriteAll s).dram.mem = s.dram.mem := by
  unfold skiveWriteAll
  (try dsimp only)
  repeat' (first | (with_reducible rfl) | split)
  all_goals (try simp_all -implicitDefEqProofs)
  all_goals (repeat' (first | (with_reducible rfl) | split))
  all_goals (try simp_all -implicitDefEqProofs)
@[simp] theorem skiveWriteAll_banks (s : State) : (skiveWriteAll s).fls.banks = s.fls.banks := by
  unfold skiveWriteAll
  (try dsimp only)
  repeat' (first | (with_reducible rfl) | split)
  all_goals (try simp_all -implicitDefEqProofs)
  all_goals (repeat' (first | (with_reducible rfl) | split))
  all_goals (try simp_all -implicitDefEqProofs)
@[simp] theorem weltRelease_pending (s : State) (e : WeltEntry) : (weltRelease s e).pending = s.pending := by
  unfold weltRelease
  repeat' (first
    | (with_reducible rfl)
    | (extract_lets +onlyGivenNames u; have hu : u.pending = s.pending := (by
         (try simp only [u])
         repeat' (first | (with_reducible rfl) | split)
         all_goals (try simp_all -implicitDefEqProofs)
         all_goals (repeat' (first | (with_reducible rfl) | split))
         all_goals (try simp_all -implicitDefEqProofs)); clear_value u)
    | (extract_lets +onlyGivenNames u; clear_value u)
    | (split <;> (rename_i heq; have hh := snd_pending heq; clear heq))
    | split
    | (refine (foldl_pending _ _ _ ?_).trans ?_)
    | intro _)
  all_goals (try simp_all -implicitDefEqProofs)
  all_goals (repeat' (first | (with_reducible rfl) | split))
  all_goals (try simp_all -implicitDefEqProofs)
@[simp] theorem weltRelease_lck (s : State) (e : WeltEntry) : (weltRelease s e).lck = s.lck := by
  unfold weltRelease
  repeat' (first
    | (with_reducible rfl)
    | (extract_lets +onlyGivenNames u; have hu : u.lck = s.lck := (by
         (try simp only [u])
         repeat' (first | (with_reducible rfl) | split)
         all_goals (try simp_all -implicitDefEqProofs)
         all_goals (repeat' (first | (with_reducible rfl) | split))
         all_goals (try simp_all -implicitDefEqProofs)); clear_value u)
    | (extract_lets +onlyGivenNames u; clear_value u)
    | (split <;> (rename_i heq; have hh := snd_lck heq; clear heq))
    | split
    | (refine (foldl_lck _ _ _ ?_).trans ?_)
    | intro _)
  all_goals (try simp_all -implicitDefEqProofs)
  all_goals (repeat' (first | (with_reducible rfl) | split))
  all_goals (try simp_all -implicitDefEqProofs)
@[simp] theorem weltRelease_ready (s : State) (e : WeltEntry) : (weltRelease s e).boot.ready = s.boot.ready := by
  unfold weltRelease
  repeat' (first
    | (with_reducible rfl)
    | (extract_lets +onlyGivenNames u; have hu : u.boot.ready = s.boot.ready := (by
         (try simp only [u])
         repeat' (first | (with_reducible rfl) | split)
         all_goals (try simp_all -implicitDefEqProofs)
         all_goals (repeat' (first | (with_reducible rfl) | split))
         all_goals (try simp_all -implicitDefEqProofs)); clear_value u)
    | (extract_lets +onlyGivenNames u; clear_value u)
    | (split <;> (rename_i heq; have hh := snd_ready heq; clear heq))
    | split
    | (refine (foldl_ready _ _ _ ?_).trans ?_)
    | intro _)
  all_goals (try simp_all -implicitDefEqProofs)
  all_goals (repeat' (first | (with_reducible rfl) | split))
  all_goals (try simp_all -implicitDefEqProofs)
@[simp] theorem weltRelease_phase (s : State) (e : WeltEntry) : (weltRelease s e).cin.phase = s.cin.phase := by
  unfold weltRelease
  repeat' (first
    | (with_reducible rfl)
    | (extract_lets +onlyGivenNames u; have hu : u.cin.phase = s.cin.phase := (by
         (try simp only [u])
         repeat' (first | (with_reducible rfl) | split)
         all_goals (try simp_all -implicitDefEqProofs)
         all_goals (repeat' (first | (with_reducible rfl) | split))
         all_goals (try simp_all -implicitDefEqProofs)); clear_value u)
    | (extract_lets +onlyGivenNames u; clear_value u)
    | (split <;> (rename_i heq; have hh := snd_phase heq; clear heq))
    | split
    | (refine (foldl_phase _ _ _ ?_).trans ?_)
    | intro _)
  all_goals (try simp_all -implicitDefEqProofs)
  all_goals (repeat' (first | (with_reducible rfl) | split))
  all_goals (try simp_all -implicitDefEqProofs)
@[simp] theorem weltRelease_mem (s : State) (e : WeltEntry) : (weltRelease s e).dram.mem = s.dram.mem := by
  unfold weltRelease
  repeat' (first
    | (with_reducible rfl)
    | (extract_lets +onlyGivenNames u; have hu : u.dram.mem = s.dram.mem := (by
         (try simp only [u])
         repeat' (first | (with_reducible rfl) | split)
         all_goals (try simp_all -implicitDefEqProofs)
         all_goals (repeat' (first | (with_reducible rfl) | split))
         all_goals (try simp_all -implicitDefEqProofs)); clear_value u)
    | (extract_lets +onlyGivenNames u; clear_value u)
    | (split <;> (rename_i heq; have hh := snd_mem heq; clear heq))
    | split
    | (refine (foldl_mem _ _ _ ?_).trans ?_)
    | intro _)
  all_goals (try simp_all -implicitDefEqProofs)
  all_goals (repeat' (first | (with_reducible rfl) | split))
  all_goals (try simp_all -implicitDefEqProofs)
@[simp] theorem weltRelease_banks (s : State) (e : WeltEntry) : (weltRelease s e).fls.banks = s.fls.banks := by
  unfold weltRelease
  repeat' (first
    | (with_reducible rfl)
    | (extract_lets +onlyGivenNames u; have hu : u.fls.banks = s.fls.banks := (by
         (try simp only [u])
         repeat' (first | (with_reducible rfl) | split)
         all_goals (try simp_all -implicitDefEqProofs)
         all_goals (repeat' (first | (with_reducible rfl) | split))
         all_goals (try simp_all -implicitDefEqProofs)); clear_value u)
    | (extract_lets +onlyGivenNames u; clear_value u)
    | (split <;> (rename_i heq; have hh := snd_banks heq; clear heq))
    | split
    | (refine (foldl_banks _ _ _ ?_).trans ?_)
    | intro _)
  all_goals (try simp_all -implicitDefEqProofs)
  all_goals (repeat' (first | (with_reducible rfl) | split))
  all_goals (try simp_all -implicitDefEqProofs)
@[simp] theorem cxlEvent_pending (s : State) (n log code : Nat) : (cxlEvent s n log code).pending = s.pending := by
  unfold cxlEvent
  (try dsimp only)
  repeat' (first | (with_reducible rfl) | split)
  all_goals (try simp_all -implicitDefEqProofs)
  all_goals (repeat' (first | (with_reducible rfl) | split))
  all_goals (try simp_all -implicitDefEqProofs)
@[simp] theorem cxlEvent_lck (s : State) (n log code : Nat) : (cxlEvent s n log code).lck = s.lck := by
  unfold cxlEvent
  (try dsimp only)
  repeat' (first | (with_reducible rfl) | split)
  all_goals (try simp_all -implicitDefEqProofs)
  all_goals (repeat' (first | (with_reducible rfl) | split))
  all_goals (try simp_all -implicitDefEqProofs)
@[simp] theorem cxlEvent_ready (s : State) (n log code : Nat) : (cxlEvent s n log code).boot.ready = s.boot.ready := by
  unfold cxlEvent
  (try dsimp only)
  repeat' (first | (with_reducible rfl) | split)
  all_goals (try simp_all -implicitDefEqProofs)
  all_goals (repeat' (first | (with_reducible rfl) | split))
  all_goals (try simp_all -implicitDefEqProofs)
@[simp] theorem cxlEvent_phase (s : State) (n log code : Nat) : (cxlEvent s n log code).cin.phase = s.cin.phase := by
  unfold cxlEvent
  (try dsimp only)
  repeat' (first | (with_reducible rfl) | split)
  all_goals (try simp_all -implicitDefEqProofs)
  all_goals (repeat' (first | (with_reducible rfl) | split))
  all_goals (try simp_all -implicitDefEqProofs)
@[simp] theorem cxlEvent_mem (s : State) (n log code : Nat) : (cxlEvent s n log code).dram.mem = s.dram.mem := by
  unfold cxlEvent
  (try dsimp only)
  repeat' (first | (with_reducible rfl) | split)
  all_goals (try simp_all -implicitDefEqProofs)
  all_goals (repeat' (first | (with_reducible rfl) | split))
  all_goals (try simp_all -implicitDefEqProofs)
@[simp] theorem cxlEvent_banks (s : State) (n log code : Nat) : (cxlEvent s n log code).fls.banks = s.fls.banks := by
  unfold cxlEvent
  (try dsimp only)
  repeat' (first | (with_reducible rfl) | split)
  all_goals (try simp_all -implicitDefEqProofs)
  all_goals (repeat' (first | (with_reducible rfl) | split))
  all_goals (try simp_all -implicitDefEqProofs)
@[simp] theorem barrierLat_pending (s : State) (b : Barrier) : (barrierLat s b).pending = s.pending := by
  unfold barrierLat
  (try dsimp only)
  repeat' (first | (with_reducible rfl) | split)
  all_goals (try simp_all -implicitDefEqProofs)
  all_goals (repeat' (first | (with_reducible rfl) | split))
  all_goals (try simp_all -implicitDefEqProofs)
@[simp] theorem barrierLat_lck (s : State) (b : Barrier) : (barrierLat s b).lck = s.lck := by
  unfold barrierLat
  (try dsimp only)
  repeat' (first | (with_reducible rfl) | split)
  all_goals (try simp_all -implicitDefEqProofs)
  all_goals (repeat' (first | (with_reducible rfl) | split))
  all_goals (try simp_all -implicitDefEqProofs)
@[simp] theorem barrierLat_ready (s : State) (b : Barrier) : (barrierLat s b).boot.ready = s.boot.ready := by
  unfold barrierLat
  (try dsimp only)
  repeat' (first | (with_reducible rfl) | split)
  all_goals (try simp_all -implicitDefEqProofs)
  all_goals (repeat' (first | (with_reducible rfl) | split))
  all_goals (try simp_all -implicitDefEqProofs)
@[simp] theorem barrierLat_phase (s : State) (b : Barrier) : (barrierLat s b).cin.phase = s.cin.phase := by
  unfold barrierLat
  (try dsimp only)
  repeat' (first | (with_reducible rfl) | split)
  all_goals (try simp_all -implicitDefEqProofs)
  all_goals (repeat' (first | (with_reducible rfl) | split))
  all_goals (try simp_all -implicitDefEqProofs)
@[simp] theorem barrierLat_mem (s : State) (b : Barrier) : (barrierLat s b).dram.mem = s.dram.mem := by
  unfold barrierLat
  (try dsimp only)
  repeat' (first | (with_reducible rfl) | split)
  all_goals (try simp_all -implicitDefEqProofs)
  all_goals (repeat' (first | (with_reducible rfl) | split))
  all_goals (try simp_all -implicitDefEqProofs)
@[simp] theorem barrierLat_banks (s : State) (b : Barrier) : (barrierLat s b).fls.banks = s.fls.banks := by
  unfold barrierLat
  (try dsimp only)
  repeat' (first | (with_reducible rfl) | split)
  all_goals (try simp_all -implicitDefEqProofs)
  all_goals (repeat' (first | (with_reducible rfl) | split))
  all_goals (try simp_all -implicitDefEqProofs)
@[simp] theorem writeRecord_pending (s : State) (ld addr token : Nat) (st : Status) (scope level : Nat) (intr : Bool) (vec : Nat) : (writeRecord s ld addr token st scope level intr vec).pending = s.pending := by
  unfold writeRecord
  (try dsimp only)
  repeat' (first | (with_reducible rfl) | split)
  all_goals (try simp_all -implicitDefEqProofs)
  all_goals (repeat' (first | (with_reducible rfl) | split))
  all_goals (try simp_all -implicitDefEqProofs)
@[simp] theorem writeRecord_lck (s : State) (ld addr token : Nat) (st : Status) (scope level : Nat) (intr : Bool) (vec : Nat) : (writeRecord s ld addr token st scope level intr vec).lck = s.lck := by
  unfold writeRecord
  (try dsimp only)
  repeat' (first | (with_reducible rfl) | split)
  all_goals (try simp_all -implicitDefEqProofs)
  all_goals (repeat' (first | (with_reducible rfl) | split))
  all_goals (try simp_all -implicitDefEqProofs)
@[simp] theorem writeRecord_ready (s : State) (ld addr token : Nat) (st : Status) (scope level : Nat) (intr : Bool) (vec : Nat) : (writeRecord s ld addr token st scope level intr vec).boot.ready = s.boot.ready := by
  unfold writeRecord
  (try dsimp only)
  repeat' (first | (with_reducible rfl) | split)
  all_goals (try simp_all -implicitDefEqProofs)
  all_goals (repeat' (first | (with_reducible rfl) | split))
  all_goals (try simp_all -implicitDefEqProofs)
@[simp] theorem writeRecord_phase (s : State) (ld addr token : Nat) (st : Status) (scope level : Nat) (intr : Bool) (vec : Nat) : (writeRecord s ld addr token st scope level intr vec).cin.phase = s.cin.phase := by
  unfold writeRecord
  (try dsimp only)
  repeat' (first | (with_reducible rfl) | split)
  all_goals (try simp_all -implicitDefEqProofs)
  all_goals (repeat' (first | (with_reducible rfl) | split))
  all_goals (try simp_all -implicitDefEqProofs)
@[simp] theorem writeRecord_mem (s : State) (ld addr token : Nat) (st : Status) (scope level : Nat) (intr : Bool) (vec : Nat) : (writeRecord s ld addr token st scope level intr vec).dram.mem = s.dram.mem := by
  unfold writeRecord
  (try dsimp only)
  repeat' (first | (with_reducible rfl) | split)
  all_goals (try simp_all -implicitDefEqProofs)
  all_goals (repeat' (first | (with_reducible rfl) | split))
  all_goals (try simp_all -implicitDefEqProofs)
@[simp] theorem writeRecord_banks (s : State) (ld addr token : Nat) (st : Status) (scope level : Nat) (intr : Bool) (vec : Nat) : (writeRecord s ld addr token st scope level intr vec).fls.banks = s.fls.banks := by
  unfold writeRecord
  (try dsimp only)
  repeat' (first | (with_reducible rfl) | split)
  all_goals (try simp_all -implicitDefEqProofs)
  all_goals (repeat' (first | (with_reducible rfl) | split))
  all_goals (try simp_all -implicitDefEqProofs)
@[simp] theorem barrierAnswer_pending (s : State) (b : Barrier) (st : Status) : (barrierAnswer s b st).pending = s.pending := by
  unfold barrierAnswer
  (try dsimp only)
  repeat' (first | (with_reducible rfl) | split)
  all_goals (try simp_all -implicitDefEqProofs)
  all_goals (repeat' (first | (with_reducible rfl) | split))
  all_goals (try simp_all -implicitDefEqProofs)
@[simp] theorem barrierAnswer_lck (s : State) (b : Barrier) (st : Status) : (barrierAnswer s b st).lck = s.lck := by
  unfold barrierAnswer
  (try dsimp only)
  repeat' (first | (with_reducible rfl) | split)
  all_goals (try simp_all -implicitDefEqProofs)
  all_goals (repeat' (first | (with_reducible rfl) | split))
  all_goals (try simp_all -implicitDefEqProofs)
@[simp] theorem barrierAnswer_ready (s : State) (b : Barrier) (st : Status) : (barrierAnswer s b st).boot.ready = s.boot.ready := by
  unfold barrierAnswer
  (try dsimp only)
  repeat' (first | (with_reducible rfl) | split)
  all_goals (try simp_all -implicitDefEqProofs)
  all_goals (repeat' (first | (with_reducible rfl) | split))
  all_goals (try simp_all -implicitDefEqProofs)
@[simp] theorem barrierAnswer_phase (s : State) (b : Barrier) (st : Status) : (barrierAnswer s b st).cin.phase = s.cin.phase := by
  unfold barrierAnswer
  (try dsimp only)
  repeat' (first | (with_reducible rfl) | split)
  all_goals (try simp_all -implicitDefEqProofs)
  all_goals (repeat' (first | (with_reducible rfl) | split))
  all_goals (try simp_all -implicitDefEqProofs)
@[simp] theorem barrierAnswer_mem (s : State) (b : Barrier) (st : Status) : (barrierAnswer s b st).dram.mem = s.dram.mem := by
  unfold barrierAnswer
  (try dsimp only)
  repeat' (first | (with_reducible rfl) | split)
  all_goals (try simp_all -implicitDefEqProofs)
  all_goals (repeat' (first | (with_reducible rfl) | split))
  all_goals (try simp_all -implicitDefEqProofs)
@[simp] theorem barrierAnswer_banks (s : State) (b : Barrier) (st : Status) : (barrierAnswer s b st).fls.banks = s.fls.banks := by
  unfold barrierAnswer
  (try dsimp only)
  repeat' (first | (with_reducible rfl) | split)
  all_goals (try simp_all -implicitDefEqProofs)
  all_goals (repeat' (first | (with_reducible rfl) | split))
  all_goals (try simp_all -implicitDefEqProofs)
@[simp] theorem endBarrier_pending (s : State) (b : Barrier) (st : Status) : (endBarrier s b st).pending = s.pending := by
  unfold endBarrier
  (try dsimp only)
  repeat' (first | (with_reducible rfl) | split)
  all_goals (try simp_all -implicitDefEqProofs)
  all_goals (repeat' (first | (with_reducible rfl) | split))
  all_goals (try simp_all -implicitDefEqProofs)
@[simp] theorem endBarrier_lck (s : State) (b : Barrier) (st : Status) : (endBarrier s b st).lck = s.lck := by
  unfold endBarrier
  (try dsimp only)
  repeat' (first | (with_reducible rfl) | split)
  all_goals (try simp_all -implicitDefEqProofs)
  all_goals (repeat' (first | (with_reducible rfl) | split))
  all_goals (try simp_all -implicitDefEqProofs)
@[simp] theorem endBarrier_ready (s : State) (b : Barrier) (st : Status) : (endBarrier s b st).boot.ready = s.boot.ready := by
  unfold endBarrier
  (try dsimp only)
  repeat' (first | (with_reducible rfl) | split)
  all_goals (try simp_all -implicitDefEqProofs)
  all_goals (repeat' (first | (with_reducible rfl) | split))
  all_goals (try simp_all -implicitDefEqProofs)
@[simp] theorem endBarrier_phase (s : State) (b : Barrier) (st : Status) : (endBarrier s b st).cin.phase = s.cin.phase := by
  unfold endBarrier
  (try dsimp only)
  repeat' (first | (with_reducible rfl) | split)
  all_goals (try simp_all -implicitDefEqProofs)
  all_goals (repeat' (first | (with_reducible rfl) | split))
  all_goals (try simp_all -implicitDefEqProofs)
@[simp] theorem endBarrier_mem (s : State) (b : Barrier) (st : Status) : (endBarrier s b st).dram.mem = s.dram.mem := by
  unfold endBarrier
  (try dsimp only)
  repeat' (first | (with_reducible rfl) | split)
  all_goals (try simp_all -implicitDefEqProofs)
  all_goals (repeat' (first | (with_reducible rfl) | split))
  all_goals (try simp_all -implicitDefEqProofs)
@[simp] theorem endBarrier_banks (s : State) (b : Barrier) (st : Status) : (endBarrier s b st).fls.banks = s.fls.banks := by
  unfold endBarrier
  (try dsimp only)
  repeat' (first | (with_reducible rfl) | split)
  all_goals (try simp_all -implicitDefEqProofs)
  all_goals (repeat' (first | (with_reducible rfl) | split))
  all_goals (try simp_all -implicitDefEqProofs)
@[simp] theorem startBarrier_pending (s : State) (by_ : BarrierBy) (ld scope level : Nat) : (startBarrier s by_ ld scope level).pending = s.pending := by
  unfold startBarrier
  repeat' (first
    | (with_reducible rfl)
    | (extract_lets +onlyGivenNames u; have hu : u.pending = s.pending := (by
         (try simp only [u])
         repeat' (first | (with_reducible rfl) | split)
         all_goals (try simp_all -implicitDefEqProofs)
         all_goals (repeat' (first | (with_reducible rfl) | split))
         all_goals (try simp_all -implicitDefEqProofs)); clear_value u)
    | (extract_lets +onlyGivenNames u; clear_value u)
    | (split <;> (rename_i heq; have hh := snd_pending heq; clear heq))
    | split
    | (refine (foldl_pending _ _ _ ?_).trans ?_)
    | intro _)
  all_goals (try simp_all -implicitDefEqProofs)
  all_goals (repeat' (first | (with_reducible rfl) | split))
  all_goals (try simp_all -implicitDefEqProofs)
@[simp] theorem startBarrier_ready (s : State) (by_ : BarrierBy) (ld scope level : Nat) : (startBarrier s by_ ld scope level).boot.ready = s.boot.ready := by
  unfold startBarrier
  repeat' (first
    | (with_reducible rfl)
    | (extract_lets +onlyGivenNames u; have hu : u.boot.ready = s.boot.ready := (by
         (try simp only [u])
         repeat' (first | (with_reducible rfl) | split)
         all_goals (try simp_all -implicitDefEqProofs)
         all_goals (repeat' (first | (with_reducible rfl) | split))
         all_goals (try simp_all -implicitDefEqProofs)); clear_value u)
    | (extract_lets +onlyGivenNames u; clear_value u)
    | (split <;> (rename_i heq; have hh := snd_ready heq; clear heq))
    | split
    | (refine (foldl_ready _ _ _ ?_).trans ?_)
    | intro _)
  all_goals (try simp_all -implicitDefEqProofs)
  all_goals (repeat' (first | (with_reducible rfl) | split))
  all_goals (try simp_all -implicitDefEqProofs)
@[simp] theorem startBarrier_phase (s : State) (by_ : BarrierBy) (ld scope level : Nat) : (startBarrier s by_ ld scope level).cin.phase = s.cin.phase := by
  unfold startBarrier
  repeat' (first
    | (with_reducible rfl)
    | (extract_lets +onlyGivenNames u; have hu : u.cin.phase = s.cin.phase := (by
         (try simp only [u])
         repeat' (first | (with_reducible rfl) | split)
         all_goals (try simp_all -implicitDefEqProofs)
         all_goals (repeat' (first | (with_reducible rfl) | split))
         all_goals (try simp_all -implicitDefEqProofs)); clear_value u)
    | (extract_lets +onlyGivenNames u; clear_value u)
    | (split <;> (rename_i heq; have hh := snd_phase heq; clear heq))
    | split
    | (refine (foldl_phase _ _ _ ?_).trans ?_)
    | intro _)
  all_goals (try simp_all -implicitDefEqProofs)
  all_goals (repeat' (first | (with_reducible rfl) | split))
  all_goals (try simp_all -implicitDefEqProofs)
@[simp] theorem startBarrier_mem (s : State) (by_ : BarrierBy) (ld scope level : Nat) : (startBarrier s by_ ld scope level).dram.mem = s.dram.mem := by
  unfold startBarrier
  repeat' (first
    | (with_reducible rfl)
    | (extract_lets +onlyGivenNames u; have hu : u.dram.mem = s.dram.mem := (by
         (try simp only [u])
         repeat' (first | (with_reducible rfl) | split)
         all_goals (try simp_all -implicitDefEqProofs)
         all_goals (repeat' (first | (with_reducible rfl) | split))
         all_goals (try simp_all -implicitDefEqProofs)); clear_value u)
    | (extract_lets +onlyGivenNames u; clear_value u)
    | (split <;> (rename_i heq; have hh := snd_mem heq; clear heq))
    | split
    | (refine (foldl_mem _ _ _ ?_).trans ?_)
    | intro _)
  all_goals (try simp_all -implicitDefEqProofs)
  all_goals (repeat' (first | (with_reducible rfl) | split))
  all_goals (try simp_all -implicitDefEqProofs)
@[simp] theorem startBarrier_banks (s : State) (by_ : BarrierBy) (ld scope level : Nat) : (startBarrier s by_ ld scope level).fls.banks = s.fls.banks := by
  unfold startBarrier
  repeat' (first
    | (with_reducible rfl)
    | (extract_lets +onlyGivenNames u; have hu : u.fls.banks = s.fls.banks := (by
         (try simp only [u])
         repeat' (first | (with_reducible rfl) | split)
         all_goals (try simp_all -implicitDefEqProofs)
         all_goals (repeat' (first | (with_reducible rfl) | split))
         all_goals (try simp_all -implicitDefEqProofs)); clear_value u)
    | (extract_lets +onlyGivenNames u; clear_value u)
    | (split <;> (rename_i heq; have hh := snd_banks heq; clear heq))
    | split
    | (refine (foldl_banks _ _ _ ?_).trans ?_)
    | intro _)
  all_goals (try simp_all -implicitDefEqProofs)
  all_goals (repeat' (first | (with_reducible rfl) | split))
  all_goals (try simp_all -implicitDefEqProofs)
@[simp] theorem pairLost_pending (s : State) : (pairLost s).pending = s.pending := by
  unfold pairLost
  (try dsimp only)
  repeat' (first | (with_reducible rfl) | split)
  all_goals (try simp_all -implicitDefEqProofs)
  all_goals (repeat' (first | (with_reducible rfl) | split))
  all_goals (try simp_all -implicitDefEqProofs)
@[simp] theorem pairLost_lck (s : State) : (pairLost s).lck = s.lck := by
  unfold pairLost
  (try dsimp only)
  repeat' (first | (with_reducible rfl) | split)
  all_goals (try simp_all -implicitDefEqProofs)
  all_goals (repeat' (first | (with_reducible rfl) | split))
  all_goals (try simp_all -implicitDefEqProofs)
@[simp] theorem pairLost_ready (s : State) : (pairLost s).boot.ready = s.boot.ready := by
  unfold pairLost
  (try dsimp only)
  repeat' (first | (with_reducible rfl) | split)
  all_goals (try simp_all -implicitDefEqProofs)
  all_goals (repeat' (first | (with_reducible rfl) | split))
  all_goals (try simp_all -implicitDefEqProofs)
@[simp] theorem pairLost_phase (s : State) : (pairLost s).cin.phase = s.cin.phase := by
  unfold pairLost
  (try dsimp only)
  repeat' (first | (with_reducible rfl) | split)
  all_goals (try simp_all -implicitDefEqProofs)
  all_goals (repeat' (first | (with_reducible rfl) | split))
  all_goals (try simp_all -implicitDefEqProofs)
@[simp] theorem pairLost_mem (s : State) : (pairLost s).dram.mem = s.dram.mem := by
  unfold pairLost
  (try dsimp only)
  repeat' (first | (with_reducible rfl) | split)
  all_goals (try simp_all -implicitDefEqProofs)
  all_goals (repeat' (first | (with_reducible rfl) | split))
  all_goals (try simp_all -implicitDefEqProofs)
@[simp] theorem pairLost_banks (s : State) : (pairLost s).fls.banks = s.fls.banks := by
  unfold pairLost
  (try dsimp only)
  repeat' (first | (with_reducible rfl) | split)
  all_goals (try simp_all -implicitDefEqProofs)
  all_goals (repeat' (first | (with_reducible rfl) | split))
  all_goals (try simp_all -implicitDefEqProofs)
@[simp] theorem pairBack_pending (s : State) : (pairBack s).pending = s.pending := by
  unfold pairBack
  (try dsimp only)
  repeat' (first | (with_reducible rfl) | split)
  all_goals (try simp_all -implicitDefEqProofs)
  all_goals (repeat' (first | (with_reducible rfl) | split))
  all_goals (try simp_all -implicitDefEqProofs)
@[simp] theorem pairBack_lck (s : State) : (pairBack s).lck = s.lck := by
  unfold pairBack
  (try dsimp only)
  repeat' (first | (with_reducible rfl) | split)
  all_goals (try simp_all -implicitDefEqProofs)
  all_goals (repeat' (first | (with_reducible rfl) | split))
  all_goals (try simp_all -implicitDefEqProofs)
@[simp] theorem pairBack_ready (s : State) : (pairBack s).boot.ready = s.boot.ready := by
  unfold pairBack
  (try dsimp only)
  repeat' (first | (with_reducible rfl) | split)
  all_goals (try simp_all -implicitDefEqProofs)
  all_goals (repeat' (first | (with_reducible rfl) | split))
  all_goals (try simp_all -implicitDefEqProofs)
@[simp] theorem pairBack_phase (s : State) : (pairBack s).cin.phase = s.cin.phase := by
  unfold pairBack
  (try dsimp only)
  repeat' (first | (with_reducible rfl) | split)
  all_goals (try simp_all -implicitDefEqProofs)
  all_goals (repeat' (first | (with_reducible rfl) | split))
  all_goals (try simp_all -implicitDefEqProofs)
@[simp] theorem pairBack_mem (s : State) : (pairBack s).dram.mem = s.dram.mem := by
  unfold pairBack
  (try dsimp only)
  repeat' (first | (with_reducible rfl) | split)
  all_goals (try simp_all -implicitDefEqProofs)
  all_goals (repeat' (first | (with_reducible rfl) | split))
  all_goals (try simp_all -implicitDefEqProofs)
@[simp] theorem pairBack_banks (s : State) : (pairBack s).fls.banks = s.fls.banks := by
  unfold pairBack
  (try dsimp only)
  repeat' (first | (with_reducible rfl) | split)
  all_goals (try simp_all -implicitDefEqProofs)
  all_goals (repeat' (first | (with_reducible rfl) | split))
  all_goals (try simp_all -implicitDefEqProofs)

end Sys2Proof.Laws
end

