-- ==== Sys2Proof/Laws/KeepReaction.lean ====
section
/-!
SUPPORT. What the operations of Reaction leave alone: one lemma for each operation and each part of the state that it never changes.
-/
namespace Sys2Proof.Laws
open Sys2Proof.Machine
set_option linter.unusedTactic false
set_option linter.unreachableTactic false
set_option linter.unusedVariables false
set_option linter.unusedSimpArgs false

@[simp] theorem fnSet_pending (s : State) (f : Fn) (v : FnState) : (fnSet s f v).pending = s.pending := by
  unfold fnSet
  (try dsimp only)
  repeat' (first | (with_reducible rfl) | split)
  all_goals (try simp_all -implicitDefEqProofs)
  all_goals (repeat' (first | (with_reducible rfl) | split))
  all_goals (try simp_all -implicitDefEqProofs)
@[simp] theorem fnSet_lck (s : State) (f : Fn) (v : FnState) : (fnSet s f v).lck = s.lck := by
  unfold fnSet
  (try dsimp only)
  repeat' (first | (with_reducible rfl) | split)
  all_goals (try simp_all -implicitDefEqProofs)
  all_goals (repeat' (first | (with_reducible rfl) | split))
  all_goals (try simp_all -implicitDefEqProofs)
@[simp] theorem fnSet_ready (s : State) (f : Fn) (v : FnState) : (fnSet s f v).boot.ready = s.boot.ready := by
  unfold fnSet
  (try dsimp only)
  repeat' (first | (with_reducible rfl) | split)
  all_goals (try simp_all -implicitDefEqProofs)
  all_goals (repeat' (first | (with_reducible rfl) | split))
  all_goals (try simp_all -implicitDefEqProofs)
@[simp] theorem fnSet_phase (s : State) (f : Fn) (v : FnState) : (fnSet s f v).cin.phase = s.cin.phase := by
  unfold fnSet
  (try dsimp only)
  repeat' (first | (with_reducible rfl) | split)
  all_goals (try simp_all -implicitDefEqProofs)
  all_goals (repeat' (first | (with_reducible rfl) | split))
  all_goals (try simp_all -implicitDefEqProofs)
@[simp] theorem fnSet_mem (s : State) (f : Fn) (v : FnState) : (fnSet s f v).dram.mem = s.dram.mem := by
  unfold fnSet
  (try dsimp only)
  repeat' (first | (with_reducible rfl) | split)
  all_goals (try simp_all -implicitDefEqProofs)
  all_goals (repeat' (first | (with_reducible rfl) | split))
  all_goals (try simp_all -implicitDefEqProofs)
@[simp] theorem fnSet_banks (s : State) (f : Fn) (v : FnState) : (fnSet s f v).fls.banks = s.fls.banks := by
  unfold fnSet
  (try dsimp only)
  repeat' (first | (with_reducible rfl) | split)
  all_goals (try simp_all -implicitDefEqProofs)
  all_goals (repeat' (first | (with_reducible rfl) | split))
  all_goals (try simp_all -implicitDefEqProofs)
@[simp] theorem fnQuiesce_pending (s : State) (f : Fn) (want : FnWant) (abort : Nat) : (fnQuiesce s f want abort).pending = s.pending := by
  unfold fnQuiesce
  (try dsimp only)
  repeat' (first | (with_reducible rfl) | split)
  all_goals (try simp_all -implicitDefEqProofs)
  all_goals (repeat' (first | (with_reducible rfl) | split))
  all_goals (try simp_all -implicitDefEqProofs)
@[simp] theorem fnQuiesce_lck (s : State) (f : Fn) (want : FnWant) (abort : Nat) : (fnQuiesce s f want abort).lck = s.lck := by
  unfold fnQuiesce
  (try dsimp only)
  repeat' (first | (with_reducible rfl) | split)
  all_goals (try simp_all -implicitDefEqProofs)
  all_goals (repeat' (first | (with_reducible rfl) | split))
  all_goals (try simp_all -implicitDefEqProofs)
@[simp] theorem fnQuiesce_ready (s : State) (f : Fn) (want : FnWant) (abort : Nat) : (fnQuiesce s f want abort).boot.ready = s.boot.ready := by
  unfold fnQuiesce
  (try dsimp only)
  repeat' (first | (with_reducible rfl) | split)
  all_goals (try simp_all -implicitDefEqProofs)
  all_goals (repeat' (first | (with_reducible rfl) | split))
  all_goals (try simp_all -implicitDefEqProofs)
@[simp] theorem fnQuiesce_phase (s : State) (f : Fn) (want : FnWant) (abort : Nat) : (fnQuiesce s f want abort).cin.phase = s.cin.phase := by
  unfold fnQuiesce
  (try dsimp only)
  repeat' (first | (with_reducible rfl) | split)
  all_goals (try simp_all -implicitDefEqProofs)
  all_goals (repeat' (first | (with_reducible rfl) | split))
  all_goals (try simp_all -implicitDefEqProofs)
@[simp] theorem fnQuiesce_mem (s : State) (f : Fn) (want : FnWant) (abort : Nat) : (fnQuiesce s f want abort).dram.mem = s.dram.mem := by
  unfold fnQuiesce
  (try dsimp only)
  repeat' (first | (with_reducible rfl) | split)
  all_goals (try simp_all -implicitDefEqProofs)
  all_goals (repeat' (first | (with_reducible rfl) | split))
  all_goals (try simp_all -implicitDefEqProofs)
@[simp] theorem fnQuiesce_banks (s : State) (f : Fn) (want : FnWant) (abort : Nat) : (fnQuiesce s f want abort).fls.banks = s.fls.banks := by
  unfold fnQuiesce
  (try dsimp only)
  repeat' (first | (with_reducible rfl) | split)
  all_goals (try simp_all -implicitDefEqProofs)
  all_goals (repeat' (first | (with_reducible rfl) | split))
  all_goals (try simp_all -implicitDefEqProofs)
@[simp] theorem fnEnter_pending (s : State) (f : Fn) : (fnEnter s f).pending = s.pending := by
  unfold fnEnter
  (try dsimp only)
  repeat' (first | (with_reducible rfl) | split)
  all_goals (try simp_all -implicitDefEqProofs)
  all_goals (repeat' (first | (with_reducible rfl) | split))
  all_goals (try simp_all -implicitDefEqProofs)
@[simp] theorem fnEnter_lck (s : State) (f : Fn) : (fnEnter s f).lck = s.lck := by
  unfold fnEnter
  (try dsimp only)
  repeat' (first | (with_reducible rfl) | split)
  all_goals (try simp_all -implicitDefEqProofs)
  all_goals (repeat' (first | (with_reducible rfl) | split))
  all_goals (try simp_all -implicitDefEqProofs)
@[simp] theorem fnEnter_ready (s : State) (f : Fn) : (fnEnter s f).boot.ready = s.boot.ready := by
  unfold fnEnter
  (try dsimp only)
  repeat' (first | (with_reducible rfl) | split)
  all_goals (try simp_all -implicitDefEqProofs)
  all_goals (repeat' (first | (with_reducible rfl) | split))
  all_goals (try simp_all -implicitDefEqProofs)
@[simp] theorem fnEnter_phase (s : State) (f : Fn) : (fnEnter s f).cin.phase = s.cin.phase := by
  unfold fnEnter
  (try dsimp only)
  repeat' (first | (with_reducible rfl) | split)
  all_goals (try simp_all -implicitDefEqProofs)
  all_goals (repeat' (first | (with_reducible rfl) | split))
  all_goals (try simp_all -implicitDefEqProofs)
@[simp] theorem fnEnter_mem (s : State) (f : Fn) : (fnEnter s f).dram.mem = s.dram.mem := by
  unfold fnEnter
  (try dsimp only)
  repeat' (first | (with_reducible rfl) | split)
  all_goals (try simp_all -implicitDefEqProofs)
  all_goals (repeat' (first | (with_reducible rfl) | split))
  all_goals (try simp_all -implicitDefEqProofs)
@[simp] theorem fnEnter_banks (s : State) (f : Fn) : (fnEnter s f).fls.banks = s.fls.banks := by
  unfold fnEnter
  (try dsimp only)
  repeat' (first | (with_reducible rfl) | split)
  all_goals (try simp_all -implicitDefEqProofs)
  all_goals (repeat' (first | (with_reducible rfl) | split))
  all_goals (try simp_all -implicitDefEqProofs)
@[simp] theorem containLd_pending (s : State) (n : Nat) : (containLd s n).pending = s.pending := by
  unfold containLd
  (try dsimp only)
  repeat' (first | (with_reducible rfl) | split)
  all_goals (try simp_all -implicitDefEqProofs)
  all_goals (repeat' (first | (with_reducible rfl) | split))
  all_goals (try simp_all -implicitDefEqProofs)
@[simp] theorem containLd_lck (s : State) (n : Nat) : (containLd s n).lck = s.lck := by
  unfold containLd
  (try dsimp only)
  repeat' (first | (with_reducible rfl) | split)
  all_goals (try simp_all -implicitDefEqProofs)
  all_goals (repeat' (first | (with_reducible rfl) | split))
  all_goals (try simp_all -implicitDefEqProofs)
@[simp] theorem containLd_ready (s : State) (n : Nat) : (containLd s n).boot.ready = s.boot.ready := by
  unfold containLd
  (try dsimp only)
  repeat' (first | (with_reducible rfl) | split)
  all_goals (try simp_all -implicitDefEqProofs)
  all_goals (repeat' (first | (with_reducible rfl) | split))
  all_goals (try simp_all -implicitDefEqProofs)
@[simp] theorem containLd_phase (s : State) (n : Nat) : (containLd s n).cin.phase = s.cin.phase := by
  unfold containLd
  (try dsimp only)
  repeat' (first | (with_reducible rfl) | split)
  all_goals (try simp_all -implicitDefEqProofs)
  all_goals (repeat' (first | (with_reducible rfl) | split))
  all_goals (try simp_all -implicitDefEqProofs)
@[simp] theorem containLd_mem (s : State) (n : Nat) : (containLd s n).dram.mem = s.dram.mem := by
  unfold containLd
  (try dsimp only)
  repeat' (first | (with_reducible rfl) | split)
  all_goals (try simp_all -implicitDefEqProofs)
  all_goals (repeat' (first | (with_reducible rfl) | split))
  all_goals (try simp_all -implicitDefEqProofs)
@[simp] theorem containLd_banks (s : State) (n : Nat) : (containLd s n).fls.banks = s.fls.banks := by
  unfold containLd
  (try dsimp only)
  repeat' (first | (with_reducible rfl) | split)
  all_goals (try simp_all -implicitDefEqProofs)
  all_goals (repeat' (first | (with_reducible rfl) | split))
  all_goals (try simp_all -implicitDefEqProofs)
@[simp] theorem hostViolation_pending (s : State) (port : Nat) (ld : Option Nat) (cause : Nat) : (hostViolation s port ld cause).pending = s.pending := by
  unfold hostViolation
  (try dsimp only)
  repeat' (first | (with_reducible rfl) | split)
  all_goals (try simp_all -implicitDefEqProofs)
  all_goals (repeat' (first | (with_reducible rfl) | split))
  all_goals (try simp_all -implicitDefEqProofs)
@[simp] theorem hostViolation_lck (s : State) (port : Nat) (ld : Option Nat) (cause : Nat) : (hostViolation s port ld cause).lck = s.lck := by
  unfold hostViolation
  (try dsimp only)
  repeat' (first | (with_reducible rfl) | split)
  all_goals (try simp_all -implicitDefEqProofs)
  all_goals (repeat' (first | (with_reducible rfl) | split))
  all_goals (try simp_all -implicitDefEqProofs)
@[simp] theorem hostViolation_ready (s : State) (port : Nat) (ld : Option Nat) (cause : Nat) : (hostViolation s port ld cause).boot.ready = s.boot.ready := by
  unfold hostViolation
  (try dsimp only)
  repeat' (first | (with_reducible rfl) | split)
  all_goals (try simp_all -implicitDefEqProofs)
  all_goals (repeat' (first | (with_reducible rfl) | split))
  all_goals (try simp_all -implicitDefEqProofs)
@[simp] theorem hostViolation_phase (s : State) (port : Nat) (ld : Option Nat) (cause : Nat) : (hostViolation s port ld cause).cin.phase = s.cin.phase := by
  unfold hostViolation
  (try dsimp only)
  repeat' (first | (with_reducible rfl) | split)
  all_goals (try simp_all -implicitDefEqProofs)
  all_goals (repeat' (first | (with_reducible rfl) | split))
  all_goals (try simp_all -implicitDefEqProofs)
@[simp] theorem hostViolation_mem (s : State) (port : Nat) (ld : Option Nat) (cause : Nat) : (hostViolation s port ld cause).dram.mem = s.dram.mem := by
  unfold hostViolation
  (try dsimp only)
  repeat' (first | (with_reducible rfl) | split)
  all_goals (try simp_all -implicitDefEqProofs)
  all_goals (repeat' (first | (with_reducible rfl) | split))
  all_goals (try simp_all -implicitDefEqProofs)
@[simp] theorem hostViolation_banks (s : State) (port : Nat) (ld : Option Nat) (cause : Nat) : (hostViolation s port ld cause).fls.banks = s.fls.banks := by
  unfold hostViolation
  (try dsimp only)
  repeat' (first | (with_reducible rfl) | split)
  all_goals (try simp_all -implicitDefEqProofs)
  all_goals (repeat' (first | (with_reducible rfl) | split))
  all_goals (try simp_all -implicitDefEqProofs)
@[simp] theorem twinViolation_pending (s : State) (cause code : Nat) : (twinViolation s cause code).pending = s.pending := by
  unfold twinViolation
  (try dsimp only)
  repeat' (first | (with_reducible rfl) | split)
  all_goals (try simp_all -implicitDefEqProofs)
  all_goals (repeat' (first | (with_reducible rfl) | split))
  all_goals (try simp_all -implicitDefEqProofs)
@[simp] theorem twinViolation_lck (s : State) (cause code : Nat) : (twinViolation s cause code).lck = s.lck := by
  unfold twinViolation
  (try dsimp only)
  repeat' (first | (with_reducible rfl) | split)
  all_goals (try simp_all -implicitDefEqProofs)
  all_goals (repeat' (first | (with_reducible rfl) | split))
  all_goals (try simp_all -implicitDefEqProofs)
@[simp] theorem twinViolation_ready (s : State) (cause code : Nat) : (twinViolation s cause code).boot.ready = s.boot.ready := by
  unfold twinViolation
  (try dsimp only)
  repeat' (first | (with_reducible rfl) | split)
  all_goals (try simp_all -implicitDefEqProofs)
  all_goals (repeat' (first | (with_reducible rfl) | split))
  all_goals (try simp_all -implicitDefEqProofs)
@[simp] theorem twinViolation_phase (s : State) (cause code : Nat) : (twinViolation s cause code).cin.phase = s.cin.phase := by
  unfold twinViolation
  (try dsimp only)
  repeat' (first | (with_reducible rfl) | split)
  all_goals (try simp_all -implicitDefEqProofs)
  all_goals (repeat' (first | (with_reducible rfl) | split))
  all_goals (try simp_all -implicitDefEqProofs)
@[simp] theorem twinViolation_mem (s : State) (cause code : Nat) : (twinViolation s cause code).dram.mem = s.dram.mem := by
  unfold twinViolation
  (try dsimp only)
  repeat' (first | (with_reducible rfl) | split)
  all_goals (try simp_all -implicitDefEqProofs)
  all_goals (repeat' (first | (with_reducible rfl) | split))
  all_goals (try simp_all -implicitDefEqProofs)
@[simp] theorem twinViolation_banks (s : State) (cause code : Nat) : (twinViolation s cause code).fls.banks = s.fls.banks := by
  unfold twinViolation
  (try dsimp only)
  repeat' (first | (with_reducible rfl) | split)
  all_goals (try simp_all -implicitDefEqProofs)
  all_goals (repeat' (first | (with_reducible rfl) | split))
  all_goals (try simp_all -implicitDefEqProofs)
@[simp] theorem closeWindow_pending (s : State) (cause : Nat) : (closeWindow s cause).pending = s.pending := by
  unfold closeWindow
  (try dsimp only)
  repeat' (first | (with_reducible rfl) | split)
  all_goals (try simp_all -implicitDefEqProofs)
  all_goals (repeat' (first | (with_reducible rfl) | split))
  all_goals (try simp_all -implicitDefEqProofs)
@[simp] theorem closeWindow_lck (s : State) (cause : Nat) : (closeWindow s cause).lck = s.lck := by
  unfold closeWindow
  (try dsimp only)
  repeat' (first | (with_reducible rfl) | split)
  all_goals (try simp_all -implicitDefEqProofs)
  all_goals (repeat' (first | (with_reducible rfl) | split))
  all_goals (try simp_all -implicitDefEqProofs)
@[simp] theorem closeWindow_ready (s : State) (cause : Nat) : (closeWindow s cause).boot.ready = s.boot.ready := by
  unfold closeWindow
  (try dsimp only)
  repeat' (first | (with_reducible rfl) | split)
  all_goals (try simp_all -implicitDefEqProofs)
  all_goals (repeat' (first | (with_reducible rfl) | split))
  all_goals (try simp_all -implicitDefEqProofs)
@[simp] theorem closeWindow_phase (s : State) (cause : Nat) : (closeWindow s cause).cin.phase = s.cin.phase := by
  unfold closeWindow
  (try dsimp only)
  repeat' (first | (with_reducible rfl) | split)
  all_goals (try simp_all -implicitDefEqProofs)
  all_goals (repeat' (first | (with_reducible rfl) | split))
  all_goals (try simp_all -implicitDefEqProofs)
@[simp] theorem closeWindow_mem (s : State) (cause : Nat) : (closeWindow s cause).dram.mem = s.dram.mem := by
  unfold closeWindow
  (try dsimp only)
  repeat' (first | (with_reducible rfl) | split)
  all_goals (try simp_all -implicitDefEqProofs)
  all_goals (repeat' (first | (with_reducible rfl) | split))
  all_goals (try simp_all -implicitDefEqProofs)
@[simp] theorem closeWindow_banks (s : State) (cause : Nat) : (closeWindow s cause).fls.banks = s.fls.banks := by
  unfold closeWindow
  (try dsimp only)
  repeat' (first | (with_reducible rfl) | split)
  all_goals (try simp_all -implicitDefEqProofs)
  all_goals (repeat' (first | (with_reducible rfl) | split))
  all_goals (try simp_all -implicitDefEqProofs)
@[simp] theorem warnEnter_pending (s : State) : (warnEnter s).pending = s.pending := by
  unfold warnEnter
  (try dsimp only)
  repeat' (first | (with_reducible rfl) | split)
  all_goals (try simp_all -implicitDefEqProofs)
  all_goals (repeat' (first | (with_reducible rfl) | split))
  all_goals (try simp_all -implicitDefEqProofs)
@[simp] theorem warnEnter_lck (s : State) : (warnEnter s).lck = s.lck := by
  unfold warnEnter
  (try dsimp only)
  repeat' (first | (with_reducible rfl) | split)
  all_goals (try simp_all -implicitDefEqProofs)
  all_goals (repeat' (first | (with_reducible rfl) | split))
  all_goals (try simp_all -implicitDefEqProofs)
@[simp] theorem warnEnter_ready (s : State) : (warnEnter s).boot.ready = s.boot.ready := by
  unfold warnEnter
  (try dsimp only)
  repeat' (first | (with_reducible rfl) | split)
  all_goals (try simp_all -implicitDefEqProofs)
  all_goals (repeat' (first | (with_reducible rfl) | split))
  all_goals (try simp_all -implicitDefEqProofs)
@[simp] theorem warnEnter_mem (s : State) : (warnEnter s).dram.mem = s.dram.mem := by
  unfold warnEnter
  (try dsimp only)
  repeat' (first | (with_reducible rfl) | split)
  all_goals (try simp_all -implicitDefEqProofs)
  all_goals (repeat' (first | (with_reducible rfl) | split))
  all_goals (try simp_all -implicitDefEqProofs)
@[simp] theorem warnEnter_banks (s : State) : (warnEnter s).fls.banks = s.fls.banks := by
  unfold warnEnter
  (try dsimp only)
  repeat' (first | (with_reducible rfl) | split)
  all_goals (try simp_all -implicitDefEqProofs)
  all_goals (repeat' (first | (with_reducible rfl) | split))
  all_goals (try simp_all -implicitDefEqProofs)
@[simp] theorem warnStandDown_pending (s : State) : (warnStandDown s).pending = s.pending := by
  unfold warnStandDown
  (try dsimp only)
  repeat' (first | (with_reducible rfl) | split)
  all_goals (try simp_all -implicitDefEqProofs)
  all_goals (repeat' (first | (with_reducible rfl) | split))
  all_goals (try simp_all -implicitDefEqProofs)
@[simp] theorem warnStandDown_lck (s : State) : (warnStandDown s).lck = s.lck := by
  unfold warnStandDown
  (try dsimp only)
  repeat' (first | (with_reducible rfl) | split)
  all_goals (try simp_all -implicitDefEqProofs)
  all_goals (repeat' (first | (with_reducible rfl) | split))
  all_goals (try simp_all -implicitDefEqProofs)
@[simp] theorem warnStandDown_ready (s : State) : (warnStandDown s).boot.ready = s.boot.ready := by
  unfold warnStandDown
  (try dsimp only)
  repeat' (first | (with_reducible rfl) | split)
  all_goals (try simp_all -implicitDefEqProofs)
  all_goals (repeat' (first | (with_reducible rfl) | split))
  all_goals (try simp_all -implicitDefEqProofs)
@[simp] theorem warnStandDown_mem (s : State) : (warnStandDown s).dram.mem = s.dram.mem := by
  unfold warnStandDown
  (try dsimp only)
  repeat' (first | (with_reducible rfl) | split)
  all_goals (try simp_all -implicitDefEqProofs)
  all_goals (repeat' (first | (with_reducible rfl) | split))
  all_goals (try simp_all -implicitDefEqProofs)
@[simp] theorem warnStandDown_banks (s : State) : (warnStandDown s).fls.banks = s.fls.banks := by
  unfold warnStandDown
  (try dsimp only)
  repeat' (first | (with_reducible rfl) | split)
  all_goals (try simp_all -implicitDefEqProofs)
  all_goals (repeat' (first | (with_reducible rfl) | split))
  all_goals (try simp_all -implicitDefEqProofs)
@[simp] theorem keeperWriteBack_pending (s : State) (agents : List Nat) : (keeperWriteBack s agents).pending = s.pending := by
  unfold keeperWriteBack
  (try dsimp only)
  repeat' (first | (with_reducible rfl) | split)
  all_goals (try simp_all -implicitDefEqProofs)
  all_goals (repeat' (first | (with_reducible rfl) | split))
  all_goals (try simp_all -implicitDefEqProofs)
@[simp] theorem keeperWriteBack_lck (s : State) (agents : List Nat) : (keeperWriteBack s agents).lck = s.lck := by
  unfold keeperWriteBack
  (try dsimp only)
  repeat' (first | (with_reducible rfl) | split)
  all_goals (try simp_all -implicitDefEqProofs)
  all_goals (repeat' (first | (with_reducible rfl) | split))
  all_goals (try simp_all -implicitDefEqProofs)
@[simp] theorem keeperWriteBack_ready (s : State) (agents : List Nat) : (keeperWriteBack s agents).boot.ready = s.boot.ready := by
  unfold keeperWriteBack
  (try dsimp only)
  repeat' (first | (with_reducible rfl) | split)
  all_goals (try simp_all -implicitDefEqProofs)
  all_goals (repeat' (first | (with_reducible rfl) | split))
  all_goals (try simp_all -implicitDefEqProofs)
@[simp] theorem keeperWriteBack_phase (s : State) (agents : List Nat) : (keeperWriteBack s agents).cin.phase = s.cin.phase := by
  unfold keeperWriteBack
  (try dsimp only)
  repeat' (first | (with_reducible rfl) | split)
  all_goals (try simp_all -implicitDefEqProofs)
  all_goals (repeat' (first | (with_reducible rfl) | split))
  all_goals (try simp_all -implicitDefEqProofs)
@[simp] theorem keeperWriteBack_mem (s : State) (agents : List Nat) : (keeperWriteBack s agents).dram.mem = s.dram.mem := by
  unfold keeperWriteBack
  (try dsimp only)
  repeat' (first | (with_reducible rfl) | split)
  all_goals (try simp_all -implicitDefEqProofs)
  all_goals (repeat' (first | (with_reducible rfl) | split))
  all_goals (try simp_all -implicitDefEqProofs)
@[simp] theorem keeperWriteBack_banks (s : State) (agents : List Nat) : (keeperWriteBack s agents).fls.banks = s.fls.banks := by
  unfold keeperWriteBack
  (try dsimp only)
  repeat' (first | (with_reducible rfl) | split)
  all_goals (try simp_all -implicitDefEqProofs)
  all_goals (repeat' (first | (with_reducible rfl) | split))
  all_goals (try simp_all -implicitDefEqProofs)
@[simp] theorem railSet_pending (s : State) (n : Nat) (r : Rail) : (railSet s n r).pending = s.pending := by
  unfold railSet
  (try dsimp only)
  repeat' (first | (with_reducible rfl) | split)
  all_goals (try simp_all -implicitDefEqProofs)
  all_goals (repeat' (first | (with_reducible rfl) | split))
  all_goals (try simp_all -implicitDefEqProofs)
@[simp] theorem railSet_lck (s : State) (n : Nat) (r : Rail) : (railSet s n r).lck = s.lck := by
  unfold railSet
  (try dsimp only)
  repeat' (first | (with_reducible rfl) | split)
  all_goals (try simp_all -implicitDefEqProofs)
  all_goals (repeat' (first | (with_reducible rfl) | split))
  all_goals (try simp_all -implicitDefEqProofs)
@[simp] theorem railSet_ready (s : State) (n : Nat) (r : Rail) : (railSet s n r).boot.ready = s.boot.ready := by
  unfold railSet
  (try dsimp only)
  repeat' (first | (with_reducible rfl) | split)
  all_goals (try simp_all -implicitDefEqProofs)
  all_goals (repeat' (first | (with_reducible rfl) | split))
  all_goals (try simp_all -implicitDefEqProofs)
@[simp] theorem railSet_phase (s : State) (n : Nat) (r : Rail) : (railSet s n r).cin.phase = s.cin.phase := by
  unfold railSet
  (try dsimp only)
  repeat' (first | (with_reducible rfl) | split)
  all_goals (try simp_all -implicitDefEqProofs)
  all_goals (repeat' (first | (with_reducible rfl) | split))
  all_goals (try simp_all -implicitDefEqProofs)
@[simp] theorem railSet_mem (s : State) (n : Nat) (r : Rail) : (railSet s n r).dram.mem = s.dram.mem := by
  unfold railSet
  (try dsimp only)
  repeat' (first | (with_reducible rfl) | split)
  all_goals (try simp_all -implicitDefEqProofs)
  all_goals (repeat' (first | (with_reducible rfl) | split))
  all_goals (try simp_all -implicitDefEqProofs)
@[simp] theorem railSet_banks (s : State) (n : Nat) (r : Rail) : (railSet s n r).fls.banks = s.fls.banks := by
  unfold railSet
  (try dsimp only)
  repeat' (first | (with_reducible rfl) | split)
  all_goals (try simp_all -implicitDefEqProofs)
  all_goals (repeat' (first | (with_reducible rfl) | split))
  all_goals (try simp_all -implicitDefEqProofs)
@[simp] theorem supplyCheck_pending (s : State) : (supplyCheck s).pending = s.pending := by
  unfold supplyCheck
  (try dsimp only)
  repeat' (first | (with_reducible rfl) | split)
  all_goals (try simp_all -implicitDefEqProofs)
  all_goals (repeat' (first | (with_reducible rfl) | split))
  all_goals (try simp_all -implicitDefEqProofs)
@[simp] theorem supplyCheck_lck (s : State) : (supplyCheck s).lck = s.lck := by
  unfold supplyCheck
  (try dsimp only)
  repeat' (first | (with_reducible rfl) | split)
  all_goals (try simp_all -implicitDefEqProofs)
  all_goals (repeat' (first | (with_reducible rfl) | split))
  all_goals (try simp_all -implicitDefEqProofs)
@[simp] theorem supplyCheck_ready (s : State) : (supplyCheck s).boot.ready = s.boot.ready := by
  unfold supplyCheck
  (try dsimp only)
  repeat' (first | (with_reducible rfl) | split)
  all_goals (try simp_all -implicitDefEqProofs)
  all_goals (repeat' (first | (with_reducible rfl) | split))
  all_goals (try simp_all -implicitDefEqProofs)
@[simp] theorem supplyCheck_phase (s : State) : (supplyCheck s).cin.phase = s.cin.phase := by
  unfold supplyCheck
  (try dsimp only)
  repeat' (first | (with_reducible rfl) | split)
  all_goals (try simp_all -implicitDefEqProofs)
  all_goals (repeat' (first | (with_reducible rfl) | split))
  all_goals (try simp_all -implicitDefEqProofs)
@[simp] theorem supplyCheck_mem (s : State) : (supplyCheck s).dram.mem = s.dram.mem := by
  unfold supplyCheck
  (try dsimp only)
  repeat' (first | (with_reducible rfl) | split)
  all_goals (try simp_all -implicitDefEqProofs)
  all_goals (repeat' (first | (with_reducible rfl) | split))
  all_goals (try simp_all -implicitDefEqProofs)
@[simp] theorem supplyCheck_banks (s : State) : (supplyCheck s).fls.banks = s.fls.banks := by
  unfold supplyCheck
  (try dsimp only)
  repeat' (first | (with_reducible rfl) | split)
  all_goals (try simp_all -implicitDefEqProofs)
  all_goals (repeat' (first | (with_reducible rfl) | split))
  all_goals (try simp_all -implicitDefEqProofs)
@[simp] theorem requalRestart_pending (s : State) : (requalRestart s).pending = s.pending := by
  unfold requalRestart
  (try dsimp only)
  repeat' (first | (with_reducible rfl) | split)
  all_goals (try simp_all -implicitDefEqProofs)
  all_goals (repeat' (first | (with_reducible rfl) | split))
  all_goals (try simp_all -implicitDefEqProofs)
@[simp] theorem requalRestart_lck (s : State) : (requalRestart s).lck = s.lck := by
  unfold requalRestart
  (try dsimp only)
  repeat' (first | (with_reducible rfl) | split)
  all_goals (try simp_all -implicitDefEqProofs)
  all_goals (repeat' (first | (with_reducible rfl) | split))
  all_goals (try simp_all -implicitDefEqProofs)
@[simp] theorem requalRestart_ready (s : State) : (requalRestart s).boot.ready = s.boot.ready := by
  unfold requalRestart
  (try dsimp only)
  repeat' (first | (with_reducible rfl) | split)
  all_goals (try simp_all -implicitDefEqProofs)
  all_goals (repeat' (first | (with_reducible rfl) | split))
  all_goals (try simp_all -implicitDefEqProofs)
@[simp] theorem requalRestart_phase (s : State) : (requalRestart s).cin.phase = s.cin.phase := by
  unfold requalRestart
  (try dsimp only)
  repeat' (first | (with_reducible rfl) | split)
  all_goals (try simp_all -implicitDefEqProofs)
  all_goals (repeat' (first | (with_reducible rfl) | split))
  all_goals (try simp_all -implicitDefEqProofs)
@[simp] theorem requalRestart_mem (s : State) : (requalRestart s).dram.mem = s.dram.mem := by
  unfold requalRestart
  (try dsimp only)
  repeat' (first | (with_reducible rfl) | split)
  all_goals (try simp_all -implicitDefEqProofs)
  all_goals (repeat' (first | (with_reducible rfl) | split))
  all_goals (try simp_all -implicitDefEqProofs)
@[simp] theorem requalRestart_banks (s : State) : (requalRestart s).fls.banks = s.fls.banks := by
  unfold requalRestart
  (try dsimp only)
  repeat' (first | (with_reducible rfl) | split)
  all_goals (try simp_all -implicitDefEqProofs)
  all_goals (repeat' (first | (with_reducible rfl) | split))
  all_goals (try simp_all -implicitDefEqProofs)
@[simp] theorem railsAtCommit_pending (s : State) : (railsAtCommit s).pending = s.pending := by
  unfold railsAtCommit
  (try dsimp only)
  repeat' (first | (with_reducible rfl) | split)
  all_goals (try simp_all -implicitDefEqProofs)
  all_goals (repeat' (first | (with_reducible rfl) | split))
  all_goals (try simp_all -implicitDefEqProofs)
@[simp] theorem railsAtCommit_lck (s : State) : (railsAtCommit s).lck = s.lck := by
  unfold railsAtCommit
  (try dsimp only)
  repeat' (first | (with_reducible rfl) | split)
  all_goals (try simp_all -implicitDefEqProofs)
  all_goals (repeat' (first | (with_reducible rfl) | split))
  all_goals (try simp_all -implicitDefEqProofs)
@[simp] theorem railsAtCommit_ready (s : State) : (railsAtCommit s).boot.ready = s.boot.ready := by
  unfold railsAtCommit
  (try dsimp only)
  repeat' (first | (with_reducible rfl) | split)
  all_goals (try simp_all -implicitDefEqProofs)
  all_goals (repeat' (first | (with_reducible rfl) | split))
  all_goals (try simp_all -implicitDefEqProofs)
@[simp] theorem railsAtCommit_phase (s : State) : (railsAtCommit s).cin.phase = s.cin.phase := by
  unfold railsAtCommit
  (try dsimp only)
  repeat' (first | (with_reducible rfl) | split)
  all_goals (try simp_all -implicitDefEqProofs)
  all_goals (repeat' (first | (with_reducible rfl) | split))
  all_goals (try simp_all -implicitDefEqProofs)
@[simp] theorem railsAtCommit_mem (s : State) : (railsAtCommit s).dram.mem = s.dram.mem := by
  unfold railsAtCommit
  (try dsimp only)
  repeat' (first | (with_reducible rfl) | split)
  all_goals (try simp_all -implicitDefEqProofs)
  all_goals (repeat' (first | (with_reducible rfl) | split))
  all_goals (try simp_all -implicitDefEqProofs)
@[simp] theorem railsAtCommit_banks (s : State) : (railsAtCommit s).fls.banks = s.fls.banks := by
  unfold railsAtCommit
  (try dsimp only)
  repeat' (first | (with_reducible rfl) | split)
  all_goals (try simp_all -implicitDefEqProofs)
  all_goals (repeat' (first | (with_reducible rfl) | split))
  all_goals (try simp_all -implicitDefEqProofs)
@[simp] theorem heldBack_pending (s : State) : (heldBack s).pending = s.pending := by
  unfold heldBack
  (try dsimp only)
  repeat' (first | (with_reducible rfl) | split)
  all_goals (try simp_all -implicitDefEqProofs)
  all_goals (repeat' (first | (with_reducible rfl) | split))
  all_goals (try simp_all -implicitDefEqProofs)
@[simp] theorem heldBack_lck (s : State) : (heldBack s).lck = s.lck := by
  unfold heldBack
  (try dsimp only)
  repeat' (first | (with_reducible rfl) | split)
  all_goals (try simp_all -implicitDefEqProofs)
  all_goals (repeat' (first | (with_reducible rfl) | split))
  all_goals (try simp_all -implicitDefEqProofs)
@[simp] theorem heldBack_ready (s : State) : (heldBack s).boot.ready = s.boot.ready := by
  unfold heldBack
  (try dsimp only)
  repeat' (first | (with_reducible rfl) | split)
  all_goals (try simp_all -implicitDefEqProofs)
  all_goals (repeat' (first | (with_reducible rfl) | split))
  all_goals (try simp_all -implicitDefEqProofs)
@[simp] theorem heldBack_phase (s : State) : (heldBack s).cin.phase = s.cin.phase := by
  unfold heldBack
  (try dsimp only)
  repeat' (first | (with_reducible rfl) | split)
  all_goals (try simp_all -implicitDefEqProofs)
  all_goals (repeat' (first | (with_reducible rfl) | split))
  all_goals (try simp_all -implicitDefEqProofs)
@[simp] theorem heldBack_mem (s : State) : (heldBack s).dram.mem = s.dram.mem := by
  unfold heldBack
  (try dsimp only)
  repeat' (first | (with_reducible rfl) | split)
  all_goals (try simp_all -implicitDefEqProofs)
  all_goals (repeat' (first | (with_reducible rfl) | split))
  all_goals (try simp_all -implicitDefEqProofs)
@[simp] theorem heldBack_banks (s : State) : (heldBack s).fls.banks = s.fls.banks := by
  unfold heldBack
  (try dsimp only)
  repeat' (first | (with_reducible rfl) | split)
  all_goals (try simp_all -implicitDefEqProofs)
  all_goals (repeat' (first | (with_reducible rfl) | split))
  all_goals (try simp_all -implicitDefEqProofs)
@[simp] theorem commitMark_pending (s : State) (trig : Nat) : (commitMark s trig).pending = s.pending := by
  unfold commitMark
  (try dsimp only)
  repeat' (first | (with_reducible rfl) | split)
  all_goals (try simp_all -implicitDefEqProofs)
  all_goals (repeat' (first | (with_reducible rfl) | split))
  all_goals (try simp_all -implicitDefEqProofs)
@[simp] theorem commitMark_lck (s : State) (trig : Nat) : (commitMark s trig).lck = s.lck := by
  unfold commitMark
  (try dsimp only)
  repeat' (first | (with_reducible rfl) | split)
  all_goals (try simp_all -implicitDefEqProofs)
  all_goals (repeat' (first | (with_reducible rfl) | split))
  all_goals (try simp_all -implicitDefEqProofs)
@[simp] theorem commitMark_mem (s : State) (trig : Nat) : (commitMark s trig).dram.mem = s.dram.mem := by
  unfold commitMark
  (try dsimp only)
  repeat' (first | (with_reducible rfl) | split)
  all_goals (try simp_all -implicitDefEqProofs)
  all_goals (repeat' (first | (with_reducible rfl) | split))
  all_goals (try simp_all -implicitDefEqProofs)
@[simp] theorem commitMark_banks (s : State) (trig : Nat) : (commitMark s trig).fls.banks = s.fls.banks := by
  unfold commitMark
  (try dsimp only)
  repeat' (first | (with_reducible rfl) | split)
  all_goals (try simp_all -implicitDefEqProofs)
  all_goals (repeat' (first | (with_reducible rfl) | split))
  all_goals (try simp_all -implicitDefEqProofs)
@[simp] theorem commitStore_pending (s : State) : (commitStore s).pending = s.pending := by
  unfold commitStore
  (try dsimp only)
  repeat' (first | (with_reducible rfl) | split)
  all_goals (try simp_all -implicitDefEqProofs)
  all_goals (repeat' (first | (with_reducible rfl) | split))
  all_goals (try simp_all -implicitDefEqProofs)
@[simp] theorem commitStore_lck (s : State) : (commitStore s).lck = s.lck := by
  unfold commitStore
  (try dsimp only)
  repeat' (first | (with_reducible rfl) | split)
  all_goals (try simp_all -implicitDefEqProofs)
  all_goals (repeat' (first | (with_reducible rfl) | split))
  all_goals (try simp_all -implicitDefEqProofs)
@[simp] theorem commitStore_ready (s : State) : (commitStore s).boot.ready = s.boot.ready := by
  unfold commitStore
  (try dsimp only)
  repeat' (first | (with_reducible rfl) | split)
  all_goals (try simp_all -implicitDefEqProofs)
  all_goals (repeat' (first | (with_reducible rfl) | split))
  all_goals (try simp_all -implicitDefEqProofs)
@[simp] theorem commitStore_phase (s : State) : (commitStore s).cin.phase = s.cin.phase := by
  unfold commitStore
  (try dsimp only)
  repeat' (first | (with_reducible rfl) | split)
  all_goals (try simp_all -implicitDefEqProofs)
  all_goals (repeat' (first | (with_reducible rfl) | split))
  all_goals (try simp_all -implicitDefEqProofs)
@[simp] theorem commitStore_mem (s : State) : (commitStore s).dram.mem = s.dram.mem := by
  unfold commitStore
  (try dsimp only)
  repeat' (first | (with_reducible rfl) | split)
  all_goals (try simp_all -implicitDefEqProofs)
  all_goals (repeat' (first | (with_reducible rfl) | split))
  all_goals (try simp_all -implicitDefEqProofs)
@[simp] theorem commitStore_banks (s : State) : (commitStore s).fls.banks = s.fls.banks := by
  unfold commitStore
  (try dsimp only)
  repeat' (first | (with_reducible rfl) | split)
  all_goals (try simp_all -implicitDefEqProofs)
  all_goals (repeat' (first | (with_reducible rfl) | split))
  all_goals (try simp_all -implicitDefEqProofs)
@[simp] theorem commitMedia_pending (s : State) : (commitMedia s).pending = s.pending := by
  unfold commitMedia
  (try dsimp only)
  repeat' (first | (with_reducible rfl) | split)
  all_goals (try simp_all -implicitDefEqProofs)
  all_goals (repeat' (first | (with_reducible rfl) | split))
  all_goals (try simp_all -implicitDefEqProofs)
@[simp] theorem commitMedia_lck (s : State) : (commitMedia s).lck = s.lck := by
  unfold commitMedia
  (try dsimp only)
  repeat' (first | (with_reducible rfl) | split)
  all_goals (try simp_all -implicitDefEqProofs)
  all_goals (repeat' (first | (with_reducible rfl) | split))
  all_goals (try simp_all -implicitDefEqProofs)
@[simp] theorem commitMedia_ready (s : State) : (commitMedia s).boot.ready = s.boot.ready := by
  unfold commitMedia
  (try dsimp only)
  repeat' (first | (with_reducible rfl) | split)
  all_goals (try simp_all -implicitDefEqProofs)
  all_goals (repeat' (first | (with_reducible rfl) | split))
  all_goals (try simp_all -implicitDefEqProofs)
@[simp] theorem commitMedia_phase (s : State) : (commitMedia s).cin.phase = s.cin.phase := by
  unfold commitMedia
  (try dsimp only)
  repeat' (first | (with_reducible rfl) | split)
  all_goals (try simp_all -implicitDefEqProofs)
  all_goals (repeat' (first | (with_reducible rfl) | split))
  all_goals (try simp_all -implicitDefEqProofs)
@[simp] theorem commitMedia_mem (s : State) : (commitMedia s).dram.mem = s.dram.mem := by
  unfold commitMedia
  (try dsimp only)
  repeat' (first | (with_reducible rfl) | split)
  all_goals (try simp_all -implicitDefEqProofs)
  all_goals (repeat' (first | (with_reducible rfl) | split))
  all_goals (try simp_all -implicitDefEqProofs)
@[simp] theorem commitMedia_banks (s : State) : (commitMedia s).fls.banks = s.fls.banks := by
  unfold commitMedia
  (try dsimp only)
  repeat' (first | (with_reducible rfl) | split)
  all_goals (try simp_all -implicitDefEqProofs)
  all_goals (repeat' (first | (with_reducible rfl) | split))
  all_goals (try simp_all -implicitDefEqProofs)
@[simp] theorem commitLoads_pending (s : State) : (commitLoads s).pending = s.pending := by
  unfold commitLoads
  (try dsimp only)
  repeat' (first | (with_reducible rfl) | split)
  all_goals (try simp_all -implicitDefEqProofs)
  all_goals (repeat' (first | (with_reducible rfl) | split))
  all_goals (try simp_all -implicitDefEqProofs)
@[simp] theorem commitLoads_lck (s : State) : (commitLoads s).lck = s.lck := by
  unfold commitLoads
  (try dsimp only)
  repeat' (first | (with_reducible rfl) | split)
  all_goals (try simp_all -implicitDefEqProofs)
  all_goals (repeat' (first | (with_reducible rfl) | split))
  all_goals (try simp_all -implicitDefEqProofs)
@[simp] theorem commitLoads_ready (s : State) : (commitLoads s).boot.ready = s.boot.ready := by
  unfold commitLoads
  (try dsimp only)
  repeat' (first | (with_reducible rfl) | split)
  all_goals (try simp_all -implicitDefEqProofs)
  all_goals (repeat' (first | (with_reducible rfl) | split))
  all_goals (try simp_all -implicitDefEqProofs)
@[simp] theorem commitLoads_phase (s : State) : (commitLoads s).cin.phase = s.cin.phase := by
  unfold commitLoads
  (try dsimp only)
  repeat' (first | (with_reducible rfl) | split)
  all_goals (try simp_all -implicitDefEqProofs)
  all_goals (repeat' (first | (with_reducible rfl) | split))
  all_goals (try simp_all -implicitDefEqProofs)
@[simp] theorem commitLoads_mem (s : State) : (commitLoads s).dram.mem = s.dram.mem := by
  unfold commitLoads
  (try dsimp only)
  repeat' (first | (with_reducible rfl) | split)
  all_goals (try simp_all -implicitDefEqProofs)
  all_goals (repeat' (first | (with_reducible rfl) | split))
  all_goals (try simp_all -implicitDefEqProofs)
@[simp] theorem commitLoads_banks (s : State) : (commitLoads s).fls.banks = s.fls.banks := by
  unfold commitLoads
  (try dsimp only)
  repeat' (first | (with_reducible rfl) | split)
  all_goals (try simp_all -implicitDefEqProofs)
  all_goals (repeat' (first | (with_reducible rfl) | split))
  all_goals (try simp_all -implicitDefEqProofs)
@[simp] theorem commitMaint_pending (s : State) : (commitMaint s).pending = s.pending := by
  unfold commitMaint
  (try dsimp only)
  repeat' (first | (with_reducible rfl) | split)
  all_goals (try simp_all -implicitDefEqProofs)
  all_goals (repeat' (first | (with_reducible rfl) | split))
  all_goals (try simp_all -implicitDefEqProofs)
@[simp] theorem commitMaint_lck (s : State) : (commitMaint s).lck = s.lck := by
  unfold commitMaint
  (try dsimp only)
  repeat' (first | (with_reducible rfl) | split)
  all_goals (try simp_all -implicitDefEqProofs)
  all_goals (repeat' (first | (with_reducible rfl) | split))
  all_goals (try simp_all -implicitDefEqProofs)
@[simp] theorem commitMaint_ready (s : State) : (commitMaint s).boot.ready = s.boot.ready := by
  unfold commitMaint
  (try dsimp only)
  repeat' (first | (with_reducible rfl) | split)
  all_goals (try simp_all -implicitDefEqProofs)
  all_goals (repeat' (first | (with_reducible rfl) | split))
  all_goals (try simp_all -implicitDefEqProofs)
@[simp] theorem commitMaint_phase (s : State) : (commitMaint s).cin.phase = s.cin.phase := by
  unfold commitMaint
  (try dsimp only)
  repeat' (first | (with_reducible rfl) | split)
  all_goals (try simp_all -implicitDefEqProofs)
  all_goals (repeat' (first | (with_reducible rfl) | split))
  all_goals (try simp_all -implicitDefEqProofs)
@[simp] theorem commitMaint_mem (s : State) : (commitMaint s).dram.mem = s.dram.mem := by
  unfold commitMaint
  (try dsimp only)
  repeat' (first | (with_reducible rfl) | split)
  all_goals (try simp_all -implicitDefEqProofs)
  all_goals (repeat' (first | (with_reducible rfl) | split))
  all_goals (try simp_all -implicitDefEqProofs)
@[simp] theorem commitMaint_banks (s : State) : (commitMaint s).fls.banks = s.fls.banks := by
  unfold commitMaint
  (try dsimp only)
  repeat' (first | (with_reducible rfl) | split)
  all_goals (try simp_all -implicitDefEqProofs)
  all_goals (repeat' (first | (with_reducible rfl) | split))
  all_goals (try simp_all -implicitDefEqProofs)
@[simp] theorem commitRest_pending (s : State) (trig : Nat) : (commitRest s trig).pending = s.pending := by
  unfold commitRest
  (try dsimp only)
  repeat' (first | (with_reducible rfl) | split)
  all_goals (try simp_all -implicitDefEqProofs)
  all_goals (repeat' (first | (with_reducible rfl) | split))
  all_goals (try simp_all -implicitDefEqProofs)
@[simp] theorem commitRest_lck (s : State) (trig : Nat) : (commitRest s trig).lck = s.lck := by
  unfold commitRest
  (try dsimp only)
  repeat' (first | (with_reducible rfl) | split)
  all_goals (try simp_all -implicitDefEqProofs)
  all_goals (repeat' (first | (with_reducible rfl) | split))
  all_goals (try simp_all -implicitDefEqProofs)
@[simp] theorem commitRest_ready (s : State) (trig : Nat) : (commitRest s trig).boot.ready = s.boot.ready := by
  unfold commitRest
  (try dsimp only)
  repeat' (first | (with_reducible rfl) | split)
  all_goals (try simp_all -implicitDefEqProofs)
  all_goals (repeat' (first | (with_reducible rfl) | split))
  all_goals (try simp_all -implicitDefEqProofs)
@[simp] theorem commitRest_phase (s : State) (trig : Nat) : (commitRest s trig).cin.phase = s.cin.phase := by
  unfold commitRest
  (try dsimp only)
  repeat' (first | (with_reducible rfl) | split)
  all_goals (try simp_all -implicitDefEqProofs)
  all_goals (repeat' (first | (with_reducible rfl) | split))
  all_goals (try simp_all -implicitDefEqProofs)
@[simp] theorem commitRest_mem (s : State) (trig : Nat) : (commitRest s trig).dram.mem = s.dram.mem := by
  unfold commitRest
  (try dsimp only)
  repeat' (first | (with_reducible rfl) | split)
  all_goals (try simp_all -implicitDefEqProofs)
  all_goals (repeat' (first | (with_reducible rfl) | split))
  all_goals (try simp_all -implicitDefEqProofs)
@[simp] theorem commitRest_banks (s : State) (trig : Nat) : (commitRest s trig).fls.banks = s.fls.banks := by
  unfold commitRest
  (try dsimp only)
  repeat' (first | (with_reducible rfl) | split)
  all_goals (try simp_all -implicitDefEqProofs)
  all_goals (repeat' (first | (with_reducible rfl) | split))
  all_goals (try simp_all -implicitDefEqProofs)
@[simp] theorem enterCommit_pending (s : State) (trig : Nat) : (enterCommit s trig).pending = s.pending := by
  unfold enterCommit
  repeat' (first
    | (with_reducible rfl)
    | (extract_lets +onlyGivenNames u; have hu : u.pending = s.pending := (by
         (try simp only [u])
         repeat' (first | (with_reducible rfl) | split)
         all_goals (try simp_all -implicitDefEqProofs)
         all_goals (repeat' (first | (with_reducible rfl) | split))
         all_goals (try simp_all -implicitDefEqProofs)); clear_value u)
    | (extract_lets +onlyGivenNames u; clear_value u)
    | (split <;> (rename_i heq; have hh := snd_pending heq; clear heq))
    | split
    | (refine (foldl_pending _ _ _ ?_).trans ?_)
    | intro _)
  all_goals (try simp_all -implicitDefEqProofs)
  all_goals (repeat' (first | (with_reducible rfl) | split))
  all_goals (try simp_all -implicitDefEqProofs)
@[simp] theorem enterCommit_mem (s : State) (trig : Nat) : (enterCommit s trig).dram.mem = s.dram.mem := by
  unfold enterCommit
  repeat' (first
    | (with_reducible rfl)
    | (extract_lets +onlyGivenNames u; have hu : u.dram.mem = s.dram.mem := (by
         (try simp only [u])
         repeat' (first | (with_reducible rfl) | split)
         all_goals (try simp_all -implicitDefEqProofs)
         all_goals (repeat' (first | (with_reducible rfl) | split))
         all_goals (try simp_all -implicitDefEqProofs)); clear_value u)
    | (extract_lets +onlyGivenNames u; clear_value u)
    | (split <;> (rename_i heq; have hh := snd_mem heq; clear heq))
    | split
    | (refine (foldl_mem _ _ _ ?_).trans ?_)
    | intro _)
  all_goals (try simp_all -implicitDefEqProofs)
  all_goals (repeat' (first | (with_reducible rfl) | split))
  all_goals (try simp_all -implicitDefEqProofs)
@[simp] theorem backOut_pending (s : State) (sysReset : Bool) (faulted : Option Nat) : (backOut s sysReset faulted).pending = s.pending := by
  unfold backOut
  (try dsimp only)
  repeat' (first | (with_reducible rfl) | split)
  all_goals (try simp_all -implicitDefEqProofs)
  all_goals (repeat' (first | (with_reducible rfl) | split))
  all_goals (try simp_all -implicitDefEqProofs)
@[simp] theorem backOut_lck (s : State) (sysReset : Bool) (faulted : Option Nat) : (backOut s sysReset faulted).lck = s.lck := by
  unfold backOut
  (try dsimp only)
  repeat' (first | (with_reducible rfl) | split)
  all_goals (try simp_all -implicitDefEqProofs)
  all_goals (repeat' (first | (with_reducible rfl) | split))
  all_goals (try simp_all -implicitDefEqProofs)
@[simp] theorem backOut_ready (s : State) (sysReset : Bool) (faulted : Option Nat) : (backOut s sysReset faulted).boot.ready = s.boot.ready := by
  unfold backOut
  (try dsimp only)
  repeat' (first | (with_reducible rfl) | split)
  all_goals (try simp_all -implicitDefEqProofs)
  all_goals (repeat' (first | (with_reducible rfl) | split))
  all_goals (try simp_all -implicitDefEqProofs)
@[simp] theorem backOut_phase (s : State) (sysReset : Bool) (faulted : Option Nat) : (backOut s sysReset faulted).cin.phase = s.cin.phase := by
  unfold backOut
  (try dsimp only)
  repeat' (first | (with_reducible rfl) | split)
  all_goals (try simp_all -implicitDefEqProofs)
  all_goals (repeat' (first | (with_reducible rfl) | split))
  all_goals (try simp_all -implicitDefEqProofs)
@[simp] theorem backOut_mem (s : State) (sysReset : Bool) (faulted : Option Nat) : (backOut s sysReset faulted).dram.mem = s.dram.mem := by
  unfold backOut
  (try dsimp only)
  repeat' (first | (with_reducible rfl) | split)
  all_goals (try simp_all -implicitDefEqProofs)
  all_goals (repeat' (first | (with_reducible rfl) | split))
  all_goals (try simp_all -implicitDefEqProofs)
@[simp] theorem backOut_banks (s : State) (sysReset : Bool) (faulted : Option Nat) : (backOut s sysReset faulted).fls.banks = s.fls.banks := by
  unfold backOut
  (try dsimp only)
  repeat' (first | (with_reducible rfl) | split)
  all_goals (try simp_all -implicitDefEqProofs)
  all_goals (repeat' (first | (with_reducible rfl) | split))
  all_goals (try simp_all -implicitDefEqProofs)
@[simp] theorem commitTrigger_pending (s : State) (trig : Nat) : (commitTrigger s trig).pending = s.pending := by
  unfold commitTrigger
  repeat' (first
    | (with_reducible rfl)
    | (extract_lets +onlyGivenNames u; have hu : u.pending = s.pending := (by
         (try simp only [u])
         repeat' (first | (with_reducible rfl) | split)
         all_goals (try simp_all -implicitDefEqProofs)
         all_goals (repeat' (first | (with_reducible rfl) | split))
         all_goals (try simp_all -implicitDefEqProofs)); clear_value u)
    | (extract_lets +onlyGivenNames u; clear_value u)
    | (split <;> (rename_i heq; have hh := snd_pending heq; clear heq))
    | split
    | (refine (foldl_pending _ _ _ ?_).trans ?_)
    | intro _)
  all_goals (try simp_all -implicitDefEqProofs)
  all_goals (repeat' (first | (with_reducible rfl) | split))
  all_goals (try simp_all -implicitDefEqProofs)
@[simp] theorem commitTrigger_mem (s : State) (trig : Nat) : (commitTrigger s trig).dram.mem = s.dram.mem := by
  unfold commitTrigger
  repeat' (first
    | (with_reducible rfl)
    | (extract_lets +onlyGivenNames u; have hu : u.dram.mem = s.dram.mem := (by
         (try simp only [u])
         repeat' (first | (with_reducible rfl) | split)
         all_goals (try simp_all -implicitDefEqProofs)
         all_goals (repeat' (first | (with_reducible rfl) | split))
         all_goals (try simp_all -implicitDefEqProofs)); clear_value u)
    | (extract_lets +onlyGivenNames u; clear_value u)
    | (split <;> (rename_i heq; have hh := snd_mem heq; clear heq))
    | split
    | (refine (foldl_mem _ _ _ ?_).trans ?_)
    | intro _)
  all_goals (try simp_all -implicitDefEqProofs)
  all_goals (repeat' (first | (with_reducible rfl) | split))
  all_goals (try simp_all -implicitDefEqProofs)
@[simp] theorem warmCauseSet_pending (s : State) (c : WarmCause) : (warmCauseSet s c).pending = s.pending := by
  unfold warmCauseSet
  (try dsimp only)
  repeat' (first | (with_reducible rfl) | split)
  all_goals (try simp_all -implicitDefEqProofs)
  all_goals (repeat' (first | (with_reducible rfl) | split))
  all_goals (try simp_all -implicitDefEqProofs)
@[simp] theorem warmCauseSet_mem (s : State) (c : WarmCause) : (warmCauseSet s c).dram.mem = s.dram.mem := by
  unfold warmCauseSet
  (try dsimp only)
  repeat' (first | (with_reducible rfl) | split)
  all_goals (try simp_all -implicitDefEqProofs)
  all_goals (repeat' (first | (with_reducible rfl) | split))
  all_goals (try simp_all -implicitDefEqProofs)
@[simp] theorem startWarmReset_pending (s : State) (c : WarmCause) : (startWarmReset s c).pending = s.pending := by
  unfold startWarmReset
  repeat' (first
    | (with_reducible rfl)
    | (extract_lets +onlyGivenNames u; have hu : u.pending = s.pending := (by
         (try simp only [u])
         repeat' (first | (with_reducible rfl) | split)
         all_goals (try simp_all -implicitDefEqProofs)
         all_goals (repeat' (first | (with_reducible rfl) | split))
         all_goals (try simp_all -implicitDefEqProofs)); clear_value u)
    | (extract_lets +onlyGivenNames u; clear_value u)
    | (split <;> (rename_i heq; have hh := snd_pending heq; clear heq))
    | split
    | (refine (foldl_pending _ _ _ ?_).trans ?_)
    | intro _)
  all_goals (try simp_all -implicitDefEqProofs)
  all_goals (repeat' (first | (with_reducible rfl) | split))
  all_goals (try simp_all -implicitDefEqProofs)
@[simp] theorem startWarmReset_mem (s : State) (c : WarmCause) : (startWarmReset s c).dram.mem = s.dram.mem := by
  unfold startWarmReset
  repeat' (first
    | (with_reducible rfl)
    | (extract_lets +onlyGivenNames u; have hu : u.dram.mem = s.dram.mem := (by
         (try simp only [u])
         repeat' (first | (with_reducible rfl) | split)
         all_goals (try simp_all -implicitDefEqProofs)
         all_goals (repeat' (first | (with_reducible rfl) | split))
         all_goals (try simp_all -implicitDefEqProofs)); clear_value u)
    | (extract_lets +onlyGivenNames u; clear_value u)
    | (split <;> (rename_i heq; have hh := snd_mem heq; clear heq))
    | split
    | (refine (foldl_mem _ _ _ ?_).trans ?_)
    | intro _)
  all_goals (try simp_all -implicitDefEqProofs)
  all_goals (repeat' (first | (with_reducible rfl) | split))
  all_goals (try simp_all -implicitDefEqProofs)
@[simp] theorem openWindow_pending (s : State) (w : Window) : (openWindow s w).pending = s.pending := by
  unfold openWindow
  (try dsimp only)
  repeat' (first | (with_reducible rfl) | split)
  all_goals (try simp_all -implicitDefEqProofs)
  all_goals (repeat' (first | (with_reducible rfl) | split))
  all_goals (try simp_all -implicitDefEqProofs)
@[simp] theorem openWindow_lck (s : State) (w : Window) : (openWindow s w).lck = s.lck := by
  unfold openWindow
  (try dsimp only)
  repeat' (first | (with_reducible rfl) | split)
  all_goals (try simp_all -implicitDefEqProofs)
  all_goals (repeat' (first | (with_reducible rfl) | split))
  all_goals (try simp_all -implicitDefEqProofs)
@[simp] theorem openWindow_ready (s : State) (w : Window) : (openWindow s w).boot.ready = s.boot.ready := by
  unfold openWindow
  (try dsimp only)
  repeat' (first | (with_reducible rfl) | split)
  all_goals (try simp_all -implicitDefEqProofs)
  all_goals (repeat' (first | (with_reducible rfl) | split))
  all_goals (try simp_all -implicitDefEqProofs)
@[simp] theorem openWindow_phase (s : State) (w : Window) : (openWindow s w).cin.phase = s.cin.phase := by
  unfold openWindow
  (try dsimp only)
  repeat' (first | (with_reducible rfl) | split)
  all_goals (try simp_all -implicitDefEqProofs)
  all_goals (repeat' (first | (with_reducible rfl) | split))
  all_goals (try simp_all -implicitDefEqProofs)
@[simp] theorem openWindow_mem (s : State) (w : Window) : (openWindow s w).dram.mem = s.dram.mem := by
  unfold openWindow
  (try dsimp only)
  repeat' (first | (with_reducible rfl) | split)
  all_goals (try simp_all -implicitDefEqProofs)
  all_goals (repeat' (first | (with_reducible rfl) | split))
  all_goals (try simp_all -implicitDefEqProofs)
@[simp] theorem openWindow_banks (s : State) (w : Window) : (openWindow s w).fls.banks = s.fls.banks := by
  unfold openWindow
  (try dsimp only)
  repeat' (first | (with_reducible rfl) | split)
  all_goals (try simp_all -implicitDefEqProofs)
  all_goals (repeat' (first | (with_reducible rfl) | split))
  all_goals (try simp_all -implicitDefEqProofs)
@[simp] theorem endReaction_pending (s : State) (sc : Scope) : (endReaction s sc).pending = s.pending := by
  unfold endReaction
  (try dsimp only)
  repeat' (first | (with_reducible rfl) | split)
  all_goals (try simp_all -implicitDefEqProofs)
  all_goals (repeat' (first | (with_reducible rfl) | split))
  all_goals (try simp_all -implicitDefEqProofs)
@[simp] theorem endReaction_lck (s : State) (sc : Scope) : (endReaction s sc).lck = s.lck := by
  unfold endReaction
  (try dsimp only)
  repeat' (first | (with_reducible rfl) | split)
  all_goals (try simp_all -implicitDefEqProofs)
  all_goals (repeat' (first | (with_reducible rfl) | split))
  all_goals (try simp_all -implicitDefEqProofs)
@[simp] theorem endReaction_ready (s : State) (sc : Scope) : (endReaction s sc).boot.ready = s.boot.ready := by
  unfold endReaction
  (try dsimp only)
  repeat' (first | (with_reducible rfl) | split)
  all_goals (try simp_all -implicitDefEqProofs)
  all_goals (repeat' (first | (with_reducible rfl) | split))
  all_goals (try simp_all -implicitDefEqProofs)
@[simp] theorem endReaction_phase (s : State) (sc : Scope) : (endReaction s sc).cin.phase = s.cin.phase := by
  unfold endReaction
  (try dsimp only)
  repeat' (first | (with_reducible rfl) | split)
  all_goals (try simp_all -implicitDefEqProofs)
  all_goals (repeat' (first | (with_reducible rfl) | split))
  all_goals (try simp_all -implicitDefEqProofs)
@[simp] theorem endReaction_mem (s : State) (sc : Scope) : (endReaction s sc).dram.mem = s.dram.mem := by
  unfold endReaction
  (try dsimp only)
  repeat' (first | (with_reducible rfl) | split)
  all_goals (try simp_all -implicitDefEqProofs)
  all_goals (repeat' (first | (with_reducible rfl) | split))
  all_goals (try simp_all -implicitDefEqProofs)
@[simp] theorem endReaction_banks (s : State) (sc : Scope) : (endReaction s sc).fls.banks = s.fls.banks := by
  unfold endReaction
  (try dsimp only)
  repeat' (first | (with_reducible rfl) | split)
  all_goals (try simp_all -implicitDefEqProofs)
  all_goals (repeat' (first | (with_reducible rfl) | split))
  all_goals (try simp_all -implicitDefEqProofs)
@[simp] theorem sevCount_pending (s : State) (rung : Nat) : (sevCount s rung).pending = s.pending := by
  unfold sevCount
  (try dsimp only)
  repeat' (first | (with_reducible rfl) | split)
  all_goals (try simp_all -implicitDefEqProofs)
  all_goals (repeat' (first | (with_reducible rfl) | split))
  all_goals (try simp_all -implicitDefEqProofs)
@[simp] theorem sevCount_lck (s : State) (rung : Nat) : (sevCount s rung).lck = s.lck := by
  unfold sevCount
  (try dsimp only)
  repeat' (first | (with_reducible rfl) | split)
  all_goals (try simp_all -implicitDefEqProofs)
  all_goals (repeat' (first | (with_reducible rfl) | split))
  all_goals (try simp_all -implicitDefEqProofs)
@[simp] theorem sevCount_ready (s : State) (rung : Nat) : (sevCount s rung).boot.ready = s.boot.ready := by
  unfold sevCount
  (try dsimp only)
  repeat' (first | (with_reducible rfl) | split)
  all_goals (try simp_all -implicitDefEqProofs)
  all_goals (repeat' (first | (with_reducible rfl) | split))
  all_goals (try simp_all -implicitDefEqProofs)
@[simp] theorem sevCount_phase (s : State) (rung : Nat) : (sevCount s rung).cin.phase = s.cin.phase := by
  unfold sevCount
  (try dsimp only)
  repeat' (first | (with_reducible rfl) | split)
  all_goals (try simp_all -implicitDefEqProofs)
  all_goals (repeat' (first | (with_reducible rfl) | split))
  all_goals (try simp_all -implicitDefEqProofs)
@[simp] theorem sevCount_mem (s : State) (rung : Nat) : (sevCount s rung).dram.mem = s.dram.mem := by
  unfold sevCount
  (try dsimp only)
  repeat' (first | (with_reducible rfl) | split)
  all_goals (try simp_all -implicitDefEqProofs)
  all_goals (repeat' (first | (with_reducible rfl) | split))
  all_goals (try simp_all -implicitDefEqProofs)
@[simp] theorem sevCount_banks (s : State) (rung : Nat) : (sevCount s rung).fls.banks = s.fls.banks := by
  unfold sevCount
  (try dsimp only)
  repeat' (first | (with_reducible rfl) | split)
  all_goals (try simp_all -implicitDefEqProofs)
  all_goals (repeat' (first | (with_reducible rfl) | split))
  all_goals (try simp_all -implicitDefEqProofs)
@[simp] theorem reactS2_pending (s : State) (u : FUnit) (inst : Nat) : (reactS2 s u inst).pending = s.pending := by
  unfold reactS2
  (try dsimp only)
  repeat' (first | (with_reducible rfl) | split)
  all_goals (try simp_all -implicitDefEqProofs)
  all_goals (repeat' (first | (with_reducible rfl) | split))
  all_goals (try simp_all -implicitDefEqProofs)
@[simp] theorem reactS2_lck (s : State) (u : FUnit) (inst : Nat) : (reactS2 s u inst).lck = s.lck := by
  unfold reactS2
  (try dsimp only)
  repeat' (first | (with_reducible rfl) | split)
  all_goals (try simp_all -implicitDefEqProofs)
  all_goals (repeat' (first | (with_reducible rfl) | split))
  all_goals (try simp_all -implicitDefEqProofs)
@[simp] theorem reactS2_ready (s : State) (u : FUnit) (inst : Nat) : (reactS2 s u inst).boot.ready = s.boot.ready := by
  unfold reactS2
  (try dsimp only)
  repeat' (first | (with_reducible rfl) | split)
  all_goals (try simp_all -implicitDefEqProofs)
  all_goals (repeat' (first | (with_reducible rfl) | split))
  all_goals (try simp_all -implicitDefEqProofs)
@[simp] theorem reactS2_phase (s : State) (u : FUnit) (inst : Nat) : (reactS2 s u inst).cin.phase = s.cin.phase := by
  unfold reactS2
  (try dsimp only)
  repeat' (first | (with_reducible rfl) | split)
  all_goals (try simp_all -implicitDefEqProofs)
  all_goals (repeat' (first | (with_reducible rfl) | split))
  all_goals (try simp_all -implicitDefEqProofs)
@[simp] theorem reactS2_mem (s : State) (u : FUnit) (inst : Nat) : (reactS2 s u inst).dram.mem = s.dram.mem := by
  unfold reactS2
  (try dsimp only)
  repeat' (first | (with_reducible rfl) | split)
  all_goals (try simp_all -implicitDefEqProofs)
  all_goals (repeat' (first | (with_reducible rfl) | split))
  all_goals (try simp_all -implicitDefEqProofs)
@[simp] theorem reactS2_banks (s : State) (u : FUnit) (inst : Nat) : (reactS2 s u inst).fls.banks = s.fls.banks := by
  unfold reactS2
  (try dsimp only)
  repeat' (first | (with_reducible rfl) | split)
  all_goals (try simp_all -implicitDefEqProofs)
  all_goals (repeat' (first | (with_reducible rfl) | split))
  all_goals (try simp_all -implicitDefEqProofs)
@[simp] theorem reactS3_pending (s : State) (u : FUnit) (g : FGroup) (inst : Nat) (held : Bool) : (reactS3 s u g inst held).pending = s.pending := by
  unfold reactS3
  (try dsimp only)
  repeat' (first | (with_reducible rfl) | split)
  all_goals (try simp_all -implicitDefEqProofs)
  all_goals (repeat' (first | (with_reducible rfl) | split))
  all_goals (try simp_all -implicitDefEqProofs)
@[simp] theorem reactS3_lck (s : State) (u : FUnit) (g : FGroup) (inst : Nat) (held : Bool) : (reactS3 s u g inst held).lck = s.lck := by
  unfold reactS3
  (try dsimp only)
  repeat' (first | (with_reducible rfl) | split)
  all_goals (try simp_all -implicitDefEqProofs)
  all_goals (repeat' (first | (with_reducible rfl) | split))
  all_goals (try simp_all -implicitDefEqProofs)
@[simp] theorem reactS3_ready (s : State) (u : FUnit) (g : FGroup) (inst : Nat) (held : Bool) : (reactS3 s u g inst held).boot.ready = s.boot.ready := by
  unfold reactS3
  (try dsimp only)
  repeat' (first | (with_reducible rfl) | split)
  all_goals (try simp_all -implicitDefEqProofs)
  all_goals (repeat' (first | (with_reducible rfl) | split))
  all_goals (try simp_all -implicitDefEqProofs)
@[simp] theorem reactS3_phase (s : State) (u : FUnit) (g : FGroup) (inst : Nat) (held : Bool) : (reactS3 s u g inst held).cin.phase = s.cin.phase := by
  unfold reactS3
  (try dsimp only)
  repeat' (first | (with_reducible rfl) | split)
  all_goals (try simp_all -implicitDefEqProofs)
  all_goals (repeat' (first | (with_reducible rfl) | split))
  all_goals (try simp_all -implicitDefEqProofs)
@[simp] theorem reactS3_mem (s : State) (u : FUnit) (g : FGroup) (inst : Nat) (held : Bool) : (reactS3 s u g inst held).dram.mem = s.dram.mem := by
  unfold reactS3
  (try dsimp only)
  repeat' (first | (with_reducible rfl) | split)
  all_goals (try simp_all -implicitDefEqProofs)
  all_goals (repeat' (first | (with_reducible rfl) | split))
  all_goals (try simp_all -implicitDefEqProofs)
@[simp] theorem reactS3_banks (s : State) (u : FUnit) (g : FGroup) (inst : Nat) (held : Bool) : (reactS3 s u g inst held).fls.banks = s.fls.banks := by
  unfold reactS3
  (try dsimp only)
  repeat' (first | (with_reducible rfl) | split)
  all_goals (try simp_all -implicitDefEqProofs)
  all_goals (repeat' (first | (with_reducible rfl) | split))
  all_goals (try simp_all -implicitDefEqProofs)
@[simp] theorem reactS5_pending (s : State) (u : FUnit) (inst : Nat) : (reactS5 s u inst).pending = s.pending := by
  unfold reactS5
  repeat' (first
    | (with_reducible rfl)
    | (extract_lets +onlyGivenNames u; have hu : u.pending = s.pending := (by
         (try simp only [u])
         repeat' (first | (with_reducible rfl) | split)
         all_goals (try simp_all -implicitDefEqProofs)
         all_goals (repeat' (first | (with_reducible rfl) | split))
         all_goals (try simp_all -implicitDefEqProofs)); clear_value u)
    | (extract_lets +onlyGivenNames u; clear_value u)
    | (split <;> (rename_i heq; have hh := snd_pending heq; clear heq))
    | split
    | (refine (foldl_pending _ _ _ ?_).trans ?_)
    | intro _)
  all_goals (try simp_all -implicitDefEqProofs)
  all_goals (repeat' (first | (with_reducible rfl) | split))
  all_goals (try simp_all -implicitDefEqProofs)
@[simp] theorem reactS5_mem (s : State) (u : FUnit) (inst : Nat) : (reactS5 s u inst).dram.mem = s.dram.mem := by
  unfold reactS5
  repeat' (first
    | (with_reducible rfl)
    | (extract_lets +onlyGivenNames u; have hu : u.dram.mem = s.dram.mem := (by
         (try simp only [u])
         repeat' (first | (with_reducible rfl) | split)
         all_goals (try simp_all -implicitDefEqProofs)
         all_goals (repeat' (first | (with_reducible rfl) | split))
         all_goals (try simp_all -implicitDefEqProofs)); clear_value u)
    | (extract_lets +onlyGivenNames u; clear_value u)
    | (split <;> (rename_i heq; have hh := snd_mem heq; clear heq))
    | split
    | (refine (foldl_mem _ _ _ ?_).trans ?_)
    | intro _)
  all_goals (try simp_all -implicitDefEqProofs)
  all_goals (repeat' (first | (with_reducible rfl) | split))
  all_goals (try simp_all -implicitDefEqProofs)
@[simp] theorem reactS4_pending (s : State) (u : FUnit) (inst : Nat) : (reactS4 s u inst).pending = s.pending := by
  unfold reactS4
  repeat' (first
    | (with_reducible rfl)
    | (extract_lets +onlyGivenNames u; have hu : u.pending = s.pending := (by
         (try simp only [u])
         repeat' (first | (with_reducible rfl) | split)
         all_goals (try simp_all -implicitDefEqProofs)
         all_goals (repeat' (first | (with_reducible rfl) | split))
         all_goals (try simp_all -implicitDefEqProofs)); clear_value u)
    | (extract_lets +onlyGivenNames u; clear_value u)
    | (split <;> (rename_i heq; have hh := snd_pending heq; clear heq))
    | split
    | (refine (foldl_pending _ _ _ ?_).trans ?_)
    | intro _)
  all_goals (try simp_all -implicitDefEqProofs)
  all_goals (repeat' (first | (with_reducible rfl) | split))
  all_goals (try simp_all -implicitDefEqProofs)
@[simp] theorem reactS4_mem (s : State) (u : FUnit) (inst : Nat) : (reactS4 s u inst).dram.mem = s.dram.mem := by
  unfold reactS4
  repeat' (first
    | (with_reducible rfl)
    | (extract_lets +onlyGivenNames u; have hu : u.dram.mem = s.dram.mem := (by
         (try simp only [u])
         repeat' (first | (with_reducible rfl) | split)
         all_goals (try simp_all -implicitDefEqProofs)
         all_goals (repeat' (first | (with_reducible rfl) | split))
         all_goals (try simp_all -implicitDefEqProofs)); clear_value u)
    | (extract_lets +onlyGivenNames u; clear_value u)
    | (split <;> (rename_i heq; have hh := snd_mem heq; clear heq))
    | split
    | (refine (foldl_mem _ _ _ ?_).trans ?_)
    | intro _)
  all_goals (try simp_all -implicitDefEqProofs)
  all_goals (repeat' (first | (with_reducible rfl) | split))
  all_goals (try simp_all -implicitDefEqProofs)
@[simp] theorem gradeFault_pending (s0 : State) (u : FUnit) (code inst sev rung : Nat) : (gradeFault s0 u code inst sev rung).pending = s0.pending := by
  unfold gradeFault
  repeat' (first
    | (with_reducible rfl)
    | (extract_lets +onlyGivenNames u; have hu : u.pending = s0.pending := (by
         (try simp only [u])
         repeat' (first | (with_reducible rfl) | split)
         all_goals (try simp_all -implicitDefEqProofs)
         all_goals (repeat' (first | (with_reducible rfl) | split))
         all_goals (try simp_all -implicitDefEqProofs)); clear_value u)
    | (extract_lets +onlyGivenNames u; clear_value u)
    | (split <;> (rename_i heq; have hh := snd_pending heq; clear heq))
    | split
    | (refine (foldl_pending _ _ _ ?_).trans ?_)
    | intro _)
  all_goals (try simp_all -implicitDefEqProofs)
  all_goals (repeat' (first | (with_reducible rfl) | split))
  all_goals (try simp_all -implicitDefEqProofs)
@[simp] theorem gradeFault_mem (s0 : State) (u : FUnit) (code inst sev rung : Nat) : (gradeFault s0 u code inst sev rung).dram.mem = s0.dram.mem := by
  unfold gradeFault
  repeat' (first
    | (with_reducible rfl)
    | (extract_lets +onlyGivenNames u; have hu : u.dram.mem = s0.dram.mem := (by
         (try simp only [u])
         repeat' (first | (with_reducible rfl) | split)
         all_goals (try simp_all -implicitDefEqProofs)
         all_goals (repeat' (first | (with_reducible rfl) | split))
         all_goals (try simp_all -implicitDefEqProofs)); clear_value u)
    | (extract_lets +onlyGivenNames u; clear_value u)
    | (split <;> (rename_i heq; have hh := snd_mem heq; clear heq))
    | split
    | (refine (foldl_mem _ _ _ ?_).trans ?_)
    | intro _)
  all_goals (try simp_all -implicitDefEqProofs)
  all_goals (repeat' (first | (with_reducible rfl) | split))
  all_goals (try simp_all -implicitDefEqProofs)
@[simp] theorem reportFault_pending (s : State) (u : FUnit) (code inst sev : Nat) (items : Bytes) : (reportFault s u code inst sev items).pending = s.pending := by
  unfold reportFault
  repeat' (first
    | (with_reducible rfl)
    | (extract_lets +onlyGivenNames u; have hu : u.pending = s.pending := (by
         (try simp only [u])
         repeat' (first | (with_reducible rfl) | split)
         all_goals (try simp_all -implicitDefEqProofs)
         all_goals (repeat' (first | (with_reducible rfl) | split))
         all_goals (try simp_all -implicitDefEqProofs)); clear_value u)
    | (extract_lets +onlyGivenNames u; clear_value u)
    | (split <;> (rename_i heq; have hh := snd_pending heq; clear heq))
    | split
    | (refine (foldl_pending _ _ _ ?_).trans ?_)
    | intro _)
  all_goals (try simp_all -implicitDefEqProofs)
  all_goals (repeat' (first | (with_reducible rfl) | split))
  all_goals (try simp_all -implicitDefEqProofs)
@[simp] theorem reportFault_mem (s : State) (u : FUnit) (code inst sev : Nat) (items : Bytes) : (reportFault s u code inst sev items).dram.mem = s.dram.mem := by
  unfold reportFault
  repeat' (first
    | (with_reducible rfl)
    | (extract_lets +onlyGivenNames u; have hu : u.dram.mem = s.dram.mem := (by
         (try simp only [u])
         repeat' (first | (with_reducible rfl) | split)
         all_goals (try simp_all -implicitDefEqProofs)
         all_goals (repeat' (first | (with_reducible rfl) | split))
         all_goals (try simp_all -implicitDefEqProofs)); clear_value u)
    | (extract_lets +onlyGivenNames u; clear_value u)
    | (split <;> (rename_i heq; have hh := snd_mem heq; clear heq))
    | split
    | (refine (foldl_mem _ _ _ ?_).trans ?_)
    | intro _)
  all_goals (try simp_all -implicitDefEqProofs)
  all_goals (repeat' (first | (with_reducible rfl) | split))
  all_goals (try simp_all -implicitDefEqProofs)
@[simp] theorem fault_pending (s : State) (u : FUnit) (ev : Ev) (inst : Nat) (items : Bytes) : (fault s u ev inst items).pending = s.pending := by
  unfold fault
  (try dsimp only)
  repeat' (first | (with_reducible rfl) | split)
  all_goals (try simp_all -implicitDefEqProofs)
  all_goals (repeat' (first | (with_reducible rfl) | split))
  all_goals (try simp_all -implicitDefEqProofs)
@[simp] theorem fault_mem (s : State) (u : FUnit) (ev : Ev) (inst : Nat) (items : Bytes) : (fault s u ev inst items).dram.mem = s.dram.mem := by
  unfold fault
  (try dsimp only)
  repeat' (first | (with_reducible rfl) | split)
  all_goals (try simp_all -implicitDefEqProofs)
  all_goals (repeat' (first | (with_reducible rfl) | split))
  all_goals (try simp_all -implicitDefEqProofs)

end Sys2Proof.Laws
end

