-- ==== Sys2Proof/Laws/KeepTree.lean ====
section
/-!
SUPPORT. What the operations of Tree leave alone: one lemma for each operation and each part of the state that it never changes.
-/
namespace Sys2Proof.Laws
open Sys2Proof.Machine
set_option linter.unusedTactic false
set_option linter.unreachableTactic false
set_option linter.unusedVariables false
set_option linter.unusedSimpArgs false

@[simp] theorem fillDone_pending (s : State) (t : TreeLine) (data : Bytes) (poison : Bool) : (fillDone s t data poison).pending = s.pending := by
  unfold fillDone
  (try dsimp only)
  repeat' (first | (with_reducible rfl) | split)
  all_goals (try simp_all -implicitDefEqProofs)
  all_goals (repeat' (first | (with_reducible rfl) | split))
  all_goals (try simp_all -implicitDefEqProofs)
@[simp] theorem fillDone_lck (s : State) (t : TreeLine) (data : Bytes) (poison : Bool) : (fillDone s t data poison).lck = s.lck := by
  unfold fillDone
  (try dsimp only)
  repeat' (first | (with_reducible rfl) | split)
  all_goals (try simp_all -implicitDefEqProofs)
  all_goals (repeat' (first | (with_reducible rfl) | split))
  all_goals (try simp_all -implicitDefEqProofs)
@[simp] theorem fillDone_ready (s : State) (t : TreeLine) (data : Bytes) (poison : Bool) : (fillDone s t data poison).boot.ready = s.boot.ready := by
  unfold fillDone
  (try dsimp only)
  repeat' (first | (with_reducible rfl) | split)
  all_goals (try simp_all -implicitDefEqProofs)
  all_goals (repeat' (first | (with_reducible rfl) | split))
  all_goals (try simp_all -implicitDefEqProofs)
@[simp] theorem fillDone_phase (s : State) (t : TreeLine) (data : Bytes) (poison : Bool) : (fillDone s t data poison).cin.phase = s.cin.phase := by
  unfold fillDone
  (try dsimp only)
  repeat' (first | (with_reducible rfl) | split)
  all_goals (try simp_all -implicitDefEqProofs)
  all_goals (repeat' (first | (with_reducible rfl) | split))
  all_goals (try simp_all -implicitDefEqProofs)
@[simp] theorem fillDone_mem (s : State) (t : TreeLine) (data : Bytes) (poison : Bool) : (fillDone s t data poison).dram.mem = s.dram.mem := by
  unfold fillDone
  (try dsimp only)
  repeat' (first | (with_reducible rfl) | split)
  all_goals (try simp_all -implicitDefEqProofs)
  all_goals (repeat' (first | (with_reducible rfl) | split))
  all_goals (try simp_all -implicitDefEqProofs)
@[simp] theorem fillDone_banks (s : State) (t : TreeLine) (data : Bytes) (poison : Bool) : (fillDone s t data poison).fls.banks = s.fls.banks := by
  unfold fillDone
  (try dsimp only)
  repeat' (first | (with_reducible rfl) | split)
  all_goals (try simp_all -implicitDefEqProofs)
  all_goals (repeat' (first | (with_reducible rfl) | split))
  all_goals (try simp_all -implicitDefEqProofs)
@[simp] theorem invalidateLine_pending (s : State) (kind : HomeKind) (t : TreeLine) : (invalidateLine s kind t).pending = s.pending := by
  unfold invalidateLine
  (try dsimp only)
  repeat' (first | (with_reducible rfl) | split)
  all_goals (try simp_all -implicitDefEqProofs)
  all_goals (repeat' (first | (with_reducible rfl) | split))
  all_goals (try simp_all -implicitDefEqProofs)
@[simp] theorem invalidateLine_lck (s : State) (kind : HomeKind) (t : TreeLine) : (invalidateLine s kind t).lck = s.lck := by
  unfold invalidateLine
  (try dsimp only)
  repeat' (first | (with_reducible rfl) | split)
  all_goals (try simp_all -implicitDefEqProofs)
  all_goals (repeat' (first | (with_reducible rfl) | split))
  all_goals (try simp_all -implicitDefEqProofs)
@[simp] theorem invalidateLine_ready (s : State) (kind : HomeKind) (t : TreeLine) : (invalidateLine s kind t).boot.ready = s.boot.ready := by
  unfold invalidateLine
  (try dsimp only)
  repeat' (first | (with_reducible rfl) | split)
  all_goals (try simp_all -implicitDefEqProofs)
  all_goals (repeat' (first | (with_reducible rfl) | split))
  all_goals (try simp_all -implicitDefEqProofs)
@[simp] theorem invalidateLine_phase (s : State) (kind : HomeKind) (t : TreeLine) : (invalidateLine s kind t).cin.phase = s.cin.phase := by
  unfold invalidateLine
  (try dsimp only)
  repeat' (first | (with_reducible rfl) | split)
  all_goals (try simp_all -implicitDefEqProofs)
  all_goals (repeat' (first | (with_reducible rfl) | split))
  all_goals (try simp_all -implicitDefEqProofs)
@[simp] theorem invalidateLine_mem (s : State) (kind : HomeKind) (t : TreeLine) : (invalidateLine s kind t).dram.mem = s.dram.mem := by
  unfold invalidateLine
  (try dsimp only)
  repeat' (first | (with_reducible rfl) | split)
  all_goals (try simp_all -implicitDefEqProofs)
  all_goals (repeat' (first | (with_reducible rfl) | split))
  all_goals (try simp_all -implicitDefEqProofs)
@[simp] theorem invalidateLine_banks (s : State) (kind : HomeKind) (t : TreeLine) : (invalidateLine s kind t).fls.banks = s.fls.banks := by
  unfold invalidateLine
  (try dsimp only)
  repeat' (first | (with_reducible rfl) | split)
  all_goals (try simp_all -implicitDefEqProofs)
  all_goals (repeat' (first | (with_reducible rfl) | split))
  all_goals (try simp_all -implicitDefEqProofs)
@[simp] theorem walkRun_pending (s : State) (w : Walk) : (walkRun s w).pending = s.pending := by
  unfold walkRun
  (try dsimp only)
  repeat' (first | (with_reducible rfl) | split)
  all_goals (try simp_all -implicitDefEqProofs)
  all_goals (repeat' (first | (with_reducible rfl) | split))
  all_goals (try simp_all -implicitDefEqProofs)
@[simp] theorem walkRun_lck (s : State) (w : Walk) : (walkRun s w).lck = s.lck := by
  unfold walkRun
  (try dsimp only)
  repeat' (first | (with_reducible rfl) | split)
  all_goals (try simp_all -implicitDefEqProofs)
  all_goals (repeat' (first | (with_reducible rfl) | split))
  all_goals (try simp_all -implicitDefEqProofs)
@[simp] theorem walkRun_ready (s : State) (w : Walk) : (walkRun s w).boot.ready = s.boot.ready := by
  unfold walkRun
  (try dsimp only)
  repeat' (first | (with_reducible rfl) | split)
  all_goals (try simp_all -implicitDefEqProofs)
  all_goals (repeat' (first | (with_reducible rfl) | split))
  all_goals (try simp_all -implicitDefEqProofs)
@[simp] theorem walkRun_phase (s : State) (w : Walk) : (walkRun s w).cin.phase = s.cin.phase := by
  unfold walkRun
  (try dsimp only)
  repeat' (first | (with_reducible rfl) | split)
  all_goals (try simp_all -implicitDefEqProofs)
  all_goals (repeat' (first | (with_reducible rfl) | split))
  all_goals (try simp_all -implicitDefEqProofs)
@[simp] theorem walkRun_mem (s : State) (w : Walk) : (walkRun s w).dram.mem = s.dram.mem := by
  unfold walkRun
  (try dsimp only)
  repeat' (first | (with_reducible rfl) | split)
  all_goals (try simp_all -implicitDefEqProofs)
  all_goals (repeat' (first | (with_reducible rfl) | split))
  all_goals (try simp_all -implicitDefEqProofs)
@[simp] theorem walkRun_banks (s : State) (w : Walk) : (walkRun s w).fls.banks = s.fls.banks := by
  unfold walkRun
  (try dsimp only)
  repeat' (first | (with_reducible rfl) | split)
  all_goals (try simp_all -implicitDefEqProofs)
  all_goals (repeat' (first | (with_reducible rfl) | split))
  all_goals (try simp_all -implicitDefEqProofs)
@[simp] theorem maintStart_pending (op : Nat) (s : State) : (maintStart op s).pending = s.pending := by
  unfold maintStart
  (try dsimp only)
  repeat' (first | (with_reducible rfl) | split)
  all_goals (try simp_all -implicitDefEqProofs)
  all_goals (repeat' (first | (with_reducible rfl) | split))
  all_goals (try simp_all -implicitDefEqProofs)
@[simp] theorem maintStart_lck (op : Nat) (s : State) : (maintStart op s).lck = s.lck := by
  unfold maintStart
  (try dsimp only)
  repeat' (first | (with_reducible rfl) | split)
  all_goals (try simp_all -implicitDefEqProofs)
  all_goals (repeat' (first | (with_reducible rfl) | split))
  all_goals (try simp_all -implicitDefEqProofs)
@[simp] theorem maintStart_ready (op : Nat) (s : State) : (maintStart op s).boot.ready = s.boot.ready := by
  unfold maintStart
  (try dsimp only)
  repeat' (first | (with_reducible rfl) | split)
  all_goals (try simp_all -implicitDefEqProofs)
  all_goals (repeat' (first | (with_reducible rfl) | split))
  all_goals (try simp_all -implicitDefEqProofs)
@[simp] theorem maintStart_phase (op : Nat) (s : State) : (maintStart op s).cin.phase = s.cin.phase := by
  unfold maintStart
  (try dsimp only)
  repeat' (first | (with_reducible rfl) | split)
  all_goals (try simp_all -implicitDefEqProofs)
  all_goals (repeat' (first | (with_reducible rfl) | split))
  all_goals (try simp_all -implicitDefEqProofs)
@[simp] theorem maintStart_mem (op : Nat) (s : State) : (maintStart op s).dram.mem = s.dram.mem := by
  unfold maintStart
  (try dsimp only)
  repeat' (first | (with_reducible rfl) | split)
  all_goals (try simp_all -implicitDefEqProofs)
  all_goals (repeat' (first | (with_reducible rfl) | split))
  all_goals (try simp_all -implicitDefEqProofs)
@[simp] theorem maintStart_banks (op : Nat) (s : State) : (maintStart op s).fls.banks = s.fls.banks := by
  unfold maintStart
  (try dsimp only)
  repeat' (first | (with_reducible rfl) | split)
  all_goals (try simp_all -implicitDefEqProofs)
  all_goals (repeat' (first | (with_reducible rfl) | split))
  all_goals (try simp_all -implicitDefEqProofs)
@[simp] theorem maintProcess_pending (s : State) (op lo hi : Nat) : (maintProcess s op lo hi).pending = s.pending := by
  unfold maintProcess
  (try dsimp only)
  repeat' (first | (with_reducible rfl) | split)
  all_goals (try simp_all -implicitDefEqProofs)
  all_goals (repeat' (first | (with_reducible rfl) | split))
  all_goals (try simp_all -implicitDefEqProofs)
@[simp] theorem maintProcess_lck (s : State) (op lo hi : Nat) : (maintProcess s op lo hi).lck = s.lck := by
  unfold maintProcess
  (try dsimp only)
  repeat' (first | (with_reducible rfl) | split)
  all_goals (try simp_all -implicitDefEqProofs)
  all_goals (repeat' (first | (with_reducible rfl) | split))
  all_goals (try simp_all -implicitDefEqProofs)
@[simp] theorem maintProcess_ready (s : State) (op lo hi : Nat) : (maintProcess s op lo hi).boot.ready = s.boot.ready := by
  unfold maintProcess
  (try dsimp only)
  repeat' (first | (with_reducible rfl) | split)
  all_goals (try simp_all -implicitDefEqProofs)
  all_goals (repeat' (first | (with_reducible rfl) | split))
  all_goals (try simp_all -implicitDefEqProofs)
@[simp] theorem maintProcess_phase (s : State) (op lo hi : Nat) : (maintProcess s op lo hi).cin.phase = s.cin.phase := by
  unfold maintProcess
  (try dsimp only)
  repeat' (first | (with_reducible rfl) | split)
  all_goals (try simp_all -implicitDefEqProofs)
  all_goals (repeat' (first | (with_reducible rfl) | split))
  all_goals (try simp_all -implicitDefEqProofs)
@[simp] theorem maintProcess_mem (s : State) (op lo hi : Nat) : (maintProcess s op lo hi).dram.mem = s.dram.mem := by
  unfold maintProcess
  (try dsimp only)
  repeat' (first | (with_reducible rfl) | split)
  all_goals (try simp_all -implicitDefEqProofs)
  all_goals (repeat' (first | (with_reducible rfl) | split))
  all_goals (try simp_all -implicitDefEqProofs)
@[simp] theorem maintProcess_banks (s : State) (op lo hi : Nat) : (maintProcess s op lo hi).fls.banks = s.fls.banks := by
  unfold maintProcess
  (try dsimp only)
  repeat' (first | (with_reducible rfl) | split)
  all_goals (try simp_all -implicitDefEqProofs)
  all_goals (repeat' (first | (with_reducible rfl) | split))
  all_goals (try simp_all -implicitDefEqProofs)

end Sys2Proof.Laws
end

