-- ==== Sys2Proof/Laws/KeepDramCtl.lean ====
section
/-!
SUPPORT. What the operations of DramCtl leave alone: one lemma for each operation and each part of the state that it never changes.
-/
namespace Sys2Proof.Laws
open Sys2Proof.Machine
set_option linter.unusedTactic false
set_option linter.unreachableTactic false
set_option linter.unusedVariables false
set_option linter.unusedSimpArgs false

@[simp] theorem panicUpdate_pending (s : State) (ch : Nat) : (panicUpdate s ch).pending = s.pending := by
  unfold panicUpdate
  (try dsimp only)
  repeat' (first | (with_reducible rfl) | split)
  all_goals (try simp_all -implicitDefEqProofs)
  all_goals (repeat' (first | (with_reducible rfl) | split))
  all_goals (try simp_all -implicitDefEqProofs)
@[simp] theorem panicUpdate_lck (s : State) (ch : Nat) : (panicUpdate s ch).lck = s.lck := by
  unfold panicUpdate
  (try dsimp only)
  repeat' (first | (with_reducible rfl) | split)
  all_goals (try simp_all -implicitDefEqProofs)
  all_goals (repeat' (first | (with_reducible rfl) | split))
  all_goals (try simp_all -implicitDefEqProofs)
@[simp] theorem panicUpdate_ready (s : State) (ch : Nat) : (panicUpdate s ch).boot.ready = s.boot.ready := by
  unfold panicUpdate
  (try dsimp only)
  repeat' (first | (with_reducible rfl) | split)
  all_goals (try simp_all -implicitDefEqProofs)
  all_goals (repeat' (first | (with_reducible rfl) | split))
  all_goals (try simp_all -implicitDefEqProofs)
@[simp] theorem panicUpdate_phase (s : State) (ch : Nat) : (panicUpdate s ch).cin.phase = s.cin.phase := by
  unfold panicUpdate
  (try dsimp only)
  repeat' (first | (with_reducible rfl) | split)
  all_goals (try simp_all -implicitDefEqProofs)
  all_goals (repeat' (first | (with_reducible rfl) | split))
  all_goals (try simp_all -implicitDefEqProofs)
@[simp] theorem panicUpdate_mem (s : State) (ch : Nat) : (panicUpdate s ch).dram.mem = s.dram.mem := by
  unfold panicUpdate
  (try dsimp only)
  repeat' (first | (with_reducible rfl) | split)
  all_goals (try simp_all -implicitDefEqProofs)
  all_goals (repeat' (first | (with_reducible rfl) | split))
  all_goals (try simp_all -implicitDefEqProofs)
@[simp] theorem panicUpdate_banks (s : State) (ch : Nat) : (panicUpdate s ch).fls.banks = s.fls.banks := by
  unfold panicUpdate
  (try dsimp only)
  repeat' (first | (with_reducible rfl) | split)
  all_goals (try simp_all -implicitDefEqProofs)
  all_goals (repeat' (first | (with_reducible rfl) | split))
  all_goals (try simp_all -implicitDefEqProofs)
@[simp] theorem issueCand_pending (s : State) (ch : Nat) (b : Bool) (x : Cand) : (issueCand s ch b x).pending = s.pending := by
  unfold issueCand
  (try dsimp only)
  repeat' (first | (with_reducible rfl) | split)
  all_goals (try simp_all -implicitDefEqProofs)
  all_goals (repeat' (first | (with_reducible rfl) | split))
  all_goals (try simp_all -implicitDefEqProofs)
@[simp] theorem issueCand_lck (s : State) (ch : Nat) (b : Bool) (x : Cand) : (issueCand s ch b x).lck = s.lck := by
  unfold issueCand
  (try dsimp only)
  repeat' (first | (with_reducible rfl) | split)
  all_goals (try simp_all -implicitDefEqProofs)
  all_goals (repeat' (first | (with_reducible rfl) | split))
  all_goals (try simp_all -implicitDefEqProofs)
@[simp] theorem issueCand_ready (s : State) (ch : Nat) (b : Bool) (x : Cand) : (issueCand s ch b x).boot.ready = s.boot.ready := by
  unfold issueCand
  (try dsimp only)
  repeat' (first | (with_reducible rfl) | split)
  all_goals (try simp_all -implicitDefEqProofs)
  all_goals (repeat' (first | (with_reducible rfl) | split))
  all_goals (try simp_all -implicitDefEqProofs)
@[simp] theorem issueCand_phase (s : State) (ch : Nat) (b : Bool) (x : Cand) : (issueCand s ch b x).cin.phase = s.cin.phase := by
  unfold issueCand
  (try dsimp only)
  repeat' (first | (with_reducible rfl) | split)
  all_goals (try simp_all -implicitDefEqProofs)
  all_goals (repeat' (first | (with_reducible rfl) | split))
  all_goals (try simp_all -implicitDefEqProofs)
@[simp] theorem issueCand_banks (s : State) (ch : Nat) (b : Bool) (x : Cand) : (issueCand s ch b x).fls.banks = s.fls.banks := by
  unfold issueCand
  (try dsimp only)
  repeat' (first | (with_reducible rfl) | split)
  all_goals (try simp_all -implicitDefEqProofs)
  all_goals (repeat' (first | (with_reducible rfl) | split))
  all_goals (try simp_all -implicitDefEqProofs)
@[simp] theorem errAddr_pending (s : State) (ch line dev rank : Nat) (unc : Bool) : (errAddr s ch line dev rank unc).pending = s.pending := by
  unfold errAddr
  (try dsimp only)
  repeat' (first | (with_reducible rfl) | split)
  all_goals (try simp_all -implicitDefEqProofs)
  all_goals (repeat' (first | (with_reducible rfl) | split))
  all_goals (try simp_all -implicitDefEqProofs)
@[simp] theorem errAddr_lck (s : State) (ch line dev rank : Nat) (unc : Bool) : (errAddr s ch line dev rank unc).lck = s.lck := by
  unfold errAddr
  (try dsimp only)
  repeat' (first | (with_reducible rfl) | split)
  all_goals (try simp_all -implicitDefEqProofs)
  all_goals (repeat' (first | (with_reducible rfl) | split))
  all_goals (try simp_all -implicitDefEqProofs)
@[simp] theorem errAddr_ready (s : State) (ch line dev rank : Nat) (unc : Bool) : (errAddr s ch line dev rank unc).boot.ready = s.boot.ready := by
  unfold errAddr
  (try dsimp only)
  repeat' (first | (with_reducible rfl) | split)
  all_goals (try simp_all -implicitDefEqProofs)
  all_goals (repeat' (first | (with_reducible rfl) | split))
  all_goals (try simp_all -implicitDefEqProofs)
@[simp] theorem errAddr_phase (s : State) (ch line dev rank : Nat) (unc : Bool) : (errAddr s ch line dev rank unc).cin.phase = s.cin.phase := by
  unfold errAddr
  (try dsimp only)
  repeat' (first | (with_reducible rfl) | split)
  all_goals (try simp_all -implicitDefEqProofs)
  all_goals (repeat' (first | (with_reducible rfl) | split))
  all_goals (try simp_all -implicitDefEqProofs)
@[simp] theorem errAddr_mem (s : State) (ch line dev rank : Nat) (unc : Bool) : (errAddr s ch line dev rank unc).dram.mem = s.dram.mem := by
  unfold errAddr
  (try dsimp only)
  repeat' (first | (with_reducible rfl) | split)
  all_goals (try simp_all -implicitDefEqProofs)
  all_goals (repeat' (first | (with_reducible rfl) | split))
  all_goals (try simp_all -implicitDefEqProofs)
@[simp] theorem errAddr_banks (s : State) (ch line dev rank : Nat) (unc : Bool) : (errAddr s ch line dev rank unc).fls.banks = s.fls.banks := by
  unfold errAddr
  (try dsimp only)
  repeat' (first | (with_reducible rfl) | split)
  all_goals (try simp_all -implicitDefEqProofs)
  all_goals (repeat' (first | (with_reducible rfl) | split))
  all_goals (try simp_all -implicitDefEqProofs)
@[simp] theorem countDevice_pending (s : State) (ch rank dev : Nat) : (countDevice s ch rank dev).pending = s.pending := by
  unfold countDevice
  (try dsimp only)
  repeat' (first | (with_reducible rfl) | split)
  all_goals (try simp_all -implicitDefEqProofs)
  all_goals (repeat' (first | (with_reducible rfl) | split))
  all_goals (try simp_all -implicitDefEqProofs)
@[simp] theorem countDevice_mem (s : State) (ch rank dev : Nat) : (countDevice s ch rank dev).dram.mem = s.dram.mem := by
  unfold countDevice
  (try dsimp only)
  repeat' (first | (with_reducible rfl) | split)
  all_goals (try simp_all -implicitDefEqProofs)
  all_goals (repeat' (first | (with_reducible rfl) | split))
  all_goals (try simp_all -implicitDefEqProofs)
@[simp] theorem correctLine_pending (s : State) (ch line dev rank : Nat) (data : Bytes) : (correctLine s ch line dev rank data).pending = s.pending := by
  unfold correctLine
  (try dsimp only)
  repeat' (first | (with_reducible rfl) | split)
  all_goals (try simp_all -implicitDefEqProofs)
  all_goals (repeat' (first | (with_reducible rfl) | split))
  all_goals (try simp_all -implicitDefEqProofs)
@[simp] theorem correctLine_mem (s : State) (ch line dev rank : Nat) (data : Bytes) : (correctLine s ch line dev rank data).dram.mem = s.dram.mem := by
  unfold correctLine
  (try dsimp only)
  repeat' (first | (with_reducible rfl) | split)
  all_goals (try simp_all -implicitDefEqProofs)
  all_goals (repeat' (first | (with_reducible rfl) | split))
  all_goals (try simp_all -implicitDefEqProofs)
@[simp] theorem poisonLine_pending (s : State) (ch line : Nat) : (poisonLine s ch line).pending = s.pending := by
  unfold poisonLine
  (try dsimp only)
  repeat' (first | (with_reducible rfl) | split)
  all_goals (try simp_all -implicitDefEqProofs)
  all_goals (repeat' (first | (with_reducible rfl) | split))
  all_goals (try simp_all -implicitDefEqProofs)
@[simp] theorem poisonLine_lck (s : State) (ch line : Nat) : (poisonLine s ch line).lck = s.lck := by
  unfold poisonLine
  (try dsimp only)
  repeat' (first | (with_reducible rfl) | split)
  all_goals (try simp_all -implicitDefEqProofs)
  all_goals (repeat' (first | (with_reducible rfl) | split))
  all_goals (try simp_all -implicitDefEqProofs)
@[simp] theorem poisonLine_ready (s : State) (ch line : Nat) : (poisonLine s ch line).boot.ready = s.boot.ready := by
  unfold poisonLine
  (try dsimp only)
  repeat' (first | (with_reducible rfl) | split)
  all_goals (try simp_all -implicitDefEqProofs)
  all_goals (repeat' (first | (with_reducible rfl) | split))
  all_goals (try simp_all -implicitDefEqProofs)
@[simp] theorem poisonLine_phase (s : State) (ch line : Nat) : (poisonLine s ch line).cin.phase = s.cin.phase := by
  unfold poisonLine
  (try dsimp only)
  repeat' (first | (with_reducible rfl) | split)
  all_goals (try simp_all -implicitDefEqProofs)
  all_goals (repeat' (first | (with_reducible rfl) | split))
  all_goals (try simp_all -implicitDefEqProofs)
@[simp] theorem poisonLine_mem (s : State) (ch line : Nat) : (poisonLine s ch line).dram.mem = s.dram.mem := by
  unfold poisonLine
  (try dsimp only)
  repeat' (first | (with_reducible rfl) | split)
  all_goals (try simp_all -implicitDefEqProofs)
  all_goals (repeat' (first | (with_reducible rfl) | split))
  all_goals (try simp_all -implicitDefEqProofs)
@[simp] theorem poisonLine_banks (s : State) (ch line : Nat) : (poisonLine s ch line).fls.banks = s.fls.banks := by
  unfold poisonLine
  (try dsimp only)
  repeat' (first | (with_reducible rfl) | split)
  all_goals (try simp_all -implicitDefEqProofs)
  all_goals (repeat' (first | (with_reducible rfl) | split))
  all_goals (try simp_all -implicitDefEqProofs)
@[simp] theorem poisonFill_pending (s : State) (line : Nat) : (poisonFill s line).pending = s.pending := by
  unfold poisonFill
  (try dsimp only)
  repeat' (first | (with_reducible rfl) | split)
  all_goals (try simp_all -implicitDefEqProofs)
  all_goals (repeat' (first | (with_reducible rfl) | split))
  all_goals (try simp_all -implicitDefEqProofs)
@[simp] theorem poisonFill_lck (s : State) (line : Nat) : (poisonFill s line).lck = s.lck := by
  unfold poisonFill
  (try dsimp only)
  repeat' (first | (with_reducible rfl) | split)
  all_goals (try simp_all -implicitDefEqProofs)
  all_goals (repeat' (first | (with_reducible rfl) | split))
  all_goals (try simp_all -implicitDefEqProofs)
@[simp] theorem poisonFill_ready (s : State) (line : Nat) : (poisonFill s line).boot.ready = s.boot.ready := by
  unfold poisonFill
  (try dsimp only)
  repeat' (first | (with_reducible rfl) | split)
  all_goals (try simp_all -implicitDefEqProofs)
  all_goals (repeat' (first | (with_reducible rfl) | split))
  all_goals (try simp_all -implicitDefEqProofs)
@[simp] theorem poisonFill_phase (s : State) (line : Nat) : (poisonFill s line).cin.phase = s.cin.phase := by
  unfold poisonFill
  (try dsimp only)
  repeat' (first | (with_reducible rfl) | split)
  all_goals (try simp_all -implicitDefEqProofs)
  all_goals (repeat' (first | (with_reducible rfl) | split))
  all_goals (try simp_all -implicitDefEqProofs)
@[simp] theorem poisonFill_mem (s : State) (line : Nat) : (poisonFill s line).dram.mem = s.dram.mem := by
  unfold poisonFill
  (try dsimp only)
  repeat' (first | (with_reducible rfl) | split)
  all_goals (try simp_all -implicitDefEqProofs)
  all_goals (repeat' (first | (with_reducible rfl) | split))
  all_goals (try simp_all -implicitDefEqProofs)
@[simp] theorem poisonFill_banks (s : State) (line : Nat) : (poisonFill s line).fls.banks = s.fls.banks := by
  unfold poisonFill
  (try dsimp only)
  repeat' (first | (with_reducible rfl) | split)
  all_goals (try simp_all -implicitDefEqProofs)
  all_goals (repeat' (first | (with_reducible rfl) | split))
  all_goals (try simp_all -implicitDefEqProofs)
@[simp] theorem repairDone_pending (s : State) (line : Nat) (data : Bytes) : (repairDone s line data).pending = s.pending := by
  unfold repairDone
  (try dsimp only)
  repeat' (first | (with_reducible rfl) | split)
  all_goals (try simp_all -implicitDefEqProofs)
  all_goals (repeat' (first | (with_reducible rfl) | split))
  all_goals (try simp_all -implicitDefEqProofs)
@[simp] theorem repairDone_lck (s : State) (line : Nat) (data : Bytes) : (repairDone s line data).lck = s.lck := by
  unfold repairDone
  (try dsimp only)
  repeat' (first | (with_reducible rfl) | split)
  all_goals (try simp_all -implicitDefEqProofs)
  all_goals (repeat' (first | (with_reducible rfl) | split))
  all_goals (try simp_all -implicitDefEqProofs)
@[simp] theorem repairDone_ready (s : State) (line : Nat) (data : Bytes) : (repairDone s line data).boot.ready = s.boot.ready := by
  unfold repairDone
  (try dsimp only)
  repeat' (first | (with_reducible rfl) | split)
  all_goals (try simp_all -implicitDefEqProofs)
  all_goals (repeat' (first | (with_reducible rfl) | split))
  all_goals (try simp_all -implicitDefEqProofs)
@[simp] theorem repairDone_phase (s : State) (line : Nat) (data : Bytes) : (repairDone s line data).cin.phase = s.cin.phase := by
  unfold repairDone
  (try dsimp only)
  repeat' (first | (with_reducible rfl) | split)
  all_goals (try simp_all -implicitDefEqProofs)
  all_goals (repeat' (first | (with_reducible rfl) | split))
  all_goals (try simp_all -implicitDefEqProofs)
@[simp] theorem repairDone_mem (s : State) (line : Nat) (data : Bytes) : (repairDone s line data).dram.mem = s.dram.mem := by
  unfold repairDone
  (try dsimp only)
  repeat' (first | (with_reducible rfl) | split)
  all_goals (try simp_all -implicitDefEqProofs)
  all_goals (repeat' (first | (with_reducible rfl) | split))
  all_goals (try simp_all -implicitDefEqProofs)
@[simp] theorem repairDone_banks (s : State) (line : Nat) (data : Bytes) : (repairDone s line data).fls.banks = s.fls.banks := by
  unfold repairDone
  (try dsimp only)
  repeat' (first | (with_reducible rfl) | split)
  all_goals (try simp_all -implicitDefEqProofs)
  all_goals (repeat' (first | (with_reducible rfl) | split))
  all_goals (try simp_all -implicitDefEqProofs)
@[simp] theorem mapLineLost_pending (s : State) (k : Nat) : (mapLineLost s k).pending = s.pending := by
  unfold mapLineLost
  (try dsimp only)
  repeat' (first | (with_reducible rfl) | split)
  all_goals (try simp_all -implicitDefEqProofs)
  all_goals (repeat' (first | (with_reducible rfl) | split))
  all_goals (try simp_all -implicitDefEqProofs)
@[simp] theorem mapLineLost_mem (s : State) (k : Nat) : (mapLineLost s k).dram.mem = s.dram.mem := by
  unfold mapLineLost
  (try dsimp only)
  repeat' (first | (with_reducible rfl) | split)
  all_goals (try simp_all -implicitDefEqProofs)
  all_goals (repeat' (first | (with_reducible rfl) | split))
  all_goals (try simp_all -implicitDefEqProofs)
@[simp] theorem resolveLine_pending (s : State) (ch line : Nat) (pool map : Option Nat) : (resolveLine s ch line pool map).pending = s.pending := by
  unfold resolveLine
  (try dsimp only)
  repeat' (first | (with_reducible rfl) | split)
  all_goals (try simp_all -implicitDefEqProofs)
  all_goals (repeat' (first | (with_reducible rfl) | split))
  all_goals (try simp_all -implicitDefEqProofs)
@[simp] theorem resolveLine_mem (s : State) (ch line : Nat) (pool map : Option Nat) : (resolveLine s ch line pool map).dram.mem = s.dram.mem := by
  unfold resolveLine
  (try dsimp only)
  repeat' (first | (with_reducible rfl) | split)
  all_goals (try simp_all -implicitDefEqProofs)
  all_goals (repeat' (first | (with_reducible rfl) | split))
  all_goals (try simp_all -implicitDefEqProofs)
@[simp] theorem deliver_pending (s : State) (r : DRead) (data : Bytes) (poison : Bool) : (deliver s r data poison).pending = s.pending := by
  unfold deliver
  (try dsimp only)
  repeat' (first | (with_reducible rfl) | split)
  all_goals (try simp_all -implicitDefEqProofs)
  all_goals (repeat' (first | (with_reducible rfl) | split))
  all_goals (try simp_all -implicitDefEqProofs)
@[simp] theorem deliver_lck (s : State) (r : DRead) (data : Bytes) (poison : Bool) : (deliver s r data poison).lck = s.lck := by
  unfold deliver
  (try dsimp only)
  repeat' (first | (with_reducible rfl) | split)
  all_goals (try simp_all -implicitDefEqProofs)
  all_goals (repeat' (first | (with_reducible rfl) | split))
  all_goals (try simp_all -implicitDefEqProofs)
@[simp] theorem deliver_ready (s : State) (r : DRead) (data : Bytes) (poison : Bool) : (deliver s r data poison).boot.ready = s.boot.ready := by
  unfold deliver
  (try dsimp only)
  repeat' (first | (with_reducible rfl) | split)
  all_goals (try simp_all -implicitDefEqProofs)
  all_goals (repeat' (first | (with_reducible rfl) | split))
  all_goals (try simp_all -implicitDefEqProofs)
@[simp] theorem deliver_phase (s : State) (r : DRead) (data : Bytes) (poison : Bool) : (deliver s r data poison).cin.phase = s.cin.phase := by
  unfold deliver
  (try dsimp only)
  repeat' (first | (with_reducible rfl) | split)
  all_goals (try simp_all -implicitDefEqProofs)
  all_goals (repeat' (first | (with_reducible rfl) | split))
  all_goals (try simp_all -implicitDefEqProofs)
@[simp] theorem deliver_mem (s : State) (r : DRead) (data : Bytes) (poison : Bool) : (deliver s r data poison).dram.mem = s.dram.mem := by
  unfold deliver
  (try dsimp only)
  repeat' (first | (with_reducible rfl) | split)
  all_goals (try simp_all -implicitDefEqProofs)
  all_goals (repeat' (first | (with_reducible rfl) | split))
  all_goals (try simp_all -implicitDefEqProofs)
@[simp] theorem deliver_banks (s : State) (r : DRead) (data : Bytes) (poison : Bool) : (deliver s r data poison).fls.banks = s.fls.banks := by
  unfold deliver
  (try dsimp only)
  repeat' (first | (with_reducible rfl) | split)
  all_goals (try simp_all -implicitDefEqProofs)
  all_goals (repeat' (first | (with_reducible rfl) | split))
  all_goals (try simp_all -implicitDefEqProofs)
@[simp] theorem retireFrame_pending (s : State) (ch line : Nat) : (retireFrame s ch line).pending = s.pending := by
  unfold retireFrame
  (try dsimp only)
  repeat' (first | (with_reducible rfl) | split)
  all_goals (try simp_all -implicitDefEqProofs)
  all_goals (repeat' (first | (with_reducible rfl) | split))
  all_goals (try simp_all -implicitDefEqProofs)
@[simp] theorem retireFrame_mem (s : State) (ch line : Nat) : (retireFrame s ch line).dram.mem = s.dram.mem := by
  unfold retireFrame
  (try dsimp only)
  repeat' (first | (with_reducible rfl) | split)
  all_goals (try simp_all -implicitDefEqProofs)
  all_goals (repeat' (first | (with_reducible rfl) | split))
  all_goals (try simp_all -implicitDefEqProofs)
@[simp] theorem dimmHot_pending (s : State) (ch : Nat) (hot : List Nat) (dimm : Nat) : (dimmHot s ch hot dimm).pending = s.pending := by
  unfold dimmHot
  (try dsimp only)
  repeat' (first | (with_reducible rfl) | split)
  all_goals (try simp_all -implicitDefEqProofs)
  all_goals (repeat' (first | (with_reducible rfl) | split))
  all_goals (try simp_all -implicitDefEqProofs)
@[simp] theorem dimmHot_lck (s : State) (ch : Nat) (hot : List Nat) (dimm : Nat) : (dimmHot s ch hot dimm).lck = s.lck := by
  unfold dimmHot
  (try dsimp only)
  repeat' (first | (with_reducible rfl) | split)
  all_goals (try simp_all -implicitDefEqProofs)
  all_goals (repeat' (first | (with_reducible rfl) | split))
  all_goals (try simp_all -implicitDefEqProofs)
@[simp] theorem dimmHot_ready (s : State) (ch : Nat) (hot : List Nat) (dimm : Nat) : (dimmHot s ch hot dimm).boot.ready = s.boot.ready := by
  unfold dimmHot
  (try dsimp only)
  repeat' (first | (with_reducible rfl) | split)
  all_goals (try simp_all -implicitDefEqProofs)
  all_goals (repeat' (first | (with_reducible rfl) | split))
  all_goals (try simp_all -implicitDefEqProofs)
@[simp] theorem dimmHot_phase (s : State) (ch : Nat) (hot : List Nat) (dimm : Nat) : (dimmHot s ch hot dimm).cin.phase = s.cin.phase := by
  unfold dimmHot
  (try dsimp only)
  repeat' (first | (with_reducible rfl) | split)
  all_goals (try simp_all -implicitDefEqProofs)
  all_goals (repeat' (first | (with_reducible rfl) | split))
  all_goals (try simp_all -implicitDefEqProofs)
@[simp] theorem dimmHot_mem (s : State) (ch : Nat) (hot : List Nat) (dimm : Nat) : (dimmHot s ch hot dimm).dram.mem = s.dram.mem := by
  unfold dimmHot
  (try dsimp only)
  repeat' (first | (with_reducible rfl) | split)
  all_goals (try simp_all -implicitDefEqProofs)
  all_goals (repeat' (first | (with_reducible rfl) | split))
  all_goals (try simp_all -implicitDefEqProofs)
@[simp] theorem dimmHot_banks (s : State) (ch : Nat) (hot : List Nat) (dimm : Nat) : (dimmHot s ch hot dimm).fls.banks = s.fls.banks := by
  unfold dimmHot
  (try dsimp only)
  repeat' (first | (with_reducible rfl) | split)
  all_goals (try simp_all -implicitDefEqProofs)
  all_goals (repeat' (first | (with_reducible rfl) | split))
  all_goals (try simp_all -implicitDefEqProofs)
@[simp] theorem retrainSlot_pending (s : State) (ch : Nat) : (retrainSlot s ch).pending = s.pending := by
  unfold retrainSlot
  (try dsimp only)
  repeat' (first | (with_reducible rfl) | split)
  all_goals (try simp_all -implicitDefEqProofs)
  all_goals (repeat' (first | (with_reducible rfl) | split))
  all_goals (try simp_all -implicitDefEqProofs)
@[simp] theorem retrainSlot_lck (s : State) (ch : Nat) : (retrainSlot s ch).lck = s.lck := by
  unfold retrainSlot
  (try dsimp only)
  repeat' (first | (with_reducible rfl) | split)
  all_goals (try simp_all -implicitDefEqProofs)
  all_goals (repeat' (first | (with_reducible rfl) | split))
  all_goals (try simp_all -implicitDefEqProofs)
@[simp] theorem retrainSlot_ready (s : State) (ch : Nat) : (retrainSlot s ch).boot.ready = s.boot.ready := by
  unfold retrainSlot
  (try dsimp only)
  repeat' (first | (with_reducible rfl) | split)
  all_goals (try simp_all -implicitDefEqProofs)
  all_goals (repeat' (first | (with_reducible rfl) | split))
  all_goals (try simp_all -implicitDefEqProofs)
@[simp] theorem retrainSlot_phase (s : State) (ch : Nat) : (retrainSlot s ch).cin.phase = s.cin.phase := by
  unfold retrainSlot
  (try dsimp only)
  repeat' (first | (with_reducible rfl) | split)
  all_goals (try simp_all -implicitDefEqProofs)
  all_goals (repeat' (first | (with_reducible rfl) | split))
  all_goals (try simp_all -implicitDefEqProofs)
@[simp] theorem retrainSlot_mem (s : State) (ch : Nat) : (retrainSlot s ch).dram.mem = s.dram.mem := by
  unfold retrainSlot
  (try dsimp only)
  repeat' (first | (with_reducible rfl) | split)
  all_goals (try simp_all -implicitDefEqProofs)
  all_goals (repeat' (first | (with_reducible rfl) | split))
  all_goals (try simp_all -implicitDefEqProofs)
@[simp] theorem retrainSlot_banks (s : State) (ch : Nat) : (retrainSlot s ch).fls.banks = s.fls.banks := by
  unfold retrainSlot
  (try dsimp only)
  repeat' (first | (with_reducible rfl) | split)
  all_goals (try simp_all -implicitDefEqProofs)
  all_goals (repeat' (first | (with_reducible rfl) | split))
  all_goals (try simp_all -implicitDefEqProofs)

end Sys2Proof.Laws
end

