-- ==== Sys2Proof/Laws/KeepSramOps.lean ====
section
/-!
SUPPORT. What the operations of SramOps leave alone: one lemma for each operation and each part of the state that it never changes.
-/
namespace Sys2Proof.Laws
open Sys2Proof.Machine
set_option linter.unusedTactic false
set_option linter.unreachableTactic false
set_option linter.unusedVariables false
set_option linter.unusedSimpArgs false

@[simp] theorem pendingPoisoned_pending (s : State) (gl : Nat) : (pendingPoisoned s gl).pending = s.pending := by
  unfold pendingPoisoned
  (try dsimp only)
  repeat' (first | (with_reducible rfl) | split)
  all_goals (try simp_all -implicitDefEqProofs)
  all_goals (repeat' (first | (with_reducible rfl) | split))
  all_goals (try simp_all -implicitDefEqProofs)
@[simp] theorem pendingPoisoned_lck (s : State) (gl : Nat) : (pendingPoisoned s gl).lck = s.lck := by
  unfold pendingPoisoned
  (try dsimp only)
  repeat' (first | (with_reducible rfl) | split)
  all_goals (try simp_all -implicitDefEqProofs)
  all_goals (repeat' (first | (with_reducible rfl) | split))
  all_goals (try simp_all -implicitDefEqProofs)
@[simp] theorem pendingPoisoned_ready (s : State) (gl : Nat) : (pendingPoisoned s gl).boot.ready = s.boot.ready := by
  unfold pendingPoisoned
  (try dsimp only)
  repeat' (first | (with_reducible rfl) | split)
  all_goals (try simp_all -implicitDefEqProofs)
  all_goals (repeat' (first | (with_reducible rfl) | split))
  all_goals (try simp_all -implicitDefEqProofs)
@[simp] theorem pendingPoisoned_phase (s : State) (gl : Nat) : (pendingPoisoned s gl).cin.phase = s.cin.phase := by
  unfold pendingPoisoned
  (try dsimp only)
  repeat' (first | (with_reducible rfl) | split)
  all_goals (try simp_all -implicitDefEqProofs)
  all_goals (repeat' (first | (with_reducible rfl) | split))
  all_goals (try simp_all -implicitDefEqProofs)
@[simp] theorem pendingPoisoned_mem (s : State) (gl : Nat) : (pendingPoisoned s gl).dram.mem = s.dram.mem := by
  unfold pendingPoisoned
  (try dsimp only)
  repeat' (first | (with_reducible rfl) | split)
  all_goals (try simp_all -implicitDefEqProofs)
  all_goals (repeat' (first | (with_reducible rfl) | split))
  all_goals (try simp_all -implicitDefEqProofs)
@[simp] theorem pendingPoisoned_banks (s : State) (gl : Nat) : (pendingPoisoned s gl).fls.banks = s.fls.banks := by
  unfold pendingPoisoned
  (try dsimp only)
  repeat' (first | (with_reducible rfl) | split)
  all_goals (try simp_all -implicitDefEqProofs)
  all_goals (repeat' (first | (with_reducible rfl) | split))
  all_goals (try simp_all -implicitDefEqProofs)
@[simp] theorem pendingByte_pending (s : State) (gl k : Nat) (skive : Bool) (b : Byte) : (pendingByte s gl k skive b).pending = s.pending := by
  unfold pendingByte
  (try dsimp only)
  repeat' (first | (with_reducible rfl) | split)
  all_goals (try simp_all -implicitDefEqProofs)
  all_goals (repeat' (first | (with_reducible rfl) | split))
  all_goals (try simp_all -implicitDefEqProofs)
@[simp] theorem pendingByte_lck (s : State) (gl k : Nat) (skive : Bool) (b : Byte) : (pendingByte s gl k skive b).lck = s.lck := by
  unfold pendingByte
  (try dsimp only)
  repeat' (first | (with_reducible rfl) | split)
  all_goals (try simp_all -implicitDefEqProofs)
  all_goals (repeat' (first | (with_reducible rfl) | split))
  all_goals (try simp_all -implicitDefEqProofs)
@[simp] theorem pendingByte_ready (s : State) (gl k : Nat) (skive : Bool) (b : Byte) : (pendingByte s gl k skive b).boot.ready = s.boot.ready := by
  unfold pendingByte
  (try dsimp only)
  repeat' (first | (with_reducible rfl) | split)
  all_goals (try simp_all -implicitDefEqProofs)
  all_goals (repeat' (first | (with_reducible rfl) | split))
  all_goals (try simp_all -implicitDefEqProofs)
@[simp] theorem pendingByte_phase (s : State) (gl k : Nat) (skive : Bool) (b : Byte) : (pendingByte s gl k skive b).cin.phase = s.cin.phase := by
  unfold pendingByte
  (try dsimp only)
  repeat' (first | (with_reducible rfl) | split)
  all_goals (try simp_all -implicitDefEqProofs)
  all_goals (repeat' (first | (with_reducible rfl) | split))
  all_goals (try simp_all -implicitDefEqProofs)
@[simp] theorem pendingByte_mem (s : State) (gl k : Nat) (skive : Bool) (b : Byte) : (pendingByte s gl k skive b).dram.mem = s.dram.mem := by
  unfold pendingByte
  (try dsimp only)
  repeat' (first | (with_reducible rfl) | split)
  all_goals (try simp_all -implicitDefEqProofs)
  all_goals (repeat' (first | (with_reducible rfl) | split))
  all_goals (try simp_all -implicitDefEqProofs)
@[simp] theorem pendingByte_banks (s : State) (gl k : Nat) (skive : Bool) (b : Byte) : (pendingByte s gl k skive b).fls.banks = s.fls.banks := by
  unfold pendingByte
  (try dsimp only)
  repeat' (first | (with_reducible rfl) | split)
  all_goals (try simp_all -implicitDefEqProofs)
  all_goals (repeat' (first | (with_reducible rfl) | split))
  all_goals (try simp_all -implicitDefEqProofs)
@[simp] theorem weltOutcome_pending (s : State) (gl : Nat) (skive poisoned : Bool) : (weltOutcome s gl skive poisoned).pending = s.pending := by
  unfold weltOutcome
  (try dsimp only)
  repeat' (first | (with_reducible rfl) | split)
  all_goals (try simp_all -implicitDefEqProofs)
  all_goals (repeat' (first | (with_reducible rfl) | split))
  all_goals (try simp_all -implicitDefEqProofs)
@[simp] theorem weltOutcome_mem (s : State) (gl : Nat) (skive poisoned : Bool) : (weltOutcome s gl skive poisoned).dram.mem = s.dram.mem := by
  unfold weltOutcome
  (try dsimp only)
  repeat' (first | (with_reducible rfl) | split)
  all_goals (try simp_all -implicitDefEqProofs)
  all_goals (repeat' (first | (with_reducible rfl) | split))
  all_goals (try simp_all -implicitDefEqProofs)
@[simp] theorem weltError_pending (s : State) (gl k : Nat) (unc : Bool) : (weltError s gl k unc).pending = s.pending := by
  unfold weltError
  (try dsimp only)
  repeat' (first | (with_reducible rfl) | split)
  all_goals (try simp_all -implicitDefEqProofs)
  all_goals (repeat' (first | (with_reducible rfl) | split))
  all_goals (try simp_all -implicitDefEqProofs)
@[simp] theorem weltError_mem (s : State) (gl k : Nat) (unc : Bool) : (weltError s gl k unc).dram.mem = s.dram.mem := by
  unfold weltError
  (try dsimp only)
  repeat' (first | (with_reducible rfl) | split)
  all_goals (try simp_all -implicitDefEqProofs)
  all_goals (repeat' (first | (with_reducible rfl) | split))
  all_goals (try simp_all -implicitDefEqProofs)
@[simp] theorem weltRepaired_pending (s : State) (r : WeltRepair) (b : Option Byte) : (weltRepaired s r b).pending = s.pending := by
  unfold weltRepaired
  (try dsimp only)
  repeat' (first | (with_reducible rfl) | split)
  all_goals (try simp_all -implicitDefEqProofs)
  all_goals (repeat' (first | (with_reducible rfl) | split))
  all_goals (try simp_all -implicitDefEqProofs)
@[simp] theorem weltRepaired_mem (s : State) (r : WeltRepair) (b : Option Byte) : (weltRepaired s r b).dram.mem = s.dram.mem := by
  unfold weltRepaired
  (try dsimp only)
  repeat' (first | (with_reducible rfl) | split)
  all_goals (try simp_all -implicitDefEqProofs)
  all_goals (repeat' (first | (with_reducible rfl) | split))
  all_goals (try simp_all -implicitDefEqProofs)
@[simp] theorem wayIsolate_pending (s : State) (sl w : Nat) : (wayIsolate s sl w).pending = s.pending := by
  unfold wayIsolate
  (try dsimp only)
  repeat' (first | (with_reducible rfl) | split)
  all_goals (try simp_all -implicitDefEqProofs)
  all_goals (repeat' (first | (with_reducible rfl) | split))
  all_goals (try simp_all -implicitDefEqProofs)
@[simp] theorem wayIsolate_lck (s : State) (sl w : Nat) : (wayIsolate s sl w).lck = s.lck := by
  unfold wayIsolate
  (try dsimp only)
  repeat' (first | (with_reducible rfl) | split)
  all_goals (try simp_all -implicitDefEqProofs)
  all_goals (repeat' (first | (with_reducible rfl) | split))
  all_goals (try simp_all -implicitDefEqProofs)
@[simp] theorem wayIsolate_ready (s : State) (sl w : Nat) : (wayIsolate s sl w).boot.ready = s.boot.ready := by
  unfold wayIsolate
  (try dsimp only)
  repeat' (first | (with_reducible rfl) | split)
  all_goals (try simp_all -implicitDefEqProofs)
  all_goals (repeat' (first | (with_reducible rfl) | split))
  all_goals (try simp_all -implicitDefEqProofs)
@[simp] theorem wayIsolate_phase (s : State) (sl w : Nat) : (wayIsolate s sl w).cin.phase = s.cin.phase := by
  unfold wayIsolate
  (try dsimp only)
  repeat' (first | (with_reducible rfl) | split)
  all_goals (try simp_all -implicitDefEqProofs)
  all_goals (repeat' (first | (with_reducible rfl) | split))
  all_goals (try simp_all -implicitDefEqProofs)
@[simp] theorem wayIsolate_mem (s : State) (sl w : Nat) : (wayIsolate s sl w).dram.mem = s.dram.mem := by
  unfold wayIsolate
  (try dsimp only)
  repeat' (first | (with_reducible rfl) | split)
  all_goals (try simp_all -implicitDefEqProofs)
  all_goals (repeat' (first | (with_reducible rfl) | split))
  all_goals (try simp_all -implicitDefEqProofs)
@[simp] theorem wayIsolate_banks (s : State) (sl w : Nat) : (wayIsolate s sl w).fls.banks = s.fls.banks := by
  unfold wayIsolate
  (try dsimp only)
  repeat' (first | (with_reducible rfl) | split)
  all_goals (try simp_all -implicitDefEqProofs)
  all_goals (repeat' (first | (with_reducible rfl) | split))
  all_goals (try simp_all -implicitDefEqProofs)
@[simp] theorem treeCorrected_pending (s : State) (t : TreeLine) : (treeCorrected s t).pending = s.pending := by
  unfold treeCorrected
  (try dsimp only)
  repeat' (first | (with_reducible rfl) | split)
  all_goals (try simp_all -implicitDefEqProofs)
  all_goals (repeat' (first | (with_reducible rfl) | split))
  all_goals (try simp_all -implicitDefEqProofs)
@[simp] theorem treeCorrected_mem (s : State) (t : TreeLine) : (treeCorrected s t).dram.mem = s.dram.mem := by
  unfold treeCorrected
  (try dsimp only)
  repeat' (first | (with_reducible rfl) | split)
  all_goals (try simp_all -implicitDefEqProofs)
  all_goals (repeat' (first | (with_reducible rfl) | split))
  all_goals (try simp_all -implicitDefEqProofs)
@[simp] theorem treePoisoned_pending (s : State) (dl : Nat) : (treePoisoned s dl).pending = s.pending := by
  unfold treePoisoned
  (try dsimp only)
  repeat' (first | (with_reducible rfl) | split)
  all_goals (try simp_all -implicitDefEqProofs)
  all_goals (repeat' (first | (with_reducible rfl) | split))
  all_goals (try simp_all -implicitDefEqProofs)
@[simp] theorem treePoisoned_mem (s : State) (dl : Nat) : (treePoisoned s dl).dram.mem = s.dram.mem := by
  unfold treePoisoned
  (try dsimp only)
  repeat' (first | (with_reducible rfl) | split)
  all_goals (try simp_all -implicitDefEqProofs)
  all_goals (repeat' (first | (with_reducible rfl) | split))
  all_goals (try simp_all -implicitDefEqProofs)
@[simp] theorem treeUncorrectable_pending (s : State) (t : TreeLine) (stateLost : Bool) : (treeUncorrectable s t stateLost).pending = s.pending := by
  unfold treeUncorrectable
  (try dsimp only)
  repeat' (first | (with_reducible rfl) | split)
  all_goals (try simp_all -implicitDefEqProofs)
  all_goals (repeat' (first | (with_reducible rfl) | split))
  all_goals (try simp_all -implicitDefEqProofs)
@[simp] theorem treeUncorrectable_mem (s : State) (t : TreeLine) (stateLost : Bool) : (treeUncorrectable s t stateLost).dram.mem = s.dram.mem := by
  unfold treeUncorrectable
  (try dsimp only)
  repeat' (first | (with_reducible rfl) | split)
  all_goals (try simp_all -implicitDefEqProofs)
  all_goals (repeat' (first | (with_reducible rfl) | split))
  all_goals (try simp_all -implicitDefEqProofs)
@[simp] theorem treeRepaired_pending (s : State) (ch dl : Nat) (data : Bytes) : (treeRepaired s ch dl data).pending = s.pending := by
  unfold treeRepaired
  (try dsimp only)
  repeat' (first | (with_reducible rfl) | split)
  all_goals (try simp_all -implicitDefEqProofs)
  all_goals (repeat' (first | (with_reducible rfl) | split))
  all_goals (try simp_all -implicitDefEqProofs)
@[simp] theorem treeRepaired_mem (s : State) (ch dl : Nat) (data : Bytes) : (treeRepaired s ch dl data).dram.mem = s.dram.mem := by
  unfold treeRepaired
  (try dsimp only)
  repeat' (first | (with_reducible rfl) | split)
  all_goals (try simp_all -implicitDefEqProofs)
  all_goals (repeat' (first | (with_reducible rfl) | split))
  all_goals (try simp_all -implicitDefEqProofs)
@[simp] theorem treeRepairLost_pending (s : State) (ch dl : Nat) : (treeRepairLost s ch dl).pending = s.pending := by
  unfold treeRepairLost
  (try dsimp only)
  repeat' (first | (with_reducible rfl) | split)
  all_goals (try simp_all -implicitDefEqProofs)
  all_goals (repeat' (first | (with_reducible rfl) | split))
  all_goals (try simp_all -implicitDefEqProofs)
@[simp] theorem treeRepairLost_mem (s : State) (ch dl : Nat) : (treeRepairLost s ch dl).dram.mem = s.dram.mem := by
  unfold treeRepairLost
  (try dsimp only)
  repeat' (first | (with_reducible rfl) | split)
  all_goals (try simp_all -implicitDefEqProofs)
  all_goals (repeat' (first | (with_reducible rfl) | split))
  all_goals (try simp_all -implicitDefEqProofs)
@[simp] theorem sramFound_pending (s : State) (gl : Nat) (e : SramErr) : (sramFound s gl e).pending = s.pending := by
  unfold sramFound
  (try dsimp only)
  repeat' (first | (with_reducible rfl) | split)
  all_goals (try simp_all -implicitDefEqProofs)
  all_goals (repeat' (first | (with_reducible rfl) | split))
  all_goals (try simp_all -implicitDefEqProofs)
@[simp] theorem sramFound_mem (s : State) (gl : Nat) (e : SramErr) : (sramFound s gl e).dram.mem = s.dram.mem := by
  unfold sramFound
  (try dsimp only)
  repeat' (first | (with_reducible rfl) | split)
  all_goals (try simp_all -implicitDefEqProofs)
  all_goals (repeat' (first | (with_reducible rfl) | split))
  all_goals (try simp_all -implicitDefEqProofs)

end Sys2Proof.Laws
end

