-- ==== Sys2Proof/Laws/KeepAwlOps.lean ====
section
/-!
SUPPORT. What the operations of AwlOps leave alone: one lemma for each operation and each part of the state that it never changes.
-/
namespace Sys2Proof.Laws
open Sys2Proof.Machine
set_option linter.unusedTactic false
set_option linter.unreachableTactic false
set_option linter.unusedVariables false
set_option linter.unusedSimpArgs false

@[simp] theorem setUpdate_pending (s : State) (n : Nat) : (setUpdate s n).pending = s.pending := by
  unfold setUpdate
  (try dsimp only)
  repeat' (first | (with_reducible rfl) | split)
  all_goals (try simp_all -implicitDefEqProofs)
  all_goals (repeat' (first | (with_reducible rfl) | split))
  all_goals (try simp_all -implicitDefEqProofs)
@[simp] theorem setUpdate_mem (s : State) (n : Nat) : (setUpdate s n).dram.mem = s.dram.mem := by
  unfold setUpdate
  (try dsimp only)
  repeat' (first | (with_reducible rfl) | split)
  all_goals (try simp_all -implicitDefEqProofs)
  all_goals (repeat' (first | (with_reducible rfl) | split))
  all_goals (try simp_all -implicitDefEqProofs)
@[simp] theorem beginRebuild_pending (s : State) (n c target : Nat) (queued : Option Nat) : (beginRebuild s n c target queued).pending = s.pending := by
  unfold beginRebuild
  (try dsimp only)
  repeat' (first | (with_reducible rfl) | split)
  all_goals (try simp_all -implicitDefEqProofs)
  all_goals (repeat' (first | (with_reducible rfl) | split))
  all_goals (try simp_all -implicitDefEqProofs)
@[simp] theorem beginRebuild_lck (s : State) (n c target : Nat) (queued : Option Nat) : (beginRebuild s n c target queued).lck = s.lck := by
  unfold beginRebuild
  (try dsimp only)
  repeat' (first | (with_reducible rfl) | split)
  all_goals (try simp_all -implicitDefEqProofs)
  all_goals (repeat' (first | (with_reducible rfl) | split))
  all_goals (try simp_all -implicitDefEqProofs)
@[simp] theorem beginRebuild_ready (s : State) (n c target : Nat) (queued : Option Nat) : (beginRebuild s n c target queued).boot.ready = s.boot.ready := by
  unfold beginRebuild
  (try dsimp only)
  repeat' (first | (with_reducible rfl) | split)
  all_goals (try simp_all -implicitDefEqProofs)
  all_goals (repeat' (first | (with_reducible rfl) | split))
  all_goals (try simp_all -implicitDefEqProofs)
@[simp] theorem beginRebuild_phase (s : State) (n c target : Nat) (queued : Option Nat) : (beginRebuild s n c target queued).cin.phase = s.cin.phase := by
  unfold beginRebuild
  (try dsimp only)
  repeat' (first | (with_reducible rfl) | split)
  all_goals (try simp_all -implicitDefEqProofs)
  all_goals (repeat' (first | (with_reducible rfl) | split))
  all_goals (try simp_all -implicitDefEqProofs)
@[simp] theorem beginRebuild_mem (s : State) (n c target : Nat) (queued : Option Nat) : (beginRebuild s n c target queued).dram.mem = s.dram.mem := by
  unfold beginRebuild
  (try dsimp only)
  repeat' (first | (with_reducible rfl) | split)
  all_goals (try simp_all -implicitDefEqProofs)
  all_goals (repeat' (first | (with_reducible rfl) | split))
  all_goals (try simp_all -implicitDefEqProofs)
@[simp] theorem beginRebuild_banks (s : State) (n c target : Nat) (queued : Option Nat) : (beginRebuild s n c target queued).fls.banks = s.fls.banks := by
  unfold beginRebuild
  (try dsimp only)
  repeat' (first | (with_reducible rfl) | split)
  all_goals (try simp_all -implicitDefEqProofs)
  all_goals (repeat' (first | (with_reducible rfl) | split))
  all_goals (try simp_all -implicitDefEqProofs)
@[simp] theorem wantRebuild_pending (s : State) (n c : Nat) : (wantRebuild s n c).pending = s.pending := by
  unfold wantRebuild
  (try dsimp only)
  repeat' (first | (with_reducible rfl) | split)
  all_goals (try simp_all -implicitDefEqProofs)
  all_goals (repeat' (first | (with_reducible rfl) | split))
  all_goals (try simp_all -implicitDefEqProofs)
@[simp] theorem wantRebuild_lck (s : State) (n c : Nat) : (wantRebuild s n c).lck = s.lck := by
  unfold wantRebuild
  (try dsimp only)
  repeat' (first | (with_reducible rfl) | split)
  all_goals (try simp_all -implicitDefEqProofs)
  all_goals (repeat' (first | (with_reducible rfl) | split))
  all_goals (try simp_all -implicitDefEqProofs)
@[simp] theorem wantRebuild_ready (s : State) (n c : Nat) : (wantRebuild s n c).boot.ready = s.boot.ready := by
  unfold wantRebuild
  (try dsimp only)
  repeat' (first | (with_reducible rfl) | split)
  all_goals (try simp_all -implicitDefEqProofs)
  all_goals (repeat' (first | (with_reducible rfl) | split))
  all_goals (try simp_all -implicitDefEqProofs)
@[simp] theorem wantRebuild_phase (s : State) (n c : Nat) : (wantRebuild s n c).cin.phase = s.cin.phase := by
  unfold wantRebuild
  (try dsimp only)
  repeat' (first | (with_reducible rfl) | split)
  all_goals (try simp_all -implicitDefEqProofs)
  all_goals (repeat' (first | (with_reducible rfl) | split))
  all_goals (try simp_all -implicitDefEqProofs)
@[simp] theorem wantRebuild_mem (s : State) (n c : Nat) : (wantRebuild s n c).dram.mem = s.dram.mem := by
  unfold wantRebuild
  (try dsimp only)
  repeat' (first | (with_reducible rfl) | split)
  all_goals (try simp_all -implicitDefEqProofs)
  all_goals (repeat' (first | (with_reducible rfl) | split))
  all_goals (try simp_all -implicitDefEqProofs)
@[simp] theorem wantRebuild_banks (s : State) (n c : Nat) : (wantRebuild s n c).fls.banks = s.fls.banks := by
  unfold wantRebuild
  (try dsimp only)
  repeat' (first | (with_reducible rfl) | split)
  all_goals (try simp_all -implicitDefEqProofs)
  all_goals (repeat' (first | (with_reducible rfl) | split))
  all_goals (try simp_all -implicitDefEqProofs)
@[simp] theorem memberFailed_pending (s : State) (slot cause : Nat) : (memberFailed s slot cause).pending = s.pending := by
  unfold memberFailed
  (try dsimp only)
  repeat' (first | (with_reducible rfl) | split)
  all_goals (try simp_all -implicitDefEqProofs)
  all_goals (repeat' (first | (with_reducible rfl) | split))
  all_goals (try simp_all -implicitDefEqProofs)
@[simp] theorem memberFailed_mem (s : State) (slot cause : Nat) : (memberFailed s slot cause).dram.mem = s.dram.mem := by
  unfold memberFailed
  (try dsimp only)
  repeat' (first | (with_reducible rfl) | split)
  all_goals (try simp_all -implicitDefEqProofs)
  all_goals (repeat' (first | (with_reducible rfl) | split))
  all_goals (try simp_all -implicitDefEqProofs)
@[simp] theorem memberPredicted_pending (s : State) (slot : Nat) : (memberPredicted s slot).pending = s.pending := by
  unfold memberPredicted
  (try dsimp only)
  repeat' (first | (with_reducible rfl) | split)
  all_goals (try simp_all -implicitDefEqProofs)
  all_goals (repeat' (first | (with_reducible rfl) | split))
  all_goals (try simp_all -implicitDefEqProofs)
@[simp] theorem memberPredicted_lck (s : State) (slot : Nat) : (memberPredicted s slot).lck = s.lck := by
  unfold memberPredicted
  (try dsimp only)
  repeat' (first | (with_reducible rfl) | split)
  all_goals (try simp_all -implicitDefEqProofs)
  all_goals (repeat' (first | (with_reducible rfl) | split))
  all_goals (try simp_all -implicitDefEqProofs)
@[simp] theorem memberPredicted_ready (s : State) (slot : Nat) : (memberPredicted s slot).boot.ready = s.boot.ready := by
  unfold memberPredicted
  (try dsimp only)
  repeat' (first | (with_reducible rfl) | split)
  all_goals (try simp_all -implicitDefEqProofs)
  all_goals (repeat' (first | (with_reducible rfl) | split))
  all_goals (try simp_all -implicitDefEqProofs)
@[simp] theorem memberPredicted_phase (s : State) (slot : Nat) : (memberPredicted s slot).cin.phase = s.cin.phase := by
  unfold memberPredicted
  (try dsimp only)
  repeat' (first | (with_reducible rfl) | split)
  all_goals (try simp_all -implicitDefEqProofs)
  all_goals (repeat' (first | (with_reducible rfl) | split))
  all_goals (try simp_all -implicitDefEqProofs)
@[simp] theorem memberPredicted_mem (s : State) (slot : Nat) : (memberPredicted s slot).dram.mem = s.dram.mem := by
  unfold memberPredicted
  (try dsimp only)
  repeat' (first | (with_reducible rfl) | split)
  all_goals (try simp_all -implicitDefEqProofs)
  all_goals (repeat' (first | (with_reducible rfl) | split))
  all_goals (try simp_all -implicitDefEqProofs)
@[simp] theorem memberPredicted_banks (s : State) (slot : Nat) : (memberPredicted s slot).fls.banks = s.fls.banks := by
  unfold memberPredicted
  (try dsimp only)
  repeat' (first | (with_reducible rfl) | split)
  all_goals (try simp_all -implicitDefEqProofs)
  all_goals (repeat' (first | (with_reducible rfl) | split))
  all_goals (try simp_all -implicitDefEqProofs)
@[simp] theorem driveViolation_pending (s : State) (slot cause : Nat) : (driveViolation s slot cause).pending = s.pending := by
  unfold driveViolation
  (try dsimp only)
  repeat' (first | (with_reducible rfl) | split)
  all_goals (try simp_all -implicitDefEqProofs)
  all_goals (repeat' (first | (with_reducible rfl) | split))
  all_goals (try simp_all -implicitDefEqProofs)
@[simp] theorem driveViolation_lck (s : State) (slot cause : Nat) : (driveViolation s slot cause).lck = s.lck := by
  unfold driveViolation
  (try dsimp only)
  repeat' (first | (with_reducible rfl) | split)
  all_goals (try simp_all -implicitDefEqProofs)
  all_goals (repeat' (first | (with_reducible rfl) | split))
  all_goals (try simp_all -implicitDefEqProofs)
@[simp] theorem driveViolation_ready (s : State) (slot cause : Nat) : (driveViolation s slot cause).boot.ready = s.boot.ready := by
  unfold driveViolation
  (try dsimp only)
  repeat' (first | (with_reducible rfl) | split)
  all_goals (try simp_all -implicitDefEqProofs)
  all_goals (repeat' (first | (with_reducible rfl) | split))
  all_goals (try simp_all -implicitDefEqProofs)
@[simp] theorem driveViolation_phase (s : State) (slot cause : Nat) : (driveViolation s slot cause).cin.phase = s.cin.phase := by
  unfold driveViolation
  (try dsimp only)
  repeat' (first | (with_reducible rfl) | split)
  all_goals (try simp_all -implicitDefEqProofs)
  all_goals (repeat' (first | (with_reducible rfl) | split))
  all_goals (try simp_all -implicitDefEqProofs)
@[simp] theorem driveViolation_mem (s : State) (slot cause : Nat) : (driveViolation s slot cause).dram.mem = s.dram.mem := by
  unfold driveViolation
  (try dsimp only)
  repeat' (first | (with_reducible rfl) | split)
  all_goals (try simp_all -implicitDefEqProofs)
  all_goals (repeat' (first | (with_reducible rfl) | split))
  all_goals (try simp_all -implicitDefEqProofs)
@[simp] theorem driveViolation_banks (s : State) (slot cause : Nat) : (driveViolation s slot cause).fls.banks = s.fls.banks := by
  unfold driveViolation
  (try dsimp only)
  repeat' (first | (with_reducible rfl) | split)
  all_goals (try simp_all -implicitDefEqProofs)
  all_goals (repeat' (first | (with_reducible rfl) | split))
  all_goals (try simp_all -implicitDefEqProofs)
@[simp] theorem journalPut_pending (s : State) (e : JournalEntry) : (journalPut s e).pending = s.pending := by
  unfold journalPut
  (try dsimp only)
  repeat' (first | (with_reducible rfl) | split)
  all_goals (try simp_all -implicitDefEqProofs)
  all_goals (repeat' (first | (with_reducible rfl) | split))
  all_goals (try simp_all -implicitDefEqProofs)
@[simp] theorem journalPut_lck (s : State) (e : JournalEntry) : (journalPut s e).lck = s.lck := by
  unfold journalPut
  (try dsimp only)
  repeat' (first | (with_reducible rfl) | split)
  all_goals (try simp_all -implicitDefEqProofs)
  all_goals (repeat' (first | (with_reducible rfl) | split))
  all_goals (try simp_all -implicitDefEqProofs)
@[simp] theorem journalPut_ready (s : State) (e : JournalEntry) : (journalPut s e).boot.ready = s.boot.ready := by
  unfold journalPut
  (try dsimp only)
  repeat' (first | (with_reducible rfl) | split)
  all_goals (try simp_all -implicitDefEqProofs)
  all_goals (repeat' (first | (with_reducible rfl) | split))
  all_goals (try simp_all -implicitDefEqProofs)
@[simp] theorem journalPut_phase (s : State) (e : JournalEntry) : (journalPut s e).cin.phase = s.cin.phase := by
  unfold journalPut
  (try dsimp only)
  repeat' (first | (with_reducible rfl) | split)
  all_goals (try simp_all -implicitDefEqProofs)
  all_goals (repeat' (first | (with_reducible rfl) | split))
  all_goals (try simp_all -implicitDefEqProofs)
@[simp] theorem journalPut_mem (s : State) (e : JournalEntry) : (journalPut s e).dram.mem = s.dram.mem := by
  unfold journalPut
  (try dsimp only)
  repeat' (first | (with_reducible rfl) | split)
  all_goals (try simp_all -implicitDefEqProofs)
  all_goals (repeat' (first | (with_reducible rfl) | split))
  all_goals (try simp_all -implicitDefEqProofs)
@[simp] theorem journalPut_banks (s : State) (e : JournalEntry) : (journalPut s e).fls.banks = s.fls.banks := by
  unfold journalPut
  (try dsimp only)
  repeat' (first | (with_reducible rfl) | split)
  all_goals (try simp_all -implicitDefEqProofs)
  all_goals (repeat' (first | (with_reducible rfl) | split))
  all_goals (try simp_all -implicitDefEqProofs)
@[simp] theorem freeZonesNow_pending (s : State) : (freeZonesNow s).pending = s.pending := by
  unfold freeZonesNow
  (try dsimp only)
  repeat' (first | (with_reducible rfl) | split)
  all_goals (try simp_all -implicitDefEqProofs)
  all_goals (repeat' (first | (with_reducible rfl) | split))
  all_goals (try simp_all -implicitDefEqProofs)
@[simp] theorem freeZonesNow_lck (s : State) : (freeZonesNow s).lck = s.lck := by
  unfold freeZonesNow
  (try dsimp only)
  repeat' (first | (with_reducible rfl) | split)
  all_goals (try simp_all -implicitDefEqProofs)
  all_goals (repeat' (first | (with_reducible rfl) | split))
  all_goals (try simp_all -implicitDefEqProofs)
@[simp] theorem freeZonesNow_ready (s : State) : (freeZonesNow s).boot.ready = s.boot.ready := by
  unfold freeZonesNow
  (try dsimp only)
  repeat' (first | (with_reducible rfl) | split)
  all_goals (try simp_all -implicitDefEqProofs)
  all_goals (repeat' (first | (with_reducible rfl) | split))
  all_goals (try simp_all -implicitDefEqProofs)
@[simp] theorem freeZonesNow_phase (s : State) : (freeZonesNow s).cin.phase = s.cin.phase := by
  unfold freeZonesNow
  (try dsimp only)
  repeat' (first | (with_reducible rfl) | split)
  all_goals (try simp_all -implicitDefEqProofs)
  all_goals (repeat' (first | (with_reducible rfl) | split))
  all_goals (try simp_all -implicitDefEqProofs)
@[simp] theorem freeZonesNow_mem (s : State) : (freeZonesNow s).dram.mem = s.dram.mem := by
  unfold freeZonesNow
  (try dsimp only)
  repeat' (first | (with_reducible rfl) | split)
  all_goals (try simp_all -implicitDefEqProofs)
  all_goals (repeat' (first | (with_reducible rfl) | split))
  all_goals (try simp_all -implicitDefEqProofs)
@[simp] theorem freeZonesNow_banks (s : State) : (freeZonesNow s).fls.banks = s.fls.banks := by
  unfold freeZonesNow
  (try dsimp only)
  repeat' (first | (with_reducible rfl) | split)
  all_goals (try simp_all -implicitDefEqProofs)
  all_goals (repeat' (first | (with_reducible rfl) | split))
  all_goals (try simp_all -implicitDefEqProofs)
@[simp] theorem poisonSector_pending (s : State) (n chunk sector : Nat) : (poisonSector s n chunk sector).pending = s.pending := by
  unfold poisonSector
  (try dsimp only)
  repeat' (first | (with_reducible rfl) | split)
  all_goals (try simp_all -implicitDefEqProofs)
  all_goals (repeat' (first | (with_reducible rfl) | split))
  all_goals (try simp_all -implicitDefEqProofs)
@[simp] theorem poisonSector_mem (s : State) (n chunk sector : Nat) : (poisonSector s n chunk sector).dram.mem = s.dram.mem := by
  unfold poisonSector
  (try dsimp only)
  repeat' (first | (with_reducible rfl) | split)
  all_goals (try simp_all -implicitDefEqProofs)
  all_goals (repeat' (first | (with_reducible rfl) | split))
  all_goals (try simp_all -implicitDefEqProofs)

end Sys2Proof.Laws
end

