-- ==== Sys2Proof/Laws/KeepParity.lean ====
section
/-!
SUPPORT. What the operations of Parity leave alone: one lemma for each operation and each part of the state that it never changes.
-/
namespace Sys2Proof.Laws
open Sys2Proof.Machine
set_option linter.unusedTactic false
set_option linter.unreachableTactic false
set_option linter.unusedVariables false
set_option linter.unusedSimpArgs false

@[simp] theorem writeColumn_pending (s : State) (slot n k : Nat) (cs : List Chunk) (col : Nat) (retry reloc : Bool) : (writeColumn s slot n k cs col retry reloc).pending = s.pending := by
  unfold writeColumn
  (try dsimp only)
  repeat' (first | (with_reducible rfl) | split)
  all_goals (try simp_all -implicitDefEqProofs)
  all_goals (repeat' (first | (with_reducible rfl) | split))
  all_goals (try simp_all -implicitDefEqProofs)
@[simp] theorem writeColumn_lck (s : State) (slot n k : Nat) (cs : List Chunk) (col : Nat) (retry reloc : Bool) : (writeColumn s slot n k cs col retry reloc).lck = s.lck := by
  unfold writeColumn
  (try dsimp only)
  repeat' (first | (with_reducible rfl) | split)
  all_goals (try simp_all -implicitDefEqProofs)
  all_goals (repeat' (first | (with_reducible rfl) | split))
  all_goals (try simp_all -implicitDefEqProofs)
@[simp] theorem writeColumn_ready (s : State) (slot n k : Nat) (cs : List Chunk) (col : Nat) (retry reloc : Bool) : (writeColumn s slot n k cs col retry reloc).boot.ready = s.boot.ready := by
  unfold writeColumn
  (try dsimp only)
  repeat' (first | (with_reducible rfl) | split)
  all_goals (try simp_all -implicitDefEqProofs)
  all_goals (repeat' (first | (with_reducible rfl) | split))
  all_goals (try simp_all -implicitDefEqProofs)
@[simp] theorem writeColumn_phase (s : State) (slot n k : Nat) (cs : List Chunk) (col : Nat) (retry reloc : Bool) : (writeColumn s slot n k cs col retry reloc).cin.phase = s.cin.phase := by
  unfold writeColumn
  (try dsimp only)
  repeat' (first | (with_reducible rfl) | split)
  all_goals (try simp_all -implicitDefEqProofs)
  all_goals (repeat' (first | (with_reducible rfl) | split))
  all_goals (try simp_all -implicitDefEqProofs)
@[simp] theorem writeColumn_mem (s : State) (slot n k : Nat) (cs : List Chunk) (col : Nat) (retry reloc : Bool) : (writeColumn s slot n k cs col retry reloc).dram.mem = s.dram.mem := by
  unfold writeColumn
  (try dsimp only)
  repeat' (first | (with_reducible rfl) | split)
  all_goals (try simp_all -implicitDefEqProofs)
  all_goals (repeat' (first | (with_reducible rfl) | split))
  all_goals (try simp_all -implicitDefEqProofs)
@[simp] theorem writeColumn_banks (s : State) (slot n k : Nat) (cs : List Chunk) (col : Nat) (retry reloc : Bool) : (writeColumn s slot n k cs col retry reloc).fls.banks = s.fls.banks := by
  unfold writeColumn
  (try dsimp only)
  repeat' (first | (with_reducible rfl) | split)
  all_goals (try simp_all -implicitDefEqProofs)
  all_goals (repeat' (first | (with_reducible rfl) | split))
  all_goals (try simp_all -implicitDefEqProofs)

end Sys2Proof.Laws
end

