-- ==== Sys2Proof/Laws/KeepDrives.lean ====
section
/-!
SUPPORT. What the operations of Drives leave alone: one lemma for each operation and each part of the state that it never changes.
-/
namespace Sys2Proof.Laws
open Sys2Proof.Machine
set_option linter.unusedTactic false
set_option linter.unreachableTactic false
set_option linter.unusedVariables false
set_option linter.unusedSimpArgs false

@[simp] theorem readFailed_pending (s : State) (slot n stripe unit sector : Nat) : (readFailed s slot n stripe unit sector).pending = s.pending := by
  unfold readFailed
  (try dsimp only)
  repeat' (first | (with_reducible rfl) | split)
  all_goals (try simp_all -implicitDefEqProofs)
  all_goals (repeat' (first | (with_reducible rfl) | split))
  all_goals (try simp_all -implicitDefEqProofs)
@[simp] theorem readFailed_mem (s : State) (slot n stripe unit sector : Nat) : (readFailed s slot n stripe unit sector).dram.mem = s.dram.mem := by
  unfold readFailed
  (try dsimp only)
  repeat' (first | (with_reducible rfl) | split)
  all_goals (try simp_all -implicitDefEqProofs)
  all_goals (repeat' (first | (with_reducible rfl) | split))
  all_goals (try simp_all -implicitDefEqProofs)
@[simp] theorem refetchDone_pending (s : State) (n stripe unit : Nat) : (refetchDone s n stripe unit).pending = s.pending := by
  unfold refetchDone
  (try dsimp only)
  repeat' (first | (with_reducible rfl) | split)
  all_goals (try simp_all -implicitDefEqProofs)
  all_goals (repeat' (first | (with_reducible rfl) | split))
  all_goals (try simp_all -implicitDefEqProofs)
@[simp] theorem refetchDone_lck (s : State) (n stripe unit : Nat) : (refetchDone s n stripe unit).lck = s.lck := by
  unfold refetchDone
  (try dsimp only)
  repeat' (first | (with_reducible rfl) | split)
  all_goals (try simp_all -implicitDefEqProofs)
  all_goals (repeat' (first | (with_reducible rfl) | split))
  all_goals (try simp_all -implicitDefEqProofs)
@[simp] theorem refetchDone_ready (s : State) (n stripe unit : Nat) : (refetchDone s n stripe unit).boot.ready = s.boot.ready := by
  unfold refetchDone
  (try dsimp only)
  repeat' (first | (with_reducible rfl) | split)
  all_goals (try simp_all -implicitDefEqProofs)
  all_goals (repeat' (first | (with_reducible rfl) | split))
  all_goals (try simp_all -implicitDefEqProofs)
@[simp] theorem refetchDone_phase (s : State) (n stripe unit : Nat) : (refetchDone s n stripe unit).cin.phase = s.cin.phase := by
  unfold refetchDone
  (try dsimp only)
  repeat' (first | (with_reducible rfl) | split)
  all_goals (try simp_all -implicitDefEqProofs)
  all_goals (repeat' (first | (with_reducible rfl) | split))
  all_goals (try simp_all -implicitDefEqProofs)
@[simp] theorem refetchDone_mem (s : State) (n stripe unit : Nat) : (refetchDone s n stripe unit).dram.mem = s.dram.mem := by
  unfold refetchDone
  (try dsimp only)
  repeat' (first | (with_reducible rfl) | split)
  all_goals (try simp_all -implicitDefEqProofs)
  all_goals (repeat' (first | (with_reducible rfl) | split))
  all_goals (try simp_all -implicitDefEqProofs)
@[simp] theorem refetchDone_banks (s : State) (n stripe unit : Nat) : (refetchDone s n stripe unit).fls.banks = s.fls.banks := by
  unfold refetchDone
  (try dsimp only)
  repeat' (first | (with_reducible rfl) | split)
  all_goals (try simp_all -implicitDefEqProofs)
  all_goals (repeat' (first | (with_reducible rfl) | split))
  all_goals (try simp_all -implicitDefEqProofs)
@[simp] theorem cmdDone_pending (s : State) (slot : Nat) (c : DriveCmd) : (cmdDone s slot c).pending = s.pending := by
  unfold cmdDone
  (try dsimp only)
  repeat' (first | (with_reducible rfl) | split)
  all_goals (try simp_all -implicitDefEqProofs)
  all_goals (repeat' (first | (with_reducible rfl) | split))
  all_goals (try simp_all -implicitDefEqProofs)
@[simp] theorem cmdDone_lck (s : State) (slot : Nat) (c : DriveCmd) : (cmdDone s slot c).lck = s.lck := by
  unfold cmdDone
  (try dsimp only)
  repeat' (first | (with_reducible rfl) | split)
  all_goals (try simp_all -implicitDefEqProofs)
  all_goals (repeat' (first | (with_reducible rfl) | split))
  all_goals (try simp_all -implicitDefEqProofs)
@[simp] theorem cmdDone_ready (s : State) (slot : Nat) (c : DriveCmd) : (cmdDone s slot c).boot.ready = s.boot.ready := by
  unfold cmdDone
  (try dsimp only)
  repeat' (first | (with_reducible rfl) | split)
  all_goals (try simp_all -implicitDefEqProofs)
  all_goals (repeat' (first | (with_reducible rfl) | split))
  all_goals (try simp_all -implicitDefEqProofs)
@[simp] theorem cmdDone_phase (s : State) (slot : Nat) (c : DriveCmd) : (cmdDone s slot c).cin.phase = s.cin.phase := by
  unfold cmdDone
  (try dsimp only)
  repeat' (first | (with_reducible rfl) | split)
  all_goals (try simp_all -implicitDefEqProofs)
  all_goals (repeat' (first | (with_reducible rfl) | split))
  all_goals (try simp_all -implicitDefEqProofs)
@[simp] theorem cmdDone_mem (s : State) (slot : Nat) (c : DriveCmd) : (cmdDone s slot c).dram.mem = s.dram.mem := by
  unfold cmdDone
  (try dsimp only)
  repeat' (first | (with_reducible rfl) | split)
  all_goals (try simp_all -implicitDefEqProofs)
  all_goals (repeat' (first | (with_reducible rfl) | split))
  all_goals (try simp_all -implicitDefEqProofs)
@[simp] theorem cmdDone_banks (s : State) (slot : Nat) (c : DriveCmd) : (cmdDone s slot c).fls.banks = s.fls.banks := by
  unfold cmdDone
  (try dsimp only)
  repeat' (first | (with_reducible rfl) | split)
  all_goals (try simp_all -implicitDefEqProofs)
  all_goals (repeat' (first | (with_reducible rfl) | split))
  all_goals (try simp_all -implicitDefEqProofs)
@[simp] theorem unitRetry_pending (s : State) (slot n k col : Nat) : (unitRetry s slot n k col).pending = s.pending := by
  unfold unitRetry
  (try dsimp only)
  repeat' (first | (with_reducible rfl) | split)
  all_goals (try simp_all -implicitDefEqProofs)
  all_goals (repeat' (first | (with_reducible rfl) | split))
  all_goals (try simp_all -implicitDefEqProofs)
@[simp] theorem unitRetry_lck (s : State) (slot n k col : Nat) : (unitRetry s slot n k col).lck = s.lck := by
  unfold unitRetry
  (try dsimp only)
  repeat' (first | (with_reducible rfl) | split)
  all_goals (try simp_all -implicitDefEqProofs)
  all_goals (repeat' (first | (with_reducible rfl) | split))
  all_goals (try simp_all -implicitDefEqProofs)
@[simp] theorem unitRetry_ready (s : State) (slot n k col : Nat) : (unitRetry s slot n k col).boot.ready = s.boot.ready := by
  unfold unitRetry
  (try dsimp only)
  repeat' (first | (with_reducible rfl) | split)
  all_goals (try simp_all -implicitDefEqProofs)
  all_goals (repeat' (first | (with_reducible rfl) | split))
  all_goals (try simp_all -implicitDefEqProofs)
@[simp] theorem unitRetry_phase (s : State) (slot n k col : Nat) : (unitRetry s slot n k col).cin.phase = s.cin.phase := by
  unfold unitRetry
  (try dsimp only)
  repeat' (first | (with_reducible rfl) | split)
  all_goals (try simp_all -implicitDefEqProofs)
  all_goals (repeat' (first | (with_reducible rfl) | split))
  all_goals (try simp_all -implicitDefEqProofs)
@[simp] theorem unitRetry_mem (s : State) (slot n k col : Nat) : (unitRetry s slot n k col).dram.mem = s.dram.mem := by
  unfold unitRetry
  (try dsimp only)
  repeat' (first | (with_reducible rfl) | split)
  all_goals (try simp_all -implicitDefEqProofs)
  all_goals (repeat' (first | (with_reducible rfl) | split))
  all_goals (try simp_all -implicitDefEqProofs)
@[simp] theorem unitRetry_banks (s : State) (slot n k col : Nat) : (unitRetry s slot n k col).fls.banks = s.fls.banks := by
  unfold unitRetry
  (try dsimp only)
  repeat' (first | (with_reducible rfl) | split)
  all_goals (try simp_all -implicitDefEqProofs)
  all_goals (repeat' (first | (with_reducible rfl) | split))
  all_goals (try simp_all -implicitDefEqProofs)
@[simp] theorem cmdFailed_pending (s : State) (slot sector : Nat) (c : DriveCmd) : (cmdFailed s slot sector c).pending = s.pending := by
  unfold cmdFailed
  (try dsimp only)
  repeat' (first | (with_reducible rfl) | split)
  all_goals (try simp_all -implicitDefEqProofs)
  all_goals (repeat' (first | (with_reducible rfl) | split))
  all_goals (try simp_all -implicitDefEqProofs)
@[simp] theorem cmdFailed_mem (s : State) (slot sector : Nat) (c : DriveCmd) : (cmdFailed s slot sector c).dram.mem = s.dram.mem := by
  unfold cmdFailed
  (try dsimp only)
  repeat' (first | (with_reducible rfl) | split)
  all_goals (try simp_all -implicitDefEqProofs)
  all_goals (repeat' (first | (with_reducible rfl) | split))
  all_goals (try simp_all -implicitDefEqProofs)
@[simp] theorem driveLinkDown_pending (s : State) (slot : Nat) : (driveLinkDown s slot).pending = s.pending := by
  unfold driveLinkDown
  (try dsimp only)
  repeat' (first | (with_reducible rfl) | split)
  all_goals (try simp_all -implicitDefEqProofs)
  all_goals (repeat' (first | (with_reducible rfl) | split))
  all_goals (try simp_all -implicitDefEqProofs)
@[simp] theorem driveLinkDown_lck (s : State) (slot : Nat) : (driveLinkDown s slot).lck = s.lck := by
  unfold driveLinkDown
  (try dsimp only)
  repeat' (first | (with_reducible rfl) | split)
  all_goals (try simp_all -implicitDefEqProofs)
  all_goals (repeat' (first | (with_reducible rfl) | split))
  all_goals (try simp_all -implicitDefEqProofs)
@[simp] theorem driveLinkDown_ready (s : State) (slot : Nat) : (driveLinkDown s slot).boot.ready = s.boot.ready := by
  unfold driveLinkDown
  (try dsimp only)
  repeat' (first | (with_reducible rfl) | split)
  all_goals (try simp_all -implicitDefEqProofs)
  all_goals (repeat' (first | (with_reducible rfl) | split))
  all_goals (try simp_all -implicitDefEqProofs)
@[simp] theorem driveLinkDown_phase (s : State) (slot : Nat) : (driveLinkDown s slot).cin.phase = s.cin.phase := by
  unfold driveLinkDown
  (try dsimp only)
  repeat' (first | (with_reducible rfl) | split)
  all_goals (try simp_all -implicitDefEqProofs)
  all_goals (repeat' (first | (with_reducible rfl) | split))
  all_goals (try simp_all -implicitDefEqProofs)
@[simp] theorem driveLinkDown_mem (s : State) (slot : Nat) : (driveLinkDown s slot).dram.mem = s.dram.mem := by
  unfold driveLinkDown
  (try dsimp only)
  repeat' (first | (with_reducible rfl) | split)
  all_goals (try simp_all -implicitDefEqProofs)
  all_goals (repeat' (first | (with_reducible rfl) | split))
  all_goals (try simp_all -implicitDefEqProofs)
@[simp] theorem driveLinkDown_banks (s : State) (slot : Nat) : (driveLinkDown s slot).fls.banks = s.fls.banks := by
  unfold driveLinkDown
  (try dsimp only)
  repeat' (first | (with_reducible rfl) | split)
  all_goals (try simp_all -implicitDefEqProofs)
  all_goals (repeat' (first | (with_reducible rfl) | split))
  all_goals (try simp_all -implicitDefEqProofs)
@[simp] theorem rebuildEnd_pending (s : State) (n : Nat) (r : Rebuild) : (rebuildEnd s n r).pending = s.pending := by
  unfold rebuildEnd
  (try dsimp only)
  repeat' (first | (with_reducible rfl) | split)
  all_goals (try simp_all -implicitDefEqProofs)
  all_goals (repeat' (first | (with_reducible rfl) | split))
  all_goals (try simp_all -implicitDefEqProofs)
@[simp] theorem rebuildEnd_mem (s : State) (n : Nat) (r : Rebuild) : (rebuildEnd s n r).dram.mem = s.dram.mem := by
  unfold rebuildEnd
  (try dsimp only)
  repeat' (first | (with_reducible rfl) | split)
  all_goals (try simp_all -implicitDefEqProofs)
  all_goals (repeat' (first | (with_reducible rfl) | split))
  all_goals (try simp_all -implicitDefEqProofs)

end Sys2Proof.Laws
end

