-- ==== Sys2Proof/Laws/KeepHostPorts.lean ====
section
/-!
SUPPORT. What the operations of HostPorts leave alone: one lemma for each operation and each part of the state that it never changes.
-/
namespace Sys2Proof.Laws
open Sys2Proof.Machine
set_option linter.unusedTactic false
set_option linter.unreachableTactic false
set_option linter.unusedVariables false
set_option linter.unusedSimpArgs false

@[simp] theorem trackLow_pending (s : State) (p : Nat) : (trackLow s p).pending = s.pending := by
  unfold trackLow
  (try dsimp only)
  repeat' (first | (with_reducible rfl) | split)
  all_goals (try simp_all -implicitDefEqProofs)
  all_goals (repeat' (first | (with_reducible rfl) | split))
  all_goals (try simp_all -implicitDefEqProofs)
@[simp] theorem trackLow_lck (s : State) (p : Nat) : (trackLow s p).lck = s.lck := by
  unfold trackLow
  (try dsimp only)
  repeat' (first | (with_reducible rfl) | split)
  all_goals (try simp_all -implicitDefEqProofs)
  all_goals (repeat' (first | (with_reducible rfl) | split))
  all_goals (try simp_all -implicitDefEqProofs)
@[simp] theorem trackLow_ready (s : State) (p : Nat) : (trackLow s p).boot.ready = s.boot.ready := by
  unfold trackLow
  (try dsimp only)
  repeat' (first | (with_reducible rfl) | split)
  all_goals (try simp_all -implicitDefEqProofs)
  all_goals (repeat' (first | (with_reducible rfl) | split))
  all_goals (try simp_all -implicitDefEqProofs)
@[simp] theorem trackLow_phase (s : State) (p : Nat) : (trackLow s p).cin.phase = s.cin.phase := by
  unfold trackLow
  (try dsimp only)
  repeat' (first | (with_reducible rfl) | split)
  all_goals (try simp_all -implicitDefEqProofs)
  all_goals (repeat' (first | (with_reducible rfl) | split))
  all_goals (try simp_all -implicitDefEqProofs)
@[simp] theorem trackLow_mem (s : State) (p : Nat) : (trackLow s p).dram.mem = s.dram.mem := by
  unfold trackLow
  (try dsimp only)
  repeat' (first | (with_reducible rfl) | split)
  all_goals (try simp_all -implicitDefEqProofs)
  all_goals (repeat' (first | (with_reducible rfl) | split))
  all_goals (try simp_all -implicitDefEqProofs)
@[simp] theorem trackLow_banks (s : State) (p : Nat) : (trackLow s p).fls.banks = s.fls.banks := by
  unfold trackLow
  (try dsimp only)
  repeat' (first | (with_reducible rfl) | split)
  all_goals (try simp_all -implicitDefEqProofs)
  all_goals (repeat' (first | (with_reducible rfl) | split))
  all_goals (try simp_all -implicitDefEqProofs)
@[simp] theorem refuseCount_pending (s : State) (p : Nat) (ld : Option Nat) (cause : Nat) : (refuseCount s p ld cause).pending = s.pending := by
  unfold refuseCount
  (try dsimp only)
  repeat' (first | (with_reducible rfl) | split)
  all_goals (try simp_all -implicitDefEqProofs)
  all_goals (repeat' (first | (with_reducible rfl) | split))
  all_goals (try simp_all -implicitDefEqProofs)
@[simp] theorem refuseCount_lck (s : State) (p : Nat) (ld : Option Nat) (cause : Nat) : (refuseCount s p ld cause).lck = s.lck := by
  unfold refuseCount
  (try dsimp only)
  repeat' (first | (with_reducible rfl) | split)
  all_goals (try simp_all -implicitDefEqProofs)
  all_goals (repeat' (first | (with_reducible rfl) | split))
  all_goals (try simp_all -implicitDefEqProofs)
@[simp] theorem refuseCount_ready (s : State) (p : Nat) (ld : Option Nat) (cause : Nat) : (refuseCount s p ld cause).boot.ready = s.boot.ready := by
  unfold refuseCount
  (try dsimp only)
  repeat' (first | (with_reducible rfl) | split)
  all_goals (try simp_all -implicitDefEqProofs)
  all_goals (repeat' (first | (with_reducible rfl) | split))
  all_goals (try simp_all -implicitDefEqProofs)
@[simp] theorem refuseCount_phase (s : State) (p : Nat) (ld : Option Nat) (cause : Nat) : (refuseCount s p ld cause).cin.phase = s.cin.phase := by
  unfold refuseCount
  (try dsimp only)
  repeat' (first | (with_reducible rfl) | split)
  all_goals (try simp_all -implicitDefEqProofs)
  all_goals (repeat' (first | (with_reducible rfl) | split))
  all_goals (try simp_all -implicitDefEqProofs)
@[simp] theorem refuseCount_mem (s : State) (p : Nat) (ld : Option Nat) (cause : Nat) : (refuseCount s p ld cause).dram.mem = s.dram.mem := by
  unfold refuseCount
  (try dsimp only)
  repeat' (first | (with_reducible rfl) | split)
  all_goals (try simp_all -implicitDefEqProofs)
  all_goals (repeat' (first | (with_reducible rfl) | split))
  all_goals (try simp_all -implicitDefEqProofs)
@[simp] theorem refuseCount_banks (s : State) (p : Nat) (ld : Option Nat) (cause : Nat) : (refuseCount s p ld cause).fls.banks = s.fls.banks := by
  unfold refuseCount
  (try dsimp only)
  repeat' (first | (with_reducible rfl) | split)
  all_goals (try simp_all -implicitDefEqProofs)
  all_goals (repeat' (first | (with_reducible rfl) | split))
  all_goals (try simp_all -implicitDefEqProofs)
@[simp] theorem linkDown_pending (s : State) (p : Nat) : (linkDown s p).pending = s.pending := by
  unfold linkDown
  (try dsimp only)
  repeat' (first | (with_reducible rfl) | split)
  all_goals (try simp_all -implicitDefEqProofs)
  all_goals (repeat' (first | (with_reducible rfl) | split))
  all_goals (try simp_all -implicitDefEqProofs)
@[simp] theorem linkDown_lck (s : State) (p : Nat) : (linkDown s p).lck = s.lck := by
  unfold linkDown
  (try dsimp only)
  repeat' (first | (with_reducible rfl) | split)
  all_goals (try simp_all -implicitDefEqProofs)
  all_goals (repeat' (first | (with_reducible rfl) | split))
  all_goals (try simp_all -implicitDefEqProofs)
@[simp] theorem linkDown_ready (s : State) (p : Nat) : (linkDown s p).boot.ready = s.boot.ready := by
  unfold linkDown
  (try dsimp only)
  repeat' (first | (with_reducible rfl) | split)
  all_goals (try simp_all -implicitDefEqProofs)
  all_goals (repeat' (first | (with_reducible rfl) | split))
  all_goals (try simp_all -implicitDefEqProofs)
@[simp] theorem linkDown_phase (s : State) (p : Nat) : (linkDown s p).cin.phase = s.cin.phase := by
  unfold linkDown
  (try dsimp only)
  repeat' (first | (with_reducible rfl) | split)
  all_goals (try simp_all -implicitDefEqProofs)
  all_goals (repeat' (first | (with_reducible rfl) | split))
  all_goals (try simp_all -implicitDefEqProofs)
@[simp] theorem linkDown_mem (s : State) (p : Nat) : (linkDown s p).dram.mem = s.dram.mem := by
  unfold linkDown
  (try dsimp only)
  repeat' (first | (with_reducible rfl) | split)
  all_goals (try simp_all -implicitDefEqProofs)
  all_goals (repeat' (first | (with_reducible rfl) | split))
  all_goals (try simp_all -implicitDefEqProofs)
@[simp] theorem linkDown_banks (s : State) (p : Nat) : (linkDown s p).fls.banks = s.fls.banks := by
  unfold linkDown
  (try dsimp only)
  repeat' (first | (with_reducible rfl) | split)
  all_goals (try simp_all -implicitDefEqProofs)
  all_goals (repeat' (first | (with_reducible rfl) | split))
  all_goals (try simp_all -implicitDefEqProofs)
@[simp] theorem stageField_pending (s : State) (f : Fld) (v : Nat) : (stageField s f v).pending = s.pending := by
  unfold stageField
  (try dsimp only)
  repeat' (first | (with_reducible rfl) | split)
  all_goals (try simp_all -implicitDefEqProofs)
  all_goals (repeat' (first | (with_reducible rfl) | split))
  all_goals (try simp_all -implicitDefEqProofs)
@[simp] theorem stageField_lck (s : State) (f : Fld) (v : Nat) : (stageField s f v).lck = s.lck := by
  unfold stageField
  (try dsimp only)
  repeat' (first | (with_reducible rfl) | split)
  all_goals (try simp_all -implicitDefEqProofs)
  all_goals (repeat' (first | (with_reducible rfl) | split))
  all_goals (try simp_all -implicitDefEqProofs)
@[simp] theorem stageField_ready (s : State) (f : Fld) (v : Nat) : (stageField s f v).boot.ready = s.boot.ready := by
  unfold stageField
  (try dsimp only)
  repeat' (first | (with_reducible rfl) | split)
  all_goals (try simp_all -implicitDefEqProofs)
  all_goals (repeat' (first | (with_reducible rfl) | split))
  all_goals (try simp_all -implicitDefEqProofs)
@[simp] theorem stageField_phase (s : State) (f : Fld) (v : Nat) : (stageField s f v).cin.phase = s.cin.phase := by
  unfold stageField
  (try dsimp only)
  repeat' (first | (with_reducible rfl) | split)
  all_goals (try simp_all -implicitDefEqProofs)
  all_goals (repeat' (first | (with_reducible rfl) | split))
  all_goals (try simp_all -implicitDefEqProofs)
@[simp] theorem stageField_mem (s : State) (f : Fld) (v : Nat) : (stageField s f v).dram.mem = s.dram.mem := by
  unfold stageField
  (try dsimp only)
  repeat' (first | (with_reducible rfl) | split)
  all_goals (try simp_all -implicitDefEqProofs)
  all_goals (repeat' (first | (with_reducible rfl) | split))
  all_goals (try simp_all -implicitDefEqProofs)
@[simp] theorem stageField_banks (s : State) (f : Fld) (v : Nat) : (stageField s f v).fls.banks = s.fls.banks := by
  unfold stageField
  (try dsimp only)
  repeat' (first | (with_reducible rfl) | split)
  all_goals (try simp_all -implicitDefEqProofs)
  all_goals (repeat' (first | (with_reducible rfl) | split))
  all_goals (try simp_all -implicitDefEqProofs)

end Sys2Proof.Laws
end

