-- ==== Sys2Proof/Laws/KeepLatigo.lean ====
section
/-!
SUPPORT. What the operations of Latigo leave alone: one lemma for each operation and each part of the state that it never changes.
-/
namespace Sys2Proof.Laws
open Sys2Proof.Machine
set_option linter.unusedTactic false
set_option linter.unreachableTactic false
set_option linter.unusedVariables false
set_option linter.unusedSimpArgs false

@[simp] theorem fetchContext_pending (s : State) (id : Nat) : (fetchContext s id).pending = s.pending := by
  unfold fetchContext
  (try dsimp only)
  repeat' (first | (with_reducible rfl) | split)
  all_goals (try simp_all -implicitDefEqProofs)
  all_goals (repeat' (first | (with_reducible rfl) | split))
  all_goals (try simp_all -implicitDefEqProofs)
@[simp] theorem fetchContext_lck (s : State) (id : Nat) : (fetchContext s id).lck = s.lck := by
  unfold fetchContext
  (try dsimp only)
  repeat' (first | (with_reducible rfl) | split)
  all_goals (try simp_all -implicitDefEqProofs)
  all_goals (repeat' (first | (with_reducible rfl) | split))
  all_goals (try simp_all -implicitDefEqProofs)
@[simp] theorem fetchContext_ready (s : State) (id : Nat) : (fetchContext s id).boot.ready = s.boot.ready := by
  unfold fetchContext
  (try dsimp only)
  repeat' (first | (with_reducible rfl) | split)
  all_goals (try simp_all -implicitDefEqProofs)
  all_goals (repeat' (first | (with_reducible rfl) | split))
  all_goals (try simp_all -implicitDefEqProofs)
@[simp] theorem fetchContext_phase (s : State) (id : Nat) : (fetchContext s id).cin.phase = s.cin.phase := by
  unfold fetchContext
  (try dsimp only)
  repeat' (first | (with_reducible rfl) | split)
  all_goals (try simp_all -implicitDefEqProofs)
  all_goals (repeat' (first | (with_reducible rfl) | split))
  all_goals (try simp_all -implicitDefEqProofs)
@[simp] theorem fetchContext_mem (s : State) (id : Nat) : (fetchContext s id).dram.mem = s.dram.mem := by
  unfold fetchContext
  (try dsimp only)
  repeat' (first | (with_reducible rfl) | split)
  all_goals (try simp_all -implicitDefEqProofs)
  all_goals (repeat' (first | (with_reducible rfl) | split))
  all_goals (try simp_all -implicitDefEqProofs)
@[simp] theorem fetchContext_banks (s : State) (id : Nat) : (fetchContext s id).fls.banks = s.fls.banks := by
  unfold fetchContext
  (try dsimp only)
  repeat' (first | (with_reducible rfl) | split)
  all_goals (try simp_all -implicitDefEqProofs)
  all_goals (repeat' (first | (with_reducible rfl) | split))
  all_goals (try simp_all -implicitDefEqProofs)
@[simp] theorem wqeStart_pending (s : State) (id : Nat) (c : Conn) (w : Wqe) (pk : Nat) (st : Option Status) : (wqeStart s id c w pk st).pending = s.pending := by
  unfold wqeStart
  (try dsimp only)
  repeat' (first | (with_reducible rfl) | split)
  all_goals (try simp_all -implicitDefEqProofs)
  all_goals (repeat' (first | (with_reducible rfl) | split))
  all_goals (try simp_all -implicitDefEqProofs)
@[simp] theorem wqeStart_lck (s : State) (id : Nat) (c : Conn) (w : Wqe) (pk : Nat) (st : Option Status) : (wqeStart s id c w pk st).lck = s.lck := by
  unfold wqeStart
  (try dsimp only)
  repeat' (first | (with_reducible rfl) | split)
  all_goals (try simp_all -implicitDefEqProofs)
  all_goals (repeat' (first | (with_reducible rfl) | split))
  all_goals (try simp_all -implicitDefEqProofs)
@[simp] theorem wqeStart_ready (s : State) (id : Nat) (c : Conn) (w : Wqe) (pk : Nat) (st : Option Status) : (wqeStart s id c w pk st).boot.ready = s.boot.ready := by
  unfold wqeStart
  (try dsimp only)
  repeat' (first | (with_reducible rfl) | split)
  all_goals (try simp_all -implicitDefEqProofs)
  all_goals (repeat' (first | (with_reducible rfl) | split))
  all_goals (try simp_all -implicitDefEqProofs)
@[simp] theorem wqeStart_phase (s : State) (id : Nat) (c : Conn) (w : Wqe) (pk : Nat) (st : Option Status) : (wqeStart s id c w pk st).cin.phase = s.cin.phase := by
  unfold wqeStart
  (try dsimp only)
  repeat' (first | (with_reducible rfl) | split)
  all_goals (try simp_all -implicitDefEqProofs)
  all_goals (repeat' (first | (with_reducible rfl) | split))
  all_goals (try simp_all -implicitDefEqProofs)
@[simp] theorem wqeStart_mem (s : State) (id : Nat) (c : Conn) (w : Wqe) (pk : Nat) (st : Option Status) : (wqeStart s id c w pk st).dram.mem = s.dram.mem := by
  unfold wqeStart
  (try dsimp only)
  repeat' (first | (with_reducible rfl) | split)
  all_goals (try simp_all -implicitDefEqProofs)
  all_goals (repeat' (first | (with_reducible rfl) | split))
  all_goals (try simp_all -implicitDefEqProofs)
@[simp] theorem wqeStart_banks (s : State) (id : Nat) (c : Conn) (w : Wqe) (pk : Nat) (st : Option Status) : (wqeStart s id c w pk st).fls.banks = s.fls.banks := by
  unfold wqeStart
  (try dsimp only)
  repeat' (first | (with_reducible rfl) | split)
  all_goals (try simp_all -implicitDefEqProofs)
  all_goals (repeat' (first | (with_reducible rfl) | split))
  all_goals (try simp_all -implicitDefEqProofs)
@[simp] theorem readBuffer_pending (s : State) (id msg n dpa len : Nat) : (readBuffer s id msg n dpa len).pending = s.pending := by
  unfold readBuffer
  (try dsimp only)
  repeat' (first | (with_reducible rfl) | split)
  all_goals (try simp_all -implicitDefEqProofs)
  all_goals (repeat' (first | (with_reducible rfl) | split))
  all_goals (try simp_all -implicitDefEqProofs)
@[simp] theorem readBuffer_lck (s : State) (id msg n dpa len : Nat) : (readBuffer s id msg n dpa len).lck = s.lck := by
  unfold readBuffer
  (try dsimp only)
  repeat' (first | (with_reducible rfl) | split)
  all_goals (try simp_all -implicitDefEqProofs)
  all_goals (repeat' (first | (with_reducible rfl) | split))
  all_goals (try simp_all -implicitDefEqProofs)
@[simp] theorem readBuffer_ready (s : State) (id msg n dpa len : Nat) : (readBuffer s id msg n dpa len).boot.ready = s.boot.ready := by
  unfold readBuffer
  (try dsimp only)
  repeat' (first | (with_reducible rfl) | split)
  all_goals (try simp_all -implicitDefEqProofs)
  all_goals (repeat' (first | (with_reducible rfl) | split))
  all_goals (try simp_all -implicitDefEqProofs)
@[simp] theorem readBuffer_phase (s : State) (id msg n dpa len : Nat) : (readBuffer s id msg n dpa len).cin.phase = s.cin.phase := by
  unfold readBuffer
  (try dsimp only)
  repeat' (first | (with_reducible rfl) | split)
  all_goals (try simp_all -implicitDefEqProofs)
  all_goals (repeat' (first | (with_reducible rfl) | split))
  all_goals (try simp_all -implicitDefEqProofs)
@[simp] theorem readBuffer_mem (s : State) (id msg n dpa len : Nat) : (readBuffer s id msg n dpa len).dram.mem = s.dram.mem := by
  unfold readBuffer
  (try dsimp only)
  repeat' (first | (with_reducible rfl) | split)
  all_goals (try simp_all -implicitDefEqProofs)
  all_goals (repeat' (first | (with_reducible rfl) | split))
  all_goals (try simp_all -implicitDefEqProofs)
@[simp] theorem readBuffer_banks (s : State) (id msg n dpa len : Nat) : (readBuffer s id msg n dpa len).fls.banks = s.fls.banks := by
  unfold readBuffer
  (try dsimp only)
  repeat' (first | (with_reducible rfl) | split)
  all_goals (try simp_all -implicitDefEqProofs)
  all_goals (repeat' (first | (with_reducible rfl) | split))
  all_goals (try simp_all -implicitDefEqProofs)
@[simp] theorem leftAdd_pending (s : State) (who : Writer) (k : Nat) : (leftAdd s who k).pending = s.pending := by
  unfold leftAdd
  (try dsimp only)
  repeat' (first | (with_reducible rfl) | split)
  all_goals (try simp_all -implicitDefEqProofs)
  all_goals (repeat' (first | (with_reducible rfl) | split))
  all_goals (try simp_all -implicitDefEqProofs)
@[simp] theorem leftAdd_lck (s : State) (who : Writer) (k : Nat) : (leftAdd s who k).lck = s.lck := by
  unfold leftAdd
  (try dsimp only)
  repeat' (first | (with_reducible rfl) | split)
  all_goals (try simp_all -implicitDefEqProofs)
  all_goals (repeat' (first | (with_reducible rfl) | split))
  all_goals (try simp_all -implicitDefEqProofs)
@[simp] theorem leftAdd_ready (s : State) (who : Writer) (k : Nat) : (leftAdd s who k).boot.ready = s.boot.ready := by
  unfold leftAdd
  (try dsimp only)
  repeat' (first | (with_reducible rfl) | split)
  all_goals (try simp_all -implicitDefEqProofs)
  all_goals (repeat' (first | (with_reducible rfl) | split))
  all_goals (try simp_all -implicitDefEqProofs)
@[simp] theorem leftAdd_phase (s : State) (who : Writer) (k : Nat) : (leftAdd s who k).cin.phase = s.cin.phase := by
  unfold leftAdd
  (try dsimp only)
  repeat' (first | (with_reducible rfl) | split)
  all_goals (try simp_all -implicitDefEqProofs)
  all_goals (repeat' (first | (with_reducible rfl) | split))
  all_goals (try simp_all -implicitDefEqProofs)
@[simp] theorem leftAdd_mem (s : State) (who : Writer) (k : Nat) : (leftAdd s who k).dram.mem = s.dram.mem := by
  unfold leftAdd
  (try dsimp only)
  repeat' (first | (with_reducible rfl) | split)
  all_goals (try simp_all -implicitDefEqProofs)
  all_goals (repeat' (first | (with_reducible rfl) | split))
  all_goals (try simp_all -implicitDefEqProofs)
@[simp] theorem leftAdd_banks (s : State) (who : Writer) (k : Nat) : (leftAdd s who k).fls.banks = s.fls.banks := by
  unfold leftAdd
  (try dsimp only)
  repeat' (first | (with_reducible rfl) | split)
  all_goals (try simp_all -implicitDefEqProofs)
  all_goals (repeat' (first | (with_reducible rfl) | split))
  all_goals (try simp_all -implicitDefEqProofs)
@[simp] theorem releaseWaits_pending (s : State) (cq : Nat) : (releaseWaits s cq).pending = s.pending := by
  unfold releaseWaits
  (try dsimp only)
  repeat' (first | (with_reducible rfl) | split)
  all_goals (try simp_all -implicitDefEqProofs)
  all_goals (repeat' (first | (with_reducible rfl) | split))
  all_goals (try simp_all -implicitDefEqProofs)
@[simp] theorem releaseWaits_lck (s : State) (cq : Nat) : (releaseWaits s cq).lck = s.lck := by
  unfold releaseWaits
  (try dsimp only)
  repeat' (first | (with_reducible rfl) | split)
  all_goals (try simp_all -implicitDefEqProofs)
  all_goals (repeat' (first | (with_reducible rfl) | split))
  all_goals (try simp_all -implicitDefEqProofs)
@[simp] theorem releaseWaits_ready (s : State) (cq : Nat) : (releaseWaits s cq).boot.ready = s.boot.ready := by
  unfold releaseWaits
  (try dsimp only)
  repeat' (first | (with_reducible rfl) | split)
  all_goals (try simp_all -implicitDefEqProofs)
  all_goals (repeat' (first | (with_reducible rfl) | split))
  all_goals (try simp_all -implicitDefEqProofs)
@[simp] theorem releaseWaits_phase (s : State) (cq : Nat) : (releaseWaits s cq).cin.phase = s.cin.phase := by
  unfold releaseWaits
  (try dsimp only)
  repeat' (first | (with_reducible rfl) | split)
  all_goals (try simp_all -implicitDefEqProofs)
  all_goals (repeat' (first | (with_reducible rfl) | split))
  all_goals (try simp_all -implicitDefEqProofs)
@[simp] theorem releaseWaits_mem (s : State) (cq : Nat) : (releaseWaits s cq).dram.mem = s.dram.mem := by
  unfold releaseWaits
  (try dsimp only)
  repeat' (first | (with_reducible rfl) | split)
  all_goals (try simp_all -implicitDefEqProofs)
  all_goals (repeat' (first | (with_reducible rfl) | split))
  all_goals (try simp_all -implicitDefEqProofs)
@[simp] theorem releaseWaits_banks (s : State) (cq : Nat) : (releaseWaits s cq).fls.banks = s.fls.banks := by
  unfold releaseWaits
  (try dsimp only)
  repeat' (first | (with_reducible rfl) | split)
  all_goals (try simp_all -implicitDefEqProofs)
  all_goals (repeat' (first | (with_reducible rfl) | split))
  all_goals (try simp_all -implicitDefEqProofs)
@[simp] theorem retriesOut_pending (s : State) (id idx : Nat) : (retriesOut s id idx).pending = s.pending := by
  unfold retriesOut
  (try dsimp only)
  repeat' (first | (with_reducible rfl) | split)
  all_goals (try simp_all -implicitDefEqProofs)
  all_goals (repeat' (first | (with_reducible rfl) | split))
  all_goals (try simp_all -implicitDefEqProofs)
@[simp] theorem retriesOut_lck (s : State) (id idx : Nat) : (retriesOut s id idx).lck = s.lck := by
  unfold retriesOut
  (try dsimp only)
  repeat' (first | (with_reducible rfl) | split)
  all_goals (try simp_all -implicitDefEqProofs)
  all_goals (repeat' (first | (with_reducible rfl) | split))
  all_goals (try simp_all -implicitDefEqProofs)
@[simp] theorem retriesOut_ready (s : State) (id idx : Nat) : (retriesOut s id idx).boot.ready = s.boot.ready := by
  unfold retriesOut
  (try dsimp only)
  repeat' (first | (with_reducible rfl) | split)
  all_goals (try simp_all -implicitDefEqProofs)
  all_goals (repeat' (first | (with_reducible rfl) | split))
  all_goals (try simp_all -implicitDefEqProofs)
@[simp] theorem retriesOut_phase (s : State) (id idx : Nat) : (retriesOut s id idx).cin.phase = s.cin.phase := by
  unfold retriesOut
  (try dsimp only)
  repeat' (first | (with_reducible rfl) | split)
  all_goals (try simp_all -implicitDefEqProofs)
  all_goals (repeat' (first | (with_reducible rfl) | split))
  all_goals (try simp_all -implicitDefEqProofs)
@[simp] theorem retriesOut_mem (s : State) (id idx : Nat) : (retriesOut s id idx).dram.mem = s.dram.mem := by
  unfold retriesOut
  (try dsimp only)
  repeat' (first | (with_reducible rfl) | split)
  all_goals (try simp_all -implicitDefEqProofs)
  all_goals (repeat' (first | (with_reducible rfl) | split))
  all_goals (try simp_all -implicitDefEqProofs)
@[simp] theorem retriesOut_banks (s : State) (id idx : Nat) : (retriesOut s id idx).fls.banks = s.fls.banks := by
  unfold retriesOut
  (try dsimp only)
  repeat' (first | (with_reducible rfl) | split)
  all_goals (try simp_all -implicitDefEqProofs)
  all_goals (repeat' (first | (with_reducible rfl) | split))
  all_goals (try simp_all -implicitDefEqProofs)
@[simp] theorem resend_pending (s : State) (id : Nat) (c : Conn) (w : Wqe) : (resend s id c w).pending = s.pending := by
  unfold resend
  (try dsimp only)
  repeat' (first | (with_reducible rfl) | split)
  all_goals (try simp_all -implicitDefEqProofs)
  all_goals (repeat' (first | (with_reducible rfl) | split))
  all_goals (try simp_all -implicitDefEqProofs)
@[simp] theorem resend_lck (s : State) (id : Nat) (c : Conn) (w : Wqe) : (resend s id c w).lck = s.lck := by
  unfold resend
  (try dsimp only)
  repeat' (first | (with_reducible rfl) | split)
  all_goals (try simp_all -implicitDefEqProofs)
  all_goals (repeat' (first | (with_reducible rfl) | split))
  all_goals (try simp_all -implicitDefEqProofs)
@[simp] theorem resend_ready (s : State) (id : Nat) (c : Conn) (w : Wqe) : (resend s id c w).boot.ready = s.boot.ready := by
  unfold resend
  (try dsimp only)
  repeat' (first | (with_reducible rfl) | split)
  all_goals (try simp_all -implicitDefEqProofs)
  all_goals (repeat' (first | (with_reducible rfl) | split))
  all_goals (try simp_all -implicitDefEqProofs)
@[simp] theorem resend_phase (s : State) (id : Nat) (c : Conn) (w : Wqe) : (resend s id c w).cin.phase = s.cin.phase := by
  unfold resend
  (try dsimp only)
  repeat' (first | (with_reducible rfl) | split)
  all_goals (try simp_all -implicitDefEqProofs)
  all_goals (repeat' (first | (with_reducible rfl) | split))
  all_goals (try simp_all -implicitDefEqProofs)
@[simp] theorem resend_mem (s : State) (id : Nat) (c : Conn) (w : Wqe) : (resend s id c w).dram.mem = s.dram.mem := by
  unfold resend
  (try dsimp only)
  repeat' (first | (with_reducible rfl) | split)
  all_goals (try simp_all -implicitDefEqProofs)
  all_goals (repeat' (first | (with_reducible rfl) | split))
  all_goals (try simp_all -implicitDefEqProofs)
@[simp] theorem resend_banks (s : State) (id : Nat) (c : Conn) (w : Wqe) : (resend s id c w).fls.banks = s.fls.banks := by
  unfold resend
  (try dsimp only)
  repeat' (first | (with_reducible rfl) | split)
  all_goals (try simp_all -implicitDefEqProofs)
  all_goals (repeat' (first | (with_reducible rfl) | split))
  all_goals (try simp_all -implicitDefEqProofs)
@[simp] theorem peerViolation_pending (s : State) (addr cause : Nat) : (peerViolation s addr cause).pending = s.pending := by
  unfold peerViolation
  (try dsimp only)
  repeat' (first | (with_reducible rfl) | split)
  all_goals (try simp_all -implicitDefEqProofs)
  all_goals (repeat' (first | (with_reducible rfl) | split))
  all_goals (try simp_all -implicitDefEqProofs)
@[simp] theorem peerViolation_lck (s : State) (addr cause : Nat) : (peerViolation s addr cause).lck = s.lck := by
  unfold peerViolation
  (try dsimp only)
  repeat' (first | (with_reducible rfl) | split)
  all_goals (try simp_all -implicitDefEqProofs)
  all_goals (repeat' (first | (with_reducible rfl) | split))
  all_goals (try simp_all -implicitDefEqProofs)
@[simp] theorem peerViolation_ready (s : State) (addr cause : Nat) : (peerViolation s addr cause).boot.ready = s.boot.ready := by
  unfold peerViolation
  (try dsimp only)
  repeat' (first | (with_reducible rfl) | split)
  all_goals (try simp_all -implicitDefEqProofs)
  all_goals (repeat' (first | (with_reducible rfl) | split))
  all_goals (try simp_all -implicitDefEqProofs)
@[simp] theorem peerViolation_phase (s : State) (addr cause : Nat) : (peerViolation s addr cause).cin.phase = s.cin.phase := by
  unfold peerViolation
  (try dsimp only)
  repeat' (first | (with_reducible rfl) | split)
  all_goals (try simp_all -implicitDefEqProofs)
  all_goals (repeat' (first | (with_reducible rfl) | split))
  all_goals (try simp_all -implicitDefEqProofs)
@[simp] theorem peerViolation_mem (s : State) (addr cause : Nat) : (peerViolation s addr cause).dram.mem = s.dram.mem := by
  unfold peerViolation
  (try dsimp only)
  repeat' (first | (with_reducible rfl) | split)
  all_goals (try simp_all -implicitDefEqProofs)
  all_goals (repeat' (first | (with_reducible rfl) | split))
  all_goals (try simp_all -implicitDefEqProofs)
@[simp] theorem peerViolation_banks (s : State) (addr cause : Nat) : (peerViolation s addr cause).fls.banks = s.fls.banks := by
  unfold peerViolation
  (try dsimp only)
  repeat' (first | (with_reducible rfl) | split)
  all_goals (try simp_all -implicitDefEqProofs)
  all_goals (repeat' (first | (with_reducible rfl) | split))
  all_goals (try simp_all -implicitDefEqProofs)
@[simp] theorem invalidRequest_pending (s : State) (id : Nat) (p : RxPkt) (cause : Nat) : (invalidRequest s id p cause).pending = s.pending := by
  unfold invalidRequest
  (try dsimp only)
  repeat' (first | (with_reducible rfl) | split)
  all_goals (try simp_all -implicitDefEqProofs)
  all_goals (repeat' (first | (with_reducible rfl) | split))
  all_goals (try simp_all -implicitDefEqProofs)
@[simp] theorem invalidRequest_lck (s : State) (id : Nat) (p : RxPkt) (cause : Nat) : (invalidRequest s id p cause).lck = s.lck := by
  unfold invalidRequest
  (try dsimp only)
  repeat' (first | (with_reducible rfl) | split)
  all_goals (try simp_all -implicitDefEqProofs)
  all_goals (repeat' (first | (with_reducible rfl) | split))
  all_goals (try simp_all -implicitDefEqProofs)
@[simp] theorem invalidRequest_ready (s : State) (id : Nat) (p : RxPkt) (cause : Nat) : (invalidRequest s id p cause).boot.ready = s.boot.ready := by
  unfold invalidRequest
  (try dsimp only)
  repeat' (first | (with_reducible rfl) | split)
  all_goals (try simp_all -implicitDefEqProofs)
  all_goals (repeat' (first | (with_reducible rfl) | split))
  all_goals (try simp_all -implicitDefEqProofs)
@[simp] theorem invalidRequest_phase (s : State) (id : Nat) (p : RxPkt) (cause : Nat) : (invalidRequest s id p cause).cin.phase = s.cin.phase := by
  unfold invalidRequest
  (try dsimp only)
  repeat' (first | (with_reducible rfl) | split)
  all_goals (try simp_all -implicitDefEqProofs)
  all_goals (repeat' (first | (with_reducible rfl) | split))
  all_goals (try simp_all -implicitDefEqProofs)
@[simp] theorem invalidRequest_mem (s : State) (id : Nat) (p : RxPkt) (cause : Nat) : (invalidRequest s id p cause).dram.mem = s.dram.mem := by
  unfold invalidRequest
  (try dsimp only)
  repeat' (first | (with_reducible rfl) | split)
  all_goals (try simp_all -implicitDefEqProofs)
  all_goals (repeat' (first | (with_reducible rfl) | split))
  all_goals (try simp_all -implicitDefEqProofs)
@[simp] theorem invalidRequest_banks (s : State) (id : Nat) (p : RxPkt) (cause : Nat) : (invalidRequest s id p cause).fls.banks = s.fls.banks := by
  unfold invalidRequest
  (try dsimp only)
  repeat' (first | (with_reducible rfl) | split)
  all_goals (try simp_all -implicitDefEqProofs)
  all_goals (repeat' (first | (with_reducible rfl) | split))
  all_goals (try simp_all -implicitDefEqProofs)
@[simp] theorem refuseAccess_pending (s : State) (id : Nat) (p : RxPkt) : (refuseAccess s id p).pending = s.pending := by
  unfold refuseAccess
  (try dsimp only)
  repeat' (first | (with_reducible rfl) | split)
  all_goals (try simp_all -implicitDefEqProofs)
  all_goals (repeat' (first | (with_reducible rfl) | split))
  all_goals (try simp_all -implicitDefEqProofs)
@[simp] theorem refuseAccess_lck (s : State) (id : Nat) (p : RxPkt) : (refuseAccess s id p).lck = s.lck := by
  unfold refuseAccess
  (try dsimp only)
  repeat' (first | (with_reducible rfl) | split)
  all_goals (try simp_all -implicitDefEqProofs)
  all_goals (repeat' (first | (with_reducible rfl) | split))
  all_goals (try simp_all -implicitDefEqProofs)
@[simp] theorem refuseAccess_ready (s : State) (id : Nat) (p : RxPkt) : (refuseAccess s id p).boot.ready = s.boot.ready := by
  unfold refuseAccess
  (try dsimp only)
  repeat' (first | (with_reducible rfl) | split)
  all_goals (try simp_all -implicitDefEqProofs)
  all_goals (repeat' (first | (with_reducible rfl) | split))
  all_goals (try simp_all -implicitDefEqProofs)
@[simp] theorem refuseAccess_phase (s : State) (id : Nat) (p : RxPkt) : (refuseAccess s id p).cin.phase = s.cin.phase := by
  unfold refuseAccess
  (try dsimp only)
  repeat' (first | (with_reducible rfl) | split)
  all_goals (try simp_all -implicitDefEqProofs)
  all_goals (repeat' (first | (with_reducible rfl) | split))
  all_goals (try simp_all -implicitDefEqProofs)
@[simp] theorem refuseAccess_mem (s : State) (id : Nat) (p : RxPkt) : (refuseAccess s id p).dram.mem = s.dram.mem := by
  unfold refuseAccess
  (try dsimp only)
  repeat' (first | (with_reducible rfl) | split)
  all_goals (try simp_all -implicitDefEqProofs)
  all_goals (repeat' (first | (with_reducible rfl) | split))
  all_goals (try simp_all -implicitDefEqProofs)
@[simp] theorem refuseAccess_banks (s : State) (id : Nat) (p : RxPkt) : (refuseAccess s id p).fls.banks = s.fls.banks := by
  unfold refuseAccess
  (try dsimp only)
  repeat' (first | (with_reducible rfl) | split)
  all_goals (try simp_all -implicitDefEqProofs)
  all_goals (repeat' (first | (with_reducible rfl) | split))
  all_goals (try simp_all -implicitDefEqProofs)
@[simp] theorem msgBegin_pending (s : State) (id : Nat) (c : Conn) (m : RxMsg) : (msgBegin s id c m).pending = s.pending := by
  unfold msgBegin
  (try dsimp only)
  repeat' (first | (with_reducible rfl) | split)
  all_goals (try simp_all -implicitDefEqProofs)
  all_goals (repeat' (first | (with_reducible rfl) | split))
  all_goals (try simp_all -implicitDefEqProofs)
@[simp] theorem msgBegin_lck (s : State) (id : Nat) (c : Conn) (m : RxMsg) : (msgBegin s id c m).lck = s.lck := by
  unfold msgBegin
  (try dsimp only)
  repeat' (first | (with_reducible rfl) | split)
  all_goals (try simp_all -implicitDefEqProofs)
  all_goals (repeat' (first | (with_reducible rfl) | split))
  all_goals (try simp_all -implicitDefEqProofs)
@[simp] theorem msgBegin_ready (s : State) (id : Nat) (c : Conn) (m : RxMsg) : (msgBegin s id c m).boot.ready = s.boot.ready := by
  unfold msgBegin
  (try dsimp only)
  repeat' (first | (with_reducible rfl) | split)
  all_goals (try simp_all -implicitDefEqProofs)
  all_goals (repeat' (first | (with_reducible rfl) | split))
  all_goals (try simp_all -implicitDefEqProofs)
@[simp] theorem msgBegin_phase (s : State) (id : Nat) (c : Conn) (m : RxMsg) : (msgBegin s id c m).cin.phase = s.cin.phase := by
  unfold msgBegin
  (try dsimp only)
  repeat' (first | (with_reducible rfl) | split)
  all_goals (try simp_all -implicitDefEqProofs)
  all_goals (repeat' (first | (with_reducible rfl) | split))
  all_goals (try simp_all -implicitDefEqProofs)
@[simp] theorem msgBegin_mem (s : State) (id : Nat) (c : Conn) (m : RxMsg) : (msgBegin s id c m).dram.mem = s.dram.mem := by
  unfold msgBegin
  (try dsimp only)
  repeat' (first | (with_reducible rfl) | split)
  all_goals (try simp_all -implicitDefEqProofs)
  all_goals (repeat' (first | (with_reducible rfl) | split))
  all_goals (try simp_all -implicitDefEqProofs)
@[simp] theorem msgBegin_banks (s : State) (id : Nat) (c : Conn) (m : RxMsg) : (msgBegin s id c m).fls.banks = s.fls.banks := by
  unfold msgBegin
  (try dsimp only)
  repeat' (first | (with_reducible rfl) | split)
  all_goals (try simp_all -implicitDefEqProofs)
  all_goals (repeat' (first | (with_reducible rfl) | split))
  all_goals (try simp_all -implicitDefEqProofs)
@[simp] theorem rxRead_pending (s : State) (id : Nat) (c : Conn) (p : RxPkt) : (rxRead s id c p).pending = s.pending := by
  unfold rxRead
  (try dsimp only)
  repeat' (first | (with_reducible rfl) | split)
  all_goals (try simp_all -implicitDefEqProofs)
  all_goals (repeat' (first | (with_reducible rfl) | split))
  all_goals (try simp_all -implicitDefEqProofs)
@[simp] theorem rxRead_lck (s : State) (id : Nat) (c : Conn) (p : RxPkt) : (rxRead s id c p).lck = s.lck := by
  unfold rxRead
  (try dsimp only)
  repeat' (first | (with_reducible rfl) | split)
  all_goals (try simp_all -implicitDefEqProofs)
  all_goals (repeat' (first | (with_reducible rfl) | split))
  all_goals (try simp_all -implicitDefEqProofs)
@[simp] theorem rxRead_ready (s : State) (id : Nat) (c : Conn) (p : RxPkt) : (rxRead s id c p).boot.ready = s.boot.ready := by
  unfold rxRead
  (try dsimp only)
  repeat' (first | (with_reducible rfl) | split)
  all_goals (try simp_all -implicitDefEqProofs)
  all_goals (repeat' (first | (with_reducible rfl) | split))
  all_goals (try simp_all -implicitDefEqProofs)
@[simp] theorem rxRead_phase (s : State) (id : Nat) (c : Conn) (p : RxPkt) : (rxRead s id c p).cin.phase = s.cin.phase := by
  unfold rxRead
  (try dsimp only)
  repeat' (first | (with_reducible rfl) | split)
  all_goals (try simp_all -implicitDefEqProofs)
  all_goals (repeat' (first | (with_reducible rfl) | split))
  all_goals (try simp_all -implicitDefEqProofs)
@[simp] theorem rxRead_mem (s : State) (id : Nat) (c : Conn) (p : RxPkt) : (rxRead s id c p).dram.mem = s.dram.mem := by
  unfold rxRead
  (try dsimp only)
  repeat' (first | (with_reducible rfl) | split)
  all_goals (try simp_all -implicitDefEqProofs)
  all_goals (repeat' (first | (with_reducible rfl) | split))
  all_goals (try simp_all -implicitDefEqProofs)
@[simp] theorem rxRead_banks (s : State) (id : Nat) (c : Conn) (p : RxPkt) : (rxRead s id c p).fls.banks = s.fls.banks := by
  unfold rxRead
  (try dsimp only)
  repeat' (first | (with_reducible rfl) | split)
  all_goals (try simp_all -implicitDefEqProofs)
  all_goals (repeat' (first | (with_reducible rfl) | split))
  all_goals (try simp_all -implicitDefEqProofs)
@[simp] theorem rxDuplicate_pending (s : State) (id : Nat) (c : Conn) (p : RxPkt) : (rxDuplicate s id c p).pending = s.pending := by
  unfold rxDuplicate
  (try dsimp only)
  repeat' (first | (with_reducible rfl) | split)
  all_goals (try simp_all -implicitDefEqProofs)
  all_goals (repeat' (first | (with_reducible rfl) | split))
  all_goals (try simp_all -implicitDefEqProofs)
@[simp] theorem rxDuplicate_lck (s : State) (id : Nat) (c : Conn) (p : RxPkt) : (rxDuplicate s id c p).lck = s.lck := by
  unfold rxDuplicate
  (try dsimp only)
  repeat' (first | (with_reducible rfl) | split)
  all_goals (try simp_all -implicitDefEqProofs)
  all_goals (repeat' (first | (with_reducible rfl) | split))
  all_goals (try simp_all -implicitDefEqProofs)
@[simp] theorem rxDuplicate_ready (s : State) (id : Nat) (c : Conn) (p : RxPkt) : (rxDuplicate s id c p).boot.ready = s.boot.ready := by
  unfold rxDuplicate
  (try dsimp only)
  repeat' (first | (with_reducible rfl) | split)
  all_goals (try simp_all -implicitDefEqProofs)
  all_goals (repeat' (first | (with_reducible rfl) | split))
  all_goals (try simp_all -implicitDefEqProofs)
@[simp] theorem rxDuplicate_phase (s : State) (id : Nat) (c : Conn) (p : RxPkt) : (rxDuplicate s id c p).cin.phase = s.cin.phase := by
  unfold rxDuplicate
  (try dsimp only)
  repeat' (first | (with_reducible rfl) | split)
  all_goals (try simp_all -implicitDefEqProofs)
  all_goals (repeat' (first | (with_reducible rfl) | split))
  all_goals (try simp_all -implicitDefEqProofs)
@[simp] theorem rxDuplicate_mem (s : State) (id : Nat) (c : Conn) (p : RxPkt) : (rxDuplicate s id c p).dram.mem = s.dram.mem := by
  unfold rxDuplicate
  (try dsimp only)
  repeat' (first | (with_reducible rfl) | split)
  all_goals (try simp_all -implicitDefEqProofs)
  all_goals (repeat' (first | (with_reducible rfl) | split))
  all_goals (try simp_all -implicitDefEqProofs)
@[simp] theorem rxDuplicate_banks (s : State) (id : Nat) (c : Conn) (p : RxPkt) : (rxDuplicate s id c p).fls.banks = s.fls.banks := by
  unfold rxDuplicate
  (try dsimp only)
  repeat' (first | (with_reducible rfl) | split)
  all_goals (try simp_all -implicitDefEqProofs)
  all_goals (repeat' (first | (with_reducible rfl) | split))
  all_goals (try simp_all -implicitDefEqProofs)
@[simp] theorem rxGrant_pending (s : State) (id : Nat) (c : Conn) (p : RxPkt) : (rxGrant s id c p).pending = s.pending := by
  unfold rxGrant
  (try dsimp only)
  repeat' (first | (with_reducible rfl) | split)
  all_goals (try simp_all -implicitDefEqProofs)
  all_goals (repeat' (first | (with_reducible rfl) | split))
  all_goals (try simp_all -implicitDefEqProofs)
@[simp] theorem rxGrant_lck (s : State) (id : Nat) (c : Conn) (p : RxPkt) : (rxGrant s id c p).lck = s.lck := by
  unfold rxGrant
  (try dsimp only)
  repeat' (first | (with_reducible rfl) | split)
  all_goals (try simp_all -implicitDefEqProofs)
  all_goals (repeat' (first | (with_reducible rfl) | split))
  all_goals (try simp_all -implicitDefEqProofs)
@[simp] theorem rxGrant_ready (s : State) (id : Nat) (c : Conn) (p : RxPkt) : (rxGrant s id c p).boot.ready = s.boot.ready := by
  unfold rxGrant
  (try dsimp only)
  repeat' (first | (with_reducible rfl) | split)
  all_goals (try simp_all -implicitDefEqProofs)
  all_goals (repeat' (first | (with_reducible rfl) | split))
  all_goals (try simp_all -implicitDefEqProofs)
@[simp] theorem rxGrant_phase (s : State) (id : Nat) (c : Conn) (p : RxPkt) : (rxGrant s id c p).cin.phase = s.cin.phase := by
  unfold rxGrant
  (try dsimp only)
  repeat' (first | (with_reducible rfl) | split)
  all_goals (try simp_all -implicitDefEqProofs)
  all_goals (repeat' (first | (with_reducible rfl) | split))
  all_goals (try simp_all -implicitDefEqProofs)
@[simp] theorem rxGrant_mem (s : State) (id : Nat) (c : Conn) (p : RxPkt) : (rxGrant s id c p).dram.mem = s.dram.mem := by
  unfold rxGrant
  (try dsimp only)
  repeat' (first | (with_reducible rfl) | split)
  all_goals (try simp_all -implicitDefEqProofs)
  all_goals (repeat' (first | (with_reducible rfl) | split))
  all_goals (try simp_all -implicitDefEqProofs)
@[simp] theorem rxGrant_banks (s : State) (id : Nat) (c : Conn) (p : RxPkt) : (rxGrant s id c p).fls.banks = s.fls.banks := by
  unfold rxGrant
  (try dsimp only)
  repeat' (first | (with_reducible rfl) | split)
  all_goals (try simp_all -implicitDefEqProofs)
  all_goals (repeat' (first | (with_reducible rfl) | split))
  all_goals (try simp_all -implicitDefEqProofs)
@[simp] theorem rxMark_pending (s : State) (id : Nat) (c : Conn) (p : RxPkt) : (rxMark s id c p).pending = s.pending := by
  unfold rxMark
  (try dsimp only)
  repeat' (first | (with_reducible rfl) | split)
  all_goals (try simp_all -implicitDefEqProofs)
  all_goals (repeat' (first | (with_reducible rfl) | split))
  all_goals (try simp_all -implicitDefEqProofs)
@[simp] theorem rxMark_lck (s : State) (id : Nat) (c : Conn) (p : RxPkt) : (rxMark s id c p).lck = s.lck := by
  unfold rxMark
  (try dsimp only)
  repeat' (first | (with_reducible rfl) | split)
  all_goals (try simp_all -implicitDefEqProofs)
  all_goals (repeat' (first | (with_reducible rfl) | split))
  all_goals (try simp_all -implicitDefEqProofs)
@[simp] theorem rxMark_ready (s : State) (id : Nat) (c : Conn) (p : RxPkt) : (rxMark s id c p).boot.ready = s.boot.ready := by
  unfold rxMark
  (try dsimp only)
  repeat' (first | (with_reducible rfl) | split)
  all_goals (try simp_all -implicitDefEqProofs)
  all_goals (repeat' (first | (with_reducible rfl) | split))
  all_goals (try simp_all -implicitDefEqProofs)
@[simp] theorem rxMark_phase (s : State) (id : Nat) (c : Conn) (p : RxPkt) : (rxMark s id c p).cin.phase = s.cin.phase := by
  unfold rxMark
  (try dsimp only)
  repeat' (first | (with_reducible rfl) | split)
  all_goals (try simp_all -implicitDefEqProofs)
  all_goals (repeat' (first | (with_reducible rfl) | split))
  all_goals (try simp_all -implicitDefEqProofs)
@[simp] theorem rxMark_mem (s : State) (id : Nat) (c : Conn) (p : RxPkt) : (rxMark s id c p).dram.mem = s.dram.mem := by
  unfold rxMark
  (try dsimp only)
  repeat' (first | (with_reducible rfl) | split)
  all_goals (try simp_all -implicitDefEqProofs)
  all_goals (repeat' (first | (with_reducible rfl) | split))
  all_goals (try simp_all -implicitDefEqProofs)
@[simp] theorem rxMark_banks (s : State) (id : Nat) (c : Conn) (p : RxPkt) : (rxMark s id c p).fls.banks = s.fls.banks := by
  unfold rxMark
  (try dsimp only)
  repeat' (first | (with_reducible rfl) | split)
  all_goals (try simp_all -implicitDefEqProofs)
  all_goals (repeat' (first | (with_reducible rfl) | split))
  all_goals (try simp_all -implicitDefEqProofs)
@[simp] theorem rxPark_pending (s : State) (id : Nat) (c : Conn) (p : RxPkt) : (rxPark s id c p).pending = s.pending := by
  unfold rxPark
  (try dsimp only)
  repeat' (first | (with_reducible rfl) | split)
  all_goals (try simp_all -implicitDefEqProofs)
  all_goals (repeat' (first | (with_reducible rfl) | split))
  all_goals (try simp_all -implicitDefEqProofs)
@[simp] theorem rxPark_mem (s : State) (id : Nat) (c : Conn) (p : RxPkt) : (rxPark s id c p).dram.mem = s.dram.mem := by
  unfold rxPark
  (try dsimp only)
  repeat' (first | (with_reducible rfl) | split)
  all_goals (try simp_all -implicitDefEqProofs)
  all_goals (repeat' (first | (with_reducible rfl) | split))
  all_goals (try simp_all -implicitDefEqProofs)

end Sys2Proof.Laws
end

