-- ==== Sys2Proof/Laws/KeepCipher.lean ====
section
/-!
SUPPORT. What the operations of Cipher leave alone: one lemma for each operation and each part of the state that it never changes.
-/
namespace Sys2Proof.Laws
open Sys2Proof.Machine
set_option linter.unusedTactic false
set_option linter.unreachableTactic false
set_option linter.unusedVariables false
set_option linter.unusedSimpArgs false

@[simp] theorem keyResult_pending (s : State) (slot tag k : Nat) (st : Status) (check : Bytes) : (keyResult s slot tag k st check).pending = s.pending := by
  unfold keyResult
  (try dsimp only)
  repeat' (first | (with_reducible rfl) | split)
  all_goals (try simp_all -implicitDefEqProofs)
  all_goals (repeat' (first | (with_reducible rfl) | split))
  all_goals (try simp_all -implicitDefEqProofs)
@[simp] theorem keyResult_lck (s : State) (slot tag k : Nat) (st : Status) (check : Bytes) : (keyResult s slot tag k st check).lck = s.lck := by
  unfold keyResult
  (try dsimp only)
  repeat' (first | (with_reducible rfl) | split)
  all_goals (try simp_all -implicitDefEqProofs)
  all_goals (repeat' (first | (with_reducible rfl) | split))
  all_goals (try simp_all -implicitDefEqProofs)
@[simp] theorem keyResult_ready (s : State) (slot tag k : Nat) (st : Status) (check : Bytes) : (keyResult s slot tag k st check).boot.ready = s.boot.ready := by
  unfold keyResult
  (try dsimp only)
  repeat' (first | (with_reducible rfl) | split)
  all_goals (try simp_all -implicitDefEqProofs)
  all_goals (repeat' (first | (with_reducible rfl) | split))
  all_goals (try simp_all -implicitDefEqProofs)
@[simp] theorem keyResult_phase (s : State) (slot tag k : Nat) (st : Status) (check : Bytes) : (keyResult s slot tag k st check).cin.phase = s.cin.phase := by
  unfold keyResult
  (try dsimp only)
  repeat' (first | (with_reducible rfl) | split)
  all_goals (try simp_all -implicitDefEqProofs)
  all_goals (repeat' (first | (with_reducible rfl) | split))
  all_goals (try simp_all -implicitDefEqProofs)
@[simp] theorem keyResult_mem (s : State) (slot tag k : Nat) (st : Status) (check : Bytes) : (keyResult s slot tag k st check).dram.mem = s.dram.mem := by
  unfold keyResult
  (try dsimp only)
  repeat' (first | (with_reducible rfl) | split)
  all_goals (try simp_all -implicitDefEqProofs)
  all_goals (repeat' (first | (with_reducible rfl) | split))
  all_goals (try simp_all -implicitDefEqProofs)
@[simp] theorem keyResult_banks (s : State) (slot tag k : Nat) (st : Status) (check : Bytes) : (keyResult s slot tag k st check).fls.banks = s.fls.banks := by
  unfold keyResult
  (try dsimp only)
  repeat' (first | (with_reducible rfl) | split)
  all_goals (try simp_all -implicitDefEqProofs)
  all_goals (repeat' (first | (with_reducible rfl) | split))
  all_goals (try simp_all -implicitDefEqProofs)

end Sys2Proof.Laws
end

