-- ==== Sys2Proof/Laws/KeepPersistence.lean ====
section
/-!
SUPPORT. What the operations of Persistence leave alone: one lemma for each operation and each part of the state that it never changes.
-/
namespace Sys2Proof.Laws
open Sys2Proof.Machine
set_option linter.unusedTactic false
set_option linter.unreachableTactic false
set_option linter.unusedVariables false
set_option linter.unusedSimpArgs false

@[simp] theorem gpf_pending (phase port level : Nat) (s : State) : (gpf phase port level s).pending = s.pending := by
  unfold gpf
  (try dsimp only)
  repeat' (first | (with_reducible rfl) | split)
  all_goals (try simp_all -implicitDefEqProofs)
  all_goals (repeat' (first | (with_reducible rfl) | split))
  all_goals (try simp_all -implicitDefEqProofs)
@[simp] theorem gpf_ready (phase port level : Nat) (s : State) : (gpf phase port level s).boot.ready = s.boot.ready := by
  unfold gpf
  (try dsimp only)
  repeat' (first | (with_reducible rfl) | split)
  all_goals (try simp_all -implicitDefEqProofs)
  all_goals (repeat' (first | (with_reducible rfl) | split))
  all_goals (try simp_all -implicitDefEqProofs)
@[simp] theorem gpf_phase (phase port level : Nat) (s : State) : (gpf phase port level s).cin.phase = s.cin.phase := by
  unfold gpf
  (try dsimp only)
  repeat' (first | (with_reducible rfl) | split)
  all_goals (try simp_all -implicitDefEqProofs)
  all_goals (repeat' (first | (with_reducible rfl) | split))
  all_goals (try simp_all -implicitDefEqProofs)
@[simp] theorem gpf_mem (phase port level : Nat) (s : State) : (gpf phase port level s).dram.mem = s.dram.mem := by
  unfold gpf
  (try dsimp only)
  repeat' (first | (with_reducible rfl) | split)
  all_goals (try simp_all -implicitDefEqProofs)
  all_goals (repeat' (first | (with_reducible rfl) | split))
  all_goals (try simp_all -implicitDefEqProofs)
@[simp] theorem gpf_banks (phase port level : Nat) (s : State) : (gpf phase port level s).fls.banks = s.fls.banks := by
  unfold gpf
  (try dsimp only)
  repeat' (first | (with_reducible rfl) | split)
  all_goals (try simp_all -implicitDefEqProofs)
  all_goals (repeat' (first | (with_reducible rfl) | split))
  all_goals (try simp_all -implicitDefEqProofs)

end Sys2Proof.Laws
end

