-- ==== Sys2Proof/Laws/KeepCompat.lean ====
section
/-!
SUPPORT. What the operations of Compat leave alone: one lemma for each operation and each part of the state that it never changes.
-/
namespace Sys2Proof.Laws
open Sys2Proof.Machine
set_option linter.unusedTactic false
set_option linter.unreachableTactic false
set_option linter.unusedVariables false
set_option linter.unusedSimpArgs false

@[simp] theorem lxRingErr_pending (s : State) (e : Nat) : (lxRingErr s e).pending = s.pending := by
  unfold lxRingErr
  (try dsimp only)
  repeat' (first | (with_reducible rfl) | split)
  all_goals (try simp_all -implicitDefEqProofs)
  all_goals (repeat' (first | (with_reducible rfl) | split))
  all_goals (try simp_all -implicitDefEqProofs)
@[simp] theorem lxRingErr_lck (s : State) (e : Nat) : (lxRingErr s e).lck = s.lck := by
  unfold lxRingErr
  (try dsimp only)
  repeat' (first | (with_reducible rfl) | split)
  all_goals (try simp_all -implicitDefEqProofs)
  all_goals (repeat' (first | (with_reducible rfl) | split))
  all_goals (try simp_all -implicitDefEqProofs)
@[simp] theorem lxRingErr_ready (s : State) (e : Nat) : (lxRingErr s e).boot.ready = s.boot.ready := by
  unfold lxRingErr
  (try dsimp only)
  repeat' (first | (with_reducible rfl) | split)
  all_goals (try simp_all -implicitDefEqProofs)
  all_goals (repeat' (first | (with_reducible rfl) | split))
  all_goals (try simp_all -implicitDefEqProofs)
@[simp] theorem lxRingErr_phase (s : State) (e : Nat) : (lxRingErr s e).cin.phase = s.cin.phase := by
  unfold lxRingErr
  (try dsimp only)
  repeat' (first | (with_reducible rfl) | split)
  all_goals (try simp_all -implicitDefEqProofs)
  all_goals (repeat' (first | (with_reducible rfl) | split))
  all_goals (try simp_all -implicitDefEqProofs)
@[simp] theorem lxRingErr_mem (s : State) (e : Nat) : (lxRingErr s e).dram.mem = s.dram.mem := by
  unfold lxRingErr
  (try dsimp only)
  repeat' (first | (with_reducible rfl) | split)
  all_goals (try simp_all -implicitDefEqProofs)
  all_goals (repeat' (first | (with_reducible rfl) | split))
  all_goals (try simp_all -implicitDefEqProofs)
@[simp] theorem lxRingErr_banks (s : State) (e : Nat) : (lxRingErr s e).fls.banks = s.fls.banks := by
  unfold lxRingErr
  (try dsimp only)
  repeat' (first | (with_reducible rfl) | split)
  all_goals (try simp_all -implicitDefEqProofs)
  all_goals (repeat' (first | (with_reducible rfl) | split))
  all_goals (try simp_all -implicitDefEqProofs)
@[simp] theorem lxStage_pending (e : Nat) (s : State) (f : Fld) (v : Nat) : (lxStage e s f v).pending = s.pending := by
  unfold lxStage
  (try dsimp only)
  repeat' (first | (with_reducible rfl) | split)
  all_goals (try simp_all -implicitDefEqProofs)
  all_goals (repeat' (first | (with_reducible rfl) | split))
  all_goals (try simp_all -implicitDefEqProofs)
@[simp] theorem lxStage_lck (e : Nat) (s : State) (f : Fld) (v : Nat) : (lxStage e s f v).lck = s.lck := by
  unfold lxStage
  (try dsimp only)
  repeat' (first | (with_reducible rfl) | split)
  all_goals (try simp_all -implicitDefEqProofs)
  all_goals (repeat' (first | (with_reducible rfl) | split))
  all_goals (try simp_all -implicitDefEqProofs)
@[simp] theorem lxStage_ready (e : Nat) (s : State) (f : Fld) (v : Nat) : (lxStage e s f v).boot.ready = s.boot.ready := by
  unfold lxStage
  (try dsimp only)
  repeat' (first | (with_reducible rfl) | split)
  all_goals (try simp_all -implicitDefEqProofs)
  all_goals (repeat' (first | (with_reducible rfl) | split))
  all_goals (try simp_all -implicitDefEqProofs)
@[simp] theorem lxStage_phase (e : Nat) (s : State) (f : Fld) (v : Nat) : (lxStage e s f v).cin.phase = s.cin.phase := by
  unfold lxStage
  (try dsimp only)
  repeat' (first | (with_reducible rfl) | split)
  all_goals (try simp_all -implicitDefEqProofs)
  all_goals (repeat' (first | (with_reducible rfl) | split))
  all_goals (try simp_all -implicitDefEqProofs)
@[simp] theorem lxStage_mem (e : Nat) (s : State) (f : Fld) (v : Nat) : (lxStage e s f v).dram.mem = s.dram.mem := by
  unfold lxStage
  (try dsimp only)
  repeat' (first | (with_reducible rfl) | split)
  all_goals (try simp_all -implicitDefEqProofs)
  all_goals (repeat' (first | (with_reducible rfl) | split))
  all_goals (try simp_all -implicitDefEqProofs)
@[simp] theorem lxStage_banks (e : Nat) (s : State) (f : Fld) (v : Nat) : (lxStage e s f v).fls.banks = s.fls.banks := by
  unfold lxStage
  (try dsimp only)
  repeat' (first | (with_reducible rfl) | split)
  all_goals (try simp_all -implicitDefEqProofs)
  all_goals (repeat' (first | (with_reducible rfl) | split))
  all_goals (try simp_all -implicitDefEqProofs)
@[simp] theorem lxRingReset_pending (s : State) (e : Nat) : (lxRingReset s e).pending = s.pending := by
  unfold lxRingReset
  (try dsimp only)
  repeat' (first | (with_reducible rfl) | split)
  all_goals (try simp_all -implicitDefEqProofs)
  all_goals (repeat' (first | (with_reducible rfl) | split))
  all_goals (try simp_all -implicitDefEqProofs)
@[simp] theorem lxRingReset_lck (s : State) (e : Nat) : (lxRingReset s e).lck = s.lck := by
  unfold lxRingReset
  (try dsimp only)
  repeat' (first | (with_reducible rfl) | split)
  all_goals (try simp_all -implicitDefEqProofs)
  all_goals (repeat' (first | (with_reducible rfl) | split))
  all_goals (try simp_all -implicitDefEqProofs)
@[simp] theorem lxRingReset_ready (s : State) (e : Nat) : (lxRingReset s e).boot.ready = s.boot.ready := by
  unfold lxRingReset
  (try dsimp only)
  repeat' (first | (with_reducible rfl) | split)
  all_goals (try simp_all -implicitDefEqProofs)
  all_goals (repeat' (first | (with_reducible rfl) | split))
  all_goals (try simp_all -implicitDefEqProofs)
@[simp] theorem lxRingReset_phase (s : State) (e : Nat) : (lxRingReset s e).cin.phase = s.cin.phase := by
  unfold lxRingReset
  (try dsimp only)
  repeat' (first | (with_reducible rfl) | split)
  all_goals (try simp_all -implicitDefEqProofs)
  all_goals (repeat' (first | (with_reducible rfl) | split))
  all_goals (try simp_all -implicitDefEqProofs)
@[simp] theorem lxRingReset_mem (s : State) (e : Nat) : (lxRingReset s e).dram.mem = s.dram.mem := by
  unfold lxRingReset
  (try dsimp only)
  repeat' (first | (with_reducible rfl) | split)
  all_goals (try simp_all -implicitDefEqProofs)
  all_goals (repeat' (first | (with_reducible rfl) | split))
  all_goals (try simp_all -implicitDefEqProofs)
@[simp] theorem lxRingReset_banks (s : State) (e : Nat) : (lxRingReset s e).fls.banks = s.fls.banks := by
  unfold lxRingReset
  (try dsimp only)
  repeat' (first | (with_reducible rfl) | split)
  all_goals (try simp_all -implicitDefEqProofs)
  all_goals (repeat' (first | (with_reducible rfl) | split))
  all_goals (try simp_all -implicitDefEqProofs)
@[simp] theorem lxTailWrite_pending (s : State) (e r v : Nat) : (lxTailWrite s e r v).pending = s.pending := by
  unfold lxTailWrite
  (try dsimp only)
  repeat' (first | (with_reducible rfl) | split)
  all_goals (try simp_all -implicitDefEqProofs)
  all_goals (repeat' (first | (with_reducible rfl) | split))
  all_goals (try simp_all -implicitDefEqProofs)
@[simp] theorem lxTailWrite_lck (s : State) (e r v : Nat) : (lxTailWrite s e r v).lck = s.lck := by
  unfold lxTailWrite
  (try dsimp only)
  repeat' (first | (with_reducible rfl) | split)
  all_goals (try simp_all -implicitDefEqProofs)
  all_goals (repeat' (first | (with_reducible rfl) | split))
  all_goals (try simp_all -implicitDefEqProofs)
@[simp] theorem lxTailWrite_ready (s : State) (e r v : Nat) : (lxTailWrite s e r v).boot.ready = s.boot.ready := by
  unfold lxTailWrite
  (try dsimp only)
  repeat' (first | (with_reducible rfl) | split)
  all_goals (try simp_all -implicitDefEqProofs)
  all_goals (repeat' (first | (with_reducible rfl) | split))
  all_goals (try simp_all -implicitDefEqProofs)
@[simp] theorem lxTailWrite_phase (s : State) (e r v : Nat) : (lxTailWrite s e r v).cin.phase = s.cin.phase := by
  unfold lxTailWrite
  (try dsimp only)
  repeat' (first | (with_reducible rfl) | split)
  all_goals (try simp_all -implicitDefEqProofs)
  all_goals (repeat' (first | (with_reducible rfl) | split))
  all_goals (try simp_all -implicitDefEqProofs)
@[simp] theorem lxTailWrite_mem (s : State) (e r v : Nat) : (lxTailWrite s e r v).dram.mem = s.dram.mem := by
  unfold lxTailWrite
  (try dsimp only)
  repeat' (first | (with_reducible rfl) | split)
  all_goals (try simp_all -implicitDefEqProofs)
  all_goals (repeat' (first | (with_reducible rfl) | split))
  all_goals (try simp_all -implicitDefEqProofs)
@[simp] theorem lxTailWrite_banks (s : State) (e r v : Nat) : (lxTailWrite s e r v).fls.banks = s.fls.banks := by
  unfold lxTailWrite
  (try dsimp only)
  repeat' (first | (with_reducible rfl) | split)
  all_goals (try simp_all -implicitDefEqProofs)
  all_goals (repeat' (first | (with_reducible rfl) | split))
  all_goals (try simp_all -implicitDefEqProofs)
@[simp] theorem lxRingWrite_pending (s : State) (e r off v : Nat) : (lxRingWrite s e r off v).pending = s.pending := by
  unfold lxRingWrite
  (try dsimp only)
  repeat' (first | (with_reducible rfl) | split)
  all_goals (try simp_all -implicitDefEqProofs)
  all_goals (repeat' (first | (with_reducible rfl) | split))
  all_goals (try simp_all -implicitDefEqProofs)
@[simp] theorem lxRingWrite_lck (s : State) (e r off v : Nat) : (lxRingWrite s e r off v).lck = s.lck := by
  unfold lxRingWrite
  (try dsimp only)
  repeat' (first | (with_reducible rfl) | split)
  all_goals (try simp_all -implicitDefEqProofs)
  all_goals (repeat' (first | (with_reducible rfl) | split))
  all_goals (try simp_all -implicitDefEqProofs)
@[simp] theorem lxRingWrite_ready (s : State) (e r off v : Nat) : (lxRingWrite s e r off v).boot.ready = s.boot.ready := by
  unfold lxRingWrite
  (try dsimp only)
  repeat' (first | (with_reducible rfl) | split)
  all_goals (try simp_all -implicitDefEqProofs)
  all_goals (repeat' (first | (with_reducible rfl) | split))
  all_goals (try simp_all -implicitDefEqProofs)
@[simp] theorem lxRingWrite_phase (s : State) (e r off v : Nat) : (lxRingWrite s e r off v).cin.phase = s.cin.phase := by
  unfold lxRingWrite
  (try dsimp only)
  repeat' (first | (with_reducible rfl) | split)
  all_goals (try simp_all -implicitDefEqProofs)
  all_goals (repeat' (first | (with_reducible rfl) | split))
  all_goals (try simp_all -implicitDefEqProofs)
@[simp] theorem lxRingWrite_mem (s : State) (e r off v : Nat) : (lxRingWrite s e r off v).dram.mem = s.dram.mem := by
  unfold lxRingWrite
  (try dsimp only)
  repeat' (first | (with_reducible rfl) | split)
  all_goals (try simp_all -implicitDefEqProofs)
  all_goals (repeat' (first | (with_reducible rfl) | split))
  all_goals (try simp_all -implicitDefEqProofs)
@[simp] theorem lxRingWrite_banks (s : State) (e r off v : Nat) : (lxRingWrite s e r off v).fls.banks = s.fls.banks := by
  unfold lxRingWrite
  (try dsimp only)
  repeat' (first | (with_reducible rfl) | split)
  all_goals (try simp_all -implicitDefEqProofs)
  all_goals (repeat' (first | (with_reducible rfl) | split))
  all_goals (try simp_all -implicitDefEqProofs)
@[simp] theorem lxWrite_pending (s : State) (e off value : Nat) : (lxWrite s e off value).pending = s.pending := by
  unfold lxWrite
  (try dsimp only)
  repeat' (first | (with_reducible rfl) | split)
  all_goals (try simp_all -implicitDefEqProofs)
  all_goals (repeat' (first | (with_reducible rfl) | split))
  all_goals (try simp_all -implicitDefEqProofs)
@[simp] theorem lxWrite_lck (s : State) (e off value : Nat) : (lxWrite s e off value).lck = s.lck := by
  unfold lxWrite
  (try dsimp only)
  repeat' (first | (with_reducible rfl) | split)
  all_goals (try simp_all -implicitDefEqProofs)
  all_goals (repeat' (first | (with_reducible rfl) | split))
  all_goals (try simp_all -implicitDefEqProofs)
@[simp] theorem lxWrite_ready (s : State) (e off value : Nat) : (lxWrite s e off value).boot.ready = s.boot.ready := by
  unfold lxWrite
  (try dsimp only)
  repeat' (first | (with_reducible rfl) | split)
  all_goals (try simp_all -implicitDefEqProofs)
  all_goals (repeat' (first | (with_reducible rfl) | split))
  all_goals (try simp_all -implicitDefEqProofs)
@[simp] theorem lxWrite_phase (s : State) (e off value : Nat) : (lxWrite s e off value).cin.phase = s.cin.phase := by
  unfold lxWrite
  (try dsimp only)
  repeat' (first | (with_reducible rfl) | split)
  all_goals (try simp_all -implicitDefEqProofs)
  all_goals (repeat' (first | (with_reducible rfl) | split))
  all_goals (try simp_all -implicitDefEqProofs)
@[simp] theorem lxWrite_mem (s : State) (e off value : Nat) : (lxWrite s e off value).dram.mem = s.dram.mem := by
  unfold lxWrite
  (try dsimp only)
  repeat' (first | (with_reducible rfl) | split)
  all_goals (try simp_all -implicitDefEqProofs)
  all_goals (repeat' (first | (with_reducible rfl) | split))
  all_goals (try simp_all -implicitDefEqProofs)
@[simp] theorem lxWrite_banks (s : State) (e off value : Nat) : (lxWrite s e off value).fls.banks = s.fls.banks := by
  unfold lxWrite
  (try dsimp only)
  repeat' (first | (with_reducible rfl) | split)
  all_goals (try simp_all -implicitDefEqProofs)
  all_goals (repeat' (first | (with_reducible rfl) | split))
  all_goals (try simp_all -implicitDefEqProofs)
@[simp] theorem flushGo_pending (s : State) (e r : Nat) (c : LxCmd) : (flushGo s e r c).pending = s.pending := by
  unfold flushGo
  (try dsimp only)
  repeat' (first | (with_reducible rfl) | split)
  all_goals (try simp_all -implicitDefEqProofs)
  all_goals (repeat' (first | (with_reducible rfl) | split))
  all_goals (try simp_all -implicitDefEqProofs)
@[simp] theorem flushGo_ready (s : State) (e r : Nat) (c : LxCmd) : (flushGo s e r c).boot.ready = s.boot.ready := by
  unfold flushGo
  (try dsimp only)
  repeat' (first | (with_reducible rfl) | split)
  all_goals (try simp_all -implicitDefEqProofs)
  all_goals (repeat' (first | (with_reducible rfl) | split))
  all_goals (try simp_all -implicitDefEqProofs)
@[simp] theorem flushGo_phase (s : State) (e r : Nat) (c : LxCmd) : (flushGo s e r c).cin.phase = s.cin.phase := by
  unfold flushGo
  (try dsimp only)
  repeat' (first | (with_reducible rfl) | split)
  all_goals (try simp_all -implicitDefEqProofs)
  all_goals (repeat' (first | (with_reducible rfl) | split))
  all_goals (try simp_all -implicitDefEqProofs)
@[simp] theorem flushGo_mem (s : State) (e r : Nat) (c : LxCmd) : (flushGo s e r c).dram.mem = s.dram.mem := by
  unfold flushGo
  (try dsimp only)
  repeat' (first | (with_reducible rfl) | split)
  all_goals (try simp_all -implicitDefEqProofs)
  all_goals (repeat' (first | (with_reducible rfl) | split))
  all_goals (try simp_all -implicitDefEqProofs)
@[simp] theorem flushGo_banks (s : State) (e r : Nat) (c : LxCmd) : (flushGo s e r c).fls.banks = s.fls.banks := by
  unfold flushGo
  (try dsimp only)
  repeat' (first | (with_reducible rfl) | split)
  all_goals (try simp_all -implicitDefEqProofs)
  all_goals (repeat' (first | (with_reducible rfl) | split))
  all_goals (try simp_all -implicitDefEqProofs)
@[simp] theorem lxEnd_pending (s : State) (e r : Nat) (c : LxCmd) (st : Status) : (lxEnd s e r c st).pending = s.pending := by
  unfold lxEnd
  (try dsimp only)
  repeat' (first | (with_reducible rfl) | split)
  all_goals (try simp_all -implicitDefEqProofs)
  all_goals (repeat' (first | (with_reducible rfl) | split))
  all_goals (try simp_all -implicitDefEqProofs)
@[simp] theorem lxEnd_lck (s : State) (e r : Nat) (c : LxCmd) (st : Status) : (lxEnd s e r c st).lck = s.lck := by
  unfold lxEnd
  (try dsimp only)
  repeat' (first | (with_reducible rfl) | split)
  all_goals (try simp_all -implicitDefEqProofs)
  all_goals (repeat' (first | (with_reducible rfl) | split))
  all_goals (try simp_all -implicitDefEqProofs)
@[simp] theorem lxEnd_ready (s : State) (e r : Nat) (c : LxCmd) (st : Status) : (lxEnd s e r c st).boot.ready = s.boot.ready := by
  unfold lxEnd
  (try dsimp only)
  repeat' (first | (with_reducible rfl) | split)
  all_goals (try simp_all -implicitDefEqProofs)
  all_goals (repeat' (first | (with_reducible rfl) | split))
  all_goals (try simp_all -implicitDefEqProofs)
@[simp] theorem lxEnd_phase (s : State) (e r : Nat) (c : LxCmd) (st : Status) : (lxEnd s e r c st).cin.phase = s.cin.phase := by
  unfold lxEnd
  (try dsimp only)
  repeat' (first | (with_reducible rfl) | split)
  all_goals (try simp_all -implicitDefEqProofs)
  all_goals (repeat' (first | (with_reducible rfl) | split))
  all_goals (try simp_all -implicitDefEqProofs)
@[simp] theorem lxEnd_mem (s : State) (e r : Nat) (c : LxCmd) (st : Status) : (lxEnd s e r c st).dram.mem = s.dram.mem := by
  unfold lxEnd
  (try dsimp only)
  repeat' (first | (with_reducible rfl) | split)
  all_goals (try simp_all -implicitDefEqProofs)
  all_goals (repeat' (first | (with_reducible rfl) | split))
  all_goals (try simp_all -implicitDefEqProofs)
@[simp] theorem lxEnd_banks (s : State) (e r : Nat) (c : LxCmd) (st : Status) : (lxEnd s e r c st).fls.banks = s.fls.banks := by
  unfold lxEnd
  (try dsimp only)
  repeat' (first | (with_reducible rfl) | split)
  all_goals (try simp_all -implicitDefEqProofs)
  all_goals (repeat' (first | (with_reducible rfl) | split))
  all_goals (try simp_all -implicitDefEqProofs)
@[simp] theorem lxApply_pending (e : Nat) (s : State) (x : Nat × Nat) : (lxApply e s x).pending = s.pending := by
  unfold lxApply
  (try dsimp only)
  repeat' (first | (with_reducible rfl) | split)
  all_goals (try simp_all -implicitDefEqProofs)
  all_goals (repeat' (first | (with_reducible rfl) | split))
  all_goals (try simp_all -implicitDefEqProofs)
@[simp] theorem lxApply_lck (e : Nat) (s : State) (x : Nat × Nat) : (lxApply e s x).lck = s.lck := by
  unfold lxApply
  (try dsimp only)
  repeat' (first | (with_reducible rfl) | split)
  all_goals (try simp_all -implicitDefEqProofs)
  all_goals (repeat' (first | (with_reducible rfl) | split))
  all_goals (try simp_all -implicitDefEqProofs)
@[simp] theorem lxApply_ready (e : Nat) (s : State) (x : Nat × Nat) : (lxApply e s x).boot.ready = s.boot.ready := by
  unfold lxApply
  (try dsimp only)
  repeat' (first | (with_reducible rfl) | split)
  all_goals (try simp_all -implicitDefEqProofs)
  all_goals (repeat' (first | (with_reducible rfl) | split))
  all_goals (try simp_all -implicitDefEqProofs)
@[simp] theorem lxApply_phase (e : Nat) (s : State) (x : Nat × Nat) : (lxApply e s x).cin.phase = s.cin.phase := by
  unfold lxApply
  (try dsimp only)
  repeat' (first | (with_reducible rfl) | split)
  all_goals (try simp_all -implicitDefEqProofs)
  all_goals (repeat' (first | (with_reducible rfl) | split))
  all_goals (try simp_all -implicitDefEqProofs)
@[simp] theorem lxApply_mem (e : Nat) (s : State) (x : Nat × Nat) : (lxApply e s x).dram.mem = s.dram.mem := by
  unfold lxApply
  (try dsimp only)
  repeat' (first | (with_reducible rfl) | split)
  all_goals (try simp_all -implicitDefEqProofs)
  all_goals (repeat' (first | (with_reducible rfl) | split))
  all_goals (try simp_all -implicitDefEqProofs)
@[simp] theorem lxApply_banks (e : Nat) (s : State) (x : Nat × Nat) : (lxApply e s x).fls.banks = s.fls.banks := by
  unfold lxApply
  (try dsimp only)
  repeat' (first | (with_reducible rfl) | split)
  all_goals (try simp_all -implicitDefEqProofs)
  all_goals (repeat' (first | (with_reducible rfl) | split))
  all_goals (try simp_all -implicitDefEqProofs)
@[simp] theorem lxCheckRing_pending (e : Nat) (s : State) (r : Nat) : (lxCheckRing e s r).pending = s.pending := by
  unfold lxCheckRing
  (try dsimp only)
  repeat' (first | (with_reducible rfl) | split)
  all_goals (try simp_all -implicitDefEqProofs)
  all_goals (repeat' (first | (with_reducible rfl) | split))
  all_goals (try simp_all -implicitDefEqProofs)
@[simp] theorem lxCheckRing_lck (e : Nat) (s : State) (r : Nat) : (lxCheckRing e s r).lck = s.lck := by
  unfold lxCheckRing
  (try dsimp only)
  repeat' (first | (with_reducible rfl) | split)
  all_goals (try simp_all -implicitDefEqProofs)
  all_goals (repeat' (first | (with_reducible rfl) | split))
  all_goals (try simp_all -implicitDefEqProofs)
@[simp] theorem lxCheckRing_ready (e : Nat) (s : State) (r : Nat) : (lxCheckRing e s r).boot.ready = s.boot.ready := by
  unfold lxCheckRing
  (try dsimp only)
  repeat' (first | (with_reducible rfl) | split)
  all_goals (try simp_all -implicitDefEqProofs)
  all_goals (repeat' (first | (with_reducible rfl) | split))
  all_goals (try simp_all -implicitDefEqProofs)
@[simp] theorem lxCheckRing_phase (e : Nat) (s : State) (r : Nat) : (lxCheckRing e s r).cin.phase = s.cin.phase := by
  unfold lxCheckRing
  (try dsimp only)
  repeat' (first | (with_reducible rfl) | split)
  all_goals (try simp_all -implicitDefEqProofs)
  all_goals (repeat' (first | (with_reducible rfl) | split))
  all_goals (try simp_all -implicitDefEqProofs)
@[simp] theorem lxCheckRing_mem (e : Nat) (s : State) (r : Nat) : (lxCheckRing e s r).dram.mem = s.dram.mem := by
  unfold lxCheckRing
  (try dsimp only)
  repeat' (first | (with_reducible rfl) | split)
  all_goals (try simp_all -implicitDefEqProofs)
  all_goals (repeat' (first | (with_reducible rfl) | split))
  all_goals (try simp_all -implicitDefEqProofs)
@[simp] theorem lxCheckRing_banks (e : Nat) (s : State) (r : Nat) : (lxCheckRing e s r).fls.banks = s.fls.banks := by
  unfold lxCheckRing
  (try dsimp only)
  repeat' (first | (with_reducible rfl) | split)
  all_goals (try simp_all -implicitDefEqProofs)
  all_goals (repeat' (first | (with_reducible rfl) | split))
  all_goals (try simp_all -implicitDefEqProofs)
@[simp] theorem lxNote_pending (s : State) (e : Nat) : (lxNote s e).pending = s.pending := by
  unfold lxNote
  (try dsimp only)
  repeat' (first | (with_reducible rfl) | split)
  all_goals (try simp_all -implicitDefEqProofs)
  all_goals (repeat' (first | (with_reducible rfl) | split))
  all_goals (try simp_all -implicitDefEqProofs)
@[simp] theorem lxNote_lck (s : State) (e : Nat) : (lxNote s e).lck = s.lck := by
  unfold lxNote
  (try dsimp only)
  repeat' (first | (with_reducible rfl) | split)
  all_goals (try simp_all -implicitDefEqProofs)
  all_goals (repeat' (first | (with_reducible rfl) | split))
  all_goals (try simp_all -implicitDefEqProofs)
@[simp] theorem lxNote_ready (s : State) (e : Nat) : (lxNote s e).boot.ready = s.boot.ready := by
  unfold lxNote
  (try dsimp only)
  repeat' (first | (with_reducible rfl) | split)
  all_goals (try simp_all -implicitDefEqProofs)
  all_goals (repeat' (first | (with_reducible rfl) | split))
  all_goals (try simp_all -implicitDefEqProofs)
@[simp] theorem lxNote_phase (s : State) (e : Nat) : (lxNote s e).cin.phase = s.cin.phase := by
  unfold lxNote
  (try dsimp only)
  repeat' (first | (with_reducible rfl) | split)
  all_goals (try simp_all -implicitDefEqProofs)
  all_goals (repeat' (first | (with_reducible rfl) | split))
  all_goals (try simp_all -implicitDefEqProofs)
@[simp] theorem lxNote_mem (s : State) (e : Nat) : (lxNote s e).dram.mem = s.dram.mem := by
  unfold lxNote
  (try dsimp only)
  repeat' (first | (with_reducible rfl) | split)
  all_goals (try simp_all -implicitDefEqProofs)
  all_goals (repeat' (first | (with_reducible rfl) | split))
  all_goals (try simp_all -implicitDefEqProofs)
@[simp] theorem lxNote_banks (s : State) (e : Nat) : (lxNote s e).fls.banks = s.fls.banks := by
  unfold lxNote
  (try dsimp only)
  repeat' (first | (with_reducible rfl) | split)
  all_goals (try simp_all -implicitDefEqProofs)
  all_goals (repeat' (first | (with_reducible rfl) | split))
  all_goals (try simp_all -implicitDefEqProofs)
@[simp] theorem lxHeartbeat_pending (s : State) : (lxHeartbeat s).pending = s.pending := by
  unfold lxHeartbeat
  (try dsimp only)
  repeat' (first | (with_reducible rfl) | split)
  all_goals (try simp_all -implicitDefEqProofs)
  all_goals (repeat' (first | (with_reducible rfl) | split))
  all_goals (try simp_all -implicitDefEqProofs)
@[simp] theorem lxHeartbeat_lck (s : State) : (lxHeartbeat s).lck = s.lck := by
  unfold lxHeartbeat
  (try dsimp only)
  repeat' (first | (with_reducible rfl) | split)
  all_goals (try simp_all -implicitDefEqProofs)
  all_goals (repeat' (first | (with_reducible rfl) | split))
  all_goals (try simp_all -implicitDefEqProofs)
@[simp] theorem lxHeartbeat_ready (s : State) : (lxHeartbeat s).boot.ready = s.boot.ready := by
  unfold lxHeartbeat
  (try dsimp only)
  repeat' (first | (with_reducible rfl) | split)
  all_goals (try simp_all -implicitDefEqProofs)
  all_goals (repeat' (first | (with_reducible rfl) | split))
  all_goals (try simp_all -implicitDefEqProofs)
@[simp] theorem lxHeartbeat_phase (s : State) : (lxHeartbeat s).cin.phase = s.cin.phase := by
  unfold lxHeartbeat
  (try dsimp only)
  repeat' (first | (with_reducible rfl) | split)
  all_goals (try simp_all -implicitDefEqProofs)
  all_goals (repeat' (first | (with_reducible rfl) | split))
  all_goals (try simp_all -implicitDefEqProofs)
@[simp] theorem lxHeartbeat_mem (s : State) : (lxHeartbeat s).dram.mem = s.dram.mem := by
  unfold lxHeartbeat
  (try dsimp only)
  repeat' (first | (with_reducible rfl) | split)
  all_goals (try simp_all -implicitDefEqProofs)
  all_goals (repeat' (first | (with_reducible rfl) | split))
  all_goals (try simp_all -implicitDefEqProofs)
@[simp] theorem lxHeartbeat_banks (s : State) : (lxHeartbeat s).fls.banks = s.fls.banks := by
  unfold lxHeartbeat
  (try dsimp only)
  repeat' (first | (with_reducible rfl) | split)
  all_goals (try simp_all -implicitDefEqProofs)
  all_goals (repeat' (first | (with_reducible rfl) | split))
  all_goals (try simp_all -implicitDefEqProofs)
@[simp] theorem lxFlush_pending (e r level : Nat) (s : State) (c : LxCmd) : (lxFlush e r level s c).pending = s.pending := by
  unfold lxFlush
  (try dsimp only)
  repeat' (first | (with_reducible rfl) | split)
  all_goals (try simp_all -implicitDefEqProofs)
  all_goals (repeat' (first | (with_reducible rfl) | split))
  all_goals (try simp_all -implicitDefEqProofs)
@[simp] theorem lxFlush_ready (e r level : Nat) (s : State) (c : LxCmd) : (lxFlush e r level s c).boot.ready = s.boot.ready := by
  unfold lxFlush
  (try dsimp only)
  repeat' (first | (with_reducible rfl) | split)
  all_goals (try simp_all -implicitDefEqProofs)
  all_goals (repeat' (first | (with_reducible rfl) | split))
  all_goals (try simp_all -implicitDefEqProofs)
@[simp] theorem lxFlush_phase (e r level : Nat) (s : State) (c : LxCmd) : (lxFlush e r level s c).cin.phase = s.cin.phase := by
  unfold lxFlush
  (try dsimp only)
  repeat' (first | (with_reducible rfl) | split)
  all_goals (try simp_all -implicitDefEqProofs)
  all_goals (repeat' (first | (with_reducible rfl) | split))
  all_goals (try simp_all -implicitDefEqProofs)
@[simp] theorem lxFlush_mem (e r level : Nat) (s : State) (c : LxCmd) : (lxFlush e r level s c).dram.mem = s.dram.mem := by
  unfold lxFlush
  (try dsimp only)
  repeat' (first | (with_reducible rfl) | split)
  all_goals (try simp_all -implicitDefEqProofs)
  all_goals (repeat' (first | (with_reducible rfl) | split))
  all_goals (try simp_all -implicitDefEqProofs)
@[simp] theorem lxFlush_banks (e r level : Nat) (s : State) (c : LxCmd) : (lxFlush e r level s c).fls.banks = s.fls.banks := by
  unfold lxFlush
  (try dsimp only)
  repeat' (first | (with_reducible rfl) | split)
  all_goals (try simp_all -implicitDefEqProofs)
  all_goals (repeat' (first | (with_reducible rfl) | split))
  all_goals (try simp_all -implicitDefEqProofs)
@[simp] theorem lxStatus_pending (s : State) (e r : Nat) : (lxStatus s e r).pending = s.pending := by
  unfold lxStatus
  (try dsimp only)
  repeat' (first | (with_reducible rfl) | split)
  all_goals (try simp_all -implicitDefEqProofs)
  all_goals (repeat' (first | (with_reducible rfl) | split))
  all_goals (try simp_all -implicitDefEqProofs)
@[simp] theorem lxStatus_lck (s : State) (e r : Nat) : (lxStatus s e r).lck = s.lck := by
  unfold lxStatus
  (try dsimp only)
  repeat' (first | (with_reducible rfl) | split)
  all_goals (try simp_all -implicitDefEqProofs)
  all_goals (repeat' (first | (with_reducible rfl) | split))
  all_goals (try simp_all -implicitDefEqProofs)
@[simp] theorem lxStatus_ready (s : State) (e r : Nat) : (lxStatus s e r).boot.ready = s.boot.ready := by
  unfold lxStatus
  (try dsimp only)
  repeat' (first | (with_reducible rfl) | split)
  all_goals (try simp_all -implicitDefEqProofs)
  all_goals (repeat' (first | (with_reducible rfl) | split))
  all_goals (try simp_all -implicitDefEqProofs)
@[simp] theorem lxStatus_phase (s : State) (e r : Nat) : (lxStatus s e r).cin.phase = s.cin.phase := by
  unfold lxStatus
  (try dsimp only)
  repeat' (first | (with_reducible rfl) | split)
  all_goals (try simp_all -implicitDefEqProofs)
  all_goals (repeat' (first | (with_reducible rfl) | split))
  all_goals (try simp_all -implicitDefEqProofs)
@[simp] theorem lxStatus_mem (s : State) (e r : Nat) : (lxStatus s e r).dram.mem = s.dram.mem := by
  unfold lxStatus
  (try dsimp only)
  repeat' (first | (with_reducible rfl) | split)
  all_goals (try simp_all -implicitDefEqProofs)
  all_goals (repeat' (first | (with_reducible rfl) | split))
  all_goals (try simp_all -implicitDefEqProofs)
@[simp] theorem lxStatus_banks (s : State) (e r : Nat) : (lxStatus s e r).fls.banks = s.fls.banks := by
  unfold lxStatus
  (try dsimp only)
  repeat' (first | (with_reducible rfl) | split)
  all_goals (try simp_all -implicitDefEqProofs)
  all_goals (repeat' (first | (with_reducible rfl) | split))
  all_goals (try simp_all -implicitDefEqProofs)
@[simp] theorem lxRingsClear_pending (s : State) (e : Nat) : (lxRingsClear s e).pending = s.pending := by
  unfold lxRingsClear
  (try dsimp only)
  repeat' (first | (with_reducible rfl) | split)
  all_goals (try simp_all -implicitDefEqProofs)
  all_goals (repeat' (first | (with_reducible rfl) | split))
  all_goals (try simp_all -implicitDefEqProofs)
@[simp] theorem lxRingsClear_lck (s : State) (e : Nat) : (lxRingsClear s e).lck = s.lck := by
  unfold lxRingsClear
  (try dsimp only)
  repeat' (first | (with_reducible rfl) | split)
  all_goals (try simp_all -implicitDefEqProofs)
  all_goals (repeat' (first | (with_reducible rfl) | split))
  all_goals (try simp_all -implicitDefEqProofs)
@[simp] theorem lxRingsClear_ready (s : State) (e : Nat) : (lxRingsClear s e).boot.ready = s.boot.ready := by
  unfold lxRingsClear
  (try dsimp only)
  repeat' (first | (with_reducible rfl) | split)
  all_goals (try simp_all -implicitDefEqProofs)
  all_goals (repeat' (first | (with_reducible rfl) | split))
  all_goals (try simp_all -implicitDefEqProofs)
@[simp] theorem lxRingsClear_phase (s : State) (e : Nat) : (lxRingsClear s e).cin.phase = s.cin.phase := by
  unfold lxRingsClear
  (try dsimp only)
  repeat' (first | (with_reducible rfl) | split)
  all_goals (try simp_all -implicitDefEqProofs)
  all_goals (repeat' (first | (with_reducible rfl) | split))
  all_goals (try simp_all -implicitDefEqProofs)
@[simp] theorem lxRingsClear_mem (s : State) (e : Nat) : (lxRingsClear s e).dram.mem = s.dram.mem := by
  unfold lxRingsClear
  (try dsimp only)
  repeat' (first | (with_reducible rfl) | split)
  all_goals (try simp_all -implicitDefEqProofs)
  all_goals (repeat' (first | (with_reducible rfl) | split))
  all_goals (try simp_all -implicitDefEqProofs)
@[simp] theorem lxRingsClear_banks (s : State) (e : Nat) : (lxRingsClear s e).fls.banks = s.fls.banks := by
  unfold lxRingsClear
  (try dsimp only)
  repeat' (first | (with_reducible rfl) | split)
  all_goals (try simp_all -implicitDefEqProofs)
  all_goals (repeat' (first | (with_reducible rfl) | split))
  all_goals (try simp_all -implicitDefEqProofs)

end Sys2Proof.Laws
end

