-- ==== Sys2Proof/Laws/KeepRing.lean ====
section
/-!
SUPPORT. What the operations of Ring leave alone: one lemma for each operation and each part of the state that it never changes.
-/
namespace Sys2Proof.Laws
open Sys2Proof.Machine
set_option linter.unusedTactic false
set_option linter.unreachableTactic false
set_option linter.unusedVariables false
set_option linter.unusedSimpArgs false

@[simp] theorem agentPut_pending (s : State) (l : AgentLine) : (agentPut s l).pending = s.pending := by
  unfold agentPut
  (try dsimp only)
  repeat' (first | (with_reducible rfl) | split)
  all_goals (try simp_all -implicitDefEqProofs)
  all_goals (repeat' (first | (with_reducible rfl) | split))
  all_goals (try simp_all -implicitDefEqProofs)
@[simp] theorem agentPut_lck (s : State) (l : AgentLine) : (agentPut s l).lck = s.lck := by
  unfold agentPut
  (try dsimp only)
  repeat' (first | (with_reducible rfl) | split)
  all_goals (try simp_all -implicitDefEqProofs)
  all_goals (repeat' (first | (with_reducible rfl) | split))
  all_goals (try simp_all -implicitDefEqProofs)
@[simp] theorem agentPut_ready (s : State) (l : AgentLine) : (agentPut s l).boot.ready = s.boot.ready := by
  unfold agentPut
  (try dsimp only)
  repeat' (first | (with_reducible rfl) | split)
  all_goals (try simp_all -implicitDefEqProofs)
  all_goals (repeat' (first | (with_reducible rfl) | split))
  all_goals (try simp_all -implicitDefEqProofs)
@[simp] theorem agentPut_phase (s : State) (l : AgentLine) : (agentPut s l).cin.phase = s.cin.phase := by
  unfold agentPut
  (try dsimp only)
  repeat' (first | (with_reducible rfl) | split)
  all_goals (try simp_all -implicitDefEqProofs)
  all_goals (repeat' (first | (with_reducible rfl) | split))
  all_goals (try simp_all -implicitDefEqProofs)
@[simp] theorem agentPut_mem (s : State) (l : AgentLine) : (agentPut s l).dram.mem = s.dram.mem := by
  unfold agentPut
  (try dsimp only)
  repeat' (first | (with_reducible rfl) | split)
  all_goals (try simp_all -implicitDefEqProofs)
  all_goals (repeat' (first | (with_reducible rfl) | split))
  all_goals (try simp_all -implicitDefEqProofs)
@[simp] theorem agentPut_banks (s : State) (l : AgentLine) : (agentPut s l).fls.banks = s.fls.banks := by
  unfold agentPut
  (try dsimp only)
  repeat' (first | (with_reducible rfl) | split)
  all_goals (try simp_all -implicitDefEqProofs)
  all_goals (repeat' (first | (with_reducible rfl) | split))
  all_goals (try simp_all -implicitDefEqProofs)
@[simp] theorem agentDrop_pending (s : State) (a line : Nat) : (agentDrop s a line).pending = s.pending := by
  unfold agentDrop
  (try dsimp only)
  repeat' (first | (with_reducible rfl) | split)
  all_goals (try simp_all -implicitDefEqProofs)
  all_goals (repeat' (first | (with_reducible rfl) | split))
  all_goals (try simp_all -implicitDefEqProofs)
@[simp] theorem agentDrop_lck (s : State) (a line : Nat) : (agentDrop s a line).lck = s.lck := by
  unfold agentDrop
  (try dsimp only)
  repeat' (first | (with_reducible rfl) | split)
  all_goals (try simp_all -implicitDefEqProofs)
  all_goals (repeat' (first | (with_reducible rfl) | split))
  all_goals (try simp_all -implicitDefEqProofs)
@[simp] theorem agentDrop_ready (s : State) (a line : Nat) : (agentDrop s a line).boot.ready = s.boot.ready := by
  unfold agentDrop
  (try dsimp only)
  repeat' (first | (with_reducible rfl) | split)
  all_goals (try simp_all -implicitDefEqProofs)
  all_goals (repeat' (first | (with_reducible rfl) | split))
  all_goals (try simp_all -implicitDefEqProofs)
@[simp] theorem agentDrop_phase (s : State) (a line : Nat) : (agentDrop s a line).cin.phase = s.cin.phase := by
  unfold agentDrop
  (try dsimp only)
  repeat' (first | (with_reducible rfl) | split)
  all_goals (try simp_all -implicitDefEqProofs)
  all_goals (repeat' (first | (with_reducible rfl) | split))
  all_goals (try simp_all -implicitDefEqProofs)
@[simp] theorem agentDrop_mem (s : State) (a line : Nat) : (agentDrop s a line).dram.mem = s.dram.mem := by
  unfold agentDrop
  (try dsimp only)
  repeat' (first | (with_reducible rfl) | split)
  all_goals (try simp_all -implicitDefEqProofs)
  all_goals (repeat' (first | (with_reducible rfl) | split))
  all_goals (try simp_all -implicitDefEqProofs)
@[simp] theorem agentDrop_banks (s : State) (a line : Nat) : (agentDrop s a line).fls.banks = s.fls.banks := by
  unfold agentDrop
  (try dsimp only)
  repeat' (first | (with_reducible rfl) | split)
  all_goals (try simp_all -implicitDefEqProofs)
  all_goals (repeat' (first | (with_reducible rfl) | split))
  all_goals (try simp_all -implicitDefEqProofs)
@[simp] theorem isolateAgent_pending (s : State) (a : Nat) : (isolateAgent s a).pending = s.pending := by
  unfold isolateAgent
  (try dsimp only)
  repeat' (first | (with_reducible rfl) | split)
  all_goals (try simp_all -implicitDefEqProofs)
  all_goals (repeat' (first | (with_reducible rfl) | split))
  all_goals (try simp_all -implicitDefEqProofs)
@[simp] theorem isolateAgent_lck (s : State) (a : Nat) : (isolateAgent s a).lck = s.lck := by
  unfold isolateAgent
  (try dsimp only)
  repeat' (first | (with_reducible rfl) | split)
  all_goals (try simp_all -implicitDefEqProofs)
  all_goals (repeat' (first | (with_reducible rfl) | split))
  all_goals (try simp_all -implicitDefEqProofs)
@[simp] theorem isolateAgent_ready (s : State) (a : Nat) : (isolateAgent s a).boot.ready = s.boot.ready := by
  unfold isolateAgent
  (try dsimp only)
  repeat' (first | (with_reducible rfl) | split)
  all_goals (try simp_all -implicitDefEqProofs)
  all_goals (repeat' (first | (with_reducible rfl) | split))
  all_goals (try simp_all -implicitDefEqProofs)
@[simp] theorem isolateAgent_phase (s : State) (a : Nat) : (isolateAgent s a).cin.phase = s.cin.phase := by
  unfold isolateAgent
  (try dsimp only)
  repeat' (first | (with_reducible rfl) | split)
  all_goals (try simp_all -implicitDefEqProofs)
  all_goals (repeat' (first | (with_reducible rfl) | split))
  all_goals (try simp_all -implicitDefEqProofs)
@[simp] theorem isolateAgent_mem (s : State) (a : Nat) : (isolateAgent s a).dram.mem = s.dram.mem := by
  unfold isolateAgent
  (try dsimp only)
  repeat' (first | (with_reducible rfl) | split)
  all_goals (try simp_all -implicitDefEqProofs)
  all_goals (repeat' (first | (with_reducible rfl) | split))
  all_goals (try simp_all -implicitDefEqProofs)
@[simp] theorem isolateAgent_banks (s : State) (a : Nat) : (isolateAgent s a).fls.banks = s.fls.banks := by
  unfold isolateAgent
  (try dsimp only)
  repeat' (first | (with_reducible rfl) | split)
  all_goals (try simp_all -implicitDefEqProofs)
  all_goals (repeat' (first | (with_reducible rfl) | split))
  all_goals (try simp_all -implicitDefEqProofs)
@[simp] theorem protocolError_pending (s : State) (a st msg line : Nat) : (protocolError s a st msg line).pending = s.pending := by
  unfold protocolError
  (try dsimp only)
  repeat' (first | (with_reducible rfl) | split)
  all_goals (try simp_all -implicitDefEqProofs)
  all_goals (repeat' (first | (with_reducible rfl) | split))
  all_goals (try simp_all -implicitDefEqProofs)
@[simp] theorem protocolError_mem (s : State) (a st msg line : Nat) : (protocolError s a st msg line).dram.mem = s.dram.mem := by
  unfold protocolError
  (try dsimp only)
  repeat' (first | (with_reducible rfl) | split)
  all_goals (try simp_all -implicitDefEqProofs)
  all_goals (repeat' (first | (with_reducible rfl) | split))
  all_goals (try simp_all -implicitDefEqProofs)
@[simp] theorem toHome_pending (s : State) (m : RingMsg) (a line : Nat) (data : Bytes) : (toHome s m a line data).pending = s.pending := by
  unfold toHome
  (try dsimp only)
  repeat' (first | (with_reducible rfl) | split)
  all_goals (try simp_all -implicitDefEqProofs)
  all_goals (repeat' (first | (with_reducible rfl) | split))
  all_goals (try simp_all -implicitDefEqProofs)
@[simp] theorem toHome_lck (s : State) (m : RingMsg) (a line : Nat) (data : Bytes) : (toHome s m a line data).lck = s.lck := by
  unfold toHome
  (try dsimp only)
  repeat' (first | (with_reducible rfl) | split)
  all_goals (try simp_all -implicitDefEqProofs)
  all_goals (repeat' (first | (with_reducible rfl) | split))
  all_goals (try simp_all -implicitDefEqProofs)
@[simp] theorem toHome_ready (s : State) (m : RingMsg) (a line : Nat) (data : Bytes) : (toHome s m a line data).boot.ready = s.boot.ready := by
  unfold toHome
  (try dsimp only)
  repeat' (first | (with_reducible rfl) | split)
  all_goals (try simp_all -implicitDefEqProofs)
  all_goals (repeat' (first | (with_reducible rfl) | split))
  all_goals (try simp_all -implicitDefEqProofs)
@[simp] theorem toHome_phase (s : State) (m : RingMsg) (a line : Nat) (data : Bytes) : (toHome s m a line data).cin.phase = s.cin.phase := by
  unfold toHome
  (try dsimp only)
  repeat' (first | (with_reducible rfl) | split)
  all_goals (try simp_all -implicitDefEqProofs)
  all_goals (repeat' (first | (with_reducible rfl) | split))
  all_goals (try simp_all -implicitDefEqProofs)
@[simp] theorem toHome_mem (s : State) (m : RingMsg) (a line : Nat) (data : Bytes) : (toHome s m a line data).dram.mem = s.dram.mem := by
  unfold toHome
  (try dsimp only)
  repeat' (first | (with_reducible rfl) | split)
  all_goals (try simp_all -implicitDefEqProofs)
  all_goals (repeat' (first | (with_reducible rfl) | split))
  all_goals (try simp_all -implicitDefEqProofs)
@[simp] theorem toHome_banks (s : State) (m : RingMsg) (a line : Nat) (data : Bytes) : (toHome s m a line data).fls.banks = s.fls.banks := by
  unfold toHome
  (try dsimp only)
  repeat' (first | (with_reducible rfl) | split)
  all_goals (try simp_all -implicitDefEqProofs)
  all_goals (repeat' (first | (with_reducible rfl) | split))
  all_goals (try simp_all -implicitDefEqProofs)
@[simp] theorem agentSnoop_pending (inv : Bool) (a line : Nat) (s : State) : (agentSnoop inv a line s).pending = s.pending := by
  unfold agentSnoop
  (try dsimp only)
  repeat' (first | (with_reducible rfl) | split)
  all_goals (try simp_all -implicitDefEqProofs)
  all_goals (repeat' (first | (with_reducible rfl) | split))
  all_goals (try simp_all -implicitDefEqProofs)
@[simp] theorem agentSnoop_lck (inv : Bool) (a line : Nat) (s : State) : (agentSnoop inv a line s).lck = s.lck := by
  unfold agentSnoop
  (try dsimp only)
  repeat' (first | (with_reducible rfl) | split)
  all_goals (try simp_all -implicitDefEqProofs)
  all_goals (repeat' (first | (with_reducible rfl) | split))
  all_goals (try simp_all -implicitDefEqProofs)
@[simp] theorem agentSnoop_ready (inv : Bool) (a line : Nat) (s : State) : (agentSnoop inv a line s).boot.ready = s.boot.ready := by
  unfold agentSnoop
  (try dsimp only)
  repeat' (first | (with_reducible rfl) | split)
  all_goals (try simp_all -implicitDefEqProofs)
  all_goals (repeat' (first | (with_reducible rfl) | split))
  all_goals (try simp_all -implicitDefEqProofs)
@[simp] theorem agentSnoop_phase (inv : Bool) (a line : Nat) (s : State) : (agentSnoop inv a line s).cin.phase = s.cin.phase := by
  unfold agentSnoop
  (try dsimp only)
  repeat' (first | (with_reducible rfl) | split)
  all_goals (try simp_all -implicitDefEqProofs)
  all_goals (repeat' (first | (with_reducible rfl) | split))
  all_goals (try simp_all -implicitDefEqProofs)
@[simp] theorem agentSnoop_mem (inv : Bool) (a line : Nat) (s : State) : (agentSnoop inv a line s).dram.mem = s.dram.mem := by
  unfold agentSnoop
  (try dsimp only)
  repeat' (first | (with_reducible rfl) | split)
  all_goals (try simp_all -implicitDefEqProofs)
  all_goals (repeat' (first | (with_reducible rfl) | split))
  all_goals (try simp_all -implicitDefEqProofs)
@[simp] theorem agentSnoop_banks (inv : Bool) (a line : Nat) (s : State) : (agentSnoop inv a line s).fls.banks = s.fls.banks := by
  unfold agentSnoop
  (try dsimp only)
  repeat' (first | (with_reducible rfl) | split)
  all_goals (try simp_all -implicitDefEqProofs)
  all_goals (repeat' (first | (with_reducible rfl) | split))
  all_goals (try simp_all -implicitDefEqProofs)
@[simp] theorem serveCore_pending (s : State) (l : AgentLine) (data : Bytes) : (serveCore s l data).pending = s.pending := by
  unfold serveCore
  (try dsimp only)
  repeat' (first | (with_reducible rfl) | split)
  all_goals (try simp_all -implicitDefEqProofs)
  all_goals (repeat' (first | (with_reducible rfl) | split))
  all_goals (try simp_all -implicitDefEqProofs)
@[simp] theorem serveCore_lck (s : State) (l : AgentLine) (data : Bytes) : (serveCore s l data).lck = s.lck := by
  unfold serveCore
  (try dsimp only)
  repeat' (first | (with_reducible rfl) | split)
  all_goals (try simp_all -implicitDefEqProofs)
  all_goals (repeat' (first | (with_reducible rfl) | split))
  all_goals (try simp_all -implicitDefEqProofs)
@[simp] theorem serveCore_ready (s : State) (l : AgentLine) (data : Bytes) : (serveCore s l data).boot.ready = s.boot.ready := by
  unfold serveCore
  (try dsimp only)
  repeat' (first | (with_reducible rfl) | split)
  all_goals (try simp_all -implicitDefEqProofs)
  all_goals (repeat' (first | (with_reducible rfl) | split))
  all_goals (try simp_all -implicitDefEqProofs)
@[simp] theorem serveCore_phase (s : State) (l : AgentLine) (data : Bytes) : (serveCore s l data).cin.phase = s.cin.phase := by
  unfold serveCore
  (try dsimp only)
  repeat' (first | (with_reducible rfl) | split)
  all_goals (try simp_all -implicitDefEqProofs)
  all_goals (repeat' (first | (with_reducible rfl) | split))
  all_goals (try simp_all -implicitDefEqProofs)
@[simp] theorem serveCore_mem (s : State) (l : AgentLine) (data : Bytes) : (serveCore s l data).dram.mem = s.dram.mem := by
  unfold serveCore
  (try dsimp only)
  repeat' (first | (with_reducible rfl) | split)
  all_goals (try simp_all -implicitDefEqProofs)
  all_goals (repeat' (first | (with_reducible rfl) | split))
  all_goals (try simp_all -implicitDefEqProofs)
@[simp] theorem serveCore_banks (s : State) (l : AgentLine) (data : Bytes) : (serveCore s l data).fls.banks = s.fls.banks := by
  unfold serveCore
  (try dsimp only)
  repeat' (first | (with_reducible rfl) | split)
  all_goals (try simp_all -implicitDefEqProofs)
  all_goals (repeat' (first | (with_reducible rfl) | split))
  all_goals (try simp_all -implicitDefEqProofs)
@[simp] theorem grantTree_pending (s : State) (dl : Nat) (data : Bytes × Bool) : (grantTree s dl data).pending = s.pending := by
  unfold grantTree
  repeat' (first
    | (with_reducible rfl)
    | (extract_lets +onlyGivenNames u; have hu : u.pending = s.pending := (by
         (try simp only [u])
         repeat' (first | (with_reducible rfl) | split)
         all_goals (try simp_all -implicitDefEqProofs)
         all_goals (repeat' (first | (with_reducible rfl) | split))
         all_goals (try simp_all -implicitDefEqProofs)); clear_value u)
    | (extract_lets +onlyGivenNames u; clear_value u)
    | (split <;> (rename_i heq; have hh := snd_pending heq; clear heq))
    | split
    | (refine (foldl_pending _ _ _ ?_).trans ?_)
    | intro _)
  all_goals (try simp_all -implicitDefEqProofs)
  all_goals (repeat' (first | (with_reducible rfl) | split))
  all_goals (try simp_all -implicitDefEqProofs)
@[simp] theorem grantTree_lck (s : State) (dl : Nat) (data : Bytes × Bool) : (grantTree s dl data).lck = s.lck := by
  unfold grantTree
  repeat' (first
    | (with_reducible rfl)
    | (extract_lets +onlyGivenNames u; have hu : u.lck = s.lck := (by
         (try simp only [u])
         repeat' (first | (with_reducible rfl) | split)
         all_goals (try simp_all -implicitDefEqProofs)
         all_goals (repeat' (first | (with_reducible rfl) | split))
         all_goals (try simp_all -implicitDefEqProofs)); clear_value u)
    | (extract_lets +onlyGivenNames u; clear_value u)
    | (split <;> (rename_i heq; have hh := snd_lck heq; clear heq))
    | split
    | (refine (foldl_lck _ _ _ ?_).trans ?_)
    | intro _)
  all_goals (try simp_all -implicitDefEqProofs)
  all_goals (repeat' (first | (with_reducible rfl) | split))
  all_goals (try simp_all -implicitDefEqProofs)
@[simp] theorem grantTree_ready (s : State) (dl : Nat) (data : Bytes × Bool) : (grantTree s dl data).boot.ready = s.boot.ready := by
  unfold grantTree
  repeat' (first
    | (with_reducible rfl)
    | (extract_lets +onlyGivenNames u; have hu : u.boot.ready = s.boot.ready := (by
         (try simp only [u])
         repeat' (first | (with_reducible rfl) | split)
         all_goals (try simp_all -implicitDefEqProofs)
         all_goals (repeat' (first | (with_reducible rfl) | split))
         all_goals (try simp_all -implicitDefEqProofs)); clear_value u)
    | (extract_lets +onlyGivenNames u; clear_value u)
    | (split <;> (rename_i heq; have hh := snd_ready heq; clear heq))
    | split
    | (refine (foldl_ready _ _ _ ?_).trans ?_)
    | intro _)
  all_goals (try simp_all -implicitDefEqProofs)
  all_goals (repeat' (first | (with_reducible rfl) | split))
  all_goals (try simp_all -implicitDefEqProofs)
@[simp] theorem grantTree_phase (s : State) (dl : Nat) (data : Bytes × Bool) : (grantTree s dl data).cin.phase = s.cin.phase := by
  unfold grantTree
  repeat' (first
    | (with_reducible rfl)
    | (extract_lets +onlyGivenNames u; have hu : u.cin.phase = s.cin.phase := (by
         (try simp only [u])
         repeat' (first | (with_reducible rfl) | split)
         all_goals (try simp_all -implicitDefEqProofs)
         all_goals (repeat' (first | (with_reducible rfl) | split))
         all_goals (try simp_all -implicitDefEqProofs)); clear_value u)
    | (extract_lets +onlyGivenNames u; clear_value u)
    | (split <;> (rename_i heq; have hh := snd_phase heq; clear heq))
    | split
    | (refine (foldl_phase _ _ _ ?_).trans ?_)
    | intro _)
  all_goals (try simp_all -implicitDefEqProofs)
  all_goals (repeat' (first | (with_reducible rfl) | split))
  all_goals (try simp_all -implicitDefEqProofs)
@[simp] theorem grantTree_mem (s : State) (dl : Nat) (data : Bytes × Bool) : (grantTree s dl data).dram.mem = s.dram.mem := by
  unfold grantTree
  repeat' (first
    | (with_reducible rfl)
    | (extract_lets +onlyGivenNames u; have hu : u.dram.mem = s.dram.mem := (by
         (try simp only [u])
         repeat' (first | (with_reducible rfl) | split)
         all_goals (try simp_all -implicitDefEqProofs)
         all_goals (repeat' (first | (with_reducible rfl) | split))
         all_goals (try simp_all -implicitDefEqProofs)); clear_value u)
    | (extract_lets +onlyGivenNames u; clear_value u)
    | (split <;> (rename_i heq; have hh := snd_mem heq; clear heq))
    | split
    | (refine (foldl_mem _ _ _ ?_).trans ?_)
    | intro _)
  all_goals (try simp_all -implicitDefEqProofs)
  all_goals (repeat' (first | (with_reducible rfl) | split))
  all_goals (try simp_all -implicitDefEqProofs)
@[simp] theorem grantTree_banks (s : State) (dl : Nat) (data : Bytes × Bool) : (grantTree s dl data).fls.banks = s.fls.banks := by
  unfold grantTree
  repeat' (first
    | (with_reducible rfl)
    | (extract_lets +onlyGivenNames u; have hu : u.fls.banks = s.fls.banks := (by
         (try simp only [u])
         repeat' (first | (with_reducible rfl) | split)
         all_goals (try simp_all -implicitDefEqProofs)
         all_goals (repeat' (first | (with_reducible rfl) | split))
         all_goals (try simp_all -implicitDefEqProofs)); clear_value u)
    | (extract_lets +onlyGivenNames u; clear_value u)
    | (split <;> (rename_i heq; have hh := snd_banks heq; clear heq))
    | split
    | (refine (foldl_banks _ _ _ ?_).trans ?_)
    | intro _)
  all_goals (try simp_all -implicitDefEqProofs)
  all_goals (repeat' (first | (with_reducible rfl) | split))
  all_goals (try simp_all -implicitDefEqProofs)
@[simp] theorem grant_pending (s : State) (t : HomeTxn) : (grant s t).pending = s.pending := by
  unfold grant
  repeat' (first
    | (with_reducible rfl)
    | (extract_lets +onlyGivenNames u; have hu : u.pending = s.pending := (by
         (try simp only [u])
         repeat' (first | (with_reducible rfl) | split)
         all_goals (try simp_all -implicitDefEqProofs)
         all_goals (repeat' (first | (with_reducible rfl) | split))
         all_goals (try simp_all -implicitDefEqProofs)); clear_value u)
    | (extract_lets +onlyGivenNames u; clear_value u)
    | (split <;> (rename_i heq; have hh := snd_pending heq; clear heq))
    | split
    | (refine (foldl_pending _ _ _ ?_).trans ?_)
    | intro _)
  all_goals (try simp_all -implicitDefEqProofs)
  all_goals (repeat' (first | (with_reducible rfl) | split))
  all_goals (try simp_all -implicitDefEqProofs)
@[simp] theorem grant_lck (s : State) (t : HomeTxn) : (grant s t).lck = s.lck := by
  unfold grant
  (try dsimp only)
  repeat' (first | (with_reducible rfl) | split)
  all_goals (try simp_all -implicitDefEqProofs)
  all_goals (repeat' (first | (with_reducible rfl) | split))
  all_goals (try simp_all -implicitDefEqProofs)
@[simp] theorem grant_ready (s : State) (t : HomeTxn) : (grant s t).boot.ready = s.boot.ready := by
  unfold grant
  repeat' (first
    | (with_reducible rfl)
    | (extract_lets +onlyGivenNames u; have hu : u.boot.ready = s.boot.ready := (by
         (try simp only [u])
         repeat' (first | (with_reducible rfl) | split)
         all_goals (try simp_all -implicitDefEqProofs)
         all_goals (repeat' (first | (with_reducible rfl) | split))
         all_goals (try simp_all -implicitDefEqProofs)); clear_value u)
    | (extract_lets +onlyGivenNames u; clear_value u)
    | (split <;> (rename_i heq; have hh := snd_ready heq; clear heq))
    | split
    | (refine (foldl_ready _ _ _ ?_).trans ?_)
    | intro _)
  all_goals (try simp_all -implicitDefEqProofs)
  all_goals (repeat' (first | (with_reducible rfl) | split))
  all_goals (try simp_all -implicitDefEqProofs)
@[simp] theorem grant_phase (s : State) (t : HomeTxn) : (grant s t).cin.phase = s.cin.phase := by
  unfold grant
  repeat' (first
    | (with_reducible rfl)
    | (extract_lets +onlyGivenNames u; have hu : u.cin.phase = s.cin.phase := (by
         (try simp only [u])
         repeat' (first | (with_reducible rfl) | split)
         all_goals (try simp_all -implicitDefEqProofs)
         all_goals (repeat' (first | (with_reducible rfl) | split))
         all_goals (try simp_all -implicitDefEqProofs)); clear_value u)
    | (extract_lets +onlyGivenNames u; clear_value u)
    | (split <;> (rename_i heq; have hh := snd_phase heq; clear heq))
    | split
    | (refine (foldl_phase _ _ _ ?_).trans ?_)
    | intro _)
  all_goals (try simp_all -implicitDefEqProofs)
  all_goals (repeat' (first | (with_reducible rfl) | split))
  all_goals (try simp_all -implicitDefEqProofs)
@[simp] theorem grant_mem (s : State) (t : HomeTxn) : (grant s t).dram.mem = s.dram.mem := by
  unfold grant
  repeat' (first
    | (with_reducible rfl)
    | (extract_lets +onlyGivenNames u; have hu : u.dram.mem = s.dram.mem := (by
         (try simp only [u])
         repeat' (first | (with_reducible rfl) | split)
         all_goals (try simp_all -implicitDefEqProofs)
         all_goals (repeat' (first | (with_reducible rfl) | split))
         all_goals (try simp_all -implicitDefEqProofs)); clear_value u)
    | (extract_lets +onlyGivenNames u; clear_value u)
    | (split <;> (rename_i heq; have hh := snd_mem heq; clear heq))
    | split
    | (refine (foldl_mem _ _ _ ?_).trans ?_)
    | intro _)
  all_goals (try simp_all -implicitDefEqProofs)
  all_goals (repeat' (first | (with_reducible rfl) | split))
  all_goals (try simp_all -implicitDefEqProofs)
@[simp] theorem grant_banks (s : State) (t : HomeTxn) : (grant s t).fls.banks = s.fls.banks := by
  unfold grant
  repeat' (first
    | (with_reducible rfl)
    | (extract_lets +onlyGivenNames u; have hu : u.fls.banks = s.fls.banks := (by
         (try simp only [u])
         repeat' (first | (with_reducible rfl) | split)
         all_goals (try simp_all -implicitDefEqProofs)
         all_goals (repeat' (first | (with_reducible rfl) | split))
         all_goals (try simp_all -implicitDefEqProofs)); clear_value u)
    | (extract_lets +onlyGivenNames u; clear_value u)
    | (split <;> (rename_i heq; have hh := snd_banks heq; clear heq))
    | split
    | (refine (foldl_banks _ _ _ ?_).trans ?_)
    | intro _)
  all_goals (try simp_all -implicitDefEqProofs)
  all_goals (repeat' (first | (with_reducible rfl) | split))
  all_goals (try simp_all -implicitDefEqProofs)
@[simp] theorem roundEnd_lck (s : State) (t : HomeTxn) : (roundEnd s t).lck = s.lck := by
  unfold roundEnd
  (try dsimp only)
  repeat' (first | (with_reducible rfl) | split)
  all_goals (try simp_all -implicitDefEqProofs)
  all_goals (repeat' (first | (with_reducible rfl) | split))
  all_goals (try simp_all -implicitDefEqProofs)
@[simp] theorem roundCheck_lck (s : State) (t : HomeTxn) : (roundCheck s t).lck = s.lck := by
  unfold roundCheck
  (try dsimp only)
  repeat' (first | (with_reducible rfl) | split)
  all_goals (try simp_all -implicitDefEqProofs)
  all_goals (repeat' (first | (with_reducible rfl) | split))
  all_goals (try simp_all -implicitDefEqProofs)
@[simp] theorem takeReq_lck (s : State) (r : HomeReq) : (takeReq s r).lck = s.lck := by
  unfold takeReq
  (try dsimp only)
  repeat' (first | (with_reducible rfl) | split)
  all_goals (try simp_all -implicitDefEqProofs)
  all_goals (repeat' (first | (with_reducible rfl) | split))
  all_goals (try simp_all -implicitDefEqProofs)
@[simp] theorem takeNext_lck (s : State) (dl : Nat) : (takeNext s dl).lck = s.lck := by
  unfold takeNext
  (try dsimp only)
  repeat' (first | (with_reducible rfl) | split)
  all_goals (try simp_all -implicitDefEqProofs)
  all_goals (repeat' (first | (with_reducible rfl) | split))
  all_goals (try simp_all -implicitDefEqProofs)
@[simp] theorem homeRequest_lck (s : State) (r : HomeReq) : (homeRequest s r).lck = s.lck := by
  unfold homeRequest
  (try dsimp only)
  repeat' (first | (with_reducible rfl) | split)
  all_goals (try simp_all -implicitDefEqProofs)
  all_goals (repeat' (first | (with_reducible rfl) | split))
  all_goals (try simp_all -implicitDefEqProofs)
@[simp] theorem writeThrough_pending (s : State) (line : Nat) (data : Bytes) : (writeThrough s line data).pending = s.pending := by
  unfold writeThrough
  (try dsimp only)
  repeat' (first | (with_reducible rfl) | split)
  all_goals (try simp_all -implicitDefEqProofs)
  all_goals (repeat' (first | (with_reducible rfl) | split))
  all_goals (try simp_all -implicitDefEqProofs)
@[simp] theorem writeThrough_lck (s : State) (line : Nat) (data : Bytes) : (writeThrough s line data).lck = s.lck := by
  unfold writeThrough
  (try dsimp only)
  repeat' (first | (with_reducible rfl) | split)
  all_goals (try simp_all -implicitDefEqProofs)
  all_goals (repeat' (first | (with_reducible rfl) | split))
  all_goals (try simp_all -implicitDefEqProofs)
@[simp] theorem writeThrough_ready (s : State) (line : Nat) (data : Bytes) : (writeThrough s line data).boot.ready = s.boot.ready := by
  unfold writeThrough
  (try dsimp only)
  repeat' (first | (with_reducible rfl) | split)
  all_goals (try simp_all -implicitDefEqProofs)
  all_goals (repeat' (first | (with_reducible rfl) | split))
  all_goals (try simp_all -implicitDefEqProofs)
@[simp] theorem writeThrough_phase (s : State) (line : Nat) (data : Bytes) : (writeThrough s line data).cin.phase = s.cin.phase := by
  unfold writeThrough
  (try dsimp only)
  repeat' (first | (with_reducible rfl) | split)
  all_goals (try simp_all -implicitDefEqProofs)
  all_goals (repeat' (first | (with_reducible rfl) | split))
  all_goals (try simp_all -implicitDefEqProofs)
@[simp] theorem writeThrough_mem (s : State) (line : Nat) (data : Bytes) : (writeThrough s line data).dram.mem = s.dram.mem := by
  unfold writeThrough
  (try dsimp only)
  repeat' (first | (with_reducible rfl) | split)
  all_goals (try simp_all -implicitDefEqProofs)
  all_goals (repeat' (first | (with_reducible rfl) | split))
  all_goals (try simp_all -implicitDefEqProofs)
@[simp] theorem writeThrough_banks (s : State) (line : Nat) (data : Bytes) : (writeThrough s line data).fls.banks = s.fls.banks := by
  unfold writeThrough
  (try dsimp only)
  repeat' (first | (with_reducible rfl) | split)
  all_goals (try simp_all -implicitDefEqProofs)
  all_goals (repeat' (first | (with_reducible rfl) | split))
  all_goals (try simp_all -implicitDefEqProofs)
@[simp] theorem biAnswered_lck (s : State) (key : Nat) (t : HomeTxn) : (biAnswered s key t).lck = s.lck := by
  unfold biAnswered
  (try dsimp only)
  repeat' (first | (with_reducible rfl) | split)
  all_goals (try simp_all -implicitDefEqProofs)
  all_goals (repeat' (first | (with_reducible rfl) | split))
  all_goals (try simp_all -implicitDefEqProofs)
@[simp] theorem coreSet_pending (s : State) (c : Nat) (v : KCore) : (coreSet s c v).pending = s.pending := by
  unfold coreSet
  (try dsimp only)
  repeat' (first | (with_reducible rfl) | split)
  all_goals (try simp_all -implicitDefEqProofs)
  all_goals (repeat' (first | (with_reducible rfl) | split))
  all_goals (try simp_all -implicitDefEqProofs)
@[simp] theorem coreSet_lck (s : State) (c : Nat) (v : KCore) : (coreSet s c v).lck = s.lck := by
  unfold coreSet
  (try dsimp only)
  repeat' (first | (with_reducible rfl) | split)
  all_goals (try simp_all -implicitDefEqProofs)
  all_goals (repeat' (first | (with_reducible rfl) | split))
  all_goals (try simp_all -implicitDefEqProofs)
@[simp] theorem coreSet_ready (s : State) (c : Nat) (v : KCore) : (coreSet s c v).boot.ready = s.boot.ready := by
  unfold coreSet
  (try dsimp only)
  repeat' (first | (with_reducible rfl) | split)
  all_goals (try simp_all -implicitDefEqProofs)
  all_goals (repeat' (first | (with_reducible rfl) | split))
  all_goals (try simp_all -implicitDefEqProofs)
@[simp] theorem coreSet_phase (s : State) (c : Nat) (v : KCore) : (coreSet s c v).cin.phase = s.cin.phase := by
  unfold coreSet
  (try dsimp only)
  repeat' (first | (with_reducible rfl) | split)
  all_goals (try simp_all -implicitDefEqProofs)
  all_goals (repeat' (first | (with_reducible rfl) | split))
  all_goals (try simp_all -implicitDefEqProofs)
@[simp] theorem coreSet_mem (s : State) (c : Nat) (v : KCore) : (coreSet s c v).dram.mem = s.dram.mem := by
  unfold coreSet
  (try dsimp only)
  repeat' (first | (with_reducible rfl) | split)
  all_goals (try simp_all -implicitDefEqProofs)
  all_goals (repeat' (first | (with_reducible rfl) | split))
  all_goals (try simp_all -implicitDefEqProofs)
@[simp] theorem coreSet_banks (s : State) (c : Nat) (v : KCore) : (coreSet s c v).fls.banks = s.fls.banks := by
  unfold coreSet
  (try dsimp only)
  repeat' (first | (with_reducible rfl) | split)
  all_goals (try simp_all -implicitDefEqProofs)
  all_goals (repeat' (first | (with_reducible rfl) | split))
  all_goals (try simp_all -implicitDefEqProofs)
@[simp] theorem storeDrain_pending (s : State) (c : Nat) (w : KStore) : (storeDrain s c w).2.pending = s.pending := by
  unfold storeDrain
  (try dsimp only)
  repeat' (first | (with_reducible rfl) | split)
  all_goals (try simp_all -implicitDefEqProofs)
  all_goals (repeat' (first | (with_reducible rfl) | split))
  all_goals (try simp_all -implicitDefEqProofs)
@[simp] theorem storeDrain_lck (s : State) (c : Nat) (w : KStore) : (storeDrain s c w).2.lck = s.lck := by
  unfold storeDrain
  (try dsimp only)
  repeat' (first | (with_reducible rfl) | split)
  all_goals (try simp_all -implicitDefEqProofs)
  all_goals (repeat' (first | (with_reducible rfl) | split))
  all_goals (try simp_all -implicitDefEqProofs)
@[simp] theorem storeDrain_ready (s : State) (c : Nat) (w : KStore) : (storeDrain s c w).2.boot.ready = s.boot.ready := by
  unfold storeDrain
  (try dsimp only)
  repeat' (first | (with_reducible rfl) | split)
  all_goals (try simp_all -implicitDefEqProofs)
  all_goals (repeat' (first | (with_reducible rfl) | split))
  all_goals (try simp_all -implicitDefEqProofs)
@[simp] theorem storeDrain_phase (s : State) (c : Nat) (w : KStore) : (storeDrain s c w).2.cin.phase = s.cin.phase := by
  unfold storeDrain
  (try dsimp only)
  repeat' (first | (with_reducible rfl) | split)
  all_goals (try simp_all -implicitDefEqProofs)
  all_goals (repeat' (first | (with_reducible rfl) | split))
  all_goals (try simp_all -implicitDefEqProofs)
@[simp] theorem storeDrain_mem (s : State) (c : Nat) (w : KStore) : (storeDrain s c w).2.dram.mem = s.dram.mem := by
  unfold storeDrain
  (try dsimp only)
  repeat' (first | (with_reducible rfl) | split)
  all_goals (try simp_all -implicitDefEqProofs)
  all_goals (repeat' (first | (with_reducible rfl) | split))
  all_goals (try simp_all -implicitDefEqProofs)
@[simp] theorem storeDrain_banks (s : State) (c : Nat) (w : KStore) : (storeDrain s c w).2.fls.banks = s.fls.banks := by
  unfold storeDrain
  (try dsimp only)
  repeat' (first | (with_reducible rfl) | split)
  all_goals (try simp_all -implicitDefEqProofs)
  all_goals (repeat' (first | (with_reducible rfl) | split))
  all_goals (try simp_all -implicitDefEqProofs)
@[simp] theorem drainStores_pending (s : State) (c : Nat) (k : Nat) : (drainStores s c k).pending = s.pending := by
  induction k generalizing s with
  | zero => rfl
  | succ n ih =>
    unfold drainStores
    split
    · rfl
    · rename_i w r _
      have h := storeDrain_pending s c w
      split <;> (rename_i heq; rw [heq] at h)
      · rw [ih]; simpa using h
      · exact h
@[simp] theorem drainStores_ready (s : State) (c : Nat) (k : Nat) : (drainStores s c k).boot.ready = s.boot.ready := by
  induction k generalizing s with
  | zero => rfl
  | succ n ih =>
    unfold drainStores
    split
    · rfl
    · rename_i w r _
      have h := storeDrain_ready s c w
      split <;> (rename_i heq; rw [heq] at h)
      · rw [ih]; simpa using h
      · exact h
@[simp] theorem drainStores_phase (s : State) (c : Nat) (k : Nat) : (drainStores s c k).cin.phase = s.cin.phase := by
  induction k generalizing s with
  | zero => rfl
  | succ n ih =>
    unfold drainStores
    split
    · rfl
    · rename_i w r _
      have h := storeDrain_phase s c w
      split <;> (rename_i heq; rw [heq] at h)
      · rw [ih]; simpa using h
      · exact h
@[simp] theorem drainStores_mem (s : State) (c : Nat) (k : Nat) : (drainStores s c k).dram.mem = s.dram.mem := by
  induction k generalizing s with
  | zero => rfl
  | succ n ih =>
    unfold drainStores
    split
    · rfl
    · rename_i w r _
      have h := storeDrain_mem s c w
      split <;> (rename_i heq; rw [heq] at h)
      · rw [ih]; simpa using h
      · exact h
@[simp] theorem drainStores_banks (s : State) (c : Nat) (k : Nat) : (drainStores s c k).fls.banks = s.fls.banks := by
  induction k generalizing s with
  | zero => rfl
  | succ n ih =>
    unfold drainStores
    split
    · rfl
    · rename_i w r _
      have h := storeDrain_banks s c w
      split <;> (rename_i heq; rw [heq] at h)
      · rw [ih]; simpa using h
      · exact h

end Sys2Proof.Laws
end

