-- ==== Sys2Proof/Laws/KeepFaults.lean ====
section
/-!
SUPPORT. What the operations of Faults leave alone: one lemma for each operation and each part of the state that it never changes.
-/
namespace Sys2Proof.Laws
open Sys2Proof.Machine
set_option linter.unusedTactic false
set_option linter.unreachableTactic false
set_option linter.unusedVariables false
set_option linter.unusedSimpArgs false

@[simp] theorem poisonReads_pending (s : State) (p : HeldRead → Bool) : (poisonReads s p).2.pending = s.pending := by
  unfold poisonReads
  (try dsimp only)
  repeat' (first | (with_reducible rfl) | split)
  all_goals (try simp_all -implicitDefEqProofs)
  all_goals (repeat' (first | (with_reducible rfl) | split))
  all_goals (try simp_all -implicitDefEqProofs)
@[simp] theorem poisonReads_lck (s : State) (p : HeldRead → Bool) : (poisonReads s p).2.lck = s.lck := by
  unfold poisonReads
  (try dsimp only)
  repeat' (first | (with_reducible rfl) | split)
  all_goals (try simp_all -implicitDefEqProofs)
  all_goals (repeat' (first | (with_reducible rfl) | split))
  all_goals (try simp_all -implicitDefEqProofs)
@[simp] theorem poisonReads_ready (s : State) (p : HeldRead → Bool) : (poisonReads s p).2.boot.ready = s.boot.ready := by
  unfold poisonReads
  (try dsimp only)
  repeat' (first | (with_reducible rfl) | split)
  all_goals (try simp_all -implicitDefEqProofs)
  all_goals (repeat' (first | (with_reducible rfl) | split))
  all_goals (try simp_all -implicitDefEqProofs)
@[simp] theorem poisonReads_phase (s : State) (p : HeldRead → Bool) : (poisonReads s p).2.cin.phase = s.cin.phase := by
  unfold poisonReads
  (try dsimp only)
  repeat' (first | (with_reducible rfl) | split)
  all_goals (try simp_all -implicitDefEqProofs)
  all_goals (repeat' (first | (with_reducible rfl) | split))
  all_goals (try simp_all -implicitDefEqProofs)
@[simp] theorem poisonReads_mem (s : State) (p : HeldRead → Bool) : (poisonReads s p).2.dram.mem = s.dram.mem := by
  unfold poisonReads
  (try dsimp only)
  repeat' (first | (with_reducible rfl) | split)
  all_goals (try simp_all -implicitDefEqProofs)
  all_goals (repeat' (first | (with_reducible rfl) | split))
  all_goals (try simp_all -implicitDefEqProofs)
@[simp] theorem poisonReads_banks (s : State) (p : HeldRead → Bool) : (poisonReads s p).2.fls.banks = s.fls.banks := by
  unfold poisonReads
  (try dsimp only)
  repeat' (first | (with_reducible rfl) | split)
  all_goals (try simp_all -implicitDefEqProofs)
  all_goals (repeat' (first | (with_reducible rfl) | split))
  all_goals (try simp_all -implicitDefEqProofs)
@[simp] theorem disableBarriers_pending (s : State) (p : Barrier → Bool) : (disableBarriers s p).2.pending = s.pending := by
  unfold disableBarriers
  (try dsimp only)
  repeat' (first | (with_reducible rfl) | split)
  all_goals (try simp_all -implicitDefEqProofs)
  all_goals (repeat' (first | (with_reducible rfl) | split))
  all_goals (try simp_all -implicitDefEqProofs)
@[simp] theorem disableBarriers_lck (s : State) (p : Barrier → Bool) : (disableBarriers s p).2.lck = s.lck := by
  unfold disableBarriers
  (try dsimp only)
  repeat' (first | (with_reducible rfl) | split)
  all_goals (try simp_all -implicitDefEqProofs)
  all_goals (repeat' (first | (with_reducible rfl) | split))
  all_goals (try simp_all -implicitDefEqProofs)
@[simp] theorem disableBarriers_ready (s : State) (p : Barrier → Bool) : (disableBarriers s p).2.boot.ready = s.boot.ready := by
  unfold disableBarriers
  (try dsimp only)
  repeat' (first | (with_reducible rfl) | split)
  all_goals (try simp_all -implicitDefEqProofs)
  all_goals (repeat' (first | (with_reducible rfl) | split))
  all_goals (try simp_all -implicitDefEqProofs)
@[simp] theorem disableBarriers_phase (s : State) (p : Barrier → Bool) : (disableBarriers s p).2.cin.phase = s.cin.phase := by
  unfold disableBarriers
  (try dsimp only)
  repeat' (first | (with_reducible rfl) | split)
  all_goals (try simp_all -implicitDefEqProofs)
  all_goals (repeat' (first | (with_reducible rfl) | split))
  all_goals (try simp_all -implicitDefEqProofs)
@[simp] theorem disableBarriers_mem (s : State) (p : Barrier → Bool) : (disableBarriers s p).2.dram.mem = s.dram.mem := by
  unfold disableBarriers
  (try dsimp only)
  repeat' (first | (with_reducible rfl) | split)
  all_goals (try simp_all -implicitDefEqProofs)
  all_goals (repeat' (first | (with_reducible rfl) | split))
  all_goals (try simp_all -implicitDefEqProofs)
@[simp] theorem disableBarriers_banks (s : State) (p : Barrier → Bool) : (disableBarriers s p).2.fls.banks = s.fls.banks := by
  unfold disableBarriers
  (try dsimp only)
  repeat' (first | (with_reducible rfl) | split)
  all_goals (try simp_all -implicitDefEqProofs)
  all_goals (repeat' (first | (with_reducible rfl) | split))
  all_goals (try simp_all -implicitDefEqProofs)
@[simp] theorem clusterReset_pending (s : State) : (clusterReset s).pending = s.pending := by
  unfold clusterReset
  (try dsimp only)
  repeat' (first | (with_reducible rfl) | split)
  all_goals (try simp_all -implicitDefEqProofs)
  all_goals (repeat' (first | (with_reducible rfl) | split))
  all_goals (try simp_all -implicitDefEqProofs)
@[simp] theorem clusterReset_lck (s : State) : (clusterReset s).lck = s.lck := by
  unfold clusterReset
  (try dsimp only)
  repeat' (first | (with_reducible rfl) | split)
  all_goals (try simp_all -implicitDefEqProofs)
  all_goals (repeat' (first | (with_reducible rfl) | split))
  all_goals (try simp_all -implicitDefEqProofs)
@[simp] theorem clusterReset_ready (s : State) : (clusterReset s).boot.ready = s.boot.ready := by
  unfold clusterReset
  (try dsimp only)
  repeat' (first | (with_reducible rfl) | split)
  all_goals (try simp_all -implicitDefEqProofs)
  all_goals (repeat' (first | (with_reducible rfl) | split))
  all_goals (try simp_all -implicitDefEqProofs)
@[simp] theorem clusterReset_phase (s : State) : (clusterReset s).cin.phase = s.cin.phase := by
  unfold clusterReset
  (try dsimp only)
  repeat' (first | (with_reducible rfl) | split)
  all_goals (try simp_all -implicitDefEqProofs)
  all_goals (repeat' (first | (with_reducible rfl) | split))
  all_goals (try simp_all -implicitDefEqProofs)
@[simp] theorem clusterReset_mem (s : State) : (clusterReset s).dram.mem = s.dram.mem := by
  unfold clusterReset
  (try dsimp only)
  repeat' (first | (with_reducible rfl) | split)
  all_goals (try simp_all -implicitDefEqProofs)
  all_goals (repeat' (first | (with_reducible rfl) | split))
  all_goals (try simp_all -implicitDefEqProofs)
@[simp] theorem clusterReset_banks (s : State) : (clusterReset s).fls.banks = s.fls.banks := by
  unfold clusterReset
  (try dsimp only)
  repeat' (first | (with_reducible rfl) | split)
  all_goals (try simp_all -implicitDefEqProofs)
  all_goals (repeat' (first | (with_reducible rfl) | split))
  all_goals (try simp_all -implicitDefEqProofs)
@[simp] theorem fnReturn_pending (s : State) (f : Fn) : (fnReturn s f).pending = s.pending := by
  unfold fnReturn
  (try dsimp only)
  repeat' (first | (with_reducible rfl) | split)
  all_goals (try simp_all -implicitDefEqProofs)
  all_goals (repeat' (first | (with_reducible rfl) | split))
  all_goals (try simp_all -implicitDefEqProofs)
@[simp] theorem fnReturn_lck (s : State) (f : Fn) : (fnReturn s f).lck = s.lck := by
  unfold fnReturn
  (try dsimp only)
  repeat' (first | (with_reducible rfl) | split)
  all_goals (try simp_all -implicitDefEqProofs)
  all_goals (repeat' (first | (with_reducible rfl) | split))
  all_goals (try simp_all -implicitDefEqProofs)
@[simp] theorem fnReturn_ready (s : State) (f : Fn) : (fnReturn s f).boot.ready = s.boot.ready := by
  unfold fnReturn
  (try dsimp only)
  repeat' (first | (with_reducible rfl) | split)
  all_goals (try simp_all -implicitDefEqProofs)
  all_goals (repeat' (first | (with_reducible rfl) | split))
  all_goals (try simp_all -implicitDefEqProofs)
@[simp] theorem fnReturn_phase (s : State) (f : Fn) : (fnReturn s f).cin.phase = s.cin.phase := by
  unfold fnReturn
  (try dsimp only)
  repeat' (first | (with_reducible rfl) | split)
  all_goals (try simp_all -implicitDefEqProofs)
  all_goals (repeat' (first | (with_reducible rfl) | split))
  all_goals (try simp_all -implicitDefEqProofs)
@[simp] theorem fnReturn_mem (s : State) (f : Fn) : (fnReturn s f).dram.mem = s.dram.mem := by
  unfold fnReturn
  (try dsimp only)
  repeat' (first | (with_reducible rfl) | split)
  all_goals (try simp_all -implicitDefEqProofs)
  all_goals (repeat' (first | (with_reducible rfl) | split))
  all_goals (try simp_all -implicitDefEqProofs)
@[simp] theorem fnReturn_banks (s : State) (f : Fn) : (fnReturn s f).fls.banks = s.fls.banks := by
  unfold fnReturn
  (try dsimp only)
  repeat' (first | (with_reducible rfl) | split)
  all_goals (try simp_all -implicitDefEqProofs)
  all_goals (repeat' (first | (with_reducible rfl) | split))
  all_goals (try simp_all -implicitDefEqProofs)
@[simp] theorem ldConnsError_pending (s : State) (n : Nat) : (ldConnsError s n).pending = s.pending := by
  unfold ldConnsError
  (try dsimp only)
  repeat' (first | (with_reducible rfl) | split)
  all_goals (try simp_all -implicitDefEqProofs)
  all_goals (repeat' (first | (with_reducible rfl) | split))
  all_goals (try simp_all -implicitDefEqProofs)
@[simp] theorem ldConnsError_lck (s : State) (n : Nat) : (ldConnsError s n).lck = s.lck := by
  unfold ldConnsError
  (try dsimp only)
  repeat' (first | (with_reducible rfl) | split)
  all_goals (try simp_all -implicitDefEqProofs)
  all_goals (repeat' (first | (with_reducible rfl) | split))
  all_goals (try simp_all -implicitDefEqProofs)
@[simp] theorem ldConnsError_ready (s : State) (n : Nat) : (ldConnsError s n).boot.ready = s.boot.ready := by
  unfold ldConnsError
  (try dsimp only)
  repeat' (first | (with_reducible rfl) | split)
  all_goals (try simp_all -implicitDefEqProofs)
  all_goals (repeat' (first | (with_reducible rfl) | split))
  all_goals (try simp_all -implicitDefEqProofs)
@[simp] theorem ldConnsError_phase (s : State) (n : Nat) : (ldConnsError s n).cin.phase = s.cin.phase := by
  unfold ldConnsError
  (try dsimp only)
  repeat' (first | (with_reducible rfl) | split)
  all_goals (try simp_all -implicitDefEqProofs)
  all_goals (repeat' (first | (with_reducible rfl) | split))
  all_goals (try simp_all -implicitDefEqProofs)
@[simp] theorem ldConnsError_mem (s : State) (n : Nat) : (ldConnsError s n).dram.mem = s.dram.mem := by
  unfold ldConnsError
  (try dsimp only)
  repeat' (first | (with_reducible rfl) | split)
  all_goals (try simp_all -implicitDefEqProofs)
  all_goals (repeat' (first | (with_reducible rfl) | split))
  all_goals (try simp_all -implicitDefEqProofs)
@[simp] theorem ldConnsError_banks (s : State) (n : Nat) : (ldConnsError s n).fls.banks = s.fls.banks := by
  unfold ldConnsError
  (try dsimp only)
  repeat' (first | (with_reducible rfl) | split)
  all_goals (try simp_all -implicitDefEqProofs)
  all_goals (repeat' (first | (with_reducible rfl) | split))
  all_goals (try simp_all -implicitDefEqProofs)
@[simp] theorem unitResetWrite_pending (s : State) (f : Fn) : (unitResetWrite s f).pending = s.pending := by
  unfold unitResetWrite
  (try dsimp only)
  repeat' (first | (with_reducible rfl) | split)
  all_goals (try simp_all -implicitDefEqProofs)
  all_goals (repeat' (first | (with_reducible rfl) | split))
  all_goals (try simp_all -implicitDefEqProofs)
@[simp] theorem unitResetWrite_lck (s : State) (f : Fn) : (unitResetWrite s f).lck = s.lck := by
  unfold unitResetWrite
  (try dsimp only)
  repeat' (first | (with_reducible rfl) | split)
  all_goals (try simp_all -implicitDefEqProofs)
  all_goals (repeat' (first | (with_reducible rfl) | split))
  all_goals (try simp_all -implicitDefEqProofs)
@[simp] theorem unitResetWrite_ready (s : State) (f : Fn) : (unitResetWrite s f).boot.ready = s.boot.ready := by
  unfold unitResetWrite
  (try dsimp only)
  repeat' (first | (with_reducible rfl) | split)
  all_goals (try simp_all -implicitDefEqProofs)
  all_goals (repeat' (first | (with_reducible rfl) | split))
  all_goals (try simp_all -implicitDefEqProofs)
@[simp] theorem unitResetWrite_phase (s : State) (f : Fn) : (unitResetWrite s f).cin.phase = s.cin.phase := by
  unfold unitResetWrite
  (try dsimp only)
  repeat' (first | (with_reducible rfl) | split)
  all_goals (try simp_all -implicitDefEqProofs)
  all_goals (repeat' (first | (with_reducible rfl) | split))
  all_goals (try simp_all -implicitDefEqProofs)
@[simp] theorem unitResetWrite_mem (s : State) (f : Fn) : (unitResetWrite s f).dram.mem = s.dram.mem := by
  unfold unitResetWrite
  (try dsimp only)
  repeat' (first | (with_reducible rfl) | split)
  all_goals (try simp_all -implicitDefEqProofs)
  all_goals (repeat' (first | (with_reducible rfl) | split))
  all_goals (try simp_all -implicitDefEqProofs)
@[simp] theorem unitResetWrite_banks (s : State) (f : Fn) : (unitResetWrite s f).fls.banks = s.fls.banks := by
  unfold unitResetWrite
  (try dsimp only)
  repeat' (first | (with_reducible rfl) | split)
  all_goals (try simp_all -implicitDefEqProofs)
  all_goals (repeat' (first | (with_reducible rfl) | split))
  all_goals (try simp_all -implicitDefEqProofs)
@[simp] theorem guardFault_pending (s : State) (u : FUnit) (inst : Nat) : (guardFault s u inst).pending = s.pending := by
  unfold guardFault
  (try dsimp only)
  repeat' (first | (with_reducible rfl) | split)
  all_goals (try simp_all -implicitDefEqProofs)
  all_goals (repeat' (first | (with_reducible rfl) | split))
  all_goals (try simp_all -implicitDefEqProofs)
@[simp] theorem guardFault_mem (s : State) (u : FUnit) (inst : Nat) : (guardFault s u inst).dram.mem = s.dram.mem := by
  unfold guardFault
  (try dsimp only)
  repeat' (first | (with_reducible rfl) | split)
  all_goals (try simp_all -implicitDefEqProofs)
  all_goals (repeat' (first | (with_reducible rfl) | split))
  all_goals (try simp_all -implicitDefEqProofs)
@[simp] theorem replicaOut_pending (s : State) (u : FUnit) : (replicaOut s u).pending = s.pending := by
  unfold replicaOut
  (try dsimp only)
  repeat' (first | (with_reducible rfl) | split)
  all_goals (try simp_all -implicitDefEqProofs)
  all_goals (repeat' (first | (with_reducible rfl) | split))
  all_goals (try simp_all -implicitDefEqProofs)
@[simp] theorem replicaOut_lck (s : State) (u : FUnit) : (replicaOut s u).lck = s.lck := by
  unfold replicaOut
  (try dsimp only)
  repeat' (first | (with_reducible rfl) | split)
  all_goals (try simp_all -implicitDefEqProofs)
  all_goals (repeat' (first | (with_reducible rfl) | split))
  all_goals (try simp_all -implicitDefEqProofs)
@[simp] theorem replicaOut_ready (s : State) (u : FUnit) : (replicaOut s u).boot.ready = s.boot.ready := by
  unfold replicaOut
  (try dsimp only)
  repeat' (first | (with_reducible rfl) | split)
  all_goals (try simp_all -implicitDefEqProofs)
  all_goals (repeat' (first | (with_reducible rfl) | split))
  all_goals (try simp_all -implicitDefEqProofs)
@[simp] theorem replicaOut_phase (s : State) (u : FUnit) : (replicaOut s u).cin.phase = s.cin.phase := by
  unfold replicaOut
  (try dsimp only)
  repeat' (first | (with_reducible rfl) | split)
  all_goals (try simp_all -implicitDefEqProofs)
  all_goals (repeat' (first | (with_reducible rfl) | split))
  all_goals (try simp_all -implicitDefEqProofs)
@[simp] theorem replicaOut_mem (s : State) (u : FUnit) : (replicaOut s u).dram.mem = s.dram.mem := by
  unfold replicaOut
  (try dsimp only)
  repeat' (first | (with_reducible rfl) | split)
  all_goals (try simp_all -implicitDefEqProofs)
  all_goals (repeat' (first | (with_reducible rfl) | split))
  all_goals (try simp_all -implicitDefEqProofs)
@[simp] theorem replicaOut_banks (s : State) (u : FUnit) : (replicaOut s u).fls.banks = s.fls.banks := by
  unfold replicaOut
  (try dsimp only)
  repeat' (first | (with_reducible rfl) | split)
  all_goals (try simp_all -implicitDefEqProofs)
  all_goals (repeat' (first | (with_reducible rfl) | split))
  all_goals (try simp_all -implicitDefEqProofs)
@[simp] theorem fnHome_pending (s : State) (f : Fn) : (fnHome s f).pending = s.pending := by
  unfold fnHome
  (try dsimp only)
  repeat' (first | (with_reducible rfl) | split)
  all_goals (try simp_all -implicitDefEqProofs)
  all_goals (repeat' (first | (with_reducible rfl) | split))
  all_goals (try simp_all -implicitDefEqProofs)
@[simp] theorem fnHome_lck (s : State) (f : Fn) : (fnHome s f).lck = s.lck := by
  unfold fnHome
  (try dsimp only)
  repeat' (first | (with_reducible rfl) | split)
  all_goals (try simp_all -implicitDefEqProofs)
  all_goals (repeat' (first | (with_reducible rfl) | split))
  all_goals (try simp_all -implicitDefEqProofs)
@[simp] theorem fnHome_ready (s : State) (f : Fn) : (fnHome s f).boot.ready = s.boot.ready := by
  unfold fnHome
  (try dsimp only)
  repeat' (first | (with_reducible rfl) | split)
  all_goals (try simp_all -implicitDefEqProofs)
  all_goals (repeat' (first | (with_reducible rfl) | split))
  all_goals (try simp_all -implicitDefEqProofs)
@[simp] theorem fnHome_phase (s : State) (f : Fn) : (fnHome s f).cin.phase = s.cin.phase := by
  unfold fnHome
  (try dsimp only)
  repeat' (first | (with_reducible rfl) | split)
  all_goals (try simp_all -implicitDefEqProofs)
  all_goals (repeat' (first | (with_reducible rfl) | split))
  all_goals (try simp_all -implicitDefEqProofs)
@[simp] theorem fnHome_mem (s : State) (f : Fn) : (fnHome s f).dram.mem = s.dram.mem := by
  unfold fnHome
  (try dsimp only)
  repeat' (first | (with_reducible rfl) | split)
  all_goals (try simp_all -implicitDefEqProofs)
  all_goals (repeat' (first | (with_reducible rfl) | split))
  all_goals (try simp_all -implicitDefEqProofs)
@[simp] theorem fnHome_banks (s : State) (f : Fn) : (fnHome s f).fls.banks = s.fls.banks := by
  unfold fnHome
  (try dsimp only)
  repeat' (first | (with_reducible rfl) | split)
  all_goals (try simp_all -implicitDefEqProofs)
  all_goals (repeat' (first | (with_reducible rfl) | split))
  all_goals (try simp_all -implicitDefEqProofs)

end Sys2Proof.Laws
end

