-- ==== Sys2Proof/Laws/KeepOperands.lean ====
section
/-!
SUPPORT. What the operations of Operands leave alone: one lemma for each operation and each part of the state that it never changes.
-/
namespace Sys2Proof.Laws
open Sys2Proof.Machine
set_option linter.unusedTactic false
set_option linter.unreachableTactic false
set_option linter.unusedVariables false
set_option linter.unusedSimpArgs false

@[simp] theorem fldWrite_pending (s : State) (f : Fld) (v : Nat) : (fldWrite s f v).pending = s.pending := by
  unfold fldWrite
  (try dsimp only)
  repeat' (first | (with_reducible rfl) | split)
  all_goals (try simp_all -implicitDefEqProofs)
  all_goals (repeat' (first | (with_reducible rfl) | split))
  all_goals (try simp_all -implicitDefEqProofs)
@[simp] theorem fldWrite_lck (s : State) (f : Fld) (v : Nat) : (fldWrite s f v).lck = s.lck := by
  unfold fldWrite
  (try dsimp only)
  repeat' (first | (with_reducible rfl) | split)
  all_goals (try simp_all -implicitDefEqProofs)
  all_goals (repeat' (first | (with_reducible rfl) | split))
  all_goals (try simp_all -implicitDefEqProofs)
@[simp] theorem fldWrite_ready (s : State) (f : Fld) (v : Nat) : (fldWrite s f v).boot.ready = s.boot.ready := by
  unfold fldWrite
  (try dsimp only)
  repeat' (first | (with_reducible rfl) | split)
  all_goals (try simp_all -implicitDefEqProofs)
  all_goals (repeat' (first | (with_reducible rfl) | split))
  all_goals (try simp_all -implicitDefEqProofs)
@[simp] theorem fldWrite_phase (s : State) (f : Fld) (v : Nat) : (fldWrite s f v).cin.phase = s.cin.phase := by
  unfold fldWrite
  (try dsimp only)
  repeat' (first | (with_reducible rfl) | split)
  all_goals (try simp_all -implicitDefEqProofs)
  all_goals (repeat' (first | (with_reducible rfl) | split))
  all_goals (try simp_all -implicitDefEqProofs)
@[simp] theorem fldWrite_mem (s : State) (f : Fld) (v : Nat) : (fldWrite s f v).dram.mem = s.dram.mem := by
  unfold fldWrite
  (try dsimp only)
  repeat' (first | (with_reducible rfl) | split)
  all_goals (try simp_all -implicitDefEqProofs)
  all_goals (repeat' (first | (with_reducible rfl) | split))
  all_goals (try simp_all -implicitDefEqProofs)
@[simp] theorem fldWrite_banks (s : State) (f : Fld) (v : Nat) : (fldWrite s f v).fls.banks = s.fls.banks := by
  unfold fldWrite
  (try dsimp only)
  repeat' (first | (with_reducible rfl) | split)
  all_goals (try simp_all -implicitDefEqProofs)
  all_goals (repeat' (first | (with_reducible rfl) | split))
  all_goals (try simp_all -implicitDefEqProofs)
@[simp] theorem fldStage_pending (s : State) (f : Fld) (v : Nat) : (fldStage s f v).pending = s.pending := by
  unfold fldStage
  (try dsimp only)
  repeat' (first | (with_reducible rfl) | split)
  all_goals (try simp_all -implicitDefEqProofs)
  all_goals (repeat' (first | (with_reducible rfl) | split))
  all_goals (try simp_all -implicitDefEqProofs)
@[simp] theorem fldStage_lck (s : State) (f : Fld) (v : Nat) : (fldStage s f v).lck = s.lck := by
  unfold fldStage
  (try dsimp only)
  repeat' (first | (with_reducible rfl) | split)
  all_goals (try simp_all -implicitDefEqProofs)
  all_goals (repeat' (first | (with_reducible rfl) | split))
  all_goals (try simp_all -implicitDefEqProofs)
@[simp] theorem fldStage_ready (s : State) (f : Fld) (v : Nat) : (fldStage s f v).boot.ready = s.boot.ready := by
  unfold fldStage
  (try dsimp only)
  repeat' (first | (with_reducible rfl) | split)
  all_goals (try simp_all -implicitDefEqProofs)
  all_goals (repeat' (first | (with_reducible rfl) | split))
  all_goals (try simp_all -implicitDefEqProofs)
@[simp] theorem fldStage_phase (s : State) (f : Fld) (v : Nat) : (fldStage s f v).cin.phase = s.cin.phase := by
  unfold fldStage
  (try dsimp only)
  repeat' (first | (with_reducible rfl) | split)
  all_goals (try simp_all -implicitDefEqProofs)
  all_goals (repeat' (first | (with_reducible rfl) | split))
  all_goals (try simp_all -implicitDefEqProofs)
@[simp] theorem fldStage_mem (s : State) (f : Fld) (v : Nat) : (fldStage s f v).dram.mem = s.dram.mem := by
  unfold fldStage
  (try dsimp only)
  repeat' (first | (with_reducible rfl) | split)
  all_goals (try simp_all -implicitDefEqProofs)
  all_goals (repeat' (first | (with_reducible rfl) | split))
  all_goals (try simp_all -implicitDefEqProofs)
@[simp] theorem fldStage_banks (s : State) (f : Fld) (v : Nat) : (fldStage s f v).fls.banks = s.fls.banks := by
  unfold fldStage
  (try dsimp only)
  repeat' (first | (with_reducible rfl) | split)
  all_goals (try simp_all -implicitDefEqProofs)
  all_goals (repeat' (first | (with_reducible rfl) | split))
  all_goals (try simp_all -implicitDefEqProofs)

end Sys2Proof.Laws
end

