-- ==== Sys2Proof/Laws/KeepFlashCmds.lean ====
section
/-!
SUPPORT. What the operations of FlashCmds leave alone: one lemma for each operation and each part of the state that it never changes.
-/
namespace Sys2Proof.Laws
open Sys2Proof.Machine
set_option linter.unusedTactic false
set_option linter.unreachableTactic false
set_option linter.unusedVariables false
set_option linter.unusedSimpArgs false

@[simp] theorem flsRelease_pending (s : State) (b : Nat) : (flsRelease s b).pending = s.pending := by
  unfold flsRelease
  (try dsimp only)
  repeat' (first | (with_reducible rfl) | split)
  all_goals (try simp_all -implicitDefEqProofs)
  all_goals (repeat' (first | (with_reducible rfl) | split))
  all_goals (try simp_all -implicitDefEqProofs)
@[simp] theorem flsRelease_lck (s : State) (b : Nat) : (flsRelease s b).lck = s.lck := by
  unfold flsRelease
  (try dsimp only)
  repeat' (first | (with_reducible rfl) | split)
  all_goals (try simp_all -implicitDefEqProofs)
  all_goals (repeat' (first | (with_reducible rfl) | split))
  all_goals (try simp_all -implicitDefEqProofs)
@[simp] theorem flsRelease_ready (s : State) (b : Nat) : (flsRelease s b).boot.ready = s.boot.ready := by
  unfold flsRelease
  (try dsimp only)
  repeat' (first | (with_reducible rfl) | split)
  all_goals (try simp_all -implicitDefEqProofs)
  all_goals (repeat' (first | (with_reducible rfl) | split))
  all_goals (try simp_all -implicitDefEqProofs)
@[simp] theorem flsRelease_phase (s : State) (b : Nat) : (flsRelease s b).cin.phase = s.cin.phase := by
  unfold flsRelease
  (try dsimp only)
  repeat' (first | (with_reducible rfl) | split)
  all_goals (try simp_all -implicitDefEqProofs)
  all_goals (repeat' (first | (with_reducible rfl) | split))
  all_goals (try simp_all -implicitDefEqProofs)
@[simp] theorem flsRelease_mem (s : State) (b : Nat) : (flsRelease s b).dram.mem = s.dram.mem := by
  unfold flsRelease
  (try dsimp only)
  repeat' (first | (with_reducible rfl) | split)
  all_goals (try simp_all -implicitDefEqProofs)
  all_goals (repeat' (first | (with_reducible rfl) | split))
  all_goals (try simp_all -implicitDefEqProofs)
@[simp] theorem flsRelease_banks (s : State) (b : Nat) : (flsRelease s b).fls.banks = s.fls.banks := by
  unfold flsRelease
  (try dsimp only)
  repeat' (first | (with_reducible rfl) | split)
  all_goals (try simp_all -implicitDefEqProofs)
  all_goals (repeat' (first | (with_reducible rfl) | split))
  all_goals (try simp_all -implicitDefEqProofs)
@[simp] theorem flsBusyRead_pending (s : State) (b reason sector : Nat) : (flsBusyRead s b reason sector).pending = s.pending := by
  unfold flsBusyRead
  (try dsimp only)
  repeat' (first | (with_reducible rfl) | split)
  all_goals (try simp_all -implicitDefEqProofs)
  all_goals (repeat' (first | (with_reducible rfl) | split))
  all_goals (try simp_all -implicitDefEqProofs)
@[simp] theorem flsBusyRead_lck (s : State) (b reason sector : Nat) : (flsBusyRead s b reason sector).lck = s.lck := by
  unfold flsBusyRead
  (try dsimp only)
  repeat' (first | (with_reducible rfl) | split)
  all_goals (try simp_all -implicitDefEqProofs)
  all_goals (repeat' (first | (with_reducible rfl) | split))
  all_goals (try simp_all -implicitDefEqProofs)
@[simp] theorem flsBusyRead_ready (s : State) (b reason sector : Nat) : (flsBusyRead s b reason sector).boot.ready = s.boot.ready := by
  unfold flsBusyRead
  (try dsimp only)
  repeat' (first | (with_reducible rfl) | split)
  all_goals (try simp_all -implicitDefEqProofs)
  all_goals (repeat' (first | (with_reducible rfl) | split))
  all_goals (try simp_all -implicitDefEqProofs)
@[simp] theorem flsBusyRead_phase (s : State) (b reason sector : Nat) : (flsBusyRead s b reason sector).cin.phase = s.cin.phase := by
  unfold flsBusyRead
  (try dsimp only)
  repeat' (first | (with_reducible rfl) | split)
  all_goals (try simp_all -implicitDefEqProofs)
  all_goals (repeat' (first | (with_reducible rfl) | split))
  all_goals (try simp_all -implicitDefEqProofs)
@[simp] theorem flsBusyRead_mem (s : State) (b reason sector : Nat) : (flsBusyRead s b reason sector).dram.mem = s.dram.mem := by
  unfold flsBusyRead
  (try dsimp only)
  repeat' (first | (with_reducible rfl) | split)
  all_goals (try simp_all -implicitDefEqProofs)
  all_goals (repeat' (first | (with_reducible rfl) | split))
  all_goals (try simp_all -implicitDefEqProofs)
@[simp] theorem flsStart_pending (s : State) (b : Nat) (o : FlsOp) : (flsStart s b o).pending = s.pending := by
  unfold flsStart
  (try dsimp only)
  repeat' (first | (with_reducible rfl) | split)
  all_goals (try simp_all -implicitDefEqProofs)
  all_goals (repeat' (first | (with_reducible rfl) | split))
  all_goals (try simp_all -implicitDefEqProofs)
@[simp] theorem flsStart_lck (s : State) (b : Nat) (o : FlsOp) : (flsStart s b o).lck = s.lck := by
  unfold flsStart
  (try dsimp only)
  repeat' (first | (with_reducible rfl) | split)
  all_goals (try simp_all -implicitDefEqProofs)
  all_goals (repeat' (first | (with_reducible rfl) | split))
  all_goals (try simp_all -implicitDefEqProofs)
@[simp] theorem flsStart_ready (s : State) (b : Nat) (o : FlsOp) : (flsStart s b o).boot.ready = s.boot.ready := by
  unfold flsStart
  (try dsimp only)
  repeat' (first | (with_reducible rfl) | split)
  all_goals (try simp_all -implicitDefEqProofs)
  all_goals (repeat' (first | (with_reducible rfl) | split))
  all_goals (try simp_all -implicitDefEqProofs)
@[simp] theorem flsStart_phase (s : State) (b : Nat) (o : FlsOp) : (flsStart s b o).cin.phase = s.cin.phase := by
  unfold flsStart
  (try dsimp only)
  repeat' (first | (with_reducible rfl) | split)
  all_goals (try simp_all -implicitDefEqProofs)
  all_goals (repeat' (first | (with_reducible rfl) | split))
  all_goals (try simp_all -implicitDefEqProofs)
@[simp] theorem flsStart_mem (s : State) (b : Nat) (o : FlsOp) : (flsStart s b o).dram.mem = s.dram.mem := by
  unfold flsStart
  (try dsimp only)
  repeat' (first | (with_reducible rfl) | split)
  all_goals (try simp_all -implicitDefEqProofs)
  all_goals (repeat' (first | (with_reducible rfl) | split))
  all_goals (try simp_all -implicitDefEqProofs)
@[simp] theorem flsNext_pending (s : State) (b : Nat) : (flsNext s b).pending = s.pending := by
  unfold flsNext
  (try dsimp only)
  repeat' (first | (with_reducible rfl) | split)
  all_goals (try simp_all -implicitDefEqProofs)
  all_goals (repeat' (first | (with_reducible rfl) | split))
  all_goals (try simp_all -implicitDefEqProofs)
@[simp] theorem flsNext_lck (s : State) (b : Nat) : (flsNext s b).lck = s.lck := by
  unfold flsNext
  (try dsimp only)
  repeat' (first | (with_reducible rfl) | split)
  all_goals (try simp_all -implicitDefEqProofs)
  all_goals (repeat' (first | (with_reducible rfl) | split))
  all_goals (try simp_all -implicitDefEqProofs)
@[simp] theorem flsNext_ready (s : State) (b : Nat) : (flsNext s b).boot.ready = s.boot.ready := by
  unfold flsNext
  (try dsimp only)
  repeat' (first | (with_reducible rfl) | split)
  all_goals (try simp_all -implicitDefEqProofs)
  all_goals (repeat' (first | (with_reducible rfl) | split))
  all_goals (try simp_all -implicitDefEqProofs)
@[simp] theorem flsNext_phase (s : State) (b : Nat) : (flsNext s b).cin.phase = s.cin.phase := by
  unfold flsNext
  (try dsimp only)
  repeat' (first | (with_reducible rfl) | split)
  all_goals (try simp_all -implicitDefEqProofs)
  all_goals (repeat' (first | (with_reducible rfl) | split))
  all_goals (try simp_all -implicitDefEqProofs)
@[simp] theorem flsNext_mem (s : State) (b : Nat) : (flsNext s b).dram.mem = s.dram.mem := by
  unfold flsNext
  (try dsimp only)
  repeat' (first | (with_reducible rfl) | split)
  all_goals (try simp_all -implicitDefEqProofs)
  all_goals (repeat' (first | (with_reducible rfl) | split))
  all_goals (try simp_all -implicitDefEqProofs)
@[simp] theorem suspendLost_pending (s : State) (b : Nat) : (suspendLost s b).pending = s.pending := by
  unfold suspendLost
  (try dsimp only)
  repeat' (first | (with_reducible rfl) | split)
  all_goals (try simp_all -implicitDefEqProofs)
  all_goals (repeat' (first | (with_reducible rfl) | split))
  all_goals (try simp_all -implicitDefEqProofs)
@[simp] theorem suspendLost_lck (s : State) (b : Nat) : (suspendLost s b).lck = s.lck := by
  unfold suspendLost
  (try dsimp only)
  repeat' (first | (with_reducible rfl) | split)
  all_goals (try simp_all -implicitDefEqProofs)
  all_goals (repeat' (first | (with_reducible rfl) | split))
  all_goals (try simp_all -implicitDefEqProofs)
@[simp] theorem suspendLost_ready (s : State) (b : Nat) : (suspendLost s b).boot.ready = s.boot.ready := by
  unfold suspendLost
  (try dsimp only)
  repeat' (first | (with_reducible rfl) | split)
  all_goals (try simp_all -implicitDefEqProofs)
  all_goals (repeat' (first | (with_reducible rfl) | split))
  all_goals (try simp_all -implicitDefEqProofs)
@[simp] theorem suspendLost_phase (s : State) (b : Nat) : (suspendLost s b).cin.phase = s.cin.phase := by
  unfold suspendLost
  (try dsimp only)
  repeat' (first | (with_reducible rfl) | split)
  all_goals (try simp_all -implicitDefEqProofs)
  all_goals (repeat' (first | (with_reducible rfl) | split))
  all_goals (try simp_all -implicitDefEqProofs)
@[simp] theorem suspendLost_mem (s : State) (b : Nat) : (suspendLost s b).dram.mem = s.dram.mem := by
  unfold suspendLost
  (try dsimp only)
  repeat' (first | (with_reducible rfl) | split)
  all_goals (try simp_all -implicitDefEqProofs)
  all_goals (repeat' (first | (with_reducible rfl) | split))
  all_goals (try simp_all -implicitDefEqProofs)
@[simp] theorem flsScan_pending (s : State) : (flsScan s).pending = s.pending := by
  unfold flsScan
  (try dsimp only)
  repeat' (first | (with_reducible rfl) | split)
  all_goals (try simp_all -implicitDefEqProofs)
  all_goals (repeat' (first | (with_reducible rfl) | split))
  all_goals (try simp_all -implicitDefEqProofs)
@[simp] theorem flsScan_lck (s : State) : (flsScan s).lck = s.lck := by
  unfold flsScan
  (try dsimp only)
  repeat' (first | (with_reducible rfl) | split)
  all_goals (try simp_all -implicitDefEqProofs)
  all_goals (repeat' (first | (with_reducible rfl) | split))
  all_goals (try simp_all -implicitDefEqProofs)
@[simp] theorem flsScan_ready (s : State) : (flsScan s).boot.ready = s.boot.ready := by
  unfold flsScan
  (try dsimp only)
  repeat' (first | (with_reducible rfl) | split)
  all_goals (try simp_all -implicitDefEqProofs)
  all_goals (repeat' (first | (with_reducible rfl) | split))
  all_goals (try simp_all -implicitDefEqProofs)
@[simp] theorem flsScan_phase (s : State) : (flsScan s).cin.phase = s.cin.phase := by
  unfold flsScan
  (try dsimp only)
  repeat' (first | (with_reducible rfl) | split)
  all_goals (try simp_all -implicitDefEqProofs)
  all_goals (repeat' (first | (with_reducible rfl) | split))
  all_goals (try simp_all -implicitDefEqProofs)
@[simp] theorem flsScan_mem (s : State) : (flsScan s).dram.mem = s.dram.mem := by
  unfold flsScan
  (try dsimp only)
  repeat' (first | (with_reducible rfl) | split)
  all_goals (try simp_all -implicitDefEqProofs)
  all_goals (repeat' (first | (with_reducible rfl) | split))
  all_goals (try simp_all -implicitDefEqProofs)

end Sys2Proof.Laws
end

