-- ==== Sys2Proof/Laws/KeepFirmwareOps.lean ====
section
/-!
SUPPORT. What the operations of FirmwareOps leave alone: one lemma for each operation and each part of the state that it never changes.
-/
namespace Sys2Proof.Laws
open Sys2Proof.Machine
set_option linter.unusedTactic false
set_option linter.unreachableTactic false
set_option linter.unusedVariables false
set_option linter.unusedSimpArgs false

@[simp] theorem fwSet_pending (s : State) (f : Fw) : (fwSet s f).pending = s.pending := by
  unfold fwSet
  (try dsimp only)
  repeat' (first | (with_reducible rfl) | split)
  all_goals (try simp_all -implicitDefEqProofs)
  all_goals (repeat' (first | (with_reducible rfl) | split))
  all_goals (try simp_all -implicitDefEqProofs)
@[simp] theorem fwSet_lck (s : State) (f : Fw) : (fwSet s f).lck = s.lck := by
  unfold fwSet
  (try dsimp only)
  repeat' (first | (with_reducible rfl) | split)
  all_goals (try simp_all -implicitDefEqProofs)
  all_goals (repeat' (first | (with_reducible rfl) | split))
  all_goals (try simp_all -implicitDefEqProofs)
@[simp] theorem fwSet_ready (s : State) (f : Fw) : (fwSet s f).boot.ready = s.boot.ready := by
  unfold fwSet
  (try dsimp only)
  repeat' (first | (with_reducible rfl) | split)
  all_goals (try simp_all -implicitDefEqProofs)
  all_goals (repeat' (first | (with_reducible rfl) | split))
  all_goals (try simp_all -implicitDefEqProofs)
@[simp] theorem fwSet_phase (s : State) (f : Fw) : (fwSet s f).cin.phase = s.cin.phase := by
  unfold fwSet
  (try dsimp only)
  repeat' (first | (with_reducible rfl) | split)
  all_goals (try simp_all -implicitDefEqProofs)
  all_goals (repeat' (first | (with_reducible rfl) | split))
  all_goals (try simp_all -implicitDefEqProofs)
@[simp] theorem fwSet_mem (s : State) (f : Fw) : (fwSet s f).dram.mem = s.dram.mem := by
  unfold fwSet
  (try dsimp only)
  repeat' (first | (with_reducible rfl) | split)
  all_goals (try simp_all -implicitDefEqProofs)
  all_goals (repeat' (first | (with_reducible rfl) | split))
  all_goals (try simp_all -implicitDefEqProofs)
@[simp] theorem fwSet_banks (s : State) (f : Fw) : (fwSet s f).fls.banks = s.fls.banks := by
  unfold fwSet
  (try dsimp only)
  repeat' (first | (with_reducible rfl) | split)
  all_goals (try simp_all -implicitDefEqProofs)
  all_goals (repeat' (first | (with_reducible rfl) | split))
  all_goals (try simp_all -implicitDefEqProofs)
@[simp] theorem fwSlotSet_pending (s : State) (k : Nat) (v : FwSlot) : (fwSlotSet s k v).pending = s.pending := by
  unfold fwSlotSet
  (try dsimp only)
  repeat' (first | (with_reducible rfl) | split)
  all_goals (try simp_all -implicitDefEqProofs)
  all_goals (repeat' (first | (with_reducible rfl) | split))
  all_goals (try simp_all -implicitDefEqProofs)
@[simp] theorem fwSlotSet_lck (s : State) (k : Nat) (v : FwSlot) : (fwSlotSet s k v).lck = s.lck := by
  unfold fwSlotSet
  (try dsimp only)
  repeat' (first | (with_reducible rfl) | split)
  all_goals (try simp_all -implicitDefEqProofs)
  all_goals (repeat' (first | (with_reducible rfl) | split))
  all_goals (try simp_all -implicitDefEqProofs)
@[simp] theorem fwSlotSet_ready (s : State) (k : Nat) (v : FwSlot) : (fwSlotSet s k v).boot.ready = s.boot.ready := by
  unfold fwSlotSet
  (try dsimp only)
  repeat' (first | (with_reducible rfl) | split)
  all_goals (try simp_all -implicitDefEqProofs)
  all_goals (repeat' (first | (with_reducible rfl) | split))
  all_goals (try simp_all -implicitDefEqProofs)
@[simp] theorem fwSlotSet_phase (s : State) (k : Nat) (v : FwSlot) : (fwSlotSet s k v).cin.phase = s.cin.phase := by
  unfold fwSlotSet
  (try dsimp only)
  repeat' (first | (with_reducible rfl) | split)
  all_goals (try simp_all -implicitDefEqProofs)
  all_goals (repeat' (first | (with_reducible rfl) | split))
  all_goals (try simp_all -implicitDefEqProofs)
@[simp] theorem fwSlotSet_mem (s : State) (k : Nat) (v : FwSlot) : (fwSlotSet s k v).dram.mem = s.dram.mem := by
  unfold fwSlotSet
  (try dsimp only)
  repeat' (first | (with_reducible rfl) | split)
  all_goals (try simp_all -implicitDefEqProofs)
  all_goals (repeat' (first | (with_reducible rfl) | split))
  all_goals (try simp_all -implicitDefEqProofs)
@[simp] theorem fwSlotSet_banks (s : State) (k : Nat) (v : FwSlot) : (fwSlotSet s k v).fls.banks = s.fls.banks := by
  unfold fwSlotSet
  (try dsimp only)
  repeat' (first | (with_reducible rfl) | split)
  all_goals (try simp_all -implicitDefEqProofs)
  all_goals (repeat' (first | (with_reducible rfl) | split))
  all_goals (try simp_all -implicitDefEqProofs)
@[simp] theorem imgVerify_pending (s : State) (k : Nat) : (imgVerify s k).2.pending = s.pending := by
  unfold imgVerify
  (try dsimp only)
  repeat' (first | (with_reducible rfl) | split)
  all_goals (try simp_all -implicitDefEqProofs)
  all_goals (repeat' (first | (with_reducible rfl) | split))
  all_goals (try simp_all -implicitDefEqProofs)
@[simp] theorem imgVerify_mem (s : State) (k : Nat) : (imgVerify s k).2.dram.mem = s.dram.mem := by
  unfold imgVerify
  (try dsimp only)
  repeat' (first | (with_reducible rfl) | split)
  all_goals (try simp_all -implicitDefEqProofs)
  all_goals (repeat' (first | (with_reducible rfl) | split))
  all_goals (try simp_all -implicitDefEqProofs)
@[simp] theorem areaRestore_pending (s : State) (ls : List Layer) : (areaRestore s ls).pending = s.pending := by
  unfold areaRestore
  (try dsimp only)
  repeat' (first | (with_reducible rfl) | split)
  all_goals (try simp_all -implicitDefEqProofs)
  all_goals (repeat' (first | (with_reducible rfl) | split))
  all_goals (try simp_all -implicitDefEqProofs)
@[simp] theorem areaRestore_lck (s : State) (ls : List Layer) : (areaRestore s ls).lck = s.lck := by
  unfold areaRestore
  (try dsimp only)
  repeat' (first | (with_reducible rfl) | split)
  all_goals (try simp_all -implicitDefEqProofs)
  all_goals (repeat' (first | (with_reducible rfl) | split))
  all_goals (try simp_all -implicitDefEqProofs)
@[simp] theorem areaRestore_ready (s : State) (ls : List Layer) : (areaRestore s ls).boot.ready = s.boot.ready := by
  unfold areaRestore
  (try dsimp only)
  repeat' (first | (with_reducible rfl) | split)
  all_goals (try simp_all -implicitDefEqProofs)
  all_goals (repeat' (first | (with_reducible rfl) | split))
  all_goals (try simp_all -implicitDefEqProofs)
@[simp] theorem areaRestore_phase (s : State) (ls : List Layer) : (areaRestore s ls).cin.phase = s.cin.phase := by
  unfold areaRestore
  (try dsimp only)
  repeat' (first | (with_reducible rfl) | split)
  all_goals (try simp_all -implicitDefEqProofs)
  all_goals (repeat' (first | (with_reducible rfl) | split))
  all_goals (try simp_all -implicitDefEqProofs)
@[simp] theorem areaRestore_mem (s : State) (ls : List Layer) : (areaRestore s ls).dram.mem = s.dram.mem := by
  unfold areaRestore
  (try dsimp only)
  repeat' (first | (with_reducible rfl) | split)
  all_goals (try simp_all -implicitDefEqProofs)
  all_goals (repeat' (first | (with_reducible rfl) | split))
  all_goals (try simp_all -implicitDefEqProofs)
@[simp] theorem areaRestore_banks (s : State) (ls : List Layer) : (areaRestore s ls).fls.banks = s.fls.banks := by
  unfold areaRestore
  (try dsimp only)
  repeat' (first | (with_reducible rfl) | split)
  all_goals (try simp_all -implicitDefEqProofs)
  all_goals (repeat' (first | (with_reducible rfl) | split))
  all_goals (try simp_all -implicitDefEqProofs)
@[simp] theorem bootSlot_pending (s : State) (k : Nat) (trial : Bool) : (bootSlot s k trial).pending = s.pending := by
  unfold bootSlot
  (try dsimp only)
  repeat' (first | (with_reducible rfl) | split)
  all_goals (try simp_all -implicitDefEqProofs)
  all_goals (repeat' (first | (with_reducible rfl) | split))
  all_goals (try simp_all -implicitDefEqProofs)
@[simp] theorem bootSlot_lck (s : State) (k : Nat) (trial : Bool) : (bootSlot s k trial).lck = s.lck := by
  unfold bootSlot
  (try dsimp only)
  repeat' (first | (with_reducible rfl) | split)
  all_goals (try simp_all -implicitDefEqProofs)
  all_goals (repeat' (first | (with_reducible rfl) | split))
  all_goals (try simp_all -implicitDefEqProofs)
@[simp] theorem bootSlot_ready (s : State) (k : Nat) (trial : Bool) : (bootSlot s k trial).boot.ready = s.boot.ready := by
  unfold bootSlot
  (try dsimp only)
  repeat' (first | (with_reducible rfl) | split)
  all_goals (try simp_all -implicitDefEqProofs)
  all_goals (repeat' (first | (with_reducible rfl) | split))
  all_goals (try simp_all -implicitDefEqProofs)
@[simp] theorem bootSlot_phase (s : State) (k : Nat) (trial : Bool) : (bootSlot s k trial).cin.phase = s.cin.phase := by
  unfold bootSlot
  (try dsimp only)
  repeat' (first | (with_reducible rfl) | split)
  all_goals (try simp_all -implicitDefEqProofs)
  all_goals (repeat' (first | (with_reducible rfl) | split))
  all_goals (try simp_all -implicitDefEqProofs)
@[simp] theorem bootSlot_mem (s : State) (k : Nat) (trial : Bool) : (bootSlot s k trial).dram.mem = s.dram.mem := by
  unfold bootSlot
  (try dsimp only)
  repeat' (first | (with_reducible rfl) | split)
  all_goals (try simp_all -implicitDefEqProofs)
  all_goals (repeat' (first | (with_reducible rfl) | split))
  all_goals (try simp_all -implicitDefEqProofs)
@[simp] theorem bootSlot_banks (s : State) (k : Nat) (trial : Bool) : (bootSlot s k trial).fls.banks = s.fls.banks := by
  unfold bootSlot
  (try dsimp only)
  repeat' (first | (with_reducible rfl) | split)
  all_goals (try simp_all -implicitDefEqProofs)
  all_goals (repeat' (first | (with_reducible rfl) | split))
  all_goals (try simp_all -implicitDefEqProofs)
@[simp] theorem trialFailed_pending (s : State) (k : Nat) (count : Bool) : (trialFailed s k count).pending = s.pending := by
  unfold trialFailed
  (try dsimp only)
  repeat' (first | (with_reducible rfl) | split)
  all_goals (try simp_all -implicitDefEqProofs)
  all_goals (repeat' (first | (with_reducible rfl) | split))
  all_goals (try simp_all -implicitDefEqProofs)
@[simp] theorem trialFailed_mem (s : State) (k : Nat) (count : Bool) : (trialFailed s k count).dram.mem = s.dram.mem := by
  unfold trialFailed
  (try dsimp only)
  repeat' (first | (with_reducible rfl) | split)
  all_goals (try simp_all -implicitDefEqProofs)
  all_goals (repeat' (first | (with_reducible rfl) | split))
  all_goals (try simp_all -implicitDefEqProofs)
@[simp] theorem bootConfirmed_pending (s : State) : (bootConfirmed s).2.pending = s.pending := by
  unfold bootConfirmed
  (try dsimp only)
  repeat' (first | (with_reducible rfl) | split)
  all_goals (try simp_all -implicitDefEqProofs)
  all_goals (repeat' (first | (with_reducible rfl) | split))
  all_goals (try simp_all -implicitDefEqProofs)
@[simp] theorem bootConfirmed_mem (s : State) : (bootConfirmed s).2.dram.mem = s.dram.mem := by
  unfold bootConfirmed
  (try dsimp only)
  repeat' (first | (with_reducible rfl) | split)
  all_goals (try simp_all -implicitDefEqProofs)
  all_goals (repeat' (first | (with_reducible rfl) | split))
  all_goals (try simp_all -implicitDefEqProofs)
@[simp] theorem trialBegin_pending (s : State) (k : Nat) : (trialBegin s k).pending = s.pending := by
  unfold trialBegin
  (try dsimp only)
  repeat' (first | (with_reducible rfl) | split)
  all_goals (try simp_all -implicitDefEqProofs)
  all_goals (repeat' (first | (with_reducible rfl) | split))
  all_goals (try simp_all -implicitDefEqProofs)
@[simp] theorem trialBegin_lck (s : State) (k : Nat) : (trialBegin s k).lck = s.lck := by
  unfold trialBegin
  (try dsimp only)
  repeat' (first | (with_reducible rfl) | split)
  all_goals (try simp_all -implicitDefEqProofs)
  all_goals (repeat' (first | (with_reducible rfl) | split))
  all_goals (try simp_all -implicitDefEqProofs)
@[simp] theorem trialBegin_ready (s : State) (k : Nat) : (trialBegin s k).boot.ready = s.boot.ready := by
  unfold trialBegin
  (try dsimp only)
  repeat' (first | (with_reducible rfl) | split)
  all_goals (try simp_all -implicitDefEqProofs)
  all_goals (repeat' (first | (with_reducible rfl) | split))
  all_goals (try simp_all -implicitDefEqProofs)
@[simp] theorem trialBegin_phase (s : State) (k : Nat) : (trialBegin s k).cin.phase = s.cin.phase := by
  unfold trialBegin
  (try dsimp only)
  repeat' (first | (with_reducible rfl) | split)
  all_goals (try simp_all -implicitDefEqProofs)
  all_goals (repeat' (first | (with_reducible rfl) | split))
  all_goals (try simp_all -implicitDefEqProofs)
@[simp] theorem trialBegin_mem (s : State) (k : Nat) : (trialBegin s k).dram.mem = s.dram.mem := by
  unfold trialBegin
  (try dsimp only)
  repeat' (first | (with_reducible rfl) | split)
  all_goals (try simp_all -implicitDefEqProofs)
  all_goals (repeat' (first | (with_reducible rfl) | split))
  all_goals (try simp_all -implicitDefEqProofs)
@[simp] theorem trialBegin_banks (s : State) (k : Nat) : (trialBegin s k).fls.banks = s.fls.banks := by
  unfold trialBegin
  (try dsimp only)
  repeat' (first | (with_reducible rfl) | split)
  all_goals (try simp_all -implicitDefEqProofs)
  all_goals (repeat' (first | (with_reducible rfl) | split))
  all_goals (try simp_all -implicitDefEqProofs)
@[simp] theorem bootChoose_pending (s : State) : (bootChoose s).2.pending = s.pending := by
  unfold bootChoose
  (try dsimp only)
  repeat' (first | (with_reducible rfl) | split)
  all_goals (try simp_all -implicitDefEqProofs)
  all_goals (repeat' (first | (with_reducible rfl) | split))
  all_goals (try simp_all -implicitDefEqProofs)
@[simp] theorem bootChoose_mem (s : State) : (bootChoose s).2.dram.mem = s.dram.mem := by
  unfold bootChoose
  (try dsimp only)
  repeat' (first | (with_reducible rfl) | split)
  all_goals (try simp_all -implicitDefEqProofs)
  all_goals (repeat' (first | (with_reducible rfl) | split))
  all_goals (try simp_all -implicitDefEqProofs)
@[simp] theorem fwData_pending (s : State) (data : Bytes) : (fwData s data).2.pending = s.pending := by
  unfold fwData
  (try dsimp only)
  repeat' (first | (with_reducible rfl) | split)
  all_goals (try simp_all -implicitDefEqProofs)
  all_goals (repeat' (first | (with_reducible rfl) | split))
  all_goals (try simp_all -implicitDefEqProofs)
@[simp] theorem fwData_mem (s : State) (data : Bytes) : (fwData s data).2.dram.mem = s.dram.mem := by
  unfold fwData
  (try dsimp only)
  repeat' (first | (with_reducible rfl) | split)
  all_goals (try simp_all -implicitDefEqProofs)
  all_goals (repeat' (first | (with_reducible rfl) | split))
  all_goals (try simp_all -implicitDefEqProofs)
@[simp] theorem fwActivate_pending (s : State) (v : Nat) : (fwActivate s v).2.pending = s.pending := by
  unfold fwActivate
  (try dsimp only)
  repeat' (first | (with_reducible rfl) | split)
  all_goals (try simp_all -implicitDefEqProofs)
  all_goals (repeat' (first | (with_reducible rfl) | split))
  all_goals (try simp_all -implicitDefEqProofs)
@[simp] theorem fwActivate_mem (s : State) (v : Nat) : (fwActivate s v).2.dram.mem = s.dram.mem := by
  unfold fwActivate
  (try dsimp only)
  repeat' (first | (with_reducible rfl) | split)
  all_goals (try simp_all -implicitDefEqProofs)
  all_goals (repeat' (first | (with_reducible rfl) | split))
  all_goals (try simp_all -implicitDefEqProofs)
@[simp] theorem confirmTrack_pending (s : State) : (confirmTrack s).pending = s.pending := by
  unfold confirmTrack
  (try dsimp only)
  repeat' (first | (with_reducible rfl) | split)
  all_goals (try simp_all -implicitDefEqProofs)
  all_goals (repeat' (first | (with_reducible rfl) | split))
  all_goals (try simp_all -implicitDefEqProofs)
@[simp] theorem confirmTrack_lck (s : State) : (confirmTrack s).lck = s.lck := by
  unfold confirmTrack
  (try dsimp only)
  repeat' (first | (with_reducible rfl) | split)
  all_goals (try simp_all -implicitDefEqProofs)
  all_goals (repeat' (first | (with_reducible rfl) | split))
  all_goals (try simp_all -implicitDefEqProofs)
@[simp] theorem confirmTrack_ready (s : State) : (confirmTrack s).boot.ready = s.boot.ready := by
  unfold confirmTrack
  (try dsimp only)
  repeat' (first | (with_reducible rfl) | split)
  all_goals (try simp_all -implicitDefEqProofs)
  all_goals (repeat' (first | (with_reducible rfl) | split))
  all_goals (try simp_all -implicitDefEqProofs)
@[simp] theorem confirmTrack_phase (s : State) : (confirmTrack s).cin.phase = s.cin.phase := by
  unfold confirmTrack
  (try dsimp only)
  repeat' (first | (with_reducible rfl) | split)
  all_goals (try simp_all -implicitDefEqProofs)
  all_goals (repeat' (first | (with_reducible rfl) | split))
  all_goals (try simp_all -implicitDefEqProofs)
@[simp] theorem confirmTrack_mem (s : State) : (confirmTrack s).dram.mem = s.dram.mem := by
  unfold confirmTrack
  (try dsimp only)
  repeat' (first | (with_reducible rfl) | split)
  all_goals (try simp_all -implicitDefEqProofs)
  all_goals (repeat' (first | (with_reducible rfl) | split))
  all_goals (try simp_all -implicitDefEqProofs)
@[simp] theorem confirmTrack_banks (s : State) : (confirmTrack s).fls.banks = s.fls.banks := by
  unfold confirmTrack
  (try dsimp only)
  repeat' (first | (with_reducible rfl) | split)
  all_goals (try simp_all -implicitDefEqProofs)
  all_goals (repeat' (first | (with_reducible rfl) | split))
  all_goals (try simp_all -implicitDefEqProofs)

end Sys2Proof.Laws
end

