-- ==== Sys2Proof/Laws/Memory.lean ====
section
/-!
SUPPORT. The memories of the machine: every operation keeps the canonical form, and what a byte reads after a write.
-/
namespace Sys2Proof.Laws
open Sys2Proof.Machine

theorem risingFrom_mono {lo hi : Nat} (h : lo ≤ hi) (m : List Host.Cell) (hm : risingFrom hi m = true) :
    risingFrom lo m = true := by
  cases m with
  | nil => rfl
  | cons c r =>
    simp only [risingFrom, Bool.and_eq_true, decide_eq_true_eq] at hm ⊢
    exact ⟨by omega, hm.2⟩

theorem risingFrom_memWrite (d : Byte) (m : List Host.Cell) (a : Nat) (v : Byte) (lo : Nat) (hlo : lo ≤ a)
    (hm : risingFrom lo m = true) : risingFrom lo (memWrite d m a v) = true := by
  induction m generalizing lo with
  | nil =>
    simp only [memWrite]
    split <;> simp [risingFrom, hlo]
  | cons c r ih =>
    obtain ⟨b, w⟩ := c
    simp only [risingFrom, Bool.and_eq_true, decide_eq_true_eq] at hm
    simp only [memWrite]
    split
    · rename_i hb
      simp only [risingFrom, Bool.and_eq_true, decide_eq_true_eq]
      exact ⟨hm.1, ih (b + 1) hb hm.2⟩
    · split
      · rename_i _ hb
        subst hb
        split
        · exact risingFrom_mono (by omega) r hm.2
        · simp only [risingFrom, Bool.and_eq_true, decide_eq_true_eq]
          exact ⟨hlo, hm.2⟩
      · split
        · simp only [risingFrom, Bool.and_eq_true, decide_eq_true_eq]
          exact hm
        · simp only [risingFrom, Bool.and_eq_true, decide_eq_true_eq]
          exact ⟨hlo, by omega, hm.2⟩

theorem all_memWrite (d : Byte) (m : List Host.Cell) (a : Nat) (v : Byte) (h : m.all (fun c => decide (c.2 ≠ d)) = true) :
    (memWrite d m a v).all (fun c => decide (c.2 ≠ d)) = true := by
  induction m with
  | nil =>
    simp only [memWrite]
    split <;> simp_all
  | cons c r ih =>
    obtain ⟨b, w⟩ := c
    rw [List.all_cons, Bool.and_eq_true] at h
    simp only [memWrite]
    repeat' split
    · rw [List.all_cons, Bool.and_eq_true]
      exact ⟨h.1, ih h.2⟩
    · exact h.2
    · rw [List.all_cons, Bool.and_eq_true]
      exact ⟨by simpa, h.2⟩
    · rw [List.all_cons, Bool.and_eq_true]
      exact h
    · rw [List.all_cons, List.all_cons, Bool.and_eq_true, Bool.and_eq_true]
      exact ⟨by simpa, h⟩

/-- A byte written keeps the canonical form. -/
theorem memWrite_wf (d : Byte) (m : List Host.Cell) (a : Nat) (v : Byte) (h : Memory.wf d m = true) :
    Memory.wf d (memWrite d m a v) = true := by
  simp only [Memory.wf, Bool.and_eq_true] at h ⊢
  exact ⟨risingFrom_memWrite d m a v 0 (Nat.zero_le a) h.1, all_memWrite d m a v h.2⟩

/-- Bytes written keep the canonical form. -/
theorem memWriteBytes_wf (d : Byte) (bs : Bytes) (m : List Host.Cell) (a : Nat) (h : Memory.wf d m = true) :
    Memory.wf d (memWriteBytes d m a bs) = true := by
  induction bs generalizing m a with
  | nil => exact h
  | cons b r ih => exact ih _ _ (memWrite_wf d m a b h)

/-- The valid bytes of a line written keep the canonical form. -/
theorem memMerge_wf (d : Byte) (l : PLine) (m : List Host.Cell) (a : Nat) (h : Memory.wf d m = true) :
    Memory.wf d (memMerge d m a l) = true := by
  induction l generalizing m a with
  | nil => exact h
  | cons b r ih =>
    cases b with
    | none => exact ih m (a + 1) h
    | some v => exact ih _ _ (memWrite_wf d m a v h)

theorem risingFrom_filter (p : Host.Cell → Bool) (m : List Host.Cell) (lo : Nat) (h : risingFrom lo m = true) :
    risingFrom lo (m.filter p) = true := by
  induction m generalizing lo with
  | nil => rfl
  | cons c r ih =>
    obtain ⟨b, w⟩ := c
    simp only [risingFrom, Bool.and_eq_true, decide_eq_true_eq] at h
    rw [List.filter_cons]
    split
    · simp only [risingFrom, Bool.and_eq_true, decide_eq_true_eq]
      exact ⟨h.1, ih (b + 1) h.2⟩
    · exact risingFrom_mono (by omega) _ (ih (b + 1) h.2)

/-- Bytes forgotten (so that they read as the default) keep the canonical form. -/
theorem filter_wf (d : Byte) (p : Host.Cell → Bool) (m : List Host.Cell) (h : Memory.wf d m = true) :
    Memory.wf d (m.filter p) = true := by
  simp only [Memory.wf, Bool.and_eq_true, List.all_eq_true] at h ⊢
  exact ⟨risingFrom_filter p m 0 h.1, fun c hc => h.2 c (List.mem_of_mem_filter hc)⟩

theorem memRead_of_rising (d : Byte) (m : List Host.Cell) (a lo : Nat) (h : risingFrom lo m = true) (ha : a < lo) :
    memRead d m a = d := by
  induction m generalizing lo with
  | nil => rfl
  | cons c r ih =>
    obtain ⟨b, w⟩ := c
    simp only [risingFrom, Bool.and_eq_true, decide_eq_true_eq] at h
    have : b ≠ a := by omega
    simp only [memRead, this, if_false]
    exact ih (b + 1) h.2 (by omega)

/-- A byte reads as written. -/
theorem memRead_memWrite_self (d : Byte) (m : List Host.Cell) (a : Nat) (v : Byte) (lo : Nat) (h : risingFrom lo m = true) :
    memRead d (memWrite d m a v) a = v := by
  induction m generalizing lo with
  | nil =>
    simp only [memWrite]
    split <;> simp_all [memRead]
  | cons c r ih =>
    obtain ⟨b, w⟩ := c
    simp only [risingFrom, Bool.and_eq_true, decide_eq_true_eq] at h
    simp only [memWrite]
    split
    · rename_i hb
      have : b ≠ a := by omega
      simpa only [memRead, this, if_false] using ih (b + 1) h.2
    · split
      · rename_i _ hb
        subst hb
        split
        · rename_i hv
          rw [hv]
          exact memRead_of_rising d r b (b + 1) h.2 (by omega)
        · simp [memRead]
      · rename_i h1 h2
        split
        · rename_i hv
          simp only [memRead, h2, if_false, hv]
          exact memRead_of_rising d r a (b + 1) h.2 (by omega)
        · simp [memRead]

/-- A byte written leaves every other. -/
theorem memRead_memWrite_ne (d : Byte) (m : List Host.Cell) {a x : Nat} (v : Byte) (hx : x ≠ a) :
    memRead d (memWrite d m a v) x = memRead d m x := by
  induction m with
  | nil =>
    simp only [memWrite]
    split <;> simp [memRead, Ne.symm hx]
  | cons c r ih =>
    obtain ⟨b, w⟩ := c
    simp only [memWrite]
    split
    · simp only [memRead, ih]
    · split
      · rename_i _ hb
        subst hb
        split <;> simp [memRead, Ne.symm hx]
      · split
        · rfl
        · simp [memRead, Ne.symm hx]

end Sys2Proof.Laws
end

