-- ==== Sys2Proof/Tests/Slice0.lean ====
section
/-!
SUPPORT. Tests: for every statement with hypotheses a state and operands that meet them, small steps with results taken from the
spec's rules, and ill-formed commands that the check refuses.
-/
namespace Sys2Proof.Tests.Slice0
open Sys2Proof.Machine
set_option Elab.async false

/-- The state that a command answers, if it answers one. -/
def after (c : Instr) (s : State) : Option State :=
  match exec c s with
  | .next t => some t
  | _ => none

theorem meets_step_idle : State.reset.pending = [] := rfl

theorem test_step_front : step (State.reset.withCommand .wdiToggle) = exec .wdiToggle State.reset := rfl
/-- A state with rail slot 3 as given, and slot 0 on. -/
def rail (r : Rail) : State := { State.reset with ham := { rails := [(3, r)] } }

theorem meets_rail_slots :
    (railOf (rail { state := .waitOn }) 3).state = .waitOn ∧
    (railOf (rail { state := .ramp, en := true }) 3).state = .ramp ∧ (railOf (rail { state := .ramp, en := true }) 3).en = true ∧
    (railOf (rail { state := .ramp, en := true }) 3).retrying = false ∧ (railOf (rail { state := .ramp, en := true }) 3).pg = false ∧
    (rail { state := .ramp, en := true }).cin.phase ≠ .commit ∧
    (railOf (rail { state := .ramp, retrying := true, attempts := 2 }) 3).retrying = true ∧
    (railOf (rail { state := .ramp, retrying := true, attempts := 2 }) 3).attempts < 3 ∧
    (railOf (rail { state := .retryWait, retrying := true }) 3).state = .retryWait ∧
    (railOf (rail { state := .waitOff }) 3).state = .waitOff ∧
    (railOf (rail {}) 3).en = false ∧ (railOf (rail {}) 3).retain = false ∧ (railOf (rail { retain := true }) 3).retain = true := by
  decide

/-- A state in which a common start may follow. -/
def atT0 : State :=
  { State.reset with boot := { porst := false, stage := 1 }, ham := { psuOk := true, holdupLowN := true } }

theorem meets_common_start : atT0.boot.porst = false ∧ atT0.boot.mode ≠ .refused ∧ supplyGood atT0 = true ∧ atT0.ham.seq = .off ∧
    atT0.boot.stage = 1 ∧ atT0.boot.stop = .none ∧ atT0.cin.phase ≠ .commit := by decide

theorem test_rail_on_delay :
    after (.railOnDelay 3) (rail { state := .waitOn }) = some (rail { state := .ramp, en := true }) := by decide
/-- A running state with rail slot 3 as given. -/
def railRun (r : Rail) : State := { State.reset with boot := { porst := false }, ham := { rails := [(3, r)], seq := .running } }

theorem meets_rail_faults :
    (railRun { state := .on, en := true }).ham.vddAon = true ∧ (railOf (railRun { state := .on, en := true }) 3).en = true ∧
    (railRun { state := .on, en := true }).cin.phase ≠ .commit ∧ (railRun { state := .on, en := true }).boot.porst = false ∧
    (railRun { state := .on, en := true }).ham.seq = .running ∧ (railOf (railRun { state := .on, en := true }) 3).state = .on ∧
    (railOf (railRun { state := .on, en := true }) 3).retain = false ∧ (railOf (railRun { state := .on, en := true }) 3).reaction = .ignore ∧
    (railRun {}).ham.domFault = [] ∧ { railRun { state := .on, en := true } with cin := { phase := .commit } }.cin.phase = .commit ∧
    (railOf (rail { pg := true }) 3).state = .off ∧ (railOf (rail { pg := true }) 3).pg = true ∧
    (railOf (rail { pg := true }) 3).stuck = false ∧
    (FGroup.rail 2, GroupOff.retry) ∈ { State.reset with fm := { groups := [(FGroup.rail 2, GroupOff.retry)] } }.fm.groups ∧
    (FGroup.latigo, GroupOff.retry) ∈ { State.reset with fm := { groups := [(FGroup.latigo, GroupOff.retry)] } }.fm.groups := by
  decide
theorem meets_supply_inputs : atT0.ham.vddAon = true ∧ atT0.ham.faultNDriven = false ∧ atT0.ham.sysclkOk = true ∧
    atT0.boot.porst = false ∧ atT0.cin.phase ≠ .commit := by decide

/-- R521: a low of PSU_OK shorter than 1 µs is counted. -/
theorem test_psu_glitch : (after .psuOkGlitch atT0).map (fun t => rd t Reg.HAM_GLITCH_PSU_OK) = some 1 := by decide
/-- A state outside reset, at a bring-up step. -/
def atStep (n : Nat) : State := { State.reset with boot := { porst := false, stage := n }, ham := { seq := .running } }

/-- The same with a warm reset that drains. -/
def draining (n : Nat) : State := { atStep n with boot := { porst := false, stage := n, warm := .draining } }

theorem meets_power_and_reset : State.reset.ham.vddAon = true ∧ State.reset.boot.porst = true ∧ strapMode 0 true ≠ .refused ∧
    strapMode 3 true = .refused ∧ (atStep 14).boot.porst = false ∧ (atStep 14).ham.vddAon = true ∧ (atStep 14).cin.phase ≠ .commit ∧
    { atStep 14 with cin := { phase := .commit } }.cin.phase = .commit ∧ (atStep 14).boot.porstDeferred = false ∧
    { State.reset with ham := { vddAon := false } }.ham.vddAon = false ∧ masterRefused (atStep 14) 0 0x1C = none ∧
    (draining 9).boot.warm = .draining ∧ (draining 9).boot.drained = false ∧ (draining 9).per.welt = [] ∧
    (draining 9).boot.wrstLow = false ∧ 9 ≤ (draining 9).boot.stage ∧ warmReady (draining 9) = true ∧ (draining 8).boot.stage < 9 ∧
    (draining 8).cin.phase ≠ .commit := by
  decide

theorem meets_welt_retained : { draining 9 with per := { welt := [{ line := 1, data := [], ld := 0, seqs := [] }] } }.per.welt ≠ [] := by
  decide

/-- R2: straps 2 with SERVICE_N low select service mode, 2 with it high are refused. -/
theorem test_strap_mode : strapMode 2 false = .service ∧ strapMode 2 true = .refused ∧ strapMode 1 true = .compat := by decide
/-- A state whose bring-up goes on. -/
theorem meets_bringup : (atStep 2).boot.porst = false ∧ (atStep 2).ham.vddAon = true ∧ (atStep 2).cin.phase ≠ .commit ∧
    (atStep 2).boot.warm ≠ .draining ∧ (atStep 2).ham.seq = .running ∧ (atStep 2).boot.stop = .none ∧ (atStep 2).boot.stage = 2 ∧
    (atStep 3).boot.stage = 3 ∧ (atStep 12).boot.stage = 12 ∧ twinSettled (atStep 12) = true ∧
    { atStep 12 with twin := { role := .active } }.twin.role ≠ .starting ∧ (atStep 13).boot.stage = 13 ∧
    (atStep 13).boot.late = false ∧ (atStep 13).boot.mode ≠ .service ∧ rd (atStep 13) Reg.GLB_BOOT_LATE_STEP = 0 := by decide

theorem test_step_late : (after .bringupStepLate (atStep 13)).map (fun t => rd t Reg.GLB_BOOT_LATE_STEP) = some 13 := by decide
theorem meets_porst_assert : (atStep 14).boot.porst = false ∧ (atStep 14).ham.vddAon = true ∧ (atStep 14).cin.phase ≠ .commit ∧
    (atStep 14).pres.window = false := by decide

/-- R192: PORST_N keeps the Welt. -/
theorem test_porst_keeps_welt :
    (after (.porstNAssert false) { atStep 14 with per := { welt := [{ line := 7, data := [], ld := 0, seqs := [3] }] } }).map
      (fun t => t.per.welt.map WeltEntry.line) = some [7] := by decide
/-- A state with the Latigo function as given. -/
def latFn (v : FnState) : State := { atStep 14 with fm := { fns := [(.lat, v)] } }

theorem meets_functions : (atStep 14).cin.phase ≠ .commit ∧ (atStep 14).boot.porst = false ∧ (fnOf (atStep 14) .lat).phase = .enabled ∧
    (fnOf (latFn { phase := .quiescing }) .lat).phase = .quiescing ∧ fnWork (latFn { phase := .quiescing }) .lat = false ∧
    (fnOf (latFn { phase := .disabled, want := .reset }) .lat).phase = .disabled ∧
    (fnOf (latFn { phase := .disabled, want := .reset }) .lat).want = .reset := by decide

/-- R495: DISABLE_ABORT_TIME is 10 ms by default. -/
theorem test_unit_reset_lat : (after .unitResetLat (atStep 14)).map (fun t => (rd t Reg.GLB_UNIT_RESET_LAT, (fnOf t .lat).abortTime)) =
    some (1, msec 10) := by decide
theorem meets_timers :
    { atStep 14 with host := { reads := [⟨.host 1 2 3, 5, .load, 0⟩] } }.host.reads.find? (fun (r : HeldRead) => r.who = Reader.host 1 2 3) =
      some ⟨.host 1 2 3, 5, .load, 0⟩ ∧
    (atStep 14).cin.phase ≠ .commit ∧ (atStep 14).boot.sandbox = false ∧
    bit (rd (wr (atStep 14) Reg.ERR_KEEPER_RELOADING 8) Reg.ERR_KEEPER_RELOADING) 3 = true ∧
    rdb (setF (atStep 14) Reg.ERR_WDI_ARMED) Reg.ERR_WDI_ARMED = true ∧
    { atStep 14 with boot := { porst := false, ready := true } }.boot.ready = true ∧
    rdb (setF (atStep 14) Reg.ERR_WDI_EN) Reg.ERR_WDI_EN = true := by decide

/-- A running LOCAL barrier of LD 3. -/
def someBarrier : Barrier :=
  { id := 5, by_ := .doorbell 3 0 1 false 0, ld := 3, scope := 0, level := 0, served := 0, start := 0, startTime := 0, except := [] }

theorem meets_barrier_guard :
    { atStep 14 with per := { barriers := [someBarrier] } }.per.barriers.find? (fun (b : Barrier) => b.id = 5) = some someBarrier ∧
    someBarrier.served ≠ 2 := by decide
theorem meets_fault_reports : { atStep 14 with cin := { phase := .commit } }.cin.phase = .commit ∧ (atStep 14).cin.phase ≠ .commit ∧
    (atStep 14).ham.seq = .running ∧ (atStep 14).fm.windows = [] := by decide

theorem test_fault_s5 : (after (.faultReported .pommel 0x1F15 0xFF 5 true) (atStep 14)).map (fun t => (t.cin.phase, t.cin.trigger)) =
    some (.commit, 5) := by decide
/-- A running state whose line clock is as given. -/
def clocked (c : LineClock) : State := { atStep 14 with lck := c }

theorem meets_line_clock : (clocked { state := .acquire, listening := true }).lck.listening = true ∧
    (clocked { state := .synthetic }).lck.state = .synthetic ∧ (clocked { state := .synthetic }).lck.lineSeen = false ∧
    (clocked { state := .locked, prevDone := false }).lck.state = .locked ∧
    nearCrossing ((clocked { state := .locked, prevDone := false }).time + cycles 3) 0 = true ∧
    (clocked { state := .locked, prevDone := false }).lck.prevDone = false ∧ (clocked {}).ham.seq = .running ∧
    (clocked { missRun := 2 }).lck.missRun = 2 ∧ (clocked { phase := 1023 }).lck.phase = 1023 ∧ (clocked {}).lck.phase ≠ 1023 := by decide

/-- R43: the third missed half-cycle in a row is a COMMIT trigger, the first enters WARN. -/
theorem test_line_missed :
    (after .lineMissed (clocked { state := .locked, prevDone := false, missRun := 2 })).map (fun t => (t.cin.phase, t.cin.trigger)) =
      some (.commit, 3) ∧
    (after .lineMissed (clocked { state := .locked, prevDone := false })).map (fun t => t.cin.phase) = some .warn := by decide
theorem test_glitch : (after (.lineSyncPulse 1999 0) (clocked {})).map (fun t => rd t Reg.LCK_COUNTS_GLITCH_TOTAL) = some 1 := by decide
theorem meets_tick : State.reset.ham.vddAon = true ∧ State.reset.boot.porst = true ∧ State.reset.lck.phase < 1023 ∧
    { State.reset with lck := { phase := 1023 } }.lck.phase = 1023 ∧ { State.reset with ham := { vddAon := false } }.ham.vddAon = false := by
  decide
/-- A state outside reset with every power domain on. -/
def powered : State := { State.reset with boot := { porst := false, stage := 14, ready := true }, ham := { seq := .running, doms := BitVec.allOnes 96 } }

theorem meets_csr_write : debugShut powered 0 = false ∧ sandboxed powered 0 = false ∧ assigned 0x20000 = true ∧
    regPowered powered 0x20000 = true ∧ readRefused powered 0 0x20000 = none ∧ inMbx 0x20000 = false ∧ (findReg 0x20000).isSome = true := by
  decide

theorem meets_csr_alias : ((findReg 0x20000).bind (fun x => x.1.fields.find? (fun f => decide (f.lo ≤ 0) && decide (0 < f.lo + f.width)))).isSome =
    true := by decide

theorem meets_csr_latch : (regTable.any (fun r => latchLo r.base && r.fields.all (fun f => decide (f.code ≠ .rc)) && decide (r.base < 0x1000000) &&
    (readRefused powered 0 r.base).isNone && (findReg r.base).isSome)) = true := by decide

theorem meets_cfg_hold : rdb (setF powered Reg.CFG_CTRL_HOLD) Reg.CFG_CTRL_HOLD = true ∧
    rdb (setF powered Reg.CFG_CTRL_HOLD) Reg.CFG_CRC_STATUS_HOLD_LONG = false ∧
    rdb (setF powered Reg.CFG_CRC_STATUS_HOLD_LONG) Reg.CFG_CRC_STATUS_HOLD_LONG = true := by decide

/-- The example after R77: CFG_CTRL.HOLD has its alias word at 0x140_0000. -/
theorem test_alias_hold : (after (.csrAliasWrite 0 0x1400000 1#32) powered).map (fun t => rd t Reg.CFG_CTRL_HOLD) = some 1 := by decide
theorem meets_csr_refusals : debugShut (atStep 14) 7 = false ∧ sandboxed { atStep 14 with boot := { porst := false, sandbox := true } } 7 = true ∧
    inMbx 0x40000 = false ∧ sandboxed (atStep 14) 7 = false ∧ assigned 0x8 = true ∧ assigned 0x3FFFFFC = false ∧
    assigned 0x40000 = true ∧ regPowered (atStep 14) 0x40000 = false := by decide
theorem meets_access_codes : ownCommand 0x40000 ⟨4, 1, .rw, 0, 0⟩ = false ∧ inStm (fldAt 0x40000 ⟨4, 1, .rw, 0, 0⟩) = false ∧
    ([Reg.GLB_ACCESS_ERR_MASTER, Reg.GLB_ACCESS_ERR_CAUSE, Reg.GLB_ACCESS_ADDR_OFFSET, Reg.GLB_ACCESS_COUNT_COUNT].all
      (fun g => decide (g.addr ≠ (fldAt 0x40000 ⟨4, 1, .rw, 0, 0⟩).addr))) = true := by decide
/-- Master 2 owns the mailbox. -/
def mbxOwned : State := wr (wr powered Reg.MBX_CLAIM_CLAIM 0) Reg.MBX_CLAIM_OWNER 2

/-- A mailbox operation that runs. -/
def mbxRunning (w c : Bool) : State := { mbxOwned with iface := { mbxOp := some ⟨w, c, 0x100001, .ok, [], 0⟩ } }

theorem meets_mailbox : (mbxShut powered 2 0x30000).isNone = true ∧ rdb powered Reg.MBX_CLAIM_CLAIM = true ∧
    (mbxShut mbxOwned 2 0x30004).isNone = true ∧ rd mbxOwned Reg.MBX_CLAIM_OWNER = 2 ∧ rd mbxOwned Reg.MBX_CLAIM_OWNER ≠ 0xF ∧
    rdb mbxOwned Reg.MBX_CLAIM_CLAIM = false ∧ rdb mbxOwned Reg.MBX_CTRL_BUSY = false ∧
    rdb (setF mbxOwned Reg.MBX_CTRL_BUSY) Reg.MBX_CTRL_BUSY = true ∧
    (mbxRunning true true).iface.mbxOp = some ⟨true, true, 0x100001, .ok, [], 0⟩ ∧
    (mbxRunning false false).iface.mbxOp = some ⟨false, false, 0x100001, .ok, [], 0⟩ ∧
    (readStatus mbxOwned .mbx 0x100001).1 = .ok ∧ rd mbxOwned Reg.MBX_OFFSET_CHUNK = 0 ∧ rd mbxOwned Reg.MBX_CLAIM_OWNER ≠ 3 := by
  decide

/-- R72: OD 0x1000:01 read through the mailbox is one byte, 0x56. -/
theorem test_mbx_read : (after .mbxOpDone (mbxRunning false false)).map (fun t => (rd t Reg.MBX_LENGTH_WIN_LEN, t.iface.mbxData.take 1,
    rd t Reg.MBX_CTRL_STATUS, rd t Reg.MBX_CTRL_BUSY)) = some (1, [0x56], 0, 0) := by decide
/-- A state whose dictionary is open. -/
def opened : State := { atStep 14 with dict := { opened := true } }

theorem meets_store : writeCheck opened .mbx 0x101001 [0x56, 0x53] false = (.ok, 0) ∧
    (writeCheck { opened with dict := { opened := true, storing := some [] } } .mbx 0x101001 [0x56, 0x53] false).1 = .busyRetry ∧
    (readStatus opened .mbx 0x900403).1 = .ok ∧ (readStatus State.reset .mbx 0x900403).1 = .notReady := by decide +kernel

/-- The overlay edit entries name OD 0x1020:05 and a value for it. -/
def overlayReady : State :=
  { opened with dict := { opened := true, active := [(0x101301, [1]), (0x101302, [5, 0x20, 0x10]), (0x101303, [9, 0])],
                          compat := { a := { gen := 1, good := true, vals := [(0x102005, [8, 0])] } } } }

theorem meets_overlay : writeCheck overlayReady .mbx 0x101304 [1] false = (.ok, 0) ∧
    writeCheck overlayReady .mbx 0x101304 [2] false = (.ok, 0) := by decide +kernel

theorem meets_region : writeCheck opened .mbx ((0x6400 + 3) * 256 + 1) (le 1 255) false = (.ok, 0) := by decide +kernel

theorem meets_fw_activate : writeCheck opened .mbx 0xA00203 (le 4 0x43414E43) false = (.ok, 0) ∧
    (fwActivate { opened with fw := { slotB := { st := .pending, trials := 0, version := 0 } } } 0x43414E43).1 = .ok := by decide +kernel
/-- An open dictionary, the presence pin as given. -/
def pressed (p : Presence) : State := { opened with pres := p }

theorem meets_presence : (pressed { low := true }).pres.low = true ∧ (pressed { low := true }).pres.stuck = false ∧
    (pressed { low := true }).pres.window = false ∧ (pressed { low := true }).boot.porst = false ∧
    (pressed { low := true }).cin.phase ≠ .commit ∧ 3 ≤ (pressed { low := true }).boot.stage ∧
    { pressed { low := true } with boot := { porst := false, stage := 14, serviceN := false } }.boot.serviceN = false ∧
    (pressed { window := true }).pres.window = true ∧ (pressed { window := true }).pres.policyNext = none ∧
    (pressed { low := true, openedByPress := true }).pres.openedByPress = true ∧ (pressed { stuck := true }).pres.stuck = true ∧
    (pressed {}).pres.low = false ∧ (pressed {}).stm.clearing = none ∧ hdmActive (pressed {}) = false := by decide

theorem meets_sealed : writeCheck (pressed { window := true }) .mbx 0xF01001 [0xEA, 0xC1] false = (.ok, 0) ∧
    writeCheck (pressed { window := true }) .mbx 0x202001 [1, 0, 0, 0] false = (.ok, 0) ∧
    writeCheck (pressed { window := true }) .mbx 0x103003 [0x88, 0] false = (.ok, 0) ∧
    writeCheck (pressed { window := true }) .mbx 0xF01101 [0xC7, 0xFA] false = (.ok, 0) ∧
    writeCheck (pressed { window := true }) .mbx 0xF01201 [0xA5, 0xE7] false = (.ok, 0) ∧
    writeCheck (pressed { window := true }) .mbx 0x104001 [1] false = (.ok, 0) ∧
    (writeCheck (pressed {}) .mbx 0xF01201 [0xA5, 0xE7] false).1 = .sealedRefused := by decide +kernel
/-- A frame of node 3 with a tag and a payload length. -/
def frameOf (tag len : Nat) : TackHdr := ⟨0, 3, tag, len, true, true⟩

/-- An open dictionary with one running Tack transaction. -/
def transacting (t : TackTxn) : State := { opened with tack := { opened.tack with txns := [t] } }

theorem meets_tack_read : requestFresh opened (frameOf 7 1) ∧ (readStatus opened (.tack 0) 0x100001).1 = .ok ∧
    (odValue opened 0x100001).length ≤ 56 ∧ accessCheck opened (.tack 0) 0x101303 false = (.ok, 0) := by
  unfold requestFresh frameHeard; decide

theorem meets_tack_segment : frameHeard (transacting ⟨0, 3, 7, 0x101303, true, 200, [], 1, 0⟩) (frameOf 7 56) ∧
    (txnOf (transacting ⟨0, 3, 7, 0x101303, true, 200, [], 1, 0⟩) (frameOf 7 56)) = some ⟨0, 3, 7, 0x101303, true, 200, [], 1, 0⟩ ∧
    ((([] : Bytes) ++ (List.replicate 56 (0 : Byte)).take 56).length < 200) ∧
    (txnOf (transacting ⟨0, 3, 7, 0x900403, false, 60, [], 2, 0⟩) (frameOf 7 56)) = some ⟨0, 3, 7, 0x900403, false, 60, [], 2, 0⟩ ∧
    1 + 1 = segCount 60 ∧ (15 + 1) % 16 = 0 ∧ txnOf opened (frameOf 7 0) = none ∧ amFind opened.dict.done (64 * 0 + 3) ≠ some 7 := by
  unfold frameHeard; decide

theorem meets_tack_bootup : tackHears opened 0 = true ∧ { opened with tack := { node := 32, listening := true } }.tack.listening = true ∧
    Config.serial.toNat < 2 ^ 64 ∧
    contained { opened with partners := [(.tackNode 3, { contained := some 1 })] } (.tackNode 3) = true := by
  refine ⟨by decide, rfl, Config.serial.isLt, by decide⟩

/-- R112: OD 0x1000:01 read on channel 0 answers one byte, 0x56. -/
theorem test_tack_read : (after (.read (frameOf 7 1) 0x100001) opened).map (fun t => t.out) = some [.tack 0 0x81 3 7 0x100001 0 [0x56]] := by
  decide
/-- A state whose recorder is as given. -/
def recording (m : Stm) : State := { atStep 14 with stm := m }

/-- A staged record. -/
def someRec : Rec := ⟨1, 0x1F15, 0, 0, 5, 0, [0xFF]⟩

theorem meets_recorder : stmBypass 0x1F15 5 = true ∧ halfPerSec (atStep 14).lck ≤ stmUnits (atStep 14).stm (halfPerSec (atStep 14).lck) 0x4001 ∧
    stagingUsed (atStep 14).stm + (recLength (le 1 255 ++ ([] : Bytes).take 495) + 4) ≤ 0x100000 ∧
    stmBypass 0x4001 1 = false ∧ stmUnits (recording { buckets := [(0x4001, 5)] }).stm 100 0x4001 < 100 ∧
    (recording { staging := [someRec] }).stm.staging = [someRec] ∧ (fnOf (recording {}) .stm).phase ≠ .disabled ∧
    (lastPut (stmSet (recording {}) { staging := [] }) someRec).isSome = true ∧
    (recording { clearing := some ⟨.eraseFirst 3, 9, 1, 2⟩ }).stm.clearing = some ⟨.eraseFirst 3, 9, 1, 2⟩ := by decide

/-- R572: at 1 MiB of staging less than one record's room is left. -/
theorem test_record_submit : (after (.recordSubmit 0x4001 1 7 [1, 2]) (atStep 14)).map (fun t => (t.stm.headSeq, t.stm.staging.map Rec.payload)) =
    some (1, [[7, 1, 2]]) := by decide
/-- A controller after READY whose LD 0 on port 0 has 128 segments, one committed decoder at host address 0, and segment 0 in DRAM. -/
def hosted : State :=
  { wr (atStep 14) (Reg.HPT_LD_SIZE_SIZE 0) 1 with
    boot := { porst := false, ready := true, memActive := true, stage := 14 }
    fm := { fns := [(.port 0, {}), (.ld 0, {})] }
    host := { bound := [0], lds := [(0, { decoders := [(0, { committed := true, size := 0x10000000, ways := 1, gran := 256 })] })] }
    tier := { runs := [(0, (0, 128))], t1Frames := 4, segs := [(0, { obj := 0, st := .t1 })] } }

/-- The same with STREAM as the default policy. -/
def hostedStream : State := wr hosted Reg.TRE_CTRL_DEF_POLICY 4

theorem meets_host_requests : target hosted 0 0 0x40 = .line 0 0x40 1 ∧ policyAt hosted 0 0 ≠ 4 ∧ policyAt hostedStream 0 0 = 4 ∧
    target hostedStream 0 0 0x40 = .line 0 0x40 1 ∧
    (acceptWrite (streamTouch (trackLow hosted 0) 0 1) (.host 0 0 7) 0 1 (plineMasked 1 (List.replicate 64 9))
      (completePair hosted 0 0) true).isSome = true ∧
    hosted.boot.mode ≠ .compat ∧ hosted.cin.phase ≠ .commit ∧ target hosted 0 0 0x10000000 = .refuse (some 0) 1 ∧
    target hosted 0 3 0x40 = .refuse none 2 ∧ target (atStep 14) 0 0 0x40 = .withheld := by decide +kernel

/-- R13, R14: byte 0 of line 1 written at LOCAL is pending in the Welt. -/
theorem test_host_write : (after (.hostWrite 0 0 7 0x40 1 1 [9]) hosted).map
    (fun t => (t.per.welt.map (fun e => (e.line, (e.data.getD 0 none, e.data.getD 1 none))), t.per.acceptSeq)) =
    some ([(1, (some 9, none))], 1) := by decide +kernel
theorem meets_host_control : (amGet (ldOf hosted 0).decoders 1 {}).lock = false ∧
    decoderOk hosted 0 0 { committed := true, size := 0x10000000, ways := 2, gran := 512 } = true ∧
    decoderOk hosted 0 1 { committed := true, size := 0x10000000, ways := 2, gran := 512 } = false ∧
    rdb (wr hosted (Reg.HPT_PORT_STATUS_LINK_UP 0) 1) (Reg.HPT_PORT_STATUS_LINK_UP 0) = true ∧
    rdb hosted (Reg.HPT_PORT_STATUS_LINK_UP 0) = false ∧ portRole hosted 0 ≠ 2 ∧ hosted.boot.mode ≠ .service ∧ 6 ≤ hosted.boot.stage ∧
    amGet hosted.host.dropped 0 0 = 0 ∧ hosted.cin.phase ≠ .commit ∧ contained hosted (.ld 0) = false ∧
    (amGet (ldOf hosted 0).slots 5 {}).busy = false ∧ (amGet (ldOf hosted 0).slots 5 {}).addr % 64 = 0 ∧ fnOpen hosted (.ld 0) = true ∧
    fnOpen hosted (.port (ldPort hosted 0)) = true ∧ hosted.boot.ready = true ∧
    { hosted with boot := { porst := false, stage := 13 } }.boot.ready = false := by decide +kernel

theorem meets_decoder_locked : (amGet (ldOf { hosted with host := { lds := [(0, { decoders := [(0, { committed := true, lock := true })] })] } } 0).decoders
    0 {}).lock = true := by decide

/-- R142: LOCAL barriers of LD 0 begin, one after the other. -/
theorem test_doorbell : (after (.doorbellRing 0 5 7 64) hosted).map (fun t => t.per.barriers.map (fun b => (b.ld, b.level))) =
    some [(0, 0)] := by decide +kernel
/-- A Skive line with byte 0 pending, opened at tick 0. -/
def partialSkive : SkiveLine := { line := 1, data := some 9 :: List.replicate 63 none, ld := 0, seqs := [1], openedTick := 0 }

/-- A Welt entry of line 1. -/
def someWelt : WeltEntry := { line := 1, data := some 9 :: List.replicate 63 none, ld := 0, seqs := [1] }

/-- `hosted` with these persistence buffers, and the line clock at count 1. -/
def persisting (p : Persist) : State := { hosted with per := p, lck := { count := 1 } }

theorem meets_persistence : skiveFind (persisting { skive := [partialSkive] }) 1 = some partialSkive ∧ plineFull partialSkive.data = false ∧
    partialSkive.openedTick + rd (persisting { skive := [partialSkive] }) Reg.WLT_CTRL_SKIVE_CLOSE ≤
      lineStamp (persisting { skive := [partialSkive] }) ∧
    (skiveClose (persisting { skive := [partialSkive] }) partialSkive).isSome = true ∧
    weltFind (persisting { welt := [someWelt], pairAvail := false }) 1 = some someWelt ∧
    weltReady (persisting { welt := [someWelt], pairAvail := false }) someWelt = true ∧
    weltReady { persisting { welt := [someWelt] } with tier := {} } someWelt = false ∧
    (persisting { barriers := [someBarrier] }).per.barriers.find? (fun b => b.id = 5) = some someBarrier ∧
    barrierBehind (persisting { barriers := [someBarrier] }) someBarrier = false ∧
    barrierReached (persisting { barriers := [someBarrier] }) someBarrier = true ∧ someBarrier.twinTag = none ∧
    barrierReached (persisting { skive := [{ partialSkive with ld := 3, seqs := [0] }], barriers := [someBarrier] }) someBarrier = false ∧
    someBarrier.startTime + barrierGuard (atStep 14) someBarrier ≤ { atStep 14 with time := secs 100 }.time ∧
    (atStep 14).time < someBarrier.startTime + barrierGuard (atStep 14) someBarrier ∧ hosted.cin.phase ≠ .commit ∧
    { hosted with cin := { phase := .commit }, time := usec 100 }.cin.commitAt + usec 100 ≤ usec 100 := by decide +kernel

/-- R166: the byte of a partial Skive line is pending in the Welt after it is closed. -/
theorem test_skive_close : (after (.skiveClose 1) (persisting { skive := [partialSkive] })).map
    (fun t => (t.per.skive.length, t.per.welt.map (fun e => (e.line, e.data.getD 0 none)))) = some (0, [(1, some 9)]) := by decide +kernel
theorem meets_cxl_mailbox : hosted.boot.mode ≠ .compat ∧ hosted.boot.ready = true ∧ 0 + 64 * 4 ≤ ldBytes hosted 0 ∧
    (List.replicate 64 (0 : Byte)).length = 64 ∧ 64 < ldBytes hosted 0 ∧ 0 + 4 ≤ celLog.length ∧
    (acceptWrite hosted (.mailbox 0) 0 (homeLine hosted 0 64) (plineOf (List.replicate 64 0)) (completePair hosted 0 0) false).isSome = true ∧
    { hosted with boot := { porst := false, stage := 13 } }.boot.ready = false ∧ (portLds hosted 0).length < 2 ∧
    2 ≤ (portLds { hosted with host := { bound := [0, 1] } } 0).length := by decide +kernel
/-- `hosted` with management rights for LD 0 and an open dictionary. -/
def managed : State := { wr hosted (Reg.HPT_LD_CFG_MGMT 0) 1 with dict := { opened := true } }

/-- A created object of LD 0. -/
def someObject : TObj := ⟨128, 4, 2, 0, false, 1, false⟩

/-- A stream of LD 0 over two layers of its base object. -/
def someStream : Stream :=
  { id := 4, ld := 0, page := 2, dev := 0, obj := 0, layers := [(0, 64), (64, 64)], window := 2, lastTouch := false, loop := false,
    deadline := 0, oldest := 0, fetched := 1 }

theorem meets_vendor : vendorServed managed 0 ∧ ldMgmt managed 0 = true ∧ (readStatus managed (.cxl 0) 0x100001).1 = .ok ∧
    accessCheck managed (.cxl 0) 0x710001 false = (.ok, 0) ∧
    managed.dict.staged = [] ∧ amFind managed.dict.done (256 + 0) ≠ some 5 ∧ objectServed managed 0 0 (0, 128) ∧ objFind managed 0 = none ∧
    objReplica managed 0 = false ∧ policyOk managed 2 0 0 = false ∧
    objectServed { managed with tier := { managed.tier with objs := [someObject] } } 0 128 (4, 2) := by
  unfold objectServed vendorServed; decide +kernel

theorem meets_vendor_refused : { managed with boot := { mode := .compat } }.boot.mode = .compat ∧
    contained { managed with partners := [(.ld 0, { contained := some 1 })] } (.ld 0) = true ∧ fnOpen { managed with fm := {} } (.ld 0) = false ∧
    amFind { managed with dict := { done := [(256, 5)] } }.dict.done (256 + 0) = some 5 ∧
    { managed with tier := { streams := [someStream] } }.tier.streams.find? (fun t => t.id = 4) = some someStream ∧
    rd (wr managed (Reg.HPT_LD_CFG_TENANT 1) 5) (Reg.HPT_LD_CFG_TENANT 1) ≠ rd (wr managed (Reg.HPT_LD_CFG_TENANT 1) 5) (Reg.HPT_LD_CFG_TENANT 0) := by
  decide +kernel
/-- `hosted` with its twin PAIRED, and the twin part as given. -/
def paired (t : Twin) : State := { hosted with twin := { t with link := .paired }, cin := { poolFrames := 4 } }

theorem meets_twin_frames : linkCarries (paired {}) = true ∧ (paired {}).twin.waiting = [] ∧ (paired {}).twin.rxNext = 0 ∧
    poolRoom (paired {}) ⟨0, 5, plineMasked 1 (List.replicate 64 9), false⟩ = true ∧ poolRoom (paired {}) ⟨0, 5, plineOf (List.replicate 64 9), true⟩ = true ∧
    (poolFind (paired { pool := [⟨0, 1, [(5, plineEmpty)]⟩] }) (5 / 64)).bind (fun p => amFind p.lines (5 % 64)) = some plineEmpty ∧
    (poolFind (paired {}) (5 / 64)).bind (fun p => amFind p.lines (5 % 64)) = none ∧ (baseOf (paired {}) (5 / 32768)).isSome = true ∧
    (lineValue (paired {}) 5).isSome = true ∧ (paired {}).awl.releases = [] ∧ (paired {}).cin.phase ≠ .commit ∧ linkCarries hosted = false ∧
    [3] = { paired {} with cin := { outgoing := [3] } }.cin.outgoing ∧ 0 < { paired {} with cin := { epoch := 1 } }.cin.epoch := by decide +kernel

theorem meets_repair_rsp : ∃ r : Repair, r.tree = false ∧
    repairOf { paired {} with dram := { chans := [(2, { repairs := [r] })] } } 9 = some (2, r) := by
  refine ⟨{ line := 4, fromTwin := true, tag := 9 }, by decide⟩

/-- R327, R328: a whole line stored in the pool is acknowledged with its sequence. -/
theorem test_mirror_full : (after (.mirrorFull 0 5 (List.replicate 64 9)) (paired {})).map (fun t => (t.twin.pool.length, t.twin.rxNext)) =
    some (1, 1) := by decide +kernel
/-- `hosted` at bring-up step 12 with the twin part as given, TWIN_PRESENT_N low. -/
def twinned (t : Twin) : State := { hosted with boot := { porst := false, stage := 12, twinPresentN := false }, twin := t }

/-- A heartbeat at count 1 and phase 5 without an acknowledgement. -/
def beat : HeartbeatFrame :=
  { count := 1, phase := 5, role := 2, commit := false, trigger := 0, warn := false, early := false, epoch := 0, synth := false, ack := none }

theorem meets_twin_life : (twinned {}).boot.twinPresentN = false ∧ (twinned {}).twin.link = .down ∧ 6 ≤ (twinned {}).boot.stage ∧
    { hosted with boot := { twinPresentN := true } }.boot.twinPresentN = true ∧ 16 ≤ (twinned { hbMissed := 16 }).twin.hbMissed ∧
    (twinned { hbMissed := 3 }).twin.hbMissed < 16 ∧ protoFits (twinned {}) 9 9 = false ∧ 3 ∉ [1, 2, 4, 5, 7] ∧
    (twinned { link := .incompatible }).twin.link = .incompatible ∧ beat.role ≠ 9 ∧ beat.count = (clocked { count := 1, phase := 5 }).lck.count ∧
    (clocked { count := 1, phase := 5, state := .locked }).lck.state ≠ .synthetic ∧
    claimBarred (twinned {}) = false ∧ (twinned { claim := some { delay := some 1, retryAt := some 2 } }).twin.claim = some { delay := some 1, retryAt := some 2 } ∧
    majority { twinned {} with awl := { configured := [4] } } [4].length = true ∧ claimBarred { twinned {} with cin := { phase := .commit } } = true ∧
    (twinned {}).twin.role ≠ .fenced ∧ 10 ≤ (twinned {}).boot.stage ∧ (twinned {}).twin.helloDone = false ∧
    (conductOf { hosted with partners := [(.ld 3, { contained := some 0 })] } (.ld 3)).contained = some 0 := by decide +kernel

theorem meets_twin_failed : { twinned { hbMissed := 3, link := .training, everUp := true } with time := secs 9 }.twin.everUp = true ∧
    (twinned { hbMissed := 3, link := .training, everUp := true }).twin.downSince +
      msec (rd (twinned { hbMissed := 3, link := .training, everUp := true }) Reg.STP_CFG_RETRAIN_GUARD) ≤ secs 9 ∧
    { twinned { handover := true, link := .training } with time := secs 9 }.twin.leaseAt + secs 3 ≤ secs 9 := by decide +kernel

/-- R338: the lease count goes up by one. -/
theorem test_lease_slot : (after .leaseSlotWrite (twinned {})).map (fun t => t.twin.leaseCount) = some 1 := by decide +kernel
theorem meets_handover : linkCarries (paired { twinCommit := some 5, handover := true }) = true ∧
    (paired { twinCommit := some 5 }).twin.twinCommit = some 5 ∧ (paired {}).twin.twinCommit = none ∧ (paired { handover := true }).twin.handover = true ∧
    (paired {}).twin.handover = false ∧ (paired { role := .survivor, twinRole := some .starting }).twin.role = .survivor ∧
    (paired { role := .survivor, twinRole := some .starting }).twin.twinRole = some .starting ∧
    (paired { twinRole := some .survivor }).twin.twinRole = some .survivor ∧ (paired { role := .active }).twin.role ≠ .survivor ∧
    (paired {}).twin.twinRole ≠ some .survivor ∧ linkCarries hosted = false := by decide +kernel
/-- A state in which agent 1 holds line 7 in a state. -/
def holding (x : AgentSt) : State := { hosted with ring := { agents := [{ agent := 1, line := 7, st := x, core := 5, retry := some 3 }] } }

theorem meets_ring_agents : agentFind hosted 1 7 = none ∧ ((agentFind (holding .s) 1 7).map AgentLine.st) = some .s ∧
    ((agentFind (holding .e) 1 7).map AgentLine.st) = some .e ∧ ((agentFind (holding .m) 1 7).map AgentLine.st) = some .m ∧
    ((agentFind (holding .miA) 1 7).map AgentLine.st) = some .miA ∧ ((agentFind (holding .isD) 1 7).map AgentLine.st) = some .isD ∧
    ((agentFind (holding .imD) 1 7).map AgentLine.st) = some .imD ∧ ((agentFind (holding .m) (coreAgent 5) 7).map AgentLine.st) = some .m ∧
    ((holding .m).ring.agents.filter (fun x => x.agent = 1 ∧ x.st = .miA)).length < 8 ∧ 0 < max 1 (rd (holding .s) Reg.GRT_CFG_NACK_PRIORITY) ∧
    (coreOf hosted 5).miss = none ∧ (coreOf hosted 5).storeBuf.length < 16 ∧
    16 ≤ (coreOf { hosted with keep := { cores := [(5, { storeBuf := List.replicate 16 ⟨0, [1]⟩ })] } } 5).storeBuf.length := by decide

/-- R234: M answers SNP_INV with its data and keeps nothing. -/
theorem test_snp_inv : (after (.snpInv 1 7) (holding .m)).map (fun t => t.ring.agents.length) = some 0 := by decide
/-- A state in which line 7 is busy: agent 1 and LD 3 owe answers to agent 2's request. -/
def busyLine (t : HomeTxn) : State := { atStep 14 with ring := { busy := [t] } }

/-- The busy entry of that line. -/
def someTxn : HomeTxn := { req := ⟨7, .rdS, 2, false⟩, waiting := [1], begun := 0, bi := [3] }

theorem meets_ring_homes : hostVisible hosted 7 = true ∧ busyFind (atStep 14) 7 = none ∧ sliceBusy (atStep 14) (treeSlice 7) < 64 ∧
    hostVisible (atStep 14) 7 = false ∧ busyFind (busyLine someTxn) 7 = some someTxn ∧ 1 ∈ someTxn.waiting ∧ 3 ∈ someTxn.bi ∧
    busyFind (busyLine { someTxn with granted := true }) 7 = some { someTxn with granted := true } ∧
    ((agentFind { busyLine someTxn with ring := { busy := [someTxn], agents := [{ agent := 1, line := 7, st := .miA }] } } 1 7).map AgentLine.landed) =
      some false ∧
    agentFind (atStep 14) 1 7 = none ∧
    agentFind (emit (writeThrough (atStep 14) 7 (List.replicate 64 1)) (.ring .wbAck 1 7 [])) 1 7 = none ∧
    busyFind (emit (writeThrough (atStep 14) 7 (List.replicate 64 1)) (.ring .wbAck 1 7 [])) 7 = none := by decide +kernel

theorem meets_full_queue : sliceQueued { busyLine someTxn with ring := { busy := [someTxn], queue := List.replicate 256 ⟨7, .rdS, 3, false⟩ } }
    (treeSlice 7) false = 256 := by decide +kernel

/-- R236: RD_S of an internal line with no sharer is granted. -/
theorem test_rd_s : (after (.rdS 2 7 false) (atStep 14)).map (fun t => (t.ring.busy.map HomeTxn.granted, t.out.length)) =
    some ([true], 1) := by decide +kernel
/-- An arrived fill of line 7. -/
def someFill : TreeLine := { line := 7, way := 0, age := 0, st := .fill, arrived := some (List.replicate 64 5, false) }

theorem meets_keeper_tree : amFind (coreOf hosted 2).combine 7 = none ∧ (coreOf hosted 2).combine.length < 8 ∧ (coreOf hosted 2).uncached = [] ∧
    (coreOf { hosted with keep := { cores := [(2, { uncached := [(9, false)] })] } } 2).uncached ≠ [] ∧
    fenceMet (combineDrain (drainStores hosted 2 16) 2 8) 2 ⟨true, 1⟩ = true ∧ fenceMet (combineDrain (drainStores hosted 2 16) 2 8) 2 ⟨false, 2⟩ = true ∧
    treeFind { hosted with tree := { lines := [someFill] } } 7 = some someFill ∧ treeFind hosted 7 = none ∧
    hosted.tree.walks.filter (fun w => w.entry = 3) = [] ∧ hosted.tree.maintOp = none ∧ hosted.cin.phase ≠ .commit ∧
    (maintRange hosted).1 ≤ (maintRange hosted).2 ∧ (maintRange hosted).2 < 2 ^ 37 ∧
    { hosted with tree := { maintOp := some (0, 1, 2) } }.tree.maintOp = some (0, 1, 2) := by decide +kernel

theorem meets_tree_fill : (treeFind (retryWay (fillDone { hosted with tree := { lines := [someFill] } } someFill (List.replicate 64 5) false)) 7).isSome =
    true ∧ wayDisabled (retryWay (fillDone { hosted with tree := { lines := [someFill] } } someFill (List.replicate 64 5) false)) (treeSlice 7) 0 =
    false ∧ 64 ≤ (coreOf { hosted with keep := { cores := [(2, { uncached := List.replicate 64 (9, false) })] } } 2).uncached.length := by decide +kernel
/-- A queued read of line 3. -/
def someRead : DRead := { line := 3, purpose := .fill, port := none, arrived := 0 }

/-- `hosted` with channel 0 as given. -/
def channelled (c : Chan) : State := { hosted with dram := { chans := [(0, c)] } }

theorem meets_dram : (chanOf (channelled { st := .running, subA := { refDue := 5 } }) 0).st = .running ∧
    5 ≤ ((chanOf (channelled { st := .running, subA := { refDue := 5 } }) 0).sub false).refDue ∧
    (((chanOf (channelled { st := .running, subA := { reads := [someRead] } }) 0).sub false).reads = [someRead] ∧
      urgency (channelled { st := .running, subA := { reads := [someRead] } }) someRead = 0) ∧ (chanOf (channelled {}) 0).st ≠ .running ∧
    (wbbFind { hosted with tree := { wbb := [{ line := 7, data := List.replicate 64 (some 1), poison := false, lo := 0 }] } } 7).isSome = true ∧
    wrqFull { hosted with tree := { wbb := [{ line := 7, data := List.replicate 64 (some 1), poison := false, lo := 0 }] } } 7 = false ∧
    ((chanOf (channelled { st := .running, subA := { reads := [{ someRead with issued := some ([], false) }] } }) 0).sub false).reads.find?
      (fun r => r.issued.isSome) = some { someRead with issued := some ([], false) } ∧
    contained hosted (.smb1 (2 * 0 + 0)) = false ∧ (chanOf (channelled { st := .retraining }) 0).st = .retraining ∧
    contained hosted .smb0 = false ∧ contained (smbViolation hosted .smb0 2) .smb0 = false := by decide +kernel

/-- R282: 90 °C makes a DIMM hot, and 79 °C ends it. -/
theorem test_dimm_temp : (after (.dimmTempPoll 0 1 (.value 90) .nack) (channelled {})).map (fun t => (chanOf t 0).hot) = some [1] ∧
    (after (.dimmTempPoll 0 1 (.value 79) .nack) (channelled { hot := [0, 1] })).map (fun t => (chanOf t 0).hot) = some [0] := by
  decide +kernel
/-- One chunk taken long ago. -/
def someChunk : Chunk := { dram := 0, home := 0, granules := [0], takenAt := 0, barrier := true, cut := 0 }

/-- A written stripe of that chunk that waits for these columns. -/
def someStripe (cols : List Nat) : Stripe := { set := 0, stripe := 0, chunks := [someChunk], waiting := cols, missing := 0, entry := 1, relocate := false }

/-- A MIRROR_2 set of members in slots 0 and 1 whose zone 0 is owned and free, and these chunks and stripes. -/
def striped (cs : List Chunk) (xs : List Stripe) : State :=
  { hosted with
    cin := { chunks := cs, ownedZones := [0], freeZones := [0], granules := [(0, { st := .dirty, lo := 0, newest := 0 })] }
    awl := { stripes := xs, relocQ := cs, sets := [(0, { layout := 1, n := 1, w := 2, st := .optimal, zones := 4 })],
             drives := [(0, { st := .online, set := 0, col := 0, linkUp := true }), (1, { st := .online, set := 0, col := 1, linkUp := true })] } }

/-- `striped` with zone 0 in use and the chunk of segment 9 in it. -/
def reclaimed (z : Nat) (segs : List (Nat × Segment)) : State :=
  { striped [] [] with cin := { ownedZones := [z] }, tier := { segs := segs } }

/-- A segment of one chunk in zone 0. -/
def someSegment : Segment := { obj := 128, st := .t3, chunks := [(0, ⟨0, 3, 0⟩)] }

theorem meets_drain : (striped [] []).twin.role ≠ .fenced ∧ nextChunk { striped [] [] with lck := { count := 2000 } } = some 0 ∧
    nextChunk { striped [] [] with cin := {} } = none ∧ { striped [] [] with twin := { role := .fenced } }.twin.role = .fenced ∧
    (striped [someChunk] []).cin.chunks ≠ [] ∧ pickSet (striped [someChunk] []) none = some 0 ∧
    (striped [someChunk] []).awl.journal.length < 6144 ∧
    stripeDue (striped [someChunk] []) (striped [someChunk] []).cin.chunks (setOf (striped [someChunk] []) 0).n = true ∧
    (takeStripe (striped [someChunk] []) 0).isSome = true ∧ pickSet { striped [someChunk] [] with awl := {} } none = none ∧
    (striped [someChunk] []).awl.relocQ ≠ [] ∧
    pickSet (striped [someChunk] []) (replicaAvoid (striped [someChunk] []) (striped [someChunk] []).awl.relocQ) = some 0 := by decide +kernel

/-- `striped` with a full journal. -/
def fullJournal : State :=
  { striped [someChunk] [] with
    awl := { (striped [someChunk] []).awl with journal := List.replicate 6144 ⟨.free, 0, 0, 0, 0, 0, 0, 0, false, [], false⟩ } }

theorem meets_journal_full : 6144 ≤ fullJournal.awl.journal.length ∧ fullJournal.cin.chunks ≠ [] ∧ pickSet fullJournal none = some 0 ∧
    stripeDue fullJournal fullJournal.cin.chunks (setOf fullJournal 0).n = true :=
  ⟨le_of_eq List.length_replicate.symm, by decide +kernel, by decide +kernel, by decide +kernel⟩

theorem meets_not_due : stripeDue { striped [{ someChunk with barrier := false }] [] with awl := { sets := [(0, { layout := 1, n := 2, w := 4, st := .optimal })] } }
    [{ someChunk with barrier := false }] 2 = false := by decide +kernel

theorem meets_stripes : (striped [] [someStripe []]).awl.stripes.find? (fun x => x.set = 0 ∧ x.stripe = 0) = some (someStripe []) ∧
    (someStripe []).waiting = [] ∧ (someStripe [1]).waiting ≠ [] ∧ columnSlot (striped [] [someStripe [1]]) 0 1 = some 1 ∧
    setStateFor (memberFailed (striped [] [someStripe [1]]) 1 5) 0 ≠ .failed ∧
    setStateFor (memberFailed (memberFailed (striped [] [someStripe [1]]) 0 5) 1 5) 0 = .failed := by decide +kernel

theorem meets_reclaim : 0 ∈ (reclaimed 0 [(9, someSegment)]).cin.ownedZones ∧ 0 ∉ (reclaimed 0 [(9, someSegment)]).cin.freeZones ∧
    zoneBusy (reclaimed 0 []) 0 = false ∧ (reclaimed 0 []).cin.phase = .normal ∧ zoneLive (reclaimed 0 []) 0 = 0 ∧
    zoneLive (reclaimed 0 [(9, someSegment)]) 0 = 1 ∧ zoneLive (reclaimed 0 [(9, someSegment)]) 0 * 100 <
      zoneStripes (setOf (reclaimed 0 [(9, someSegment)]) (zoneSet 0)).n * (setOf (reclaimed 0 [(9, someSegment)]) (zoneSet 0)).n *
        rd (reclaimed 0 [(9, someSegment)]) Reg.AWL_CTRL_RECLAIM_PCT := by decide +kernel

/-- R304, R362: a full stripe of one chunk goes to both columns, with an OPEN entry. -/
theorem test_stripe_write : (after (.stripeWrite false) (striped [someChunk] [])).map
    (fun t => (t.awl.stripes.map Stripe.waiting, t.awl.journal.map JournalEntry.state, t.cin.chunks.length)) = some ([[0, 1]], [.opened], 0) := by
  decide +kernel
/-- `hosted` in COMMIT at step n. -/
def committing (n : Nat) : State := { hosted with cin := { phase := .commit, step := n } }

theorem meets_commit : hosted.cin.phase ≠ .commit ∧ (committing 2).host.reads = [] ∧ (committing 2).host.writes = [] ∧
    (committing 2).per.barriers = [] ∧ { committing 2 with per := { barriers := [someBarrier] } }.per.barriers ≠ [] ∧
    { committing 3 with per := { skive := [partialSkive] } }.per.skive ≠ [] ∧ (committing 3).per.skive = [] ∧ (committing 3).per.welt = [] ∧
    (committing 3).tree.lines = [] ∧ (committing 3).tree.wbb = [] ∧ (committing 4).cin.granules = [] ∧ (committing 4).awl.stripes = [] ∧
    drainStops { committing 4 with cin := { phase := .commit, step := 4, step4Stop := true } } = true ∧
    drainStops { committing 4 with cin := { phase := .commit, step := 4, granules := [(0, { st := .dirty, lo := 0, newest := 0 })] } } = false ∧
    journalOut (committing 5) = false ∧
    journalOut { committing 5 with awl := { drives := [(0, { linkUp := true, queued := [.journal] })] } } = true ∧
    (∀ e ∈ (committing 6).ham.rails, e.2.en = false ∧ (e.2.pg = false ∨ e.2.stuck = true)) ∧
    (∃ e ∈ { committing 6 with ham := { rails := [(3, { en := true })] } }.ham.rails, e.2.en = true) := by decide +kernel

theorem meets_sw_commit : masterRefused powered 0 0x180060 = none ∧ domOn powered 52 = true ∧ (0x434D4954#32 : Word).toNat = 0x434D4954 := by
  decide +kernel

theorem meets_requal : ∃ s : State, s.ham.seq = .requal ∧ s.ham.goodSince.isSome = true ∧ supplyGood s = true :=
  ⟨{ atT0 with ham := { psuOk := true, holdupLowN := true, sysclkOk := true, seq := .requal, goodSince := some 0 } }, by decide +kernel⟩

/-- R313: another value than the key starts no COMMIT. -/
theorem test_sw_commit : (after (.swCommit 0 0x434D4954) powered).map (fun t => (t.cin.phase, t.cin.trigger)) = some (.commit, 6) ∧
    (after (.swCommit 0 0x434D4955) powered).map (fun t => t.cin.phase) = some .normal := by decide +kernel
/-- `managed` with segments 0 and 1 resident in frames 0 and 1, the descriptor of a stream of two layers in line 0. -/
def streaming : State :=
  { managed with
    dict := { opened := true, active := [(0x310003, le 4 0xFFFFFFFF)] }
    awl := { sets := [(0, { layout := 1, n := 1, w := 2, st := .optimal, zones := 1000 })] }
    tier := { managed.tier with segs := [(0, { obj := 0, st := .t1, frame := 0 }), (1, { obj := 0, st := .t1, frame := 1 })] }
    dram := { mem := memWriteBytes 0 [] 0 (le 4 0x5245494E ++ le 2 2 ++ le 2 0 ++ le 8 0 ++ le 8 0 ++ le 4 64 ++ le 4 0 ++ le 8 64 ++ le 4 64 ++ le 4 0) } }
/-- `streaming` with segment 0 as given. -/
def segment0 (g : Segment) : State := { streaming with tier := { streaming.tier with segs := [(0, g), (1, { obj := 0, st := .t1, frame := 1 })], t1Frames := 2 } }

theorem meets_objects : vendorServed streaming 0 ∧ policyOk streaming 0 1 0 = true ∧
    carveRange streaming 0 0 1 = some (0, 0) ∧ freeObjId streaming = some 128 ∧
    fitsQuota (quota streaming (rd streaming (Reg.HPT_LD_CFG_TENANT 0)) 3) (tenantT3 streaming (rd streaming (Reg.HPT_LD_CFG_TENANT 0)) + 1) = true ∧
    t3Fits streaming 1 = true := by
  unfold vendorServed; decide +kernel

theorem meets_stream_open : objectServed streaming 0 0 (0, 128) ∧ 0 + 16 ≤ ldSegs streaming 0 * 0x200000 ∧
    readDescriptor streaming 0 0 (128 * 0x200000) [] = some [(0, 64), (64, 64)] ∧
    lowestFree ((streaming.tier.streams.filter (fun t => t.ld = 0)).map Stream.page) 64 = some 0 ∧
    lowestFree (streaming.tier.streams.map Stream.dev) 1024 = some 0 ∧
    fitsQuota (quota streaming (rd streaming (Reg.HPT_LD_CFG_TENANT 0)) 1)
      (tenantT1 streaming (rd streaming (Reg.HPT_LD_CFG_TENANT 0)) + windowReserve [(0, 64), (64, 64)] 2) = true := by
  unfold objectServed vendorServed; decide +kernel

theorem meets_layers : ({ streaming with tier := { streams := [someStream] } } : State).tier.streams.find? (fun t => t.ld = 0 ∧ t.page = 2) =
    some someStream ∧ 1 ∈ windowLayers someStream ∧ 2 ∉ windowLayers someStream := by decide +kernel

/-- `hosted` with one read of line 3 held for this. -/
def heldRead (w : ReadWait) : State := { hosted with host := { reads := [⟨.host 0 0 0, 3, w, 0⟩] } }

theorem meets_held_reads :
    (heldRead .load).host.reads.any (fun h => decide (h.line = 3) && decide (h.wait = .load)) = true ∧
    (heldRead .load).host.reads.any (fun h => decide (h.line = 3) && (match h.wait with | .stream _ => true | _ => false)) = false ∧
    (heldRead (.stream 9)).host.reads.any (fun h => decide (h.line = 3) && (match h.wait with | .stream _ => true | _ => false)) = true ∧
    (heldRead (.stream 9)).host.reads.any (fun h => decide (h.line = 3) && decide (h.wait = .load)) = false := by decide

theorem meets_tiers : (segOf (segment0 { obj := 0, st := .loading, rank := 3 }) 0).st = .loading ∧
    (segOf (segment0 { obj := 0, st := .loading, rank := 3 }) 0).toT2 = none ∧ (segment0 { obj := 0 }).cin.phase = .normal ∧
    (freeFrames (segment0 { obj := 0, st := .t1 })).length < freeTarget (segment0 { obj := 0, st := .t1 }) ∧
    fnOpen (segment0 { obj := 0, st := .t1 }) .tir = true ∧ segVictim (segment0 { obj := 0, st := .t1 }) = some 0 ∧
    frameClean (segment0 { obj := 0, st := .t1 }) 0 = true ∧ leaseSlot (segment0 { obj := 0, st := .t1 }) 0 = none ∧
    frameClean { segment0 { obj := 0, st := .t1 } with cin := { granules := [(0, { st := .dirty, lo := 0, newest := 0 })] } } 0 = false ∧
    evictReady (segment0 { obj := 0, st := .evicting }) 0 0 = true ∧
    evictReady { segment0 { obj := 0, st := .evicting } with per := { welt := [someWelt] } } 0 0 = false ∧
    (segOf (segment0 { obj := 0, st := .moving, toFrame := 3 }) 0).st = .moving ∧ (streaming.twin.role ≠ .fenced ∧ 11 ≤ streaming.boot.stage) := by
  decide +kernel

/-- R395: the first created object has ID 128, and its segment is ZERO. -/
theorem test_object_create : (after (.objectCreate 0 0 0x200000 0 1 0) streaming).map
    (fun t => (t.tier.objs.map (fun o => (o.id, o.first, o.size)), (segOf t 0).st)) = some ([(128, 0, 1)], .zero) := by decide +kernel
/-- `hosted` that lends, with lender 1 as given and one borrower at address 9. -/
def leasing (l : Lender) : State :=
  { wr hosted Reg.TIR_CTRL_LEND_EN 1 with
    dict := { opened := true, active := [(0x700301, [3, 0])] }, tier := { lenders := [(1, l)], borrowers := [{ addr := 9, recalling := some ([4], 0) }] } }

theorem meets_leases : lending (leasing {}) = true ∧ (∃ b ∈ (leasing {}).tier.borrowers, b.addr = 9) ∧ lending hosted = false ∧
    leaseKey (leasing {}) ≠ 0xFFFF ∧ (lenderOf (leasing { up := true }) 1).up = true ∧ (lenderOf (leasing { up := true }) 1).frames = [] ∧
    (lenderOf (leasing { up := true, frames := [5], epoch := 1 }) 1).epoch ≠ 2 ∧
    (∀ f ∈ [5], f ∈ (lenderOf (leasing { up := true, frames := [5] }) 1).frames ∧ f ∉ (lenderOf (leasing { up := true, frames := [5] }) 1).used) ∧ (lenderOf (leasing { up := true, frames := [5] }) 1).recalling = none ∧
    (∀ e ∈ (leasing {}).tier.segs, e.2.st ≠ .t2) ∧ (lenderOf (leasing {}) 1).up = false ∧
    (lenderOf (leasing { recalling := some ([5], 7) }) 1).recalling = some ([5], 7) ∧ (lenderOf (leasing {}) 1).recalling = none ∧
    (lenderOf (leasing { opening := some 3 }) 1).opening.isSome = true ∧ (lenderOf (leasing {}) 1).opening = none ∧
    (lenderOf (leasing { opening := some 3 }) 1).tries < 9 ∧ 9 ≤ (lenderOf (leasing { opening := some 3, tries := 9 }) 1).tries := by
  decide +kernel

/-- R409: a new epoch in a ping empties the frames held under the old one. -/
theorem test_lease_epoch : (after (.leasePing true 1 2) (leasing { up := true, frames := [5], epoch := 1 })).map
    (fun t => ((lenderOf t 1).frames, (lenderOf t 1).epoch)) = some ([], 2) := by decide +kernel
/-- `hosted` with the Latigo engine as given. -/
def latigo (l : Latigo) : State := { hosted with lat := l }

/-- A connection of LD 0 with both queues. -/
def someConn : Conn :=
  { qpn := 0x10000, owner := 0, pd := 0, port := 0, src := 1, peer := 2, peerQpn := 5, mtu := 1024, sq := { entries := 16 }, rq := { entries := 16 },
    slot := 1, txPsn := 0, rxPsn := 0, retry := 3, rnrRetry := 3, ackTimeout := 8, standard := true, sealed := false, txKey := 0, txSalt := 0,
    txCtr := 0, rxKey0 := 0, rxKey1 := 0 }

/-- The fields of a connection of LD 0 without queues. -/
def someParams : ConnParams := ⟨0, 0, 0, 1, 2, 5, 1024, 0, 0, 0, 0, 0, 0, 0, 0, 0, 3, 3, 8, 1, 0, 0, 0, 0, 0, 0⟩

/-- A region of LD 0. -/
def someRegion : Region := { gen := 0, st := .valid, pd := 0, owner := 0, base := 0, len := 4096, acc := 7 }

/-- PD 0 of tenant 0, CQ 0, one connection and one region. -/
def populated (c : Conn) (r : Region) : State :=
  latigo { pds := [(0, 0)], cqs := [(0, { ld := 0, dpa := 0, entries := 64, slot := 9 })], conns := [(0, c)], regions := [(0, r)] }

theorem meets_latigo : latServed (latigo {}) (.cxl 0) 0 ∧ latServed (latigo {}) .mgmt 64 ∧ mayName (latigo {}) .mgmt 0 = true ∧
    freeKey (latigo {}).lat.pds 4096 = some 0 ∧ amFind (latigo { pds := [(0, 0)] }).lat.pds 0 = some 0 ∧
    (∀ c ∈ (latigo { pds := [(0, 0)] }).lat.conns, c.2.pd ≠ 0) ∧ pow2In 64 64 65536 = true ∧ inRange (latigo {}) 0 0 (32 * 64) = true ∧
    queueSlotFree (latigo {}) 0 1 = true ∧ freeKey (latigo {}).lat.cqs 16384 = some 0 ∧
    (∀ c ∈ (populated { someConn with sqCq := 3, rqCq := 3 } someRegion).lat.conns, (c.2.sq.entries = 0 ∨ c.2.sqCq ≠ 0) ∧ (c.2.rq.entries = 0 ∨ c.2.rqCq ≠ 0) ∧
      ∀ w ∈ c.2.wqes, w.op ≠ 6) := by
  unfold latServed; decide +kernel

theorem meets_connections : connOk (populated someConn someRegion) someParams = true ∧ connForeign (populated someConn someRegion) someParams = false ∧
    contained (populated someConn someRegion) (.peer 2) = false ∧ residents (populated someConn someRegion) < 4096 ∧
    ((populated someConn someRegion).lat.conns.filter (fun c => c.2.standard)).length < odNum (populated someConn someRegion) 0x700107 2 1024 ∧
    freeKey (populated someConn someRegion).lat.conns 65536 = some 1 ∧ connFind (populated someConn someRegion) 0 = some someConn ∧
    keyForeign (populated someConn someRegion) 0 9 = false ∧ (connFind (populated { someConn with st := .error } someRegion) 0).isSome = true ∧
    someConn.st ≠ .error := by decide +kernel

theorem meets_regions : inRange (populated someConn someRegion) 0 0 4096 = true ∧
    lowestFree (((populated someConn someRegion).lat.regions.filter (fun r => r.2.st ≠ .free)).map Prod.fst) 262144 = some 1 ∧
    regionFind (populated someConn someRegion) (0 % 2 ^ 18) = some someRegion ∧ someRegion.gen = 0 / 2 ^ 18 ∧ someRegion.inflight = 0 ∧
    regionFind (populated someConn { someRegion with st := .draining }) 0 = some { someRegion with st := .draining } ∧
    (∀ c ∈ (populated someConn someRegion).lat.conns, ∀ m ∈ c.2.msgs, m.region ≠ some 0) ∧ (atStep 14).boot.ready = false := by decide +kernel

/-- R426: the first connection has ID 0 and the queue pair number 0x10000. -/
theorem test_conn_create : (after (.connCreate .mgmt 64 7 someParams) (latigo { pds := [(0, 0)] })).map (fun t => t.lat.conns.map (fun c => (c.1, c.2.qpn))) =
    some [(0, 0x10000)] := by decide +kernel
/-- `populated` with its connection resident in RTS, one entry published, and the entry's bytes in line 0. -/
def queued (b : Bytes) : State :=
  { populated { someConn with sq := { entries := 16, tail := 1 } } someRegion with
    tier := { hosted.tier with segs := [(0, { obj := 0, st := .t1, frame := 0 })] }, dram := { mem := memWriteBytes 0 [] 0 b } }

/-- The connection of `queued`. -/
def queuedConn : Conn := { someConn with sq := { entries := 16, tail := 1 } }

/-- A signaled entry of an opcode with LENGTH n. -/
def entry (op n : Nat) : Bytes := le 1 op ++ le 3 1 ++ le 4 n ++ List.replicate 56 0

theorem meets_doorbells : slotConn (populated someConn someRegion) 0 1 = some (0, someConn) ∧ someConn.sq.entries ≠ 0 ∧ someConn.rq.entries ≠ 0 ∧
    slotConn (populated someConn someRegion) 0 2 = none ∧
    (populated someConn someRegion).lat.cqs.find? (fun q => q.2.ld = 0 ∧ q.2.slot = 9) = some (0, { ld := 0, dpa := 0, entries := 64, slot := 9 }) := by
  decide +kernel

theorem meets_entries : connFind (queued (entry 1 0)) 0 = some queuedConn ∧ mayStart (queued (entry 1 0)) queuedConn = true ∧
    (nextWqe (queued (entry 0 0)) queuedConn []).map Wqe.op = some 0 ∧ (nextWqe (queued (entry 1 0)) queuedConn []).map Wqe.op = some 1 ∧
    (nextWqe (queued (entry 2 64)) queuedConn []).map Wqe.len = some 64 ∧ (nextWqe (queued (entry 3 0)) queuedConn []).map Wqe.op = some 3 ∧
    (nextWqe (queued (entry 4 8)) queuedConn []).map Wqe.len = some 8 ∧ (nextWqe (queued (entry 5 8)) queuedConn []).map Wqe.op = some 5 ∧
    (nextWqe (queued (entry 6 0)) queuedConn []).map Wqe.operand = some 0 ∧
    inRange (queued (entry 2 64)) 0 0 64 = true ∧ (amFind (queued (entry 6 0)).lat.cqs 0).isSome = true ∧
    packets 1024 0 = 1 := by decide +kernel

/-- An entry of opcode 1 that has ended. -/
def ended (st : Status) (flags : Nat) : Wqe := { idx := 0, op := 1, flags := flags, len := 4, loc := 0, remote := 0, rkey := 0, operand := 0, swap := 0, wrId := 7, status := some st }

theorem meets_completions : (ended .ok 0).status = some .ok ∧ bit (ended .ok 0).flags 0 = false ∧ bit (ended .ok 1).flags 0 = true ∧
    (writeCqe (connPut (populated someConn someRegion) 0 someConn) 0 0 7 1 4 0 0 .ok).isSome = true ∧ (ended .timeout 0).status ≠ some .ok := by
  decide +kernel

/-- An entry that waits for its answer. -/
def waiting : Wqe := { ended .ok 0 with status := none }

theorem meets_answers : oldestPending { someConn with wqes := [waiting] } = some waiting ∧ someConn.st = .rts ∧ someConn.rnrs < someConn.rnrRetry ∧
    { someConn with rnrs := 3 }.rnrRetry ≤ 3 ∧ someConn.retries < someConn.retry ∧
    (connFind (populated { someConn with res := .fetching } someRegion) 0).map Conn.res = some .fetching ∧
    residents (populated someConn someRegion) + rd (populated someConn someRegion) Reg.LAT_EVICT_SLACK ≤ 4096 ∧
    (amGet (latigo { ports := [(1, { up := true })] }).lat.ports 1 {}).up = true ∧ (amGet (latigo {}).lat.ports 1 {}).up = false ∧
    12 ≤ (latigo {}).boot.stage ∧ (atStep 11).boot.stage < 12 := by decide +kernel

theorem meets_eviction : ∃ s : State, 4096 < residents s + rd s Reg.LAT_EVICT_SLACK := by
  refine ⟨latigo { conns := (List.range 4096).map (fun k => (k, someConn)) }, ?_⟩
  have : residents (latigo { conns := (List.range 4096).map (fun k => (k, someConn)) }) = 4096 := by
    unfold residents latigo
    dsimp only
    rw [List.filter_eq_self.2, List.length_map, List.length_range]
    intro e he
    obtain ⟨k, _, rfl⟩ := List.mem_map.1 he
    rfl
  rw [this]
  have h : rd (latigo { conns := (List.range 4096).map (fun k => (k, someConn)) }) Reg.LAT_EVICT_SLACK = 64 := rfl
  omega

/-- R431: a WRITE without data takes one packet number and waits for its ACK. -/
theorem test_wqe_write : (after (.wqeWrite 0 []) (queued (entry 1 0))).bind (fun t => (connFind t 0).map (fun c => (c.txPsn, c.wqes.length, c.sq.next))) =
    some (1, 1, 1) := by decide +kernel
/-- A packet of the peer of `someConn` that is a whole message of n bytes at an address. -/
def packet (va n : Nat) : RxPkt := ⟨0, 0x10000, 2, .write, 0, none, false, false, true, true, va, 0, n, 0, 5, List.replicate n 7⟩

/-- `populated` with the receive queue's entry in line 0 and one entry posted. -/
def posted : State :=
  { populated { someConn with rq := { entries := 16, tail := 1 } } someRegion with
    tier := { hosted.tier with segs := [(0, { obj := 0, st := .t1, frame := 0 })] },
    dram := { mem := memWriteBytes 0 [] 0 (le 8 4096 ++ le 4 64 ++ le 4 0 ++ le 8 9) } }

/-- The connection of `posted`. -/
def postedConn : Conn := { someConn with rq := { entries := 16, tail := 1 } }

theorem meets_requests : requestInOrder posted 0 postedConn (packet 64 8) ∧
    regionFor (connPut posted 0 postedConn) postedConn { packet 64 8 with kind := .write } = some (0, someRegion) ∧
    (msgData (msgBegin posted 0 postedConn { msg := rxBase, kind := .write, region := some 0, va := 64 }) 0 postedConn (packet 64 8)
      { msg := rxBase, kind := .write, region := some 0, va := 64 } 0 64).isSome = true ∧
    inRange posted 0 4096 64 = true ∧ postedConn.rq.head ≠ postedConn.rq.tail ∧
    (lineValue posted (homeLine posted 0 64)).map Prod.snd = some false ∧
    (agentWrite posted (.latigo 0 rxBase) 0 64 (le 8 7)).isSome = true ∧
    regionFor posted postedConn { packet 64 8 with rkey := 1 } = none ∧ hosted.boot.ready = true ∧
    (∀ c ∈ (latigo {}).lat.conns, c.2.qpn ≠ 5 ∨ c.2.peer ≠ 2) := by
  unfold requestInOrder; decide +kernel

/-- R444: the sum of a fetch and add is on its way to memory, the old value kept as the result. -/
theorem test_fetch_and_add : (after (.fetchAndAdd { packet 0 8 with operand := 3, data := [] }) posted).bind (fun t =>
    (connFind t 0).map (fun c => (c.rxPsn, c.msgs.map RxMsg.result))) = some (1, [4096]) := by decide +kernel
/-- `hosted` with the Buckle engine as given. -/
def ciphered (b : Buckle) : State := { hosted with bkl := b }

/-- A job of class 2 on slot 9. -/
def someJob : CJob := { tag := 1, cls := 2, slot := 9, usage := 2, key := [], iv := 0, cost := 3, data := [], tagOk := true }

theorem meets_jobs : fnOpen (ciphered {}) .bkl = true ∧ jobInLimits 1 512 512 0 = true ∧ jobInLimits 1 512 511 0 = false ∧
    (keyOf (ciphered {}) 9).st ≠ .broken ∧ coresUp (ciphered { coresOk := 1 }) ≠ 0 ∧ (classQueue (ciphered {}) 1).length < 1024 ∧
    amFind (ciphered { running := [(0, someJob)] }).bkl.running 0 = some someJob ∧ someJob.cls = 2 ∧
    (keyOf (ciphered { slots := [(9, { st := .broken })] }) 9).st = .broken ∧ amFind (ciphered {}).bkl.running 0 = none ∧
    coreUp (ciphered { coresOk := 1 }) 0 = true ∧ coreUp (ciphered {}) 0 = false := by decide +kernel

theorem meets_full_class : ∃ s : State, 1024 ≤ (classQueue s 2).length := by
  refine ⟨ciphered { queued := List.replicate 1024 someJob }, ?_⟩
  unfold classQueue ciphered
  dsimp only
  rw [List.filter_eq_self.2 (fun j hj => by rw [List.eq_of_mem_replicate hj]; rfl), List.length_replicate]

theorem meets_keys : (keyOf (ciphered { slots := [(9, { st := .loaded })] }) 9).st = .loaded ∧ (keyOf (ciphered {}) 9).st = .free ∧
    persistUsed (ciphered {}) < 256 ∧ keyRefs (ciphered {}) 9 = 0 ∧ keyRefs (ciphered { queued := [someJob] }) 9 ≠ 0 ∧
    ((keyStore (ciphered { slots := [(3, { st := .loaded })], storeA := { gen := 1, keys := [(3, { st := .loaded, persist := true })] } })).bind
      (fun c => amFind c.keys 3)).isSome = true := by decide +kernel

/-- R463: a DRIVE_READ job whose data are not a whole data unit ends with LENGTH. -/
theorem test_job_length : (after (.cipherJobSubmit 1 7 0 0 0 512 0 [] true) (ciphered {})).map (fun t => rd t Reg.BKL_ERR_LENGTH) = some 1 := by
  decide +kernel
/-- `striped` with the drive of slot 0 as given. -/
def driven (d : Drive) : State :=
  { striped [] [] with awl := { (striped [] []).awl with drives := [(0, d), (1, { st := .online, set := 0, col := 1, linkUp := true })] } }

/-- A suitable drive with its label. -/
def goodDrive (l : Option (Nat × Nat)) : DriveInfo :=
  { dualPorted := true, lba4096 := true, reservations := true, lbas := 2 ^ 30, serial := 5, label := l, lx := false }

theorem meets_drive_slots : unsuitable (driven {}) { goodDrive none with dualPorted := false } ≠ 0 ∧ unsuitable (driven {}) (goodDrive none) = 0 ∧
    labelled (driven {}) 0 (goodDrive (some (0, 0))).label = (some (.online, 0, 0), false) ∧
    slotRecord { driven {} with dict := { active := [(0x410002, []), (0x410102, [])] } } 0 = none ∧
    (driveOf (driven { st := .online }) 0).st = .online ∧ (driveOf (driven {}) 0).st = .absent ∧
    (driveOf (driven { aborting := some 0 }) 0).aborting.isSome = true ∧ (driveOf (driven {}) 0).aborting = none ∧
    (driveOf (driven {}) 0).downSince = none ∧ (driveOf (driven { st := .online, downSince := some 0 }) 0).downSince.isSome = true ∧
    (driveOf (driven { linkUp := true }) 0).linkUp = true := by decide +kernel

theorem meets_drive_commands :
    (driveOf (driven { cmds := [⟨3, .unitWrite 0 0 0 false⟩] }) 0).cmds.find? (fun c => c.id = 3) = some ⟨3, .unitWrite 0 0 0 false⟩ ∧
    (driveOf (driven { cmds := [⟨3, .journal⟩] }) 0).cmds.find? (fun c => c.id = 3) = some ⟨3, .journal⟩ ∧
    (driveOf (driven { cmds := [⟨3, .unitRead 0 0 0⟩] }) 0).cmds.find? (fun c => c.id = 3) = some ⟨3, .unitRead 0 0 0⟩ ∧
    (∀ c ∈ (driveOf (driven { linkUp := true }) 0).cmds, c.id ≠ 3) ∧
    (setOf { driven {} with awl := { sets := [(0, { rebuild := some { column := 0, target := 5, pending := true } })] } } 0).rebuild =
      some { column := 0, target := 5, pending := true } ∧ (driven {}).cin.phase ≠ .commit ∧
    ((setOf { driven {} with awl := { sets := [(0, { rebuild := some { column := 0, target := 5 } })] } } 0).rebuild.map Rebuild.pending) = some false := by
  decide +kernel

/-- R376, R377: a forced failure leaves a MIRROR_2 set of two members DEGRADED. -/
theorem test_force_fail : (after (.forceFail 0) (driven { st := .online, set := 0, col := 0, linkUp := true })).map
    (fun t => ((driveOf t 0).st, (driveOf t 0).cause, (setOf t 0).st)) = some (.failed, 6, .degraded) := by decide +kernel
/-- `powered` with bank 1 owned by master 0, its ADDR and LEN at these values, and the bank as given. -/
def flashed (addr len : Nat) (v : FlsBank) : State :=
  let s := wr (wr (wr (wr powered (Reg.FLS_B_CLAIM_OWNER 1) 0) (Reg.FLS_B_CLAIM_CLAIM 1) 0) (Reg.FLS_B_ADDR_ADDR 1) addr) (Reg.FLS_B_LEN_LEN 1) len
  { wr s Reg.FLS_PROTECT_WP_SLOT_B 0 with fls := { banks := [(1, v)] } }

theorem meets_claims : masterRefused powered 0 0x341400 = none ∧ regPowered powered 0x341400 = true ∧ rd powered (Reg.FLS_B_CLAIM_OWNER 1) = 0xF ∧
    rd (flashed 0 0 {}) (Reg.FLS_B_CLAIM_OWNER 1) = 0 ∧ (flsBank (flashed 0 0 {}) 1).queue = [] := by decide +kernel

theorem meets_flash_commands : flsServed (flashed 0 4 {}) 0 1 ∧ flsRange (rd (flashed 0 4 {}) (Reg.FLS_B_ADDR_ADDR 1)) (rd (flashed 0 4 {}) (Reg.FLS_B_LEN_LEN 1)) = none ∧
    raisesBit (flsBytes (flashed 0 4 {}) 1 0 4) [0, 0, 0, 0] = false ∧ flsProtected (flashed 0 4 {}) 1 0 = false ∧
    flsSector 0 ∉ (flsBank (flashed 0 4 {}) 1).indet ∧ (flsBank (flashed 0 4 {}) 1).st = .idle ∧ flsRunning (flsBank (flashed 0 4 { st := .erasing }) 1) = true ∧
    flsRunning (flsBank (flashed 0 4 {}) 1) = false ∧ (flashed 0 4 {}).fls.frozen = false ∧
    (flsBank (flashed 0 4 { st := .eraseSuspended }) 1).st = .eraseSuspended ∧ (flsBank (flashed 0 4 { queue := [⟨true, 0, []⟩] }) 1).queue ≠ [] ∧
    (flsBank (flashed 0 4 { op := some ⟨true, 0, []⟩ }) 1).op.isSome = true ∧
    (flsBank (flashed 0 4 { st := .erasing, suspend := true }) 1).suspend = true ∧ (flsBank (flashed 0 4 {}) 1).window = none := by
  unfold flsServed; decide +kernel

/-- R541, R548: an erase starts in the die with its flag cell set. -/
theorem test_flash_erase : (after (.flashErase 0 1) (flashed 0x10000 4 {})).map (fun t => ((flsBank t 1).st, (flsBank t 1).flags)) =
    some (.erasing, [1]) := by decide +kernel
/-- `hosted` in compatibility mode, ring 0 of endpoint 0 enabled with one entry published. -/
def compat (v : LxRing) : State :=
  { wr hosted (Reg.RING_CFG_ENABLE 0 0) 1 with
    boot := { porst := false, ready := true, memActive := true, stage := 14, mode := .compat }
    lx := { eps := [(0, { rings := [(0, v)] })] } }

theorem meets_compat : lxLive (compat {}) 0 = true ∧ 3 < lxEntries (compat {}) 0 0 ∧ lxEntries (compat {}) 0 0 ≤ 16 ∧
    lxReady (compat { tail := 1 }) 0 0 ∧ fnOpen (compat { tail := 1 }) (.ld 0) = true ∧ 0 + 64 ≤ ldSegs (compat { tail := 1 }) 0 * 0x200000 ∧
    (lxRing (compat { cmds := [{ idx := 0, op := 0, intr := false, done := some (.ok, 5) }] }) 0 0).cmds.length = 1 ∧ lxLive hosted 0 = false := by
  unfold lxReady; decide +kernel

/-- R589, R591: a NOP that has ended writes 0x80 with the code of OK. -/
theorem test_lx_nop : ((after (.nop 0 0 0) (compat { tail := 1 })).bind (after (.lxCommandStatus 0 0))).map
    (fun t => (t.out.getLast?, (lxRing t 0 0).head)) = some (some (.hostMem 0 4 (le 1 0x80)), 1) := by decide +kernel
/-- A trial image of slot 1 that has run since time 0. -/
def onTrial (now : Nat) : State :=
  { hosted with fw := { running := 1, onTrial := true, trialRunning := true, since := some 0 }, twin := { link := .paired }, time := now }

theorem meets_firmware : confirmHolds (onTrial (secs 600)) = true ∧ (onTrial (secs 600)).fw.since = some 0 ∧
    0 + secs (odNum (onTrial (secs 600)) 0xA00101 4 600) ≤ (onTrial (secs 600)).time ∧
    (onTrial 5).time < 0 + secs (odNum (onTrial 5) 0xA00101 4 600) ∧ hosted.fw.since = none := by decide +kernel

/-- R562: after CONFIRM_TIME the trial slot is CONFIRMED. -/
theorem test_fw_confirmed : (after .fwConfirmed (onTrial (secs 600))).map (fun t => (t.fw.confirmed, (fwSlot t 1).st)) =
    some (1, .confirmed) := by decide +kernel
theorem meets_queue : ∃ t, exec .tick { atStep 14 with pending := [.wdiToggle] } = .next t ∧ t.pending = [.wdiToggle] := ⟨_, rfl, by decide +kernel⟩
theorem meets_mem_inv : MemInv { State.reset with
    dram := { mem := [(0, 1#8), (64, 2#8)] }, fls := { banks := [(0, { cells := [(5, 0#8)] })] } } :=
  ⟨by decide, by intro e h; fin_cases h; decide⟩
theorem meets_clock_inv : ClockInv { State.reset with lck := { phase := 1023, count := 2 ^ 40 - 1, listening := true } } :=
  ⟨by decide, by decide, by decide⟩
theorem meets_ready_inv : ReadyInv powered ∧ powered.boot.ready = true := ⟨by intro _; decide, by decide⟩
/-- A running state whose line clock stands at the last phase of the last count but one. -/
def lastTicks : State := { atStep 14 with lck := { count := 2 ^ 40 - 2, phase := 1023, countLost := false } }

theorem meets_timestamps : ClockInv lastTicks ∧ lastTicks.lck.count + 1 < 2 ^ 40 ∧ lastTicks.lck.countLost = false ∧
    lastTicks.ham.vddAon = true ∧ (after .tick lastTicks).map timestamp = some ((2 ^ 40 - 1) * 1024) :=
  ⟨⟨by decide, by decide, by decide⟩, by decide, rfl, rfl, by decide +kernel⟩
theorem meets_synthetic : (clocked { state := .synthetic }).boot.porst = false ∧ (clocked { state := .synthetic }).lck.listening = false ∧
    (clocked { state := .synthetic, lineSeen := true }).lck.state = .synthetic := by decide
theorem meets_locked : (clocked { state := .locked }).boot.porst = false ∧ (clocked { state := .locked }).lck.listening = false ∧
    (clocked { state := .holdover }).lck.state = .holdover := by decide
/-- Keeper cluster 0 (master 2) owns the mailbox, and its operation runs. -/
def mbxBusy : State := setF (wr powered Reg.MBX_CLAIM_OWNER 2) Reg.MBX_CTRL_BUSY

theorem meets_mbx_busy : rdb mbxBusy Reg.MBX_CTRL_BUSY = true ∧ rd mbxBusy Reg.MBX_CLAIM_OWNER = (2 : Fin 11).val ∧ debugShut mbxBusy 2 = false ∧
    regPowered mbxBusy 0x30008 = true ∧ regPowered mbxBusy 0x301FC = true ∧ (mbxShut mbxBusy 2 0x30004).isNone = true ∧
    { mbxBusy with iface := { mbxOp := some ⟨true, true, 0, .ok, [], 0⟩ } }.iface.mbxOp.isSome = true ∧
    (readStatus mbxBusy .mbx 0xFFFFFF).1 ≠ .ok := by decide +kernel
theorem meets_shadows : blockOf 0x20000 ≠ blockOf 0x10010 ∧ (1 : Fin 11) ≠ 0 ∧
    (after (.csrReadLatch 0 0x10010) powered).isSome = true := by decide
theorem meets_parity : (setOf { driven {} with awl := { sets := [(0, { layout := 4, n := 10, w := 12 })] } } 0).w = 12 := by
  decide

/-- The examples after R360 and in R461: the columns of stripe 13 of a 10+2 set, and a media address. -/
theorem test_stripe_places : (List.range 12).map (fun p => unitColumn 12 p 13) = [1, 2, 3, 4, 5, 6, 7, 8, 9, 10, 11, 0] ∧
    mediaAddr 0 2 13 8192 = 0x02000000000D2000 := by decide

/-- R359: g⁸ = g⁴ + g³ + g² + 1, and P and Q of three one-byte units. -/
theorem test_parity : gfDouble^[8] 1#8 = 0x1D#8 ∧ parityP [[0x11#8], [0x22#8], [0x44#8]] = [0x77#8] ∧
    parityQ [[0x01#8], [0x01#8], [0x80#8]] = [(0x01 ^^^ 0x02 ^^^ 0x3A : BitVec 8)] := by decide

/-! ### Ill-formed commands -/

/-- One operand outside its width or size: the check refuses each (part 1). -/
theorem test_ill_formed_1 : ([
    .railPgRise 0 (2 ^ 32), .lineSyncPulse (2 ^ 48) 0, .lineSyncPulse 0 (2 ^ 64), .csrWrite 0 (2 ^ 26) 4 0, .csrWrite 0 0 3 0, .csrAliasWrite 0 0 0,
    .csrAliasWrite 0 0x1800000 0, .csrReadClear 0 (2 ^ 26), .csrReadLatch 0 (2 ^ 26), .odStore .mbx (2 ^ 8), .read ⟨0, 128, 0, 0, true, true⟩ 0,
    .read ⟨0, 1, 256, 0, true, true⟩ 0, .read ⟨0, 1, 0, 0, true, true⟩ (2 ^ 24), .write ⟨0, 128, 0, 0, true, true⟩ 0 [],
    .write ⟨0, 1, 256, 0, true, true⟩ 0 [], .write ⟨0, 1, 0, 0, true, true⟩ (2 ^ 24) [], .write ⟨0, 1, 0, 0, true, true⟩ 0 (List.replicate 57 0),
    .writeInit ⟨0, 128, 0, 0, true, true⟩ 0 0, .writeInit ⟨0, 1, 256, 0, true, true⟩ 0 0, .writeInit ⟨0, 1, 0, 0, true, true⟩ (2 ^ 24) 0,
    .writeInit ⟨0, 1, 0, 0, true, true⟩ 0 (2 ^ 32), .segment ⟨0, 128, 0, 0, true, true⟩ 0 false [], .segment ⟨0, 1, 256, 0, true, true⟩ 0 false [],
    .segment ⟨0, 1, 0, 0, true, true⟩ (2 ^ 16) false [], .segment ⟨0, 1, 0, 0, true, true⟩ 0 false (List.replicate 57 0),
    .ack ⟨0, 128, 0, 0, true, true⟩ 0, .ack ⟨0, 1, 256, 0, true, true⟩ 0, .ack ⟨0, 1, 0, 0, true, true⟩ (2 ^ 16), .tackBootupFrame 0 (2 ^ 7) 0,
    .tackBootupFrame 0 0 (2 ^ 64), .tackTransferTimeout 0 (2 ^ 7) 0, .tackTransferTimeout 0 0 (2 ^ 8),
    .hostWrite 0 0 (2 ^ 16) 0 0 0 (List.replicate 64 0), .hostWrite 0 0 0 (2 ^ 52) 0 0 (List.replicate 64 0),
    .hostWrite 0 0 0 0 (2 ^ 64) 0 (List.replicate 64 0), .hostWrite 0 0 0 0 0 (2 ^ 2) (List.replicate 64 0), .hostWrite 0 0 0 0 0 0 [1],
    .hostRead 0 0 (2 ^ 16) 0 0 .good, .hostRead 0 0 0 (2 ^ 52) 0 .good, .hostRead 0 0 0 0 (2 ^ 2) .good,
    .streamWrite 0 0 (2 ^ 16) 0 0 (List.replicate 64 0), .streamWrite 0 0 0 (2 ^ 52) 0 (List.replicate 64 0),
    .streamWrite 0 0 0 0 (2 ^ 64) (List.replicate 64 0), .streamWrite 0 0 0 0 0 [1], .skiveClose (2 ^ 42), .weltRelease (2 ^ 42) .good,
    .hdmDecoderCommit 0 0 (2 ^ 52) 0 0 0 0 false false, .hdmDecoderCommit 0 0 0 (2 ^ 52) 0 0 0 false false,
    .hdmDecoderCommit 0 0 0 0 (2 ^ 52) 0 0 false false, .doorbellRing 0 0 (2 ^ 64) 0, .doorbellRing 0 0 0 65, .hostLinkUp 0 6 false false,
    .birspi 0 (2 ^ 42), .biconflict 0 (2 ^ 42), .bisnpGuardExpired 0 (2 ^ 42), .getLog 0 [1] 0 0, .getLog 0 (List.replicate 16 0) (2 ^ 32) 0,
    .getLog 0 (List.replicate 16 0) 0 (2 ^ 32), .getEventRecords 0 (2 ^ 2), .clearEventRecords 0 (2 ^ 2) false [], .setEventInterruptPolicy 0 [1],
    .getLsa 0 (2 ^ 32) 0, .getLsa 0 0 (2 ^ 32), .setLsa 0 (2 ^ 32) [], .getPoisonList 0 (2 ^ 64) 0, .getPoisonList 0 0 (2 ^ 64),
    .clearPoison 0 (2 ^ 64) (List.replicate 64 0), .clearPoison 0 0 [1], .setTimestamp 0 (2 ^ 64), .getLdAllocations 0 (2 ^ 8) 0,
    .getLdAllocations 0 0 (2 ^ 8), .odRead 0 (2 ^ 24) 0, .odRead 0 0 (2 ^ 32), .odWrite 0 (2 ^ 24) 0 0 [], .odWrite 0 0 (2 ^ 32) 0 [],
    .odWrite 0 0 0 (2 ^ 32) [], .odWrite 0 0 0 0 (List.replicate 4081 0), .odAbort 0 (2 ^ 24), .objectCreate 0 (2 ^ 64) 0 0 0 0,
    .objectCreate 0 0 (2 ^ 64) 0 0 0] : List Instr).all (fun i => !i.wellFormed) = true := by decide +kernel

/-- One operand outside its width or size: the check refuses each (part 2). -/
theorem test_ill_formed_2 : ([
    .objectCreate 0 0 0 (2 ^ 8) 0 0, .objectCreate 0 0 0 0 (2 ^ 8) 0, .objectCreate 0 0 0 0 0 (2 ^ 8), .objectDestroy 0 (2 ^ 32),
    .objectQuery 0 (2 ^ 32), .objectSetPolicy 0 (2 ^ 32) 0 0, .objectSetPolicy 0 0 (2 ^ 8) 0, .objectSetPolicy 0 0 0 (2 ^ 8),
    .streamOpen 0 (2 ^ 32) 0 0 0 0 0 0 [], .streamOpen 0 0 (2 ^ 64) 0 0 0 0 0 [], .streamOpen 0 0 0 (2 ^ 16) 0 0 0 0 [],
    .streamOpen 0 0 0 0 (2 ^ 8) 0 0 0 [], .streamOpen 0 0 0 0 0 (2 ^ 8) 0 0 [], .streamOpen 0 0 0 0 0 0 (2 ^ 8) 0 [],
    .streamOpen 0 0 0 0 0 0 0 (2 ^ 8) [], .streamClose 0 (2 ^ 16), .layerDone 0 0 (2 ^ 64), .mirror (2 ^ 64) 0 0 (List.replicate 64 0),
    .mirror 0 (2 ^ 42) 0 (List.replicate 64 0), .mirror 0 0 (2 ^ 64) (List.replicate 64 0), .mirror 0 0 0 [1],
    .mirrorFull (2 ^ 64) 0 (List.replicate 64 0), .mirrorFull 0 (2 ^ 42) (List.replicate 64 0), .mirrorFull 0 0 [1], .mirrorAck (2 ^ 64),
    .release (2 ^ 32) 0 0, .release 0 (2 ^ 16) 0, .release 0 0 (2 ^ 64), .repairReq (2 ^ 48) 0, .repairReq 0 (2 ^ 32),
    .repairRsp (2 ^ 32) 0 (List.replicate 64 0), .repairRsp 0 (2 ^ 64) (List.replicate 64 0), .repairRsp 0 0 [1], .remirror (2 ^ 48),
    .journalAck (2 ^ 64), .zoneReq (2 ^ 22), .zoneGrant (List.replicate 65 0) 0, .zoneGrant [] (2 ^ 32), .zoneAck (List.replicate 65 0),
    .barrierReq (2 ^ 32) 0, .barrierReq 0 (2 ^ 2), .barrierDone (2 ^ 32) 0, .barrierDone 0 (2 ^ 8), .failbackReady (2 ^ 32), .violation (2 ^ 8) 0,
    .violation 0 (2 ^ 8), .stirrupUp 3, .wb 0 (2 ^ 37) (List.replicate 64 0), .wb 0 0 [1], .ackData 0 (2 ^ 37) (List.replicate 64 0), .ackData 0 0 [1],
    .dataS 0 (2 ^ 37) (List.replicate 64 0), .dataS 0 0 [1], .dataE 0 (2 ^ 37) (List.replicate 64 0), .dataE 0 0 [1], .agentStore 0 (2 ^ 43) [1],
    .agentStore 0 0 [], .agentStore 0 0 (List.replicate 9 0), .nonTemporalStore 0 (2 ^ 42) 0 [], .nonTemporalStore 0 0 65 [],
    .uncachedAccess 0 (2 ^ 48) false false, .treMaintAbort (2 ^ 38), .dimmTempPoll 0 0 (.value (2 ^ 8)) .pec, .dimmTempPoll 0 0 .pec (.value (2 ^ 8)),
    .holdupSmbusPoll (.value (2 ^ 16)) .pec, .holdupSmbusPoll .pec (.value (2 ^ 16)), .holdupSenseSample 1000001, .leaseReq (2 ^ 32) 0,
    .leaseReq 0 (2 ^ 16), .leaseGrant 0 [] (2 ^ 32) 0, .leaseGrant 0 [] 0 (2 ^ 32), .leaseOpen (2 ^ 32) 0 0 0 0, .leaseOpen 0 (2 ^ 24) 0 0 0,
    .leaseOpen 0 0 (2 ^ 24) 0 0, .leaseOpen 0 0 0 (2 ^ 32) 0, .leaseOpen 0 0 0 0 (2 ^ 64), .leaseAccept 0 (2 ^ 24) 0 0 0,
    .leaseAccept 0 0 (2 ^ 24) 0 0, .leaseAccept 0 0 0 (2 ^ 32) 0, .leaseAccept 0 0 0 0 (2 ^ 64)] : List Instr).all (fun i => !i.wellFormed) = true := by decide +kernel

/-- One operand outside its width or size: the check refuses each (part 3). -/
theorem test_ill_formed_3 : ([
    .pdAlloc .mgmt 0 (2 ^ 16) 0, .pdAlloc .mgmt 0 0 (2 ^ 8), .pdFree .mgmt 0 (2 ^ 16) 0, .pdFree .mgmt 0 0 (2 ^ 16),
    .cqCreate .mgmt 0 (2 ^ 16) 0 0 0 0, .cqCreate .mgmt 0 0 (2 ^ 6) 0 0 0, .cqCreate .mgmt 0 0 0 (2 ^ 64) 0 0, .cqCreate .mgmt 0 0 0 0 (2 ^ 17) 0,
    .cqCreate .mgmt 0 0 0 0 0 (2 ^ 16), .cqDestroy .mgmt 0 (2 ^ 16) 0, .cqDestroy .mgmt 0 0 (2 ^ 17),
    .connCreate .mgmt 0 (2 ^ 16) ⟨0, 0, 0, 0, 0, 0, 0, 0, 0, 0, 0, 0, 0, 0, 0, 0, 0, 0, 0, 0, 0, 0, 0, 0, 0, 0⟩, .connModifyError .mgmt 0 (2 ^ 16) 0,
    .connModifyError .mgmt 0 0 (2 ^ 16), .connModifyTxKey .mgmt 0 (2 ^ 16) 0 0 0, .connModifyTxKey .mgmt 0 0 (2 ^ 16) 0 0,
    .connModifyTxKey .mgmt 0 0 0 (2 ^ 13) 0, .connModifyTxKey .mgmt 0 0 0 0 (2 ^ 32), .connModifyRxKey .mgmt 0 (2 ^ 16) 0 0 0,
    .connModifyRxKey .mgmt 0 0 (2 ^ 16) 0 0, .connModifyRxKey .mgmt 0 0 0 (2 ^ 1) 0, .connModifyRxKey .mgmt 0 0 0 0 (2 ^ 13),
    .connDestroy .mgmt 0 (2 ^ 16) 0, .connDestroy .mgmt 0 0 (2 ^ 16), .regionRegister .mgmt 0 (2 ^ 16) 0 0 0 0 0,
    .regionRegister .mgmt 0 0 (2 ^ 6) 0 0 0 0, .regionRegister .mgmt 0 0 0 (2 ^ 16) 0 0 0, .regionRegister .mgmt 0 0 0 0 (2 ^ 64) 0 0,
    .regionRegister .mgmt 0 0 0 0 0 (2 ^ 64) 0, .regionRegister .mgmt 0 0 0 0 0 0 (2 ^ 8), .regionRevoke .mgmt 0 (2 ^ 16) 0,
    .regionRevoke .mgmt 0 0 (2 ^ 32), .wqeNop 0 [1], .wqeWrite 0 [1], .wqeRead 0 [1], .wqeSend 0 [1], .wqeCas 0 [1], .wqeFaa 0 [1], .wqeWait 0 [1],
    .cipherJobSubmit 0 0 0 (2 ^ 13) 0 0 0 [] false, .keyLoad .mgmt 0 (2 ^ 16) 0 0 false 0 0 [], .keyLoad .mgmt 0 0 (2 ^ 13) 0 false 0 0 [],
    .keyLoad .mgmt 0 0 0 (2 ^ 8) false 0 0 [], .keyFree .mgmt 0 (2 ^ 16) 0, .keyFree .mgmt 0 0 (2 ^ 13), .recordSubmit 0 0 0 (List.replicate 4080 0),
    .nop 0 0 (2 ^ 16), .flush 0 0 (2 ^ 16), .flushMedia 0 0 (2 ^ 16), .zero 0 0 (2 ^ 16) 0 0, .zero 0 0 0 (2 ^ 64) 0, .zero 0 0 0 0 (2 ^ 32),
    .identify 0 0 (2 ^ 16) 0, .identify 0 0 0 (2 ^ 64), .fwDownload 0 0 (2 ^ 16), .fwCommit 0 0 (2 ^ 16), .lxUnknownOpcode 0 0 0 (2 ^ 16),
    .driveLinkChange 0 false 3 false, .doorbellAddrWrite 0 0 (2 ^ 6) 0, .doorbellAddrWrite 0 0 0 (2 ^ 64), .lxRegisterWrite 0 (2 ^ 12) 0] : List Instr).all (fun i => !i.wellFormed) = true := by decide +kernel

/-- The same commands with every operand within its width (part 1). -/
theorem test_well_formed_1 : ([
    .railPgRise 0 0, .lineSyncPulse 0 0, .csrWrite 0 0 4 0, .csrAliasWrite 0 0x1000000 0, .csrReadClear 0 0, .csrReadLatch 0 0, .odStore .mbx 0,
    .read ⟨0, 1, 0, 0, true, true⟩ 0, .write ⟨0, 1, 0, 0, true, true⟩ 0 [], .writeInit ⟨0, 1, 0, 0, true, true⟩ 0 0,
    .segment ⟨0, 1, 0, 0, true, true⟩ 0 false [], .ack ⟨0, 1, 0, 0, true, true⟩ 0, .tackBootupFrame 0 0 0, .tackTransferTimeout 0 0 0,
    .hostWrite 0 0 0 0 0 0 (List.replicate 64 0), .hostRead 0 0 0 0 0 .good, .streamWrite 0 0 0 0 0 (List.replicate 64 0), .skiveClose 0,
    .weltRelease 0 .good, .hdmDecoderCommit 0 0 0 0 0 0 0 false false, .doorbellRing 0 0 0 0, .hostLinkUp 0 0 false false, .birspi 0 0,
    .biconflict 0 0, .bisnpGuardExpired 0 0, .getLog 0 (List.replicate 16 0) 0 0, .getEventRecords 0 0, .clearEventRecords 0 0 false [],
    .setEventInterruptPolicy 0 (List.replicate 4 0), .getLsa 0 0 0, .setLsa 0 0 [], .getPoisonList 0 0 0, .clearPoison 0 0 (List.replicate 64 0),
    .setTimestamp 0 0, .getLdAllocations 0 0 0, .odRead 0 0 0, .odWrite 0 0 0 0 [], .odAbort 0 0, .objectCreate 0 0 0 0 0 0, .objectDestroy 0 0,
    .objectQuery 0 0, .objectSetPolicy 0 0 0 0, .streamOpen 0 0 0 0 0 0 0 0 [], .streamClose 0 0, .layerDone 0 0 0,
    .mirror 0 0 0 (List.replicate 64 0), .mirrorFull 0 0 (List.replicate 64 0), .mirrorAck 0, .release 0 0 0, .repairReq 0 0,
    .repairRsp 0 0 (List.replicate 64 0), .remirror 0, .journalAck 0, .zoneReq 0, .zoneGrant [] 0, .zoneAck [], .barrierReq 0 0, .barrierDone 0 0,
    .failbackReady 0, .violation 0 0, .stirrupUp 8, .wb 0 0 (List.replicate 64 0), .ackData 0 0 (List.replicate 64 0),
    .dataS 0 0 (List.replicate 64 0), .dataE 0 0 (List.replicate 64 0), .agentStore 0 0 [1], .nonTemporalStore 0 0 0 [],
    .uncachedAccess 0 0 false false, .treMaintAbort 0, .dimmTempPoll 0 0 .pec .pec, .holdupSmbusPoll .pec .pec, .holdupSenseSample 0, .leaseReq 0 0,
    .leaseGrant 0 [] 0 0, .leaseOpen 0 0 0 0 0, .leaseAccept 0 0 0 0 0, .pdAlloc .mgmt 0 0 0, .pdFree .mgmt 0 0 0, .cqCreate .mgmt 0 0 0 0 0 0,
    .cqDestroy .mgmt 0 0 0] : List Instr).all (fun i => i.wellFormed) = true := by decide +kernel

/-- The same commands with every operand within its width (part 2). -/
theorem test_well_formed_2 : ([
    .connCreate .mgmt 0 0 ⟨0, 0, 0, 0, 0, 0, 0, 0, 0, 0, 0, 0, 0, 0, 0, 0, 0, 0, 0, 0, 0, 0, 0, 0, 0, 0⟩, .connModifyError .mgmt 0 0 0,
    .connModifyTxKey .mgmt 0 0 0 0 0, .connModifyRxKey .mgmt 0 0 0 0 0, .connDestroy .mgmt 0 0 0, .regionRegister .mgmt 0 0 0 0 0 0 0,
    .regionRevoke .mgmt 0 0 0, .wqeNop 0 (List.replicate 64 0), .wqeWrite 0 (List.replicate 64 0), .wqeRead 0 (List.replicate 64 0),
    .wqeSend 0 (List.replicate 64 0), .wqeCas 0 (List.replicate 64 0), .wqeFaa 0 (List.replicate 64 0), .wqeWait 0 (List.replicate 64 0),
    .cipherJobSubmit 0 0 0 0 0 0 0 [] false, .keyLoad .mgmt 0 0 0 0 false 0 0 [], .keyFree .mgmt 0 0 0, .recordSubmit 0 0 0 [], .nop 0 0 0,
    .flush 0 0 0, .flushMedia 0 0 0, .zero 0 0 0 0 0, .identify 0 0 0 0, .fwDownload 0 0 0, .fwCommit 0 0 0, .lxUnknownOpcode 0 0 0 0,
    .driveLinkChange 0 false 0 false, .doorbellAddrWrite 0 0 0 0, .lxRegisterWrite 0 0 0] : List Instr).all (fun i => i.wellFormed) = true := by decide +kernel

end Sys2Proof.Tests.Slice0
end

section
/-!
PROOFS. The queue's front (O1), the state after reset (O8), and what PORST_N, VDD_AON and the warm resets do (O6).
-/
namespace Sys2Proof.Proofs
open Sys2Proof Sys2Proof.Machine Sys2Proof.Laws

/-- Settles O1: `step` matches on the queue, and `withCommand` puts a command at its front. -/
theorem stepRunsFrontCommand : Obligations.StepRunsFrontCommand := by
  unfold Obligations.StepRunsFrontCommand
  refine ⟨fun s c q => ?_, fun s c => ?_, step_nil⟩
  · exact step_cons _ c q rfl
  · exact step_cons _ c s.pending rfl

/-- Settles O8: every clause reads a field of `State.reset`, whose fields are literals. -/
theorem resetLeaves : Obligations.ResetLeaves := by
  unfold Obligations.ResetLeaves
  refine ⟨rfl, rfl, rfl, rfl, rfl, rfl, fun _ => rfl, rfl, rfl, rfl, rfl, rfl, fun _ => rfl, rfl, rfl, rfl, rfl, rfl, rfl, rfl⟩

/-! ### What the operations of PORST_N and the warm resets leave alone -/

@[simp] theorem enterSynthetic_boot (s : State) : (enterSynthetic s).boot = s.boot := rfl

@[simp] theorem clockStart_boot (s : State) : (clockStart s).boot = s.boot := by
  unfold clockStart
  dsimp only
  split <;> rfl

theorem alert_listed (s : State) (cond : Nat) : cond ∈ (alert s cond).fm.alerts := by
  unfold alert
  by_cases h : cond ∈ s.fm.alerts <;> simp [h]

theorem foldl_boot {α : Type} (f : State → α → State) (l : List α) (s : State) (h : ∀ s a, (f s a).boot = s.boot) :
    (l.foldl f s).boot = s.boot := foldl_kept State.boot f h l s

@[simp] theorem flsTear_boot (s : State) (b : Nat) (o : FlsOp) : (flsTear s b o).boot = s.boot := rfl

@[simp] theorem flsCut_boot (s : State) : (flsCut s).boot = s.boot := by
  unfold flsCut
  exact foldl_boot _ _ _ fun t e => foldl_boot _ _ t fun u o => flsTear_boot u e.1 o

/-! ### PORST_N and VDD_AON -/

section
variable {mode : Fin 4} {sv tw torn : Bool} {s : State}

theorem porstNRelease_refused (hv : s.ham.vddAon = true) (hp : s.boot.porst = true) (hm : strapMode mode sv = .refused) :
    ∃ t, exec (.porstNRelease mode sv tw) s = .next t ∧ t.boot.stop = .refused ∧ t.boot.porst = false ∧
      Ev.MODE_STRAP_INVALID.code ∈ t.fm.alerts := by
  simp only [exec_porstNRelease, execPorstNRelease, hv, hp, hm]
  exact ⟨_, rfl, by simp, by simp, alert_listed _ _⟩

theorem warmResetHold_early (hw : s.boot.warm = .draining) (hl : s.boot.wrstLow = false) (hc : s.cin.phase ≠ .commit) (h9 : s.boot.stage < 9) :
    ∃ t, exec (.warmResetHold torn) s = .next t ∧ t.boot.stage = min 2 s.boot.stage ∧ t.boot.warm = .running ∧
      t.boot.warmPath = false ∧ rd t Reg.GLB_BOOT_PROMOTED = 1 := by
  simp only [exec_warmResetHold, execWarmResetHold, hw, hl, hc, h9]
  exact ⟨_, rfl, by simp, by simp, by simp, rd_setF_self _ _ (by decide)⟩
end

/-- Settles O6: each command's meaning is a nest of conditions that the clause's hypotheses decide. -/
theorem powerAndReset : Obligations.PowerAndReset := by
  unfold Obligations.PowerAndReset
  refine ⟨?_, fun _ _ _ _ => porstNRelease_refused, ?_, ?_, ?_, ?_, ?_, ?_, ?_, ?_, ?_, ?_, ?_, fun _ _ => warmResetHold_early, ?_, ?_⟩
  · intro mode sv tw s hv hp hm
    simp [execPorstNRelease, hv, hp, hm]
  · intro torn s hp hv hc
    simp [execPorstNAssert, hp, hv, hc]
  · intro torn s hp hv hc hd
    simp [execPorstNAssert, hp, hv, hc, hd]
  · intro torn s hv
    simp [execVddAonLoss, hv]
  · intro s hv
    simp [execVddAonReturn, hv]
  · exact fun s => rfl
  · exact fun s => rfl
  · intro m s hm
    simp [execSwWarmReset, hm]
  · intro m v s hm hv
    simp [execSwWarmReset, hm, hv]
  · intro s hw hd hq
    simp [execWarmResetDeferralEnd, hw, hd, hq]
  · intro s hw hd hq
    simp [execWarmResetDeferralEnd, hw, hd, hq]
  · intro torn s hw hl hc h9 hr
    simp [execWarmResetHold, hw, hl, hc, Nat.not_lt.mpr h9, hr]
  · intro torn s hw hl
    simp [execWarmResetHold, hl]
  · intro torn s hw
    simp [execWarmResetHold, hw]

end Sys2Proof.Proofs
end

section
/-!
PROOFS. What the operations and the commands keep of the queue and of what was sent (O2, O49). One lemma for each operation of the model, in
the order of the model's files. An operation that sends nothing has its outputs unchanged (`_out`, or `_quiet` with the queue). For one that
may send, `Sends s t` says that `t` has the queue of `s` and that the outputs of `s` stand before those of `t`: where it answers a state
(`_sends`, with a hypothesis about what it runs where it runs a command handed to it) and where it may refuse (`_some`); and one for each command,
`Answers` (`_answers`). simp goes from the state after an operation to the state before it;
`-implicitDefEqProofs` stands where what it uses inside a loop is true by definition.
-/
namespace Sys2Proof.Proofs
open Sys2Proof Sys2Proof.Machine Sys2Proof.Laws

/-- What stands in the list of outputs of `t` beyond the length of that of `s`. -/
def sent (s t : State) : List Output := t.out.drop s.out.length

/-- `sent` is a name for the tail: simp does not rewrite its states. -/
@[congr] theorem sent_congr (s t : State) : sent s t = sent s t := rfl

/-- `t` has the queue of `s`, and its outputs are those of `s` followed by more: as two equations that simp rewrites with. -/
abbrev Sends (s t : State) : Prop := t.pending = s.pending ∧ t.out = s.out ++ sent s t

theorem out_eq_of_prefix {s t : State} (h : s.out <+: t.out) : t.out = s.out ++ sent s t := by
  obtain ⟨l, hl⟩ := h
  simp [sent, ← hl]

theorem Sends.of {s t : State} (h : t.pending = s.pending ∧ s.out <+: t.out) : Sends s t := ⟨h.1, out_eq_of_prefix h.2⟩

theorem Sends.grows {s t : State} (h : Sends s t) : t.pending = s.pending ∧ s.out <+: t.out :=
  ⟨h.1, sent s t, h.2.symm⟩

theorem Sends.refl (s : State) : Sends s s := .of ⟨rfl, List.prefix_rfl⟩

theorem Sends.trans {s t u : State} (h1 : Sends s t) (h2 : Sends t u) : Sends s u :=
  .of ⟨h2.1.trans h1.1, by rw [h2.2, h1.2]; simp⟩

theorem Sends.ite {c : Prop} [Decidable c] {s a b : State} (ha : Sends s a) (hb : Sends s b) : Sends s (if c then a else b) := by
  split
  · exact ha
  · exact hb

@[simp] theorem pending_ite (c : Prop) [Decidable c] (s t : State) :
    (if c then s else t).pending = if c then s.pending else t.pending := apply_ite ..

@[simp] theorem out_ite (c : Prop) [Decidable c] (s t : State) :
    (if c then s else t).out = if c then s.out else t.out := apply_ite ..

@[simp] theorem prefix_ite (c : Prop) [Decidable c] (o a b : List Output) :
    (o <+: if c then a else b) ↔ if c then o <+: a else o <+: b := by
  split <;> rfl

@[simp] theorem prefix_ite_append (c : Prop) [Decidable c] (o a b d : List Output) :
    (o <+: (if c then a else b) ++ d) ↔ if c then o <+: a ++ d else o <+: b ++ d := by
  split <;> rfl

/-- A loop whose every turn only adds to the outputs only adds to them. -/
@[simp] theorem foldl_out {α : Type} (f : State → α → State) (l : List α) (s : State) (h : ∀ s a, s.out <+: (f s a).out) :
    (l.foldl f s).out = s.out ++ sent s (l.foldl f s) :=
  out_eq_of_prefix <| List.foldlRecOn (motive := fun t => s.out <+: t.out) l f List.prefix_rfl fun t ht a _ => ht.trans (h t a)

theorem Sends.foldl {α : Type} {f : State → α → State} {l : List α} {s u : State} (h0 : Sends s u) (h : ∀ t a, Sends t (f t a)) :
    Sends s (l.foldl f u) :=
  List.foldlRecOn l f h0 fun t ht a _ => ht.trans (h t a)

/-- A loop that carries a value beside the state. -/
theorem foldl_snd_sends {α β : Type} {f : β × State → α → β × State} {l : List α} {s : State} {p : β × State} (h0 : Sends s p.2)
    (h : ∀ p a, Sends p.2 (f p a).2) : Sends s (l.foldl f p).2 :=
  List.foldlRecOn (motive := fun p => Sends s p.2) l f h0 fun p hp a _ => hp.trans (h p a)

/-- A chain of steps each of which may refuse: where none refuses, what each step keeps stands at the end. -/
theorem foldl_bind_sends {α : Type} {f : State → α → Option State} (hf : ∀ u a t, f u a = some t → Sends u t) {l : List α} {s u t : State}
    (h0 : Sends s u) (h : l.foldl (fun (o : Option State) a => o.bind (fun v => f v a)) (some u) = some t) : Sends s t := by
  refine List.foldlRecOn (motive := fun o => ∀ t, o = some t → Sends s t) l _ ?_ ?_ t h
  · intro t ht
    cases ht
    exact h0
  · intro o ho a _ t ht
    obtain ⟨v, hv, hva⟩ := Option.bind_eq_some_iff.1 ht
    exact (ho v hv).trans (hf v a t hva)

theorem sends_getD {s : State} {o : Option State} (h : ∀ t, o = some t → Sends s t) : Sends s (o.getD s) := by
  cases o with
  | none => exact .refl s
  | some t => exact h t rfl

/-- The command answers a next state, with the queue of `s` and after what `s` had sent. -/
def Answers (s : State) (o : Host.Outcome State Fault Refusal) : Prop :=
  ∃ t, o = .next t ∧ t.pending = s.pending ∧ s.out <+: t.out

@[simp] theorem answers_next (s t : State) : Answers s (.next t) ↔ t.pending = s.pending ∧ s.out <+: t.out := by
  simp [Answers]

theorem Answers.of_sends {s t : State} (h : Sends s t) : Answers s (.next t) := by
  simp [h]

@[simp] theorem answers_ite (c : Prop) [Decidable c] (s : State) (a b : Host.Outcome State Fault Refusal) :
    Answers s (if c then a else b) ↔ if c then Answers s a else Answers s b := by
  split <;> rfl

/-- The state of a known pair, as the component of which simp knows what it sends. -/
theorem eq_snd {α : Type} {x : α × State} {a : α} {t : State} (h : x = (a, t)) : t = x.2 := by rw [h]

/-! ### Machine/Ops -/

@[simp] theorem countViolation_out (s : State) (p : Partner) (limit : Nat) : (countViolation s p limit).out = s.out := by
  simp [countViolation]

@[simp] theorem smbViolation_sends (s : State) (p : Partner) (cause : Nat) : Sends s (smbViolation s p cause) := .of <| by
  unfold smbViolation
  split
  dsimp only
  split <;> simp

@[simp] theorem smbRead_sends (s : State) (p : Partner) (top : Nat) (first retry : SmbAnswer) :
    Sends s (smbRead s p top first retry).2 := .of <| by
  simp only [smbRead]
  repeat' split
  all_goals simp

/-! ### Machine/Operands -/

@[simp] theorem fldWrite_out (s : State) (f : Fld) (v : Nat) : (fldWrite s f v).out = s.out := by simp [fldWrite]

@[simp] theorem fldStage_out (s : State) (f : Fld) (v : Nat) : (fldStage s f v).out = s.out := by simp [fldStage]

theorem masterRefused_some {s t : State} {m off : Nat} (h : masterRefused s m off = some t) : Sends s t := by
  unfold masterRefused at h
  split at h
  · cases h
    exact .of (by simp)
  · split at h <;> cases h
    exact .of (by simp)

/-! ### Machine/CipherJobs -/

@[simp] theorem bklSet_out (s : State) (b : Buckle) : (bklSet s b).out = s.out := by simp [bklSet]

@[simp] theorem jobEnd_sends (s : State) (j : CJob) (st : Status) (out : Bytes) : Sends s (jobEnd s j st out) :=
  .of (by simp [jobEnd])

@[simp] theorem jobsEnd_sends (s : State) (p : CJob → Bool) (run : Bool) (st : Status) :
    Sends s (jobsEnd s p run st) := .of (by simp [jobsEnd])

@[simp] theorem cipherCommit_sends (s : State) : Sends s (cipherCommit s) := .of (by simp [cipherCommit])

/-! ### Machine/FlashOps -/

@[simp] theorem flsSet_out (s : State) (b : Nat) (v : FlsBank) : (flsSet s b v).out = s.out := by simp [flsSet]

@[simp] theorem mixBytes_out (s : State) (old new : Bytes) : (mixBytes s old new).2.out = s.out := by simp [mixBytes]

@[simp] theorem flsStatus_out (s : State) (b : Nat) (st : Status) : (flsStatus s b st).out = s.out := by simp [flsStatus]

@[simp] theorem flsBusy_out (s : State) (b : Nat) (v : Bool) : (flsBusy s b v).out = s.out := by simp [flsBusy]

@[simp] theorem flsFreeze_out (s : State) : (flsFreeze s).out = s.out := by simp [flsFreeze]

@[simp] theorem flsTear_out (u : State) (b : Nat) (o : FlsOp) : (flsTear u b o).out = u.out := by simp [flsTear]

@[simp] theorem flsCut_sends (s : State) : Sends s (flsCut s) := .of (by simp [flsCut])

@[simp] theorem flsWear_out (s : State) (b sector : Nat) : (flsWear s b sector).out = s.out := by simp [flsWear]

@[simp] theorem flsErased_out (s : State) (b sector : Nat) : (flsErased s b sector).out = s.out := by simp [flsErased]

/-! ### Machine/TreeOps -/

@[simp] theorem treeLines_out (s : State) (ls : List TreeLine) : (treeLines s ls).out = s.out := by simp [treeLines]

@[simp] theorem treePut_out (s : State) (t : TreeLine) : (treePut s t).out = s.out := by simp [treePut]

@[simp] theorem treeDrop_out (s : State) (n : Nat) : (treeDrop s n).out = s.out := by simp [treeDrop]

@[simp] theorem treeSweep_out (s : State) (n : Nat) : (treeSweep s n).out = s.out := by simp [treeSweep]

@[simp] theorem wbbPut_out (s : State) (e : WbbEntry) : (wbbPut s e).out = s.out := by simp [wbbPut]

@[simp] theorem treeClean_out (s : State) (t : TreeLine) : (treeClean s t).out = s.out := by simp [treeClean]

@[simp] theorem treeCleanWhere_sends (s : State) (p : TreeLine → Bool) : Sends s (treeCleanWhere s p) :=
  .of (by simp [treeCleanWhere])

@[simp] theorem treeCleanInv_out (s : State) (t : TreeLine) : (treeCleanInv s t).out = s.out := by simp [treeCleanInv]

@[simp] theorem treeEvict_out (s : State) (t : TreeLine) : (treeEvict s t).out = s.out := by simp [treeEvict]

@[simp] theorem treeHit_out (s : State) (n : Nat) : (treeHit s n).out = s.out := by simp [treeHit]

@[simp] theorem treeMiss_out (s : State) (n : Nat) : (treeMiss s n).out = s.out := by simp [treeMiss]

@[simp] theorem chanSet_out (s : State) (c : Nat) (v : Chan) : (chanSet s c v).out = s.out := by simp [chanSet]

@[simp] theorem dramStore_out (s : State) (n : Nat) (data : Bytes) (poison : Bool) : (dramStore s n data poison).out = s.out := by
  simp [dramStore]

@[simp] theorem wrqPut_out (s : State) (n : Nat) (data : Bytes) (poison : Bool) : (wrqPut s n data poison).out = s.out := by
  simp [wrqPut]

@[simp] theorem rdqPut_out (s : State) (n : Nat) (p : ReadFor) (port : Option Nat) : (rdqPut s n p port).out = s.out := by
  simp [rdqPut]

@[simp] theorem treeAlloc_out (s : State) (n : Nat) : (treeAlloc s n).2.out = s.out := by
  unfold treeAlloc
  repeat' split
  all_goals simp

/-! ### Machine/CinchOps -/

@[simp] theorem admitUpdate_sends (s : State) : Sends s (admitUpdate s) := .of <| by
  simp only [admitUpdate]
  repeat' split
  all_goals simp

@[simp] theorem cinchRecompute_sends (s : State) : Sends s (cinchRecompute s) := .of (by simp [cinchRecompute])

@[simp] theorem takeAdmission_out (s : State) : (takeAdmission s).2.out = s.out := by
  unfold takeAdmission
  repeat' split
  all_goals simp

@[simp] theorem markDirtyAt_out (s : State) (dl lo : Nat) (old : Bool) : (markDirtyAt s dl lo old).out = s.out := by
  simp [markDirtyAt]

@[simp] theorem markDirty_out (s : State) (dl lo : Nat) : (markDirty s dl lo).out = s.out := by simp [markDirty]

/-! ### Machine/DriveOps -/

@[simp] theorem driveSet_out (s : State) (n : Nat) (d : Drive) : (driveSet s n d).out = s.out := by simp [driveSet]

@[simp] theorem setSet_out (s : State) (n : Nat) (v : StripeSet) : (setSet s n v).out = s.out := by simp [setSet]

@[simp] theorem issueCmd_sends (s : State) (slot : Nat) (use : DriveFor) : Sends s (issueCmd s slot use) := .of (by simp [issueCmd])

@[simp] theorem issueNext_sends (s : State) (slot : Nat) : Sends s (issueNext s slot) := .of <| by
  simp only [issueNext]
  split <;> simp

@[simp] theorem reconstruct_sends (s : State) (n stripe unit : Nat) : Sends s (reconstruct s n stripe unit) := by
  unfold reconstruct
  exact .foldl (.of (by simp)) fun t c => .of (by split <;> simp)

@[simp] theorem readUnit_sends (s : State) (n stripe unit : Nat) : Sends s (readUnit s n stripe unit) := .of <| by
  simp only [readUnit]
  split <;> simp

/-! ### Machine/LatOps -/

@[simp] theorem latSet_out (s : State) (l : Latigo) : (latSet s l).out = s.out := by simp [latSet]

@[simp] theorem connPut_out (s : State) (id : Nat) (c : Conn) : (connPut s id c).out = s.out := by simp [connPut]

@[simp] theorem regionPut_out (s : State) (idx : Nat) (r : Region) : (regionPut s idx r).out = s.out := by simp [regionPut]

@[simp] theorem latResult_sends (s : State) (slot tag : Nat) (st : Status) (out : Bytes) :
    Sends s (latResult s slot tag st out) := .of (by simp [latResult])

@[simp] theorem aeth_sends (s : State) (id : Nat) (c : Conn) (psn : Nat) (p : Nat → RocePkt) :
    Sends s (aeth s id c psn p) := .of (by simp [aeth])

@[simp] theorem regionLeave_sends (s : State) (idx : Nat) : Sends s (regionLeave s idx) := .of <| by
  unfold regionLeave
  repeat' split
  all_goals simp

@[simp] theorem connError_sends (s : State) (id : Nat) : Sends s (connError s id) := .of <| by
  unfold connError
  split <;> simp

@[simp] theorem wqeError_sends (s : State) (id idx : Nat) (st : Status) : Sends s (wqeError s id idx st) := .of <| by
  unfold wqeError
  split <;> simp

@[simp] theorem msgEnd_sends (s : State) (id : Nat) (m : RxMsg) : Sends s (msgEnd s id m) := .of <| by
  unfold msgEnd
  repeat' split
  all_goals simp

@[simp] theorem latFinished_sends (s : State) (id msg : Nat) : Sends s (latFinished s id msg) := .of <| by
  unfold latFinished
  repeat' split
  all_goals simp

@[simp] theorem latLine_sends (s : State) (id msg : Nat) (poison : Bool) : Sends s (latLine s id msg poison) := .of <| by
  unfold latLine
  repeat' split
  all_goals simp

/-! ### Machine/RingOps -/

@[simp] theorem busyPut_out (s : State) (t : HomeTxn) : (busyPut s t).out = s.out := by simp [busyPut]

@[simp] theorem busyDrop_out (s : State) (dl : Nat) : (busyDrop s dl).out = s.out := by simp [busyDrop]

@[simp] theorem homeQueue_out (s : State) (r : HomeReq) : (homeQueue s r).out = s.out := by simp [homeQueue]

@[simp] theorem startRound_sends (s : State) (r : HomeReq) (inv : Bool) (targets bi : List Nat) (writer : Option Nat) (setB : Bool) :
    Sends s (startRound s r inv targets bi writer setB) := .of (by simp -implicitDefEqProofs [startRound])

@[simp] theorem evictRound_sends (s : State) (v : TreeLine) : Sends s (evictRound s v) := .of (by simp [evictRound])

/-! ### Machine/Lines -/

@[simp] theorem ldSet_out (s : State) (n : Nat) (v : LDev) : (ldSet s n v).out = s.out := by simp [ldSet]

@[simp] theorem segSet_out (s : State) (hs : Nat) (v : Segment) : (segSet s hs v).out = s.out := by simp [segSet]

@[simp] theorem mapPoison_out (s : State) (gl : Nat) (p : Bool) : (mapPoison s gl p).out = s.out := by simp [mapPoison]

@[simp] theorem weltPut_out (s : State) (e : WeltEntry) : (weltPut s e).out = s.out := by simp [weltPut]

@[simp] theorem weltDrop_out (s : State) (gl : Nat) : (weltDrop s gl).out = s.out := by simp [weltDrop]

@[simp] theorem skiveDrop_out (s : State) (gl : Nat) : (skiveDrop s gl).out = s.out := by simp [skiveDrop]

@[simp] theorem answerRead_sends (s : State) (who : Reader) (gl : Nat) (data : Bytes) (poison : Bool) :
    Sends s (answerRead s who gl data poison) := .of <| by
  unfold answerRead
  split <;> simp

@[simp] theorem answerHeld_sends (s : State) (p : HeldRead → Bool) : Sends s (answerHeld s p) := by
  unfold answerHeld
  exact .foldl (.of (by simp)) fun t r => .of (by split <;> simp)

@[simp] theorem holdRead_out (s : State) (who : Reader) (gl : Nat) (w : ReadWait) : (holdRead s who gl w).out = s.out := by
  simp [holdRead]

@[simp] theorem startLoad_sends (s : State) (hs rank : Nat) : Sends s (startLoad s hs rank) := .of <| by
  simp only [startLoad]
  repeat' split
  all_goals simp

@[simp] theorem treeRead_sends (s : State) (who : Reader) (gl dl : Nat) (port : Option Nat) :
    Sends s (treeRead s who gl dl port) := .of <| by
  unfold treeRead
  dsimp only
  split
  case h_1 => repeat' split
              all_goals simp
  case h_2 => repeat' split
              all_goals simp
  case h_3 =>
    split
    · simp
    split
    · simp
    split <;> rename_i h <;> simp [eq_snd h]

@[simp] theorem retryWay_sends (s : State) : Sends s (retryWay s) := .of <| by
  unfold retryWay
  repeat' split
  all_goals simp

@[simp] theorem readLine_sends (s : State) (who : Reader) (gl : Nat) (port : Option Nat) :
    Sends s (readLine s who gl port) := .of <| by
  unfold readLine
  repeat' split
  all_goals simp

@[simp] theorem releaseHit_out (s : State) (t : TreeLine) (pol dl : Nat) (data : PLine) (poison : Bool) (lo : Nat) :
    (releaseHit s t pol dl data poison lo).2.out = s.out := by
  unfold releaseHit
  repeat' split
  all_goals simp

@[simp] theorem releaseThru_out (s : State) (dl : Nat) (data : PLine) (poison : Bool) (lo : Nat) :
    (releaseThru s dl data poison lo).2.out = s.out := by
  unfold releaseThru
  repeat' split
  all_goals simp

@[simp] theorem releaseAlloc_sends (s : State) (pol dl : Nat) (data : PLine) (poison fromSkive : Bool) (lo : Nat) :
    Sends s (releaseAlloc s pol dl data poison fromSkive lo).2 := .of <| by
  unfold releaseAlloc
  split <;> rename_i h <;> simp [eq_snd h]
  split <;> simp

@[simp] theorem treeRelease_sends (s : State) (gl dl : Nat) (data : PLine) (poison fromSkive : Bool) (lo : Nat) :
    Sends s (treeRelease s gl dl data poison fromSkive lo).2 := .of <| by
  simp only [treeRelease]
  repeat' split
  all_goals simp

/-! ### Machine/LxOps -/

@[simp] theorem lxEpSet_out (s : State) (e : Nat) (v : LxEp) : (lxEpSet s e v).out = s.out := by simp [lxEpSet]

@[simp] theorem lxRingSet_out (s : State) (e r : Nat) (v : LxRing) : (lxRingSet s e r v).out = s.out := by simp [lxRingSet]

@[simp] theorem lxDone_out (s : State) (e r idx : Nat) (st : Status) : (lxDone s e r idx st).out = s.out := by simp [lxDone]

/-! ### Machine/TwinOps -/

@[simp] theorem twinSet_out (s : State) (t : Twin) : (twinSet s t).out = s.out := by simp [twinSet]

@[simp] theorem mirrorSend_sends (s : State) (gl : Nat) (data : PLine) : Sends s (mirrorSend s gl data) :=
  .of (by simp [mirrorSend])

@[simp] theorem mirrorLine_sends (s : State) (gl : Nat) (data : PLine) : Sends s (mirrorLine s gl data) :=
  .of (by simp [mirrorLine])

@[simp] theorem poolStore_out (s : State) (f : MirFrame) : (poolStore s f).out = s.out := by simp [poolStore]

@[simp] theorem sendMirrorAck_sends (s : State) : Sends s (sendMirrorAck s) := .of (by simp [sendMirrorAck])

@[simp] theorem poolDrain_sends (s : State) (k : Nat) : Sends s (poolDrain s k) := by
  induction k generalizing s with
  | zero => exact .refl s
  | succ k ih =>
    rw [poolDrain]
    split
    · exact .of (by simp)
    · split
      · exact .trans (.of (by simp)) (ih _)
      · exact .refl s

/-! ### Machine/PersistOps -/

@[simp] theorem hhSet_out (s : State) (gl : Nat) (v : Bool) : (hhSet s gl v).out = s.out := by simp [hhSet]

@[simp] theorem writerFinished_sends (s : State) (who : Writer) : Sends s (writerFinished s who) := .of <| by
  unfold writerFinished
  split <;> simp

@[simp] theorem lineCompleted_sends (s : State) (who : Writer) : Sends s (lineCompleted s who) := .of <| by
  unfold lineCompleted
  split <;> simp

@[simp] theorem postedReads_sends (s : State) (port : Nat) : Sends s (postedReads s port) := .of (by simp [postedReads])

@[simp] theorem sendCompletion_sends (s : State) (w : HeldWrite) : Sends s (sendCompletion s w) := .of <| by
  unfold sendCompletion
  split <;> simp

@[simp] theorem mirrorAfter_sends (s : State) (w : HeldWrite) : Sends s (mirrorAfter s w) := .of <| by
  unfold mirrorAfter
  split <;> simp

@[simp] theorem tryComplete_sends (s : State) (id : Nat) : Sends s (tryComplete s id) := .of <| by
  have hp : ∀ w : HeldWrite, Sends s (if failbackFull s w.line then (false, s) else takeAdmission s).2 := fun w =>
    .of (by split <;> simp)
  unfold tryComplete
  split
  · simp
  · split
    · split <;> rename_i h <;> simp [eq_snd h, hp]
    · simp

@[simp] theorem completeAll_sends (s : State) : Sends s (completeAll s) := .of (by simp [completeAll])

@[simp] theorem cancelEvict_out (s : State) (hs : Nat) : (cancelEvict s hs).out = s.out := by simp [cancelEvict]

@[simp] theorem touchSegment_sends (s : State) (hs : Nat) : Sends s (touchSegment s hs) := .of (by simp [touchSegment])

@[simp] theorem weltMerge_out (s : State) (ld gl : Nat) (data : PLine) (fromSkive : Bool) (seqs : List Nat) (mir : Option Nat) :
    (weltMerge s ld gl data fromSkive seqs mir).out = s.out := by
  unfold weltMerge
  split <;> simp

@[simp] theorem repairWritten_out (s : State) (gl : Nat) (data : PLine) : (repairWritten s gl data).out = s.out := by
  simp [repairWritten]

@[simp] theorem writeRound_sends (s : State) (wid gl : Nat) (writer : Option Nat) (setB : Bool) :
    Sends s (writeRound s wid gl writer setB).2 := .of <| by
  simp only [writeRound]
  repeat' split
  all_goals simp

theorem acceptWrite_some {s t : State} {who : Writer} {ld gl : Nat} {data : PLine} {pair setB : Bool}
    (h : acceptWrite s who ld gl data pair setB = some t) : Sends s t := by
  unfold acceptWrite at h
  split at h
  · extract_lets _q _wid _mir _per s1 s2 s3 s4 _who at h
    have h2 : Sends s s2 := .of (by simp [s2, s1])
    have h3 : Sends s2 s3 := .of (by dsimp only [s3]; split <;> simp)
    have h4 : Sends s3 s4 := .of (by simp [s4])
    split at h
    rename_i h5
    cases h
    exact .trans ((h2.trans h3).trans h4) (.of (by simp [eq_snd h5]))
  · cases h

theorem skiveClose_some {s t : State} {e : SkiveLine} (h : skiveClose s e = some t) : Sends s t := by
  unfold skiveClose at h
  split at h
  · cases h
    exact .of (by simp)
  · cases h

@[simp] theorem skiveClose_getD_sends (s : State) (e : SkiveLine) : Sends s ((skiveClose s e).getD s) := by
  cases h : skiveClose s e with
  | none => exact .refl s
  | some t => exact skiveClose_some h

@[simp] theorem skiveCloseWhere_sends (s : State) (p : SkiveLine → Bool) : Sends s (skiveCloseWhere s p) :=
  .foldl (.refl s) skiveClose_getD_sends

@[simp] theorem skiveWrite_sends (s : State) (e : SkiveLine) : Sends s (skiveWrite s e) := .of <| by
  unfold skiveWrite
  repeat' split
  all_goals simp

@[simp] theorem skiveWriteAll_sends (s : State) : Sends s (skiveWriteAll s) := .of (by simp [skiveWriteAll])

@[simp] theorem weltRelease_sends (s : State) (e : WeltEntry) : Sends s (weltRelease s e) := .of <| by
  unfold weltRelease
  dsimp only
  split
  · simp
  · split <;> rename_i h
    · simp [eq_snd h]
    · repeat' split
      all_goals simp [eq_snd h]

@[simp] theorem cxlEvent_sends (s : State) (n log code : Nat) : Sends s (cxlEvent s n log code) := .of (by simp [cxlEvent])

@[simp] theorem barrierLat_out (s : State) (b : Barrier) : (barrierLat s b).out = s.out := by
  unfold barrierLat
  split <;> simp

@[simp] theorem writeRecord_sends (s : State) (ld addr token : Nat) (st : Status) (scope level : Nat) (intr : Bool) (vec : Nat) :
    Sends s (writeRecord s ld addr token st scope level intr vec) := .of (by simp [writeRecord])

@[simp] theorem barrierAnswer_sends (s : State) (b : Barrier) (st : Status) : Sends s (barrierAnswer s b st) := .of <| by
  unfold barrierAnswer
  split <;> simp

@[simp] theorem endBarrier_sends (s : State) (b : Barrier) (st : Status) : Sends s (endBarrier s b st) := .of (by simp [endBarrier])

@[simp] theorem startBarrier_sends (s : State) (by_ : BarrierBy) (ld scope level : Nat) :
    Sends s (startBarrier s by_ ld scope level) := .of (by simp [startBarrier])

@[simp] theorem pairLost_sends (s : State) : Sends s (pairLost s) := .of (by simp [pairLost])

@[simp] theorem pairBack_out (s : State) : (pairBack s).out = s.out := by simp [pairBack]

/-! ### Machine/Reaction -/

@[simp] theorem fnSet_out (s : State) (f : Fn) (v : FnState) : (fnSet s f v).out = s.out := by simp [fnSet]

@[simp] theorem fnQuiesce_out (s : State) (f : Fn) (want : FnWant) (abort : Nat) : (fnQuiesce s f want abort).out = s.out := by
  simp [fnQuiesce]

@[simp] theorem fnEnter_out (s : State) (f : Fn) : (fnEnter s f).out = s.out := by simp [fnEnter]

@[simp] theorem containLd_out (s : State) (n : Nat) : (containLd s n).out = s.out := by simp [containLd]

@[simp] theorem hostViolation_sends (s : State) (port : Nat) (ld : Option Nat) (cause : Nat) :
    Sends s (hostViolation s port ld cause) := .of <| by
  unfold hostViolation
  split <;> simp -implicitDefEqProofs

@[simp] theorem twinViolation_sends (s : State) (cause code : Nat) : Sends s (twinViolation s cause code) :=
  .of (by simp [twinViolation])

@[simp] theorem closeWindow_out (s : State) (cause : Nat) : (closeWindow s cause).out = s.out := by
  unfold closeWindow
  repeat' split
  all_goals simp

@[simp] theorem warnEnter_sends (s : State) : Sends s (warnEnter s) := .of (by simp [warnEnter])

@[simp] theorem warnStandDown_out (s : State) : (warnStandDown s).out = s.out := by simp [warnStandDown]

@[simp] theorem keeperWriteBack_sends (s : State) (agents : List Nat) : Sends s (keeperWriteBack s agents) :=
  .of (by simp [keeperWriteBack])

@[simp] theorem railSet_out (s : State) (n : Nat) (r : Rail) : (railSet s n r).out = s.out := by simp [railSet]

@[simp] theorem supplyCheck_out (s : State) : (supplyCheck s).out = s.out := by simp [supplyCheck]

@[simp] theorem requalRestart_out (s : State) : (requalRestart s).out = s.out := by simp [requalRestart]

@[simp] theorem railsAtCommit_out (s : State) : (railsAtCommit s).out = s.out := by
  simp only [railsAtCommit]
  split <;> simp

@[simp] theorem heldBack_out (s : State) : (heldBack s).out = s.out := by simp [heldBack]

@[simp] theorem commitMark_out (s : State) (trig : Nat) : (commitMark s trig).out = s.out := by simp [commitMark]

@[simp] theorem commitStore_out (s : State) : (commitStore s).out = s.out := by simp [commitStore]

@[simp] theorem commitMedia_sends (s : State) : Sends s (commitMedia s) := .of (by simp [commitMedia])

@[simp] theorem commitLoads_sends (s : State) : Sends s (commitLoads s) := .of (by simp [commitLoads])

@[simp] theorem commitMaint_out (s : State) : (commitMaint s).out = s.out := by simp [commitMaint]

@[simp] theorem commitRest_out (s : State) (trig : Nat) : (commitRest s trig).out = s.out := by simp [commitRest]

@[simp] theorem enterCommit_sends (s : State) (trig : Nat) : Sends s (enterCommit s trig) := .of (by simp [enterCommit])

@[simp] theorem backOut_out (s : State) (sysReset : Bool) (faulted : Option Nat) : (backOut s sysReset faulted).out = s.out := by
  simp [backOut]

@[simp] theorem commitTrigger_sends (s : State) (trig : Nat) : Sends s (commitTrigger s trig) := .of <| by
  unfold commitTrigger
  split <;> simp

@[simp] theorem warmCauseSet_out (s : State) (c : WarmCause) : (warmCauseSet s c).out = s.out := by
  unfold warmCauseSet
  split <;> simp

@[simp] theorem startWarmReset_sends (s : State) (c : WarmCause) : Sends s (startWarmReset s c) := .of (by simp [startWarmReset])

@[simp] theorem openWindow_out (s : State) (w : Window) : (openWindow s w).out = s.out := by simp [openWindow]

@[simp] theorem endReaction_out (s : State) (sc : Scope) : (endReaction s sc).out = s.out := by simp [endReaction]

@[simp] theorem sevCount_out (s : State) (rung : Nat) : (sevCount s rung).out = s.out := by
  unfold sevCount
  split <;> simp

@[simp] theorem reactS2_out (s : State) (u : FUnit) (inst : Nat) : (reactS2 s u inst).out = s.out := by
  unfold reactS2
  split <;> simp

@[simp] theorem reactS3_sends (s : State) (u : FUnit) (g : FGroup) (inst : Nat) (held : Bool) :
    Sends s (reactS3 s u g inst held) := .of (by simp [reactS3])

@[simp] theorem reactS5_sends (s : State) (u : FUnit) (inst : Nat) : Sends s (reactS5 s u inst) := .of (by simp [reactS5])

@[simp] theorem reactS4_sends (s : State) (u : FUnit) (inst : Nat) : Sends s (reactS4 s u inst) := .of (by simp [reactS4])

@[simp] theorem gradeFault_sends (s0 : State) (u : FUnit) (code inst sev rung : Nat) :
    Sends s0 (gradeFault s0 u code inst sev rung) := .of <| by
  unfold gradeFault
  repeat' split
  all_goals simp

@[simp] theorem reportFault_sends (s : State) (u : FUnit) (code inst sev : Nat) (items : Bytes) :
    Sends s (reportFault s u code inst sev items) := .of (by simp [reportFault])

@[simp] theorem fault_sends (s : State) (u : FUnit) (ev : Ev) (inst : Nat) (items : Bytes) :
    Sends s (fault s u ev inst items) := .of (by simp [fault])

/-! ### Machine/StreamOps -/

@[simp] theorem fetchLayer_sends (s : State) (t : Stream) (k rank : Nat) : Sends s (fetchLayer s t k rank) :=
  .of (by simp [fetchLayer])

@[simp] theorem streamPut_out (s : State) (t : Stream) : (streamPut s t).out = s.out := by simp [streamPut]

@[simp] theorem completeLayers_sends (s : State) (t : Stream) (upto : Nat) : Sends s (completeLayers s t upto) := .of <| by
  unfold completeLayers
  split <;> simp

@[simp] theorem streamTouch_sends (s : State) (ld gl : Nat) : Sends s (streamTouch s ld gl) :=
  .foldl (.refl s) fun x t => .of (by split <;> simp)

/-! ### Machine/Tree -/

@[simp] theorem fillDone_sends (s : State) (t : TreeLine) (data : Bytes) (poison : Bool) :
    Sends s (fillDone s t data poison) := .of <| by
  simp only [fillDone]
  split <;> simp

@[simp] theorem invalidateLine_sends (s : State) (kind : HomeKind) (t : TreeLine) :
    Sends s (invalidateLine s kind t) := .of (by simp [invalidateLine])

theorem execTreeFillDone_answers (line : Nat) (s : State) : Answers s (execTreeFillDone line s) := by
  simp only [execTreeFillDone]
  repeat' split
  all_goals simp

@[simp] theorem walkRun_sends (s : State) (w : Walk) : Sends s (walkRun s w) := .of (by simp [walkRun])

theorem execTreeWalkDone_answers (e : Nat) (s : State) : Answers s (execTreeWalkDone e s) := by
  simp [execTreeWalkDone]

@[simp] theorem maintStart_out (op : Nat) (s : State) : (maintStart op s).out = s.out := by simp [maintStart]

theorem execClean_answers (s : State) : Answers s (execClean s) := by
  simp [execClean]

theorem execCleanInv_answers (s : State) : Answers s (execCleanInv s) := by
  simp [execCleanInv]

theorem execInv_answers (s : State) : Answers s (execInv s) := by
  simp [execInv]

@[simp] theorem maintProcess_sends (s : State) (op lo hi : Nat) : Sends s (maintProcess s op lo hi) := .of (by simp [maintProcess])

theorem execTreMaintAbort_answers (reached : Nat) (s : State) : Answers s (execTreMaintAbort reached s) := by
  unfold execTreMaintAbort
  split <;> simp

theorem execTreMaintDone_answers (s : State) : Answers s (execTreMaintDone s) := by
  unfold execTreMaintDone
  split <;> simp

/-! ### Machine/DramCtl -/

@[simp] theorem panicUpdate_out (s : State) (ch : Nat) : (panicUpdate s ch).out = s.out := by simp [panicUpdate]

@[simp] theorem issueCand_out (s : State) (ch : Nat) (b : Bool) (x : Cand) : (issueCand s ch b x).out = s.out := by
  unfold issueCand
  split <;> simp

theorem execDramArbitrate_answers (ch : Fin 16) (subB : Bool) (s : State) : Answers s (execDramArbitrate ch subB s) := by
  unfold execDramArbitrate
  repeat' split
  all_goals simp

theorem execDramWriteEnqueue_answers (line : Nat) (s : State) : Answers s (execDramWriteEnqueue line s) := by
  unfold execDramWriteEnqueue
  split <;> simp

@[simp] theorem errAddr_out (s : State) (ch line dev rank : Nat) (unc : Bool) : (errAddr s ch line dev rank unc).out = s.out := by
  simp [errAddr]

@[simp] theorem countDevice_sends (s : State) (ch rank dev : Nat) : Sends s (countDevice s ch rank dev) :=
  .of (by simp [countDevice])

@[simp] theorem correctLine_sends (s : State) (ch line dev rank : Nat) (data : Bytes) :
    Sends s (correctLine s ch line dev rank data) := .of (by simp -implicitDefEqProofs [correctLine])

@[simp] theorem poisonLine_out (s : State) (ch line : Nat) : (poisonLine s ch line).out = s.out := by simp [poisonLine]

@[simp] theorem poisonFill_sends (s : State) (line : Nat) : Sends s (poisonFill s line) := .of <| by
  unfold poisonFill
  split <;> simp

@[simp] theorem repairDone_sends (s : State) (line : Nat) (data : Bytes) : Sends s (repairDone s line data) := .of <| by
  simp only [repairDone]
  split <;> simp

@[simp] theorem mapLineLost_sends (s : State) (k : Nat) : Sends s (mapLineLost s k) := .of (by simp [mapLineLost])

@[simp] theorem resolveLine_sends (s : State) (ch line : Nat) (pool map : Option Nat) :
    Sends s (resolveLine s ch line pool map) := .of <| by
  simp only [resolveLine]
  repeat' split
  all_goals simp

@[simp] theorem deliver_sends (s : State) (r : DRead) (data : Bytes) (poison : Bool) :
    Sends s (deliver s r data poison) := .of <| by
  unfold deliver
  repeat' split
  all_goals simp

@[simp] theorem retireFrame_sends (s : State) (ch line : Nat) : Sends s (retireFrame s ch line) := .of <| by
  unfold retireFrame
  split <;> simp

theorem execDramReadReturn_answers (ch : Fin 16) (subB : Bool) (res : EccResult) (pool map : Option Nat) (s : State) :
    Answers s (execDramReadReturn ch subB res pool map s) := by
  simp only [execDramReadReturn]
  repeat' split
  all_goals simp

theorem execDramRefreshDue_answers (ch : Fin 16) (subB : Bool) (s : State) : Answers s (execDramRefreshDue ch subB s) := by
  simp [execDramRefreshDue]

@[simp] theorem dimmHot_out (s : State) (ch : Nat) (hot : List Nat) (dimm : Nat) : (dimmHot s ch hot dimm).out = s.out := by
  simp [dimmHot]

theorem execDimmTempPoll_answers (ch : Fin 16) (dimm : Fin 2) (first retry : SmbAnswer) (s : State) :
    Answers s (execDimmTempPoll ch dimm first retry s) := by
  simp only [execDimmTempPoll]
  split <;> simp

theorem execDramRetrainDone_answers (ch : Fin 16) (pass : Bool) (s : State) : Answers s (execDramRetrainDone ch pass s) := by
  simp [execDramRetrainDone]

@[simp] theorem retrainSlot_out (s : State) (ch : Nat) : (retrainSlot s ch).out = s.out := by simp [retrainSlot]

@[simp] theorem scrubChan_sends (s : State) (ch : Nat) : Sends s (scrubChan s ch) := .of (by simp [scrubChan])

@[simp] theorem scrubTick_sends (s : State) : Sends s (scrubTick s) := .of (by simp [scrubTick])

/-! ### Machine/SramOps -/

@[simp] theorem pendingPoisoned_out (s : State) (gl : Nat) : (pendingPoisoned s gl).out = s.out := by simp [pendingPoisoned]

@[simp] theorem pendingByte_out (s : State) (gl k : Nat) (skive : Bool) (b : Byte) : (pendingByte s gl k skive b).out = s.out := by
  simp [pendingByte]

@[simp] theorem weltOutcome_sends (s : State) (gl : Nat) (skive poisoned : Bool) :
    Sends s (weltOutcome s gl skive poisoned) := .of (by simp [weltOutcome])

@[simp] theorem weltError_sends (s : State) (gl k : Nat) (unc : Bool) : Sends s (weltError s gl k unc) := .of (by simp [weltError])

@[simp] theorem weltRepaired_sends (s : State) (r : WeltRepair) (b : Option Byte) : Sends s (weltRepaired s r b) := .of <| by
  unfold weltRepaired
  repeat' split
  all_goals simp

@[simp] theorem wayIsolate_sends (s : State) (sl w : Nat) : Sends s (wayIsolate s sl w) := .of (by simp [wayIsolate])

@[simp] theorem treeCorrected_sends (s : State) (t : TreeLine) : Sends s (treeCorrected s t) := .of (by simp [treeCorrected])

@[simp] theorem treePoisoned_sends (s : State) (dl : Nat) : Sends s (treePoisoned s dl) := .of <| by
  unfold treePoisoned
  split <;> simp

@[simp] theorem treeUncorrectable_sends (s : State) (t : TreeLine) (stateLost : Bool) :
    Sends s (treeUncorrectable s t stateLost) := .of <| by
  simp only [treeUncorrectable]
  repeat' split
  all_goals simp

@[simp] theorem treeRepaired_sends (s : State) (ch dl : Nat) (data : Bytes) : Sends s (treeRepaired s ch dl data) := .of <| by
  simp only [treeRepaired]
  split <;> simp

@[simp] theorem treeRepairLost_sends (s : State) (ch dl : Nat) : Sends s (treeRepairLost s ch dl) := .of (by simp [treeRepairLost])

@[simp] theorem sramFound_sends (s : State) (gl : Nat) (e : SramErr) : Sends s (sramFound s gl e) := .of <| by
  unfold sramFound
  repeat' split
  all_goals simp

/-! ### Machine/TwinLink -/

@[simp] theorem twinSend_sends (s : State) (code a b : Nat) (d : Bytes) : Sends s (twinSend s code a b d) :=
  .of (by simp [twinSend])

@[simp] theorem mirrorIn_sends (s : State) (f : MirFrame) (code : Nat) : Sends s (mirrorIn s f code) := .of (by simp [mirrorIn])

theorem execMirror_answers (seq line mask : Nat) (data : Bytes) (s : State) : Answers s (execMirror seq line mask data s) := by
  simp [execMirror]

theorem execMirrorFull_answers (seq line : Nat) (data : Bytes) (s : State) : Answers s (execMirrorFull seq line data s) := by
  simp [execMirrorFull]

@[simp] theorem ackTaken_sends (s : State) (upto : Nat) : Sends s (ackTaken s upto) := .of <| by
  simp only [ackTaken]
  repeat' split
  all_goals simp

theorem execMirrorAck_answers (upto : Nat) (s : State) : Answers s (execMirrorAck upto s) := by
  simp [execMirrorAck]

theorem execRelease_answers (chunk mask cut : Nat) (s : State) : Answers s (execRelease chunk mask cut s) := by
  simp [execRelease]

theorem execRepairReq_answers (line tag : Nat) (s : State) : Answers s (execRepairReq line tag s) := by
  unfold execRepairReq
  repeat' split
  all_goals simp

@[simp] theorem repairLost_sends (s : State) (ch : Nat) (r : Repair) : Sends s (repairLost s ch r) := .of <| by
  simp only [repairLost]
  split <;> simp

theorem execRepairRsp_answers (tag mask : Nat) (data : Bytes) (s : State) : Answers s (execRepairRsp tag mask data s) := by
  unfold execRepairRsp
  repeat' split
  all_goals simp

theorem execRemirror_answers (line : Nat) (s : State) : Answers s (execRemirror line s) := by
  unfold execRemirror
  repeat' split
  all_goals simp

theorem execJournal_answers (seq : Nat) (e : JournalEntry) (s : State) : Answers s (execJournal seq e s) := by
  simp [execJournal]

theorem execJournalAck_answers (seq : Nat) (s : State) : Answers s (execJournalAck seq s) := by
  simp -implicitDefEqProofs [execJournalAck]

theorem execZoneReq_answers (wanted : Nat) (s : State) : Answers s (execZoneReq wanted s) := by
  simp [execZoneReq]

theorem execZoneGrant_answers (zones : List Nat) (epoch : Nat) (s : State) : Answers s (execZoneGrant zones epoch s) := by
  simp [execZoneGrant]

theorem execZoneAck_answers (zones : List Nat) (s : State) : Answers s (execZoneAck zones s) := by
  simp [execZoneAck]

theorem execBarrierReq_answers (tag level : Nat) (s : State) : Answers s (execBarrierReq tag level s) := by
  simp [execBarrierReq]

theorem execBarrierDone_answers (tag st : Nat) (s : State) : Answers s (execBarrierDone tag st s) := by
  simp [execBarrierDone]

@[simp] theorem sendHello_sends (s : State) : Sends s (sendHello s) := .of (by simp [sendHello])

theorem execStirrupUp_answers (lanes : Nat) (s : State) : Answers s (execStirrupUp lanes s) := by
  simp [execStirrupUp]

@[simp] theorem linkLost_sends (s : State) : Sends s (linkLost s) := .of (by simp [linkLost])

theorem execStirrupDown_answers (s : State) : Answers s (execStirrupDown s) := by
  simp [execStirrupDown]

theorem execStpRetrain_answers (s : State) : Answers s (execStpRetrain s) := by
  simp [execStpRetrain]

theorem execHeartbeatLossRetrain_answers (s : State) : Answers s (execHeartbeatLossRetrain s) := by
  simp [execHeartbeatLossRetrain]

@[simp] theorem startResync_sends (s : State) : Sends s (startResync s) := .of <| by
  unfold startResync
  extract_lets _tw s0 s1 _tw1 s2
  have h0 : Sends s s0 := .of (by simp [s0])
  have h1 : Sends s s1 := .foldl h0 fun t gl => .of (by repeat' split
                                                        all_goals simp)
  have h2 : Sends s1 s2 := .of (by simp [s2])
  clear_value s1 s2
  split <;> simp [h2, h1]

@[simp] theorem poolReserve_sends (s : State) : Sends s (poolReserve s) := .of <| by
  unfold poolReserve
  extract_lets +onlyGivenNames want
  clear_value want
  split
  · simp
  extract_lets +onlyGivenNames _a s1
  extract_lets +onlyGivenNames _b s2
  have h2 : Sends s s2 := .of ⟨rfl, List.prefix_rfl⟩
  clear_value s2
  split
  · simp [h2]
  split <;> simp [h2]

@[simp] theorem zonesSettle_out (s : State) (accepted : List Nat) : (zonesSettle s accepted).out = s.out := by simp [zonesSettle]

@[simp] theorem zonesDivide_out (s : State) : (zonesDivide s).out = s.out := by simp [zonesDivide]

@[simp] theorem handshake_sends (s : State) : Sends s (handshake s) := .of (by simp -implicitDefEqProofs [handshake])

theorem execHello_answers (h : HelloFrame) (s : State) : Answers s (execHello h s) := by
  simp [execHello]

@[simp] theorem steerPhase_out (s : State) (h : HeartbeatFrame) : (steerPhase s h).out = s.out := by simp [steerPhase]

theorem execHeartbeat_answers (h : HeartbeatFrame) (s : State) : Answers s (execHeartbeat h s) := by
  unfold execHeartbeat
  rw [answers_next]
  split
  · simp
  · extract_lets _d _mis _run _tw s1 _lck s2 _lck2 s3 s4 _cin s5
    have h2 : Sends s s2 := .of (by simp [s2, s1])
    have h3 : Sends s2 s3 := .of (by simp only [s3]; split <;> simp)
    have h4 : Sends s3 s4 := .of (by simp [s4])
    have h5 : Sends s4 s5 := .of (by simp only [s5]; split <;> simp)
    clear_value s2 s3 s4 s5
    repeat' split
    all_goals simp [h5, h4, h3, h2]

theorem execHandoverBegin_answers (s : State) : Answers s (execHandoverBegin s) := by
  unfold execHandoverBegin
  repeat' split
  all_goals simp

@[simp] theorem takeover_sends (s : State) : Sends s (takeover s) := .of (by simp [takeover])

theorem execHandoverDone_answers (s : State) : Answers s (execHandoverDone s) := by
  simp [execHandoverDone]

@[simp] theorem claimGo_sends (s : State) : Sends s (claimGo s) := .of <| by
  simp only [claimGo]
  repeat' split
  all_goals simp

@[simp] theorem claimStart_sends (s : State) (twinKnown : Bool) : Sends s (claimStart s twinKnown) := .of (by simp [claimStart])

theorem execTwinFailed_answers (s : State) : Answers s (execTwinFailed s) := by
  simp [execTwinFailed]

theorem execClaimDelayExpired_answers (s : State) : Answers s (execClaimDelayExpired s) := by
  unfold execClaimDelayExpired
  split <;> simp

@[simp] theorem fence_sends (s : State) : Sends s (fence s) := .of (by simp [fence])

theorem execReservationPreemptDone_answers (slot : Fin 24) (ok : Bool) (s : State) :
    Answers s (execReservationPreemptDone slot ok s) := by
  unfold execReservationPreemptDone
  split <;> simp -implicitDefEqProofs

theorem execClaimRetry_answers (s : State) : Answers s (execClaimRetry s) := by
  unfold execClaimRetry
  split <;> simp

theorem execLeaseSlotWrite_answers (s : State) : Answers s (execLeaseSlotWrite s) := by
  simp -implicitDefEqProofs [execLeaseSlotWrite]

theorem execHandoverLeaseStale_answers (s : State) : Answers s (execHandoverLeaseStale s) := by
  simp [execHandoverLeaseStale]

theorem execTwinWaitExpired_answers (lease : Option (Nat × Nat)) (s : State) : Answers s (execTwinWaitExpired lease s) := by
  simp [execTwinWaitExpired]

theorem execTwinLeaseRecheck_answers (lease : Option (Nat × Nat)) (s : State) : Answers s (execTwinLeaseRecheck lease s) := by
  unfold execTwinLeaseRecheck
  repeat' split
  all_goals simp

theorem execFailbackReq_answers (s : State) : Answers s (execFailbackReq s) := by
  simp [execFailbackReq]

theorem execFailbackReady_answers (epoch : Nat) (s : State) : Answers s (execFailbackReady epoch s) := by
  simp -implicitDefEqProofs [execFailbackReady]

@[simp] theorem standbyReturn_out (s : State) : (standbyReturn s).out = s.out := by simp [standbyReturn]

theorem execFailbackDone_answers (s : State) : Answers s (execFailbackDone s) := by
  simp [execFailbackDone]

theorem execViolation_answers (cause code : Nat) (s : State) : Answers s (execViolation cause code s) := by
  simp -implicitDefEqProofs [execViolation]

theorem execPartnerContainmentEnd_answers (p : Partner) (s : State) : Answers s (execPartnerContainmentEnd p s) := by
  unfold execPartnerContainmentEnd
  repeat' split
  all_goals simp

@[simp] theorem heartbeatSend_sends (s : State) : Sends s (heartbeatSend s) := .of (by simp [heartbeatSend])

/-! ### Machine/AwlOps -/

@[simp] theorem setUpdate_sends (s : State) (n : Nat) : Sends s (setUpdate s n) := .of <| by
  simp only [setUpdate]
  repeat' split
  all_goals simp

@[simp] theorem beginRebuild_out (s : State) (n c target : Nat) (queued : Option Nat) :
    (beginRebuild s n c target queued).out = s.out := by
  simp [beginRebuild]

@[simp] theorem wantRebuild_sends (s : State) (n c : Nat) : Sends s (wantRebuild s n c) := .of <| by
  simp only [wantRebuild]
  repeat' split
  all_goals simp

@[simp] theorem memberFailed_sends (s : State) (slot cause : Nat) : Sends s (memberFailed s slot cause) := .of <| by
  simp only [memberFailed]
  repeat' split
  all_goals simp

@[simp] theorem memberPredicted_sends (s : State) (slot : Nat) : Sends s (memberPredicted s slot) := .of <| by
  simp only [memberPredicted]
  repeat' split
  all_goals simp

@[simp] theorem driveViolation_out (s : State) (slot cause : Nat) : (driveViolation s slot cause).out = s.out := by
  simp [driveViolation]

@[simp] theorem journalPut_sends (s : State) (e : JournalEntry) : Sends s (journalPut s e) := .of (by simp [journalPut])

@[simp] theorem freeZonesNow_sends (s : State) : Sends s (freeZonesNow s) := .of (by simp -implicitDefEqProofs [freeZonesNow])

theorem takeStripe_some {s t : State} {n k : Nat} (h : takeStripe s n = some (k, t)) : Sends s t := by
  unfold takeStripe at h
  dsimp only at h
  split at h
  · cases h
    exact .of ⟨rfl, List.prefix_rfl⟩
  · split at h <;> cases h
    exact .of ⟨rfl, List.prefix_rfl⟩

@[simp] theorem poisonSector_sends (s : State) (n chunk sector : Nat) : Sends s (poisonSector s n chunk sector) :=
  .of (by simp [poisonSector])

/-! ### Machine/Parity -/

@[simp] theorem writeColumn_sends (s : State) (slot n k : Nat) (cs : List Chunk) (col : Nat) (retry reloc : Bool) :
    Sends s (writeColumn s slot n k cs col retry reloc) := .of (by simp [writeColumn])

/-! ### Machine/Drives -/

theorem execDriveInserted_answers (slot : Fin 24) (info : DriveInfo) (s : State) : Answers s (execDriveInserted slot info s) := by
  unfold execDriveInserted
  repeat' split
  all_goals simp

theorem execDriveRemoved_answers (slot : Fin 24) (s : State) : Answers s (execDriveRemoved slot s) := by
  simp only [execDriveRemoved]
  repeat' split
  all_goals simp

@[simp] theorem readFailed_sends (s : State) (slot n stripe unit sector : Nat) :
    Sends s (readFailed s slot n stripe unit sector) := .of <| by
  unfold readFailed
  repeat' split
  all_goals simp

@[simp] theorem refetchDone_sends (s : State) (n stripe unit : Nat) : Sends s (refetchDone s n stripe unit) := .of <| by
  unfold refetchDone
  split <;> simp

@[simp] theorem cmdDone_sends (s : State) (slot : Nat) (c : DriveCmd) : Sends s (cmdDone s slot c) := .of <| by
  unfold cmdDone
  split <;> simp

@[simp] theorem unitRetry_sends (s : State) (slot n k col : Nat) : Sends s (unitRetry s slot n k col) := .of <| by
  unfold unitRetry
  split <;> simp

@[simp] theorem cmdFailed_sends (s : State) (slot sector : Nat) (c : DriveCmd) :
    Sends s (cmdFailed s slot sector c) := .of <| by
  unfold cmdFailed
  split <;> simp

theorem execDriveCommandComplete_answers (slot : Fin 24) (id : Nat) (res : DriveResult) (s : State) :
    Answers s (execDriveCommandComplete slot id res s) := by
  simp only [execDriveCommandComplete]
  repeat' split
  all_goals simp -implicitDefEqProofs

theorem execDriveCommandTimeout_answers (slot : Fin 24) (id : Nat) (s : State) : Answers s (execDriveCommandTimeout slot id s) := by
  simp [execDriveCommandTimeout]

theorem execDriveResetTimeout_answers (slot : Fin 24) (s : State) : Answers s (execDriveResetTimeout slot s) := by
  simp [execDriveResetTimeout]

theorem execReadShortcutExpired_answers (slot : Fin 24) (id : Nat) (s : State) : Answers s (execReadShortcutExpired slot id s) := by
  unfold execReadShortcutExpired
  repeat' split
  all_goals simp

theorem execDriveAsyncEvent_answers (slot : Fin 24) (spareLow readOnly backupFailed : Bool) (s : State) :
    Answers s (execDriveAsyncEvent slot spareLow readOnly backupFailed s) := by
  simp [execDriveAsyncEvent]

@[simp] theorem driveLinkDown_out (s : State) (slot : Nat) : (driveLinkDown s slot).out = s.out := by simp [driveLinkDown]

theorem execDriveLinkChange_answers (slot : Fin 24) (up : Bool) (width : Nat) (gen5 : Bool) (s : State) :
    Answers s (execDriveLinkChange slot up width gen5 s) := by
  simp [execDriveLinkChange]

theorem execDriveLinkDownExpired_answers (slot : Fin 24) (s : State) : Answers s (execDriveLinkDownExpired slot s) := by
  simp only [execDriveLinkDownExpired]
  repeat' split
  all_goals simp

theorem execForceFail_answers (slot : Fin 24) (s : State) : Answers s (execForceFail slot s) := by
  simp [execForceFail]

theorem execRebuildStart_answers (n : Fin 8) (s : State) : Answers s (execRebuildStart n s) := by
  unfold execRebuildStart
  repeat' split
  all_goals simp

@[simp] theorem rebuildEnd_sends (s : State) (n : Nat) (r : Rebuild) : Sends s (rebuildEnd s n r) := .of <| by
  simp only [rebuildEnd]
  repeat' split
  all_goals simp

@[simp] theorem relocateStripe_sends (s : State) (n stripe : Nat) (bad : List (Nat × Nat)) :
    Sends s (relocateStripe s n stripe bad) := .of <| by
  unfold relocateStripe
  extract_lets +onlyGivenNames _live s1
  have h1 : Sends s s1 := .foldl (.refl s) fun t b => .of (by split <;> simp)
  clear_value s1
  simp [h1]

theorem execRebuildStripe_answers (n : Fin 8) (stripe unit : Nat) (readable : Bool) (bad : List (Nat × Nat)) (last : Bool) (s : State) :
    Answers s (execRebuildStripe n stripe unit readable bad last s) := by
  unfold execRebuildStripe
  split <;> simp

/-! ### Machine/Drain -/

@[simp] theorem holdupCheck_sends (s : State) : Sends s (holdupCheck s) := .of (by simp [holdupCheck])

theorem execHoldupSmbusPoll_answers (first retry : SmbAnswer) (s : State) : Answers s (execHoldupSmbusPoll first retry s) := by
  simp only [execHoldupSmbusPoll]
  split <;> simp

theorem execHoldupSenseSample_answers (uv : Nat) (s : State) : Answers s (execHoldupSenseSample uv s) := by
  simp [execHoldupSenseSample]

@[simp] theorem cleanChunk_sends (s : State) (c : Nat) : Sends s (cleanChunk s c) := .of (by simp [cleanChunk])

@[simp] theorem takeChunk_sends (s : State) (c : Nat) : Sends s (takeChunk s c) := .of (by simp [takeChunk])

theorem execDrainTakeChunk_answers (s : State) : Answers s (execDrainTakeChunk s) := by
  unfold execDrainTakeChunk
  repeat' split
  all_goals simp

@[simp] theorem writeStripe_sends (s : State) (n k : Nat) (cs : List Chunk) (reloc : Bool) :
    Sends s (writeStripe s n k cs reloc) := by
  unfold writeStripe
  exact .foldl (.of (by simp)) fun t c => .of (by split <;> simp)

@[simp] theorem zonesExhausted_sends (s : State) : Sends s (zonesExhausted s) := .of (by simp [zonesExhausted])

@[simp] theorem journalFull_sends (s : State) : Sends s (journalFull s) := .of (by simp [journalFull])

theorem execStripeWrite_answers (relocate : Bool) (s : State) : Answers s (execStripeWrite relocate s) := by
  unfold execStripeWrite
  rw [answers_next]
  extract_lets cs
  split
  · simp
  split
  · simp
  dsimp only
  split
  · simp
  split
  · simp
  split <;> rename_i h
  · simp
  · cases relocate <;> simp [takeStripe_some h]

@[simp] theorem granulesCommit_sends (s : State) (gs : List Nat) : Sends s (granulesCommit s gs) := .of (by simp [granulesCommit])

@[simp] theorem granulesAbandon_out (s : State) (gs : List Nat) : (granulesAbandon s gs).out = s.out := by simp [granulesAbandon]

@[simp] theorem settleT2_sends (s : State) (hs : Nat) : Sends s (settleT2 s hs) := .of (by simp [settleT2])

@[simp] theorem chunkMoved_sends (s : State) (home : Nat) (loc : ChunkLoc) (repl : Bool) :
    Sends s (chunkMoved s home loc repl) := .of (by simp [chunkMoved])

@[simp] theorem commitStripe_sends (s : State) (x : Stripe) : Sends s (commitStripe s x) := .of (by simp [commitStripe])

theorem execStripeCommit_answers (n : Fin 8) (stripe : Nat) (s : State) : Answers s (execStripeCommit n stripe s) := by
  unfold execStripeCommit
  split <;> simp

@[simp] theorem abandonStripe_sends (s : State) (x : Stripe) : Sends s (abandonStripe s x) := .of <| by
  simp only [abandonStripe]
  repeat' split
  all_goals simp

theorem execStripeWriteFailed_answers (n : Fin 8) (stripe col : Nat) (s : State) :
    Answers s (execStripeWriteFailed n stripe col s) := by
  unfold execStripeWriteFailed
  repeat' split
  all_goals simp

theorem execZoneReclaim_answers (zone : Nat) (s : State) : Answers s (execZoneReclaim zone s) := by
  simp [execZoneReclaim]

/-! ### Machine/HostPorts -/

@[simp] theorem trackLow_out (s : State) (p : Nat) : (trackLow s p).out = s.out := by simp [trackLow]

@[simp] theorem refuseCount_sends (s : State) (p : Nat) (ld : Option Nat) (cause : Nat) :
    Sends s (refuseCount s p ld cause) := .of (by simp [refuseCount])

@[simp] theorem skiveAccept_sends (s : State) (p ld tag gl : Nat) (data : PLine) :
    Sends s (skiveAccept s p ld tag gl data) := .of <| by
  unfold skiveAccept
  extract_lets q make
  have hm : ∀ s0, make = some s0 → Sends s s0 := by
    intro s0 h
    dsimp only [make] at h
    repeat' split at h
    all_goals first | (cases h; done) | exact skiveClose_some h | (cases h; exact .refl s)
  clear_value make
  split
  · simp
  · rename_i s0
    extract_lets _per s1 old d mir e s1a _per1 s2 s3 s4 wid _host s5 s6
    have h2 : Sends s0 s2 := .of (by simp [s2, s1a, s1])
    have h3 : Sends s2 s3 := .of (by dsimp only [s3]; split <;> simp)
    have h4 : Sends s3 s4 := .of (by simp [s4])
    have h6 : Sends s4 s6 := .of (by simp [s6, s5])
    clear_value s2 s3 s4 s6
    simp [h6, h4, h3, h2, hm s0 rfl]

@[simp] theorem hostWrite_sends (p ldid tag hpa mask meta_ : Nat) (data : Bytes) (s : State) :
    Sends s (hostWrite p ldid tag hpa mask meta_ data s) := .of <| by
  unfold hostWrite
  dsimp only
  split
  · simp
  · simp
  · split
    · simp
    · split <;> rename_i h
      · simp [acceptWrite_some h]
      · simp

theorem execHostWrite_answers (port : Fin 16) (ldid : Fin 16) (tag hpa mask meta_ : Nat) (data : Bytes) (s : State) :
    Answers s (execHostWrite port ldid tag hpa mask meta_ data s) := by
  simp [execHostWrite]

theorem execStreamWrite_answers (port : Fin 16) (ldid : Fin 16) (tag hpa mask : Nat) (data : Bytes) (s : State) :
    Answers s (execStreamWrite port ldid tag hpa mask data s) := by
  simp [execStreamWrite]

theorem execHostRead_answers (port : Fin 16) (ldid : Fin 16) (tag hpa meta_ : Nat) (err : SramErr) (s : State) :
    Answers s (execHostRead port ldid tag hpa meta_ err s) := by
  unfold execHostRead
  split <;> simp

theorem execHdmDecoderCommit_answers (n : Fin 64) (idx : Fin 4) (base size skip ways gran : Nat) (bi lock : Bool) (s : State) :
    Answers s (execHdmDecoderCommit n idx base size skip ways gran bi lock s) := by
  simp [execHdmDecoderCommit]

theorem execHostLinkUp_answers (port : Fin 16) (width : Nat) (rate64 flit68 : Bool) (s : State) :
    Answers s (execHostLinkUp port width rate64 flit68 s) := by
  simp [execHostLinkUp]

@[simp] theorem linkDown_out (s : State) (p : Nat) : (linkDown s p).out = s.out := by simp [linkDown]

theorem execHostLinkDown_answers (port : Fin 16) (s : State) : Answers s (execHostLinkDown port s) := by
  simp [execHostLinkDown]

@[simp] theorem stageField_out (s : State) (f : Fld) (v : Nat) : (stageField s f v).out = s.out := by simp [stageField]

theorem execHptPortEnableChange_answers (port : Fin 16) (on : Bool) (s : State) :
    Answers s (execHptPortEnableChange port on s) := by
  simp [execHptPortEnableChange]

theorem execHptLdEnableChange_answers (n : Fin 64) (on : Bool) (s : State) : Answers s (execHptLdEnableChange n on s) := by
  simp [execHptLdEnableChange]

theorem execDoorbellAddrWrite_answers (n : Fin 64) (slot : Fin 64) (off value : Nat) (s : State) :
    Answers s (execDoorbellAddrWrite n slot off value s) := by
  simp [execDoorbellAddrWrite]

theorem execDoorbellRing_answers (n : Fin 64) (slot : Fin 64) (word bits : Nat) (s : State) :
    Answers s (execDoorbellRing n slot word bits s) := by
  simp [execDoorbellRing]

/-! ### Machine/Objects -/

@[simp] theorem vendorReply_sends (s : State) (n : Nat) (st : Status) (out : Bytes) :
    Sends s (vendorReply s n st out) := .of (by simp [vendorReply])

@[simp] theorem vendorCmd_sends (s : State) (n : Nat) (run : State → State)
    (h : (run s).pending = s.pending ∧ s.out <+: (run s).out) : Sends s (vendorCmd s n run) := .of (by simp [vendorCmd, h])

@[simp] theorem zeroSegs_sends (s : State) (first k obj : Nat) : Sends s (zeroSegs s first k obj) := .of (by simp [zeroSegs])

theorem execObjectCreate_answers (n : Fin 64) (offset size cls policy flags : Nat) (s : State) :
    Answers s (execObjectCreate n offset size cls policy flags s) := by
  refine .of_sends (vendorCmd_sends s n _ ?_)
  dsimp only
  repeat' split
  all_goals simp

@[simp] theorem objectCmd_sends (s : State) (n id : Nat) (run : State → Nat × Nat → State)
    (h : ∀ r, (run s r).pending = s.pending ∧ s.out <+: (run s r).out) : Sends s (objectCmd s n id run) := .of <| by
  unfold objectCmd
  split
  · simp
  · simp [h]

theorem execObjectDestroy_answers (n : Fin 64) (id : Nat) (s : State) : Answers s (execObjectDestroy n id s) := by
  simp [execObjectDestroy]

theorem execObjectQuery_answers (n : Fin 64) (id : Nat) (s : State) : Answers s (execObjectQuery n id s) := by
  simp [execObjectQuery]

@[simp] theorem setReplica_sends (s : State) (r : Nat × Nat) (on : Bool) : Sends s (setReplica s r on) := .of (by simp [setReplica])

theorem execObjectSetPolicy_answers (n : Fin 64) (id policy flags : Nat) (s : State) :
    Answers s (execObjectSetPolicy n id policy flags s) := by
  refine .of_sends (vendorCmd_sends s n _ (Sends.grows (objectCmd_sends s n id _ fun r => ?_)))
  split
  · simp
  extract_lets _ten _away _tier s1 s2 s3
  split
  · simp
  have h1 : Sends s s1 := .of (by dsimp only [s1]; split <;> simp)
  have h2 : Sends s1 s2 := .of (by simp [s2])
  have h3 : Sends s2 s3 := .of (by simp [s3])
  clear_value s1 s2 s3
  simp [h3, h2, h1]

theorem execStreamOpen_answers (n : Fin 64) (object desc start window mode flags deadline : Nat) (far : List (Nat × Bytes))
    (s : State) : Answers s (execStreamOpen n object desc start window mode flags deadline far s) := by
  refine .of_sends (vendorCmd_sends s n _ (Sends.grows (objectCmd_sends s n object _ fun r => ?_)))
  dsimp only
  repeat' split
  all_goals simp

@[simp] theorem streamEnd_out (s : State) (id : Nat) : (streamEnd s id).out = s.out := by simp [streamEnd]

theorem execStreamClose_answers (n : Fin 64) (id : Nat) (s : State) : Answers s (execStreamClose n id s) := by
  refine .of_sends (vendorCmd_sends s n _ ?_)
  repeat' split
  all_goals simp

theorem execLayerDone_answers (n : Fin 64) (slot : Fin 64) (word : Nat) (s : State) : Answers s (execLayerDone n slot word s) := by
  unfold execLayerDone
  split <;> simp

@[simp] theorem poisonHeld_sends (s : State) (p : HeldRead → Bool) : Sends s (poisonHeld s p) := .of (by simp [poisonHeld])

theorem execStreamDeadline_answers (line : Nat) (s : State) : Answers s (execStreamDeadline line s) := by
  simp [execStreamDeadline]

theorem execLoadLate_answers (line : Nat) (s : State) : Answers s (execLoadLate line s) := by
  simp [execLoadLate]

/-! ### Machine/CipherOps -/

@[simp] theorem keyPut_out (s : State) (k : Nat) (v : KeySlot) : (keyPut s k v).out = s.out := by simp [keyPut]

@[simp] theorem keySweep_out (s : State) : (keySweep s).out = s.out := by simp [keySweep]

@[simp] theorem keyStoreWrite_out (s : State) : (keyStoreWrite s).out = s.out := by simp [keyStoreWrite]

@[simp] theorem keyReload_sends (s : State) : Sends s (keyReload s) := .of <| by
  unfold keyReload
  split <;> simp

@[simp] theorem admitWaiting_sends (s : State) : Sends s (admitWaiting s) := .of (by simp [admitWaiting])

@[simp] theorem scheduleOne_sends (s : State) : Sends s (scheduleOne s) := .of <| by
  unfold scheduleOne
  repeat' split
  all_goals simp

@[simp] theorem schedule_sends (s : State) : Sends s (schedule s) := .of (by simp [schedule])

@[simp] theorem coreOut_sends (s : State) (c : Nat) : Sends s (coreOut s c) := .of <| by
  simp only [coreOut]
  repeat' split
  all_goals simp

@[simp] theorem coreIsolate_sends (s : State) (c : Nat) : Sends s (coreIsolate s c) := .of (by simp [coreIsolate])

/-! ### Machine/Latigo -/

@[simp] theorem latCmd_sends (s : State) (who : Issuer) (slot tag : Nat) (run : State → Status × (Bytes × State))
    (h : (run s).2.2.pending = s.pending ∧ s.out <+: (run s).2.2.out) : Sends s (latCmd s who slot tag run) := .of <| by
  have h1 : Sends s (run s).2.2 := .of h
  unfold latCmd
  extract_lets own r
  clear_value own
  simp [r, h1]

@[simp] theorem no_quiet (s : State) (st : Status) : (no s st).2.2.pending = s.pending ∧ (no s st).2.2.out = s.out := by simp [no]

theorem execPdAlloc_answers (who : Issuer) (slot : Fin 128) (tag tenant : Nat) (s : State) :
    Answers s (execPdAlloc who slot tag tenant s) := by
  refine .of_sends (latCmd_sends s _ _ _ _ ?_)
  repeat' split
  all_goals simp

theorem execPdFree_answers (who : Issuer) (slot : Fin 128) (tag pd : Nat) (s : State) :
    Answers s (execPdFree who slot tag pd s) := by
  refine .of_sends (latCmd_sends s _ _ _ _ ?_)
  repeat' split
  all_goals simp

theorem execCqCreate_answers (who : Issuer) (slot : Fin 128) (tag owner dpa entries qslot : Nat) (s : State) :
    Answers s (execCqCreate who slot tag owner dpa entries qslot s) := by
  refine .of_sends (latCmd_sends s _ _ _ _ ?_)
  repeat' split
  all_goals simp

theorem execCqDestroy_answers (who : Issuer) (slot : Fin 128) (tag cq : Nat) (s : State) :
    Answers s (execCqDestroy who slot tag cq s) := by
  refine .of_sends (latCmd_sends s _ _ _ _ ?_)
  repeat' split
  all_goals simp

@[simp] theorem evictFrom_sends (s : State) (ids : List Nat) : Sends s (evictFrom s ids) := by
  induction ids generalizing s with
  | nil => exact .refl s
  | cons id r ih =>
    rw [evictFrom]
    split
    · exact ih s
    · dsimp only
      split
      · exact .of (by simp)
      · exact .trans (.of (by simp)) (ih _)

theorem execContextEvict_answers (s : State) : Answers s (execContextEvict s) := by
  simp [execContextEvict]

theorem execConnCreate_answers (who : Issuer) (slot : Fin 128) (tag : Nat) (p : ConnParams) (s : State) :
    Answers s (execConnCreate who slot tag p s) := by
  refine .of_sends (latCmd_sends s _ _ _ _ ?_)
  iterate 4
    split
    · simp
  extract_lets s1
  have h1 : Sends s s1 := .of (by simp [s1])
  clear_value s1
  split
  · simp [h1]
  split <;> simp [h1]

@[simp] theorem connCmd_sends (s : State) (who : Issuer) (id : Nat) (run : State → Conn → Status × (Bytes × State))
    (h : ∀ c, (run s c).2.2.pending = s.pending ∧ s.out <+: (run s c).2.2.out) : Sends s (connCmd s who id run).2.2 := .of <| by
  unfold connCmd
  split
  · simp
  · split
    · exact h _
    · simp

theorem execConnModifyError_answers (who : Issuer) (slot : Fin 128) (tag id : Nat) (s : State) :
    Answers s (execConnModifyError who slot tag id s) := by
  simp [execConnModifyError]

theorem execConnModifyTxKey_answers (who : Issuer) (slot : Fin 128) (tag id key salt : Nat) (s : State) :
    Answers s (execConnModifyTxKey who slot tag id key salt s) := by
  refine .of_sends (latCmd_sends s _ _ _ _ (connCmd_sends s _ _ _ fun c => ?_).grows)
  repeat' split
  all_goals simp

theorem execConnModifyRxKey_answers (who : Issuer) (slot : Fin 128) (tag id phase key : Nat) (s : State) :
    Answers s (execConnModifyRxKey who slot tag id phase key s) := by
  refine .of_sends (latCmd_sends s _ _ _ _ (connCmd_sends s _ _ _ fun c => ?_).grows)
  repeat' split
  all_goals simp

theorem execConnDestroy_answers (who : Issuer) (slot : Fin 128) (tag id : Nat) (s : State) :
    Answers s (execConnDestroy who slot tag id s) := by
  refine .of_sends (latCmd_sends s _ _ _ _ (connCmd_sends s _ _ _ fun c => ?_).grows)
  repeat' split
  all_goals simp

theorem execRegionRegister_answers (who : Issuer) (slot : Fin 128) (tag owner pd base len acc : Nat) (s : State) :
    Answers s (execRegionRegister who slot tag owner pd base len acc s) := by
  refine .of_sends (latCmd_sends s _ _ _ _ ?_)
  split
  · simp
  split
  · simp
  dsimp only
  split <;> simp

theorem execRegionRevoke_answers (who : Issuer) (slot : Fin 128) (tag rkey : Nat) (s : State) :
    Answers s (execRegionRevoke who slot tag rkey s) := by
  unfold execRegionRevoke
  dsimp only
  split
  · exact .of_sends (.ite (.of (by simp)) (latCmd_sends s _ _ _ _ (by split_ifs <;> simp)))
  · simp

theorem execRevokeForced_answers (k : Nat) (s : State) : Answers s (execRevokeForced k s) := by
  simp only [execRevokeForced]
  repeat' split
  all_goals simp

@[simp] theorem fetchContext_out (s : State) (id : Nat) : (fetchContext s id).out = s.out := by
  unfold fetchContext
  split <;> simp

theorem execSqTail_answers (n : Fin 64) (qslot : Nat) (value : Word) (s : State) : Answers s (execSqTail n qslot value s) := by
  unfold execSqTail
  split <;> simp

theorem execRqTail_answers (n : Fin 64) (qslot : Nat) (value : Word) (s : State) : Answers s (execRqTail n qslot value s) := by
  unfold execRqTail
  split <;> simp

theorem execCqHead_answers (n : Fin 64) (qslot : Nat) (value : Word) (s : State) : Answers s (execCqHead n qslot value s) := by
  unfold execCqHead
  split <;> simp

@[simp] theorem wqeStart_out (s : State) (id : Nat) (c : Conn) (w : Wqe) (pk : Nat) (st : Option Status) :
    (wqeStart s id c w pk st).out = s.out := by
  simp [wqeStart]

@[simp] theorem readBuffer_sends (s : State) (id msg n dpa len : Nat) : Sends s (readBuffer s id msg n dpa len) :=
  .of (by simp [readBuffer])

@[simp] theorem startWqe_sends (s : State) (id op : Nat) (far : Bytes) : Sends s (startWqe s id op far) := .of <| by
  unfold startWqe
  split
  · simp
  split
  · simp
  split
  · simp
  extract_lets reads cnt d pk bad s1 s2
  have h2 : Sends s s2 := .of (by simp [s2, s1])
  clear_value bad s2
  iterate 3
    split
    · simp
  split
  · simp
  split
  · split <;> simp [h2]
  · simp [h2]

theorem execWqeNop_answers (id : Nat) (far : Bytes) (s : State) : Answers s (execWqeNop id far s) := by
  simp [execWqeNop]

theorem execWqeWrite_answers (id : Nat) (far : Bytes) (s : State) : Answers s (execWqeWrite id far s) := by
  simp [execWqeWrite]

theorem execWqeRead_answers (id : Nat) (far : Bytes) (s : State) : Answers s (execWqeRead id far s) := by
  simp [execWqeRead]

theorem execWqeSend_answers (id : Nat) (far : Bytes) (s : State) : Answers s (execWqeSend id far s) := by
  simp [execWqeSend]

theorem execWqeCas_answers (id : Nat) (far : Bytes) (s : State) : Answers s (execWqeCas id far s) := by
  simp [execWqeCas]

theorem execWqeFaa_answers (id : Nat) (far : Bytes) (s : State) : Answers s (execWqeFaa id far s) := by
  simp [execWqeFaa]

theorem execWqeWait_answers (id : Nat) (far : Bytes) (s : State) : Answers s (execWqeWait id far s) := by
  simp [execWqeWait]

@[simp] theorem leftAdd_out (s : State) (who : Writer) (k : Nat) : (leftAdd s who k).out = s.out := by
  unfold leftAdd
  repeat' split
  all_goals simp

theorem agentWrite_some {s t : State} {who : Writer} {n dpa : Nat} {data : Bytes} (h : agentWrite s who n dpa data = some t) :
    Sends s t := by
  unfold agentWrite at h
  exact foldl_bind_sends (fun _ _ _ => acceptWrite_some) (.of (by simp)) h

@[simp] theorem releaseWaits_out (s : State) (cq : Nat) : (releaseWaits s cq).out = s.out := by simp [releaseWaits]

theorem writeCqe_some {s t : State} {cq conn wrId op len idx queue : Nat} {st : Status}
    (h : writeCqe s cq conn wrId op len idx queue st = some t) : Sends s t := by
  unfold writeCqe at h
  split at h
  · cases h
    exact .refl s
  · split at h
    · cases h
    · obtain ⟨u, hu, rfl⟩ := Option.map_eq_some_iff.1 h
      exact (agentWrite_some hu).trans (.of (by simp))

theorem execCqeWrite_answers (id : Nat) (rq : Bool) (far : Bytes) (s : State) : Answers s (execCqeWrite id rq far s) := by
  unfold execCqeWrite
  rw [answers_next]
  split
  · simp
  split
  · split
    · simp
    · exact (sends_getD fun t h => .trans (.of (by simp)) (writeCqe_some h)).grows
  split
  · simp
  split
  · simp
  split
  · simp
  dsimp only
  split
  · simp
  · exact (sends_getD fun t h => .trans (.of (by simp)) (writeCqe_some h)).grows

theorem execRoceAckReceived_answers (id psn : Nat) (data : Bytes) (s : State) : Answers s (execRoceAckReceived id psn data s) := by
  unfold execRoceAckReceived
  rw [answers_next]
  split
  · simp
  split
  · simp
  dsimp only
  split
  · simp
  · exact (sends_getD fun t h => .trans (.of (by simp)) (agentWrite_some h)).grows

@[simp] theorem retriesOut_sends (s : State) (id idx : Nat) : Sends s (retriesOut s id idx) := .of (by simp [retriesOut])

@[simp] theorem resend_sends (s : State) (id : Nat) (c : Conn) (w : Wqe) : Sends s (resend s id c w) := .of <| by
  unfold resend
  split <;> simp

theorem execRoceNakReceived_answers (id : Nat) (kind : NakKind) (s : State) : Answers s (execRoceNakReceived id kind s) := by
  unfold execRoceNakReceived
  repeat' split
  all_goals simp

theorem execRoceAckTimeout_answers (id : Nat) (s : State) : Answers s (execRoceAckTimeout id s) := by
  unfold execRoceAckTimeout
  repeat' split
  all_goals simp

theorem execCnpReceived_answers (id : Nat) (s : State) : Answers s (execCnpReceived id s) := by
  unfold execCnpReceived
  split <;> simp

theorem execCnpRateRecovery_answers (id : Nat) (s : State) : Answers s (execCnpRateRecovery id s) := by
  unfold execCnpRateRecovery
  split <;> simp

@[simp] theorem peerViolation_out (s : State) (addr cause : Nat) : (peerViolation s addr cause).out = s.out := by
  simp [peerViolation]

@[simp] theorem invalidRequest_sends (s : State) (id : Nat) (p : RxPkt) (cause : Nat) :
    Sends s (invalidRequest s id p cause) := .of (by simp [invalidRequest])

@[simp] theorem refuseAccess_sends (s : State) (id : Nat) (p : RxPkt) : Sends s (refuseAccess s id p) :=
  .of (by simp [refuseAccess])

@[simp] theorem msgBegin_sends (s : State) (id : Nat) (c : Conn) (m : RxMsg) : Sends s (msgBegin s id c m) := .of <| by
  simp only [msgBegin]
  repeat' split
  all_goals simp

theorem msgData_some {s t : State} {id : Nat} {c : Conn} {p : RxPkt} {m : RxMsg} {owner dpa : Nat}
    (h : msgData s id c p m owner dpa = some t) : Sends s t := by
  unfold msgData at h
  obtain ⟨u, hu, rfl⟩ := Option.map_eq_some_iff.1 h
  exact .trans (.trans (.of (by simp)) (agentWrite_some hu)) (.of (by simp))

@[simp] theorem rxWrite_sends (s : State) (id : Nat) (c : Conn) (p : RxPkt) : Sends s (rxWrite s id c p) := by
  unfold rxWrite
  split
  · split
    · exact .of (by simp)
    · exact sends_getD fun t h => .trans (.of (by simp)) (msgData_some h)
  split
  · split
    · exact sends_getD fun t h => msgData_some h
    · exact .of (by simp)
  · exact .of (by simp)

@[simp] theorem rxSend_sends (s : State) (id : Nat) (c : Conn) (p : RxPkt) (far : Bytes) : Sends s (rxSend s id c p far) := by
  unfold rxSend
  split
  · exact .of (by simp)
  split
  · split
    · exact .of (by simp)
    · extract_lets dpa b loc len wrId _rq c1 bad m s1
      clear_value bad
      split
      · exact .of (by simp)
      · exact sends_getD fun t h => .trans (.of (by simp [s1])) (msgData_some h)
  split
  · exact sends_getD fun t h => msgData_some h
  · exact .of (by simp)

@[simp] theorem rxRead_sends (s : State) (id : Nat) (c : Conn) (p : RxPkt) : Sends s (rxRead s id c p) := .of <| by
  unfold rxRead
  repeat' split
  all_goals simp

@[simp] theorem rxAtomic_sends (s : State) (id : Nat) (c : Conn) (p : RxPkt) : Sends s (rxAtomic s id c p) := by
  unfold rxAtomic
  split
  · exact .of (by simp)
  split
  · exact .of (by simp)
  dsimp only
  split
  · exact .of (by simp)
  split
  · exact .of (by simp)
  · exact sends_getD fun t h => .trans (.of (by simp)) (agentWrite_some h)

@[simp] theorem rxDuplicate_sends (s : State) (id : Nat) (c : Conn) (p : RxPkt) : Sends s (rxDuplicate s id c p) := .of <| by
  unfold rxDuplicate
  repeat' split
  all_goals simp

@[simp] theorem rxGrant_out (s : State) (id : Nat) (c : Conn) (p : RxPkt) : (rxGrant s id c p).out = s.out := by simp [rxGrant]

@[simp] theorem rxMark_sends (s : State) (id : Nat) (c : Conn) (p : RxPkt) : Sends s (rxMark s id c p) := .of (by simp [rxMark])

@[simp] theorem rxServe_sends (s : State) (id : Nat) (p : RxPkt) (far : Bytes) : Sends s (rxServe s id p far) := .of <| by
  unfold rxServe
  repeat' split
  all_goals simp

@[simp] theorem rxPark_sends (s : State) (id : Nat) (c : Conn) (p : RxPkt) : Sends s (rxPark s id c p) := .of (by simp [rxPark])

@[simp] theorem rxPacket_sends (s : State) (p : RxPkt) (kind : RxKind) (far : Bytes) :
    Sends s (rxPacket s p kind far) := .of <| by
  simp only [rxPacket]
  repeat' split
  all_goals simp

theorem execRdmaWriteRequest_answers (p : RxPkt) (s : State) : Answers s (execRdmaWriteRequest p s) := by
  simp [execRdmaWriteRequest]

theorem execRdmaReadRequest_answers (p : RxPkt) (s : State) : Answers s (execRdmaReadRequest p s) := by
  simp [execRdmaReadRequest]

theorem execSendRequest_answers (p : RxPkt) (far : Bytes) (s : State) : Answers s (execSendRequest p far s) := by
  simp [execSendRequest]

theorem execCompareAndSwap_answers (p : RxPkt) (s : State) : Answers s (execCompareAndSwap p s) := by
  simp [execCompareAndSwap]

theorem execFetchAndAdd_answers (p : RxPkt) (s : State) : Answers s (execFetchAndAdd p s) := by
  simp [execFetchAndAdd]

theorem execContextFetchDone_answers (id took : Nat) (s : State) : Answers s (execContextFetchDone id took s) := by
  unfold execContextFetchDone
  split <;> simp

theorem execEthLinkChange_answers (port : Fin 4) (up : Bool) (s : State) : Answers s (execEthLinkChange port up s) := by
  simp [execEthLinkChange]

/-! ### Machine/Cipher -/

theorem execCipherJobSubmit_answers (cls : Fin 4) (tag owner slot iv du aad : Nat) (data : Bytes) (tagOk : Bool) (s : State) :
    Answers s (execCipherJobSubmit cls tag owner slot iv du aad data tagOk s) := by
  simp only [execCipherJobSubmit]
  repeat' split
  all_goals simp

theorem execCipherJobDone_answers (core : Fin 16) (s : State) : Answers s (execCipherJobDone core s) := by
  unfold execCipherJobDone
  split <;> simp

theorem execCoreIsolated_answers (core : Fin 16) (s : State) : Answers s (execCoreIsolated core s) := by
  simp [execCoreIsolated]

theorem execKeySlotBroken_answers (slot : Fin 8192) (s : State) : Answers s (execKeySlotBroken slot s) := by
  simp only [execKeySlotBroken]
  repeat' split
  all_goals simp

@[simp] theorem keyResult_sends (s : State) (slot tag k : Nat) (st : Status) (check : Bytes) :
    Sends s (keyResult s slot tag k st check) := .of (by simp [keyResult])

theorem execKeyLoad_answers (who : Issuer) (cslot : Fin 128) (tag slot tenant : Nat) (persist : Bool) (format usage : Nat) (blob : Bytes)
    (s : State) : Answers s (execKeyLoad who cslot tag slot tenant persist format usage blob s) := by
  unfold execKeyLoad
  extract_lets foreign free k
  clear_value foreign free k
  refine .of_sends (.ite (.of (by simp)) (.ite (.of (by simp)) (.ite (.of (by simp)) (.of ?_))))
  split
  · simp
  iterate 3
    split
    · simp
  simp

theorem execKeyFree_answers (who : Issuer) (cslot : Fin 128) (tag slot : Nat) (s : State) :
    Answers s (execKeyFree who cslot tag slot s) := by
  simp [execKeyFree]

/-! ### Machine/Persistence -/

theorem execSkiveClose_answers (line : Nat) (s : State) : Answers s (execSkiveClose line s) := by
  unfold execSkiveClose
  split <;> simp

theorem execWeltRelease_answers (line : Nat) (err : SramErr) (s : State) : Answers s (execWeltRelease line err s) := by
  simp only [execWeltRelease]
  split <;> simp

theorem execBarrierEnd_answers (id : Nat) (s : State) : Answers s (execBarrierEnd id s) := by
  unfold execBarrierEnd
  split <;> simp

theorem execBarrierTimeout_answers (id : Nat) (s : State) : Answers s (execBarrierTimeout id s) := by
  unfold execBarrierTimeout
  split <;> simp

theorem execCommitBarrierCutoff_answers (s : State) : Answers s (execCommitBarrierCutoff s) := by
  simp [execCommitBarrierCutoff]

@[simp] theorem gpf_sends (phase port level : Nat) (s : State) : Sends s (gpf phase port level s) := .of (by simp [gpf])

theorem execGpfPhase1_answers (port : Fin 16) (s : State) : Answers s (execGpfPhase1 port s) := by
  simp [execGpfPhase1]

theorem execGpfPhase2_answers (port : Fin 16) (s : State) : Answers s (execGpfPhase2 port s) := by
  simp [execGpfPhase2]

/-! ### Machine/Compat -/

@[simp] theorem lxRingErr_out (s : State) (e : Nat) : (lxRingErr s e).out = s.out := by simp [lxRingErr]

@[simp] theorem lxStage_out (e : Nat) (s : State) (f : Fld) (v : Nat) : (lxStage e s f v).out = s.out := by simp [lxStage]

@[simp] theorem lxRingReset_out (s : State) (e : Nat) : (lxRingReset s e).out = s.out := by simp [lxRingReset]

@[simp] theorem lxTailWrite_sends (s : State) (e r v : Nat) : Sends s (lxTailWrite s e r v) := .of (by simp [lxTailWrite])

@[simp] theorem lxRingWrite_sends (s : State) (e r off v : Nat) : Sends s (lxRingWrite s e r off v) := .of <| by
  unfold lxRingWrite
  split <;> simp

@[simp] theorem lxWrite_sends (s : State) (e off value : Nat) : Sends s (lxWrite s e off value) := .of <| by
  unfold lxWrite
  repeat' split
  all_goals simp

theorem execLxRegisterWrite_answers (e : Fin 2) (off : Nat) (value : Word) (s : State) :
    Answers s (execLxRegisterWrite e off value s) := by
  simp [execLxRegisterWrite]

theorem execLxBankWrite_answers (e : Fin 2) (value : Word) (s : State) : Answers s (execLxBankWrite e value s) := by
  simp [execLxBankWrite]

theorem execLxRingTailWrite_answers (e : Fin 2) (r : Fin 8) (value : Word) (s : State) :
    Answers s (execLxRingTailWrite e r value s) := by
  simp [execLxRingTailWrite]

theorem execLxRingReset_answers (e : Fin 2) (s : State) : Answers s (execLxRingReset e s) := by
  simp [execLxRingReset]

theorem execFunctionLevelReset_answers (e : Fin 2) (s : State) : Answers s (execFunctionLevelReset e s) := by
  simp [execFunctionLevelReset]

@[simp] theorem zeroLines_sends (e r idx : Nat) (s : State) (dpa stop n : Nat) :
    Sends s (zeroLines e r idx s dpa stop n).2 := by
  induction n generalizing s dpa with
  | zero => exact .refl s
  | succ n ih =>
    rw [zeroLines]
    split
    · exact .refl s
    split
    · rename_i t h
      exact (acceptWrite_some h).trans (ih t _)
    · exact .refl s

@[simp] theorem zeroGo_sends (s : State) (e r : Nat) (c : LxCmd) : Sends s (zeroGo s e r c) := .of <| by
  unfold zeroGo
  split <;> simp

@[simp] theorem flushGo_sends (s : State) (e r : Nat) (c : LxCmd) : Sends s (flushGo s e r c) := .of <| by
  unfold flushGo
  split <;> simp

@[simp] theorem lxEnd_out (s : State) (e r : Nat) (c : LxCmd) (st : Status) : (lxEnd s e r c st).out = s.out := by simp [lxEnd]

@[simp] theorem ringGo_sends (e : Nat) (s : State) (r : Nat) : Sends s (ringGo e s r) := .of (by simp [ringGo])

@[simp] theorem lxApply_out (e : Nat) (s : State) (x : Nat × Nat) : (lxApply e s x).out = s.out := by simp [lxApply]

@[simp] theorem lxCheckRing_out (e : Nat) (s : State) (r : Nat) : (lxCheckRing e s r).out = s.out := by simp [lxCheckRing]

@[simp] theorem lxNote_out (s : State) (e : Nat) : (lxNote s e).out = s.out := by simp [lxNote]

@[simp] theorem lxTick_sends (s : State) (e : Nat) : Sends s (lxTick s e) := .of (by simp [lxTick])

@[simp] theorem lxHeartbeat_sends (s : State) : Sends s (lxHeartbeat s) := .of (by simp [lxHeartbeat])

theorem execCompatTick_answers (s : State) : Answers s (execCompatTick s) := by
  simp [execCompatTick]

@[simp] theorem lxFetch_sends (s : State) (e r op flags : Nat) (run : State → LxCmd → State)
    (h : ∀ t c, (run t c).pending = t.pending ∧ t.out <+: (run t c).out) : Sends s (lxFetch s e r op flags run) := .of <| by
  have hr : ∀ t c, Sends t (run t c) := fun t c => .of (h t c)
  simp [lxFetch, hr]

theorem execNop_answers (e : Fin 2) (r : Fin 8) (flags : Nat) (s : State) : Answers s (execNop e r flags s) := by
  simp [execNop]

@[simp] theorem lxFlush_sends (e r level : Nat) (s : State) (c : LxCmd) : Sends s (lxFlush e r level s c) := .of (by simp [lxFlush])

theorem execFlush_answers (e : Fin 2) (r : Fin 8) (flags : Nat) (s : State) : Answers s (execFlush e r flags s) := by
  simp [execFlush]

theorem execFlushMedia_answers (e : Fin 2) (r : Fin 8) (flags : Nat) (s : State) : Answers s (execFlushMedia e r flags s) := by
  simp [execFlushMedia]

@[simp] theorem lxZero_sends (e r dpa len : Nat) (s : State) (c : LxCmd) : Sends s (lxZero e r dpa len s c) :=
  .of (by simp [lxZero])

theorem execZero_answers (e : Fin 2) (r : Fin 8) (flags dpa len : Nat) (s : State) : Answers s (execZero e r flags dpa len s) := by
  simp [execZero]

theorem execIdentify_answers (e : Fin 2) (r : Fin 8) (flags hostAddr : Nat) (s : State) :
    Answers s (execIdentify e r flags hostAddr s) := by
  simp [execIdentify]

theorem execFwDownload_answers (e : Fin 2) (r : Fin 8) (flags : Nat) (s : State) : Answers s (execFwDownload e r flags s) := by
  simp [execFwDownload]

theorem execFwCommit_answers (e : Fin 2) (r : Fin 8) (flags : Nat) (s : State) : Answers s (execFwCommit e r flags s) := by
  simp [execFwCommit]

theorem execLxUnknownOpcode_answers (e : Fin 2) (r : Fin 8) (op : Byte) (flags : Nat) (s : State) :
    Answers s (execLxUnknownOpcode e r op flags s) := by
  simp [execLxUnknownOpcode]

@[simp] theorem lxStatus_sends (s : State) (e r : Nat) : Sends s (lxStatus s e r) := .of <| by
  simp only [lxStatus]
  repeat' split
  all_goals simp

theorem execLxCommandStatus_answers (e : Fin 2) (r : Fin 8) (s : State) : Answers s (execLxCommandStatus e r s) := by
  simp [execLxCommandStatus]

@[simp] theorem lxRingsClear_sends (s : State) (e : Nat) : Sends s (lxRingsClear s e) :=
  .of (by simp -implicitDefEqProofs [lxRingsClear])

@[simp] theorem lxAbort_sends (s : State) (e : Nat) : Sends s (lxAbort s e).2 :=
  foldl_snd_sends (.refl s) fun t x => foldl_snd_sends (.refl t.2) fun u c => by
    split
    · exact .refl u.2
    · exact .of (by simp)

/-! ### Machine/RecorderOps -/

@[simp] theorem stmSet_out (s : State) (m : Stm) : (stmSet s m).out = s.out := by simp [stmSet]

@[simp] theorem sectorErase_sends (s : State) (b k : Nat) : Sends s (sectorErase s b k) := .of (by simp [sectorErase])

@[simp] theorem lastErase_sends (s : State) (k : Nat) : Sends s (lastErase s k) := .of (by simp [lastErase])

@[simp] theorem firstErase_sends (s : State) (k : Nat) : Sends s (firstErase s k) := .of (by simp [firstErase])

@[simp] theorem lineReserve_out (s : State) : (lineReserve s).out = s.out := by simp [lineReserve]

theorem lastAdvance_some {s t : State} (h : lastAdvance s = some t) : Sends s t := by
  unfold lastAdvance at h
  dsimp only at h
  split at h
  · cases h
    exact .of (by simp)
  · cases h

theorem lastPut_some {s t : State} {r : Rec} (h : lastPut s r = some t) : Sends s t := by
  unfold lastPut at h
  obtain ⟨u, hu, rfl⟩ := Option.map_eq_some_iff.1 h
  have hs : Sends s u := by
    split at hu
    · cases hu
      exact .refl s
    · exact lastAdvance_some hu
  exact hs.trans (.of (by simp))

@[simp] theorem firstPut_out (s : State) (r : Rec) : (firstPut s r).out = s.out := by simp [firstPut]

@[simp] theorem overflowEnd_out (s : State) : (overflowEnd s).out = s.out := by simp [overflowEnd]

@[simp] theorem programOne_sends (s : State) : Sends s (programOne s) := .of <| by
  unfold programOne
  split
  · simp
  split
  · simp
  split
  · simp
  · rename_i s1 h
    simp [lastPut_some h]

@[simp] theorem programAll_sends (s : State) : Sends s (programAll s) := .of (by simp [programAll])

@[simp] theorem resumeClear_out (s : State) : (resumeClear s).out = s.out := by simp [resumeClear]

@[simp] theorem stmStart_sends (s : State) : Sends s (stmStart s) := .of (by simp [stmStart])

@[simp] theorem bucketsFull_out (s : State) : (bucketsFull s).out = s.out := by simp [bucketsFull]

@[simp] theorem clearBegin_sends (s : State) (route client : Nat) : Sends s (clearBegin s route client) :=
  .of (by simp [clearBegin])

@[simp] theorem clearRecord_sends (s : State) (c : Clearing) : Sends s (clearRecord s c) := .of (by simp [clearRecord])

@[simp] theorem clearStep_sends (s : State) : Sends s (clearStep s) := .of <| by
  unfold clearStep
  repeat' split
  all_goals simp

/-! ### Machine/FlashCmds -/

theorem flsShut_some {s t : State} {m off : Nat} (h : flsShut s m off = some t) : Sends s t := by
  unfold flsShut at h
  split at h
  · rename_i hm
    cases h
    exact masterRefused_some hm
  · split at h <;> cases h
    exact .of (by simp)

theorem execFlsBankClaim_answers (m : Fin 11) (b : Fin 4) (s : State) : Answers s (execFlsBankClaim m b s) := by
  unfold execFlsBankClaim
  dsimp only
  split
  · rename_i h
    simp [masterRefused_some h]
  · simp

@[simp] theorem flsRelease_out (s : State) (b : Nat) : (flsRelease s b).out = s.out := by simp [flsRelease]

theorem execFlsBankRelease_answers (m : Fin 11) (b : Fin 4) (s : State) : Answers s (execFlsBankRelease m b s) := by
  unfold execFlsBankRelease
  split
  · rename_i h
    simp [flsShut_some h]
  · simp

@[simp] theorem flsIssue_sends (s : State) (m b op : Nat) (run : State → State)
    (h : ∀ t, (run t).pending = t.pending ∧ t.out <+: (run t).out) : Sends s (flsIssue s m b op run) := .of <| by
  have hr : ∀ t, Sends t (run t) := fun t => .of (h t)
  unfold flsIssue
  split
  · rename_i hs
    simp [flsShut_some hs]
  · simp [hr]

@[simp] theorem flsBusyRead_out (s : State) (b reason sector : Nat) : (flsBusyRead s b reason sector).out = s.out := by
  simp [flsBusyRead]

theorem execFlashRead_answers (m : Fin 11) (b : Fin 4) (corrected : Bool) (s : State) :
    Answers s (execFlashRead m b corrected s) := by
  refine .of_sends (flsIssue_sends s _ _ _ _ fun t => ?_)
  dsimp only
  split <;> simp

theorem execReadWear_answers (m : Fin 11) (b : Fin 4) (s : State) : Answers s (execReadWear m b s) := by
  simp [execReadWear]

@[simp] theorem flsStart_out (s : State) (b : Nat) (o : FlsOp) : (flsStart s b o).out = s.out := by simp [flsStart]

theorem execFlashProgram_answers (m : Fin 11) (b : Fin 4) (s : State) : Answers s (execFlashProgram m b s) := by
  refine .of_sends (flsIssue_sends s _ _ _ _ fun t => ?_)
  dsimp only
  split <;> simp

theorem execFlashErase_answers (m : Fin 11) (b : Fin 4) (s : State) : Answers s (execFlashErase m b s) := by
  simp [execFlashErase]

theorem execFlashSuspend_answers (m : Fin 11) (b : Fin 4) (s : State) : Answers s (execFlashSuspend m b s) := by
  simp [execFlashSuspend]

theorem execFlashSuspendEffect_answers (b : Fin 4) (s : State) : Answers s (execFlashSuspendEffect b s) := by
  simp [execFlashSuspendEffect]

theorem execFlashRunWindowEnd_answers (b : Fin 4) (s : State) : Answers s (execFlashRunWindowEnd b s) := by
  simp [execFlashRunWindowEnd]

theorem execFlashResume_answers (m : Fin 11) (b : Fin 4) (s : State) : Answers s (execFlashResume m b s) := by
  simp [execFlashResume]

theorem execFlashAbort_answers (m : Fin 11) (b : Fin 4) (s : State) : Answers s (execFlashAbort m b s) := by
  unfold execFlashAbort
  dsimp only
  split
  · rename_i h
    simp [flsShut_some h]
  · simp

@[simp] theorem flsNext_sends (s : State) (b : Nat) : Sends s (flsNext s b) := .of <| by
  simp only [flsNext]
  repeat' split
  all_goals simp

@[simp] theorem suspendLost_out (s : State) (b : Nat) : (suspendLost s b).out = s.out := by simp [suspendLost]

theorem execFlashProgramDone_answers (b : Fin 4) (ok : Bool) (s : State) : Answers s (execFlashProgramDone b ok s) := by
  simp only [execFlashProgramDone]
  repeat' split
  all_goals simp

theorem execFlashEraseDone_answers (b : Fin 4) (ok : Bool) (s : State) : Answers s (execFlashEraseDone b ok s) := by
  simp only [execFlashEraseDone]
  split <;> simp

theorem execFlsClaimExpired_answers (b : Fin 4) (s : State) : Answers s (execFlsClaimExpired b s) := by
  simp [execFlsClaimExpired]

@[simp] theorem flsScan_sends (s : State) : Sends s (flsScan s) := .of (by simp [flsScan])

/-! ### Machine/FirmwareOps -/

@[simp] theorem fwSet_out (s : State) (f : Fw) : (fwSet s f).out = s.out := by simp [fwSet]

@[simp] theorem fwSlotSet_out (s : State) (k : Nat) (v : FwSlot) : (fwSlotSet s k v).out = s.out := by simp [fwSlotSet]

@[simp] theorem imgVerify_sends (s : State) (k : Nat) : Sends s (imgVerify s k).2 := .of <| by
  unfold imgVerify
  split <;> simp

@[simp] theorem areaRestore_out (s : State) (ls : List Layer) : (areaRestore s ls).out = s.out := by
  unfold areaRestore
  split <;> simp

@[simp] theorem bootSlot_out (s : State) (k : Nat) (trial : Bool) : (bootSlot s k trial).out = s.out := by simp [bootSlot]

@[simp] theorem trialFailed_sends (s : State) (k : Nat) (count : Bool) : Sends s (trialFailed s k count) := .of <| by
  unfold trialFailed
  repeat' split
  all_goals simp

@[simp] theorem bootConfirmed_sends (s : State) : Sends s (bootConfirmed s).2 := .of <| by
  simp only [bootConfirmed]
  repeat' split
  all_goals simp

@[simp] theorem trialBegin_out (s : State) (k : Nat) : (trialBegin s k).out = s.out := by simp [trialBegin]

@[simp] theorem bootChoose_sends (s : State) : Sends s (bootChoose s).2 := .of <| by
  simp only [bootChoose]
  repeat' split
  all_goals simp

@[simp] theorem fwData_sends (s : State) (data : Bytes) : Sends s (fwData s data).2 := .of <| by
  simp only [fwData]
  repeat' split
  all_goals simp

@[simp] theorem fwActivate_sends (s : State) (v : Nat) : Sends s (fwActivate s v).2 := .of <| by
  simp only [fwActivate]
  repeat' split
  all_goals simp

@[simp] theorem confirmTrack_out (s : State) : (confirmTrack s).out = s.out := by simp [confirmTrack]

/-! ### Machine/Firmware -/

theorem execFwConfirmed_answers (s : State) : Answers s (execFwConfirmed s) := by
  unfold execFwConfirmed
  split <;> simp

/-! ### Machine/Ring -/

@[simp] theorem agentPut_out (s : State) (l : AgentLine) : (agentPut s l).out = s.out := by simp [agentPut]

@[simp] theorem agentDrop_out (s : State) (a line : Nat) : (agentDrop s a line).out = s.out := by simp [agentDrop]

@[simp] theorem isolateAgent_out (s : State) (a : Nat) : (isolateAgent s a).out = s.out := by simp [isolateAgent]

@[simp] theorem protocolError_sends (s : State) (a st msg line : Nat) : Sends s (protocolError s a st msg line) :=
  .of (by simp [protocolError])

@[simp] theorem toHome_sends (s : State) (m : RingMsg) (a line : Nat) (data : Bytes) :
    Sends s (toHome s m a line data) := .of (by simp [toHome])

@[simp] theorem agentSnoop_sends (inv : Bool) (a line : Nat) (s : State) : Sends s (agentSnoop inv a line s) := .of <| by
  unfold agentSnoop
  repeat' split
  all_goals simp

theorem execSnpS_answers (a : Fin 5) (line : Nat) (s : State) : Answers s (execSnpS a line s) := by
  simp [execSnpS]

theorem execSnpInv_answers (a : Fin 5) (line : Nat) (s : State) : Answers s (execSnpInv a line s) := by
  simp [execSnpInv]

@[simp] theorem serveCore_sends (s : State) (l : AgentLine) (data : Bytes) : Sends s (serveCore s l data) :=
  .of (by simp [serveCore])

theorem execDataS_answers (a : Fin 5) (line : Nat) (data : Bytes) (s : State) : Answers s (execDataS a line data s) := by
  unfold execDataS
  split <;> simp

theorem execDataE_answers (a : Fin 5) (line : Nat) (data : Bytes) (s : State) : Answers s (execDataE a line data s) := by
  unfold execDataE
  repeat' split
  all_goals simp

theorem execWbAck_answers (a : Fin 5) (line : Nat) (s : State) : Answers s (execWbAck a line s) := by
  unfold execWbAck
  split <;> simp

theorem execNack_answers (a : Fin 5) (line : Nat) (refused : Bool) (s : State) : Answers s (execNack a line refused s) := by
  unfold execNack
  repeat' split
  all_goals simp

theorem execNackRetryTimer_answers (a : Fin 5) (line : Nat) (s : State) : Answers s (execNackRetryTimer a line s) := by
  unfold execNackRetryTimer
  split <;> simp

@[simp] theorem grantTree_sends (s : State) (dl : Nat) (data : Bytes × Bool) : Sends s (grantTree s dl data) := .of <| by
  unfold grantTree
  split
  · simp
  · split <;> rename_i h <;> simp [eq_snd h]

@[simp] theorem grant_sends (s : State) (t : HomeTxn) : Sends s (grant s t) := .of <| by
  simp only [grant]
  split <;> simp

@[simp] theorem roundEnd_sends (s : State) (t : HomeTxn) : Sends s (roundEnd s t) := .of <| by
  simp only [roundEnd]
  repeat' split
  all_goals simp

@[simp] theorem roundCheck_sends (s : State) (t : HomeTxn) : Sends s (roundCheck s t) := .of (by simp [roundCheck])

@[simp] theorem takeReq_sends (s : State) (r : HomeReq) : Sends s (takeReq s r) := .of <| by
  unfold takeReq
  repeat' split
  all_goals simp

@[simp] theorem takeNext_sends (s : State) (dl : Nat) : Sends s (takeNext s dl) := .of <| by
  unfold takeNext
  repeat' split
  all_goals simp

@[simp] theorem homeRequest_sends (s : State) (r : HomeReq) : Sends s (homeRequest s r) := .of (by simp [homeRequest])

theorem execRdS_answers (a : Fin 5) (line : Nat) (prio : Bool) (s : State) : Answers s (execRdS a line prio s) := by
  simp [execRdS]

theorem execRdX_answers (a : Fin 5) (line : Nat) (prio : Bool) (s : State) : Answers s (execRdX a line prio s) := by
  simp [execRdX]

@[simp] theorem writeThrough_out (s : State) (line : Nat) (data : Bytes) : (writeThrough s line data).out = s.out := by
  unfold writeThrough
  split <;> simp

theorem execWb_answers (a : Fin 5) (line : Nat) (data : Bytes) (s : State) : Answers s (execWb a line data s) := by
  simp only [execWb]
  repeat' split
  all_goals simp

@[simp] theorem homeAnswer_sends (s : State) (a line msg : Nat) (g : State → State) (f : HomeTxn → HomeTxn)
    (h : (g s).pending = s.pending ∧ s.out <+: (g s).out) : Sends s (homeAnswer s a line msg g f) := .of <| by
  have hg : Sends s (g s) := .of h
  unfold homeAnswer
  split
  · split <;> simp [hg]
  · simp

theorem execAckI_answers (a : Fin 5) (line : Nat) (s : State) : Answers s (execAckI a line s) := by
  simp [execAckI]

theorem execAckS_answers (a : Fin 5) (line : Nat) (s : State) : Answers s (execAckS a line s) := by
  simp [execAckS]

theorem execAckData_answers (a : Fin 5) (line : Nat) (data : Bytes) (s : State) : Answers s (execAckData a line data s) := by
  simp [execAckData]

theorem execWbPending_answers (a : Fin 5) (line : Nat) (s : State) : Answers s (execWbPending a line s) := by
  simp [execWbPending]

theorem execDone_answers (a : Fin 5) (line : Nat) (s : State) : Answers s (execDone a line s) := by
  unfold execDone
  split <;> simp

theorem execSnoopGuardExpired_answers (a : Fin 5) (line : Nat) (s : State) : Answers s (execSnoopGuardExpired a line s) := by
  unfold execSnoopGuardExpired
  split <;> simp

@[simp] theorem biAnswered_sends (s : State) (key : Nat) (t : HomeTxn) : Sends s (biAnswered s key t) := .of <| by
  simp only [biAnswered]
  repeat' split
  all_goals simp

theorem execBirspi_answers (n : Fin 64) (key : Nat) (s : State) : Answers s (execBirspi n key s) := by
  unfold execBirspi
  split <;> simp

theorem execBiconflict_answers (n : Fin 64) (key : Nat) (s : State) : Answers s (execBiconflict n key s) := by
  unfold execBiconflict
  split <;> simp

theorem execBisnpGuardExpired_answers (n : Fin 64) (key : Nat) (s : State) : Answers s (execBisnpGuardExpired n key s) := by
  unfold execBisnpGuardExpired
  split <;> simp

@[simp] theorem coreSet_out (s : State) (c : Nat) (v : KCore) : (coreSet s c v).out = s.out := by simp [coreSet]

theorem execAgentLoad_answers (c : Fin 8) (line : Nat) (s : State) : Answers s (execAgentLoad c line s) := by
  simp only [execAgentLoad]
  repeat' split
  all_goals simp

@[simp] theorem storeDrain_sends (s : State) (c : Nat) (w : KStore) : Sends s (storeDrain s c w).2 := .of <| by
  simp only [storeDrain]
  repeat' split
  all_goals simp

@[simp] theorem drainStores_sends (s : State) (c n : Nat) : Sends s (drainStores s c n) := by
  induction n generalizing s with
  | zero => exact .refl s
  | succ n ih =>
    rw [drainStores]
    split
    · exact .refl s
    split <;> rename_i h
    · exact .trans (.of (by simp [eq_snd h])) (ih _)
    · exact .of (by simp [eq_snd h])

theorem execAgentStore_answers (c : Fin 8) (addr : Nat) (bytes : Bytes) (s : State) :
    Answers s (execAgentStore c addr bytes s) := by
  simp [execAgentStore]

theorem execAgentEviction_answers (a : Fin 5) (line : Nat) (s : State) : Answers s (execAgentEviction a line s) := by
  unfold execAgentEviction
  repeat' split
  all_goals simp

/-! ### Machine/KeeperCores -/

@[simp] theorem combineOut_sends (s : State) (c : Nat) (l : Nat × PLine) : Sends s (combineOut s c l).2 := .of <| by
  unfold combineOut
  split <;> rename_i h
  · simp [acceptWrite_some h]
  · simp

@[simp] theorem combineDrain_sends (s : State) (c n : Nat) : Sends s (combineDrain s c n) := by
  induction n generalizing s with
  | zero => exact .refl s
  | succ n ih =>
    rw [combineDrain]
    split
    · exact .refl s
    split <;> rename_i h
    · exact .trans (.of (by simp [eq_snd h])) (ih _)
    · exact .of (by simp [eq_snd h])

theorem execNonTemporalStore_answers (c : Fin 8) (line off : Nat) (bytes : Bytes) (s : State) :
    Answers s (execNonTemporalStore c line off bytes s) := by
  unfold execNonTemporalStore
  dsimp only
  split
  · simp
  split
  · simp
  split
  · split <;> rename_i h <;> simp [eq_snd h]
  · simp

theorem execUncachedAccess_answers (c : Fin 8) (addr : Nat) (write done : Bool) (s : State) :
    Answers s (execUncachedAccess c addr write done s) := by
  simp [execUncachedAccess]

@[simp] theorem fenceRun_sends (c : Nat) (f : KFence) (s : State) : Sends s (fenceRun c f s) := .of (by simp [fenceRun])

theorem execFenceFCore_answers (c : Fin 8) (s : State) : Answers s (execFenceFCore c s) := by
  simp [execFenceFCore]

theorem execFenceFClu_answers (c : Fin 8) (s : State) : Answers s (execFenceFClu c s) := by
  simp [execFenceFClu]

theorem execFenceFSys_answers (c : Fin 8) (s : State) : Answers s (execFenceFSys c s) := by
  simp [execFenceFSys]

theorem execFenceSCore_answers (c : Fin 8) (s : State) : Answers s (execFenceSCore c s) := by
  simp [execFenceSCore]

theorem execFenceSClu_answers (c : Fin 8) (s : State) : Answers s (execFenceSClu c s) := by
  simp [execFenceSClu]

theorem execFenceSSys_answers (c : Fin 8) (s : State) : Answers s (execFenceSSys c s) := by
  simp [execFenceSSys]

/-! ### Machine/Recorder -/

theorem execRecordSubmit_answers (code : Fin 65536) (sev : Fin 6) (inst : Byte) (items : Bytes) (s : State) :
    Answers s (execRecordSubmit code sev inst items s) := by
  simp [execRecordSubmit]

theorem execRecordProgrammed_answers (s : State) : Answers s (execRecordProgrammed s) := by
  simp [execRecordProgrammed]

theorem execRecorderClearStepEnd_answers (s : State) : Answers s (execRecorderClearStepEnd s) := by
  simp [execRecorderClearStepEnd]

/-! ### Machine/Faults -/

@[simp] theorem poisonReads_sends (s : State) (p : HeldRead → Bool) : Sends s (poisonReads s p).2 := .of (by simp [poisonReads])

@[simp] theorem disableBarriers_sends (s : State) (p : Barrier → Bool) : Sends s (disableBarriers s p).2 :=
  .of (by simp [disableBarriers])

@[simp] theorem fnAbort_sends (s : State) (f : Fn) : Sends s (fnAbort s f).2 := .of <| by
  simp only [fnAbort]
  repeat' split
  all_goals simp

@[simp] theorem clusterReset_sends (s : State) : Sends s (clusterReset s) := .of (by simp [clusterReset])

@[simp] theorem unitReset_sends (s0 : State) (f : Fn) : Sends s0 (unitReset s0 f) := .of <| by
  unfold unitReset
  split <;> simp

@[simp] theorem fnReturn_out (s : State) (f : Fn) : (fnReturn s f).out = s.out := by
  unfold fnReturn
  split <;> simp

@[simp] theorem ldConnsError_sends (s : State) (n : Nat) : Sends s (ldConnsError s n) := .of (by simp [ldConnsError])

@[simp] theorem fnDisable_sends (s : State) (f : Fn) : Sends s (fnDisable s f) := .of <| by
  unfold fnDisable
  split <;> simp

theorem execFunctionQuiesced_answers (f : Fn) (s : State) : Answers s (execFunctionQuiesced f s) := by
  simp [execFunctionQuiesced]

theorem execDisableAbortTimeExpired_answers (f : Fn) (s : State) : Answers s (execDisableAbortTimeExpired f s) := by
  simp [execDisableAbortTimeExpired]

@[simp] theorem unitResetWrite_out (s : State) (f : Fn) : (unitResetWrite s f).out = s.out := by
  unfold unitResetWrite
  repeat' split
  all_goals simp

theorem execUnitResetLat_answers (s : State) : Answers s (execUnitResetLat s) := by
  simp [execUnitResetLat]

theorem execUnitResetBkl_answers (s : State) : Answers s (execUnitResetBkl s) := by
  simp [execUnitResetBkl]

theorem execUnitResetTir_answers (s : State) : Answers s (execUnitResetTir s) := by
  simp [execUnitResetTir]

theorem execUnitResetStm_answers (s : State) : Answers s (execUnitResetStm s) := by
  simp [execUnitResetStm]

theorem execUnitResetFls_answers (s : State) : Answers s (execUnitResetFls s) := by
  simp [execUnitResetFls]

theorem execUnitResetKcb_answers (s : State) : Answers s (execUnitResetKcb s) := by
  simp [execUnitResetKcb]

@[simp] theorem guardFault_sends (s : State) (u : FUnit) (inst : Nat) : Sends s (guardFault s u inst) := .of (by simp [guardFault])

theorem execHostGuardExpired_answers (q : HostReq) (s : State) : Answers s (execHostGuardExpired q s) := by
  simp only [execHostGuardExpired]
  repeat' split
  all_goals simp

theorem execEngineWatchdogExpired_answers (e : Engine) (s : State) : Answers s (execEngineWatchdogExpired e s) := by
  simp [execEngineWatchdogExpired]

theorem execKeeperHeartbeatMissed_answers (k : Fin 8) (s : State) : Answers s (execKeeperHeartbeatMissed k s) := by
  simp [execKeeperHeartbeatMissed]

theorem execKeeperReloadDone_answers (k : Fin 8) (s : State) : Answers s (execKeeperReloadDone k s) := by
  simp only [execKeeperReloadDone]
  repeat' split
  all_goals simp

theorem execPommelWatchdog_answers (s : State) : Answers s (execPommelWatchdog s) := by
  simp [execPommelWatchdog]

@[simp] theorem replicaOut_sends (s : State) (u : FUnit) : Sends s (replicaOut s u) := .of <| by
  unfold replicaOut
  repeat' split
  all_goals simp

theorem execFaultReported_answers (u : FUnit) (code : Fin 65536) (inst : Byte) (sev : Fin 6) (repeatOk : Bool) (s : State) :
    Answers s (execFaultReported u code inst sev repeatOk s) := by
  simp [execFaultReported]

@[simp] theorem fnHome_out (s : State) (f : Fn) : (fnHome s f).out = s.out := by
  unfold fnHome
  split <;> simp

@[simp] theorem groupEnable_sends (s : State) (g : FGroup) : Sends s (groupEnable s g) := .of (by simp [groupEnable])

theorem execRecoveryWindowClose_answers (sc : Scope) (s : State) : Answers s (execRecoveryWindowClose sc s) := by
  simp [execRecoveryWindowClose]

theorem execWdiToggle_answers (s : State) : Answers s (execWdiToggle s) := by
  simp [execWdiToggle]

theorem execWdiMissed_answers (s : State) : Answers s (execWdiMissed s) := by
  simp [execWdiMissed]

/-! ### Machine/Power -/

@[simp] theorem groupSet_out (s : State) (g : Nat) (v : RailGroupState) : (groupSet s g v).out = s.out := by simp [groupSet]

@[simp] theorem domSet_out (s : State) (d : Nat) (v : Bool) : (domSet s d v).out = s.out := by simp [domSet]

@[simp] theorem domsOff_sends (s : State) (lo hi : Nat) : Sends s (domsOff s lo hi) := .of (by simp [domsOff])

@[simp] theorem domDown_sends (s : State) (d : Nat) : Sends s (domDown s d) := .of (by simp [domDown])

@[simp] theorem feedLost_sends (s : State) : Sends s (feedLost s) := .of (by simp [feedLost])

@[simp] theorem domsUp_sends (s : State) (lo hi : Nat) : Sends s (domsUp s lo hi) := .of (by simp [domsUp])

@[simp] theorem groupsUp_sends (s : State) (gs : List (Nat × (Nat × (Rail → Bool)))) : Sends s (groupsUp s gs).2 := by
  induction gs generalizing s with
  | nil => exact .refl s
  | cons g r ih =>
    rw [groupsUp]
    split
    · exact .trans (.of (by simp)) (ih _)
    · exact .refl s

@[simp] theorem powerComplete_out (s : State) : (powerComplete s).out = s.out := by simp [powerComplete]

@[simp] theorem powerStep_sends (s : State) : Sends s (powerStep s) := .of <| by
  unfold powerStep
  extract_lets s1
  have h1 : Sends s s1 := .of (by simp [s1])
  clear_value s1
  split
  · split
    rename_i all s2 h
    simp [eq_snd h, h1]
  · simp -implicitDefEqProofs [h1]
  · simp [h1]

@[simp] theorem railTableRead_out (s : State) : (railTableRead s).out = s.out := by
  unfold railTableRead
  split <;> simp

@[simp] theorem powerUpStart_sends (s : State) : Sends s (powerUpStart s) := .of (by simp [powerUpStart])

theorem execCommonStart_answers (s : State) : Answers s (execCommonStart s) := by
  unfold execCommonStart
  repeat' split
  all_goals simp

@[simp] theorem slotMark_out (s : State) (n sev : Nat) : (slotMark s n sev).out = s.out := by simp [slotMark]

@[simp] theorem railReact_out (s : State) (n own r : Nat) (sc : Scope) : (railReact s n own r sc).out = s.out := by simp [railReact]

@[simp] theorem railRetry_sends (s : State) (n : Nat) : Sends s (railRetry s n) := .of (by simp [railRetry])

@[simp] theorem railGroupOff_sends (s : State) (n : Nat) (held : Bool) : Sends s (railGroupOff s n held) :=
  .of (by simp [railGroupOff])

@[simp] theorem railSysReset_sends (s : State) (n : Nat) : Sends s (railSysReset s n) := .of (by simp [railSysReset])

@[simp] theorem railReaction_sends (s : State) (n own r : Nat) (held : Bool) :
    Sends s (railReaction s n own r held) := .of <| by
  unfold railReaction
  repeat' split
  all_goals simp

@[simp] theorem slotFault_sends (s : State) (n : Nat) : Sends s (slotFault s n) := .of (by simp [slotFault])

@[simp] theorem commitFault_sends (s : State) (n : Nat) : Sends s (commitFault s n) := .of (by simp [commitFault])

theorem execRailOnDelay_answers (n : Fin 32) (s : State) : Answers s (execRailOnDelay n s) := by
  simp [execRailOnDelay]

theorem execRailPgRise_answers (n : Fin 32) (ramp : Nat) (s : State) : Answers s (execRailPgRise n ramp s) := by
  simp [execRailPgRise]

theorem execRailPgTimeout_answers (n : Fin 32) (s : State) : Answers s (execRailPgTimeout n s) := by
  simp [execRailPgTimeout]

theorem execRailPgFault_answers (n : Fin 32) (s : State) : Answers s (execRailPgFault n s) := by
  simp [execRailPgFault]

theorem execRailRetryAttempt_answers (n : Fin 32) (s : State) : Answers s (execRailRetryAttempt n s) := by
  simp [execRailRetryAttempt]

theorem execRailOffDelay_answers (n : Fin 32) (s : State) : Answers s (execRailOffDelay n s) := by
  simp [execRailOffDelay]

theorem execRailPgFall_answers (n : Fin 32) (s : State) : Answers s (execRailPgFall n s) := by
  simp [execRailPgFall]

theorem execRailStuckOn_answers (n : Fin 32) (s : State) : Answers s (execRailStuckOn n s) := by
  simp [execRailStuckOn]

theorem execDomainSwitchTimeout_answers (d : Fin 92) (s : State) : Answers s (execDomainSwitchTimeout d s) := by
  simp [execDomainSwitchTimeout]

@[simp] theorem railGroupBack_sends (s : State) (g : Nat) : Sends s (railGroupBack s g) := .of (by simp [railGroupBack])

theorem execGroupRetryExpired_answers (g : FGroup) (s : State) : Answers s (execGroupRetryExpired g s) := by
  unfold execGroupRetryExpired
  repeat' split
  all_goals simp

theorem execPsuOkLow_answers (s : State) : Answers s (execPsuOkLow s) := by
  simp [execPsuOkLow]

theorem execPsuOkHigh_answers (s : State) : Answers s (execPsuOkHigh s) := by
  simp [execPsuOkHigh]

theorem execPsuOkGlitch_answers (s : State) : Answers s (execPsuOkGlitch s) := by
  simp [execPsuOkGlitch]

theorem execHoldupLow_answers (s : State) : Answers s (execHoldupLow s) := by
  simp [execHoldupLow]

theorem execHoldupLowNHigh_answers (s : State) : Answers s (execHoldupLowNHigh s) := by
  simp [execHoldupLowNHigh]

theorem execHoldupLowNGlitch_answers (s : State) : Answers s (execHoldupLowNGlitch s) := by
  simp [execHoldupLowNGlitch]

theorem execFaultNExternal_answers (s : State) : Answers s (execFaultNExternal s) := by
  simp [execFaultNExternal]

theorem execFaultNReleased_answers (s : State) : Answers s (execFaultNReleased s) := by
  simp [execFaultNReleased]

theorem execFaultNGlitch_answers (s : State) : Answers s (execFaultNGlitch s) := by
  simp [execFaultNGlitch]

theorem execSysclkLoss_answers (s : State) : Answers s (execSysclkLoss s) := by
  simp [execSysclkLoss]

theorem execSysclkReturn_answers (s : State) : Answers s (execSysclkReturn s) := by
  simp [execSysclkReturn]

theorem execRefclkLoss_answers (which : Fin 5) (s : State) : Answers s (execRefclkLoss which s) := by
  simp [execRefclkLoss]

/-! ### Machine/Resets -/

@[simp] theorem porstReset_sends (s0 : State) (torn : Bool) : Sends s0 (porstReset s0 torn) := .of (by simp [porstReset])

@[simp] theorem requalReset_sends (s : State) : Sends s (requalReset s) := .of (by simp [requalReset])

@[simp] theorem vddAonLost_sends (s0 : State) (torn : Bool) : Sends s0 (vddAonLost s0 torn) := .of (by simp [vddAonLost])

/-! ### Machine/Tiers -/

@[simp] theorem frameClear_out (s : State) (f : Nat) : (frameClear s f).out = s.out := by simp [frameClear]

@[simp] theorem frameLine_out (s : State) (f off : Nat) (data : Bytes) : (frameLine s f off data).out = s.out := by simp [frameLine]

@[simp] theorem mergeReplay_sends (s : State) (hs : Nat) : Sends s (mergeReplay s hs) := .of (by simp [mergeReplay])

@[simp] theorem releaseReads_sends (s : State) (hs : Nat) : Sends s (releaseReads s hs) := .of (by simp [releaseReads])

@[simp] theorem warmLoaded_out (s : State) (hs : Nat) : (warmLoaded s hs).out = s.out := by simp [warmLoaded]

theorem execSegmentLoadDone_answers (hs : Nat) (lines : List (Nat × Bytes)) (s : State) :
    Answers s (execSegmentLoadDone hs lines s) := by
  unfold execSegmentLoadDone
  extract_lets g s1 s2 s3 us s4 _tier s5
  have h4 : Sends s s4 := .of (by simp -implicitDefEqProofs [s4, s3, s2, s1])
  have h5 : Sends s4 s5 := by
    dsimp only [s5]
    split
    · exact .foldl (.of (by simp)) fun x k => .of (by simp)
    · exact .refl s4
  clear_value s4 s5
  simp [h5, h4]

@[simp] theorem retryLoads_sends (s : State) : Sends s (retryLoads s) := .of (by simp [retryLoads])

@[simp] theorem frameFlush_sends (s : State) (f : Nat) : Sends s (frameFlush s f) := .of (by simp [frameFlush])

theorem execSegmentEvict_answers (s : State) : Answers s (execSegmentEvict s) := by
  simp only [execSegmentEvict]
  repeat' split
  all_goals simp

theorem execSegmentEvictDone_answers (hs : Nat) (s : State) : Answers s (execSegmentEvictDone hs s) := by
  simp [execSegmentEvictDone]

@[simp] theorem frameMoved_sends (s : State) (a b : Nat) : Sends s (frameMoved s a b) := .of (by simp [frameMoved])

theorem execFrameMoveDone_answers (hs : Nat) (s : State) : Answers s (execFrameMoveDone hs s) := by
  simp [execFrameMoveDone]

@[simp] theorem lenderSet_out (s : State) (i : Nat) (l : Lender) : (lenderSet s i l).out = s.out := by simp [lenderSet]

@[simp] theorem loseT2_sends (s : State) (p : Segment → Bool) : Sends s (loseT2 s p) := .of (by simp [loseT2])

theorem execLeaseGrant_answers (i : Fin 16) (frames : List Nat) (rkey epoch : Nat) (s : State) :
    Answers s (execLeaseGrant i frames rkey epoch s) := by
  simp [execLeaseGrant]

theorem execLeaseRecall_answers (i : Fin 16) (frames : List Nat) (s : State) : Answers s (execLeaseRecall i frames s) := by
  unfold execLeaseRecall
  extract_lets l mine idle rest s1 s2 s3
  have h3 : Sends s s3 := .of (by simp [s3, s2, s1])
  clear_value s3
  exact .of_sends (.ite (.refl s) (.foldl h3 fun t e => .of (by split <;> simp)))

theorem execLeasePing_answers (fromLender : Bool) (who epoch : Nat) (s : State) :
    Answers s (execLeasePing fromLender who epoch s) := by
  simp [execLeasePing]

theorem execLeasePingTimer_answers (s : State) : Answers s (execLeasePingTimer s) := by
  simp -implicitDefEqProofs [execLeasePingTimer]

theorem execLeaseRecallDeadline_answers (asLender : Bool) (who : Nat) (s : State) :
    Answers s (execLeaseRecallDeadline asLender who s) := by
  simp only [execLeaseRecallDeadline]
  repeat' split
  all_goals simp

theorem execLeaseGraceExpired_answers (i : Fin 16) (s : State) : Answers s (execLeaseGraceExpired i s) := by
  simp [execLeaseGraceExpired]

theorem execLeaseReq_answers (addr wanted : Nat) (s : State) : Answers s (execLeaseReq addr wanted s) := by
  simp [execLeaseReq]

theorem execLeaseReturn_answers (addr : Nat) (frames : List Nat) (s : State) : Answers s (execLeaseReturn addr frames s) := by
  simp [execLeaseReturn]

theorem execLeaseOpen_answers (addr qpn psn salt ctr : Nat) (s : State) : Answers s (execLeaseOpen addr qpn psn salt ctr s) := by
  simp [execLeaseOpen]

@[simp] theorem sendLeaseOpen_sends (s : State) (i : Nat) : Sends s (sendLeaseOpen s i) := .of (by simp [sendLeaseOpen])

theorem execLeaseAccept_answers (i : Fin 16) (qpn psn salt ctr : Nat) (s : State) :
    Answers s (execLeaseAccept i qpn psn salt ctr s) := by
  simp [execLeaseAccept]

theorem execLeaseOpenResend_answers (i : Fin 16) (s : State) : Answers s (execLeaseOpenResend i s) := by
  simp [execLeaseOpenResend]

@[simp] theorem openLeases_sends (s : State) : Sends s (openLeases s) := .of (by simp [openLeases])

theorem execTierCheckpoint_answers (s : State) : Answers s (execTierCheckpoint s) := by
  simp -implicitDefEqProofs [execTierCheckpoint]

/-! ### Machine/Commit -/

@[simp] theorem commitShed_sends (s : State) : Sends s (commitShed s) := .of (by simp [commitShed])

@[simp] theorem commitRelease_sends (s : State) : Sends s (commitRelease s) := .of (by simp [commitRelease])

@[simp] theorem commitFlush_sends (s : State) : Sends s (commitFlush s) := .of (by simp [commitFlush])

@[simp] theorem commitDrain_sends (s : State) : Sends s (commitDrain s) := .of (by simp [commitDrain])

@[simp] theorem dirtyShutdown_sends (s : State) : Sends s (dirtyShutdown s) := .of (by simp [dirtyShutdown])

@[simp] theorem drainEarly_sends (s : State) : Sends s (drainEarly s) := .of (by simp [drainEarly])

@[simp] theorem poolDump_sends (s : State) (k : Nat) (fs : List PoolFrame) : Sends s (poolDump s k fs) := by
  induction s, k, fs using poolDump.induct with
  | case1 k s => exact .of (by simp [poolDump])
  | case2 s fs hfs => simpa [poolDump, hfs] using Sends.refl s
  | case3 s k fs hfs hp => simpa [poolDump, hfs, hp] using Sends.refl s
  | case4 s k fs hfs n hp ht => simpa [poolDump, hfs, hp, ht] using Sends.refl s
  | case5 s k fs hfs n hp st s1 ht now q s2 cols s3 ih =>
    have h2 : Sends s1 s2 := .of (by simp [s2])
    have h3 : Sends s2 s3 := .foldl (.refl s2) fun t c => .of (by split <;> simp)
    rw [poolDump, hp]
    · simp only [ht]
      exact ((takeStripe_some ht).trans (h2.trans h3)).trans (.trans (.of ⟨rfl, List.prefix_rfl⟩) ih)
    · exact hfs

@[simp] theorem poolDumpDue_sends (s : State) : Sends s (poolDumpDue s) := .of (by simp [poolDumpDue])

@[simp] theorem commitJournal_sends (s : State) : Sends s (commitJournal s) := .of (by simp [commitJournal])

@[simp] theorem commitRails_sends (s : State) : Sends s (commitRails s) := .of (by simp -implicitDefEqProofs [commitRails])

@[simp] theorem commitEnd_sends (s : State) : Sends s (commitEnd s) := .of (by simp [commitEnd])

theorem execCommitStepEnd_answers (s : State) : Answers s (execCommitStepEnd s) := by
  unfold execCommitStepEnd
  repeat' split
  all_goals simp

theorem execSwCommit_answers (m : Fin 11) (value : Word) (s : State) : Answers s (execSwCommit m value s) := by
  unfold execSwCommit
  split
  · rename_i h
    simp [masterRefused_some h]
  · simp

theorem execRequalPowerUp_answers (s : State) : Answers s (execRequalPowerUp s) := by
  simp [execRequalPowerUp]

/-! ### Machine/OdTable -/

@[simp] theorem layerSet_quiet (s : State) (l : LayerId) (v : Layer) :
    (layerSet s l v).pending = s.pending ∧ (layerSet s l v).out = s.out := by
  unfold layerSet
  split <;> simp

@[simp] theorem loadWith_sends (put : State → Fld → Nat → State) (s : State) (fs : List Fld) (v : Nat)
    (h : ∀ t f v, (put t f v).pending = t.pending ∧ t.out <+: (put t f v).out) : Sends s (loadWith put s fs v) := by
  induction fs generalizing s v with
  | nil => exact .refl s
  | cons f r ih => exact (Sends.of (h s f v)).trans (ih _ _)

/-! ### Machine/Dictionary -/

@[simp] theorem storeIn_quiet (s : State) (l : LayerId) (key : Nat) (v : Option Bytes) :
    (storeIn s l key v).pending = s.pending ∧ (storeIn s l key v).out = s.out := by
  simp [storeIn]

@[simp] theorem cryptoErase_sends (s : State) : Sends s (cryptoErase s) := .of (by simp [cryptoErase])

@[simp] theorem sealedDone_quiet (s : State) (r : Route) (client : Nat) (old new : Bytes) :
    (sealedDone s r client old new).pending = s.pending ∧ (sealedDone s r client old new).out = s.out := by
  simp [sealedDone]

@[simp] theorem sealedWrite_sends (s : State) (r : Route) (client key : Nat) (data : Bytes) :
    Sends s (sealedWrite s r client key data).2 := .of <| by
  simp only [sealedWrite]
  repeat' split
  all_goals simp

@[simp] theorem activate_quiet (s : State) (key : Nat) (data : Bytes) :
    (activate s key data).pending = s.pending ∧ (activate s key data).out = s.out := by
  simp [activate]

@[simp] theorem tickWrite_sends (s : State) (key : Nat) (data : Bytes) : Sends s (tickWrite s key data) := .of (by simp [tickWrite])

@[simp] theorem rgnWrite_sends (s : State) (e ld : Nat) : Sends s (rgnWrite s e ld) := .of (by simp [rgnWrite])

@[simp] theorem rwWrite_sends (s : State) (key : Nat) (data : Bytes) : Sends s (rwWrite s key data).2 := .of <| by
  simp only [rwWrite]
  repeat' split
  all_goals simp

@[simp] theorem odCommit_sends (s : State) (r : Route) (client key : Nat) (data : Bytes) (own : Bool) :
    Sends s (odCommit s r client key data own).2 := .of <| by
  simp only [odCommit]
  repeat' split
  all_goals simp

@[simp] theorem odWrite_sends (s : State) (r : Route) (client key : Nat) (data : Bytes) :
    Sends s (odWrite s r client key data) := .of (by simp [odWrite])

@[simp] theorem odRead_sends (s : State) (r : Route) (client key : Nat) : Sends s (odRead s r client key) := .of (by simp [odRead])

@[simp] theorem stagedDrop_quiet (s : State) (key : Nat) : (stagedDrop s key).pending = s.pending ∧ (stagedDrop s key).out = s.out := by
  simp [stagedDrop]

@[simp] theorem stagedPut_quiet (s : State) (x : OdStaged) : (stagedPut s x).pending = s.pending ∧ (stagedPut s x).out = s.out := by
  simp [stagedPut]

/-! ### Machine/Assemble -/

@[simp] theorem assemble_quiet (s0 : State) (p : Nat → Bool) : (assemble s0 p).pending = s0.pending ∧ (assemble s0 p).out = s0.out := by
  simp [assemble]

@[simp] theorem layersLost_sends (s : State) : Sends s (layersLost s) := .of (by simp [layersLost])

@[simp] theorem setApply_sends (s : State) (n : Nat) : Sends s (setApply s n) := .of (by simp -implicitDefEqProofs [setApply])

@[simp] theorem setsApply_sends (s : State) : Sends s (setsApply s) := .of (by simp [setsApply])

@[simp] theorem loadFld_quiet (s : State) (f : Fld) (v : Nat) : (loadFld s f v).pending = s.pending ∧ (loadFld s f v).out = s.out := by
  unfold loadFld
  split <;> simp

@[simp] theorem loadEntry_sends (s : State) (key : Nat) : Sends s (loadEntry s key) := .of (by simp [loadEntry])

@[simp] theorem loadLd_quiet (s : State) (n : Nat) : (loadLd s n).pending = s.pending ∧ (loadLd s n).out = s.out := by simp [loadLd]

@[simp] theorem loadWindow_quiet (s : State) (w : Nat) : (loadWindow s w).pending = s.pending ∧ (loadWindow s w).out = s.out := by
  simp [loadWindow]

@[simp] theorem loadHosts_sends (s : State) : Sends s (loadHosts s) := .of (by simp [loadHosts])

@[simp] theorem loadRegion_quiet (s : State) (e : Nat) : (loadRegion s e).pending = s.pending ∧ (loadRegion s e).out = s.out := by
  simp [loadRegion]

@[simp] theorem loadBitmap_quiet (s : State) : (loadBitmap s).pending = s.pending ∧ (loadBitmap s).out = s.out := by
  simp [loadBitmap]

@[simp] theorem loadAll_sends (s0 : State) : Sends s0 (loadAll s0) := .of (by simp [loadAll])

@[simp] theorem setLocks_sends (s : State) : Sends s (setLocks s) := .of (by simp [setLocks])

@[simp] theorem runApply_quiet (s : State) (base size : Nat) :
    (runApply s base size).pending = s.pending ∧ (runApply s base size).out = s.out := by
  simp [runApply]

@[simp] theorem runsApply_sends (s : State) : Sends s (runsApply s) := .of (by simp [runsApply])

/-! ### Machine/LineClock -/

@[simp] theorem lineGlitch_out (s : State) : (lineGlitch s).out = s.out := by simp [lineGlitch]

@[simp] theorem checkRange_out (s : State) : (checkRange s).out = s.out := by simp [checkRange]

@[simp] theorem enterSynthetic_out (s : State) : (enterSynthetic s).out = s.out := by simp [enterSynthetic]

@[simp] theorem goodCrossing_out (s : State) (t idx : Nat) (err : Int) (next : Bool) : (goodCrossing s t idx err next).out = s.out := by
  simp [goodCrossing]

@[simp] theorem listenPulse_sends (s : State) (t : Nat) : Sends s (listenPulse s t) := .of <| by
  simp only [listenPulse]
  repeat' split
  all_goals simp

theorem execLineSyncPulse_answers (highNs dt : Nat) (s : State) : Answers s (execLineSyncPulse highNs dt s) := by
  simp only [execLineSyncPulse]
  repeat' split
  all_goals simp

theorem execLineMissed_answers (s : State) : Answers s (execLineMissed s) := by
  simp [execLineMissed]

theorem execLineListenEnd_answers (s : State) : Answers s (execLineListenEnd s) := by
  simp [execLineListenEnd]

/-! ### Machine/Tack -/

@[simp] theorem txnsSet_quiet (s : State) (ts : List TackTxn) : (txnsSet s ts).pending = s.pending ∧ (txnsSet s ts).out = s.out := by
  simp [txnsSet]

@[simp] theorem txnDrop_quiet (s : State) (t : TackTxn) : (txnDrop s t).pending = s.pending ∧ (txnDrop s t).out = s.out := by
  simp [txnDrop]

@[simp] theorem txnPut_quiet (s : State) (t : TackTxn) : (txnPut s t).pending = s.pending ∧ (txnPut s t).out = s.out := by
  simp [txnPut]

@[simp] theorem tackAbort_sends (s : State) (h : TackHdr) (key : Nat) (st : Status × Nat) :
    Sends s (tackAbort s h key st) := .of (by simp [tackAbort])

@[simp] theorem chanViolation_quiet (s : State) (chan : Nat) :
    (chanViolation s chan).pending = s.pending ∧ (chanViolation s chan).out = s.out := by
  simp [chanViolation]

@[simp] theorem nodeViolation_sends (s : State) (h : TackHdr) : Sends s (nodeViolation s h) := .of (by simp [nodeViolation])

@[simp] theorem tackFrame_sends (s : State) (h : TackHdr) (run : State → State)
    (hr : (run s).pending = s.pending ∧ s.out <+: (run s).out) : Sends s (tackFrame s h run) := .of (by simp [tackFrame, hr])

@[simp] theorem tackRequest_sends (s : State) (h : TackHdr) (key : Nat) (run : State → State)
    (hr : (run s).pending = s.pending ∧ s.out <+: (run s).out) : Sends s (tackRequest s h key run) := .of <| by
  unfold tackRequest
  split
  · simp
  · simp [hr]

@[simp] theorem sendSegments_sends (s : State) (t : TackTxn) (from_ upto : Nat) :
    Sends s (sendSegments s t from_ upto) := .of (by simp -implicitDefEqProofs [sendSegments])

theorem execRead_answers (h : TackHdr) (key : Nat) (s : State) : Answers s (execRead h key s) := by
  simp [execRead]

@[simp] theorem tackAnswer_sends (s : State) (h : TackHdr) (key : Nat) (c : Status × Nat) :
    Sends s (tackAnswer s h key c) := .of (by simp [tackAnswer])

theorem execWrite_answers (h : TackHdr) (key : Nat) (data : Bytes) (s : State) : Answers s (execWrite h key data s) := by
  simp [execWrite]

theorem execWriteInit_answers (h : TackHdr) (key total : Nat) (s : State) : Answers s (execWriteInit h key total s) := by
  simp [execWriteInit]

@[simp] theorem lastSegment_sends (s : State) (h : TackHdr) (t : TackTxn) (data : Bytes) (n : Nat) :
    Sends s (lastSegment s h t data n) := .of (by simp [lastSegment])

theorem execSegment_answers (h : TackHdr) (n : Nat) (last : Bool) (data : Bytes) (s : State) :
    Answers s (execSegment h n last data s) := by
  refine .of_sends (tackFrame_sends s h _ ?_)
  dsimp only
  repeat' split
  all_goals simp

theorem execAck_answers (h : TackHdr) (n : Nat) (s : State) : Answers s (execAck h n s) := by
  refine .of_sends (tackFrame_sends s h _ ?_)
  dsimp only
  repeat' split
  all_goals simp

theorem execAbort_answers (h : TackHdr) (s : State) : Answers s (execAbort h s) := by
  refine .of_sends (tackFrame_sends s h _ ?_)
  dsimp only
  repeat' split
  all_goals simp

theorem execTackTransferTimeout_answers (chan : Fin 2) (client tag : Nat) (s : State) :
    Answers s (execTackTransferTimeout chan client tag s) := by
  simp only [execTackTransferTimeout]
  split <;> simp

theorem execTackClassicalFrame_answers (chan : Fin 2) (s : State) : Answers s (execTackClassicalFrame chan s) := by
  simp [execTackClassicalFrame]

@[simp] theorem tackBoot_sends (s : State) : Sends s (tackBoot s) := .of (by simp [tackBoot])

theorem execTackBootupFrame_answers (chan : Fin 2) (node serial : Nat) (s : State) :
    Answers s (execTackBootupFrame chan node serial s) := by
  simp [execTackBootupFrame]

theorem execTackBootupListenEnd_answers (s : State) : Answers s (execTackBootupListenEnd s) := by
  simp [execTackBootupListenEnd]

/-! ### Machine/Bringup -/

@[simp] theorem clockStart_quiet (s : State) : (clockStart s).pending = s.pending ∧ (clockStart s).out = s.out := by
  simp [clockStart]

theorem execPorstNRelease_answers (mode : Fin 4) (serviceN twinPresentN : Bool) (s : State) :
    Answers s (execPorstNRelease mode serviceN twinPresentN s) := by
  simp [execPorstNRelease]

theorem execPorstNAssert_answers (torn : Bool) (s : State) : Answers s (execPorstNAssert torn s) := by
  simp [execPorstNAssert]

theorem execVddAonLoss_answers (torn : Bool) (s : State) : Answers s (execVddAonLoss torn s) := by
  simp [execVddAonLoss]

theorem execVddAonReturn_answers (s : State) : Answers s (execVddAonReturn s) := by
  simp [execVddAonReturn]

@[simp] theorem stepTo_quiet (s : State) (n : Nat) : (stepTo s n).pending = s.pending ∧ (stepTo s n).out = s.out := by simp [stepTo]

@[simp] theorem stepStop_quiet (s : State) (why : BringupStop) (code : Nat) :
    (stepStop s why code).pending = s.pending ∧ (stepStop s why code).out = s.out := by
  simp [stepStop]

@[simp] theorem stepFill_quiet (s : State) : (stepFill s).pending = s.pending ∧ (stepFill s).out = s.out := by simp [stepFill]

@[simp] theorem retentionCheck_quiet (s : State) (jrnGood : Bool) :
    (retentionCheck s jrnGood).pending = s.pending ∧ (retentionCheck s jrnGood).out = s.out := by
  simp [retentionCheck]

@[simp] theorem stepFirmware_sends (s : State) : Sends s (stepFirmware s) := .of (by simp [stepFirmware])

@[simp] theorem stepDram_sends (s : State) (r : StepIn) : Sends s (stepDram s r) := .of <| by
  unfold stepDram
  repeat' split
  all_goals simp

@[simp] theorem stepFillDram_quiet (s : State) : (stepFillDram s).pending = s.pending ∧ (stepFillDram s).out = s.out := by
  simp [stepFillDram]

@[simp] theorem stepLoad_sends (s : State) (r : StepIn) : Sends s (stepLoad s r) := .of (by simp [stepLoad])

@[simp] theorem crcLoad_sends (s0 : State) (s : State) : Sends s (crcLoad s0 s) := .of (by simp [crcLoad])

@[simp] theorem hostsEnable_sends (s : State) : Sends s (hostsEnable s) := .of (by simp [hostsEnable])

@[simp] theorem stepConfigure_sends (s : State) : Sends s (stepConfigure s) := .of (by simp [stepConfigure])

@[simp] theorem discoverSlot_quiet (ds : List (Nat × DriveInfo)) (s : State) (n : Nat) :
    (discoverSlot ds s n).pending = s.pending ∧ (discoverSlot ds s n).out = s.out := by
  unfold discoverSlot
  repeat' split
  all_goals simp

@[simp] theorem zonesFound_quiet (s : State) (n : Nat) : (zonesFound s n).pending = s.pending ∧ (zonesFound s n).out = s.out := by
  simp only [zonesFound]
  split <;> simp

@[simp] theorem setAssemble_sends (s : State) (n : Nat) : Sends s (setAssemble s n) := .of (by simp [setAssemble])

@[simp] theorem keyWait_sends (s : State) (ns : List Nat) : Sends s (keyWait s ns) := .of (by simp -implicitDefEqProofs [keyWait])

@[simp] theorem stepDrives_sends (s : State) (r : StepIn) : Sends s (stepDrives s r) := .of (by simp [stepDrives])

@[simp] theorem replayEntry_sends (root : Nat) (s : State) (e : JournalEntry) : Sends s (replayEntry root s e) := by
  unfold replayEntry
  refine .ite (.refl s) (.foldl (.refl s) fun t c => ?_)
  dsimp only
  split
  · exact .ite (.of (by simp)) (.refl t)
  · exact .refl t

@[simp] theorem rootTake_sends (s : State) : Sends s (rootTake s).2 := .of (by simp -implicitDefEqProofs [rootTake])

@[simp] theorem weltReplay_sends (s : State) : Sends s (weltReplay s) := .of (by simp [weltReplay])

@[simp] theorem retentionVerdict_sends (s : State) (trigger : Nat) (early : Bool) :
    Sends s (retentionVerdict s trigger early) := .of (by simp [retentionVerdict])

@[simp] theorem stepTwin_sends (s : State) : Sends s (stepTwin s) := .of (by simp [stepTwin])

@[simp] theorem stepReplay_sends (s : State) (r : StepIn) : Sends s (stepReplay s r) :=
  .of (by simp -implicitDefEqProofs [stepReplay])

@[simp] theorem poisonLost_sends (s : State) (ls : List Nat) : Sends s (poisonLost s ls) :=
  .of (by simp -implicitDefEqProofs [poisonLost])

@[simp] theorem volatileReset_sends (s : State) : Sends s (volatileReset s) := .of (by simp [volatileReset])

@[simp] theorem recoverHalf_sends (s : State) (r : StepIn) : Sends s (recoverHalf s r) := .of (by simp [recoverHalf])

@[simp] theorem stepWarmup_sends (s : State) : Sends s (stepWarmup s) := .of (by simp [stepWarmup])

@[simp] theorem stepReady_sends (s : State) : Sends s (stepReady s) := .of (by simp [stepReady])

theorem execBringupStepEnd_answers (r : StepIn) (s : State) : Answers s (execBringupStepEnd r s) := by
  unfold execBringupStepEnd
  repeat' split
  all_goals simp

theorem execBringupStepLate_answers (s : State) : Answers s (execBringupStepLate s) := by
  simp -implicitDefEqProofs [execBringupStepLate]

theorem execWrstNAssert_answers (s : State) : Answers s (execWrstNAssert s) := by
  simp [execWrstNAssert]

theorem execWrstNRelease_answers (s : State) : Answers s (execWrstNRelease s) := by
  simp [execWrstNRelease]

theorem execSwWarmReset_answers (m : Fin 11) (value : Word) (s : State) : Answers s (execSwWarmReset m value s) := by
  unfold execSwWarmReset
  split
  · rename_i h
    simp [masterRefused_some h]
  · simp

theorem execWarmResetDeferralEnd_answers (s : State) : Answers s (execWarmResetDeferralEnd s) := by
  simp [execWarmResetDeferralEnd]

@[simp] theorem queuesOut_sends (s : State) : Sends s (queuesOut s) := .of (by simp [queuesOut])

@[simp] theorem stripesDropped_quiet (s : State) : (stripesDropped s).pending = s.pending ∧ (stripesDropped s).out = s.out := by
  simp [stripesDropped]

@[simp] theorem warmHold_sends (s0 : State) (torn : Bool) : Sends s0 (warmHold s0 torn) := .of (by simp [warmHold])

theorem execWarmResetHold_answers (torn : Bool) (s : State) : Answers s (execWarmResetHold torn s) := by
  simp [execWarmResetHold]

/-! ### Machine/Csr -/

@[simp] theorem csrRefuseWrite_quiet (s : State) (m cause off : Nat) :
    (csrRefuseWrite s m cause off).pending = s.pending ∧ (csrRefuseWrite s m cause off).out = s.out := by
  simp [csrRefuseWrite]

@[simp] theorem writeField_quiet (m off : Nat) (r : RegRow) (k value : Nat) (s : State) (f : FieldRow) :
    (writeField m off r k value s f).pending = s.pending ∧ (writeField m off r k value s f).out = s.out := by
  unfold writeField
  repeat' split
  all_goals simp

@[simp] theorem mbxDataWrite_quiet (s : State) (off value : Nat) :
    (mbxDataWrite s off value).pending = s.pending ∧ (mbxDataWrite s off value).out = s.out := by
  simp [mbxDataWrite]

@[simp] theorem writePair_sends (m off value : Nat) (s : State) : Sends s (writePair m off value s) := .of <| by
  simp only [writePair]
  repeat' split
  all_goals simp

@[simp] theorem writeReg_sends (s : State) (m off value : Nat) : Sends s (writeReg s m off value) := .of <| by
  unfold writeReg
  repeat' split
  all_goals simp

@[simp] theorem flsDataWrite_quiet (s : State) (off value : Nat) :
    (flsDataWrite s off value).pending = s.pending ∧ (flsDataWrite s off value).out = s.out := by
  simp [flsDataWrite]

theorem execCsrWrite_answers (m : Fin 11) (off size : Nat) (value : Word) (s : State) :
    Answers s (execCsrWrite m off size value s) := by
  simp [execCsrWrite]

@[simp] theorem aliasField_quiet (m off b : Nat) (v : Bool) (r : RegRow) (k : Nat) (s : State) (f : FieldRow) :
    (aliasField m off b v r k s f).pending = s.pending ∧ (aliasField m off b v r k s f).out = s.out := by
  unfold aliasField
  repeat' split
  all_goals simp

theorem execCsrAliasWrite_answers (m : Fin 11) (off : Nat) (value : Word) (s : State) :
    Answers s (execCsrAliasWrite m off value s) := by
  unfold execCsrAliasWrite
  extract_lets n a b
  clear_value a b
  rw [answers_next]
  iterate 8
    split
    · simp
  split
  · split <;> simp
  · simp

theorem readRefused_some {s t : State} {m off : Nat} (h : readRefused s m off = some t) : Sends s t := by
  unfold readRefused at h
  iterate 5
    split at h
    · cases h
      exact .of (by simp)
  cases h

@[simp] theorem readEffect_sends (s : State) (m off : Nat) : Sends s (readEffect s m off) := .of <| by
  unfold readEffect
  split <;> simp

@[simp] theorem plainRead_sends (s : State) (m off : Nat) : Sends s (plainRead s m off) := by
  have hc : ∀ cause, Sends s (emit (csrRefuse s m cause off) (.csrData m off 0)) := fun _ => .of (by simp)
  unfold plainRead
  refine .ite ?_ ?_
  · extract_lets n a
    clear_value n a
    refine .ite (sends_getD fun t h => readRefused_some h) ?_
    split
    · exact .ite (.of (by simp)) (.ite (.of (by simp)) (hc _))
    · exact .of (by simp)
  · split
    · rename_i t h
      exact readRefused_some h
    · exact .of (by simp)

theorem execCsrReadClear_answers (m : Fin 11) (off : Nat) (s : State) : Answers s (execCsrReadClear m off s) := by
  simp [execCsrReadClear]

theorem execCsrReadLatch_answers (m : Fin 11) (off : Nat) (s : State) : Answers s (execCsrReadLatch m off s) := by
  simp [execCsrReadLatch]

theorem execCfgHoldLong_answers (s : State) : Answers s (execCfgHoldLong s) := by
  simp [execCfgHoldLong]

/-! ### Machine/CxlMailbox -/

@[simp] theorem freeSkip_quiet (s : State) (n : Nat) : (freeSkip s n).pending = s.pending ∧ (freeSkip s n).out = s.out := by
  simp [freeSkip]

@[simp] theorem stdCmd_sends (s : State) (n : Nat) (needsReady : Bool) (run : State)
    (h : run.pending = s.pending ∧ s.out <+: run.out) : Sends s (stdCmd s n needsReady run) := .of (by simp [stdCmd, h])

theorem execIdentifyMemoryDevice_answers (n : Fin 64) (s : State) : Answers s (execIdentifyMemoryDevice n s) := by
  simp [execIdentifyMemoryDevice]

theorem execGetPartitionInfo_answers (n : Fin 64) (s : State) : Answers s (execGetPartitionInfo n s) := by
  simp [execGetPartitionInfo]

theorem execGetSupportedLogs_answers (n : Fin 64) (s : State) : Answers s (execGetSupportedLogs n s) := by
  simp [execGetSupportedLogs]

theorem execGetLog_answers (n : Fin 64) (uuid : Bytes) (off len : Nat) (s : State) : Answers s (execGetLog n uuid off len s) := by
  simp [execGetLog]

theorem execGetHealthInfo_answers (n : Fin 64) (s : State) : Answers s (execGetHealthInfo n s) := by
  simp [execGetHealthInfo]

theorem execGetEventRecords_answers (n : Fin 64) (log : Nat) (s : State) : Answers s (execGetEventRecords n log s) := by
  simp [execGetEventRecords]

theorem execClearEventRecords_answers (n : Fin 64) (log : Nat) (all : Bool) (handles : List Nat) (s : State) :
    Answers s (execClearEventRecords n log all handles s) := by
  simp [execClearEventRecords]

theorem execGetEventInterruptPolicy_answers (n : Fin 64) (s : State) : Answers s (execGetEventInterruptPolicy n s) := by
  simp [execGetEventInterruptPolicy]

theorem execSetEventInterruptPolicy_answers (n : Fin 64) (settings : List Byte) (s : State) :
    Answers s (execSetEventInterruptPolicy n settings s) := by
  simp [execSetEventInterruptPolicy]

theorem execGetLsa_answers (n : Fin 64) (off len : Nat) (s : State) : Answers s (execGetLsa n off len s) := by
  simp [execGetLsa]

theorem execSetLsa_answers (n : Fin 64) (off : Nat) (data : Bytes) (s : State) : Answers s (execSetLsa n off data s) := by
  simp [execSetLsa]

theorem execGetPoisonList_answers (n : Fin 64) (start len : Nat) (s : State) : Answers s (execGetPoisonList n start len s) := by
  simp [execGetPoisonList]

theorem execClearPoison_answers (n : Fin 64) (dpa : Nat) (data : Bytes) (s : State) : Answers s (execClearPoison n dpa data s) := by
  refine .of_sends (stdCmd_sends s _ _ _ (Sends.grows (.ite (.of (by simp)) (.ite (.of (by simp)) ?_))))
  split
  · rename_i t h
    exact .of (by simp [acceptWrite_some h])
  · exact .of (by simp)

theorem execGetTimestamp_answers (n : Fin 64) (s : State) : Answers s (execGetTimestamp n s) := by
  simp [execGetTimestamp]

theorem execSetTimestamp_answers (n : Fin 64) (value : Nat) (s : State) : Answers s (execSetTimestamp n value s) := by
  simp [execSetTimestamp]

theorem execGetFwInfo_answers (n : Fin 64) (s : State) : Answers s (execGetFwInfo n s) := by
  simp [execGetFwInfo]

theorem execUnsupportedMailboxCommand_answers (n : Fin 64) (s : State) : Answers s (execUnsupportedMailboxCommand n s) := by
  simp [execUnsupportedMailboxCommand]

@[simp] theorem fmCmd_sends (s : State) (p : Nat) (run : State) (h : run.pending = s.pending ∧ s.out <+: run.out) :
    Sends s (fmCmd s p run) := .of (by simp [fmCmd, h])

theorem execGetLdInfo_answers (p : Fin 16) (s : State) : Answers s (execGetLdInfo p s) := by
  simp [execGetLdInfo]

theorem execGetLdAllocations_answers (p : Fin 16) (start limit : Nat) (s : State) :
    Answers s (execGetLdAllocations p start limit s) := by
  simp [execGetLdAllocations]

theorem execSetLdAllocations_answers (p : Fin 16) (s : State) : Answers s (execSetLdAllocations p s) := by
  simp [execSetLdAllocations]

theorem execOdRead_answers (n : Fin 64) (key off : Nat) (s : State) : Answers s (execOdRead n key off s) := by
  simp [execOdRead]

@[simp] theorem odChunk_sends (s : State) (n key off total : Nat) (data : Bytes) :
    Sends s (odChunk s n key off total data) := .of <| by
  simp only [odChunk]
  repeat' split
  all_goals simp

theorem execOdWrite_answers (n : Fin 64) (key off total : Nat) (data : Bytes) (s : State) :
    Answers s (execOdWrite n key off total data s) := by
  simp [execOdWrite]

theorem execOdAbort_answers (n : Fin 64) (key : Nat) (s : State) : Answers s (execOdAbort n key s) := by
  simp [execOdAbort]

/-! ### Machine/Mailbox -/

theorem mbxShut_some {s t : State} {m off : Nat} (h : mbxShut s m off = some t) : Sends s t := by
  unfold mbxShut at h
  split at h
  · cases h
    exact .of (by simp)
  · split at h <;> cases h
    exact .of (by simp)

@[simp] theorem mbxStagedDrop_quiet (s : State) : (mbxStagedDrop s).pending = s.pending ∧ (mbxStagedDrop s).out = s.out := by
  simp [mbxStagedDrop]

@[simp] theorem mbxFree_quiet (s : State) : (mbxFree s).pending = s.pending ∧ (mbxFree s).out = s.out := by simp [mbxFree]

theorem execMbxClaim_answers (m : Fin 11) (s : State) : Answers s (execMbxClaim m s) := by
  unfold execMbxClaim
  split
  · rename_i h
    simp [mbxShut_some h]
  · simp

theorem execMbxRelease_answers (m : Fin 11) (s : State) : Answers s (execMbxRelease m s) := by
  unfold execMbxRelease
  split
  · rename_i h
    simp [mbxShut_some h]
  · simp

@[simp] theorem mbxAborted_quiet (s : State) : (mbxAborted s).pending = s.pending ∧ (mbxAborted s).out = s.out := by
  simp [mbxAborted]

@[simp] theorem mbxAbortNow_quiet (s : State) : (mbxAbortNow s).pending = s.pending ∧ (mbxAbortNow s).out = s.out := by
  unfold mbxAbortNow
  split <;> simp

theorem execMbxClaimExpired_answers (s : State) : Answers s (execMbxClaimExpired s) := by
  simp [execMbxClaimExpired]

@[simp] theorem mbxChunk_sends (s : State) (m : Nat) : Sends s (mbxChunk s m).2.2 := .of <| by
  simp only [mbxChunk]
  repeat' split
  all_goals simp

@[simp] theorem mbxStart_sends (s : State) (m op : Nat) : Sends s (mbxStart s m op) := .of <| by
  unfold mbxStart
  split
  · rename_i h
    simp [mbxShut_some h]
  split
  · simp
  split
  · simp
  dsimp only
  split <;> simp

theorem execMbxRead_answers (m : Fin 11) (op : Fin 4) (s : State) : Answers s (execMbxRead m op s) := by
  simp [execMbxRead]

theorem execMbxWrite_answers (m : Fin 11) (s : State) : Answers s (execMbxWrite m s) := by
  simp [execMbxWrite]

theorem execMbxAbort_answers (m : Fin 11) (s : State) : Answers s (execMbxAbort m s) := by
  unfold execMbxAbort
  split
  · rename_i h
    simp [mbxShut_some h]
  · simp

@[simp] theorem mbxReadEnd_quiet (s : State) (key : Nat) : (mbxReadEnd s key).pending = s.pending ∧ (mbxReadEnd s key).out = s.out := by
  simp [mbxReadEnd]

theorem execMbxOpDone_answers (s : State) : Answers s (execMbxOpDone s) := by
  unfold execMbxOpDone
  split <;> simp

theorem execOdStore_answers (r : Route) (client : Nat) (s : State) : Answers s (execOdStore r client s) := by
  simp [execOdStore]

@[simp] theorem storeLayer_quiet (s : State) (l : LayerId) (vs : List (Nat × Bytes)) :
    (storeLayer s l vs).pending = s.pending ∧ (storeLayer s l vs).out = s.out := by
  simp [storeLayer]

theorem execOdStoreDone_answers (s : State) : Answers s (execOdStoreDone s) := by
  unfold execOdStoreDone
  split <;> simp

theorem execOverlayAdd_answers (r : Route) (client : Nat) (s : State) : Answers s (execOverlayAdd r client s) := by
  simp [execOverlayAdd]

theorem execOverlayRemove_answers (r : Route) (client : Nat) (s : State) : Answers s (execOverlayRemove r client s) := by
  simp [execOverlayRemove]

theorem execRgnEntryApply_answers (r : Route) (client : Nat) (e : Fin 1024) (ld : Byte) (s : State) :
    Answers s (execRgnEntryApply r client e ld s) := by
  simp [execRgnEntryApply]

theorem execFwData_answers (r : Route) (client : Nat) (data : Bytes) (s : State) : Answers s (execFwData r client data s) := by
  simp [execFwData]

theorem execFwActivate_answers (r : Route) (client : Nat) (s : State) : Answers s (execFwActivate r client s) := by
  simp [execFwActivate]

theorem execFwActivateForce_answers (r : Route) (client : Nat) (s : State) : Answers s (execFwActivateForce r client s) := by
  simp [execFwActivateForce]

theorem execFwActivateCancel_answers (r : Route) (client : Nat) (s : State) : Answers s (execFwActivateCancel r client s) := by
  simp [execFwActivateCancel]

theorem execReadBlock_answers (r : Route) (client : Nat) (s : State) : Answers s (execReadBlock r client s) := by
  simp [execReadBlock]

/-! ### Machine/Sealed -/

theorem execPresenceNPress_answers (s : State) : Answers s (execPresenceNPress s) := by
  simp [execPresenceNPress]

theorem execPresenceNRelease_answers (s : State) : Answers s (execPresenceNRelease s) := by
  simp [execPresenceNRelease]

theorem execPresenceOpen_answers (s : State) : Answers s (execPresenceOpen s) := by
  simp [execPresenceOpen]

theorem execPresenceClose_answers (s : State) : Answers s (execPresenceClose s) := by
  simp [execPresenceClose]

theorem execPresenceStuck_answers (s : State) : Answers s (execPresenceStuck s) := by
  simp [execPresenceStuck]

theorem execPresenceRearm_answers (s : State) : Answers s (execPresenceRearm s) := by
  simp [execPresenceRearm]

theorem execRecorderClear_answers (r : Route) (client : Nat) (value : Bytes) (s : State) :
    Answers s (execRecorderClear r client value s) := by
  simp [execRecorderClear]

theorem execLockPolicyChange_answers (r : Route) (client : Nat) (which : Fin 4) (value : Bytes) (s : State) :
    Answers s (execLockPolicyChange r client which value s) := by
  simp [execLockPolicyChange]

theorem execFactoryDefault_answers (r : Route) (client : Nat) (value : Bytes) (s : State) :
    Answers s (execFactoryDefault r client value s) := by
  simp [execFactoryDefault]

theorem execCryptoErase_answers (r : Route) (client : Nat) (value : Bytes) (s : State) :
    Answers s (execCryptoErase r client value s) := by
  simp [execCryptoErase]

theorem execForcedSlotSelection_answers (r : Route) (client : Nat) (value : Bytes) (s : State) :
    Answers s (execForcedSlotSelection r client value s) := by
  simp [execForcedSlotSelection]

theorem execPresencePolicyChange_answers (r : Route) (client : Nat) (value : Bytes) (s : State) :
    Answers s (execPresencePolicyChange r client value s) := by
  simp [execPresencePolicyChange]

/-! ### Machine/Ticks -/

@[simp] theorem alignStep_quiet (s : State) (t : Nat) : (alignStep s t).pending = s.pending ∧ (alignStep s t).out = s.out := by
  simp [alignStep]

@[simp] theorem wrapClock_quiet (s : State) : (wrapClock s).pending = s.pending ∧ (wrapClock s).out = s.out := by
  simp only [wrapClock]
  split <;> simp

@[simp] theorem tickAdvance_quiet (s : State) : (tickAdvance s).pending = s.pending ∧ (tickAdvance s).out = s.out := by
  simp [tickAdvance]

@[simp] theorem reserveDue_quiet (s : State) : (reserveDue s).pending = s.pending ∧ (reserveDue s).out = s.out := by
  simp [reserveDue]

@[simp] theorem regionsChanged_sends (s : State) (was : List Walk) (touched : List Nat) :
    Sends s (regionsChanged s was touched) := .of (by simp -implicitDefEqProofs [regionsChanged])

@[simp] theorem enableChange_sends (s : State) (f : Fn) (on : Bool) : Sends s (enableChange s f on) := .of <| by
  simp only [enableChange]
  repeat' split
  all_goals simp

@[simp] theorem stagedApply_sends (s : State) (x : Nat × Nat) : Sends s (stagedApply s x) := .of <| by
  simp only [stagedApply]
  split <;> simp

@[simp] theorem capApply_quiet (s : State) : (capApply s).pending = s.pending ∧ (capApply s).out = s.out := by simp [capApply]

@[simp] theorem applyBuffered_sends (s : State) : Sends s (applyBuffered s) := .of (by simp [applyBuffered])

@[simp] theorem functionsTick_sends (s : State) : Sends s (functionsTick s) := .of (by simp [functionsTick])

@[simp] theorem standbyTick_sends (s : State) : Sends s (standbyTick s) := .of (by simp [standbyTick])

@[simp] theorem sampleTake_quiet (s : State) : (sampleTake s).pending = s.pending ∧ (sampleTake s).out = s.out := by
  simp [sampleTake]

@[simp] theorem zonesAdopt_quiet (s : State) : (zonesAdopt s).pending = s.pending ∧ (zonesAdopt s).out = s.out := by
  simp [zonesAdopt]

@[simp] theorem zonesGrant_sends (s : State) : Sends s (zonesGrant s) := .of (by simp [zonesGrant])

@[simp] theorem zonesAsk_sends (s : State) : Sends s (zonesAsk s) := .of (by simp [zonesAsk])

@[simp] theorem bucketsRefill_quiet (s : State) : (bucketsRefill s).pending = s.pending ∧ (bucketsRefill s).out = s.out := by
  simp [bucketsRefill]

@[simp] theorem dumpFree_quiet (s : State) : (dumpFree s).pending = s.pending ∧ (dumpFree s).out = s.out := by simp [dumpFree]

@[simp] theorem warmupLoads_sends (s : State) : Sends s (warmupLoads s) := .of (by simp [warmupLoads])

@[simp] theorem phaseZero_sends (s : State) : Sends s (phaseZero s) := .of (by simp [phaseZero])

@[simp] theorem pacingTick_sends (s : State) (len : Nat) : Sends s (pacingTick s len) := .of (by simp [pacingTick])

@[simp] theorem busyTick_quiet (s : State) (len : Nat) : (busyTick s len).pending = s.pending ∧ (busyTick s len).out = s.out := by
  unfold busyTick
  split <;> simp

@[simp] theorem heartbeatTick_sends (s : State) : Sends s (heartbeatTick s) := .of (by simp [heartbeatTick])

@[simp] theorem replayTick_sends (s : State) : Sends s (replayTick s) := .of (by simp [replayTick])

@[simp] theorem failbackTick_sends (s : State) : Sends s (failbackTick s) := .of (by simp -implicitDefEqProofs [failbackTick])

@[simp] theorem crcCheck_sends (s : State) : Sends s (crcCheck s) := .of <| by
  unfold crcCheck
  repeat' split
  all_goals simp

@[simp] theorem tick_sends (s : State) : Sends s (tick s) := .of (by simp [tick])

theorem execTick_answers (s : State) : Answers s (execTick s) := by
  simp [execTick]

theorem execHalfCycleBoundary_answers (s : State) : Answers s (execHalfCycleBoundary s) := by
  simp [execHalfCycleBoundary]

/-! ### Machine/Dispatch -/

/-- Every command answers a next state that keeps the queue and what was sent: one arm for each command. -/
theorem exec_answers (c : Instr) (s : State) : Answers s (exec c s) :=
  match c with
  | .porstNRelease .. => execPorstNRelease_answers ..
  | .porstNAssert .. => execPorstNAssert_answers ..
  | .vddAonLoss .. => execVddAonLoss_answers ..
  | .commonStart => execCommonStart_answers ..
  | .railOnDelay .. => execRailOnDelay_answers ..
  | .railPgRise .. => execRailPgRise_answers ..
  | .railPgTimeout .. => execRailPgTimeout_answers ..
  | .railPgFault .. => execRailPgFault_answers ..
  | .railRetryAttempt .. => execRailRetryAttempt_answers ..
  | .railOffDelay .. => execRailOffDelay_answers ..
  | .railStuckOn .. => execRailStuckOn_answers ..
  | .domainSwitchTimeout .. => execDomainSwitchTimeout_answers ..
  | .psuOkLow => execPsuOkLow_answers ..
  | .holdupLow => execHoldupLow_answers ..
  | .faultNExternal => execFaultNExternal_answers ..
  | .faultNGlitch => execFaultNGlitch_answers ..
  | .sysclkLoss => execSysclkLoss_answers ..
  | .refclkLoss .. => execRefclkLoss_answers ..
  | .wdiToggle => execWdiToggle_answers ..
  | .wdiMissed => execWdiMissed_answers ..
  | .bringupStepEnd .. => execBringupStepEnd_answers ..
  | .bringupStepLate => execBringupStepLate_answers ..
  | .wrstNAssert => execWrstNAssert_answers ..
  | .swWarmReset .. => execSwWarmReset_answers ..
  | .warmResetHold .. => execWarmResetHold_answers ..
  | .warmResetDeferralEnd => execWarmResetDeferralEnd_answers ..
  | .unitResetLat => execUnitResetLat_answers ..
  | .unitResetBkl => execUnitResetBkl_answers ..
  | .unitResetTir => execUnitResetTir_answers ..
  | .unitResetStm => execUnitResetStm_answers ..
  | .unitResetFls => execUnitResetFls_answers ..
  | .unitResetKcb => execUnitResetKcb_answers ..
  | .functionQuiesced .. => execFunctionQuiesced_answers ..
  | .disableAbortTimeExpired .. => execDisableAbortTimeExpired_answers ..
  | .lineSyncPulse .. => execLineSyncPulse_answers ..
  | .lineMissed => execLineMissed_answers ..
  | .lineListenEnd => execLineListenEnd_answers ..
  | .tick => execTick_answers ..
  | .halfCycleBoundary => execHalfCycleBoundary_answers ..
  | .compatTick => execCompatTick_answers ..
  | .csrWrite .. => execCsrWrite_answers ..
  | .csrAliasWrite .. => execCsrAliasWrite_answers ..
  | .csrReadClear .. => execCsrReadClear_answers ..
  | .csrReadLatch .. => execCsrReadLatch_answers ..
  | .cfgHoldLong => execCfgHoldLong_answers ..
  | .mbxClaim .. => execMbxClaim_answers ..
  | .mbxRelease .. => execMbxRelease_answers ..
  | .mbxClaimExpired => execMbxClaimExpired_answers ..
  | .mbxRead .. => execMbxRead_answers ..
  | .mbxWrite .. => execMbxWrite_answers ..
  | .mbxAbort .. => execMbxAbort_answers ..
  | .mbxOpDone => execMbxOpDone_answers ..
  | .odStore .. => execOdStore_answers ..
  | .odStoreDone => execOdStoreDone_answers ..
  | .overlayAdd .. => execOverlayAdd_answers ..
  | .overlayRemove .. => execOverlayRemove_answers ..
  | .rgnEntryApply .. => execRgnEntryApply_answers ..
  | .read .. => execRead_answers ..
  | .write .. => execWrite_answers ..
  | .writeInit .. => execWriteInit_answers ..
  | .segment .. => execSegment_answers ..
  | .ack .. => execAck_answers ..
  | .abort .. => execAbort_answers ..
  | .tackBootupFrame .. => execTackBootupFrame_answers ..
  | .tackBootupListenEnd => execTackBootupListenEnd_answers ..
  | .tackClassicalFrame .. => execTackClassicalFrame_answers ..
  | .tackTransferTimeout .. => execTackTransferTimeout_answers ..
  | .presenceOpen => execPresenceOpen_answers ..
  | .presenceClose => execPresenceClose_answers ..
  | .presenceStuck => execPresenceStuck_answers ..
  | .presenceRearm => execPresenceRearm_answers ..
  | .recorderClear .. => execRecorderClear_answers ..
  | .recorderClearStepEnd => execRecorderClearStepEnd_answers ..
  | .lockPolicyChange .. => execLockPolicyChange_answers ..
  | .factoryDefault .. => execFactoryDefault_answers ..
  | .cryptoErase .. => execCryptoErase_answers ..
  | .forcedSlotSelection .. => execForcedSlotSelection_answers ..
  | .presencePolicyChange .. => execPresencePolicyChange_answers ..
  | .hostWrite .. => execHostWrite_answers ..
  | .hostRead .. => execHostRead_answers ..
  | .streamWrite .. => execStreamWrite_answers ..
  | .skiveClose .. => execSkiveClose_answers ..
  | .weltRelease .. => execWeltRelease_answers ..
  | .hdmDecoderCommit .. => execHdmDecoderCommit_answers ..
  | .doorbellRing .. => execDoorbellRing_answers ..
  | .barrierEnd .. => execBarrierEnd_answers ..
  | .barrierTimeout .. => execBarrierTimeout_answers ..
  | .commitBarrierCutoff => execCommitBarrierCutoff_answers ..
  | .gpfPhase1 .. => execGpfPhase1_answers ..
  | .gpfPhase2 .. => execGpfPhase2_answers ..
  | .hostLinkUp .. => execHostLinkUp_answers ..
  | .hostLinkDown .. => execHostLinkDown_answers ..
  | .hptPortEnableChange .. => execHptPortEnableChange_answers ..
  | .hptLdEnableChange .. => execHptLdEnableChange_answers ..
  | .birspi .. => execBirspi_answers ..
  | .biconflict .. => execBiconflict_answers ..
  | .bisnpGuardExpired .. => execBisnpGuardExpired_answers ..
  | .identifyMemoryDevice .. => execIdentifyMemoryDevice_answers ..
  | .getPartitionInfo .. => execGetPartitionInfo_answers ..
  | .getSupportedLogs .. => execGetSupportedLogs_answers ..
  | .getLog .. => execGetLog_answers ..
  | .getHealthInfo .. => execGetHealthInfo_answers ..
  | .getEventRecords .. => execGetEventRecords_answers ..
  | .clearEventRecords .. => execClearEventRecords_answers ..
  | .getEventInterruptPolicy .. => execGetEventInterruptPolicy_answers ..
  | .setEventInterruptPolicy .. => execSetEventInterruptPolicy_answers ..
  | .getLsa .. => execGetLsa_answers ..
  | .setLsa .. => execSetLsa_answers ..
  | .getPoisonList .. => execGetPoisonList_answers ..
  | .clearPoison .. => execClearPoison_answers ..
  | .getTimestamp .. => execGetTimestamp_answers ..
  | .setTimestamp .. => execSetTimestamp_answers ..
  | .getFwInfo .. => execGetFwInfo_answers ..
  | .unsupportedMailboxCommand .. => execUnsupportedMailboxCommand_answers ..
  | .getLdInfo .. => execGetLdInfo_answers ..
  | .getLdAllocations .. => execGetLdAllocations_answers ..
  | .setLdAllocations .. => execSetLdAllocations_answers ..
  | .odRead .. => execOdRead_answers ..
  | .odWrite .. => execOdWrite_answers ..
  | .odAbort .. => execOdAbort_answers ..
  | .objectCreate .. => execObjectCreate_answers ..
  | .objectDestroy .. => execObjectDestroy_answers ..
  | .objectQuery .. => execObjectQuery_answers ..
  | .objectSetPolicy .. => execObjectSetPolicy_answers ..
  | .streamOpen .. => execStreamOpen_answers ..
  | .streamClose .. => execStreamClose_answers ..
  | .layerDone .. => execLayerDone_answers ..
  | .streamDeadline .. => execStreamDeadline_answers ..
  | .mirror .. => execMirror_answers ..
  | .mirrorFull .. => execMirrorFull_answers ..
  | .mirrorAck .. => execMirrorAck_answers ..
  | .release .. => execRelease_answers ..
  | .repairReq .. => execRepairReq_answers ..
  | .repairRsp .. => execRepairRsp_answers ..
  | .remirror .. => execRemirror_answers ..
  | .journal .. => execJournal_answers ..
  | .journalAck .. => execJournalAck_answers ..
  | .zoneReq .. => execZoneReq_answers ..
  | .zoneGrant .. => execZoneGrant_answers ..
  | .zoneAck .. => execZoneAck_answers ..
  | .barrierReq .. => execBarrierReq_answers ..
  | .barrierDone .. => execBarrierDone_answers ..
  | .hello .. => execHello_answers ..
  | .heartbeat .. => execHeartbeat_answers ..
  | .handoverBegin => execHandoverBegin_answers ..
  | .handoverDone => execHandoverDone_answers ..
  | .failbackReq => execFailbackReq_answers ..
  | .failbackReady .. => execFailbackReady_answers ..
  | .failbackDone => execFailbackDone_answers ..
  | .violation .. => execViolation_answers ..
  | .stirrupUp .. => execStirrupUp_answers ..
  | .stirrupDown => execStirrupDown_answers ..
  | .stpRetrain => execStpRetrain_answers ..
  | .heartbeatLossRetrain => execHeartbeatLossRetrain_answers ..
  | .twinFailed => execTwinFailed_answers ..
  | .claimDelayExpired => execClaimDelayExpired_answers ..
  | .reservationPreemptDone .. => execReservationPreemptDone_answers ..
  | .claimRetry => execClaimRetry_answers ..
  | .leaseSlotWrite => execLeaseSlotWrite_answers ..
  | .handoverLeaseStale => execHandoverLeaseStale_answers ..
  | .twinWaitExpired .. => execTwinWaitExpired_answers ..
  | .twinLeaseRecheck .. => execTwinLeaseRecheck_answers ..
  | .partnerContainmentEnd .. => execPartnerContainmentEnd_answers ..
  | .rdS .. => execRdS_answers ..
  | .rdX .. => execRdX_answers ..
  | .wb .. => execWb_answers ..
  | .snpS .. => execSnpS_answers ..
  | .snpInv .. => execSnpInv_answers ..
  | .ackI .. => execAckI_answers ..
  | .ackS .. => execAckS_answers ..
  | .ackData .. => execAckData_answers ..
  | .wbPending .. => execWbPending_answers ..
  | .dataS .. => execDataS_answers ..
  | .dataE .. => execDataE_answers ..
  | .wbAck .. => execWbAck_answers ..
  | .nack .. => execNack_answers ..
  | .done .. => execDone_answers ..
  | .nackRetryTimer .. => execNackRetryTimer_answers ..
  | .snoopGuardExpired .. => execSnoopGuardExpired_answers ..
  | .agentLoad .. => execAgentLoad_answers ..
  | .agentStore .. => execAgentStore_answers ..
  | .agentEviction .. => execAgentEviction_answers ..
  | .nonTemporalStore .. => execNonTemporalStore_answers ..
  | .uncachedAccess .. => execUncachedAccess_answers ..
  | .fenceFCore .. => execFenceFCore_answers ..
  | .fenceFClu .. => execFenceFClu_answers ..
  | .fenceFSys .. => execFenceFSys_answers ..
  | .fenceSCore .. => execFenceSCore_answers ..
  | .fenceSClu .. => execFenceSClu_answers ..
  | .fenceSSys .. => execFenceSSys_answers ..
  | .treeFillDone .. => execTreeFillDone_answers ..
  | .treeWalkDone .. => execTreeWalkDone_answers ..
  | .clean => execClean_answers ..
  | .cleanInv => execCleanInv_answers ..
  | .inv => execInv_answers ..
  | .treMaintAbort .. => execTreMaintAbort_answers ..
  | .treMaintDone => execTreMaintDone_answers ..
  | .dramArbitrate .. => execDramArbitrate_answers ..
  | .dramWriteEnqueue .. => execDramWriteEnqueue_answers ..
  | .dramReadReturn .. => execDramReadReturn_answers ..
  | .dramRefreshDue .. => execDramRefreshDue_answers ..
  | .dimmTempPoll .. => execDimmTempPoll_answers ..
  | .dramRetrainDone .. => execDramRetrainDone_answers ..
  | .holdupSmbusPoll .. => execHoldupSmbusPoll_answers ..
  | .holdupSenseSample .. => execHoldupSenseSample_answers ..
  | .drainTakeChunk => execDrainTakeChunk_answers ..
  | .stripeWrite .. => execStripeWrite_answers ..
  | .stripeCommit .. => execStripeCommit_answers ..
  | .stripeWriteFailed .. => execStripeWriteFailed_answers ..
  | .zoneReclaim .. => execZoneReclaim_answers ..
  | .tierCheckpoint => execTierCheckpoint_answers ..
  | .commitStepEnd => execCommitStepEnd_answers ..
  | .swCommit .. => execSwCommit_answers ..
  | .requalPowerUp => execRequalPowerUp_answers ..
  | .segmentLoadDone .. => execSegmentLoadDone_answers ..
  | .segmentEvict => execSegmentEvict_answers ..
  | .segmentEvictDone .. => execSegmentEvictDone_answers ..
  | .frameMoveDone .. => execFrameMoveDone_answers ..
  | .loadLate .. => execLoadLate_answers ..
  | .leaseReq .. => execLeaseReq_answers ..
  | .leaseGrant .. => execLeaseGrant_answers ..
  | .leaseReturn .. => execLeaseReturn_answers ..
  | .leaseRecall .. => execLeaseRecall_answers ..
  | .leasePing .. => execLeasePing_answers ..
  | .leasePingTimer => execLeasePingTimer_answers ..
  | .leaseRecallDeadline .. => execLeaseRecallDeadline_answers ..
  | .leaseGraceExpired .. => execLeaseGraceExpired_answers ..
  | .leaseOpen .. => execLeaseOpen_answers ..
  | .leaseAccept .. => execLeaseAccept_answers ..
  | .leaseOpenResend .. => execLeaseOpenResend_answers ..
  | .pdAlloc .. => execPdAlloc_answers ..
  | .pdFree .. => execPdFree_answers ..
  | .cqCreate .. => execCqCreate_answers ..
  | .cqDestroy .. => execCqDestroy_answers ..
  | .connCreate .. => execConnCreate_answers ..
  | .connModifyError .. => execConnModifyError_answers ..
  | .connModifyTxKey .. => execConnModifyTxKey_answers ..
  | .connModifyRxKey .. => execConnModifyRxKey_answers ..
  | .connDestroy .. => execConnDestroy_answers ..
  | .regionRegister .. => execRegionRegister_answers ..
  | .regionRevoke .. => execRegionRevoke_answers ..
  | .revokeForced .. => execRevokeForced_answers ..
  | .sqTail .. => execSqTail_answers ..
  | .rqTail .. => execRqTail_answers ..
  | .cqHead .. => execCqHead_answers ..
  | .wqeNop .. => execWqeNop_answers ..
  | .wqeWrite .. => execWqeWrite_answers ..
  | .wqeRead .. => execWqeRead_answers ..
  | .wqeSend .. => execWqeSend_answers ..
  | .wqeCas .. => execWqeCas_answers ..
  | .wqeFaa .. => execWqeFaa_answers ..
  | .wqeWait .. => execWqeWait_answers ..
  | .cqeWrite .. => execCqeWrite_answers ..
  | .rdmaWriteRequest .. => execRdmaWriteRequest_answers ..
  | .rdmaReadRequest .. => execRdmaReadRequest_answers ..
  | .sendRequest .. => execSendRequest_answers ..
  | .compareAndSwap .. => execCompareAndSwap_answers ..
  | .fetchAndAdd .. => execFetchAndAdd_answers ..
  | .roceAckReceived .. => execRoceAckReceived_answers ..
  | .roceNakReceived .. => execRoceNakReceived_answers ..
  | .roceAckTimeout .. => execRoceAckTimeout_answers ..
  | .cnpReceived .. => execCnpReceived_answers ..
  | .cnpRateRecovery .. => execCnpRateRecovery_answers ..
  | .contextFetchDone .. => execContextFetchDone_answers ..
  | .contextEvict => execContextEvict_answers ..
  | .ethLinkChange .. => execEthLinkChange_answers ..
  | .cipherJobSubmit .. => execCipherJobSubmit_answers ..
  | .cipherJobDone .. => execCipherJobDone_answers ..
  | .coreIsolated .. => execCoreIsolated_answers ..
  | .keySlotBroken .. => execKeySlotBroken_answers ..
  | .keyLoad .. => execKeyLoad_answers ..
  | .keyFree .. => execKeyFree_answers ..
  | .driveInserted .. => execDriveInserted_answers ..
  | .driveRemoved .. => execDriveRemoved_answers ..
  | .driveCommandComplete .. => execDriveCommandComplete_answers ..
  | .driveCommandTimeout .. => execDriveCommandTimeout_answers ..
  | .readShortcutExpired .. => execReadShortcutExpired_answers ..
  | .driveAsyncEvent .. => execDriveAsyncEvent_answers ..
  | .driveLinkDownExpired .. => execDriveLinkDownExpired_answers ..
  | .forceFail .. => execForceFail_answers ..
  | .rebuildStart .. => execRebuildStart_answers ..
  | .rebuildStripe .. => execRebuildStripe_answers ..
  | .hostGuardExpired .. => execHostGuardExpired_answers ..
  | .engineWatchdogExpired .. => execEngineWatchdogExpired_answers ..
  | .keeperHeartbeatMissed .. => execKeeperHeartbeatMissed_answers ..
  | .keeperReloadDone .. => execKeeperReloadDone_answers ..
  | .pommelWatchdog => execPommelWatchdog_answers ..
  | .faultReported .. => execFaultReported_answers ..
  | .groupRetryExpired .. => execGroupRetryExpired_answers ..
  | .recoveryWindowClose .. => execRecoveryWindowClose_answers ..
  | .flsBankClaim .. => execFlsBankClaim_answers ..
  | .flsBankRelease .. => execFlsBankRelease_answers ..
  | .flsClaimExpired .. => execFlsClaimExpired_answers ..
  | .flashRead .. => execFlashRead_answers ..
  | .flashProgram .. => execFlashProgram_answers ..
  | .flashErase .. => execFlashErase_answers ..
  | .flashSuspend .. => execFlashSuspend_answers ..
  | .flashResume .. => execFlashResume_answers ..
  | .readWear .. => execReadWear_answers ..
  | .flashAbort .. => execFlashAbort_answers ..
  | .flashSuspendEffect .. => execFlashSuspendEffect_answers ..
  | .flashRunWindowEnd .. => execFlashRunWindowEnd_answers ..
  | .flashProgramDone .. => execFlashProgramDone_answers ..
  | .flashEraseDone .. => execFlashEraseDone_answers ..
  | .fwData .. => execFwData_answers ..
  | .fwActivate .. => execFwActivate_answers ..
  | .fwActivateForce .. => execFwActivateForce_answers ..
  | .fwActivateCancel .. => execFwActivateCancel_answers ..
  | .fwConfirmed => execFwConfirmed_answers ..
  | .recordSubmit .. => execRecordSubmit_answers ..
  | .recordProgrammed => execRecordProgrammed_answers ..
  | .readBlock .. => execReadBlock_answers ..
  | .lxRingTailWrite .. => execLxRingTailWrite_answers ..
  | .lxBankWrite .. => execLxBankWrite_answers ..
  | .lxRingReset .. => execLxRingReset_answers ..
  | .functionLevelReset .. => execFunctionLevelReset_answers ..
  | .nop .. => execNop_answers ..
  | .flush .. => execFlush_answers ..
  | .flushMedia .. => execFlushMedia_answers ..
  | .zero .. => execZero_answers ..
  | .identify .. => execIdentify_answers ..
  | .fwDownload .. => execFwDownload_answers ..
  | .fwCommit .. => execFwCommit_answers ..
  | .lxUnknownOpcode .. => execLxUnknownOpcode_answers ..
  | .lxCommandStatus .. => execLxCommandStatus_answers ..
  | .psuOkHigh => execPsuOkHigh_answers ..
  | .holdupLowNHigh => execHoldupLowNHigh_answers ..
  | .faultNReleased => execFaultNReleased_answers ..
  | .psuOkGlitch => execPsuOkGlitch_answers ..
  | .holdupLowNGlitch => execHoldupLowNGlitch_answers ..
  | .sysclkReturn => execSysclkReturn_answers ..
  | .vddAonReturn => execVddAonReturn_answers ..
  | .wrstNRelease => execWrstNRelease_answers ..
  | .presenceNPress => execPresenceNPress_answers ..
  | .presenceNRelease => execPresenceNRelease_answers ..
  | .railPgFall .. => execRailPgFall_answers ..
  | .driveLinkChange .. => execDriveLinkChange_answers ..
  | .driveResetTimeout .. => execDriveResetTimeout_answers ..
  | .doorbellAddrWrite .. => execDoorbellAddrWrite_answers ..
  | .lxRegisterWrite .. => execLxRegisterWrite_answers ..

/-! ### The statements -/

/-- Settles O2: the next state is the one that `exec_answers` names. -/
theorem noCommandStops : Obligations.NoCommandStops := by
  unfold Obligations.NoCommandStops
  intro c s
  obtain ⟨t, ht, -⟩ := exec_answers c s
  exact ⟨t, ht⟩

theorem exec_keeps {c : Instr} {s t : State} (h : exec c s = .next t) : t.pending = s.pending ∧ OutGrows s t := by
  obtain ⟨u, hu, hp, os, ho⟩ := exec_answers c s
  cases h.symm.trans hu
  exact ⟨hp, os, ho.symm⟩

/-- Settles O49: each command by `exec_keeps`; a step runs a command on the rest of the queue, or idles. -/
theorem commandsLeaveTheQueue : Obligations.CommandsLeaveTheQueue := by
  unfold Obligations.CommandsLeaveTheQueue
  refine ⟨fun c s t => exec_keeps, fun s t h => ?_⟩
  cases hq : s.pending with
  | nil =>
    rw [step_nil s hq] at h
    cases h
    exact ⟨hq, [], (List.append_nil _).symm⟩
  | cons c r =>
    rw [step_cons s c r hq] at h
    exact exec_keeps h

end Sys2Proof.Proofs
end

section
/-!
PROOFS. What the commands keep of the memories (O50). The DRAM contents change in six operations only (a line stored, a frame cleared, written
or moved, pool frames merged, the fill) and in the resets that lose them; flash cells in a few operations of FlashOps and FlashCmds. Every other
operation has one lemma that says that it leaves both as they were, `SameMem` (`_same`), or the one of the two that the Keep files do not speak of
(`_mem`, `_cells`). An operation that writes a memory keeps its canonical form (`_dram`, `_flash`); a command `Keeps` both (`_keeps`). simp goes from the
state after an operation to the state before it; `-implicitDefEqProofs` stands where what it uses inside a loop is true by definition.
-/
namespace Sys2Proof.Proofs
open Sys2Proof Sys2Proof.Machine Sys2Proof.Laws

/-- The cells of each flash bank: the part of the banks that `MemInv` speaks of. -/
def cellsOf (banks : List (Nat × FlsBank)) : List (List Host.Cell) := banks.map (fun e => e.2.cells)

/-- DRAM contents in canonical form (log entry 4). -/
def DramWf (m : List Host.Cell) : Prop := Memory.wf 0 m = true

/-- The cells of a flash bank in canonical form (log entry 5). -/
def CellsWf (m : List Host.Cell) : Prop := Memory.wf 0xFF m = true

/-- The cells of every flash bank are in canonical form. -/
def FlashWf (cs : List (List Host.Cell)) : Prop := ∀ m ∈ cs, CellsWf m

@[simp] theorem cellsWf_write (a : Nat) (bs : Bytes) {m : List Host.Cell} (h : CellsWf m) : CellsWf (memWriteBytes 0xFF m a bs) :=
  memWriteBytes_wf 0xFF bs m a h

@[simp] theorem cellsWf_filter (p : Host.Cell → Bool) {m : List Host.Cell} (h : CellsWf m) : CellsWf (m.filter p) := filter_wf 0xFF p m h

/-- `MemInv` in the terms that the lemmas below rewrite: the DRAM contents and the cells of the banks. -/
@[simp] theorem memInv_iff (s : State) : MemInv s ↔ DramWf s.dram.mem ∧ FlashWf (cellsOf s.fls.banks) := by
  simp only [MemInv, DramWf, FlashWf, CellsWf, cellsOf, List.forall_mem_map]

/-- `t` has the DRAM contents and the flash cells of `s`: as two equations that simp rewrites with. -/
@[simp] abbrev SameMem (s t : State) : Prop := t.dram.mem = s.dram.mem ∧ cellsOf t.fls.banks = cellsOf s.fls.banks

theorem SameMem.refl (s : State) : SameMem s s := ⟨rfl, rfl⟩

theorem SameMem.trans {s t u : State} (h1 : SameMem s t) (h2 : SameMem t u) : SameMem s u :=
  ⟨h2.1.trans h1.1, h2.2.trans h1.2⟩

theorem SameMem.ite {c : Prop} [Decidable c] {s a b : State} (ha : SameMem s a) (hb : SameMem s b) :
    SameMem s (if c then a else b) := by
  split
  · exact ha
  · exact hb

@[simp] theorem mem_ite (c : Prop) [Decidable c] (s t : State) :
    (if c then s else t).dram.mem = if c then s.dram.mem else t.dram.mem := apply_ite (fun s : State => s.dram.mem) ..

@[simp] theorem cells_ite (c : Prop) [Decidable c] (s t : State) :
    cellsOf (if c then s else t).fls.banks = if c then cellsOf s.fls.banks else cellsOf t.fls.banks :=
  apply_ite (fun s : State => cellsOf s.fls.banks) ..

@[simp] theorem foldl_cells {α : Type} (f : State → α → State) (l : List α) (s : State)
    (h : ∀ s a, cellsOf (f s a).fls.banks = cellsOf s.fls.banks) : cellsOf (l.foldl f s).fls.banks = cellsOf s.fls.banks :=
  foldl_kept (fun s => cellsOf s.fls.banks) f h l s

theorem SameMem.foldl {α : Type} {f : State → α → State} {l : List α} {s u : State} (h0 : SameMem s u)
    (h : ∀ t a, SameMem t (f t a)) : SameMem s (l.foldl f u) :=
  List.foldlRecOn l f h0 fun t ht a _ => ht.trans (h t a)

/-- A loop that carries a value beside the state. -/
theorem foldl_snd_same {α β : Type} {f : β × State → α → β × State} {l : List α} {s : State} {p : β × State} (h0 : SameMem s p.2)
    (h : ∀ p a, SameMem p.2 (f p a).2) : SameMem s (l.foldl f p).2 :=
  List.foldlRecOn (motive := fun p => SameMem s p.2) l f h0 fun p hp a _ => hp.trans (h p a)

/-- A chain of steps each of which may refuse: where none refuses, what each step keeps stands at the end. -/
theorem foldl_bind_same {α : Type} {f : State → α → Option State} (hf : ∀ u a t, f u a = some t → SameMem u t) {l : List α} {s u t : State}
    (h0 : SameMem s u) (h : l.foldl (fun (o : Option State) a => o.bind (fun v => f v a)) (some u) = some t) : SameMem s t := by
  refine List.foldlRecOn (motive := fun o => ∀ t, o = some t → SameMem s t) l _ ?_ ?_ t h
  · intro t ht
    cases ht
    exact h0
  · intro o ho a _ t ht
    obtain ⟨v, hv, hva⟩ := Option.bind_eq_some_iff.1 ht
    exact (ho v hv).trans (hf v a t hva)

theorem same_getD {s : State} {o : Option State} (h : ∀ t, o = some t → SameMem s t) : SameMem s (o.getD s) := by
  cases o with
  | none => exact .refl s
  | some t => exact h t rfl

/-- The command's next state keeps the canonical form. -/
structure Keeps (s : State) (o : Host.Outcome State Fault Refusal) : Prop where
  memInv : ∀ t, o = .next t → MemInv s → MemInv t

@[simp] theorem keeps_next (s t : State) : Keeps s (.next t) ↔ (MemInv s → MemInv t) :=
  ⟨fun h => h.memInv t rfl, fun h => ⟨fun _ hu => by cases hu; exact h⟩⟩

theorem Keeps.of_same {s t : State} (h : SameMem s t) : Keeps s (.next t) := by
  simp [h]

theorem foldl_flash {α : Type} (f : State → α → State) (l : List α) (s : State) (h : FlashWf (cellsOf s.fls.banks))
    (hf : ∀ t a, FlashWf (cellsOf t.fls.banks) → FlashWf (cellsOf (f t a).fls.banks)) :
    FlashWf (cellsOf (l.foldl f s).fls.banks) :=
  List.foldlRecOn (motive := fun t => FlashWf (cellsOf t.fls.banks)) l f h fun t ht a _ => hf t a ht

theorem foldl_dram {α : Type} (f : State → α → State) (l : List α) (s : State) (h : DramWf s.dram.mem)
    (hf : ∀ t a, DramWf t.dram.mem → DramWf (f t a).dram.mem) :
    DramWf (l.foldl f s).dram.mem :=
  List.foldlRecOn (motive := fun t => DramWf t.dram.mem) l f h fun t ht a _ => hf t a ht

theorem mem_amErase {α : Type} {m : List (Nat × α)} {k : Nat} {e : Nat × α} (h : e ∈ amErase m k) : e ∈ m :=
  List.mem_of_mem_filter h

theorem mem_amInsert {α : Type} {m : List (Nat × α)} {k : Nat} {v : α} {e : Nat × α} (h : e ∈ amInsert m k v) :
    e = (k, v) ∨ e ∈ m := by
  induction m with
  | nil => simpa [amInsert] using h
  | cons c r ih =>
    obtain ⟨a, w⟩ := c
    simp only [amInsert] at h
    split at h
    · simpa using h
    · rcases List.mem_cons.1 h with rfl | h
      · simp
      · exact (ih h).imp_right (List.mem_cons_of_mem _)

theorem mem_amSet {α : Type} {m : List (Nat × α)} {k : Nat} {v : α} {e : Nat × α} (h : e ∈ amSet m k v) : e = (k, v) ∨ e ∈ m :=
  (mem_amInsert h).imp_right mem_amErase

/-- What a map holds at a key is one of its values, or the default. -/
theorem amGet_cases {α : Type} (m : List (Nat × α)) (k : Nat) (d : α) : amGet m k d = d ∨ ∃ e ∈ m, amGet m k d = e.2 := by
  induction m with
  | nil => exact .inl rfl
  | cons c r ih =>
    obtain ⟨a, w⟩ := c
    by_cases h : a = k
    · exact .inr ⟨(a, w), by simp, by simp [amGet, h]⟩
    · simp only [amGet, h, if_false]
      exact ih.imp_right fun ⟨e, he, hv⟩ => ⟨e, by simp [he], hv⟩

@[simp] theorem flsBank_wf (s : State) (b : Nat) (h : FlashWf (cellsOf s.fls.banks)) : CellsWf (flsBank s b).cells := by
  rcases amGet_cases s.fls.banks b {} with hd | ⟨e, he, hv⟩
  · rw [flsBank, hd]
    rfl
  · rw [flsBank, hv]
    exact h _ (List.mem_map_of_mem he)

/-! ### Machine/Operands -/

theorem masterRefused_same {s t : State} {m off : Nat} (h : masterRefused s m off = some t) : SameMem s t := by
  unfold masterRefused at h
  split at h
  · cases h
    simp
  · split at h <;> cases h
    simp

/-! ### Machine/FlashOps -/

@[simp] theorem flsSet_flash (s : State) (b : Nat) (v : FlsBank) (hf : FlashWf (cellsOf s.fls.banks)) (hv : CellsWf v.cells) :
    FlashWf (cellsOf (flsSet s b v).fls.banks) := by
  intro m hm
  simp only [cellsOf, flsSet, List.mem_map] at hm
  obtain ⟨e, he, rfl⟩ := hm
  rcases mem_amSet he with rfl | he
  · exact hv
  · exact hf _ (List.mem_map_of_mem he)

@[simp] theorem flsFreeze_cells (s : State) : cellsOf (flsFreeze s).fls.banks = cellsOf s.fls.banks := by
  simp only [cellsOf, flsFreeze, List.map_map]
  refine List.map_congr_left fun e _ => ?_
  simp only [Function.comp]
  split <;> rfl

@[simp] theorem flsTear_flash (u : State) (b : Nat) (o : FlsOp) (hf : FlashWf (cellsOf u.fls.banks)) :
    FlashWf (cellsOf (flsTear u b o).fls.banks) := by
  have h1 : FlashWf (cellsOf (mixBytes u (flsBytes u b o.addr o.data.length) o.data).2.fls.banks) := by simp [hf]
  exact flsSet_flash _ _ _ h1 (cellsWf_write _ _ (flsBank_wf _ _ h1))

@[simp] theorem flsCut_flash (s : State) (hf : FlashWf (cellsOf s.fls.banks)) : FlashWf (cellsOf (flsCut s).fls.banks) := by
  have h1 := foldl_flash (fun (t : State) (e : Nat × FlsBank) => (flsCutOps e.2).foldl (fun u o => flsTear u e.1 o) t) s.fls.banks s hf
    fun t e ht => foldl_flash _ _ t ht fun u o hu => flsTear_flash u e.1 o hu
  simpa [flsCut, cellsOf, Function.comp_def] using h1

@[simp] theorem flsWear_flash (s : State) (b sector : Nat) (hf : FlashWf (cellsOf s.fls.banks)) :
    FlashWf (cellsOf (flsWear s b sector).fls.banks) := by simp [flsWear, hf]

@[simp] theorem flsErased_flash (s : State) (b sector : Nat) (hf : FlashWf (cellsOf s.fls.banks)) :
    FlashWf (cellsOf (flsErased s b sector).fls.banks) := by
  have hv : CellsWf ((flsBank s b).cells.filter fun c => c.1 / 65536 ≠ sector) := cellsWf_filter _ (flsBank_wf s b hf)
  simp only [flsErased]
  repeat' split
  all_goals exact flsSet_flash s b _ hf hv

/-! ### Machine/TreeOps -/

@[simp] theorem dramStore_dram (s : State) (n : Nat) (data : Bytes) (poison : Bool) (hm : DramWf s.dram.mem) :
    DramWf (dramStore s n data poison).dram.mem := memWriteBytes_wf 0 _ _ _ hm

/-! ### Machine/PersistOps -/

@[simp] theorem writeRound_same (s : State) (wid gl : Nat) (writer : Option Nat) (setB : Bool) :
    SameMem s (writeRound s wid gl writer setB).2 := by
  simp only [writeRound]
  repeat' split
  all_goals simp

theorem acceptWrite_same {s t : State} {who : Writer} {ld gl : Nat} {data : PLine} {pair setB : Bool}
    (h : acceptWrite s who ld gl data pair setB = some t) :
    SameMem s t := by
  unfold acceptWrite at h
  split at h
  · extract_lets _q _wid _mir _per s1 s2 s3 s4 _who at h
    have h2 : SameMem s s2 := by simp [s2, s1]
    have h3 : SameMem s2 s3 := by
      dsimp only [s3]
      split <;> simp
    have h4 : SameMem s3 s4 := by simp [s4]
    split at h
    rename_i h5
    cases h
    exact .trans ((h2.trans h3).trans h4) (by simp [eq_snd h5])
  · cases h

theorem skiveClose_same {s t : State} {e : SkiveLine} (h : skiveClose s e = some t) : SameMem s t := by
  unfold skiveClose at h
  split at h
  · cases h
    simp
  · cases h

/-! ### Machine/Reaction -/

@[simp] theorem enterCommit_cells (s : State) (trig : Nat) :
    cellsOf (enterCommit s trig).fls.banks = cellsOf s.fls.banks := by simp [enterCommit]

@[simp] theorem commitTrigger_cells (s : State) (trig : Nat) : cellsOf (commitTrigger s trig).fls.banks = cellsOf s.fls.banks := by
  unfold commitTrigger
  split <;> simp

@[simp] theorem warmCauseSet_cells (s : State) (c : WarmCause) : cellsOf (warmCauseSet s c).fls.banks = cellsOf s.fls.banks := by
  unfold warmCauseSet
  split <;> simp

@[simp] theorem startWarmReset_cells (s : State) (c : WarmCause) :
    cellsOf (startWarmReset s c).fls.banks = cellsOf s.fls.banks := by simp [startWarmReset]

@[simp] theorem reactS5_cells (s : State) (u : FUnit) (inst : Nat) :
    cellsOf (reactS5 s u inst).fls.banks = cellsOf s.fls.banks := by simp [reactS5]

@[simp] theorem reactS4_cells (s : State) (u : FUnit) (inst : Nat) :
    cellsOf (reactS4 s u inst).fls.banks = cellsOf s.fls.banks := by simp [reactS4]

@[simp] theorem gradeFault_cells (s0 : State) (u : FUnit) (code inst sev rung : Nat) :
    cellsOf (gradeFault s0 u code inst sev rung).fls.banks = cellsOf s0.fls.banks := by
  unfold gradeFault
  repeat' split
  all_goals simp

@[simp] theorem reportFault_cells (s : State) (u : FUnit) (code inst sev : Nat) (items : Bytes) :
    cellsOf (reportFault s u code inst sev items).fls.banks = cellsOf s.fls.banks := by simp [reportFault]

@[simp] theorem fault_cells (s : State) (u : FUnit) (ev : Ev) (inst : Nat) (items : Bytes) :
    cellsOf (fault s u ev inst items).fls.banks = cellsOf s.fls.banks := by simp [fault]

/-! ### Machine/Tree -/

theorem execTreeFillDone_keeps (line : Nat) (s : State) : Keeps s (execTreeFillDone line s) := by
  simp only [execTreeFillDone]
  repeat' split
  all_goals simp

theorem execTreeWalkDone_keeps (e : Nat) (s : State) : Keeps s (execTreeWalkDone e s) := by simp [execTreeWalkDone]

theorem execClean_keeps (s : State) : Keeps s (execClean s) := by simp [execClean]

theorem execCleanInv_keeps (s : State) : Keeps s (execCleanInv s) := by simp [execCleanInv]

theorem execInv_keeps (s : State) : Keeps s (execInv s) := by simp [execInv]

theorem execTreMaintAbort_keeps (reached : Nat) (s : State) : Keeps s (execTreMaintAbort reached s) := by
  unfold execTreMaintAbort
  split <;> simp

theorem execTreMaintDone_keeps (s : State) : Keeps s (execTreMaintDone s) := by
  unfold execTreMaintDone
  split <;> simp

/-! ### Machine/DramCtl -/

@[simp] theorem issueCand_dram (s : State) (ch : Nat) (b : Bool) (x : Cand) (hm : DramWf s.dram.mem) :
    DramWf (issueCand s ch b x).dram.mem := by
  unfold issueCand
  split <;> simp [hm]

theorem execDramArbitrate_keeps (ch : Fin 16) (subB : Bool) (s : State) : Keeps s (execDramArbitrate ch subB s) := by
  simp only [execDramArbitrate]
  repeat' split
  all_goals simp +contextual

theorem execDramWriteEnqueue_keeps (line : Nat) (s : State) : Keeps s (execDramWriteEnqueue line s) := by
  unfold execDramWriteEnqueue
  split <;> simp

@[simp] theorem countDevice_cells (s : State) (ch rank dev : Nat) :
    cellsOf (countDevice s ch rank dev).fls.banks = cellsOf s.fls.banks := by simp [countDevice]

@[simp] theorem correctLine_cells (s : State) (ch line dev rank : Nat) (data : Bytes) :
    cellsOf (correctLine s ch line dev rank data).fls.banks = cellsOf s.fls.banks := by simp -implicitDefEqProofs [correctLine]

@[simp] theorem mapLineLost_cells (s : State) (k : Nat) : cellsOf (mapLineLost s k).fls.banks = cellsOf s.fls.banks := by simp [mapLineLost]

@[simp] theorem resolveLine_cells (s : State) (ch line : Nat) (pool map : Option Nat) :
    cellsOf (resolveLine s ch line pool map).fls.banks = cellsOf s.fls.banks := by
  simp only [resolveLine]
  repeat' split
  all_goals simp

@[simp] theorem retireFrame_cells (s : State) (ch line : Nat) : cellsOf (retireFrame s ch line).fls.banks = cellsOf s.fls.banks := by
  unfold retireFrame
  split <;> simp

theorem execDramReadReturn_keeps (ch : Fin 16) (subB : Bool) (res : EccResult) (pool map : Option Nat) (s : State) :
    Keeps s (execDramReadReturn ch subB res pool map s) := by
  simp only [execDramReadReturn]
  repeat' split
  all_goals simp

theorem execDramRefreshDue_keeps (ch : Fin 16) (subB : Bool) (s : State) :
    Keeps s (execDramRefreshDue ch subB s) := by simp [execDramRefreshDue]

theorem execDimmTempPoll_keeps (ch : Fin 16) (dimm : Fin 2) (first retry : SmbAnswer) (s : State) :
    Keeps s (execDimmTempPoll ch dimm first retry s) := by
  simp only [execDimmTempPoll]
  repeat' split
  all_goals simp

theorem execDramRetrainDone_keeps (ch : Fin 16) (pass : Bool) (s : State) :
    Keeps s (execDramRetrainDone ch pass s) := by simp [execDramRetrainDone]

@[simp] theorem scrubChan_same (s : State) (ch : Nat) : SameMem s (scrubChan s ch) := by simp [scrubChan]

@[simp] theorem scrubTick_same (s : State) : SameMem s (scrubTick s) := by simp [scrubTick]

/-! ### Machine/SramOps -/

@[simp] theorem weltOutcome_cells (s : State) (gl : Nat) (skive poisoned : Bool) :
    cellsOf (weltOutcome s gl skive poisoned).fls.banks = cellsOf s.fls.banks := by simp [weltOutcome]

@[simp] theorem weltError_cells (s : State) (gl k : Nat) (unc : Bool) :
    cellsOf (weltError s gl k unc).fls.banks = cellsOf s.fls.banks := by simp [weltError]

@[simp] theorem weltRepaired_cells (s : State) (r : WeltRepair) (b : Option Byte) :
    cellsOf (weltRepaired s r b).fls.banks = cellsOf s.fls.banks := by
  unfold weltRepaired
  repeat' split
  all_goals simp

@[simp] theorem treeCorrected_cells (s : State) (t : TreeLine) :
    cellsOf (treeCorrected s t).fls.banks = cellsOf s.fls.banks := by simp [treeCorrected]

@[simp] theorem treePoisoned_cells (s : State) (dl : Nat) : cellsOf (treePoisoned s dl).fls.banks = cellsOf s.fls.banks := by
  unfold treePoisoned
  split <;> simp

@[simp] theorem treeUncorrectable_cells (s : State) (t : TreeLine) (stateLost : Bool) :
    cellsOf (treeUncorrectable s t stateLost).fls.banks = cellsOf s.fls.banks := by
  simp only [treeUncorrectable]
  repeat' split
  all_goals simp

@[simp] theorem treeRepaired_cells (s : State) (ch dl : Nat) (data : Bytes) :
    cellsOf (treeRepaired s ch dl data).fls.banks = cellsOf s.fls.banks := by
  simp only [treeRepaired]
  repeat' split
  all_goals simp

@[simp] theorem treeRepairLost_cells (s : State) (ch dl : Nat) :
    cellsOf (treeRepairLost s ch dl).fls.banks = cellsOf s.fls.banks := by simp [treeRepairLost]

@[simp] theorem sramFound_cells (s : State) (gl : Nat) (e : SramErr) : cellsOf (sramFound s gl e).fls.banks = cellsOf s.fls.banks := by
  unfold sramFound
  repeat' split
  all_goals simp

/-! ### Machine/TwinLink -/

@[simp] theorem mirrorIn_cells (s : State) (f : MirFrame) (code : Nat) :
    cellsOf (mirrorIn s f code).fls.banks = cellsOf s.fls.banks := by simp [mirrorIn]

theorem execMirror_keeps (seq line mask : Nat) (data : Bytes) (s : State) :
    Keeps s (execMirror seq line mask data s) := by simp [execMirror]

theorem execMirrorFull_keeps (seq line : Nat) (data : Bytes) (s : State) :
    Keeps s (execMirrorFull seq line data s) := by simp [execMirrorFull]

theorem execMirrorAck_keeps (upto : Nat) (s : State) : Keeps s (execMirrorAck upto s) := by simp [execMirrorAck]

theorem execRelease_keeps (chunk mask cut : Nat) (s : State) : Keeps s (execRelease chunk mask cut s) := by simp [execRelease]

theorem execRepairReq_keeps (line tag : Nat) (s : State) : Keeps s (execRepairReq line tag s) := by
  unfold execRepairReq
  repeat' split
  all_goals simp

@[simp] theorem repairLost_cells (s : State) (ch : Nat) (r : Repair) : cellsOf (repairLost s ch r).fls.banks = cellsOf s.fls.banks := by
  simp only [repairLost]
  repeat' split
  all_goals simp

theorem execRepairRsp_keeps (tag mask : Nat) (data : Bytes) (s : State) : Keeps s (execRepairRsp tag mask data s) := by
  unfold execRepairRsp
  repeat' split
  all_goals simp

theorem execRemirror_keeps (line : Nat) (s : State) : Keeps s (execRemirror line s) := by
  unfold execRemirror
  repeat' split
  all_goals simp

theorem execJournal_keeps (seq : Nat) (e : JournalEntry) (s : State) : Keeps s (execJournal seq e s) := by simp [execJournal]

theorem execJournalAck_keeps (seq : Nat) (s : State) : Keeps s (execJournalAck seq s) := by simp -implicitDefEqProofs [execJournalAck]

theorem execZoneReq_keeps (wanted : Nat) (s : State) : Keeps s (execZoneReq wanted s) := by simp [execZoneReq]

theorem execZoneGrant_keeps (zones : List Nat) (epoch : Nat) (s : State) : Keeps s (execZoneGrant zones epoch s) := by simp [execZoneGrant]

theorem execZoneAck_keeps (zones : List Nat) (s : State) : Keeps s (execZoneAck zones s) := by simp [execZoneAck]

theorem execBarrierReq_keeps (tag level : Nat) (s : State) : Keeps s (execBarrierReq tag level s) := by simp [execBarrierReq]

theorem execBarrierDone_keeps (tag st : Nat) (s : State) : Keeps s (execBarrierDone tag st s) := by simp [execBarrierDone]

theorem execStirrupUp_keeps (lanes : Nat) (s : State) : Keeps s (execStirrupUp lanes s) := by simp [execStirrupUp]

@[simp] theorem linkLost_same (s : State) : SameMem s (linkLost s) := by simp [linkLost]

theorem execStirrupDown_keeps (s : State) : Keeps s (execStirrupDown s) := by simp [execStirrupDown]

theorem execStpRetrain_keeps (s : State) : Keeps s (execStpRetrain s) := by simp [execStpRetrain]

theorem execHeartbeatLossRetrain_keeps (s : State) : Keeps s (execHeartbeatLossRetrain s) := by simp [execHeartbeatLossRetrain]

@[simp] theorem startResync_same (s : State) : SameMem s (startResync s) := by
  unfold startResync
  extract_lets _tw s0 s1 _tw1 s2
  have h0 : SameMem s s0 := by simp [s0]
  have h1 : SameMem s s1 := .foldl h0 fun t gl => by
    repeat' split
    all_goals simp
  have h2 : SameMem s1 s2 := by simp [s2]
  clear_value s1 s2
  split <;> simp [h2, h1]

@[simp] theorem handshake_same (s : State) : SameMem s (handshake s) := by simp -implicitDefEqProofs [handshake]

theorem execHello_keeps (h : HelloFrame) (s : State) : Keeps s (execHello h s) := by simp [execHello]

theorem execHeartbeat_keeps (h : HeartbeatFrame) (s : State) : Keeps s (execHeartbeat h s) := by
  unfold execHeartbeat
  rw [keeps_next]
  split
  · simp
  · extract_lets _d _mis _run _tw s1 _lck s2 _lck2 s3 s4 _cin s5
    have h2 : SameMem s s2 := by simp [s2, s1]
    have h3 : SameMem s2 s3 := by
      simp only [s3]
      split <;> simp
    have h4 : SameMem s3 s4 := by simp [s4]
    have h5 : SameMem s4 s5 := by
      simp only [s5]
      split <;> simp
    clear_value s2 s3 s4 s5
    repeat' split
    all_goals simp [h5, h4, h3, h2]

theorem execHandoverBegin_keeps (s : State) : Keeps s (execHandoverBegin s) := by
  unfold execHandoverBegin
  repeat' split
  all_goals simp

theorem execHandoverDone_keeps (s : State) : Keeps s (execHandoverDone s) := by simp [execHandoverDone]

@[simp] theorem claimGo_cells (s : State) : cellsOf (claimGo s).fls.banks = cellsOf s.fls.banks := by
  simp only [claimGo]
  repeat' split
  all_goals simp

@[simp] theorem claimStart_cells (s : State) (twinKnown : Bool) :
    cellsOf (claimStart s twinKnown).fls.banks = cellsOf s.fls.banks := by simp [claimStart]

theorem execTwinFailed_keeps (s : State) : Keeps s (execTwinFailed s) := by simp [execTwinFailed]

theorem execClaimDelayExpired_keeps (s : State) : Keeps s (execClaimDelayExpired s) := by
  unfold execClaimDelayExpired
  split <;> simp

theorem execReservationPreemptDone_keeps (slot : Fin 24) (ok : Bool) (s : State) : Keeps s (execReservationPreemptDone slot ok s) := by
  unfold execReservationPreemptDone
  split <;> simp -implicitDefEqProofs

theorem execClaimRetry_keeps (s : State) : Keeps s (execClaimRetry s) := by
  unfold execClaimRetry
  split <;> simp

theorem execLeaseSlotWrite_keeps (s : State) : Keeps s (execLeaseSlotWrite s) := by simp -implicitDefEqProofs [execLeaseSlotWrite]

theorem execHandoverLeaseStale_keeps (s : State) : Keeps s (execHandoverLeaseStale s) := by simp [execHandoverLeaseStale]

theorem execTwinWaitExpired_keeps (lease : Option (Nat × Nat)) (s : State) :
    Keeps s (execTwinWaitExpired lease s) := by simp [execTwinWaitExpired]

theorem execTwinLeaseRecheck_keeps (lease : Option (Nat × Nat)) (s : State) : Keeps s (execTwinLeaseRecheck lease s) := by
  unfold execTwinLeaseRecheck
  repeat' split
  all_goals simp

theorem execFailbackReq_keeps (s : State) : Keeps s (execFailbackReq s) := by simp [execFailbackReq]

theorem execFailbackReady_keeps (epoch : Nat) (s : State) :
    Keeps s (execFailbackReady epoch s) := by simp -implicitDefEqProofs [execFailbackReady]

theorem execFailbackDone_keeps (s : State) : Keeps s (execFailbackDone s) := by simp [execFailbackDone]

theorem execViolation_keeps (cause code : Nat) (s : State) :
    Keeps s (execViolation cause code s) := by simp -implicitDefEqProofs [execViolation]

theorem execPartnerContainmentEnd_keeps (p : Partner) (s : State) : Keeps s (execPartnerContainmentEnd p s) := by
  unfold execPartnerContainmentEnd
  repeat' split
  all_goals simp

/-! ### Machine/AwlOps -/

@[simp] theorem setUpdate_cells (s : State) (n : Nat) : cellsOf (setUpdate s n).fls.banks = cellsOf s.fls.banks := by
  simp only [setUpdate]
  repeat' split
  all_goals simp

@[simp] theorem memberFailed_cells (s : State) (slot cause : Nat) :
    cellsOf (memberFailed s slot cause).fls.banks = cellsOf s.fls.banks := by
  simp only [memberFailed]
  repeat' split
  all_goals simp

theorem takeStripe_same {s t : State} {n k : Nat} (h : takeStripe s n = some (k, t)) : SameMem s t := by
  unfold takeStripe at h
  dsimp only at h
  split at h
  · cases h
    exact ⟨rfl, rfl⟩
  · split at h <;> cases h
    exact ⟨rfl, rfl⟩

@[simp] theorem poisonSector_cells (s : State) (n chunk sector : Nat) :
    cellsOf (poisonSector s n chunk sector).fls.banks = cellsOf s.fls.banks := by simp [poisonSector]

/-! ### Machine/Drives -/

theorem execDriveInserted_keeps (slot : Fin 24) (info : DriveInfo) (s : State) : Keeps s (execDriveInserted slot info s) := by
  unfold execDriveInserted
  repeat' split
  all_goals simp

theorem execDriveRemoved_keeps (slot : Fin 24) (s : State) : Keeps s (execDriveRemoved slot s) := by
  simp only [execDriveRemoved]
  repeat' split
  all_goals simp

@[simp] theorem readFailed_cells (s : State) (slot n stripe unit sector : Nat) :
    cellsOf (readFailed s slot n stripe unit sector).fls.banks = cellsOf s.fls.banks := by
  unfold readFailed
  repeat' split
  all_goals simp

@[simp] theorem cmdFailed_cells (s : State) (slot sector : Nat) (c : DriveCmd) :
    cellsOf (cmdFailed s slot sector c).fls.banks = cellsOf s.fls.banks := by
  unfold cmdFailed
  split <;> simp

theorem execDriveCommandComplete_keeps (slot : Fin 24) (id : Nat) (res : DriveResult) (s : State) :
    Keeps s (execDriveCommandComplete slot id res s) := by
  simp only [execDriveCommandComplete]
  repeat' split
  all_goals simp -implicitDefEqProofs

theorem execDriveCommandTimeout_keeps (slot : Fin 24) (id : Nat) (s : State) :
    Keeps s (execDriveCommandTimeout slot id s) := by simp [execDriveCommandTimeout]

theorem execDriveResetTimeout_keeps (slot : Fin 24) (s : State) : Keeps s (execDriveResetTimeout slot s) := by simp [execDriveResetTimeout]

theorem execReadShortcutExpired_keeps (slot : Fin 24) (id : Nat) (s : State) : Keeps s (execReadShortcutExpired slot id s) := by
  unfold execReadShortcutExpired
  repeat' split
  all_goals simp

theorem execDriveAsyncEvent_keeps (slot : Fin 24) (spareLow readOnly backupFailed : Bool) (s : State) :
    Keeps s (execDriveAsyncEvent slot spareLow readOnly backupFailed s) := by simp [execDriveAsyncEvent]

theorem execDriveLinkChange_keeps (slot : Fin 24) (up : Bool) (width : Nat) (gen5 : Bool) (s : State) :
    Keeps s (execDriveLinkChange slot up width gen5 s) := by simp [execDriveLinkChange]

theorem execDriveLinkDownExpired_keeps (slot : Fin 24) (s : State) : Keeps s (execDriveLinkDownExpired slot s) := by
  simp only [execDriveLinkDownExpired]
  repeat' split
  all_goals simp

theorem execForceFail_keeps (slot : Fin 24) (s : State) : Keeps s (execForceFail slot s) := by simp [execForceFail]

theorem execRebuildStart_keeps (n : Fin 8) (s : State) : Keeps s (execRebuildStart n s) := by
  unfold execRebuildStart
  repeat' split
  all_goals simp

@[simp] theorem rebuildEnd_cells (s : State) (n : Nat) (r : Rebuild) : cellsOf (rebuildEnd s n r).fls.banks = cellsOf s.fls.banks := by
  simp only [rebuildEnd]
  repeat' split
  all_goals simp

@[simp] theorem relocateStripe_same (s : State) (n stripe : Nat) (bad : List (Nat × Nat)) : SameMem s (relocateStripe s n stripe bad) := by
  unfold relocateStripe
  extract_lets +onlyGivenNames _live s1
  have h1 : SameMem s s1 := .foldl (.refl s) fun t b => (by split <;> simp)
  clear_value s1
  simp [h1]

theorem execRebuildStripe_keeps (n : Fin 8) (stripe unit : Nat) (readable : Bool) (bad : List (Nat × Nat)) (last : Bool) (s : State) :
    Keeps s (execRebuildStripe n stripe unit readable bad last s) := by
  unfold execRebuildStripe
  split <;> simp

/-! ### Machine/Drain -/

@[simp] theorem holdupCheck_cells (s : State) : cellsOf (holdupCheck s).fls.banks = cellsOf s.fls.banks := by simp [holdupCheck]

theorem execHoldupSmbusPoll_keeps (first retry : SmbAnswer) (s : State) : Keeps s (execHoldupSmbusPoll first retry s) := by
  simp only [execHoldupSmbusPoll]
  repeat' split
  all_goals simp

theorem execHoldupSenseSample_keeps (uv : Nat) (s : State) : Keeps s (execHoldupSenseSample uv s) := by simp [execHoldupSenseSample]

@[simp] theorem cleanChunk_same (s : State) (c : Nat) : SameMem s (cleanChunk s c) := by simp [cleanChunk]

@[simp] theorem takeChunk_same (s : State) (c : Nat) : SameMem s (takeChunk s c) := by simp [takeChunk]

theorem execDrainTakeChunk_keeps (s : State) : Keeps s (execDrainTakeChunk s) := by
  unfold execDrainTakeChunk
  repeat' split
  all_goals simp

@[simp] theorem zonesExhausted_cells (s : State) : cellsOf (zonesExhausted s).fls.banks = cellsOf s.fls.banks := by simp [zonesExhausted]

@[simp] theorem journalFull_cells (s : State) : cellsOf (journalFull s).fls.banks = cellsOf s.fls.banks := by simp [journalFull]

theorem execStripeWrite_keeps (relocate : Bool) (s : State) : Keeps s (execStripeWrite relocate s) := by
  unfold execStripeWrite
  rw [keeps_next]
  extract_lets cs
  split
  · simp
  split
  · simp
  dsimp only
  split
  · simp
  split
  · simp
  split <;> rename_i h
  · simp
  · cases relocate <;> simp [takeStripe_same h]

theorem execStripeCommit_keeps (n : Fin 8) (stripe : Nat) (s : State) : Keeps s (execStripeCommit n stripe s) := by
  unfold execStripeCommit
  split <;> simp

@[simp] theorem abandonStripe_cells (s : State) (x : Stripe) : cellsOf (abandonStripe s x).fls.banks = cellsOf s.fls.banks := by
  simp only [abandonStripe]
  repeat' split
  all_goals simp

theorem execStripeWriteFailed_keeps (n : Fin 8) (stripe col : Nat) (s : State) : Keeps s (execStripeWriteFailed n stripe col s) := by
  unfold execStripeWriteFailed
  repeat' split
  all_goals simp

theorem execZoneReclaim_keeps (zone : Nat) (s : State) : Keeps s (execZoneReclaim zone s) := by simp [execZoneReclaim]

/-! ### Machine/HostPorts -/

@[simp] theorem skiveAccept_same (s : State) (p ld tag gl : Nat) (data : PLine) : SameMem s (skiveAccept s p ld tag gl data) := by
  unfold skiveAccept
  extract_lets q make
  have hm : ∀ s0, make = some s0 → SameMem s s0 := by
    intro s0 h
    dsimp only [make] at h
    split at h
    · cases h
      exact .refl s
    split at h
    · cases h
      exact .refl s
    split at h
    · exact skiveClose_same h
    · cases h
  clear_value make
  split
  · simp
  · rename_i s0
    extract_lets _per s1 old d mir e s1a _per1 s2 s3 s4 wid _host s5 s6
    have h2 : SameMem s0 s2 := by simp [s2, s1a, s1]
    have h3 : SameMem s2 s3 := by
      dsimp only [s3]
      split <;> simp
    have h4 : SameMem s3 s4 := by simp [s4]
    have h6 : SameMem s4 s6 := by simp [s6, s5]
    clear_value s2 s3 s4 s6
    simp [h6, h4, h3, h2, hm s0 rfl]

@[simp] theorem hostWrite_same (p ldid tag hpa mask meta_ : Nat) (data : Bytes) (s : State) :
    SameMem s (hostWrite p ldid tag hpa mask meta_ data s) := by
  unfold hostWrite
  dsimp only
  split
  · simp
  · simp
  · split
    · simp
    · split <;> rename_i h
      · simp [acceptWrite_same h]
      · simp

theorem execHostWrite_keeps (port : Fin 16) (ldid : Fin 16) (tag hpa mask meta_ : Nat) (data : Bytes) (s : State) :
    Keeps s (execHostWrite port ldid tag hpa mask meta_ data s) := by simp [execHostWrite]

theorem execStreamWrite_keeps (port : Fin 16) (ldid : Fin 16) (tag hpa mask : Nat) (data : Bytes) (s : State) :
    Keeps s (execStreamWrite port ldid tag hpa mask data s) := by simp [execStreamWrite]

theorem execHostRead_keeps (port : Fin 16) (ldid : Fin 16) (tag hpa meta_ : Nat) (err : SramErr) (s : State) :
    Keeps s (execHostRead port ldid tag hpa meta_ err s) := by
  unfold execHostRead
  split <;> simp

theorem execHdmDecoderCommit_keeps (n : Fin 64) (idx : Fin 4) (base size skip ways gran : Nat) (bi lock : Bool) (s : State) :
    Keeps s (execHdmDecoderCommit n idx base size skip ways gran bi lock s) := by simp [execHdmDecoderCommit]

theorem execHostLinkUp_keeps (port : Fin 16) (width : Nat) (rate64 flit68 : Bool) (s : State) :
    Keeps s (execHostLinkUp port width rate64 flit68 s) := by simp [execHostLinkUp]

theorem execHostLinkDown_keeps (port : Fin 16) (s : State) : Keeps s (execHostLinkDown port s) := by simp [execHostLinkDown]

theorem execHptPortEnableChange_keeps (port : Fin 16) (on : Bool) (s : State) :
    Keeps s (execHptPortEnableChange port on s) := by simp [execHptPortEnableChange]

theorem execHptLdEnableChange_keeps (n : Fin 64) (on : Bool) (s : State) :
    Keeps s (execHptLdEnableChange n on s) := by simp [execHptLdEnableChange]

theorem execDoorbellAddrWrite_keeps (n : Fin 64) (slot : Fin 64) (off value : Nat) (s : State) :
    Keeps s (execDoorbellAddrWrite n slot off value s) := by simp [execDoorbellAddrWrite]

theorem execDoorbellRing_keeps (n : Fin 64) (slot : Fin 64) (word bits : Nat) (s : State) :
    Keeps s (execDoorbellRing n slot word bits s) := by simp [execDoorbellRing]

/-! ### Machine/Objects -/

theorem vendorCmd_keeps {s : State} {n : Nat} {run : State → State} (hr : MemInv s → MemInv (run s)) :
    Keeps s (.next (vendorCmd s n run)) := by
  unfold vendorCmd
  rw [keeps_next]
  intro hs
  repeat' split
  case isFalse.isFalse.isFalse.isFalse => exact hr hs
  all_goals simpa using hs

@[simp] theorem vendorCmd_same (s : State) (n : Nat) (run : State → State) (h : SameMem s (run s)) :
    SameMem s (vendorCmd s n run) := by simp [vendorCmd, h]

theorem execObjectCreate_keeps (n : Fin 64) (offset size cls policy flags : Nat) (s : State) :
    Keeps s (execObjectCreate n offset size cls policy flags s) := by
  refine .of_same (vendorCmd_same s n _ ?_)
  dsimp only
  repeat' split
  all_goals simp

@[simp] theorem objectCmd_same (s : State) (n id : Nat) (run : State → Nat × Nat → State) (h : ∀ r, SameMem s (run s r)) :
    SameMem s (objectCmd s n id run) := by
  unfold objectCmd
  split
  · simp
  · simp [h]

theorem execObjectDestroy_keeps (n : Fin 64) (id : Nat) (s : State) : Keeps s (execObjectDestroy n id s) := by simp [execObjectDestroy]

theorem execObjectQuery_keeps (n : Fin 64) (id : Nat) (s : State) : Keeps s (execObjectQuery n id s) := by simp [execObjectQuery]

theorem execObjectSetPolicy_keeps (n : Fin 64) (id policy flags : Nat) (s : State) : Keeps s (execObjectSetPolicy n id policy flags s) := by
  refine .of_same (vendorCmd_same s n _ (objectCmd_same s n id _ fun r => ?_))
  split
  · simp
  extract_lets _ten _away _tier s1 s2 s3
  split
  · simp
  have h1 : SameMem s s1 := by
    dsimp only [s1]
    split <;> simp
  have h2 : SameMem s1 s2 := by simp [s2]
  have h3 : SameMem s2 s3 := by simp [s3]
  clear_value s1 s2 s3
  simp [h3, h2, h1]

theorem execStreamOpen_keeps (n : Fin 64) (object desc start window mode flags deadline : Nat) (far : List (Nat × Bytes)) (s : State) :
    Keeps s (execStreamOpen n object desc start window mode flags deadline far s) := by
  refine .of_same (vendorCmd_same s n _ (objectCmd_same s n object _ fun r => ?_))
  dsimp only
  repeat' split
  all_goals simp

theorem execStreamClose_keeps (n : Fin 64) (id : Nat) (s : State) : Keeps s (execStreamClose n id s) := by
  refine .of_same (vendorCmd_same s n _ ?_)
  repeat' split
  all_goals simp

theorem execLayerDone_keeps (n : Fin 64) (slot : Fin 64) (word : Nat) (s : State) : Keeps s (execLayerDone n slot word s) := by
  unfold execLayerDone
  split <;> simp

theorem execStreamDeadline_keeps (line : Nat) (s : State) : Keeps s (execStreamDeadline line s) := by simp [execStreamDeadline]

theorem execLoadLate_keeps (line : Nat) (s : State) : Keeps s (execLoadLate line s) := by simp [execLoadLate]

/-! ### Machine/CipherOps -/

@[simp] theorem keyReload_cells (s : State) : cellsOf (keyReload s).fls.banks = cellsOf s.fls.banks := by
  unfold keyReload
  split <;> simp

@[simp] theorem coreIsolate_cells (s : State) (c : Nat) : cellsOf (coreIsolate s c).fls.banks = cellsOf s.fls.banks := by simp [coreIsolate]

/-! ### Machine/Latigo -/

@[simp] theorem latCmd_same (s : State) (who : Issuer) (slot tag : Nat) (run : State → Status × (Bytes × State)) (h : SameMem s
    (run s).2.2) :
    SameMem s (latCmd s who slot tag run) := by
  have h1 : SameMem s (run s).2.2 := h
  unfold latCmd
  extract_lets own r
  clear_value own
  simp [r, h1]

@[simp] theorem no_same (s : State) (st : Status) : SameMem s (no s st).2.2 := by simp [no]

theorem execPdAlloc_keeps (who : Issuer) (slot : Fin 128) (tag tenant : Nat) (s : State) : Keeps s (execPdAlloc who slot tag tenant s) := by
  refine .of_same (latCmd_same s _ _ _ _ ?_)
  repeat' split
  all_goals simp

theorem execPdFree_keeps (who : Issuer) (slot : Fin 128) (tag pd : Nat) (s : State) : Keeps s (execPdFree who slot tag pd s) := by
  refine .of_same (latCmd_same s _ _ _ _ ?_)
  repeat' split
  all_goals simp

theorem execCqCreate_keeps (who : Issuer) (slot : Fin 128) (tag owner dpa entries qslot : Nat) (s : State) :
    Keeps s (execCqCreate who slot tag owner dpa entries qslot s) := by
  refine .of_same (latCmd_same s _ _ _ _ ?_)
  repeat' split
  all_goals simp

theorem execCqDestroy_keeps (who : Issuer) (slot : Fin 128) (tag cq : Nat) (s : State) : Keeps s (execCqDestroy who slot tag cq s) := by
  refine .of_same (latCmd_same s _ _ _ _ ?_)
  repeat' split
  all_goals simp

@[simp] theorem evictFrom_same (s : State) (ids : List Nat) : SameMem s (evictFrom s ids) := by
  induction ids generalizing s with
  | nil => exact .refl s
  | cons id r ih =>
    rw [evictFrom]
    split
    · exact ih s
    · dsimp only
      split
      · simp
      · exact .trans (by simp) (ih _)

theorem execContextEvict_keeps (s : State) : Keeps s (execContextEvict s) := by simp [execContextEvict]

theorem execConnCreate_keeps (who : Issuer) (slot : Fin 128) (tag : Nat) (p : ConnParams) (s : State) :
    Keeps s (execConnCreate who slot tag p s) := by
  refine .of_same (latCmd_same s _ _ _ _ ?_)
  iterate 4
    split
    · simp
  extract_lets s1
  have h1 : SameMem s s1 := by simp [s1]
  clear_value s1
  split
  · simp [h1]
  split <;> simp [h1]

@[simp] theorem connCmd_same (s : State) (who : Issuer) (id : Nat) (run : State → Conn → Status × (Bytes × State)) (h : ∀ c, SameMem s
    (run s c).2.2) :
    SameMem s (connCmd s who id run).2.2 := by
  unfold connCmd
  split
  · simp
  · split
    · exact h _
    · simp

theorem execConnModifyError_keeps (who : Issuer) (slot : Fin 128) (tag id : Nat) (s : State) :
    Keeps s (execConnModifyError who slot tag id s) := by simp [execConnModifyError]

theorem execConnModifyTxKey_keeps (who : Issuer) (slot : Fin 128) (tag id key salt : Nat) (s : State) :
    Keeps s (execConnModifyTxKey who slot tag id key salt s) := by
  refine .of_same (latCmd_same s _ _ _ _ (connCmd_same s _ _ _ fun c => ?_))
  repeat' split
  all_goals simp

theorem execConnModifyRxKey_keeps (who : Issuer) (slot : Fin 128) (tag id phase key : Nat) (s : State) :
    Keeps s (execConnModifyRxKey who slot tag id phase key s) := by
  refine .of_same (latCmd_same s _ _ _ _ (connCmd_same s _ _ _ fun c => ?_))
  repeat' split
  all_goals simp

theorem execConnDestroy_keeps (who : Issuer) (slot : Fin 128) (tag id : Nat) (s : State) : Keeps s (execConnDestroy who slot tag id s) := by
  refine .of_same (latCmd_same s _ _ _ _ (connCmd_same s _ _ _ fun c => ?_))
  repeat' split
  all_goals simp

theorem execRegionRegister_keeps (who : Issuer) (slot : Fin 128) (tag owner pd base len acc : Nat) (s : State) :
    Keeps s (execRegionRegister who slot tag owner pd base len acc s) := by
  refine .of_same (latCmd_same s _ _ _ _ ?_)
  split
  · simp
  split
  · simp
  dsimp only
  split <;> simp

theorem execRegionRevoke_keeps (who : Issuer) (slot : Fin 128) (tag rkey : Nat) (s : State) :
    Keeps s (execRegionRevoke who slot tag rkey s) := by
  unfold execRegionRevoke
  dsimp only
  split
  · exact .of_same (.ite (by simp) (latCmd_same s _ _ _ _ (by split_ifs <;> simp)))
  · simp

theorem execRevokeForced_keeps (k : Nat) (s : State) : Keeps s (execRevokeForced k s) := by
  simp only [execRevokeForced]
  repeat' split
  all_goals simp

theorem execSqTail_keeps (n : Fin 64) (qslot : Nat) (value : Word) (s : State) : Keeps s (execSqTail n qslot value s) := by
  unfold execSqTail
  split <;> simp

theorem execRqTail_keeps (n : Fin 64) (qslot : Nat) (value : Word) (s : State) : Keeps s (execRqTail n qslot value s) := by
  unfold execRqTail
  split <;> simp

theorem execCqHead_keeps (n : Fin 64) (qslot : Nat) (value : Word) (s : State) : Keeps s (execCqHead n qslot value s) := by
  unfold execCqHead
  split <;> simp

@[simp] theorem startWqe_same (s : State) (id op : Nat) (far : Bytes) : SameMem s (startWqe s id op far) := by
  simp only [startWqe]
  repeat' split
  all_goals simp

theorem execWqeNop_keeps (id : Nat) (far : Bytes) (s : State) : Keeps s (execWqeNop id far s) := by simp [execWqeNop]

theorem execWqeWrite_keeps (id : Nat) (far : Bytes) (s : State) : Keeps s (execWqeWrite id far s) := by simp [execWqeWrite]

theorem execWqeRead_keeps (id : Nat) (far : Bytes) (s : State) : Keeps s (execWqeRead id far s) := by simp [execWqeRead]

theorem execWqeSend_keeps (id : Nat) (far : Bytes) (s : State) : Keeps s (execWqeSend id far s) := by simp [execWqeSend]

theorem execWqeCas_keeps (id : Nat) (far : Bytes) (s : State) : Keeps s (execWqeCas id far s) := by simp [execWqeCas]

theorem execWqeFaa_keeps (id : Nat) (far : Bytes) (s : State) : Keeps s (execWqeFaa id far s) := by simp [execWqeFaa]

theorem execWqeWait_keeps (id : Nat) (far : Bytes) (s : State) : Keeps s (execWqeWait id far s) := by simp [execWqeWait]

theorem agentWrite_same {s t : State} {who : Writer} {n dpa : Nat} {data : Bytes} (h : agentWrite s who n dpa data = some t) :
    SameMem s t := by
  unfold agentWrite at h
  exact foldl_bind_same (fun _ _ _ => acceptWrite_same) (by simp) h

theorem writeCqe_same {s t : State} {cq conn wrId op len idx queue : Nat} {st : Status}
    (h : writeCqe s cq conn wrId op len idx queue st = some t) :
    SameMem s t := by
  unfold writeCqe at h
  split at h
  · cases h
    exact .refl s
  · split at h
    · cases h
    · obtain ⟨u, hu, rfl⟩ := Option.map_eq_some_iff.1 h
      exact (agentWrite_same hu).trans (by simp)

theorem execCqeWrite_keeps (id : Nat) (rq : Bool) (far : Bytes) (s : State) : Keeps s (execCqeWrite id rq far s) := by
  unfold execCqeWrite
  refine .of_same ?_
  split
  · simp
  split
  · split
    · simp
    · exact same_getD fun t h => .trans (by simp) (writeCqe_same h)
  split
  · simp
  split
  · simp
  split
  · simp
  dsimp only
  split
  · simp
  · exact same_getD fun t h => .trans (by simp) (writeCqe_same h)

theorem execRoceAckReceived_keeps (id psn : Nat) (data : Bytes) (s : State) : Keeps s (execRoceAckReceived id psn data s) := by
  unfold execRoceAckReceived
  refine .of_same ?_
  split
  · simp
  split
  · simp
  dsimp only
  split
  · simp
  · exact same_getD fun t h => .trans (by simp) (agentWrite_same h)

theorem execRoceNakReceived_keeps (id : Nat) (kind : NakKind) (s : State) : Keeps s (execRoceNakReceived id kind s) := by
  unfold execRoceNakReceived
  repeat' split
  all_goals simp

theorem execRoceAckTimeout_keeps (id : Nat) (s : State) : Keeps s (execRoceAckTimeout id s) := by
  unfold execRoceAckTimeout
  repeat' split
  all_goals simp

theorem execCnpReceived_keeps (id : Nat) (s : State) : Keeps s (execCnpReceived id s) := by
  unfold execCnpReceived
  split <;> simp

theorem execCnpRateRecovery_keeps (id : Nat) (s : State) : Keeps s (execCnpRateRecovery id s) := by
  unfold execCnpRateRecovery
  split <;> simp

theorem msgData_same {s t : State} {id : Nat} {c : Conn} {p : RxPkt} {m : RxMsg} {owner dpa : Nat}
    (h : msgData s id c p m owner dpa = some t) :
    SameMem s t := by
  unfold msgData at h
  obtain ⟨u, hu, rfl⟩ := Option.map_eq_some_iff.1 h
  exact .trans (.trans (by simp) (agentWrite_same hu)) (by simp)

@[simp] theorem rxWrite_same (s : State) (id : Nat) (c : Conn) (p : RxPkt) : SameMem s (rxWrite s id c p) := by
  unfold rxWrite
  split
  · split
    · simp
    · exact same_getD fun t h => .trans (by simp) (msgData_same h)
  split
  · split
    · exact same_getD fun t h => msgData_same h
    · simp
  · simp

@[simp] theorem rxSend_same (s : State) (id : Nat) (c : Conn) (p : RxPkt) (far : Bytes) : SameMem s (rxSend s id c p far) := by
  unfold rxSend
  split
  · simp
  split
  · split
    · simp
    · extract_lets dpa b loc len wrId _rq c1 bad m s1
      clear_value bad
      split
      · simp
      · exact same_getD fun t h => .trans (by simp [s1]) (msgData_same h)
  split
  · exact same_getD fun t h => msgData_same h
  · simp

@[simp] theorem rxAtomic_same (s : State) (id : Nat) (c : Conn) (p : RxPkt) : SameMem s (rxAtomic s id c p) := by
  unfold rxAtomic
  split
  · simp
  split
  · simp
  dsimp only
  split
  · simp
  split
  · simp
  · exact same_getD fun t h => .trans (by simp) (agentWrite_same h)

@[simp] theorem rxServe_same (s : State) (id : Nat) (p : RxPkt) (far : Bytes) : SameMem s (rxServe s id p far) := by
  unfold rxServe
  repeat' split
  all_goals simp

@[simp] theorem rxPark_cells (s : State) (id : Nat) (c : Conn) (p : RxPkt) :
    cellsOf (rxPark s id c p).fls.banks = cellsOf s.fls.banks := by simp [rxPark]

@[simp] theorem rxPacket_same (s : State) (p : RxPkt) (kind : RxKind) (far : Bytes) : SameMem s (rxPacket s p kind far) := by
  simp only [rxPacket]
  repeat' split
  all_goals simp

theorem execRdmaWriteRequest_keeps (p : RxPkt) (s : State) : Keeps s (execRdmaWriteRequest p s) := by simp [execRdmaWriteRequest]

theorem execRdmaReadRequest_keeps (p : RxPkt) (s : State) : Keeps s (execRdmaReadRequest p s) := by simp [execRdmaReadRequest]

theorem execSendRequest_keeps (p : RxPkt) (far : Bytes) (s : State) : Keeps s (execSendRequest p far s) := by simp [execSendRequest]

theorem execCompareAndSwap_keeps (p : RxPkt) (s : State) : Keeps s (execCompareAndSwap p s) := by simp [execCompareAndSwap]

theorem execFetchAndAdd_keeps (p : RxPkt) (s : State) : Keeps s (execFetchAndAdd p s) := by simp [execFetchAndAdd]

theorem execContextFetchDone_keeps (id took : Nat) (s : State) : Keeps s (execContextFetchDone id took s) := by
  unfold execContextFetchDone
  split <;> simp

theorem execEthLinkChange_keeps (port : Fin 4) (up : Bool) (s : State) :
    Keeps s (execEthLinkChange port up s) := by simp [execEthLinkChange]

/-! ### Machine/Cipher -/

theorem execCipherJobSubmit_keeps (cls : Fin 4) (tag owner slot iv du aad : Nat) (data : Bytes) (tagOk : Bool) (s : State) :
    Keeps s (execCipherJobSubmit cls tag owner slot iv du aad data tagOk s) := by
  simp only [execCipherJobSubmit]
  repeat' split
  all_goals simp

theorem execCipherJobDone_keeps (core : Fin 16) (s : State) : Keeps s (execCipherJobDone core s) := by
  unfold execCipherJobDone
  split <;> simp

theorem execCoreIsolated_keeps (core : Fin 16) (s : State) : Keeps s (execCoreIsolated core s) := by simp [execCoreIsolated]

theorem execKeySlotBroken_keeps (slot : Fin 8192) (s : State) : Keeps s (execKeySlotBroken slot s) := by
  simp only [execKeySlotBroken]
  repeat' split
  all_goals simp

theorem execKeyLoad_keeps (who : Issuer) (cslot : Fin 128) (tag slot tenant : Nat) (persist : Bool) (format usage : Nat) (blob : Bytes)
    (s : State) :
    Keeps s (execKeyLoad who cslot tag slot tenant persist format usage blob s) := by
  unfold execKeyLoad
  repeat' split
  all_goals simp

theorem execKeyFree_keeps (who : Issuer) (cslot : Fin 128) (tag slot : Nat) (s : State) :
    Keeps s (execKeyFree who cslot tag slot s) := by simp [execKeyFree]

/-! ### Machine/Persistence -/

theorem execSkiveClose_keeps (line : Nat) (s : State) : Keeps s (execSkiveClose line s) := by
  unfold execSkiveClose
  split
  · exact .of_same (.ite (.refl s) (same_getD fun _ => skiveClose_same))
  · simp

theorem execWeltRelease_keeps (line : Nat) (err : SramErr) (s : State) : Keeps s (execWeltRelease line err s) := by
  simp only [execWeltRelease]
  repeat' split
  all_goals simp

theorem execBarrierEnd_keeps (id : Nat) (s : State) : Keeps s (execBarrierEnd id s) := by
  unfold execBarrierEnd
  split <;> simp

theorem execBarrierTimeout_keeps (id : Nat) (s : State) : Keeps s (execBarrierTimeout id s) := by
  unfold execBarrierTimeout
  split <;> simp

theorem execCommitBarrierCutoff_keeps (s : State) : Keeps s (execCommitBarrierCutoff s) := by simp [execCommitBarrierCutoff]

theorem execGpfPhase1_keeps (port : Fin 16) (s : State) : Keeps s (execGpfPhase1 port s) := by simp [execGpfPhase1]

theorem execGpfPhase2_keeps (port : Fin 16) (s : State) : Keeps s (execGpfPhase2 port s) := by simp [execGpfPhase2]

/-! ### Machine/Compat -/

theorem execLxRegisterWrite_keeps (e : Fin 2) (off : Nat) (value : Word) (s : State) :
    Keeps s (execLxRegisterWrite e off value s) := by simp [execLxRegisterWrite]

theorem execLxBankWrite_keeps (e : Fin 2) (value : Word) (s : State) : Keeps s (execLxBankWrite e value s) := by simp [execLxBankWrite]

theorem execLxRingTailWrite_keeps (e : Fin 2) (r : Fin 8) (value : Word) (s : State) :
    Keeps s (execLxRingTailWrite e r value s) := by simp [execLxRingTailWrite]

theorem execLxRingReset_keeps (e : Fin 2) (s : State) : Keeps s (execLxRingReset e s) := by simp [execLxRingReset]

theorem execFunctionLevelReset_keeps (e : Fin 2) (s : State) : Keeps s (execFunctionLevelReset e s) := by simp [execFunctionLevelReset]

@[simp] theorem zeroLines_same (e r idx : Nat) (s : State) (dpa stop n : Nat) : SameMem s (zeroLines e r idx s dpa stop n).2 := by
  induction n generalizing s dpa with
  | zero => exact .refl s
  | succ n ih =>
    rw [zeroLines]
    split
    · exact .refl s
    split
    · rename_i t h
      exact (acceptWrite_same h).trans (ih t _)
    · exact .refl s

@[simp] theorem zeroGo_same (s : State) (e r : Nat) (c : LxCmd) : SameMem s (zeroGo s e r c) := by
  unfold zeroGo
  split <;> simp

@[simp] theorem ringGo_same (e : Nat) (s : State) (r : Nat) : SameMem s (ringGo e s r) := by simp [ringGo]

@[simp] theorem lxTick_same (s : State) (e : Nat) : SameMem s (lxTick s e) := by simp [lxTick]

theorem execCompatTick_keeps (s : State) : Keeps s (execCompatTick s) := by simp [execCompatTick]

@[simp] theorem lxFetch_same (s : State) (e r op flags : Nat) (run : State → LxCmd → State) (h : ∀ t c, SameMem t (run t c)) :
    SameMem s (lxFetch s e r op flags run) := by
  have hr : ∀ t c, SameMem t (run t c) := fun t c => (h t c)
  simp [lxFetch, hr]

theorem execNop_keeps (e : Fin 2) (r : Fin 8) (flags : Nat) (s : State) : Keeps s (execNop e r flags s) := by simp [execNop]

theorem execFlush_keeps (e : Fin 2) (r : Fin 8) (flags : Nat) (s : State) : Keeps s (execFlush e r flags s) := by simp [execFlush]

theorem execFlushMedia_keeps (e : Fin 2) (r : Fin 8) (flags : Nat) (s : State) :
    Keeps s (execFlushMedia e r flags s) := by simp [execFlushMedia]

@[simp] theorem lxZero_same (e r dpa len : Nat) (s : State) (c : LxCmd) : SameMem s (lxZero e r dpa len s c) := by simp [lxZero]

theorem execZero_keeps (e : Fin 2) (r : Fin 8) (flags dpa len : Nat) (s : State) :
    Keeps s (execZero e r flags dpa len s) := by simp [execZero]

theorem execIdentify_keeps (e : Fin 2) (r : Fin 8) (flags hostAddr : Nat) (s : State) :
    Keeps s (execIdentify e r flags hostAddr s) := by simp [execIdentify]

theorem execFwDownload_keeps (e : Fin 2) (r : Fin 8) (flags : Nat) (s : State) :
    Keeps s (execFwDownload e r flags s) := by simp [execFwDownload]

theorem execFwCommit_keeps (e : Fin 2) (r : Fin 8) (flags : Nat) (s : State) : Keeps s (execFwCommit e r flags s) := by simp [execFwCommit]

theorem execLxUnknownOpcode_keeps (e : Fin 2) (r : Fin 8) (op : Byte) (flags : Nat) (s : State) :
    Keeps s (execLxUnknownOpcode e r op flags s) := by simp [execLxUnknownOpcode]

theorem execLxCommandStatus_keeps (e : Fin 2) (r : Fin 8) (s : State) : Keeps s (execLxCommandStatus e r s) := by simp [execLxCommandStatus]

@[simp] theorem lxAbort_same (s : State) (e : Nat) : SameMem s (lxAbort s e).2 :=
  foldl_snd_same (.refl s) fun t x => foldl_snd_same (.refl t.2) fun u c => by
    split
    · exact .refl u.2
    · simp

/-! ### Machine/RecorderOps -/

@[simp] theorem sectorErase_flash (s : State) (b k : Nat) (hf : FlashWf (cellsOf s.fls.banks)) :
    FlashWf (cellsOf (sectorErase s b k).fls.banks) := by simp [sectorErase, hf]

@[simp] theorem lastErase_flash (s : State) (k : Nat) (hf : FlashWf (cellsOf s.fls.banks)) :
    FlashWf (cellsOf (lastErase s k).fls.banks) := by simp [lastErase, hf]

@[simp] theorem firstErase_flash (s : State) (k : Nat) (hf : FlashWf (cellsOf s.fls.banks)) :
    FlashWf (cellsOf (firstErase s k).fls.banks) := by simp [firstErase, hf]

theorem lastAdvance_mem {s t : State} (h : lastAdvance s = some t) : t.dram.mem = s.dram.mem := by
  unfold lastAdvance at h
  dsimp only at h
  split at h <;> cases h
  split <;> simp

theorem lastAdvance_flash {s t : State} (h : lastAdvance s = some t) (hf : FlashWf (cellsOf s.fls.banks)) :
    FlashWf (cellsOf t.fls.banks) := by
  unfold lastAdvance at h
  dsimp only at h
  split at h <;> cases h
  split <;> simp [hf]

theorem lastPut_mem {s t : State} {r : Rec} (h : lastPut s r = some t) : t.dram.mem = s.dram.mem := by
  unfold lastPut at h
  obtain ⟨u, hu, rfl⟩ := Option.map_eq_some_iff.1 h
  split at hu
  · cases hu
    simp
  · simp [lastAdvance_mem hu]

theorem lastPut_flash {s t : State} {r : Rec} (h : lastPut s r = some t) (hf : FlashWf (cellsOf s.fls.banks)) :
    FlashWf (cellsOf t.fls.banks) := by
  unfold lastPut at h
  obtain ⟨u, hu, rfl⟩ := Option.map_eq_some_iff.1 h
  split at hu
  · cases hu
    simp [hf]
  · simp [lastAdvance_flash hu hf]

@[simp] theorem programOne_mem (s : State) : (programOne s).dram.mem = s.dram.mem := by
  unfold programOne
  split
  · rfl
  split
  · rfl
  split <;> rename_i h
  · rfl
  · simp [lastPut_mem h]

@[simp] theorem programOne_flash (s : State) (hf : FlashWf (cellsOf s.fls.banks)) : FlashWf (cellsOf (programOne s).fls.banks) := by
  unfold programOne
  split
  · exact hf
  split
  · exact hf
  split <;> rename_i h
  · exact hf
  · simp [lastPut_flash h hf]

@[simp] theorem programAll_mem (s : State) : (programAll s).dram.mem = s.dram.mem := by simp [programAll]

@[simp] theorem programAll_flash (s : State) (hf : FlashWf (cellsOf s.fls.banks)) : FlashWf (cellsOf (programAll s).fls.banks) := by
  unfold programAll
  exact foldl_flash _ _ s hf fun t _ ht => programOne_flash t ht

@[simp] theorem clearBegin_mem (s : State) (route client : Nat) : (clearBegin s route client).dram.mem = s.dram.mem := by simp [clearBegin]

@[simp] theorem clearBegin_flash (s : State) (route client : Nat) (hf : FlashWf (cellsOf s.fls.banks)) :
    FlashWf (cellsOf (clearBegin s route client).fls.banks) := by simp -implicitDefEqProofs [clearBegin, hf]

@[simp] theorem clearRecord_mem (s : State) (c : Clearing) : (clearRecord s c).dram.mem = s.dram.mem := by simp [clearRecord]

@[simp] theorem clearRecord_flash (s : State) (c : Clearing) (hf : FlashWf (cellsOf s.fls.banks)) :
    FlashWf (cellsOf (clearRecord s c).fls.banks) := by simp [clearRecord, hf]

@[simp] theorem clearStep_mem (s : State) : (clearStep s).dram.mem = s.dram.mem := by
  unfold clearStep
  repeat' split
  all_goals simp

@[simp] theorem clearStep_flash (s : State) (hf : FlashWf (cellsOf s.fls.banks)) : FlashWf (cellsOf (clearStep s).fls.banks) := by
  simp only [clearStep]
  repeat' split
  all_goals simp [hf]

/-! ### Machine/FlashCmds -/

theorem flsShut_same {s t : State} {m off : Nat} (h : flsShut s m off = some t) : SameMem s t := by
  unfold flsShut at h
  split at h
  · rename_i hm
    cases h
    exact masterRefused_same hm
  · split at h <;> cases h
    simp

theorem execFlsBankClaim_keeps (m : Fin 11) (b : Fin 4) (s : State) : Keeps s (execFlsBankClaim m b s) := by
  unfold execFlsBankClaim
  dsimp only
  split
  · rename_i h
    simp [masterRefused_same h]
  · simp

theorem execFlsBankRelease_keeps (m : Fin 11) (b : Fin 4) (s : State) : Keeps s (execFlsBankRelease m b s) := by
  unfold execFlsBankRelease
  split
  · rename_i h
    simp [flsShut_same h]
  · simp

theorem flsIssue_keeps {s : State} {m b op : Nat} {run : State → State} (hr : ∀ t, MemInv t → MemInv (run t)) :
    Keeps s (.next (flsIssue s m b op run)) := by
  unfold flsIssue
  split <;> rename_i h
  · simp [flsShut_same h]
  · rw [keeps_next]
    intro hs
    dsimp only
    repeat' split
    case isFalse.isFalse => exact hr _ (by simpa using hs)
    all_goals simpa using hs

@[simp] theorem flsBusyRead_flash (s : State) (b reason sector : Nat) (hf : FlashWf (cellsOf s.fls.banks)) :
    FlashWf (cellsOf (flsBusyRead s b reason sector).fls.banks) := by simp [flsBusyRead, hf]

theorem execFlashRead_keeps (m : Fin 11) (b : Fin 4) (corrected : Bool) (s : State) : Keeps s (execFlashRead m b corrected s) := by
  refine flsIssue_keeps fun t ht => ?_
  simp only [memInv_iff] at ht
  dsimp only
  repeat' split
  all_goals simp [ht]

theorem execReadWear_keeps (m : Fin 11) (b : Fin 4) (s : State) : Keeps s (execReadWear m b s) := by
  refine flsIssue_keeps fun t ht => ?_
  simp only [memInv_iff] at ht
  dsimp only
  repeat' split
  all_goals simp [ht]

@[simp] theorem flsStart_flash (s : State) (b : Nat) (o : FlsOp) (hf : FlashWf (cellsOf s.fls.banks)) :
    FlashWf (cellsOf (flsStart s b o).fls.banks) := by
  simp only [flsStart]
  repeat' split
  all_goals simp [hf]

theorem execFlashProgram_keeps (m : Fin 11) (b : Fin 4) (s : State) : Keeps s (execFlashProgram m b s) := by
  refine flsIssue_keeps fun t ht => ?_
  simp only [memInv_iff] at ht
  dsimp only
  repeat' split
  all_goals simp [ht]

theorem execFlashErase_keeps (m : Fin 11) (b : Fin 4) (s : State) : Keeps s (execFlashErase m b s) := by
  refine flsIssue_keeps fun t ht => ?_
  simp only [memInv_iff] at ht
  dsimp only
  repeat' split
  all_goals simp [ht]

theorem execFlashSuspend_keeps (m : Fin 11) (b : Fin 4) (s : State) : Keeps s (execFlashSuspend m b s) := by
  refine flsIssue_keeps fun t ht => ?_
  simp only [memInv_iff] at ht
  dsimp only
  repeat' split
  all_goals simp [ht]

theorem execFlashSuspendEffect_keeps (b : Fin 4) (s : State) : Keeps s (execFlashSuspendEffect b s) := by
  simp only [execFlashSuspendEffect, keeps_next]
  intro h
  simp only [memInv_iff] at h
  split <;> simp [h]

theorem execFlashRunWindowEnd_keeps (b : Fin 4) (s : State) :
    Keeps s (execFlashRunWindowEnd b s) := by simp +contextual [execFlashRunWindowEnd]

theorem execFlashResume_keeps (m : Fin 11) (b : Fin 4) (s : State) : Keeps s (execFlashResume m b s) := by
  refine flsIssue_keeps fun t ht => ?_
  simp only [memInv_iff] at ht
  dsimp only
  repeat' split
  all_goals simp [ht]

theorem execFlashAbort_keeps (m : Fin 11) (b : Fin 4) (s : State) : Keeps s (execFlashAbort m b s) := by
  unfold execFlashAbort
  dsimp only
  split <;> rename_i h
  · simp [flsShut_same h]
  · rw [keeps_next]
    repeat' split
    all_goals simp +contextual

@[simp] theorem flsNext_flash (s : State) (b : Nat) (hf : FlashWf (cellsOf s.fls.banks)) : FlashWf (cellsOf (flsNext s b).fls.banks) := by
  unfold flsNext
  dsimp only
  split
  · exact hf
  split
  · simp [hf]
  · split
    · simp [hf]
    · exact flsStart_flash _ _ _ (by simp [hf])

@[simp] theorem suspendLost_flash (s : State) (b : Nat) (hf : FlashWf (cellsOf s.fls.banks)) :
    FlashWf (cellsOf (suspendLost s b).fls.banks) := by
  simp only [suspendLost]
  split <;> simp [hf]

theorem execFlashProgramDone_keeps (b : Fin 4) (ok : Bool) (s : State) : Keeps s (execFlashProgramDone b ok s) := by
  unfold execFlashProgramDone
  extract_lets v o v1
  clear_value o
  rw [keeps_next]
  split
  · exact id
  · extract_lets old done s1 s2
    intro hs
    obtain ⟨hm, hf⟩ := (memInv_iff s).1 hs
    have hd : SameMem s done.2 := by
      dsimp only [done]
      split <;> simp
    have hv : CellsWf v1.cells := by
      dsimp only [v1]
      split <;> simp [v, hf]
    clear_value done v1
    have h1 : FlashWf (cellsOf s1.fls.banks) := flsSet_flash _ _ _ (by simpa [hd] using hf) (cellsWf_write _ _ hv)
    have h2 : SameMem s1 s2 := by
      dsimp only [s2]
      split <;> simp
    have h3 : s1.dram.mem = s.dram.mem := by simp [s1, hd]
    clear_value s1 s2
    simp [h1, h2, h3, hm]

theorem execFlashEraseDone_keeps (b : Fin 4) (ok : Bool) (s : State) : Keeps s (execFlashEraseDone b ok s) := by
  unfold execFlashEraseDone
  extract_lets v s1
  rw [keeps_next]
  split
  · exact id
  · extract_lets k was sE bE s3 s4 bF sF s2
    intro hs
    obtain ⟨hm, hf⟩ := (memInv_iff s).1 hs
    have h1 : FlashWf (cellsOf s1.fls.banks) := by simp [s1, v, hf]
    have hm1 : s1.dram.mem = s.dram.mem := by simp [s1]
    clear_value s1 v
    have hE : FlashWf (cellsOf sE.fls.banks) ∧ sE.dram.mem = s.dram.mem := by simp [sE, h1, hm1]
    have hb : CellsWf bE.cells := flsBank_wf sE b hE.1
    have hF : FlashWf (cellsOf sF.fls.banks) ∧ sF.dram.mem = s.dram.mem := by
      have hW := flsWear_flash s1 b k h1
      simp [sF, bF, hW, hm1]
    have h4 : FlashWf (cellsOf s4.fls.banks) ∧ s4.dram.mem = s.dram.mem := by
      dsimp only [s4, s3]
      split <;> simp [hE, hb]
    clear_value s4 sF
    have h2 : s2.dram.mem = s.dram.mem ∧ FlashWf (cellsOf s2.fls.banks) := by
      dsimp only [s2]
      split <;> simp [h4, hF]
    clear_value s2
    simp [h2, hm]

theorem execFlsClaimExpired_keeps (b : Fin 4) (s : State) : Keeps s (execFlsClaimExpired b s) := by
  simp only [execFlsClaimExpired]
  repeat' split
  all_goals simp +contextual

@[simp] theorem flsScan_flash (s : State) (hf : FlashWf (cellsOf s.fls.banks)) : FlashWf (cellsOf (flsScan s).fls.banks) := by
  unfold flsScan
  exact foldl_flash _ _ _ hf fun t e ht => by simp [ht]

/-! ### Machine/FirmwareOps -/

@[simp] theorem imgVerify_cells (s : State) (k : Nat) : cellsOf (imgVerify s k).2.fls.banks = cellsOf s.fls.banks := by
  unfold imgVerify
  split <;> simp

@[simp] theorem trialFailed_cells (s : State) (k : Nat) (count : Bool) :
    cellsOf (trialFailed s k count).fls.banks = cellsOf s.fls.banks := by
  unfold trialFailed
  repeat' split
  all_goals simp

@[simp] theorem bootConfirmed_cells (s : State) : cellsOf (bootConfirmed s).2.fls.banks = cellsOf s.fls.banks := by
  simp only [bootConfirmed]
  repeat' split
  all_goals simp

@[simp] theorem bootChoose_cells (s : State) : cellsOf (bootChoose s).2.fls.banks = cellsOf s.fls.banks := by
  simp only [bootChoose]
  repeat' split
  all_goals simp

@[simp] theorem fwData_flash (s : State) (data : Bytes) (hf : FlashWf (cellsOf s.fls.banks)) :
    FlashWf (cellsOf (fwData s data).2.fls.banks) := by
  simp only [fwData]
  split
  · exact hf
  split
  · exact hf
  split
  · exact hf
  · have h1 := sectorErase_flash s (fwTarget s) (odNum s 0xA00201 4 0 / 65536) hf
    simp only [fwSlotSet_banks]
    exact flsSet_flash _ _ _ h1 (cellsWf_write _ _ (flsBank_wf _ _ h1))

@[simp] theorem fwActivate_cells (s : State) (v : Nat) : cellsOf (fwActivate s v).2.fls.banks = cellsOf s.fls.banks := by
  simp only [fwActivate]
  repeat' split
  all_goals simp

/-! ### Machine/Firmware -/

theorem execFwConfirmed_keeps (s : State) : Keeps s (execFwConfirmed s) := by
  unfold execFwConfirmed
  split <;> simp

/-! ### Machine/Ring -/

@[simp] theorem protocolError_cells (s : State) (a st msg line : Nat) :
    cellsOf (protocolError s a st msg line).fls.banks = cellsOf s.fls.banks := by simp [protocolError]

theorem execSnpS_keeps (a : Fin 5) (line : Nat) (s : State) : Keeps s (execSnpS a line s) := by simp [execSnpS]

theorem execSnpInv_keeps (a : Fin 5) (line : Nat) (s : State) : Keeps s (execSnpInv a line s) := by simp [execSnpInv]

theorem execDataS_keeps (a : Fin 5) (line : Nat) (data : Bytes) (s : State) : Keeps s (execDataS a line data s) := by
  unfold execDataS
  split <;> simp

theorem execDataE_keeps (a : Fin 5) (line : Nat) (data : Bytes) (s : State) : Keeps s (execDataE a line data s) := by
  unfold execDataE
  repeat' split
  all_goals simp

theorem execWbAck_keeps (a : Fin 5) (line : Nat) (s : State) : Keeps s (execWbAck a line s) := by
  unfold execWbAck
  split <;> simp

theorem execNack_keeps (a : Fin 5) (line : Nat) (refused : Bool) (s : State) : Keeps s (execNack a line refused s) := by
  unfold execNack
  repeat' split
  all_goals simp

theorem execNackRetryTimer_keeps (a : Fin 5) (line : Nat) (s : State) : Keeps s (execNackRetryTimer a line s) := by
  unfold execNackRetryTimer
  split <;> simp

@[simp] theorem roundEnd_same (s : State) (t : HomeTxn) : SameMem s (roundEnd s t) := by
  simp only [roundEnd]
  repeat' split
  all_goals simp

@[simp] theorem roundCheck_same (s : State) (t : HomeTxn) : SameMem s (roundCheck s t) := by simp [roundCheck]

@[simp] theorem takeReq_same (s : State) (r : HomeReq) : SameMem s (takeReq s r) := by
  unfold takeReq
  repeat' split
  all_goals simp

@[simp] theorem takeNext_same (s : State) (dl : Nat) : SameMem s (takeNext s dl) := by
  unfold takeNext
  repeat' split
  all_goals simp

@[simp] theorem homeRequest_same (s : State) (r : HomeReq) : SameMem s (homeRequest s r) := by simp [homeRequest]

theorem execRdS_keeps (a : Fin 5) (line : Nat) (prio : Bool) (s : State) : Keeps s (execRdS a line prio s) := by simp [execRdS]

theorem execRdX_keeps (a : Fin 5) (line : Nat) (prio : Bool) (s : State) : Keeps s (execRdX a line prio s) := by simp [execRdX]

theorem execWb_keeps (a : Fin 5) (line : Nat) (data : Bytes) (s : State) : Keeps s (execWb a line data s) := by
  simp only [execWb]
  repeat' split
  all_goals simp

@[simp] theorem homeAnswer_same (s : State) (a line msg : Nat) (g : State → State) (f : HomeTxn → HomeTxn) (h : SameMem s (g s)) :
    SameMem s (homeAnswer s a line msg g f) := by
  have hg : SameMem s (g s) := h
  unfold homeAnswer
  split
  · split <;> simp [hg]
  · simp

theorem execAckI_keeps (a : Fin 5) (line : Nat) (s : State) : Keeps s (execAckI a line s) := by simp [execAckI]

theorem execAckS_keeps (a : Fin 5) (line : Nat) (s : State) : Keeps s (execAckS a line s) := by simp [execAckS]

theorem execAckData_keeps (a : Fin 5) (line : Nat) (data : Bytes) (s : State) : Keeps s (execAckData a line data s) := by simp [execAckData]

theorem execWbPending_keeps (a : Fin 5) (line : Nat) (s : State) : Keeps s (execWbPending a line s) := by simp [execWbPending]

theorem execDone_keeps (a : Fin 5) (line : Nat) (s : State) : Keeps s (execDone a line s) := by
  unfold execDone
  split <;> simp

theorem execSnoopGuardExpired_keeps (a : Fin 5) (line : Nat) (s : State) : Keeps s (execSnoopGuardExpired a line s) := by
  unfold execSnoopGuardExpired
  split <;> simp

@[simp] theorem biAnswered_same (s : State) (key : Nat) (t : HomeTxn) : SameMem s (biAnswered s key t) := by
  simp only [biAnswered]
  repeat' split
  all_goals simp

theorem execBirspi_keeps (n : Fin 64) (key : Nat) (s : State) : Keeps s (execBirspi n key s) := by
  unfold execBirspi
  split <;> simp

theorem execBiconflict_keeps (n : Fin 64) (key : Nat) (s : State) : Keeps s (execBiconflict n key s) := by
  unfold execBiconflict
  split <;> simp

theorem execBisnpGuardExpired_keeps (n : Fin 64) (key : Nat) (s : State) : Keeps s (execBisnpGuardExpired n key s) := by
  unfold execBisnpGuardExpired
  split <;> simp

theorem execAgentLoad_keeps (c : Fin 8) (line : Nat) (s : State) : Keeps s (execAgentLoad c line s) := by
  simp only [execAgentLoad]
  repeat' split
  all_goals simp

theorem execAgentStore_keeps (c : Fin 8) (addr : Nat) (bytes : Bytes) (s : State) :
    Keeps s (execAgentStore c addr bytes s) := by simp [execAgentStore]

theorem execAgentEviction_keeps (a : Fin 5) (line : Nat) (s : State) : Keeps s (execAgentEviction a line s) := by
  unfold execAgentEviction
  repeat' split
  all_goals simp

/-! ### Machine/KeeperCores -/

@[simp] theorem combineOut_same (s : State) (c : Nat) (l : Nat × PLine) : SameMem s (combineOut s c l).2 := by
  unfold combineOut
  split <;> rename_i h
  · simp [acceptWrite_same h]
  · simp

@[simp] theorem combineDrain_same (s : State) (c n : Nat) : SameMem s (combineDrain s c n) := by
  induction n generalizing s with
  | zero => exact .refl s
  | succ n ih =>
    rw [combineDrain]
    split
    · exact .refl s
    split <;> rename_i h
    · exact .trans (by simp [eq_snd h]) (ih _)
    · simp [eq_snd h]

theorem execNonTemporalStore_keeps (c : Fin 8) (line off : Nat) (bytes : Bytes) (s : State) :
    Keeps s (execNonTemporalStore c line off bytes s) := by
  unfold execNonTemporalStore
  dsimp only
  split
  · simp
  split
  · simp
  split
  · split <;> rename_i h <;> simp [eq_snd h]
  · simp

theorem execUncachedAccess_keeps (c : Fin 8) (addr : Nat) (write done : Bool) (s : State) :
    Keeps s (execUncachedAccess c addr write done s) := by simp [execUncachedAccess]

@[simp] theorem fenceRun_same (c : Nat) (f : KFence) (s : State) : SameMem s (fenceRun c f s) := by simp [fenceRun]

theorem execFenceFCore_keeps (c : Fin 8) (s : State) : Keeps s (execFenceFCore c s) := by simp [execFenceFCore]

theorem execFenceFClu_keeps (c : Fin 8) (s : State) : Keeps s (execFenceFClu c s) := by simp [execFenceFClu]

theorem execFenceFSys_keeps (c : Fin 8) (s : State) : Keeps s (execFenceFSys c s) := by simp [execFenceFSys]

theorem execFenceSCore_keeps (c : Fin 8) (s : State) : Keeps s (execFenceSCore c s) := by simp [execFenceSCore]

theorem execFenceSClu_keeps (c : Fin 8) (s : State) : Keeps s (execFenceSClu c s) := by simp [execFenceSClu]

theorem execFenceSSys_keeps (c : Fin 8) (s : State) : Keeps s (execFenceSSys c s) := by simp [execFenceSSys]

/-! ### Machine/Recorder -/

theorem execRecordSubmit_keeps (code : Fin 65536) (sev : Fin 6) (inst : Byte) (items : Bytes) (s : State) :
    Keeps s (execRecordSubmit code sev inst items s) := by simp [execRecordSubmit]

theorem execRecordProgrammed_keeps (s : State) : Keeps s (execRecordProgrammed s) := by simp +contextual [execRecordProgrammed]

theorem execRecorderClearStepEnd_keeps (s : State) : Keeps s (execRecorderClearStepEnd s) := by simp +contextual [execRecorderClearStepEnd]

/-! ### Machine/Faults -/

@[simp] theorem fnAbort_mem (s : State) (f : Fn) : (fnAbort s f).2.dram.mem = s.dram.mem := by
  simp only [fnAbort]
  repeat' split
  all_goals simp

@[simp] theorem fnAbort_flash (s : State) (f : Fn) (hf : FlashWf (cellsOf s.fls.banks)) : FlashWf (cellsOf (fnAbort s f).2.fls.banks) := by
  simp only [fnAbort]
  repeat' split
  all_goals simp [hf]

@[simp] theorem unitReset_mem (s0 : State) (f : Fn) : (unitReset s0 f).dram.mem = s0.dram.mem := by
  unfold unitReset
  split <;> simp

@[simp] theorem unitReset_flash (s0 : State) (f : Fn) (hf : FlashWf (cellsOf s0.fls.banks)) :
    FlashWf (cellsOf (unitReset s0 f).fls.banks) := by
  unfold unitReset
  split <;> simp [hf]

@[simp] theorem fnDisable_mem (s : State) (f : Fn) : (fnDisable s f).dram.mem = s.dram.mem := by
  unfold fnDisable
  split <;> simp

@[simp] theorem fnDisable_flash (s : State) (f : Fn) (hf : FlashWf (cellsOf s.fls.banks)) :
    FlashWf (cellsOf (fnDisable s f).fls.banks) := by
  simp only [fnDisable]
  repeat' split
  all_goals simp [hf]

theorem execFunctionQuiesced_keeps (f : Fn) (s : State) : Keeps s (execFunctionQuiesced f s) := by
  simp only [execFunctionQuiesced]
  repeat' split
  all_goals simp +contextual

theorem execDisableAbortTimeExpired_keeps (f : Fn) (s : State) : Keeps s (execDisableAbortTimeExpired f s) := by
  simp only [execDisableAbortTimeExpired]
  repeat' split
  all_goals simp +contextual

theorem execUnitResetLat_keeps (s : State) : Keeps s (execUnitResetLat s) := by simp [execUnitResetLat]

theorem execUnitResetBkl_keeps (s : State) : Keeps s (execUnitResetBkl s) := by simp [execUnitResetBkl]

theorem execUnitResetTir_keeps (s : State) : Keeps s (execUnitResetTir s) := by simp [execUnitResetTir]

theorem execUnitResetStm_keeps (s : State) : Keeps s (execUnitResetStm s) := by simp [execUnitResetStm]

theorem execUnitResetFls_keeps (s : State) : Keeps s (execUnitResetFls s) := by simp [execUnitResetFls]

theorem execUnitResetKcb_keeps (s : State) : Keeps s (execUnitResetKcb s) := by simp [execUnitResetKcb]

@[simp] theorem guardFault_cells (s : State) (u : FUnit) (inst : Nat) :
    cellsOf (guardFault s u inst).fls.banks = cellsOf s.fls.banks := by simp [guardFault]

theorem execHostGuardExpired_keeps (q : HostReq) (s : State) : Keeps s (execHostGuardExpired q s) := by
  simp only [execHostGuardExpired]
  repeat' split
  all_goals simp

theorem execEngineWatchdogExpired_keeps (e : Engine) (s : State) :
    Keeps s (execEngineWatchdogExpired e s) := by simp [execEngineWatchdogExpired]

theorem execKeeperHeartbeatMissed_keeps (k : Fin 8) (s : State) :
    Keeps s (execKeeperHeartbeatMissed k s) := by simp [execKeeperHeartbeatMissed]

theorem execKeeperReloadDone_keeps (k : Fin 8) (s : State) : Keeps s (execKeeperReloadDone k s) := by
  simp only [execKeeperReloadDone]
  repeat' split
  all_goals simp

theorem execPommelWatchdog_keeps (s : State) : Keeps s (execPommelWatchdog s) := by simp [execPommelWatchdog]

theorem execFaultReported_keeps (u : FUnit) (code : Fin 65536) (inst : Byte) (sev : Fin 6) (repeatOk : Bool) (s : State) :
    Keeps s (execFaultReported u code inst sev repeatOk s) := by simp [execFaultReported]

@[simp] theorem groupEnable_mem (s : State) (g : FGroup) : (groupEnable s g).dram.mem = s.dram.mem := by simp [groupEnable]

@[simp] theorem groupEnable_flash (s : State) (g : FGroup) (hf : FlashWf (cellsOf s.fls.banks)) :
    FlashWf (cellsOf (groupEnable s g).fls.banks) := by
  simp only [groupEnable, endReaction_banks]
  refine foldl_flash _ _ _ hf fun t f ht => ?_
  have h1 := fnDisable_flash _ f (fnAbort_flash t f ht)
  split <;> simp [ht, h1]

theorem execRecoveryWindowClose_keeps (sc : Scope) (s : State) : Keeps s (execRecoveryWindowClose sc s) := by simp [execRecoveryWindowClose]

theorem execWdiToggle_keeps (s : State) : Keeps s (execWdiToggle s) := by simp [execWdiToggle]

theorem execWdiMissed_keeps (s : State) : Keeps s (execWdiMissed s) := by simp [execWdiMissed]

/-! ### Machine/Power -/

@[simp] theorem groupsUp_same (s : State) (gs : List (Nat × (Nat × (Rail → Bool)))) : SameMem s (groupsUp s gs).2 := by
  induction gs generalizing s with
  | nil => exact .refl s
  | cons g r ih =>
    rw [groupsUp]
    split
    · exact .trans (by simp) (ih _)
    · exact .refl s

@[simp] theorem powerStep_same (s : State) : SameMem s (powerStep s) := by
  simp only [powerStep]
  repeat' split
  all_goals simp

@[simp] theorem powerUpStart_same (s : State) : SameMem s (powerUpStart s) := by simp [powerUpStart]

theorem execCommonStart_keeps (s : State) : Keeps s (execCommonStart s) := by
  unfold execCommonStart
  repeat' split
  all_goals simp

@[simp] theorem railRetry_same (s : State) (n : Nat) : SameMem s (railRetry s n) := by simp [railRetry]

@[simp] theorem railGroupOff_same (s : State) (n : Nat) (held : Bool) : SameMem s (railGroupOff s n held) := by simp [railGroupOff]

@[simp] theorem railSysReset_same (s : State) (n : Nat) : SameMem s (railSysReset s n) := by simp [railSysReset]

@[simp] theorem railReaction_same (s : State) (n own r : Nat) (held : Bool) : SameMem s (railReaction s n own r held) := by
  unfold railReaction
  repeat' split
  all_goals simp

@[simp] theorem slotFault_same (s : State) (n : Nat) : SameMem s (slotFault s n) := by simp [slotFault]

theorem execRailOnDelay_keeps (n : Fin 32) (s : State) : Keeps s (execRailOnDelay n s) := by simp [execRailOnDelay]

theorem execRailPgRise_keeps (n : Fin 32) (ramp : Nat) (s : State) : Keeps s (execRailPgRise n ramp s) := by simp [execRailPgRise]

theorem execRailPgTimeout_keeps (n : Fin 32) (s : State) : Keeps s (execRailPgTimeout n s) := by simp [execRailPgTimeout]

theorem execRailPgFault_keeps (n : Fin 32) (s : State) : Keeps s (execRailPgFault n s) := by simp [execRailPgFault]

theorem execRailRetryAttempt_keeps (n : Fin 32) (s : State) : Keeps s (execRailRetryAttempt n s) := by simp [execRailRetryAttempt]

theorem execRailOffDelay_keeps (n : Fin 32) (s : State) : Keeps s (execRailOffDelay n s) := by simp [execRailOffDelay]

theorem execRailPgFall_keeps (n : Fin 32) (s : State) : Keeps s (execRailPgFall n s) := by simp [execRailPgFall]

theorem execRailStuckOn_keeps (n : Fin 32) (s : State) : Keeps s (execRailStuckOn n s) := by simp [execRailStuckOn]

theorem execDomainSwitchTimeout_keeps (d : Fin 92) (s : State) : Keeps s (execDomainSwitchTimeout d s) := by simp [execDomainSwitchTimeout]

@[simp] theorem railGroupBack_mem (s : State) (g : Nat) : (railGroupBack s g).dram.mem = s.dram.mem := by simp [railGroupBack]

@[simp] theorem railGroupBack_flash (s : State) (g : Nat) (hf : FlashWf (cellsOf s.fls.banks)) :
    FlashWf (cellsOf (railGroupBack s g).fls.banks) := by
  simp only [railGroupBack]
  refine foldl_flash _ _ _ (by simpa using hf) fun t f ht => ?_
  have h1 := fnDisable_flash _ f (fnAbort_flash t f ht)
  split <;> simp [ht, h1]

theorem execGroupRetryExpired_keeps (g : FGroup) (s : State) : Keeps s (execGroupRetryExpired g s) := by
  unfold execGroupRetryExpired
  repeat' split
  all_goals simp +contextual

theorem execPsuOkLow_keeps (s : State) : Keeps s (execPsuOkLow s) := by simp [execPsuOkLow]

theorem execPsuOkHigh_keeps (s : State) : Keeps s (execPsuOkHigh s) := by simp [execPsuOkHigh]

theorem execPsuOkGlitch_keeps (s : State) : Keeps s (execPsuOkGlitch s) := by simp [execPsuOkGlitch]

theorem execHoldupLow_keeps (s : State) : Keeps s (execHoldupLow s) := by simp [execHoldupLow]

theorem execHoldupLowNHigh_keeps (s : State) : Keeps s (execHoldupLowNHigh s) := by simp [execHoldupLowNHigh]

theorem execHoldupLowNGlitch_keeps (s : State) : Keeps s (execHoldupLowNGlitch s) := by simp [execHoldupLowNGlitch]

theorem execFaultNExternal_keeps (s : State) : Keeps s (execFaultNExternal s) := by simp [execFaultNExternal]

theorem execFaultNReleased_keeps (s : State) : Keeps s (execFaultNReleased s) := by simp [execFaultNReleased]

theorem execFaultNGlitch_keeps (s : State) : Keeps s (execFaultNGlitch s) := by simp [execFaultNGlitch]

theorem execSysclkLoss_keeps (s : State) : Keeps s (execSysclkLoss s) := by simp [execSysclkLoss]

theorem execSysclkReturn_keeps (s : State) : Keeps s (execSysclkReturn s) := by simp [execSysclkReturn]

theorem execRefclkLoss_keeps (which : Fin 5) (s : State) : Keeps s (execRefclkLoss which s) := by simp [execRefclkLoss]

/-! ### Machine/Resets -/

@[simp] theorem porstReset_dram (s0 : State) (torn : Bool) : DramWf (porstReset s0 torn).dram.mem := rfl

@[simp] theorem porstReset_flash (s0 : State) (torn : Bool) (hf : FlashWf (cellsOf s0.fls.banks)) :
    FlashWf (cellsOf (porstReset s0 torn).fls.banks) := by simp [porstReset, hf]

@[simp] theorem requalReset_dram (s : State) : DramWf (requalReset s).dram.mem := rfl

@[simp] theorem requalReset_flash (s : State) (hf : FlashWf (cellsOf s.fls.banks)) :
    FlashWf (cellsOf (requalReset s).fls.banks) := by simp [requalReset, hf]

@[simp] theorem vddAonLost_dram (s0 : State) (torn : Bool) : DramWf (vddAonLost s0 torn).dram.mem := rfl

@[simp] theorem vddAonLost_flash (s0 : State) (torn : Bool) (hf : FlashWf (cellsOf s0.fls.banks)) :
    FlashWf (cellsOf (vddAonLost s0 torn).fls.banks) := by simp [vddAonLost, hf]

/-! ### Machine/Tiers -/

@[simp] theorem frameClear_dram (s : State) (f : Nat) (hm : DramWf s.dram.mem) : DramWf (frameClear s f).dram.mem := filter_wf 0 _ _ hm

@[simp] theorem frameLine_dram (s : State) (f off : Nat) (data : Bytes) (hm : DramWf s.dram.mem) :
    DramWf (frameLine s f off data).dram.mem := memWriteBytes_wf 0 _ _ _ hm

@[simp] theorem mergeReplay_dram (s : State) (hs : Nat) (hm : DramWf s.dram.mem) : DramWf (mergeReplay s hs).dram.mem := by
  simp only [mergeReplay, twinSet_mem]
  refine foldl_dram _ _ s hm fun t p ht => ?_
  rw [markDirtyAt_mem]
  exact foldl_dram _ _ t ht fun u l hu => memMerge_wf 0 _ _ _ hu

theorem execSegmentLoadDone_keeps (hs : Nat) (lines : List (Nat × Bytes)) (s : State) : Keeps s (execSegmentLoadDone hs lines s) := by
  unfold execSegmentLoadDone
  extract_lets g s1 s2 s3 us s4 _tier s5
  rw [keeps_next]
  intro hs
  obtain ⟨hm, hf⟩ := (memInv_iff s).1 hs
  have hm1 : DramWf s1.dram.mem := by
    dsimp only [s1]
    split
    · exact frameClear_dram s _ hm
    · exact foldl_dram _ _ _ (frameClear_dram s _ hm) fun t l ht => frameLine_dram t _ _ _ ht
  have hf1 : cellsOf s1.fls.banks = cellsOf s.fls.banks := by
    dsimp only [s1]
    split <;> simp
  have h4 : SameMem s1 s4 := by
    dsimp only [s4, s3, s2]
    split <;> simp
  have h5 : SameMem s4 s5 := by
    dsimp only [s5]
    split
    · exact .foldl (by split <;> simp) fun x k => by simp
    · exact .refl s4
  clear_value s1 s4 s5
  split
  · exact hs
  · simp [h5, h4, hm1, hf1, hf]

theorem execSegmentEvict_keeps (s : State) : Keeps s (execSegmentEvict s) := by
  simp only [execSegmentEvict]
  repeat' split
  all_goals simp

theorem execSegmentEvictDone_keeps (hs : Nat) (s : State) : Keeps s (execSegmentEvictDone hs s) := by
  simp only [execSegmentEvictDone]
  repeat' split
  all_goals simp +contextual

@[simp] theorem frameMoved_dram (s : State) (a b : Nat) (hm : DramWf s.dram.mem) : DramWf (frameMoved s a b).dram.mem := by
  unfold frameMoved
  extract_lets cached vals s0 _cin _tree _dram s1 _dram' s2 dirty s3
  have h1 : DramWf s1.dram.mem := frameClear_dram _ b (frameClear_dram s a hm)
  have h2 : DramWf s2.dram.mem :=
    List.foldlRecOn (motive := DramWf) _ _ h1 fun m h c _ => memWrite_wf 0 m _ _ h
  have h3 : DramWf s3.dram.mem := foldl_dram _ _ s2 h2 fun t v ht => frameLine_dram t _ _ _ ht
  clear_value s3
  simpa using h3

theorem execFrameMoveDone_keeps (hs : Nat) (s : State) : Keeps s (execFrameMoveDone hs s) := by
  simp only [execFrameMoveDone]
  repeat' split
  all_goals simp +contextual

@[simp] theorem loseT2_cells (s : State) (p : Segment → Bool) : cellsOf (loseT2 s p).fls.banks = cellsOf s.fls.banks := by simp [loseT2]

theorem execLeaseGrant_keeps (i : Fin 16) (frames : List Nat) (rkey epoch : Nat) (s : State) :
    Keeps s (execLeaseGrant i frames rkey epoch s) := by simp [execLeaseGrant]

theorem execLeaseRecall_keeps (i : Fin 16) (frames : List Nat) (s : State) : Keeps s (execLeaseRecall i frames s) := by
  unfold execLeaseRecall
  extract_lets l mine idle rest s1 s2 s3
  have h3 : SameMem s s3 := by simp [s3, s2, s1]
  clear_value s3
  exact .of_same (.ite (.refl s) (.foldl h3 fun t e => (by split <;> simp)))

theorem execLeasePing_keeps (fromLender : Bool) (who epoch : Nat) (s : State) :
    Keeps s (execLeasePing fromLender who epoch s) := by simp [execLeasePing]

theorem execLeasePingTimer_keeps (s : State) : Keeps s (execLeasePingTimer s) := by simp -implicitDefEqProofs [execLeasePingTimer]

theorem execLeaseRecallDeadline_keeps (asLender : Bool) (who : Nat) (s : State) : Keeps s (execLeaseRecallDeadline asLender who s) := by
  simp only [execLeaseRecallDeadline]
  repeat' split
  all_goals simp

theorem execLeaseGraceExpired_keeps (i : Fin 16) (s : State) : Keeps s (execLeaseGraceExpired i s) := by simp [execLeaseGraceExpired]

theorem execLeaseReq_keeps (addr wanted : Nat) (s : State) : Keeps s (execLeaseReq addr wanted s) := by simp [execLeaseReq]

theorem execLeaseReturn_keeps (addr : Nat) (frames : List Nat) (s : State) :
    Keeps s (execLeaseReturn addr frames s) := by simp [execLeaseReturn]

theorem execLeaseOpen_keeps (addr qpn psn salt ctr : Nat) (s : State) :
    Keeps s (execLeaseOpen addr qpn psn salt ctr s) := by simp [execLeaseOpen]

theorem execLeaseAccept_keeps (i : Fin 16) (qpn psn salt ctr : Nat) (s : State) :
    Keeps s (execLeaseAccept i qpn psn salt ctr s) := by simp [execLeaseAccept]

theorem execLeaseOpenResend_keeps (i : Fin 16) (s : State) : Keeps s (execLeaseOpenResend i s) := by simp [execLeaseOpenResend]

theorem execTierCheckpoint_keeps (s : State) : Keeps s (execTierCheckpoint s) := by simp -implicitDefEqProofs [execTierCheckpoint]

/-! ### Machine/Commit -/

@[simp] theorem commitShed_same (s : State) : SameMem s (commitShed s) := by simp [commitShed]

@[simp] theorem commitRelease_same (s : State) : SameMem s (commitRelease s) := by simp [commitRelease]

@[simp] theorem commitFlush_same (s : State) : SameMem s (commitFlush s) := by simp [commitFlush]

@[simp] theorem commitDrain_same (s : State) : SameMem s (commitDrain s) := by simp [commitDrain]

@[simp] theorem dirtyShutdown_same (s : State) : SameMem s (dirtyShutdown s) := by simp [dirtyShutdown]

@[simp] theorem drainEarly_same (s : State) : SameMem s (drainEarly s) := by simp [drainEarly]

@[simp] theorem poolDump_same (s : State) (k : Nat) (fs : List PoolFrame) : SameMem s (poolDump s k fs) := by
  induction s, k, fs using poolDump.induct with
  | case1 k s => simp [poolDump]
  | case2 s fs hfs => simp [poolDump]
  | case3 s k fs hfs hp => simp [poolDump, hp]
  | case4 s k fs hfs n hp ht => simp [poolDump, hp, ht]
  | case5 s k fs hfs n hp st s1 ht now q s2 cols s3 ih =>
    have h2 : SameMem s1 s2 := by simp [s2]
    have h3 : SameMem s2 s3 := .foldl (.refl s2) fun t c => (by split <;> simp)
    rw [poolDump, hp]
    · simp only [ht]
      exact ((takeStripe_same ht).trans (h2.trans h3)).trans (.trans ⟨rfl, rfl⟩ ih)
    · exact hfs

@[simp] theorem poolDumpDue_same (s : State) : SameMem s (poolDumpDue s) := by simp [poolDumpDue]

@[simp] theorem commitJournal_same (s : State) : SameMem s (commitJournal s) := by simp [commitJournal]

@[simp] theorem commitRails_same (s : State) : SameMem s (commitRails s) := by simp -implicitDefEqProofs [commitRails]

@[simp] theorem commitEnd_dram (s : State) (hm : DramWf s.dram.mem) : DramWf (commitEnd s).dram.mem := by
  simp only [commitEnd]
  split <;> simp [hm]

@[simp] theorem commitEnd_flash (s : State) (hf : FlashWf (cellsOf s.fls.banks)) : FlashWf (cellsOf (commitEnd s).fls.banks) := by
  unfold commitEnd
  split <;> simp [hf]

theorem execCommitStepEnd_keeps (s : State) : Keeps s (execCommitStepEnd s) := by
  unfold execCommitStepEnd
  repeat' split
  all_goals simp +contextual

theorem execSwCommit_keeps (m : Fin 11) (value : Word) (s : State) : Keeps s (execSwCommit m value s) := by
  unfold execSwCommit
  split
  · rename_i h
    simp [masterRefused_same h]
  · simp

theorem execRequalPowerUp_keeps (s : State) : Keeps s (execRequalPowerUp s) := by
  unfold execRequalPowerUp
  split <;> simp +contextual

/-! ### Machine/OdTable -/

@[simp] theorem layerSet_same (s : State) (l : LayerId) (v : Layer) : SameMem s (layerSet s l v) := by
  unfold layerSet
  split <;> simp

@[simp] theorem loadWith_same (put : State → Fld → Nat → State) (s : State) (fs : List Fld) (v : Nat) (h : ∀ t f v, SameMem t (put t f v)) :
    SameMem s (loadWith put s fs v) := by
  induction fs generalizing s v with
  | nil => exact .refl s
  | cons f r ih => exact (h s f _).trans (ih _ _)

/-! ### Machine/Dictionary -/

@[simp] theorem storeIn_same (s : State) (l : LayerId) (key : Nat) (v : Option Bytes) : SameMem s (storeIn s l key v) := by simp [storeIn]

@[simp] theorem cryptoErase_same (s : State) : SameMem s (cryptoErase s) := by simp [cryptoErase]

@[simp] theorem sealedDone_same (s : State) (r : Route) (client : Nat) (old new : Bytes) :
    SameMem s (sealedDone s r client old new) := by simp [sealedDone]

@[simp] theorem sealedWrite_mem (s : State) (r : Route) (client key : Nat) (data : Bytes) :
    (sealedWrite s r client key data).2.dram.mem = s.dram.mem := by
  simp only [sealedWrite]
  repeat' split
  all_goals simp

@[simp] theorem sealedWrite_flash (s : State) (r : Route) (client key : Nat) (data : Bytes) (hf : FlashWf (cellsOf s.fls.banks)) :
    FlashWf (cellsOf (sealedWrite s r client key data).2.fls.banks) := by
  simp only [sealedWrite]
  repeat' split
  all_goals simp [hf]

@[simp] theorem activate_same (s : State) (key : Nat) (data : Bytes) : SameMem s (activate s key data) := by simp [activate]

@[simp] theorem tickWrite_same (s : State) (key : Nat) (data : Bytes) : SameMem s (tickWrite s key data) := by simp [tickWrite]

@[simp] theorem rgnWrite_same (s : State) (e ld : Nat) : SameMem s (rgnWrite s e ld) := by simp [rgnWrite]

@[simp] theorem rwWrite_mem (s : State) (key : Nat) (data : Bytes) : (rwWrite s key data).2.dram.mem = s.dram.mem := by
  simp only [rwWrite]
  repeat' split
  all_goals simp

@[simp] theorem rwWrite_flash (s : State) (key : Nat) (data : Bytes) (hf : FlashWf (cellsOf s.fls.banks)) :
    FlashWf (cellsOf (rwWrite s key data).2.fls.banks) := by
  simp only [rwWrite]
  repeat' split
  all_goals simp [hf]

@[simp] theorem odCommit_mem (s : State) (r : Route) (client key : Nat) (data : Bytes) (own : Bool) :
    (odCommit s r client key data own).2.dram.mem = s.dram.mem := by
  simp only [odCommit]
  repeat' split
  all_goals simp

@[simp] theorem odCommit_flash (s : State) (r : Route) (client key : Nat) (data : Bytes) (own : Bool) (hf : FlashWf (cellsOf s.fls.banks)) :
    FlashWf (cellsOf (odCommit s r client key data own).2.fls.banks) := by
  simp only [odCommit]
  repeat' split
  all_goals simp [hf]

@[simp] theorem odWrite_mem (s : State) (r : Route) (client key : Nat) (data : Bytes) :
    (odWrite s r client key data).dram.mem = s.dram.mem := by simp [odWrite]

@[simp] theorem odWrite_flash (s : State) (r : Route) (client key : Nat) (data : Bytes) (hf : FlashWf (cellsOf s.fls.banks)) :
    FlashWf (cellsOf (odWrite s r client key data).fls.banks) := by simp [odWrite, hf]

@[simp] theorem odRead_same (s : State) (r : Route) (client key : Nat) : SameMem s (odRead s r client key) := by simp [odRead]

@[simp] theorem stagedDrop_same (s : State) (key : Nat) : SameMem s (stagedDrop s key) := by simp [stagedDrop]

@[simp] theorem stagedPut_same (s : State) (x : OdStaged) : SameMem s (stagedPut s x) := by simp [stagedPut]

/-! ### Machine/Assemble -/

@[simp] theorem assemble_same (s0 : State) (p : Nat → Bool) : SameMem s0 (assemble s0 p) := by simp [assemble]

@[simp] theorem layersLost_same (s : State) : SameMem s (layersLost s) := by simp [layersLost]

@[simp] theorem setApply_same (s : State) (n : Nat) : SameMem s (setApply s n) := by simp -implicitDefEqProofs [setApply]

@[simp] theorem setsApply_same (s : State) : SameMem s (setsApply s) := by simp [setsApply]

@[simp] theorem loadFld_same (s : State) (f : Fld) (v : Nat) : SameMem s (loadFld s f v) := by
  unfold loadFld
  split <;> simp

@[simp] theorem loadEntry_same (s : State) (key : Nat) : SameMem s (loadEntry s key) := by simp [loadEntry]

@[simp] theorem loadLd_same (s : State) (n : Nat) : SameMem s (loadLd s n) := by simp [loadLd]

@[simp] theorem loadWindow_same (s : State) (w : Nat) : SameMem s (loadWindow s w) := by simp [loadWindow]

@[simp] theorem loadHosts_same (s : State) : SameMem s (loadHosts s) := by simp [loadHosts]

@[simp] theorem loadRegion_same (s : State) (e : Nat) : SameMem s (loadRegion s e) := by simp [loadRegion]

@[simp] theorem loadBitmap_same (s : State) : SameMem s (loadBitmap s) := by simp [loadBitmap]

@[simp] theorem loadAll_same (s0 : State) : SameMem s0 (loadAll s0) := by simp [loadAll]

@[simp] theorem setLocks_same (s : State) : SameMem s (setLocks s) := by simp [setLocks]

@[simp] theorem runApply_same (s : State) (base size : Nat) : SameMem s (runApply s base size) := by simp [runApply]

@[simp] theorem runsApply_same (s : State) : SameMem s (runsApply s) := by simp [runsApply]

/-! ### Machine/LineClock -/

theorem execLineSyncPulse_keeps (highNs dt : Nat) (s : State) : Keeps s (execLineSyncPulse highNs dt s) := by
  simp only [execLineSyncPulse]
  repeat' split
  all_goals simp

theorem execLineMissed_keeps (s : State) : Keeps s (execLineMissed s) := by simp [execLineMissed]

theorem execLineListenEnd_keeps (s : State) : Keeps s (execLineListenEnd s) := by simp [execLineListenEnd]

/-! ### Machine/Tack -/

@[simp] theorem txnsSet_same (s : State) (ts : List TackTxn) : SameMem s (txnsSet s ts) := by simp [txnsSet]

@[simp] theorem txnDrop_same (s : State) (t : TackTxn) : SameMem s (txnDrop s t) := by simp [txnDrop]

@[simp] theorem txnPut_same (s : State) (t : TackTxn) : SameMem s (txnPut s t) := by simp [txnPut]

@[simp] theorem tackAbort_same (s : State) (h : TackHdr) (key : Nat) (st : Status × Nat) :
    SameMem s (tackAbort s h key st) := by simp [tackAbort]

@[simp] theorem chanViolation_same (s : State) (chan : Nat) : SameMem s (chanViolation s chan) := by simp [chanViolation]

@[simp] theorem nodeViolation_same (s : State) (h : TackHdr) : SameMem s (nodeViolation s h) := by simp [nodeViolation]

theorem tackFrame_keeps {s : State} {h : TackHdr} {run : State → State} (hr : MemInv s → MemInv (run s)) :
    Keeps s (.next (tackFrame s h run)) := by
  unfold tackFrame
  rw [keeps_next]
  intro hs
  repeat' split
  case isFalse.isFalse.isFalse.isFalse => exact hr hs
  all_goals simpa using hs

@[simp] theorem tackFrame_same (s : State) (h : TackHdr) (run : State → State) (hr : SameMem s (run s)) :
    SameMem s (tackFrame s h run) := by simp [tackFrame, hr]

theorem tackRequest_memInv {s : State} {h : TackHdr} {key : Nat} {run : State → State} (hr : MemInv s → MemInv (run s))
    (hs : MemInv s) : MemInv (tackRequest s h key run) := by
  unfold tackRequest
  repeat' split
  case h_2.isFalse => exact hr hs
  all_goals simpa using hs

@[simp] theorem tackRequest_same (s : State) (h : TackHdr) (key : Nat) (run : State → State) (hr : SameMem s (run s)) :
    SameMem s (tackRequest s h key run) := by
  unfold tackRequest
  split
  · simp
  · simp [hr]

@[simp] theorem sendSegments_same (s : State) (t : TackTxn) (from_ upto : Nat) :
    SameMem s (sendSegments s t from_ upto) := by simp -implicitDefEqProofs [sendSegments]

theorem execRead_keeps (h : TackHdr) (key : Nat) (s : State) : Keeps s (execRead h key s) := by simp [execRead]

@[simp] theorem tackAnswer_same (s : State) (h : TackHdr) (key : Nat) (c : Status × Nat) :
    SameMem s (tackAnswer s h key c) := by simp [tackAnswer]

theorem execWrite_keeps (h : TackHdr) (key : Nat) (data : Bytes) (s : State) : Keeps s (execWrite h key data s) := by
  refine tackFrame_keeps fun hs => tackRequest_memInv (fun hs => ?_) hs
  revert hs
  simp +contextual

theorem execWriteInit_keeps (h : TackHdr) (key total : Nat) (s : State) : Keeps s (execWriteInit h key total s) := by simp [execWriteInit]

@[simp] theorem lastSegment_mem (s : State) (h : TackHdr) (t : TackTxn) (data : Bytes) (n : Nat) :
    (lastSegment s h t data n).dram.mem = s.dram.mem := by simp [lastSegment]

@[simp] theorem lastSegment_flash (s : State) (h : TackHdr) (t : TackTxn) (data : Bytes) (n : Nat) (hf : FlashWf (cellsOf s.fls.banks)) :
    FlashWf (cellsOf (lastSegment s h t data n).fls.banks) := by
  unfold lastSegment
  split <;> simp [hf]

theorem execSegment_keeps (h : TackHdr) (n : Nat) (last : Bool) (data : Bytes) (s : State) : Keeps s (execSegment h n last data s) := by
  refine tackFrame_keeps ?_
  dsimp only
  repeat' split
  all_goals simp +contextual

theorem execAck_keeps (h : TackHdr) (n : Nat) (s : State) : Keeps s (execAck h n s) := by
  refine .of_same (tackFrame_same s h _ ?_)
  dsimp only
  repeat' split
  all_goals simp

theorem execAbort_keeps (h : TackHdr) (s : State) : Keeps s (execAbort h s) := by
  refine .of_same (tackFrame_same s h _ ?_)
  dsimp only
  repeat' split
  all_goals simp

theorem execTackTransferTimeout_keeps (chan : Fin 2) (client tag : Nat) (s : State) :
    Keeps s (execTackTransferTimeout chan client tag s) := by
  simp only [execTackTransferTimeout]
  repeat' split
  all_goals simp

theorem execTackClassicalFrame_keeps (chan : Fin 2) (s : State) :
    Keeps s (execTackClassicalFrame chan s) := by simp [execTackClassicalFrame]

@[simp] theorem tackBoot_same (s : State) : SameMem s (tackBoot s) := by simp [tackBoot]

theorem execTackBootupFrame_keeps (chan : Fin 2) (node serial : Nat) (s : State) :
    Keeps s (execTackBootupFrame chan node serial s) := by simp [execTackBootupFrame]

theorem execTackBootupListenEnd_keeps (s : State) : Keeps s (execTackBootupListenEnd s) := by simp [execTackBootupListenEnd]

/-! ### Machine/Bringup -/

@[simp] theorem clockStart_same (s : State) : SameMem s (clockStart s) := by simp [clockStart]

theorem execPorstNRelease_keeps (mode : Fin 4) (serviceN twinPresentN : Bool) (s : State) :
    Keeps s (execPorstNRelease mode serviceN twinPresentN s) := by simp [execPorstNRelease]

theorem execPorstNAssert_keeps (torn : Bool) (s : State) : Keeps s (execPorstNAssert torn s) := by
  unfold execPorstNAssert
  repeat' split
  all_goals simp +contextual

theorem execVddAonLoss_keeps (torn : Bool) (s : State) : Keeps s (execVddAonLoss torn s) := by
  unfold execVddAonLoss
  split <;> simp +contextual

theorem execVddAonReturn_keeps (s : State) : Keeps s (execVddAonReturn s) := by simp [execVddAonReturn]

@[simp] theorem stepTo_same (s : State) (n : Nat) : SameMem s (stepTo s n) := by simp [stepTo]

@[simp] theorem stepStop_same (s : State) (why : BringupStop) (code : Nat) : SameMem s (stepStop s why code) := by simp [stepStop]

@[simp] theorem stepFill_same (s : State) : SameMem s (stepFill s) := by simp [stepFill]

@[simp] theorem retentionCheck_same (s : State) (jrnGood : Bool) : SameMem s (retentionCheck s jrnGood) := by simp [retentionCheck]

@[simp] theorem stepFirmware_same (s : State) : SameMem s (stepFirmware s) := by simp [stepFirmware]

@[simp] theorem stepDram_same (s : State) (r : StepIn) : SameMem s (stepDram s r) := by
  unfold stepDram
  repeat' split
  all_goals simp

@[simp] theorem stepFillDram_cells (s : State) : cellsOf (stepFillDram s).fls.banks = cellsOf s.fls.banks := by simp [stepFillDram]

@[simp] theorem stepFillDram_dram (s : State) : DramWf (stepFillDram s).dram.mem := by
  simp only [stepFillDram, stepTo]
  rfl

@[simp] theorem stepLoad_same (s : State) (r : StepIn) : SameMem s (stepLoad s r) := by simp [stepLoad]

@[simp] theorem crcLoad_same (s0 : State) (s : State) : SameMem s (crcLoad s0 s) := by simp [crcLoad]

@[simp] theorem hostsEnable_same (s : State) : SameMem s (hostsEnable s) := by simp [hostsEnable]

@[simp] theorem stepConfigure_same (s : State) : SameMem s (stepConfigure s) := by simp [stepConfigure]

@[simp] theorem discoverSlot_same (ds : List (Nat × DriveInfo)) (s : State) (n : Nat) : SameMem s (discoverSlot ds s n) := by
  unfold discoverSlot
  repeat' split
  all_goals simp

@[simp] theorem zonesFound_same (s : State) (n : Nat) : SameMem s (zonesFound s n) := by
  simp only [zonesFound]
  repeat' split
  all_goals simp

@[simp] theorem setAssemble_same (s : State) (n : Nat) : SameMem s (setAssemble s n) := by simp [setAssemble]

@[simp] theorem keyWait_same (s : State) (ns : List Nat) : SameMem s (keyWait s ns) := by simp -implicitDefEqProofs [keyWait]

@[simp] theorem stepDrives_same (s : State) (r : StepIn) : SameMem s (stepDrives s r) := by simp [stepDrives]

@[simp] theorem replayEntry_same (root : Nat) (s : State) (e : JournalEntry) : SameMem s (replayEntry root s e) := by
  unfold replayEntry
  refine .ite (.refl s) (.foldl (.refl s) fun t c => ?_)
  dsimp only
  split
  · exact .ite (by simp) (.refl t)
  · exact .refl t

@[simp] theorem rootTake_same (s : State) : SameMem s (rootTake s).2 := by simp -implicitDefEqProofs [rootTake]

@[simp] theorem weltReplay_same (s : State) : SameMem s (weltReplay s) := by simp [weltReplay]

@[simp] theorem retentionVerdict_same (s : State) (trigger : Nat) (early : Bool) :
    SameMem s (retentionVerdict s trigger early) := by simp [retentionVerdict]

@[simp] theorem stepTwin_same (s : State) : SameMem s (stepTwin s) := by simp [stepTwin]

@[simp] theorem stepReplay_same (s : State) (r : StepIn) : SameMem s (stepReplay s r) := by
  simp -implicitDefEqProofs [stepReplay]

@[simp] theorem poisonLost_same (s : State) (ls : List Nat) : SameMem s (poisonLost s ls) := by simp -implicitDefEqProofs [poisonLost]

@[simp] theorem volatileReset_same (s : State) : SameMem s (volatileReset s) := by simp [volatileReset]

@[simp] theorem recoverHalf_same (s : State) (r : StepIn) : SameMem s (recoverHalf s r) := by simp [recoverHalf]

@[simp] theorem stepWarmup_same (s : State) : SameMem s (stepWarmup s) := by simp [stepWarmup]

@[simp] theorem stepReady_same (s : State) : SameMem s (stepReady s) := by simp [stepReady]

theorem execBringupStepEnd_keeps (r : StepIn) (s : State) : Keeps s (execBringupStepEnd r s) := by
  unfold execBringupStepEnd
  repeat' split
  all_goals simp +contextual

theorem execBringupStepLate_keeps (s : State) : Keeps s (execBringupStepLate s) := by
  simp only [execBringupStepLate]
  repeat' split
  all_goals simp

theorem execWrstNAssert_keeps (s : State) : Keeps s (execWrstNAssert s) := by simp [execWrstNAssert]

theorem execWrstNRelease_keeps (s : State) : Keeps s (execWrstNRelease s) := by simp [execWrstNRelease]

theorem execSwWarmReset_keeps (m : Fin 11) (value : Word) (s : State) : Keeps s (execSwWarmReset m value s) := by
  unfold execSwWarmReset
  split
  · rename_i h
    simp [masterRefused_same h]
  · simp

theorem execWarmResetDeferralEnd_keeps (s : State) : Keeps s (execWarmResetDeferralEnd s) := by simp [execWarmResetDeferralEnd]

@[simp] theorem queuesOut_cells (s : State) : cellsOf (queuesOut s).fls.banks = cellsOf s.fls.banks := by simp [queuesOut]

@[simp] theorem queuesOut_dram (s : State) (hm : DramWf s.dram.mem) : DramWf (queuesOut s).dram.mem := by
  simp only [queuesOut]
  exact foldl_dram _ _ s hm fun t w ht => dramStore_dram t _ _ _ ht

@[simp] theorem stripesDropped_same (s : State) : SameMem s (stripesDropped s) := by simp [stripesDropped]

@[simp] theorem warmHold_dram (s0 : State) (torn : Bool) (hm : DramWf s0.dram.mem) :
    DramWf (warmHold s0 torn).dram.mem := by simp [warmHold, hm]

@[simp] theorem warmHold_flash (s0 : State) (torn : Bool) (hf : FlashWf (cellsOf s0.fls.banks)) :
    FlashWf (cellsOf (warmHold s0 torn).fls.banks) := by simp [warmHold, hf]

theorem execWarmResetHold_keeps (torn : Bool) (s : State) : Keeps s (execWarmResetHold torn s) := by
  unfold execWarmResetHold
  repeat' split
  all_goals simp +contextual

/-! ### Machine/Csr -/

@[simp] theorem csrRefuseWrite_same (s : State) (m cause off : Nat) : SameMem s (csrRefuseWrite s m cause off) := by simp [csrRefuseWrite]

@[simp] theorem writeField_same (m off : Nat) (r : RegRow) (k value : Nat) (s : State) (f : FieldRow) :
    SameMem s (writeField m off r k value s f) := by
  unfold writeField
  repeat' split
  all_goals simp

@[simp] theorem mbxDataWrite_same (s : State) (off value : Nat) : SameMem s (mbxDataWrite s off value) := by simp [mbxDataWrite]

@[simp] theorem writePair_same (m off value : Nat) (s : State) : SameMem s (writePair m off value s) := by
  simp only [writePair]
  repeat' split
  all_goals simp

@[simp] theorem writeReg_same (s : State) (m off value : Nat) : SameMem s (writeReg s m off value) := by
  unfold writeReg
  repeat' split
  all_goals simp

@[simp] theorem flsDataWrite_mem (s : State) (off value : Nat) : (flsDataWrite s off value).dram.mem = s.dram.mem := by simp [flsDataWrite]

@[simp] theorem flsDataWrite_flash (s : State) (off value : Nat) (hf : FlashWf (cellsOf s.fls.banks)) :
    FlashWf (cellsOf (flsDataWrite s off value).fls.banks) := by
  unfold flsDataWrite
  extract_lets b k bk d
  exact flsSet_flash s b _ hf (flsBank_wf s b hf)

theorem execCsrWrite_keeps (m : Fin 11) (off size : Nat) (value : Word) (s : State) : Keeps s (execCsrWrite m off size value s) := by
  unfold execCsrWrite
  repeat' split
  all_goals simp +contextual

@[simp] theorem aliasField_same (m off b : Nat) (v : Bool) (r : RegRow) (k : Nat) (s : State) (f : FieldRow) :
    SameMem s (aliasField m off b v r k s f) := by
  unfold aliasField
  repeat' split
  all_goals simp

theorem execCsrAliasWrite_keeps (m : Fin 11) (off : Nat) (value : Word) (s : State) : Keeps s (execCsrAliasWrite m off value s) := by
  simp only [execCsrAliasWrite]
  repeat' split
  all_goals simp

theorem readRefused_same {s t : State} {m off : Nat} (h : readRefused s m off = some t) : SameMem s t := by
  unfold readRefused at h
  iterate 5
    split at h
    · cases h
      simp
  cases h

@[simp] theorem readEffect_same (s : State) (m off : Nat) : SameMem s (readEffect s m off) := by
  unfold readEffect
  split <;> simp

@[simp] theorem plainRead_same (s : State) (m off : Nat) : SameMem s (plainRead s m off) := by
  have hc : ∀ cause, SameMem s (emit (csrRefuse s m cause off) (.csrData m off 0)) := fun _ => (by simp)
  unfold plainRead
  refine .ite ?_ ?_
  · extract_lets n a
    clear_value n a
    refine .ite (same_getD fun t h => readRefused_same h) ?_
    split
    · exact .ite (by simp) (.ite (by simp) (hc _))
    · simp
  · split
    · rename_i t h
      exact readRefused_same h
    · simp

theorem execCsrReadClear_keeps (m : Fin 11) (off : Nat) (s : State) : Keeps s (execCsrReadClear m off s) := by simp [execCsrReadClear]

theorem execCsrReadLatch_keeps (m : Fin 11) (off : Nat) (s : State) : Keeps s (execCsrReadLatch m off s) := by simp [execCsrReadLatch]

theorem execCfgHoldLong_keeps (s : State) : Keeps s (execCfgHoldLong s) := by simp [execCfgHoldLong]

/-! ### Machine/CxlMailbox -/

@[simp] theorem freeSkip_same (s : State) (n : Nat) : SameMem s (freeSkip s n) := by simp [freeSkip]

@[simp] theorem stdCmd_same (s : State) (n : Nat) (needsReady : Bool) (run : State) (h : SameMem s run) :
    SameMem s (stdCmd s n needsReady run) := by simp [stdCmd, h]

theorem execIdentifyMemoryDevice_keeps (n : Fin 64) (s : State) :
    Keeps s (execIdentifyMemoryDevice n s) := by simp [execIdentifyMemoryDevice]

theorem execGetPartitionInfo_keeps (n : Fin 64) (s : State) : Keeps s (execGetPartitionInfo n s) := by simp [execGetPartitionInfo]

theorem execGetSupportedLogs_keeps (n : Fin 64) (s : State) : Keeps s (execGetSupportedLogs n s) := by simp [execGetSupportedLogs]

theorem execGetLog_keeps (n : Fin 64) (uuid : Bytes) (off len : Nat) (s : State) :
    Keeps s (execGetLog n uuid off len s) := by simp [execGetLog]

theorem execGetHealthInfo_keeps (n : Fin 64) (s : State) : Keeps s (execGetHealthInfo n s) := by simp [execGetHealthInfo]

theorem execGetEventRecords_keeps (n : Fin 64) (log : Nat) (s : State) :
    Keeps s (execGetEventRecords n log s) := by simp [execGetEventRecords]

theorem execClearEventRecords_keeps (n : Fin 64) (log : Nat) (all : Bool) (handles : List Nat) (s : State) :
    Keeps s (execClearEventRecords n log all handles s) := by simp [execClearEventRecords]

theorem execGetEventInterruptPolicy_keeps (n : Fin 64) (s : State) :
    Keeps s (execGetEventInterruptPolicy n s) := by simp [execGetEventInterruptPolicy]

theorem execSetEventInterruptPolicy_keeps (n : Fin 64) (settings : List Byte) (s : State) :
    Keeps s (execSetEventInterruptPolicy n settings s) := by simp [execSetEventInterruptPolicy]

theorem execGetLsa_keeps (n : Fin 64) (off len : Nat) (s : State) : Keeps s (execGetLsa n off len s) := by simp [execGetLsa]

theorem execSetLsa_keeps (n : Fin 64) (off : Nat) (data : Bytes) (s : State) : Keeps s (execSetLsa n off data s) := by simp [execSetLsa]

theorem execGetPoisonList_keeps (n : Fin 64) (start len : Nat) (s : State) :
    Keeps s (execGetPoisonList n start len s) := by simp [execGetPoisonList]

theorem execClearPoison_keeps (n : Fin 64) (dpa : Nat) (data : Bytes) (s : State) : Keeps s (execClearPoison n dpa data s) := by
  refine .of_same (stdCmd_same s _ _ _ (.ite (by simp) (.ite (by simp) ?_)))
  split
  · rename_i t h
    simp [acceptWrite_same h]
  · simp

theorem execGetTimestamp_keeps (n : Fin 64) (s : State) : Keeps s (execGetTimestamp n s) := by simp [execGetTimestamp]

theorem execSetTimestamp_keeps (n : Fin 64) (value : Nat) (s : State) : Keeps s (execSetTimestamp n value s) := by simp [execSetTimestamp]

theorem execGetFwInfo_keeps (n : Fin 64) (s : State) : Keeps s (execGetFwInfo n s) := by simp [execGetFwInfo]

theorem execUnsupportedMailboxCommand_keeps (n : Fin 64) (s : State) :
    Keeps s (execUnsupportedMailboxCommand n s) := by simp [execUnsupportedMailboxCommand]

@[simp] theorem fmCmd_same (s : State) (p : Nat) (run : State) (h : SameMem s run) : SameMem s (fmCmd s p run) := by simp [fmCmd, h]

theorem execGetLdInfo_keeps (p : Fin 16) (s : State) : Keeps s (execGetLdInfo p s) := by simp [execGetLdInfo]

theorem execGetLdAllocations_keeps (p : Fin 16) (start limit : Nat) (s : State) :
    Keeps s (execGetLdAllocations p start limit s) := by simp [execGetLdAllocations]

theorem execSetLdAllocations_keeps (p : Fin 16) (s : State) : Keeps s (execSetLdAllocations p s) := by simp [execSetLdAllocations]

theorem execOdRead_keeps (n : Fin 64) (key off : Nat) (s : State) : Keeps s (execOdRead n key off s) := by simp [execOdRead]

@[simp] theorem odChunk_mem (s : State) (n key off total : Nat) (data : Bytes) :
    (odChunk s n key off total data).dram.mem = s.dram.mem := by
  simp only [odChunk]
  repeat' split
  all_goals simp

@[simp] theorem odChunk_flash (s : State) (n key off total : Nat) (data : Bytes) (hf : FlashWf (cellsOf s.fls.banks)) :
    FlashWf (cellsOf (odChunk s n key off total data).fls.banks) := by
  simp only [odChunk]
  repeat' split
  all_goals simp [hf]

theorem execOdWrite_keeps (n : Fin 64) (key off total : Nat) (data : Bytes) (s : State) : Keeps s (execOdWrite n key off total data s) := by
  refine vendorCmd_keeps fun hs => ?_
  revert hs
  split <;> simp +contextual

theorem execOdAbort_keeps (n : Fin 64) (key : Nat) (s : State) : Keeps s (execOdAbort n key s) := by simp [execOdAbort]

/-! ### Machine/Mailbox -/

theorem mbxShut_same {s t : State} {m off : Nat} (h : mbxShut s m off = some t) : SameMem s t := by
  unfold mbxShut at h
  split at h
  · cases h
    simp
  · split at h <;> cases h
    simp

@[simp] theorem mbxStagedDrop_same (s : State) : SameMem s (mbxStagedDrop s) := by simp [mbxStagedDrop]

@[simp] theorem mbxFree_same (s : State) : SameMem s (mbxFree s) := by simp [mbxFree]

theorem execMbxClaim_keeps (m : Fin 11) (s : State) : Keeps s (execMbxClaim m s) := by
  unfold execMbxClaim
  split
  · rename_i h
    simp [mbxShut_same h]
  · simp

theorem execMbxRelease_keeps (m : Fin 11) (s : State) : Keeps s (execMbxRelease m s) := by
  unfold execMbxRelease
  split
  · rename_i h
    simp [mbxShut_same h]
  · simp

@[simp] theorem mbxAborted_same (s : State) : SameMem s (mbxAborted s) := by simp [mbxAborted]

@[simp] theorem mbxAbortNow_same (s : State) : SameMem s (mbxAbortNow s) := by
  unfold mbxAbortNow
  split <;> simp

theorem execMbxClaimExpired_keeps (s : State) : Keeps s (execMbxClaimExpired s) := by simp [execMbxClaimExpired]

@[simp] theorem mbxChunk_mem (s : State) (m : Nat) : (mbxChunk s m).2.2.dram.mem = s.dram.mem := by
  simp only [mbxChunk]
  repeat' split
  all_goals simp

@[simp] theorem mbxChunk_flash (s : State) (m : Nat) (hf : FlashWf (cellsOf s.fls.banks)) :
    FlashWf (cellsOf (mbxChunk s m).2.2.fls.banks) := by
  simp only [mbxChunk]
  repeat' split
  all_goals simp [hf]

@[simp] theorem mbxStart_mem (s : State) (m op : Nat) : (mbxStart s m op).dram.mem = s.dram.mem := by
  unfold mbxStart
  split
  · rename_i h
    simp [mbxShut_same h]
  split
  · simp
  split
  · simp
  dsimp only
  split <;> simp

@[simp] theorem mbxStart_flash (s : State) (m op : Nat) (hf : FlashWf (cellsOf s.fls.banks)) :
    FlashWf (cellsOf (mbxStart s m op).fls.banks) := by
  unfold mbxStart
  split <;> rename_i h
  · simp [mbxShut_same h, hf]
  split
  · simp [hf]
  split
  · exact hf
  dsimp only
  split
  case h_2 => exact mbxChunk_flash _ m (by simpa using hf)
  all_goals simp [hf]

theorem execMbxRead_keeps (m : Fin 11) (op : Fin 4) (s : State) : Keeps s (execMbxRead m op s) := by simp +contextual [execMbxRead]

theorem execMbxWrite_keeps (m : Fin 11) (s : State) : Keeps s (execMbxWrite m s) := by simp +contextual [execMbxWrite]

theorem execMbxAbort_keeps (m : Fin 11) (s : State) : Keeps s (execMbxAbort m s) := by
  unfold execMbxAbort
  split
  · rename_i h
    simp [mbxShut_same h]
  · simp

@[simp] theorem mbxReadEnd_same (s : State) (key : Nat) : SameMem s (mbxReadEnd s key) := by simp [mbxReadEnd]

theorem execMbxOpDone_keeps (s : State) : Keeps s (execMbxOpDone s) := by
  unfold execMbxOpDone
  split <;> simp

theorem execOdStore_keeps (r : Route) (client : Nat) (s : State) : Keeps s (execOdStore r client s) := by simp +contextual [execOdStore]

@[simp] theorem storeLayer_same (s : State) (l : LayerId) (vs : List (Nat × Bytes)) : SameMem s (storeLayer s l vs) := by simp [storeLayer]

theorem execOdStoreDone_keeps (s : State) : Keeps s (execOdStoreDone s) := by
  unfold execOdStoreDone
  split <;> simp

theorem execOverlayAdd_keeps (r : Route) (client : Nat) (s : State) :
    Keeps s (execOverlayAdd r client s) := by simp +contextual [execOverlayAdd]

theorem execOverlayRemove_keeps (r : Route) (client : Nat) (s : State) :
    Keeps s (execOverlayRemove r client s) := by simp +contextual [execOverlayRemove]

theorem execRgnEntryApply_keeps (r : Route) (client : Nat) (e : Fin 1024) (ld : Byte) (s : State) :
    Keeps s (execRgnEntryApply r client e ld s) := by simp +contextual [execRgnEntryApply]

theorem execFwData_keeps (r : Route) (client : Nat) (data : Bytes) (s : State) :
    Keeps s (execFwData r client data s) := by simp +contextual [execFwData]

theorem execFwActivate_keeps (r : Route) (client : Nat) (s : State) :
    Keeps s (execFwActivate r client s) := by simp +contextual [execFwActivate]

theorem execFwActivateForce_keeps (r : Route) (client : Nat) (s : State) :
    Keeps s (execFwActivateForce r client s) := by simp +contextual [execFwActivateForce]

theorem execFwActivateCancel_keeps (r : Route) (client : Nat) (s : State) :
    Keeps s (execFwActivateCancel r client s) := by simp +contextual [execFwActivateCancel]

theorem execReadBlock_keeps (r : Route) (client : Nat) (s : State) : Keeps s (execReadBlock r client s) := by simp [execReadBlock]

/-! ### Machine/Sealed -/

theorem execPresenceNPress_keeps (s : State) : Keeps s (execPresenceNPress s) := by simp [execPresenceNPress]

theorem execPresenceNRelease_keeps (s : State) : Keeps s (execPresenceNRelease s) := by simp [execPresenceNRelease]

theorem execPresenceOpen_keeps (s : State) : Keeps s (execPresenceOpen s) := by simp [execPresenceOpen]

theorem execPresenceClose_keeps (s : State) : Keeps s (execPresenceClose s) := by simp [execPresenceClose]

theorem execPresenceStuck_keeps (s : State) : Keeps s (execPresenceStuck s) := by simp [execPresenceStuck]

theorem execPresenceRearm_keeps (s : State) : Keeps s (execPresenceRearm s) := by simp [execPresenceRearm]

theorem execRecorderClear_keeps (r : Route) (client : Nat) (value : Bytes) (s : State) :
    Keeps s (execRecorderClear r client value s) := by simp +contextual [execRecorderClear]

theorem execLockPolicyChange_keeps (r : Route) (client : Nat) (which : Fin 4) (value : Bytes) (s : State) :
    Keeps s (execLockPolicyChange r client which value s) := by simp +contextual [execLockPolicyChange]

theorem execFactoryDefault_keeps (r : Route) (client : Nat) (value : Bytes) (s : State) :
    Keeps s (execFactoryDefault r client value s) := by simp +contextual [execFactoryDefault]

theorem execCryptoErase_keeps (r : Route) (client : Nat) (value : Bytes) (s : State) :
    Keeps s (execCryptoErase r client value s) := by simp +contextual [execCryptoErase]

theorem execForcedSlotSelection_keeps (r : Route) (client : Nat) (value : Bytes) (s : State) :
    Keeps s (execForcedSlotSelection r client value s) := by simp +contextual [execForcedSlotSelection]

theorem execPresencePolicyChange_keeps (r : Route) (client : Nat) (value : Bytes) (s : State) :
    Keeps s (execPresencePolicyChange r client value s) := by simp +contextual [execPresencePolicyChange]

/-! ### Machine/Ticks -/

@[simp] theorem alignStep_same (s : State) (t : Nat) : SameMem s (alignStep s t) := by simp [alignStep]

@[simp] theorem wrapClock_same (s : State) : SameMem s (wrapClock s) := by
  simp only [wrapClock]
  repeat' split
  all_goals simp

@[simp] theorem tickAdvance_same (s : State) : SameMem s (tickAdvance s) := by simp [tickAdvance]

@[simp] theorem reserveDue_same (s : State) : SameMem s (reserveDue s) := by simp [reserveDue]

@[simp] theorem regionsChanged_same (s : State) (was : List Walk) (touched : List Nat) :
    SameMem s (regionsChanged s was touched) := by simp -implicitDefEqProofs [regionsChanged]

@[simp] theorem enableChange_same (s : State) (f : Fn) (on : Bool) : SameMem s (enableChange s f on) := by
  simp only [enableChange]
  repeat' split
  all_goals simp

@[simp] theorem stagedApply_same (s : State) (x : Nat × Nat) : SameMem s (stagedApply s x) := by
  unfold stagedApply
  repeat' split
  all_goals simp

@[simp] theorem capApply_same (s : State) : SameMem s (capApply s) := by simp [capApply]

@[simp] theorem applyBuffered_same (s : State) : SameMem s (applyBuffered s) := by simp [applyBuffered]

@[simp] theorem functionsTick_same (s : State) : SameMem s (functionsTick s) := by simp [functionsTick]

@[simp] theorem standbyTick_same (s : State) : SameMem s (standbyTick s) := by simp [standbyTick]

@[simp] theorem sampleTake_same (s : State) : SameMem s (sampleTake s) := by simp [sampleTake]

@[simp] theorem zonesAdopt_same (s : State) : SameMem s (zonesAdopt s) := by simp [zonesAdopt]

@[simp] theorem zonesGrant_same (s : State) : SameMem s (zonesGrant s) := by simp [zonesGrant]

@[simp] theorem zonesAsk_same (s : State) : SameMem s (zonesAsk s) := by simp [zonesAsk]

@[simp] theorem bucketsRefill_same (s : State) : SameMem s (bucketsRefill s) := by simp [bucketsRefill]

@[simp] theorem dumpFree_same (s : State) : SameMem s (dumpFree s) := by simp [dumpFree]

@[simp] theorem warmupLoads_same (s : State) : SameMem s (warmupLoads s) := by simp [warmupLoads]

@[simp] theorem phaseZero_same (s : State) : SameMem s (phaseZero s) := by simp [phaseZero]

@[simp] theorem pacingTick_same (s : State) (len : Nat) : SameMem s (pacingTick s len) := by simp [pacingTick]

@[simp] theorem busyTick_same (s : State) (len : Nat) : SameMem s (busyTick s len) := by
  unfold busyTick
  split <;> simp

@[simp] theorem heartbeatTick_same (s : State) : SameMem s (heartbeatTick s) := by simp [heartbeatTick]

@[simp] theorem replayTick_cells (s : State) : cellsOf (replayTick s).fls.banks = cellsOf s.fls.banks := by simp [replayTick]

@[simp] theorem replayTick_dram (s : State) (hm : DramWf s.dram.mem) : DramWf (replayTick s).dram.mem := by
  unfold replayTick
  split
  · exact hm
  · exact foldl_dram _ _ s hm fun t hs ht => by split <;> simp [ht]

@[simp] theorem failbackTick_same (s : State) : SameMem s (failbackTick s) := by simp -implicitDefEqProofs [failbackTick]

@[simp] theorem crcCheck_same (s : State) : SameMem s (crcCheck s) := by
  unfold crcCheck
  repeat' split
  all_goals simp

@[simp] theorem tick_cells (s : State) : cellsOf (tick s).fls.banks = cellsOf s.fls.banks := by simp [tick]

@[simp] theorem tick_dram (s : State) (hm : DramWf s.dram.mem) : DramWf (tick s).dram.mem := by
  simp only [tick]
  repeat' split
  all_goals simp [hm]

theorem execTick_keeps (s : State) : Keeps s (execTick s) := by simp +contextual [execTick]

theorem execHalfCycleBoundary_keeps (s : State) : Keeps s (execHalfCycleBoundary s) := by
  unfold execHalfCycleBoundary
  split <;> simp +contextual

/-! ### Machine/Dispatch -/

/-- Every command keeps the memories canonical: one arm for each command. -/
theorem exec_keepsMem (c : Instr) (s : State) : Keeps s (exec c s) :=
  match c with
  | .porstNRelease .. => execPorstNRelease_keeps ..
  | .porstNAssert .. => execPorstNAssert_keeps ..
  | .vddAonLoss .. => execVddAonLoss_keeps ..
  | .commonStart => execCommonStart_keeps ..
  | .railOnDelay .. => execRailOnDelay_keeps ..
  | .railPgRise .. => execRailPgRise_keeps ..
  | .railPgTimeout .. => execRailPgTimeout_keeps ..
  | .railPgFault .. => execRailPgFault_keeps ..
  | .railRetryAttempt .. => execRailRetryAttempt_keeps ..
  | .railOffDelay .. => execRailOffDelay_keeps ..
  | .railStuckOn .. => execRailStuckOn_keeps ..
  | .domainSwitchTimeout .. => execDomainSwitchTimeout_keeps ..
  | .psuOkLow => execPsuOkLow_keeps ..
  | .holdupLow => execHoldupLow_keeps ..
  | .faultNExternal => execFaultNExternal_keeps ..
  | .faultNGlitch => execFaultNGlitch_keeps ..
  | .sysclkLoss => execSysclkLoss_keeps ..
  | .refclkLoss .. => execRefclkLoss_keeps ..
  | .wdiToggle => execWdiToggle_keeps ..
  | .wdiMissed => execWdiMissed_keeps ..
  | .bringupStepEnd .. => execBringupStepEnd_keeps ..
  | .bringupStepLate => execBringupStepLate_keeps ..
  | .wrstNAssert => execWrstNAssert_keeps ..
  | .swWarmReset .. => execSwWarmReset_keeps ..
  | .warmResetHold .. => execWarmResetHold_keeps ..
  | .warmResetDeferralEnd => execWarmResetDeferralEnd_keeps ..
  | .unitResetLat => execUnitResetLat_keeps ..
  | .unitResetBkl => execUnitResetBkl_keeps ..
  | .unitResetTir => execUnitResetTir_keeps ..
  | .unitResetStm => execUnitResetStm_keeps ..
  | .unitResetFls => execUnitResetFls_keeps ..
  | .unitResetKcb => execUnitResetKcb_keeps ..
  | .functionQuiesced .. => execFunctionQuiesced_keeps ..
  | .disableAbortTimeExpired .. => execDisableAbortTimeExpired_keeps ..
  | .lineSyncPulse .. => execLineSyncPulse_keeps ..
  | .lineMissed => execLineMissed_keeps ..
  | .lineListenEnd => execLineListenEnd_keeps ..
  | .tick => execTick_keeps ..
  | .halfCycleBoundary => execHalfCycleBoundary_keeps ..
  | .compatTick => execCompatTick_keeps ..
  | .csrWrite .. => execCsrWrite_keeps ..
  | .csrAliasWrite .. => execCsrAliasWrite_keeps ..
  | .csrReadClear .. => execCsrReadClear_keeps ..
  | .csrReadLatch .. => execCsrReadLatch_keeps ..
  | .cfgHoldLong => execCfgHoldLong_keeps ..
  | .mbxClaim .. => execMbxClaim_keeps ..
  | .mbxRelease .. => execMbxRelease_keeps ..
  | .mbxClaimExpired => execMbxClaimExpired_keeps ..
  | .mbxRead .. => execMbxRead_keeps ..
  | .mbxWrite .. => execMbxWrite_keeps ..
  | .mbxAbort .. => execMbxAbort_keeps ..
  | .mbxOpDone => execMbxOpDone_keeps ..
  | .odStore .. => execOdStore_keeps ..
  | .odStoreDone => execOdStoreDone_keeps ..
  | .overlayAdd .. => execOverlayAdd_keeps ..
  | .overlayRemove .. => execOverlayRemove_keeps ..
  | .rgnEntryApply .. => execRgnEntryApply_keeps ..
  | .read .. => execRead_keeps ..
  | .write .. => execWrite_keeps ..
  | .writeInit .. => execWriteInit_keeps ..
  | .segment .. => execSegment_keeps ..
  | .ack .. => execAck_keeps ..
  | .abort .. => execAbort_keeps ..
  | .tackBootupFrame .. => execTackBootupFrame_keeps ..
  | .tackBootupListenEnd => execTackBootupListenEnd_keeps ..
  | .tackClassicalFrame .. => execTackClassicalFrame_keeps ..
  | .tackTransferTimeout .. => execTackTransferTimeout_keeps ..
  | .presenceOpen => execPresenceOpen_keeps ..
  | .presenceClose => execPresenceClose_keeps ..
  | .presenceStuck => execPresenceStuck_keeps ..
  | .presenceRearm => execPresenceRearm_keeps ..
  | .recorderClear .. => execRecorderClear_keeps ..
  | .recorderClearStepEnd => execRecorderClearStepEnd_keeps ..
  | .lockPolicyChange .. => execLockPolicyChange_keeps ..
  | .factoryDefault .. => execFactoryDefault_keeps ..
  | .cryptoErase .. => execCryptoErase_keeps ..
  | .forcedSlotSelection .. => execForcedSlotSelection_keeps ..
  | .presencePolicyChange .. => execPresencePolicyChange_keeps ..
  | .hostWrite .. => execHostWrite_keeps ..
  | .hostRead .. => execHostRead_keeps ..
  | .streamWrite .. => execStreamWrite_keeps ..
  | .skiveClose .. => execSkiveClose_keeps ..
  | .weltRelease .. => execWeltRelease_keeps ..
  | .hdmDecoderCommit .. => execHdmDecoderCommit_keeps ..
  | .doorbellRing .. => execDoorbellRing_keeps ..
  | .barrierEnd .. => execBarrierEnd_keeps ..
  | .barrierTimeout .. => execBarrierTimeout_keeps ..
  | .commitBarrierCutoff => execCommitBarrierCutoff_keeps ..
  | .gpfPhase1 .. => execGpfPhase1_keeps ..
  | .gpfPhase2 .. => execGpfPhase2_keeps ..
  | .hostLinkUp .. => execHostLinkUp_keeps ..
  | .hostLinkDown .. => execHostLinkDown_keeps ..
  | .hptPortEnableChange .. => execHptPortEnableChange_keeps ..
  | .hptLdEnableChange .. => execHptLdEnableChange_keeps ..
  | .birspi .. => execBirspi_keeps ..
  | .biconflict .. => execBiconflict_keeps ..
  | .bisnpGuardExpired .. => execBisnpGuardExpired_keeps ..
  | .identifyMemoryDevice .. => execIdentifyMemoryDevice_keeps ..
  | .getPartitionInfo .. => execGetPartitionInfo_keeps ..
  | .getSupportedLogs .. => execGetSupportedLogs_keeps ..
  | .getLog .. => execGetLog_keeps ..
  | .getHealthInfo .. => execGetHealthInfo_keeps ..
  | .getEventRecords .. => execGetEventRecords_keeps ..
  | .clearEventRecords .. => execClearEventRecords_keeps ..
  | .getEventInterruptPolicy .. => execGetEventInterruptPolicy_keeps ..
  | .setEventInterruptPolicy .. => execSetEventInterruptPolicy_keeps ..
  | .getLsa .. => execGetLsa_keeps ..
  | .setLsa .. => execSetLsa_keeps ..
  | .getPoisonList .. => execGetPoisonList_keeps ..
  | .clearPoison .. => execClearPoison_keeps ..
  | .getTimestamp .. => execGetTimestamp_keeps ..
  | .setTimestamp .. => execSetTimestamp_keeps ..
  | .getFwInfo .. => execGetFwInfo_keeps ..
  | .unsupportedMailboxCommand .. => execUnsupportedMailboxCommand_keeps ..
  | .getLdInfo .. => execGetLdInfo_keeps ..
  | .getLdAllocations .. => execGetLdAllocations_keeps ..
  | .setLdAllocations .. => execSetLdAllocations_keeps ..
  | .odRead .. => execOdRead_keeps ..
  | .odWrite .. => execOdWrite_keeps ..
  | .odAbort .. => execOdAbort_keeps ..
  | .objectCreate .. => execObjectCreate_keeps ..
  | .objectDestroy .. => execObjectDestroy_keeps ..
  | .objectQuery .. => execObjectQuery_keeps ..
  | .objectSetPolicy .. => execObjectSetPolicy_keeps ..
  | .streamOpen .. => execStreamOpen_keeps ..
  | .streamClose .. => execStreamClose_keeps ..
  | .layerDone .. => execLayerDone_keeps ..
  | .streamDeadline .. => execStreamDeadline_keeps ..
  | .mirror .. => execMirror_keeps ..
  | .mirrorFull .. => execMirrorFull_keeps ..
  | .mirrorAck .. => execMirrorAck_keeps ..
  | .release .. => execRelease_keeps ..
  | .repairReq .. => execRepairReq_keeps ..
  | .repairRsp .. => execRepairRsp_keeps ..
  | .remirror .. => execRemirror_keeps ..
  | .journal .. => execJournal_keeps ..
  | .journalAck .. => execJournalAck_keeps ..
  | .zoneReq .. => execZoneReq_keeps ..
  | .zoneGrant .. => execZoneGrant_keeps ..
  | .zoneAck .. => execZoneAck_keeps ..
  | .barrierReq .. => execBarrierReq_keeps ..
  | .barrierDone .. => execBarrierDone_keeps ..
  | .hello .. => execHello_keeps ..
  | .heartbeat .. => execHeartbeat_keeps ..
  | .handoverBegin => execHandoverBegin_keeps ..
  | .handoverDone => execHandoverDone_keeps ..
  | .failbackReq => execFailbackReq_keeps ..
  | .failbackReady .. => execFailbackReady_keeps ..
  | .failbackDone => execFailbackDone_keeps ..
  | .violation .. => execViolation_keeps ..
  | .stirrupUp .. => execStirrupUp_keeps ..
  | .stirrupDown => execStirrupDown_keeps ..
  | .stpRetrain => execStpRetrain_keeps ..
  | .heartbeatLossRetrain => execHeartbeatLossRetrain_keeps ..
  | .twinFailed => execTwinFailed_keeps ..
  | .claimDelayExpired => execClaimDelayExpired_keeps ..
  | .reservationPreemptDone .. => execReservationPreemptDone_keeps ..
  | .claimRetry => execClaimRetry_keeps ..
  | .leaseSlotWrite => execLeaseSlotWrite_keeps ..
  | .handoverLeaseStale => execHandoverLeaseStale_keeps ..
  | .twinWaitExpired .. => execTwinWaitExpired_keeps ..
  | .twinLeaseRecheck .. => execTwinLeaseRecheck_keeps ..
  | .partnerContainmentEnd .. => execPartnerContainmentEnd_keeps ..
  | .rdS .. => execRdS_keeps ..
  | .rdX .. => execRdX_keeps ..
  | .wb .. => execWb_keeps ..
  | .snpS .. => execSnpS_keeps ..
  | .snpInv .. => execSnpInv_keeps ..
  | .ackI .. => execAckI_keeps ..
  | .ackS .. => execAckS_keeps ..
  | .ackData .. => execAckData_keeps ..
  | .wbPending .. => execWbPending_keeps ..
  | .dataS .. => execDataS_keeps ..
  | .dataE .. => execDataE_keeps ..
  | .wbAck .. => execWbAck_keeps ..
  | .nack .. => execNack_keeps ..
  | .done .. => execDone_keeps ..
  | .nackRetryTimer .. => execNackRetryTimer_keeps ..
  | .snoopGuardExpired .. => execSnoopGuardExpired_keeps ..
  | .agentLoad .. => execAgentLoad_keeps ..
  | .agentStore .. => execAgentStore_keeps ..
  | .agentEviction .. => execAgentEviction_keeps ..
  | .nonTemporalStore .. => execNonTemporalStore_keeps ..
  | .uncachedAccess .. => execUncachedAccess_keeps ..
  | .fenceFCore .. => execFenceFCore_keeps ..
  | .fenceFClu .. => execFenceFClu_keeps ..
  | .fenceFSys .. => execFenceFSys_keeps ..
  | .fenceSCore .. => execFenceSCore_keeps ..
  | .fenceSClu .. => execFenceSClu_keeps ..
  | .fenceSSys .. => execFenceSSys_keeps ..
  | .treeFillDone .. => execTreeFillDone_keeps ..
  | .treeWalkDone .. => execTreeWalkDone_keeps ..
  | .clean => execClean_keeps ..
  | .cleanInv => execCleanInv_keeps ..
  | .inv => execInv_keeps ..
  | .treMaintAbort .. => execTreMaintAbort_keeps ..
  | .treMaintDone => execTreMaintDone_keeps ..
  | .dramArbitrate .. => execDramArbitrate_keeps ..
  | .dramWriteEnqueue .. => execDramWriteEnqueue_keeps ..
  | .dramReadReturn .. => execDramReadReturn_keeps ..
  | .dramRefreshDue .. => execDramRefreshDue_keeps ..
  | .dimmTempPoll .. => execDimmTempPoll_keeps ..
  | .dramRetrainDone .. => execDramRetrainDone_keeps ..
  | .holdupSmbusPoll .. => execHoldupSmbusPoll_keeps ..
  | .holdupSenseSample .. => execHoldupSenseSample_keeps ..
  | .drainTakeChunk => execDrainTakeChunk_keeps ..
  | .stripeWrite .. => execStripeWrite_keeps ..
  | .stripeCommit .. => execStripeCommit_keeps ..
  | .stripeWriteFailed .. => execStripeWriteFailed_keeps ..
  | .zoneReclaim .. => execZoneReclaim_keeps ..
  | .tierCheckpoint => execTierCheckpoint_keeps ..
  | .commitStepEnd => execCommitStepEnd_keeps ..
  | .swCommit .. => execSwCommit_keeps ..
  | .requalPowerUp => execRequalPowerUp_keeps ..
  | .segmentLoadDone .. => execSegmentLoadDone_keeps ..
  | .segmentEvict => execSegmentEvict_keeps ..
  | .segmentEvictDone .. => execSegmentEvictDone_keeps ..
  | .frameMoveDone .. => execFrameMoveDone_keeps ..
  | .loadLate .. => execLoadLate_keeps ..
  | .leaseReq .. => execLeaseReq_keeps ..
  | .leaseGrant .. => execLeaseGrant_keeps ..
  | .leaseReturn .. => execLeaseReturn_keeps ..
  | .leaseRecall .. => execLeaseRecall_keeps ..
  | .leasePing .. => execLeasePing_keeps ..
  | .leasePingTimer => execLeasePingTimer_keeps ..
  | .leaseRecallDeadline .. => execLeaseRecallDeadline_keeps ..
  | .leaseGraceExpired .. => execLeaseGraceExpired_keeps ..
  | .leaseOpen .. => execLeaseOpen_keeps ..
  | .leaseAccept .. => execLeaseAccept_keeps ..
  | .leaseOpenResend .. => execLeaseOpenResend_keeps ..
  | .pdAlloc .. => execPdAlloc_keeps ..
  | .pdFree .. => execPdFree_keeps ..
  | .cqCreate .. => execCqCreate_keeps ..
  | .cqDestroy .. => execCqDestroy_keeps ..
  | .connCreate .. => execConnCreate_keeps ..
  | .connModifyError .. => execConnModifyError_keeps ..
  | .connModifyTxKey .. => execConnModifyTxKey_keeps ..
  | .connModifyRxKey .. => execConnModifyRxKey_keeps ..
  | .connDestroy .. => execConnDestroy_keeps ..
  | .regionRegister .. => execRegionRegister_keeps ..
  | .regionRevoke .. => execRegionRevoke_keeps ..
  | .revokeForced .. => execRevokeForced_keeps ..
  | .sqTail .. => execSqTail_keeps ..
  | .rqTail .. => execRqTail_keeps ..
  | .cqHead .. => execCqHead_keeps ..
  | .wqeNop .. => execWqeNop_keeps ..
  | .wqeWrite .. => execWqeWrite_keeps ..
  | .wqeRead .. => execWqeRead_keeps ..
  | .wqeSend .. => execWqeSend_keeps ..
  | .wqeCas .. => execWqeCas_keeps ..
  | .wqeFaa .. => execWqeFaa_keeps ..
  | .wqeWait .. => execWqeWait_keeps ..
  | .cqeWrite .. => execCqeWrite_keeps ..
  | .rdmaWriteRequest .. => execRdmaWriteRequest_keeps ..
  | .rdmaReadRequest .. => execRdmaReadRequest_keeps ..
  | .sendRequest .. => execSendRequest_keeps ..
  | .compareAndSwap .. => execCompareAndSwap_keeps ..
  | .fetchAndAdd .. => execFetchAndAdd_keeps ..
  | .roceAckReceived .. => execRoceAckReceived_keeps ..
  | .roceNakReceived .. => execRoceNakReceived_keeps ..
  | .roceAckTimeout .. => execRoceAckTimeout_keeps ..
  | .cnpReceived .. => execCnpReceived_keeps ..
  | .cnpRateRecovery .. => execCnpRateRecovery_keeps ..
  | .contextFetchDone .. => execContextFetchDone_keeps ..
  | .contextEvict => execContextEvict_keeps ..
  | .ethLinkChange .. => execEthLinkChange_keeps ..
  | .cipherJobSubmit .. => execCipherJobSubmit_keeps ..
  | .cipherJobDone .. => execCipherJobDone_keeps ..
  | .coreIsolated .. => execCoreIsolated_keeps ..
  | .keySlotBroken .. => execKeySlotBroken_keeps ..
  | .keyLoad .. => execKeyLoad_keeps ..
  | .keyFree .. => execKeyFree_keeps ..
  | .driveInserted .. => execDriveInserted_keeps ..
  | .driveRemoved .. => execDriveRemoved_keeps ..
  | .driveCommandComplete .. => execDriveCommandComplete_keeps ..
  | .driveCommandTimeout .. => execDriveCommandTimeout_keeps ..
  | .readShortcutExpired .. => execReadShortcutExpired_keeps ..
  | .driveAsyncEvent .. => execDriveAsyncEvent_keeps ..
  | .driveLinkDownExpired .. => execDriveLinkDownExpired_keeps ..
  | .forceFail .. => execForceFail_keeps ..
  | .rebuildStart .. => execRebuildStart_keeps ..
  | .rebuildStripe .. => execRebuildStripe_keeps ..
  | .hostGuardExpired .. => execHostGuardExpired_keeps ..
  | .engineWatchdogExpired .. => execEngineWatchdogExpired_keeps ..
  | .keeperHeartbeatMissed .. => execKeeperHeartbeatMissed_keeps ..
  | .keeperReloadDone .. => execKeeperReloadDone_keeps ..
  | .pommelWatchdog => execPommelWatchdog_keeps ..
  | .faultReported .. => execFaultReported_keeps ..
  | .groupRetryExpired .. => execGroupRetryExpired_keeps ..
  | .recoveryWindowClose .. => execRecoveryWindowClose_keeps ..
  | .flsBankClaim .. => execFlsBankClaim_keeps ..
  | .flsBankRelease .. => execFlsBankRelease_keeps ..
  | .flsClaimExpired .. => execFlsClaimExpired_keeps ..
  | .flashRead .. => execFlashRead_keeps ..
  | .flashProgram .. => execFlashProgram_keeps ..
  | .flashErase .. => execFlashErase_keeps ..
  | .flashSuspend .. => execFlashSuspend_keeps ..
  | .flashResume .. => execFlashResume_keeps ..
  | .readWear .. => execReadWear_keeps ..
  | .flashAbort .. => execFlashAbort_keeps ..
  | .flashSuspendEffect .. => execFlashSuspendEffect_keeps ..
  | .flashRunWindowEnd .. => execFlashRunWindowEnd_keeps ..
  | .flashProgramDone .. => execFlashProgramDone_keeps ..
  | .flashEraseDone .. => execFlashEraseDone_keeps ..
  | .fwData .. => execFwData_keeps ..
  | .fwActivate .. => execFwActivate_keeps ..
  | .fwActivateForce .. => execFwActivateForce_keeps ..
  | .fwActivateCancel .. => execFwActivateCancel_keeps ..
  | .fwConfirmed => execFwConfirmed_keeps ..
  | .recordSubmit .. => execRecordSubmit_keeps ..
  | .recordProgrammed => execRecordProgrammed_keeps ..
  | .readBlock .. => execReadBlock_keeps ..
  | .lxRingTailWrite .. => execLxRingTailWrite_keeps ..
  | .lxBankWrite .. => execLxBankWrite_keeps ..
  | .lxRingReset .. => execLxRingReset_keeps ..
  | .functionLevelReset .. => execFunctionLevelReset_keeps ..
  | .nop .. => execNop_keeps ..
  | .flush .. => execFlush_keeps ..
  | .flushMedia .. => execFlushMedia_keeps ..
  | .zero .. => execZero_keeps ..
  | .identify .. => execIdentify_keeps ..
  | .fwDownload .. => execFwDownload_keeps ..
  | .fwCommit .. => execFwCommit_keeps ..
  | .lxUnknownOpcode .. => execLxUnknownOpcode_keeps ..
  | .lxCommandStatus .. => execLxCommandStatus_keeps ..
  | .psuOkHigh => execPsuOkHigh_keeps ..
  | .holdupLowNHigh => execHoldupLowNHigh_keeps ..
  | .faultNReleased => execFaultNReleased_keeps ..
  | .psuOkGlitch => execPsuOkGlitch_keeps ..
  | .holdupLowNGlitch => execHoldupLowNGlitch_keeps ..
  | .sysclkReturn => execSysclkReturn_keeps ..
  | .vddAonReturn => execVddAonReturn_keeps ..
  | .wrstNRelease => execWrstNRelease_keeps ..
  | .presenceNPress => execPresenceNPress_keeps ..
  | .presenceNRelease => execPresenceNRelease_keeps ..
  | .railPgFall .. => execRailPgFall_keeps ..
  | .driveLinkChange .. => execDriveLinkChange_keeps ..
  | .driveResetTimeout .. => execDriveResetTimeout_keeps ..
  | .doorbellAddrWrite .. => execDoorbellAddrWrite_keeps ..
  | .lxRegisterWrite .. => execLxRegisterWrite_keeps ..

/-! ### The statement -/

/-- Settles O50: a step runs a command on the rest of the queue, by `exec_keepsMem`, or idles. -/
theorem memoriesStayCanonical : Obligations.MemoriesStayCanonical := by
  unfold Obligations.MemoriesStayCanonical
  intro s t hs h
  cases hq : s.pending with
  | nil =>
    rw [step_nil s hq] at h
    cases h
    exact hs
  | cons c r =>
    rw [step_cons s c r hq] at h
    exact (exec_keepsMem c _).memInv t h hs

end Sys2Proof.Proofs
end

section
/-!
PROOFS. The requests of hosts (O24), the persistence commands (O26), keeper cores and the Tree cache (O34), and the steps of COMMIT (O37):
what each operation does where its guard holds, one lemma for each case, and the statements assembled from them.
-/
namespace Sys2Proof.Proofs
open Sys2Proof Sys2Proof.Machine Sys2Proof.Laws

@[simp] theorem sramFound_good (s : State) (gl : Nat) : sramFound s gl .good = s := rfl

/-! ### CXL.mem requests -/

section
variable {s : State} {p ldid tag hpa mask mv n dpa gl : Nat} {data : Bytes}

/-- A write to a line of a region that is not STREAM, or in COMMIT: the Welt's answer, or no credit. -/
theorem hostWrite_welt (ht : target s p ldid hpa = .line n dpa gl)
    (hp : policyAt s n (dpa / 0x200000) ≠ 4 ∨ s.cin.phase = .commit) : hostWrite p ldid tag hpa mask mv data s =
      (acceptWrite (streamTouch (trackLow s p) n gl) (.host p n tag) n gl
        (plineMasked mask ((data ++ List.replicate (64 - data.length) 0).take 64)) (completePair s n (dpa / 0x200000))
        (decide (mv ≠ 1))).getD (emit s (.creditWithheld p)) := by
  have hs : ¬(policyAt s n (dpa / 0x200000) = 4 ∧ s.cin.phase ≠ .commit) := by tauto
  simp only [hostWrite, ht, if_neg hs]
  split <;> rename_i h <;> rw [h] <;> rfl

theorem hostWrite_stream (ht : target s p ldid hpa = .line n dpa gl)
    (hp : policyAt s n (dpa / 0x200000) = 4) (hc : s.cin.phase ≠ .commit) :
    hostWrite p ldid tag hpa mask mv data s = skiveAccept (streamTouch (trackLow s p) n gl) p n tag gl
      (plineMasked mask ((data ++ List.replicate (64 - data.length) 0).take 64)) := by
  simp only [hostWrite, ht, if_pos (And.intro hp hc)]

theorem hostWrite_refused {ld : Option Nat} {cause : Nat} (ht : target s p ldid hpa = .refuse ld cause) (hm : s.boot.mode ≠ .compat) :
    hostWrite p ldid tag hpa mask mv data s = emit (refuseCount s p ld cause) (.writeDone p (ld.getD 0x3F) tag) := by
  simp only [hostWrite, ht, if_neg hm]

theorem hostWrite_withheld (ht : target s p ldid hpa = .withheld) :
    hostWrite p ldid tag hpa mask mv data s = emit s (.creditWithheld p) := by
  simp only [hostWrite, ht]
end

/-- Settles O24: a request goes where `target` says, and a write to a line where the policy of its region says. -/
theorem hostRequests : Obligations.HostRequests := by
  unfold Obligations.HostRequests
  refine ⟨?_, ?_, ?_, ?_, ?_, ?_⟩
  · intro port ldid tag hpa mask mv data s t n dpa gl ht hp ha
    rw [exec_hostWrite, execHostWrite, hostWrite_welt ht hp, ha, Option.getD_some]
  · intro port ldid tag hpa mask mv data s n dpa gl ht hp ha
    rw [exec_hostWrite, execHostWrite, hostWrite_welt ht hp, ha, Option.getD_none]
  · intro port ldid tag hpa mask data s n dpa gl ht hp hc
    rw [exec_streamWrite, execStreamWrite, hostWrite_stream ht hp hc]
  · intro port ldid tag hpa mv s n dpa gl ht hm
    simp [execHostRead, ht, hm]
  · intro port ldid tag hpa mask mv data err s ld cause ht hm
    refine ⟨?_, ?_, ?_⟩
    · rw [exec_hostWrite, execHostWrite, hostWrite_refused ht hm]
    · rw [exec_streamWrite, execStreamWrite, hostWrite_refused ht hm]
    · simp only [exec_hostRead, execHostRead, ht]
  · intro port ldid tag hpa mask mv data err s ht
    refine ⟨?_, ?_, ?_⟩
    · rw [exec_hostWrite, execHostWrite, hostWrite_withheld ht]
    · rw [exec_streamWrite, execStreamWrite, hostWrite_withheld ht]
    · simp only [exec_hostRead, execHostRead, ht]

/-! ### Barriers and releases -/

section
variable {s : State} {id : Nat} {b : Barrier}

theorem barrierEnd_reached (hf : s.per.barriers.find? (fun b => b.id = id) = some b) (hb : barrierBehind s b = false)
    (hr : barrierReached s b = true) (ht : b.twinTag.isNone || b.twinStatus.isSome) :
    exec (.barrierEnd id) s = .next (endBarrier s b (b.twinStatus.getD .ok)) := by
  simp only [exec_barrierEnd, execBarrierEnd, hf, hr, hb, ht, Bool.not_false, Bool.and_self, if_true]

theorem barrierEnd_waiting (hf : s.per.barriers.find? (fun b => b.id = id) = some b) (hr : barrierReached s b = false) :
    exec (.barrierEnd id) s = .next s := by
  simp [execBarrierEnd, hf, hr]
end

/-- Settles O26: each clause decides the guard of its command. -/
theorem persistenceCommands : Obligations.PersistenceCommands := by
  unfold Obligations.PersistenceCommands
  refine ⟨?_, ?_, ?_, ?_, ?_, ?_, ?_, ?_, ?_⟩
  · intro line s t e hf hp ht hc
    simp [execSkiveClose, hf, hp, Nat.not_lt.mpr ht, hc]
  · intro line s e hf h
    simp only [exec_skiveClose, execSkiveClose, hf, if_pos h]
  · intro line s e hf
    refine ⟨fun hr => ?_, fun hr => ?_⟩
    all_goals simp [execWeltRelease, hf, hr]
  · intro id s b hf hb
    refine ⟨fun hr ht => ?_, fun x hr hx => ?_, barrierEnd_waiting hf⟩
    · exact barrierEnd_reached hf hb hr (by simp [ht])
    · simpa [hx] using barrierEnd_reached hf hb hr (by simp [hx])
  · intro id s b hf
    refine ⟨fun ht => ?_, fun ht => ?_⟩
    · simp only [exec_barrierTimeout, execBarrierTimeout, hf, if_neg (Nat.not_lt.mpr ht)]
    · simp only [exec_barrierTimeout, execBarrierTimeout, hf, if_pos ht]
  · intro s hc ht
    have hg : ¬(s.cin.phase ≠ .commit ∨ s.time < s.cin.commitAt + usec 100) := by simp [hc, ht]
    refine ⟨fun hl => ?_, fun hl => ?_⟩
    · simp only [exec_commitBarrierCutoff, execCommitBarrierCutoff, if_neg hg, if_neg hl]
    · simp only [exec_commitBarrierCutoff, execCommitBarrierCutoff, if_neg hg, if_pos hl]
  · intro s hc
    simp [execCommitBarrierCutoff, hc]
  · intro p s hc
    simp [execGpfPhase1, execGpfPhase2, gpf, hc]
  · intro p s hc
    simp [execGpfPhase1, execGpfPhase2, gpf, hc]

/-! ### Fences -/

theorem fenceRun_core (c : Nat) (full : Bool) (s : State) : fenceRun c ⟨full, 0⟩ s =
    if (coreOf s c).uncached = [] ∨ full = false then emit (coreSet s c { coreOf s c with fence := none }) (.fenceDone c)
    else coreSet s c { coreOf s c with fence := some ⟨full, 0⟩ } := by
  simp [fenceRun, fenceMet]

/-- A fence of cluster scope, or a store fence of system scope, that the drained buffers meet. -/
theorem fenceRun_drained {c : Nat} {f : KFence} {s : State} (h0 : f.scope ≠ 0) (h2 : ¬(f.scope = 2 ∧ f.full = true))
    (hm : fenceMet (combineDrain (drainStores s c 16) c 8) c f = true) : fenceRun c f s =
      emit (coreSet (combineDrain (drainStores s c 16) c 8) c { coreOf (combineDrain (drainStores s c 16) c 8) c with fence := none })
        (.fenceDone c) := by
  simp only [fenceRun, if_neg h0, if_neg h2, if_pos hm]

/-- A full fence of system scope also applies the pending invalidations. -/
theorem fenceRun_system {c : Nat} {s v : State}
    (hv : v = coreSet (combineDrain (drainStores s c 16) c 8) c { coreOf (combineDrain (drainStores s c 16) c 8) c with pendInv := [] })
    (hm : fenceMet v c ⟨true, 2⟩ = true) :
    fenceRun c ⟨true, 2⟩ s = emit (coreSet v c { coreOf v c with fence := none }) (.fenceDone c) := by
  subst hv
  simp only [fenceRun, OfNat.ofNat_ne_zero, if_false, and_self, if_true, hm]

/-! ### Maintenance of the Tree cache -/

theorem maintStart_running {s : State} {r : Nat × Nat × Nat} (op : Nat) (h : s.tree.maintOp = some r) : maintStart op s = s := by
  simp [maintStart, h]

theorem maintStart_range {s : State} (op : Nat) (hn : s.tree.maintOp = none) (hc : s.cin.phase ≠ .commit)
    (hle : (maintRange s).1 ≤ (maintRange s).2) (hlt : (maintRange s).2 < 2 ^ 37) : maintStart op s =
      { wr (wr (wr s Reg.TRE_MAINT_CTRL_OP op) Reg.TRE_MAINT_CTRL_ABORT_RESULT 0) Reg.TRE_MAINT_CTRL_STATUS 0 with
        tree := { s.tree with maintOp := some (op, maintRange s) } } := by
  have hr : ¬((maintRange s).2 < (maintRange s).1 ∨ 2 ^ 37 ≤ (maintRange s).2) := by omega
  simp only [maintStart, hn, Option.isSome_none, Bool.false_eq_true, if_false, if_neg hc, if_neg hr]
  rfl

theorem maintStart_commit {s : State} (op : Nat) (hn : s.tree.maintOp = none) (hc : s.cin.phase = .commit) : maintStart op s =
    wr (wr (wr s Reg.TRE_MAINT_CTRL_OP op) Reg.TRE_MAINT_CTRL_ABORT_RESULT 0) Reg.TRE_MAINT_CTRL_STATUS 0x70 := by
  simp [maintStart, hn, hc, statusCode]

/-- Settles O34: each clause decides the guard of its command. -/
theorem keeperAndTreeCommands : Obligations.KeeperAndTreeCommands := by
  unfold Obligations.KeeperAndTreeCommands
  refine ⟨?_, ?_, ?_, ?_, ?_, ?_, ?_, ?_, ?_, ?_, ?_, ?_⟩
  · intro c line off b s hf hl
    simp only [exec_nonTemporalStore, execNonTemporalStore, hf, if_pos hl]
  · intro c addr w s
    refine ⟨fun h => ?_, fun h => ?_⟩
    · simp [execUncachedAccess, Nat.not_le.mpr h]
    · simp [execUncachedAccess, h]
  · intro c s
    refine ⟨fun h => ?_, fun h => ?_, ?_⟩
    all_goals simp [execFenceFCore, execFenceSCore, fenceRun_core, *]
  · intro c s u v
    refine ⟨fun h => ?_, fun h => ?_, fun h => ?_, fun h => ?_⟩
    · rw [exec_fenceFClu, execFenceFClu, fenceRun_drained (by decide) (by decide) h]
    · rw [exec_fenceFSys, execFenceFSys, fenceRun_system rfl h]
    · rw [exec_fenceSClu, execFenceSClu, fenceRun_drained (by decide) (by decide) h]
    · rw [exec_fenceSSys, execFenceSSys, fenceRun_drained (by decide) (by decide) h]
  · intro line t u d p s hf hst ha hu hw
    simp [execTreeFillDone, hf, hst, ha, hu, hw]
  · intro line s hf
    simp [execTreeFillDone, hf]
  · intro e s hw
    simp [execTreeWalkDone, hw]
  · intro e w s hw he
    simp [execTreeWalkDone, hw, he]
  · intro s hn hc hle hlt go
    simp only [exec_clean, execClean, exec_cleanInv, execCleanInv, exec_inv, execInv, maintStart_range _ hn hc hle hlt]
    exact ⟨rfl, rfl, rfl⟩
  · intro s hn hc
    rw [exec_clean, execClean, maintStart_commit 0 hn hc]
  · intro op lo hi s hr
    refine ⟨?_, ?_, ?_, ?_, ?_⟩
    · rw [exec_clean, execClean, maintStart_running 0 hr]
    · rw [exec_cleanInv, execCleanInv, maintStart_running 1 hr]
    · rw [exec_inv, execInv, maintStart_running 2 hr]
    · simp [execTreMaintDone, hr, statusCode]
    · simp [execTreMaintAbort, hr, statusCode]
  · intro k s hn
    simp [execTreMaintAbort, execTreMaintDone, hn, statusCode]

/-! ### COMMIT -/

theorem drainDone_of_empty {s : State} (hg : s.cin.granules = []) (hs : s.awl.stripes = []) (hc : s.cin.chunks = [])
    (hw : s.per.welt = []) : drainDone s = true := by
  simp [drainDone, hg, hs, hc, hw]

theorem drainDone_of_granules {s : State} (hg : s.cin.granules ≠ []) : drainDone s = false := by
  simp [drainDone, hg]

theorem flushDone_of_clean {s : State} (hw : s.per.welt = [] ∨ s.boot.stage < 11) (hs : s.per.skive = [])
    (ht : ∀ t ∈ s.tree.lines, t.st ≠ .dirty) (hb : s.tree.wbb = []) : flushDone s = true := by
  simpa [flushDone, hs, hb, hw] using ht

theorem flushDone_of_dirty {s : State} (h : s.per.skive ≠ [] ∨ s.tree.wbb ≠ [] ∨ ∃ t ∈ s.tree.lines, t.st = .dirty) :
    flushDone s = false := by
  rw [Bool.eq_false_iff]
  intro hd
  simp only [flushDone, Bool.and_eq_true, List.isEmpty_iff, List.all_eq_true, decide_eq_true_eq] at hd
  obtain ⟨⟨⟨-, hs⟩, ht⟩, hb⟩ := hd
  rcases h with h | h | ⟨t, hm, h⟩
  · exact h hs
  · exact h hb
  · exact ht t hm h

theorem allAnswered_iff (s : State) : allAnswered s = true ↔ s.host.reads = [] ∧ s.host.writes = [] ∧ s.per.barriers = [] := by
  simp [allAnswered, and_assoc]

theorem journalWritten_iff (s : State) : journalWritten s = true ↔ 3 ≤ s.cin.journalCopies ∨ journalOut s = false := by
  simp [journalWritten]

theorem railsDown_iff (s : State) :
    railsDown s = true ↔ ∀ e ∈ s.ham.rails, e.2.en = false ∧ (e.2.pg = false ∨ e.2.stuck = true) := by
  simp [railsDown]

@[simp] theorem dirtyShutdown_early (s : State) : (dirtyShutdown s).cin.early = s.cin.early := by
  unfold dirtyShutdown
  refine foldl_kept (fun s => s.cin.early) _ (fun t n => ?_) _ s
  rfl

/-- Settles O37: COMMIT_STEP_END by the step and its end condition; the other two commands by their guards. -/
theorem commitSteps : Obligations.CommitSteps := by
  unfold Obligations.CommitSteps
  refine ⟨?_, ?_, ?_, ?_, ?_, ?_⟩
  · intro s hc
    simp [execCommitStepEnd, hc]
  · intro s hc
    refine ⟨?_, ?_, ?_, ?_, ?_, ?_, ?_, ?_, ?_, ?_, ?_, ?_⟩
    · intro h
      simp [execCommitStepEnd, hc, h]
    · intro h hr hw hb
      simp [execCommitStepEnd, hc, h, (allAnswered_iff s).2 ⟨hr, hw, hb⟩]
    · intro h hn
      have ha : ¬allAnswered s = true := by
        rw [allAnswered_iff]
        tauto
      simp [execCommitStepEnd, hc, h, ha]
    · intro h hw hs ht hb
      simp [execCommitStepEnd, hc, h, flushDone_of_clean hw hs ht hb]
    · intro h hd
      simp [execCommitStepEnd, hc, h, flushDone_of_dirty hd]
    · intro h hg hs hk hw
      simp [execCommitStepEnd, hc, h, drainDone_of_empty hg hs hk hw]
    · intro h hg hs
      simp [execCommitStepEnd, hc, h, drainDone_of_granules hg, hs]
    · intro h hg hs
      simp [execCommitStepEnd, hc, h, drainDone_of_granules hg, hs]
    · intro h hj
      simp [execCommitStepEnd, hc, h, (journalWritten_iff s).2 hj]
    · intro h hl ho
      have hj : ¬journalWritten s = true := by
        simp [journalWritten_iff, ho, hl]
      simp [execCommitStepEnd, hc, h, hj]
    · intro h hr
      simp [execCommitStepEnd, hc, h, (railsDown_iff s).2 hr]
    · rintro h ⟨e, he, hon⟩
      have hr : ¬railsDown s = true := fun hd => by simp [((railsDown_iff s).1 hd e he).1] at hon
      simp [execCommitStepEnd, hc, h, hr]
  · exact fun s => ⟨rfl, rfl, rfl, dirtyShutdown_early _⟩
  · intro m v s hm hd
    refine ⟨fun hv => ?_, fun hv => ?_⟩
    all_goals simp [execSwCommit, hm, hd, hv]
  · intro s hq hg hs
    simp only [exec_requalPowerUp, execRequalPowerUp, if_pos (And.intro hq (And.intro hg hs))]
  · intro s h
    have hg : ¬(s.ham.seq = .requal ∧ s.ham.goodSince.isSome = true ∧ supplyGood s = true) := by
      rintro ⟨hq, -, hs⟩
      simp [hq, hs] at h
    simp only [exec_requalPowerUp, execRequalPowerUp, if_neg hg]

end Sys2Proof.Proofs
end

section
/-!
PROOFS. What the operations and the commands keep of the line clock (for O51 and O53 to O55). One lemma for each operation of the model, in
the model's order: `op_lck` says that the operation leaves the whole clock, `op_clockFace` that it leaves state, listening, phase and count,
and `execX_steady` that a command does. The few commands that move the clock follow in the next part.
`simp -implicitDefEqProofs` stands where the kernel would otherwise unfold an operation to check a rewrite by `rfl`.
-/
namespace Sys2Proof.Proofs
open Sys2Proof Sys2Proof.Machine Sys2Proof.Laws

/-- Of the line clock what the invariants and the timestamp speak of: state, listening, phase and count. -/
def clockFace (c : LineClock) : LckState × Bool × Nat × Nat := (c.state, c.listening, c.phase, c.count)

@[simp] theorem lck_ite (c : Prop) [Decidable c] (s t : State) : (if c then s else t).lck = if c then s.lck else t.lck :=
  apply_ite State.lck ..

@[simp] theorem clockFace_ite (c : Prop) [Decidable c] (a b : LineClock) :
    clockFace (if c then a else b) = if c then clockFace a else clockFace b :=
  apply_ite clockFace ..

theorem ite_lck {c : Prop} [Decidable c] {s a b : State} (ha : a.lck = s.lck) (hb : b.lck = s.lck) :
    (if c then a else b).lck = s.lck := by
  simp [ha, hb]

theorem lck_getD {s : State} {o : Option State} (h : ∀ t, o = some t → t.lck = s.lck) : (o.getD s).lck = s.lck := by
  cases o with
  | none => rfl
  | some t => exact h t rfl

/-- A loop that carries a value beside the state. -/
theorem foldl_snd_lck {α β : Type} {f : β × State → α → β × State} {l : List α} {s : State} {p : β × State} (h0 : p.2.lck = s.lck)
    (h : ∀ p a, (f p a).2.lck = p.2.lck) : (l.foldl f p).2.lck = s.lck :=
  List.foldlRecOn (motive := fun p => p.2.lck = s.lck) l f h0 fun p hp a _ => (h p a).trans hp

/-- A chain of steps each of which may refuse: where none refuses, what each step keeps stands at the end. -/
theorem foldl_bind_lck {α : Type} {f : State → α → Option State} (hf : ∀ u a t, f u a = some t → t.lck = u.lck) {l : List α} {s u t : State}
    (h0 : u.lck = s.lck) (h : l.foldl (fun (o : Option State) a => o.bind (fun v => f v a)) (some u) = some t) : t.lck = s.lck := by
  refine List.foldlRecOn (motive := fun o => ∀ t, o = some t → t.lck = s.lck) l _ ?_ ?_ t h
  · intro t ht
    cases ht
    exact h0
  · intro o ho a _ t ht
    obtain ⟨v, hv, hva⟩ := Option.bind_eq_some_iff.1 ht
    exact (hf v a t hva).trans (ho v hv)

/-- A command that leaves the line clock's face as it was; most commands leave the whole clock. -/
structure Steady (s : State) (o : Host.Outcome State Fault Refusal) : Prop where
  face_eq : ∀ t, o = .next t → clockFace t.lck = clockFace s.lck

@[simp] theorem steady_next (s t : State) : Steady s (.next t) ↔ clockFace t.lck = clockFace s.lck :=
  ⟨fun h => h.face_eq t rfl, fun h => ⟨fun _ hu => by cases hu; exact h⟩⟩

theorem Steady.of_lck {s t : State} (h : t.lck = s.lck) : Steady s (.next t) := by
  simp [h]

/-! ### Machine/Operands -/

theorem masterRefused_lck {s t : State} {m off : Nat} (h : masterRefused s m off = some t) : t.lck = s.lck := by
  unfold masterRefused at h
  split at h
  · cases h
    simp
  · split at h <;> cases h
    simp

/-! ### Machine/PersistOps -/

theorem acceptWrite_lck {s t : State} {who : Writer} {ld gl : Nat} {data : PLine} {pair setB : Bool}
    (h : acceptWrite s who ld gl data pair setB = some t) : t.lck = s.lck := by
  unfold acceptWrite at h
  split at h
  · extract_lets _q _wid _mir _per s1 s2 s3 s4 _who at h
    have h3 : s3.lck = s.lck := by
      dsimp only [s3]
      split <;> simp [s2, s1]
    split at h
    rename_i h5
    cases h
    simp [eq_snd h5, s4, h3]
  · cases h

theorem skiveClose_lck {s t : State} {e : SkiveLine} (h : skiveClose s e = some t) : t.lck = s.lck := by
  unfold skiveClose at h
  split at h
  · cases h
    simp
  · cases h

/-! ### Machine/Reaction -/

@[simp] theorem skiveCloseWhere_lck (s : State) (p : SkiveLine → Bool) : (skiveCloseWhere s p).lck = s.lck :=
  foldl_lck _ _ s fun _ _ => lck_getD fun _ => skiveClose_lck

@[simp] theorem startBarrier_lck (s : State) (by_ : BarrierBy) (ld scope level : Nat) :
    (startBarrier s by_ ld scope level).lck = s.lck := by simp [startBarrier]

@[simp] theorem enterCommit_lck (s : State) (trig : Nat) : (enterCommit s trig).lck = s.lck := by simp [enterCommit]

@[simp] theorem commitTrigger_lck (s : State) (trig : Nat) : (commitTrigger s trig).lck = s.lck := by
  unfold commitTrigger
  split <;> simp

@[simp] theorem warmCauseSet_lck (s : State) (c : WarmCause) : (warmCauseSet s c).lck = s.lck := by
  unfold warmCauseSet
  split <;> simp

@[simp] theorem startWarmReset_lck (s : State) (c : WarmCause) : (startWarmReset s c).lck = s.lck := by simp [startWarmReset]

@[simp] theorem reactS5_lck (s : State) (u : FUnit) (inst : Nat) : (reactS5 s u inst).lck = s.lck := by simp [reactS5]

@[simp] theorem reactS4_lck (s : State) (u : FUnit) (inst : Nat) : (reactS4 s u inst).lck = s.lck := by simp [reactS4]

@[simp] theorem gradeFault_lck (s0 : State) (u : FUnit) (code inst sev rung : Nat) : (gradeFault s0 u code inst sev rung).lck = s0.lck := by
  unfold gradeFault
  repeat' split
  all_goals simp

@[simp] theorem reportFault_lck (s : State) (u : FUnit) (code inst sev : Nat) (items : Bytes) :
    (reportFault s u code inst sev items).lck = s.lck := by simp [reportFault]

@[simp] theorem fault_lck (s : State) (u : FUnit) (ev : Ev) (inst : Nat) (items : Bytes) :
    (fault s u ev inst items).lck = s.lck := by simp [fault]

/-! ### Machine/Tree -/

theorem execTreeFillDone_steady (line : Nat) (s : State) : Steady s (execTreeFillDone line s) := by
  simp only [execTreeFillDone]
  repeat' split
  all_goals simp

theorem execTreeWalkDone_steady (e : Nat) (s : State) : Steady s (execTreeWalkDone e s) := by simp [execTreeWalkDone]

theorem execClean_steady (s : State) : Steady s (execClean s) := by simp [execClean]

theorem execCleanInv_steady (s : State) : Steady s (execCleanInv s) := by simp [execCleanInv]

theorem execInv_steady (s : State) : Steady s (execInv s) := by simp [execInv]

theorem execTreMaintAbort_steady (reached : Nat) (s : State) : Steady s (execTreMaintAbort reached s) := by
  unfold execTreMaintAbort
  split <;> simp

theorem execTreMaintDone_steady (s : State) : Steady s (execTreMaintDone s) := by
  unfold execTreMaintDone
  split <;> simp

/-! ### Machine/DramCtl -/

theorem execDramArbitrate_steady (ch : Fin 16) (subB : Bool) (s : State) : Steady s (execDramArbitrate ch subB s) := by
  simp only [execDramArbitrate]
  repeat' split
  all_goals simp

theorem execDramWriteEnqueue_steady (line : Nat) (s : State) : Steady s (execDramWriteEnqueue line s) := by
  unfold execDramWriteEnqueue
  split <;> simp

@[simp] theorem countDevice_lck (s : State) (ch rank dev : Nat) : (countDevice s ch rank dev).lck = s.lck := by simp [countDevice]

@[simp] theorem correctLine_lck (s : State) (ch line dev rank : Nat) (data : Bytes) :
    (correctLine s ch line dev rank data).lck = s.lck := by simp -implicitDefEqProofs [correctLine]

@[simp] theorem mapLineLost_lck (s : State) (k : Nat) : (mapLineLost s k).lck = s.lck := by simp [mapLineLost]

@[simp] theorem resolveLine_lck (s : State) (ch line : Nat) (pool map : Option Nat) : (resolveLine s ch line pool map).lck = s.lck := by
  simp only [resolveLine]
  repeat' split
  all_goals simp

@[simp] theorem retireFrame_lck (s : State) (ch line : Nat) : (retireFrame s ch line).lck = s.lck := by
  unfold retireFrame
  split <;> simp

theorem execDramReadReturn_steady (ch : Fin 16) (subB : Bool) (res : EccResult) (pool map : Option Nat) (s : State) :
    Steady s (execDramReadReturn ch subB res pool map s) := by
  simp only [execDramReadReturn]
  repeat' split
  all_goals simp

theorem execDramRefreshDue_steady (ch : Fin 16) (subB : Bool) (s : State) :
    Steady s (execDramRefreshDue ch subB s) := by simp [execDramRefreshDue]

theorem execDimmTempPoll_steady (ch : Fin 16) (dimm : Fin 2) (first retry : SmbAnswer) (s : State) :
    Steady s (execDimmTempPoll ch dimm first retry s) := by
  simp only [execDimmTempPoll]
  repeat' split
  all_goals simp

theorem execDramRetrainDone_steady (ch : Fin 16) (pass : Bool) (s : State) :
    Steady s (execDramRetrainDone ch pass s) := by simp [execDramRetrainDone]

@[simp] theorem scrubChan_lck (s : State) (ch : Nat) : (scrubChan s ch).lck = s.lck := by simp [scrubChan]

@[simp] theorem scrubTick_lck (s : State) : (scrubTick s).lck = s.lck := by simp [scrubTick]

/-! ### Machine/SramOps -/

@[simp] theorem weltOutcome_lck (s : State) (gl : Nat) (skive poisoned : Bool) :
    (weltOutcome s gl skive poisoned).lck = s.lck := by simp [weltOutcome]

@[simp] theorem weltError_lck (s : State) (gl k : Nat) (unc : Bool) : (weltError s gl k unc).lck = s.lck := by simp [weltError]

@[simp] theorem weltRepaired_lck (s : State) (r : WeltRepair) (b : Option Byte) : (weltRepaired s r b).lck = s.lck := by
  unfold weltRepaired
  repeat' split
  all_goals simp

@[simp] theorem treeCorrected_lck (s : State) (t : TreeLine) : (treeCorrected s t).lck = s.lck := by simp [treeCorrected]

@[simp] theorem treePoisoned_lck (s : State) (dl : Nat) : (treePoisoned s dl).lck = s.lck := by
  unfold treePoisoned
  split <;> simp

@[simp] theorem treeUncorrectable_lck (s : State) (t : TreeLine) (stateLost : Bool) : (treeUncorrectable s t stateLost).lck = s.lck := by
  simp only [treeUncorrectable]
  repeat' split
  all_goals simp

@[simp] theorem treeRepaired_lck (s : State) (ch dl : Nat) (data : Bytes) : (treeRepaired s ch dl data).lck = s.lck := by
  simp only [treeRepaired]
  repeat' split
  all_goals simp

@[simp] theorem treeRepairLost_lck (s : State) (ch dl : Nat) : (treeRepairLost s ch dl).lck = s.lck := by simp [treeRepairLost]

@[simp] theorem sramFound_lck (s : State) (gl : Nat) (e : SramErr) : (sramFound s gl e).lck = s.lck := by
  unfold sramFound
  repeat' split
  all_goals simp

/-! ### Machine/TwinLink -/

@[simp] theorem poolDrain_lck (s : State) (k : Nat) : (poolDrain s k).lck = s.lck := by
  induction k generalizing s with
  | zero => rfl
  | succ k ih =>
    rw [poolDrain]
    repeat' split
    all_goals simp [ih]

@[simp] theorem mirrorIn_lck (s : State) (f : MirFrame) (code : Nat) : (mirrorIn s f code).lck = s.lck := by simp [mirrorIn]

theorem execMirror_steady (seq line mask : Nat) (data : Bytes) (s : State) :
    Steady s (execMirror seq line mask data s) := by simp [execMirror]

theorem execMirrorFull_steady (seq line : Nat) (data : Bytes) (s : State) :
    Steady s (execMirrorFull seq line data s) := by simp [execMirrorFull]

theorem execMirrorAck_steady (upto : Nat) (s : State) : Steady s (execMirrorAck upto s) := by simp [execMirrorAck]

theorem execRelease_steady (chunk mask cut : Nat) (s : State) : Steady s (execRelease chunk mask cut s) := by simp [execRelease]

theorem execRepairReq_steady (line tag : Nat) (s : State) : Steady s (execRepairReq line tag s) := by
  unfold execRepairReq
  repeat' split
  all_goals simp

@[simp] theorem repairLost_lck (s : State) (ch : Nat) (r : Repair) : (repairLost s ch r).lck = s.lck := by
  simp only [repairLost]
  repeat' split
  all_goals simp

theorem execRepairRsp_steady (tag mask : Nat) (data : Bytes) (s : State) : Steady s (execRepairRsp tag mask data s) := by
  unfold execRepairRsp
  repeat' split
  all_goals simp

theorem execRemirror_steady (line : Nat) (s : State) : Steady s (execRemirror line s) := by
  unfold execRemirror
  repeat' split
  all_goals simp

theorem execJournal_steady (seq : Nat) (e : JournalEntry) (s : State) : Steady s (execJournal seq e s) := by simp [execJournal]

theorem execJournalAck_steady (seq : Nat) (s : State) : Steady s (execJournalAck seq s) := by simp -implicitDefEqProofs [execJournalAck]

theorem execZoneReq_steady (wanted : Nat) (s : State) : Steady s (execZoneReq wanted s) := by simp [execZoneReq]

theorem execZoneGrant_steady (zones : List Nat) (epoch : Nat) (s : State) : Steady s (execZoneGrant zones epoch s) := by
  simp [execZoneGrant]

theorem execZoneAck_steady (zones : List Nat) (s : State) : Steady s (execZoneAck zones s) := by simp [execZoneAck]

theorem execBarrierReq_steady (tag level : Nat) (s : State) : Steady s (execBarrierReq tag level s) := by simp [execBarrierReq]

theorem execBarrierDone_steady (tag st : Nat) (s : State) : Steady s (execBarrierDone tag st s) := by simp [execBarrierDone]

theorem execStirrupUp_steady (lanes : Nat) (s : State) : Steady s (execStirrupUp lanes s) := by simp [execStirrupUp]

@[simp] theorem linkLost_lck (s : State) : (linkLost s).lck = s.lck := by simp [linkLost]

theorem execStirrupDown_steady (s : State) : Steady s (execStirrupDown s) := by simp [execStirrupDown]

theorem execStpRetrain_steady (s : State) : Steady s (execStpRetrain s) := by simp [execStpRetrain]

theorem execHeartbeatLossRetrain_steady (s : State) : Steady s (execHeartbeatLossRetrain s) := by simp [execHeartbeatLossRetrain]

@[simp] theorem startResync_lck (s : State) : (startResync s).lck = s.lck := by
  unfold startResync
  extract_lets _tw s0 s1 _tw1 s2
  have h1 : s1.lck = s.lck := (foldl_lck _ _ s0 fun t gl => by
    repeat' split
    all_goals simp).trans (by simp [s0])
  clear_value s1
  split <;> simp [s2, h1]

@[simp] theorem handshake_lck (s : State) : (handshake s).lck = s.lck := by simp -implicitDefEqProofs [handshake]

theorem execHello_steady (h : HelloFrame) (s : State) : Steady s (execHello h s) := by
  simp only [execHello, steady_next]
  repeat' split
  all_goals simp [clockFace]

@[simp] theorem steerPhase_clockFace (s : State) (h : HeartbeatFrame) : clockFace (steerPhase s h).lck = clockFace s.lck := by
  unfold steerPhase
  dsimp only
  split <;> rfl

theorem execHeartbeat_steady (h : HeartbeatFrame) (s : State) : Steady s (execHeartbeat h s) := by
  unfold execHeartbeat
  rw [steady_next]
  split
  · rfl
  · extract_lets _d _mis _run _tw s1 _lck s2 _lck2 s3 s4 _cin s5
    have h2 : clockFace s2.lck = clockFace s.lck := rfl
    have h3 : clockFace s3.lck = clockFace s2.lck := by
      dsimp only [s3]
      split <;> rfl
    have h4 : clockFace s4.lck = clockFace s3.lck := by simp [s4]
    have h5 : clockFace s5.lck = clockFace s4.lck := by simp [s5]
    clear_value s2 s3 s4 s5
    repeat' split
    all_goals simp [h5, h4, h3, h2]

theorem execHandoverBegin_steady (s : State) : Steady s (execHandoverBegin s) := by
  unfold execHandoverBegin
  repeat' split
  all_goals simp

theorem execHandoverDone_steady (s : State) : Steady s (execHandoverDone s) := by simp [execHandoverDone]

@[simp] theorem claimGo_lck (s : State) : (claimGo s).lck = s.lck := by
  simp only [claimGo]
  repeat' split
  all_goals simp

@[simp] theorem claimStart_lck (s : State) (twinKnown : Bool) : (claimStart s twinKnown).lck = s.lck := by simp [claimStart]

theorem execTwinFailed_steady (s : State) : Steady s (execTwinFailed s) := by simp [execTwinFailed]

theorem execClaimDelayExpired_steady (s : State) : Steady s (execClaimDelayExpired s) := by
  unfold execClaimDelayExpired
  split <;> simp

theorem execReservationPreemptDone_steady (slot : Fin 24) (ok : Bool) (s : State) : Steady s (execReservationPreemptDone slot ok s) := by
  unfold execReservationPreemptDone
  split <;> simp -implicitDefEqProofs

theorem execClaimRetry_steady (s : State) : Steady s (execClaimRetry s) := by
  unfold execClaimRetry
  split <;> simp

theorem execLeaseSlotWrite_steady (s : State) : Steady s (execLeaseSlotWrite s) := by simp -implicitDefEqProofs [execLeaseSlotWrite]

theorem execHandoverLeaseStale_steady (s : State) : Steady s (execHandoverLeaseStale s) := by simp [execHandoverLeaseStale]

theorem execTwinWaitExpired_steady (lease : Option (Nat × Nat)) (s : State) :
    Steady s (execTwinWaitExpired lease s) := by simp [execTwinWaitExpired]

theorem execTwinLeaseRecheck_steady (lease : Option (Nat × Nat)) (s : State) : Steady s (execTwinLeaseRecheck lease s) := by
  unfold execTwinLeaseRecheck
  repeat' split
  all_goals simp

theorem execFailbackReq_steady (s : State) : Steady s (execFailbackReq s) := by simp [execFailbackReq]

theorem execFailbackReady_steady (epoch : Nat) (s : State) :
    Steady s (execFailbackReady epoch s) := by simp -implicitDefEqProofs [execFailbackReady]

theorem execFailbackDone_steady (s : State) : Steady s (execFailbackDone s) := by simp [execFailbackDone]

theorem execViolation_steady (cause code : Nat) (s : State) :
    Steady s (execViolation cause code s) := by simp -implicitDefEqProofs [execViolation]

theorem execPartnerContainmentEnd_steady (p : Partner) (s : State) : Steady s (execPartnerContainmentEnd p s) := by
  unfold execPartnerContainmentEnd
  repeat' split
  all_goals simp

/-! ### Machine/AwlOps -/

@[simp] theorem setUpdate_lck (s : State) (n : Nat) : (setUpdate s n).lck = s.lck := by
  simp only [setUpdate]
  repeat' split
  all_goals simp

@[simp] theorem memberFailed_lck (s : State) (slot cause : Nat) : (memberFailed s slot cause).lck = s.lck := by
  simp only [memberFailed]
  repeat' split
  all_goals simp

theorem takeStripe_lck {s t : State} {n k : Nat} (h : takeStripe s n = some (k, t)) : t.lck = s.lck := by
  unfold takeStripe at h
  dsimp only at h
  split at h
  · cases h
    rfl
  · split at h <;> cases h
    rfl

@[simp] theorem poisonSector_lck (s : State) (n chunk sector : Nat) : (poisonSector s n chunk sector).lck = s.lck := by simp [poisonSector]

/-! ### Machine/Drives -/

theorem execDriveInserted_steady (slot : Fin 24) (info : DriveInfo) (s : State) : Steady s (execDriveInserted slot info s) := by
  unfold execDriveInserted
  repeat' split
  all_goals simp

theorem execDriveRemoved_steady (slot : Fin 24) (s : State) : Steady s (execDriveRemoved slot s) := by
  simp only [execDriveRemoved]
  repeat' split
  all_goals simp

@[simp] theorem readFailed_lck (s : State) (slot n stripe unit sector : Nat) : (readFailed s slot n stripe unit sector).lck = s.lck := by
  unfold readFailed
  repeat' split
  all_goals simp

@[simp] theorem cmdFailed_lck (s : State) (slot sector : Nat) (c : DriveCmd) : (cmdFailed s slot sector c).lck = s.lck := by
  unfold cmdFailed
  split <;> simp

theorem execDriveCommandComplete_steady (slot : Fin 24) (id : Nat) (res : DriveResult) (s : State) :
    Steady s (execDriveCommandComplete slot id res s) := by
  simp only [execDriveCommandComplete]
  repeat' split
  all_goals simp -implicitDefEqProofs

theorem execDriveCommandTimeout_steady (slot : Fin 24) (id : Nat) (s : State) :
    Steady s (execDriveCommandTimeout slot id s) := by simp [execDriveCommandTimeout]

theorem execDriveResetTimeout_steady (slot : Fin 24) (s : State) : Steady s (execDriveResetTimeout slot s) := by
  simp [execDriveResetTimeout]

theorem execReadShortcutExpired_steady (slot : Fin 24) (id : Nat) (s : State) : Steady s (execReadShortcutExpired slot id s) := by
  unfold execReadShortcutExpired
  repeat' split
  all_goals simp

theorem execDriveAsyncEvent_steady (slot : Fin 24) (spareLow readOnly backupFailed : Bool) (s : State) :
    Steady s (execDriveAsyncEvent slot spareLow readOnly backupFailed s) := by simp [execDriveAsyncEvent]

theorem execDriveLinkChange_steady (slot : Fin 24) (up : Bool) (width : Nat) (gen5 : Bool) (s : State) :
    Steady s (execDriveLinkChange slot up width gen5 s) := by simp [execDriveLinkChange]

theorem execDriveLinkDownExpired_steady (slot : Fin 24) (s : State) : Steady s (execDriveLinkDownExpired slot s) := by
  simp only [execDriveLinkDownExpired]
  repeat' split
  all_goals simp

theorem execForceFail_steady (slot : Fin 24) (s : State) : Steady s (execForceFail slot s) := by simp [execForceFail]

theorem execRebuildStart_steady (n : Fin 8) (s : State) : Steady s (execRebuildStart n s) := by
  unfold execRebuildStart
  repeat' split
  all_goals simp

@[simp] theorem rebuildEnd_lck (s : State) (n : Nat) (r : Rebuild) : (rebuildEnd s n r).lck = s.lck := by
  simp only [rebuildEnd]
  repeat' split
  all_goals simp

@[simp] theorem relocateStripe_lck (s : State) (n stripe : Nat) (bad : List (Nat × Nat)) : (relocateStripe s n stripe bad).lck = s.lck := by
  unfold relocateStripe
  extract_lets +onlyGivenNames _live s1
  have h1 : s1.lck = s.lck := foldl_lck _ _ s fun t b => by split <;> simp
  clear_value s1
  simp [h1]

theorem execRebuildStripe_steady (n : Fin 8) (stripe unit : Nat) (readable : Bool) (bad : List (Nat × Nat)) (last : Bool) (s : State) :
    Steady s (execRebuildStripe n stripe unit readable bad last s) := by
  unfold execRebuildStripe
  split <;> simp

/-! ### Machine/Drain -/

@[simp] theorem holdupCheck_lck (s : State) : (holdupCheck s).lck = s.lck := by simp [holdupCheck]

theorem execHoldupSmbusPoll_steady (first retry : SmbAnswer) (s : State) : Steady s (execHoldupSmbusPoll first retry s) := by
  simp only [execHoldupSmbusPoll]
  repeat' split
  all_goals simp

theorem execHoldupSenseSample_steady (uv : Nat) (s : State) : Steady s (execHoldupSenseSample uv s) := by simp [execHoldupSenseSample]

@[simp] theorem cleanChunk_lck (s : State) (c : Nat) : (cleanChunk s c).lck = s.lck := by simp [cleanChunk]

@[simp] theorem takeChunk_lck (s : State) (c : Nat) : (takeChunk s c).lck = s.lck := by simp [takeChunk]

theorem execDrainTakeChunk_steady (s : State) : Steady s (execDrainTakeChunk s) := by
  unfold execDrainTakeChunk
  repeat' split
  all_goals simp

@[simp] theorem zonesExhausted_lck (s : State) : (zonesExhausted s).lck = s.lck := by simp [zonesExhausted]

@[simp] theorem journalFull_lck (s : State) : (journalFull s).lck = s.lck := by simp [journalFull]

theorem execStripeWrite_steady (relocate : Bool) (s : State) : Steady s (execStripeWrite relocate s) := by
  unfold execStripeWrite
  rw [steady_next]
  extract_lets cs
  split
  · simp
  split
  · simp
  dsimp only
  split
  · simp
  split
  · simp
  split <;> rename_i h
  · simp
  · cases relocate <;> simp [takeStripe_lck h]

theorem execStripeCommit_steady (n : Fin 8) (stripe : Nat) (s : State) : Steady s (execStripeCommit n stripe s) := by
  unfold execStripeCommit
  split <;> simp

@[simp] theorem abandonStripe_lck (s : State) (x : Stripe) : (abandonStripe s x).lck = s.lck := by
  simp only [abandonStripe]
  repeat' split
  all_goals simp

theorem execStripeWriteFailed_steady (n : Fin 8) (stripe col : Nat) (s : State) : Steady s (execStripeWriteFailed n stripe col s) := by
  unfold execStripeWriteFailed
  repeat' split
  all_goals simp

theorem execZoneReclaim_steady (zone : Nat) (s : State) : Steady s (execZoneReclaim zone s) := by simp [execZoneReclaim]

/-! ### Machine/HostPorts -/

@[simp] theorem skiveAccept_lck (s : State) (p ld tag gl : Nat) (data : PLine) : (skiveAccept s p ld tag gl data).lck = s.lck := by
  unfold skiveAccept
  extract_lets q make
  have hm : ∀ s0, make = some s0 → s0.lck = s.lck := by
    intro s0 h
    dsimp only [make] at h
    split at h
    · cases h
      rfl
    split at h
    · cases h
      rfl
    split at h
    · exact skiveClose_lck h
    · cases h
  clear_value make
  split
  · simp
  · rename_i s0
    extract_lets _per s1 old d mir e s1a _per1 s2 s3 s4 wid _host s5 s6
    have h2 : s2.lck = s0.lck := by simp [s2, s1a, s1]
    have h3 : s3.lck = s2.lck := by
      dsimp only [s3]
      split <;> simp
    have h4 : s4.lck = s3.lck := by simp [s4]
    have h6 : s6.lck = s4.lck := by simp [s6, s5]
    clear_value s2 s3 s4 s6
    simp [h6, h4, h3, h2, hm s0 rfl]

@[simp] theorem hostWrite_lck (p ldid tag hpa mask meta_ : Nat) (data : Bytes) (s : State) :
    (hostWrite p ldid tag hpa mask meta_ data s).lck = s.lck := by
  unfold hostWrite
  dsimp only
  split
  · simp
  · simp
  · split
    · simp
    · split <;> rename_i h
      · simp [acceptWrite_lck h]
      · simp

theorem execHostWrite_steady (port : Fin 16) (ldid : Fin 16) (tag hpa mask meta_ : Nat) (data : Bytes) (s : State) :
    Steady s (execHostWrite port ldid tag hpa mask meta_ data s) := by simp [execHostWrite]

theorem execStreamWrite_steady (port : Fin 16) (ldid : Fin 16) (tag hpa mask : Nat) (data : Bytes) (s : State) :
    Steady s (execStreamWrite port ldid tag hpa mask data s) := by simp [execStreamWrite]

theorem execHostRead_steady (port : Fin 16) (ldid : Fin 16) (tag hpa meta_ : Nat) (err : SramErr) (s : State) :
    Steady s (execHostRead port ldid tag hpa meta_ err s) := by
  unfold execHostRead
  split <;> simp

theorem execHdmDecoderCommit_steady (n : Fin 64) (idx : Fin 4) (base size skip ways gran : Nat) (bi lock : Bool) (s : State) :
    Steady s (execHdmDecoderCommit n idx base size skip ways gran bi lock s) := by simp [execHdmDecoderCommit]

theorem execHostLinkUp_steady (port : Fin 16) (width : Nat) (rate64 flit68 : Bool) (s : State) :
    Steady s (execHostLinkUp port width rate64 flit68 s) := by simp [execHostLinkUp]

theorem execHostLinkDown_steady (port : Fin 16) (s : State) : Steady s (execHostLinkDown port s) := by simp [execHostLinkDown]

theorem execHptPortEnableChange_steady (port : Fin 16) (on : Bool) (s : State) :
    Steady s (execHptPortEnableChange port on s) := by simp [execHptPortEnableChange]

theorem execHptLdEnableChange_steady (n : Fin 64) (on : Bool) (s : State) :
    Steady s (execHptLdEnableChange n on s) := by simp [execHptLdEnableChange]

theorem execDoorbellAddrWrite_steady (n : Fin 64) (slot : Fin 64) (off value : Nat) (s : State) :
    Steady s (execDoorbellAddrWrite n slot off value s) := by simp [execDoorbellAddrWrite]

theorem execDoorbellRing_steady (n : Fin 64) (slot : Fin 64) (word bits : Nat) (s : State) :
    Steady s (execDoorbellRing n slot word bits s) := by simp [execDoorbellRing]

/-! ### Machine/Objects -/

@[simp] theorem vendorCmd_lck (s : State) (n : Nat) (run : State → State) (h : (run s).lck = s.lck) : (vendorCmd s n run).lck = s.lck := by
  simp [vendorCmd, h]

theorem execObjectCreate_steady (n : Fin 64) (offset size cls policy flags : Nat) (s : State) :
    Steady s (execObjectCreate n offset size cls policy flags s) := by
  refine .of_lck (vendorCmd_lck s n _ ?_)
  dsimp only
  repeat' split
  all_goals simp

@[simp] theorem objectCmd_lck (s : State) (n id : Nat) (run : State → Nat × Nat → State) (h : ∀ r, (run s r).lck = s.lck) :
    (objectCmd s n id run).lck = s.lck := by
  unfold objectCmd
  split
  · simp
  · simp [h]

theorem execObjectDestroy_steady (n : Fin 64) (id : Nat) (s : State) : Steady s (execObjectDestroy n id s) := by simp [execObjectDestroy]

theorem execObjectQuery_steady (n : Fin 64) (id : Nat) (s : State) : Steady s (execObjectQuery n id s) := by simp [execObjectQuery]

theorem execObjectSetPolicy_steady (n : Fin 64) (id policy flags : Nat) (s : State) : Steady s (execObjectSetPolicy n id policy flags s) := by
  refine .of_lck (vendorCmd_lck s n _ (objectCmd_lck s n id _ fun r => ?_))
  split
  · simp
  extract_lets _ten _away _tier s1 s2 s3
  split
  · simp
  have h1 : s1.lck = s.lck := by
    dsimp only [s1]
    split <;> simp
  have h2 : s2.lck = s1.lck := by simp [s2]
  have h3 : s3.lck = s2.lck := by simp [s3]
  clear_value s1 s2 s3
  simp [h3, h2, h1]

theorem execStreamOpen_steady (n : Fin 64) (object desc start window mode flags deadline : Nat) (far : List (Nat × Bytes)) (s : State) :
    Steady s (execStreamOpen n object desc start window mode flags deadline far s) := by
  refine .of_lck (vendorCmd_lck s n _ (objectCmd_lck s n object _ fun r => ?_))
  dsimp only
  repeat' split
  all_goals simp

theorem execStreamClose_steady (n : Fin 64) (id : Nat) (s : State) : Steady s (execStreamClose n id s) := by
  refine .of_lck (vendorCmd_lck s n _ ?_)
  repeat' split
  all_goals simp

theorem execLayerDone_steady (n : Fin 64) (slot : Fin 64) (word : Nat) (s : State) : Steady s (execLayerDone n slot word s) := by
  unfold execLayerDone
  split <;> simp

theorem execStreamDeadline_steady (line : Nat) (s : State) : Steady s (execStreamDeadline line s) := by simp [execStreamDeadline]

theorem execLoadLate_steady (line : Nat) (s : State) : Steady s (execLoadLate line s) := by simp [execLoadLate]

/-! ### Machine/CipherOps -/

@[simp] theorem keyReload_lck (s : State) : (keyReload s).lck = s.lck := by
  unfold keyReload
  split <;> simp

@[simp] theorem coreIsolate_lck (s : State) (c : Nat) : (coreIsolate s c).lck = s.lck := by simp [coreIsolate]

/-! ### Machine/Latigo -/

@[simp] theorem latCmd_lck (s : State) (who : Issuer) (slot tag : Nat) (run : State → Status × (Bytes × State)) (h : (run s).2.2.lck = s.lck) :
    (latCmd s who slot tag run).lck = s.lck := by
  unfold latCmd
  extract_lets own r
  clear_value own
  simp [r, h]

@[simp] theorem no_lck (s : State) (st : Status) : (no s st).2.2.lck = s.lck := by simp [no]

theorem execPdAlloc_steady (who : Issuer) (slot : Fin 128) (tag tenant : Nat) (s : State) : Steady s (execPdAlloc who slot tag tenant s) := by
  refine .of_lck (latCmd_lck s _ _ _ _ ?_)
  repeat' split
  all_goals simp

theorem execPdFree_steady (who : Issuer) (slot : Fin 128) (tag pd : Nat) (s : State) : Steady s (execPdFree who slot tag pd s) := by
  refine .of_lck (latCmd_lck s _ _ _ _ ?_)
  repeat' split
  all_goals simp

theorem execCqCreate_steady (who : Issuer) (slot : Fin 128) (tag owner dpa entries qslot : Nat) (s : State) :
    Steady s (execCqCreate who slot tag owner dpa entries qslot s) := by
  refine .of_lck (latCmd_lck s _ _ _ _ ?_)
  repeat' split
  all_goals simp

theorem execCqDestroy_steady (who : Issuer) (slot : Fin 128) (tag cq : Nat) (s : State) : Steady s (execCqDestroy who slot tag cq s) := by
  refine .of_lck (latCmd_lck s _ _ _ _ ?_)
  repeat' split
  all_goals simp

@[simp] theorem evictFrom_lck (s : State) (ids : List Nat) : (evictFrom s ids).lck = s.lck := by
  induction ids generalizing s with
  | nil => rfl
  | cons id r ih =>
    simp only [evictFrom]
    repeat' split
    all_goals simp [ih]

theorem execContextEvict_steady (s : State) : Steady s (execContextEvict s) := by simp [execContextEvict]

theorem execConnCreate_steady (who : Issuer) (slot : Fin 128) (tag : Nat) (p : ConnParams) (s : State) :
    Steady s (execConnCreate who slot tag p s) := by
  refine .of_lck (latCmd_lck s _ _ _ _ ?_)
  iterate 4
    split
    · simp
  extract_lets s1
  have h1 : s1.lck = s.lck := by simp [s1]
  clear_value s1
  split
  · simp [h1]
  split <;> simp [h1]

@[simp] theorem connCmd_lck (s : State) (who : Issuer) (id : Nat) (run : State → Conn → Status × (Bytes × State))
    (h : ∀ c, (run s c).2.2.lck = s.lck) : (connCmd s who id run).2.2.lck = s.lck := by
  unfold connCmd
  split
  · simp
  · split
    · exact h _
    · simp

theorem execConnModifyError_steady (who : Issuer) (slot : Fin 128) (tag id : Nat) (s : State) :
    Steady s (execConnModifyError who slot tag id s) := by simp [execConnModifyError]

theorem execConnModifyTxKey_steady (who : Issuer) (slot : Fin 128) (tag id key salt : Nat) (s : State) :
    Steady s (execConnModifyTxKey who slot tag id key salt s) := by
  refine .of_lck (latCmd_lck s _ _ _ _ (connCmd_lck s _ _ _ fun c => ?_))
  repeat' split
  all_goals simp

theorem execConnModifyRxKey_steady (who : Issuer) (slot : Fin 128) (tag id phase key : Nat) (s : State) :
    Steady s (execConnModifyRxKey who slot tag id phase key s) := by
  refine .of_lck (latCmd_lck s _ _ _ _ (connCmd_lck s _ _ _ fun c => ?_))
  repeat' split
  all_goals simp

theorem execConnDestroy_steady (who : Issuer) (slot : Fin 128) (tag id : Nat) (s : State) : Steady s (execConnDestroy who slot tag id s) := by
  refine .of_lck (latCmd_lck s _ _ _ _ (connCmd_lck s _ _ _ fun c => ?_))
  repeat' split
  all_goals simp

theorem execRegionRegister_steady (who : Issuer) (slot : Fin 128) (tag owner pd base len acc : Nat) (s : State) :
    Steady s (execRegionRegister who slot tag owner pd base len acc s) := by
  refine .of_lck (latCmd_lck s _ _ _ _ ?_)
  split
  · simp
  split
  · simp
  dsimp only
  split <;> simp

theorem execRegionRevoke_steady (who : Issuer) (slot : Fin 128) (tag rkey : Nat) (s : State) :
    Steady s (execRegionRevoke who slot tag rkey s) := by
  unfold execRegionRevoke
  refine .of_lck ?_
  split
  · refine ite_lck (by simp) (latCmd_lck s _ _ _ _ ?_)
    repeat' split
    all_goals simp
  · simp

theorem execRevokeForced_steady (k : Nat) (s : State) : Steady s (execRevokeForced k s) := by
  simp only [execRevokeForced]
  repeat' split
  all_goals simp

theorem execSqTail_steady (n : Fin 64) (qslot : Nat) (value : Word) (s : State) : Steady s (execSqTail n qslot value s) := by
  unfold execSqTail
  split <;> simp

theorem execRqTail_steady (n : Fin 64) (qslot : Nat) (value : Word) (s : State) : Steady s (execRqTail n qslot value s) := by
  unfold execRqTail
  split <;> simp

theorem execCqHead_steady (n : Fin 64) (qslot : Nat) (value : Word) (s : State) : Steady s (execCqHead n qslot value s) := by
  unfold execCqHead
  split <;> simp

@[simp] theorem startWqe_lck (s : State) (id op : Nat) (far : Bytes) : (startWqe s id op far).lck = s.lck := by
  simp only [startWqe]
  repeat' split
  all_goals simp

theorem execWqeNop_steady (id : Nat) (far : Bytes) (s : State) : Steady s (execWqeNop id far s) := by simp [execWqeNop]

theorem execWqeWrite_steady (id : Nat) (far : Bytes) (s : State) : Steady s (execWqeWrite id far s) := by simp [execWqeWrite]

theorem execWqeRead_steady (id : Nat) (far : Bytes) (s : State) : Steady s (execWqeRead id far s) := by simp [execWqeRead]

theorem execWqeSend_steady (id : Nat) (far : Bytes) (s : State) : Steady s (execWqeSend id far s) := by simp [execWqeSend]

theorem execWqeCas_steady (id : Nat) (far : Bytes) (s : State) : Steady s (execWqeCas id far s) := by simp [execWqeCas]

theorem execWqeFaa_steady (id : Nat) (far : Bytes) (s : State) : Steady s (execWqeFaa id far s) := by simp [execWqeFaa]

theorem execWqeWait_steady (id : Nat) (far : Bytes) (s : State) : Steady s (execWqeWait id far s) := by simp [execWqeWait]

theorem agentWrite_lck {s t : State} {who : Writer} {n dpa : Nat} {data : Bytes} (h : agentWrite s who n dpa data = some t) :
    t.lck = s.lck := by
  unfold agentWrite at h
  exact foldl_bind_lck (fun _ _ _ => acceptWrite_lck) (by simp) h

theorem writeCqe_lck {s t : State} {cq conn wrId op len idx queue : Nat} {st : Status}
    (h : writeCqe s cq conn wrId op len idx queue st = some t) :
    t.lck = s.lck := by
  unfold writeCqe at h
  split at h
  · cases h
    rfl
  · split at h
    · cases h
    · obtain ⟨u, hu, rfl⟩ := Option.map_eq_some_iff.1 h
      exact (agentWrite_lck hu).trans (by simp)

theorem execCqeWrite_steady (id : Nat) (rq : Bool) (far : Bytes) (s : State) : Steady s (execCqeWrite id rq far s) := by
  unfold execCqeWrite
  refine .of_lck ?_
  split
  · simp
  split
  · split
    · simp
    · exact lck_getD fun t h => (writeCqe_lck h).trans (by simp)
  split
  · simp
  split
  · simp
  split
  · simp
  dsimp only
  split
  · simp
  · exact lck_getD fun t h => (writeCqe_lck h).trans (by simp)

theorem execRoceAckReceived_steady (id psn : Nat) (data : Bytes) (s : State) : Steady s (execRoceAckReceived id psn data s) := by
  unfold execRoceAckReceived
  refine .of_lck ?_
  split
  · simp
  split
  · simp
  dsimp only
  split
  · simp
  · exact lck_getD fun t h => (agentWrite_lck h).trans (by simp)

theorem execRoceNakReceived_steady (id : Nat) (kind : NakKind) (s : State) : Steady s (execRoceNakReceived id kind s) := by
  unfold execRoceNakReceived
  repeat' split
  all_goals simp

theorem execRoceAckTimeout_steady (id : Nat) (s : State) : Steady s (execRoceAckTimeout id s) := by
  unfold execRoceAckTimeout
  repeat' split
  all_goals simp

theorem execCnpReceived_steady (id : Nat) (s : State) : Steady s (execCnpReceived id s) := by
  unfold execCnpReceived
  split <;> simp

theorem execCnpRateRecovery_steady (id : Nat) (s : State) : Steady s (execCnpRateRecovery id s) := by
  unfold execCnpRateRecovery
  split <;> simp

theorem msgData_lck {s t : State} {id : Nat} {c : Conn} {p : RxPkt} {m : RxMsg} {owner dpa : Nat}
    (h : msgData s id c p m owner dpa = some t) : t.lck = s.lck := by
  unfold msgData at h
  obtain ⟨u, hu, rfl⟩ := Option.map_eq_some_iff.1 h
  simp [agentWrite_lck hu]

@[simp] theorem rxWrite_lck (s : State) (id : Nat) (c : Conn) (p : RxPkt) : (rxWrite s id c p).lck = s.lck := by
  unfold rxWrite
  split
  · split
    · simp
    · exact lck_getD fun t h => (msgData_lck h).trans (by simp)
  split
  · split
    · exact lck_getD fun t h => msgData_lck h
    · simp
  · simp

@[simp] theorem rxSend_lck (s : State) (id : Nat) (c : Conn) (p : RxPkt) (far : Bytes) : (rxSend s id c p far).lck = s.lck := by
  unfold rxSend
  split
  · simp
  split
  · split
    · simp
    · extract_lets dpa b loc len wrId _rq c1 bad m s1
      clear_value bad
      split
      · simp
      · exact lck_getD fun t h => (msgData_lck h).trans (by simp [s1])
  split
  · exact lck_getD fun t h => msgData_lck h
  · simp

@[simp] theorem rxAtomic_lck (s : State) (id : Nat) (c : Conn) (p : RxPkt) : (rxAtomic s id c p).lck = s.lck := by
  unfold rxAtomic
  split
  · simp
  split
  · simp
  dsimp only
  split
  · simp
  split
  · simp
  · exact lck_getD fun t h => (agentWrite_lck h).trans (by simp)

@[simp] theorem rxServe_lck (s : State) (id : Nat) (p : RxPkt) (far : Bytes) : (rxServe s id p far).lck = s.lck := by
  unfold rxServe
  repeat' split
  all_goals simp

@[simp] theorem rxPark_lck (s : State) (id : Nat) (c : Conn) (p : RxPkt) : (rxPark s id c p).lck = s.lck := by simp [rxPark]

@[simp] theorem rxPacket_lck (s : State) (p : RxPkt) (kind : RxKind) (far : Bytes) : (rxPacket s p kind far).lck = s.lck := by
  simp only [rxPacket]
  repeat' split
  all_goals simp

theorem execRdmaWriteRequest_steady (p : RxPkt) (s : State) : Steady s (execRdmaWriteRequest p s) := by simp [execRdmaWriteRequest]

theorem execRdmaReadRequest_steady (p : RxPkt) (s : State) : Steady s (execRdmaReadRequest p s) := by simp [execRdmaReadRequest]

theorem execSendRequest_steady (p : RxPkt) (far : Bytes) (s : State) : Steady s (execSendRequest p far s) := by simp [execSendRequest]

theorem execCompareAndSwap_steady (p : RxPkt) (s : State) : Steady s (execCompareAndSwap p s) := by simp [execCompareAndSwap]

theorem execFetchAndAdd_steady (p : RxPkt) (s : State) : Steady s (execFetchAndAdd p s) := by simp [execFetchAndAdd]

theorem execContextFetchDone_steady (id took : Nat) (s : State) : Steady s (execContextFetchDone id took s) := by
  unfold execContextFetchDone
  split <;> simp

theorem execEthLinkChange_steady (port : Fin 4) (up : Bool) (s : State) :
    Steady s (execEthLinkChange port up s) := by simp [execEthLinkChange]

/-! ### Machine/Cipher -/

theorem execCipherJobSubmit_steady (cls : Fin 4) (tag owner slot iv du aad : Nat) (data : Bytes) (tagOk : Bool) (s : State) :
    Steady s (execCipherJobSubmit cls tag owner slot iv du aad data tagOk s) := by
  simp only [execCipherJobSubmit]
  repeat' split
  all_goals simp

theorem execCipherJobDone_steady (core : Fin 16) (s : State) : Steady s (execCipherJobDone core s) := by
  unfold execCipherJobDone
  split <;> simp

theorem execCoreIsolated_steady (core : Fin 16) (s : State) : Steady s (execCoreIsolated core s) := by simp [execCoreIsolated]

theorem execKeySlotBroken_steady (slot : Fin 8192) (s : State) : Steady s (execKeySlotBroken slot s) := by
  simp only [execKeySlotBroken]
  repeat' split
  all_goals simp

theorem execKeyLoad_steady (who : Issuer) (cslot : Fin 128) (tag slot tenant : Nat) (persist : Bool) (format usage : Nat) (blob : Bytes)
    (s : State) :
    Steady s (execKeyLoad who cslot tag slot tenant persist format usage blob s) := by
  unfold execKeyLoad
  repeat' split
  all_goals simp

theorem execKeyFree_steady (who : Issuer) (cslot : Fin 128) (tag slot : Nat) (s : State) :
    Steady s (execKeyFree who cslot tag slot s) := by simp [execKeyFree]

/-! ### Machine/Persistence -/

theorem execSkiveClose_steady (line : Nat) (s : State) : Steady s (execSkiveClose line s) := by
  have hc : ∀ e, ((skiveClose s e).getD s).lck = s.lck := fun e => lck_getD fun _ => skiveClose_lck
  unfold execSkiveClose
  split <;> simp [hc]

theorem execWeltRelease_steady (line : Nat) (err : SramErr) (s : State) : Steady s (execWeltRelease line err s) := by
  simp only [execWeltRelease]
  repeat' split
  all_goals simp

theorem execBarrierEnd_steady (id : Nat) (s : State) : Steady s (execBarrierEnd id s) := by
  unfold execBarrierEnd
  split <;> simp

theorem execBarrierTimeout_steady (id : Nat) (s : State) : Steady s (execBarrierTimeout id s) := by
  unfold execBarrierTimeout
  split <;> simp

theorem execCommitBarrierCutoff_steady (s : State) : Steady s (execCommitBarrierCutoff s) := by simp [execCommitBarrierCutoff]

@[simp] theorem gpf_lck (phase port level : Nat) (s : State) : (gpf phase port level s).lck = s.lck := by simp [gpf]

theorem execGpfPhase1_steady (port : Fin 16) (s : State) : Steady s (execGpfPhase1 port s) := by simp [execGpfPhase1]

theorem execGpfPhase2_steady (port : Fin 16) (s : State) : Steady s (execGpfPhase2 port s) := by simp [execGpfPhase2]

/-! ### Machine/Compat -/

theorem execLxRegisterWrite_steady (e : Fin 2) (off : Nat) (value : Word) (s : State) :
    Steady s (execLxRegisterWrite e off value s) := by simp [execLxRegisterWrite]

theorem execLxBankWrite_steady (e : Fin 2) (value : Word) (s : State) : Steady s (execLxBankWrite e value s) := by simp [execLxBankWrite]

theorem execLxRingTailWrite_steady (e : Fin 2) (r : Fin 8) (value : Word) (s : State) :
    Steady s (execLxRingTailWrite e r value s) := by simp [execLxRingTailWrite]

theorem execLxRingReset_steady (e : Fin 2) (s : State) : Steady s (execLxRingReset e s) := by simp [execLxRingReset]

theorem execFunctionLevelReset_steady (e : Fin 2) (s : State) : Steady s (execFunctionLevelReset e s) := by simp [execFunctionLevelReset]

@[simp] theorem zeroLines_lck (e r idx : Nat) (s : State) (dpa stop n : Nat) : (zeroLines e r idx s dpa stop n).2.lck = s.lck := by
  induction n generalizing s dpa with
  | zero => rfl
  | succ n ih =>
    rw [zeroLines]
    split
    · rfl
    split
    · rename_i t h
      exact (ih t _).trans (acceptWrite_lck h)
    · rfl

@[simp] theorem zeroGo_lck (s : State) (e r : Nat) (c : LxCmd) : (zeroGo s e r c).lck = s.lck := by
  unfold zeroGo
  split <;> simp

@[simp] theorem flushGo_lck (s : State) (e r : Nat) (c : LxCmd) : (flushGo s e r c).lck = s.lck := by
  unfold flushGo
  split <;> simp

@[simp] theorem ringGo_lck (e : Nat) (s : State) (r : Nat) : (ringGo e s r).lck = s.lck := by simp [ringGo]

@[simp] theorem lxTick_lck (s : State) (e : Nat) : (lxTick s e).lck = s.lck := by simp [lxTick]

theorem execCompatTick_steady (s : State) : Steady s (execCompatTick s) := by simp [execCompatTick]

@[simp] theorem lxFetch_lck (s : State) (e r op flags : Nat) (run : State → LxCmd → State) (h : ∀ t c, (run t c).lck = t.lck) :
    (lxFetch s e r op flags run).lck = s.lck := by simp [lxFetch, h]

theorem execNop_steady (e : Fin 2) (r : Fin 8) (flags : Nat) (s : State) : Steady s (execNop e r flags s) := by simp [execNop]

@[simp] theorem lxFlush_lck (e r level : Nat) (s : State) (c : LxCmd) : (lxFlush e r level s c).lck = s.lck := by simp [lxFlush]

theorem execFlush_steady (e : Fin 2) (r : Fin 8) (flags : Nat) (s : State) : Steady s (execFlush e r flags s) := by simp [execFlush]

theorem execFlushMedia_steady (e : Fin 2) (r : Fin 8) (flags : Nat) (s : State) :
    Steady s (execFlushMedia e r flags s) := by simp [execFlushMedia]

@[simp] theorem lxZero_lck (e r dpa len : Nat) (s : State) (c : LxCmd) : (lxZero e r dpa len s c).lck = s.lck := by simp [lxZero]

theorem execZero_steady (e : Fin 2) (r : Fin 8) (flags dpa len : Nat) (s : State) :
    Steady s (execZero e r flags dpa len s) := by simp [execZero]

theorem execIdentify_steady (e : Fin 2) (r : Fin 8) (flags hostAddr : Nat) (s : State) :
    Steady s (execIdentify e r flags hostAddr s) := by simp [execIdentify]

theorem execFwDownload_steady (e : Fin 2) (r : Fin 8) (flags : Nat) (s : State) :
    Steady s (execFwDownload e r flags s) := by simp [execFwDownload]

theorem execFwCommit_steady (e : Fin 2) (r : Fin 8) (flags : Nat) (s : State) : Steady s (execFwCommit e r flags s) := by
  simp [execFwCommit]

theorem execLxUnknownOpcode_steady (e : Fin 2) (r : Fin 8) (op : Byte) (flags : Nat) (s : State) :
    Steady s (execLxUnknownOpcode e r op flags s) := by simp [execLxUnknownOpcode]

theorem execLxCommandStatus_steady (e : Fin 2) (r : Fin 8) (s : State) : Steady s (execLxCommandStatus e r s) := by
  simp [execLxCommandStatus]

@[simp] theorem lxAbort_lck (s : State) (e : Nat) : (lxAbort s e).2.lck = s.lck :=
  foldl_snd_lck rfl fun t x => foldl_snd_lck rfl fun u c => by
    split
    · rfl
    · simp

/-! ### Machine/RecorderOps -/

@[simp] theorem sectorErase_lck (s : State) (b k : Nat) : (sectorErase s b k).lck = s.lck := by simp [sectorErase]

@[simp] theorem lastErase_lck (s : State) (k : Nat) : (lastErase s k).lck = s.lck := by simp [lastErase]

@[simp] theorem firstErase_lck (s : State) (k : Nat) : (firstErase s k).lck = s.lck := by simp [firstErase]

theorem lastAdvance_lck {s t : State} (h : lastAdvance s = some t) : t.lck = s.lck := by
  unfold lastAdvance at h
  dsimp only at h
  split at h <;> cases h
  split <;> simp

theorem lastPut_lck {s t : State} {r : Rec} (h : lastPut s r = some t) : t.lck = s.lck := by
  unfold lastPut at h
  obtain ⟨u, hu, rfl⟩ := Option.map_eq_some_iff.1 h
  split at hu
  · cases hu
    simp
  · simp [lastAdvance_lck hu]

@[simp] theorem programOne_lck (s : State) : (programOne s).lck = s.lck := by
  unfold programOne
  split
  · rfl
  split
  · rfl
  split <;> rename_i h
  · rfl
  · simp [lastPut_lck h]

@[simp] theorem programAll_lck (s : State) : (programAll s).lck = s.lck := by simp [programAll]

@[simp] theorem clearBegin_lck (s : State) (route client : Nat) : (clearBegin s route client).lck = s.lck := by simp [clearBegin]

@[simp] theorem clearRecord_lck (s : State) (c : Clearing) : (clearRecord s c).lck = s.lck := by simp [clearRecord]

@[simp] theorem lineReserve_clockFace (s : State) : clockFace (lineReserve s).lck = clockFace s.lck := rfl

@[simp] theorem clearStep_clockFace (s : State) : clockFace (clearStep s).lck = clockFace s.lck := by
  simp only [clearStep]
  repeat' split
  all_goals simp

/-! ### Machine/FlashCmds -/

theorem flsShut_lck {s t : State} {m off : Nat} (h : flsShut s m off = some t) : t.lck = s.lck := by
  unfold flsShut at h
  split at h
  · rename_i hm
    cases h
    exact masterRefused_lck hm
  · split at h <;> cases h
    simp

theorem execFlsBankClaim_steady (m : Fin 11) (b : Fin 4) (s : State) : Steady s (execFlsBankClaim m b s) := by
  unfold execFlsBankClaim
  dsimp only
  split
  · rename_i h
    simp [masterRefused_lck h]
  · simp

theorem execFlsBankRelease_steady (m : Fin 11) (b : Fin 4) (s : State) : Steady s (execFlsBankRelease m b s) := by
  unfold execFlsBankRelease
  split
  · rename_i h
    simp [flsShut_lck h]
  · simp

@[simp] theorem flsIssue_lck (s : State) (m b op : Nat) (run : State → State) (h : ∀ t, (run t).lck = t.lck) :
    (flsIssue s m b op run).lck = s.lck := by
  unfold flsIssue
  split <;> rename_i hs
  · exact flsShut_lck hs
  · simp [h]

theorem execFlashRead_steady (m : Fin 11) (b : Fin 4) (corrected : Bool) (s : State) : Steady s (execFlashRead m b corrected s) := by
  refine .of_lck (flsIssue_lck s _ _ _ _ fun t => ?_)
  dsimp only
  repeat' split
  all_goals simp

theorem execReadWear_steady (m : Fin 11) (b : Fin 4) (s : State) : Steady s (execReadWear m b s) := by simp [execReadWear]

theorem execFlashProgram_steady (m : Fin 11) (b : Fin 4) (s : State) : Steady s (execFlashProgram m b s) := by
  refine .of_lck (flsIssue_lck s _ _ _ _ fun t => ?_)
  dsimp only
  repeat' split
  all_goals simp

theorem execFlashErase_steady (m : Fin 11) (b : Fin 4) (s : State) : Steady s (execFlashErase m b s) :=
  .of_lck (flsIssue_lck s _ _ _ _ fun t => by simp)

theorem execFlashSuspend_steady (m : Fin 11) (b : Fin 4) (s : State) : Steady s (execFlashSuspend m b s) :=
  .of_lck (flsIssue_lck s _ _ _ _ fun t => by simp)

theorem execFlashSuspendEffect_steady (b : Fin 4) (s : State) : Steady s (execFlashSuspendEffect b s) := by simp [execFlashSuspendEffect]

theorem execFlashRunWindowEnd_steady (b : Fin 4) (s : State) : Steady s (execFlashRunWindowEnd b s) := by simp [execFlashRunWindowEnd]

theorem execFlashResume_steady (m : Fin 11) (b : Fin 4) (s : State) : Steady s (execFlashResume m b s) :=
  .of_lck (flsIssue_lck s _ _ _ _ fun t => by simp)

theorem execFlashAbort_steady (m : Fin 11) (b : Fin 4) (s : State) : Steady s (execFlashAbort m b s) := by
  unfold execFlashAbort
  dsimp only
  split
  · rename_i h
    simp [flsShut_lck h]
  · simp

theorem execFlashProgramDone_steady (b : Fin 4) (ok : Bool) (s : State) : Steady s (execFlashProgramDone b ok s) := by
  simp only [execFlashProgramDone]
  repeat' split
  all_goals simp

theorem execFlashEraseDone_steady (b : Fin 4) (ok : Bool) (s : State) : Steady s (execFlashEraseDone b ok s) := by
  simp only [execFlashEraseDone]
  repeat' split
  all_goals simp

theorem execFlsClaimExpired_steady (b : Fin 4) (s : State) : Steady s (execFlsClaimExpired b s) := by simp [execFlsClaimExpired]

/-! ### Machine/FirmwareOps -/

@[simp] theorem imgVerify_lck (s : State) (k : Nat) : (imgVerify s k).2.lck = s.lck := by
  unfold imgVerify
  split <;> simp

@[simp] theorem trialFailed_lck (s : State) (k : Nat) (count : Bool) : (trialFailed s k count).lck = s.lck := by
  unfold trialFailed
  repeat' split
  all_goals simp

@[simp] theorem bootConfirmed_lck (s : State) : (bootConfirmed s).2.lck = s.lck := by
  simp only [bootConfirmed]
  repeat' split
  all_goals simp

@[simp] theorem bootChoose_lck (s : State) : (bootChoose s).2.lck = s.lck := by
  simp only [bootChoose]
  repeat' split
  all_goals simp

@[simp] theorem fwData_lck (s : State) (data : Bytes) : (fwData s data).2.lck = s.lck := by
  simp only [fwData]
  repeat' split
  all_goals simp

@[simp] theorem fwActivate_lck (s : State) (v : Nat) : (fwActivate s v).2.lck = s.lck := by
  simp only [fwActivate]
  repeat' split
  all_goals simp

/-! ### Machine/Firmware -/

theorem execFwConfirmed_steady (s : State) : Steady s (execFwConfirmed s) := by
  unfold execFwConfirmed
  split <;> simp

/-! ### Machine/Ring -/

@[simp] theorem protocolError_lck (s : State) (a st msg line : Nat) : (protocolError s a st msg line).lck = s.lck := by simp [protocolError]

theorem execSnpS_steady (a : Fin 5) (line : Nat) (s : State) : Steady s (execSnpS a line s) := by simp [execSnpS]

theorem execSnpInv_steady (a : Fin 5) (line : Nat) (s : State) : Steady s (execSnpInv a line s) := by simp [execSnpInv]

theorem execDataS_steady (a : Fin 5) (line : Nat) (data : Bytes) (s : State) : Steady s (execDataS a line data s) := by
  unfold execDataS
  split <;> simp

theorem execDataE_steady (a : Fin 5) (line : Nat) (data : Bytes) (s : State) : Steady s (execDataE a line data s) := by
  unfold execDataE
  repeat' split
  all_goals simp

theorem execWbAck_steady (a : Fin 5) (line : Nat) (s : State) : Steady s (execWbAck a line s) := by
  unfold execWbAck
  split <;> simp

theorem execNack_steady (a : Fin 5) (line : Nat) (refused : Bool) (s : State) : Steady s (execNack a line refused s) := by
  unfold execNack
  repeat' split
  all_goals simp

theorem execNackRetryTimer_steady (a : Fin 5) (line : Nat) (s : State) : Steady s (execNackRetryTimer a line s) := by
  unfold execNackRetryTimer
  split <;> simp

theorem execRdS_steady (a : Fin 5) (line : Nat) (prio : Bool) (s : State) : Steady s (execRdS a line prio s) := by simp [execRdS]

theorem execRdX_steady (a : Fin 5) (line : Nat) (prio : Bool) (s : State) : Steady s (execRdX a line prio s) := by simp [execRdX]

theorem execWb_steady (a : Fin 5) (line : Nat) (data : Bytes) (s : State) : Steady s (execWb a line data s) := by
  simp only [execWb]
  repeat' split
  all_goals simp

@[simp] theorem homeAnswer_lck (s : State) (a line msg : Nat) (g : State → State) (f : HomeTxn → HomeTxn) (h : (g s).lck = s.lck) :
    (homeAnswer s a line msg g f).lck = s.lck := by
  unfold homeAnswer
  split
  · split <;> simp [h]
  · simp

theorem execAckI_steady (a : Fin 5) (line : Nat) (s : State) : Steady s (execAckI a line s) := by simp [execAckI]

theorem execAckS_steady (a : Fin 5) (line : Nat) (s : State) : Steady s (execAckS a line s) := by simp [execAckS]

theorem execAckData_steady (a : Fin 5) (line : Nat) (data : Bytes) (s : State) : Steady s (execAckData a line data s) := by
  simp [execAckData]

theorem execWbPending_steady (a : Fin 5) (line : Nat) (s : State) : Steady s (execWbPending a line s) := by
  simp -implicitDefEqProofs [execWbPending]

theorem execDone_steady (a : Fin 5) (line : Nat) (s : State) : Steady s (execDone a line s) := by
  unfold execDone
  split <;> simp

theorem execSnoopGuardExpired_steady (a : Fin 5) (line : Nat) (s : State) : Steady s (execSnoopGuardExpired a line s) := by
  unfold execSnoopGuardExpired
  split <;> simp

theorem execBirspi_steady (n : Fin 64) (key : Nat) (s : State) : Steady s (execBirspi n key s) := by
  unfold execBirspi
  split <;> simp

theorem execBiconflict_steady (n : Fin 64) (key : Nat) (s : State) : Steady s (execBiconflict n key s) := by
  unfold execBiconflict
  split <;> simp

theorem execBisnpGuardExpired_steady (n : Fin 64) (key : Nat) (s : State) : Steady s (execBisnpGuardExpired n key s) := by
  unfold execBisnpGuardExpired
  split <;> simp

theorem execAgentLoad_steady (c : Fin 8) (line : Nat) (s : State) : Steady s (execAgentLoad c line s) := by
  simp only [execAgentLoad]
  repeat' split
  all_goals simp

@[simp] theorem drainStores_lck (s : State) (c n : Nat) : (drainStores s c n).lck = s.lck := by
  induction n generalizing s with
  | zero => rfl
  | succ n ih =>
    rw [drainStores]
    split
    · rfl
    split <;> rename_i h <;> simp [ih, eq_snd h]

theorem execAgentStore_steady (c : Fin 8) (addr : Nat) (bytes : Bytes) (s : State) :
    Steady s (execAgentStore c addr bytes s) := by simp [execAgentStore]

theorem execAgentEviction_steady (a : Fin 5) (line : Nat) (s : State) : Steady s (execAgentEviction a line s) := by
  unfold execAgentEviction
  repeat' split
  all_goals simp

/-! ### Machine/KeeperCores -/

@[simp] theorem combineOut_lck (s : State) (c : Nat) (l : Nat × PLine) : (combineOut s c l).2.lck = s.lck := by
  unfold combineOut
  split <;> rename_i h
  · simp [acceptWrite_lck h]
  · simp

@[simp] theorem combineDrain_lck (s : State) (c n : Nat) : (combineDrain s c n).lck = s.lck := by
  induction n generalizing s with
  | zero => rfl
  | succ n ih =>
    rw [combineDrain]
    split
    · rfl
    split <;> rename_i h <;> simp [ih, eq_snd h]

theorem execNonTemporalStore_steady (c : Fin 8) (line off : Nat) (bytes : Bytes) (s : State) :
    Steady s (execNonTemporalStore c line off bytes s) := by
  unfold execNonTemporalStore
  dsimp only
  split
  · simp
  split
  · simp
  split
  · split <;> rename_i h <;> simp [eq_snd h]
  · simp

theorem execUncachedAccess_steady (c : Fin 8) (addr : Nat) (write done : Bool) (s : State) :
    Steady s (execUncachedAccess c addr write done s) := by simp [execUncachedAccess]

@[simp] theorem fenceRun_lck (c : Nat) (f : KFence) (s : State) : (fenceRun c f s).lck = s.lck := by simp [fenceRun]

theorem execFenceFCore_steady (c : Fin 8) (s : State) : Steady s (execFenceFCore c s) := by simp [execFenceFCore]

theorem execFenceFClu_steady (c : Fin 8) (s : State) : Steady s (execFenceFClu c s) := by simp [execFenceFClu]

theorem execFenceFSys_steady (c : Fin 8) (s : State) : Steady s (execFenceFSys c s) := by simp [execFenceFSys]

theorem execFenceSCore_steady (c : Fin 8) (s : State) : Steady s (execFenceSCore c s) := by simp [execFenceSCore]

theorem execFenceSClu_steady (c : Fin 8) (s : State) : Steady s (execFenceSClu c s) := by simp [execFenceSClu]

theorem execFenceSSys_steady (c : Fin 8) (s : State) : Steady s (execFenceSSys c s) := by simp [execFenceSSys]

/-! ### Machine/Recorder -/

theorem execRecordSubmit_steady (code : Fin 65536) (sev : Fin 6) (inst : Byte) (items : Bytes) (s : State) :
    Steady s (execRecordSubmit code sev inst items s) := by simp [execRecordSubmit]

theorem execRecordProgrammed_steady (s : State) : Steady s (execRecordProgrammed s) := by simp [execRecordProgrammed]

theorem execRecorderClearStepEnd_steady (s : State) : Steady s (execRecorderClearStepEnd s) := by simp [execRecorderClearStepEnd]

/-! ### Machine/Faults -/

@[simp] theorem fnAbort_lck (s : State) (f : Fn) : (fnAbort s f).2.lck = s.lck := by
  simp only [fnAbort]
  repeat' split
  all_goals simp

@[simp] theorem unitReset_lck (s0 : State) (f : Fn) : (unitReset s0 f).lck = s0.lck := by
  unfold unitReset
  split <;> simp

@[simp] theorem fnDisable_lck (s : State) (f : Fn) : (fnDisable s f).lck = s.lck := by
  unfold fnDisable
  split <;> simp

theorem execFunctionQuiesced_steady (f : Fn) (s : State) : Steady s (execFunctionQuiesced f s) := by simp [execFunctionQuiesced]

theorem execDisableAbortTimeExpired_steady (f : Fn) (s : State) : Steady s (execDisableAbortTimeExpired f s) := by
  simp [execDisableAbortTimeExpired]

theorem execUnitResetLat_steady (s : State) : Steady s (execUnitResetLat s) := by simp [execUnitResetLat]

theorem execUnitResetBkl_steady (s : State) : Steady s (execUnitResetBkl s) := by simp [execUnitResetBkl]

theorem execUnitResetTir_steady (s : State) : Steady s (execUnitResetTir s) := by simp [execUnitResetTir]

theorem execUnitResetStm_steady (s : State) : Steady s (execUnitResetStm s) := by simp [execUnitResetStm]

theorem execUnitResetFls_steady (s : State) : Steady s (execUnitResetFls s) := by simp [execUnitResetFls]

theorem execUnitResetKcb_steady (s : State) : Steady s (execUnitResetKcb s) := by simp [execUnitResetKcb]

@[simp] theorem guardFault_lck (s : State) (u : FUnit) (inst : Nat) : (guardFault s u inst).lck = s.lck := by simp [guardFault]

theorem execHostGuardExpired_steady (q : HostReq) (s : State) : Steady s (execHostGuardExpired q s) := by
  simp only [execHostGuardExpired]
  repeat' split
  all_goals simp

theorem execEngineWatchdogExpired_steady (e : Engine) (s : State) :
    Steady s (execEngineWatchdogExpired e s) := by simp [execEngineWatchdogExpired]

theorem execKeeperHeartbeatMissed_steady (k : Fin 8) (s : State) :
    Steady s (execKeeperHeartbeatMissed k s) := by simp [execKeeperHeartbeatMissed]

theorem execKeeperReloadDone_steady (k : Fin 8) (s : State) : Steady s (execKeeperReloadDone k s) := by
  simp only [execKeeperReloadDone]
  repeat' split
  all_goals simp

theorem execPommelWatchdog_steady (s : State) : Steady s (execPommelWatchdog s) := by simp [execPommelWatchdog]

theorem execFaultReported_steady (u : FUnit) (code : Fin 65536) (inst : Byte) (sev : Fin 6) (repeatOk : Bool) (s : State) :
    Steady s (execFaultReported u code inst sev repeatOk s) := by simp [execFaultReported]

@[simp] theorem groupEnable_lck (s : State) (g : FGroup) : (groupEnable s g).lck = s.lck := by simp [groupEnable]

theorem execRecoveryWindowClose_steady (sc : Scope) (s : State) : Steady s (execRecoveryWindowClose sc s) := by
  simp [execRecoveryWindowClose]

theorem execWdiToggle_steady (s : State) : Steady s (execWdiToggle s) := by simp [execWdiToggle]

theorem execWdiMissed_steady (s : State) : Steady s (execWdiMissed s) := by simp [execWdiMissed]

/-! ### Machine/Power -/

@[simp] theorem groupsUp_lck (s : State) (gs : List (Nat × (Nat × (Rail → Bool)))) : (groupsUp s gs).2.lck = s.lck := by
  induction gs generalizing s with
  | nil => rfl
  | cons g r ih =>
    rw [groupsUp]
    split
    · exact (ih _).trans (by simp)
    · rfl

@[simp] theorem powerStep_lck (s : State) : (powerStep s).lck = s.lck := by
  simp only [powerStep]
  repeat' split
  all_goals simp

@[simp] theorem powerUpStart_lck (s : State) : (powerUpStart s).lck = s.lck := by simp [powerUpStart]

theorem execCommonStart_steady (s : State) : Steady s (execCommonStart s) := by
  unfold execCommonStart
  repeat' split
  all_goals simp

@[simp] theorem railRetry_lck (s : State) (n : Nat) : (railRetry s n).lck = s.lck := by simp [railRetry]

@[simp] theorem railGroupOff_lck (s : State) (n : Nat) (held : Bool) : (railGroupOff s n held).lck = s.lck := by simp [railGroupOff]

@[simp] theorem railSysReset_lck (s : State) (n : Nat) : (railSysReset s n).lck = s.lck := by simp [railSysReset]

@[simp] theorem railReaction_lck (s : State) (n own r : Nat) (held : Bool) : (railReaction s n own r held).lck = s.lck := by
  unfold railReaction
  repeat' split
  all_goals simp

@[simp] theorem slotFault_lck (s : State) (n : Nat) : (slotFault s n).lck = s.lck := by simp [slotFault]

theorem execRailOnDelay_steady (n : Fin 32) (s : State) : Steady s (execRailOnDelay n s) := by simp [execRailOnDelay]

theorem execRailPgRise_steady (n : Fin 32) (ramp : Nat) (s : State) : Steady s (execRailPgRise n ramp s) := by simp [execRailPgRise]

theorem execRailPgTimeout_steady (n : Fin 32) (s : State) : Steady s (execRailPgTimeout n s) := by simp [execRailPgTimeout]

theorem execRailPgFault_steady (n : Fin 32) (s : State) : Steady s (execRailPgFault n s) := by simp [execRailPgFault]

theorem execRailRetryAttempt_steady (n : Fin 32) (s : State) : Steady s (execRailRetryAttempt n s) := by simp [execRailRetryAttempt]

theorem execRailOffDelay_steady (n : Fin 32) (s : State) : Steady s (execRailOffDelay n s) := by simp [execRailOffDelay]

theorem execRailPgFall_steady (n : Fin 32) (s : State) : Steady s (execRailPgFall n s) := by simp [execRailPgFall]

theorem execRailStuckOn_steady (n : Fin 32) (s : State) : Steady s (execRailStuckOn n s) := by simp [execRailStuckOn]

theorem execDomainSwitchTimeout_steady (d : Fin 92) (s : State) : Steady s (execDomainSwitchTimeout d s) := by
  simp [execDomainSwitchTimeout]

@[simp] theorem railGroupBack_lck (s : State) (g : Nat) : (railGroupBack s g).lck = s.lck := by simp [railGroupBack]

theorem execGroupRetryExpired_steady (g : FGroup) (s : State) : Steady s (execGroupRetryExpired g s) := by
  unfold execGroupRetryExpired
  repeat' split
  all_goals simp

theorem execPsuOkLow_steady (s : State) : Steady s (execPsuOkLow s) := by simp [execPsuOkLow]

theorem execPsuOkHigh_steady (s : State) : Steady s (execPsuOkHigh s) := by simp [execPsuOkHigh]

theorem execPsuOkGlitch_steady (s : State) : Steady s (execPsuOkGlitch s) := by simp [execPsuOkGlitch]

theorem execHoldupLow_steady (s : State) : Steady s (execHoldupLow s) := by simp [execHoldupLow]

theorem execHoldupLowNHigh_steady (s : State) : Steady s (execHoldupLowNHigh s) := by simp [execHoldupLowNHigh]

theorem execHoldupLowNGlitch_steady (s : State) : Steady s (execHoldupLowNGlitch s) := by simp [execHoldupLowNGlitch]

theorem execFaultNExternal_steady (s : State) : Steady s (execFaultNExternal s) := by simp [execFaultNExternal]

theorem execFaultNReleased_steady (s : State) : Steady s (execFaultNReleased s) := by simp [execFaultNReleased]

theorem execFaultNGlitch_steady (s : State) : Steady s (execFaultNGlitch s) := by simp [execFaultNGlitch]

theorem execSysclkLoss_steady (s : State) : Steady s (execSysclkLoss s) := by simp [execSysclkLoss]

theorem execSysclkReturn_steady (s : State) : Steady s (execSysclkReturn s) := by simp [execSysclkReturn]

theorem execRefclkLoss_steady (which : Fin 5) (s : State) : Steady s (execRefclkLoss which s) := by simp [execRefclkLoss]

/-! ### Machine/Resets -/

theorem porstReset_lck (s : State) (torn : Bool) : (porstReset s torn).lck = lckCut s.lck := by simp [porstReset]

/-! ### Machine/Tiers -/

theorem execSegmentLoadDone_steady (hs : Nat) (lines : List (Nat × Bytes)) (s : State) : Steady s (execSegmentLoadDone hs lines s) := by
  simp only [execSegmentLoadDone]
  repeat' split
  all_goals simp

theorem execSegmentEvict_steady (s : State) : Steady s (execSegmentEvict s) := by
  simp only [execSegmentEvict]
  repeat' split
  all_goals simp

theorem execSegmentEvictDone_steady (hs : Nat) (s : State) : Steady s (execSegmentEvictDone hs s) := by simp [execSegmentEvictDone]

theorem execFrameMoveDone_steady (hs : Nat) (s : State) : Steady s (execFrameMoveDone hs s) := by simp [execFrameMoveDone]

@[simp] theorem loseT2_lck (s : State) (p : Segment → Bool) : (loseT2 s p).lck = s.lck := by simp [loseT2]

theorem execLeaseGrant_steady (i : Fin 16) (frames : List Nat) (rkey epoch : Nat) (s : State) :
    Steady s (execLeaseGrant i frames rkey epoch s) := by simp [execLeaseGrant]

theorem execLeaseRecall_steady (i : Fin 16) (frames : List Nat) (s : State) : Steady s (execLeaseRecall i frames s) := by
  unfold execLeaseRecall
  extract_lets l mine idle rest s1 s2 s3
  have h3 : s3.lck = s.lck := by simp [s3, s2, s1]
  clear_value s3
  refine .of_lck ?_
  split
  · rfl
  · exact (foldl_lck _ _ s3 fun t e => by split <;> simp).trans h3

theorem execLeasePing_steady (fromLender : Bool) (who epoch : Nat) (s : State) :
    Steady s (execLeasePing fromLender who epoch s) := by simp [execLeasePing]

theorem execLeasePingTimer_steady (s : State) : Steady s (execLeasePingTimer s) := by simp -implicitDefEqProofs [execLeasePingTimer]

theorem execLeaseRecallDeadline_steady (asLender : Bool) (who : Nat) (s : State) : Steady s (execLeaseRecallDeadline asLender who s) := by
  simp only [execLeaseRecallDeadline]
  repeat' split
  all_goals simp

theorem execLeaseGraceExpired_steady (i : Fin 16) (s : State) : Steady s (execLeaseGraceExpired i s) := by simp [execLeaseGraceExpired]

theorem execLeaseReq_steady (addr wanted : Nat) (s : State) : Steady s (execLeaseReq addr wanted s) := by simp [execLeaseReq]

theorem execLeaseReturn_steady (addr : Nat) (frames : List Nat) (s : State) :
    Steady s (execLeaseReturn addr frames s) := by simp [execLeaseReturn]

theorem execLeaseOpen_steady (addr qpn psn salt ctr : Nat) (s : State) :
    Steady s (execLeaseOpen addr qpn psn salt ctr s) := by simp [execLeaseOpen]

theorem execLeaseAccept_steady (i : Fin 16) (qpn psn salt ctr : Nat) (s : State) :
    Steady s (execLeaseAccept i qpn psn salt ctr s) := by simp [execLeaseAccept]

theorem execLeaseOpenResend_steady (i : Fin 16) (s : State) : Steady s (execLeaseOpenResend i s) := by simp [execLeaseOpenResend]

theorem execTierCheckpoint_steady (s : State) : Steady s (execTierCheckpoint s) := by simp -implicitDefEqProofs [execTierCheckpoint]

/-! ### Machine/Commit -/

@[simp] theorem commitShed_lck (s : State) : (commitShed s).lck = s.lck := by simp [commitShed]

@[simp] theorem commitRelease_lck (s : State) : (commitRelease s).lck = s.lck := by simp [commitRelease]

@[simp] theorem commitFlush_lck (s : State) : (commitFlush s).lck = s.lck := by simp [commitFlush]

@[simp] theorem commitDrain_lck (s : State) : (commitDrain s).lck = s.lck := by simp [commitDrain]

@[simp] theorem dirtyShutdown_lck (s : State) : (dirtyShutdown s).lck = s.lck := by simp [dirtyShutdown]

@[simp] theorem drainEarly_lck (s : State) : (drainEarly s).lck = s.lck := by simp [drainEarly]

@[simp] theorem poolDump_lck (s : State) (k : Nat) (fs : List PoolFrame) : (poolDump s k fs).lck = s.lck := by
  induction s, k, fs using poolDump.induct with
  | case1 k s => simp [poolDump]
  | case2 s fs hfs => simp [poolDump]
  | case3 s k fs hfs hp => simp [poolDump, hp]
  | case4 s k fs hfs n hp ht => simp [poolDump, hp, ht]
  | case5 s k fs hfs n hp st s1 ht now q s2 cols s3 ih =>
    have h3 : s3.lck = s2.lck := foldl_lck _ _ s2 fun t c => by split <;> simp
    have h2 : s2.lck = s.lck := by simp [s2, takeStripe_lck ht]
    rw [poolDump, hp]
    · simp only [ht]
      exact ih.trans (h3.trans h2)
    · exact hfs

@[simp] theorem poolDumpDue_lck (s : State) : (poolDumpDue s).lck = s.lck := by simp [poolDumpDue]

@[simp] theorem commitJournal_lck (s : State) : (commitJournal s).lck = s.lck := by simp [commitJournal]

@[simp] theorem commitRails_lck (s : State) : (commitRails s).lck = s.lck := by simp -implicitDefEqProofs [commitRails]

theorem execSwCommit_steady (m : Fin 11) (value : Word) (s : State) : Steady s (execSwCommit m value s) := by
  unfold execSwCommit
  split
  · rename_i h
    simp [masterRefused_lck h]
  · simp

theorem execRequalPowerUp_steady (s : State) : Steady s (execRequalPowerUp s) := by simp [execRequalPowerUp]

/-! ### Machine/OdTable -/

@[simp] theorem layerSet_lck (s : State) (l : LayerId) (v : Layer) : (layerSet s l v).lck = s.lck := by
  unfold layerSet
  split <;> simp

@[simp] theorem loadWith_lck (put : State → Fld → Nat → State) (s : State) (fs : List Fld) (v : Nat) (h : ∀ t f v, (put t f v).lck = t.lck) :
    (loadWith put s fs v).lck = s.lck := by
  induction fs generalizing s v with
  | nil => rfl
  | cons f r ih => exact (ih _ _).trans (h s f _)

/-! ### Machine/Dictionary -/

@[simp] theorem storeIn_lck (s : State) (l : LayerId) (key : Nat) (v : Option Bytes) : (storeIn s l key v).lck = s.lck := by simp [storeIn]

@[simp] theorem cryptoErase_lck (s : State) : (cryptoErase s).lck = s.lck := by simp [cryptoErase]

@[simp] theorem sealedDone_lck (s : State) (r : Route) (client : Nat) (old new : Bytes) :
    (sealedDone s r client old new).lck = s.lck := by simp [sealedDone]

@[simp] theorem sealedWrite_lck (s : State) (r : Route) (client key : Nat) (data : Bytes) :
    (sealedWrite s r client key data).2.lck = s.lck := by
  simp only [sealedWrite]
  repeat' split
  all_goals simp

@[simp] theorem activate_lck (s : State) (key : Nat) (data : Bytes) : (activate s key data).lck = s.lck := by simp [activate]

@[simp] theorem tickWrite_lck (s : State) (key : Nat) (data : Bytes) : (tickWrite s key data).lck = s.lck := by simp [tickWrite]

@[simp] theorem rgnWrite_lck (s : State) (e ld : Nat) : (rgnWrite s e ld).lck = s.lck := by simp [rgnWrite]

@[simp] theorem rwWrite_lck (s : State) (key : Nat) (data : Bytes) : (rwWrite s key data).2.lck = s.lck := by
  simp only [rwWrite]
  repeat' split
  all_goals simp

@[simp] theorem odCommit_lck (s : State) (r : Route) (client key : Nat) (data : Bytes) (own : Bool) :
    (odCommit s r client key data own).2.lck = s.lck := by
  simp only [odCommit]
  repeat' split
  all_goals simp

@[simp] theorem odWrite_lck (s : State) (r : Route) (client key : Nat) (data : Bytes) :
    (odWrite s r client key data).lck = s.lck := by simp [odWrite]

@[simp] theorem odRead_lck (s : State) (r : Route) (client key : Nat) : (odRead s r client key).lck = s.lck := by simp [odRead]

@[simp] theorem stagedDrop_lck (s : State) (key : Nat) : (stagedDrop s key).lck = s.lck := by simp [stagedDrop]

@[simp] theorem stagedPut_lck (s : State) (x : OdStaged) : (stagedPut s x).lck = s.lck := by simp [stagedPut]

/-! ### Machine/Assemble -/

@[simp] theorem assemble_lck (s0 : State) (p : Nat → Bool) : (assemble s0 p).lck = s0.lck := by simp [assemble]

@[simp] theorem layersLost_lck (s : State) : (layersLost s).lck = s.lck := by simp [layersLost]

@[simp] theorem setApply_lck (s : State) (n : Nat) : (setApply s n).lck = s.lck := by simp -implicitDefEqProofs [setApply]

@[simp] theorem setsApply_lck (s : State) : (setsApply s).lck = s.lck := by simp [setsApply]

@[simp] theorem loadFld_lck (s : State) (f : Fld) (v : Nat) : (loadFld s f v).lck = s.lck := by
  unfold loadFld
  split <;> simp

@[simp] theorem loadEntry_lck (s : State) (key : Nat) : (loadEntry s key).lck = s.lck := by simp [loadEntry]

@[simp] theorem loadLd_lck (s : State) (n : Nat) : (loadLd s n).lck = s.lck := by simp [loadLd]

@[simp] theorem loadWindow_lck (s : State) (w : Nat) : (loadWindow s w).lck = s.lck := by simp [loadWindow]

@[simp] theorem loadHosts_lck (s : State) : (loadHosts s).lck = s.lck := by simp [loadHosts]

@[simp] theorem loadRegion_lck (s : State) (e : Nat) : (loadRegion s e).lck = s.lck := by simp [loadRegion]

@[simp] theorem loadBitmap_lck (s : State) : (loadBitmap s).lck = s.lck := by simp [loadBitmap]

@[simp] theorem loadAll_lck (s0 : State) : (loadAll s0).lck = s0.lck := by simp [loadAll]

@[simp] theorem setLocks_lck (s : State) : (setLocks s).lck = s.lck := by simp [setLocks]

@[simp] theorem runApply_lck (s : State) (base size : Nat) : (runApply s base size).lck = s.lck := by simp [runApply]

@[simp] theorem runsApply_lck (s : State) : (runsApply s).lck = s.lck := by simp [runsApply]

/-! ### Machine/Tack -/

@[simp] theorem txnsSet_lck (s : State) (ts : List TackTxn) : (txnsSet s ts).lck = s.lck := by simp [txnsSet]

@[simp] theorem txnDrop_lck (s : State) (t : TackTxn) : (txnDrop s t).lck = s.lck := by simp [txnDrop]

@[simp] theorem txnPut_lck (s : State) (t : TackTxn) : (txnPut s t).lck = s.lck := by simp [txnPut]

@[simp] theorem tackAbort_lck (s : State) (h : TackHdr) (key : Nat) (st : Status × Nat) :
    (tackAbort s h key st).lck = s.lck := by simp [tackAbort]

@[simp] theorem chanViolation_lck (s : State) (chan : Nat) : (chanViolation s chan).lck = s.lck := by simp [chanViolation]

@[simp] theorem nodeViolation_lck (s : State) (h : TackHdr) : (nodeViolation s h).lck = s.lck := by simp [nodeViolation]

@[simp] theorem tackFrame_lck (s : State) (h : TackHdr) (run : State → State) (hr : (run s).lck = s.lck) :
    (tackFrame s h run).lck = s.lck := by simp [tackFrame, hr]

@[simp] theorem sendSegments_lck (s : State) (t : TackTxn) (from_ upto : Nat) :
    (sendSegments s t from_ upto).lck = s.lck := by simp -implicitDefEqProofs [sendSegments]

@[simp] theorem tackRequest_lck (s : State) (h : TackHdr) (key : Nat) (run : State → State) (hr : (run s).lck = s.lck) :
    (tackRequest s h key run).lck = s.lck := by
  unfold tackRequest
  split
  · simp
  · simp [hr]

theorem execRead_steady (h : TackHdr) (key : Nat) (s : State) : Steady s (execRead h key s) := by simp [execRead]

@[simp] theorem tackAnswer_lck (s : State) (h : TackHdr) (key : Nat) (c : Status × Nat) :
    (tackAnswer s h key c).lck = s.lck := by simp [tackAnswer]

theorem execWrite_steady (h : TackHdr) (key : Nat) (data : Bytes) (s : State) : Steady s (execWrite h key data s) := by simp [execWrite]

theorem execWriteInit_steady (h : TackHdr) (key total : Nat) (s : State) : Steady s (execWriteInit h key total s) := by simp [execWriteInit]

@[simp] theorem lastSegment_lck (s : State) (h : TackHdr) (t : TackTxn) (data : Bytes) (n : Nat) :
    (lastSegment s h t data n).lck = s.lck := by simp [lastSegment]

theorem execSegment_steady (h : TackHdr) (n : Nat) (last : Bool) (data : Bytes) (s : State) : Steady s (execSegment h n last data s) := by
  refine .of_lck (tackFrame_lck s h _ ?_)
  repeat' split
  all_goals simp -implicitDefEqProofs

theorem execAck_steady (h : TackHdr) (n : Nat) (s : State) : Steady s (execAck h n s) := by
  refine .of_lck (tackFrame_lck s h _ ?_)
  repeat' split
  all_goals simp

theorem execAbort_steady (h : TackHdr) (s : State) : Steady s (execAbort h s) := by
  refine .of_lck (tackFrame_lck s h _ ?_)
  dsimp only
  repeat' split
  all_goals simp

theorem execTackTransferTimeout_steady (chan : Fin 2) (client tag : Nat) (s : State) :
    Steady s (execTackTransferTimeout chan client tag s) := by
  simp only [execTackTransferTimeout]
  repeat' split
  all_goals simp

theorem execTackClassicalFrame_steady (chan : Fin 2) (s : State) :
    Steady s (execTackClassicalFrame chan s) := by simp [execTackClassicalFrame]

@[simp] theorem tackBoot_lck (s : State) : (tackBoot s).lck = s.lck := by simp [tackBoot]

theorem execTackBootupFrame_steady (chan : Fin 2) (node serial : Nat) (s : State) :
    Steady s (execTackBootupFrame chan node serial s) := by simp [execTackBootupFrame]

theorem execTackBootupListenEnd_steady (s : State) : Steady s (execTackBootupListenEnd s) := by simp [execTackBootupListenEnd]

/-! ### Machine/Bringup -/

theorem execVddAonReturn_steady (s : State) : Steady s (execVddAonReturn s) := by simp [execVddAonReturn]

@[simp] theorem stepTo_lck (s : State) (n : Nat) : (stepTo s n).lck = s.lck := by simp [stepTo]

@[simp] theorem stepStop_lck (s : State) (why : BringupStop) (code : Nat) : (stepStop s why code).lck = s.lck := by simp [stepStop]

@[simp] theorem stepFill_lck (s : State) : (stepFill s).lck = s.lck := by simp [stepFill]

@[simp] theorem retentionCheck_lck (s : State) (jrnGood : Bool) : (retentionCheck s jrnGood).lck = s.lck := by simp [retentionCheck]

@[simp] theorem stepFirmware_lck (s : State) : (stepFirmware s).lck = s.lck := by simp [stepFirmware]

@[simp] theorem stepDram_lck (s : State) (r : StepIn) : (stepDram s r).lck = s.lck := by
  unfold stepDram
  repeat' split
  all_goals simp

@[simp] theorem stepFillDram_lck (s : State) : (stepFillDram s).lck = s.lck := by simp [stepFillDram]

@[simp] theorem stepLoad_lck (s : State) (r : StepIn) : (stepLoad s r).lck = s.lck := by simp [stepLoad]

@[simp] theorem crcLoad_lck (s0 : State) (s : State) : (crcLoad s0 s).lck = s.lck := by simp [crcLoad]

@[simp] theorem hostsEnable_lck (s : State) : (hostsEnable s).lck = s.lck := by simp [hostsEnable]

@[simp] theorem stepConfigure_lck (s : State) : (stepConfigure s).lck = s.lck := by simp [stepConfigure]

@[simp] theorem discoverSlot_lck (ds : List (Nat × DriveInfo)) (s : State) (n : Nat) : (discoverSlot ds s n).lck = s.lck := by
  unfold discoverSlot
  repeat' split
  all_goals simp

@[simp] theorem zonesFound_lck (s : State) (n : Nat) : (zonesFound s n).lck = s.lck := by
  simp only [zonesFound]
  repeat' split
  all_goals simp

@[simp] theorem setAssemble_lck (s : State) (n : Nat) : (setAssemble s n).lck = s.lck := by simp [setAssemble]

@[simp] theorem keyWait_lck (s : State) (ns : List Nat) : (keyWait s ns).lck = s.lck := by simp -implicitDefEqProofs [keyWait]

@[simp] theorem stepDrives_lck (s : State) (r : StepIn) : (stepDrives s r).lck = s.lck := by simp [stepDrives]

@[simp] theorem replayEntry_lck (root : Nat) (s : State) (e : JournalEntry) : (replayEntry root s e).lck = s.lck := by
  unfold replayEntry
  split
  · rfl
  · refine foldl_lck _ _ s fun t c => ?_
    dsimp only
    repeat' split
    all_goals simp

@[simp] theorem rootTake_lck (s : State) : (rootTake s).2.lck = s.lck := by simp -implicitDefEqProofs [rootTake]

@[simp] theorem weltReplay_lck (s : State) : (weltReplay s).lck = s.lck := by simp [weltReplay]

@[simp] theorem retentionVerdict_lck (s : State) (trigger : Nat) (early : Bool) :
    (retentionVerdict s trigger early).lck = s.lck := by simp [retentionVerdict]

@[simp] theorem stepTwin_lck (s : State) : (stepTwin s).lck = s.lck := by simp [stepTwin]

@[simp] theorem stepReplay_lck (s : State) (r : StepIn) : (stepReplay s r).lck = s.lck := by simp -implicitDefEqProofs [stepReplay]

@[simp] theorem poisonLost_lck (s : State) (ls : List Nat) : (poisonLost s ls).lck = s.lck := by simp -implicitDefEqProofs [poisonLost]

@[simp] theorem volatileReset_lck (s : State) : (volatileReset s).lck = s.lck := by simp [volatileReset]

@[simp] theorem recoverHalf_lck (s : State) (r : StepIn) : (recoverHalf s r).lck = s.lck := by simp [recoverHalf]

@[simp] theorem stepWarmup_lck (s : State) : (stepWarmup s).lck = s.lck := by simp [stepWarmup]

@[simp] theorem stepReady_lck (s : State) : (stepReady s).lck = s.lck := by simp [stepReady]

theorem execBringupStepEnd_steady (r : StepIn) (s : State) : Steady s (execBringupStepEnd r s) := by
  unfold execBringupStepEnd
  repeat' split
  all_goals simp

theorem execBringupStepLate_steady (s : State) : Steady s (execBringupStepLate s) := by simp -implicitDefEqProofs [execBringupStepLate]

theorem execWrstNAssert_steady (s : State) : Steady s (execWrstNAssert s) := by simp [execWrstNAssert]

theorem execWrstNRelease_steady (s : State) : Steady s (execWrstNRelease s) := by simp [execWrstNRelease]

theorem execSwWarmReset_steady (m : Fin 11) (value : Word) (s : State) : Steady s (execSwWarmReset m value s) := by
  unfold execSwWarmReset
  split
  · rename_i h
    simp [masterRefused_lck h]
  · simp

theorem execWarmResetDeferralEnd_steady (s : State) : Steady s (execWarmResetDeferralEnd s) := by simp [execWarmResetDeferralEnd]

@[simp] theorem queuesOut_lck (s : State) : (queuesOut s).lck = s.lck := by simp [queuesOut]

@[simp] theorem stripesDropped_lck (s : State) : (stripesDropped s).lck = s.lck := by simp [stripesDropped]

@[simp] theorem warmHold_lck (s0 : State) (torn : Bool) : (warmHold s0 torn).lck = s0.lck := by simp [warmHold]

theorem execWarmResetHold_steady (torn : Bool) (s : State) : Steady s (execWarmResetHold torn s) := by simp [execWarmResetHold]

/-! ### Machine/Csr -/

@[simp] theorem csrRefuseWrite_lck (s : State) (m cause off : Nat) : (csrRefuseWrite s m cause off).lck = s.lck := by simp [csrRefuseWrite]

@[simp] theorem writeField_lck (m off : Nat) (r : RegRow) (k value : Nat) (s : State) (f : FieldRow) :
    (writeField m off r k value s f).lck = s.lck := by
  unfold writeField
  repeat' split
  all_goals simp

@[simp] theorem mbxDataWrite_lck (s : State) (off value : Nat) : (mbxDataWrite s off value).lck = s.lck := by simp [mbxDataWrite]

@[simp] theorem writePair_lck (m off value : Nat) (s : State) : (writePair m off value s).lck = s.lck := by
  simp only [writePair]
  repeat' split
  all_goals simp

@[simp] theorem writeReg_lck (s : State) (m off value : Nat) : (writeReg s m off value).lck = s.lck := by
  unfold writeReg
  repeat' split
  all_goals simp

@[simp] theorem flsDataWrite_lck (s : State) (off value : Nat) : (flsDataWrite s off value).lck = s.lck := by simp [flsDataWrite]

theorem execCsrWrite_steady (m : Fin 11) (off size : Nat) (value : Word) (s : State) : Steady s (execCsrWrite m off size value s) := by
  simp [execCsrWrite]

@[simp] theorem aliasField_lck (m off b : Nat) (v : Bool) (r : RegRow) (k : Nat) (s : State) (f : FieldRow) :
    (aliasField m off b v r k s f).lck = s.lck := by
  unfold aliasField
  repeat' split
  all_goals simp

theorem execCsrAliasWrite_steady (m : Fin 11) (off : Nat) (value : Word) (s : State) : Steady s (execCsrAliasWrite m off value s) := by
  simp only [execCsrAliasWrite]
  repeat' split
  all_goals simp

theorem readRefused_lck {s t : State} {m off : Nat} (h : readRefused s m off = some t) : t.lck = s.lck := by
  unfold readRefused at h
  iterate 5
    split at h
    · cases h
      simp
  cases h

@[simp] theorem readEffect_lck (s : State) (m off : Nat) : (readEffect s m off).lck = s.lck := by
  unfold readEffect
  split <;> simp

@[simp] theorem plainRead_lck (s : State) (m off : Nat) : (plainRead s m off).lck = s.lck := by
  unfold plainRead
  split
  · dsimp only
    split
    · exact lck_getD fun _ => readRefused_lck
    · repeat' split
      all_goals simp
  · split
    · rename_i h
      exact readRefused_lck h
    · simp

theorem execCsrReadClear_steady (m : Fin 11) (off : Nat) (s : State) : Steady s (execCsrReadClear m off s) := by simp [execCsrReadClear]

theorem execCsrReadLatch_steady (m : Fin 11) (off : Nat) (s : State) : Steady s (execCsrReadLatch m off s) := by simp [execCsrReadLatch]

theorem execCfgHoldLong_steady (s : State) : Steady s (execCfgHoldLong s) := by simp [execCfgHoldLong]

/-! ### Machine/CxlMailbox -/

@[simp] theorem freeSkip_lck (s : State) (n : Nat) : (freeSkip s n).lck = s.lck := by simp [freeSkip]

@[simp] theorem stdCmd_lck (s : State) (n : Nat) (needsReady : Bool) (run : State) (h : run.lck = s.lck) :
    (stdCmd s n needsReady run).lck = s.lck := by simp [stdCmd, h]

theorem execIdentifyMemoryDevice_steady (n : Fin 64) (s : State) :
    Steady s (execIdentifyMemoryDevice n s) := by simp [execIdentifyMemoryDevice]

theorem execGetPartitionInfo_steady (n : Fin 64) (s : State) : Steady s (execGetPartitionInfo n s) := by
  simp -implicitDefEqProofs [execGetPartitionInfo]

theorem execGetSupportedLogs_steady (n : Fin 64) (s : State) : Steady s (execGetSupportedLogs n s) := by
  simp -implicitDefEqProofs [execGetSupportedLogs]

theorem execGetLog_steady (n : Fin 64) (uuid : Bytes) (off len : Nat) (s : State) :
    Steady s (execGetLog n uuid off len s) := by simp [execGetLog]

theorem execGetHealthInfo_steady (n : Fin 64) (s : State) : Steady s (execGetHealthInfo n s) := by simp [execGetHealthInfo]

theorem execGetEventRecords_steady (n : Fin 64) (log : Nat) (s : State) :
    Steady s (execGetEventRecords n log s) := by simp [execGetEventRecords]

theorem execClearEventRecords_steady (n : Fin 64) (log : Nat) (all : Bool) (handles : List Nat) (s : State) :
    Steady s (execClearEventRecords n log all handles s) := by simp [execClearEventRecords]

theorem execGetEventInterruptPolicy_steady (n : Fin 64) (s : State) :
    Steady s (execGetEventInterruptPolicy n s) := by simp -implicitDefEqProofs [execGetEventInterruptPolicy]

theorem execSetEventInterruptPolicy_steady (n : Fin 64) (settings : List Byte) (s : State) :
    Steady s (execSetEventInterruptPolicy n settings s) := by simp [execSetEventInterruptPolicy]

theorem execGetLsa_steady (n : Fin 64) (off len : Nat) (s : State) : Steady s (execGetLsa n off len s) := by simp [execGetLsa]

theorem execSetLsa_steady (n : Fin 64) (off : Nat) (data : Bytes) (s : State) : Steady s (execSetLsa n off data s) := by simp [execSetLsa]

theorem execGetPoisonList_steady (n : Fin 64) (start len : Nat) (s : State) :
    Steady s (execGetPoisonList n start len s) := by simp [execGetPoisonList]

theorem execClearPoison_steady (n : Fin 64) (dpa : Nat) (data : Bytes) (s : State) : Steady s (execClearPoison n dpa data s) := by
  refine .of_lck (stdCmd_lck s _ _ _ ?_)
  repeat' split
  case h_1 h => simp [acceptWrite_lck h]
  all_goals simp

theorem execGetTimestamp_steady (n : Fin 64) (s : State) : Steady s (execGetTimestamp n s) := by
  simp -implicitDefEqProofs [execGetTimestamp]

theorem execSetTimestamp_steady (n : Fin 64) (value : Nat) (s : State) : Steady s (execSetTimestamp n value s) := by simp [execSetTimestamp]

theorem execGetFwInfo_steady (n : Fin 64) (s : State) : Steady s (execGetFwInfo n s) := by simp -implicitDefEqProofs [execGetFwInfo]

theorem execUnsupportedMailboxCommand_steady (n : Fin 64) (s : State) :
    Steady s (execUnsupportedMailboxCommand n s) := by simp [execUnsupportedMailboxCommand]

@[simp] theorem fmCmd_lck (s : State) (p : Nat) (run : State) (h : run.lck = s.lck) : (fmCmd s p run).lck = s.lck := by simp [fmCmd, h]

theorem execGetLdInfo_steady (p : Fin 16) (s : State) : Steady s (execGetLdInfo p s) := by simp [execGetLdInfo]

theorem execGetLdAllocations_steady (p : Fin 16) (start limit : Nat) (s : State) :
    Steady s (execGetLdAllocations p start limit s) := by simp -implicitDefEqProofs [execGetLdAllocations]

theorem execSetLdAllocations_steady (p : Fin 16) (s : State) : Steady s (execSetLdAllocations p s) := by simp [execSetLdAllocations]

theorem execOdRead_steady (n : Fin 64) (key off : Nat) (s : State) : Steady s (execOdRead n key off s) := by simp [execOdRead]

@[simp] theorem odChunk_lck (s : State) (n key off total : Nat) (data : Bytes) : (odChunk s n key off total data).lck = s.lck := by
  simp only [odChunk]
  repeat' split
  all_goals simp

theorem execOdWrite_steady (n : Fin 64) (key off total : Nat) (data : Bytes) (s : State) : Steady s (execOdWrite n key off total data s) := by
  simp [execOdWrite]

theorem execOdAbort_steady (n : Fin 64) (key : Nat) (s : State) : Steady s (execOdAbort n key s) := by simp [execOdAbort]

/-! ### Machine/Mailbox -/

theorem mbxShut_lck {s t : State} {m off : Nat} (h : mbxShut s m off = some t) : t.lck = s.lck := by
  unfold mbxShut at h
  split at h
  · cases h
    simp
  · split at h <;> cases h
    simp

@[simp] theorem mbxStagedDrop_lck (s : State) : (mbxStagedDrop s).lck = s.lck := by simp [mbxStagedDrop]

@[simp] theorem mbxFree_lck (s : State) : (mbxFree s).lck = s.lck := by simp [mbxFree]

theorem execMbxClaim_steady (m : Fin 11) (s : State) : Steady s (execMbxClaim m s) := by
  unfold execMbxClaim
  split
  · rename_i h
    simp [mbxShut_lck h]
  · simp

theorem execMbxRelease_steady (m : Fin 11) (s : State) : Steady s (execMbxRelease m s) := by
  unfold execMbxRelease
  split
  · rename_i h
    simp [mbxShut_lck h]
  · simp

@[simp] theorem mbxAborted_lck (s : State) : (mbxAborted s).lck = s.lck := by simp [mbxAborted]

@[simp] theorem mbxAbortNow_lck (s : State) : (mbxAbortNow s).lck = s.lck := by
  unfold mbxAbortNow
  split <;> simp

theorem execMbxClaimExpired_steady (s : State) : Steady s (execMbxClaimExpired s) := by simp [execMbxClaimExpired]

@[simp] theorem mbxChunk_lck (s : State) (m : Nat) : (mbxChunk s m).2.2.lck = s.lck := by
  simp only [mbxChunk]
  repeat' split
  all_goals simp

@[simp] theorem mbxStart_lck (s : State) (m op : Nat) : (mbxStart s m op).lck = s.lck := by
  unfold mbxStart
  split
  · rename_i h
    simp [mbxShut_lck h]
  split
  · simp
  split
  · simp
  dsimp only
  split <;> simp

theorem execMbxRead_steady (m : Fin 11) (op : Fin 4) (s : State) : Steady s (execMbxRead m op s) := by simp [execMbxRead]

theorem execMbxWrite_steady (m : Fin 11) (s : State) : Steady s (execMbxWrite m s) := by simp [execMbxWrite]

theorem execMbxAbort_steady (m : Fin 11) (s : State) : Steady s (execMbxAbort m s) := by
  unfold execMbxAbort
  split
  · rename_i h
    simp [mbxShut_lck h]
  · simp

@[simp] theorem mbxReadEnd_lck (s : State) (key : Nat) : (mbxReadEnd s key).lck = s.lck := by simp [mbxReadEnd]

theorem execMbxOpDone_steady (s : State) : Steady s (execMbxOpDone s) := by
  unfold execMbxOpDone
  split <;> simp

theorem execOdStore_steady (r : Route) (client : Nat) (s : State) : Steady s (execOdStore r client s) := by simp [execOdStore]

@[simp] theorem storeLayer_lck (s : State) (l : LayerId) (vs : List (Nat × Bytes)) : (storeLayer s l vs).lck = s.lck := by simp [storeLayer]

theorem execOdStoreDone_steady (s : State) : Steady s (execOdStoreDone s) := by
  unfold execOdStoreDone
  split <;> simp

theorem execOverlayAdd_steady (r : Route) (client : Nat) (s : State) : Steady s (execOverlayAdd r client s) := by simp [execOverlayAdd]

theorem execOverlayRemove_steady (r : Route) (client : Nat) (s : State) :
    Steady s (execOverlayRemove r client s) := by simp [execOverlayRemove]

theorem execRgnEntryApply_steady (r : Route) (client : Nat) (e : Fin 1024) (ld : Byte) (s : State) :
    Steady s (execRgnEntryApply r client e ld s) := by simp [execRgnEntryApply]

theorem execFwData_steady (r : Route) (client : Nat) (data : Bytes) (s : State) :
    Steady s (execFwData r client data s) := by simp [execFwData]

theorem execFwActivate_steady (r : Route) (client : Nat) (s : State) : Steady s (execFwActivate r client s) := by simp [execFwActivate]

theorem execFwActivateForce_steady (r : Route) (client : Nat) (s : State) :
    Steady s (execFwActivateForce r client s) := by simp [execFwActivateForce]

theorem execFwActivateCancel_steady (r : Route) (client : Nat) (s : State) :
    Steady s (execFwActivateCancel r client s) := by simp [execFwActivateCancel]

theorem execReadBlock_steady (r : Route) (client : Nat) (s : State) : Steady s (execReadBlock r client s) := by simp [execReadBlock]

/-! ### Machine/Sealed -/

theorem execPresenceNPress_steady (s : State) : Steady s (execPresenceNPress s) := by simp [execPresenceNPress]

theorem execPresenceNRelease_steady (s : State) : Steady s (execPresenceNRelease s) := by simp [execPresenceNRelease]

theorem execPresenceOpen_steady (s : State) : Steady s (execPresenceOpen s) := by simp [execPresenceOpen]

theorem execPresenceClose_steady (s : State) : Steady s (execPresenceClose s) := by simp [execPresenceClose]

theorem execPresenceStuck_steady (s : State) : Steady s (execPresenceStuck s) := by simp [execPresenceStuck]

theorem execPresenceRearm_steady (s : State) : Steady s (execPresenceRearm s) := by simp [execPresenceRearm]

theorem execRecorderClear_steady (r : Route) (client : Nat) (value : Bytes) (s : State) :
    Steady s (execRecorderClear r client value s) := by simp [execRecorderClear]

theorem execLockPolicyChange_steady (r : Route) (client : Nat) (which : Fin 4) (value : Bytes) (s : State) :
    Steady s (execLockPolicyChange r client which value s) := by simp [execLockPolicyChange]

theorem execFactoryDefault_steady (r : Route) (client : Nat) (value : Bytes) (s : State) :
    Steady s (execFactoryDefault r client value s) := by simp [execFactoryDefault]

theorem execCryptoErase_steady (r : Route) (client : Nat) (value : Bytes) (s : State) :
    Steady s (execCryptoErase r client value s) := by simp [execCryptoErase]

theorem execForcedSlotSelection_steady (r : Route) (client : Nat) (value : Bytes) (s : State) :
    Steady s (execForcedSlotSelection r client value s) := by simp [execForcedSlotSelection]

theorem execPresencePolicyChange_steady (r : Route) (client : Nat) (value : Bytes) (s : State) :
    Steady s (execPresencePolicyChange r client value s) := by simp [execPresencePolicyChange]

/-! ### Machine/Ticks -/

@[simp] theorem reserveDue_clockFace (s : State) : clockFace (reserveDue s).lck = clockFace s.lck := by simp [reserveDue]

@[simp] theorem regionsChanged_lck (s : State) (was : List Walk) (touched : List Nat) :
    (regionsChanged s was touched).lck = s.lck := by simp -implicitDefEqProofs [regionsChanged]

@[simp] theorem enableChange_lck (s : State) (f : Fn) (on : Bool) : (enableChange s f on).lck = s.lck := by
  simp only [enableChange]
  repeat' split
  all_goals simp

@[simp] theorem stagedApply_lck (s : State) (x : Nat × Nat) : (stagedApply s x).lck = s.lck := by
  unfold stagedApply
  repeat' split
  all_goals simp

@[simp] theorem capApply_lck (s : State) : (capApply s).lck = s.lck := by simp [capApply]

@[simp] theorem applyBuffered_lck (s : State) : (applyBuffered s).lck = s.lck := by simp [applyBuffered]

@[simp] theorem functionsTick_lck (s : State) : (functionsTick s).lck = s.lck := by simp [functionsTick]

@[simp] theorem standbyTick_lck (s : State) : (standbyTick s).lck = s.lck := by simp [standbyTick]

@[simp] theorem sampleTake_lck (s : State) : (sampleTake s).lck = s.lck := by simp [sampleTake]

@[simp] theorem zonesAdopt_lck (s : State) : (zonesAdopt s).lck = s.lck := by simp [zonesAdopt]

@[simp] theorem zonesGrant_lck (s : State) : (zonesGrant s).lck = s.lck := by simp [zonesGrant]

@[simp] theorem zonesAsk_lck (s : State) : (zonesAsk s).lck = s.lck := by simp [zonesAsk]

@[simp] theorem bucketsRefill_lck (s : State) : (bucketsRefill s).lck = s.lck := by simp [bucketsRefill]

@[simp] theorem dumpFree_lck (s : State) : (dumpFree s).lck = s.lck := by simp [dumpFree]

@[simp] theorem warmupLoads_lck (s : State) : (warmupLoads s).lck = s.lck := by simp [warmupLoads]

@[simp] theorem phaseZero_clockFace (s : State) : clockFace (phaseZero s).lck = clockFace s.lck := by simp [phaseZero]

@[simp] theorem pacingTick_lck (s : State) (len : Nat) : (pacingTick s len).lck = s.lck := by simp [pacingTick]

@[simp] theorem busyTick_lck (s : State) (len : Nat) : (busyTick s len).lck = s.lck := by
  unfold busyTick
  split <;> simp

@[simp] theorem heartbeatTick_lck (s : State) : (heartbeatTick s).lck = s.lck := by simp [heartbeatTick]

@[simp] theorem replayTick_lck (s : State) : (replayTick s).lck = s.lck := by simp [replayTick]

@[simp] theorem failbackTick_lck (s : State) : (failbackTick s).lck = s.lck := by simp -implicitDefEqProofs [failbackTick]

@[simp] theorem crcCheck_lck (s : State) : (crcCheck s).lck = s.lck := by
  unfold crcCheck
  repeat' split
  all_goals simp

end Sys2Proof.Proofs
end

section
/-!
PROOFS. The line clock's invariants (O51, O53, O54, O55) and its events (O13, O14, O15, O48). `ClockMoves` lists the ways in which a command
other than the loss of VDD_AON moves the clock; `exec_moves` finds each command's, and each invariant is a case analysis of the list.
-/
namespace Sys2Proof.Proofs
open Sys2Proof Sys2Proof.Machine Sys2Proof.Laws

theorem clockFace_eq_iff {c : LineClock} {st : LckState} {l : Bool} {p n : Nat} :
    clockFace c = (st, l, p, n) ↔ c.state = st ∧ c.listening = l ∧ c.phase = p ∧ c.count = n := by
  simp [clockFace]

theorem clockFace_congr {c d : LineClock} (h : clockFace c = clockFace d) :
    c.state = d.state ∧ c.listening = d.listening ∧ c.phase = d.phase ∧ c.count = d.count := clockFace_eq_iff.1 h

/-- The clock is LOCKED or in HOLDOVER. -/
def Tracks (st : LckState) : Prop := st = .locked ∨ st = .holdover

/-- The ways in which a command other than the loss of VDD_AON moves the line clock. -/
inductive ClockMoves (s t : State) : Prop where
  /-- It stands. -/
  | stands (h : clockFace t.lck = clockFace s.lck)
  /-- A tick boundary inside a half-cycle (R33). -/
  | ticks (hp : s.lck.phase < 1023) (h : clockFace t.lck = (s.lck.state, s.lck.listening, s.lck.phase + 1, s.lck.count))
  /-- A half-cycle boundary, perhaps with a step forward to the twin's count (R33, R52). -/
  | wraps (n : Nat) (hn : (s.lck.count + 1) % 2 ^ 40 ≤ n) (hr : n < 2 ^ 40) (h : clockFace t.lck = (s.lck.state, s.lck.listening, 0, n))
  /-- The pulse that ends the listen begins a half-cycle (R46). -/
  | locks (hl : s.lck.listening = true) (h : clockFace t.lck = (.locked, false, 0, (s.lck.count + 1) % 2 ^ 40))
  /-- The listen ends without one (R46). -/
  | listenEnds (hl : s.lck.listening = true) (h : clockFace t.lck = (.synthetic, false, s.lck.phase, s.lck.count))
  /-- LOCKED and HOLDOVER follow each other (R42 to R44). -/
  | tracks (hs : Tracks s.lck.state) (ht : Tracks t.lck.state) (h : clockFace t.lck = (t.lck.state, s.lck.listening, s.lck.phase, s.lck.count))
  /-- PORST_N holds the rest of the chip in reset while the clock runs on (R35). -/
  | held (hp : t.boot.porst = true) (h : clockFace t.lck = (.acquire, false, s.lck.phase, s.lck.count))
  /-- PORST_N is released: the clock listens or is SYNTHETIC, at the count it had, or after a loss of VDD_AON at one that LAST gives
  (R35, R46, R47). -/
  | released (hp : s.boot.porst = true) (hl : t.lck.listening = true → t.lck.state = .acquire)
      (hc : t.lck.phase = s.lck.phase ∧ t.lck.count = s.lck.count ∨
        s.lck.countLost = true ∧ t.lck.phase = 0 ∧ t.lck.count < 2 ^ 40)

theorem Steady.moves {p : Prop} {s t : State} {o : Host.Outcome State Fault Refusal} (hs : Steady s o) (h : o = .next t) :
    p ∨ ClockMoves s t := .inr (.stands (hs.face_eq t h))

theorem Tracks.ne_acquire {st : LckState} (h : Tracks st) : st ≠ .acquire := by
  rintro rfl
  simp [Tracks] at h

/-! ### PORST_N -/

/-- The clock at the release of PORST_N (R35, R46, R47). -/
theorem clockStart_clock (s : State) :
    ((clockStart s).lck.listening = true → (clockStart s).lck.state = .acquire) ∧
    ((clockStart s).lck.phase = s.lck.phase ∧ (clockStart s).lck.count = s.lck.count ∨
      s.lck.countLost = true ∧ (clockStart s).lck.phase = 0 ∧ (clockStart s).lck.count < 2 ^ 40) := by
  have hr : countResume s % 2 ^ 40 < 2 ^ 40 := Nat.mod_lt _ (by norm_num)
  unfold clockStart
  dsimp only
  cases hl : s.lck.countLost
  · split <;> simp [enterSynthetic]
  · split <;> exact ⟨by simp [enterSynthetic], .inr ⟨rfl, rfl, hr⟩⟩

theorem execPorstNRelease_moves (mode : Fin 4) (sv tw : Bool) {s t : State} (h : execPorstNRelease mode sv tw s = .next t) :
    ClockMoves s t := by
  unfold execPorstNRelease at h
  cases h
  split
  · exact .stands rfl
  split
  · exact .stands rfl
  next hp =>
    extract_lets m _boot s1
    have hs (t : State) (ht : t.lck = s1.lck) : ClockMoves s t := by
      obtain ⟨hl, hc⟩ := clockStart_clock _
      exact .released (by simpa using hp) (ht ▸ hl) (ht ▸ hc)
    split
    · exact hs _ (by simp)
    · exact hs _ rfl

theorem porstReset_moves {s u : State} (torn : Bool) (h : u.lck = s.lck) : ClockMoves s (porstReset u torn) :=
  .held rfl (by rw [porstReset_lck, h]; rfl)

theorem execPorstNAssert_moves (torn : Bool) {s t : State} (h : execPorstNAssert torn s = .next t) : ClockMoves s t := by
  unfold execPorstNAssert at h
  cases h
  repeat' split
  case isFalse.isFalse => exact porstReset_moves torn (by simp)
  all_goals exact .stands (by simp)

theorem commitEnd_moves (s : State) : ClockMoves s (commitEnd s) := by
  unfold commitEnd
  dsimp only
  split
  · exact porstReset_moves false (by simp)
  · exact .stands (by simp)

theorem execCommitStepEnd_moves {s t : State} (h : execCommitStepEnd s = .next t) : ClockMoves s t := by
  unfold execCommitStepEnd at h
  cases h
  repeat' split
  case h_6.isTrue => exact commitEnd_moves s
  all_goals exact .stands (by simp)

/-! ### LINE_SYNC -/

theorem listenPulse_moves {s : State} (t : Nat) (hl : s.lck.listening = true) : ClockMoves s (listenPulse s t) := by
  unfold listenPulse
  dsimp only
  split
  · exact .locks hl rfl
  repeat' split
  all_goals exact .stands rfl

@[simp] theorem checkRange_clockFace (s : State) : clockFace (checkRange s).lck = clockFace s.lck := by
  unfold checkRange
  repeat' split
  all_goals rfl

/-- A good crossing steers the clock: of what the statements speak of only the state may change (R41 to R44). -/
theorem goodCrossing_clockFace (s : State) (t idx : Nat) (err : Int) (next : Bool) :
    ∃ st, clockFace (goodCrossing s t idx err next).lck = (st, s.lck.listening, s.lck.phase, s.lck.count) ∧
      (Tracks s.lck.state → Tracks st) := by
  unfold goodCrossing
  extract_lets c xs p inTick run relock st s1 s2 s3
  have h2 : clockFace s2.lck = clockFace s1.lck := by
    dsimp only [s2]
    split <;> rfl
  have h3 : clockFace s3.lck = clockFace s1.lck := (checkRange_clockFace s2).trans h2
  refine ⟨st, ?_, fun hs => ?_⟩
  · split
    · simp only [warnStandDown_lck]
      exact h3
    · exact h3
  · dsimp only [st]
    repeat' split
    · exact .inl rfl
    · exact .inr rfl
    · exact hs

theorem goodCrossing_moves {s : State} (t idx : Nat) (err : Int) (next : Bool) (hs : Tracks s.lck.state) :
    ClockMoves s (goodCrossing s t idx err next) := by
  obtain ⟨st, hf, ht⟩ := goodCrossing_clockFace s t idx err next
  have hst := (clockFace_eq_iff.1 hf).1
  exact .tracks hs (hst ▸ ht hs) (hst ▸ hf)

theorem execLineSyncPulse_moves (ns dt : Nat) {s t : State} (h : execLineSyncPulse ns dt s = .next t) : ClockMoves s t := by
  unfold execLineSyncPulse at h
  cases h
  dsimp only
  split
  · exact .stands (by simp)
  split
  · split
    next hl => exact listenPulse_moves _ hl
    · exact .stands rfl
  · split <;> exact .stands rfl
  next ha hs =>
    have ht : Tracks s.lck.state := by
      cases hst : s.lck.state <;> simp_all [Tracks]
    repeat' split
    case isTrue.isFalse | isFalse.isTrue.isFalse => exact goodCrossing_moves _ _ _ _ ht
    all_goals exact .stands (by simp)

theorem execLineMissed_moves {s t : State} (h : execLineMissed s = .next t) : ClockMoves s t := by
  unfold execLineMissed at h
  cases h
  dsimp only
  split
  next hm =>
    have hs (u : State) (hu : clockFace u.lck = (.holdover, s.lck.listening, s.lck.phase, s.lck.count)) : ClockMoves s u := by
      have hst := (clockFace_eq_iff.1 hu).1
      exact .tracks hm.1 (.inr hst) (hst ▸ hu)
    refine hs _ ?_
    simp [clockFace]
  · exact .stands rfl

theorem execLineListenEnd_moves {s t : State} (h : execLineListenEnd s = .next t) : ClockMoves s t := by
  unfold execLineListenEnd at h
  cases h
  split
  next hl => exact .listenEnds hl rfl
  · exact .stands rfl

/-! ### Tick boundaries -/

theorem alignStep_clockFace (s : State) (t : Nat) :
    ∃ n, s.lck.count ≤ n ∧ (s.lck.count < 2 ^ 40 → n < 2 ^ 40) ∧
      clockFace (alignStep s t).lck = (s.lck.state, s.lck.listening, s.lck.phase, n) := by
  have hr : (t + 1) % 2 ^ 40 < 2 ^ 40 := Nat.mod_lt _ (by norm_num)
  refine ⟨max s.lck.count ((t + 1) % 2 ^ 40), le_max_left .., fun hc => max_lt hc hr, ?_⟩
  unfold alignStep
  dsimp only
  split <;> rfl

theorem wrapClock_clockFace (s : State) :
    ∃ n, (s.lck.count + 1) % 2 ^ 40 ≤ n ∧ n < 2 ^ 40 ∧ clockFace (wrapClock s).lck = (s.lck.state, s.lck.listening, 0, n) := by
  have hr : (s.lck.count + 1) % 2 ^ 40 < 2 ^ 40 := Nat.mod_lt _ (by norm_num)
  have h0 (u : State) (hu : clockFace u.lck = (s.lck.state, s.lck.listening, 0, (s.lck.count + 1) % 2 ^ 40)) :
    ∃ n, (s.lck.count + 1) % 2 ^ 40 ≤ n ∧ n < 2 ^ 40 ∧ clockFace u.lck = (s.lck.state, s.lck.listening, 0, n) := ⟨_, le_rfl, hr, hu⟩
  unfold wrapClock
  extract_lets c s1
  split
  · split
    · exact h0 _ rfl
    · obtain ⟨n, hn, hlt, hf⟩ := alignStep_clockFace s1 _
      exact ⟨n, hn, hlt hr, hf⟩
  · exact h0 _ rfl

/-- The time and the phase after a tick, before a half-cycle boundary is looked for (R33, R41). -/
def phaseStep (s : State) : State :=
  { s with
    time := s.time + tickLength s.lck
    lck := { s.lck with phaseErr := s.lck.phaseErr - tickCorrection s.lck, phase := s.lck.phase + 1 } }

theorem tickAdvance_eq_phaseStep {s : State} (hp : s.lck.phase < 1023) : tickAdvance s = phaseStep s := if_neg (Nat.not_le.2 hp)

theorem tickAdvance_eq_wrapClock {s : State} (hp : 1023 ≤ s.lck.phase) : tickAdvance s = wrapClock (phaseStep s) := if_pos hp

/-- Of a tick boundary only the phase update moves the clock. -/
theorem tick_clockFace {s : State} (hv : s.ham.vddAon = true) : clockFace (tick s).lck = clockFace (tickAdvance s).lck := by
  simp [tick, hv]

theorem tickAdvance_below {s : State} (hp : s.lck.phase < 1023) :
    clockFace (tickAdvance s).lck = (s.lck.state, s.lck.listening, s.lck.phase + 1, s.lck.count) := by
  rw [tickAdvance_eq_phaseStep hp]
  rfl

theorem tickAdvance_wrap {s : State} (hp : 1023 ≤ s.lck.phase) :
    ∃ n, (s.lck.count + 1) % 2 ^ 40 ≤ n ∧ n < 2 ^ 40 ∧ clockFace (tickAdvance s).lck = (s.lck.state, s.lck.listening, 0, n) := by
  rw [tickAdvance_eq_wrapClock hp]
  exact wrapClock_clockFace (phaseStep s)

theorem tick_moves (s : State) : ClockMoves s (tick s) := by
  by_cases hv : s.ham.vddAon = true
  · by_cases hp : s.lck.phase < 1023
    · exact .ticks hp ((tick_clockFace hv).trans (tickAdvance_below hp))
    · obtain ⟨n, hn, hlt, hf⟩ := tickAdvance_wrap (Nat.le_of_not_lt hp)
      exact .wraps n hn hlt ((tick_clockFace hv).trans hf)
  · exact .stands (by simp [tick, hv])

theorem execTick_moves {s t : State} (h : execTick s = .next t) : ClockMoves s t := by
  cases h
  exact tick_moves s

theorem execHalfCycleBoundary_moves {s t : State} (h : execHalfCycleBoundary s = .next t) : ClockMoves s t := by
  cases h
  split
  · exact tick_moves s
  · exact .stands rfl

/-! ### Machine/Dispatch -/

/-- What every command but the loss of VDD_AON does to the line clock: one arm for each command. -/
theorem exec_moves (c : Instr) (s t : State) : exec c s = .next t → (∃ torn, c = .vddAonLoss torn) ∨ ClockMoves s t :=
  match c with
  | .porstNRelease .. => fun h => .inr (execPorstNRelease_moves _ _ _ h)
  | .porstNAssert .. => fun h => .inr (execPorstNAssert_moves _ h)
  | .vddAonLoss _ => fun _ => .inl ⟨_, rfl⟩
  | .commonStart => (execCommonStart_steady ..).moves
  | .railOnDelay .. => (execRailOnDelay_steady ..).moves
  | .railPgRise .. => (execRailPgRise_steady ..).moves
  | .railPgTimeout .. => (execRailPgTimeout_steady ..).moves
  | .railPgFault .. => (execRailPgFault_steady ..).moves
  | .railRetryAttempt .. => (execRailRetryAttempt_steady ..).moves
  | .railOffDelay .. => (execRailOffDelay_steady ..).moves
  | .railStuckOn .. => (execRailStuckOn_steady ..).moves
  | .domainSwitchTimeout .. => (execDomainSwitchTimeout_steady ..).moves
  | .psuOkLow => (execPsuOkLow_steady ..).moves
  | .holdupLow => (execHoldupLow_steady ..).moves
  | .faultNExternal => (execFaultNExternal_steady ..).moves
  | .faultNGlitch => (execFaultNGlitch_steady ..).moves
  | .sysclkLoss => (execSysclkLoss_steady ..).moves
  | .refclkLoss .. => (execRefclkLoss_steady ..).moves
  | .wdiToggle => (execWdiToggle_steady ..).moves
  | .wdiMissed => (execWdiMissed_steady ..).moves
  | .bringupStepEnd .. => (execBringupStepEnd_steady ..).moves
  | .bringupStepLate => (execBringupStepLate_steady ..).moves
  | .wrstNAssert => (execWrstNAssert_steady ..).moves
  | .swWarmReset .. => (execSwWarmReset_steady ..).moves
  | .warmResetHold .. => (execWarmResetHold_steady ..).moves
  | .warmResetDeferralEnd => (execWarmResetDeferralEnd_steady ..).moves
  | .unitResetLat => (execUnitResetLat_steady ..).moves
  | .unitResetBkl => (execUnitResetBkl_steady ..).moves
  | .unitResetTir => (execUnitResetTir_steady ..).moves
  | .unitResetStm => (execUnitResetStm_steady ..).moves
  | .unitResetFls => (execUnitResetFls_steady ..).moves
  | .unitResetKcb => (execUnitResetKcb_steady ..).moves
  | .functionQuiesced .. => (execFunctionQuiesced_steady ..).moves
  | .disableAbortTimeExpired .. => (execDisableAbortTimeExpired_steady ..).moves
  | .lineSyncPulse .. => fun h => .inr (execLineSyncPulse_moves _ _ h)
  | .lineMissed => fun h => .inr (execLineMissed_moves h)
  | .lineListenEnd => fun h => .inr (execLineListenEnd_moves h)
  | .tick => fun h => .inr (execTick_moves h)
  | .halfCycleBoundary => fun h => .inr (execHalfCycleBoundary_moves h)
  | .compatTick => (execCompatTick_steady ..).moves
  | .csrWrite .. => (execCsrWrite_steady ..).moves
  | .csrAliasWrite .. => (execCsrAliasWrite_steady ..).moves
  | .csrReadClear .. => (execCsrReadClear_steady ..).moves
  | .csrReadLatch .. => (execCsrReadLatch_steady ..).moves
  | .cfgHoldLong => (execCfgHoldLong_steady ..).moves
  | .mbxClaim .. => (execMbxClaim_steady ..).moves
  | .mbxRelease .. => (execMbxRelease_steady ..).moves
  | .mbxClaimExpired => (execMbxClaimExpired_steady ..).moves
  | .mbxRead .. => (execMbxRead_steady ..).moves
  | .mbxWrite .. => (execMbxWrite_steady ..).moves
  | .mbxAbort .. => (execMbxAbort_steady ..).moves
  | .mbxOpDone => (execMbxOpDone_steady ..).moves
  | .odStore .. => (execOdStore_steady ..).moves
  | .odStoreDone => (execOdStoreDone_steady ..).moves
  | .overlayAdd .. => (execOverlayAdd_steady ..).moves
  | .overlayRemove .. => (execOverlayRemove_steady ..).moves
  | .rgnEntryApply .. => (execRgnEntryApply_steady ..).moves
  | .read .. => (execRead_steady ..).moves
  | .write .. => (execWrite_steady ..).moves
  | .writeInit .. => (execWriteInit_steady ..).moves
  | .segment .. => (execSegment_steady ..).moves
  | .ack .. => (execAck_steady ..).moves
  | .abort .. => (execAbort_steady ..).moves
  | .tackBootupFrame .. => (execTackBootupFrame_steady ..).moves
  | .tackBootupListenEnd => (execTackBootupListenEnd_steady ..).moves
  | .tackClassicalFrame .. => (execTackClassicalFrame_steady ..).moves
  | .tackTransferTimeout .. => (execTackTransferTimeout_steady ..).moves
  | .presenceOpen => (execPresenceOpen_steady ..).moves
  | .presenceClose => (execPresenceClose_steady ..).moves
  | .presenceStuck => (execPresenceStuck_steady ..).moves
  | .presenceRearm => (execPresenceRearm_steady ..).moves
  | .recorderClear .. => (execRecorderClear_steady ..).moves
  | .recorderClearStepEnd => (execRecorderClearStepEnd_steady ..).moves
  | .lockPolicyChange .. => (execLockPolicyChange_steady ..).moves
  | .factoryDefault .. => (execFactoryDefault_steady ..).moves
  | .cryptoErase .. => (execCryptoErase_steady ..).moves
  | .forcedSlotSelection .. => (execForcedSlotSelection_steady ..).moves
  | .presencePolicyChange .. => (execPresencePolicyChange_steady ..).moves
  | .hostWrite .. => (execHostWrite_steady ..).moves
  | .hostRead .. => (execHostRead_steady ..).moves
  | .streamWrite .. => (execStreamWrite_steady ..).moves
  | .skiveClose .. => (execSkiveClose_steady ..).moves
  | .weltRelease .. => (execWeltRelease_steady ..).moves
  | .hdmDecoderCommit .. => (execHdmDecoderCommit_steady ..).moves
  | .doorbellRing .. => (execDoorbellRing_steady ..).moves
  | .barrierEnd .. => (execBarrierEnd_steady ..).moves
  | .barrierTimeout .. => (execBarrierTimeout_steady ..).moves
  | .commitBarrierCutoff => (execCommitBarrierCutoff_steady ..).moves
  | .gpfPhase1 .. => (execGpfPhase1_steady ..).moves
  | .gpfPhase2 .. => (execGpfPhase2_steady ..).moves
  | .hostLinkUp .. => (execHostLinkUp_steady ..).moves
  | .hostLinkDown .. => (execHostLinkDown_steady ..).moves
  | .hptPortEnableChange .. => (execHptPortEnableChange_steady ..).moves
  | .hptLdEnableChange .. => (execHptLdEnableChange_steady ..).moves
  | .birspi .. => (execBirspi_steady ..).moves
  | .biconflict .. => (execBiconflict_steady ..).moves
  | .bisnpGuardExpired .. => (execBisnpGuardExpired_steady ..).moves
  | .identifyMemoryDevice .. => (execIdentifyMemoryDevice_steady ..).moves
  | .getPartitionInfo .. => (execGetPartitionInfo_steady ..).moves
  | .getSupportedLogs .. => (execGetSupportedLogs_steady ..).moves
  | .getLog .. => (execGetLog_steady ..).moves
  | .getHealthInfo .. => (execGetHealthInfo_steady ..).moves
  | .getEventRecords .. => (execGetEventRecords_steady ..).moves
  | .clearEventRecords .. => (execClearEventRecords_steady ..).moves
  | .getEventInterruptPolicy .. => (execGetEventInterruptPolicy_steady ..).moves
  | .setEventInterruptPolicy .. => (execSetEventInterruptPolicy_steady ..).moves
  | .getLsa .. => (execGetLsa_steady ..).moves
  | .setLsa .. => (execSetLsa_steady ..).moves
  | .getPoisonList .. => (execGetPoisonList_steady ..).moves
  | .clearPoison .. => (execClearPoison_steady ..).moves
  | .getTimestamp .. => (execGetTimestamp_steady ..).moves
  | .setTimestamp .. => (execSetTimestamp_steady ..).moves
  | .getFwInfo .. => (execGetFwInfo_steady ..).moves
  | .unsupportedMailboxCommand .. => (execUnsupportedMailboxCommand_steady ..).moves
  | .getLdInfo .. => (execGetLdInfo_steady ..).moves
  | .getLdAllocations .. => (execGetLdAllocations_steady ..).moves
  | .setLdAllocations .. => (execSetLdAllocations_steady ..).moves
  | .odRead .. => (execOdRead_steady ..).moves
  | .odWrite .. => (execOdWrite_steady ..).moves
  | .odAbort .. => (execOdAbort_steady ..).moves
  | .objectCreate .. => (execObjectCreate_steady ..).moves
  | .objectDestroy .. => (execObjectDestroy_steady ..).moves
  | .objectQuery .. => (execObjectQuery_steady ..).moves
  | .objectSetPolicy .. => (execObjectSetPolicy_steady ..).moves
  | .streamOpen .. => (execStreamOpen_steady ..).moves
  | .streamClose .. => (execStreamClose_steady ..).moves
  | .layerDone .. => (execLayerDone_steady ..).moves
  | .streamDeadline .. => (execStreamDeadline_steady ..).moves
  | .mirror .. => (execMirror_steady ..).moves
  | .mirrorFull .. => (execMirrorFull_steady ..).moves
  | .mirrorAck .. => (execMirrorAck_steady ..).moves
  | .release .. => (execRelease_steady ..).moves
  | .repairReq .. => (execRepairReq_steady ..).moves
  | .repairRsp .. => (execRepairRsp_steady ..).moves
  | .remirror .. => (execRemirror_steady ..).moves
  | .journal .. => (execJournal_steady ..).moves
  | .journalAck .. => (execJournalAck_steady ..).moves
  | .zoneReq .. => (execZoneReq_steady ..).moves
  | .zoneGrant .. => (execZoneGrant_steady ..).moves
  | .zoneAck .. => (execZoneAck_steady ..).moves
  | .barrierReq .. => (execBarrierReq_steady ..).moves
  | .barrierDone .. => (execBarrierDone_steady ..).moves
  | .hello .. => (execHello_steady ..).moves
  | .heartbeat .. => (execHeartbeat_steady ..).moves
  | .handoverBegin => (execHandoverBegin_steady ..).moves
  | .handoverDone => (execHandoverDone_steady ..).moves
  | .failbackReq => (execFailbackReq_steady ..).moves
  | .failbackReady .. => (execFailbackReady_steady ..).moves
  | .failbackDone => (execFailbackDone_steady ..).moves
  | .violation .. => (execViolation_steady ..).moves
  | .stirrupUp .. => (execStirrupUp_steady ..).moves
  | .stirrupDown => (execStirrupDown_steady ..).moves
  | .stpRetrain => (execStpRetrain_steady ..).moves
  | .heartbeatLossRetrain => (execHeartbeatLossRetrain_steady ..).moves
  | .twinFailed => (execTwinFailed_steady ..).moves
  | .claimDelayExpired => (execClaimDelayExpired_steady ..).moves
  | .reservationPreemptDone .. => (execReservationPreemptDone_steady ..).moves
  | .claimRetry => (execClaimRetry_steady ..).moves
  | .leaseSlotWrite => (execLeaseSlotWrite_steady ..).moves
  | .handoverLeaseStale => (execHandoverLeaseStale_steady ..).moves
  | .twinWaitExpired .. => (execTwinWaitExpired_steady ..).moves
  | .twinLeaseRecheck .. => (execTwinLeaseRecheck_steady ..).moves
  | .partnerContainmentEnd .. => (execPartnerContainmentEnd_steady ..).moves
  | .rdS .. => (execRdS_steady ..).moves
  | .rdX .. => (execRdX_steady ..).moves
  | .wb .. => (execWb_steady ..).moves
  | .snpS .. => (execSnpS_steady ..).moves
  | .snpInv .. => (execSnpInv_steady ..).moves
  | .ackI .. => (execAckI_steady ..).moves
  | .ackS .. => (execAckS_steady ..).moves
  | .ackData .. => (execAckData_steady ..).moves
  | .wbPending .. => (execWbPending_steady ..).moves
  | .dataS .. => (execDataS_steady ..).moves
  | .dataE .. => (execDataE_steady ..).moves
  | .wbAck .. => (execWbAck_steady ..).moves
  | .nack .. => (execNack_steady ..).moves
  | .done .. => (execDone_steady ..).moves
  | .nackRetryTimer .. => (execNackRetryTimer_steady ..).moves
  | .snoopGuardExpired .. => (execSnoopGuardExpired_steady ..).moves
  | .agentLoad .. => (execAgentLoad_steady ..).moves
  | .agentStore .. => (execAgentStore_steady ..).moves
  | .agentEviction .. => (execAgentEviction_steady ..).moves
  | .nonTemporalStore .. => (execNonTemporalStore_steady ..).moves
  | .uncachedAccess .. => (execUncachedAccess_steady ..).moves
  | .fenceFCore .. => (execFenceFCore_steady ..).moves
  | .fenceFClu .. => (execFenceFClu_steady ..).moves
  | .fenceFSys .. => (execFenceFSys_steady ..).moves
  | .fenceSCore .. => (execFenceSCore_steady ..).moves
  | .fenceSClu .. => (execFenceSClu_steady ..).moves
  | .fenceSSys .. => (execFenceSSys_steady ..).moves
  | .treeFillDone .. => (execTreeFillDone_steady ..).moves
  | .treeWalkDone .. => (execTreeWalkDone_steady ..).moves
  | .clean => (execClean_steady ..).moves
  | .cleanInv => (execCleanInv_steady ..).moves
  | .inv => (execInv_steady ..).moves
  | .treMaintAbort .. => (execTreMaintAbort_steady ..).moves
  | .treMaintDone => (execTreMaintDone_steady ..).moves
  | .dramArbitrate .. => (execDramArbitrate_steady ..).moves
  | .dramWriteEnqueue .. => (execDramWriteEnqueue_steady ..).moves
  | .dramReadReturn .. => (execDramReadReturn_steady ..).moves
  | .dramRefreshDue .. => (execDramRefreshDue_steady ..).moves
  | .dimmTempPoll .. => (execDimmTempPoll_steady ..).moves
  | .dramRetrainDone .. => (execDramRetrainDone_steady ..).moves
  | .holdupSmbusPoll .. => (execHoldupSmbusPoll_steady ..).moves
  | .holdupSenseSample .. => (execHoldupSenseSample_steady ..).moves
  | .drainTakeChunk => (execDrainTakeChunk_steady ..).moves
  | .stripeWrite .. => (execStripeWrite_steady ..).moves
  | .stripeCommit .. => (execStripeCommit_steady ..).moves
  | .stripeWriteFailed .. => (execStripeWriteFailed_steady ..).moves
  | .zoneReclaim .. => (execZoneReclaim_steady ..).moves
  | .tierCheckpoint => (execTierCheckpoint_steady ..).moves
  | .commitStepEnd => fun h => .inr (execCommitStepEnd_moves h)
  | .swCommit .. => (execSwCommit_steady ..).moves
  | .requalPowerUp => (execRequalPowerUp_steady ..).moves
  | .segmentLoadDone .. => (execSegmentLoadDone_steady ..).moves
  | .segmentEvict => (execSegmentEvict_steady ..).moves
  | .segmentEvictDone .. => (execSegmentEvictDone_steady ..).moves
  | .frameMoveDone .. => (execFrameMoveDone_steady ..).moves
  | .loadLate .. => (execLoadLate_steady ..).moves
  | .leaseReq .. => (execLeaseReq_steady ..).moves
  | .leaseGrant .. => (execLeaseGrant_steady ..).moves
  | .leaseReturn .. => (execLeaseReturn_steady ..).moves
  | .leaseRecall .. => (execLeaseRecall_steady ..).moves
  | .leasePing .. => (execLeasePing_steady ..).moves
  | .leasePingTimer => (execLeasePingTimer_steady ..).moves
  | .leaseRecallDeadline .. => (execLeaseRecallDeadline_steady ..).moves
  | .leaseGraceExpired .. => (execLeaseGraceExpired_steady ..).moves
  | .leaseOpen .. => (execLeaseOpen_steady ..).moves
  | .leaseAccept .. => (execLeaseAccept_steady ..).moves
  | .leaseOpenResend .. => (execLeaseOpenResend_steady ..).moves
  | .pdAlloc .. => (execPdAlloc_steady ..).moves
  | .pdFree .. => (execPdFree_steady ..).moves
  | .cqCreate .. => (execCqCreate_steady ..).moves
  | .cqDestroy .. => (execCqDestroy_steady ..).moves
  | .connCreate .. => (execConnCreate_steady ..).moves
  | .connModifyError .. => (execConnModifyError_steady ..).moves
  | .connModifyTxKey .. => (execConnModifyTxKey_steady ..).moves
  | .connModifyRxKey .. => (execConnModifyRxKey_steady ..).moves
  | .connDestroy .. => (execConnDestroy_steady ..).moves
  | .regionRegister .. => (execRegionRegister_steady ..).moves
  | .regionRevoke .. => (execRegionRevoke_steady ..).moves
  | .revokeForced .. => (execRevokeForced_steady ..).moves
  | .sqTail .. => (execSqTail_steady ..).moves
  | .rqTail .. => (execRqTail_steady ..).moves
  | .cqHead .. => (execCqHead_steady ..).moves
  | .wqeNop .. => (execWqeNop_steady ..).moves
  | .wqeWrite .. => (execWqeWrite_steady ..).moves
  | .wqeRead .. => (execWqeRead_steady ..).moves
  | .wqeSend .. => (execWqeSend_steady ..).moves
  | .wqeCas .. => (execWqeCas_steady ..).moves
  | .wqeFaa .. => (execWqeFaa_steady ..).moves
  | .wqeWait .. => (execWqeWait_steady ..).moves
  | .cqeWrite .. => (execCqeWrite_steady ..).moves
  | .rdmaWriteRequest .. => (execRdmaWriteRequest_steady ..).moves
  | .rdmaReadRequest .. => (execRdmaReadRequest_steady ..).moves
  | .sendRequest .. => (execSendRequest_steady ..).moves
  | .compareAndSwap .. => (execCompareAndSwap_steady ..).moves
  | .fetchAndAdd .. => (execFetchAndAdd_steady ..).moves
  | .roceAckReceived .. => (execRoceAckReceived_steady ..).moves
  | .roceNakReceived .. => (execRoceNakReceived_steady ..).moves
  | .roceAckTimeout .. => (execRoceAckTimeout_steady ..).moves
  | .cnpReceived .. => (execCnpReceived_steady ..).moves
  | .cnpRateRecovery .. => (execCnpRateRecovery_steady ..).moves
  | .contextFetchDone .. => (execContextFetchDone_steady ..).moves
  | .contextEvict => (execContextEvict_steady ..).moves
  | .ethLinkChange .. => (execEthLinkChange_steady ..).moves
  | .cipherJobSubmit .. => (execCipherJobSubmit_steady ..).moves
  | .cipherJobDone .. => (execCipherJobDone_steady ..).moves
  | .coreIsolated .. => (execCoreIsolated_steady ..).moves
  | .keySlotBroken .. => (execKeySlotBroken_steady ..).moves
  | .keyLoad .. => (execKeyLoad_steady ..).moves
  | .keyFree .. => (execKeyFree_steady ..).moves
  | .driveInserted .. => (execDriveInserted_steady ..).moves
  | .driveRemoved .. => (execDriveRemoved_steady ..).moves
  | .driveCommandComplete .. => (execDriveCommandComplete_steady ..).moves
  | .driveCommandTimeout .. => (execDriveCommandTimeout_steady ..).moves
  | .readShortcutExpired .. => (execReadShortcutExpired_steady ..).moves
  | .driveAsyncEvent .. => (execDriveAsyncEvent_steady ..).moves
  | .driveLinkDownExpired .. => (execDriveLinkDownExpired_steady ..).moves
  | .forceFail .. => (execForceFail_steady ..).moves
  | .rebuildStart .. => (execRebuildStart_steady ..).moves
  | .rebuildStripe .. => (execRebuildStripe_steady ..).moves
  | .hostGuardExpired .. => (execHostGuardExpired_steady ..).moves
  | .engineWatchdogExpired .. => (execEngineWatchdogExpired_steady ..).moves
  | .keeperHeartbeatMissed .. => (execKeeperHeartbeatMissed_steady ..).moves
  | .keeperReloadDone .. => (execKeeperReloadDone_steady ..).moves
  | .pommelWatchdog => (execPommelWatchdog_steady ..).moves
  | .faultReported .. => (execFaultReported_steady ..).moves
  | .groupRetryExpired .. => (execGroupRetryExpired_steady ..).moves
  | .recoveryWindowClose .. => (execRecoveryWindowClose_steady ..).moves
  | .flsBankClaim .. => (execFlsBankClaim_steady ..).moves
  | .flsBankRelease .. => (execFlsBankRelease_steady ..).moves
  | .flsClaimExpired .. => (execFlsClaimExpired_steady ..).moves
  | .flashRead .. => (execFlashRead_steady ..).moves
  | .flashProgram .. => (execFlashProgram_steady ..).moves
  | .flashErase .. => (execFlashErase_steady ..).moves
  | .flashSuspend .. => (execFlashSuspend_steady ..).moves
  | .flashResume .. => (execFlashResume_steady ..).moves
  | .readWear .. => (execReadWear_steady ..).moves
  | .flashAbort .. => (execFlashAbort_steady ..).moves
  | .flashSuspendEffect .. => (execFlashSuspendEffect_steady ..).moves
  | .flashRunWindowEnd .. => (execFlashRunWindowEnd_steady ..).moves
  | .flashProgramDone .. => (execFlashProgramDone_steady ..).moves
  | .flashEraseDone .. => (execFlashEraseDone_steady ..).moves
  | .fwData .. => (execFwData_steady ..).moves
  | .fwActivate .. => (execFwActivate_steady ..).moves
  | .fwActivateForce .. => (execFwActivateForce_steady ..).moves
  | .fwActivateCancel .. => (execFwActivateCancel_steady ..).moves
  | .fwConfirmed => (execFwConfirmed_steady ..).moves
  | .recordSubmit .. => (execRecordSubmit_steady ..).moves
  | .recordProgrammed => (execRecordProgrammed_steady ..).moves
  | .readBlock .. => (execReadBlock_steady ..).moves
  | .lxRingTailWrite .. => (execLxRingTailWrite_steady ..).moves
  | .lxBankWrite .. => (execLxBankWrite_steady ..).moves
  | .lxRingReset .. => (execLxRingReset_steady ..).moves
  | .functionLevelReset .. => (execFunctionLevelReset_steady ..).moves
  | .nop .. => (execNop_steady ..).moves
  | .flush .. => (execFlush_steady ..).moves
  | .flushMedia .. => (execFlushMedia_steady ..).moves
  | .zero .. => (execZero_steady ..).moves
  | .identify .. => (execIdentify_steady ..).moves
  | .fwDownload .. => (execFwDownload_steady ..).moves
  | .fwCommit .. => (execFwCommit_steady ..).moves
  | .lxUnknownOpcode .. => (execLxUnknownOpcode_steady ..).moves
  | .lxCommandStatus .. => (execLxCommandStatus_steady ..).moves
  | .psuOkHigh => (execPsuOkHigh_steady ..).moves
  | .holdupLowNHigh => (execHoldupLowNHigh_steady ..).moves
  | .faultNReleased => (execFaultNReleased_steady ..).moves
  | .psuOkGlitch => (execPsuOkGlitch_steady ..).moves
  | .holdupLowNGlitch => (execHoldupLowNGlitch_steady ..).moves
  | .sysclkReturn => (execSysclkReturn_steady ..).moves
  | .vddAonReturn => (execVddAonReturn_steady ..).moves
  | .wrstNRelease => (execWrstNRelease_steady ..).moves
  | .presenceNPress => (execPresenceNPress_steady ..).moves
  | .presenceNRelease => (execPresenceNRelease_steady ..).moves
  | .railPgFall .. => (execRailPgFall_steady ..).moves
  | .driveLinkChange .. => (execDriveLinkChange_steady ..).moves
  | .driveResetTimeout .. => (execDriveResetTimeout_steady ..).moves
  | .doorbellAddrWrite .. => (execDoorbellAddrWrite_steady ..).moves
  | .lxRegisterWrite .. => (execLxRegisterWrite_steady ..).moves

/-- The loss of VDD_AON takes the count and holds the rest in reset (R35). -/
theorem vddAonLoss_clock {torn : Bool} {s t : State} (h : exec (.vddAonLoss torn) s = .next t) :
    t = s ∨ t.boot.porst = true ∧ clockFace t.lck = (.acquire, false, 0, 0) := by
  simp only [exec_vddAonLoss, execVddAonLoss] at h
  cases h
  split
  · exact .inr ⟨rfl, rfl⟩
  · exact .inl rfl

/-! ### What the moves of the clock keep -/

theorem ClockMoves.inRange {s t : State} (h : ClockMoves s t) (hs : ClockInv s) : ClockInv t := by
  obtain ⟨hp, hc, hl⟩ := hs
  have hw : (s.lck.count + 1) % 2 ^ 40 < 2 ^ 40 := Nat.mod_lt _ (by norm_num)
  unfold ClockInv
  cases h with
  | released _ hl' hc' => exact ⟨by omega, by omega, hl'⟩
  | stands h =>
    obtain ⟨h1, h2, h3, h4⟩ := clockFace_congr h
    rw [h1, h2, h3, h4]
    exact ⟨hp, hc, hl⟩
  | ticks hb h =>
    obtain ⟨h1, h2, h3, h4⟩ := clockFace_eq_iff.1 h
    rw [h1, h2, h3, h4]
    exact ⟨by omega, hc, hl⟩
  | wraps n _ hn h =>
    obtain ⟨h1, h2, h3, h4⟩ := clockFace_eq_iff.1 h
    rw [h1, h2, h3, h4]
    exact ⟨by omega, hn, hl⟩
  | tracks hs _ h =>
    obtain ⟨-, h2, h3, h4⟩ := clockFace_eq_iff.1 h
    rw [h2, h3, h4]
    exact ⟨hp, hc, fun hl' => absurd (hl hl') hs.ne_acquire⟩
  | locks _ h | listenEnds _ h | held _ h =>
    obtain ⟨-, h2, h3, h4⟩ := clockFace_eq_iff.1 h
    rw [h2, h3, h4]
    exact ⟨by omega, by omega, by simp⟩

/-- Below the wrap of the count no move takes the timestamp back (R34). -/
theorem ClockMoves.forward {s t : State} (h : ClockMoves s t) (hp : s.lck.phase < 1024) (hc : s.lck.count + 1 < 2 ^ 40)
    (hl : s.lck.countLost = false) : timestamp s ≤ timestamp t := by
  have hw : (s.lck.count + 1) % 2 ^ 40 = s.lck.count + 1 := Nat.mod_eq_of_lt hc
  unfold timestamp
  cases h with
  | released _ _ hc' =>
    obtain ⟨h3, h4⟩ | ⟨h, -⟩ := hc'
    · rw [h3, h4]
    · simp [hl] at h
  | stands h =>
    obtain ⟨-, -, h3, h4⟩ := clockFace_congr h
    rw [h3, h4]
  | wraps n hn _ h =>
    obtain ⟨-, -, h3, h4⟩ := clockFace_eq_iff.1 h
    omega
  | ticks _ h | tracks _ _ h | locks _ h | listenEnds _ h | held _ h =>
    obtain ⟨-, -, h3, h4⟩ := clockFace_eq_iff.1 h
    omega

/-- Every tick boundary with VDD_AON present takes the timestamp forward (R33, R34). -/
theorem tick_forward {s : State} (hv : s.ham.vddAon = true) (hp : s.lck.phase < 1024) (hc : s.lck.count + 1 < 2 ^ 40) :
    timestamp s < timestamp (tick s) := by
  have hw : (s.lck.count + 1) % 2 ^ 40 = s.lck.count + 1 := Nat.mod_eq_of_lt hc
  unfold timestamp
  by_cases hb : s.lck.phase < 1023
  · obtain ⟨-, -, h3, h4⟩ := clockFace_eq_iff.1 ((tick_clockFace hv).trans (tickAdvance_below hb))
    omega
  · obtain ⟨n, hn, -, hf⟩ := tickAdvance_wrap (Nat.le_of_not_lt hb)
    obtain ⟨-, -, h3, h4⟩ := clockFace_eq_iff.1 ((tick_clockFace hv).trans hf)
    omega

/-- A clock that does not listen, outside PORST_N, keeps its state, moves between LOCKED and HOLDOVER, or PORST_N is asserted. -/
theorem ClockMoves.state_cases {s t : State} (h : ClockMoves s t) (hp : s.boot.porst = false) (hl : s.lck.listening = false) :
    t.lck.state = s.lck.state ∨ (Tracks s.lck.state ∧ Tracks t.lck.state) ∨ t.boot.porst = true := by
  cases h with
  | stands h => exact .inl (clockFace_congr h).1
  | ticks _ h | wraps _ _ _ h => exact .inl (clockFace_eq_iff.1 h).1
  | tracks hs ht _ => exact .inr (.inl ⟨hs, ht⟩)
  | held hp' _ => exact .inr (.inr hp')
  | locks hl' _ | listenEnds hl' _ => simp [hl] at hl'
  | released hp' _ _ => simp [hp] at hp'

theorem exec_state_cases {c : Instr} {s t : State} (h : exec c s = .next t) (hp : s.boot.porst = false) (hl : s.lck.listening = false) :
    t.lck.state = s.lck.state ∨ (Tracks s.lck.state ∧ Tracks t.lck.state) ∨ t.boot.porst = true := by
  obtain ⟨torn, rfl⟩ | hm := exec_moves c s t h
  · obtain rfl | ⟨hp', -⟩ := vddAonLoss_clock h
    · exact .inl rfl
    · exact .inr (.inr hp')
  · exact hm.state_cases hp hl

theorem exec_keepsClock {c : Instr} {s t : State} (h : exec c s = .next t) (hs : ClockInv s) : ClockInv t := by
  obtain ⟨torn, rfl⟩ | hm := exec_moves c s t h
  · obtain rfl | ⟨-, hf⟩ := vddAonLoss_clock h
    · exact hs
    · obtain ⟨-, h2, h3, h4⟩ := clockFace_eq_iff.1 hf
      simp [ClockInv, h2, h3, h4]
  · exact hm.inRange hs

/-- Settles O51: a step runs a command on the rest of the queue, whose move keeps the clock in range, or idles. -/
theorem clockStaysInRange : Obligations.ClockStaysInRange := by
  unfold Obligations.ClockStaysInRange
  intro s t hs h
  cases hq : s.pending with
  | nil =>
    rw [step_nil s hq] at h
    cases h
    exact hs
  | cons c r =>
    rw [step_cons s c r hq] at h
    exact exec_keepsClock h hs

/-- Settles O53: of the moves of the clock only the resumption after a loss of VDD_AON could take the timestamp back. -/
theorem timestampsNeverDecrease : Obligations.TimestampsNeverDecrease := by
  unfold Obligations.TimestampsNeverDecrease
  refine ⟨fun c s t hs hc hl hv h => ?_, fun s t hs hc hv h => ?_⟩
  · obtain ⟨torn, rfl⟩ | hm := exec_moves c s t h
    · exact absurd rfl (hv torn)
    · exact hm.forward hs.1 hc hl
  · cases h
    exact tick_forward hv hs.1 hc

/-! ### TICK -/

/-- A tick is no more than an eighth of a half-cycle's 1,024th away from it (R41). -/
theorem tickLength_bounds (c : LineClock) : runPeriod c - runPeriod c / 8 ≤ tickLength c ∧ tickLength c ≤ runPeriod c + runPeriod c / 8 := by
  have hm : runPeriod c / 8 ≤ runPeriod c := Nat.div_le_self ..
  unfold tickLength tickCorrection
  generalize runPeriod c / 8 = m at hm
  dsimp only
  split_ifs <;> omega

/-- With PORST_N asserted a half-cycle boundary makes no step to the twin's count. -/
theorem wrapClock_porst {s : State} (hp : s.boot.porst = true) :
    ∃ c, wrapClock s = { s with lck := c } ∧ c.phase = 0 ∧ c.count = (s.lck.count + 1) % 2 ^ 40 := by
  unfold wrapClock
  extract_lets c s1
  split
  · exact ⟨_, if_pos (.inr hp), rfl, rfl⟩
  · exact ⟨_, rfl, rfl, rfl⟩

/-- While PORST_N is asserted only the line clock runs (R35). -/
theorem tick_porst {s : State} (hv : s.ham.vddAon = true) (hp : (tickAdvance s).boot.porst = true) : tick s = tickAdvance s := by
  simp [tick, hv, hp]

theorem kept_time_lck (s : State) (n : Nat) (c : LineClock) : KeptBut [.lck, .time] s { s with time := n, lck := c } := by
  intro p hp
  cases p <;> simp_all [Part.same]

/-- Settles O15: under PORST_N the boundary is `tickAdvance`, which below phase 1023 is `phaseStep` and at it a half-cycle boundary. -/
theorem tickAdvancesTheClock : Obligations.TickAdvancesTheClock := by
  unfold Obligations.TickAdvancesTheClock
  refine ⟨fun s hv => ?_, fun s hv hp hb => ?_, fun s hv hp hb => ?_, tickLength_bounds⟩
  · simp [execTick, tick, hv]
  · have ha := tickAdvance_eq_phaseStep hb
    refine ⟨phaseStep s, ?_, rfl, rfl, rfl, kept_time_lck s _ _⟩
    rw [exec_tick, execTick, tick_porst hv (ha ▸ hp), ha]
  · obtain ⟨c, hw, h0, hc⟩ := wrapClock_porst (s := phaseStep s) hp
    have ha : tickAdvance s = { phaseStep s with lck := c } := (tickAdvance_eq_wrapClock hb.ge).trans hw
    refine ⟨{ phaseStep s with lck := c }, ?_, h0, hc, rfl, kept_time_lck s _ _⟩
    rw [exec_tick, execTick, tick_porst hv (ha ▸ hp), ha]

/-- A qualified pulse in SYNTHETIC only notes, once, that the line was seen (R50). -/
theorem execLineSyncPulse_synthetic {ns : Nat} (dt : Nat) {s : State} (hn : 2000 ≤ ns) (hs : s.lck.state = .synthetic) :
    execLineSyncPulse ns dt s =
      .next (if s.lck.lineSeen then s else record { s with lck := { s.lck with lineSeen := true } } Ev.LINE_SEEN_SYNTH 0xFF []) := by
  simp only [execLineSyncPulse, hs, if_neg (Nat.not_lt.2 hn)]

theorem fieldView_lineSeen (s : State) : fieldView s Reg.LCK_STATUS_LINE_SEEN.addr = some (b2n s.lck.lineSeen) := rfl

/-- Settles O54: SYNTHETIC is left at PORST_N only, and a qualified pulse only notes that the line was seen. -/
theorem syntheticUntilPorst : Obligations.SyntheticUntilPorst := by
  unfold Obligations.SyntheticUntilPorst
  refine ⟨fun c s t hp hs hl h => ?_, fun ns dt s hn hs => ⟨_, execLineSyncPulse_synthetic dt hn hs, ?_⟩⟩
  · obtain h1 | ⟨h1, -⟩ | h1 := exec_state_cases h hp hl
    · exact .inl (h1.trans hs)
    · simp [Tracks, hs] at h1
    · exact .inr h1
  · rw [fieldView_lineSeen]
    cases hl : s.lck.lineSeen
    · exact ⟨rfl, rfl, rfl, fun _ => rfl, by simp⟩
    · simp [← hl, b2n]

/-- Settles O55: LOCKED and HOLDOVER only follow each other until PORST_N, and LINE_MISSED acts in these two only. -/
theorem lockedNeverSynthetic : Obligations.LockedNeverSynthetic := by
  unfold Obligations.LockedNeverSynthetic
  refine ⟨fun c s t hp hs hl h => ?_, fun s hs => ?_⟩
  · obtain h1 | ⟨-, h1⟩ | h1 := exec_state_cases h hp hl
    · rw [h1]
      tauto
    · rw [Tracks] at h1
      tauto
    · exact .inr (.inr h1)
  · obtain hs | hs := hs <;> simp [execLineMissed, hs]

/-! ### LINE_SYNC: what each pulse and each missed crossing does -/

/-- A short pulse is a glitch in every state of the clock (R38). -/
theorem execLineSyncPulse_short {ns : Nat} (dt : Nat) (s : State) (hn : ns < 2000) : execLineSyncPulse ns dt s = .next (lineGlitch s) := by
  simp only [execLineSyncPulse, if_pos hn]

/-- A qualified pulse near the last expected crossing, still open, is its good crossing (R40). -/
theorem execLineSyncPulse_good {ns dt : Nat} {s : State} (hn : 2000 ≤ ns) (hs : Tracks s.lck.state)
    (hx : nearCrossing (s.time + cycles dt) s.lck.prevExp = true) (hd : s.lck.prevDone = false) :
    execLineSyncPulse ns dt s = .next (goodCrossing s (s.time + cycles dt) s.lck.boundaries
      (((s.time + cycles dt : Nat) : Int) - (s.lck.lastBoundary : Int)) false) := by
  obtain hs | hs := hs <;> simp only [execLineSyncPulse, if_neg (Nat.not_lt.2 hn), hs, hx, hd] <;> rfl

/-- The marks of a missed half-cycle: HOLDOVER, the run of misses, the count, the event and record 0x2001 (R43). -/
def missMark (s : State) : State :=
  record (setF (bump { s with
    lck := { s.lck with state := .holdover, missRun := min 7 (s.lck.missRun + 1), goodRun := 0, prevDone := true } }
    Reg.LCK_COUNTS_MISSED_TOTAL 1) Reg.LCK_EVENTS_MISSED) Ev.LINE_MISSED 0xFF []

/-- A missed half-cycle of a RUNNING controller: the third in a row is COMMIT trigger 3, the first enters WARN (R43, R313). -/
theorem execLineMissed_running {s : State} (hs : Tracks s.lck.state) (hd : s.lck.prevDone = false) (hq : s.ham.seq = .running) :
    execLineMissed s = .next (if s.lck.missRun + 1 = 3 then commitTrigger (missMark s) 3
      else if s.lck.missRun = 0 then warnEnter (missMark s) else missMark s) := by
  have hn : ¬(s.ham.seq = .requal ∨ s.ham.seq = .backout) := by simp [hq]
  exact congrArg _ ((if_pos ⟨hs, hd⟩).trans (if_neg hn))

theorem missMark_kept (s : State) : KeptBut [.lck, .csr, .stm] s (missMark s) := by
  intro p hp
  cases p <;> simp_all [Part.same, missMark]

theorem missMark_fields (s : State) : FieldsKeptBut [Reg.LCK_COUNTS_MISSED_TOTAL, Reg.LCK_EVENTS_MISSED] s (missMark s) := by
  intro f hf
  simp only [List.forall_mem_cons] at hf
  obtain ⟨h1, h2, -⟩ := hf
  rw [missMark, rd_record, rd_setF_ne _ h2.symm, rd_bump_ne _ _ h1.symm]
  rfl

theorem lineGlitch_fields (s : State) : FieldsKeptBut [Reg.LCK_COUNTS_GLITCH_TOTAL, Reg.LCK_EVENTS_GLITCH] s (lineGlitch s) := by
  intro f hf
  simp only [List.forall_mem_cons] at hf
  obtain ⟨h1, h2, -⟩ := hf
  rw [lineGlitch, rd_record, rd_setF_ne _ h2.symm, rd_bump_ne _ _ h1.symm]

theorem lineGlitch_kept (s : State) : KeptBut [.csr, .stm] s (lineGlitch s) := by
  intro p hp
  cases p <;> simp_all [Part.same, lineGlitch]

/-- The count of glitches saturates (R38). -/
theorem lineGlitch_count (s : State) : rd (lineGlitch s) Reg.LCK_COUNTS_GLITCH_TOTAL =
    satTo (2 ^ Reg.LCK_COUNTS_GLITCH_TOTAL.width - 1) (rd s Reg.LCK_COUNTS_GLITCH_TOTAL + 1) := by
  rw [lineGlitch, rd_record, rd_setF_ne _ (by decide), rd_bump_self]

/-- Settles O13: each clause is the case of its event's meaning that its hypotheses select. -/
theorem lineClockEvents : Obligations.LineClockEvents := by
  unfold Obligations.LineClockEvents
  refine ⟨fun ns dt s hn hs hl => ?_, fun ns dt s hn hs hl => ?_, fun ns dt s hn hs hx hd => execLineSyncPulse_good hn hs hx hd,
    fun s hs hd hq hm => ⟨missMark s, ?_, rfl, ?_, rfl, missMark_kept s, missMark_fields s⟩,
    fun s hs hd hq hm => ⟨missMark s, ?_, ?_, missMark_kept s⟩, fun s hl => ?_, fun s hp => ⟨?_, rfl⟩, fun s hp => ?_⟩
  · simp only [exec_lineSyncPulse, execLineSyncPulse, if_neg (Nat.not_lt.2 hn), hs, hl, if_true]
  · rw [exec_lineSyncPulse, execLineSyncPulse_synthetic dt hn hs, hl]
    rfl
  · rw [exec_lineMissed, execLineMissed_running hs hd hq, hm]
    rfl
  · simp [missMark, hm]
  · rw [exec_lineMissed, execLineMissed_running hs hd hq, hm]
    rfl
  · simp [missMark, hm]
  · simp only [exec_lineListenEnd, execLineListenEnd, if_pos hl]
  · simp only [exec_halfCycleBoundary, execHalfCycleBoundary, if_pos hp]
  · simp only [exec_halfCycleBoundary, execHalfCycleBoundary, if_neg hp]

/-- Settles O14: a short pulse is `lineGlitch`, which leaves the clock and changes the count, the event and the recorder only. -/
theorem shortPulsesAreGlitches : Obligations.ShortPulsesAreGlitches := by
  unfold Obligations.ShortPulsesAreGlitches
  exact fun ns dt s hn => ⟨lineGlitch s, execLineSyncPulse_short dt s hn, lineGlitch_lck s, lineGlitch_count s, lineGlitch_kept s,
    lineGlitch_fields s⟩

/-- Settles O48: the parts of `State.reset` that the invariants speak of are literals. -/
theorem invariantsHoldAtReset : Obligations.InvariantsHoldAtReset := by
  unfold Obligations.InvariantsHoldAtReset
  exact ⟨⟨rfl, by simp [State.reset]⟩, ⟨by decide, by decide, by decide⟩, fun h => absurd h (by decide), rfl, rfl, rfl⟩

end Sys2Proof.Proofs
end

section
/-!
PROOFS. The CSR window's accesses (O16), its refusals (O17), and the shadows and staging words of the masters (O57).
-/
namespace Sys2Proof.Proofs
open Sys2Proof Sys2Proof.Machine Sys2Proof.Laws

/-! ### A map at the keys that a change leaves alone -/

theorem amFind_amErase_ne {α : Type} (m : List (Nat × α)) {k j : Nat} (h : j ≠ k) : amFind (amErase m k) j = amFind m j := by
  induction m with
  | nil => rfl
  | cons e r ih =>
    obtain ⟨a, v⟩ := e
    by_cases ha : a = k
    · subst ha
      simpa [amErase, amFind, h.symm] using ih
    · by_cases hj : a = j
      · simp [amErase, amFind, hj, h]
      · simpa [amErase, amFind, ha, hj] using ih

theorem amFind_amInsert_ne {α : Type} (m : List (Nat × α)) {k j : Nat} (v : α) (h : j ≠ k) : amFind (amInsert m k v) j = amFind m j := by
  induction m with
  | nil => simp [amInsert, amFind, h.symm]
  | cons e r ih =>
    obtain ⟨a, w⟩ := e
    by_cases hk : k < a
    · simp [amInsert, hk, amFind, h.symm]
    · by_cases hj : a = j
      · subst hj
        simp [amInsert, hk, amFind]
      · simp [amInsert, hk, amFind, hj, ih]

theorem amFind_amSet_ne {α : Type} (m : List (Nat × α)) {k j : Nat} (v : α) (h : j ≠ k) : amFind (amSet m k v) j = amFind m j := by
  rw [amSet, amFind_amInsert_ne _ _ h, amFind_amErase_ne _ h]

/-! ### The keys of the masters' words (R66) -/

/-- The window has nineteen blocks. -/
theorem blockOf_lt (off : Nat) : blockOf off < 32 := by
  have h : (blockBases.filter (· ≤ off)).length ≤ blockBases.length := List.length_filter_le _ _
  have hl : blockBases.length = 19 := rfl
  unfold blockOf
  omega

/-- Another master, or the same one in another block, has another key. -/
theorem masterBlock_ne {m m' off off' : Nat} (h : m' ≠ m ∨ blockOf off' ≠ blockOf off) : masterBlock m' off' ≠ masterBlock m off := by
  have h1 := blockOf_lt off
  have h2 := blockOf_lt off'
  unfold masterBlock
  omega

/-! ### What an access does to the shadows and staging words -/

/-- The shadows and the staging words of all masters. -/
def words (s : State) : List (Nat × (List Nat × Nat)) × List (Nat × (Nat × Nat)) := (s.iface.shadow, s.iface.stageWord)

/-- The shadow and the staging word of every key but one are the same. -/
def OthersKept (k : Nat) (s t : State) : Prop :=
  ∀ j, j ≠ k → amFind t.iface.shadow j = amFind s.iface.shadow j ∧ amFind t.iface.stageWord j = amFind s.iface.stageWord j

theorem words_eq_iff {s t : State} : words t = words s ↔ t.iface.shadow = s.iface.shadow ∧ t.iface.stageWord = s.iface.stageWord :=
  Prod.ext_iff

theorem OthersKept.of_words {k : Nat} {s t : State} (h : words t = words s) : OthersKept k s t := by
  obtain ⟨h1, h2⟩ := words_eq_iff.1 h
  exact fun j _ => by rw [h1, h2]; exact ⟨rfl, rfl⟩

theorem OthersKept.trans_words {k : Nat} {s t u : State} (h : OthersKept k s t) (hu : words u = words t) : OthersKept k s u := by
  obtain ⟨h1, h2⟩ := words_eq_iff.1 hu
  unfold OthersKept
  rw [h1, h2]
  exact h

@[simp] theorem words_ite (c : Prop) [Decidable c] (s t : State) : words (if c then s else t) = if c then words s else words t :=
  apply_ite ..

@[simp] theorem emit_words (s : State) (o : Output) : words (emit s o) = words s := rfl

@[simp] theorem wr_words (s : State) (f : Fld) (v : Nat) : words (wr s f v) = words s := rfl

@[simp] theorem record_words (s : State) (e : Ev) (i : Nat) (b : Bytes) : words (record s e i b) = words s := rfl

@[simp] theorem csrRefuse_words (s : State) (m cause off : Nat) : words (csrRefuse s m cause off) = words s := rfl

@[simp] theorem csrRefuseWrite_words (s : State) (m cause off : Nat) : words (csrRefuseWrite s m cause off) = words s := rfl

@[simp] theorem fldWrite_words (s : State) (f : Fld) (v : Nat) : words (fldWrite s f v) = words s := by
  unfold fldWrite
  split <;> rfl

@[simp] theorem fldStage_words (s : State) (f : Fld) (v : Nat) : words (fldStage s f v) = words s := rfl

@[simp] theorem mbxDataWrite_words (s : State) (off value : Nat) : words (mbxDataWrite s off value) = words s := by
  simp [mbxDataWrite, words]

@[simp] theorem flsDataWrite_words (s : State) (off value : Nat) : words (flsDataWrite s off value) = words s := by
  simp [flsDataWrite, words]

@[simp] theorem writeField_words (m off : Nat) (r : RegRow) (k value : Nat) (s : State) (f : FieldRow) :
    words (writeField m off r k value s f) = words s := by
  unfold writeField
  repeat' split
  all_goals simp

@[simp] theorem aliasField_words (m off b : Nat) (v : Bool) (r : RegRow) (k : Nat) (s : State) (f : FieldRow) :
    words (aliasField m off b v r k s f) = words s := by
  unfold aliasField
  repeat' split
  all_goals simp

@[simp] theorem writeFields_words (m off : Nat) (r : RegRow) (k value : Nat) (s : State) (fs : List FieldRow) :
    words (fs.foldl (writeField m off r k value) s) = words s :=
  foldl_kept words _ (writeField_words m off r k value) fs s

theorem stageErase_othersKept (s : State) (k : Nat) :
    OthersKept k s { s with iface := { s.iface with stageWord := amErase s.iface.stageWord k } } :=
  fun _ hj => ⟨rfl, amFind_amErase_ne _ hj⟩

theorem stageSet_othersKept (s : State) (k : Nat) (w : Nat × Nat) :
    OthersKept k s { s with iface := { s.iface with stageWord := amSet s.iface.stageWord k w } } :=
  fun _ hj => ⟨rfl, amFind_amSet_ne _ _ hj⟩

/-- The commit of a pair uses up the writer's own staging word (R68). -/
theorem writePair_othersKept (m off value : Nat) (s : State) : OthersKept (masterBlock m off) s (writePair m off value s) := by
  simp only [writePair]
  split
  · refine .trans_words ?_ (writeFields_words ..)
    split
    · split
      · exact (stageErase_othersKept s _).trans_words (writeFields_words ..)
      · exact .of_words rfl
    · exact .of_words rfl
  · exact .of_words rfl

/-- A plain write stages at most the writer's own word of the block (R66, R68). -/
theorem writeReg_othersKept (s : State) (m off value : Nat) : OthersKept (masterBlock m off) s (writeReg s m off value) := by
  unfold writeReg
  iterate 3
    split
    · exact .of_words (by simp)
  split
  · exact stageSet_othersKept s _ _
  split
  · exact writePair_othersKept m off value s
  split
  · exact .of_words (writeFields_words ..)
  · exact .of_words rfl

theorem execCsrWrite_othersKept {m : Fin 11} {off size : Nat} {v : Word} {s t : State} (h : execCsrWrite m off size v s = .next t) :
    OthersKept (masterBlock m off) s t := by
  cases h
  iterate 6
    split
    · exact .of_words (by simp)
  exact writeReg_othersKept s m off v.toNat

/-- CSR_ALIAS_WRITE changes one bit of one field and no master's words (R66, R76). -/
theorem execCsrAliasWrite_words {m : Fin 11} {off : Nat} {v : Word} {s t : State} (h : execCsrAliasWrite m off v s = .next t) :
    words t = words s := by
  cases h
  repeat' split
  all_goals simp

theorem readRefused_words {s t : State} {m off : Nat} (h : readRefused s m off = some t) : words t = words s := by
  unfold readRefused at h
  iterate 5
    split at h
    · cases h
      rfl
  cases h

/-- A read latches into the reader's own shadow of the block (R66, R67). -/
theorem readEffect_othersKept (s : State) (m off : Nat) : OthersKept (masterBlock m off) s (readEffect s m off) := by
  unfold readEffect
  split
  · exact .of_words rfl
  next r k _ =>
    extract_lets s1
    have h1 : words s1 = words s := foldl_kept words _ (fun t f => by simp) r.fields s
    split
    · obtain ⟨hs, hw⟩ := words_eq_iff.1 h1
      exact fun j hj => ⟨(amFind_amSet_ne _ _ hj).trans (by rw [hs]), congrArg (amFind · j) hw⟩
    · exact .of_words h1

/-- A read of one bit's word changes no master's words (R66, R76). -/
theorem plainRead_alias_words {s : State} {m off : Nat} (h : 0x1000000 ≤ off ∧ off < 0x1800000) : words (plainRead s m off) = words s := by
  rw [plainRead, if_pos h]
  extract_lets n a
  clear_value n a
  split
  · cases h : readRefused s m off with
    | none => simp
    | some t => exact readRefused_words h
  · split <;> simp -implicitDefEqProofs

theorem plainRead_othersKept (s : State) (m off : Nat) : OthersKept (masterBlock m off) s (plainRead s m off) := by
  by_cases ha : 0x1000000 ≤ off ∧ off < 0x1800000
  · exact .of_words (plainRead_alias_words ha)
  · rw [plainRead, if_neg ha]
    split
    next t h => exact .of_words (readRefused_words h)
    next h => exact (readEffect_othersKept s m off).trans_words (emit_words ..)

/-- Settles O57: each access keeps every word but its own master's in its own block, and another master or block has another key. -/
theorem shadowsAreSeparate : Obligations.ShadowsAreSeparate := by
  unfold Obligations.ShadowsAreSeparate
  intro m m' off off' size v s t hm h
  have hk : OthersKept (masterBlock m off) s t := by
    obtain h | h | h | h := h
    · exact execCsrWrite_othersKept h
    · exact .of_words (execCsrAliasWrite_words h)
    · cases h
      exact plainRead_othersKept s m off
    · cases h
      exact plainRead_othersKept s m off
  exact hk _ (masterBlock_ne (hm.imp_left fun h => Fin.val_ne_of_ne h))

/-! ### What a read answers -/

/-- A plain read that is refused leaves the refusal's state (R62). -/
theorem plainRead_refused {s t : State} {m off : Nat} (ho : off < 0x1000000) (h : readRefused s m off = some t) : plainRead s m off = t := by
  rw [plainRead, if_neg (by omega), h]

/-- A plain read that is not refused answers the register's word and has its effect (R65). -/
theorem plainRead_answers {s : State} {m off : Nat} (ho : off < 0x1000000) (h : readRefused s m off = none) :
    plainRead s m off = emit (readEffect s m off) (.csrData m off (BitVec.ofNat 32 (readWord s m off))) := by
  rw [plainRead, if_neg (by omega), h]

/-- A high half kept in the shadow of a key, for the _LO registers of a list (R67). -/
def shadowSet (s : State) (k : Nat) (los : List Nat) (high : Nat) : State :=
  { s with iface := { s.iface with shadow := amSet s.iface.shadow k (los, high) } }

theorem shadowSet_kept (s : State) (k : Nat) (los : List Nat) (high : Nat) : KeptBut [.iface] s (shadowSet s k los high) := by
  intro p hp
  cases p <;> simp_all [Part.same, shadowSet]

/-- A loop whose every turn leaves the state it starts from ends there. -/
theorem foldl_fixed {α : Type} {f : State → α → State} {l : List α} {s : State} (h : ∀ a ∈ l, f s a = s) : l.foldl f s = s :=
  List.foldlRecOn (motive := (· = s)) l f rfl fun t ht a ha => by rw [ht, h a ha]

section
variable {s : State} {m off : Nat}

theorem readRefused_unassigned (hd : debugShut s m = false) (h4 : off % 4 = 0) (hs : sandboxed s m = false) (ha : assigned off = false) :
    readRefused s m off = some (emit (csrRefuse s m 1 off) (.csrData m off 0)) := by
  simp [readRefused, hd, h4, hs, ha]

theorem readRefused_unpowered (hd : debugShut s m = false) (h4 : off % 4 = 0) (hs : sandboxed s m = false) (ha : assigned off = true)
    (hp : regPowered s off = false) : readRefused s m off = some (emit (csrRefuse s m 3 off) (.csrData m off 0)) := by
  simp [readRefused, hd, h4, hs, ha, hp]

/-- The _LO registers whose high half a key's shadow stands for, once another has been read (R67). -/
def latchedLos (s : State) (k off : Nat) : List Nat :=
  let old := (amGet s.iface.shadow k ([], 0)).1
  if old.contains off then old else old ++ [off]

theorem mem_latchedLos (s : State) (k off : Nat) : off ∈ latchedLos s k off := by
  unfold latchedLos
  dsimp only
  split
  next h => simpa using h
  next => simp

/-- The _LO of an RLT pair without RC fields only latches the current high half (R67). -/
theorem readEffect_latch {r : RegRow} {k : Nat} (hr : findReg off = some (r, k)) (hl : latchLo off = true)
    (hc : r.fields.all (fun f => f.code ≠ .rc) = true) :
    readEffect s m off = shadowSet s (masterBlock m off) (latchedLos s (masterBlock m off) off) (regWord s (off + 4)) := by
  have hn : ∀ f ∈ r.fields, f.code ≠ .rc := by simpa using hc
  rw [readEffect, hr]
  dsimp only
  rw [foldl_fixed fun f hf => by simp [hn f hf], if_pos hl]
  rfl
end

/-! ### Refused accesses (R62) -/

/-- A refusal captures its master, cut to the field's width. -/
theorem rd_csrRefuse_master (s : State) (m cause off : Nat) :
    rd (csrRefuse s m cause off) Reg.GLB_ACCESS_ERR_MASTER = m % 2 ^ Reg.GLB_ACCESS_ERR_MASTER.width := by
  rw [csrRefuse, rd_wr_ne _ _ (by decide), rd_wr_ne _ _ (by decide), rd_wr_self]

theorem rd_csrRefuse_cause (s : State) (m cause off : Nat) :
    rd (csrRefuse s m cause off) Reg.GLB_ACCESS_ERR_CAUSE = cause % 2 ^ Reg.GLB_ACCESS_ERR_CAUSE.width := by
  rw [csrRefuse, rd_wr_ne _ _ (by decide), rd_wr_self]

theorem rd_csrRefuse_offset (s : State) (m cause off : Nat) :
    rd (csrRefuse s m cause off) Reg.GLB_ACCESS_ADDR_OFFSET = off % 2 ^ Reg.GLB_ACCESS_ADDR_OFFSET.width := by
  rw [csrRefuse, rd_wr_self]

/-- A refusal is counted once, saturating. -/
theorem rd_csrRefuse_count (s : State) (m cause off : Nat) : rd (csrRefuse s m cause off) Reg.GLB_ACCESS_COUNT_COUNT =
    satTo (2 ^ Reg.GLB_ACCESS_COUNT_COUNT.width - 1) (rd s Reg.GLB_ACCESS_COUNT_COUNT + 1) := by
  rw [csrRefuse, rd_wr_ne _ _ (by decide), rd_wr_ne _ _ (by decide), rd_wr_ne _ _ (by decide), rd_bump_self]

theorem csrRefuse_kept (s : State) (m cause off : Nat) : KeptBut [.csr] s (csrRefuse s m cause off) :=
  kept_trans (kept_trans (kept_trans (kept_bump s _ _) (kept_wr _ _ _)) (kept_wr _ _ _)) (kept_wr _ _ _)

theorem csrRefuse_fields (s : State) (m cause off : Nat) : FieldsKeptBut [Reg.GLB_ACCESS_ERR_MASTER, Reg.GLB_ACCESS_ERR_CAUSE,
    Reg.GLB_ACCESS_ADDR_OFFSET, Reg.GLB_ACCESS_COUNT_COUNT] s (csrRefuse s m cause off) := by
  intro f hf
  simp only [List.forall_mem_cons] at hf
  obtain ⟨hm, hc, ho, hn, -⟩ := hf
  rw [csrRefuse, rd_wr_ne _ _ ho.symm, rd_wr_ne _ _ hc.symm, rd_wr_ne _ _ hm.symm, rd_bump_ne _ _ hn.symm]

/-- Settles O17: the fields and the frame of `csrRefuse`, and the check that each refused access ends at. -/
theorem csrRefusals : Obligations.CsrRefusals := by
  unfold Obligations.CsrRefusals
  refine ⟨fun s m cause off => ⟨rd_csrRefuse_master .., rd_csrRefuse_cause .., rd_csrRefuse_offset .., rd_csrRefuse_count ..,
    csrRefuse_kept s m cause off, csrRefuse_fields s m cause off⟩, ?_, ?_, ?_, ?_, ?_, ?_⟩
  · intro m off size v s hd h
    rw [exec_csrWrite, execCsrWrite, if_neg (by simp [hd]), if_pos h]
  · intro m off v s hd h4 hs hi
    simp [execCsrWrite, hd, h4, hs, hi]
  · intro m off v s hd h4 hs ha
    simp [execCsrWrite, hd, h4, hs, ha]
  · intro m off v s hd h4 hs ha hp
    simp [execCsrWrite, hd, h4, hs, ha, hp]
  · intro m off s hd ho h4 hs ha
    rw [exec_csrReadClear, execCsrReadClear, plainRead_refused ho (readRefused_unassigned hd h4 hs ha)]
  · intro m off s hd ho h4 hs ha hp
    rw [exec_csrReadLatch, execCsrReadLatch, plainRead_refused ho (readRefused_unpowered hd h4 hs ha hp)]

/-! ### The accesses -/

/-- CSR_ALIAS_WRITE, where nothing refuses it, acts on the field that holds its bit (R76). -/
theorem execCsrAliasWrite_field {m : Fin 11} {a b : Nat} {v : Word} {s : State} {r : RegRow} {k : Nat} {f : FieldRow}
    (hd : debugShut s m = false) (hs : sandboxed s m = false) (h4 : a % 4 = 0) (hlt : a < 0x40000) (hb : b < 32) (ha : assigned a = true)
    (hp : regPowered s a = true) (hi : inMbx a = false) (hr : findReg a = some (r, k))
    (hf : r.fields.find? (fun f => decide (f.lo ≤ b) && decide (b < f.lo + f.width)) = some f) :
    execCsrAliasWrite m (0x1000000 + a / 4 * 128 + b * 4) v s = .next (aliasField m a b (v.getLsbD 0) r k s f) := by
  have hn : (0x1000000 + a / 4 * 128 + b * 4 - 0x1000000) / 4 = a / 4 * 32 + b := by omega
  have hw : (a / 4 * 32 + b) / 32 * 4 = a := by omega
  have hbit : (a / 4 * 32 + b) % 32 = b := by omega
  have hal : (0x1000000 + a / 4 * 128 + b * 4) % 4 = 0 := by omega
  have hin : ¬(0x1000000 + a / 4 * 128 + b * 4 < 0x1000000 ∨ 0x1800000 ≤ 0x1000000 + a / 4 * 128 + b * 4) := by omega
  have hdata : ¬(0x30100 ≤ a ∧ a < 0x30200) := by
    simp only [inMbx, Bool.and_eq_false_iff, decide_eq_false_iff_not] at hi
    omega
  unfold execCsrAliasWrite
  simp [hn, hw, hbit, hd, hs, hal, hin, ha, hp, hi, hdata, hr, hf]

theorem execCfgHoldLong_done {s : State} (h : rdb s Reg.CFG_CRC_STATUS_HOLD_LONG = true) : execCfgHoldLong s = .next s := by
  simp [execCfgHoldLong, h]

/-- Settles O16: each clause's hypotheses pass the checks of its access, which then has the effect of the field, the register or the read. -/
theorem csrAccesses : Obligations.CsrAccesses := by
  unfold Obligations.CsrAccesses
  refine ⟨?_, ?_, ?_, ?_, ?_, ?_⟩
  · intro m off v s hd hs h4 ha hp ho
    simp [execCsrWrite, hd, h4, hs, ha, hp, Nat.not_le.2 ho]
  · intro m a b v s r k f hd hs h4 hlt hb ha hp hi hr hf
    exact execCsrAliasWrite_field hd hs h4 hlt hb ha hp hi hr hf
  · intro m off s ho h
    rw [exec_csrReadClear, execCsrReadClear, plainRead_answers ho h]
  · intro m off s r k hr hl hc ho h
    refine ⟨_, rfl, ?_⟩
    rw [plainRead_answers ho h, readEffect_latch hr hl hc]
    have hk := kept_mono (shadowSet_kept s (masterBlock m off) (latchedLos s (masterBlock m off) off) (regWord s (off + 4)))
      (qs := [.iface, .out]) (by simp)
    exact ⟨by simp [shadowSet], by simp [shadowSet, mem_latchedLos], rfl, rfl, kept_trans hk (kept_mono (kept_emit _ _) (by simp))⟩
  · intro s hh hl
    simp [execCfgHoldLong, hh, hl]
  · exact fun s h => execCfgHoldLong_done h

end Sys2Proof.Proofs
end

section
/-!
PROOFS. Unit resets and functions on their way through QUIESCING and DISABLED (O10).
-/
namespace Sys2Proof.Proofs
open Sys2Proof Sys2Proof.Machine Sys2Proof.Laws

@[simp] theorem fnOf_wr (s : State) (g : Fld) (v : Nat) (f : Fn) : fnOf (wr s g v) f = fnOf s f := rfl

@[simp] theorem fnOf_fnSet_self (s : State) (f : Fn) (v : FnState) : fnOf (fnSet s f v) f = v := by
  have hn : (s.fm.fns.filter (fun e => e.1 ≠ f)).find? (fun e => e.1 = f) = none := by simp [List.find?_eq_none]
  simp only [fnOf, fnSet, List.find?_append, hn]
  simp

@[simp] theorem rd_fnSet (s : State) (f : Fn) (v : FnState) (g : Fld) : rd (fnSet s f v) g = rd s g := rfl

theorem kept_fnSet (s : State) (f : Fn) (v : FnState) : KeptBut [.fm] s (fnSet s f v) := by
  intro p hp
  cases p <;> simp_all [Part.same, fnSet]

/-- An enabled function is asked to quiesce: it stays ENABLED until the tick, which starts its abort time (R495). -/
theorem fnQuiesce_enabled {s : State} {f : Fn} (want : FnWant) (abort : Nat) (h : (fnOf s f).phase = .enabled) :
    fnQuiesce s f want abort = fnSet s f { phase := .enabled, want := want, abortTime := abort, aborted := 0 } := if_pos h

/-- Outside COMMIT and PORST_N a write of a unit's bit sets it and asks the unit's function to quiesce (R495, R535). -/
theorem unitResetWrite_runs {s : State} {f : Fn} {b : Fld} (hb : unitBit f = some b) (hc : s.cin.phase ≠ .commit) (hp : s.boot.porst = false) :
    unitResetWrite s f = fnQuiesce (wr s b 1) f .reset (disableAbort s) := by
  simp [unitResetWrite, hc, hp, hb]

/-- From COMMIT entry a write of a unit's bit is recorded and ignored (R496). -/
theorem unitResetWrite_commit {s : State} (f : Fn) (hc : s.cin.phase = .commit) :
    unitResetWrite s f = recordAt s (fnNibble f * 0x1000 + 0xF20) 0 0xFF (le 4 0) := if_pos hc

/-- Settles O10: the cases of a write of GLB_UNIT_RESET, and those of the two events of a function. -/
theorem unitResetsAndFunctions : Obligations.UnitResetsAndFunctions := by
  unfold Obligations.UnitResetsAndFunctions
  refine ⟨fun s hc hp => ?_, fun s hc hp he => ?_, fun s hc => ?_, fun f s hq hw => ?_, fun f s hd hr => ?_, fun f s hq => ?_⟩
  · have h : ∀ f b, unitBit f = some b → unitResetWrite s f = fnQuiesce (wr s b 1) f .reset (disableAbort s) :=
      fun f b hb => unitResetWrite_runs hb hc hp
    exact ⟨congrArg _ (h .lat _ rfl), congrArg _ (h .bkl _ rfl), congrArg _ (h .tir _ rfl), congrArg _ (h .stm _ rfl),
      congrArg _ (h .fls _ rfl), congrArg _ (h .kcb _ rfl)⟩
  · refine ⟨_, rfl, ?_⟩
    rw [unitResetWrite_runs (f := .lat) rfl hc hp, fnQuiesce_enabled .reset _ (by rwa [fnOf_wr])]
    refine ⟨by simp, by simp, by simp [disableAbort], by rw [rd_fnSet, rd_wr_self]; rfl, ?_, fun f hf => ?_⟩
    · exact kept_trans (kept_mono (kept_wr s _ _) (by simp)) (kept_mono (kept_fnSet _ _ _) (by simp))
    · rw [rd_fnSet, rd_wr_ne _ _ (hf _ (by simp)).symm]
  · exact congrArg _ (unitResetWrite_commit .lat hc)
  · simp [execFunctionQuiesced, hq, hw]
  · simp [execFunctionQuiesced, hd, hr]
  · simp [execDisableAbortTimeExpired, hq]

end Sys2Proof.Proofs
end

section
/-!
PROOFS. The CSR mailbox (O19), and what it ignores while an operation runs (O56).
-/
namespace Sys2Proof.Proofs
open Sys2Proof Sys2Proof.Machine Sys2Proof.Laws

theorem statusCode_lt (x : Status) : statusCode x < 256 := by
  cases x <;> decide

/-- MBX_CTRL.STATUS holds every status byte whole (R72, R499). -/
@[simp] theorem rd_wr_mbxStatus (s : State) (x : Status) : rd (wr s Reg.MBX_CTRL_STATUS (statusCode x)) Reg.MBX_CTRL_STATUS = statusCode x := by
  rw [rd_wr_self]
  exact Nat.mod_eq_of_lt (statusCode_lt x)

/-! ### START (R72 to R74) -/

section
variable {s : State} {m op : Nat}

theorem mbxStart_busy (hs : mbxShut s m 0x30004 = none) (ho : rd s Reg.MBX_CLAIM_OWNER = m) (hb : rdb s Reg.MBX_CTRL_BUSY = true) :
    mbxStart s m op = s := by
  simp [mbxStart, hs, ho, hb]

theorem mbxStart_foreign (hs : mbxShut s m 0x30004 = none) (ho : rd s Reg.MBX_CLAIM_OWNER ≠ m) :
    mbxStart s m op = csrRefuse s m 7 0x30004 := by
  simp [mbxStart, hs, ho]

/-- The registers after a START: OP, BUSY, no VALID and no abort result. -/
def mbxStarted (s : State) (op : Nat) : State :=
  wr (wr (wr (wr s Reg.MBX_CTRL_OP op) Reg.MBX_CTRL_VALID 0) Reg.MBX_CTRL_BUSY 1) Reg.MBX_CTRL_ABORT_RESULT 0

/-- The operation that will end with a status. -/
def mbxHold (t : State) (w c : Bool) (key : Nat) (st : Status) : State :=
  { t with iface := { t.iface with mbxOp := some ⟨w, c, key, st, [], 0⟩ } }

theorem mbxStart_read (hs : mbxShut s m 0x30004 = none) (ho : rd s Reg.MBX_CLAIM_OWNER = m) (hb : rdb s Reg.MBX_CTRL_BUSY = false) :
    mbxStart s m 0 = mbxHold (mbxStarted s 0) false false (mbxKey s) .ok := by
  rw [mbxStart, hs]
  exact (if_neg (not_not.2 ho)).trans (if_neg (by simp [hb]))

/-- A write is checked and, with its last chunk, applied at its START; its end only shows the status (R74). -/
theorem mbxStart_write (hs : mbxShut s m 0x30004 = none) (ho : rd s Reg.MBX_CLAIM_OWNER = m) (hb : rdb s Reg.MBX_CTRL_BUSY = false) :
    mbxStart s m 1 = mbxHold (mbxChunk (mbxStarted s 1) m).2.2 true (mbxChunk (mbxStarted s 1) m).2.1 (mbxKey s)
      (mbxChunk (mbxStarted s 1) m).1 := by
  rw [mbxStart, hs]
  exact (if_neg (not_not.2 ho)).trans (if_neg (by simp [hb]))

/-- The values 2 and 3 of OP are refused with BAD_DESCRIPTOR (R73). -/
theorem mbxStart_badOp (n : Nat) (hs : mbxShut s m 0x30004 = none) (ho : rd s Reg.MBX_CLAIM_OWNER = m) (hb : rdb s Reg.MBX_CTRL_BUSY = false) :
    mbxStart s m (n + 2) = mbxHold (mbxStarted s (n + 2)) true false (mbxKey s) .badDescriptor := by
  rw [mbxStart, hs]
  exact (if_neg (not_not.2 ho)).trans (if_neg (by simp [hb]))
end

/-! ### Claim, release and abort (R70, R75) -/

section
variable {s : State} {m : Fin 11}

theorem execMbxClaim_open (h : mbxShut s m 0x30000 = none) : execMbxClaim m s = .next
    (let s1 := emit s (.csrData m 0x30000 (BitVec.ofNat 32 (rd s Reg.MBX_CLAIM_CLAIM + 2 * rd s Reg.MBX_CLAIM_OWNER)))
     if rdb s Reg.MBX_CLAIM_CLAIM then wr (wr s1 Reg.MBX_CLAIM_CLAIM 0) Reg.MBX_CLAIM_OWNER m else s1) := by
  rw [execMbxClaim, h]

theorem execMbxRelease_open (h : mbxShut s m 0x30000 = none) :
    execMbxRelease m s = .next (if rd s Reg.MBX_CLAIM_OWNER ≠ m then csrRefuse s m 7 0x30000 else mbxFree s) := by
  rw [execMbxRelease, h]

theorem execMbxAbort_open (h : mbxShut s m 0x30004 = none) :
    execMbxAbort m s = .next (if rd s Reg.MBX_CLAIM_OWNER ≠ m then csrRefuse s m 7 0x30004 else mbxAbortNow s) := by
  rw [execMbxAbort, h]
end

/-- An abort ends what has not passed its commit point, and comes too late for the rest (R75, R108). -/
theorem mbxAbortNow_running {s : State} {o : MbxOp} (h : s.iface.mbxOp = some o) :
    mbxAbortNow s = if o.committed then wr s Reg.MBX_CTRL_ABORT_RESULT (statusCode .abortTooLate) else mbxAborted s := by
  rw [mbxAbortNow, h]

/-! ### The end of an operation (R72, R73) -/

/-- The state in which no operation runs any more. -/
def mbxEnded (s : State) : State := wr { s with iface := { s.iface with mbxOp := none } } Reg.MBX_CTRL_BUSY 0

theorem execMbxOpDone_running {s : State} {o : MbxOp} (h : s.iface.mbxOp = some o) : execMbxOpDone s = .next
    (if o.isWrite then wr (mbxEnded s) Reg.MBX_CTRL_STATUS (statusCode o.status) else mbxReadEnd (mbxEnded s) o.key) := by
  rw [execMbxOpDone, h]
  rfl

theorem mbxEnded_busy (s : State) : rdb (mbxEnded s) Reg.MBX_CTRL_BUSY = false := by
  simp [rdb, mbxEnded]

/-- The window filled with a chunk of a value, and what its registers say of it (R72). -/
theorem mbxReadEnd_ok {s : State} {key : Nat} (hc : (readStatus s .mbx key).1 = .ok)
    (ho : ¬(256 * rd s Reg.MBX_OFFSET_CHUNK ≠ 0 ∧ (odValue s key).length ≤ 256 * rd s Reg.MBX_OFFSET_CHUNK)) :
    mbxReadEnd s key =
      (let w := ((odValue s key).drop (256 * rd s Reg.MBX_OFFSET_CHUNK)).take 256
       wr (wr (wr (wr { s with iface := { s.iface with mbxData := w ++ List.replicate (256 - w.length) 0 } }
        Reg.MBX_LENGTH_WIN_LEN w.length) Reg.MBX_LENGTH_TOTAL_ENC ((odValue s key).length / 2)) Reg.MBX_CTRL_VALID 1)
        Reg.MBX_CTRL_STATUS (statusCode .ok)) := by
  rw [mbxReadEnd]
  exact (if_neg (not_not.2 hc)).trans (if_neg ho)

/-- The end of a read leaves BUSY, and its STATUS is that of the checks; past the end of a value it is BAD_DESCRIPTOR, and only a chunk in the
window sets VALID (R72, R73). -/
theorem mbxReadEnd_status (s : State) (key : Nat) : ∃ st, rd (mbxReadEnd s key) Reg.MBX_CTRL_STATUS = statusCode st ∧
    rd (mbxReadEnd s key) Reg.MBX_CTRL_BUSY = rd s Reg.MBX_CTRL_BUSY ∧
    ((readStatus s .mbx key).1 ≠ .ok → st = (readStatus s .mbx key).1) ∧
    (st ≠ .ok → rd (mbxReadEnd s key) Reg.MBX_CTRL_VALID = rd s Reg.MBX_CTRL_VALID) := by
  by_cases hc : (readStatus s .mbx key).1 = .ok
  · by_cases ho : 256 * rd s Reg.MBX_OFFSET_CHUNK ≠ 0 ∧ (odValue s key).length ≤ 256 * rd s Reg.MBX_OFFSET_CHUNK
    · have he : mbxReadEnd s key = wr s Reg.MBX_CTRL_STATUS (statusCode .badDescriptor) := by
        rw [mbxReadEnd]
        exact (if_neg (not_not.2 hc)).trans (if_pos ho)
      rw [he]
      exact ⟨.badDescriptor, rd_wr_mbxStatus .., rd_wr_ne _ _ (by decide), fun h => absurd hc h, fun _ => rd_wr_ne _ _ (by decide)⟩
    · rw [mbxReadEnd_ok hc ho]
      refine ⟨.ok, rd_wr_mbxStatus .., ?_, fun h => absurd hc h, fun h => absurd rfl h⟩
      rw [rd_wr_ne _ _ (by decide), rd_wr_ne _ _ (by decide), rd_wr_ne _ _ (by decide), rd_wr_ne _ _ (by decide)]
      rfl
  · have he : mbxReadEnd s key = wr s Reg.MBX_CTRL_STATUS (statusCode (readStatus s .mbx key).1) := by
      rw [mbxReadEnd]
      exact if_pos hc
    rw [he]
    exact ⟨_, rd_wr_mbxStatus .., rd_wr_ne _ _ (by decide), fun _ => rfl, fun _ => rd_wr_ne _ _ (by decide)⟩

/-- Settles O19: each clause is the case of its command's meaning that its hypotheses select. -/
theorem mailboxCommands : Obligations.MailboxCommands := by
  unfold Obligations.MailboxCommands
  refine ⟨fun m s hs hc => ?_, fun m s hs hc => ?_, fun m s hs ho => ?_, fun s ho => ?_, fun m s hs ho hb => ⟨?_, ?_, ?_, ?_⟩,
    fun m op s hs ho hb => ⟨?_, ?_⟩, fun m s o hs ho hr => ⟨fun hc => ?_, fun hc => ?_⟩, fun s o hr hw => ?_, fun s o hr hw => ?_,
    fun s key hc ho => ?_, fun m op s hs hs' ho => ⟨?_, ?_, ?_, ?_⟩⟩
  · rw [exec_mbxClaim, execMbxClaim_open hs, hc]
    rfl
  · rw [exec_mbxClaim, execMbxClaim_open hs, hc]
    rfl
  · rw [exec_mbxRelease, execMbxRelease_open hs, if_neg (not_not.2 ho)]
    rfl
  · rw [exec_mbxClaimExpired, execMbxClaimExpired, if_neg ho]
  · exact congrArg _ (mbxStart_read hs ho hb)
  · exact congrArg _ (mbxStart_badOp 0 hs ho hb)
  · exact congrArg _ (mbxStart_badOp 1 hs ho hb)
  · exact congrArg _ (mbxStart_write hs ho hb)
  · exact congrArg _ (mbxStart_busy hs ho hb)
  · exact congrArg _ (mbxStart_busy hs ho hb)
  · rw [exec_mbxAbort, execMbxAbort_open hs, if_neg (not_not.2 ho), mbxAbortNow_running hr, hc]
    rfl
  · rw [exec_mbxAbort, execMbxAbort_open hs, if_neg (not_not.2 ho), mbxAbortNow_running hr, hc]
    rfl
  · rw [exec_mbxOpDone, execMbxOpDone_running hr, hw]
    rfl
  · rw [exec_mbxOpDone, execMbxOpDone_running hr, hw]
    rfl
  · rw [mbxReadEnd_ok hc (by simp [ho]), ho]
    rfl
  · rw [exec_mbxRelease, execMbxRelease_open hs, if_pos ho]
  · exact congrArg _ (mbxStart_foreign hs' ho)
  · exact congrArg _ (mbxStart_foreign hs' ho)
  · rw [exec_mbxAbort, execMbxAbort_open hs', if_pos ho]

/-! ### What a running operation shuts out (R73) -/

/-- The registers whose writes a running operation ignores: MBX_KEY, MBX_OFFSET, MBX_LENGTH and the words of MBX_DATA. -/
def mbxBuffer (off : Nat) : Prop := off ∈ [0x30008, 0x3000C, 0x30010] ∨ (0x30100 ≤ off ∧ off < 0x30200 ∧ off % 4 = 0)

theorem mbxBuffer_bounds {off : Nat} (h : mbxBuffer off) : 0x30004 < off ∧ off < 0x30200 ∧ off % 4 = 0 := by
  simp only [mbxBuffer, List.mem_cons, List.not_mem_nil, or_false] at h
  omega

theorem mbxBuffer_assigned {off : Nat} (h : mbxBuffer off) : assigned off = true := by
  obtain h | ⟨h1, h2, -⟩ := h
  · have : ∀ o ∈ [0x30008, 0x3000C, 0x30010], assigned o = true := by decide
    exact this off h
  · simp [assigned, h1, h2]

theorem execCsrWrite_busy {m : Fin 11} {off : Nat} {v : Word} {s : State} (hb : rdb s Reg.MBX_CTRL_BUSY = true)
    (ho : rd s Reg.MBX_CLAIM_OWNER = m) (hd : debugShut s m = false) (hp : regPowered s off = true) (h : mbxBuffer off) :
    execCsrWrite m off 4 v s = .next s := by
  obtain ⟨hlo, hhi, h4⟩ := mbxBuffer_bounds h
  have hi : inMbx off = true := by
    simp only [inMbx, Bool.and_eq_true, decide_eq_true_eq]
    omega
  have hw : writeReg s m off v.toNat = s := by
    rw [writeReg, if_neg (by simp [ho]), if_pos]
    simp only [hi, hb, Bool.and_true, Bool.true_and, Bool.and_eq_true, decide_eq_true_eq]
    omega
  have hf : ¬0x341000 ≤ off := by omega
  simp [execCsrWrite, hd, h4, hi, mbxBuffer_assigned h, hp, hf, hw]

/-- Settles O56: the writes and the START that BUSY shuts out, and the status that the end of a write or of a read leaves. -/
theorem mailboxBusyIgnoresWrites : Obligations.MailboxBusyIgnoresWrites := by
  unfold Obligations.MailboxBusyIgnoresWrites
  refine ⟨fun m off v s hb ho hd hp h => execCsrWrite_busy hb ho hd hp h,
    fun m op s hb ho hs => ⟨congrArg _ (mbxStart_busy hs ho hb), congrArg _ (mbxStart_busy hs ho hb)⟩, fun s o hr => ?_⟩
  rw [exec_mbxOpDone, execMbxOpDone_running hr]
  by_cases hw : o.isWrite = true
  · refine ⟨_, o.status, rfl, ?_, ?_, fun _ => rfl, fun h => by simp [hw] at h, fun h => by simp [hw] at h⟩
    · rw [if_pos hw, rdb, rd_wr_ne _ _ (by decide)]
      exact mbxEnded_busy s
    · rw [if_pos hw, rd_wr_mbxStatus]
  · obtain ⟨st, h1, h2, h3, h4⟩ := mbxReadEnd_status (mbxEnded s) o.key
    refine ⟨_, st, rfl, ?_, ?_, fun h => absurd h hw, fun _ => h3, fun _ hv hn => ?_⟩
    · rw [if_neg hw, rdb, h2]
      exact mbxEnded_busy s
    · rw [if_neg hw, h1]
    · by_contra hne
      have hk : rd (mbxEnded s) Reg.MBX_CTRL_VALID = rd s Reg.MBX_CTRL_VALID := rd_wr_ne _ _ (by decide)
      rw [if_neg hw, rdb, h4 hne, hk] at hv
      exact absurd hv (by simpa [rdb] using hn)

end Sys2Proof.Proofs
end

section
/-!
PROOFS. Dictionary writes and reads with rows of their own (O20).
-/
namespace Sys2Proof.Proofs
open Sys2Proof Sys2Proof.Machine Sys2Proof.Laws

section
variable {s : State} {r : Route} {c k : Nat} {d : Bytes}

/-! ### Answers on a route (R105) -/

/-- A write is answered with its commit's status, in the state that its commit leaves. -/
theorem odWrite_of_commit {t : State} {st : Status × Nat} (h : odCommit s r c k d false = (st, t)) :
    odWrite s r c k d = emit t (.odDone r c k st.1 []) := by
  simp only [odWrite, h]

/-- A write that its checks refuse is answered with its status and changes nothing, but for a sealed one without a window. -/
theorem odWrite_refused (h : (writeCheck s r k d false).1 ≠ .ok) (h2 : (writeCheck s r k d false).1 ≠ .sealedRefused) :
    odWrite s r c k d = emit s (.odDone r c k (writeCheck s r k d false).1 []) :=
  odWrite_of_commit (odCommit_refused h h2)

theorem odRead_ok (h : (readStatus s r k).1 = .ok) :
    odRead s r c k = emit s (.odDone r c k (readStatus s r k).1 (odValue s k)) := by
  simp only [odRead, if_pos h]

theorem odRead_refused (h : (readStatus s r k).1 ≠ .ok) : odRead s r c k = emit s (.odDone r c k (readStatus s r k).1 []) := by
  simp only [odRead, if_neg h]

/-! ### RW entries: store, overlays and firmware (R100, R101, R560, R561) -/

theorem odWrite_rw (h : writeCheck s r k d false = (.ok, 0)) (hr : (odFind k).map (fun e => e.right) = some .rw) :
    odWrite s r c k d = emit (rwWrite s k d).2 (.odDone r c k (rwWrite s k d).1.1 []) :=
  odWrite_of_commit (odCommit_rw h hr)

/-- A write of FW_ACTIVATE whose status is OK becomes the active value (R561). -/
theorem rwWrite_fwActivate (h : (fwActivate s (leNat d)).1 = .ok) :
    rwWrite s 0xA00203 d = ((.ok, 0), activate (fwActivate s (leNat d)).2 0xA00203 d) := if_pos h

theorem odWrite_fwActivate (h : writeCheck s r 0xA00203 d false = (.ok, 0)) (ha : (fwActivate s (leNat d)).1 = .ok) :
    odWrite s r c 0xA00203 d = emit (activate (fwActivate s (leNat d)).2 0xA00203 d) (.odDone r c 0xA00203 .ok []) := by
  rw [odWrite_rw h (by decide), rwWrite_fwActivate ha]

/-! ### Region entries (R209) -/

/-- The commit of RGN_LD writes the whole entry. -/
theorem odCommit_rgn_ld {own : Bool} (e : Fin 1024) (h : writeCheck s r ((0x6400 + e) * 256 + 1) d own = (.ok, 0)) :
    odCommit s r c ((0x6400 + e) * 256 + 1) d own = ((.ok, 0), rgnWrite s e (leNat d)) := by
  have hi : ((0x6400 + e.val) * 256 + 1) / 256 = 0x6400 + e := by omega
  have hsub : ((0x6400 + e.val) * 256 + 1) % 256 = 1 := by omega
  have he : 0x6400 + e.val < 0x6800 := by omega
  simp [odCommit, h, odFind_rgn_ld, odMany, hi, hsub, he]

end

/-- Settles O20: a write that its checks pass commits by the right of its entry, one that they refuse only answers. -/
theorem dictionaryWrites : Obligations.DictionaryWrites := by
  unfold Obligations.DictionaryWrites
  refine ⟨fun r c s h => ?store, fun s h => ?idle, fun s vs h => ?storeDone, fun r c s h => ?add, fun r c s h => ?remove,
    fun r c e ld s h => ?region, fun r c data s h => ?fwData, fun r c s => ⟨fun h ha => ?activate, fun h ha => ?force, fun h ha => ?cancel⟩,
    fun r c s h h2 => ?refused, fun r c s h => ?block, fun r c s h => ?blockRefused⟩
  case store => exact congrArg _ (odWrite_rw h (by decide))
  case idle => simp [execOdStoreDone, h]
  case storeDone => simp [execOdStoreDone, h]
  case add => exact congrArg _ (odWrite_rw h (by decide))
  case remove => exact congrArg _ (odWrite_rw h (by decide))
  case region => exact congrArg _ (odWrite_of_commit (odCommit_rgn_ld e h))
  case fwData => exact congrArg _ (odWrite_rw h (by decide))
  case activate => exact congrArg _ (odWrite_fwActivate h ha)
  case force => exact congrArg _ (odWrite_fwActivate h ha)
  case cancel => exact congrArg _ (odWrite_fwActivate h ha)
  case refused => exact congrArg _ (odWrite_refused h h2)
  case block => exact congrArg _ (odRead_ok h)
  case blockRefused => exact congrArg _ (odRead_refused h)

end Sys2Proof.Proofs
end

section
/-!
PROOFS. PRESENCE_N and the sealed operations (O21).
-/
namespace Sys2Proof.Proofs
open Sys2Proof Sys2Proof.Machine Sys2Proof.Laws

/-! ### The presence window (R118 to R120) -/

theorem closeWindow_shut {s : State} (cause : Nat) (h : s.pres.window = false) : closeWindow s cause = s := by
  simp [closeWindow, h]

/-- An open window with no presence policy waiting is closed and recorded with the cause (R119). -/
theorem closeWindow_open {s : State} (cause : Nat) (h : s.pres.window = true) (hp : s.pres.policyNext = none) :
    closeWindow s cause = record { s with pres := { s.pres with window := false } } Ev.PRESENCE_CLOSE 0xFF (le 1 cause) := by
  simp [closeWindow, h, record, recordAt, hp]

/-- A press that is not yet stuck, by whether it opened the window (R120). -/
theorem execPresenceStuck_new {s : State} (hl : s.pres.low = true) (hs : s.pres.stuck = false) (hp : s.boot.porst = false) :
    execPresenceStuck s =
      (let s1 := if s.pres.openedByPress then closeWindow s 4 else s
       .next (fault { s1 with pres := { s1.pres with stuck := true } } .pommel Ev.PRESENCE_STUCK 0xFF [])) := by
  simp [execPresenceStuck, hl, hs, hp]

/-! ### Sealed writes (R121, R123) -/

section
variable {s : State} {r : Route} {c k : Nat} {d : Bytes}

theorem odWrite_sealed {t : State} (h : writeCheck s r k d false = (.ok, 0)) (hr : (odFind k).map (fun e => e.right) = some .sealed_)
    (ht : sealedWrite s r c k d = ((.ok, 0), t)) : odWrite s r c k d = emit t (.odDone r c k .ok []) :=
  odWrite_of_commit ((odCommit_sealed h hr).trans ht)

/-- A sealed write without a window is recorded and refused (R121). -/
theorem odWrite_sealedRefused (h : (writeCheck s r k d false).1 = .sealedRefused) :
    odWrite s r c k d = emit (record s Ev.SEALED_REFUSED_NO_WINDOW 0xFF []) (.odDone r c k .sealedRefused []) := by
  have hc : odCommit s r c k d false = (writeCheck s r k d false, record s Ev.SEALED_REFUSED_NO_WINDOW 0xFF []) := by
    simp [odCommit, h]
  rw [odWrite_of_commit hc, h]

/-- A lock policy or a route write mask is stored by its sealed write (R123). -/
theorem sealedWrite_lockPolicy (hk : k ∈ [0x202001, 0x103001, 0x103002, 0x103003]) :
    sealedWrite s r c k d = ((.ok, 0), sealedDone (storeIn s .base k (some d)) r c (odValue s k) d) := by
  simp only [List.mem_cons, List.not_mem_nil, or_false] at hk
  obtain rfl | rfl | rfl | rfl := hk <;> rfl

theorem sealedWrite_recorderClear (h : s.stm.clearing = none) :
    sealedWrite s r c 0xF01001 d = ((.ok, 0), closeWindow (clearBegin s (routeCode r) (recordClient r c)) 1) := by
  simp [sealedWrite, h]

/-- The crypto-erase runs while no HDM range is active, and in service mode (R123). -/
theorem sealedWrite_cryptoErase (h : hdmActive s = false ∨ s.boot.mode = .service) :
    sealedWrite s r c 0xF01201 d = ((.ok, 0), sealedDone (cryptoErase s) r c (odValue s 0xF01201) d) := by
  have hn : (hdmActive s && s.boot.mode ≠ .service) = false := by
    rcases h with h | h <;> simp [h]
  simp only [sealedWrite, hn, Bool.false_eq_true, if_false]

/-- An image that no check fails verifies, and nothing is recorded (R555). -/
theorem imgVerify_passes {n : Nat} (h : imgFails s n = none) : imgVerify s n = (true, s) := by
  simp only [imgVerify, h]

theorem sealedWrite_forcedSlot (h : imgFails s (leNat d) = none) :
    sealedWrite s r c 0xF01301 d =
      ((.ok, 0), sealedDone (fwSet s { s.fw with forced := some (leNat d) }) r c (odValue s 0xF01301) d) := by
  simp only [sealedWrite, imgVerify_passes h, if_true]

/-- The sealed write of a lock policy or of a route write mask, answered. -/
theorem odWrite_lockPolicy (hk : k ∈ [0x202001, 0x103001, 0x103002, 0x103003]) (h : writeCheck s r k d false = (.ok, 0)) :
    odWrite s r c k d = emit (sealedDone (storeIn s .base k (some d)) r c (odValue s k) d) (.odDone r c k .ok []) := by
  have hr : ∀ j ∈ [0x202001, 0x103001, 0x103002, 0x103003], (odFind j).map (fun e => e.right) = some .sealed_ := by decide
  exact odWrite_sealed h (hr k hk) (sealedWrite_lockPolicy hk)

end

/-- Settles O21: the pin and window events by their guards, the sealed operations by the sealed write of their key. -/
theorem presenceAndSealed : Obligations.PresenceAndSealed := by
  unfold Obligations.PresenceAndSealed
  refine ⟨fun s h => ?press, fun s h => ?release, fun s hl hs hw ho hp hc h3 hn => ?opens, fun s hw hp => ?closes, fun s hw => ?shut,
    fun s hl hs hp ho => ?stuck, fun s hl hs hp ho => ?stuckOpen, fun s hs hl => ?rearm, fun r c v s h hc => ?clear,
    fun r c v s => ⟨fun h => ?lock, fun h => ?mask0, fun h => ?mask1, fun h => ?mask2⟩, fun r c v s h => ?factory,
    fun r c v s h ha => ?erase, fun r c v s h hi => ?forced, fun r c v s h => ?policy, fun r c v s h => ?refused⟩
  case press => simp [execPresenceNPress, h]
  case release => simp [execPresenceNRelease, h]
  case opens => simp [execPresenceOpen, presenceMay, hl, hs, hw, ho, hp, hc, h3, hn]
  case closes => exact congrArg _ (closeWindow_open 0 hw hp)
  case shut => exact congrArg _ (closeWindow_shut 0 hw)
  case stuck => simp [execPresenceStuck_new hl hs hp, ho]
  case stuckOpen => simp [execPresenceStuck_new hl hs hp, ho]
  case rearm => simp [execPresenceRearm, hs, hl]
  case clear => exact congrArg _ (odWrite_sealed h (by decide) (sealedWrite_recorderClear hc))
  case lock => exact congrArg _ (odWrite_lockPolicy (by decide) h)
  case mask0 => exact congrArg _ (odWrite_lockPolicy (by decide) h)
  case mask1 => exact congrArg _ (odWrite_lockPolicy (by decide) h)
  case mask2 => exact congrArg _ (odWrite_lockPolicy (by decide) h)
  case factory => exact congrArg _ (odWrite_sealed h (by decide) rfl)
  case erase => exact congrArg _ (odWrite_sealed h (by decide) (sealedWrite_cryptoErase ha))
  case forced => exact congrArg _ (odWrite_sealed h (by decide) (sealedWrite_forcedSlot hi))
  case policy => exact congrArg _ (odWrite_sealed h (by decide) rfl)
  case refused => exact congrArg _ (odWrite_sealedRefused h)

end Sys2Proof.Proofs
end

section
/-!
PROOFS. Tack frames (O22).
-/
namespace Sys2Proof.Proofs
open Sys2Proof Sys2Proof.Machine Sys2Proof.Laws

section
variable {s : State} {h : TackHdr} {run : State → State}

/-! ### Which frames reach their command (R115, R116) -/

theorem tackFrame_heard (hf : frameHeard s h) : tackFrame s h run = run s := by
  obtain ⟨hears, h0, h63, hnode, hcont, hlen, hfits, hknown⟩ := hf
  have hclient : ¬(h.client = 0 ∨ 63 < h.client ∨ h.client = s.tack.node) := by
    rintro (e | e | e)
    exacts [h0 e, Nat.not_lt.2 h63 e, hnode e]
  simp [tackFrame, hears, hclient, hcont, Nat.not_lt.2 hlen, hfits, hknown]

/-- A frame of a contained node is dropped (R116). -/
theorem tackFrame_contained (hears : tackHears s h.chan = true) (h0 : h.client ≠ 0) (h63 : h.client ≤ 63) (hnode : h.client ≠ s.tack.node)
    (hcont : contained s (.tackNode h.client) = true) : tackFrame s h run = s := by
  simp [tackFrame, hears, h0, Nat.not_lt.2 h63, hnode, hcont]

/-- A request with a fresh tag on a channel with room runs (R115). -/
theorem tackFrame_request {key : Nat} (hf : requestFresh s h) : tackFrame s h (fun u => tackRequest u h key run) = run s := by
  obtain ⟨hheard, htag, hroom⟩ := hf
  simp [tackFrame_heard hheard, tackRequest, htag, Nat.not_le.2 hroom]

/-! ### The frames of a running transaction (R113, R114) -/

/-- A full segment that follows and is not the last is kept, and acknowledged at each sixteenth (R113). -/
theorem execSegment_follows {t : TackTxn} {data : Bytes} (hf : frameHeard s h) (ht : txnOf s h = some t) (hw : t.isWrite = true)
    (hl : h.len = 56) (hd : (t.data ++ data.take 56).length < t.total) :
    execSegment h t.nextSeg false data s =
      (let s1 := txnPut s { t with data := t.data ++ data.take 56, nextSeg := t.nextSeg + 1 }
       .next (if (t.nextSeg + 1) % 16 = 0 then emit s1 (.tack h.chan 0x05 h.client h.tag t.nextSeg 0 []) else s1)) := by
  simp only [execSegment, tackFrame_heard hf, ht, hw, hl, Nat.not_le.2 hd, Bool.true_eq_false, Bool.false_eq_true, ne_eq,
    not_true_eq_false, or_self, if_false]

/-- The ACK of the last segment ends a read (R113). -/
theorem execAck_last {t : TackTxn} {n : Nat} (hf : frameHeard s h) (ht : txnOf s h = some t) (hw : t.isWrite = false) (ha : t.acked ≤ n)
    (hn : n < t.nextSeg) (hlast : n + 1 = segCount t.total) : execAck h n s = .next (txnDrop s t) := by
  simp [execAck, tackFrame_heard hf, ht, hw, Nat.not_lt.2 ha, Nat.not_le.2 hn, hlast]

theorem execAbort_running {t : TackTxn} (hf : frameHeard s h) (ht : txnOf s h = some t) :
    execAbort h s = .next (emit (txnDrop s t) (.tack h.chan 0x86 h.client h.tag t.key 0x20 [9, 0])) := by
  simp only [execAbort, tackFrame_heard hf, ht]
  rfl

theorem execAbort_unknown (hf : frameHeard s h) (ht : txnOf s h = none) (hd : amFind s.dict.done (64 * h.chan + h.client) ≠ some h.tag) :
    execAbort h s = .next (emit s (.tack h.chan 0x86 h.client h.tag 0 0x32 [2, 0])) := by
  simp only [execAbort, tackFrame_heard hf, ht, if_neg hd]
  rfl

theorem execTackTransferTimeout_running {chan : Fin 2} {client tag : Nat} {t : TackTxn}
    (ht : txnOf s ⟨chan, client, tag, 0, true, true⟩ = some t) :
    execTackTransferTimeout chan client tag s = .next (emit (txnDrop s t) (.tack chan 0x06 client tag t.key 0x23 [8, 0])) := by
  simp only [execTackTransferTimeout, ht]
  rfl

end

/-- Settles O22: a heard frame runs its command, whose case the transaction, the segment number or the length selects. -/
theorem tackFrames : Obligations.TackFrames := by
  unfold Obligations.TackFrames
  refine ⟨fun h key s hf hr hv => ?read, fun h key data s hf => ?write, fun h key total s hf ha ht => ?writeInit,
    fun h n data s t hf ht hw hn hl hd => ?segment, fun h n s t hf ht hw ha hn hlast => ?ack, fun h s t hf ht => ?abort,
    fun h s hf ht hd => ?abortUnknown, fun chan client tag s t ht => ?timeout, fun chan s hh => ?classical,
    fun chan serial s hh hl hs hn => ?bootup, fun s => ?listenEnd, fun h key data s hh h0 h63 hn hc => ?contained⟩
  case read => simp [execRead, tackFrame_request hf, hr, hv]
  case write => simp [execWrite, tackFrame_request hf]
  case writeInit => simp [execWriteInit, tackFrame_request hf, ha, Nat.not_lt.2 ht]
  case segment =>
    subst hn
    rw [exec_segment, execSegment_follows hf ht hw hl hd]
    exact ⟨fun hm => congrArg _ (if_neg hm), fun hm => congrArg _ (if_pos hm)⟩
  case ack => exact execAck_last hf ht hw ha hn hlast
  case abort => exact execAbort_running hf ht
  case abortUnknown => exact execAbort_unknown hf ht hd
  case timeout => exact execTackTransferTimeout_running ht
  case classical => simp [execTackClassicalFrame, hh, chanViolation]
  case bootup =>
    have h63 : s.tack.node ≠ 63 := by omega
    simp [execTackBootupFrame, hh, hl, hs, h63]
  case listenEnd => rfl
  case contained =>
    have hrun : ∀ run, Host.Outcome.next (φ := Fault) (ρ := Refusal) (tackFrame s h run) = .next s :=
      fun run => congrArg _ (tackFrame_contained hh h0 h63 hn hc)
    exact ⟨hrun _, hrun _, hrun _⟩

end Sys2Proof.Proofs
end

section
/-!
PROOFS. Vendor mailbox commands: their common refusals, the dictionary commands, objects and streams (O28).
-/
namespace Sys2Proof.Proofs
open Sys2Proof Sys2Proof.Machine Sys2Proof.Laws

/-! ### The common part of every vendor command (R140, R149, R151, R394) -/

section
variable {s : State} {n : Nat} {run : State → State}

theorem vendorCmd_compat (hm : s.boot.mode = .compat) : vendorCmd s n run = emit s (.cci n .unsupported []) := if_pos hm

theorem vendorCmd_notReady (hm : s.boot.mode ≠ .compat) (hr : s.boot.ready = false) : vendorCmd s n run = vendorReply s n .notReady [] := by
  simp [vendorCmd, hm, hr]

theorem vendorCmd_contained (hm : s.boot.mode ≠ .compat) (hr : s.boot.ready = true) (hc : contained s (.ld n) = true) :
    vendorCmd s n run = vendorReply s n .partnerViolation [] := by
  simp [vendorCmd, hm, hr, hc]

theorem vendorCmd_disabled (hm : s.boot.mode ≠ .compat) (hr : s.boot.ready = true) (hc : contained s (.ld n) = false)
    (ho : fnOpen s (.ld n) = false) : vendorCmd s n run = vendorReply s n .functionDisabled [] := by
  simp [vendorCmd, hm, hr, hc, ho]

theorem vendorCmd_served (h : vendorServed s n) : vendorCmd s n run = run s := by
  obtain ⟨hm, hr, hc, ho⟩ := h
  simp [vendorCmd, hm, hr, hc, ho]

/-- A served command of an object that the LD may act on runs with the object's range (R394). -/
theorem vendorCmd_object {id : Nat} {r : Nat × Nat} {f : State → Nat × Nat → State} (h : objectServed s n id r) :
    vendorCmd s n (fun u => objectCmd u n id f) = f s r := by
  obtain ⟨hs, hr, ha⟩ := h
  simp [vendorCmd_served hs, objectCmd, hr, ha]

end

/-! ### The dictionary commands (R107, R108, R139) -/

section
variable {s : State} {n : Fin 64} {key : Nat} {data : Bytes}

/-- A chunk that is the whole value, of an entry whose write nothing holds, commits at once (R139). -/
theorem odChunk_whole (hl : data.length ≤ 4080) (he : data.length ≤ 8 ∨ data.length % 2 = 0)
    (ha : accessCheck s (.cxl n) key false = (.ok, 0)) (hs : s.dict.staged.find? (fun x => x.key == key && x.route = .cxl n) = none) :
    odChunk s n key 0 data.length data =
      (let c := odCommit s (.cxl n) n key data true
       vendorReply (if c.1.1 = .ok then { c.2 with dict := { c.2.dict with done := amSet c.2.dict.done (256 + n) key } } else c.2)
         n c.1.1 []) := by
  have hfits : ¬(4080 < data.length ∨ (data.length % 2 ≠ 0 ∧ 8 < data.length) ∨ 16777214 < data.length ∨ data.length < 0 + data.length) := by
    omega
  simp only [odChunk, if_neg hfits]
  simp only [hs, Option.isSome_none, ha, if_true, Bool.false_eq_true, if_false, List.length_nil, List.nil_append, Nat.zero_add, ne_eq,
    not_true_eq_false]

theorem execOdWrite_managing {off total : Nat} (hv : vendorServed s n) (hm : ldMgmt s n = true) :
    execOdWrite n key off total data s = .next (odChunk s n key off total data) := by
  simp [execOdWrite, vendorCmd_served hv, hm]

/-- With nothing staged an abort only says whether the key's write has completed (R108). -/
theorem execOdAbort_unstaged (hv : vendorServed s n) (hm : ldMgmt s n = true) (hs : s.dict.staged = []) :
    execOdAbort n key s =
      .next (vendorReply s n (if amFind s.dict.done (256 + n) = some key then .abortTooLate else .badDescriptor) []) := by
  simp [execOdAbort, vendorCmd_served hv, hm, hs]

end

/-! ### Objects and streams (R395, R398, R412) -/

/-- A base object set to AUTO, with its REPLICA flag as it was, only stores the policy (R398). -/
theorem execObjectSetPolicy_auto {s : State} {n : Fin 64} {id : Nat} {r : Nat × Nat} (h : objectServed s n id r) (ho : objFind s id = none)
    (hr : objReplica s id = false) : execObjectSetPolicy n id 1 0 s =
      .next (vendorReply { s with tier := { s.tier with basePol := amSet s.tier.basePol id (1, false) } } n .ok []) := by
  have hok : policyOk s (b2n (objVolatile s id)) 1 0 = true := by simp [objVolatile, ho, policyOk, b2n]
  simp [execObjectSetPolicy, vendorCmd_object h, hok, ho, hr]

/-- Settles O28: the common part answers or runs the command, whose own conditions the clause decides. -/
theorem vendorCommands : Obligations.VendorCommands := by
  unfold Obligations.VendorCommands
  refine ⟨fun n key off id s => ⟨fun hm => ?compat, fun hm hr => ?notReady, fun hm hr hc => ?contained, fun hm hr hc ho => ?disabled⟩,
    fun n key off s hv hm hr ho => ?odRead, fun n key data s hv hm hl he ha hs => ?odWrite, fun n key s hv hm hs => ?odAbort,
    fun n id r s h hi ht => ?destroy, fun n id r s h => ?query, fun n id r s h ho hr => ?setPolicy,
    fun n id t s hv ht => ?close, fun n off size cls pol fl s hv hp => ?create⟩
  case compat => exact ⟨congrArg _ (vendorCmd_compat hm), congrArg _ (vendorCmd_compat hm)⟩
  case notReady => exact ⟨congrArg _ (vendorCmd_notReady hm hr), congrArg _ (vendorCmd_notReady hm hr)⟩
  case contained => simp [execOdRead, hr, vendorCmd_contained hm hr hc]
  case disabled => simp [execOdRead, hr, vendorCmd_disabled hm hr hc ho]
  case odRead =>
    have hin : ¬(off ≠ 0 ∧ (odValue s key).length ≤ off) := by omega
    have ⟨_, hready, _, _⟩ := hv
    simp [execOdRead, hready, vendorCmd_served hv, hm, hr, hin]
  case odWrite =>
    rw [exec_odWrite, execOdWrite_managing hv hm, odChunk_whole hl he ha hs]
    exact ⟨fun hc => by simp only [if_pos hc], fun hc => by simp only [if_neg hc]⟩
  case odAbort =>
    rw [exec_odAbort, execOdAbort_unstaged hv hm hs]
    exact ⟨fun hd => by rw [if_pos hd], fun hd => by rw [if_neg hd]⟩
  case destroy => simp only [exec_objectDestroy, execObjectDestroy, vendorCmd_object h, if_neg (Nat.not_lt.2 hi), ht, Bool.false_eq_true, if_false]
  case query => exact congrArg _ (vendorCmd_object h)
  case setPolicy => exact execObjectSetPolicy_auto h ho hr
  case close =>
    refine ⟨fun he => ?_, fun he => ?_⟩ <;> simp [execStreamClose, vendorCmd_served hv, ht, he]
  case create => simp [execObjectCreate, vendorCmd_served hv, hp]

end Sys2Proof.Proofs
end

section
/-!
PROOFS. Host port control: decoders, links, enables and doorbells (O25).
-/
namespace Sys2Proof.Proofs
open Sys2Proof Sys2Proof.Machine Sys2Proof.Laws

/-! ### A port's link comes up (R127, R148) -/

/-- The registers of a port whose link has come up at a width, rate and flit mode. -/
def linkRegs (s : State) (p w : Nat) (rate64 flit68 : Bool) : State :=
  setF (wr (wr (wr (wr s (Reg.HPT_PORT_STATUS_LINK_UP p) 1) (Reg.HPT_PORT_STATUS_WIDTH p) w)
    (Reg.HPT_PORT_STATUS_RATE_64 p) (b2n rate64)) (Reg.HPT_PORT_STATUS_FLIT68 p) (b2n flit68)) (Reg.HPT_PORT_EVENTS_LINK_UP p)

/-- What the rest of HOST_LINK_UP leaves alone once the registers are written: every part but the recorder and the host ports, the host
requests in flight, and every register field but the event of a degraded link. -/
structure LinkKept (p : Nat) (s t : State) : Prop where
  parts : KeptBut [.csr, .stm, .host] s t
  reads : t.host.reads = s.host.reads
  writes : t.host.writes = s.host.writes
  fields : FieldsKeptBut [Reg.HPT_PORT_EVENTS_DEGRADED p] s t

section
variable {p : Nat} {s t u : State}

theorem LinkKept.trans (h : LinkKept p s t) (k : LinkKept p t u) : LinkKept p s u :=
  ⟨kept_trans h.parts k.parts, k.reads.trans h.reads, k.writes.trans h.writes, fields_trans h.fields k.fields⟩

/-- The fields of the port's status register stand below its events. -/
theorem LinkKept.status (h : LinkKept p s t) {k w r : Nat} (hk : k < 128) :
    rd t ⟨(0x40004 + 0x1000 * p) * 8 + k, w, r⟩ = rd s ⟨(0x40004 + 0x1000 * p) * 8 + k, w, r⟩ := by
  refine h.fields _ fun g hg => ?_
  simp only [List.mem_singleton.1 hg, Reg.HPT_PORT_EVENTS_DEGRADED]
  omega

theorem linkKept_record (p : Nat) (s : State) (e : Ev) (i : Nat) (b : Bytes) : LinkKept p s (record s e i b) :=
  ⟨kept_mono (kept_record s e i b) (by simp), rfl, rfl, fields_refl _ s⟩

theorem linkKept_degraded (p : Nat) (s : State) : LinkKept p s (setF s (Reg.HPT_PORT_EVENTS_DEGRADED p)) :=
  ⟨kept_mono (kept_setF s _) (by simp), rfl, rfl, fun _ hf => rd_setF_ne s (hf _ (List.mem_singleton_self _)).symm⟩

theorem linkKept_ldSet (p : Nat) (s : State) (n : Nat) (v : LDev) : LinkKept p s (ldSet s n v) :=
  ⟨fun q hq => by cases q <;> simp_all [Part.same, ldSet], rfl, rfl, fields_refl _ s⟩

theorem linkKept_foldl {α : Type} {f : State → α → State} (h : ∀ s a, LinkKept p s (f s a)) (l : List α) (s : State) :
    LinkKept p s (l.foldl f s) := by
  induction l generalizing s with
  | nil => exact ⟨kept_refl _ s, rfl, rfl, fields_refl _ s⟩
  | cons a r ih => exact (h s a).trans (ih (f s a))

end

/-- The fences of a port's LDs lifted and their BUSY doorbell slots freed. -/
def fencesLifted (s : State) (p : Nat) : State :=
  (portLds s p).foldl (fun t n => ldSet t n { ldOf t n with
    fenced := false, slots := (ldOf t n).slots.map (fun e => (e.1, { e.2 with busy := false })) }) s

theorem linkKept_fencesLifted (p : Nat) (s : State) : LinkKept p s (fencesLifted s p) :=
  linkKept_foldl (fun t n => linkKept_ldSet p t n _) _ s

theorem linkRegs_kept (s : State) (p w : Nat) (rate64 flit68 : Bool) : KeptBut [.csr] s (linkRegs s p w rate64 flit68) :=
  kept_trans (kept_trans (kept_trans (kept_trans (kept_wr _ _ _) (kept_wr _ _ _)) (kept_wr _ _ _)) (kept_wr _ _ _)) (kept_setF _ _)

section
variable {p : Fin 16} {w : Nat} {s : State}

/-- A link at 64 GT/s, with no records lost while it was down: after its registers are written only `LinkKept` changes are left. -/
theorem execHostLinkUp_kept (hr : portRole s p ≠ 2) (hm : s.boot.mode ≠ .service) (hb : 6 ≤ s.boot.stage)
    (hd : amGet s.host.dropped p.val 0 = 0) :
    ∃ t, execHostLinkUp p w true false s = .next t ∧ LinkKept p (linkRegs s p w true false) t := by
  have hup : ¬(portRole s p = 2 ∨ s.boot.mode = .service ∨ s.boot.stage < 6) := by
    simp [hr, hm, hb]
  simp only [execHostLinkUp, if_neg hup, Bool.false_eq_true, false_and, if_false, hd, if_true]
  refine ⟨_, rfl, ?_⟩
  have hlifted := (linkKept_record p (linkRegs s p w true false) Ev.PORT_LINK_UP p []).trans (linkKept_fencesLifted p _)
  exact iteInduction (motive := LinkKept p (linkRegs s p w true false))
    (fun _ => hlifted.trans ((linkKept_degraded p _).trans (linkKept_record p _ _ _ _))) (fun _ => hlifted)

/-- The four fields of the port's status that HOST_LINK_UP writes, where the registers say what came up. -/
theorem linkRegs_status (s : State) (p w : Nat) (rate64 flit68 : Bool) :
    rd (linkRegs s p w rate64 flit68) (Reg.HPT_PORT_STATUS_LINK_UP p) = 1 ∧
    rd (linkRegs s p w rate64 flit68) (Reg.HPT_PORT_STATUS_WIDTH p) = w % 2 ^ (Reg.HPT_PORT_STATUS_WIDTH p).width ∧
    rd (linkRegs s p w rate64 flit68) (Reg.HPT_PORT_STATUS_RATE_64 p) = b2n rate64 ∧
    rd (linkRegs s p w rate64 flit68) (Reg.HPT_PORT_STATUS_FLIT68 p) = b2n flit68 := by
  have hflag : ∀ b : Bool, b2n b % 2 ^ 1 = b2n b := by decide
  refine ⟨?_, ?_, ?_, ?_⟩
  all_goals simp (disch := (simp only [Reg.HPT_PORT_STATUS_LINK_UP, Reg.HPT_PORT_STATUS_WIDTH, Reg.HPT_PORT_STATUS_RATE_64,
    Reg.HPT_PORT_STATUS_FLIT68, Reg.HPT_PORT_EVENTS_LINK_UP]; omega)) only [linkRegs, rd_setF_ne, rd_wr_ne, rd_wr_self]
  · rfl
  · exact hflag rate64
  · exact hflag flit68

end

/-! ### Doorbells (R141 to R144) -/

/-- What DOORBELL_RING takes from a word that holds a token, a scope and a level, and no interrupt. -/
theorem ringWord_fields {token scope level : Nat} (ht : token < 0x10000) (hs : scope < 3) (hl : level < 3) :
    let word := token + 0x10000 * scope + 0x40000 * level
    word % 0x10000 = token ∧ word / 0x10000 % 4 = scope ∧ word / 0x40000 % 4 = level ∧ bit word 20 = false ∧
      word / 0x200000 % 64 = 0 ∧ word / 0x8000000 % 0x2000000000 = 0 := by
  refine ⟨?_, ?_, ?_, decide_eq_false ?_, ?_, ?_⟩ <;> omega

section
variable {n slot : Fin 64} {token scope level word : Nat} {s : State}

/-- A RING of an LD that is not contained, with a free and aligned slot and fields in range: the record NOT_READY or FUNCTION_DISABLED at
once, or a barrier behind a BUSY slot. -/
theorem execDoorbellRing_free (hc : contained s (.ld n) = false) (hb : (amGet (ldOf s n).slots slot.val {}).busy = false)
    (ha : (amGet (ldOf s n).slots slot.val {}).addr % 64 = 0) (ht : token < 0x10000) (hs : scope < 3) (hl : level < 3) :
    execDoorbellRing n slot (token + 0x10000 * scope + 0x40000 * level) 64 s = .next (
      if s.boot.ready = false ∨ s.cin.phase = .commit then
        writeRecord (bump s Reg.WLT_BAR_ERR_NOT_READY 1) n (amGet (ldOf s n).slots slot.val {}).addr token .notReady scope level false 0
      else if !fnOpen s (.ld n) ∨ !fnOpen s (.port (ldPort s n)) then
        writeRecord s n (amGet (ldOf s n).slots slot.val {}).addr token .functionDisabled scope level false 0
      else startBarrier (ldSet s n { ldOf s n with
        slots := amSet (ldOf s n).slots slot.val { amGet (ldOf s n).slots slot.val {} with busy := true } })
        (.doorbell n slot token false 0) n scope level) := by
  obtain ⟨htoken, hscope, hlevel, hintr, hvec, hrest⟩ := ringWord_fields ht hs hl
  simp [execDoorbellRing, htoken, hscope, hlevel, hintr, hvec, hrest, hc, hb, ha, hs.ne, hl.ne]

/-- A RING that is not one write of 64 bits is misuse (R144). -/
theorem execDoorbellRing_size {bits : Nat} (hc : contained s (.ld n) = false) (hb : bits ≠ 64) :
    execDoorbellRing n slot word bits s = .next (hostViolation s (ldPort s n) (some n) 3) := by
  simp [execDoorbellRing, hc, hb]

/-- A write of an offset that is not ADDR is misuse (R144). -/
theorem execDoorbellAddrWrite_offset {off v : Nat} (hc : contained s (.ld n) = false) (ho : off ≠ 0) :
    execDoorbellAddrWrite n slot off v s = .next (hostViolation s (ldPort s n) (some n) 3) := by
  simp [execDoorbellAddrWrite, hc, ho]

theorem execDoorbellAddrWrite_free {v : Nat} (hc : contained s (.ld n) = false) (hb : (amGet (ldOf s n).slots slot.val {}).busy = false) :
    execDoorbellAddrWrite n slot 0 v s = .next (ldSet s n { ldOf s n with
      slots := amSet (ldOf s n).slots slot.val { amGet (ldOf s n).slots slot.val {} with addr := v % 2 ^ 64 } }) := by
  simp [execDoorbellAddrWrite, hc, hb]

end

/-- Settles O25: each clause is the case of its command that its hypotheses select; HOST_LINK_UP writes the status fields, and what follows
keeps them. HOST_LINK_DOWN of a link that is down changes nothing, the model's choice (log entry 12). -/
theorem hostPortControl : Obligations.HostPortControl := by
  unfold Obligations.HostPortControl
  refine ⟨fun n idx base size skip ways gran bi lock s h => ?decoder, fun n idx base size skip ways gran bi lock s hl hc => ?locked,
    fun p s h => ?down, fun p s h => ?downAlready, fun p w s hr hm hb hd => ?up, fun p n on s hc => ?enable,
    fun n slot v s hc hb => ?addr, fun n slot off v s hc ho => ?offset,
    fun n slot token scope level s hc hb ha ht hs hl hld hport => ?ring, fun n slot word bits s hc hb => ?size⟩
  case decoder =>
    intro d
    have hopen : ¬((amGet (ldOf s n).decoders idx.val {}).lock = true ∧ (amGet (ldOf s n).decoders idx.val {}).committed = true) := by
      simp [h]
    exact ⟨fun hok => congrArg _ ((if_neg hopen).trans (if_pos hok)),
      fun hok => congrArg _ ((if_neg hopen).trans (if_neg (Bool.eq_false_iff.1 hok)))⟩
  case locked => exact congrArg _ (if_pos ⟨hl, hc⟩)
  case down => exact congrArg _ (if_pos h)
  case downAlready => exact congrArg _ (if_neg (Bool.eq_false_iff.1 h))
  case up =>
    obtain ⟨t, ht, hkept⟩ := execHostLinkUp_kept (w := w) hr hm hb hd
    obtain ⟨hup, hwidth, hrate, hflit⟩ := linkRegs_status s p w true false
    refine ⟨t, ht, ?_, ?_, ?_, ?_, kept_trans (kept_mono (linkRegs_kept s p w true false) (by simp)) hkept.parts, hkept.reads, hkept.writes⟩
    exacts [(hkept.status (k := 0) (by decide)).trans hup, (hkept.status (k := 2) (by decide)).trans hwidth,
      (hkept.status (k := 1) (by decide)).trans hrate, (hkept.status (k := 10) (by decide)).trans hflit]
  case enable => exact ⟨congrArg _ (if_neg hc), congrArg _ (if_neg hc)⟩
  case addr => exact execDoorbellAddrWrite_free hc hb
  case offset => exact execDoorbellAddrWrite_offset hc ho
  case ring =>
    rw [exec_doorbellRing, execDoorbellRing_free hc hb ha ht hs hl]
    exact ⟨fun hr hp => by simp [hr, hp, hld, hport], fun hr => by simp [hr]⟩
  case size => exact execDoorbellRing_size hc hb

end Sys2Proof.Proofs
end

section
/-!
PROOFS. The standard commands of the CXL mailbox and the FM API (O27).
-/
namespace Sys2Proof.Proofs
open Sys2Proof Sys2Proof.Machine Sys2Proof.Laws

/-! ### The common part of the standard commands (R138) and of the FM API (R124) -/

section
variable {s run : State} {n p : Nat}

theorem stdCmd_any (hm : s.boot.mode ≠ .compat) : stdCmd s n false run = run := if_neg hm

theorem stdCmd_ready (hm : s.boot.mode ≠ .compat) (hr : s.boot.ready = true) : stdCmd s n true run = run := by
  simp [stdCmd, hm, hr]

theorem stdCmd_busy (hm : s.boot.mode ≠ .compat) (hr : s.boot.ready = false) : stdCmd s n true run = emit s (.cci n .busy []) := by
  simp [stdCmd, hm, hr]

theorem fmCmd_run (hm : s.boot.mode ≠ .compat) (hp : 2 ≤ (portLds s p).length) : fmCmd s p run = run := by
  simp [fmCmd, hm, Nat.not_lt.2 hp]

theorem fmCmd_unsupported (hp : (portLds s p).length < 2) : fmCmd s p run = emit s (.cci (64 + p) .unsupported []) :=
  if_pos (.inr hp)

end

/-! ### Inputs in range (R138, R140) -/

section
variable {s : State} {n : Fin 64}

theorem execGetLog_cel {off len : Nat} (hm : s.boot.mode ≠ .compat) (ho : off + len ≤ celLog.length) (hl : len ≤ 4096) :
    execGetLog n celUuid off len s = .next (emit s (.cci n .success ((celLog.drop off).take len))) := by
  have hin : ¬(celUuid ≠ celUuid ∨ celLog.length < off + len ∨ 4096 < len) := by simp [ho, hl]
  simp only [execGetLog, stdCmd_any hm, if_neg hin]

theorem leNat_cons_mod_two (b : Byte) (r : Bytes) : leNat (b :: r) % 2 = b.toNat % 2 := by
  rw [leNat]
  omega

/-- The four settings of an interrupt policy, 0 or 1 each, as its bits. -/
theorem execSetEventInterruptPolicy_bits (a b c d : Fin 2) (hm : s.boot.mode ≠ .compat) :
    execSetEventInterruptPolicy n [BitVec.ofNat 8 a, BitVec.ofNat 8 b, BitVec.ofNat 8 c, BitVec.ofNat 8 d] s =
      .next (emit (ldSet s n { ldOf s n with eventPolicy := a + 2 * b + 4 * c + 8 * d }) (.cci n .success [])) := by
  have hlegal : ∀ x : Fin 2, decide (1 < (BitVec.ofNat 8 x).toNat % 4) = false := by decide
  have hmasked : ∀ x : Fin 2, (BitVec.ofNat 8 x &&& 1).toNat % 2 = x := by decide
  have hbit : ∀ x : Fin 2, (BitVec.ofNat 8 x).toNat % 2 = x := by decide
  simp only [execSetEventInterruptPolicy, stdCmd_any hm, List.any_cons, List.any_nil, hlegal, List.map_cons, List.map_nil, List.drop_succ_cons,
    List.drop_zero, List.take_succ_cons, leNat_cons_mod_two, hmasked, hbit]
  rfl

theorem execClearPoison_accepted {dpa : Nat} {data : Bytes} {t : State} (hm : s.boot.mode ≠ .compat) (hr : s.boot.ready = true)
    (hl : data.length = 64) (ha : dpa % 64 = 0) (hd : dpa < ldBytes s n)
    (hw : acceptWrite s (.mailbox n) n (homeLine s n dpa) (plineOf data) (completePair s n (dpa / 0x200000)) false = some t) :
    execClearPoison n dpa data s = .next (emit t (.cci n .success [])) := by
  simp only [execClearPoison, stdCmd_ready hm hr, hl, ha, Nat.not_le.2 hd, hw, ne_eq, not_true_eq_false, or_self, if_false]

end

/-- Settles O27: the common part runs the command, whose conditions its inputs meet, or answers in its place. -/
theorem cxlMailboxStandard : Obligations.CxlMailboxStandard := by
  unfold Obligations.CxlMailboxStandard
  refine ⟨fun n s hm => ?identity, fun n off len s hm ho hl => execGetLog_cel hm ho hl, fun n log s hm hl => ?events,
    fun n a b c d s hm => execSetEventInterruptPolicy_bits a b c d hm, fun n off len data s hm hr => ?labels,
    fun n start len s hm hr hle ha => ?poison, fun n dpa data s t hm hr hl ha hd hw => execClearPoison_accepted hm hr hl ha hd hw,
    fun n v s hm => congrArg _ (stdCmd_any hm), fun n off len s hm hr => ⟨congrArg _ (stdCmd_busy hm hr), congrArg _ (stdCmd_busy hm hr)⟩,
    fun n p s => ⟨rfl, rfl⟩, fun p start limit s hm hp => ⟨congrArg _ (fmCmd_run hm hp), congrArg _ (fmCmd_run hm hp)⟩,
    fun p start limit s hp => ⟨congrArg _ (fmCmd_unsupported hp), congrArg _ (fmCmd_unsupported hp)⟩⟩
  case identity =>
    refine ⟨?_, ?_, ?_, ?_, ?_, ?_, ?_⟩
    all_goals exact congrArg _ (stdCmd_any hm)
  case events =>
    refine ⟨congrArg _ ((stdCmd_any hm).trans (if_neg (Nat.not_le.2 hl))), ?_⟩
    simp [execClearEventRecords, stdCmd_any hm, hl]
  case labels =>
    refine ⟨fun ho hl => ?_, fun ho => congrArg _ ((stdCmd_ready hm hr).trans (if_neg (Nat.not_lt.2 ho)))⟩
    exact congrArg _ ((stdCmd_ready hm hr).trans (if_neg (by omega)))
  case poison =>
    exact congrArg _ ((stdCmd_ready hm hr).trans (if_neg (by omega)))

end Sys2Proof.Proofs
end

section
/-!
PROOFS. Homes on the Girth ring: requests, the answers of a round, and the back-invalidate snoops (O33).
-/
namespace Sys2Proof.Proofs
open Sys2Proof Sys2Proof.Machine Sys2Proof.Laws

/-! ### Requests (R235, R236, R239) -/

section
variable {s : State} {r : HomeReq}

/-- RD_X of a host-visible line: NACK REFUSED, counted and recorded, whatever the line's home is doing. -/
theorem homeRequest_refused (hk : r.kind = .rdX) (hv : hostVisible s r.line = true) : homeRequest s r =
    record (setF (bump (emit s (.ring .nackRefused r.requester r.line [])) Reg.GRT_STAT_NACK_REFUSED 1)
      Reg.GRT_EVENTS_RDX_REFUSED) Ev.RDX_REFUSED r.requester (le 6 r.line) :=
  if_pos ⟨hk, hv⟩

theorem homeRequest_taken (hr : r.kind = .rdX → hostVisible s r.line = false) (hb : busyFind s r.line = none)
    (hl : sliceBusy s (treeSlice r.line) < 64) : homeRequest s r = takeReq s r := by
  have hgranted : ¬(r.kind = .rdX ∧ hostVisible s r.line = true) := fun ⟨hk, hv⟩ => by simp [hr hk] at hv
  have hroom : ¬(64 ≤ sliceBusy s (treeSlice r.line) ∧ r.prio = false) := fun h => Nat.not_le.2 hl h.1
  simp [homeRequest, hgranted, hb, hroom]

/-- An ordinary RD_S of a busy line whose slice has no room in its queue: NACK RETRY. -/
theorem homeRequest_retry {t : HomeTxn} (hk : r.kind = .rdS) (hp : r.prio = false) (hb : busyFind s r.line = some t)
    (hq : sliceQueued s (treeSlice r.line) false = 256) :
    homeRequest s r = bump (emit s (.ring .nack r.requester r.line [])) Reg.GRT_STAT_NACK_RETRY 1 := by
  simp [homeRequest, hk, hp, hb, hq]

end

/-! ### The answers of a round (R243, R252, R254, R256) -/

section
variable {s : State} {a : Fin 5} {line msg : Nat} {t : HomeTxn}

/-- The first answer of a target is counted, with what it brings and what it notes, and the round is looked at again. -/
theorem homeAnswer_counted {a : Nat} {g : State → State} {f : HomeTxn → HomeTxn} (hb : busyFind s line = some t) (ha : a ∈ t.waiting) :
    homeAnswer s a line msg g f = roundCheck (busyPut (g s) (f { t with waiting := t.waiting.filter (· ≠ a) }))
      (f { t with waiting := t.waiting.filter (· ≠ a) }) := by
  simp only [homeAnswer, hb, if_pos ha]

theorem homeAnswer_idle {a : Nat} {g : State → State} {f : HomeTxn → HomeTxn} (hb : busyFind s line = none) :
    homeAnswer s a line msg g f = protocolError s 15 0 msg line := by
  simp only [homeAnswer, hb]

/-- WB_PENDING of a writeback that has not landed holds the round open for it (R243). -/
theorem execWbPending_open (hb : busyFind s line = some t) (ha : a.val ∈ t.waiting)
    (hl : (agentFind s a line).map AgentLine.landed = some false) : execWbPending a line s =
      .next (roundCheck (busyPut (bump s Reg.GRT_STAT_WBP_WB_PENDING 1)
        { t with waiting := t.waiting.filter (· ≠ a.val), wbp := t.wbp ++ [a.val] })
        { t with waiting := t.waiting.filter (· ≠ a.val), wbp := t.wbp ++ [a.val] }) := by
  have hb' : busyFind (bump s Reg.GRT_STAT_WBP_WB_PENDING 1) line = some t := hb
  simp [execWbPending, homeAnswer_counted hb' ha, hl]

/-- The guard of a target that owes an answer reports and isolates it, and the round goes on as if it had answered (R256). -/
theorem execSnoopGuardExpired_owing (hb : busyFind s line = some t) (ha : a.val ∈ t.waiting) : execSnoopGuardExpired a line s =
    .next (roundCheck (busyPut (isolateAgent (reportFault (setF s Reg.GRT_EVENTS_GUARD_EXPIRED)
      (if a.val = 0 ∨ a.val = 4 then .ring else .agent a) Ev.SNOOP_GUARD_EXPIRED.code a (if a.val = 0 ∨ a.val = 4 then 4 else 2) (le 6 line)) a)
      { t with waiting := t.waiting.filter (· ≠ a.val), wbp := t.wbp.filter (· ≠ a.val) })
      { t with waiting := t.waiting.filter (· ≠ a.val), wbp := t.wbp.filter (· ≠ a.val) }) := by
  simp only [execSnoopGuardExpired, hb, if_pos (Or.inl ha)]

/-- A writeback that no owner in MI_A and no round waits for is written through and acknowledged (R240). -/
theorem execWb_plain {d : Bytes} (ha : agentFind (emit (writeThrough s line d) (.ring .wbAck a line [])) a line = none)
    (hb : busyFind (emit (writeThrough s line d) (.ring .wbAck a line [])) line = none) :
    execWb a line d s = .next (emit (writeThrough s line d) (.ring .wbAck a line [])) := by
  simp only [execWb, ha, hb]

theorem execDone_granted (hb : busyFind s line = some t) (hg : t.granted = true) (hr : t.req.requester = a.val) :
    execDone a line s = .next (takeNext (busyDrop s line) line) := by
  simp only [execDone, hb, if_pos (And.intro hg hr)]

end

/-- Settles O33: a request by its line's home, an answer by the round that waits for it. A command whose line is not busy is an error of the
sender, and a guard then changes nothing, the model's choice (log entry 12). -/
theorem ringHomes : Obligations.RingHomes := by
  unfold Obligations.RingHomes
  refine ⟨fun a line p s hv => ?refused, fun a line p s hb hl => ⟨?readTaken, fun hv => ?writeTaken⟩, fun a line t s hb hq => ?retry,
    fun a line d t s hb ha => ?answers,
    fun a line s hb => ⟨?idleI, ?idleS, fun d => ?idleData, ?idleDone, ?idleGuard, fun d _ ha hb' => ?wb⟩,
    fun a line t s hb hg hr => ?done, fun n key t s hb hn => ?sharer, fun n key s hb => ?noSharer⟩
  case refused => exact congrArg _ (homeRequest_refused rfl hv)
  case readTaken => exact congrArg _ (homeRequest_taken (r := ⟨line, .rdS, a, p⟩) nofun hb hl)
  case writeTaken => exact congrArg _ (homeRequest_taken (fun _ => hv) hb hl)
  case retry => exact congrArg _ (homeRequest_retry rfl rfl hb hq)
  case answers =>
    intro u
    refine ⟨?ackI, ?ackS, ?ackData, fun hl => execWbPending_open hb ha hl, execSnoopGuardExpired_owing hb ha⟩
    all_goals exact congrArg _ (homeAnswer_counted hb ha)
  case idleI | idleS | idleData => exact congrArg _ (homeAnswer_idle hb)
  case idleDone => simp only [exec_done, execDone, hb]
  case idleGuard => simp only [exec_snoopGuardExpired, execSnoopGuardExpired, hb]
  case wb => exact execWb_plain ha hb'
  case done => exact execDone_granted hb hg hr
  case sharer =>
    refine ⟨?_, ?_, ?_⟩
    · simp only [exec_birspi, execBirspi, hb, if_pos hn]
    · simp only [exec_biconflict, execBiconflict, hb, if_pos hn]
    · simp only [exec_bisnpGuardExpired, execBisnpGuardExpired, hb, if_pos hn]
  case noSharer =>
    refine ⟨?_, ?_, ?_⟩
    · simp only [exec_birspi, execBirspi, hb]
    · simp only [exec_biconflict, execBiconflict, hb]
    · simp only [exec_bisnpGuardExpired, execBisnpGuardExpired, hb]

end Sys2Proof.Proofs
end

section
/-!
PROOFS. The frames of a twin whose link carries frames: mirroring, repair, journal, zones and barriers (O29).
-/
namespace Sys2Proof.Proofs
open Sys2Proof Sys2Proof.Machine Sys2Proof.Laws

section
variable {s : State}

/-! ### Which frames are taken (R171, R350) -/

theorem frame_carried {t u : State} (hc : linkCarries s = true) : (if !frameTaken s then t else u) = u :=
  if_neg (by simp [frameTaken, hc])

theorem frame_uncarried {t u : State} (hc : linkCarries s = false) : (if !frameTaken s then t else u) = t :=
  if_pos (by simp [frameTaken, hc])

/-! ### The mirror pool (R327, R328, R330, R331) -/

theorem chanSet_kept (ch : Nat) (c : Chan) : KeptBut [.dram] s (chanSet s ch c) := by
  intro p hp
  cases p <;> simp_all [Part.same, chanSet]

theorem panicUpdate_kept (ch : Nat) : KeptBut [.dram, .csr] s (panicUpdate s ch) := by
  have hset : ∀ c, KeptBut [.dram, .csr] s (chanSet s ch c) := fun c => kept_mono (chanSet_kept ch c) (by decide)
  simp only [panicUpdate]
  split
  · exact kept_trans (hset _) (kept_mono (kept_setF _ _) (by decide))
  · exact hset _

/-- The next frame in sequence, with nothing waiting and room in the pool, is stored and acknowledged (R327, R328). What
happens in between to the panic state of the frame's DRAM channel touches `dram` and `csr` only. -/
theorem mirrorIn_stored {f : MirFrame} {code : Nat} (hc : linkCarries s = true) (hseq : f.seq = s.twin.rxNext) (hw : s.twin.waiting = [])
    (hr : poolRoom s f = true) : ∃ u, mirrorIn s f code = sendMirrorAck u ∧
      u.twin = (poolStore s f).twin ∧ u.per = s.per ∧ u.pending = s.pending ∧ u.out = s.out := by
  have hnext : ¬f.seq ≠ s.twin.rxNext + s.twin.waiting.length := by simp [hseq, hw]
  have hkept : ∀ ch c ch', KeptBut [.dram, .csr] (poolStore s f) (panicUpdate (chanSet (poolStore s f) ch c) ch') := fun _ _ _ =>
    kept_trans (kept_mono (chanSet_kept _ _) (by decide)) (panicUpdate_kept _)
  refine ⟨_, (frame_carried hc).trans ((if_neg hnext).trans (if_pos ⟨hw, hr⟩)), ?_, ?_, ?_, ?_⟩
  · exact hkept _ _ _ .twin (by decide)
  · exact hkept _ _ _ .per (by decide)
  · exact hkept _ _ _ .pending (by decide)
  · exact hkept _ _ _ .out (by decide)

theorem mirrorIn_outOfSequence {f : MirFrame} {code : Nat} (hc : linkCarries s = true)
    (hseq : f.seq ≠ s.twin.rxNext + s.twin.waiting.length) : mirrorIn s f code = twinViolation s 1 code :=
  (frame_carried hc).trans (if_pos hseq)

/-- With no frame waiting for room, nothing is stored when granules leave the pool, and nothing is acknowledged (R331). -/
theorem execRelease_freed {chunk mask cut : Nat} (hc : linkCarries s = true) (hw : s.twin.waiting = []) (hcut : cut ≤ s.twin.rxNext) :
    execRelease chunk mask cut s = .next (twinSet s { s.twin with
      pool := s.twin.pool.filter (fun f => !(f.gran / 16 == chunk && bit mask (f.gran % 16) && decide (f.newest < cut))) }) := by
  simp only [execRelease, frame_carried hc, hw, List.length_nil, Nat.add_zero, if_neg (Nat.not_lt.2 hcut), twinSet, poolDrain, if_true]

theorem execRelease_beyond {chunk mask cut : Nat} (hc : linkCarries s = true) (hw : s.twin.waiting = []) (hcut : s.twin.rxNext < cut) :
    execRelease chunk mask cut s = .next (twinViolation s 3 0x13) := by
  simp only [execRelease, frame_carried hc, hw, List.length_nil, Nat.add_zero, if_pos hcut]

/-! ### Repair (R276, R332, R333) -/

theorem execRepairReq_outside {line tag : Nat} (hc : linkCarries s = true) (hl : 2 ^ 40 ≤ line) :
    execRepairReq line tag s = .next (twinViolation (twinSend s 0x21 tag 0 []) 4 0x20) := by
  simp only [execRepairReq, frame_carried hc, if_pos hl]

theorem execRepairReq_found {line tag : Nat} {l : PLine} (hc : linkCarries s = true) (hl : line < 2 ^ 40)
    (hp : (poolFind s (line / 64)).bind (fun p => amFind p.lines (line % 64)) = some l) :
    execRepairReq line tag s = .next (emit s (.repairRsp tag l)) := by
  simp only [execRepairReq, frame_carried hc, if_neg (Nat.not_le.2 hl), hp]

theorem execRepairReq_noCopy {line tag : Nat} (hc : linkCarries s = true) (hl : line < 2 ^ 40)
    (hp : (poolFind s (line / 64)).bind (fun p => amFind p.lines (line % 64)) = none) :
    execRepairReq line tag s = .next (twinSend s 0x21 tag 0 []) := by
  simp only [execRepairReq, frame_carried hc, if_neg (Nat.not_le.2 hl), hp]

/-- The answer with the whole line repairs the DRAM line that waits for it (R276). -/
theorem execRepairRsp_whole {tag ch : Nat} {r : Repair} {data : Bytes} (hc : linkCarries s = true) (hr : repairOf s tag = some (ch, r))
    (ht : r.tree = false) (hd : data.length = 64) : execRepairRsp tag (2 ^ 64 - 1) data s =
      .next (record (setF (bump (repairDone s r.line data) (Reg.DRC_CH_ECC_REPAIRED ch) 1) (Reg.DRC_CH_EVENTS_REPAIRED ch))
        Ev.DRAM_REPAIRED ch (le 6 r.line)) := by
  have hwhole : (data ++ List.replicate (64 - data.length) 0).take 64 = data := by simp [hd, List.take_of_length_le]
  simp only [execRepairRsp, frame_carried hc, hr, hwhole, ht, Bool.false_eq_true, if_false, if_true]

theorem execRemirror_current {line : Nat} {v : Bytes × Bool} (hc : linkCarries s = true) (hb : (baseOf s (line / 32768)).isSome = true)
    (hv : lineValue s line = some v) : execRemirror line s = .next (mirrorSend s line (plineOf v.1)) := by
  have hbase : ¬(baseOf s (line / 32768)).isNone = true := by simp [Option.isSome_iff_ne_none.1 hb]
  simp only [execRemirror, frame_carried hc, if_neg hbase, hv]

/-! ### Journal, zones, barriers (R171, R307, R346, R366) -/

/-- With no RELEASE waiting for the journal, JOURNAL_ACK only marks the updates (R366). -/
theorem execJournalAck_noReleases {seq : Nat} (hc : linkCarries s = true) (hr : s.awl.releases = []) :
    execJournalAck seq s = .next { s with awl := { s.awl with
      journal := s.awl.journal.map (fun e => if e.upd ≤ seq then { e with twinHas := true } else e), releases := [] } } := by
  simp only [execJournalAck, frame_carried hc, hr, List.filter_nil, List.foldl_nil]

theorem execZoneGrant_taken {n : Nat} {zones : List Nat} (hc : linkCarries s = true) (he : s.cin.epoch ≤ n)
    (hz : ∀ z ∈ zones, z ∈ s.cin.twinZones) : execZoneGrant zones n s = .next (emit { s with cin := { s.cin with
      inEpoch := n, incoming := s.cin.incoming ++ zones, zonePending := false, twinZones := s.cin.twinZones.filter (· ∉ zones) } }
      (.zoneAck zones)) := by
  have hown : ¬(n < s.cin.epoch ∨ zones.any (fun z => z ∉ s.cin.twinZones) = true) := by simpa [he] using hz
  simp only [execZoneGrant, frame_carried hc, if_neg hown]

theorem execZoneGrant_oldEpoch {n : Nat} {zones : List Nat} (hc : linkCarries s = true) (he : n < s.cin.epoch) :
    execZoneGrant zones n s = .next (twinViolation s 5 0x41) := by
  simp only [execZoneGrant, frame_carried hc, if_pos (Or.inl he)]

theorem execZoneAck_granted {zones : List Nat} (hc : linkCarries s = true) (hne : zones ≠ []) (hz : zones = s.cin.outgoing) :
    execZoneAck zones s = .next (record { s with cin := { s.cin with
      epoch := (s.cin.epoch + 1) % 2 ^ 32, outgoing := [], twinZones := s.cin.twinZones ++ zones } } Ev.ZONE_HANDOVER 0xFF
      (le 4 zones.length)) :=
  congrArg _ (if_pos ⟨hc, hz ▸ hne, hz⟩)

theorem execBarrierReq_begun {tag x : Nat} (hc : linkCarries s = true) (hp : s.cin.phase ≠ .commit) :
    execBarrierReq tag x s = .next (startBarrier s (.twinReq tag) 0x3F 2 x) := by
  simp only [execBarrierReq, frame_carried hc, if_neg hp]

theorem execBarrierReq_inCommit {tag x : Nat} (hc : linkCarries s = true) (hp : s.cin.phase = .commit) :
    execBarrierReq tag x s = .next (twinSend s 0x51 tag 0x70 []) := by
  simp only [execBarrierReq, frame_carried hc, if_pos hp]
  rfl

/-- A violation that is no sequence gap is kept, and nothing is sent again (R350). -/
theorem execViolation_kept {c k : Nat} (hd : s.twin.link ≠ .down) (ht : s.twin.link ≠ .training) (hcause : c ≠ 1) :
    execViolation c k s = .next (twinSet s { s.twin with rxViolation := s.twin.rxViolation ++ [(c, k)] }) := by
  simp [execViolation, hd, ht, hcause]

end

/-- Settles O29: each clause is the case of its frame that its hypotheses select. While the link carries no frames the frames change nothing,
the model's choice (log entry 12). -/
theorem twinFrames : Obligations.TwinFrames := by
  unfold Obligations.TwinFrames
  refine ⟨fun seq line mask data s hc => ?mirror, fun n s hc => ?mirrorAck,
    fun chunk mask cut s hc hw => ⟨execRelease_freed hc hw, execRelease_beyond hc hw⟩,
    fun line tag s hc => ⟨execRepairReq_outside hc, fun l => execRepairReq_found hc, execRepairReq_noCopy hc⟩,
    fun tag ch r data s => execRepairRsp_whole, fun line v s => execRemirror_current, fun seq e s hc => ⟨?journal, execJournalAck_noReleases hc⟩,
    fun n zones s hc => ⟨?zoneReq, execZoneGrant_taken hc, execZoneGrant_oldEpoch hc, execZoneAck_granted hc⟩,
    fun tag x s hc => ⟨execBarrierReq_begun hc, execBarrierReq_inCommit hc, ?barrierDone⟩, fun c k s => execViolation_kept,
    fun a b c d zs s hc => ?uncarried⟩
  case mirror =>
    refine ⟨fun hseq hw hr => ?masked, fun hseq hw hr => ?whole, fun hseq => ?outOfSequence⟩
    case masked | whole =>
      obtain ⟨u, heq, hparts⟩ := mirrorIn_stored hc hseq hw hr
      exact ⟨u, congrArg _ heq, hparts⟩
    case outOfSequence =>
      exact ⟨congrArg _ (mirrorIn_outOfSequence hc hseq), congrArg _ (mirrorIn_outOfSequence hc hseq)⟩
  case mirrorAck | zoneReq => exact congrArg _ (if_pos hc)
  case journal | barrierDone => exact congrArg _ (frame_carried hc)
  case uncarried =>
    have hnot : ¬frameTaken s = true := by simp [frameTaken, hc]
    refine ⟨?_, ?_, congrArg _ (if_neg hnot), ?_, ?_, ?_, ?_⟩
    all_goals exact congrArg _ (frame_uncarried hc)

end Sys2Proof.Proofs
end

section
/-!
PROOFS. The DRAM controller's commands and the hold-up readings (O35).
-/
namespace Sys2Proof.Proofs
open Sys2Proof Sys2Proof.Machine Sys2Proof.Laws

/-! ### The choice of a subchannel (R272) -/

section
variable {s : State} {ch : Fin 16} {b : Bool}

@[simp] theorem pickCand_nil (s : State) (u : SubChan) (hits : Bool) : pickCand s u hits [] = none := by
  simp [pickCand]

/-- A lone candidate is chosen, row hit or not. -/
@[simp] theorem pickCand_singleton (s : State) (u : SubChan) (hits : Bool) (x : Cand) : pickCand s u hits [x] = some x := by
  by_cases h : amFind u.open_ (mapBank s (mapLocal s x.line)) = some (mapRow s (mapLocal s x.line)) <;> simp [pickCand, h]

theorem readBlocked_noWrites {u : SubChan} {c : Chan} (r : DRead) (hw : u.writes = []) (hm : c.mirrorQ = []) (hd : c.drainQ = []) :
    readBlocked u c r = false := by
  simp [readBlocked, hw, hm, hd]

theorem chooseCand_refresh {c : Chan} (h : 5 ≤ (c.sub b).refDue) : chooseCand s c b = some .refresh := if_pos h

/-- The only thing queued is a read of urgency 0: no rank before the aged ones has a candidate, and in the aged or in the last rank it is
the only one. -/
theorem chooseCand_loneRead {c : Chan} {r : DRead} (hdue : (c.sub b).refDue < 5) (hw : (c.sub b).writes = []) (hm : c.mirrorQ = [])
    (hd : c.drainQ = []) (hr : (c.sub b).reads = [r]) (hi : r.issued = none) (hu : urgency s r = 0) :
    chooseCand s c b = some (.read r) := by
  have hfree : readBlocked (c.sub b) c r = false := readBlocked_noWrites r hw hm hd
  by_cases haged : r.arrived + usec 10 < s.time <;>
    simp [chooseCand, Nat.not_le.2 hdue, hw, hm, hd, hr, hi, hu, hfree, Cand.at_, haged]

theorem execDramArbitrate_issues {x : Cand} (hrun : (chanOf s ch).st = .running) (hx : chooseCand s (chanOf s ch) b = some x) :
    execDramArbitrate ch b s = .next (issueCand s ch b x) := by
  simp only [execDramArbitrate, if_pos hrun, hx]

theorem execDramArbitrate_notRunning (h : (chanOf s ch).st ≠ .running) : execDramArbitrate ch b s = .next s := congrArg _ (if_neg h)

/-- A lone read below urgency 3 takes the data DRAM holds and leaves its row open (R266, R272). -/
theorem issueCand_loneRead {r : DRead} (hr : ((chanOf s ch).sub b).reads = [r]) (hu : urgency s r ≠ 3) :
    issueCand s ch b (.read r) = chanSet s ch ((chanOf s ch).subSet b (openRow s { (chanOf s ch).sub b with
      reads := [{ r with issued := some (dramArray s r.line, decide (r.line ∈ s.dram.poison)) }] } r.line)) := by
  simp [issueCand, hr, hu]

end

/-! ### Writes accepted and reads returned (R214, R265, R273 to R279) -/

section
variable {s : State} {ch : Fin 16} {b : Bool} {line : Nat} {e : WbbEntry}

theorem execDramWriteEnqueue_accepted (hw : wbbFind s line = some e) (hf : e.fetch = false) (hq : wrqFull s line = false) :
    execDramWriteEnqueue line s =
      let t := wrqPut { s with tree := { s.tree with wbb := s.tree.wbb.filter (fun x => x.line ≠ line) } } line (plineBytes e.data) e.poison
      .next (admitUpdate (if (homeOfDram s line).isSome then markDirty t line e.lo else t)) := by
  simp [execDramWriteEnqueue, hw, hf, hq]

theorem execDramWriteEnqueue_held (hw : wbbFind s line = some e) (h : e.fetch = true ∨ wrqFull s line = true) :
    execDramWriteEnqueue line s = .next s := by
  simp only [execDramWriteEnqueue, hw, if_pos h]

/-- The state with an issued read gone from its queue and counted. -/
def readTaken (s : State) (ch : Fin 16) (b : Bool) (r : DRead) : State :=
  bump64 (chanSet s ch ((chanOf s ch).subSet b { (chanOf s ch).sub b with reads := ((chanOf s ch).sub b).reads.erase r }))
    (Reg.DRC_CH_STAT_RD_LO_RD_LO ch) (Reg.DRC_CH_STAT_RD_HI_RD_HI ch) 1

/-- What the decoder's finding on the oldest issued read makes of the state it left (R273 to R279). -/
theorem execDramReadReturn_found {r : DRead} {d : Bytes} {p : Bool} (res : EccResult) (pool map : Option Nat)
    (hr : ((chanOf s ch).sub b).reads.find? (fun r => r.issued.isSome) = some r) (hi : r.issued = some (d, p)) :
    execDramReadReturn ch b res pool map s = .next (match res with
      | .good => deliver (readTaken s ch b r) r d p
      | .corrected dev rank => correctLine (deliver (readTaken s ch b r) r d p) ch r.line dev rank d
      | .uncorrectable =>
        if r.purpose = .verify then retireFrame (errAddr (readTaken s ch b r) ch r.line 0x1F 0 true) ch r.line
        else resolveLine (errAddr (readTaken s ch b r) ch r.line 0x1F 0 true) ch r.line pool map) := by
  cases res <;> simp only [execDramReadReturn, hr, hi, Option.getD_some, readTaken]

end

/-! ### SMBus reads that end in one reading or in two failures (R498) -/

theorem smbRead_value {s : State} {p : Partner} {top v : Nat} (x : SmbAnswer) (hc : contained s p = false) (hv : v ≤ top) :
    smbRead s p top (.value v) x = (some v, s) := by
  simp [smbRead, hc, Nat.not_lt.2 hv]

theorem smbRead_nackTwice {s : State} {p : Partner} {top : Nat} (hc : contained s p = false)
    (hc2 : contained (smbViolation s p 2) p = false) :
    smbRead s p top .nack .nack = (none, smbViolation (smbViolation s p 2) p 2) := by
  simp [smbRead, hc, hc2]

/-! ### DIMM temperatures (R282) -/

section
variable {s : State} {ch : Fin 16} {dimm : Fin 2} {t : Nat}

/-- What a temperature read of a DIMM makes of the state, by the thresholds of R282. -/
def dimmTempTaken (s : State) (ch : Fin 16) (dimm : Fin 2) (t : Nat) : State :=
  if 95 < t then fault (dimmHot s ch (chanOf s ch).hot dimm) (.channel ch) ⟨Ev.DIMM_TEMP_HIGH.code, 2⟩ ch (le 1 t)
  else if 85 < t then
    if (chanOf s ch).hot.contains dimm.val then s
    else record (dimmHot s ch (chanOf s ch).hot dimm) Ev.DIMM_TEMP_HIGH ch (le 1 t)
  else if t < 80 then chanSet s ch { chanOf s ch with hot := (chanOf s ch).hot.filter (fun d => d ≠ dimm.val) }
  else s

theorem execDimmTempPoll_value (x : SmbAnswer) (hc : contained s (.smb1 (2 * ch.val + dimm.val)) = false) (ht : t ≤ 255) :
    execDimmTempPoll ch dimm (.value t) x s = .next (dimmTempTaken s ch dimm t) := by
  simp [execDimmTempPoll, smbRead_value x hc ht, hc, dimmTempTaken]

theorem dimmTempTaken_above95 (h : 95 < t) : dimmTempTaken s ch dimm t =
    fault (dimmHot s ch (chanOf s ch).hot dimm) (.channel ch) ⟨Ev.DIMM_TEMP_HIGH.code, 2⟩ ch (le 1 t) := if_pos h

theorem dimmTempTaken_newlyHot (h : 85 < t) (h95 : t ≤ 95) (hnew : dimm.val ∉ (chanOf s ch).hot) :
    dimmTempTaken s ch dimm t = record (dimmHot s ch (chanOf s ch).hot dimm) Ev.DIMM_TEMP_HIGH ch (le 1 t) := by
  simp [dimmTempTaken, Nat.not_lt.2 h95, h, hnew]

theorem dimmTempTaken_between (h : 80 ≤ t) (h85 : t ≤ 85) : dimmTempTaken s ch dimm t = s := by
  have h95 : ¬95 < t := by omega
  simp [dimmTempTaken, h95, Nat.not_lt.2 h85, Nat.not_lt.2 h]

theorem dimmTempTaken_cool (h : t < 80) : dimmTempTaken s ch dimm t =
    chanSet s ch { chanOf s ch with hot := (chanOf s ch).hot.filter (fun d => d ≠ dimm.val) } := by
  have h95 : ¬95 < t := by omega
  have h85 : ¬85 < t := by omega
  simp only [dimmTempTaken, if_neg h95, if_neg h85, if_pos h]

end

/-! ### Refresh and retraining (R281, R284, R286) -/

section
variable {s : State} {ch : Fin 16}

theorem execDramRefreshDue_scheduled {b : Bool} (h : (chanOf s ch).st = .running ∨ (chanOf s ch).st = .retraining) :
    execDramRefreshDue ch b s = .next (chanSet s ch ((chanOf s ch).subSet b
      { (chanOf s ch).sub b with refDue := min 5 (((chanOf s ch).sub b).refDue + 1) })) := congrArg _ (if_pos h)

/-- The state with a retraining channel running again and its retraining counted. -/
def retrained (s : State) (ch : Fin 16) : State :=
  bump (chanSet s ch { chanOf s ch with st := .running }) (Reg.DRC_CH_RETRAIN_DONE ch) 1

/-- The failures in a row of a channel's retraining, one more included. -/
def retrainFails (s : State) (ch : Fin 16) : Nat := satTo 7 (rd s (Reg.DRC_CH_RETRAIN_FAIL_RUN ch) + 1)

/-- The state with a failed retraining in the channel's registers. -/
def retrainFailed (s : State) (ch : Fin 16) : State :=
  setF (wr (wr (retrained s ch) (Reg.DRC_CH_RETRAIN_LAST ch) 2) (Reg.DRC_CH_RETRAIN_FAIL_RUN ch) (retrainFails s ch))
    (Reg.DRC_CH_EVENTS_RETRAIN_FAIL ch)

theorem execDramRetrainDone_passed (h : (chanOf s ch).st = .retraining) : execDramRetrainDone ch true s =
    .next (wr (wr (retrained s ch) (Reg.DRC_CH_RETRAIN_LAST ch) 1) (Reg.DRC_CH_RETRAIN_FAIL_RUN ch) 0) :=
  congrArg _ (if_neg (not_not_intro h))

/-- The fourth failure in a row is a fault of S2 and asserts the alert; every other is one of S1 (R286). -/
theorem execDramRetrainDone_failed (h : (chanOf s ch).st = .retraining) : execDramRetrainDone ch false s =
    .next (if retrainFails s ch = 4
      then alert (reportFault (retrainFailed s ch) (.channel ch) Ev.DRAM_RETRAIN_FAIL.code ch 2 []) Ev.DRAM_RETRAIN_FAIL.code
      else reportFault (retrainFailed s ch) (.channel ch) Ev.DRAM_RETRAIN_FAIL.code ch 1 []) :=
  congrArg _ (if_neg (not_not_intro h))

end

/-! ### Hold-up readings (R297) -/

section
variable {s : State}

theorem execHoldupSmbusPoll_value {v : Nat} (x : SmbAnswer) (hc : contained s .smb0 = false) (hv : v ≤ 60000) :
    execHoldupSmbusPoll (.value v) x s =
      .next (holdupCheck { s with cin := { s.cin with reported := v, smbOk := true, smbFailed := none } }) := by
  have hfits : v % 65536 = v := Nat.mod_eq_of_lt (by omega)
  simp only [execHoldupSmbusPoll, smbRead_value x hc hv, hfits]

theorem execHoldupSmbusPoll_nackTwice (hc : contained s .smb0 = false) (hc2 : contained (smbViolation s .smb0 2) .smb0 = false) :
    execHoldupSmbusPoll .nack .nack s =
      let t := smbViolation (smbViolation s .smb0 2) .smb0 2
      .next (holdupCheck { t with cin := { t.cin with
        smbFailed := some (t.cin.smbFailed.getD t.time),
        smbOk := t.cin.smbOk && decide (t.time < t.cin.smbFailed.getD t.time + secs 1) } }) := by
  simp only [execHoldupSmbusPoll, smbRead_nackTwice hc hc2]

end

/-- Settles O35: the command a subchannel chooses is the only one its queues allow; every other clause is the case of its command that its
hypotheses select. -/
theorem dramCommands : Obligations.DramCommands := by
  unfold Obligations.DramCommands
  refine ⟨fun ch b s c hc hrun => ?arbitrate, fun ch b s => execDramArbitrate_notRunning,
    fun line s e hw => ⟨execDramWriteEnqueue_accepted hw, execDramWriteEnqueue_held hw⟩, fun ch b pool map s r d p hr hi => ?readReturn,
    fun ch b s c hc hst => ?refreshDue, fun ch dimm t x s hc => ?temperature, fun ch s hst => ?retrain,
    fun v x s => execHoldupSmbusPoll_value x, fun s => execHoldupSmbusPoll_nackTwice, fun uv s => rfl⟩
  case arbitrate =>
    subst hc
    refine ⟨fun hdue => execDramArbitrate_issues hrun (chooseCand_refresh hdue), fun r hdue _ _ hw hm hd hr hi hu => ?_⟩
    exact (execDramArbitrate_issues hrun (chooseCand_loneRead hdue hw hm hd hr hi hu)).trans
      (congrArg _ (issueCand_loneRead hr (by omega)))
  case readReturn =>
    have hfound := fun res => execDramReadReturn_found res pool map hr hi
    exact ⟨hfound .good, fun dev rank => hfound (.corrected dev rank), hfound .uncorrectable⟩
  case refreshDue =>
    subst hc
    exact execDramRefreshDue_scheduled hst
  case temperature =>
    have hpoll := fun ht : t ≤ 255 => execDimmTempPoll_value x hc ht
    exact ⟨fun h ht => (hpoll ht).trans (congrArg _ (dimmTempTaken_above95 h)),
      fun h ht hnew => (hpoll (by omega)).trans (congrArg _ (dimmTempTaken_newlyHot h ht hnew)),
      fun h ht => (hpoll (by omega)).trans (congrArg _ (dimmTempTaken_between h ht)),
      fun h => (hpoll (by omega)).trans (congrArg _ (dimmTempTaken_cool h))⟩
  case retrain =>
    have hfail := execDramRetrainDone_failed hst
    exact ⟨execDramRetrainDone_passed hst, fun hn => hfail.trans (congrArg _ (if_neg hn)), fun hn => hfail.trans (congrArg _ (if_pos hn))⟩

end Sys2Proof.Proofs
end

section
/-!
PROOFS. Objects created, streams, segment loads and evictions, frame moves and the map checkpoint (O38).
-/
namespace Sys2Proof.Proofs
open Sys2Proof Sys2Proof.Machine Sys2Proof.Laws

/-! ### Objects and streams opened (R395, R400, R412, R414) -/

section
variable {s : State} {n : Fin 64}

/-- A PINNED_T1 object needs quota and frames in T1 too; any other policy needs room in T3 only (R395, R400, R401). -/
theorem execObjectCreate_created {off size cls pol fl base first id : Nat} (hv : vendorServed s n) (ho : off % 0x200000 = 0)
    (hs : size % 0x200000 = 0) (hk : size / 0x200000 ≠ 0) (hp : policyOk s cls pol fl = true)
    (hc : carveRange s n (off / 0x200000) (size / 0x200000) = some (base, first)) (hi : freeObjId s = some id)
    (h3 : fitsQuota (quota s (rd s (Reg.HPT_LD_CFG_TENANT n)) 3)
      (tenantT3 s (rd s (Reg.HPT_LD_CFG_TENANT n)) + size / 0x200000) = true)
    (hroom : t3Fits s (size / 0x200000) = true)
    (h1 : pol ≠ 0 ∨ fitsQuota (quota s (rd s (Reg.HPT_LD_CFG_TENANT n)) 1)
      (tenantT1 s (rd s (Reg.HPT_LD_CFG_TENANT n)) + size / 0x200000) = true ∧ size / 0x200000 ≤ (freeFrames s).length) :
    execObjectCreate n off size cls pol fl s = .next (vendorReply (zeroSegs { s with tier := { s.tier with
      objs := s.tier.objs ++ [{ id := id, first := first, size := size / 0x200000, base := base, volatileClass := cls == 1,
                                policy := pol, replica := fl == 1 }] } } first (size / 0x200000) id) n .ok (le 4 id)) := by
  have hgood : ¬(off % 0x200000 ≠ 0 ∨ size % 0x200000 ≠ 0 ∨ size / 0x200000 = 0 ∨ !policyOk s cls pol fl) := by
    simp [ho, hs, hk, hp]
  have hfits : (pol != 0 || (fitsQuota (quota s (rd s (Reg.HPT_LD_CFG_TENANT n)) 1)
      (tenantT1 s (rd s (Reg.HPT_LD_CFG_TENANT n)) + size / 0x200000) && decide (size / 0x200000 ≤ (freeFrames s).length))) = true := by
    simpa using h1
  simp only [execObjectCreate, vendorCmd_served hv, if_neg hgood, hc, hi, h3, hroom, hfits, Bool.and_self, Bool.not_true, Bool.false_eq_true,
    if_false]

theorem execStreamOpen_opened {obj desc start win mode fl dl page dev : Nat} {far : List (Nat × Bytes)} {r : Nat × Nat}
    {layers : List (Nat × Nat)} (h : objectServed s n obj r) (hd : desc % 64 = 0) (hin : desc + 16 ≤ ldSegs s n * 0x200000)
    (hl : readDescriptor s n desc (r.2 * 0x200000) far = some layers)
    (hgood : ¬(win = 0 ∨ 64 < win ∨ layers.length < win ∨ layers.length ≤ start ∨ 1 < mode ∨ 1 < fl ∨ 64 < dl))
    (hpage : lowestFree ((s.tier.streams.filter (fun t => t.ld = n.val)).map Stream.page) 64 = some page)
    (hdev : lowestFree (s.tier.streams.map Stream.dev) 1024 = some dev)
    (hq : fitsQuota (quota s (rd s (Reg.HPT_LD_CFG_TENANT n)) 1)
      (tenantT1 s (rd s (Reg.HPT_LD_CFG_TENANT n)) + windowReserve layers win) = true) :
    let t : Stream := { id := s.tier.nextStream % 65536, ld := n, page := page, dev := dev, obj := obj, layers := layers, window := win,
                        lastTouch := mode == 1, loop := fl == 1,
                        deadline := msec (if dl = 0 then rd s Reg.TIR_CTRL_DEADLINE else dl), oldest := start, fetched := start + win - 1 }
    execStreamOpen n obj desc start win mode fl dl far s = .next (vendorReply ((windowLayers t).foldl
      (fun x k => fetchLayer x t k (if k = start then 1 else 3))
      { s with tier := { s.tier with streams := s.tier.streams ++ [t], nextStream := s.tier.nextStream + 1 } })
      n .ok (le 1 page ++ le 2 t.id ++ le 2 dev)) := by
  simp only [execStreamOpen, vendorCmd_object h, if_pos (And.intro hd hin), hl, if_neg hgood, hpage, hdev, hq, Bool.not_true,
    Bool.false_eq_true, if_false]

end

/-! ### Layers completed and held reads that time out (R405, R413 to R415) -/

section
variable {s : State} {n slot : Fin 64} {w : Nat} {t : Stream}

theorem execLayerDone_inWindow (ht : s.tier.streams.find? (fun t => t.ld = n.val ∧ t.page = slot.val) = some t) (hw : w < 65536)
    (hin : w ∈ windowLayers t) : execLayerDone n slot w s = .next (if t.lastTouch then s else completeLayers s t w) := by
  have hgood : ¬(65536 ≤ w ∨ !(windowLayers t).contains w) := by simp [hw, hin]
  simp only [execLayerDone, ht, if_neg hgood]

theorem execLayerDone_violation (ht : s.tier.streams.find? (fun t => t.ld = n.val ∧ t.page = slot.val) = some t)
    (h : 65536 ≤ w ∨ w ∉ windowLayers t) : execLayerDone n slot w s = .next (hostViolation s (ldPort s n) (some n) 3) := by
  have hbad : 65536 ≤ w ∨ !(windowLayers t).contains w := by simpa using h
  simp only [execLayerDone, ht, if_pos hbad]

end

/-! ### Segment loads, evictions and frame moves (R279, R386, R402 to R404) -/

section
variable {s : State} {hs : Nat}

/-- A load below demand priority, outside a power event, with no write in its frame and no lease slot to give back: the other loads
differ in the latency counters, in the frame's contents or in the lender's slot (R403, R404, R408). -/
theorem execSegmentLoadDone_loaded (lines : List (Nat × Bytes)) (hst : (segOf s hs).st = .loading) (hl : (segOf s hs).toT2 = none)
    (hw : (segOf s hs).wrote = false) (hr : 3 ≤ (segOf s hs).rank) (hp : s.cin.phase = .normal) :
    execSegmentLoadDone hs lines s = .next (admitUpdate (skiveWriteAll (releaseReads (warmLoaded (mergeReplay (bump64
      (segSet (lines.foldl (fun t l => frameLine t (segOf s hs).frame (l.1 % 32768) l.2) (frameClear s (segOf s hs).frame)) hs
        { segOf s hs with st := .t1, access := s.lck.count / 64, toT2 := none, wrote := false, lender := 0 })
      Reg.TIR_STAT_LOAD_LO_LOAD_LO Reg.TIR_STAT_LOAD_HI_LOAD_HI 1) hs) hs) hs))) := by
  have hgoes : ¬((segOf s hs).st ≠ .loading ∨ (s.cin.phase = .commit ∧ weltHolds s hs = false) ∨
      (s.cin.phase = .warn ∧ 3 ≤ (segOf s hs).rank)) := by simp [hst, hp]
  have hrank : ¬(segOf s hs).rank ≤ 2 := by omega
  simp only [execSegmentLoadDone, if_neg hgoes, hl, hw, if_neg hrank, Bool.false_eq_true, if_false]

theorem execSegmentLoadDone_notLoading (lines : List (Nat × Bytes)) (hst : (segOf s hs).st ≠ .loading) :
    execSegmentLoadDone hs lines s = .next s := congrArg _ (if_pos (.inl hst))

theorem execSegmentEvict_enoughFree (h : freeTarget s ≤ (freeFrames s).length) : execSegmentEvict s = .next s :=
  congrArg _ (if_pos (.inl h))

/-- Below FREE_TARGET, outside a power event and with the tier map ENABLED, a demotion goes ahead (R402). -/
theorem not_evictionRefused (hf : (freeFrames s).length < freeTarget s) (hp : s.cin.phase = .normal) (ho : fnOpen s .tir = true) :
    ¬(freeTarget s ≤ (freeFrames s).length ∨ s.cin.phase ≠ .normal ∨ !fnOpen s .tir) := by
  simp [Nat.not_le.2 hf, hp, ho]

theorem execSegmentEvict_dirtyVictim (hf : (freeFrames s).length < freeTarget s) (hp : s.cin.phase = .normal) (ho : fnOpen s .tir = true)
    (hv : segVictim s = some hs) (hd : frameClean s (segOf s hs).frame = false) :
    execSegmentEvict s = .next (segSet s hs { segOf s hs with leaving := true }) := by
  simp only [execSegmentEvict, if_neg (not_evictionRefused hf hp ho), hv, hd, Bool.not_false, if_true]

theorem execSegmentEvict_cleanVictim (hf : (freeFrames s).length < freeTarget s) (hp : s.cin.phase = .normal) (ho : fnOpen s .tir = true)
    (hv : segVictim s = some hs) (hc : frameClean s (segOf s hs).frame = true) (hl : leaseSlot s (segOf s hs).obj = none) :
    execSegmentEvict s = .next (frameFlush
      (segSet s hs { segOf s hs with st := .evicting, wrote := false, leaving := false, toT2 := none }) (segOf s hs).frame) := by
  simp only [execSegmentEvict, if_neg (not_evictionRefused hf hp ho), hv, hc, hl, Bool.not_true, Bool.false_eq_true, if_false]

theorem execSegmentEvictDone_waits (h : evictReady s hs (segOf s hs).frame = false) : execSegmentEvictDone hs s = .next s :=
  congrArg _ (if_pos (.inr (by simp [h])))

/-- An eviction to the drives, with nothing left in the buffers, frees its frame (R386, R404). -/
theorem execSegmentEvictDone_toT3 (hst : (segOf s hs).st = .evicting) (h : evictReady s hs (segOf s hs).frame = true)
    (hl : (segOf s hs).toT2 = none) : execSegmentEvictDone hs s =
      .next (retryLoads (bump64 (frameClear (segSet s hs { segOf s hs with
        st := if (segOf s hs).chunks = [] ∧ (segOf s hs).poison = [] then .zero else .t3, frame := 0, toT2 := none }) (segOf s hs).frame)
        Reg.TIR_STAT_EVICT_LO_EVICT_LO Reg.TIR_STAT_EVICT_HI_EVICT_HI 1)) := by
  have hgoes : ¬((segOf s hs).st ≠ .evicting ∨ !evictReady s hs (segOf s hs).frame) := by simp [hst, h]
  simp only [execSegmentEvictDone, if_neg hgoes, hl, Option.isSome_none, Bool.false_eq_true, false_and, if_false]

theorem execFrameMoveDone_moved (hst : (segOf s hs).st = .moving) : execFrameMoveDone hs s =
    .next (releaseReads (segSet (frameMoved s (segOf s hs).frame (segOf s hs).toFrame) hs { segOf s hs with
      st := .t1, frame := (segOf s hs).toFrame, toFrame := 0 }) hs) := congrArg _ (if_neg (not_not_intro hst))

theorem execFrameMoveDone_notMoving (hst : (segOf s hs).st ≠ .moving) : execFrameMoveDone hs s = .next s := congrArg _ (if_pos hst)

end

/-! ### The map checkpoint (R367, R418) -/

section
variable {s : State}

@[simp] theorem journalPut_tier (s : State) (e : JournalEntry) : (journalPut s e).tier = s.tier := by
  by_cases h : journalSync s <;> simp [journalPut, h]

@[simp] theorem foldl_journalPut_tier {α : Type} (g : α → JournalEntry) (l : List α) (s : State) :
    (l.foldl (fun t a => journalPut t (g a)) s).tier = s.tier := foldl_kept State.tier _ (fun t a => journalPut_tier t (g a)) l s

@[simp] theorem foldl_emit_tier {α : Type} (g : α → Output) (l : List α) (s : State) :
    (l.foldl (fun t a => emit t (g a)) s).tier = s.tier := foldl_kept State.tier _ (fun t a => emit_tier t (g a)) l s

/-- A checkpoint changes the journal after it has numbered itself, and no change of an entry reaches the tier map. -/
theorem execTierCheckpoint_taken (hr : s.twin.role ≠ .fenced) (hb : 11 ≤ s.boot.stage) : ∃ t, execTierCheckpoint s = .next t ∧
    t.awl.full = decide (6144 ≤ t.awl.journal.length) ∧ t.tier.ckptSeq = s.tier.ckptSeq + 1 ∧ t.tier.ckptAt = s.lck.count := by
  have hgoes : ¬(s.twin.role = .fenced ∨ s.boot.stage < 11) := by simp [hr, hb]
  simp only [execTierCheckpoint, if_neg hgoes]
  refine ⟨_, rfl, rfl, ?_, ?_⟩
  all_goals simp only [foldl_journalPut_tier, foldl_emit_tier]

theorem execTierCheckpoint_notTaken (h : s.twin.role = .fenced ∨ s.boot.stage < 11) : execTierCheckpoint s = .next s :=
  congrArg _ (if_pos h)

end

/-- Settles O38: every clause is the case of its command that its hypotheses select. -/
theorem objectsStreamsTiers : Obligations.ObjectsStreamsTiers := by
  unfold Obligations.ObjectsStreamsTiers
  refine ⟨fun n off size cls pol fl base first id s => execObjectCreate_created,
    fun n obj desc start win mode fl dl page dev far r layers s h hd hin hl hw0 hw64 hwl hst hm hf hdl hpage hdev hq => ?streamOpen,
    fun n slot w t s ht => ⟨execLayerDone_inWindow ht, execLayerDone_violation ht⟩, fun line s => ?heldReads,
    fun hs lines s => execSegmentLoadDone_loaded lines, fun hs lines s => execSegmentLoadDone_notLoading lines,
    fun s => execSegmentEvict_enoughFree,
    fun hs s hf hp ho hv => ⟨execSegmentEvict_dirtyVictim hf hp ho hv, execSegmentEvict_cleanVictim hf hp ho hv⟩,
    fun hs s hst => ⟨execSegmentEvictDone_waits, execSegmentEvictDone_toT3 hst⟩,
    fun hs s => ⟨execFrameMoveDone_moved, execFrameMoveDone_notMoving⟩,
    fun s => ⟨execTierCheckpoint_taken, execTierCheckpoint_notTaken⟩⟩
  case streamOpen => exact execStreamOpen_opened h hd hin hl (by omega) hpage hdev hq
  case heldReads =>
    have hnone {b : Bool} (h : b = false) : ¬b = true := by simp [h]
    exact ⟨fun h => congrArg _ (if_pos h), fun h => congrArg _ (if_neg (hnone h)), fun h => congrArg _ (if_pos h),
      fun h => congrArg _ (if_neg (hnone h))⟩

end Sys2Proof.Proofs
end

section
/-!
PROOFS. The operations that leave READY, the step of bring-up, PORST_N and the warm reset as they are.
-/
namespace Sys2Proof.Proofs
open Sys2Proof Sys2Proof.Machine Sys2Proof.Laws

/-- Of bring-up what `ReadyInv` speaks of: READY, the step, PORST_N and the warm reset. -/
def bootFace (b : Boot) : Bool × Nat × Bool × WarmPhase := (b.ready, b.stage, b.porst, b.warm)

@[simp] theorem bootFace_ite (c : Prop) [Decidable c] (s t : State) :
    bootFace (if c then s else t).boot = if c then bootFace s.boot else bootFace t.boot := apply_ite (fun s : State => bootFace s.boot) ..

@[simp] theorem foldl_bootFace {α : Type} (f : State → α → State) (l : List α) (s : State)
    (h : ∀ s a, bootFace (f s a).boot = bootFace s.boot) : bootFace (l.foldl f s).boot = bootFace s.boot :=
  foldl_kept (fun s => bootFace s.boot) f h l s

/-! ### Machine/Ops -/

@[simp] theorem countViolation_bootFace (s : State) (p : Partner) (limit : Nat) :
    bootFace (countViolation s p limit).boot = bootFace s.boot := by simp [countViolation]

@[simp] theorem smbViolation_bootFace (s : State) (p : Partner) (cause : Nat) :
    bootFace (smbViolation s p cause).boot = bootFace s.boot := by simp [smbViolation]

@[simp] theorem smbRead_bootFace (s : State) (p : Partner) (top : Nat) (first retry : SmbAnswer) :
    bootFace (smbRead s p top first retry).2.boot = bootFace s.boot := by
  unfold smbRead
  dsimp only
  repeat' split
  all_goals simp

/-! ### Machine/CipherJobs -/

@[simp] theorem bklSet_bootFace (s : State) (b : Buckle) : bootFace (bklSet s b).boot = bootFace s.boot := rfl

@[simp] theorem jobEnd_bootFace (s : State) (j : CJob) (st : Status) (out : Bytes) :
    bootFace (jobEnd s j st out).boot = bootFace s.boot := rfl

@[simp] theorem jobsEnd_bootFace (s : State) (p : CJob → Bool) (run : Bool) (st : Status) :
    bootFace (jobsEnd s p run st).boot = bootFace s.boot := by simp -implicitDefEqProofs [jobsEnd]

@[simp] theorem cipherCommit_bootFace (s : State) : bootFace (cipherCommit s).boot = bootFace s.boot := by simp [cipherCommit]

/-! ### Machine/FlashOps -/

@[simp] theorem flsSet_bootFace (s : State) (b : Nat) (v : FlsBank) : bootFace (flsSet s b v).boot = bootFace s.boot := rfl

@[simp] theorem mixBytes_bootFace (s : State) (old new : Bytes) : bootFace (mixBytes s old new).2.boot = bootFace s.boot := rfl

@[simp] theorem flsStatus_bootFace (s : State) (b : Nat) (st : Status) : bootFace (flsStatus s b st).boot = bootFace s.boot := rfl

@[simp] theorem flsBusy_bootFace (s : State) (b : Nat) (v : Bool) : bootFace (flsBusy s b v).boot = bootFace s.boot := rfl

@[simp] theorem flsFreeze_bootFace (s : State) : bootFace (flsFreeze s).boot = bootFace s.boot := rfl

@[simp] theorem flsTear_bootFace (u : State) (b : Nat) (o : FlsOp) : bootFace (flsTear u b o).boot = bootFace u.boot := rfl

@[simp] theorem flsWear_bootFace (s : State) (b sector : Nat) : bootFace (flsWear s b sector).boot = bootFace s.boot := rfl

@[simp] theorem flsErased_bootFace (s : State) (b sector : Nat) :
    bootFace (flsErased s b sector).boot = bootFace s.boot := by simp [flsErased]

/-! ### Machine/TreeOps -/

@[simp] theorem treeLines_bootFace (s : State) (ls : List TreeLine) : bootFace (treeLines s ls).boot = bootFace s.boot := rfl

@[simp] theorem treePut_bootFace (s : State) (t : TreeLine) : bootFace (treePut s t).boot = bootFace s.boot := rfl

@[simp] theorem treeDrop_bootFace (s : State) (n : Nat) : bootFace (treeDrop s n).boot = bootFace s.boot := rfl

@[simp] theorem treeSweep_bootFace (s : State) (n : Nat) : bootFace (treeSweep s n).boot = bootFace s.boot := rfl

@[simp] theorem wbbPut_bootFace (s : State) (e : WbbEntry) : bootFace (wbbPut s e).boot = bootFace s.boot := rfl

@[simp] theorem treeClean_bootFace (s : State) (t : TreeLine) :
    bootFace (treeClean s t).boot = bootFace s.boot := by simp [treeClean]

@[simp] theorem treeCleanWhere_bootFace (s : State) (p : TreeLine → Bool) :
    bootFace (treeCleanWhere s p).boot = bootFace s.boot := by simp [treeCleanWhere]

@[simp] theorem treeCleanInv_bootFace (s : State) (t : TreeLine) :
    bootFace (treeCleanInv s t).boot = bootFace s.boot := by simp [treeCleanInv]

@[simp] theorem treeEvict_bootFace (s : State) (t : TreeLine) :
    bootFace (treeEvict s t).boot = bootFace s.boot := by simp [treeEvict]

@[simp] theorem treeHit_bootFace (s : State) (n : Nat) : bootFace (treeHit s n).boot = bootFace s.boot := rfl

@[simp] theorem treeMiss_bootFace (s : State) (n : Nat) : bootFace (treeMiss s n).boot = bootFace s.boot := rfl

@[simp] theorem chanSet_bootFace (s : State) (c : Nat) (v : Chan) : bootFace (chanSet s c v).boot = bootFace s.boot := rfl

@[simp] theorem dramStore_bootFace (s : State) (n : Nat) (data : Bytes) (poison : Bool) :
    bootFace (dramStore s n data poison).boot = bootFace s.boot := rfl

@[simp] theorem wrqPut_bootFace (s : State) (n : Nat) (data : Bytes) (poison : Bool) :
    bootFace (wrqPut s n data poison).boot = bootFace s.boot := rfl

@[simp] theorem rdqPut_bootFace (s : State) (n : Nat) (p : ReadFor) (port : Option Nat) :
    bootFace (rdqPut s n p port).boot = bootFace s.boot := rfl

@[simp] theorem treeAlloc_bootFace (s : State) (n : Nat) : bootFace (treeAlloc s n).2.boot = bootFace s.boot := by
  unfold treeAlloc
  repeat' split
  all_goals simp

/-! ### Machine/CinchOps -/

@[simp] theorem admitUpdate_bootFace (s : State) : bootFace (admitUpdate s).boot = bootFace s.boot := by
  unfold admitUpdate
  dsimp only
  repeat' split
  all_goals simp

@[simp] theorem cinchRecompute_bootFace (s : State) :
    bootFace (cinchRecompute s).boot = bootFace s.boot := by simp [cinchRecompute]

@[simp] theorem takeAdmission_bootFace (s : State) : bootFace (takeAdmission s).2.boot = bootFace s.boot := by
  unfold takeAdmission
  repeat' split
  all_goals simp

@[simp] theorem markDirtyAt_bootFace (s : State) (dl lo : Nat) (old : Bool) :
    bootFace (markDirtyAt s dl lo old).boot = bootFace s.boot := rfl

@[simp] theorem markDirty_bootFace (s : State) (dl lo : Nat) : bootFace (markDirty s dl lo).boot = bootFace s.boot := rfl

@[simp] theorem markClean_bootFace (s : State) (gs : List Nat) : bootFace (markClean s gs).boot = bootFace s.boot := rfl

/-! ### Machine/DriveOps -/

@[simp] theorem driveSet_bootFace (s : State) (n : Nat) (d : Drive) : bootFace (driveSet s n d).boot = bootFace s.boot := rfl

@[simp] theorem setSet_bootFace (s : State) (n : Nat) (v : StripeSet) : bootFace (setSet s n v).boot = bootFace s.boot := rfl

@[simp] theorem issueCmd_bootFace (s : State) (slot : Nat) (use : DriveFor) :
    bootFace (issueCmd s slot use).boot = bootFace s.boot := by simp [issueCmd]

@[simp] theorem issueNext_bootFace (s : State) (slot : Nat) : bootFace (issueNext s slot).boot = bootFace s.boot := by
  unfold issueNext
  dsimp only
  repeat' split
  all_goals simp

@[simp] theorem reconstruct_bootFace (s : State) (n stripe unit : Nat) :
    bootFace (reconstruct s n stripe unit).boot = bootFace s.boot :=
  (foldl_bootFace _ _ _ fun t c => by split <;> simp).trans rfl

@[simp] theorem readUnit_bootFace (s : State) (n stripe unit : Nat) :
    bootFace (readUnit s n stripe unit).boot = bootFace s.boot := by
  unfold readUnit
  dsimp only
  repeat' split
  all_goals simp

/-! ### Machine/LatOps -/

@[simp] theorem latSet_bootFace (s : State) (l : Latigo) : bootFace (latSet s l).boot = bootFace s.boot := rfl

@[simp] theorem connPut_bootFace (s : State) (id : Nat) (c : Conn) : bootFace (connPut s id c).boot = bootFace s.boot := rfl

@[simp] theorem regionPut_bootFace (s : State) (idx : Nat) (r : Region) :
    bootFace (regionPut s idx r).boot = bootFace s.boot := rfl

@[simp] theorem latResult_bootFace (s : State) (slot tag : Nat) (st : Status) (out : Bytes) :
    bootFace (latResult s slot tag st out).boot = bootFace s.boot := rfl

@[simp] theorem aeth_bootFace (s : State) (id : Nat) (c : Conn) (psn : Nat) (p : Nat → RocePkt) :
    bootFace (aeth s id c psn p).boot = bootFace s.boot := rfl

@[simp] theorem regionLeave_bootFace (s : State) (idx : Nat) : bootFace (regionLeave s idx).boot = bootFace s.boot := by
  unfold regionLeave
  repeat' split
  all_goals simp

@[simp] theorem connError_bootFace (s : State) (id : Nat) : bootFace (connError s id).boot = bootFace s.boot := by
  unfold connError
  split <;> simp

@[simp] theorem wqeError_bootFace (s : State) (id idx : Nat) (st : Status) :
    bootFace (wqeError s id idx st).boot = bootFace s.boot := by
  unfold wqeError
  split <;> simp

@[simp] theorem msgEnd_bootFace (s : State) (id : Nat) (m : RxMsg) : bootFace (msgEnd s id m).boot = bootFace s.boot := by
  unfold msgEnd
  repeat' split
  all_goals simp

@[simp] theorem latFinished_bootFace (s : State) (id msg : Nat) : bootFace (latFinished s id msg).boot = bootFace s.boot := by
  unfold latFinished
  repeat' split
  all_goals simp

@[simp] theorem latLine_bootFace (s : State) (id msg : Nat) (poison : Bool) :
    bootFace (latLine s id msg poison).boot = bootFace s.boot := by
  unfold latLine
  repeat' split
  all_goals simp

/-! ### Machine/RingOps -/

@[simp] theorem busyPut_bootFace (s : State) (t : HomeTxn) : bootFace (busyPut s t).boot = bootFace s.boot := rfl

@[simp] theorem busyDrop_bootFace (s : State) (dl : Nat) : bootFace (busyDrop s dl).boot = bootFace s.boot := rfl

@[simp] theorem homeQueue_bootFace (s : State) (r : HomeReq) : bootFace (homeQueue s r).boot = bootFace s.boot := rfl

@[simp] theorem startRound_bootFace (s : State) (r : HomeReq) (inv : Bool) (targets bi : List Nat) (writer : Option Nat) (setB : Bool) :
    
    bootFace (startRound s r inv targets bi writer setB).boot = bootFace s.boot := by simp -implicitDefEqProofs [startRound]

@[simp] theorem evictRound_bootFace (s : State) (v : TreeLine) :
    bootFace (evictRound s v).boot = bootFace s.boot := by simp [evictRound]

/-! ### Machine/Lines -/

@[simp] theorem ldSet_bootFace (s : State) (n : Nat) (v : LDev) : bootFace (ldSet s n v).boot = bootFace s.boot := rfl

@[simp] theorem segSet_bootFace (s : State) (hs : Nat) (v : Segment) : bootFace (segSet s hs v).boot = bootFace s.boot := rfl

@[simp] theorem mapPoison_bootFace (s : State) (gl : Nat) (p : Bool) :
    bootFace (mapPoison s gl p).boot = bootFace s.boot := by simp [mapPoison]

@[simp] theorem weltPut_bootFace (s : State) (e : WeltEntry) : bootFace (weltPut s e).boot = bootFace s.boot := rfl

@[simp] theorem weltDrop_bootFace (s : State) (gl : Nat) : bootFace (weltDrop s gl).boot = bootFace s.boot := rfl

@[simp] theorem skiveDrop_bootFace (s : State) (gl : Nat) : bootFace (skiveDrop s gl).boot = bootFace s.boot := rfl

@[simp] theorem answerRead_bootFace (s : State) (who : Reader) (gl : Nat) (data : Bytes) (poison : Bool) :
    bootFace (answerRead s who gl data poison).boot = bootFace s.boot := by
  unfold answerRead
  split <;> simp

@[simp] theorem answerHeld_bootFace (s : State) (p : HeldRead → Bool) : bootFace (answerHeld s p).boot = bootFace s.boot :=
  (foldl_bootFace _ _ _ fun t r => by split <;> simp).trans rfl

@[simp] theorem holdRead_bootFace (s : State) (who : Reader) (gl : Nat) (w : ReadWait) :
    bootFace (holdRead s who gl w).boot = bootFace s.boot := rfl

@[simp] theorem startLoad_bootFace (s : State) (hs rank : Nat) : bootFace (startLoad s hs rank).boot = bootFace s.boot := by
  unfold startLoad
  dsimp only
  repeat' split
  all_goals simp

@[simp] theorem treeRead_bootFace (s : State) (who : Reader) (gl dl : Nat) (port : Option Nat) :
    bootFace (treeRead s who gl dl port).boot = bootFace s.boot := by
  unfold treeRead
  dsimp only
  split
  case h_1 => repeat' split
              all_goals simp
  case h_2 => repeat' split
              all_goals simp
  case h_3 =>
    split
    · simp
    split
    · simp
    split <;> rename_i h <;> simp [eq_snd h]

@[simp] theorem retryWay_bootFace (s : State) : bootFace (retryWay s).boot = bootFace s.boot := by
  unfold retryWay
  repeat' split
  all_goals simp

@[simp] theorem readLine_bootFace (s : State) (who : Reader) (gl : Nat) (port : Option Nat) :
    bootFace (readLine s who gl port).boot = bootFace s.boot := by
  unfold readLine
  repeat' split
  all_goals simp

@[simp] theorem releaseHit_bootFace (s : State) (t : TreeLine) (pol dl : Nat) (data : PLine) (poison : Bool) (lo : Nat) :
    bootFace (releaseHit s t pol dl data poison lo).2.boot = bootFace s.boot := by
  unfold releaseHit
  repeat' split
  all_goals simp

@[simp] theorem releaseThru_bootFace (s : State) (dl : Nat) (data : PLine) (poison : Bool) (lo : Nat) :
    bootFace (releaseThru s dl data poison lo).2.boot = bootFace s.boot := by
  unfold releaseThru
  repeat' split
  all_goals simp

@[simp] theorem releaseAlloc_bootFace (s : State) (pol dl : Nat) (data : PLine) (poison fromSkive : Bool) (lo : Nat) :
    bootFace (releaseAlloc s pol dl data poison fromSkive lo).2.boot = bootFace s.boot := by
  unfold releaseAlloc
  split <;> rename_i h <;> simp [eq_snd h]
  split <;> simp

@[simp] theorem treeRelease_bootFace (s : State) (gl dl : Nat) (data : PLine) (poison fromSkive : Bool) (lo : Nat) :
    bootFace (treeRelease s gl dl data poison fromSkive lo).2.boot = bootFace s.boot := by
  unfold treeRelease
  dsimp only
  repeat' split
  all_goals simp

/-! ### Machine/LxOps -/

@[simp] theorem lxEpSet_bootFace (s : State) (e : Nat) (v : LxEp) : bootFace (lxEpSet s e v).boot = bootFace s.boot := rfl

@[simp] theorem lxRingSet_bootFace (s : State) (e r : Nat) (v : LxRing) :
    bootFace (lxRingSet s e r v).boot = bootFace s.boot := rfl

@[simp] theorem lxDone_bootFace (s : State) (e r idx : Nat) (st : Status) :
    bootFace (lxDone s e r idx st).boot = bootFace s.boot := rfl

/-! ### Machine/TwinOps -/

@[simp] theorem twinSet_bootFace (s : State) (t : Twin) : bootFace (twinSet s t).boot = bootFace s.boot := rfl

@[simp] theorem mirrorSend_bootFace (s : State) (gl : Nat) (data : PLine) :
    bootFace (mirrorSend s gl data).boot = bootFace s.boot := rfl

@[simp] theorem mirrorLine_bootFace (s : State) (gl : Nat) (data : PLine) :
    bootFace (mirrorLine s gl data).boot = bootFace s.boot := by simp [mirrorLine]

@[simp] theorem poolStore_bootFace (s : State) (f : MirFrame) : bootFace (poolStore s f).boot = bootFace s.boot := rfl

@[simp] theorem sendMirrorAck_bootFace (s : State) : bootFace (sendMirrorAck s).boot = bootFace s.boot := rfl

@[simp] theorem poolDrain_bootFace (s : State) (k : Nat) : bootFace (poolDrain s k).boot = bootFace s.boot := by
  induction k generalizing s with
  | zero => rfl
  | succ k ih =>
    rw [poolDrain]
    repeat' split
    all_goals simp [ih]

/-! ### Machine/PersistOps -/

@[simp] theorem hhSet_bootFace (s : State) (gl : Nat) (v : Bool) : bootFace (hhSet s gl v).boot = bootFace s.boot := rfl

@[simp] theorem writerFinished_bootFace (s : State) (who : Writer) : bootFace (writerFinished s who).boot = bootFace s.boot := by
  unfold writerFinished
  split <;> simp

@[simp] theorem lineCompleted_bootFace (s : State) (who : Writer) : bootFace (lineCompleted s who).boot = bootFace s.boot := by
  unfold lineCompleted
  split <;> simp

@[simp] theorem postedReads_bootFace (s : State) (port : Nat) :
    bootFace (postedReads s port).boot = bootFace s.boot := by simp [postedReads]

@[simp] theorem sendCompletion_bootFace (s : State) (w : HeldWrite) : bootFace (sendCompletion s w).boot = bootFace s.boot := by
  unfold sendCompletion
  split <;> simp

@[simp] theorem mirrorAfter_bootFace (s : State) (w : HeldWrite) : bootFace (mirrorAfter s w).boot = bootFace s.boot := by
  unfold mirrorAfter
  split <;> simp

@[simp] theorem tryComplete_bootFace (s : State) (id : Nat) : bootFace (tryComplete s id).boot = bootFace s.boot := by
  have hp : ∀ w : HeldWrite, bootFace (if failbackFull s w.line then (false, s) else takeAdmission s).2.boot = bootFace s.boot := fun w => by
    split <;> simp
  unfold tryComplete
  split
  · simp
  · split
    · split <;> rename_i h <;> simp [eq_snd h, hp]
    · simp

@[simp] theorem completeAll_bootFace (s : State) : bootFace (completeAll s).boot = bootFace s.boot := by simp [completeAll]

@[simp] theorem cancelEvict_bootFace (s : State) (hs : Nat) :
    bootFace (cancelEvict s hs).boot = bootFace s.boot := by simp [cancelEvict]

@[simp] theorem touchSegment_bootFace (s : State) (hs : Nat) :
    bootFace (touchSegment s hs).boot = bootFace s.boot := by simp [touchSegment]

@[simp] theorem weltMerge_bootFace (s : State) (ld gl : Nat) (data : PLine) (fromSkive : Bool) (seqs : List Nat) (mir : Option Nat) :
    
    bootFace (weltMerge s ld gl data fromSkive seqs mir).boot = bootFace s.boot := by
  unfold weltMerge
  split <;> simp

@[simp] theorem repairWritten_bootFace (s : State) (gl : Nat) (data : PLine) :
    bootFace (repairWritten s gl data).boot = bootFace s.boot := rfl

theorem bootFace_getD {s : State} {o : Option State} (h : ∀ t, o = some t → bootFace t.boot = bootFace s.boot) :
    bootFace (o.getD s).boot = bootFace s.boot := by
  cases o with
  | none => rfl
  | some t => exact h t rfl

theorem skiveClose_bootFace {s t : State} {e : SkiveLine} (h : skiveClose s e = some t) : bootFace t.boot = bootFace s.boot := by
  unfold skiveClose at h
  split at h
  · cases h
    simp
  · cases h

@[simp] theorem skiveCloseWhere_bootFace (s : State) (p : SkiveLine → Bool) :
    bootFace (skiveCloseWhere s p).boot = bootFace s.boot :=
  foldl_bootFace _ _ s fun _ _ => bootFace_getD fun _ => skiveClose_bootFace

@[simp] theorem skiveWrite_bootFace (s : State) (e : SkiveLine) : bootFace (skiveWrite s e).boot = bootFace s.boot := by
  unfold skiveWrite
  repeat' split
  all_goals simp

@[simp] theorem skiveWriteAll_bootFace (s : State) : bootFace (skiveWriteAll s).boot = bootFace s.boot := by simp [skiveWriteAll]

@[simp] theorem weltRelease_bootFace (s : State) (e : WeltEntry) : bootFace (weltRelease s e).boot = bootFace s.boot := by
  unfold weltRelease
  dsimp only
  split
  · simp
  · split <;> rename_i h
    · simp [eq_snd h]
    · repeat' split
      all_goals simp [eq_snd h]

@[simp] theorem cxlEvent_bootFace (s : State) (n log code : Nat) :
    bootFace (cxlEvent s n log code).boot = bootFace s.boot := by simp [cxlEvent]

@[simp] theorem barrierLat_bootFace (s : State) (b : Barrier) : bootFace (barrierLat s b).boot = bootFace s.boot := by
  unfold barrierLat
  split <;> simp

@[simp] theorem writeRecord_bootFace (s : State) (ld addr token : Nat) (st : Status) (scope level : Nat) (intr : Bool) (vec : Nat) :
    
    bootFace (writeRecord s ld addr token st scope level intr vec).boot = bootFace s.boot := by simp [writeRecord]

@[simp] theorem barrierAnswer_bootFace (s : State) (b : Barrier) (st : Status) :
    bootFace (barrierAnswer s b st).boot = bootFace s.boot := by
  unfold barrierAnswer
  split <;> simp

@[simp] theorem endBarrier_bootFace (s : State) (b : Barrier) (st : Status) :
    bootFace (endBarrier s b st).boot = bootFace s.boot := by simp [endBarrier]

@[simp] theorem startBarrier_bootFace (s : State) (by_ : BarrierBy) (ld scope level : Nat) :
    bootFace (startBarrier s by_ ld scope level).boot = bootFace s.boot := by simp [startBarrier]

@[simp] theorem pairLost_bootFace (s : State) : bootFace (pairLost s).boot = bootFace s.boot := by simp [pairLost]

@[simp] theorem pairBack_bootFace (s : State) : bootFace (pairBack s).boot = bootFace s.boot := by simp [pairBack]

/-! ### Machine/Reaction -/

@[simp] theorem fnSet_bootFace (s : State) (f : Fn) (v : FnState) : bootFace (fnSet s f v).boot = bootFace s.boot := rfl

@[simp] theorem fnQuiesce_bootFace (s : State) (f : Fn) (want : FnWant) (abort : Nat) :
    bootFace (fnQuiesce s f want abort).boot = bootFace s.boot := by simp [fnQuiesce]

@[simp] theorem fnEnter_bootFace (s : State) (f : Fn) : bootFace (fnEnter s f).boot = bootFace s.boot := by simp [fnEnter]

@[simp] theorem containLd_bootFace (s : State) (n : Nat) : bootFace (containLd s n).boot = bootFace s.boot := rfl

@[simp] theorem hostViolation_bootFace (s : State) (port : Nat) (ld : Option Nat) (cause : Nat) :
    bootFace (hostViolation s port ld cause).boot = bootFace s.boot := by
  unfold hostViolation
  repeat' split
  all_goals simp -implicitDefEqProofs

@[simp] theorem twinViolation_bootFace (s : State) (cause code : Nat) :
    bootFace (twinViolation s cause code).boot = bootFace s.boot := by simp [twinViolation]

@[simp] theorem closeWindow_bootFace (s : State) (cause : Nat) : bootFace (closeWindow s cause).boot = bootFace s.boot := by
  unfold closeWindow
  repeat' split
  all_goals simp

@[simp] theorem warnEnter_bootFace (s : State) : bootFace (warnEnter s).boot = bootFace s.boot := by simp [warnEnter]

@[simp] theorem warnStandDown_bootFace (s : State) : bootFace (warnStandDown s).boot = bootFace s.boot := by simp [warnStandDown]

@[simp] theorem keeperWriteBack_bootFace (s : State) (agents : List Nat) :
    bootFace (keeperWriteBack s agents).boot = bootFace s.boot := by simp -implicitDefEqProofs [keeperWriteBack]

@[simp] theorem railSet_bootFace (s : State) (n : Nat) (r : Rail) : bootFace (railSet s n r).boot = bootFace s.boot := rfl

@[simp] theorem supplyCheck_bootFace (s : State) : bootFace (supplyCheck s).boot = bootFace s.boot := by simp [supplyCheck]

@[simp] theorem requalRestart_bootFace (s : State) : bootFace (requalRestart s).boot = bootFace s.boot := by simp [requalRestart]

@[simp] theorem railsAtCommit_bootFace (s : State) : bootFace (railsAtCommit s).boot = bootFace s.boot := by
  unfold railsAtCommit
  dsimp only
  repeat' split
  all_goals simp

@[simp] theorem heldBack_bootFace (s : State) : bootFace (heldBack s).boot = bootFace s.boot := rfl

@[simp] theorem commitStore_bootFace (s : State) : bootFace (commitStore s).boot = bootFace s.boot := by simp [commitStore]

@[simp] theorem commitMedia_bootFace (s : State) : bootFace (commitMedia s).boot = bootFace s.boot := by simp [commitMedia]

@[simp] theorem commitLoads_bootFace (s : State) : bootFace (commitLoads s).boot = bootFace s.boot := by simp [commitLoads]

@[simp] theorem commitMaint_bootFace (s : State) : bootFace (commitMaint s).boot = bootFace s.boot := by simp [commitMaint]

@[simp] theorem commitRest_bootFace (s : State) (trig : Nat) : bootFace (commitRest s trig).boot = bootFace s.boot := rfl

@[simp] theorem backOut_bootFace (s : State) (sysReset : Bool) (faulted : Option Nat) :
    bootFace (backOut s sysReset faulted).boot = bootFace s.boot := by
  unfold backOut
  extract_lets n _ham s1 s2
  split
  · rfl
  · exact (supplyCheck_bootFace s2).trans rfl

@[simp] theorem openWindow_bootFace (s : State) (w : Window) : bootFace (openWindow s w).boot = bootFace s.boot := rfl

@[simp] theorem endReaction_bootFace (s : State) (sc : Scope) : bootFace (endReaction s sc).boot = bootFace s.boot := rfl

@[simp] theorem sevCount_bootFace (s : State) (rung : Nat) : bootFace (sevCount s rung).boot = bootFace s.boot := by
  unfold sevCount
  split <;> simp

@[simp] theorem reactS2_bootFace (s : State) (u : FUnit) (inst : Nat) : bootFace (reactS2 s u inst).boot = bootFace s.boot := by
  unfold reactS2
  split <;> simp

@[simp] theorem reactS3_bootFace (s : State) (u : FUnit) (g : FGroup) (inst : Nat) (held : Bool) :
    bootFace (reactS3 s u g inst held).boot = bootFace s.boot := by simp [reactS3]

/-! ### Machine/StreamOps -/

@[simp] theorem fetchLayer_bootFace (s : State) (t : Stream) (k rank : Nat) :
    bootFace (fetchLayer s t k rank).boot = bootFace s.boot := by simp [fetchLayer]

@[simp] theorem streamPut_bootFace (s : State) (t : Stream) : bootFace (streamPut s t).boot = bootFace s.boot := rfl

@[simp] theorem completeLayers_bootFace (s : State) (t : Stream) (upto : Nat) :
    bootFace (completeLayers s t upto).boot = bootFace s.boot := by
  unfold completeLayers
  split <;> simp

@[simp] theorem streamTouch_bootFace (s : State) (ld gl : Nat) : bootFace (streamTouch s ld gl).boot = bootFace s.boot :=
  foldl_bootFace _ _ s fun x t => by split <;> simp

/-! ### Machine/Tree -/

@[simp] theorem fillDone_bootFace (s : State) (t : TreeLine) (data : Bytes) (poison : Bool) :
    bootFace (fillDone s t data poison).boot = bootFace s.boot := by
  unfold fillDone
  dsimp only
  repeat' split
  all_goals simp

@[simp] theorem invalidateLine_bootFace (s : State) (kind : HomeKind) (t : TreeLine) :
    bootFace (invalidateLine s kind t).boot = bootFace s.boot := by simp [invalidateLine]

@[simp] theorem walkRun_bootFace (s : State) (w : Walk) : bootFace (walkRun s w).boot = bootFace s.boot := by simp [walkRun]

@[simp] theorem maintStart_bootFace (op : Nat) (s : State) :
    bootFace (maintStart op s).boot = bootFace s.boot := by simp [maintStart]

@[simp] theorem maintProcess_bootFace (s : State) (op lo hi : Nat) :
    bootFace (maintProcess s op lo hi).boot = bootFace s.boot := by simp [maintProcess]

/-! ### Machine/DramCtl -/

@[simp] theorem panicUpdate_bootFace (s : State) (ch : Nat) :
    bootFace (panicUpdate s ch).boot = bootFace s.boot := by simp [panicUpdate]

@[simp] theorem issueCand_bootFace (s : State) (ch : Nat) (b : Bool) (x : Cand) :
    bootFace (issueCand s ch b x).boot = bootFace s.boot := by
  unfold issueCand
  split <;> simp

@[simp] theorem errAddr_bootFace (s : State) (ch line dev rank : Nat) (unc : Bool) :
    bootFace (errAddr s ch line dev rank unc).boot = bootFace s.boot := rfl

@[simp] theorem poisonLine_bootFace (s : State) (ch line : Nat) : bootFace (poisonLine s ch line).boot = bootFace s.boot := rfl

@[simp] theorem poisonFill_bootFace (s : State) (line : Nat) : bootFace (poisonFill s line).boot = bootFace s.boot := by
  unfold poisonFill
  split <;> simp

@[simp] theorem repairDone_bootFace (s : State) (line : Nat) (data : Bytes) :
    bootFace (repairDone s line data).boot = bootFace s.boot := by
  unfold repairDone
  dsimp only
  repeat' split
  all_goals simp

@[simp] theorem deliver_bootFace (s : State) (r : DRead) (data : Bytes) (poison : Bool) :
    bootFace (deliver s r data poison).boot = bootFace s.boot := by
  unfold deliver
  repeat' split
  all_goals simp

@[simp] theorem dimmHot_bootFace (s : State) (ch : Nat) (hot : List Nat) (dimm : Nat) :
    bootFace (dimmHot s ch hot dimm).boot = bootFace s.boot := rfl

@[simp] theorem retrainSlot_bootFace (s : State) (ch : Nat) :
    bootFace (retrainSlot s ch).boot = bootFace s.boot := by simp [retrainSlot]

/-! ### Machine/SramOps -/

@[simp] theorem pendingPoisoned_bootFace (s : State) (gl : Nat) : bootFace (pendingPoisoned s gl).boot = bootFace s.boot := rfl

@[simp] theorem pendingByte_bootFace (s : State) (gl k : Nat) (skive : Bool) (b : Byte) :
    bootFace (pendingByte s gl k skive b).boot = bootFace s.boot := by simp [pendingByte]

@[simp] theorem wayIsolate_bootFace (s : State) (sl w : Nat) :
    bootFace (wayIsolate s sl w).boot = bootFace s.boot := by simp [wayIsolate]

/-! ### Machine/TwinLink -/

@[simp] theorem twinSend_bootFace (s : State) (code a b : Nat) (d : Bytes) :
    bootFace (twinSend s code a b d).boot = bootFace s.boot := rfl

@[simp] theorem ackTaken_bootFace (s : State) (upto : Nat) : bootFace (ackTaken s upto).boot = bootFace s.boot := by
  unfold ackTaken
  dsimp only
  repeat' split
  all_goals simp

@[simp] theorem sendHello_bootFace (s : State) : bootFace (sendHello s).boot = bootFace s.boot := rfl

@[simp] theorem poolReserve_bootFace (s : State) : bootFace (poolReserve s).boot = bootFace s.boot := by
  unfold poolReserve
  extract_lets +onlyGivenNames want
  split
  · rfl
  extract_lets +onlyGivenNames _a s1
  extract_lets +onlyGivenNames _b s2
  repeat' split
  all_goals rfl

@[simp] theorem zonesSettle_bootFace (s : State) (accepted : List Nat) :
    bootFace (zonesSettle s accepted).boot = bootFace s.boot := rfl

@[simp] theorem zonesDivide_bootFace (s : State) : bootFace (zonesDivide s).boot = bootFace s.boot := rfl

@[simp] theorem steerPhase_bootFace (s : State) (h : HeartbeatFrame) :
    bootFace (steerPhase s h).boot = bootFace s.boot := by simp [steerPhase]

@[simp] theorem takeover_bootFace (s : State) :
    bootFace (takeover s).boot = bootFace s.boot := by simp -implicitDefEqProofs [takeover]

@[simp] theorem fence_bootFace (s : State) : bootFace (fence s).boot = bootFace s.boot := by simp [fence]

@[simp] theorem standbyReturn_bootFace (s : State) : bootFace (standbyReturn s).boot = bootFace s.boot := rfl

@[simp] theorem heartbeatSend_bootFace (s : State) : bootFace (heartbeatSend s).boot = bootFace s.boot := by simp [heartbeatSend]

/-! ### Machine/AwlOps -/

@[simp] theorem beginRebuild_bootFace (s : State) (n c target : Nat) (queued : Option Nat) :
    bootFace (beginRebuild s n c target queued).boot = bootFace s.boot := rfl

@[simp] theorem wantRebuild_bootFace (s : State) (n c : Nat) : bootFace (wantRebuild s n c).boot = bootFace s.boot := by
  unfold wantRebuild
  dsimp only
  repeat' split
  all_goals simp

@[simp] theorem memberPredicted_bootFace (s : State) (slot : Nat) : bootFace (memberPredicted s slot).boot = bootFace s.boot := by
  unfold memberPredicted
  dsimp only
  repeat' split
  all_goals simp

@[simp] theorem driveViolation_bootFace (s : State) (slot cause : Nat) :
    bootFace (driveViolation s slot cause).boot = bootFace s.boot := by simp [driveViolation]

@[simp] theorem journalPut_bootFace (s : State) (e : JournalEntry) : bootFace (journalPut s e).boot = bootFace s.boot := by
  unfold journalPut
  dsimp only
  split <;> rfl

@[simp] theorem freeZonesNow_bootFace (s : State) :
    bootFace (freeZonesNow s).boot = bootFace s.boot := by simp -implicitDefEqProofs [freeZonesNow]

/-! ### Machine/Parity -/

@[simp] theorem writeColumn_bootFace (s : State) (slot n k : Nat) (cs : List Chunk) (col : Nat) (retry reloc : Bool) :
    bootFace (writeColumn s slot n k cs col retry reloc).boot = bootFace s.boot := by simp [writeColumn]

/-! ### Machine/Drives -/

@[simp] theorem refetchDone_bootFace (s : State) (n stripe unit : Nat) :
    bootFace (refetchDone s n stripe unit).boot = bootFace s.boot := by
  unfold refetchDone
  split <;> simp

@[simp] theorem cmdDone_bootFace (s : State) (slot : Nat) (c : DriveCmd) :
    bootFace (cmdDone s slot c).boot = bootFace s.boot := by
  unfold cmdDone
  split <;> simp

@[simp] theorem unitRetry_bootFace (s : State) (slot n k col : Nat) :
    bootFace (unitRetry s slot n k col).boot = bootFace s.boot := by
  unfold unitRetry
  split <;> simp

@[simp] theorem driveLinkDown_bootFace (s : State) (slot : Nat) : bootFace (driveLinkDown s slot).boot = bootFace s.boot := rfl

/-! ### Machine/Drain -/

@[simp] theorem writeStripe_bootFace (s : State) (n k : Nat) (cs : List Chunk) (reloc : Bool) :
    bootFace (writeStripe s n k cs reloc).boot = bootFace s.boot :=
  (foldl_bootFace _ _ _ fun t c => by split <;> simp).trans (by simp)

@[simp] theorem granulesCommit_bootFace (s : State) (gs : List Nat) :
    bootFace (granulesCommit s gs).boot = bootFace s.boot := by simp [granulesCommit]

@[simp] theorem granulesAbandon_bootFace (s : State) (gs : List Nat) :
    bootFace (granulesAbandon s gs).boot = bootFace s.boot := rfl

@[simp] theorem settleT2_bootFace (s : State) (hs : Nat) : bootFace (settleT2 s hs).boot = bootFace s.boot := by simp [settleT2]

@[simp] theorem chunkMoved_bootFace (s : State) (home : Nat) (loc : ChunkLoc) (repl : Bool) :
    bootFace (chunkMoved s home loc repl).boot = bootFace s.boot := by simp [chunkMoved]

@[simp] theorem commitStripe_bootFace (s : State) (x : Stripe) :
    bootFace (commitStripe s x).boot = bootFace s.boot := by simp [commitStripe]

/-! ### Machine/HostPorts -/

@[simp] theorem trackLow_bootFace (s : State) (p : Nat) : bootFace (trackLow s p).boot = bootFace s.boot := by simp [trackLow]

@[simp] theorem refuseCount_bootFace (s : State) (p : Nat) (ld : Option Nat) (cause : Nat) :
    bootFace (refuseCount s p ld cause).boot = bootFace s.boot := by simp [refuseCount]

@[simp] theorem linkDown_bootFace (s : State) (p : Nat) : bootFace (linkDown s p).boot = bootFace s.boot := by simp [linkDown]

@[simp] theorem stageField_bootFace (s : State) (f : Fld) (v : Nat) :
    bootFace (stageField s f v).boot = bootFace s.boot := by simp [stageField]

/-! ### Machine/Objects -/

@[simp] theorem vendorReply_bootFace (s : State) (n : Nat) (st : Status) (out : Bytes) :
    bootFace (vendorReply s n st out).boot = bootFace s.boot := rfl

@[simp] theorem zeroSegs_bootFace (s : State) (first k obj : Nat) :
    bootFace (zeroSegs s first k obj).boot = bootFace s.boot := by simp -implicitDefEqProofs [zeroSegs]

@[simp] theorem setReplica_bootFace (s : State) (r : Nat × Nat) (on : Bool) :
    bootFace (setReplica s r on).boot = bootFace s.boot := by simp -implicitDefEqProofs [setReplica]

@[simp] theorem streamEnd_bootFace (s : State) (id : Nat) : bootFace (streamEnd s id).boot = bootFace s.boot := rfl

@[simp] theorem poisonHeld_bootFace (s : State) (p : HeldRead → Bool) :
    bootFace (poisonHeld s p).boot = bootFace s.boot := by simp [poisonHeld]

/-! ### Machine/CipherOps -/

@[simp] theorem keyPut_bootFace (s : State) (k : Nat) (v : KeySlot) : bootFace (keyPut s k v).boot = bootFace s.boot := rfl

@[simp] theorem keySweep_bootFace (s : State) : bootFace (keySweep s).boot = bootFace s.boot := rfl

@[simp] theorem keyStoreWrite_bootFace (s : State) : bootFace (keyStoreWrite s).boot = bootFace s.boot := by simp [keyStoreWrite]

@[simp] theorem admitWaiting_bootFace (s : State) : bootFace (admitWaiting s).boot = bootFace s.boot := by simp [admitWaiting]

@[simp] theorem scheduleOne_bootFace (s : State) : bootFace (scheduleOne s).boot = bootFace s.boot := by
  unfold scheduleOne
  repeat' split
  all_goals simp

@[simp] theorem schedule_bootFace (s : State) : bootFace (schedule s).boot = bootFace s.boot := by simp [schedule]

@[simp] theorem coreOut_bootFace (s : State) (c : Nat) : bootFace (coreOut s c).boot = bootFace s.boot := by
  unfold coreOut
  dsimp only
  repeat' split
  all_goals simp

/-! ### Machine/Latigo -/

@[simp] theorem fetchContext_bootFace (s : State) (id : Nat) : bootFace (fetchContext s id).boot = bootFace s.boot := by
  unfold fetchContext
  split <;> simp

@[simp] theorem wqeStart_bootFace (s : State) (id : Nat) (c : Conn) (w : Wqe) (pk : Nat) (st : Option Status) :
    bootFace (wqeStart s id c w pk st).boot = bootFace s.boot := rfl

@[simp] theorem readBuffer_bootFace (s : State) (id msg n dpa len : Nat) :
    bootFace (readBuffer s id msg n dpa len).boot = bootFace s.boot := by simp [readBuffer]

@[simp] theorem leftAdd_bootFace (s : State) (who : Writer) (k : Nat) : bootFace (leftAdd s who k).boot = bootFace s.boot := by
  unfold leftAdd
  repeat' split
  all_goals simp

@[simp] theorem releaseWaits_bootFace (s : State) (cq : Nat) : bootFace (releaseWaits s cq).boot = bootFace s.boot := rfl

@[simp] theorem retriesOut_bootFace (s : State) (id idx : Nat) :
    bootFace (retriesOut s id idx).boot = bootFace s.boot := by simp [retriesOut]

@[simp] theorem resend_bootFace (s : State) (id : Nat) (c : Conn) (w : Wqe) :
    bootFace (resend s id c w).boot = bootFace s.boot := by
  unfold resend
  split <;> simp

@[simp] theorem peerViolation_bootFace (s : State) (addr cause : Nat) :
    bootFace (peerViolation s addr cause).boot = bootFace s.boot := by simp [peerViolation]

@[simp] theorem invalidRequest_bootFace (s : State) (id : Nat) (p : RxPkt) (cause : Nat) :
    bootFace (invalidRequest s id p cause).boot = bootFace s.boot := by simp [invalidRequest]

@[simp] theorem refuseAccess_bootFace (s : State) (id : Nat) (p : RxPkt) :
    bootFace (refuseAccess s id p).boot = bootFace s.boot := by simp [refuseAccess]

@[simp] theorem msgBegin_bootFace (s : State) (id : Nat) (c : Conn) (m : RxMsg) :
    bootFace (msgBegin s id c m).boot = bootFace s.boot := by
  unfold msgBegin
  dsimp only
  repeat' split
  all_goals simp

@[simp] theorem rxRead_bootFace (s : State) (id : Nat) (c : Conn) (p : RxPkt) :
    bootFace (rxRead s id c p).boot = bootFace s.boot := by
  unfold rxRead
  repeat' split
  all_goals simp

@[simp] theorem rxDuplicate_bootFace (s : State) (id : Nat) (c : Conn) (p : RxPkt) :
    bootFace (rxDuplicate s id c p).boot = bootFace s.boot := by
  unfold rxDuplicate
  repeat' split
  all_goals simp

@[simp] theorem rxGrant_bootFace (s : State) (id : Nat) (c : Conn) (p : RxPkt) :
    bootFace (rxGrant s id c p).boot = bootFace s.boot := by simp [rxGrant]

@[simp] theorem rxMark_bootFace (s : State) (id : Nat) (c : Conn) (p : RxPkt) :
    bootFace (rxMark s id c p).boot = bootFace s.boot := by simp [rxMark]

/-! ### Machine/Cipher -/

@[simp] theorem keyResult_bootFace (s : State) (slot tag k : Nat) (st : Status) (check : Bytes) :
    bootFace (keyResult s slot tag k st check).boot = bootFace s.boot := rfl

/-! ### Machine/Persistence -/

@[simp] theorem gpf_bootFace (phase port level : Nat) (s : State) :
    bootFace (gpf phase port level s).boot = bootFace s.boot := by simp [gpf]

/-! ### Machine/Compat -/

@[simp] theorem lxRingErr_bootFace (s : State) (e : Nat) : bootFace (lxRingErr s e).boot = bootFace s.boot := rfl

@[simp] theorem lxStage_bootFace (e : Nat) (s : State) (f : Fld) (v : Nat) :
    bootFace (lxStage e s f v).boot = bootFace s.boot := rfl

@[simp] theorem lxRingReset_bootFace (s : State) (e : Nat) :
    bootFace (lxRingReset s e).boot = bootFace s.boot := by simp [lxRingReset]

@[simp] theorem lxTailWrite_bootFace (s : State) (e r v : Nat) :
    bootFace (lxTailWrite s e r v).boot = bootFace s.boot := by simp [lxTailWrite]

@[simp] theorem lxRingWrite_bootFace (s : State) (e r off v : Nat) :
    bootFace (lxRingWrite s e r off v).boot = bootFace s.boot := by
  unfold lxRingWrite
  split <;> simp

@[simp] theorem lxWrite_bootFace (s : State) (e off value : Nat) : bootFace (lxWrite s e off value).boot = bootFace s.boot := by
  unfold lxWrite
  repeat' split
  all_goals simp

@[simp] theorem flushGo_bootFace (s : State) (e r : Nat) (c : LxCmd) : bootFace (flushGo s e r c).boot = bootFace s.boot := by
  unfold flushGo
  split <;> simp

@[simp] theorem lxEnd_bootFace (s : State) (e r : Nat) (c : LxCmd) (st : Status) :
    bootFace (lxEnd s e r c st).boot = bootFace s.boot := by simp [lxEnd]

@[simp] theorem lxApply_bootFace (e : Nat) (s : State) (x : Nat × Nat) :
    bootFace (lxApply e s x).boot = bootFace s.boot := by simp [lxApply]

@[simp] theorem lxCheckRing_bootFace (e : Nat) (s : State) (r : Nat) :
    bootFace (lxCheckRing e s r).boot = bootFace s.boot := by simp [lxCheckRing]

@[simp] theorem lxNote_bootFace (s : State) (e : Nat) : bootFace (lxNote s e).boot = bootFace s.boot := by simp [lxNote]

@[simp] theorem lxHeartbeat_bootFace (s : State) : bootFace (lxHeartbeat s).boot = bootFace s.boot := by simp [lxHeartbeat]

@[simp] theorem lxFlush_bootFace (e r level : Nat) (s : State) (c : LxCmd) :
    bootFace (lxFlush e r level s c).boot = bootFace s.boot := by simp [lxFlush]

@[simp] theorem lxStatus_bootFace (s : State) (e r : Nat) : bootFace (lxStatus s e r).boot = bootFace s.boot := by
  unfold lxStatus
  dsimp only
  repeat' split
  all_goals simp

@[simp] theorem lxRingsClear_bootFace (s : State) (e : Nat) :
    bootFace (lxRingsClear s e).boot = bootFace s.boot := by simp -implicitDefEqProofs [lxRingsClear]

/-! ### Machine/Ring -/

@[simp] theorem agentPut_bootFace (s : State) (l : AgentLine) : bootFace (agentPut s l).boot = bootFace s.boot := rfl

@[simp] theorem agentDrop_bootFace (s : State) (a line : Nat) : bootFace (agentDrop s a line).boot = bootFace s.boot := rfl

@[simp] theorem isolateAgent_bootFace (s : State) (a : Nat) : bootFace (isolateAgent s a).boot = bootFace s.boot := rfl

@[simp] theorem toHome_bootFace (s : State) (m : RingMsg) (a line : Nat) (data : Bytes) :
    bootFace (toHome s m a line data).boot = bootFace s.boot := rfl

@[simp] theorem agentSnoop_bootFace (inv : Bool) (a line : Nat) (s : State) :
    bootFace (agentSnoop inv a line s).boot = bootFace s.boot := by
  unfold agentSnoop
  repeat' split
  all_goals simp

@[simp] theorem serveCore_bootFace (s : State) (l : AgentLine) (data : Bytes) :
    bootFace (serveCore s l data).boot = bootFace s.boot := by simp [serveCore]

@[simp] theorem grantTree_bootFace (s : State) (dl : Nat) (data : Bytes × Bool) :
    bootFace (grantTree s dl data).boot = bootFace s.boot := by
  unfold grantTree
  split
  · simp
  · split <;> rename_i h <;> simp [eq_snd h]

@[simp] theorem grant_bootFace (s : State) (t : HomeTxn) : bootFace (grant s t).boot = bootFace s.boot := by
  unfold grant
  dsimp only
  repeat' split
  all_goals simp

@[simp] theorem writeThrough_bootFace (s : State) (line : Nat) (data : Bytes) :
    bootFace (writeThrough s line data).boot = bootFace s.boot := by
  unfold writeThrough
  split <;> simp

@[simp] theorem coreSet_bootFace (s : State) (c : Nat) (v : KCore) : bootFace (coreSet s c v).boot = bootFace s.boot := rfl

@[simp] theorem storeDrain_bootFace (s : State) (c : Nat) (w : KStore) :
    bootFace (storeDrain s c w).2.boot = bootFace s.boot := by
  unfold storeDrain
  dsimp only
  repeat' split
  all_goals simp

@[simp] theorem drainStores_bootFace (s : State) (c : Nat) (k : Nat) : bootFace (drainStores s c k).boot = bootFace s.boot := by
  induction k generalizing s with
  | zero => rfl
  | succ k ih =>
    rw [drainStores]
    split
    · rfl
    split <;> rename_i h <;> simp [ih, eq_snd h]

/-! ### Machine/Faults -/

@[simp] theorem poisonReads_bootFace (s : State) (p : HeldRead → Bool) :
    bootFace (poisonReads s p).2.boot = bootFace s.boot := by simp [poisonReads]

@[simp] theorem disableBarriers_bootFace (s : State) (p : Barrier → Bool) :
    bootFace (disableBarriers s p).2.boot = bootFace s.boot := by simp [disableBarriers]

@[simp] theorem clusterReset_bootFace (s : State) : bootFace (clusterReset s).boot = bootFace s.boot := by simp [clusterReset]

@[simp] theorem fnReturn_bootFace (s : State) (f : Fn) : bootFace (fnReturn s f).boot = bootFace s.boot := by
  unfold fnReturn
  split <;> simp

@[simp] theorem ldConnsError_bootFace (s : State) (n : Nat) :
    bootFace (ldConnsError s n).boot = bootFace s.boot := by simp [ldConnsError]

@[simp] theorem unitResetWrite_bootFace (s : State) (f : Fn) : bootFace (unitResetWrite s f).boot = bootFace s.boot := by
  unfold unitResetWrite
  repeat' split
  all_goals simp

@[simp] theorem replicaOut_bootFace (s : State) (u : FUnit) : bootFace (replicaOut s u).boot = bootFace s.boot := by
  unfold replicaOut
  repeat' split
  all_goals simp

@[simp] theorem fnHome_bootFace (s : State) (f : Fn) : bootFace (fnHome s f).boot = bootFace s.boot := by
  unfold fnHome
  split <;> simp

/-! ### Machine/Operands -/

@[simp] theorem fldWrite_bootFace (s : State) (f : Fld) (v : Nat) :
    bootFace (fldWrite s f v).boot = bootFace s.boot := by simp [fldWrite]

@[simp] theorem fldStage_bootFace (s : State) (f : Fld) (v : Nat) : bootFace (fldStage s f v).boot = bootFace s.boot := rfl

/-! ### Machine/RecorderOps -/

@[simp] theorem stmSet_bootFace (s : State) (m : Stm) : bootFace (stmSet s m).boot = bootFace s.boot := rfl

@[simp] theorem lineReserve_bootFace (s : State) : bootFace (lineReserve s).boot = bootFace s.boot := rfl

@[simp] theorem firstPut_bootFace (s : State) (r : Rec) : bootFace (firstPut s r).boot = bootFace s.boot := by simp [firstPut]

@[simp] theorem overflowEnd_bootFace (s : State) : bootFace (overflowEnd s).boot = bootFace s.boot := by simp [overflowEnd]

@[simp] theorem resumeClear_bootFace (s : State) : bootFace (resumeClear s).boot = bootFace s.boot := by simp [resumeClear]

@[simp] theorem stmStart_bootFace (s : State) :
    bootFace (stmStart s).boot = bootFace s.boot := by simp -implicitDefEqProofs [stmStart]

@[simp] theorem bucketsFull_bootFace (s : State) : bootFace (bucketsFull s).boot = bootFace s.boot := rfl

/-! ### Machine/FlashCmds -/

@[simp] theorem flsRelease_bootFace (s : State) (b : Nat) : bootFace (flsRelease s b).boot = bootFace s.boot := rfl

@[simp] theorem flsBusyRead_bootFace (s : State) (b reason sector : Nat) :
    bootFace (flsBusyRead s b reason sector).boot = bootFace s.boot := rfl

@[simp] theorem flsStart_bootFace (s : State) (b : Nat) (o : FlsOp) : bootFace (flsStart s b o).boot = bootFace s.boot := rfl

@[simp] theorem flsNext_bootFace (s : State) (b : Nat) : bootFace (flsNext s b).boot = bootFace s.boot := by
  unfold flsNext
  dsimp only
  repeat' split
  all_goals simp

@[simp] theorem suspendLost_bootFace (s : State) (b : Nat) :
    bootFace (suspendLost s b).boot = bootFace s.boot := by simp [suspendLost]

@[simp] theorem flsScan_bootFace (s : State) :
    bootFace (flsScan s).boot = bootFace s.boot := by simp -implicitDefEqProofs [flsScan]

/-! ### Machine/FirmwareOps -/

@[simp] theorem fwSet_bootFace (s : State) (f : Fw) : bootFace (fwSet s f).boot = bootFace s.boot := rfl

@[simp] theorem fwSlotSet_bootFace (s : State) (k : Nat) (v : FwSlot) : bootFace (fwSlotSet s k v).boot = bootFace s.boot := rfl

@[simp] theorem areaRestore_bootFace (s : State) (ls : List Layer) : bootFace (areaRestore s ls).boot = bootFace s.boot := by
  unfold areaRestore
  split <;> simp

@[simp] theorem bootSlot_bootFace (s : State) (k : Nat) (trial : Bool) :
    bootFace (bootSlot s k trial).boot = bootFace s.boot := rfl

@[simp] theorem trialBegin_bootFace (s : State) (k : Nat) :
    bootFace (trialBegin s k).boot = bootFace s.boot := by simp [trialBegin]

@[simp] theorem confirmTrack_bootFace (s : State) : bootFace (confirmTrack s).boot = bootFace s.boot := by simp [confirmTrack]

/-! ### Machine/LineClock -/

@[simp] theorem lineGlitch_bootFace (s : State) : bootFace (lineGlitch s).boot = bootFace s.boot := rfl

@[simp] theorem checkRange_bootFace (s : State) : bootFace (checkRange s).boot = bootFace s.boot := by simp [checkRange]

@[simp] theorem enterSynthetic_bootFace (s : State) : bootFace (enterSynthetic s).boot = bootFace s.boot := rfl

@[simp] theorem goodCrossing_bootFace (s : State) (t idx : Nat) (err : Int) (next : Bool) :
    bootFace (goodCrossing s t idx err next).boot = bootFace s.boot := by simp [goodCrossing]

@[simp] theorem listenPulse_bootFace (s : State) (t : Nat) : bootFace (listenPulse s t).boot = bootFace s.boot := by
  unfold listenPulse
  dsimp only
  repeat' split
  all_goals simp

/-! ### Machine/Power -/

@[simp] theorem groupSet_bootFace (s : State) (g : Nat) (v : RailGroupState) :
    bootFace (groupSet s g v).boot = bootFace s.boot := rfl

@[simp] theorem domSet_bootFace (s : State) (d : Nat) (v : Bool) : bootFace (domSet s d v).boot = bootFace s.boot := rfl

@[simp] theorem domsOff_bootFace (s : State) (lo hi : Nat) :
    bootFace (domsOff s lo hi).boot = bootFace s.boot := by simp -implicitDefEqProofs [domsOff]

@[simp] theorem domDown_bootFace (s : State) (d : Nat) :
    bootFace (domDown s d).boot = bootFace s.boot := by simp -implicitDefEqProofs [domDown]

@[simp] theorem feedLost_bootFace (s : State) : bootFace (feedLost s).boot = bootFace s.boot := by simp [feedLost]

@[simp] theorem domsUp_bootFace (s : State) (lo hi : Nat) : bootFace (domsUp s lo hi).boot = bootFace s.boot := by simp [domsUp]

@[simp] theorem railTableRead_bootFace (s : State) : bootFace (railTableRead s).boot = bootFace s.boot := by
  unfold railTableRead
  split <;> simp

@[simp] theorem slotMark_bootFace (s : State) (n sev : Nat) : bootFace (slotMark s n sev).boot = bootFace s.boot := rfl

@[simp] theorem railReact_bootFace (s : State) (n own r : Nat) (sc : Scope) :
    bootFace (railReact s n own r sc).boot = bootFace s.boot := by simp [railReact]

@[simp] theorem commitFault_bootFace (s : State) (n : Nat) :
    bootFace (commitFault s n).boot = bootFace s.boot := by simp [commitFault]

/-! ### Machine/Tiers -/

@[simp] theorem frameClear_bootFace (s : State) (f : Nat) : bootFace (frameClear s f).boot = bootFace s.boot := rfl

@[simp] theorem frameLine_bootFace (s : State) (f off : Nat) (data : Bytes) :
    bootFace (frameLine s f off data).boot = bootFace s.boot := rfl

@[simp] theorem mergeReplay_bootFace (s : State) (hs : Nat) :
    bootFace (mergeReplay s hs).boot = bootFace s.boot := by simp [mergeReplay]

@[simp] theorem releaseReads_bootFace (s : State) (hs : Nat) :
    bootFace (releaseReads s hs).boot = bootFace s.boot := by simp [releaseReads]

@[simp] theorem warmLoaded_bootFace (s : State) (hs : Nat) :
    bootFace (warmLoaded s hs).boot = bootFace s.boot := by simp [warmLoaded]

@[simp] theorem retryLoads_bootFace (s : State) : bootFace (retryLoads s).boot = bootFace s.boot := by simp [retryLoads]

@[simp] theorem frameFlush_bootFace (s : State) (f : Nat) :
    bootFace (frameFlush s f).boot = bootFace s.boot := by simp [frameFlush]

@[simp] theorem frameMoved_bootFace (s : State) (a b : Nat) :
    bootFace (frameMoved s a b).boot = bootFace s.boot := by simp -implicitDefEqProofs [frameMoved]

@[simp] theorem lenderSet_bootFace (s : State) (i : Nat) (l : Lender) : bootFace (lenderSet s i l).boot = bootFace s.boot := rfl

@[simp] theorem sendLeaseOpen_bootFace (s : State) (i : Nat) : bootFace (sendLeaseOpen s i).boot = bootFace s.boot := rfl

@[simp] theorem openLeases_bootFace (s : State) : bootFace (openLeases s).boot = bootFace s.boot := by simp [openLeases]

end Sys2Proof.Proofs
end

section
/-!
PROOFS. What the operations and the commands keep of READY (O52): its face and the phase of the Cinch.
-/
namespace Sys2Proof.Proofs
open Sys2Proof Sys2Proof.Machine Sys2Proof.Laws

/-- READY, where asserted, is asserted in a controller that may assert it: `may` says that it may at all. -/
def ReadyFits (may : Bool) (f : Bool × Nat × Bool × WarmPhase) (p : CinPhase) : Prop :=
  f.1 = true → may = true ∧ f.2.1 = 14 ∧ f.2.2.1 = false ∧ p ≠ .commit ∧ f.2.2.2 ≠ .draining

/-- What held of READY in a state holds at a face and a phase: `ReadyInv`, and that READY is not asserted. -/
def ReadyKept (s : State) (f : Bool × Nat × Bool × WarmPhase) (p : CinPhase) : Prop :=
  ∀ may, ReadyFits may (bootFace s.boot) s.cin.phase → ReadyFits may f p

/-- `ReadyKept` at a state. -/
@[simp] abbrev Kept (s t : State) : Prop := ReadyKept s (bootFace t.boot) t.cin.phase

/-- `Kept` under a name that simp does not unfold. -/
def KeptThere (s t : State) : Prop := Kept s t

/-- `KeptThere` is the end of a rewrite: simp does not rewrite its states. -/
@[congr] theorem keptThere_congr (s t : State) : KeptThere s t = KeptThere s t := rfl

/-- What held of READY in `s` holds in `t`, in a form that simp rewrites with: seen from any earlier state, `t` is where `s` is. -/
abbrev KeepsReady (s t : State) : Prop := ∀ r, Kept r t ↔ Kept r s ∨ KeptThere r t

/-- What else stands in the boot state is not part of its face. -/
@[simp] theorem bootFace_frame (b : Boot) (pd sn tw la mi ma wl dr wp ll sb : Bool) (ms sa st mk wm jm : Nat) (m : Mode) (so : BringupStop)
    (re : Retention) :
    bootFace ⟨b.porst, pd, ms, sn, tw, m, b.stage, so, la, sa, st, b.ready, mi, ma, b.warm, wl, dr, wp, re, ll, mk, wm, jm, sb⟩ =
      bootFace b := rfl

@[simp] theorem readyKept_refl (s : State) : ReadyKept s (bootFace s.boot) s.cin.phase := fun _ h => h

/-- Where READY is not asserted nothing is asked of it. -/
@[simp] theorem readyKept_notReady (s : State) (n : Nat) (p : Bool) (w : WarmPhase) (c : CinPhase) :
    ReadyKept s (false, n, p, w) c :=
  fun _ _ hr => by cases hr

theorem Kept.trans {r s t : State} (h1 : Kept r s) (h2 : Kept s t) : Kept r t := fun may h => h2 may (h1 may h)

theorem KeepsReady.of {s t : State} (h : Kept s t) : KeepsReady s t :=
  fun _ => ⟨.inr, fun hr => hr.elim (fun hs => hs.trans h) id⟩

theorem KeepsReady.kept {s t : State} (h : KeepsReady s t) : Kept s t := (h s).2 (.inl (readyKept_refl s))

theorem KeepsReady.refl (s : State) : KeepsReady s s := .of (readyKept_refl s)

theorem KeepsReady.trans {s t u : State} (h1 : KeepsReady s t) (h2 : KeepsReady t u) : KeepsReady s u :=
  .of (h1.kept.trans h2.kept)

theorem KeepsReady.ite {c : Prop} [Decidable c] {s a b : State} (ha : KeepsReady s a) (hb : KeepsReady s b) :
    KeepsReady s (if c then a else b) := by
  split
  · exact ha
  · exact hb

/-- Equal faces and phases. -/
theorem KeepsReady.of_eq {s t : State} (hb : bootFace t.boot = bootFace s.boot) (hp : t.cin.phase = s.cin.phase) :
    KeepsReady s t :=
  .of (by simp [hb, hp])

@[simp] theorem phase_ite (c : Prop) [Decidable c] (s t : State) :
    (if c then s else t).cin.phase = if c then s.cin.phase else t.cin.phase := apply_ite (fun s : State => s.cin.phase) ..

@[simp] theorem readyKept_ite (r : State) (c : Prop) [Decidable c] (f g : Bool × Nat × Bool × WarmPhase) (p q : CinPhase) :
    ReadyKept r (if c then f else g) (if c then p else q) ↔ if c then ReadyKept r f p else ReadyKept r g q := by
  split <;> rfl

/-- A loop whose every turn keeps it keeps it. -/
@[simp] theorem foldl_keepsReady {α : Type} (f : State → α → State) (l : List α) (s : State) (h : ∀ s a, Kept s (f s a)) :
    KeepsReady s (l.foldl f s) :=
  .of <| List.foldlRecOn (motive := fun t => Kept s t) l f (readyKept_refl s) fun t ht a _ => ht.trans (h t a)

theorem KeepsReady.foldl {α : Type} {f : State → α → State} {l : List α} {s u : State} (h0 : KeepsReady s u)
    (h : ∀ t a, KeepsReady t (f t a)) : KeepsReady s (l.foldl f u) :=
  List.foldlRecOn l f h0 fun _ ht a _ => ht.trans (h _ a)

/-- A loop that carries a value beside the state. -/
theorem foldl_snd_keepsReady {α β : Type} {f : β × State → α → β × State} {l : List α} {s : State} {p : β × State}
    (h0 : KeepsReady s p.2) (h : ∀ p a, KeepsReady p.2 (f p a).2) : KeepsReady s (l.foldl f p).2 :=
  List.foldlRecOn (motive := fun p => KeepsReady s p.2) l f h0 fun p hp a _ => hp.trans (h p a)

/-- A chain of steps each of which may refuse: where none refuses, what each step keeps stands at the end. -/
theorem foldl_bind_keepsReady {α : Type} {f : State → α → Option State} (hf : ∀ u a t, f u a = some t → KeepsReady u t) {l : List α}
    {s u t : State} (h0 : KeepsReady s u)
    (h : l.foldl (fun (o : Option State) a => o.bind (fun v => f v a)) (some u) = some t) : KeepsReady s t := by
  refine List.foldlRecOn (motive := fun o => ∀ t, o = some t → KeepsReady s t) l _ ?_ ?_ t h
  · intro t ht
    cases ht
    exact h0
  · intro o ho a _ t ht
    obtain ⟨v, hv, hva⟩ := Option.bind_eq_some_iff.1 ht
    exact (ho v hv).trans (hf v a t hva)

theorem keepsReady_getD {s : State} {o : Option State} (h : ∀ t, o = some t → KeepsReady s t) : KeepsReady s (o.getD s) := by
  cases o with
  | none => exact .refl s
  | some t => exact h t rfl

/-- The command's next state keeps what held of READY. -/
structure Orderly (s : State) (o : Host.Outcome State Fault Refusal) : Prop where
  kept : ∀ t, o = .next t → Kept s t

@[simp] theorem orderly_next (s t : State) : Orderly s (.next t) ↔ Kept s t :=
  ⟨fun h => h.kept t rfl, fun h => ⟨fun _ hu => by cases hu; exact h⟩⟩

theorem Orderly.of_keepsReady {s t : State} (h : KeepsReady s t) : Orderly s (.next t) := (orderly_next s t).2 h.kept

/-! ### Where READY cannot be asserted -/

theorem Kept.notReady {s t : State} (h : Kept s t) (hr : s.boot.ready = false) : t.boot.ready = false := by
  have := h false
  simpa [ReadyFits, bootFace, hr] using this

/-- From a state in which READY is not asserted it is enough that READY stays so. -/
theorem kept_iff_of_notReady {s t : State} (hr : s.boot.ready = false) : Kept s t ↔ t.boot.ready = false :=
  ⟨fun h => h.notReady hr, fun ht _ _ hf => by simp [bootFace, ht] at hf⟩

/-- So it is from a state in which READY may not be asserted. -/
theorem kept_of_unfit {s t : State} (hs : s.boot.stage = 14 → s.boot.porst = false → s.cin.phase ≠ .commit → s.boot.warm = .draining)
    (h : s.boot.ready = false → Kept s t) : Kept s t := by
  cases hr : s.boot.ready with
  | false => exact h hr
  | true =>
    intro may hf
    obtain ⟨-, hst, hp, hc, hw⟩ := hf hr
    exact absurd (hs hst hp hc) hw

/-! ### WARN and its end (R311, R312), and the end of power-up (R509) -/

/-- Of the phase only whether it is COMMIT counts. -/
theorem readyKept_congr {p q : CinPhase} (h : p = .commit ↔ q = .commit) (r : State) (f : Bool × Nat × Bool × WarmPhase) :
    ReadyKept r f p ↔ ReadyKept r f q := by
  simp only [ReadyKept, ReadyFits, ne_eq, h]

@[simp] theorem readyKept_warnEnter (r s : State) (f : Bool × Nat × Bool × WarmPhase) :
    ReadyKept r f (warnEnter s).cin.phase ↔ ReadyKept r f s.cin.phase := by
  refine readyKept_congr ?_ r f
  unfold warnEnter
  split
  next h => simp [h]
  · rfl

@[simp] theorem readyKept_warnStandDown (r s : State) (f : Bool × Nat × Bool × WarmPhase) :
    ReadyKept r f (warnStandDown s).cin.phase ↔ ReadyKept r f s.cin.phase := by
  refine readyKept_congr ?_ r f
  unfold warnStandDown
  split
  next h => simp [h]
  · rfl

/-- Power-up complete puts no step below 2, so that the last one stands. -/
theorem powerComplete_kept (s : State) : Kept s (powerComplete s) := fun _ h hr => by
  obtain ⟨hm, hst, hp, hc, hw⟩ := h hr
  have hst : s.boot.stage = 14 := hst
  exact ⟨hm, by simp [bootFace, powerComplete, hst], hp, hc, hw⟩

@[simp] theorem readyKept_powerComplete (r s : State) :
    ReadyKept r (bootFace (powerComplete s).boot) s.cin.phase ↔ ReadyKept r (bootFace s.boot) s.cin.phase ∨ KeptThere r (powerComplete s) :=
  KeepsReady.of (powerComplete_kept s) r

@[simp] theorem commitFault_phase (s : State) (n : Nat) : (commitFault s n).cin.phase = s.cin.phase := by
  simp [commitFault]

@[simp] theorem zeroSegs_phase (s : State) (first k obj : Nat) : (zeroSegs s first k obj).cin.phase = s.cin.phase := by
  simp [zeroSegs]

theorem ite_phase {c : Prop} [Decidable c] {p : CinPhase} {a b : State} (ha : a.cin.phase = p) (hb : b.cin.phase = p) :
    (if c then a else b).cin.phase = p := by
  split <;> assumption

/-- The frames as a variable: at the number that `poolReserve` puts there the kernel would begin to count. -/
theorem poolFrames_phase (s : State) (n t : Nat) :
    ({ s with cin := { s.cin with poolFrames := n }, tier := { s.tier with t1Frames := t } } : State).cin.phase = s.cin.phase := rfl

@[simp] theorem poolReserve_phase (s : State) : (poolReserve s).cin.phase = s.cin.phase := by
  have h2 := poolFrames_phase s ((s.twin.twinCap + 2 ^ 30) / 4096)
  exact ite_phase rfl (ite_phase (h2 _) (ite_phase (h2 _) rfl))

/-! ### Machine/Operands -/

theorem masterRefused_keepsReady {s t : State} {m off : Nat} (h : masterRefused s m off = some t) : KeepsReady s t := .of <| by
  unfold masterRefused at h
  split at h
  · cases h
    simp
  · split at h <;> cases h
    simp

/-! ### Machine/PersistOps -/

@[simp] theorem writeRound_keepsReady (s : State) (wid gl : Nat) (writer : Option Nat) (setB : Bool) :
    KeepsReady s (writeRound s wid gl writer setB).2 := .of <| by
  simp only [writeRound]
  repeat' split
  all_goals simp

theorem acceptWrite_keepsReady {s t : State} {who : Writer} {ld gl : Nat} {data : PLine} {pair setB : Bool}
    (h : acceptWrite s who ld gl data pair setB = some t) : KeepsReady s t := by
  unfold acceptWrite at h
  split at h
  · extract_lets _q _wid _mir _per s1 s2 s3 s4 _who at h
    have h3 : KeepsReady s s3 := .of <| by
      dsimp only [s3]
      split <;> simp [s2, s1]
    split at h
    rename_i h5
    cases h
    exact .of (by simp [eq_snd h5, s4, h3])
  · cases h

theorem skiveClose_keepsReady {s t : State} {e : SkiveLine} (h : skiveClose s e = some t) : KeepsReady s t := .of <| by
  unfold skiveClose at h
  split at h
  · cases h
    simp
  · cases h

/-! ### Machine/Reaction -/

/-- COMMIT entry deasserts READY at its start (R315). -/
@[simp] theorem commitMark_keepsReady (s : State) (trig : Nat) : KeepsReady s (commitMark s trig) :=
  .of (by simp [commitMark, bootFace])

@[simp] theorem enterCommit_keepsReady (s : State) (trig : Nat) : KeepsReady s (enterCommit s trig) := .of (by simp [enterCommit])

@[simp] theorem commitTrigger_keepsReady (s : State) (trig : Nat) : KeepsReady s (commitTrigger s trig) := .of <| by
  unfold commitTrigger
  split <;> simp

@[simp] theorem warmCauseSet_keepsReady (s : State) (c : WarmCause) : KeepsReady s (warmCauseSet s c) := .of <| by
  unfold warmCauseSet
  split <;> simp

/-- A warm reset deasserts READY at its start (R533). -/
@[simp] theorem startWarmReset_keepsReady (s : State) (c : WarmCause) : KeepsReady s (startWarmReset s c) := .of <| by
  unfold startWarmReset
  split
  · simp
  split
  · simp
  split
  · simp
  extract_lets s1 _s _b s2 _b2 s3
  have h2 : bootFace s2.boot = (false, s1.boot.stage, s1.boot.porst, .draining) := (closeWindow_bootFace _ 2).trans rfl
  split
  · simp [_b2, h2]
  · simp [s3, h2]

@[simp] theorem reactS5_keepsReady (s : State) (u : FUnit) (inst : Nat) :
    KeepsReady s (reactS5 s u inst) := .of (by simp [reactS5])

@[simp] theorem reactS4_keepsReady (s : State) (u : FUnit) (inst : Nat) :
    KeepsReady s (reactS4 s u inst) := .of (by simp [reactS4])

@[simp] theorem gradeFault_keepsReady (s0 : State) (u : FUnit) (code inst sev rung : Nat) :
    KeepsReady s0 (gradeFault s0 u code inst sev rung) := .of <| by
  unfold gradeFault
  repeat' split
  all_goals simp

@[simp] theorem reportFault_keepsReady (s : State) (u : FUnit) (code inst sev : Nat) (items : Bytes) :
    KeepsReady s (reportFault s u code inst sev items) := .of (by simp [reportFault])

@[simp] theorem fault_keepsReady (s : State) (u : FUnit) (ev : Ev) (inst : Nat) (items : Bytes) :
    KeepsReady s (fault s u ev inst items) := .of (by simp [fault])

/-! ### Machine/Tree -/

theorem execTreeFillDone_orderly (line : Nat) (s : State) : Orderly s (execTreeFillDone line s) := by
  simp only [execTreeFillDone]
  repeat' split
  all_goals simp

theorem execTreeWalkDone_orderly (e : Nat) (s : State) : Orderly s (execTreeWalkDone e s) := by simp [execTreeWalkDone]

theorem execClean_orderly (s : State) : Orderly s (execClean s) := by simp [execClean]

theorem execCleanInv_orderly (s : State) : Orderly s (execCleanInv s) := by simp [execCleanInv]

theorem execInv_orderly (s : State) : Orderly s (execInv s) := by simp [execInv]

theorem execTreMaintAbort_orderly (reached : Nat) (s : State) : Orderly s (execTreMaintAbort reached s) := by
  unfold execTreMaintAbort
  split <;> simp

theorem execTreMaintDone_orderly (s : State) : Orderly s (execTreMaintDone s) := by
  unfold execTreMaintDone
  split <;> simp

/-! ### Machine/DramCtl -/

theorem execDramArbitrate_orderly (ch : Fin 16) (subB : Bool) (s : State) : Orderly s (execDramArbitrate ch subB s) := by
  simp only [execDramArbitrate]
  repeat' split
  all_goals simp

theorem execDramWriteEnqueue_orderly (line : Nat) (s : State) : Orderly s (execDramWriteEnqueue line s) := by
  unfold execDramWriteEnqueue
  split <;> simp

@[simp] theorem countDevice_keepsReady (s : State) (ch rank dev : Nat) : KeepsReady s (countDevice s ch rank dev) := .of <| by
  unfold countDevice
  dsimp only
  repeat' split
  all_goals simp

@[simp] theorem correctLine_keepsReady (s : State) (ch line dev rank : Nat) (data : Bytes) :
    KeepsReady s (correctLine s ch line dev rank data) := .of (by simp -implicitDefEqProofs [correctLine])

@[simp] theorem mapLineLost_keepsReady (s : State) (k : Nat) :
    KeepsReady s (mapLineLost s k) := .of (by simp -implicitDefEqProofs [mapLineLost])

@[simp] theorem resolveLine_keepsReady (s : State) (ch line : Nat) (pool map : Option Nat) :
    KeepsReady s (resolveLine s ch line pool map) := .of <| by
  simp only [resolveLine]
  repeat' split
  all_goals simp

@[simp] theorem retireFrame_keepsReady (s : State) (ch line : Nat) : KeepsReady s (retireFrame s ch line) := .of <| by
  unfold retireFrame
  split <;> simp

theorem execDramReadReturn_orderly (ch : Fin 16) (subB : Bool) (res : EccResult) (pool map : Option Nat) (s : State) :
    Orderly s (execDramReadReturn ch subB res pool map s) := by
  simp only [execDramReadReturn]
  repeat' split
  all_goals simp

theorem execDramRefreshDue_orderly (ch : Fin 16) (subB : Bool) (s : State) :
    Orderly s (execDramRefreshDue ch subB s) := by simp [execDramRefreshDue]

theorem execDimmTempPoll_orderly (ch : Fin 16) (dimm : Fin 2) (first retry : SmbAnswer) (s : State) :
    Orderly s (execDimmTempPoll ch dimm first retry s) := by
  simp only [execDimmTempPoll]
  repeat' split
  all_goals simp

theorem execDramRetrainDone_orderly (ch : Fin 16) (pass : Bool) (s : State) :
    Orderly s (execDramRetrainDone ch pass s) := by
  unfold execDramRetrainDone
  repeat' split
  all_goals simp

@[simp] theorem scrubChan_keepsReady (s : State) (ch : Nat) : KeepsReady s (scrubChan s ch) := .of (by simp [scrubChan])

@[simp] theorem scrubTick_keepsReady (s : State) : KeepsReady s (scrubTick s) := .of (by simp [scrubTick])

/-! ### Machine/SramOps -/

@[simp] theorem weltOutcome_keepsReady (s : State) (gl : Nat) (skive poisoned : Bool) :
    KeepsReady s (weltOutcome s gl skive poisoned) := .of (by simp [weltOutcome])

@[simp] theorem weltError_keepsReady (s : State) (gl k : Nat) (unc : Bool) : KeepsReady s (weltError s gl k unc) := .of <| by
  unfold weltError
  repeat' split
  all_goals simp

@[simp] theorem weltRepaired_keepsReady (s : State) (r : WeltRepair) (b : Option Byte) :
    KeepsReady s (weltRepaired s r b) := .of <| by
  unfold weltRepaired
  repeat' split
  all_goals simp

@[simp] theorem treeCorrected_keepsReady (s : State) (t : TreeLine) : KeepsReady s (treeCorrected s t) := .of <| by
  unfold treeCorrected
  dsimp only
  repeat' split
  all_goals simp

@[simp] theorem treePoisoned_keepsReady (s : State) (dl : Nat) : KeepsReady s (treePoisoned s dl) := .of <| by
  unfold treePoisoned
  split <;> simp

@[simp] theorem treeUncorrectable_keepsReady (s : State) (t : TreeLine) (stateLost : Bool) :
    KeepsReady s (treeUncorrectable s t stateLost) := .of <| by
  simp only [treeUncorrectable]
  repeat' split
  all_goals simp

@[simp] theorem treeRepaired_keepsReady (s : State) (ch dl : Nat) (data : Bytes) :
    KeepsReady s (treeRepaired s ch dl data) := .of <| by
  simp only [treeRepaired]
  repeat' split
  all_goals simp

@[simp] theorem treeRepairLost_keepsReady (s : State) (ch dl : Nat) :
    KeepsReady s (treeRepairLost s ch dl) := .of (by simp [treeRepairLost])

@[simp] theorem sramFound_keepsReady (s : State) (gl : Nat) (e : SramErr) : KeepsReady s (sramFound s gl e) := .of <| by
  unfold sramFound
  repeat' split
  all_goals simp

/-! ### Machine/TwinLink -/

@[simp] theorem mirrorIn_keepsReady (s : State) (f : MirFrame) (code : Nat) : KeepsReady s (mirrorIn s f code) := .of <| by
  unfold mirrorIn
  repeat' split
  all_goals simp

theorem execMirror_orderly (seq line mask : Nat) (data : Bytes) (s : State) :
    Orderly s (execMirror seq line mask data s) := by simp [execMirror]

theorem execMirrorFull_orderly (seq line : Nat) (data : Bytes) (s : State) :
    Orderly s (execMirrorFull seq line data s) := by simp [execMirrorFull]

theorem execMirrorAck_orderly (upto : Nat) (s : State) : Orderly s (execMirrorAck upto s) := by simp [execMirrorAck]

theorem execRelease_orderly (chunk mask cut : Nat) (s : State) : Orderly s (execRelease chunk mask cut s) := by simp [execRelease]

theorem execRepairReq_orderly (line tag : Nat) (s : State) : Orderly s (execRepairReq line tag s) := by
  unfold execRepairReq
  repeat' split
  all_goals simp

@[simp] theorem repairLost_keepsReady (s : State) (ch : Nat) (r : Repair) : KeepsReady s (repairLost s ch r) := .of <| by
  simp only [repairLost]
  repeat' split
  all_goals simp

theorem execRepairRsp_orderly (tag mask : Nat) (data : Bytes) (s : State) : Orderly s (execRepairRsp tag mask data s) := by
  unfold execRepairRsp
  repeat' split
  all_goals simp

theorem execRemirror_orderly (line : Nat) (s : State) : Orderly s (execRemirror line s) := by
  unfold execRemirror
  repeat' split
  all_goals simp

theorem execJournal_orderly (seq : Nat) (e : JournalEntry) (s : State) : Orderly s (execJournal seq e s) := by simp [execJournal]

theorem execJournalAck_orderly (seq : Nat) (s : State) :
    Orderly s (execJournalAck seq s) := by simp -implicitDefEqProofs [execJournalAck]

theorem execZoneReq_orderly (wanted : Nat) (s : State) : Orderly s (execZoneReq wanted s) := by simp [execZoneReq]

theorem execZoneGrant_orderly (zones : List Nat) (epoch : Nat) (s : State) : Orderly s (execZoneGrant zones epoch s) := by
  simp [execZoneGrant]

theorem execZoneAck_orderly (zones : List Nat) (s : State) : Orderly s (execZoneAck zones s) := by simp [execZoneAck]

theorem execBarrierReq_orderly (tag level : Nat) (s : State) : Orderly s (execBarrierReq tag level s) := by simp [execBarrierReq]

theorem execBarrierDone_orderly (tag st : Nat) (s : State) : Orderly s (execBarrierDone tag st s) := by simp [execBarrierDone]

theorem execStirrupUp_orderly (lanes : Nat) (s : State) : Orderly s (execStirrupUp lanes s) := by
  unfold execStirrupUp
  repeat' split
  all_goals simp

@[simp] theorem linkLost_keepsReady (s : State) : KeepsReady s (linkLost s) := .of (by simp [linkLost])

theorem execStirrupDown_orderly (s : State) : Orderly s (execStirrupDown s) := by simp [execStirrupDown]

theorem execStpRetrain_orderly (s : State) : Orderly s (execStpRetrain s) := by simp [execStpRetrain]

theorem execHeartbeatLossRetrain_orderly (s : State) : Orderly s (execHeartbeatLossRetrain s) := by
  unfold execHeartbeatLossRetrain
  repeat' split
  all_goals simp

@[simp] theorem startResync_keepsReady (s : State) : KeepsReady s (startResync s) := .of <| by
  unfold startResync
  extract_lets _tw s0 s1 _tw1 s2
  have h0 : KeepsReady s s0 := .of (by simp [s0])
  have h1 : KeepsReady s s1 := .foldl h0 fun t gl => .of <| by
    repeat' split
    all_goals simp
  have h2 : KeepsReady s1 s2 := .of (by simp [s2])
  clear_value s1 s2
  split <;> simp [h2, h1]

@[simp] theorem handshake_keepsReady (s : State) : KeepsReady s (handshake s) := .of (by simp -implicitDefEqProofs [handshake])

theorem execHello_orderly (h : HelloFrame) (s : State) : Orderly s (execHello h s) := by
  simp only [execHello]
  repeat' split
  all_goals simp

theorem execHeartbeat_orderly (h : HeartbeatFrame) (s : State) : Orderly s (execHeartbeat h s) := by
  unfold execHeartbeat
  rw [orderly_next]
  split
  · simp
  · extract_lets _d _mis _run _tw s1 _lck s2 _lck2 s3 s4 _cin s5
    have h2 : KeepsReady s s2 := .of_eq rfl rfl
    have h3 : KeepsReady s2 s3 := by
      dsimp only [s3]
      split <;> exact .of_eq rfl rfl
    have h4 : KeepsReady s3 s4 := .of (by simp [s4])
    have h5 : KeepsReady s4 s5 := .of (by simp [s5, _cin])
    clear_value s2 s3 s4 s5
    repeat' split
    all_goals simp [h5, h4, h3, h2]

theorem execHandoverBegin_orderly (s : State) : Orderly s (execHandoverBegin s) := by
  unfold execHandoverBegin
  repeat' split
  all_goals simp

theorem execHandoverDone_orderly (s : State) : Orderly s (execHandoverDone s) := by simp [execHandoverDone]

@[simp] theorem claimGo_keepsReady (s : State) : KeepsReady s (claimGo s) := .of <| by
  simp only [claimGo]
  repeat' split
  all_goals simp

@[simp] theorem claimStart_keepsReady (s : State) (twinKnown : Bool) : KeepsReady s (claimStart s twinKnown) := .of <| by
  unfold claimStart
  repeat' split
  all_goals simp

theorem execTwinFailed_orderly (s : State) : Orderly s (execTwinFailed s) := by
  unfold execTwinFailed
  repeat' split
  all_goals simp

theorem execClaimDelayExpired_orderly (s : State) : Orderly s (execClaimDelayExpired s) := by
  unfold execClaimDelayExpired
  repeat' split
  all_goals simp

theorem execReservationPreemptDone_orderly (slot : Fin 24) (ok : Bool) (s : State) :
    Orderly s (execReservationPreemptDone slot ok s) := by
  unfold execReservationPreemptDone
  split <;> simp -implicitDefEqProofs

theorem execClaimRetry_orderly (s : State) : Orderly s (execClaimRetry s) := by
  unfold execClaimRetry
  repeat' split
  all_goals simp

theorem execLeaseSlotWrite_orderly (s : State) :
    Orderly s (execLeaseSlotWrite s) := by simp -implicitDefEqProofs [execLeaseSlotWrite]

theorem execHandoverLeaseStale_orderly (s : State) : Orderly s (execHandoverLeaseStale s) := by
  unfold execHandoverLeaseStale
  repeat' split
  all_goals simp

theorem execTwinWaitExpired_orderly (lease : Option (Nat × Nat)) (s : State) :
    Orderly s (execTwinWaitExpired lease s) := by simp [execTwinWaitExpired]

theorem execTwinLeaseRecheck_orderly (lease : Option (Nat × Nat)) (s : State) : Orderly s (execTwinLeaseRecheck lease s) := by
  unfold execTwinLeaseRecheck
  repeat' split
  all_goals simp [twinSet]

theorem execFailbackReq_orderly (s : State) : Orderly s (execFailbackReq s) := by simp [execFailbackReq]

theorem execFailbackReady_orderly (epoch : Nat) (s : State) :
    Orderly s (execFailbackReady epoch s) := by simp -implicitDefEqProofs [execFailbackReady]

theorem execFailbackDone_orderly (s : State) : Orderly s (execFailbackDone s) := by simp -implicitDefEqProofs [execFailbackDone]

theorem execViolation_orderly (cause code : Nat) (s : State) :
    Orderly s (execViolation cause code s) := by simp -implicitDefEqProofs [execViolation]

theorem execPartnerContainmentEnd_orderly (p : Partner) (s : State) : Orderly s (execPartnerContainmentEnd p s) := by
  unfold execPartnerContainmentEnd
  repeat' split
  all_goals simp

/-! ### Machine/AwlOps -/

@[simp] theorem setUpdate_keepsReady (s : State) (n : Nat) : KeepsReady s (setUpdate s n) := .of <| by
  simp only [setUpdate]
  repeat' split
  all_goals simp

@[simp] theorem memberFailed_keepsReady (s : State) (slot cause : Nat) : KeepsReady s (memberFailed s slot cause) := .of <| by
  simp only [memberFailed]
  repeat' split
  all_goals simp

theorem takeStripe_keepsReady {s t : State} {n k : Nat} (h : takeStripe s n = some (k, t)) : KeepsReady s t := by
  unfold takeStripe at h
  dsimp only at h
  split at h
  · cases h
    exact .of_eq rfl rfl
  · split at h <;> cases h
    exact .of_eq rfl rfl

@[simp] theorem poisonSector_keepsReady (s : State) (n chunk sector : Nat) :
    KeepsReady s (poisonSector s n chunk sector) := .of <| by
  unfold poisonSector
  dsimp only
  repeat' split
  all_goals simp

/-! ### Machine/Drives -/

theorem execDriveInserted_orderly (slot : Fin 24) (info : DriveInfo) (s : State) : Orderly s (execDriveInserted slot info s) := by
  unfold execDriveInserted
  repeat' split
  all_goals simp

theorem execDriveRemoved_orderly (slot : Fin 24) (s : State) : Orderly s (execDriveRemoved slot s) := by
  simp only [execDriveRemoved]
  repeat' split
  all_goals simp

@[simp] theorem readFailed_keepsReady (s : State) (slot n stripe unit sector : Nat) :
    KeepsReady s (readFailed s slot n stripe unit sector) := .of <| by
  unfold readFailed
  repeat' split
  all_goals simp

@[simp] theorem cmdFailed_keepsReady (s : State) (slot sector : Nat) (c : DriveCmd) :
    KeepsReady s (cmdFailed s slot sector c) := .of <| by
  unfold cmdFailed
  split <;> simp

theorem execDriveCommandComplete_orderly (slot : Fin 24) (id : Nat) (res : DriveResult) (s : State) :
    Orderly s (execDriveCommandComplete slot id res s) := by
  simp only [execDriveCommandComplete]
  repeat' split
  all_goals simp -implicitDefEqProofs

theorem execDriveCommandTimeout_orderly (slot : Fin 24) (id : Nat) (s : State) :
    Orderly s (execDriveCommandTimeout slot id s) := by
  unfold execDriveCommandTimeout
  dsimp only
  repeat' split
  all_goals simp

theorem execDriveResetTimeout_orderly (slot : Fin 24) (s : State) : Orderly s (execDriveResetTimeout slot s) := by
  unfold execDriveResetTimeout
  repeat' split
  all_goals simp

theorem execReadShortcutExpired_orderly (slot : Fin 24) (id : Nat) (s : State) :
    Orderly s (execReadShortcutExpired slot id s) := by
  unfold execReadShortcutExpired
  repeat' split
  all_goals simp

theorem execDriveAsyncEvent_orderly (slot : Fin 24) (spareLow readOnly backupFailed : Bool) (s : State) :
    Orderly s (execDriveAsyncEvent slot spareLow readOnly backupFailed s) := by
  unfold execDriveAsyncEvent
  repeat' split
  all_goals simp

theorem execDriveLinkChange_orderly (slot : Fin 24) (up : Bool) (width : Nat) (gen5 : Bool) (s : State) :
    Orderly s (execDriveLinkChange slot up width gen5 s) := by simp [execDriveLinkChange]

theorem execDriveLinkDownExpired_orderly (slot : Fin 24) (s : State) : Orderly s (execDriveLinkDownExpired slot s) := by
  simp only [execDriveLinkDownExpired]
  repeat' split
  all_goals simp

theorem execForceFail_orderly (slot : Fin 24) (s : State) : Orderly s (execForceFail slot s) := by simp [execForceFail]

theorem execRebuildStart_orderly (n : Fin 8) (s : State) : Orderly s (execRebuildStart n s) := by
  unfold execRebuildStart
  repeat' split
  all_goals simp

@[simp] theorem rebuildEnd_keepsReady (s : State) (n : Nat) (r : Rebuild) : KeepsReady s (rebuildEnd s n r) := .of <| by
  simp only [rebuildEnd]
  repeat' split
  all_goals simp

@[simp] theorem relocateStripe_keepsReady (s : State) (n stripe : Nat) (bad : List (Nat × Nat)) :
    KeepsReady s (relocateStripe s n stripe bad) := .of <| by
  unfold relocateStripe
  extract_lets +onlyGivenNames _live s1
  have h1 : KeepsReady s s1 := .foldl (.refl s) fun t b => .of (by split <;> simp)
  clear_value s1
  simp [h1]

theorem execRebuildStripe_orderly (n : Fin 8) (stripe unit : Nat) (readable : Bool) (bad : List (Nat × Nat)) (last : Bool) (s : State) :
    
    Orderly s (execRebuildStripe n stripe unit readable bad last s) := by
  unfold execRebuildStripe
  repeat' split
  all_goals simp

/-! ### Machine/Drain -/

@[simp] theorem holdupCheck_keepsReady (s : State) : KeepsReady s (holdupCheck s) := .of <| by
  unfold holdupCheck
  dsimp only
  repeat' split
  all_goals simp

theorem execHoldupSmbusPoll_orderly (first retry : SmbAnswer) (s : State) : Orderly s (execHoldupSmbusPoll first retry s) := by
  simp only [execHoldupSmbusPoll]
  repeat' split
  all_goals simp

theorem execHoldupSenseSample_orderly (uv : Nat) (s : State) :
    Orderly s (execHoldupSenseSample uv s) := by simp [execHoldupSenseSample]

@[simp] theorem cleanChunk_keepsReady (s : State) (c : Nat) : KeepsReady s (cleanChunk s c) := .of (by simp [cleanChunk])

@[simp] theorem takeChunk_keepsReady (s : State) (c : Nat) : KeepsReady s (takeChunk s c) := .of (by simp [takeChunk])

theorem execDrainTakeChunk_orderly (s : State) : Orderly s (execDrainTakeChunk s) := by
  unfold execDrainTakeChunk
  repeat' split
  all_goals simp

@[simp] theorem zonesExhausted_keepsReady (s : State) : KeepsReady s (zonesExhausted s) := .of <| by
  unfold zonesExhausted
  repeat' split
  all_goals simp

@[simp] theorem journalFull_keepsReady (s : State) : KeepsReady s (journalFull s) := .of <| by
  unfold journalFull
  repeat' split
  all_goals simp

theorem execStripeWrite_orderly (relocate : Bool) (s : State) : Orderly s (execStripeWrite relocate s) := by
  unfold execStripeWrite
  rw [orderly_next]
  extract_lets cs
  split
  · simp
  split
  · simp
  dsimp only
  split
  · simp
  split
  · simp
  split <;> rename_i h
  · simp
  · cases relocate <;> simp [takeStripe_keepsReady h]

theorem execStripeCommit_orderly (n : Fin 8) (stripe : Nat) (s : State) : Orderly s (execStripeCommit n stripe s) := by
  unfold execStripeCommit
  split <;> simp

@[simp] theorem abandonStripe_keepsReady (s : State) (x : Stripe) : KeepsReady s (abandonStripe s x) := .of <| by
  simp only [abandonStripe]
  repeat' split
  all_goals simp

theorem execStripeWriteFailed_orderly (n : Fin 8) (stripe col : Nat) (s : State) :
    Orderly s (execStripeWriteFailed n stripe col s) := by
  unfold execStripeWriteFailed
  repeat' split
  all_goals simp

theorem execZoneReclaim_orderly (zone : Nat) (s : State) : Orderly s (execZoneReclaim zone s) := by simp [execZoneReclaim]

/-! ### Machine/HostPorts -/

@[simp] theorem skiveAccept_keepsReady (s : State) (p ld tag gl : Nat) (data : PLine) :
    KeepsReady s (skiveAccept s p ld tag gl data) := .of <| by
  unfold skiveAccept
  extract_lets q make
  have hm : ∀ s0, make = some s0 → KeepsReady s s0 := by
    intro s0 h
    dsimp only [make] at h
    repeat' split at h
    all_goals first | (cases h; done) | exact skiveClose_keepsReady h | (cases h; exact .refl s)
  clear_value make
  split
  · simp
  · rename_i s0
    extract_lets _per s1 old d mir e s1a _per1 s2 s3 s4 wid _host s5 s6
    have h2 : KeepsReady s0 s2 := .of (by simp [s2, s1a, s1])
    have h3 : KeepsReady s2 s3 := .of (by dsimp only [s3]; split <;> simp)
    have h4 : KeepsReady s3 s4 := .of (by simp [s4])
    have h6 : KeepsReady s4 s6 := .of (by simp [s6, s5])
    clear_value s2 s3 s4 s6
    simp [h6, h4, h3, h2, hm s0 rfl]

@[simp] theorem hostWrite_keepsReady (p ldid tag hpa mask meta_ : Nat) (data : Bytes) (s : State) :
    KeepsReady s (hostWrite p ldid tag hpa mask meta_ data s) := .of <| by
  unfold hostWrite
  dsimp only
  split
  · simp
  · simp
  · split
    · simp
    · split <;> rename_i h
      · simp [acceptWrite_keepsReady h]
      · simp

theorem execHostWrite_orderly (port : Fin 16) (ldid : Fin 16) (tag hpa mask meta_ : Nat) (data : Bytes) (s : State) :
    Orderly s (execHostWrite port ldid tag hpa mask meta_ data s) := by simp [execHostWrite]

theorem execStreamWrite_orderly (port : Fin 16) (ldid : Fin 16) (tag hpa mask : Nat) (data : Bytes) (s : State) :
    Orderly s (execStreamWrite port ldid tag hpa mask data s) := by simp [execStreamWrite]

theorem execHostRead_orderly (port : Fin 16) (ldid : Fin 16) (tag hpa meta_ : Nat) (err : SramErr) (s : State) :
    Orderly s (execHostRead port ldid tag hpa meta_ err s) := by
  unfold execHostRead
  split <;> simp

theorem execHdmDecoderCommit_orderly (n : Fin 64) (idx : Fin 4) (base size skip ways gran : Nat) (bi lock : Bool) (s : State) :
    Orderly s (execHdmDecoderCommit n idx base size skip ways gran bi lock s) := by simp [execHdmDecoderCommit]

theorem execHostLinkUp_orderly (port : Fin 16) (width : Nat) (rate64 flit68 : Bool) (s : State) :
    Orderly s (execHostLinkUp port width rate64 flit68 s) := by simp -implicitDefEqProofs [execHostLinkUp]

theorem execHostLinkDown_orderly (port : Fin 16) (s : State) : Orderly s (execHostLinkDown port s) := by simp [execHostLinkDown]

theorem execHptPortEnableChange_orderly (port : Fin 16) (on : Bool) (s : State) :
    Orderly s (execHptPortEnableChange port on s) := by simp [execHptPortEnableChange]

theorem execHptLdEnableChange_orderly (n : Fin 64) (on : Bool) (s : State) :
    Orderly s (execHptLdEnableChange n on s) := by simp [execHptLdEnableChange]

theorem execDoorbellAddrWrite_orderly (n : Fin 64) (slot : Fin 64) (off value : Nat) (s : State) :
    Orderly s (execDoorbellAddrWrite n slot off value s) := by simp [execDoorbellAddrWrite]

theorem execDoorbellRing_orderly (n : Fin 64) (slot : Fin 64) (word bits : Nat) (s : State) :
    Orderly s (execDoorbellRing n slot word bits s) := by simp [execDoorbellRing]

/-! ### Machine/Objects -/

@[simp] theorem vendorCmd_keepsReady (s : State) (n : Nat) (run : State → State) (h : Kept s (run s)) :
    KeepsReady s (vendorCmd s n run) := .of <| by
  simp [vendorCmd, KeepsReady.of h]

theorem execObjectCreate_orderly (n : Fin 64) (offset size cls policy flags : Nat) (s : State) :
    Orderly s (execObjectCreate n offset size cls policy flags s) := by
  refine .of_keepsReady (vendorCmd_keepsReady s n _ ?_)
  dsimp only
  repeat' split
  all_goals simp

@[simp] theorem objectCmd_keepsReady (s : State) (n id : Nat) (run : State → Nat × Nat → State) (h : ∀ r, Kept s (run s r)) :
    KeepsReady s (objectCmd s n id run) := .of <| by
  unfold objectCmd
  split
  · simp
  · rename_i r _
    simp [KeepsReady.of (h r)]

theorem execObjectDestroy_orderly (n : Fin 64) (id : Nat) (s : State) :
    Orderly s (execObjectDestroy n id s) := by simp [execObjectDestroy]

theorem execObjectQuery_orderly (n : Fin 64) (id : Nat) (s : State) :
    Orderly s (execObjectQuery n id s) := by simp -implicitDefEqProofs [execObjectQuery]

theorem execObjectSetPolicy_orderly (n : Fin 64) (id policy flags : Nat) (s : State) :
    Orderly s (execObjectSetPolicy n id policy flags s) := by
  refine .of_keepsReady (vendorCmd_keepsReady s n _ (KeepsReady.kept (objectCmd_keepsReady s n id _ fun r => ?_)))
  split
  · simp
  extract_lets _ten _away _tier s1 s2 s3
  split
  · simp
  have h1 : KeepsReady s s1 := .of (by dsimp only [s1]; split <;> simp)
  have h2 : KeepsReady s1 s2 := .of (by simp [s2])
  have h3 : KeepsReady s2 s3 := .of (by simp [s3])
  clear_value s1 s2 s3
  simp [h3, h2, h1]

theorem execStreamOpen_orderly (n : Fin 64) (object desc start window mode flags deadline : Nat) (far : List (Nat × Bytes))
    (s : State) : Orderly s (execStreamOpen n object desc start window mode flags deadline far s) := by
  refine .of_keepsReady (vendorCmd_keepsReady s n _ (KeepsReady.kept (objectCmd_keepsReady s n object _ fun r => ?_)))
  dsimp only
  repeat' split
  all_goals simp

theorem execStreamClose_orderly (n : Fin 64) (id : Nat) (s : State) : Orderly s (execStreamClose n id s) := by
  refine .of_keepsReady (vendorCmd_keepsReady s n _ ?_)
  repeat' split
  all_goals simp

theorem execLayerDone_orderly (n : Fin 64) (slot : Fin 64) (word : Nat) (s : State) :
    Orderly s (execLayerDone n slot word s) := by
  unfold execLayerDone
  split <;> simp

theorem execStreamDeadline_orderly (line : Nat) (s : State) :
    Orderly s (execStreamDeadline line s) := by simp [execStreamDeadline]

theorem execLoadLate_orderly (line : Nat) (s : State) : Orderly s (execLoadLate line s) := by
  unfold execLoadLate
  dsimp only
  repeat' split
  all_goals simp

/-! ### Machine/CipherOps -/

@[simp] theorem keyReload_keepsReady (s : State) : KeepsReady s (keyReload s) := .of <| by
  unfold keyReload
  split <;> simp

@[simp] theorem coreIsolate_keepsReady (s : State) (c : Nat) : KeepsReady s (coreIsolate s c) := .of (by simp [coreIsolate])

/-! ### Machine/Latigo -/

@[simp] theorem latCmd_keepsReady (s : State) (who : Issuer) (slot tag : Nat) (run : State → Status × (Bytes × State))
    (h : Kept s (run s).2.2) : KeepsReady s (latCmd s who slot tag run) := .of <| by
  unfold latCmd
  extract_lets own r
  clear_value own
  simp [r, KeepsReady.of h]

@[simp] theorem no_keepsReady (s : State) (st : Status) : KeepsReady s (no s st).2.2 := .of (by simp [no])

theorem execPdAlloc_orderly (who : Issuer) (slot : Fin 128) (tag tenant : Nat) (s : State) :
    Orderly s (execPdAlloc who slot tag tenant s) := by
  refine .of_keepsReady (latCmd_keepsReady s _ _ _ _ ?_)
  repeat' split
  all_goals simp

theorem execPdFree_orderly (who : Issuer) (slot : Fin 128) (tag pd : Nat) (s : State) :
    Orderly s (execPdFree who slot tag pd s) := by
  refine .of_keepsReady (latCmd_keepsReady s _ _ _ _ ?_)
  repeat' split
  all_goals simp

theorem execCqCreate_orderly (who : Issuer) (slot : Fin 128) (tag owner dpa entries qslot : Nat) (s : State) :
    Orderly s (execCqCreate who slot tag owner dpa entries qslot s) := by
  refine .of_keepsReady (latCmd_keepsReady s _ _ _ _ ?_)
  repeat' split
  all_goals simp

theorem execCqDestroy_orderly (who : Issuer) (slot : Fin 128) (tag cq : Nat) (s : State) :
    Orderly s (execCqDestroy who slot tag cq s) := by
  refine .of_keepsReady (latCmd_keepsReady s _ _ _ _ ?_)
  repeat' split
  all_goals simp

@[simp] theorem evictFrom_keepsReady (s : State) (ids : List Nat) : KeepsReady s (evictFrom s ids) := by
  induction ids generalizing s with
  | nil => exact .refl s
  | cons id r ih =>
    rw [evictFrom]
    split
    · exact ih s
    · dsimp only
      split
      · exact .of (by simp)
      · exact .trans (.of (by simp)) (ih _)

theorem execContextEvict_orderly (s : State) : Orderly s (execContextEvict s) := by
  unfold execContextEvict
  repeat' split
  all_goals simp

theorem execConnCreate_orderly (who : Issuer) (slot : Fin 128) (tag : Nat) (p : ConnParams) (s : State) :
    Orderly s (execConnCreate who slot tag p s) := by
  refine .of_keepsReady (latCmd_keepsReady s _ _ _ _ ?_)
  iterate 4
    split
    · simp
  extract_lets s1
  have h1 : KeepsReady s s1 := .of (by simp [s1])
  clear_value s1
  split
  · simp [h1]
  split <;> simp [h1]

@[simp] theorem connCmd_keepsReady (s : State) (who : Issuer) (id : Nat) (run : State → Conn → Status × (Bytes × State))
    (h : ∀ c, Kept s (run s c).2.2) : KeepsReady s (connCmd s who id run).2.2 := .of <| by
  unfold connCmd
  split
  · simp
  · split
    · exact h _
    · simp

theorem execConnModifyError_orderly (who : Issuer) (slot : Fin 128) (tag id : Nat) (s : State) :
    Orderly s (execConnModifyError who slot tag id s) := by simp [execConnModifyError]

theorem execConnModifyTxKey_orderly (who : Issuer) (slot : Fin 128) (tag id key salt : Nat) (s : State) :
    Orderly s (execConnModifyTxKey who slot tag id key salt s) := by
  refine .of_keepsReady (latCmd_keepsReady s _ _ _ _ (connCmd_keepsReady s _ _ _ fun c => ?_).kept)
  repeat' split
  all_goals simp

theorem execConnModifyRxKey_orderly (who : Issuer) (slot : Fin 128) (tag id phase key : Nat) (s : State) :
    Orderly s (execConnModifyRxKey who slot tag id phase key s) := by
  refine .of_keepsReady (latCmd_keepsReady s _ _ _ _ (connCmd_keepsReady s _ _ _ fun c => ?_).kept)
  repeat' split
  all_goals simp

theorem execConnDestroy_orderly (who : Issuer) (slot : Fin 128) (tag id : Nat) (s : State) :
    Orderly s (execConnDestroy who slot tag id s) := by
  refine .of_keepsReady (latCmd_keepsReady s _ _ _ _ (connCmd_keepsReady s _ _ _ fun c => ?_).kept)
  repeat' split
  all_goals simp

theorem execRegionRegister_orderly (who : Issuer) (slot : Fin 128) (tag owner pd base len acc : Nat) (s : State) :
    Orderly s (execRegionRegister who slot tag owner pd base len acc s) := by
  refine .of_keepsReady (latCmd_keepsReady s _ _ _ _ ?_)
  split
  · simp
  split
  · simp
  dsimp only
  split <;> simp

theorem execRegionRevoke_orderly (who : Issuer) (slot : Fin 128) (tag rkey : Nat) (s : State) :
    Orderly s (execRegionRevoke who slot tag rkey s) := by
  unfold execRegionRevoke
  dsimp only
  split
  · exact .of_keepsReady (.ite (.of (by simp)) (latCmd_keepsReady s _ _ _ _ (by split_ifs <;> simp)))
  · simp

theorem execRevokeForced_orderly (k : Nat) (s : State) : Orderly s (execRevokeForced k s) := by
  simp only [execRevokeForced]
  repeat' split
  all_goals simp

theorem execSqTail_orderly (n : Fin 64) (qslot : Nat) (value : Word) (s : State) : Orderly s (execSqTail n qslot value s) := by
  unfold execSqTail
  split <;> simp

theorem execRqTail_orderly (n : Fin 64) (qslot : Nat) (value : Word) (s : State) : Orderly s (execRqTail n qslot value s) := by
  unfold execRqTail
  split <;> simp

theorem execCqHead_orderly (n : Fin 64) (qslot : Nat) (value : Word) (s : State) : Orderly s (execCqHead n qslot value s) := by
  unfold execCqHead
  split <;> simp

@[simp] theorem startWqe_keepsReady (s : State) (id op : Nat) (far : Bytes) : KeepsReady s (startWqe s id op far) := .of <| by
  simp only [startWqe]
  repeat' split
  all_goals simp

theorem execWqeNop_orderly (id : Nat) (far : Bytes) (s : State) : Orderly s (execWqeNop id far s) := by simp [execWqeNop]

theorem execWqeWrite_orderly (id : Nat) (far : Bytes) (s : State) : Orderly s (execWqeWrite id far s) := by simp [execWqeWrite]

theorem execWqeRead_orderly (id : Nat) (far : Bytes) (s : State) : Orderly s (execWqeRead id far s) := by simp [execWqeRead]

theorem execWqeSend_orderly (id : Nat) (far : Bytes) (s : State) : Orderly s (execWqeSend id far s) := by simp [execWqeSend]

theorem execWqeCas_orderly (id : Nat) (far : Bytes) (s : State) : Orderly s (execWqeCas id far s) := by simp [execWqeCas]

theorem execWqeFaa_orderly (id : Nat) (far : Bytes) (s : State) : Orderly s (execWqeFaa id far s) := by simp [execWqeFaa]

theorem execWqeWait_orderly (id : Nat) (far : Bytes) (s : State) : Orderly s (execWqeWait id far s) := by simp [execWqeWait]

theorem agentWrite_keepsReady {s t : State} {who : Writer} {n dpa : Nat} {data : Bytes} (h : agentWrite s who n dpa data = some t) :
    
    KeepsReady s t := by
  unfold agentWrite at h
  exact foldl_bind_keepsReady (fun _ _ _ => acceptWrite_keepsReady) (.of (by simp)) h

theorem writeCqe_keepsReady {s t : State} {cq conn wrId op len idx queue : Nat} {st : Status}
    (h : writeCqe s cq conn wrId op len idx queue st = some t) : KeepsReady s t := by
  unfold writeCqe at h
  split at h
  · cases h
    exact .refl s
  · split at h
    · cases h
    · obtain ⟨u, hu, rfl⟩ := Option.map_eq_some_iff.1 h
      exact .of (by simp [agentWrite_keepsReady hu])

theorem execCqeWrite_orderly (id : Nat) (rq : Bool) (far : Bytes) (s : State) : Orderly s (execCqeWrite id rq far s) := by
  unfold execCqeWrite
  rw [orderly_next]
  split
  · simp
  split
  · split
    · simp
    · exact (keepsReady_getD fun t h => .trans (.of (by simp)) (writeCqe_keepsReady h)).kept
  split
  · simp
  split
  · simp
  split
  · simp
  dsimp only
  split
  · simp
  · exact (keepsReady_getD fun t h => .trans (.of (by simp)) (writeCqe_keepsReady h)).kept

theorem execRoceAckReceived_orderly (id psn : Nat) (data : Bytes) (s : State) :
    Orderly s (execRoceAckReceived id psn data s) := by
  unfold execRoceAckReceived
  rw [orderly_next]
  split
  · simp
  split
  · simp
  dsimp only
  split
  · simp
  · exact (keepsReady_getD fun t h => .trans (.of (by simp)) (agentWrite_keepsReady h)).kept

theorem execRoceNakReceived_orderly (id : Nat) (kind : NakKind) (s : State) : Orderly s (execRoceNakReceived id kind s) := by
  unfold execRoceNakReceived
  repeat' split
  all_goals simp

theorem execRoceAckTimeout_orderly (id : Nat) (s : State) : Orderly s (execRoceAckTimeout id s) := by
  unfold execRoceAckTimeout
  repeat' split
  all_goals simp

theorem execCnpReceived_orderly (id : Nat) (s : State) : Orderly s (execCnpReceived id s) := by
  unfold execCnpReceived
  split <;> simp

theorem execCnpRateRecovery_orderly (id : Nat) (s : State) : Orderly s (execCnpRateRecovery id s) := by
  unfold execCnpRateRecovery
  split <;> simp

theorem msgData_keepsReady {s t : State} {id : Nat} {c : Conn} {p : RxPkt} {m : RxMsg} {owner dpa : Nat}
    (h : msgData s id c p m owner dpa = some t) : KeepsReady s t := .of <| by
  unfold msgData at h
  obtain ⟨u, hu, rfl⟩ := Option.map_eq_some_iff.1 h
  simp [agentWrite_keepsReady hu]

@[simp] theorem rxWrite_keepsReady (s : State) (id : Nat) (c : Conn) (p : RxPkt) : KeepsReady s (rxWrite s id c p) := by
  unfold rxWrite
  split
  · split
    · exact .of (by simp)
    · exact keepsReady_getD fun t h => .trans (.of (by simp)) (msgData_keepsReady h)
  split
  · split
    · exact keepsReady_getD fun t h => msgData_keepsReady h
    · exact .of (by simp)
  · exact .of (by simp)

@[simp] theorem rxSend_keepsReady (s : State) (id : Nat) (c : Conn) (p : RxPkt) (far : Bytes) :
    KeepsReady s (rxSend s id c p far) := by
  unfold rxSend
  split
  · exact .of (by simp)
  split
  · split
    · exact .of (by simp)
    · extract_lets dpa b loc len wrId _rq c1 bad m s1
      clear_value bad
      split
      · exact .of (by simp)
      · exact keepsReady_getD fun t h => .trans (.of (by simp [s1])) (msgData_keepsReady h)
  split
  · exact keepsReady_getD fun t h => msgData_keepsReady h
  · exact .of (by simp)

@[simp] theorem rxAtomic_keepsReady (s : State) (id : Nat) (c : Conn) (p : RxPkt) : KeepsReady s (rxAtomic s id c p) := by
  unfold rxAtomic
  split
  · exact .of (by simp)
  split
  · exact .of (by simp)
  dsimp only
  split
  · exact .of (by simp)
  split
  · exact .of (by simp)
  · exact keepsReady_getD fun t h => .trans (.of (by simp)) (agentWrite_keepsReady h)

@[simp] theorem rxServe_keepsReady (s : State) (id : Nat) (p : RxPkt) (far : Bytes) :
    KeepsReady s (rxServe s id p far) := .of <| by
  unfold rxServe
  repeat' split
  all_goals simp

@[simp] theorem rxPark_keepsReady (s : State) (id : Nat) (c : Conn) (p : RxPkt) : KeepsReady s (rxPark s id c p) := .of <| by
  unfold rxPark
  dsimp only
  repeat' split
  all_goals simp

@[simp] theorem rxPacket_keepsReady (s : State) (p : RxPkt) (kind : RxKind) (far : Bytes) :
    KeepsReady s (rxPacket s p kind far) := .of <| by
  simp only [rxPacket]
  repeat' split
  all_goals simp

theorem execRdmaWriteRequest_orderly (p : RxPkt) (s : State) :
    Orderly s (execRdmaWriteRequest p s) := by simp [execRdmaWriteRequest]

theorem execRdmaReadRequest_orderly (p : RxPkt) (s : State) : Orderly s (execRdmaReadRequest p s) := by simp [execRdmaReadRequest]

theorem execSendRequest_orderly (p : RxPkt) (far : Bytes) (s : State) :
    Orderly s (execSendRequest p far s) := by simp [execSendRequest]

theorem execCompareAndSwap_orderly (p : RxPkt) (s : State) : Orderly s (execCompareAndSwap p s) := by simp [execCompareAndSwap]

theorem execFetchAndAdd_orderly (p : RxPkt) (s : State) : Orderly s (execFetchAndAdd p s) := by simp [execFetchAndAdd]

theorem execContextFetchDone_orderly (id took : Nat) (s : State) : Orderly s (execContextFetchDone id took s) := by
  unfold execContextFetchDone
  repeat' split
  all_goals simp

theorem execEthLinkChange_orderly (port : Fin 4) (up : Bool) (s : State) :
    Orderly s (execEthLinkChange port up s) := by
  unfold execEthLinkChange
  repeat' split
  all_goals simp

/-! ### Machine/Cipher -/

theorem execCipherJobSubmit_orderly (cls : Fin 4) (tag owner slot iv du aad : Nat) (data : Bytes) (tagOk : Bool) (s : State) :
    Orderly s (execCipherJobSubmit cls tag owner slot iv du aad data tagOk s) := by
  simp only [execCipherJobSubmit]
  repeat' split
  all_goals simp

theorem execCipherJobDone_orderly (core : Fin 16) (s : State) : Orderly s (execCipherJobDone core s) := by
  unfold execCipherJobDone
  split <;> simp

theorem execCoreIsolated_orderly (core : Fin 16) (s : State) : Orderly s (execCoreIsolated core s) := by
  unfold execCoreIsolated
  repeat' split
  all_goals simp

theorem execKeySlotBroken_orderly (slot : Fin 8192) (s : State) : Orderly s (execKeySlotBroken slot s) := by
  simp only [execKeySlotBroken]
  repeat' split
  all_goals simp

theorem execKeyLoad_orderly (who : Issuer) (cslot : Fin 128) (tag slot tenant : Nat) (persist : Bool) (format usage : Nat) (blob : Bytes)
    (s : State) : Orderly s (execKeyLoad who cslot tag slot tenant persist format usage blob s) := by
  unfold execKeyLoad
  extract_lets foreign free k
  clear_value foreign free k
  refine .of_keepsReady (.ite (.of (by simp)) (.ite (.of (by simp)) (.ite (.of (by simp)) (.of ?_))))
  split
  · simp
  iterate 3
    split
    · simp
  simp

theorem execKeyFree_orderly (who : Issuer) (cslot : Fin 128) (tag slot : Nat) (s : State) :
    Orderly s (execKeyFree who cslot tag slot s) := by simp [execKeyFree]

/-! ### Machine/Persistence -/

theorem execSkiveClose_orderly (line : Nat) (s : State) : Orderly s (execSkiveClose line s) := by
  have hc : ∀ e, KeepsReady s ((skiveClose s e).getD s) := fun e => keepsReady_getD fun _ => skiveClose_keepsReady
  unfold execSkiveClose
  split <;> simp [hc]

theorem execWeltRelease_orderly (line : Nat) (err : SramErr) (s : State) : Orderly s (execWeltRelease line err s) := by
  simp only [execWeltRelease]
  repeat' split
  all_goals simp

theorem execBarrierEnd_orderly (id : Nat) (s : State) : Orderly s (execBarrierEnd id s) := by
  unfold execBarrierEnd
  split <;> simp

theorem execBarrierTimeout_orderly (id : Nat) (s : State) : Orderly s (execBarrierTimeout id s) := by
  unfold execBarrierTimeout
  repeat' split
  all_goals simp

theorem execCommitBarrierCutoff_orderly (s : State) : Orderly s (execCommitBarrierCutoff s) := by simp [execCommitBarrierCutoff]

theorem execGpfPhase1_orderly (port : Fin 16) (s : State) : Orderly s (execGpfPhase1 port s) := by simp [execGpfPhase1]

theorem execGpfPhase2_orderly (port : Fin 16) (s : State) : Orderly s (execGpfPhase2 port s) := by simp [execGpfPhase2]

/-! ### Machine/Compat -/

theorem execLxRegisterWrite_orderly (e : Fin 2) (off : Nat) (value : Word) (s : State) :
    Orderly s (execLxRegisterWrite e off value s) := by simp [execLxRegisterWrite]

theorem execLxBankWrite_orderly (e : Fin 2) (value : Word) (s : State) :
    Orderly s (execLxBankWrite e value s) := by simp [execLxBankWrite]

theorem execLxRingTailWrite_orderly (e : Fin 2) (r : Fin 8) (value : Word) (s : State) :
    Orderly s (execLxRingTailWrite e r value s) := by simp [execLxRingTailWrite]

theorem execLxRingReset_orderly (e : Fin 2) (s : State) : Orderly s (execLxRingReset e s) := by simp [execLxRingReset]

theorem execFunctionLevelReset_orderly (e : Fin 2) (s : State) :
    Orderly s (execFunctionLevelReset e s) := by simp [execFunctionLevelReset]

@[simp] theorem zeroLines_keepsReady (e r idx : Nat) (s : State) (dpa stop n : Nat) :
    KeepsReady s (zeroLines e r idx s dpa stop n).2 := by
  induction n generalizing s dpa with
  | zero => exact .refl s
  | succ n ih =>
    rw [zeroLines]
    split
    · exact .refl s
    split
    · rename_i t h
      exact (acceptWrite_keepsReady h).trans (ih t _)
    · exact .refl s

@[simp] theorem zeroGo_keepsReady (s : State) (e r : Nat) (c : LxCmd) : KeepsReady s (zeroGo s e r c) := .of <| by
  unfold zeroGo
  split <;> simp

@[simp] theorem ringGo_keepsReady (e : Nat) (s : State) (r : Nat) : KeepsReady s (ringGo e s r) := .of (by simp [ringGo])

@[simp] theorem lxTick_keepsReady (s : State) (e : Nat) : KeepsReady s (lxTick s e) := .of <| by
  unfold lxTick
  repeat' split
  all_goals simp

theorem execCompatTick_orderly (s : State) : Orderly s (execCompatTick s) := by simp [execCompatTick]

@[simp] theorem lxFetch_keepsReady (s : State) (e r op flags : Nat) (run : State → LxCmd → State) (h : ∀ t c, Kept t (run t c)) :
    KeepsReady s (lxFetch s e r op flags run) := .of (by simp [lxFetch, fun t c => KeepsReady.of (h t c)])

theorem execNop_orderly (e : Fin 2) (r : Fin 8) (flags : Nat) (s : State) :
    Orderly s (execNop e r flags s) := by simp -implicitDefEqProofs [execNop]

theorem execFlush_orderly (e : Fin 2) (r : Fin 8) (flags : Nat) (s : State) :
    Orderly s (execFlush e r flags s) := by simp [execFlush]

theorem execFlushMedia_orderly (e : Fin 2) (r : Fin 8) (flags : Nat) (s : State) :
    Orderly s (execFlushMedia e r flags s) := by simp [execFlushMedia]

@[simp] theorem lxZero_keepsReady (e r dpa len : Nat) (s : State) (c : LxCmd) : KeepsReady s (lxZero e r dpa len s c) := .of <| by
  unfold lxZero
  repeat' split
  all_goals simp

theorem execZero_orderly (e : Fin 2) (r : Fin 8) (flags dpa len : Nat) (s : State) :
    Orderly s (execZero e r flags dpa len s) := by simp [execZero]

theorem execIdentify_orderly (e : Fin 2) (r : Fin 8) (flags hostAddr : Nat) (s : State) :
    Orderly s (execIdentify e r flags hostAddr s) := by simp [execIdentify]

theorem execFwDownload_orderly (e : Fin 2) (r : Fin 8) (flags : Nat) (s : State) :
    Orderly s (execFwDownload e r flags s) := by simp -implicitDefEqProofs [execFwDownload]

theorem execFwCommit_orderly (e : Fin 2) (r : Fin 8) (flags : Nat) (s : State) : Orderly s (execFwCommit e r flags s) := by
  simp -implicitDefEqProofs [execFwCommit]

theorem execLxUnknownOpcode_orderly (e : Fin 2) (r : Fin 8) (op : Byte) (flags : Nat) (s : State) :
    Orderly s (execLxUnknownOpcode e r op flags s) := by simp -implicitDefEqProofs [execLxUnknownOpcode]

theorem execLxCommandStatus_orderly (e : Fin 2) (r : Fin 8) (s : State) : Orderly s (execLxCommandStatus e r s) := by
  simp [execLxCommandStatus]

@[simp] theorem lxAbort_keepsReady (s : State) (e : Nat) : KeepsReady s (lxAbort s e).2 :=
  foldl_snd_keepsReady (.refl s) fun t x => foldl_snd_keepsReady (.refl t.2) fun u c => by
    split
    · exact .refl u.2
    · exact .of (by simp)

/-! ### Machine/RecorderOps -/

@[simp] theorem sectorErase_keepsReady (s : State) (b k : Nat) : KeepsReady s (sectorErase s b k) := .of <| by
  unfold sectorErase
  dsimp only
  repeat' split
  all_goals simp

@[simp] theorem lastErase_keepsReady (s : State) (k : Nat) : KeepsReady s (lastErase s k) := .of (by simp [lastErase])

@[simp] theorem firstErase_keepsReady (s : State) (k : Nat) : KeepsReady s (firstErase s k) := .of (by simp [firstErase])

theorem lastAdvance_keepsReady {s t : State} (h : lastAdvance s = some t) : KeepsReady s t := .of <| by
  unfold lastAdvance at h
  dsimp only at h
  split at h <;> cases h
  split <;> simp

theorem lastPut_keepsReady {s t : State} {r : Rec} (h : lastPut s r = some t) : KeepsReady s t := .of <| by
  unfold lastPut at h
  obtain ⟨u, hu, rfl⟩ := Option.map_eq_some_iff.1 h
  split at hu
  · cases hu
    simp
  · simp [lastAdvance_keepsReady hu]

@[simp] theorem programOne_keepsReady (s : State) : KeepsReady s (programOne s) := .of <| by
  unfold programOne
  split
  · simp
  split
  · simp
  split
  · simp
  · rename_i s1 h
    simp [lastPut_keepsReady h]

@[simp] theorem programAll_keepsReady (s : State) : KeepsReady s (programAll s) := .of (by simp [programAll])

@[simp] theorem clearBegin_keepsReady (s : State) (route client : Nat) :
    KeepsReady s (clearBegin s route client) := .of (by simp [clearBegin])

@[simp] theorem clearRecord_keepsReady (s : State) (c : Clearing) : KeepsReady s (clearRecord s c) := .of (by simp [clearRecord])

@[simp] theorem clearStep_keepsReady (s : State) : KeepsReady s (clearStep s) := .of <| by
  simp only [clearStep]
  repeat' split
  all_goals simp

/-! ### Machine/FlashCmds -/

theorem flsShut_keepsReady {s t : State} {m off : Nat} (h : flsShut s m off = some t) : KeepsReady s t := by
  unfold flsShut at h
  split at h
  · rename_i hm
    cases h
    exact masterRefused_keepsReady hm
  · split at h <;> cases h
    exact .of (by simp)

theorem execFlsBankClaim_orderly (m : Fin 11) (b : Fin 4) (s : State) : Orderly s (execFlsBankClaim m b s) := by
  unfold execFlsBankClaim
  dsimp only
  split
  · rename_i h
    simp [masterRefused_keepsReady h]
  · simp

theorem execFlsBankRelease_orderly (m : Fin 11) (b : Fin 4) (s : State) : Orderly s (execFlsBankRelease m b s) := by
  unfold execFlsBankRelease
  split
  · rename_i h
    simp [flsShut_keepsReady h]
  · simp

@[simp] theorem flsIssue_keepsReady (s : State) (m b op : Nat) (run : State → State) (h : ∀ t, Kept t (run t)) :
    KeepsReady s (flsIssue s m b op run) := by
  unfold flsIssue
  split <;> rename_i hs
  · exact flsShut_keepsReady hs
  · exact .of (by simp [fun t => KeepsReady.of (h t)])

theorem execFlashRead_orderly (m : Fin 11) (b : Fin 4) (corrected : Bool) (s : State) :
    Orderly s (execFlashRead m b corrected s) := by
  refine .of_keepsReady (flsIssue_keepsReady s _ _ _ _ fun t => ?_)
  dsimp only
  repeat' split
  all_goals simp

theorem execReadWear_orderly (m : Fin 11) (b : Fin 4) (s : State) : Orderly s (execReadWear m b s) := by
  unfold execReadWear
  simp

theorem execFlashProgram_orderly (m : Fin 11) (b : Fin 4) (s : State) : Orderly s (execFlashProgram m b s) := by
  refine .of_keepsReady (flsIssue_keepsReady s _ _ _ _ fun t => ?_)
  dsimp only
  repeat' split
  all_goals simp

theorem execFlashErase_orderly (m : Fin 11) (b : Fin 4) (s : State) : Orderly s (execFlashErase m b s) := by
  unfold execFlashErase
  simp

theorem execFlashSuspend_orderly (m : Fin 11) (b : Fin 4) (s : State) : Orderly s (execFlashSuspend m b s) := by
  unfold execFlashSuspend
  simp

theorem execFlashSuspendEffect_orderly (b : Fin 4) (s : State) :
    Orderly s (execFlashSuspendEffect b s) := by simp [execFlashSuspendEffect]

theorem execFlashRunWindowEnd_orderly (b : Fin 4) (s : State) :
    Orderly s (execFlashRunWindowEnd b s) := by simp [execFlashRunWindowEnd]

theorem execFlashResume_orderly (m : Fin 11) (b : Fin 4) (s : State) : Orderly s (execFlashResume m b s) := by
  unfold execFlashResume
  simp

theorem execFlashAbort_orderly (m : Fin 11) (b : Fin 4) (s : State) : Orderly s (execFlashAbort m b s) := by
  unfold execFlashAbort
  split
  · rename_i h
    simp [flsShut_keepsReady h]
  · simp

theorem execFlashProgramDone_orderly (b : Fin 4) (ok : Bool) (s : State) : Orderly s (execFlashProgramDone b ok s) := by
  simp only [execFlashProgramDone]
  repeat' split
  all_goals simp

theorem execFlashEraseDone_orderly (b : Fin 4) (ok : Bool) (s : State) : Orderly s (execFlashEraseDone b ok s) := by
  simp only [execFlashEraseDone]
  repeat' split
  all_goals simp

theorem execFlsClaimExpired_orderly (b : Fin 4) (s : State) : Orderly s (execFlsClaimExpired b s) := by simp [execFlsClaimExpired]

/-! ### Machine/FirmwareOps -/

@[simp] theorem imgVerify_keepsReady (s : State) (k : Nat) : KeepsReady s (imgVerify s k).2 := .of <| by
  unfold imgVerify
  split <;> simp

@[simp] theorem trialFailed_keepsReady (s : State) (k : Nat) (count : Bool) : KeepsReady s (trialFailed s k count) := .of <| by
  unfold trialFailed
  repeat' split
  all_goals simp

@[simp] theorem bootConfirmed_keepsReady (s : State) : KeepsReady s (bootConfirmed s).2 := .of <| by
  simp only [bootConfirmed]
  repeat' split
  all_goals simp

@[simp] theorem bootChoose_keepsReady (s : State) : KeepsReady s (bootChoose s).2 := .of <| by
  simp only [bootChoose]
  repeat' split
  all_goals simp

@[simp] theorem fwData_keepsReady (s : State) (data : Bytes) : KeepsReady s (fwData s data).2 := .of <| by
  simp only [fwData]
  repeat' split
  all_goals simp

@[simp] theorem fwActivate_keepsReady (s : State) (v : Nat) : KeepsReady s (fwActivate s v).2 := .of <| by
  simp only [fwActivate]
  repeat' split
  all_goals simp

/-! ### Machine/Firmware -/

theorem execFwConfirmed_orderly (s : State) : Orderly s (execFwConfirmed s) := by
  unfold execFwConfirmed
  split <;> simp

/-! ### Machine/Ring -/

@[simp] theorem protocolError_keepsReady (s : State) (a st msg line : Nat) :
    KeepsReady s (protocolError s a st msg line) := .of <| by
  unfold protocolError
  repeat' split
  all_goals simp

theorem execSnpS_orderly (a : Fin 5) (line : Nat) (s : State) : Orderly s (execSnpS a line s) := by simp [execSnpS]

theorem execSnpInv_orderly (a : Fin 5) (line : Nat) (s : State) : Orderly s (execSnpInv a line s) := by simp [execSnpInv]

theorem execDataS_orderly (a : Fin 5) (line : Nat) (data : Bytes) (s : State) : Orderly s (execDataS a line data s) := by
  unfold execDataS
  repeat' split
  all_goals simp

theorem execDataE_orderly (a : Fin 5) (line : Nat) (data : Bytes) (s : State) : Orderly s (execDataE a line data s) := by
  unfold execDataE
  repeat' split
  all_goals simp

theorem execWbAck_orderly (a : Fin 5) (line : Nat) (s : State) : Orderly s (execWbAck a line s) := by
  unfold execWbAck
  repeat' split
  all_goals simp

theorem execNack_orderly (a : Fin 5) (line : Nat) (refused : Bool) (s : State) : Orderly s (execNack a line refused s) := by
  unfold execNack
  repeat' split
  all_goals simp

theorem execNackRetryTimer_orderly (a : Fin 5) (line : Nat) (s : State) : Orderly s (execNackRetryTimer a line s) := by
  unfold execNackRetryTimer
  split <;> simp

@[simp] theorem roundEnd_keepsReady (s : State) (t : HomeTxn) : KeepsReady s (roundEnd s t) := .of <| by
  simp only [roundEnd]
  repeat' split
  all_goals simp

@[simp] theorem roundCheck_keepsReady (s : State) (t : HomeTxn) : KeepsReady s (roundCheck s t) := .of (by simp [roundCheck])

@[simp] theorem biAnswered_keepsReady (s : State) (key : Nat) (t : HomeTxn) : KeepsReady s (biAnswered s key t) := .of <| by
  simp only [biAnswered]
  repeat' split
  all_goals simp

@[simp] theorem takeReq_keepsReady (s : State) (r : HomeReq) : KeepsReady s (takeReq s r) := .of <| by
  unfold takeReq
  repeat' split
  all_goals simp

@[simp] theorem takeNext_keepsReady (s : State) (dl : Nat) : KeepsReady s (takeNext s dl) := .of <| by
  unfold takeNext
  repeat' split
  all_goals simp

@[simp] theorem homeRequest_keepsReady (s : State) (r : HomeReq) : KeepsReady s (homeRequest s r) := .of (by simp [homeRequest])

theorem execRdS_orderly (a : Fin 5) (line : Nat) (prio : Bool) (s : State) :
    Orderly s (execRdS a line prio s) := by simp [execRdS]

theorem execRdX_orderly (a : Fin 5) (line : Nat) (prio : Bool) (s : State) :
    Orderly s (execRdX a line prio s) := by simp [execRdX]

theorem execWb_orderly (a : Fin 5) (line : Nat) (data : Bytes) (s : State) : Orderly s (execWb a line data s) := by
  simp only [execWb]
  repeat' split
  all_goals simp

@[simp] theorem homeAnswer_keepsReady (s : State) (a line msg : Nat) (g : State → State) (f : HomeTxn → HomeTxn) (h : Kept s (g s)) :
    
    KeepsReady s (homeAnswer s a line msg g f) := .of <| by
  unfold homeAnswer
  split
  · split <;> simp [KeepsReady.of h]
  · simp

theorem execAckI_orderly (a : Fin 5) (line : Nat) (s : State) : Orderly s (execAckI a line s) := by simp [execAckI]

theorem execAckS_orderly (a : Fin 5) (line : Nat) (s : State) : Orderly s (execAckS a line s) := by simp [execAckS]

theorem execAckData_orderly (a : Fin 5) (line : Nat) (data : Bytes) (s : State) : Orderly s (execAckData a line data s) := by
  simp [execAckData]

theorem execDone_orderly (a : Fin 5) (line : Nat) (s : State) : Orderly s (execDone a line s) := by
  unfold execDone
  split <;> simp

theorem execSnoopGuardExpired_orderly (a : Fin 5) (line : Nat) (s : State) : Orderly s (execSnoopGuardExpired a line s) := by
  unfold execSnoopGuardExpired
  split <;> simp

theorem execBirspi_orderly (n : Fin 64) (key : Nat) (s : State) : Orderly s (execBirspi n key s) := by
  unfold execBirspi
  split <;> simp

theorem execBiconflict_orderly (n : Fin 64) (key : Nat) (s : State) : Orderly s (execBiconflict n key s) := by
  unfold execBiconflict
  split <;> simp

theorem execBisnpGuardExpired_orderly (n : Fin 64) (key : Nat) (s : State) : Orderly s (execBisnpGuardExpired n key s) := by
  unfold execBisnpGuardExpired
  split <;> simp

theorem execAgentLoad_orderly (c : Fin 8) (line : Nat) (s : State) : Orderly s (execAgentLoad c line s) := by
  simp only [execAgentLoad]
  repeat' split
  all_goals simp

theorem execAgentStore_orderly (c : Fin 8) (addr : Nat) (bytes : Bytes) (s : State) :
    Orderly s (execAgentStore c addr bytes s) := by simp [execAgentStore]

theorem execAgentEviction_orderly (a : Fin 5) (line : Nat) (s : State) : Orderly s (execAgentEviction a line s) := by
  unfold execAgentEviction
  repeat' split
  all_goals simp

/-! ### Machine/KeeperCores -/

@[simp] theorem combineOut_keepsReady (s : State) (c : Nat) (l : Nat × PLine) : KeepsReady s (combineOut s c l).2 := .of <| by
  unfold combineOut
  split <;> rename_i h
  · simp [acceptWrite_keepsReady h]
  · simp

@[simp] theorem combineDrain_keepsReady (s : State) (c n : Nat) : KeepsReady s (combineDrain s c n) := by
  induction n generalizing s with
  | zero => exact .refl s
  | succ n ih =>
    rw [combineDrain]
    split
    · exact .refl s
    split <;> rename_i h
    · exact .trans (.of (by simp [eq_snd h])) (ih _)
    · exact .of (by simp [eq_snd h])

theorem execNonTemporalStore_orderly (c : Fin 8) (line off : Nat) (bytes : Bytes) (s : State) :
    Orderly s (execNonTemporalStore c line off bytes s) := by
  unfold execNonTemporalStore
  dsimp only
  split
  · simp
  split
  · simp
  split
  · split <;> rename_i h <;> simp [eq_snd h]
  · simp

theorem execUncachedAccess_orderly (c : Fin 8) (addr : Nat) (write done : Bool) (s : State) :
    Orderly s (execUncachedAccess c addr write done s) := by simp [execUncachedAccess]

@[simp] theorem fenceRun_keepsReady (c : Nat) (f : KFence) (s : State) : KeepsReady s (fenceRun c f s) := .of <| by
  unfold fenceRun
  repeat' split
  all_goals simp

theorem execFenceFCore_orderly (c : Fin 8) (s : State) : Orderly s (execFenceFCore c s) := by simp [execFenceFCore]

theorem execFenceFClu_orderly (c : Fin 8) (s : State) : Orderly s (execFenceFClu c s) := by simp [execFenceFClu]

theorem execFenceFSys_orderly (c : Fin 8) (s : State) : Orderly s (execFenceFSys c s) := by simp [execFenceFSys]

theorem execFenceSCore_orderly (c : Fin 8) (s : State) : Orderly s (execFenceSCore c s) := by simp [execFenceSCore]

theorem execFenceSClu_orderly (c : Fin 8) (s : State) : Orderly s (execFenceSClu c s) := by simp [execFenceSClu]

theorem execFenceSSys_orderly (c : Fin 8) (s : State) : Orderly s (execFenceSSys c s) := by simp [execFenceSSys]

/-! ### Machine/Recorder -/

theorem execRecordSubmit_orderly (code : Fin 65536) (sev : Fin 6) (inst : Byte) (items : Bytes) (s : State) :
    Orderly s (execRecordSubmit code sev inst items s) := by simp [execRecordSubmit]

theorem execRecordProgrammed_orderly (s : State) : Orderly s (execRecordProgrammed s) := by simp [execRecordProgrammed]

theorem execRecorderClearStepEnd_orderly (s : State) :
    Orderly s (execRecorderClearStepEnd s) := by simp [execRecorderClearStepEnd]

/-! ### Machine/Faults -/

@[simp] theorem fnAbort_keepsReady (s : State) (f : Fn) : KeepsReady s (fnAbort s f).2 := .of <| by
  simp only [fnAbort]
  repeat' split
  all_goals simp -implicitDefEqProofs

@[simp] theorem unitReset_keepsReady (s0 : State) (f : Fn) : KeepsReady s0 (unitReset s0 f) := .of <| by
  unfold unitReset
  split <;> simp -implicitDefEqProofs

@[simp] theorem fnDisable_keepsReady (s : State) (f : Fn) : KeepsReady s (fnDisable s f) := .of <| by
  unfold fnDisable
  repeat' split
  all_goals simp

theorem execFunctionQuiesced_orderly (f : Fn) (s : State) : Orderly s (execFunctionQuiesced f s) := by
  unfold execFunctionQuiesced
  dsimp only
  repeat' split
  all_goals simp

theorem execDisableAbortTimeExpired_orderly (f : Fn) (s : State) : Orderly s (execDisableAbortTimeExpired f s) := by
  unfold execDisableAbortTimeExpired
  dsimp only
  repeat' split
  all_goals simp

theorem execUnitResetLat_orderly (s : State) : Orderly s (execUnitResetLat s) := by simp [execUnitResetLat]

theorem execUnitResetBkl_orderly (s : State) : Orderly s (execUnitResetBkl s) := by simp [execUnitResetBkl]

theorem execUnitResetTir_orderly (s : State) : Orderly s (execUnitResetTir s) := by simp [execUnitResetTir]

theorem execUnitResetStm_orderly (s : State) : Orderly s (execUnitResetStm s) := by simp [execUnitResetStm]

theorem execUnitResetFls_orderly (s : State) : Orderly s (execUnitResetFls s) := by simp [execUnitResetFls]

theorem execUnitResetKcb_orderly (s : State) : Orderly s (execUnitResetKcb s) := by simp [execUnitResetKcb]

@[simp] theorem guardFault_keepsReady (s : State) (u : FUnit) (inst : Nat) :
    KeepsReady s (guardFault s u inst) := .of (by simp [guardFault])

theorem execHostGuardExpired_orderly (q : HostReq) (s : State) : Orderly s (execHostGuardExpired q s) := by
  simp only [execHostGuardExpired]
  repeat' split
  all_goals simp

theorem execEngineWatchdogExpired_orderly (e : Engine) (s : State) :
    Orderly s (execEngineWatchdogExpired e s) := by simp [execEngineWatchdogExpired]

theorem execKeeperHeartbeatMissed_orderly (k : Fin 8) (s : State) :
    Orderly s (execKeeperHeartbeatMissed k s) := by
  unfold execKeeperHeartbeatMissed
  repeat' split
  all_goals simp

theorem execKeeperReloadDone_orderly (k : Fin 8) (s : State) : Orderly s (execKeeperReloadDone k s) := by
  simp only [execKeeperReloadDone]
  repeat' split
  all_goals simp

theorem execPommelWatchdog_orderly (s : State) : Orderly s (execPommelWatchdog s) := by simp [execPommelWatchdog]

theorem execFaultReported_orderly (u : FUnit) (code : Fin 65536) (inst : Byte) (sev : Fin 6) (repeatOk : Bool) (s : State) :
    Orderly s (execFaultReported u code inst sev repeatOk s) := by
  unfold execFaultReported
  repeat' split
  all_goals simp

@[simp] theorem groupEnable_keepsReady (s : State) (g : FGroup) : KeepsReady s (groupEnable s g) := .of (by simp [groupEnable])

theorem execRecoveryWindowClose_orderly (sc : Scope) (s : State) : Orderly s (execRecoveryWindowClose sc s) := by
  simp [execRecoveryWindowClose]

theorem execWdiToggle_orderly (s : State) : Orderly s (execWdiToggle s) := by simp [execWdiToggle]

theorem execWdiMissed_orderly (s : State) : Orderly s (execWdiMissed s) := by
  unfold execWdiMissed
  repeat' split
  all_goals simp

/-! ### Machine/Power -/

@[simp] theorem groupsUp_keepsReady (s : State) (gs : List (Nat × (Nat × (Rail → Bool)))) : KeepsReady s (groupsUp s gs).2 := by
  induction gs generalizing s with
  | nil => exact .refl s
  | cons g r ih =>
    rw [groupsUp]
    split
    · exact .trans (.of (by simp)) (ih _)
    · exact .refl s

@[simp] theorem powerStep_keepsReady (s : State) : KeepsReady s (powerStep s) := .of <| by
  unfold powerStep
  extract_lets s1
  have h1 : KeepsReady s s1 := .of (by simp [s1])
  clear_value s1
  split
  · split
    rename_i all s2 h
    split <;> simp [eq_snd h, h1]
  · simp -implicitDefEqProofs [h1]
  · simp [h1]

@[simp] theorem powerUpStart_keepsReady (s : State) : KeepsReady s (powerUpStart s) := .of (by simp [powerUpStart])

theorem execCommonStart_orderly (s : State) : Orderly s (execCommonStart s) := by
  unfold execCommonStart
  repeat' split
  all_goals simp

@[simp] theorem railRetry_keepsReady (s : State) (n : Nat) : KeepsReady s (railRetry s n) := .of (by simp [railRetry])

@[simp] theorem railGroupOff_keepsReady (s : State) (n : Nat) (held : Bool) :
    KeepsReady s (railGroupOff s n held) := .of (by simp [railGroupOff])

@[simp] theorem railSysReset_keepsReady (s : State) (n : Nat) : KeepsReady s (railSysReset s n) := .of <| by
  unfold railSysReset
  repeat' split
  all_goals simp

@[simp] theorem railReaction_keepsReady (s : State) (n own r : Nat) (held : Bool) :
    KeepsReady s (railReaction s n own r held) := .of <| by
  unfold railReaction
  repeat' split
  all_goals simp

@[simp] theorem slotFault_keepsReady (s : State) (n : Nat) : KeepsReady s (slotFault s n) := .of <| by
  unfold slotFault
  dsimp only
  repeat' split
  all_goals simp

theorem execRailOnDelay_orderly (n : Fin 32) (s : State) : Orderly s (execRailOnDelay n s) := by simp [execRailOnDelay]

theorem execRailPgRise_orderly (n : Fin 32) (ramp : Nat) (s : State) : Orderly s (execRailPgRise n ramp s) := by
  unfold execRailPgRise
  dsimp only
  repeat' split
  all_goals simp

theorem execRailPgTimeout_orderly (n : Fin 32) (s : State) : Orderly s (execRailPgTimeout n s) := by simp [execRailPgTimeout]

theorem execRailPgFault_orderly (n : Fin 32) (s : State) : Orderly s (execRailPgFault n s) := by
  simp [execRailPgFault, railSet]

theorem execRailRetryAttempt_orderly (n : Fin 32) (s : State) :
    Orderly s (execRailRetryAttempt n s) := by simp [execRailRetryAttempt]

theorem execRailOffDelay_orderly (n : Fin 32) (s : State) : Orderly s (execRailOffDelay n s) := by
  unfold execRailOffDelay
  dsimp only
  repeat' split
  all_goals simp

theorem execRailPgFall_orderly (n : Fin 32) (s : State) : Orderly s (execRailPgFall n s) := by
  simp [execRailPgFall, railSet]

theorem execRailStuckOn_orderly (n : Fin 32) (s : State) : Orderly s (execRailStuckOn n s) := by
  unfold execRailStuckOn
  dsimp only
  repeat' split
  all_goals simp

theorem execDomainSwitchTimeout_orderly (d : Fin 92) (s : State) : Orderly s (execDomainSwitchTimeout d s) := by
  unfold execDomainSwitchTimeout
  repeat' split
  all_goals simp

@[simp] theorem railGroupBack_keepsReady (s : State) (g : Nat) : KeepsReady s (railGroupBack s g) := .of (by simp [railGroupBack])

theorem execGroupRetryExpired_orderly (g : FGroup) (s : State) : Orderly s (execGroupRetryExpired g s) := by
  unfold execGroupRetryExpired
  repeat' split
  all_goals simp

theorem execPsuOkLow_orderly (s : State) : Orderly s (execPsuOkLow s) := by
  unfold execPsuOkLow
  repeat' split
  all_goals simp

theorem execPsuOkHigh_orderly (s : State) : Orderly s (execPsuOkHigh s) := by simp [execPsuOkHigh]

theorem execPsuOkGlitch_orderly (s : State) : Orderly s (execPsuOkGlitch s) := by simp [execPsuOkGlitch]

theorem execHoldupLow_orderly (s : State) : Orderly s (execHoldupLow s) := by
  unfold execHoldupLow
  repeat' split
  all_goals simp

theorem execHoldupLowNHigh_orderly (s : State) : Orderly s (execHoldupLowNHigh s) := by simp [execHoldupLowNHigh]

theorem execHoldupLowNGlitch_orderly (s : State) : Orderly s (execHoldupLowNGlitch s) := by simp [execHoldupLowNGlitch]

theorem execFaultNExternal_orderly (s : State) : Orderly s (execFaultNExternal s) := by
  unfold execFaultNExternal
  repeat' split
  all_goals simp

theorem execFaultNReleased_orderly (s : State) : Orderly s (execFaultNReleased s) := by simp [execFaultNReleased]

theorem execFaultNGlitch_orderly (s : State) : Orderly s (execFaultNGlitch s) := by simp [execFaultNGlitch]

theorem execSysclkLoss_orderly (s : State) : Orderly s (execSysclkLoss s) := by
  unfold execSysclkLoss
  repeat' split
  all_goals simp

theorem execSysclkReturn_orderly (s : State) : Orderly s (execSysclkReturn s) := by simp [execSysclkReturn]

theorem execRefclkLoss_orderly (which : Fin 5) (s : State) : Orderly s (execRefclkLoss which s) := by simp [execRefclkLoss]

/-! ### Machine/Tiers -/

theorem execSegmentLoadDone_orderly (hs : Nat) (lines : List (Nat × Bytes)) (s : State) :
    Orderly s (execSegmentLoadDone hs lines s) := by
  unfold execSegmentLoadDone
  extract_lets g s1 s2 s3 us s4 _tier s5
  have h4 : KeepsReady s s4 := .of (by simp -implicitDefEqProofs [s4, s3, s2, s1])
  have h5 : KeepsReady s4 s5 := by
    dsimp only [s5]
    split
    · exact .foldl (.of (by simp)) fun x k => .of (by simp)
    · exact .refl s4
  clear_value s4 s5
  simp [h5, h4]

theorem execSegmentEvict_orderly (s : State) : Orderly s (execSegmentEvict s) := by
  simp only [execSegmentEvict]
  repeat' split
  all_goals simp

theorem execSegmentEvictDone_orderly (hs : Nat) (s : State) :
    Orderly s (execSegmentEvictDone hs s) := by simp -implicitDefEqProofs [execSegmentEvictDone]

theorem execFrameMoveDone_orderly (hs : Nat) (s : State) : Orderly s (execFrameMoveDone hs s) := by simp [execFrameMoveDone]

@[simp] theorem loseT2_keepsReady (s : State) (p : Segment → Bool) :
    KeepsReady s (loseT2 s p) := .of (by simp -implicitDefEqProofs [loseT2])

theorem execLeaseGrant_orderly (i : Fin 16) (frames : List Nat) (rkey epoch : Nat) (s : State) :
    Orderly s (execLeaseGrant i frames rkey epoch s) := by
  unfold execLeaseGrant
  dsimp only
  repeat' split
  all_goals simp

theorem execLeaseRecall_orderly (i : Fin 16) (frames : List Nat) (s : State) : Orderly s (execLeaseRecall i frames s) := by
  unfold execLeaseRecall
  extract_lets l mine idle rest s1 s2 s3
  have h3 : KeepsReady s s3 := .of (by simp [s3, s2, s1])
  clear_value s3
  exact .of_keepsReady (.ite (.refl s) (.foldl h3 fun t e => .of (by split <;> simp)))

theorem execLeasePing_orderly (fromLender : Bool) (who epoch : Nat) (s : State) :
    Orderly s (execLeasePing fromLender who epoch s) := by
  unfold execLeasePing
  repeat' split
  all_goals simp

theorem execLeasePingTimer_orderly (s : State) :
    Orderly s (execLeasePingTimer s) := by simp -implicitDefEqProofs [execLeasePingTimer]

theorem execLeaseRecallDeadline_orderly (asLender : Bool) (who : Nat) (s : State) :
    Orderly s (execLeaseRecallDeadline asLender who s) := by
  simp only [execLeaseRecallDeadline]
  repeat' split
  all_goals simp

theorem execLeaseGraceExpired_orderly (i : Fin 16) (s : State) : Orderly s (execLeaseGraceExpired i s) := by
  unfold execLeaseGraceExpired
  dsimp only
  repeat' split
  all_goals simp

theorem execLeaseReq_orderly (addr wanted : Nat) (s : State) : Orderly s (execLeaseReq addr wanted s) := by simp [execLeaseReq]

theorem execLeaseReturn_orderly (addr : Nat) (frames : List Nat) (s : State) :
    Orderly s (execLeaseReturn addr frames s) := by simp [execLeaseReturn]

theorem execLeaseOpen_orderly (addr qpn psn salt ctr : Nat) (s : State) :
    Orderly s (execLeaseOpen addr qpn psn salt ctr s) := by simp [execLeaseOpen]

theorem execLeaseAccept_orderly (i : Fin 16) (qpn psn salt ctr : Nat) (s : State) :
    Orderly s (execLeaseAccept i qpn psn salt ctr s) := by simp [execLeaseAccept]

theorem execLeaseOpenResend_orderly (i : Fin 16) (s : State) : Orderly s (execLeaseOpenResend i s) := by
  unfold execLeaseOpenResend
  dsimp only
  repeat' split
  all_goals simp

theorem execTierCheckpoint_orderly (s : State) :
    Orderly s (execTierCheckpoint s) := by simp -implicitDefEqProofs [execTierCheckpoint]

/-! ### Machine/Commit -/

@[simp] theorem commitShed_keepsReady (s : State) : KeepsReady s (commitShed s) := .of (by simp [commitShed])

@[simp] theorem commitRelease_keepsReady (s : State) : KeepsReady s (commitRelease s) := .of (by simp [commitRelease])

@[simp] theorem commitFlush_keepsReady (s : State) : KeepsReady s (commitFlush s) := .of (by simp [commitFlush])

@[simp] theorem commitDrain_keepsReady (s : State) : KeepsReady s (commitDrain s) := .of (by simp [commitDrain])

@[simp] theorem dirtyShutdown_keepsReady (s : State) :
    KeepsReady s (dirtyShutdown s) := .of (by simp -implicitDefEqProofs [dirtyShutdown])

@[simp] theorem drainEarly_keepsReady (s : State) : KeepsReady s (drainEarly s) := .of (by simp [drainEarly])

@[simp] theorem poolDump_keepsReady (s : State) (k : Nat) (fs : List PoolFrame) : KeepsReady s (poolDump s k fs) := by
  induction s, k, fs using poolDump.induct with
  | case1 k s => exact .of (by simp [poolDump])
  | case2 s fs hfs => simpa [poolDump, hfs] using KeepsReady.refl s
  | case3 s k fs hfs hp => simpa [poolDump, hfs, hp] using KeepsReady.refl s
  | case4 s k fs hfs n hp ht => simpa [poolDump, hfs, hp, ht] using KeepsReady.refl s
  | case5 s k fs hfs n hp st s1 ht now q s2 cols s3 ih =>
    have h2 : KeepsReady s1 s2 := .of (by simp [s2])
    have h3 : KeepsReady s2 s3 := .foldl (.refl s2) fun t c => .of (by split <;> simp)
    rw [poolDump, hp]
    · simp only [ht]
      exact ((takeStripe_keepsReady ht).trans (h2.trans h3)).trans (.trans (.of_eq rfl rfl) ih)
    · exact hfs

@[simp] theorem poolDumpDue_keepsReady (s : State) : KeepsReady s (poolDumpDue s) := .of <| by
  unfold poolDumpDue
  repeat' split
  all_goals simp

@[simp] theorem commitJournal_keepsReady (s : State) : KeepsReady s (commitJournal s) := .of (by simp [commitJournal])

@[simp] theorem commitRails_keepsReady (s : State) :
    KeepsReady s (commitRails s) := .of (by simp -implicitDefEqProofs [commitRails])

theorem execSwCommit_orderly (m : Fin 11) (value : Word) (s : State) : Orderly s (execSwCommit m value s) := by
  unfold execSwCommit
  split
  · rename_i h
    simp [masterRefused_keepsReady h]
  · simp

/-- A requalified power-up starts anew, without READY (R318). -/
@[simp] theorem requalReset_keepsReady (s : State) :
    KeepsReady s (requalReset s) := .of (readyKept_notReady s 1 false .none .normal)

theorem execRequalPowerUp_orderly (s : State) : Orderly s (execRequalPowerUp s) := by simp [execRequalPowerUp]

/-! ### Machine/OdTable -/

@[simp] theorem layerSet_keepsReady (s : State) (l : LayerId) (v : Layer) : KeepsReady s (layerSet s l v) := .of <| by
  unfold layerSet
  split <;> simp

@[simp] theorem loadWith_keepsReady (put : State → Fld → Nat → State) (s : State) (fs : List Fld) (v : Nat) (h : ∀ t f v, Kept t (put t f v)) :
    KeepsReady s (loadWith put s fs v) := by
  induction fs generalizing s v with
  | nil => exact .refl s
  | cons f r ih => exact .trans (.of (h s f _)) (ih _ _)

/-! ### Machine/Dictionary -/

@[simp] theorem storeIn_keepsReady (s : State) (l : LayerId) (key : Nat) (v : Option Bytes) :
    KeepsReady s (storeIn s l key v) := .of (by simp [storeIn])

@[simp] theorem cryptoErase_keepsReady (s : State) : KeepsReady s (cryptoErase s) := .of (by simp [cryptoErase])

@[simp] theorem sealedDone_keepsReady (s : State) (r : Route) (client : Nat) (old new : Bytes) :
    KeepsReady s (sealedDone s r client old new) := .of (by simp [sealedDone])

@[simp] theorem sealedWrite_keepsReady (s : State) (r : Route) (client key : Nat) (data : Bytes) :
    KeepsReady s (sealedWrite s r client key data).2 := .of <| by
  simp only [sealedWrite]
  repeat' split
  all_goals simp

@[simp] theorem activate_keepsReady (s : State) (key : Nat) (data : Bytes) :
    KeepsReady s (activate s key data) := .of (by simp [activate])

@[simp] theorem tickWrite_keepsReady (s : State) (key : Nat) (data : Bytes) :
    KeepsReady s (tickWrite s key data) := .of (by simp -implicitDefEqProofs [tickWrite])

@[simp] theorem rgnWrite_keepsReady (s : State) (e ld : Nat) : KeepsReady s (rgnWrite s e ld) := .of <| by
  unfold rgnWrite
  dsimp only
  repeat' split
  all_goals simp

@[simp] theorem rwWrite_keepsReady (s : State) (key : Nat) (data : Bytes) : KeepsReady s (rwWrite s key data).2 := .of <| by
  simp only [rwWrite]
  repeat' split
  all_goals simp

@[simp] theorem odCommit_keepsReady (s : State) (r : Route) (client key : Nat) (data : Bytes) (own : Bool) :
    KeepsReady s (odCommit s r client key data own).2 := .of <| by
  simp only [odCommit]
  repeat' split
  all_goals simp

@[simp] theorem odWrite_keepsReady (s : State) (r : Route) (client key : Nat) (data : Bytes) :
    KeepsReady s (odWrite s r client key data) := .of (by simp [odWrite])

@[simp] theorem odRead_keepsReady (s : State) (r : Route) (client key : Nat) :
    KeepsReady s (odRead s r client key) := .of (by simp [odRead])

@[simp] theorem stagedDrop_keepsReady (s : State) (key : Nat) : KeepsReady s (stagedDrop s key) := .of (by simp [stagedDrop])

@[simp] theorem stagedPut_keepsReady (s : State) (x : OdStaged) : KeepsReady s (stagedPut s x) := .of (by simp [stagedPut])

/-! ### Machine/Assemble -/

@[simp] theorem assemble_keepsReady (s0 : State) (p : Nat → Bool) : KeepsReady s0 (assemble s0 p) := .of (by simp [assemble])

@[simp] theorem layersLost_keepsReady (s : State) : KeepsReady s (layersLost s) := .of (by simp [layersLost])

@[simp] theorem setApply_keepsReady (s : State) (n : Nat) : KeepsReady s (setApply s n) := .of <| by
  unfold setApply
  dsimp only
  repeat' split
  all_goals simp -implicitDefEqProofs

@[simp] theorem setsApply_keepsReady (s : State) : KeepsReady s (setsApply s) := .of (by simp [setsApply])

@[simp] theorem loadFld_keepsReady (s : State) (f : Fld) (v : Nat) : KeepsReady s (loadFld s f v) := .of <| by
  unfold loadFld
  split <;> simp

@[simp] theorem loadEntry_keepsReady (s : State) (key : Nat) : KeepsReady s (loadEntry s key) := .of (by simp [loadEntry])

@[simp] theorem loadLd_keepsReady (s : State) (n : Nat) : KeepsReady s (loadLd s n) := .of (by simp [loadLd])

@[simp] theorem loadWindow_keepsReady (s : State) (w : Nat) : KeepsReady s (loadWindow s w) := .of (by simp [loadWindow])

@[simp] theorem loadHosts_keepsReady (s : State) : KeepsReady s (loadHosts s) := .of (by simp [loadHosts])

@[simp] theorem loadRegion_keepsReady (s : State) (e : Nat) : KeepsReady s (loadRegion s e) := .of (by simp [loadRegion])

@[simp] theorem loadBitmap_keepsReady (s : State) : KeepsReady s (loadBitmap s) := .of <| by
  unfold loadBitmap
  dsimp only
  repeat' split
  all_goals simp

@[simp] theorem loadAll_keepsReady (s0 : State) : KeepsReady s0 (loadAll s0) := .of <| by
  unfold loadAll
  simp

@[simp] theorem setLocks_keepsReady (s : State) : KeepsReady s (setLocks s) := .of (by simp [setLocks])

@[simp] theorem runApply_keepsReady (s : State) (base size : Nat) :
    KeepsReady s (runApply s base size) := .of (by simp [runApply])

@[simp] theorem runsApply_keepsReady (s : State) : KeepsReady s (runsApply s) := .of (by simp [runsApply])

/-! ### Machine/Tack -/

@[simp] theorem txnsSet_keepsReady (s : State) (ts : List TackTxn) : KeepsReady s (txnsSet s ts) := .of (by simp [txnsSet])

@[simp] theorem txnDrop_keepsReady (s : State) (t : TackTxn) : KeepsReady s (txnDrop s t) := .of <| by
  unfold txnDrop
  repeat' split
  all_goals simp

@[simp] theorem txnPut_keepsReady (s : State) (t : TackTxn) : KeepsReady s (txnPut s t) := .of (by simp [txnPut])

@[simp] theorem tackAbort_keepsReady (s : State) (h : TackHdr) (key : Nat) (st : Status × Nat) :
    KeepsReady s (tackAbort s h key st) := .of (by simp [tackAbort])

@[simp] theorem chanViolation_keepsReady (s : State) (chan : Nat) :
    KeepsReady s (chanViolation s chan) := .of (by simp [chanViolation])

@[simp] theorem nodeViolation_keepsReady (s : State) (h : TackHdr) :
    KeepsReady s (nodeViolation s h) := .of (by simp [nodeViolation])

@[simp] theorem tackFrame_keepsReady (s : State) (h : TackHdr) (run : State → State) (hr : Kept s (run s)) :
    KeepsReady s (tackFrame s h run) := .of (by simp [tackFrame, KeepsReady.of hr])

@[simp] theorem sendSegments_keepsReady (s : State) (t : TackTxn) (from_ upto : Nat) :
    KeepsReady s (sendSegments s t from_ upto) := .of (by simp -implicitDefEqProofs [sendSegments])

@[simp] theorem tackRequest_keepsReady (s : State) (h : TackHdr) (key : Nat) (run : State → State) (hr : Kept s (run s)) :
    KeepsReady s (tackRequest s h key run) := .of <| by
  unfold tackRequest
  split
  · simp
  · simp [KeepsReady.of hr]

theorem execRead_orderly (h : TackHdr) (key : Nat) (s : State) : Orderly s (execRead h key s) := by simp [execRead]

@[simp] theorem tackAnswer_keepsReady (s : State) (h : TackHdr) (key : Nat) (c : Status × Nat) :
    KeepsReady s (tackAnswer s h key c) := .of <| by
  unfold tackAnswer
  repeat' split
  all_goals simp

theorem execWrite_orderly (h : TackHdr) (key : Nat) (data : Bytes) (s : State) : Orderly s (execWrite h key data s) := by
  unfold execWrite
  simp

theorem execWriteInit_orderly (h : TackHdr) (key total : Nat) (s : State) :
    Orderly s (execWriteInit h key total s) := by simp [execWriteInit]

@[simp] theorem lastSegment_keepsReady (s : State) (h : TackHdr) (t : TackTxn) (data : Bytes) (n : Nat) :
    KeepsReady s (lastSegment s h t data n) := .of <| by
  unfold lastSegment
  repeat' split
  all_goals simp

theorem execSegment_orderly (h : TackHdr) (n : Nat) (last : Bool) (data : Bytes) (s : State) :
    Orderly s (execSegment h n last data s) := by
  refine .of_keepsReady (tackFrame_keepsReady s h _ ?_)
  dsimp only
  repeat' split
  all_goals simp

theorem execAck_orderly (h : TackHdr) (n : Nat) (s : State) : Orderly s (execAck h n s) := by
  refine .of_keepsReady (tackFrame_keepsReady s h _ ?_)
  repeat' split
  all_goals simp

theorem execAbort_orderly (h : TackHdr) (s : State) : Orderly s (execAbort h s) := by
  refine .of_keepsReady (tackFrame_keepsReady s h _ ?_)
  dsimp only
  repeat' split
  all_goals simp

theorem execTackTransferTimeout_orderly (chan : Fin 2) (client tag : Nat) (s : State) :
    Orderly s (execTackTransferTimeout chan client tag s) := by
  simp only [execTackTransferTimeout]
  split <;> simp

theorem execTackClassicalFrame_orderly (chan : Fin 2) (s : State) :
    Orderly s (execTackClassicalFrame chan s) := by
  unfold execTackClassicalFrame
  repeat' split
  all_goals simp

@[simp] theorem tackBoot_keepsReady (s : State) : KeepsReady s (tackBoot s) := .of (by simp [tackBoot])

theorem execTackBootupFrame_orderly (chan : Fin 2) (node serial : Nat) (s : State) :
    Orderly s (execTackBootupFrame chan node serial s) := by
  unfold execTackBootupFrame
  repeat' split
  all_goals simp

theorem execTackBootupListenEnd_orderly (s : State) : Orderly s (execTackBootupListenEnd s) := by simp [execTackBootupListenEnd]

/-! ### Machine/Bringup -/

theorem execVddAonReturn_orderly (s : State) : Orderly s (execVddAonReturn s) := by simp [execVddAonReturn]

/-! ### Machine/Csr -/

@[simp] theorem csrRefuseWrite_keepsReady (s : State) (m cause off : Nat) :
    KeepsReady s (csrRefuseWrite s m cause off) := .of (by simp [csrRefuseWrite])

@[simp] theorem writeField_keepsReady (m off : Nat) (r : RegRow) (k value : Nat) (s : State) (f : FieldRow) :
    KeepsReady s (writeField m off r k value s f) := .of <| by
  unfold writeField
  repeat' split
  all_goals simp

@[simp] theorem mbxDataWrite_keepsReady (s : State) (off value : Nat) :
    KeepsReady s (mbxDataWrite s off value) := .of (by simp [mbxDataWrite])

@[simp] theorem writePair_keepsReady (m off value : Nat) (s : State) : KeepsReady s (writePair m off value s) := .of <| by
  unfold writePair
  dsimp only
  repeat' split
  all_goals simp

@[simp] theorem writeReg_keepsReady (s : State) (m off value : Nat) : KeepsReady s (writeReg s m off value) := .of <| by
  unfold writeReg
  repeat' split
  all_goals simp

@[simp] theorem flsDataWrite_keepsReady (s : State) (off value : Nat) :
    KeepsReady s (flsDataWrite s off value) := .of (by simp [flsDataWrite])

theorem execCsrWrite_orderly (m : Fin 11) (off size : Nat) (value : Word) (s : State) :
    Orderly s (execCsrWrite m off size value s) := by
  unfold execCsrWrite
  repeat' split
  all_goals simp

@[simp] theorem aliasField_keepsReady (m off b : Nat) (v : Bool) (r : RegRow) (k : Nat) (s : State) (f : FieldRow) :
    KeepsReady s (aliasField m off b v r k s f) := .of <| by
  unfold aliasField
  repeat' split
  all_goals simp

theorem execCsrAliasWrite_orderly (m : Fin 11) (off : Nat) (value : Word) (s : State) :
    Orderly s (execCsrAliasWrite m off value s) := by
  unfold execCsrAliasWrite
  extract_lets n a b
  clear_value a b
  rw [orderly_next]
  iterate 8
    split
    · simp
  split
  · split <;> simp
  · simp

theorem readRefused_keepsReady {s t : State} {m off : Nat} (h : readRefused s m off = some t) : KeepsReady s t := .of <| by
  unfold readRefused at h
  iterate 5
    split at h
    · cases h
      simp
  cases h

@[simp] theorem readEffect_keepsReady (s : State) (m off : Nat) : KeepsReady s (readEffect s m off) := .of <| by
  unfold readEffect
  split <;> simp

@[simp] theorem plainRead_keepsReady (s : State) (m off : Nat) : KeepsReady s (plainRead s m off) := by
  have hc : ∀ cause, KeepsReady s (emit (csrRefuse s m cause off) (.csrData m off 0)) := fun _ => .of (by simp)
  unfold plainRead
  refine .ite ?_ ?_
  · extract_lets n a
    clear_value n a
    refine .ite (keepsReady_getD fun t h => readRefused_keepsReady h) ?_
    split
    · exact .ite (.of (by simp)) (.ite (.of (by simp)) (hc _))
    · exact .of (by simp)
  · split
    · rename_i t h
      exact readRefused_keepsReady h
    · exact .of (by simp)

theorem execCsrReadClear_orderly (m : Fin 11) (off : Nat) (s : State) :
    Orderly s (execCsrReadClear m off s) := by simp [execCsrReadClear]

theorem execCsrReadLatch_orderly (m : Fin 11) (off : Nat) (s : State) :
    Orderly s (execCsrReadLatch m off s) := by simp [execCsrReadLatch]

theorem execCfgHoldLong_orderly (s : State) : Orderly s (execCfgHoldLong s) := by simp [execCfgHoldLong]

/-! ### Machine/CxlMailbox -/

@[simp] theorem freeSkip_keepsReady (s : State) (n : Nat) : KeepsReady s (freeSkip s n) := .of (by simp [freeSkip])

@[simp] theorem stdCmd_keepsReady (s : State) (n : Nat) (needsReady : Bool) (run : State) (h : Kept s run) :
    KeepsReady s (stdCmd s n needsReady run) := .of (by simp [stdCmd, KeepsReady.of h])

theorem execIdentifyMemoryDevice_orderly (n : Fin 64) (s : State) :
    Orderly s (execIdentifyMemoryDevice n s) := by simp -implicitDefEqProofs [execIdentifyMemoryDevice]

theorem execGetPartitionInfo_orderly (n : Fin 64) (s : State) : Orderly s (execGetPartitionInfo n s) := by
  simp -implicitDefEqProofs [execGetPartitionInfo]

theorem execGetSupportedLogs_orderly (n : Fin 64) (s : State) : Orderly s (execGetSupportedLogs n s) := by
  simp -implicitDefEqProofs [execGetSupportedLogs]

theorem execGetLog_orderly (n : Fin 64) (uuid : Bytes) (off len : Nat) (s : State) :
    Orderly s (execGetLog n uuid off len s) := by simp [execGetLog]

theorem execGetHealthInfo_orderly (n : Fin 64) (s : State) :
    Orderly s (execGetHealthInfo n s) := by simp -implicitDefEqProofs [execGetHealthInfo]

theorem execGetEventRecords_orderly (n : Fin 64) (log : Nat) (s : State) :
    Orderly s (execGetEventRecords n log s) := by simp [execGetEventRecords]

theorem execClearEventRecords_orderly (n : Fin 64) (log : Nat) (all : Bool) (handles : List Nat) (s : State) :
    Orderly s (execClearEventRecords n log all handles s) := by simp [execClearEventRecords]

theorem execGetEventInterruptPolicy_orderly (n : Fin 64) (s : State) :
    Orderly s (execGetEventInterruptPolicy n s) := by simp -implicitDefEqProofs [execGetEventInterruptPolicy]

theorem execSetEventInterruptPolicy_orderly (n : Fin 64) (settings : List Byte) (s : State) :
    Orderly s (execSetEventInterruptPolicy n settings s) := by simp [execSetEventInterruptPolicy]

theorem execGetLsa_orderly (n : Fin 64) (off len : Nat) (s : State) : Orderly s (execGetLsa n off len s) := by simp [execGetLsa]

theorem execSetLsa_orderly (n : Fin 64) (off : Nat) (data : Bytes) (s : State) :
    Orderly s (execSetLsa n off data s) := by simp [execSetLsa]

theorem execGetPoisonList_orderly (n : Fin 64) (start len : Nat) (s : State) :
    Orderly s (execGetPoisonList n start len s) := by simp [execGetPoisonList]

theorem execClearPoison_orderly (n : Fin 64) (dpa : Nat) (data : Bytes) (s : State) :
    Orderly s (execClearPoison n dpa data s) := by
  refine .of_keepsReady (stdCmd_keepsReady s _ _ _ ?_)
  repeat' split
  case h_1 h => simp [acceptWrite_keepsReady h]
  all_goals simp

theorem execGetTimestamp_orderly (n : Fin 64) (s : State) : Orderly s (execGetTimestamp n s) := by
  simp -implicitDefEqProofs [execGetTimestamp]

theorem execSetTimestamp_orderly (n : Fin 64) (value : Nat) (s : State) :
    Orderly s (execSetTimestamp n value s) := by simp -implicitDefEqProofs [execSetTimestamp]

theorem execGetFwInfo_orderly (n : Fin 64) (s : State) :
    Orderly s (execGetFwInfo n s) := by simp -implicitDefEqProofs [execGetFwInfo]

theorem execUnsupportedMailboxCommand_orderly (n : Fin 64) (s : State) :
    Orderly s (execUnsupportedMailboxCommand n s) := by simp [execUnsupportedMailboxCommand]

@[simp] theorem fmCmd_keepsReady (s : State) (p : Nat) (run : State) (h : Kept s run) : KeepsReady s (fmCmd s p run) :=
  .of (by simp [fmCmd, KeepsReady.of h])

theorem execGetLdInfo_orderly (p : Fin 16) (s : State) :
    Orderly s (execGetLdInfo p s) := by simp -implicitDefEqProofs [execGetLdInfo]

theorem execGetLdAllocations_orderly (p : Fin 16) (start limit : Nat) (s : State) :
    Orderly s (execGetLdAllocations p start limit s) := by simp -implicitDefEqProofs [execGetLdAllocations]

theorem execSetLdAllocations_orderly (p : Fin 16) (s : State) :
    Orderly s (execSetLdAllocations p s) := by simp [execSetLdAllocations]

theorem execOdRead_orderly (n : Fin 64) (key off : Nat) (s : State) : Orderly s (execOdRead n key off s) := by
  unfold execOdRead
  repeat' split
  all_goals simp

@[simp] theorem odChunk_keepsReady (s : State) (n key off total : Nat) (data : Bytes) :
    KeepsReady s (odChunk s n key off total data) := .of <| by
  simp only [odChunk]
  repeat' split
  all_goals simp

theorem execOdWrite_orderly (n : Fin 64) (key off total : Nat) (data : Bytes) (s : State) :
    Orderly s (execOdWrite n key off total data s) := by
  simp [execOdWrite]

theorem execOdAbort_orderly (n : Fin 64) (key : Nat) (s : State) : Orderly s (execOdAbort n key s) := by simp [execOdAbort]

/-! ### Machine/Mailbox -/

theorem mbxShut_keepsReady {s t : State} {m off : Nat} (h : mbxShut s m off = some t) : KeepsReady s t := .of <| by
  unfold mbxShut at h
  split at h
  · cases h
    simp
  · split at h <;> cases h
    simp

@[simp] theorem mbxStagedDrop_keepsReady (s : State) : KeepsReady s (mbxStagedDrop s) := .of (by simp [mbxStagedDrop])

@[simp] theorem mbxFree_keepsReady (s : State) : KeepsReady s (mbxFree s) := .of (by simp [mbxFree])

theorem execMbxClaim_orderly (m : Fin 11) (s : State) : Orderly s (execMbxClaim m s) := by
  unfold execMbxClaim
  split
  · rename_i h
    simp [mbxShut_keepsReady h]
  · simp

theorem execMbxRelease_orderly (m : Fin 11) (s : State) : Orderly s (execMbxRelease m s) := by
  unfold execMbxRelease
  split
  · rename_i h
    simp [mbxShut_keepsReady h]
  · simp

@[simp] theorem mbxAborted_keepsReady (s : State) : KeepsReady s (mbxAborted s) := .of (by simp [mbxAborted])

@[simp] theorem mbxAbortNow_keepsReady (s : State) : KeepsReady s (mbxAbortNow s) := .of <| by
  unfold mbxAbortNow
  repeat' split
  all_goals simp

theorem execMbxClaimExpired_orderly (s : State) : Orderly s (execMbxClaimExpired s) := by
  unfold execMbxClaimExpired
  repeat' split
  all_goals simp

@[simp] theorem mbxChunk_keepsReady (s : State) (m : Nat) : KeepsReady s (mbxChunk s m).2.2 := .of <| by
  simp only [mbxChunk]
  repeat' split
  all_goals simp

@[simp] theorem mbxStart_keepsReady (s : State) (m op : Nat) : KeepsReady s (mbxStart s m op) := .of <| by
  unfold mbxStart
  split
  · rename_i h
    simp [mbxShut_keepsReady h]
  split
  · simp
  split
  · simp
  dsimp only
  split <;> simp

theorem execMbxRead_orderly (m : Fin 11) (op : Fin 4) (s : State) : Orderly s (execMbxRead m op s) := by simp [execMbxRead]

theorem execMbxWrite_orderly (m : Fin 11) (s : State) : Orderly s (execMbxWrite m s) := by simp [execMbxWrite]

theorem execMbxAbort_orderly (m : Fin 11) (s : State) : Orderly s (execMbxAbort m s) := by
  unfold execMbxAbort
  split
  · rename_i h
    simp [mbxShut_keepsReady h]
  · simp

@[simp] theorem mbxReadEnd_keepsReady (s : State) (key : Nat) : KeepsReady s (mbxReadEnd s key) := .of (by simp [mbxReadEnd])

theorem execMbxOpDone_orderly (s : State) : Orderly s (execMbxOpDone s) := by
  unfold execMbxOpDone
  repeat' split
  all_goals simp

theorem execOdStore_orderly (r : Route) (client : Nat) (s : State) : Orderly s (execOdStore r client s) := by simp [execOdStore]

@[simp] theorem storeLayer_keepsReady (s : State) (l : LayerId) (vs : List (Nat × Bytes)) :
    KeepsReady s (storeLayer s l vs) := .of <| by
  unfold storeLayer
  repeat' split
  all_goals simp

theorem execOdStoreDone_orderly (s : State) : Orderly s (execOdStoreDone s) := by
  unfold execOdStoreDone
  repeat' split
  all_goals simp

theorem execOverlayAdd_orderly (r : Route) (client : Nat) (s : State) :
    Orderly s (execOverlayAdd r client s) := by simp [execOverlayAdd]

theorem execOverlayRemove_orderly (r : Route) (client : Nat) (s : State) :
    Orderly s (execOverlayRemove r client s) := by simp [execOverlayRemove]

theorem execRgnEntryApply_orderly (r : Route) (client : Nat) (e : Fin 1024) (ld : Byte) (s : State) :
    Orderly s (execRgnEntryApply r client e ld s) := by simp [execRgnEntryApply]

theorem execFwData_orderly (r : Route) (client : Nat) (data : Bytes) (s : State) :
    Orderly s (execFwData r client data s) := by simp [execFwData]

theorem execFwActivate_orderly (r : Route) (client : Nat) (s : State) :
    Orderly s (execFwActivate r client s) := by simp [execFwActivate]

theorem execFwActivateForce_orderly (r : Route) (client : Nat) (s : State) :
    Orderly s (execFwActivateForce r client s) := by simp [execFwActivateForce]

theorem execFwActivateCancel_orderly (r : Route) (client : Nat) (s : State) :
    Orderly s (execFwActivateCancel r client s) := by simp [execFwActivateCancel]

theorem execReadBlock_orderly (r : Route) (client : Nat) (s : State) :
    Orderly s (execReadBlock r client s) := by simp [execReadBlock]

/-! ### Machine/Sealed -/

theorem execPresenceNPress_orderly (s : State) : Orderly s (execPresenceNPress s) := by simp [execPresenceNPress]

theorem execPresenceNRelease_orderly (s : State) : Orderly s (execPresenceNRelease s) := by simp [execPresenceNRelease]

theorem execPresenceOpen_orderly (s : State) : Orderly s (execPresenceOpen s) := by simp [execPresenceOpen]

theorem execPresenceClose_orderly (s : State) : Orderly s (execPresenceClose s) := by simp [execPresenceClose]

theorem execPresenceStuck_orderly (s : State) : Orderly s (execPresenceStuck s) := by
  unfold execPresenceStuck
  repeat' split
  all_goals simp

theorem execPresenceRearm_orderly (s : State) : Orderly s (execPresenceRearm s) := by simp [execPresenceRearm]

theorem execRecorderClear_orderly (r : Route) (client : Nat) (value : Bytes) (s : State) :
    Orderly s (execRecorderClear r client value s) := by simp [execRecorderClear]

theorem execLockPolicyChange_orderly (r : Route) (client : Nat) (which : Fin 4) (value : Bytes) (s : State) :
    Orderly s (execLockPolicyChange r client which value s) := by simp [execLockPolicyChange]

theorem execFactoryDefault_orderly (r : Route) (client : Nat) (value : Bytes) (s : State) :
    Orderly s (execFactoryDefault r client value s) := by simp [execFactoryDefault]

theorem execCryptoErase_orderly (r : Route) (client : Nat) (value : Bytes) (s : State) :
    Orderly s (execCryptoErase r client value s) := by simp [execCryptoErase]

theorem execForcedSlotSelection_orderly (r : Route) (client : Nat) (value : Bytes) (s : State) :
    Orderly s (execForcedSlotSelection r client value s) := by simp [execForcedSlotSelection]

theorem execPresencePolicyChange_orderly (r : Route) (client : Nat) (value : Bytes) (s : State) :
    Orderly s (execPresencePolicyChange r client value s) := by simp [execPresencePolicyChange]

/-! ### Machine/Ticks -/

@[simp] theorem reserveDue_keepsReady (s : State) : KeepsReady s (reserveDue s) := .of (by simp [reserveDue])

@[simp] theorem regionsChanged_keepsReady (s : State) (was : List Walk) (touched : List Nat) :
    KeepsReady s (regionsChanged s was touched) := .of (by simp -implicitDefEqProofs [regionsChanged])

@[simp] theorem enableChange_keepsReady (s : State) (f : Fn) (on : Bool) : KeepsReady s (enableChange s f on) := .of <| by
  simp only [enableChange]
  repeat' split
  all_goals simp

@[simp] theorem stagedApply_keepsReady (s : State) (x : Nat × Nat) : KeepsReady s (stagedApply s x) := .of <| by
  unfold stagedApply
  repeat' split
  all_goals simp

@[simp] theorem capApply_keepsReady (s : State) : KeepsReady s (capApply s) := .of (by simp [capApply])

@[simp] theorem applyBuffered_keepsReady (s : State) : KeepsReady s (applyBuffered s) := .of <| by
  unfold applyBuffered
  repeat' split
  all_goals simp

@[simp] theorem functionsTick_keepsReady (s : State) :
    KeepsReady s (functionsTick s) := .of (by simp -implicitDefEqProofs [functionsTick])

@[simp] theorem standbyTick_keepsReady (s : State) :
    KeepsReady s (standbyTick s) := .of (by simp -implicitDefEqProofs [standbyTick])

@[simp] theorem sampleTake_keepsReady (s : State) : KeepsReady s (sampleTake s) := .of (by simp [sampleTake])

@[simp] theorem zonesAdopt_keepsReady (s : State) : KeepsReady s (zonesAdopt s) := .of (by simp [zonesAdopt])

@[simp] theorem zonesGrant_keepsReady (s : State) : KeepsReady s (zonesGrant s) := .of (by simp [zonesGrant])

@[simp] theorem zonesAsk_keepsReady (s : State) : KeepsReady s (zonesAsk s) := .of (by simp [zonesAsk])

@[simp] theorem bucketsRefill_keepsReady (s : State) : KeepsReady s (bucketsRefill s) := .of (by simp [bucketsRefill])

@[simp] theorem dumpFree_keepsReady (s : State) : KeepsReady s (dumpFree s) := .of (by simp [dumpFree])

@[simp] theorem warmupLoads_keepsReady (s : State) : KeepsReady s (warmupLoads s) := .of (by simp [warmupLoads])

@[simp] theorem phaseZero_keepsReady (s : State) : KeepsReady s (phaseZero s) := .of (by simp [phaseZero])

@[simp] theorem pacingTick_keepsReady (s : State) (len : Nat) : KeepsReady s (pacingTick s len) := .of (by simp [pacingTick])

@[simp] theorem busyTick_keepsReady (s : State) (len : Nat) : KeepsReady s (busyTick s len) := .of <| by
  unfold busyTick
  split <;> simp

@[simp] theorem heartbeatTick_keepsReady (s : State) : KeepsReady s (heartbeatTick s) := .of (by simp [heartbeatTick])

@[simp] theorem replayTick_keepsReady (s : State) : KeepsReady s (replayTick s) := .of (by simp [replayTick])

@[simp] theorem failbackTick_keepsReady (s : State) :
    KeepsReady s (failbackTick s) := .of (by simp -implicitDefEqProofs [failbackTick])

@[simp] theorem crcCheck_keepsReady (s : State) : KeepsReady s (crcCheck s) := .of <| by
  unfold crcCheck
  repeat' split
  all_goals simp

end Sys2Proof.Proofs
end

section
/-!
PROOFS. READY is asserted only when running (O52): the steps of bring-up, the resets, COMMIT, the line clock and the ticks.
-/
namespace Sys2Proof.Proofs
open Sys2Proof Sys2Proof.Machine Sys2Proof.Laws

theorem execWbPending_orderly (a : Fin 5) (line : Nat) (s : State) : Orderly s (execWbPending a line s) :=
  .of_keepsReady (.trans (t := bump s Reg.GRT_STAT_WBP_WB_PENDING 1) (.of (by simp))
    (homeAnswer_keepsReady _ _ _ _ id _ (readyKept_refl _)))

theorem readyFits_true (s : State) : ReadyFits true (bootFace s.boot) s.cin.phase ↔ ReadyInv s := by
  simp [ReadyFits, bootFace, ReadyInv]

theorem Kept.readyInv {s t : State} (h : Kept s t) (hs : ReadyInv s) : ReadyInv t :=
  (readyFits_true t).1 (h true ((readyFits_true s).2 hs))

/-! ### Machine/Bringup -/

/-- A step of bring-up: from any earlier state without READY it is enough to come to `s`. -/
abbrev KeepsDown (s t : State) : Prop := ∀ r, r.boot.ready = false → (Kept r t ↔ Kept r s ∨ KeptThere r t)

theorem KeepsDown.of {s t : State} (h : s.boot.ready = false → Kept s t) : KeepsDown s t :=
  fun _ hr => ⟨.inr, fun hk => hk.elim (fun hs => hs.trans (h (hs.notReady hr))) id⟩

theorem KeepsDown.kept {s t : State} (h : KeepsDown s t) (hr : s.boot.ready = false) :
    Kept s t := (h s hr).2 (.inl (readyKept_refl s))

@[simp] theorem stepTo_keepsDown (s : State) (n : Nat) : KeepsDown s (stepTo s n) := .of fun hr => (kept_iff_of_notReady hr).2 hr

@[simp] theorem stepStop_keepsReady (s : State) (why : BringupStop) (code : Nat) : KeepsReady s (stepStop s why code) :=
  .of (by simp [stepStop])

@[simp] theorem stepFill_keepsReady (s : State) : KeepsReady s (stepFill s) := .of (by simp [stepFill])

@[simp] theorem retentionCheck_keepsReady (s : State) (jrnGood : Bool) : KeepsReady s (retentionCheck s jrnGood) :=
  .of (by simp [retentionCheck])

@[simp] theorem stepFirmware_keepsDown (s : State) : KeepsDown s (stepFirmware s) := .of fun hr => by
  unfold stepFirmware
  dsimp only
  repeat' split
  all_goals simp [hr]

@[simp] theorem stepDram_keepsDown (s : State) (r : StepIn) : KeepsDown s (stepDram s r) := .of fun hr => by
  unfold stepDram
  repeat' split
  all_goals simp -implicitDefEqProofs [hr]

@[simp] theorem stepFillDram_keepsDown (s : State) : KeepsDown s (stepFillDram s) := .of fun hr => by
  simp [stepFillDram, hr]

@[simp] theorem stepLoad_keepsDown (s : State) (r : StepIn) : KeepsDown s (stepLoad s r) := .of fun hr => by
  unfold stepLoad
  split
  · simp [hr]
  extract_lets _bk s1 s2 s3 x _b _fw s4 _dr s5 back
  have h2 : KeepsReady s s2 := .of (by simp [s2, s1])
  have h3 : KeepsReady s2 s3 := .of (by simp [s3])
  have h4 : KeepsReady s3 s4 := .of (by simp [s4, _b])
  have h5 : KeepsReady s4 s5 := .of (by simp [s5])
  clear_value s5
  simp [hr, h5, h4, h3, h2]

@[simp] theorem crcLoad_keepsReady (s0 : State) (s : State) : KeepsReady s (crcLoad s0 s) := .of <| by
  unfold crcLoad
  repeat' split
  all_goals simp

@[simp] theorem hostsEnable_keepsReady (s : State) : KeepsReady s (hostsEnable s) := .of (by simp [hostsEnable])

@[simp] theorem stepConfigure_keepsDown (s : State) : KeepsDown s (stepConfigure s) := .of fun hr => by
  unfold stepConfigure
  extract_lets s1 s2 _c _t s3 s4 _b _ta _d s5
  have h3 : KeepsReady s s3 := .of (by simp [s3, _c, s2, s1])
  have h4 : KeepsReady s3 s4 := .of (by simp [s4])
  have h5 : KeepsReady s4 s5 := .of (by simp [s5, _d])
  clear_value s5
  simp [hr, h5, h4, h3]

@[simp] theorem discoverSlot_keepsReady (ds : List (Nat × DriveInfo)) (s : State) (n : Nat) :
    KeepsReady s (discoverSlot ds s n) := .of <| by
  unfold discoverSlot
  repeat' split
  all_goals simp

@[simp] theorem zonesFound_keepsReady (s : State) (n : Nat) : KeepsReady s (zonesFound s n) := .of <| by
  simp only [zonesFound]
  repeat' split
  all_goals simp

@[simp] theorem setAssemble_keepsReady (s : State) (n : Nat) : KeepsReady s (setAssemble s n) := .of (by simp [setAssemble])

@[simp] theorem keyWait_keepsReady (s : State) (ns : List Nat) : KeepsReady s (keyWait s ns) := .of <| by
  simp -implicitDefEqProofs [keyWait]

@[simp] theorem stepDrives_keepsDown (s : State) (r : StepIn) : KeepsDown s (stepDrives s r) := .of fun hr => by
  unfold stepDrives
  extract_lets s1 _b s2
  have h1 : KeepsReady s s1 := .of (by simp [s1])
  have hr1 := h1.kept.notReady hr
  have h2 : KeepsReady s1 s2 := .of (by simp [s2])
  clear_value s2
  split
  · exact (kept_iff_of_notReady hr).2 (by simp [_b, hr1])
  split
  · simp [h2, h1]
  · simp [hr, h2, h1]

@[simp] theorem replayEntry_keepsReady (root : Nat) (s : State) (e : JournalEntry) : KeepsReady s (replayEntry root s e) := by
  unfold replayEntry
  refine .ite (.refl s) (.foldl (.refl s) fun t c => ?_)
  dsimp only
  split
  · exact .ite (.of (by simp)) (.refl t)
  · exact .refl t

@[simp] theorem rootTake_keepsReady (s : State) : KeepsReady s (rootTake s).2 := .of (by simp -implicitDefEqProofs [rootTake])

@[simp] theorem weltReplay_keepsReady (s : State) : KeepsReady s (weltReplay s) := .of (by simp [weltReplay])

@[simp] theorem retentionVerdict_keepsReady (s : State) (trigger : Nat) (early : Bool) :
    KeepsReady s (retentionVerdict s trigger early) := .of <| by
  unfold retentionVerdict
  split
  · simp
  split
  · simp
  extract_lets s1 _b _a
  have h1 : KeepsReady s s1 := .of (by simp [s1])
  clear_value s1
  simp [_b, h1]

@[simp] theorem stepTwin_keepsDown (s : State) : KeepsDown s (stepTwin s) := .of fun hr => by
  unfold stepTwin
  dsimp only
  repeat' split
  all_goals simp [hr]

@[simp] theorem stepReplay_keepsDown (s : State) (r : StepIn) : KeepsDown s (stepReplay s r) := .of fun hr => by
  unfold stepReplay
  repeat' split
  all_goals simp -implicitDefEqProofs [hr]

@[simp] theorem poisonLost_keepsReady (s : State) (ls : List Nat) : KeepsReady s (poisonLost s ls) :=
  .of (by simp -implicitDefEqProofs [poisonLost])

@[simp] theorem volatileReset_keepsReady (s : State) : KeepsReady s (volatileReset s) := .of (by simp [volatileReset])

@[simp] theorem recoverHalf_keepsReady (s : State) (r : StepIn) : KeepsReady s (recoverHalf s r) := .of <| by
  unfold recoverHalf
  repeat' split
  all_goals simp

theorem stepTo_bootFace {s t : State} (n : Nat) (h : bootFace s.boot = bootFace t.boot) :
    bootFace (stepTo s n).boot = (t.boot.ready, n, t.boot.porst, t.boot.warm) := by
  simp only [bootFace, Prod.mk.injEq] at h
  simp [bootFace, stepTo, h]

/-- Step 13 leads to step 14 and changes no other part of the face (R524). -/
theorem stepWarmup_bootFace (s : State) : bootFace (stepWarmup s).boot = (s.boot.ready, 14, s.boot.porst, s.boot.warm) := by
  unfold stepWarmup
  extract_lets _g s1 left pinned order _c s2
  have h2 : bootFace s2.boot = bootFace s.boot := rfl
  clear_value s2
  exact stepTo_bootFace 14 (by simp [h2])

@[simp] theorem stepWarmup_phase (s : State) : (stepWarmup s).cin.phase = s.cin.phase := by
  simp [stepWarmup, stepTo]

theorem stepReady_readyInv {s : State} (hst : s.boot.stage = 14) (hp : s.boot.porst = false) (hc : s.cin.phase ≠ .commit) :
    ReadyInv (stepReady s) := by
  unfold stepReady
  extract_lets ms _b s1 s2
  have h1 : ReadyInv s1 := fun _ => ⟨hst, hp, hc, nofun⟩
  have h2 : Kept s1 (openLeases (admitUpdate (endReaction s2 .controller))) := by simp [s2]
  exact h2.readyInv h1

theorem execBringupStepLate_orderly (s : State) : Orderly s (execBringupStepLate s) := by
  simp -implicitDefEqProofs [execBringupStepLate]

theorem execWrstNAssert_orderly (s : State) : Orderly s (execWrstNAssert s) := by simp [execWrstNAssert]

theorem execWrstNRelease_orderly (s : State) : Orderly s (execWrstNRelease s) := by simp [execWrstNRelease]

theorem execSwWarmReset_orderly (m : Fin 11) (value : Word) (s : State) : Orderly s (execSwWarmReset m value s) := by
  unfold execSwWarmReset
  split
  · rename_i h
    simp [masterRefused_keepsReady h]
  · simp

theorem execWarmResetDeferralEnd_orderly (s : State) : Orderly s (execWarmResetDeferralEnd s) := by
  simp [execWarmResetDeferralEnd]

@[simp] theorem queuesOut_keepsReady (s : State) : KeepsReady s (queuesOut s) := .of (by simp -implicitDefEqProofs [queuesOut])

@[simp] theorem stripesDropped_keepsReady (s : State) : KeepsReady s (stripesDropped s) := .of (by simp [stripesDropped])

/-- The warm reset takes hold in a controller that is not READY and leaves it so. -/
theorem warmHold_kept {s : State} (torn : Bool) (hr : s.boot.ready = false) : Kept s (warmHold s torn) := by
  rw [kept_iff_of_notReady hr]
  unfold warmHold
  extract_lets s1 s2
  have h2 : KeepsReady s s2 := .of (by simp [s2, s1])
  have hr2 := h2.kept.notReady hr
  clear_value s2
  exact hr2

theorem execWarmResetHold_orderly (torn : Bool) (s : State) : Orderly s (execWarmResetHold torn s) := by
  unfold execWarmResetHold
  rw [orderly_next]
  split
  · simp
  next hg =>
    have hw : s.boot.warm = .draining := by simp_all
    refine kept_of_unfit (fun _ _ _ => hw) fun hr => ?_
    split
    · exact (kept_iff_of_notReady hr).2 (by simp [hr])
    split
    · simp
    · simp [KeepsReady.of (warmHold_kept torn hr)]

/-! ### READY and the ends of power-up: the steps of bring-up (R524), PORST_N and VDD_AON -/

/-- While bring-up has not come to its last step READY is not asserted. -/
theorem notReady_of_readyInv {s : State} (hs : ReadyInv s) (hst : s.boot.stage ≠ 14) : s.boot.ready = false := by
  cases hr : s.boot.ready with
  | false => rfl
  | true => exact absurd (hs hr).1 hst

theorem Orderly.readyInv {s : State} {o : Host.Outcome State Fault Refusal} (h : Orderly s o) (t : State) (ho : o = .next t) (hs : ReadyInv s) :
    ReadyInv t := (h.kept t ho).readyInv hs

theorem KeepsDown.readyInv {s t : State} (h : KeepsDown s t) (hst : s.boot.stage ≠ 14) (hs : ReadyInv s) : ReadyInv t :=
  (h.kept (notReady_of_readyInv hs hst)).readyInv hs

theorem stepTo_keepsDown_after {s t : State} (n : Nat) (h : KeepsReady s t) : KeepsDown s (stepTo t n) :=
  .of fun hr => h.kept.trans ((stepTo_keepsDown t n).kept (h.kept.notReady hr))

theorem kept_of_notReady {s t : State} (h : t.boot.ready = false) : Kept s t := fun _ _ hr => by
  simp [bootFace, h] at hr

theorem execBringupStepEnd_readyInv {r : StepIn} {s t : State} (h : execBringupStepEnd r s = .next t) (hs : ReadyInv s) :
    ReadyInv t := by
  unfold execBringupStepEnd at h
  simp only [Host.Outcome.next.injEq] at h
  subst h
  split
  · exact hs
  next hg =>
    simp only [not_or, Bool.not_eq_true] at hg
    obtain ⟨hp, -, hc, -, -⟩ := hg
    split
    iterate 5 exact hs
    all_goals
      split
      next hn => exact KeepsDown.readyInv (stepTo_keepsDown_after _ (stepFill_keepsReady s)) (by simp [hn]) hs
      next hn => exact KeepsDown.readyInv (stepTo_keepsDown_after _ (retentionCheck_keepsReady s _)) (by simp [hn]) hs
      next hn => exact KeepsDown.readyInv (stepTo_keepsDown_after (t := lineReserve (stmStart (flsScan s))) _ (.of (by simp))) (by simp [hn]) hs
      next hn => exact (stepFirmware_keepsDown s).readyInv (by simp [hn]) hs
      next hn => exact (stepDram_keepsDown s r).readyInv (by simp [hn]) hs
      next hn => exact (stepFillDram_keepsDown s).readyInv (by simp [hn]) hs
      next hn => exact (stepLoad_keepsDown s r).readyInv (by simp [hn]) hs
      next hn => exact (stepConfigure_keepsDown s).readyInv (by simp [hn]) hs
      next hn => exact (stepDrives_keepsDown s r).readyInv (by simp [hn]) hs
      next hn => exact (stepReplay_keepsDown s r).readyInv (by simp [hn]) hs
      next hn =>
        split
        · refine KeepsDown.readyInv (.of fun hr => ?_) (by simp [hn]) hs
          simp [hr]
        · exact hs
      next hn =>
        have hf := stepWarmup_bootFace s
        simp only [bootFace, Prod.mk.injEq] at hf
        obtain ⟨-, hst, hp', -⟩ := hf
        exact stepReady_readyInv hst (hp'.trans hp) (by simpa using hc)
      · exact hs

theorem execPorstNRelease_orderly (mode : Fin 4) (serviceN twinPresentN : Bool) (s : State) :
    Orderly s (execPorstNRelease mode serviceN twinPresentN s) := by
  unfold execPorstNRelease
  rw [orderly_next]
  split
  · simp
  split
  · simp
  next hp =>
    refine kept_of_unfit (fun _ h => absurd h hp) fun hr => (kept_iff_of_notReady hr).2 ?_
    dsimp only
    split <;> simp [hr]

theorem execPorstNAssert_orderly (torn : Bool) (s : State) : Orderly s (execPorstNAssert torn s) := by
  unfold execPorstNAssert
  rw [orderly_next]
  split
  · simp
  split
  · split <;> simp
  · exact kept_of_notReady rfl

theorem execVddAonLoss_orderly (torn : Bool) (s : State) : Orderly s (execVddAonLoss torn s) := by
  unfold execVddAonLoss
  rw [orderly_next]
  split
  · exact kept_of_notReady rfl
  · simp

/-! ### READY and COMMIT (R315 to R320) -/

@[simp] theorem commitEnd_keepsReady (s : State) : KeepsReady s (commitEnd s) := .of <| by
  unfold commitEnd
  split
  · exact kept_of_notReady rfl
  · simp

theorem execCommitStepEnd_orderly (s : State) : Orderly s (execCommitStepEnd s) := by
  unfold execCommitStepEnd
  rw [orderly_next]
  split
  · simp
  split <;> simp

/-! ### READY and the line clock (R38 to R48, R312, R313) -/

@[simp] theorem readyKept_goodCrossing (r s : State) (f : Bool × Nat × Bool × WarmPhase) (t idx : Nat) (err : Int) (next : Bool) :
    ReadyKept r f (goodCrossing s t idx err next).cin.phase ↔ ReadyKept r f s.cin.phase := by
  unfold goodCrossing
  extract_lets c xs p inTick run relock st s1 s2 s3
  have h3 : s3.cin.phase = s.cin.phase := by simp [s3, s2, s1]
  clear_value s3
  split <;> simp [h3]

theorem execLineSyncPulse_orderly (highNs dt : Nat) (s : State) : Orderly s (execLineSyncPulse highNs dt s) := by
  unfold execLineSyncPulse
  dsimp only
  rw [orderly_next]
  split
  · simp
  split
  · simp
  · simp
  · split
    · split <;> simp
    split
    · split <;> simp
    · simp

theorem execLineMissed_orderly (s : State) : Orderly s (execLineMissed s) := by
  unfold execLineMissed
  rw [orderly_next]
  split
  · repeat' split
    all_goals simp
  · simp

theorem execLineListenEnd_orderly (s : State) : Orderly s (execLineListenEnd s) := by
  simp [execLineListenEnd]

/-! ### READY and the ticks -/

@[simp] theorem alignStep_keepsReady (s : State) (t : Nat) : KeepsReady s (alignStep s t) := .of (by simp [alignStep])

@[simp] theorem wrapClock_keepsReady (s : State) : KeepsReady s (wrapClock s) := .of <| by
  unfold wrapClock
  dsimp only
  split <;> simp

@[simp] theorem tickAdvance_keepsReady (s : State) : KeepsReady s (tickAdvance s) := .of (by simp [tickAdvance])

theorem tick_keepsReady (s : State) : KeepsReady s (tick s) := by
  unfold tick
  refine .ite (.refl s) ?_
  extract_lets len s1 s2 s3 s4 s5
  have h1 : KeepsReady s s1 := tickAdvance_keepsReady s
  have h2 : KeepsReady s1 s2 := .of (by simp [s2])
  have h3 : KeepsReady s2 s3 := .ite (phaseZero_keepsReady s2) (.refl s2)
  have h4 : KeepsReady s3 s4 := .of (by simp [s4])
  have h5 : KeepsReady s4 s5 := .of (by simp [s5])
  have h6 : KeepsReady s5 (confirmTrack (if s5.lck.phase = 512 then crcCheck s5 else s5)) := .of (by simp)
  exact .ite h1 (h1.trans (h2.trans (h3.trans (h4.trans (h5.trans h6)))))

theorem execTick_orderly (s : State) : Orderly s (execTick s) := .of_keepsReady (tick_keepsReady s)

theorem execHalfCycleBoundary_orderly (s : State) : Orderly s (execHalfCycleBoundary s) :=
  .of_keepsReady (.ite (tick_keepsReady s) (.refl s))

/-! ### Machine/Dispatch -/

/-- What READY asks is kept by every command: one arm for each. -/
theorem exec_readyInv (c : Instr) (s t : State) : exec c s = .next t → ReadyInv s → ReadyInv t :=
  match c with
  | .porstNRelease .. => (execPorstNRelease_orderly ..).readyInv t
  | .porstNAssert .. => (execPorstNAssert_orderly ..).readyInv t
  | .vddAonLoss .. => (execVddAonLoss_orderly ..).readyInv t
  | .commonStart => (execCommonStart_orderly ..).readyInv t
  | .railOnDelay .. => (execRailOnDelay_orderly ..).readyInv t
  | .railPgRise .. => (execRailPgRise_orderly ..).readyInv t
  | .railPgTimeout .. => (execRailPgTimeout_orderly ..).readyInv t
  | .railPgFault .. => (execRailPgFault_orderly ..).readyInv t
  | .railRetryAttempt .. => (execRailRetryAttempt_orderly ..).readyInv t
  | .railOffDelay .. => (execRailOffDelay_orderly ..).readyInv t
  | .railStuckOn .. => (execRailStuckOn_orderly ..).readyInv t
  | .domainSwitchTimeout .. => (execDomainSwitchTimeout_orderly ..).readyInv t
  | .psuOkLow => (execPsuOkLow_orderly ..).readyInv t
  | .holdupLow => (execHoldupLow_orderly ..).readyInv t
  | .faultNExternal => (execFaultNExternal_orderly ..).readyInv t
  | .faultNGlitch => (execFaultNGlitch_orderly ..).readyInv t
  | .sysclkLoss => (execSysclkLoss_orderly ..).readyInv t
  | .refclkLoss .. => (execRefclkLoss_orderly ..).readyInv t
  | .wdiToggle => (execWdiToggle_orderly ..).readyInv t
  | .wdiMissed => (execWdiMissed_orderly ..).readyInv t
  | .bringupStepEnd .. => fun h hs => execBringupStepEnd_readyInv h hs
  | .bringupStepLate => (execBringupStepLate_orderly ..).readyInv t
  | .wrstNAssert => (execWrstNAssert_orderly ..).readyInv t
  | .swWarmReset .. => (execSwWarmReset_orderly ..).readyInv t
  | .warmResetHold .. => (execWarmResetHold_orderly ..).readyInv t
  | .warmResetDeferralEnd => (execWarmResetDeferralEnd_orderly ..).readyInv t
  | .unitResetLat => (execUnitResetLat_orderly ..).readyInv t
  | .unitResetBkl => (execUnitResetBkl_orderly ..).readyInv t
  | .unitResetTir => (execUnitResetTir_orderly ..).readyInv t
  | .unitResetStm => (execUnitResetStm_orderly ..).readyInv t
  | .unitResetFls => (execUnitResetFls_orderly ..).readyInv t
  | .unitResetKcb => (execUnitResetKcb_orderly ..).readyInv t
  | .functionQuiesced .. => (execFunctionQuiesced_orderly ..).readyInv t
  | .disableAbortTimeExpired .. => (execDisableAbortTimeExpired_orderly ..).readyInv t
  | .lineSyncPulse .. => (execLineSyncPulse_orderly ..).readyInv t
  | .lineMissed => (execLineMissed_orderly ..).readyInv t
  | .lineListenEnd => (execLineListenEnd_orderly ..).readyInv t
  | .tick => (execTick_orderly ..).readyInv t
  | .halfCycleBoundary => (execHalfCycleBoundary_orderly ..).readyInv t
  | .compatTick => (execCompatTick_orderly ..).readyInv t
  | .csrWrite .. => (execCsrWrite_orderly ..).readyInv t
  | .csrAliasWrite .. => (execCsrAliasWrite_orderly ..).readyInv t
  | .csrReadClear .. => (execCsrReadClear_orderly ..).readyInv t
  | .csrReadLatch .. => (execCsrReadLatch_orderly ..).readyInv t
  | .cfgHoldLong => (execCfgHoldLong_orderly ..).readyInv t
  | .mbxClaim .. => (execMbxClaim_orderly ..).readyInv t
  | .mbxRelease .. => (execMbxRelease_orderly ..).readyInv t
  | .mbxClaimExpired => (execMbxClaimExpired_orderly ..).readyInv t
  | .mbxRead .. => (execMbxRead_orderly ..).readyInv t
  | .mbxWrite .. => (execMbxWrite_orderly ..).readyInv t
  | .mbxAbort .. => (execMbxAbort_orderly ..).readyInv t
  | .mbxOpDone => (execMbxOpDone_orderly ..).readyInv t
  | .odStore .. => (execOdStore_orderly ..).readyInv t
  | .odStoreDone => (execOdStoreDone_orderly ..).readyInv t
  | .overlayAdd .. => (execOverlayAdd_orderly ..).readyInv t
  | .overlayRemove .. => (execOverlayRemove_orderly ..).readyInv t
  | .rgnEntryApply .. => (execRgnEntryApply_orderly ..).readyInv t
  | .read .. => (execRead_orderly ..).readyInv t
  | .write .. => (execWrite_orderly ..).readyInv t
  | .writeInit .. => (execWriteInit_orderly ..).readyInv t
  | .segment .. => (execSegment_orderly ..).readyInv t
  | .ack .. => (execAck_orderly ..).readyInv t
  | .abort .. => (execAbort_orderly ..).readyInv t
  | .tackBootupFrame .. => (execTackBootupFrame_orderly ..).readyInv t
  | .tackBootupListenEnd => (execTackBootupListenEnd_orderly ..).readyInv t
  | .tackClassicalFrame .. => (execTackClassicalFrame_orderly ..).readyInv t
  | .tackTransferTimeout .. => (execTackTransferTimeout_orderly ..).readyInv t
  | .presenceOpen => (execPresenceOpen_orderly ..).readyInv t
  | .presenceClose => (execPresenceClose_orderly ..).readyInv t
  | .presenceStuck => (execPresenceStuck_orderly ..).readyInv t
  | .presenceRearm => (execPresenceRearm_orderly ..).readyInv t
  | .recorderClear .. => (execRecorderClear_orderly ..).readyInv t
  | .recorderClearStepEnd => (execRecorderClearStepEnd_orderly ..).readyInv t
  | .lockPolicyChange .. => (execLockPolicyChange_orderly ..).readyInv t
  | .factoryDefault .. => (execFactoryDefault_orderly ..).readyInv t
  | .cryptoErase .. => (execCryptoErase_orderly ..).readyInv t
  | .forcedSlotSelection .. => (execForcedSlotSelection_orderly ..).readyInv t
  | .presencePolicyChange .. => (execPresencePolicyChange_orderly ..).readyInv t
  | .hostWrite .. => (execHostWrite_orderly ..).readyInv t
  | .hostRead .. => (execHostRead_orderly ..).readyInv t
  | .streamWrite .. => (execStreamWrite_orderly ..).readyInv t
  | .skiveClose .. => (execSkiveClose_orderly ..).readyInv t
  | .weltRelease .. => (execWeltRelease_orderly ..).readyInv t
  | .hdmDecoderCommit .. => (execHdmDecoderCommit_orderly ..).readyInv t
  | .doorbellRing .. => (execDoorbellRing_orderly ..).readyInv t
  | .barrierEnd .. => (execBarrierEnd_orderly ..).readyInv t
  | .barrierTimeout .. => (execBarrierTimeout_orderly ..).readyInv t
  | .commitBarrierCutoff => (execCommitBarrierCutoff_orderly ..).readyInv t
  | .gpfPhase1 .. => (execGpfPhase1_orderly ..).readyInv t
  | .gpfPhase2 .. => (execGpfPhase2_orderly ..).readyInv t
  | .hostLinkUp .. => (execHostLinkUp_orderly ..).readyInv t
  | .hostLinkDown .. => (execHostLinkDown_orderly ..).readyInv t
  | .hptPortEnableChange .. => (execHptPortEnableChange_orderly ..).readyInv t
  | .hptLdEnableChange .. => (execHptLdEnableChange_orderly ..).readyInv t
  | .birspi .. => (execBirspi_orderly ..).readyInv t
  | .biconflict .. => (execBiconflict_orderly ..).readyInv t
  | .bisnpGuardExpired .. => (execBisnpGuardExpired_orderly ..).readyInv t
  | .identifyMemoryDevice .. => (execIdentifyMemoryDevice_orderly ..).readyInv t
  | .getPartitionInfo .. => (execGetPartitionInfo_orderly ..).readyInv t
  | .getSupportedLogs .. => (execGetSupportedLogs_orderly ..).readyInv t
  | .getLog .. => (execGetLog_orderly ..).readyInv t
  | .getHealthInfo .. => (execGetHealthInfo_orderly ..).readyInv t
  | .getEventRecords .. => (execGetEventRecords_orderly ..).readyInv t
  | .clearEventRecords .. => (execClearEventRecords_orderly ..).readyInv t
  | .getEventInterruptPolicy .. => (execGetEventInterruptPolicy_orderly ..).readyInv t
  | .setEventInterruptPolicy .. => (execSetEventInterruptPolicy_orderly ..).readyInv t
  | .getLsa .. => (execGetLsa_orderly ..).readyInv t
  | .setLsa .. => (execSetLsa_orderly ..).readyInv t
  | .getPoisonList .. => (execGetPoisonList_orderly ..).readyInv t
  | .clearPoison .. => (execClearPoison_orderly ..).readyInv t
  | .getTimestamp .. => (execGetTimestamp_orderly ..).readyInv t
  | .setTimestamp .. => (execSetTimestamp_orderly ..).readyInv t
  | .getFwInfo .. => (execGetFwInfo_orderly ..).readyInv t
  | .unsupportedMailboxCommand .. => (execUnsupportedMailboxCommand_orderly ..).readyInv t
  | .getLdInfo .. => (execGetLdInfo_orderly ..).readyInv t
  | .getLdAllocations .. => (execGetLdAllocations_orderly ..).readyInv t
  | .setLdAllocations .. => (execSetLdAllocations_orderly ..).readyInv t
  | .odRead .. => (execOdRead_orderly ..).readyInv t
  | .odWrite .. => (execOdWrite_orderly ..).readyInv t
  | .odAbort .. => (execOdAbort_orderly ..).readyInv t
  | .objectCreate .. => (execObjectCreate_orderly ..).readyInv t
  | .objectDestroy .. => (execObjectDestroy_orderly ..).readyInv t
  | .objectQuery .. => (execObjectQuery_orderly ..).readyInv t
  | .objectSetPolicy .. => (execObjectSetPolicy_orderly ..).readyInv t
  | .streamOpen .. => (execStreamOpen_orderly ..).readyInv t
  | .streamClose .. => (execStreamClose_orderly ..).readyInv t
  | .layerDone .. => (execLayerDone_orderly ..).readyInv t
  | .streamDeadline .. => (execStreamDeadline_orderly ..).readyInv t
  | .mirror .. => (execMirror_orderly ..).readyInv t
  | .mirrorFull .. => (execMirrorFull_orderly ..).readyInv t
  | .mirrorAck .. => (execMirrorAck_orderly ..).readyInv t
  | .release .. => (execRelease_orderly ..).readyInv t
  | .repairReq .. => (execRepairReq_orderly ..).readyInv t
  | .repairRsp .. => (execRepairRsp_orderly ..).readyInv t
  | .remirror .. => (execRemirror_orderly ..).readyInv t
  | .journal .. => (execJournal_orderly ..).readyInv t
  | .journalAck .. => (execJournalAck_orderly ..).readyInv t
  | .zoneReq .. => (execZoneReq_orderly ..).readyInv t
  | .zoneGrant .. => (execZoneGrant_orderly ..).readyInv t
  | .zoneAck .. => (execZoneAck_orderly ..).readyInv t
  | .barrierReq .. => (execBarrierReq_orderly ..).readyInv t
  | .barrierDone .. => (execBarrierDone_orderly ..).readyInv t
  | .hello .. => (execHello_orderly ..).readyInv t
  | .heartbeat .. => (execHeartbeat_orderly ..).readyInv t
  | .handoverBegin => (execHandoverBegin_orderly ..).readyInv t
  | .handoverDone => (execHandoverDone_orderly ..).readyInv t
  | .failbackReq => (execFailbackReq_orderly ..).readyInv t
  | .failbackReady .. => (execFailbackReady_orderly ..).readyInv t
  | .failbackDone => (execFailbackDone_orderly ..).readyInv t
  | .violation .. => (execViolation_orderly ..).readyInv t
  | .stirrupUp .. => (execStirrupUp_orderly ..).readyInv t
  | .stirrupDown => (execStirrupDown_orderly ..).readyInv t
  | .stpRetrain => (execStpRetrain_orderly ..).readyInv t
  | .heartbeatLossRetrain => (execHeartbeatLossRetrain_orderly ..).readyInv t
  | .twinFailed => (execTwinFailed_orderly ..).readyInv t
  | .claimDelayExpired => (execClaimDelayExpired_orderly ..).readyInv t
  | .reservationPreemptDone .. => (execReservationPreemptDone_orderly ..).readyInv t
  | .claimRetry => (execClaimRetry_orderly ..).readyInv t
  | .leaseSlotWrite => (execLeaseSlotWrite_orderly ..).readyInv t
  | .handoverLeaseStale => (execHandoverLeaseStale_orderly ..).readyInv t
  | .twinWaitExpired .. => (execTwinWaitExpired_orderly ..).readyInv t
  | .twinLeaseRecheck .. => (execTwinLeaseRecheck_orderly ..).readyInv t
  | .partnerContainmentEnd .. => (execPartnerContainmentEnd_orderly ..).readyInv t
  | .rdS .. => (execRdS_orderly ..).readyInv t
  | .rdX .. => (execRdX_orderly ..).readyInv t
  | .wb .. => (execWb_orderly ..).readyInv t
  | .snpS .. => (execSnpS_orderly ..).readyInv t
  | .snpInv .. => (execSnpInv_orderly ..).readyInv t
  | .ackI .. => (execAckI_orderly ..).readyInv t
  | .ackS .. => (execAckS_orderly ..).readyInv t
  | .ackData .. => (execAckData_orderly ..).readyInv t
  | .wbPending .. => (execWbPending_orderly ..).readyInv t
  | .dataS .. => (execDataS_orderly ..).readyInv t
  | .dataE .. => (execDataE_orderly ..).readyInv t
  | .wbAck .. => (execWbAck_orderly ..).readyInv t
  | .nack .. => (execNack_orderly ..).readyInv t
  | .done .. => (execDone_orderly ..).readyInv t
  | .nackRetryTimer .. => (execNackRetryTimer_orderly ..).readyInv t
  | .snoopGuardExpired .. => (execSnoopGuardExpired_orderly ..).readyInv t
  | .agentLoad .. => (execAgentLoad_orderly ..).readyInv t
  | .agentStore .. => (execAgentStore_orderly ..).readyInv t
  | .agentEviction .. => (execAgentEviction_orderly ..).readyInv t
  | .nonTemporalStore .. => (execNonTemporalStore_orderly ..).readyInv t
  | .uncachedAccess .. => (execUncachedAccess_orderly ..).readyInv t
  | .fenceFCore .. => (execFenceFCore_orderly ..).readyInv t
  | .fenceFClu .. => (execFenceFClu_orderly ..).readyInv t
  | .fenceFSys .. => (execFenceFSys_orderly ..).readyInv t
  | .fenceSCore .. => (execFenceSCore_orderly ..).readyInv t
  | .fenceSClu .. => (execFenceSClu_orderly ..).readyInv t
  | .fenceSSys .. => (execFenceSSys_orderly ..).readyInv t
  | .treeFillDone .. => (execTreeFillDone_orderly ..).readyInv t
  | .treeWalkDone .. => (execTreeWalkDone_orderly ..).readyInv t
  | .clean => (execClean_orderly ..).readyInv t
  | .cleanInv => (execCleanInv_orderly ..).readyInv t
  | .inv => (execInv_orderly ..).readyInv t
  | .treMaintAbort .. => (execTreMaintAbort_orderly ..).readyInv t
  | .treMaintDone => (execTreMaintDone_orderly ..).readyInv t
  | .dramArbitrate .. => (execDramArbitrate_orderly ..).readyInv t
  | .dramWriteEnqueue .. => (execDramWriteEnqueue_orderly ..).readyInv t
  | .dramReadReturn .. => (execDramReadReturn_orderly ..).readyInv t
  | .dramRefreshDue .. => (execDramRefreshDue_orderly ..).readyInv t
  | .dimmTempPoll .. => (execDimmTempPoll_orderly ..).readyInv t
  | .dramRetrainDone .. => (execDramRetrainDone_orderly ..).readyInv t
  | .holdupSmbusPoll .. => (execHoldupSmbusPoll_orderly ..).readyInv t
  | .holdupSenseSample .. => (execHoldupSenseSample_orderly ..).readyInv t
  | .drainTakeChunk => (execDrainTakeChunk_orderly ..).readyInv t
  | .stripeWrite .. => (execStripeWrite_orderly ..).readyInv t
  | .stripeCommit .. => (execStripeCommit_orderly ..).readyInv t
  | .stripeWriteFailed .. => (execStripeWriteFailed_orderly ..).readyInv t
  | .zoneReclaim .. => (execZoneReclaim_orderly ..).readyInv t
  | .tierCheckpoint => (execTierCheckpoint_orderly ..).readyInv t
  | .commitStepEnd => (execCommitStepEnd_orderly ..).readyInv t
  | .swCommit .. => (execSwCommit_orderly ..).readyInv t
  | .requalPowerUp => (execRequalPowerUp_orderly ..).readyInv t
  | .segmentLoadDone .. => (execSegmentLoadDone_orderly ..).readyInv t
  | .segmentEvict => (execSegmentEvict_orderly ..).readyInv t
  | .segmentEvictDone .. => (execSegmentEvictDone_orderly ..).readyInv t
  | .frameMoveDone .. => (execFrameMoveDone_orderly ..).readyInv t
  | .loadLate .. => (execLoadLate_orderly ..).readyInv t
  | .leaseReq .. => (execLeaseReq_orderly ..).readyInv t
  | .leaseGrant .. => (execLeaseGrant_orderly ..).readyInv t
  | .leaseReturn .. => (execLeaseReturn_orderly ..).readyInv t
  | .leaseRecall .. => (execLeaseRecall_orderly ..).readyInv t
  | .leasePing .. => (execLeasePing_orderly ..).readyInv t
  | .leasePingTimer => (execLeasePingTimer_orderly ..).readyInv t
  | .leaseRecallDeadline .. => (execLeaseRecallDeadline_orderly ..).readyInv t
  | .leaseGraceExpired .. => (execLeaseGraceExpired_orderly ..).readyInv t
  | .leaseOpen .. => (execLeaseOpen_orderly ..).readyInv t
  | .leaseAccept .. => (execLeaseAccept_orderly ..).readyInv t
  | .leaseOpenResend .. => (execLeaseOpenResend_orderly ..).readyInv t
  | .pdAlloc .. => (execPdAlloc_orderly ..).readyInv t
  | .pdFree .. => (execPdFree_orderly ..).readyInv t
  | .cqCreate .. => (execCqCreate_orderly ..).readyInv t
  | .cqDestroy .. => (execCqDestroy_orderly ..).readyInv t
  | .connCreate .. => (execConnCreate_orderly ..).readyInv t
  | .connModifyError .. => (execConnModifyError_orderly ..).readyInv t
  | .connModifyTxKey .. => (execConnModifyTxKey_orderly ..).readyInv t
  | .connModifyRxKey .. => (execConnModifyRxKey_orderly ..).readyInv t
  | .connDestroy .. => (execConnDestroy_orderly ..).readyInv t
  | .regionRegister .. => (execRegionRegister_orderly ..).readyInv t
  | .regionRevoke .. => (execRegionRevoke_orderly ..).readyInv t
  | .revokeForced .. => (execRevokeForced_orderly ..).readyInv t
  | .sqTail .. => (execSqTail_orderly ..).readyInv t
  | .rqTail .. => (execRqTail_orderly ..).readyInv t
  | .cqHead .. => (execCqHead_orderly ..).readyInv t
  | .wqeNop .. => (execWqeNop_orderly ..).readyInv t
  | .wqeWrite .. => (execWqeWrite_orderly ..).readyInv t
  | .wqeRead .. => (execWqeRead_orderly ..).readyInv t
  | .wqeSend .. => (execWqeSend_orderly ..).readyInv t
  | .wqeCas .. => (execWqeCas_orderly ..).readyInv t
  | .wqeFaa .. => (execWqeFaa_orderly ..).readyInv t
  | .wqeWait .. => (execWqeWait_orderly ..).readyInv t
  | .cqeWrite .. => (execCqeWrite_orderly ..).readyInv t
  | .rdmaWriteRequest .. => (execRdmaWriteRequest_orderly ..).readyInv t
  | .rdmaReadRequest .. => (execRdmaReadRequest_orderly ..).readyInv t
  | .sendRequest .. => (execSendRequest_orderly ..).readyInv t
  | .compareAndSwap .. => (execCompareAndSwap_orderly ..).readyInv t
  | .fetchAndAdd .. => (execFetchAndAdd_orderly ..).readyInv t
  | .roceAckReceived .. => (execRoceAckReceived_orderly ..).readyInv t
  | .roceNakReceived .. => (execRoceNakReceived_orderly ..).readyInv t
  | .roceAckTimeout .. => (execRoceAckTimeout_orderly ..).readyInv t
  | .cnpReceived .. => (execCnpReceived_orderly ..).readyInv t
  | .cnpRateRecovery .. => (execCnpRateRecovery_orderly ..).readyInv t
  | .contextFetchDone .. => (execContextFetchDone_orderly ..).readyInv t
  | .contextEvict => (execContextEvict_orderly ..).readyInv t
  | .ethLinkChange .. => (execEthLinkChange_orderly ..).readyInv t
  | .cipherJobSubmit .. => (execCipherJobSubmit_orderly ..).readyInv t
  | .cipherJobDone .. => (execCipherJobDone_orderly ..).readyInv t
  | .coreIsolated .. => (execCoreIsolated_orderly ..).readyInv t
  | .keySlotBroken .. => (execKeySlotBroken_orderly ..).readyInv t
  | .keyLoad .. => (execKeyLoad_orderly ..).readyInv t
  | .keyFree .. => (execKeyFree_orderly ..).readyInv t
  | .driveInserted .. => (execDriveInserted_orderly ..).readyInv t
  | .driveRemoved .. => (execDriveRemoved_orderly ..).readyInv t
  | .driveCommandComplete .. => (execDriveCommandComplete_orderly ..).readyInv t
  | .driveCommandTimeout .. => (execDriveCommandTimeout_orderly ..).readyInv t
  | .readShortcutExpired .. => (execReadShortcutExpired_orderly ..).readyInv t
  | .driveAsyncEvent .. => (execDriveAsyncEvent_orderly ..).readyInv t
  | .driveLinkDownExpired .. => (execDriveLinkDownExpired_orderly ..).readyInv t
  | .forceFail .. => (execForceFail_orderly ..).readyInv t
  | .rebuildStart .. => (execRebuildStart_orderly ..).readyInv t
  | .rebuildStripe .. => (execRebuildStripe_orderly ..).readyInv t
  | .hostGuardExpired .. => (execHostGuardExpired_orderly ..).readyInv t
  | .engineWatchdogExpired .. => (execEngineWatchdogExpired_orderly ..).readyInv t
  | .keeperHeartbeatMissed .. => (execKeeperHeartbeatMissed_orderly ..).readyInv t
  | .keeperReloadDone .. => (execKeeperReloadDone_orderly ..).readyInv t
  | .pommelWatchdog => (execPommelWatchdog_orderly ..).readyInv t
  | .faultReported .. => (execFaultReported_orderly ..).readyInv t
  | .groupRetryExpired .. => (execGroupRetryExpired_orderly ..).readyInv t
  | .recoveryWindowClose .. => (execRecoveryWindowClose_orderly ..).readyInv t
  | .flsBankClaim .. => (execFlsBankClaim_orderly ..).readyInv t
  | .flsBankRelease .. => (execFlsBankRelease_orderly ..).readyInv t
  | .flsClaimExpired .. => (execFlsClaimExpired_orderly ..).readyInv t
  | .flashRead .. => (execFlashRead_orderly ..).readyInv t
  | .flashProgram .. => (execFlashProgram_orderly ..).readyInv t
  | .flashErase .. => (execFlashErase_orderly ..).readyInv t
  | .flashSuspend .. => (execFlashSuspend_orderly ..).readyInv t
  | .flashResume .. => (execFlashResume_orderly ..).readyInv t
  | .readWear .. => (execReadWear_orderly ..).readyInv t
  | .flashAbort .. => (execFlashAbort_orderly ..).readyInv t
  | .flashSuspendEffect .. => (execFlashSuspendEffect_orderly ..).readyInv t
  | .flashRunWindowEnd .. => (execFlashRunWindowEnd_orderly ..).readyInv t
  | .flashProgramDone .. => (execFlashProgramDone_orderly ..).readyInv t
  | .flashEraseDone .. => (execFlashEraseDone_orderly ..).readyInv t
  | .fwData .. => (execFwData_orderly ..).readyInv t
  | .fwActivate .. => (execFwActivate_orderly ..).readyInv t
  | .fwActivateForce .. => (execFwActivateForce_orderly ..).readyInv t
  | .fwActivateCancel .. => (execFwActivateCancel_orderly ..).readyInv t
  | .fwConfirmed => (execFwConfirmed_orderly ..).readyInv t
  | .recordSubmit .. => (execRecordSubmit_orderly ..).readyInv t
  | .recordProgrammed => (execRecordProgrammed_orderly ..).readyInv t
  | .readBlock .. => (execReadBlock_orderly ..).readyInv t
  | .lxRingTailWrite .. => (execLxRingTailWrite_orderly ..).readyInv t
  | .lxBankWrite .. => (execLxBankWrite_orderly ..).readyInv t
  | .lxRingReset .. => (execLxRingReset_orderly ..).readyInv t
  | .functionLevelReset .. => (execFunctionLevelReset_orderly ..).readyInv t
  | .nop .. => (execNop_orderly ..).readyInv t
  | .flush .. => (execFlush_orderly ..).readyInv t
  | .flushMedia .. => (execFlushMedia_orderly ..).readyInv t
  | .zero .. => (execZero_orderly ..).readyInv t
  | .identify .. => (execIdentify_orderly ..).readyInv t
  | .fwDownload .. => (execFwDownload_orderly ..).readyInv t
  | .fwCommit .. => (execFwCommit_orderly ..).readyInv t
  | .lxUnknownOpcode .. => (execLxUnknownOpcode_orderly ..).readyInv t
  | .lxCommandStatus .. => (execLxCommandStatus_orderly ..).readyInv t
  | .psuOkHigh => (execPsuOkHigh_orderly ..).readyInv t
  | .holdupLowNHigh => (execHoldupLowNHigh_orderly ..).readyInv t
  | .faultNReleased => (execFaultNReleased_orderly ..).readyInv t
  | .psuOkGlitch => (execPsuOkGlitch_orderly ..).readyInv t
  | .holdupLowNGlitch => (execHoldupLowNGlitch_orderly ..).readyInv t
  | .sysclkReturn => (execSysclkReturn_orderly ..).readyInv t
  | .vddAonReturn => (execVddAonReturn_orderly ..).readyInv t
  | .wrstNRelease => (execWrstNRelease_orderly ..).readyInv t
  | .presenceNPress => (execPresenceNPress_orderly ..).readyInv t
  | .presenceNRelease => (execPresenceNRelease_orderly ..).readyInv t
  | .railPgFall .. => (execRailPgFall_orderly ..).readyInv t
  | .driveLinkChange .. => (execDriveLinkChange_orderly ..).readyInv t
  | .driveResetTimeout .. => (execDriveResetTimeout_orderly ..).readyInv t
  | .doorbellAddrWrite .. => (execDoorbellAddrWrite_orderly ..).readyInv t
  | .lxRegisterWrite .. => (execLxRegisterWrite_orderly ..).readyInv t

/-- Settles O52: a step runs the first command of the queue on the rest of it, which keeps what READY asks, or idles. -/
theorem readyOnlyWhenRunning : Obligations.ReadyOnlyWhenRunning := by
  unfold Obligations.ReadyOnlyWhenRunning
  intro s t hs h
  cases hq : s.pending with
  | nil =>
    rw [step_nil s hq] at h
    cases h
    exact hs
  | cons c r =>
    rw [step_cons s c r hq] at h
    exact exec_readyInv c _ t h hs

end Sys2Proof.Proofs
end

section
/-!
PROOFS. The columns of a stripe and its parity (O58).
-/
namespace Sys2Proof.Proofs
open Sys2Proof Sys2Proof.Machine Sys2Proof.Laws

/-! ### Bytes combined by XOR (R359) -/

@[simp] theorem xorBytes_nil (xs : Bytes) : xorBytes xs [] = xs := by
  cases xs <;> rfl

@[simp] theorem nil_xorBytes (ys : Bytes) : xorBytes [] ys = ys := by
  cases ys <;> rfl

@[simp] theorem xorBytes_cons (x y : Byte) (xs ys : Bytes) : xorBytes (x :: xs) (y :: ys) = (x ^^^ y) :: xorBytes xs ys := rfl

theorem xorBytes_comm (xs ys : Bytes) : xorBytes xs ys = xorBytes ys xs := by
  induction xs generalizing ys with
  | nil => simp
  | cons x xs ih =>
    cases ys with
    | nil => simp
    | cons y ys => simp [ih ys, BitVec.xor_comm]

theorem xorBytes_assoc (xs ys zs : Bytes) : xorBytes (xorBytes xs ys) zs = xorBytes xs (xorBytes ys zs) := by
  induction xs generalizing ys zs with
  | nil => simp
  | cons x xs ih =>
    cases ys with
    | nil => simp
    | cons y ys =>
      cases zs with
      | nil => simp
      | cons z zs => simp [ih ys zs, BitVec.xor_assoc]

theorem xorBytes_left_comm (xs ys zs : Bytes) : xorBytes xs (xorBytes ys zs) = xorBytes ys (xorBytes xs zs) := by
  rw [← xorBytes_assoc, xorBytes_comm xs, xorBytes_assoc]

theorem xorBytes_xorBytes_comm (as bs cs ds : Bytes) :
    xorBytes (xorBytes as bs) (xorBytes cs ds) = xorBytes (xorBytes as cs) (xorBytes bs ds) := by
  simp only [xorBytes_assoc, xorBytes_left_comm bs cs ds]

@[simp] theorem length_xorBytes (xs ys : Bytes) : (xorBytes xs ys).length = max xs.length ys.length := by
  induction xs generalizing ys with
  | nil => simp
  | cons x xs ih =>
    cases ys with
    | nil => simp
    | cons y ys => simp [ih ys, Nat.add_max_add_right]

theorem xorBytes_self (xs : Bytes) : xorBytes xs xs = List.replicate xs.length 0#8 := by
  induction xs with
  | nil => rfl
  | cons x xs ih => simp [ih, List.replicate_succ]

/-- Zeros no longer than the bytes change none of them. -/
theorem xorBytes_replicate_zero {n : Nat} {xs : Bytes} (h : n ≤ xs.length) : xorBytes xs (List.replicate n 0#8) = xs := by
  induction xs generalizing n with
  | nil => simp_all
  | cons x xs ih =>
    cases n with
    | zero => simp
    | succ n => simp [List.replicate_succ, ih (Nat.le_of_succ_le_succ h)]

/-- What is no longer than the bytes comes off them again. -/
theorem xorBytes_xorBytes_self {xs ys : Bytes} (h : ys.length ≤ xs.length) : xorBytes (xorBytes xs ys) ys = xs := by
  rw [xorBytes_assoc, xorBytes_self, xorBytes_replicate_zero h]

/-! ### P (R359) -/

theorem length_parityP_le {len : Nat} {us : List Bytes} (h : ∀ u ∈ us, u.length ≤ len) : (parityP us).length ≤ len := by
  induction us with
  | nil => simp [parityP]
  | cons d us ih =>
    obtain ⟨hd, hus⟩ := List.forall_mem_cons.1 h
    have hq : (parityP us).length ≤ len := ih hus
    calc (xorBytes d (parityP us)).length = max d.length (parityP us).length := length_xorBytes ..
      _ ≤ len := max_le hd hq

/-- P does not depend on the order of the units. -/
theorem parityP_eraseIdx {us : List Bytes} {j : Nat} (hj : j < us.length) : parityP us = xorBytes us[j] (parityP (us.eraseIdx j)) :=
  ((List.getElem_cons_eraseIdx_perm hj).foldr_eq' (f := xorBytes) (fun a _ b _ c => xorBytes_left_comm b a c) []).symm

/-- P recovers the unit left out. -/
theorem parityP_recovers {len j : Nat} {us : List Bytes} (h : ∀ u ∈ us, u.length = len) (hj : j < us.length) :
    xorBytes (parityP us) (parityP (us.eraseIdx j)) = us[j] := by
  rw [parityP_eraseIdx hj]
  refine xorBytes_xorBytes_self ?_
  rw [h _ (List.getElem_mem hj)]
  exact length_parityP_le fun u hu => (h u (List.mem_of_mem_eraseIdx hu)).le

/-! ### Q (R359) -/

/-- Doubling in the field is linear. -/
theorem gfDouble_xor (x y : Byte) : gfDouble (x ^^^ y) = gfDouble x ^^^ gfDouble y := by
  unfold gfDouble
  rw [BitVec.getLsbD_xor, BitVec.shiftLeft_xor_distrib]
  cases x.getLsbD 7 <;> cases y.getLsbD 7 <;> simp [BitVec.xor_assoc, BitVec.xor_comm 0x1D#8]

theorem map_gfDouble_xorBytes (xs ys : Bytes) : (xorBytes xs ys).map gfDouble = xorBytes (xs.map gfDouble) (ys.map gfDouble) := by
  induction xs generalizing ys with
  | nil => simp
  | cons x xs ih =>
    cases ys with
    | nil => simp
    | cons y ys => simp [ih ys, gfDouble_xor]

theorem parityQ_cons (d : Bytes) (us : List Bytes) : parityQ (d :: us) = xorBytes d ((parityQ us).map gfDouble) := rfl

theorem length_parityQ_le {len : Nat} {us : List Bytes} (h : ∀ u ∈ us, u.length ≤ len) : (parityQ us).length ≤ len := by
  induction us with
  | nil => simp [parityQ]
  | cons d us ih =>
    obtain ⟨hd, hus⟩ := List.forall_mem_cons.1 h
    simp [parityQ_cons, hd, ih hus]

/-- Unit j counts in Q by the j-th power of g: unit 0 as it is, and each unit before it doubles it once more. -/
theorem parityQ_set_zero {len j : Nat} {us : List Bytes} (h : ∀ u ∈ us, u.length = len) (hj : j < us.length) :
    xorBytes (parityQ us) (parityQ (us.set j (List.replicate len 0#8))) = us[j].map gfDouble^[j] := by
  induction us generalizing j with
  | nil => cases hj
  | cons d us ih =>
    obtain ⟨hd, hus⟩ := List.forall_mem_cons.1 h
    cases j with
    | zero =>
      have hq : (parityQ us).length ≤ len := length_parityQ_le fun u hu => (hus u hu).le
      simp only [List.set_cons_zero, parityQ_cons, List.getElem_cons_zero, Function.iterate_zero, List.map_id]
      rw [xorBytes_xorBytes_comm, xorBytes_replicate_zero hd.ge, xorBytes_self, xorBytes_replicate_zero]
      rw [List.length_map]
      exact hq.trans hd.ge
    | succ j =>
      have hj' : j < us.length := Nat.lt_of_succ_lt_succ hj
      simp only [List.set_cons_succ, parityQ_cons, List.getElem_cons_succ]
      rw [xorBytes_xorBytes_comm, ← map_gfDouble_xorBytes, ih hus hj', xorBytes_self, xorBytes_comm, xorBytes_replicate_zero,
        List.map_map, Function.iterate_succ']
      simp [hd, hus]

/-! ### The columns (R304, R358) -/

/-- Unit p of stripe k stands p places after the one where unit 0 stands, counted round the set. -/
theorem unitColumn_unit {w p : Nat} (k : Nat) (hp : p < w) : (unitColumn w p k + w - k % w) % w = p := by
  have hw : 0 < w := Nat.zero_lt_of_lt hp
  have hk : k % w < w := Nat.mod_lt k hw
  have hcol : unitColumn w p k = (p + k % w) % w := by rw [unitColumn, max_eq_right hw, Nat.add_mod_mod]
  rw [hcol]
  by_cases hround : p + k % w < w
  · rw [Nat.mod_eq_of_lt hround, show p + k % w + w - k % w = p + w by omega, Nat.add_mod_right, Nat.mod_eq_of_lt hp]
  · rw [Nat.mod_eq_sub_mod (Nat.le_of_not_lt hround), Nat.mod_eq_of_lt (a := p + k % w - w) (by omega),
      show p + k % w - w + w - k % w = p by omega, Nat.mod_eq_of_lt hp]

/-- What the column of logical unit p holds (R358). -/
theorem columnBytes_unitColumn {s : State} {n p : Nat} (k : Nat) (cs : List Chunk) (hp : p < (setOf s n).w) :
    columnBytes s n k cs (unitColumn (setOf s n).w p k) =
      let v := setOf s n
      let us := stripeUnits s n k cs
      if v.layout ≤ 2 then us.getD (p % max 1 v.n) []
      else if p < v.n then us.getD p []
      else if p = v.n then parityP us
      else parityQ us := by
  unfold columnBytes
  dsimp only
  rw [max_eq_right (Nat.zero_lt_of_lt hp), unitColumn_unit k hp]

theorem columnBytes_data {s : State} {n k p : Nat} {cs : List Chunk} (hp : p < (setOf s n).w)
    (hl : (setOf s n).layout = 3 ∨ (setOf s n).layout = 4) (hn : p < (setOf s n).n) :
    columnBytes s n k cs (unitColumn (setOf s n).w p k) = (stripeUnits s n k cs).getD p [] := by
  rw [columnBytes_unitColumn k cs hp]
  dsimp only
  rw [if_neg (by omega), if_pos hn]

theorem columnBytes_parityP {s : State} {n k p : Nat} {cs : List Chunk} (hp : p < (setOf s n).w)
    (hl : (setOf s n).layout = 3 ∨ (setOf s n).layout = 4) (hn : p = (setOf s n).n) :
    columnBytes s n k cs (unitColumn (setOf s n).w p k) = parityP (stripeUnits s n k cs) := by
  rw [columnBytes_unitColumn k cs hp]
  dsimp only
  rw [if_neg (by omega), if_neg (by omega), if_pos hn]

theorem columnBytes_parityQ {s : State} {n k p : Nat} {cs : List Chunk} (hp : p < (setOf s n).w) (hl : (setOf s n).layout = 4)
    (hn : p = (setOf s n).n + 1) : columnBytes s n k cs (unitColumn (setOf s n).w p k) = parityQ (stripeUnits s n k cs) := by
  rw [columnBytes_unitColumn k cs hp]
  dsimp only
  rw [if_neg (by omega), if_neg (by omega), if_neg (by omega)]

theorem columnBytes_mirror {s : State} {n k p : Nat} {cs : List Chunk} (hp : p < (setOf s n).w)
    (hl : (setOf s n).layout = 1 ∨ (setOf s n).layout = 2) (hn : 0 < (setOf s n).n) :
    columnBytes s n k cs (unitColumn (setOf s n).w p k) = (stripeUnits s n k cs).getD (p % (setOf s n).n) [] := by
  rw [columnBytes_unitColumn k cs hp]
  dsimp only
  rw [if_pos (by omega), max_eq_right hn]

/-- Settles O58: unit p stands p places round the set, P is a sum that does not depend on the order of the units, and Q doubles a unit
once for each one before it. -/
theorem stripeUnitsAndParity : Obligations.StripeUnitsAndParity := by
  unfold Obligations.StripeUnitsAndParity
  refine ⟨fun s n k p cs hp => ⟨columnBytes_data hp, columnBytes_parityP hp, columnBytes_parityQ hp, columnBytes_mirror hp⟩,
    fun len j us h hj => ?_⟩
  rw [List.getD_eq_getElem _ _ hj]
  exact ⟨parityP_recovers h hj, parityQ_set_zero h hj⟩

end Sys2Proof.Proofs
end

section
/-!
PROOFS. The supply inputs (O5).
-/
namespace Sys2Proof.Proofs
open Sys2Proof Sys2Proof.Machine Sys2Proof.Laws

/-! ### Inputs that go low (R313, R521) -/

section
variable {s : State}

theorem execPsuOkLow_alive (hv : s.ham.vddAon = true) : execPsuOkLow s = .next (powerStep (commitTrigger (record
    (supplyCheck { s with ham := { s.ham with psuOk := false } }) Ev.PSU_OK_LOW 0xFF []) 1)) := congrArg _ (if_pos hv)

theorem execHoldupLow_alive (hv : s.ham.vddAon = true) : execHoldupLow s = .next (powerStep (commitTrigger (record
    (supplyCheck { s with ham := { s.ham with holdupLowN := false } }) Ev.HOLDUP_LOW 0xFF []) 2)) := congrArg _ (if_pos hv)

/-- FAULT_N counts as another's while VDD_AON is there and this controller does not drive it. -/
theorem not_vddAonOut_or_driven (hv : s.ham.vddAon = true) (hd : s.ham.faultNDriven = false) :
    ¬(s.ham.vddAon = false ∨ s.ham.faultNDriven = true) := by
  simp [hv, hd]

theorem execFaultNExternal_others (hv : s.ham.vddAon = true) (hd : s.ham.faultNDriven = false) : execFaultNExternal s =
    .next (powerStep (commitTrigger (record (setF (supplyCheck { s with ham := { s.ham with faultNExt := true } })
      Reg.HAM_EVENTS_FAULT_N_EXT) Ev.FAULT_N_EXTERNAL 0xFF []) 4)) := congrArg _ (if_neg (not_vddAonOut_or_driven hv hd))

theorem execSysclkLoss_running (hv : s.ham.vddAon = true) (hk : s.ham.sysclkOk = true) (hp : s.boot.porst = false)
    (hc : s.cin.phase ≠ .commit) : execSysclkLoss s =
      .next (powerStep (gradeFault (supplyCheck { s with ham := { s.ham with sysclkOk := false } }) .pommel 0x1F15 0xFF 5 5)) := by
  have hlost : ¬(s.ham.vddAon = false ∨ s.ham.sysclkOk = false) := by simp [hv, hk]
  simp only [execSysclkLoss, if_neg hlost, hp, if_neg hc, Bool.false_eq_true, if_false]

/-! ### Glitches (R318) -/

theorem execPsuOkGlitch_alive (hv : s.ham.vddAon = true) : execPsuOkGlitch s = .next (bump s Reg.HAM_GLITCH_PSU_OK 1) :=
  congrArg _ (if_pos hv)

theorem execHoldupLowNGlitch_alive (hv : s.ham.vddAon = true) : execHoldupLowNGlitch s = .next (bump s Reg.HAM_GLITCH_HOLDUP 1) :=
  congrArg _ (if_pos hv)

theorem execFaultNGlitch_others (hv : s.ham.vddAon = true) (hd : s.ham.faultNDriven = false) :
    execFaultNGlitch s = .next (record (bump s Reg.HAM_GLITCH_FAULT_N 1) Ev.FAULT_N_GLITCH 0xFF []) :=
  congrArg _ (if_neg (not_vddAonOut_or_driven hv hd))

end

/-- Settles O5: what goes low with VDD_AON present is a trigger or a fault, and an input that returns is noted as its meaning says. -/
theorem supplyInputs : Obligations.SupplyInputs := by
  unfold Obligations.SupplyInputs
  exact ⟨fun _ => execPsuOkLow_alive, fun _ => execHoldupLow_alive, fun _ => execFaultNExternal_others, exec_psuOkHigh,
    exec_holdupLowNHigh, exec_faultNReleased, exec_sysclkReturn, fun _ => execPsuOkGlitch_alive, fun _ => execHoldupLowNGlitch_alive,
    fun _ => execFaultNGlitch_others, fun _ => execSysclkLoss_running⟩

end Sys2Proof.Proofs
end

section
/-!
PROOFS. The Drain's chunks, stripes and zones (O36).
-/
namespace Sys2Proof.Proofs
open Sys2Proof Sys2Proof.Machine Sys2Proof.Laws

/-! ### Chunks taken and stripes written (R293, R303 to R308, R361) -/

section
variable {s : State} {n : Nat} {reloc : Bool}

theorem execDrainTakeChunk_next {c : Nat} (hf : s.twin.role ≠ .fenced) (hc : nextChunk s = some c) :
    execDrainTakeChunk s = .next (takeChunk s c) := by
  simp only [execDrainTakeChunk, if_neg hf, hc]

theorem execDrainTakeChunk_none (hc : nextChunk s = none) : execDrainTakeChunk s = .next s := by
  simp only [execDrainTakeChunk, hc, ite_self]

theorem execDrainTakeChunk_fenced (hf : s.twin.role = .fenced) : execDrainTakeChunk s = .next s := congrArg _ (if_pos hf)

theorem execStripeWrite_fenced (hf : s.twin.role = .fenced) : execStripeWrite reloc s = .next s := congrArg _ (if_pos (.inl hf))

theorem execStripeWrite_noChunks (h : s.cin.chunks = []) : execStripeWrite false s = .next s := congrArg _ (if_pos (.inr h))

theorem execStripeWrite_noSet (hf : s.twin.role ≠ .fenced) (hcs : s.cin.chunks ≠ []) (hn : pickSet s none = none) :
    execStripeWrite false s = .next (zonesExhausted s) := by
  simp only [execStripeWrite, Bool.false_eq_true, if_false, if_neg (not_or.2 ⟨hf, hcs⟩), hn]

theorem execStripeWrite_notDue (hf : s.twin.role ≠ .fenced) (hcs : s.cin.chunks ≠ []) (hn : pickSet s none = some n)
    (hd : stripeDue s s.cin.chunks (setOf s n).n = false) : execStripeWrite false s = .next s := by
  simp only [execStripeWrite, Bool.false_eq_true, if_false, if_neg (not_or.2 ⟨hf, hcs⟩), hn, hd, Bool.or_false, Bool.not_false, if_true]

theorem execStripeWrite_journalFull (hf : s.twin.role ≠ .fenced) (hcs : s.cin.chunks ≠ []) (hn : pickSet s none = some n)
    (hd : stripeDue s s.cin.chunks (setOf s n).n = true) (hj : 6144 ≤ s.awl.journal.length) :
    execStripeWrite false s = .next (journalFull s) := by
  simp only [execStripeWrite, Bool.false_eq_true, if_false, if_neg (not_or.2 ⟨hf, hcs⟩), hn, hd, Bool.or_true, Bool.not_true, if_pos hj]

theorem execStripeWrite_due {k : Nat} {t : State} (hf : s.twin.role ≠ .fenced) (hcs : s.cin.chunks ≠ []) (hn : pickSet s none = some n)
    (hj : s.awl.journal.length < 6144) (hd : stripeDue s s.cin.chunks (setOf s n).n = true) (ht : takeStripe s n = some (k, t)) :
    execStripeWrite false s = .next (writeStripe { t with cin := { t.cin with chunks := s.cin.chunks.drop (setOf s n).n } } n k
      (s.cin.chunks.take (setOf s n).n) false) := by
  simp only [execStripeWrite, Bool.false_eq_true, if_false, if_neg (not_or.2 ⟨hf, hcs⟩), hn, hd, Bool.or_true, Bool.not_true,
    if_neg (Nat.not_le.2 hj), ht]

/-- Relocated chunks are always due. -/
theorem execStripeWrite_relocated {k : Nat} {t : State} (hf : s.twin.role ≠ .fenced) (hcs : s.awl.relocQ ≠ [])
    (hn : pickSet s (replicaAvoid s s.awl.relocQ) = some n) (hj : s.awl.journal.length < 6144) (ht : takeStripe s n = some (k, t)) :
    execStripeWrite true s = .next (writeStripe { t with awl := { t.awl with relocQ := s.awl.relocQ.drop (setOf s n).n } } n k
      (s.awl.relocQ.take (setOf s n).n) true) := by
  simp only [execStripeWrite, if_true, if_neg (not_or.2 ⟨hf, hcs⟩), hn, Bool.true_or, Bool.not_true, Bool.false_eq_true, if_false,
    if_neg (Nat.not_le.2 hj), ht]

end

/-! ### Stripes committed and columns lost (R341, R362 to R364) -/

section
variable {s : State} {n : Fin 8} {k col : Nat} {x : Stripe}

theorem execStripeCommit_found (hx : s.awl.stripes.find? (fun x => x.set = n.val ∧ x.stripe = k) = some x) :
    execStripeCommit n k s = .next (if x.waiting = [] then commitStripe s x else s) := by
  simp only [execStripeCommit, hx]

theorem execStripeWriteFailed_notWaited (hx : s.awl.stripes.find? (fun x => x.set = n.val ∧ x.stripe = k) = some x)
    (hc : col ∉ x.waiting) : execStripeWriteFailed n k col s = .next s := by
  have hw : (!x.waiting.contains col) = true := by simp [hc]
  simp only [execStripeWriteFailed, hx, if_pos hw]

/-- The stripe goes on without a column whose member failed. -/
def columnLost (u : State) (x : Stripe) (col : Nat) : State :=
  { u with
    awl := { u.awl with
    stripes := u.awl.stripes.map (fun (y : Stripe) => if y.entry = x.entry then
      { y with waiting := y.waiting.filter (· ≠ col), missing := Sys2Proof.Machine.setBit y.missing col true } else y) } }

theorem execStripeWriteFailed_waited {sl : Nat} (hx : s.awl.stripes.find? (fun x => x.set = n.val ∧ x.stripe = k) = some x)
    (hc : col ∈ x.waiting) (hs : columnSlot s n col = some sl) :
    execStripeWriteFailed n k col s =
      let v := columnLost (memberFailed s sl 5) x col
      .next (if setStateFor v n = .failed then abandonStripe v ((v.awl.stripes.find? (fun y => y.entry = x.entry)).getD x) else v) := by
  have hw : ¬(!x.waiting.contains col) = true := by simp [hc]
  simp only [execStripeWriteFailed, hx, if_neg hw, hs]
  rfl

end

/-! ### Zones reclaimed (R367) -/

section
variable {s : State} {zone : Nat}

/-- The live chunks of a zone at which it is no longer reclaimed, times 100. -/
def reclaimShare (s : State) (zone : Nat) : Nat :=
  zoneStripes (setOf s (zoneSet zone)).n * (setOf s (zoneSet zone)).n * rd s Reg.AWL_CTRL_RECLAIM_PCT

theorem execZoneReclaim_stays (h : reclaimShare s zone ≤ zoneLive s zone * 100) : execZoneReclaim zone s = .next s :=
  congrArg _ (if_pos (.inr (.inr (.inr (.inr h)))))

theorem execZoneReclaim_below (ho : zone ∈ s.cin.ownedZones) (hf : zone ∉ s.cin.freeZones) (hb : zoneBusy s zone = false)
    (hp : s.cin.phase = .normal) (h : zoneLive s zone * 100 < reclaimShare s zone) :
    execZoneReclaim zone s = .next (if zoneLive s zone = 0 then freeZonesNow s
      else { s with awl := { s.awl with relocQ := s.awl.relocQ ++ relocated s zone, reclaiming := some zone } }) := by
  refine congrArg _ (if_neg ?_)
  simpa [ho, hf, hb, hp, reclaimShare] using h

end

/-- Settles O36: a command with nothing to do leaves the state; else its meaning's conditions are what each clause says. -/
theorem drainAndStripes : Obligations.DrainAndStripes := by
  unfold Obligations.DrainAndStripes
  refine ⟨fun s hf => ⟨fun c => execDrainTakeChunk_next hf, execDrainTakeChunk_none⟩,
    fun s hf => ⟨execDrainTakeChunk_fenced hf, fun r => execStripeWrite_fenced hf⟩,
    fun n s hf => ⟨fun hcs hn hj => ⟨fun k t => execStripeWrite_due hf hcs hn hj, execStripeWrite_notDue hf hcs hn⟩,
      execStripeWrite_journalFull hf, execStripeWrite_noSet hf, execStripeWrite_noChunks,
      fun k t => execStripeWrite_relocated hf⟩,
    fun n k s x hx => ?commit, fun n k col sl s x hx => ⟨?lost, execStripeWriteFailed_notWaited hx⟩,
    fun zone s ho hf hb hp => ⟨?below, execZoneReclaim_stays⟩⟩
  case commit =>
    rw [exec_stripeCommit, execStripeCommit_found hx]
    exact ⟨fun h => congrArg _ (if_pos h), fun h => congrArg _ (if_neg h)⟩
  case lost =>
    intro hc hs
    rw [exec_stripeWriteFailed, execStripeWriteFailed_waited hx hc hs]
    exact ⟨fun h => congrArg _ (if_neg h), fun h => congrArg _ (if_pos h)⟩
  case below =>
    intro h
    rw [exec_zoneReclaim, execZoneReclaim_below ho hf hb hp h]
    exact ⟨fun h => congrArg _ (if_pos h), fun h => congrArg _ (if_neg h)⟩

end Sys2Proof.Proofs
end

section
/-!
PROOFS. Handover and failback between the twins (O31).
-/
namespace Sys2Proof.Proofs
open Sys2Proof Sys2Proof.Machine Sys2Proof.Laws

section
variable {s : State} (hc : linkCarries s = true)
include hc

/-! ### Handover (R336, R343, R618) -/

/-- BEGIN is allowed from a twin in COMMIT on trigger 5 or 6. -/
theorem execHandoverBegin_inCommit {t : Nat} (ht : s.twin.twinCommit = some t) : execHandoverBegin s =
    .next (if 5 ≤ t then twinSet s { s.twin with handover := true, leaseAt := s.time } else twinViolation s 6 0x60) := by
  simp only [execHandoverBegin, frame_carried hc, ht]

theorem execHandoverBegin_notInCommit (ht : s.twin.twinCommit = none) : execHandoverBegin s = .next (twinViolation s 6 0x60) := by
  simp only [execHandoverBegin, frame_carried hc, ht]

theorem execHandoverDone_begun (hb : s.twin.handover = true) :
    execHandoverDone s = .next (record (takeover s) Ev.HANDOVER_TAKEN 0xFF []) :=
  congrArg _ ((frame_carried hc).trans (if_pos hb))

theorem execHandoverDone_notBegun (hb : s.twin.handover = false) : execHandoverDone s = .next (twinViolation s 6 0x60) :=
  congrArg _ ((frame_carried hc).trans (if_neg (by simp [hb])))

/-! ### Failback (R347, R618)

REQ and DONE are allowed to a survivor from a STARTING twin, READY from a twin that is the survivor. -/

theorem execFailbackReq_survivor (hr : s.twin.role = .survivor) (ht : s.twin.twinRole = some .starting) : execFailbackReq s =
    .next ((standbyLds s).foldl (fun t n => fnQuiesce t (.ld n) .disable (msec (max 1 (odNum s 0x204001 2 10))))
      (twinSet s { s.twin with failback := true, failbackReq := true })) :=
  congrArg _ ((frame_carried hc).trans (if_neg (not_or_intro (not_not_intro hr) (not_not_intro ht))))

theorem execFailbackReq_wrongRole (h : s.twin.role ≠ .survivor ∨ s.twin.twinRole ≠ some .starting) :
    execFailbackReq s = .next (twinViolation s 6 0x61) :=
  congrArg _ ((frame_carried hc).trans (if_pos h))

theorem execFailbackReady_survivor {e : Nat} (ht : s.twin.twinRole = some .survivor) : execFailbackReady e s = .next (
    let s1 := { twinSet s { s.twin with role := .active } with cin := { s.cin with epoch := e } }
    startResync (poolReserve (twinSend
      ((reachableMembers s1).foldl (fun t m => emit t (.leaseWrite m .active e t.twin.leaseCount)) s1) 0x61 2 0 []))) :=
  congrArg _ ((frame_carried hc).trans (if_neg (not_not_intro ht)))

theorem execFailbackReady_wrongRole {e : Nat} (ht : s.twin.twinRole ≠ some .survivor) :
    execFailbackReady e s = .next (twinViolation s 6 0x61) :=
  congrArg _ ((frame_carried hc).trans (if_pos ht))

theorem execFailbackDone_survivor (hr : s.twin.role = .survivor) (ht : s.twin.twinRole = some .starting) : execFailbackDone s = .next (
    let s1 := twinSet s { s.twin with role := .active, tookOver := false, failback := false, failbackReq := false, readySent := false }
    startResync (record (setF (standbyReturn ((standbyLds s1).foldl (fun t n => ldSet t n { ldOf t n with
      standby := false, standbyOpen := false, memActive := false }) s1)) Reg.STP_EVENTS_FAILBACK_DONE) Ev.FAILBACK_DONE 0xFF [])) :=
  congrArg _ ((frame_carried hc).trans (if_neg (not_or_intro (not_not_intro hr) (not_not_intro ht))))

theorem execFailbackDone_wrongRole (h : s.twin.role ≠ .survivor ∨ s.twin.twinRole ≠ some .starting) :
    execFailbackDone s = .next (twinViolation s 6 0x61) :=
  congrArg _ ((frame_carried hc).trans (if_pos h))

end

/-- Settles O31: each clause is the case of its frame that the roles, the twin's trigger or the handover selects. While the link carries no
frames the frames change nothing, the model's choice (log entry 12). -/
theorem twinHandoverFailback : Obligations.TwinHandoverFailback := by
  unfold Obligations.TwinHandoverFailback
  refine ⟨fun t s hc ht => ?begin, fun s => execHandoverBegin_notInCommit,
    fun s hc => ⟨execHandoverDone_begun hc, execHandoverDone_notBegun hc⟩,
    fun s hc hr ht => ⟨execFailbackReq_survivor hc hr ht, execFailbackDone_survivor hc hr ht⟩,
    fun e s hc => execFailbackReady_survivor hc,
    fun e s hc hr ht => ⟨execFailbackReq_wrongRole hc (.inl hr), execFailbackReady_wrongRole hc ht, execFailbackDone_wrongRole hc (.inl hr)⟩,
    fun e s hc => ?uncarried⟩
  case begin =>
    rw [exec_handoverBegin, execHandoverBegin_inCommit hc ht]
    exact ⟨fun h => congrArg _ (if_pos h), fun h => congrArg _ (if_neg (Nat.not_le.2 h))⟩
  case uncarried =>
    refine ⟨?_, ?_, ?_, ?_, ?_⟩
    all_goals exact congrArg _ (frame_uncarried hc)

end Sys2Proof.Proofs
end

section
/-!
PROOFS. Drives: insertion and removal, commands, links and rebuilds (O44).
-/
namespace Sys2Proof.Proofs
open Sys2Proof Sys2Proof.Machine Sys2Proof.Laws

/-! ### Insertion (R353, R355) -/

/-- What an inserted drive is recorded as before its label is read. -/
def insertedDrive (s : State) (slot : Fin 24) (info : DriveInfo) : Drive :=
  { linkUp := true, width := 2, gen5 := true, serial := info.serial, cap := info.lbas, nextCmd := (driveOf s slot).nextCmd }

/-- An insertion recorded. -/
def driveAdded (s : State) (slot : Fin 24) : State := record (setF s Reg.AWL_EVENTS_DRIVE_ADDED) Ev.DRIVE_ADDED slot []

section
variable {slot : Fin 24} {info : DriveInfo} {s : State}

theorem execDriveInserted_unsuitable (h : unsuitable s info ≠ 0) : execDriveInserted slot info s =
    .next (fault (driveSet (driveAdded s slot) slot { insertedDrive s slot info with st := .unassigned, cap := 0 })
      (.drive slot) Ev.DRIVE_UNSUITABLE slot (le 1 (unsuitable s info))) := congrArg _ (if_pos h)

theorem execDriveInserted_labelled {st : MemberSt} {n c : Nat} {b : Bool} (h : unsuitable s info = 0)
    (hl : labelled s slot info.label = (some (st, n, c), b)) : execDriveInserted slot info s =
      .next (setUpdate (driveSet (driveAdded s slot) slot { insertedDrive s slot info with st := st, set := n, col := c }) n) := by
  simp only [execDriveInserted, if_neg (not_not_intro h), hl]
  rfl

theorem execDriveInserted_blank (h : unsuitable s info = 0) (hl : info.label = none) (hr : slotRecord s slot = none) :
    execDriveInserted slot info s = .next (driveSet (driveAdded s slot) slot { insertedDrive s slot info with st := .unassigned }) := by
  simp only [execDriveInserted, if_neg (not_not_intro h), hl, labelled, hr]
  rfl

end

/-! ### Removal, links and faults of a member (R351, R376) -/

section
variable {slot : Fin 24} {s : State}

theorem execDriveRemoved_member (h : (driveOf s slot).st = .online ∨ (driveOf s slot).st = .rebuilding) : execDriveRemoved slot s =
    let t := fault s (.drive slot) Ev.DRIVE_REMOVED slot []
    .next (memberFailed (driveSet t slot { driveOf t slot with linkUp := false, width := 0, downSince := none }) slot 1) := by
  rcases h with h | h
  all_goals simp only [execDriveRemoved, h, reduceCtorEq, if_false]

theorem execDriveRemoved_absent (h : (driveOf s slot).st = .absent) : execDriveRemoved slot s = .next s := congrArg _ (if_pos h)

theorem execDriveAsyncEvent_eq (spareLow readOnly backupFailed : Bool) : execDriveAsyncEvent slot spareLow readOnly backupFailed s =
    .next (if readOnly = true ∨ backupFailed = true then memberFailed s slot 4
      else if spareLow = true then memberPredicted s slot else s) := by
  simp only [execDriveAsyncEvent, Bool.or_eq_true]

/-- The count of a link that goes down starts where none runs. -/
theorem driveLinkDown_start (h : (driveOf s slot).downSince = none) : driveLinkDown s slot =
    driveSet s slot { driveOf s slot with linkUp := false, width := 0, gen5 := false, downSince := some s.time } := by
  simp only [driveLinkDown, h, Option.isSome_none, Bool.false_eq_true, if_false]

theorem execDriveLinkDownExpired_member (hd : (driveOf s slot).downSince.isSome = true) (hl : (driveOf s slot).linkUp = false)
    (h : (driveOf s slot).st = .online ∨ (driveOf s slot).st = .rebuilding) :
    execDriveLinkDownExpired slot s = .next (memberFailed s slot 1) := by
  rcases h with h | h
  all_goals simp only [execDriveLinkDownExpired, hd, hl, h, and_self, if_true]

theorem execDriveLinkDownExpired_up (hl : (driveOf s slot).linkUp = true) : execDriveLinkDownExpired slot s = .next s :=
  congrArg _ (if_neg (by simp [hl]))

end

/-! ### Commands (R352, R363, R374 to R376, R383) -/

section
variable {slot : Fin 24} {id : Nat} {s : State}

/-- The state once a command is no longer outstanding: the next that waits is sent. -/
def cmdTaken (s : State) (slot : Fin 24) (id : Nat) : State :=
  issueNext (driveSet s slot { driveOf s slot with cmds := (driveOf s slot).cmds.filter (fun x => x.id ≠ id), aborting := none }) slot

section
variable {c : DriveCmd} {slot n k : Nat}

theorem cmdDone_unitWrite {col : Nat} {b : Bool} (hu : c.use = .unitWrite n k col b) : cmdDone s slot c = { s with awl := { s.awl with
    stripes := s.awl.stripes.map (fun (x : Stripe) =>
      if x.set = n ∧ x.stripe = k then { x with waiting := x.waiting.filter (· ≠ col) } else x) } } := by
  simp only [cmdDone, hu]

theorem cmdDone_journal (hu : c.use = .journal) :
    cmdDone s slot c = { s with cin := { s.cin with journalCopies := s.cin.journalCopies + 1 } } := by
  simp only [cmdDone, hu]

theorem cmdDone_unitRead {u : Nat} (hu : c.use = .unitRead n k u) : cmdDone s slot c = refetchDone s n k u := by
  simp only [cmdDone, hu]

theorem cmdFailed_unitWrite {col : Nat} (hu : c.use = .unitWrite n k col false) (sector : Nat) :
    cmdFailed s slot sector c = unitRetry s slot n k col := by
  simp only [cmdFailed, hu]

theorem cmdFailed_unitRead {u : Nat} (hu : c.use = .unitRead n k u) (sector : Nat) :
    cmdFailed s slot sector c = readFailed s slot n k u sector := by
  simp only [cmdFailed, hu]

end

section
variable {c : DriveCmd} (hc : (driveOf s slot).cmds.find? (fun c => c.id = id) = some c)
include hc

theorem execDriveCommandComplete_done : execDriveCommandComplete slot id .done s = .next (cmdDone (cmdTaken s slot id) slot c) := by
  simp only [execDriveCommandComplete, hc]
  rfl

theorem execDriveCommandComplete_writeError :
    execDriveCommandComplete slot id .writeError s = .next (cmdFailed (cmdTaken s slot id) slot 0 c) := by
  simp only [execDriveCommandComplete, hc]
  rfl

theorem execDriveCommandComplete_readError (sector : Nat) :
    execDriveCommandComplete slot id (.readError sector) s = .next (cmdFailed (cmdTaken s slot id) slot sector c) := by
  simp only [execDriveCommandComplete, hc]
  rfl

theorem execDriveCommandComplete_keyGone : execDriveCommandComplete slot id .keyGone s = .next (fence (cmdTaken s slot id)) := by
  simp only [execDriveCommandComplete, hc]
  rfl

theorem execReadShortcutExpired_read {n k u : Nat} (hu : c.use = .unitRead n k u) :
    execReadShortcutExpired slot id s = .next (reconstruct s n k u) := by
  simp only [execReadShortcutExpired, hc, hu]

/-- A time-out of an outstanding command counts with those of the last 60 s. -/
theorem execDriveCommandTimeout_outstanding : execDriveCommandTimeout slot id s =
    let ts := s.time :: (driveOf s slot).timeouts.filter (fun t => decide (s.time < t + secs 60))
    let u := bump (driveSet s slot { driveOf s slot with timeouts := ts, aborting := some s.time }) (Reg.AWL_MBR_ERR_TIMEOUTS slot) 1
    .next (if 3 ≤ ts.length then memberFailed u slot 3 else emit u (.driveAbort slot)) := by
  have hany : (driveOf s slot).cmds.any (fun c => c.id = id) = true :=
    List.any_eq_true.2 ⟨c, List.mem_of_find?_eq_some hc, List.find?_some (p := fun c : DriveCmd => decide (c.id = id)) hc⟩
  simp only [execDriveCommandTimeout, hany, Bool.not_true, Bool.false_eq_true, if_false]

end

section
variable (hc : ∀ c ∈ (driveOf s slot).cmds, c.id ≠ id)
include hc

theorem find?_cmds_none : (driveOf s slot).cmds.find? (fun c => c.id = id) = none := List.find?_eq_none.2 fun c h => by simp [hc c h]

theorem execDriveCommandComplete_unknown (hl : (driveOf s slot).linkUp = true) (r : DriveResult) :
    execDriveCommandComplete slot id r s = .next (driveViolation s slot 1) := by
  simp only [execDriveCommandComplete, find?_cmds_none hc, hl, if_true]

theorem execDriveCommandTimeout_unknown : execDriveCommandTimeout slot id s = .next s := by
  have hany : (driveOf s slot).cmds.any (fun c => c.id = id) = false := List.any_eq_false.2 fun c h => by simp [hc c h]
  simp only [execDriveCommandTimeout, hany, Bool.not_false, if_true]

theorem execReadShortcutExpired_unknown : execReadShortcutExpired slot id s = .next s := by
  simp only [execReadShortcutExpired, find?_cmds_none hc]

end

end

/-! ### Rebuilds (R378, R379, R381) -/

section
variable {n : Fin 8} {r : Rebuild} {s : State} (hr : (setOf s n).rebuild = some r)
include hr

theorem execRebuildStart_pending (hc : s.cin.phase ≠ .commit) (hp : r.pending = true) :
    execRebuildStart n s = .next (beginRebuild s n r.column r.target r.queued) := by
  simp only [execRebuildStart, hr, if_pos (And.intro hp hc)]

theorem execRebuildStart_running (hp : r.pending = false) : execRebuildStart n s = .next s := by
  simp only [execRebuildStart, hr, hp, Bool.false_eq_true, false_and, if_false]

theorem execRebuildStripe_readable (hc : s.cin.phase ≠ .commit) (hp : r.pending = false) (k unit : Nat) (bad : List (Nat × Nat)) (last : Bool) :
    execRebuildStripe n k unit true bad last s =
      let t := issueCmd s r.target (.rebuild n k)
      let u := setSet t n { setOf t n with rebuild := some { r with done := r.done + 1 } }
      .next (if last then rebuildEnd u n { r with done := r.done + 1 } else u) := by
  simp only [execRebuildStripe, hr, hp, hc, Bool.false_eq_true, or_self, if_false, Bool.or_true, if_true]

theorem execRebuildStripe_pending (hp : r.pending = true) (k unit : Nat) (readable : Bool) (bad : List (Nat × Nat)) (last : Bool) :
    execRebuildStripe n k unit readable bad last s = .next s := by
  simp only [execRebuildStripe, hr, hp, true_or, if_true]

end

/-- Settles O44: a drive is recorded by its label, an end counts for what the command was for, and a member fails for the cause that each
event has. Events of an absent drive, time-outs with nothing outstanding and a rebuild with none pending change nothing, the model's choice
(log entry 12). -/
theorem drives : Obligations.Drives := by
  unfold Obligations.Drives
  refine ⟨fun slot info s => ⟨execDriveInserted_unsuitable, fun st n c b => execDriveInserted_labelled, execDriveInserted_blank⟩,
    fun slot s => ⟨execDriveRemoved_member, execDriveRemoved_absent, rfl, fun h => congrArg _ (if_pos h),
      fun h => congrArg _ (if_neg (by simp [h])), execDriveAsyncEvent_eq, fun w g => rfl,
      fun w g h => congrArg _ (driveLinkDown_start h), execDriveLinkDownExpired_member, execDriveLinkDownExpired_up⟩,
    fun slot id c s hc => ⟨fun n k col b hu => ?unitWrite, fun hu => ?journal, fun n k u hu => ?unitRead, fun n k col hu => ?writeError,
      fun n k u sec hu => ?readError, execDriveCommandComplete_keyGone hc, fun n k u => execReadShortcutExpired_read hc,
      execDriveCommandTimeout_outstanding hc⟩,
    fun slot id r s hc => ⟨fun hl => execDriveCommandComplete_unknown hc hl r, execDriveCommandTimeout_unknown hc,
      execReadShortcutExpired_unknown hc⟩,
    fun n r s hr hc => ⟨execRebuildStart_pending hr hc, fun hp => ⟨execRebuildStart_running hr hp, execRebuildStripe_readable hr hc hp⟩,
      execRebuildStripe_pending hr⟩⟩
  case unitWrite => exact (execDriveCommandComplete_done hc).trans (congrArg _ (cmdDone_unitWrite hu))
  case journal => exact (execDriveCommandComplete_done hc).trans (congrArg _ (cmdDone_journal hu))
  case unitRead => exact (execDriveCommandComplete_done hc).trans (congrArg _ (cmdDone_unitRead hu))
  case writeError => exact (execDriveCommandComplete_writeError hc).trans (congrArg _ (cmdFailed_unitWrite hu 0))
  case readError => exact (execDriveCommandComplete_readError hc sec).trans (congrArg _ (cmdFailed_unitRead hu sec))

end Sys2Proof.Proofs
end

section
/-!
PROOFS. Leases of neighbour memory, as lender and as borrower (O39).
-/
namespace Sys2Proof.Proofs
open Sys2Proof Sys2Proof.Machine Sys2Proof.Laws

section
variable {s : State}

/-! ### The lender (R406, R407, R450) -/

theorem execLeaseReq_lending {addr wanted : Nat} (hl : lending s = true) (hb : ∃ b ∈ s.tier.borrowers, b.addr = addr) :
    execLeaseReq addr wanted s = .next (
      let fs := (freeFrames s).take (min (min wanted 4096) (odNum s 0x300302 4 0 * 512 - lentFrames s))
      emit { s with tier := { s.tier with
        borrowers := s.tier.borrowers.map (fun (b : Borrower) => if b.addr = addr then { b with frames := b.frames ++ fs } else b) } }
        (.lease false addr .grant fs s.tier.lendEpoch 0)) := by
  have hknown : s.tier.borrowers.any (fun b => b.addr = addr) = true := by simpa [List.any_eq_true] using hb
  exact congrArg _ (if_neg (by simp [hl, hknown]))

theorem execLeaseReq_notLending (hl : lending s = false) (addr wanted : Nat) : execLeaseReq addr wanted s = .next s :=
  congrArg _ (if_pos (.inl (by simp [hl])))

theorem execLeaseOpen_notLending (hl : lending s = false) (addr q p t c : Nat) : execLeaseOpen addr q p t c s = .next s :=
  congrArg _ (if_pos (.inl (by simp [hl])))

theorem execLeaseOpen_lending (hl : lending s = true) (hk : leaseKey s ≠ 0xFFFF) (addr q p t c : Nat) : execLeaseOpen addr q p t c s =
    .next (emit (freeTaken { s with tier := { s.tier with borrowers := s.tier.borrowers.filter (fun x => x.addr ≠ addr) ++
        [{ (s.tier.borrowers.find? (fun x => x.addr = addr)).getD { addr := addr } with qpn := q, psn := p, salt := t, ctr := c }] } })
      (.lease false addr .accept [] (Config.serial.toNat % 2 ^ 32) (freeNow s).toNat)) :=
  congrArg _ (if_neg (by simp [hl, hk]))

/-! ### The borrower: grants, recalls, pings and losses (R407 to R409) -/

/-- A recall of frames that are not held is of no concern (R408). -/
theorem execLeaseRecall_others {i : Fin 16} {frames : List Nat} (hf : ∀ f ∈ frames, f ∉ (lenderOf s i).frames) :
    execLeaseRecall i frames s = .next s := by
  have hmine : frames.filter (fun f => (lenderOf s i).frames.contains f) = [] := by simpa using hf
  exact congrArg _ (if_pos (.inr hmine))

section
variable {i : Fin 16} (hu : (lenderOf s i).up = true)
include hu

/-- Frames granted under the epoch held join those held. -/
theorem execLeaseGrant_held {epoch : Nat} (he : (lenderOf s i).frames = [] ∨ (lenderOf s i).epoch = epoch) (frames : List Nat) (rkey : Nat) :
    execLeaseGrant i frames rkey epoch s =
      .next (lenderSet s i { lenderOf s i with frames := ((lenderOf s i).frames ++ frames).dedup, rkey := rkey, epoch := epoch }) := by
  have hheld : ¬((lenderOf s i).frames ≠ [] ∧ (lenderOf s i).epoch ≠ epoch) := by tauto
  simp only [execLeaseGrant, hu, Bool.not_true, Bool.false_eq_true, if_false, if_neg hheld]

/-- A grant under a new epoch loses what was held. -/
theorem execLeaseGrant_new {epoch : Nat} (hf : (lenderOf s i).frames ≠ []) (he : (lenderOf s i).epoch ≠ epoch) (frames : List Nat)
    (rkey : Nat) : execLeaseGrant i frames rkey epoch s = .next (lenderSet (loseT2 s (fun g => g.lender == i.val)) i
      { lenderOf s i with frames := frames.dedup, used := [], rkey := rkey, epoch := epoch }) := by
  simp only [execLeaseGrant, hu, Bool.not_true, Bool.false_eq_true, if_false, if_pos (And.intro hf he), List.nil_append]

theorem execLeasePing_held {epoch : Nat} (he : (lenderOf s i).frames = [] ∨ (lenderOf s i).epoch = epoch) :
    execLeasePing true i epoch s = .next (lenderSet s i { lenderOf s i with epoch := epoch }) := by
  have hheld : ¬((lenderOf s i).frames ≠ [] ∧ (lenderOf s i).epoch ≠ epoch) := by tauto
  simp only [execLeasePing, hu, Bool.not_true, Bool.false_eq_true, if_true, if_false, if_neg hheld]

theorem execLeasePing_new {epoch : Nat} (hf : (lenderOf s i).frames ≠ []) (he : (lenderOf s i).epoch ≠ epoch) :
    execLeasePing true i epoch s = .next (lenderSet (loseT2 s (fun g => g.lender == i.val)) i
      { lenderOf s i with frames := [], used := [], epoch := epoch }) := by
  simp only [execLeasePing, hu, Bool.not_true, Bool.false_eq_true, if_true, if_false, if_pos (And.intro hf he)]

theorem execLeaseGraceExpired_connected : execLeaseGraceExpired i s = .next (lenderSet (loseT2 s (fun g => g.lender == i.val)) i
    { lenderOf s i with up := false, frames := [], used := [], recalling := none }) := congrArg _ (if_neg (by simp [hu]))

/-! ### Recalls (R408) -/

/-- Frames none of which is in use go back at once, and with no segment in T2 nothing is moved. -/
theorem execLeaseRecall_unused {frames : List Nat} (hn : frames ≠ [])
    (hf : ∀ f ∈ frames, f ∈ (lenderOf s i).frames ∧ f ∉ (lenderOf s i).used) (hs : ∀ e ∈ s.tier.segs, e.2.st ≠ .t2)
    (hr : (lenderOf s i).recalling = none) : execLeaseRecall i frames s = .next (record (setF (emit (lenderSet s i { lenderOf s i with
      frames := (lenderOf s i).frames.filter (fun f => !frames.contains f) }) (.lease true i .ret frames 0 0)) Reg.TIR_EVENTS_RECALL)
      Ev.LEASE_RECALLED i (le 4 frames.length)) := by
  have hmine : frames.filter (fun f => (lenderOf s i).frames.contains f) = frames := by simpa using fun f h => (hf f h).1
  have hidle : frames.filter (fun f => !(lenderOf s i).used.contains f) = frames := by simpa using fun f h => (hf f h).2
  have hrest : frames.filter (fun f => !frames.contains f) = [] := by simp
  have hsegs : s.tier.segs.filter (fun e => e.2.st = .t2 && e.2.lender == i.val && frames.contains e.2.frame) = [] :=
    List.filter_eq_nil_iff.2 fun e he => by simp [hs e he]
  have hconn : ¬((!(lenderOf s i).up) = true ∨ frames = []) := by simp [hu, hn]
  simp -implicitDefEqProofs only [execLeaseRecall, hmine, hidle, hrest, if_neg hconn, if_neg hn, hr, Option.map_none, Option.getD_none,
    List.nil_append, List.dedup_nil, if_true, record_tier, setF_tier, emit_tier, lenderSet, hsegs, List.foldl_nil]

end

/-! ### Messages of a lender that is not connected -/

section
variable {i : Fin 16} (hu : (lenderOf s i).up = false)
include hu

theorem execLeaseGrant_notConnected (frames : List Nat) (rkey epoch : Nat) : execLeaseGrant i frames rkey epoch s = .next s :=
  congrArg _ (if_pos (by simp [hu]))

theorem execLeaseRecall_notConnected (frames : List Nat) : execLeaseRecall i frames s = .next s := congrArg _ (if_pos (.inl (by simp [hu])))

theorem execLeasePing_notConnected (epoch : Nat) : execLeasePing true i epoch s = .next s :=
  congrArg _ ((if_pos rfl).trans (if_pos (by simp [hu])))

theorem execLeaseGraceExpired_notConnected : execLeaseGraceExpired i s = .next s := congrArg _ (if_pos (by simp [hu]))

end

/-! ### Deadlines, and connections opened (R408, R409, R450) -/

theorem execLeaseRecallDeadline_recalling {who d : Nat} {fs : List Nat} (h : (lenderOf s who).recalling = some (fs, d)) :
    execLeaseRecallDeadline false who s =
      .next (lenderSet (loseT2 s (fun g => g.lender == who && fs.contains g.frame)) who { lenderOf s who with
        frames := (lenderOf s who).frames.filter (fun f => !fs.contains f)
        used := (lenderOf s who).used.filter (fun f => !fs.contains f), recalling := none }) := by
  simp only [execLeaseRecallDeadline, Bool.false_eq_true, if_false, h]

theorem execLeaseRecallDeadline_none {who : Nat} (h : (lenderOf s who).recalling = none) : execLeaseRecallDeadline false who s = .next s := by
  simp only [execLeaseRecallDeadline, Bool.false_eq_true, if_false, h]

section
variable {i : Fin 16}

theorem execLeaseAccept_opening (h : (lenderOf s i).opening.isSome = true) (q p t c : Nat) : execLeaseAccept i q p t c s = .next (
    let want := min 4096 (odNum s ((0x3010 + i.val) * 256 + 3) 4 0 * 512 - (lenderOf s i).frames.length)
    let u := lenderSet s i { lenderOf s i with up := true, opening := none, tries := 0, qpn := q, psn := p, salt := t, ctr := c }
    if want = 0 then u else emit u (.lease true i .req [] want 0)) :=
  congrArg _ (if_neg (by simp [Option.isSome_iff_ne_none.1 h]))

theorem execLeaseAccept_notOpening (h : (lenderOf s i).opening = none) (q p t c : Nat) : execLeaseAccept i q p t c s = .next s :=
  congrArg _ (if_pos (by simp [h]))

theorem execLeaseOpenResend_notOpening (h : (lenderOf s i).opening = none) : execLeaseOpenResend i s = .next s :=
  congrArg _ (if_pos (by simp [h]))

theorem execLeaseOpenResend_opening (h : (lenderOf s i).opening.isSome = true) : execLeaseOpenResend i s =
    .next (if 9 ≤ (lenderOf s i).tries then
      fault (lenderSet s i { lenderOf s i with opening := none, tries := 0 }) .latigo Ev.LEASE_OPEN_FAILED i [] else sendLeaseOpen s i) :=
  congrArg _ (if_neg (by simp [Option.isSome_iff_ne_none.1 h]))

end

end

/-- Settles O39: each message is served by what the lender or borrower record holds. What comes from a lender that is not connected, and
deadlines and answers with nothing open, change nothing, the model's choice (log entry 12). -/
theorem leases : Obligations.Leases := by
  unfold Obligations.Leases
  refine ⟨fun addr wanted s => ⟨execLeaseReq_lending, fun hl => ⟨execLeaseReq_notLending hl _ _, execLeaseOpen_notLending hl addr⟩⟩,
    fun addr q p t c s hl hk => execLeaseOpen_lending hl hk addr q p t c, fun addr frames s => rfl,
    fun i frames rkey epoch s hu => ⟨fun he => execLeaseGrant_held hu he frames rkey, fun hf he => execLeaseGrant_new hu hf he frames rkey,
      execLeaseRecall_others, execLeaseRecall_unused hu, execLeasePing_held hu, execLeasePing_new hu, execLeaseGraceExpired_connected hu⟩,
    fun i frames k e s hu => ⟨execLeaseGrant_notConnected hu _ _ _, execLeaseRecall_notConnected hu _, execLeasePing_notConnected hu _,
      execLeaseGraceExpired_notConnected hu⟩,
    fun who e s => rfl, fun s => rfl,
    fun who s => ⟨rfl, fun fs d => execLeaseRecallDeadline_recalling, execLeaseRecallDeadline_none⟩,
    fun i q p t c s => ⟨fun h => execLeaseAccept_opening h q p t c,
      fun h => ⟨execLeaseAccept_notOpening h q p t c, execLeaseOpenResend_notOpening h⟩, fun h ht => ?resent, fun h ht => ?failed⟩⟩
  case resent => exact (execLeaseOpenResend_opening h).trans (congrArg _ (if_neg (Nat.not_le.2 ht)))
  case failed => exact (execLeaseOpenResend_opening h).trans (congrArg _ (if_pos ht))

end Sys2Proof.Proofs
end

section
/-!
PROOFS. Latigo commands in their slots: protection domains, completion queues, connections and regions (O40).
-/
namespace Sys2Proof.Proofs
open Sys2Proof Sys2Proof.Machine Sys2Proof.Laws

/-! ### A command in its slot (R424) -/

/-- The issuer's own slot. -/
def slotOwn (who : Issuer) (slot : Nat) : Bool :=
  match who with
  | .cxl n => n.val == slot
  | .mgmt => decide (64 ≤ slot)

theorem slotOwn_iff {who : Issuer} {slot : Nat} :
    slotOwn who slot = true ↔ (match who with | .cxl n => n.val = slot | .mgmt => 64 ≤ slot) := by
  cases who <;> simp [slotOwn]

section
variable {who : Issuer} {slot tag : Nat} {s : State} {run : State → Status × (Bytes × State)}

theorem latCmd_eq : latCmd s who slot tag run =
    if !slotOwn who slot then emit s (.latDone slot .access [])
    else if s.boot.mode = .compat then latResult s slot tag .functionDisabled []
    else if !s.boot.ready then latResult s slot tag .notReady []
    else if !fnOpen s .lat then latResult s slot tag .functionDisabled []
    else latResult (run s).2.2 slot tag (run s).1 (run s).2.1 := rfl

theorem latCmd_served (h : latServed s who slot) : latCmd s who slot tag run = latResult (run s).2.2 slot tag (run s).1 (run s).2.1 := by
  obtain ⟨hown, hmode, hready, hopen⟩ := h
  simp [latCmd_eq, slotOwn_iff.2 hown, hmode, hready, hopen]

theorem latCmd_notReady (hown : slotOwn who slot = true) (hm : s.boot.mode ≠ .compat) (hr : s.boot.ready = false) :
    latCmd s who slot tag run = latResult s slot tag .notReady [] := by
  simp [latCmd_eq, hown, hm, hr]

theorem latCmd_othersSlot (hown : slotOwn who slot = false) : latCmd s who slot tag run = emit s (.latDone slot .access []) := by
  simp [latCmd_eq, hown]

end

theorem connCmd_named {who : Issuer} {id : Nat} {c : Conn} {s : State} (hc : connFind s id = some c)
    (hm : mayName s who (tenantOf s c.owner) = true) (run : State → Conn → Status × (Bytes × State)) :
    connCmd s who id run = run s c := by
  simp only [connCmd, hc, hm, if_true]

section
variable {who : Issuer} {slot : Fin 128} {s : State} (h : latServed s who slot)
include h

/-! ### Protection domains and completion queues (R424, R425, R432) -/

theorem execPdAlloc_served {ten pd : Nat} (hm : mayName s who ten = true) (hk : freeKey s.lat.pds 4096 = some pd) (tag : Nat) :
    execPdAlloc who slot tag ten s =
      .next (latResult (latSet s { s.lat with pds := amSet s.lat.pds pd ten }) slot tag .ok (le 2 pd)) := by
  simp [execPdAlloc, latCmd_served h, hm, hk]

theorem execPdFree_unused {ten pd : Nat} (hf : amFind s.lat.pds pd = some ten) (hm : mayName s who ten = true)
    (hc : ∀ c ∈ s.lat.conns, c.2.pd ≠ pd) (hr : ∀ r ∈ s.lat.regions, r.2.pd = pd → r.2.st = .free) (tag : Nat) :
    execPdFree who slot tag pd s = .next (latResult (latSet s { s.lat with pds := amErase s.lat.pds pd }) slot tag .ok []) := by
  have hconns : s.lat.conns.any (fun c => c.2.pd == pd) = false := by simpa using fun k c hk => hc (k, c) hk
  have hregions : s.lat.regions.any (fun r => r.2.pd == pd && !(r.2.st = .free)) = false := by
    simpa using fun k r hk => hr (k, r) hk
  simp only [execPdFree, latCmd_served h, hf, hm, hconns, hregions, Bool.not_true, Bool.or_false, Bool.false_eq_true, if_false]

theorem execCqCreate_served {owner dpa n qslot q : Nat} (hp : pow2In n 64 65536 = true) (hi : inRange s owner dpa (32 * n) = true)
    (hq : queueSlotFree s owner qslot = true) (hm : mayName s who (tenantOf s owner) = true) (hk : freeKey s.lat.cqs 16384 = some q)
    (tag : Nat) : execCqCreate who slot tag owner dpa n qslot s = .next (latResult (latSet s { s.lat with
      cqs := amSet s.lat.cqs q { ld := owner, dpa := dpa, entries := n, slot := qslot } }) slot tag .ok (le 2 q)) := by
  simp [execCqCreate, latCmd_served h, hp, hi, hq, hm, hk]

theorem execCqDestroy_unused {k : Nat} {q : LCq} (hf : amFind s.lat.cqs k = some q) (hm : mayName s who (tenantOf s q.ld) = true)
    (hc : ∀ c ∈ s.lat.conns, (c.2.sq.entries = 0 ∨ c.2.sqCq ≠ k) ∧ (c.2.rq.entries = 0 ∨ c.2.rqCq ≠ k) ∧ ∀ w ∈ c.2.wqes, w.op ≠ 6)
    (tag : Nat) : execCqDestroy who slot tag k s =
      .next (latResult (latSet s { s.lat with cqs := amErase s.lat.cqs k }) slot tag .ok []) := by
  have hunused : s.lat.conns.any (fun c => (c.2.sq.entries != 0 && c.2.sqCq == k) || (c.2.rq.entries != 0 && c.2.rqCq == k) ||
      c.2.wqes.any (fun w => w.op == 6 && w.status.isNone && w.operand % 2 ^ 32 == k)) = false := by
    refine List.any_eq_false.2 fun c hmem => ?_
    obtain ⟨hsq, hrq, hwait⟩ := hc c hmem
    have hw : c.2.wqes.any (fun w => w.op == 6 && w.status.isNone && w.operand % 2 ^ 32 == k) = false :=
      List.any_eq_false.2 fun w hw => by simp [hwait w hw]
    have hsq' : (c.2.sq.entries != 0 && c.2.sqCq == k) = false := by simpa using fun h0 => hsq.resolve_left h0
    have hrq' : (c.2.rq.entries != 0 && c.2.rqCq == k) = false := by simpa using fun h0 => hrq.resolve_left h0
    simp only [hsq', hrq', hw, Bool.or_false, Bool.false_eq_true, not_false_eq_true]
  simp only [execCqDestroy, latCmd_served h, hf, hm, hunused, Bool.not_true, Bool.false_eq_true, if_false]

/-! ### Connections (R425 to R427, R449) -/

theorem execConnCreate_served {p : ConnParams} {id : Nat} (ho : connOk s p = true) (hm : mayName s who (tenantOf s p.owner) = true)
    (hf : connForeign s p = false) (hx : contained s (.peer p.peer) = false)
    (hstd : p.creditMode = 1 → (s.lat.conns.filter (fun c => c.2.standard)).length < odNum s 0x700107 2 1024)
    (hres : residents s < 4096) (hk : freeKey s.lat.conns 65536 = some id) (tag : Nat) : execConnCreate who slot tag p s =
      .next (latResult (connPut s id (newConn p id s.time)) slot tag .ok (le 2 id ++ le 3 (0x10000 + id))) := by
  have hquota : ¬(p.creditMode = 1 ∧ odNum s 0x700107 2 1024 ≤ (s.lat.conns.filter (fun c => c.2.standard)).length) :=
    fun ⟨hc, hle⟩ => absurd (hstd hc) (Nat.not_lt.2 hle)
  simp only [execConnCreate, latCmd_served h, ho, hm, hf, hx, if_neg hquota, if_pos hres, hk, if_neg (Nat.not_le.2 hres), Bool.not_true,
    Bool.or_false, Bool.false_eq_true, if_false]
  rfl

section
variable {id key : Nat} {c : Conn} (hc : connFind s id = some c) (hm : mayName s who (tenantOf s c.owner) = true)
include hc hm

theorem execConnModifyError_named (tag : Nat) :
    execConnModifyError who slot tag id s = .next (latResult (connError s id) slot tag .ok []) := by
  simp only [execConnModifyError, latCmd_served h, connCmd_named hc hm]

theorem execConnDestroy_error (he : c.st = .error) (tag : Nat) : execConnDestroy who slot tag id s =
    .next (latResult (keySweep (latSet s { s.lat with conns := amErase s.lat.conns id })) slot tag .ok []) := by
  simp only [execConnDestroy, latCmd_served h, connCmd_named hc hm, if_pos he]

theorem execConnDestroy_live (he : c.st ≠ .error) (tag : Nat) :
    execConnDestroy who slot tag id s = .next (latResult s slot tag .busyRetry []) := by
  simp only [execConnDestroy, latCmd_served h, connCmd_named hc hm, if_neg he, no]

section
variable (hk : key < 8192) (hf : keyForeign s (tenantOf s c.owner) key = false)
include hk hf

theorem execConnModifyTxKey_own (tag salt : Nat) : execConnModifyTxKey who slot tag id key salt s =
    .next (latResult (connPut s id { c with txKey := key, txSalt := salt, keyPhase := 1 - c.keyPhase }) slot tag .ok []) := by
  simp only [execConnModifyTxKey, latCmd_served h, connCmd_named hc hm, if_neg (Nat.not_le.2 hk), hf, Bool.false_eq_true, if_false]

theorem execConnModifyRxKey_own {phase : Nat} (hp : phase ≤ 1) (tag : Nat) : execConnModifyRxKey who slot tag id phase key s =
    .next (latResult (connPut s id (if phase = 0 then { c with rxKey0 := key } else { c with rxKey1 := key })) slot tag .ok []) := by
  have hgood : ¬(8192 ≤ key ∨ 1 < phase) := by omega
  simp only [execConnModifyRxKey, latCmd_served h, connCmd_named hc hm, if_neg hgood, hf, Bool.false_eq_true, if_false]

end

end

/-! ### Regions (R441, R445, R446) -/

/-- The generation of a region registered where an old one may stand. -/
def nextGen (old : Option Region) : Nat :=
  match old with
  | some r => (r.gen + 1) % 2 ^ 14
  | none => 0

theorem execRegionRegister_served {owner pd base len acc k : Nat} (hl : 0 < len) (hl2 : len ≤ 2 ^ 40) (ha : acc < 8)
    (hi : inRange s owner base len = true) (hm : mayName s who (tenantOf s owner) = true)
    (hp : amFind s.lat.pds pd = some (tenantOf s owner))
    (hk : lowestFree ((s.lat.regions.filter (fun r => r.2.st ≠ .free)).map Prod.fst) 262144 = some k) (tag : Nat) :
    execRegionRegister who slot tag owner pd base len acc s =
      let gen := nextGen (regionFind s k)
      .next (latResult (regionPut s k { gen := gen, st := .valid, pd := pd, owner := owner, base := base, len := len, acc := acc })
        slot tag .ok (le 4 (k + 2 ^ 18 * gen))) := by
  have hgood : ¬(len = 0 ∨ 2 ^ 40 < len ∨ 8 ≤ acc ∨ !inRange s owner base len ∨ (amFind s.lat.pds pd).isNone) := by
    simp only [hi, hp, Bool.not_true, Bool.false_eq_true, Option.isNone_some, or_false]
    omega
  have hnamed : ¬((!mayName s who (tenantOf s owner)) = true ∨ amFind s.lat.pds pd ≠ some (tenantOf s owner)) := by simp [hm, hp]
  simp only [execRegionRegister, latCmd_served h, if_neg hgood, if_neg hnamed, hk]
  rfl

section
variable {rkey : Nat} {r : Region} (hr : regionFind s (rkey % 2 ^ 18) = some r) (hv : r.st = .valid) (hg : r.gen = rkey / 2 ^ 18)
  (hm : mayName s who (tenantOf s r.owner) = true)
include hr hv hg hm

theorem execRegionRevoke_idle (hn : r.inflight = 0) (tag : Nat) : execRegionRevoke who slot tag rkey s =
    .next (latResult (regionPut s (rkey % 2 ^ 18) { r with st := .free }) slot tag .ok []) := by
  simp only [execRegionRevoke, hr, hn, ne_eq, not_true_eq_false, false_and, and_false, if_false, latCmd_served h, hm, hv, ← hg,
    Bool.not_true, Bool.false_eq_true, or_self]

theorem execRegionRevoke_counted (hn : r.inflight ≠ 0) (tag : Nat) : execRegionRevoke who slot tag rkey s =
    .next (regionPut s (rkey % 2 ^ 18) { r with st := .draining, revoker := some (slot.val, tag) }) := by
  obtain ⟨hown, hmode, hready, hopen⟩ := h
  have hslot : slotOwn who slot = true := slotOwn_iff.2 hown
  simp only [execRegionRevoke, hr]
  exact congrArg _ (if_pos ⟨hv, hg, hn, hready, hopen, hmode, hm, hslot⟩)

end

end

section
variable {k : Nat} {r : Region} {s : State} (hr : regionFind s k = some r)
include hr

theorem execRevokeForced_notDraining (hd : r.st ≠ .draining) : execRevokeForced k s = .next s := by
  simp only [execRevokeForced, hr, if_pos hd]

/-- With no connection left that serves a message of the region, the region alone is freed. -/
theorem execRevokeForced_unserved (hd : r.st = .draining) (hv : r.revoker = none)
    (hm : ∀ c ∈ s.lat.conns, ∀ m ∈ c.2.msgs, m.region ≠ some k) : execRevokeForced k s =
      .next (fault (setF (regionPut s k { r with st := .free, inflight := 0 }) Reg.LAT_EVENTS_REVOKE_FORCED) .latigo Ev.REVOKE_FORCED
        0xFF (le 4 k)) := by
  have hnone : s.lat.conns.filter (fun c => c.2.msgs.any (fun m => m.region = some k)) = [] :=
    List.filter_eq_nil_iff.2 fun c hc => by simpa using hm c hc
  simp only [execRevokeForced, hr, if_neg (not_not_intro hd), hnone, List.map_nil, List.foldl_nil, if_pos hd, hv]

end

/-- Settles O40: a served command runs on the state and its result is put in the slot; before READY and in another's slot it does not run.
REVOKE_FORCED of a region that does not drain changes nothing, the model's choice (log entry 12). -/
theorem latigoManagement : Obligations.LatigoManagement := by
  unfold Obligations.LatigoManagement
  refine ⟨fun who slot tag ten s h => ⟨fun pd hm hk => execPdAlloc_served h hm hk tag,
      fun pd hf hm hc hr => execPdFree_unused h hf hm hc hr tag⟩,
    fun who slot tag owner dpa n qslot q s h hp hi hq hm hk => execCqCreate_served h hp hi hq hm hk tag,
    fun who slot tag k q s h hf hm hc => execCqDestroy_unused h hf hm hc tag,
    fun who slot tag id p s h ho hm hf hx hstd hres hk => execConnCreate_served h ho hm hf hx hstd hres hk tag,
    fun who slot tag id key salt c s h hc hm => ⟨execConnModifyError_named h hc hm tag,
      fun hk hf => ⟨execConnModifyTxKey_own h hc hm hk hf tag salt, execConnModifyRxKey_own h hc hm hk hf (Nat.zero_le 1) tag,
        execConnModifyRxKey_own h hc hm hk hf le_rfl tag⟩,
      fun he => execConnDestroy_error h hc hm he tag, fun he => execConnDestroy_live h hc hm he tag⟩,
    fun who slot tag owner pd base len acc k s h hl hl2 ha hi hm hp hk => execRegionRegister_served h hl hl2 ha hi hm hp hk tag,
    fun who slot tag rkey r s h hr hv hg hm => ⟨fun hn => execRegionRevoke_idle h hr hv hg hm hn tag,
      fun hn => execRegionRevoke_counted h hr hv hg hm hn tag⟩,
    fun k r s hr => ⟨execRevokeForced_notDraining hr, execRevokeForced_unserved hr⟩,
    fun who slot tag ten s => ⟨fun hm hr hown => congrArg _ (latCmd_notReady (slotOwn_iff.2 hown) hm hr),
      fun n hn => congrArg _ (latCmd_othersSlot (by simpa [slotOwn] using hn))⟩⟩

end Sys2Proof.Proofs
end

section
/-!
PROOFS. Latigo queues: doorbells, send queue entries, completions, the answers of peers, contexts and links (O41).
-/
namespace Sys2Proof.Proofs
open Sys2Proof Sys2Proof.Machine Sys2Proof.Laws

/-! ### Doorbells (R429, R430, R440) -/

section
variable {n : Fin 64} {qs id : Nat} {v : Word} {c : Conn} {s : State}

theorem execSqTail_conn (h : slotConn s n qs = some (id, c)) (he : c.sq.entries ≠ 0) : execSqTail n qs v s =
    .next (fetchContext (connPut s id { c with sq := { c.sq with tail := v.toNat } }) id) := by
  simp only [execSqTail, h, if_neg he]

theorem execRqTail_conn (h : slotConn s n qs = some (id, c)) (he : c.rq.entries ≠ 0) : execRqTail n qs v s =
    .next (fetchContext (connPut s id { c with rq := { c.rq with tail := v.toNat } }) id) := by
  simp only [execRqTail, h, if_neg he]

theorem execSqTail_noConn (h : slotConn s n qs = none) : execSqTail n qs v s = .next (hostViolation s (ldPort s n) (some n) 3) := by
  simp only [execSqTail, h]

theorem execRqTail_noConn (h : slotConn s n qs = none) : execRqTail n qs v s = .next (hostViolation s (ldPort s n) (some n) 3) := by
  simp only [execRqTail, h]

theorem execCqHead_queue {k : Nat} {q : LCq} (h : s.lat.cqs.find? (fun q => q.2.ld = n.val ∧ q.2.slot = qs) = some (k, q)) :
    execCqHead n qs v s = .next (latSet s { s.lat with cqs := amSet s.lat.cqs k { q with head := v.toNat } }) := by
  simp only [execCqHead, h]

end

/-! ### Send queue entries (R430 to R433) -/

/-- The packets of an entry that sends: those of its data, one for an atomic. -/
def wqePackets (c : Conn) (w : Wqe) : Nat := if w.op = 2 ∨ w.op = 1 ∨ w.op = 3 then packets c.mtu w.len else 1

/-- The state in which the packet of an entry goes out: the entry started, the buffer of a WRITE or SEND read. -/
def wqeBuffered (s : State) (id : Nat) (c : Conn) (w : Wqe) : State :=
  let t := wqeStart s id c w (wqePackets c w) none
  if w.op = 1 ∨ w.op = 3 then readBuffer t id w.idx c.owner w.loc w.len else t

section
variable {id : Nat} {far : Bytes} {c : Conn} {w : Wqe} {s : State}

theorem wqePacket_write (h : w.op = 1) (psn : Nat) : wqePacket w psn = some (.write w.remote w.rkey w.len psn) := by
  simp only [wqePacket, h]

theorem wqePacket_read (h : w.op = 2) (psn : Nat) : wqePacket w psn = some (.read w.remote w.rkey w.len psn) := by
  simp only [wqePacket, h]

theorem wqePacket_send (h : w.op = 3) (psn : Nat) : wqePacket w psn = some (.send w.len psn) := by
  simp only [wqePacket, h]

theorem wqePacket_cas (h : w.op = 4) (psn : Nat) : wqePacket w psn = some (.cas w.remote w.rkey w.operand w.swap psn) := by
  simp only [wqePacket, h]

theorem wqePacket_faa (h : w.op = 5) (psn : Nat) : wqePacket w psn = some (.faa w.remote w.rkey w.operand psn) := by
  simp only [wqePacket, h]

theorem mayStart_rts (h : mayStart s c = true) : c.st = .rts := by
  simp only [mayStart, Bool.and_eq_true, decide_eq_true_eq] at h
  obtain ⟨⟨⟨⟨⟨hst, -⟩, -⟩, -⟩, -⟩, -⟩ := h
  exact hst

/-- The connection after an entry was started. -/
theorem connFind_wqeStart (pk : Nat) (st : Option Status) : ∃ c2, connFind (wqeStart s id c w pk st) id = some c2 ∧ c2.st = c.st :=
  ⟨_, amFind_amSet_self _ _ _, rfl⟩

theorem wqeBuffered_data (h : w.op = 1 ∨ w.op = 3) : wqeBuffered s id c w =
    readBuffer (wqeStart s id c w (packets c.mtu w.len) none) id w.idx c.owner w.loc w.len := by
  have hsends : w.op = 2 ∨ w.op = 1 ∨ w.op = 3 := .inr h
  simp only [wqeBuffered, wqePackets, if_pos h, if_pos hsends]

theorem wqeBuffered_noData (h : ¬(w.op = 1 ∨ w.op = 3)) : wqeBuffered s id c w = wqeStart s id c w (wqePackets c w) none := if_neg h

section
variable (hc : connFind s id = some c) (hs : mayStart s c = true) (hn : nextWqe s c far = some w) (hf : bit w.flags 1 = false)
include hc hs hn hf

theorem startWqe_nop (ho : w.op = 0) : startWqe s id 0 far = wqeStart s id c w 0 (some .ok) := by
  simp [startWqe, hc, hs, hn, hf, ho]

theorem startWqe_wait {q : LCq} (ho : w.op = 6) (hq : amFind s.lat.cqs (w.operand % 2 ^ 32) = some q) : startWqe s id 6 far =
    wqeStart s id c w 0 (if (q.count + 2 ^ 32 - w.operand / 2 ^ 32 % 2 ^ 32) % 2 ^ 32 < 2 ^ 31 then some .ok else none) := by
  have hstarts : ¬(w.op ≠ 6 ∨ (bit w.flags 1 = true ∧
      c.wqes.filter (fun x => (x.op == 2 || x.op == 4 || x.op == 5) && x.status.isNone) ≠ []) ∨ (6 = 2 ∨ 6 = 4 ∨ 6 = 5) ∧
      16 ≤ (c.wqes.filter (fun x => (x.op == 2 || x.op == 4 || x.op == 5) && x.status.isNone)).length) := by simp [ho, hf]
  simp only [startWqe, hc, hs, hn, if_neg hstarts, hq, Bool.not_true, Bool.false_eq_true, if_false, if_true, OfNat.ofNat_ne_zero,
    Option.isSome_some, Option.map_some, Option.getD_some, true_and]

variable (hr : (c.wqes.filter (fun x => (x.op == 2 || x.op == 4 || x.op == 5) && x.status.isNone)).length < 16)
include hr

/-- A good entry that sends: its packet goes out unless the reading of its buffer has put the connection into ERROR. -/
theorem startWqe_packet {p : RocePkt} {c2 : Conn} (h0 : w.op ≠ 0) (h6 : w.op ≠ 6)
    (ha : w.op = 4 ∨ w.op = 5 → w.loc % 8 = 0 ∧ w.remote % 8 = 0 ∧ w.len = 8) (hl : w.len ≤ 2 ^ 31)
    (hi : inRange s c.owner w.loc w.len = true) (hp : wqePacket w ((c.txPsn + wqePackets c w - 1) % 2 ^ 24) = some p)
    (h2 : connFind (wqeBuffered s id c w) id = some c2) (he : c2.st ≠ .error) : startWqe s id w.op far =
      emit (bump64 (wqeBuffered s id c w) (Reg.LAT_PORT_TX_LO_TX_LO c.port) (Reg.LAT_PORT_TX_HI_TX_HI c.port)
        (if w.op = 1 ∨ w.op = 3 then w.len else 0)) (.roce id p) := by
  have hstarts : ¬(w.op ≠ w.op ∨ (bit w.flags 1 = true ∧
      c.wqes.filter (fun x => (x.op == 2 || x.op == 4 || x.op == 5) && x.status.isNone) ≠ []) ∨ (w.op = 2 ∨ w.op = 4 ∨ w.op = 5) ∧
      16 ≤ (c.wqes.filter (fun x => (x.op == 2 || x.op == 4 || x.op == 5) && x.status.isNone)).length) := by
    simp [hf, hr]
  have haligned : ¬((w.op = 4 ∨ w.op = 5) ∧ (w.loc % 8 ≠ 0 ∨ w.remote % 8 ≠ 0)) := by
    rintro ⟨hop, hbad⟩
    obtain ⟨hloc, hremote, -⟩ := ha hop
    exact hbad.elim (absurd hloc) (absurd hremote)
  have hlen : ¬((w.op = 4 ∨ w.op = 5) ∧ w.len ≠ 8) := fun ⟨hop, hbad⟩ => hbad (ha hop).2.2
  simp only [wqeBuffered, wqePackets] at hp h2 ⊢
  simp only [startWqe, hc, hs, hn, if_neg hstarts, if_neg h0, if_neg h6, if_neg haligned, if_neg hlen, if_neg (Nat.not_lt.2 hl), hi, h2, hp,
    if_neg he, Bool.not_true, Bool.false_eq_true, if_false]

/-- What a WRITE or SEND reads may put the connection into ERROR; else its packet goes out. -/
theorem startWqe_data {op : Nat} {p : RocePkt} {c2 : Conn} (hop : w.op = op) (ho : op = 1 ∨ op = 3) (hl : w.len ≤ 2 ^ 31)
    (hi : inRange s c.owner w.loc w.len = true) (hp : wqePacket w ((c.txPsn + packets c.mtu w.len - 1) % 2 ^ 24) = some p)
    (h2 : connFind (readBuffer (wqeStart s id c w (packets c.mtu w.len) none) id w.idx c.owner w.loc w.len) id = some c2)
    (he : c2.st ≠ .error) : startWqe s id op far =
      emit (bump64 (readBuffer (wqeStart s id c w (packets c.mtu w.len) none) id w.idx c.owner w.loc w.len)
        (Reg.LAT_PORT_TX_LO_TX_LO c.port) (Reg.LAT_PORT_TX_HI_TX_HI c.port) w.len) (.roce id p) := by
  subst hop
  have hpk : wqePackets c w = packets c.mtu w.len := if_pos (.inr ho)
  rw [← wqeBuffered_data ho] at h2 ⊢
  rw [startWqe_packet hc hs hn hf hr (by omega) (by omega) (by omega) hl hi (hpk ▸ hp) h2 he, if_pos ho]

/-- An entry that reads no buffer leaves its connection in RTS. -/
theorem startWqe_noData {p : RocePkt} (ho : w.op = 2 ∨ w.op = 4 ∨ w.op = 5)
    (ha : w.op = 4 ∨ w.op = 5 → w.loc % 8 = 0 ∧ w.remote % 8 = 0 ∧ w.len = 8) (hl : w.len ≤ 2 ^ 31)
    (hi : inRange s c.owner w.loc w.len = true) (hp : wqePacket w ((c.txPsn + wqePackets c w - 1) % 2 ^ 24) = some p) :
    startWqe s id w.op far = emit (bump64 (wqeStart s id c w (wqePackets c w) none) (Reg.LAT_PORT_TX_LO_TX_LO c.port)
      (Reg.LAT_PORT_TX_HI_TX_HI c.port) 0) (.roce id p) := by
  have hno : ¬(w.op = 1 ∨ w.op = 3) := by omega
  obtain ⟨c2, h2, hst⟩ := connFind_wqeStart (s := s) (id := id) (c := c) (w := w) (wqePackets c w) none
  have he : c2.st ≠ .error := by simp [hst, mayStart_rts hs]
  have hsends := startWqe_packet hc hs hn hf hr (by omega) (by omega) ha hl hi hp (wqeBuffered_noData hno ▸ h2) he
  rwa [wqeBuffered_noData hno, if_neg hno] at hsends

theorem startWqe_read (hop : w.op = 2) (hl : w.len ≤ 2 ^ 31) (hi : inRange s c.owner w.loc w.len = true) : startWqe s id 2 far =
    emit (bump64 (wqeStart s id c w (packets c.mtu w.len) none) (Reg.LAT_PORT_TX_LO_TX_LO c.port) (Reg.LAT_PORT_TX_HI_TX_HI c.port) 0)
      (.roce id (.read w.remote w.rkey w.len ((c.txPsn + packets c.mtu w.len - 1) % 2 ^ 24))) := by
  have hpk : wqePackets c w = packets c.mtu w.len := if_pos (.inl hop)
  have hsends := startWqe_noData hc hs hn hf hr (.inl hop) (by omega) hl hi (wqePacket_read hop _)
  rwa [hpk, hop] at hsends

theorem startWqe_atomic {op : Nat} {p : RocePkt} (hop : w.op = op) (ho : op = 4 ∨ op = 5) (hlen : w.len = 8) (hloc : w.loc % 8 = 0)
    (hremote : w.remote % 8 = 0) (hi : inRange s c.owner w.loc 8 = true) (hp : wqePacket w (c.txPsn % 2 ^ 24) = some p) :
    startWqe s id op far = emit (bump64 (wqeStart s id c w 1 none) (Reg.LAT_PORT_TX_LO_TX_LO c.port)
      (Reg.LAT_PORT_TX_HI_TX_HI c.port) 0) (.roce id p) := by
  subst hop
  have hpk : wqePackets c w = 1 := if_neg (by omega)
  have hsends := startWqe_noData (p := p) hc hs hn hf hr (.inr ho) (fun _ => ⟨hloc, hremote, hlen⟩) (by omega) (hlen.symm ▸ hi)
    (by rwa [hpk, Nat.add_sub_cancel])
  rwa [hpk] at hsends

end

end

/-! ### Completions (R431) -/

section
variable {id : Nat} {far : Bytes} {c : Conn} {w : Wqe} {r : List Wqe} {st : Status} {s : State}
  (hc : connFind s id = some c) (hw : c.wqes = w :: r) (hst : w.status = some st) (hl : ∀ e ∈ s.host.left, e.1 ≠ .latigo id w.idx)
include hc hw hst hl

/-- The oldest entry, once it has ended and its data stand, retires; a CQE is written for it unless it ended well and is not SIGNALED. -/
theorem execCqeWrite_ended : execCqeWrite id false far s =
    let u := connPut s id { c with wqes := r, sq := { c.sq with head := (c.sq.head + 1) % 2 ^ 32 } }
    .next (if st = .ok ∧ !bit w.flags 0 then u
      else (writeCqe u c.sqCq id w.wrId w.op (if st = .ok then w.len else 0) w.idx 0 st).getD s) := by
  have hleft : s.host.left.any (fun e => e.1 = .latigo id w.idx) = false := by simpa using fun a b h => hl (a, b) h
  have hnext : (if c.wqes = [] then (c.sq.next + 1) % 2 ^ 32 else c.sq.next) = c.sq.next := if_neg (by simp [hw])
  rw [hw] at hnext
  simp only [execCqeWrite, hc, hw, hst, hleft, hnext, Bool.false_eq_true, if_false, List.head?_cons, Option.orElse_eq_orElse,
    Option.orElse_some, List.drop_one, List.tail_cons]

end

/-! ### Answers of peers (R427, R428, R433) -/

theorem execRoceAckReceived_noData {id psn : Nat} {data : Bytes} {c : Conn} {s : State} (hc : connFind s id = some c) (hst : c.st = .rts)
    (hw : ∀ w ∈ c.wqes, w.op = 1 ∨ w.op = 3) : execRoceAckReceived id psn data s = .next (bump64 (connPut s id { c with
      retries := 0, rnrs := 0, lastPacket := s.time
      wqes := c.wqes.map (fun w => if w.status.isNone ∧ (w.op = 1 ∨ w.op = 3) ∧ decide ((psn + 2 ^ 24 - w.psn) % 2 ^ 24 < 2 ^ 23) = true
        then { w with status := some .ok } else w) })
      (Reg.LAT_PORT_RX_LO_RX_LO c.port) (Reg.LAT_PORT_RX_HI_RX_HI c.port) data.length) := by
  have hnone : (c.wqes.map (fun w => if w.status.isNone ∧ (w.op = 1 ∨ w.op = 3) ∧ decide ((psn + 2 ^ 24 - w.psn) % 2 ^ 24 < 2 ^ 23) = true
      then { w with status := some .ok } else w)).find? (fun w => w.status.isNone && (w.op == 2 || w.op == 4 || w.op == 5) && w.psn == psn)
      = none := by
    refine List.find?_eq_none.2 fun x hx => ?_
    obtain ⟨w, hmem, rfl⟩ := List.mem_map.1 hx
    have hop := hw w hmem
    split <;> simp only [Bool.and_eq_true, Bool.or_eq_true, beq_iff_eq] <;> omega
  have herr : c.st ≠ .error := by simp [hst]
  simp only [execRoceAckReceived, hc, if_neg herr, hnone]

section
variable {id : Nat} {c : Conn} {w : Wqe} {s : State} (hc : connFind s id = some c) (hst : c.st = .rts) (hw : oldestPending c = some w)
include hc hst hw

theorem execRoceNakReceived_pending (kind : NakKind) : execRoceNakReceived id kind s = .next (match kind with
    | .access => wqeError s id w.idx .access
    | .operational => wqeError s id w.idx .mediaPoison
    | .invalid => wqeError s id w.idx .partnerViolation
    | .rnr => if c.rnrRetry ≤ c.rnrs then retriesOut s id w.idx else resend s id { c with rnrs := c.rnrs + 1 } w
    | .sequence => resend s id c w) := by
  have herr : c.st ≠ .error := by simp [hst]
  cases kind
  all_goals simp only [execRoceNakReceived, hc, hw, if_neg herr]

theorem execRoceAckTimeout_pending : execRoceAckTimeout id s = .next (if c.retry ≤ c.retries then retriesOut s id w.idx
    else resend s id { c with retries := c.retries + 1 } w) := by
  have herr : c.st ≠ .error := by simp [hst]
  simp only [execRoceAckTimeout, hc, hw, if_neg herr]

end

/-! ### Rates, contexts and links (R422, R423, R438, R440) -/

section
variable {id : Nat} {c : Conn} {s : State} (hc : connFind s id = some c)
include hc

theorem execCnpReceived_conn : execCnpReceived id s =
    .next (connPut (bump s (Reg.LAT_PORT_ERR_CNP_RX c.port) 1) id { c with rate := max 1 (c.rate / 2) }) := by
  simp only [execCnpReceived, hc]

theorem execCnpRateRecovery_conn : execCnpRateRecovery id s = .next (connPut s id { c with rate := min 400 (c.rate + 5) }) := by
  simp only [execCnpRateRecovery, hc]

theorem execContextFetchDone_fetching (hr : c.res = .fetching) (hp : c.parked = []) (took : Nat) : execContextFetchDone id took s =
    .next (connPut (raiseTo (wr s Reg.LAT_FETCH_LAST (satTo 0xFFFF took)) Reg.LAT_FETCH_MAX took) id
      { c with res := .resident, parked := [], reserved := 0 }) := by
  simp only [execContextFetchDone, hc, if_neg (not_not_intro hr), hp, List.mergeSort_nil, List.foldl_nil]

theorem execContextFetchDone_notFetching (hr : c.res ≠ .fetching) (took : Nat) : execContextFetchDone id took s = .next s := by
  simp only [execContextFetchDone, hc, if_pos hr]

end

section
variable {p : Fin 4} {q : LatPort} {s : State} (hq : amGet s.lat.ports p {} = q)
include hq

theorem execEthLinkChange_up (hu : q.up = false) (h12 : 12 ≤ s.boot.stage) (hm : s.boot.mode ≠ .compat) : execEthLinkChange p true s =
    .next (record (latSet s { s.lat with
      ports := amSet s.lat.ports p { q with up := true, pfc := odNum s ((0x7010 + p.val) * 256 + 4) 1 0xFF ≠ 0xFF } })
      Ev.PORT_LINK_UP_B001 p []) := by
  have hcomes : ¬(s.boot.stage < 12 ∨ s.boot.mode = .compat ∨ q.up = true) := by simp [hu, hm, h12]
  simp only [execEthLinkChange, hq, if_true, if_neg hcomes]

theorem execEthLinkChange_down (hu : q.up = true) : execEthLinkChange p false s = .next (fault (latSet s { s.lat with
    ports := amSet s.lat.ports p { q with up := false, pfc := false } }) .latigo Ev.PORT_LINK_DOWN_B002 p []) := by
  simp only [execEthLinkChange, hq, hu, Bool.false_eq_true, if_false, if_true]

end

theorem execEthLinkChange_early {p : Fin 4} {s : State} (h : s.boot.stage < 12) : execEthLinkChange p true s = .next s :=
  congrArg _ ((if_pos rfl).trans (if_pos (.inl h)))

/-- Settles O41: each command finds its connection, and an entry its opcode; what it then does is decided by the states of the two.
CONTEXT_FETCH_DONE of a context that is not fetched changes nothing, the model's choice (log entry 12). -/
theorem latigoQueues : Obligations.LatigoQueues := by
  unfold Obligations.LatigoQueues
  refine ⟨fun n qs id v c s h => ⟨execSqTail_conn h, execRqTail_conn h⟩,
    fun n qs v s => ⟨fun h => ⟨execSqTail_noConn h, execRqTail_noConn h⟩, fun k q => execCqHead_queue⟩,
    fun id far c w s hc hs hn hf hr => ⟨?nop, ?wait, ?data, ?read, ?atomic⟩,
    fun id far c w r st s hc hw hst hl => ⟨?silent, ?signaled⟩,
    fun id psn data c s => execRoceAckReceived_noData,
    fun id c w s hc hst hw => ?answers,
    fun id took c s hc => ⟨execCnpReceived_conn hc, execCnpRateRecovery_conn hc, fun hr hp => execContextFetchDone_fetching hc hr hp took,
      fun hr => execContextFetchDone_notFetching hc hr took⟩,
    fun s => ⟨fun h => congrArg _ (if_neg (Nat.not_lt.2 h)), fun h => congrArg _ (if_pos h)⟩,
    fun p q s hq => ⟨execEthLinkChange_up hq, execEthLinkChange_down hq, execEthLinkChange_early⟩⟩
  case nop => exact fun ho => congrArg _ (startWqe_nop hc hs hn hf ho)
  case wait =>
    intro q ho hq
    have hwait := startWqe_wait hc hs hn hf ho hq
    exact ⟨fun h => congrArg _ (hwait.trans (by rw [if_pos h])), fun h => congrArg _ (hwait.trans (by rw [if_neg (Nat.not_lt.2 h)]))⟩
  case data =>
    intro c2 ho hl hi u psn h2 he
    exact ⟨fun h1 => congrArg _ (startWqe_data hc hs hn hf hr h1 (.inl rfl) hl hi (wqePacket_write h1 _) h2 he),
      fun h3 => congrArg _ (startWqe_data hc hs hn hf hr h3 (.inr rfl) hl hi (wqePacket_send h3 _) h2 he)⟩
  case read => exact fun ho hl hi => congrArg _ (startWqe_read hc hs hn hf hr ho hl hi)
  case atomic =>
    intro hlen hloc hremote hi
    exact ⟨fun h4 => congrArg _ (startWqe_atomic hc hs hn hf hr h4 (.inl rfl) hlen hloc hremote hi (wqePacket_cas h4 _)),
      fun h5 => congrArg _ (startWqe_atomic hc hs hn hf hr h5 (.inr rfl) hlen hloc hremote hi (wqePacket_faa h5 _))⟩
  case silent =>
    exact fun hok hf => (execCqeWrite_ended hc hw hst hl).trans (congrArg _ (if_pos ⟨hok, by simp [hf]⟩))
  case signaled =>
    intro t hsig ht
    have hcqe : ¬(st = .ok ∧ (!bit w.flags 0) = true) := fun ⟨hok, hno⟩ => hsig.elim (absurd hok) (by simpa using hno)
    exact (execCqeWrite_ended hc hw hst hl).trans (congrArg _ ((if_neg hcqe).trans (by simp only [ht, Option.getD_some])))
  case answers =>
    have hnak := execRoceNakReceived_pending hc hst hw
    have htimeout := execRoceAckTimeout_pending hc hst hw
    exact ⟨hnak .access, hnak .operational, hnak .invalid, hnak .sequence,
      fun h => (hnak .rnr).trans (congrArg _ (if_neg (Nat.not_le.2 h))), fun h => (hnak .rnr).trans (congrArg _ (if_pos h)),
      fun h => htimeout.trans (congrArg _ (if_neg (Nat.not_le.2 h))), fun h => htimeout.trans (congrArg _ (if_pos h))⟩

end Sys2Proof.Proofs
end

section
/-!
PROOFS. Requests of RoCE peers (O42).
-/
namespace Sys2Proof.Proofs
open Sys2Proof Sys2Proof.Machine Sys2Proof.Laws

/-! ### A packet received (R422, R439, R454) -/

section
variable {p : RxPkt} {s : State}

theorem rxPacket_dropped (h : s.boot.ready = false ∨ fnOpen s .lat = false) (kind : RxKind) (far : Bytes) :
    rxPacket s p kind far = bump s (Reg.LAT_PORT_ERR_DROPPED (p.port % 4)) 1 := by
  refine if_pos ?_
  simpa using h

theorem rxPacket_unknown (hr : s.boot.ready = true) (hf : fnOpen s .lat = true)
    (hc : ∀ c ∈ s.lat.conns, c.2.qpn ≠ p.qpn ∨ c.2.peer ≠ p.src) (kind : RxKind) (far : Bytes) :
    rxPacket s p kind far = peerViolation (bump s (Reg.LAT_PORT_ERR_DROPPED (p.port % 4)) 1) p.src 4 := by
  have hnone : s.lat.conns.find? (fun c => c.2.qpn = p.qpn ∧ c.2.peer = p.src) = none :=
    List.find?_eq_none.2 fun c hmem => by simpa [imp_iff_not_or] using hc c hmem
  have hheard : ¬((!s.boot.ready) = true ∨ (!fnOpen s .lat) = true) := by simp [hr, hf]
  simp only [rxPacket, if_neg hheard, hnone]

/-- The packet served by its kind. -/
def rxByKind (u : State) (id : Nat) (d : Conn) (p : RxPkt) (far : Bytes) : State :=
  match p.kind with
  | .write => rxWrite u id d p
  | .send => rxSend u id d p far
  | .read => rxRead u id d p
  | .cas | .faa => rxAtomic u id d p

theorem rxMark_unmarked {id : Nat} {c : Conn} (h : p.ce = false) : rxMark s id c p = s := if_neg (by simp [h])

theorem rxGrant_standard {id : Nat} {c : Conn} (h : c.standard = true) : rxGrant s id c p = s := if_pos h

theorem connFind_connPut (s : State) (id : Nat) (c : Conn) : connFind (connPut s id c) id = some c := amFind_amSet_self _ _ _

/-- A packet in order reaches the serving of its kind, on the connection that it has touched. -/
theorem rxPacket_inOrder {id : Nat} {c : Conn} (h : requestInOrder s id c p) (kind : RxKind) (far : Bytes) : rxPacket s p kind far =
    rxByKind (connPut s id { c with lastPacket := s.time }) id { c with lastPacket := s.time } { p with kind := kind } far := by
  obtain ⟨hready, hopen, hconn, hfind, hst, hres, hstd, hsealed, hce, hmal, hlen, hpsn, hrange⟩ := h
  have hheard : ¬((!s.boot.ready) = true ∨ (!fnOpen s .lat) = true) := by simp [hready, hopen]
  have herr : c.st ≠ .error := by simp [hst]
  have htag : ¬(c.sealed = true ∧ p.tag ≠ some true) := by simp [hsealed]
  have hgood : ¬(p.malformed = true ∨ c.mtu < p.data.length) := by simp [hmal, hlen]
  have hnext : (p.psn + 2 ^ 24 - c.rxPsn) % 2 ^ 24 = 0 := by omega
  have hunmarked : rxMark s id c { p with kind := kind } = s := rxMark_unmarked hce
  have hgrant : ∀ u q, rxGrant u id { c with lastPacket := s.time } q = u := fun _ _ => rxGrant_standard hstd
  simp only [rxPacket, if_neg hheard, hconn, if_neg herr, if_neg (not_not_intro hres), rxServe, hfind, if_neg htag, hunmarked,
    Option.getD_some, if_neg hgood, hnext, hgrant, connFind_connPut]
  cases kind <;> rfl

end

/-! ### The requests (R441 to R444) -/

section
variable {u : State} {id k : Nat} {d : Conn} {p : RxPkt} {r : Region} {t : State}

theorem rxWrite_begun (hf : p.first = true) (hr : regionFor u d p = some (k, r))
    (ht : let m : RxMsg := { msg := rxBase + d.nextMsg, kind := .write, region := some k, va := p.va }
      msgData (msgBegin u id d m) id ((connFind (msgBegin u id d m) id).getD d) p m r.owner p.va = some t) : rxWrite u id d p = t := by
  simp only [rxWrite, hf, if_true, hr, ht, Option.getD_some]

theorem rxWrite_refused (hf : p.first = true) (hr : regionFor u d p = none) : rxWrite u id d p = refuseAccess u id p := by
  simp only [rxWrite, hf, if_true, hr]

/-- The receive entry that a SEND takes next. -/
def rqEntry (u : State) (d : Conn) (far : Bytes) : Bytes :=
  let dpa := d.rq.dpa + 32 * (d.rq.head % max 1 d.rq.entries)
  dpaBytes u d.owner dpa 32 [(homeLine u d.owner dpa, far)]

theorem rxSend_begun {far : Bytes} (hf : p.first = true) (he : d.rq.entries ≠ 0) (hh : d.rq.head ≠ d.rq.tail)
    (hl : p.total ≤ leNat (((rqEntry u d far).drop 8).take 4))
    (hi : inRange u d.owner (leNat ((rqEntry u d far).take 8)) (leNat (((rqEntry u d far).drop 8).take 4)) = true)
    (ht : let e := { d with rq := { d.rq with head := (d.rq.head + 1) % 2 ^ 32 } }
      let m : RxMsg := { msg := rxBase + d.nextMsg, kind := .send, va := leNat ((rqEntry u d far).take 8)
                         rqe := some (d.rq.head, leNat ((rqEntry u d far).take 8), leNat (((rqEntry u d far).drop 8).take 4),
                           leNat (((rqEntry u d far).drop 16).take 8)) }
      msgData (msgBegin u id e m) id ((connFind (msgBegin u id e m) id).getD e) p m d.owner (leNat ((rqEntry u d far).take 8)) = some t) :
    rxSend u id d p far = t := by
  simp only [rqEntry] at hl hi ht
  simp only [rxSend, if_neg he, hf, if_true, if_neg hh, if_neg (Nat.not_lt.2 hl), hi, Bool.not_true, Bool.false_eq_true, if_false, ht,
    Option.getD_some]

theorem rxRead_begun (hn : (d.msgs.filter (fun m => m.kind = .read ∨ m.kind = .cas ∨ m.kind = .faa)).length < 16)
    (hr : regionFor u d p = some (k, r)) (ht : 0 < p.total) : rxRead u id d p =
      readBuffer (msgBegin u id { d with rxPsn := (p.psn + packets d.mtu p.total) % 2 ^ 24 }
        { msg := rxBase + d.nextMsg, kind := .read, region := some k, va := p.va, got := p.total, lines := (p.va % 64 + p.total + 63) / 64,
          lastPsn := some p.psn }) id (rxBase + d.nextMsg) r.owner p.va p.total := by
  simp only [rxRead, if_neg (Nat.not_le.2 hn), hr, if_neg (Nat.ne_of_gt ht), psnNext]

/-- An atomic of an aligned word of a resident line writes its new value. -/
theorem rxAtomic_word {l : Bytes} (ha : p.va % 8 = 0) (hn : p.total = 8) (hr : regionFor u d p = some (k, r))
    (hl : lineValue u (homeLine u r.owner p.va) = some (l, false))
    (ht : let old := leNat ((l.drop (p.va % 64)).take 8)
      agentWrite (msgBegin u id { d with rxPsn := (p.psn + 1) % 2 ^ 24 } { msg := rxBase + d.nextMsg, kind := p.kind, region := some k
                                                                           va := p.va, result := old, lastPsn := some p.psn })
        (.latigo id (rxBase + d.nextMsg)) r.owner p.va
        (le 8 (if p.kind = .cas then (if old = p.operand then p.swap else old) else (old + p.operand) % 2 ^ 64)) = some t) :
    rxAtomic u id d p = t := by
  have haligned : ¬(p.va % 8 ≠ 0 ∨ p.total ≠ 8) := by simp [ha, hn]
  simp only [rxAtomic, if_neg haligned, hr, hl, Bool.false_eq_true, if_false, psnNext, ht, Option.getD_some]

end

/-- Settles O42: a packet in order is served by its kind on the connection that `rxPacket_inOrder` says, and what serves it there is the
region or the receive entry. -/
theorem latigoRequests : Obligations.LatigoRequests := by
  unfold Obligations.LatigoRequests
  refine ⟨fun id c p s h => ?served, fun p far s h => ?dropped, fun p s hr hf hc => congrArg _ (rxPacket_unknown hr hf hc _ _)⟩
  case served =>
    have hserved := rxPacket_inOrder h
    refine ⟨fun k r t hf hr ht => ?write, fun far t hf he hh hl hi ht => ?send, fun k r hn hr ht => ?read,
      fun k r l t ha hn hl => ⟨fun hr ht => ?swap, fun hr ht => ?add⟩, fun hf hr => ?refused⟩
    case write => exact congrArg _ ((hserved .write []).trans (rxWrite_begun hf hr ht))
    case send => exact congrArg _ ((hserved .send far).trans (rxSend_begun hf he hh hl hi ht))
    case read => exact congrArg _ ((hserved .read []).trans (rxRead_begun hn hr ht))
    case swap => exact congrArg _ ((hserved .cas []).trans (rxAtomic_word ha hn hr hl ht))
    case add => exact congrArg _ ((hserved .faa []).trans (rxAtomic_word ha hn hr hl ht))
    case refused => exact congrArg _ ((hserved .write []).trans (rxWrite_refused hf hr))
  case dropped =>
    have hdropped := rxPacket_dropped (p := p) h
    exact ⟨congrArg _ (hdropped _ _), congrArg _ (hdropped _ _), congrArg _ (hdropped _ _), congrArg _ (hdropped _ _),
      congrArg _ (hdropped _ _)⟩

end Sys2Proof.Proofs
end

section
/-!
PROOFS. Cipher jobs, cores and key slots (O43).
-/
namespace Sys2Proof.Proofs
open Sys2Proof Sys2Proof.Machine Sys2Proof.Laws

/-! ### Jobs (R455 to R458, R463) -/

/-- The job that a CIPHER_JOB_SUBMIT gives, with the key of its slot. -/
def submittedJob (s : State) (cls : Fin 4) (tag slot iv aad : Nat) (data : Bytes) (tagOk : Bool) : CJob :=
  { tag := tag, cls := cls, slot := slot, usage := (keyOf s slot).usage, key := (keyOf s slot).key, iv := iv,
    cost := jobCost cls data.length aad, data := data, tagOk := tagOk }

section
variable {cls : Fin 4} {slot du aad : Nat} {data : Bytes} {s : State} (hf : fnOpen s .bkl = true)
include hf

theorem execCipherJobSubmit_admitted (hl : jobInLimits cls du data.length aad = true) (hc : s.cin.phase ≠ .commit)
    (hb : (keyOf s slot).st ≠ .broken) (hu : coresUp s ≠ 0) (tag owner iv : Nat) (ok : Bool) :
    execCipherJobSubmit cls tag owner slot iv du aad data ok s =
      let j := submittedJob s cls tag slot iv aad data ok
      .next (if 1024 ≤ (classQueue s cls).length then bklSet s { s.bkl with waiting := s.bkl.waiting ++ [j] }
        else schedule (bklSet s { s.bkl with queued := s.bkl.queued ++ [j] })) := by
  have hrun : ¬(s.cin.phase = .commit ∧ cls.val ≠ 0) := fun h => hc h.1
  simp only [execCipherJobSubmit, hf, hl, if_neg hrun, if_neg hb, if_neg hu, Bool.not_true, Bool.false_eq_true, if_false]
  rfl

/-- A DRIVE_READ job outside the limits belongs to no stripe. -/
theorem execCipherJobSubmit_driveReadLength (hl : jobInLimits cls du data.length aad = false) (h1 : cls.val = 1) (tag owner iv : Nat)
    (ok : Bool) : execCipherJobSubmit cls tag owner slot iv du aad data ok s =
      .next (fault (setF (bump (jobEnd s (submittedJob s cls tag slot iv aad data ok) .length []) Reg.BKL_ERR_LENGTH 1)
        Reg.BKL_EVENTS_LENGTH) .buckle Ev.CIPHER_LENGTH 0xFF (le 1 1)) := by
  have hnone : ∀ l : List Stripe, l.find? (fun x => cls.val = 0 ∧ x.entry = owner) = none := fun l =>
    List.find?_eq_none.2 fun x _ => by simp [h1]
  have hnet : ¬2 ≤ cls.val := by omega
  simp only [execCipherJobSubmit, hf, hl, if_neg hnet, hnone, Bool.not_true, Bool.not_false, Bool.false_eq_true, if_false, if_true]
  simp only [h1, submittedJob]

end

section
variable {core : Fin 16} {j : CJob} {s : State}

/-- The blocks of the job that a core ends counted, and the core free. -/
def coreEnded (s : State) (core : Fin 16) (j : CJob) : State :=
  bump64 (bklSet s { s.bkl with running := amErase s.bkl.running core })
    (Reg.BKL_STAT_LO_BLOCKS_LO j.cls) (Reg.BKL_STAT_HI_BLOCKS_HI j.cls) j.cost

theorem execCipherJobDone_running (h : amFind s.bkl.running core = some j) : execCipherJobDone core s =
    .next (schedule (keySweep (
      if (keyOf s j.slot).st = .broken then jobEnd (coreEnded s core j) j .internal []
      else if j.cls = 2 ∧ j.tagOk = false then jobEnd (bump (coreEnded s core j) Reg.BKL_ERR_TAG 1) j .access []
      else jobEnd (coreEnded s core j) j .ok (Config.cipherBytes j.cls j.usage j.key j.iv j.data)))) := by
  simp only [execCipherJobDone, h, coreEnded]

theorem execCipherJobDone_idle (h : amFind s.bkl.running core = none) : execCipherJobDone core s = .next s := by
  simp only [execCipherJobDone, h]

end

/-! ### Broken slots (R472) -/

section
variable {k : Fin 8192} {s : State}

/-- A slot that has become BROKEN, with its fault. -/
def slotBroken (s : State) (k : Fin 8192) : State :=
  fault (setF (keyPut s k { keyOf s k with st := .broken }) Reg.BKL_EVENTS_SLOT_BROKEN) .buckle Ev.KEY_SLOT_BROKEN 0xFF (le 2 k)

theorem execKeySlotBroken_notLoaded (h : (keyOf s k).st ≠ .loaded) : execKeySlotBroken k s = .next s := congrArg _ (if_pos h)

theorem execKeySlotBroken_gcm (h : (keyOf s k).st = .loaded) (hk : 8 ≤ k.val) : execKeySlotBroken k s =
    .next (keySweep ((((slotBroken s k).lat.conns.filter (fun c => c.2.sealed &&
      (c.2.txKey == k.val || c.2.rxKey0 == k.val || c.2.rxKey1 == k.val))).map Prod.fst).foldl connError (slotBroken s k))) :=
  congrArg _ ((if_neg (not_not_intro h)).trans (if_neg (Nat.not_lt.2 hk)))

theorem execKeySlotBroken_set {v : KeySlot} (h : (keyOf s k).st = .loaded) (hk : k.val < 8)
    (hv : (keyStore (slotBroken s k)).bind (fun c => amFind c.keys k) = some v) :
    execKeySlotBroken k s = .next (keyPut (slotBroken s k) k v) := by
  simp only [slotBroken] at hv ⊢
  simp only [execKeySlotBroken, if_neg (not_not_intro h), if_pos hk, hv]

end

/-! ### Keys loaded and freed (R464 to R467, R469) -/

section
variable {cslot : Fin 128} {tag k : Nat} {s : State}

theorem keySlotOk_mgmt (hc : 64 ≤ cslot.val) : keySlotOk .mgmt cslot = true := decide_eq_true hc

/-- KEY_LOAD by MBX or Tack of a GCM key into a FREE slot below 8192. -/
theorem execKeyLoad_gcm {tenant : Nat} {persist : Bool} {blob : Bytes} (hc : 64 ≤ cslot.val) (h8 : 8 ≤ k) (hk : k < 8192) (ht : tenant < 64)
    (hfree : (keyOf s k).st = .free) (hp : persist = false ∨ persistUsed s < 256) :
    execKeyLoad .mgmt cslot tag k tenant persist 1 2 blob s = .next (match Config.unwrap 2 blob with
      | none => keyResult (fault (setF (bump s Reg.BKL_ERR_UNWRAP 1) Reg.BKL_EVENTS_UNWRAP_FAILED) .buckle Ev.KEY_UNWRAP_FAILED 0xFF
          (le 2 k)) cslot tag k .badDescriptor []
      | some key =>
        let t := keyPut s k { st := .loaded, usage := 2, tenant := tenant, persist := persist, key := key }
        keyResult (record (if persist then keyStoreWrite t else t) Ev.KEY_LOADED 0xFF (le 2 k)) cslot tag k .ok
          (le 8 (Config.keyCheck 2 key).toNat)) := by
  have hnamed : k ≠ 0xFFFF := by omega
  have hset : ¬k < 8 := by omega
  have hgood : ¬((k ≠ 0xFFFF ∧ 8192 ≤ k) ∨ (64 ≤ tenant ∧ tenant ≠ 0xFF) ∨ 1 ≠ 1 ∨ 2 < 2 ∨ (!usageFits k 2) = true ∨
      (k < 8 ∧ (tenant ≠ 0xFF ∨ persist = false))) := by
    have hfits : usageFits k 2 = true := by simp [usageFits, hset]
    simp only [hfits, hset, Bool.not_true, Bool.false_eq_true, false_and, or_false]
    omega
  have hbusy : ¬((keyOf s k).st ≠ .free ∨ (k < 8 ∧ setLive s k = true ∧ s.bkl.setWait = false)) := by simp [hfree, hset]
  have hquota : ¬(8 ≤ k ∧ persist = true ∧ 256 ≤ persistUsed s) := by
    rintro ⟨-, hpersist, hfull⟩
    exact hp.elim (by simp [hpersist]) (fun h => absurd hfull (Nat.not_le.2 h))
  simp only [execKeyLoad, keySlotOk_mgmt hc, if_neg hnamed, if_neg hgood, Bool.not_true, Bool.false_eq_true, if_false]
  cases hu : Config.unwrap 2 blob with
  | none => rfl
  | some key => simp only [hnamed, false_and, if_false, if_neg hbusy, if_neg hquota]

theorem execKeyFree_unreferenced (hc : 64 ≤ cslot.val) (hk : k < 8192) (hr : keyRefs s k = 0) (h8 : 8 ≤ k) :
    execKeyFree .mgmt cslot tag k s =
      .next (keyResult (if (keyOf s k).persist then keyStoreWrite (keyPut s k {}) else keyPut s k {}) cslot tag k .ok []) := by
  have hfree : ¬(keyRefs s k ≠ 0 ∨ (k < 8 ∧ setLive s k = true)) := by
    rintro (h | ⟨h, -⟩) <;> omega
  simp only [execKeyFree, keySlotOk_mgmt hc, if_neg (Nat.not_le.2 hk), if_neg hfree, Bool.not_true, Bool.false_eq_true, if_false]

theorem execKeyFree_referenced (hc : 64 ≤ cslot.val) (hk : k < 8192) (hr : keyRefs s k ≠ 0) :
    execKeyFree .mgmt cslot tag k s = .next (keyResult s cslot tag k .busyRetry []) := by
  have hbusy : keyRefs s k ≠ 0 ∨ (k < 8 ∧ setLive s k = true) := .inl hr
  simp only [execKeyFree, keySlotOk_mgmt hc, if_neg (Nat.not_le.2 hk), if_pos hbusy, Bool.not_true, Bool.false_eq_true, if_false]

theorem execKeyFree_othersSlot {n : Fin 64} (hn : n.val ≠ cslot.val) :
    execKeyFree (.cxl n) cslot tag k s = .next (emit s (.keyDone cslot .access [])) := congrArg _ (if_pos (by simp [keySlotOk, hn]))

end

/-- Settles O43: a job admitted waits where its class is full, and what a core ends is decided by its slot and tag; a key command by its
fields. An idle core, a core out of service and a slot not loaded change nothing, the model's choice (log entry 12). -/
theorem cipherAndKeys : Obligations.CipherAndKeys := by
  unfold Obligations.CipherAndKeys
  refine ⟨fun cls tag owner slot iv du aad data ok s hf => ⟨fun hl hc hb hu => ?submit,
      fun hl h1 => execCipherJobSubmit_driveReadLength hf hl h1 tag owner iv ok⟩,
    fun core s => ⟨fun j hj => ?done, execCipherJobDone_idle, fun h => congrArg _ (if_pos h),
      fun h => congrArg _ (if_neg (Bool.eq_false_iff.1 h))⟩,
    fun k s => ⟨execKeySlotBroken_notLoaded, execKeySlotBroken_gcm, fun v => execKeySlotBroken_set⟩,
    fun cslot tag k tenant persist blob s hc h8 hk ht hfree hp => execKeyLoad_gcm hc h8 hk ht hfree hp,
    fun cslot tag k s hc hk => ⟨execKeyFree_unreferenced hc hk, execKeyFree_referenced hc hk⟩,
    fun n cslot tag k s => execKeyFree_othersSlot⟩
  case submit =>
    have hadmitted := execCipherJobSubmit_admitted hf hl hc hb hu tag owner iv ok
    exact ⟨fun h => hadmitted.trans (congrArg _ (if_neg (Nat.not_le.2 h))), fun h => hadmitted.trans (congrArg _ (if_pos h))⟩
  case done =>
    have hends := execCipherJobDone_running hj
    refine ⟨fun hb => hends.trans ?broken, fun hb ht => hends.trans ?good, fun hb h2 ht => hends.trans ?tag⟩
    case broken => rw [if_pos hb]; rfl
    case good =>
      have hgood : ¬(j.cls = 2 ∧ j.tagOk = false) := fun ⟨h2, hbad⟩ => ht.elim (absurd h2) (by simp [hbad])
      rw [if_neg hb, if_neg hgood]; rfl
    case tag => rw [if_neg hb, if_pos ⟨h2, ht⟩]; rfl

end Sys2Proof.Proofs
end

section
/-!
PROOFS. Rail slots (O3), and the faults of rails and power domains (O4).
-/
namespace Sys2Proof.Proofs
open Sys2Proof Sys2Proof.Machine Sys2Proof.Laws

section
variable {n : Fin 32} {s : State}

/-! ### A slot's way up and down (R505, R513, R514, R518) -/

theorem execRailOnDelay_waitOn (h : (railOf s n).state = .waitOn) :
    execRailOnDelay n s = .next (railSet s n { railOf s n with state := .ramp, en := true }) := congrArg _ (if_pos h)

/-- RAIL_PG of a slot that ramps outside a RETRY makes it ON. -/
theorem execRailPgRise_ramp {ramp : Nat} (h : (railOf s n).state = .ramp) (he : (railOf s n).en = true)
    (hr : (railOf s n).retrying = false) : execRailPgRise n ramp s =
      .next (powerStep (wr (railSet (railSet s n { railOf s n with pg := true }) n
        { railOf s n with pg := true, state := .on, retrying := false }) (Reg.HAM_RAIL_STATUS_RAMP n) (satTo 255 ramp))) :=
  congrArg _ ((if_pos ⟨h, he⟩).trans (if_neg (by simp [hr])))

/-- A slot that ramps without RAIL_PG has not what RAIL_PG_TIMEOUT is ignored for. -/
theorem not_notRamp_or_pg (h : (railOf s n).state = .ramp) (hp : (railOf s n).pg = false) :
    ¬((railOf s n).state ≠ .ramp ∨ (railOf s n).pg = true) := by
  simp [h, hp]

theorem execRailPgTimeout_ramp (h : (railOf s n).state = .ramp) (hp : (railOf s n).pg = false) (hc : s.cin.phase ≠ .commit)
    (hr : (railOf s n).retrying = false) : execRailPgTimeout n s = .next (slotFault s n) :=
  congrArg _ ((if_neg (not_notRamp_or_pg h hp)).trans ((if_neg hc).trans (if_pos hr)))

theorem execRailPgTimeout_attempt (h : (railOf s n).state = .ramp) (hp : (railOf s n).pg = false) (hc : s.cin.phase ≠ .commit)
    (hr : (railOf s n).retrying = true) (ha : (railOf s n).attempts < 3) :
    execRailPgTimeout n s = .next (railSet s n { railOf s n with state := .retryWait, en := false }) :=
  congrArg _ ((if_neg (not_notRamp_or_pg h hp)).trans ((if_neg hc).trans ((if_neg (by simp [hr])).trans (if_pos ha))))

theorem execRailRetryAttempt_wait (h : (railOf s n).state = .retryWait) (hr : (railOf s n).retrying = true) : execRailRetryAttempt n s =
    .next (railSet s n { railOf s n with state := .ramp, en := true, attempts := min 3 ((railOf s n).attempts + 1) }) :=
  congrArg _ (if_pos ⟨h, hr⟩)

theorem execRailOffDelay_waitOff (h : (railOf s n).state = .waitOff) :
    execRailOffDelay n s = .next (powerStep (railSet s n { railOf s n with state := .off, en := false })) := congrArg _ (if_pos h)

theorem kept_railSet_boot (s : State) (n : Nat) (r : Rail) (b : Boot) : KeptBut [.boot, .ham] s { railSet s n r with boot := b } := by
  intro p hp
  cases p <;> simp_all [Part.same, railSet]

theorem execRailPgFall_plain (he : (railOf s n).en = false) (hr : (railOf s n).retain = false) :
    execRailPgFall n s = .next (railSet s n { railOf s n with pg := false }) :=
  congrArg _ ((if_neg (by simp [he])).trans (if_neg (by simp [hr])))

/-- The retention latch goes with RAIL_PG of a slot with RETAIN (R526). -/
theorem execRailPgFall_retained (he : (railOf s n).en = false) (hr : (railOf s n).retain = true) : execRailPgFall n s =
    .next { railSet s n { railOf s n with pg := false } with boot := { s.boot with retLatch := false } } :=
  congrArg _ ((if_neg (by simp [he])).trans (if_pos hr))

theorem execCommonStart_off (hp : s.boot.porst = false) (hm : s.boot.mode ≠ .refused) (hg : supplyGood s = true) (hs : s.ham.seq = .off)
    (h1 : s.boot.stage = 1) (hb : s.boot.stop = .none) (hc : s.cin.phase ≠ .commit) : execCommonStart s = .next (powerUpStart s) := by
  have hstarts : ¬(s.boot.porst = true ∨ s.boot.mode = .refused ∨ supplyGood s = false) := by simp [hp, hm, hg]
  simp only [execCommonStart, if_neg hstarts, hs]
  exact congrArg _ (if_pos ⟨h1, hb, hc⟩)

/-! ### Faults of a slot (R511, R519) -/

/-- RAIL_PG lost by a slot without RETAIN that is to show it: from COMMIT entry R519 handles it, while the sequencer runs it is a fault of the
slot. -/
theorem execRailPgFault_commit (hv : s.ham.vddAon = true) (he : (railOf s n).en = true) (hc : s.cin.phase = .commit)
    (ho : (railOf s n).state = .on) (hr : (railOf s n).retain = false) :
    execRailPgFault n s = .next (commitFault (railSet s n { railOf s n with pg := false }) n) := by
  have hup : slotUp (railOf s n) = true := by simp [slotUp, ho]
  simp [execRailPgFault, hv, he, hc, hr, hup]

theorem execRailPgFault_running (hv : s.ham.vddAon = true) (he : (railOf s n).en = true) (hc : s.cin.phase ≠ .commit)
    (hp : s.boot.porst = false) (hs : s.ham.seq = .running) (ho : (railOf s n).state = .on) (hr : (railOf s n).retain = false) :
    execRailPgFault n s = .next (slotFault (railSet s n { railOf s n with pg := false }) n) := by
  simp [execRailPgFault, hv, he, hc, hp, hs, ho, hr]

/-- The reaction IGNORE leaves the slot on. -/
theorem slotFault_ignore (hi : (railOf s n).reaction = .ignore) :
    slotFault s n = powerStep (railSet (slotMark s n 0) n { railOf s n with state := .faultOn, en := true }) := by
  simp [slotFault, hi, reactionRung]

theorem execRailStuckOn_powerDown (hs : s.ham.seq = .powerDown) (ho : (railOf s n).state = .off) (he : (railOf s n).en = false)
    (hp : (railOf s n).pg = true) (hk : (railOf s n).stuck = false) : execRailStuckOn n s =
      .next (fault (setF (railSet s n { railOf s n with stuck := true }) Reg.HAM_EVENTS_STUCK_ON) (.rail n) Ev.RAIL_STUCK_ON n []) :=
  congrArg _ (if_pos ⟨hs, ho, he, hp, hk⟩)

end

/-! ### Faults of a domain (R508) and groups that come back (R480, R514) -/

section
variable {s : State}

theorem execDomainSwitchTimeout_running {d : Fin 92} (hp : s.boot.porst = false) (hs : s.ham.seq = .running) (hd : s.ham.domFault = []) :
    execDomainSwitchTimeout d s =
      .next (gradeFault (domDown { s with ham := { s.ham with domFault := [d.val] } } d) (.domain d) 0x1F11 0xFF 2 2) := by
  simp [execDomainSwitchTimeout, hp, hs, hd]

/-- A group that waits for its GROUP_RETRY. -/
theorem any_retry_of_mem {g : FGroup} (h : (g, .retry) ∈ s.fm.groups) : s.fm.groups.any (fun e => e.1 = g && e.2 = .retry) = true :=
  List.any_eq_true.2 ⟨_, h, by simp⟩

theorem execGroupRetryExpired_rail {k : Nat} (h : (.rail k, .retry) ∈ s.fm.groups) :
    execGroupRetryExpired (.rail k) s = .next (groupEnable (railGroupBack s k) (.rail k)) := congrArg _ (if_pos (any_retry_of_mem h))

theorem execGroupRetryExpired_latigo (h : (.latigo, .retry) ∈ s.fm.groups) :
    execGroupRetryExpired .latigo s = .next (groupEnable s .latigo) := congrArg _ (if_pos (any_retry_of_mem h))

end

/-- Settles O3: each command of a slot does what its meaning says in the slot's state. -/
theorem railSlots : Obligations.RailSlots := by
  unfold Obligations.RailSlots
  refine ⟨fun _ _ => execRailOnDelay_waitOn, fun _ _ _ => execRailPgRise_ramp, fun _ _ => execRailPgTimeout_ramp,
    fun _ _ => execRailPgTimeout_attempt, fun _ _ => execRailRetryAttempt_wait, fun _ _ => execRailOffDelay_waitOff,
    fun _ _ => execRailPgFall_plain, fun n s he hr => ?retained, fun _ => execCommonStart_off⟩
  case retained =>
    exact ⟨_, execRailPgFall_retained he hr, rfl, congrArg Rail.pg (railOf_railSet_self s n _), kept_railSet_boot s n _ _⟩

/-- Settles O4: a fault of a slot is marked before its reaction, which for IGNORE is none. -/
theorem railFaults : Obligations.RailFaults := by
  unfold Obligations.RailFaults
  refine ⟨fun n s hv he hc hp hs ho hr hi => ?ignored, fun _ _ => execRailPgFault_commit, fun _ _ => execRailStuckOn_powerDown,
    fun _ _ => execDomainSwitchTimeout_running, fun _ _ => execGroupRetryExpired_rail, fun _ => execGroupRetryExpired_latigo⟩
  case ignored =>
    have hign : (railOf (railSet s n { railOf s n with pg := false }) n).reaction = .ignore := by simpa using hi
    rw [exec_railPgFault, execRailPgFault_running hv he hc hp hs ho hr, slotFault_ignore hign, railOf_railSet_self]

end Sys2Proof.Proofs
end

section
/-!
PROOFS. The confirmation of a trial image (O47).
-/
namespace Sys2Proof.Proofs
open Sys2Proof Sys2Proof.Machine Sys2Proof.Laws

theorem execFwConfirmed_notRunning {s : State} (h : s.fw.since = none ∨ confirmHolds s = false ∨ s.cin.phase = .commit) :
    execFwConfirmed s = .next s := by
  unfold execFwConfirmed
  cases hs : s.fw.since with
  | none => rfl
  | some t =>
    have hends : confirmHolds s = false ∨ s.cin.phase = .commit := by simpa [hs] using h
    exact congrArg _ (if_pos (by simp [hends]))

theorem execFwConfirmed_early {s : State} {t : Nat} (hs : s.fw.since = some t) (h : s.time < t + secs (odNum s 0xA00101 4 600)) :
    execFwConfirmed s = .next s := by
  simp [execFwConfirmed, hs, h]

theorem execFwConfirmed_due {s : State} {t : Nat} (hs : s.fw.since = some t) (hh : confirmHolds s = true) (hc : s.cin.phase ≠ .commit)
    (h : t + secs (odNum s 0xA00101 4 600) ≤ s.time) : execFwConfirmed s = .next (
      let u := fwSlotSet (fwSlotSet s s.fw.running { fwSlot s s.fw.running with st := .confirmed }) (1 - s.fw.running)
        { fwSlot s (1 - s.fw.running) with st := .valid }
      record (fwSet u { u.fw with
        confirmed := s.fw.running, trialRunning := false, notCounted := false, onTrial := false, since := none, spare := none
        curArea := 1 - u.fw.curArea }) Ev.FW_CONFIRMED 0xFF (le 1 s.fw.running)) := by
  simp only [execFwConfirmed, hs]
  exact congrArg _ (if_neg (by simp [hh, hc, h]))

/-- Settles O47: the count runs from `since`, and only what has held for CONFIRM_TIME confirms the image. -/
theorem firmwareConfirmed : Obligations.FirmwareConfirmed := by
  unfold Obligations.FirmwareConfirmed
  exact ⟨fun _ _ hs hh hc => ⟨execFwConfirmed_due hs hh hc, execFwConfirmed_early hs⟩, fun _ => execFwConfirmed_notRunning⟩

end Sys2Proof.Proofs
end

section
/-!
PROOFS. The flash banks: claims, commands and the ends of operations (O45).
-/
namespace Sys2Proof.Proofs
open Sys2Proof Sys2Proof.Machine Sys2Proof.Laws

section
variable {m : Fin 11} {b : Fin 4} {s : State}

/-! ### Claims (R70, R540) -/

section
variable (hm : masterRefused s m (0x341000 + 0x400 * b.val) = none) (hp : regPowered s (0x341000 + 0x400 * b.val) = true)
include hm hp

theorem execFlsBankClaim_free (ho : rd s (Reg.FLS_B_CLAIM_OWNER b) = 0xF) : execFlsBankClaim m b s =
    .next (emit (wr (wr s (Reg.FLS_B_CLAIM_OWNER b) m) (Reg.FLS_B_CLAIM_CLAIM b) 0)
      (.csrData m (0x341000 + 0x400 * b.val) (BitVec.ofNat 32 31))) := by
  simp [execFlsBankClaim, hm, hp, ho]

theorem execFlsBankClaim_owned (ho : rd s (Reg.FLS_B_CLAIM_OWNER b) ≠ 0xF) : execFlsBankClaim m b s =
    .next (emit s (.csrData m (0x341000 + 0x400 * b.val) (BitVec.ofNat 32 (2 * rd s (Reg.FLS_B_CLAIM_OWNER b))))) := by
  simp [execFlsBankClaim, hm, hp, ho]

theorem execFlsBankRelease_powered : execFlsBankRelease m b s =
    .next (if rd s (Reg.FLS_B_CLAIM_OWNER b) = m.val then flsRelease s b else csrRefuse s m 7 (0x341000 + 0x400 * b.val)) := by
  simp [execFlsBankRelease, flsShut, hm, hp]

end

theorem execFlsClaimExpired_free (ho : rd s (Reg.FLS_B_CLAIM_OWNER b) = 0xF) : execFlsClaimExpired b s = .next s := congrArg _ (if_pos ho)

theorem execFlsClaimExpired_owned (ho : rd s (Reg.FLS_B_CLAIM_OWNER b) ≠ 0xF) (hq : (flsBank s b).queue = []) :
    execFlsClaimExpired b s = .next (flsRelease s b) := by
  simp [execFlsClaimExpired, ho, hq]

/-! ### A command issued (R540) -/

/-- The state that an issued command finds: its OP written, the result of an abort cleared. -/
def flsIssued (s : State) (b op : Nat) : State := wr (wr s (Reg.FLS_B_CMD_OP b) op) (Reg.FLS_B_CMD_ABORT_RESULT b) 0

@[simp] theorem flsIssued_fls (s : State) (b op : Nat) : (flsIssued s b op).fls = s.fls := rfl
@[simp] theorem flsIssued_time (s : State) (b op : Nat) : (flsIssued s b op).time = s.time := rfl
@[simp] theorem flsBank_flsIssued (s : State) (b op c : Nat) : flsBank (flsIssued s b op) c = flsBank s c := rfl

@[simp] theorem rd_addr_flsIssued (s : State) (b op : Nat) :
    rd (flsIssued s b op) (Reg.FLS_B_ADDR_ADDR b) = rd s (Reg.FLS_B_ADDR_ADDR b) := by
  rw [flsIssued, rd_wr_ne _ _ (by simp only [Reg.FLS_B_ADDR_ADDR, Reg.FLS_B_CMD_ABORT_RESULT]; omega),
    rd_wr_ne _ _ (by simp only [Reg.FLS_B_ADDR_ADDR, Reg.FLS_B_CMD_OP]; omega)]

@[simp] theorem rd_len_flsIssued (s : State) (b op : Nat) : rd (flsIssued s b op) (Reg.FLS_B_LEN_LEN b) = rd s (Reg.FLS_B_LEN_LEN b) := by
  rw [flsIssued, rd_wr_ne _ _ (by simp only [Reg.FLS_B_LEN_LEN, Reg.FLS_B_CMD_ABORT_RESULT]; omega),
    rd_wr_ne _ _ (by simp only [Reg.FLS_B_LEN_LEN, Reg.FLS_B_CMD_OP]; omega)]

/-- The bytes that a PROGRAM takes from the page window. -/
def flsProgramData (v : FlsBank) (n : Nat) : Bytes := (v.data ++ List.replicate (256 - v.data.length) 0).take n

theorem notSuspended_of_running {v : FlsBank} (h : flsRunning v = true) : v.st ≠ .eraseSuspended ∧ v.st ≠ .programSuspended := by
  have hrun : v.st = .programming ∨ v.st = .erasing := by simpa [flsRunning] using h
  rcases hrun with hrun | hrun <;> simp [hrun]

section
variable (h : flsServed s m b)
include h

/-- The owner of a bank of an ENABLED controller is served. -/
theorem flsIssue_served (op : Nat) (run : State → State) : flsIssue s m b op run = run (flsIssued s b op) := by
  obtain ⟨hs, ho, hf⟩ := h
  have hopen : (!fnOpen (flsIssued s b op) .fls) = false := congrArg not hf
  simp only [flsIssue, hs, ho, ne_eq, not_true_eq_false, if_false]
  exact if_neg (Bool.eq_false_iff.1 hopen)

/-! ### Reads (R541, R543) -/

section
variable (hr : flsRange (rd s (Reg.FLS_B_ADDR_ADDR b)) (rd s (Reg.FLS_B_LEN_LEN b)) = none) (hp : (flsBank s b).prog = none)
include hr hp

theorem execFlashRead_idle (hi : (flsBank s b).st = .idle) (hx : flsSector (rd s (Reg.FLS_B_ADDR_ADDR b)) ∉ (flsBank s b).indet)
    (corrected : Bool) : execFlashRead m b corrected s = .next (
      let t := flsSet (flsIssued s b 0) b { flsBank s b with
        data := flsBytes (flsIssued s b 0) b (rd s (Reg.FLS_B_ADDR_ADDR b)) (rd s (Reg.FLS_B_LEN_LEN b)) ++
          (flsBank s b).data.drop (rd s (Reg.FLS_B_LEN_LEN b)) }
      if corrected then flsStatus (bump t Reg.FLS_ERR_CORRECTED 1) b .okCorrected else flsStatus t b .ok) := by
  simp [execFlashRead, flsIssue_served h, hr, hp, hi, hx]

theorem execFlashRead_erasing (he : (flsBank s b).st = .erasing) (corrected : Bool) :
    execFlashRead m b corrected s = .next (flsBusyRead (flsIssued s b 0) b 1 (opSector (flsBank s b))) := by
  simp [execFlashRead, flsIssue_served h, hr, hp, he]

end

theorem execReadWear_aligned (ha : rd s (Reg.FLS_B_ADDR_ADDR b) % 65536 = 0) : execReadWear m b s =
    .next (flsStatus (flsSet (flsIssued s b 5) b { flsBank s b with
      data := le 4 (amGet (flsBank s b).wear (flsSector (rd s (Reg.FLS_B_ADDR_ADDR b))) 0) ++ (flsBank s b).data.drop 4 }) b .ok) := by
  simp [execReadWear, flsIssue_served h, ha]

/-! ### Programs and erases (R542, R544): started in an idle bank, waiting in a running one -/

section
variable {a : Nat} {bs : Bytes} (ha : rd s (Reg.FLS_B_ADDR_ADDR b) = a) (hbs : flsProgramData (flsBank s b) (rd s (Reg.FLS_B_LEN_LEN b)) = bs)
  (hr : flsRange a (rd s (Reg.FLS_B_LEN_LEN b)) = none)
  (hb : raisesBit (flsBytes (flsIssued s b 1) b a (rd s (Reg.FLS_B_LEN_LEN b))) bs = false)
  (hw : flsProtected (flsIssued s b 1) b a = false) (hx : flsSector a ∉ (flsBank s b).indet)
include ha hbs hr hb hw hx

theorem execFlashProgram_idle (hi : (flsBank s b).st = .idle) :
    execFlashProgram m b s = .next (flsStart (flsIssued s b 1) b ⟨false, a, bs⟩) := by
  subst ha hbs
  simp only [flsProgramData, BitVec.ofNat_eq_ofNat] at hb ⊢
  simp [execFlashProgram, flsIssue_served h, hr, hb, hw, hx, hi, flsRunning]

theorem execFlashProgram_running (hi : flsRunning (flsBank s b) = true) : execFlashProgram m b s =
    .next (flsBusy (flsSet (flsIssued s b 1) b { flsBank s b with queue := (flsBank s b).queue ++ [⟨false, a, bs⟩] }) b true) := by
  subst ha hbs
  have hsus := notSuspended_of_running hi
  simp only [flsProgramData, BitVec.ofNat_eq_ofNat] at hb ⊢
  simp [execFlashProgram, flsIssue_served h, hr, hb, hw, hx, hsus, hi]

end

section
variable {a : Nat} (ha : rd s (Reg.FLS_B_ADDR_ADDR b) = a) (hal : a % 65536 = 0) (hw : flsProtected (flsIssued s b 2) b a = false)
  (hf : s.fls.frozen = false)
include ha hal hw hf

theorem execFlashErase_idle (hi : (flsBank s b).st = .idle) :
    execFlashErase m b s = .next (flsStart (flsIssued s b 2) b ⟨true, a, []⟩) := by
  subst ha
  simp [execFlashErase, flsIssue_served h, hal, hw, hf, hi, flsRunning]

theorem execFlashErase_running (hi : flsRunning (flsBank s b) = true) : execFlashErase m b s =
    .next (flsBusy (flsSet (flsIssued s b 2) b { flsBank s b with queue := (flsBank s b).queue ++ [⟨true, a, []⟩] }) b true) := by
  subst ha
  have hsus := notSuspended_of_running hi
  simp [execFlashErase, flsIssue_served h, hal, hw, hf, hsus, hi]

end

/-! ### Suspends, resumes and aborts (R542, R545 to R547) -/

theorem execFlashResume_idle (hi : (flsBank s b).st = .idle) : execFlashResume m b s =
    .next (flsStatus (flsIssued s b 4) b .badDescriptor) := by
  simp [execFlashResume, flsIssue_served h, hi]

section
variable (hp : (flsBank s b).prog = none)
include hp

theorem execFlashSuspend_noProgram : execFlashSuspend m b s = .next (if flsRunning (flsBank s b) = true then
    flsSet (flsIssued s b 3) b { flsBank s b with suspend := true } else flsStatus (flsIssued s b 3) b .badDescriptor) := by
  cases hr : flsRunning (flsBank s b) <;> simp [execFlashSuspend, flsIssue_served h, hp, hr]

theorem execFlashResume_erase (hf : s.fls.frozen = false) (hi : (flsBank s b).st = .eraseSuspended) : execFlashResume m b s =
    .next (flsStatus (flsSet (flsIssued s b 4) b { flsBank s b with st := .erasing, window := some s.time }) b .ok) := by
  simp [execFlashResume, flsIssue_served h, hi, hp, hf]

theorem execFlashResume_program (hi : (flsBank s b).st = .programSuspended) : execFlashResume m b s =
    .next (flsStatus (flsSet (flsIssued s b 4) b { flsBank s b with st := .programming, window := some s.time }) b .ok) := by
  simp [execFlashResume, flsIssue_served h, hi, hp]

end

theorem execFlashAbort_waiting (hq : (flsBank s b).queue ≠ []) : execFlashAbort m b s =
    .next (wr (flsStatus (flsSet s b { flsBank s b with queue := (flsBank s b).queue.dropLast }) b .aborted)
      (Reg.FLS_B_CMD_ABORT_RESULT b) (statusCode .aborted)) := by
  obtain ⟨hs, ho, -⟩ := h
  simp [execFlashAbort, hs, ho, hq]

theorem execFlashAbort_started (hq : (flsBank s b).queue = []) (hop : (flsBank s b).op.isSome = true) :
    execFlashAbort m b s = .next (wr s (Reg.FLS_B_CMD_ABORT_RESULT b) (statusCode .abortTooLate)) := by
  obtain ⟨hs, ho, -⟩ := h
  simp [execFlashAbort, hs, ho, hq, hop]

end

/-! ### What takes effect and ends in the die (R545, R546, R548, R550, R553) -/

theorem execFlashSuspendEffect_erasing (hs : (flsBank s b).suspend = true) (hw : (flsBank s b).window = none)
    (he : (flsBank s b).st = .erasing) : execFlashSuspendEffect b s =
      .next (flsStatus (flsSet s b { flsBank s b with suspend := false, st := .eraseSuspended }) b .ok) := by
  simp [execFlashSuspendEffect, hs, hw, he, flsRunning]

theorem execFlashSuspendEffect_programming (hs : (flsBank s b).suspend = true) (hw : (flsBank s b).window = none)
    (he : (flsBank s b).st = .programming) : execFlashSuspendEffect b s =
      .next (flsStatus (flsSet s b { flsBank s b with suspend := false, st := .programSuspended }) b .ok) := by
  simp [execFlashSuspendEffect, hs, hw, he, flsRunning]

theorem execFlashSuspendEffect_notSuspending (hs : (flsBank s b).suspend = false) : execFlashSuspendEffect b s = .next s :=
  congrArg _ (if_neg (by simp [hs]))

section
variable {x : FlsOp} (ho : (flsBank s b).op = some x)
include ho

theorem execFlashProgramDone_verified (hst : (flsBank s b).st = .programming) (hp : (flsBank s b).prog = none) :
    execFlashProgramDone b true s = .next (flsNext (suspendLost (flsStatus (flsSet s b { flsBank s b with
      op := none, st := .idle, window := none
      cells := memWriteBytes 0xFF (flsBank s b).cells x.addr
        (((flsBytes s b x.addr x.data.length).zip x.data).map (fun e => e.1 &&& e.2)) }) b .ok) b) b) := by
  simp [execFlashProgramDone, hst, hp, ho]

variable (hst : (flsBank s b).st = .erasing) (hx : flsSector x.addr ∉ (flsBank s b).indet)
include hst hx

theorem execFlashEraseDone_verified : execFlashEraseDone b true s = .next (
    let t := sectorErase (flsSet s b { flsBank s b with op := none, st := .idle, window := none }) b (flsSector x.addr)
    flsNext (suspendLost (flsStatus (flsSet t b { flsBank t b with
      flags := (flsBank s b).flags.filter (· ≠ flsSector x.addr)
      indet := (flsBank s b).indet.filter (· ≠ flsSector x.addr) }) b .ok) b) b) := by
  simp [execFlashEraseDone, hst, ho, hx]

theorem execFlashEraseDone_failed : execFlashEraseDone b false s = .next (
    let t := flsWear (flsSet s b { flsBank s b with op := none, st := .idle, window := none }) b (flsSector x.addr)
    flsNext (suspendLost (fault (flsStatus (setF (bump (flsSet t b { flsBank t b with
      indet := (flsBank s b).indet ++ [flsSector x.addr] }) Reg.FLS_ERR_FAILED 1) Reg.FLS_EVENTS_FAILED) b .internal) .flash
      Ev.FLASH_ERASE_FAILED 0xFF (le 1 b ++ le 2 (flsSector x.addr))) b) b) := by
  simp [execFlashEraseDone, hst, ho, hx]

end

end

/-- Settles O45: the owner's command finds the state that `flsIssued` says, and what it does there is decided by the bank's state. A claim's
end in a free bank and a suspend's effect where none was asked for change nothing, the model's choice (log entry 12). -/
theorem flashBanks : Obligations.FlashBanks := by
  unfold Obligations.FlashBanks
  refine ⟨fun m b s hm hp => ⟨execFlsBankClaim_free hm hp, execFlsBankClaim_owned hm hp, fun ho => ?released, fun ho => ?refused⟩,
    fun b s => ⟨execFlsClaimExpired_free, execFlsClaimExpired_owned⟩,
    fun m b s h => ⟨fun hr hi hp hx => ⟨execFlashRead_idle h hr hp hi hx false, execFlashRead_idle h hr hp hi hx true⟩,
      fun c hr he hp => execFlashRead_erasing h hr hp he c,
      fun hr hb hw hx => ⟨execFlashProgram_idle h rfl rfl hr hb hw hx, execFlashProgram_running h rfl rfl hr hb hw hx⟩,
      fun ha hw hf => ⟨execFlashErase_idle h rfl ha hw hf, execFlashErase_running h rfl ha hw hf⟩,
      fun hp hr => ?suspends, fun hp hr => ?nothing,
      fun hp hf => ⟨execFlashResume_erase h hp hf, execFlashResume_program h hp, execFlashResume_idle h⟩,
      execReadWear_aligned h, execFlashAbort_waiting h, execFlashAbort_started h⟩,
    fun b s => ⟨rfl, execFlashSuspendEffect_erasing, execFlashSuspendEffect_programming, execFlashSuspendEffect_notSuspending⟩,
    fun b x s ho => ⟨execFlashProgramDone_verified ho, execFlashEraseDone_verified ho, execFlashEraseDone_failed ho⟩⟩
  case released => exact (execFlsBankRelease_powered hm hp).trans (congrArg _ (if_pos ho))
  case refused => exact (execFlsBankRelease_powered hm hp).trans (congrArg _ (if_neg ho))
  case suspends => exact (execFlashSuspend_noProgram h hp).trans (congrArg _ (if_pos hr))
  case nothing => exact (execFlashSuspend_noProgram h hp).trans (congrArg _ (if_neg (Bool.eq_false_iff.1 hr)))

end Sys2Proof.Proofs
end

section
/-!
PROOFS. LX-310 compatibility mode: the register file, the rings and the opcodes (O46).
-/
namespace Sys2Proof.Proofs
open Sys2Proof Sys2Proof.Machine Sys2Proof.Laws

section
variable {e : Fin 2} {r : Fin 8} {s : State}

/-! ### The register file (R586, R592, R593) -/

theorem lxWrite_notLive {e : Nat} (h : lxLive s e = false) (off v : Nat) : lxWrite s e off v = s := if_pos h

theorem lxWrite_ctrl {e v : Nat} (h : lxLive s e = true) (hv : bit (v % 2 ^ 24) 2 = false) : lxWrite s e 8 v =
    lxStage e (lxStage e s (Reg.LXF_CTRL_ENABLE e) (v % 2 ^ 24)) (Reg.LXF_CTRL_INT_EN e) (v % 2 ^ 24) :=
  (if_neg (by simp [h])).trans (if_neg (Bool.eq_false_iff.1 hv))

theorem lxWrite_bank {e : Nat} (h : lxLive s e = true) (v : Nat) : lxWrite s e 0xC v = lxStage e s (Reg.LXF_BANK_BANK e) (v % 2 ^ 24) :=
  if_neg (by simp [h])

/-- The registers of the rings stand from offset 0x100 on, 0x20 for each ring. -/
theorem lxWrite_ring {e off : Nat} (h : lxLive s e = true) (hlo : 0x100 ≤ off) (hhi : off < 0x200) (v : Nat) :
    lxWrite s e off v = lxRingWrite s e ((off - 0x100) / 0x20) ((off - 0x100) % 0x20) (v % 2 ^ 24) := by
  simp only [lxWrite, h, Bool.true_eq_false, if_false]
  split
  case h_5 => exact if_pos ⟨hlo, hhi⟩
  all_goals omega

theorem lxWrite_tail (h : lxLive s e = true) (v : Nat) : lxWrite s e (0x10C + 0x20 * r.val) v = lxTailWrite s e r v := by
  have hring : (0x10C + 0x20 * r.val - 0x100) / 0x20 = r.val := by omega
  have hreg : (0x10C + 0x20 * r.val - 0x100) % 0x20 = 0xC := by omega
  have htail : v % 2 ^ 24 % 2 ^ 16 = v % 2 ^ 16 := Nat.mod_mod_of_dvd v (by decide)
  rw [lxWrite_ring h (by omega) (by omega), hring, hreg]
  simp only [lxRingWrite, lxTailWrite, htail]

theorem execLxRegisterWrite_notLive (h : lxLive s e = false) (off : Nat) (v : Word) : execLxRegisterWrite e off v s = .next s := by
  rw [execLxRegisterWrite, lxWrite_notLive h, ite_self]

/-! ### An entry fetched (R589, R592) -/

/-- The command that a ring fetches next. -/
def lxCmd (s : State) (e r op flags : Nat) : LxCmd := { idx := (lxRing s e r).next, op := op, intr := bit flags 0 }

/-- The state with that command in flight. -/
def lxFetched (s : State) (e r op flags : Nat) : State := lxRingSet s e r { lxRing s e r with
  next := ((lxRing s e r).next + 1) % lxEntries s e r, cmds := (lxRing s e r).cmds ++ [lxCmd s e r op flags] }

theorem lxFetch_notLive {e r : Nat} (h : lxLive s e = false) (op flags : Nat) (run : State → LxCmd → State) :
    lxFetch s e r op flags run = s := if_pos (.inl h)

section
variable (h : lxReady s e r) (op flags : Nat) (run : State → LxCmd → State)
include h

theorem lxFetch_fetched : lxFetch s e r op flags run =
    if s.boot.ready = false ∨ s.cin.phase = .commit then lxDone (lxFetched s e r op flags) e r (lxCmd s e r op flags).idx .notReady
    else if !fnOpen s (.ld e) then lxDone (lxFetched s e r op flags) e r (lxCmd s e r op flags).idx .functionDisabled
    else run (lxFetched s e r op flags) (lxCmd s e r op flags) := by
  obtain ⟨hl, hr, ht, hn⟩ := h
  exact if_neg (by simp [hl, hr, ht, hn])

theorem lxFetch_run (hr : s.boot.ready = true) (hc : s.cin.phase ≠ .commit) (hf : fnOpen s (.ld e) = true) :
    lxFetch s e r op flags run = run (lxFetched s e r op flags) (lxCmd s e r op flags) := by
  rw [lxFetch_fetched h, if_neg (by simp [hr, hc]), if_neg (by simp [hf])]

theorem lxFetch_commit (hc : s.cin.phase = .commit) :
    lxFetch s e r op flags run = lxDone (lxFetched s e r op flags) e r (lxCmd s e r op flags).idx .notReady := by
  rw [lxFetch_fetched h, if_pos (.inr hc)]

end

/-! ### Opcodes and statuses (R589, R591) -/

theorem lxZero_unaligned {e r dpa : Nat} (h : dpa % 64 ≠ 0) (len : Nat) (c : LxCmd) :
    lxZero e r dpa len s c = lxDone s e r c.idx .alignment := if_pos (.inl h)

/-- A ZERO within its bounds carries on from its first line. -/
theorem lxZero_begun {e r dpa len : Nat} (hd : dpa % 64 = 0) (hl : len % 64 = 0) (h0 : len ≠ 0) (hg : len ≤ 0x40000000)
    (hs : dpa + len ≤ ldSegs s e * 0x200000) (c : LxCmd) : lxZero e r dpa len s c =
      let u := lxRingSet s e r { lxRing s e r with
        cmds := (lxRing s e r).cmds.map (fun (x : LxCmd) => if x.idx = c.idx then { x with todo := some (dpa, dpa + len) } else x) }
      zeroGo { u with host := { u.host with left := u.host.left ++ [(.lx e r c.idx, len / 64)] } } e r
        { c with todo := some (dpa, dpa + len) } := by
  rw [lxZero, if_neg (by simp [hd, hl]), if_neg (Nat.not_lt.2 hg), if_neg (Nat.not_lt.2 hs), if_neg h0]

theorem execIdentify_aligned (h : lxReady s e r) (hr : s.boot.ready = true) (hc : s.cin.phase ≠ .commit) (hf : fnOpen s (.ld e) = true)
    {a : Nat} (ha : a % 4096 = 0) (flags : Nat) : execIdentify e r flags a s =
      let t := lxFetched s e r 0x30 flags
      .next (lxDone { emit t (.hostMem e a (lxIdentity t)) with freeCtr := t.freeCtr + 4084 } e r (lxCmd s e r 0x30 flags).idx .ok) :=
  congrArg _ ((lxFetch_run h _ _ _ hr hc hf).trans (if_neg (not_not_intro ha)))

theorem lxStatus_ended {e r : Nat} {x : LxCmd} {rest : List LxCmd} {st : Status} {stamp : Nat} (hx : (lxRing s e r).cmds = x :: rest)
    (hd : x.done = some (st, stamp)) (hi : x.intr = false) : lxStatus s e r =
      let line := rd s (Reg.RING_BASE_L_BASE_L e r) * 2 ^ 12 + rd s (Reg.RING_BASE_H_BASE_H e r) * 2 ^ 36 + 64 * x.idx
      emit (emit (lxRingSet s e r { lxRing s e r with cmds := rest, head := (x.idx + 1) % lxEntries s e r })
        (.hostMem e (line + 32) (le 8 stamp))) (.hostMem e (line + 4) (le 1 (0x80 + lxCode st))) := by
  simp only [lxStatus, hx, hd]
  exact if_neg (by simp [hi])

end

/-- Settles O46: what is written waits for the tick, but for the tail; and each opcode is run on the command that `lxFetched` has put in
flight. With no live endpoint nothing changes, the model's choice (log entry 12). -/
theorem compatibilityMode : Obligations.CompatibilityMode := by
  unfold Obligations.CompatibilityMode
  refine ⟨fun e v s h => ⟨fun hv => congrArg _ (lxWrite_ctrl h hv), congrArg _ (lxWrite_bank h _), congrArg _ (if_pos h),
      congrArg _ (if_pos h)⟩,
    fun e r v s h => ⟨fun hv => ?tail, fun hv => ?beyond⟩,
    fun e r fl s h => ⟨fun hr hc hf => ?run, fun hc => congrArg _ (lxFetch_commit h _ _ _ hc)⟩,
    fun e r x rest st stamp s hx hd hi => congrArg _ (lxStatus_ended hx hd hi), fun s => rfl,
    fun e r v off fl a b op s h => ?notLive⟩
  case tail => exact congrArg _ ((lxWrite_tail h _).trans (if_neg (Nat.not_le.2 hv)))
  case beyond => exact congrArg _ ((lxWrite_tail h _).trans (if_pos hv))
  case run =>
    have hrun : ∀ op run, lxFetch s e r op fl run = run (lxFetched s e r op fl) (lxCmd s e r op fl) := fun op run =>
      lxFetch_run h op fl run hr hc hf
    exact ⟨congrArg _ (hrun _ _), congrArg _ (hrun _ _), congrArg _ (hrun _ _),
      fun dpa len hd hl h0 hg hs => congrArg _ ((hrun _ _).trans (lxZero_begun hd hl h0 hg hs _)),
      fun dpa len hd => congrArg _ ((hrun _ _).trans (lxZero_unaligned hd len _)),
      fun a ha => execIdentify_aligned h hr hc hf ha fl,
      congrArg _ (hrun _ _), congrArg _ (hrun _ _), fun op => congrArg _ (hrun _ _)⟩
  case notLive =>
    have hw : ∀ off v, lxWrite s e off v = s := lxWrite_notLive h
    have hf : ∀ op run, lxFetch s e r op fl run = s := fun op run => lxFetch_notLive h op fl run
    have hreset : ¬lxLive s e = true := by simp [h]
    exact ⟨execLxRegisterWrite_notLive h off v, congrArg _ (hw _ _), congrArg _ (hw _ _), congrArg _ (if_neg hreset),
      congrArg _ (if_neg hreset), congrArg _ (hf _ _), congrArg _ (hf _ _), congrArg _ (hf _ _), congrArg _ (hf _ _), congrArg _ (hf _ _),
      congrArg _ (hf _ _), congrArg _ (hf _ _), congrArg _ (hf _ _)⟩

end Sys2Proof.Proofs
end
